-- ==== Sys2Proof/Word.lean ====
section
/-!
DEFINITION. The word types of the CK-4210: BAR0 registers and Walzor instruction words are 32 bits wide (R3),
Walzor general registers 64 (R94), time values 96 (R10).
-/
namespace Sys2Proof

/-- A 32-bit register or program word (R3). -/
abbrev Word := BitVec 32

/-- One byte of a memory. -/
abbrev Byte := BitVec 8

/-- A 64-bit Walzor general register (R94), also the form CF64 of a compare target (R12). -/
abbrev Word64 := BitVec 64

/-- A CT96 time value: SEC in bits 95 to 48, NS in 47 to 16, FRAC in 15 to 0 (R10). -/
abbrev CT96 := BitVec 96

end Sys2Proof
end

