-- ==== Sys2Proof/Config.lean ====
section
/-!
DEFINITION. What the spec leaves open, as constants without a body: nothing can evaluate them, so a claim about the
model holds whatever they are. Each is named in the assumption log (notes/assumptions).
-/
namespace Sys2Proof.Config

/-- Free values drawn one after another: the step applies it to the counter `State.free` and advances the counter
(log entry 2). -/
opaque freeValue : Nat → BitVec 64

/-- The severity that the hardware gives a trouble-log entry of a source: R480 fixes the range 0 to 4 and no rule
gives the value (log entry 7). -/
opaque logSeverity : Nat → Fin 5

/-- Whether a half unit rounds up where a rule halves or divides an exact value and does not say how it is rounded
(log entry 8). -/
opaque roundsUp : Int → Bool

/-- Numbers of the discipline firmware that no rule gives to a number of digits (log entry 18): its value of pi, its
logarithm and square root, y before anything was tracked, and the fused difference K of the Graver path and the ball path
(R321) in 2^-16 ns. -/
opaque pi : Rat
opaque ln : Rat → Rat
opaque sqrt : Rat → Rat
opaque untracked : Rat
opaque epochDelay : Int

/-- How many bytes the boot flash holds beyond 64 MiB (R445, log entry 27). -/
opaque flashBeyond : Nat

/-- The exponential function as REL_WEAR accumulates it (R497, log entry 18). -/
opaque exp : Rat → Rat

/-- The places of slot and state in the data word of sources 16 to 31 (R255, log entry 19). -/
opaque slotWord : Nat → Nat → BitVec 32

/-- REFID and STRATUM_BASE that a slot's settings give (R167): no rule names those settings (log entry 20). -/
opaque slotRefId : Nat → BitVec 32
opaque slotStratum : Nat → Fin 15

end Sys2Proof.Config
end

