-- ==== Sys2Proof/Syntax.lean ====
section
/-!
DEFINITION. The commands of the block: one constructor per row of spec/opcode_table.json, with the operands that the
row's rule names. What the environment alone decides (received bytes, a measured phase, an answer from outside, which
context runs) is an operand; what the state holds is not.
-/
namespace Sys2Proof

/-- Who makes a register access: the host over PCIe, a JTAG debugger (R518), or a service core (R19). -/
inductive Agent where
  | host
  | jtag
  | sc (k : Fin 8)
  deriving DecidableEq, Repr

/-- What owns a comparator of R55. -/
inductive CmpOwner where
  /-- a context that executed TWAIT: tile and context -/
  | twait (tile : Fin 72) (ctx : Fin 48)
  /-- a service core that executed TWAIT or WAIT -/
  | core (k : Fin 8)
  /-- array timer k of R150 -/
  | timer (k : Fin 8)
  /-- the DORMANT wake alarm of R435 -/
  | wake
  /-- the start and the stop of a Graver channel's window (R345) -/
  | windowStart (ch : Fin 20)
  | windowStop (ch : Fin 20)
  deriving DecidableEq, Repr

/-- What executes a Walzor instruction: a context of a physical tile, or a service core. -/
inductive Ctx where
  | tile (p : Fin 72) (c : Fin 48)
  | core (k : Fin 8)
  deriving DecidableEq, Repr

/-- What a crypto job meets besides its inputs (R201). -/
inductive JobEvent where
  | none
  /-- the pipeline's check detects a mismatch -/
  | mismatch
  /-- an uncorrectable error in the pipeline buffer -/
  | bufferEcc (addr : BitVec 32)
  /-- an uncorrectable error in the master-key slot -/
  | slotEcc (addr : BitVec 32)
  deriving DecidableEq, Repr


/-- What a slot's measurement path delivers (R219, R220). -/
inductive Reading where
  /-- S0: the Graver stamp of the epoch pulse (R321) -/
  | epoch (g : CT96)
  /-- S1 to S4: the stamp of reference edge k of its second -/
  | edge (g : CT96) (k : Nat)
  /-- S5 to S12: the records of the port's client queue (R186) that come from the master with this sourcePortIdentity -/
  | client (sender : BitVec 80)
  /-- S13: the offset that TIMEX exchanges gave (R492) -/
  | pair
  /-- S14 and S15: the record injected -/
  | record
  deriving DecidableEq, Repr

/-- An output that Drypoint places. -/
inductive PlacedOut where
  | pps (n : Fin 4)
  | clk (n : Fin 4)
  deriving DecidableEq, Repr

/-- The seven correlator sums of a dump (R291), I and Q each. While a channel searches, the six before the noise
correlator stand at 0.5-chip spacing (R289). -/
structure Correlators where
  veryEarly : Int × Int
  early : Int × Int
  prompt : Int × Int
  late : Int × Int
  veryLate : Int × Int
  second : Int × Int
  noise : Int × Int
  deriving DecidableEq, Repr

/-- What an uncorrectable error meets at a dump (R304): a word of the sample ring, or the channel's state, at an address. -/
inductive DumpFault where
  | ring (addr : Nat)
  | channel (addr : Nat)
  deriving DecidableEq, Repr

/-- What firmware writes to a tracking channel (R294, R299): NCO rates in the units of R292, phase adjustments in
2^-40 cycle and 2^-40 chip, the correlator spacing in 1/64 chip, the state of R295 that it has found reached, its C/N0
estimate in dB-Hz, and the slot of a GLONASS satellite once decoded. -/
structure ChannelSteer where
  carrier : Option Int
  codeRate : Option Nat
  carrierAdjust : Option Int
  codeAdjust : Option Int
  spacing : Option Nat
  state : Option Nat
  cn0 : Option Nat
  slot : Option Nat
  deriving DecidableEq, Repr

/-- A firmware command to a channel: steering; a satellite and signal predicted visible, with its elevation in degrees and
the uncertainties of R288 in chips and Hz; the allocation of a candidate, with its rates and phases; or a candidate that
finds no channel (R299). -/
inductive ChannelCommand where
  | steer (c : ChannelSteer)
  | predict (sig sv : Nat) (elev : Int) (chips hertz : Nat)
  | allocate (sig sv : Nat) (carrier : Int) (codeRate carrierPhase codePhase : Nat)
  | noChannel (sig sv : Nat)
  deriving DecidableEq, Repr

/-- An acquisition job (R282): input, signal, SVs, Doppler centre (from the signal's carrier) and half-width in Hz, Tc in
ms and NNC. -/
structure AcqJob where
  input : Nat
  sig : Nat
  svs : List Nat
  centre : Int
  halfWidth : Nat
  tc : Nat
  nnc : Nat
  deriving DecidableEq, Repr

/-- The largest peak that a job finds for an SV (R282): code phase at a sample marker in samples at Rs, Doppler from the
job's centre in eighths of a bin, and its ratio to the mean of the other cells in 0.25 dB. -/
structure Detection where
  sv : Nat
  phase : Nat
  eighths : Int
  ratio : Nat
  deriving DecidableEq, Repr

/-- How an acquisition job ends: the peaks of its SVs, or an uncorrectable error at an address of the snapshot buffer
(R304). -/
inductive AcqEnd where
  | detected (ds : List Detection)
  | bufferEcc (addr : Nat)
  deriving DecidableEq, Repr

/-- What a burst leaves in a channel (R301): rates, phases and C/N0. -/
structure BurstResult where
  channel : Nat
  carrier : Int
  codeRate : Nat
  carrierPhase : Nat
  codePhase : Nat
  cn0 : Nat
  deriving DecidableEq, Repr

/-- A signal's measurement at the marker nearest the second (R310): the pseudorange as measured, the corrections for satellite
clock, orbit, relativity, Sagnac effect and troposphere, and the broadcast model's ionosphere, in mm. -/
structure Observation where
  sig : Nat
  range : Int
  fixed : Int
  iono : Int
  deriving DecidableEq, Repr

/-- One satellite in track (R310, R312, R334): system, SV, elevation and azimuth in degrees, best C/N0 in 0.01 dB-Hz, its
position at transmission in mm, its measurements, whether its own broadcast data are decoded, how far its position by
aided data lies from that in mm, its Doppler against the orbit prediction in mHz, and whether firmware left it out for its
residual. -/
structure Satellite where
  gnss : Nat
  sv : Nat
  elev : Int
  az : Nat
  cn0 : Nat
  x : Int
  y : Int
  z : Int
  obs : List Observation
  decoded : Bool
  apart : Nat
  doppler : Int
  residualOut : Bool
  deriving DecidableEq, Repr

/-- What firmware's computation of one GNSS second gives (R310 to R323): the second by the constellation of TSYS, decoded
from time of week or not; the satellites; position in mm, receiver clock at the marker less that constellation's time in
ps, the inter-system biases by system in ps, those broadcast, the clock drift in 10^-12; the broadcast UTC correction in ps, added to that time;
uncertainties in ps and mm, dilutions times 100; the position solved in parallel; second peaks of tracked signals (chips
away times 100, the C/N0 of both in dB-Hz); the noise-correlator power of each input in 0.25 dB; and the broadcast leap
data (now, next, TAI second). -/
structure Solution where
  second : Nat
  decoded : Bool
  sats : List Satellite
  x : Int
  y : Int
  z : Int
  bias : Int
  isb : List Int
  broadcast : List (Option Int)
  drift : Int
  utc : Int
  tunc : Nat
  punc : Nat
  pdop : Nat
  tdop : Nat
  parallel : Int × Int × Int
  peaks : List (Nat × Nat × Nat)
  noise : List Int
  leap : Option (Int × Int × Nat)
  deriving DecidableEq, Repr

/-- The signature of a DSM-KROOT (R326): ECDSA P-256 with SHA-256, or P-521 with SHA-512. -/
inductive KrootCurve where
  | p256
  | p521
  deriving DecidableEq, Repr

/-- Decoded OSNMA data (R326 to R330), in bytes as the OSNMA SIS ICD lays them out. -/
inductive OsnmaMessage where
  /-- DSM-PKR: the public key's leaf of the Merkle tree, its place, the sibling hashes, its identifier, its curve, and the
  key x ‖ y -/
  | publicKey (leaf : List (BitVec 8)) (index : Nat) (path : List (List (BitVec 8))) (pkid : Nat) (curve : KrootCurve)
      (key : List (BitVec 8))
  /-- DSM-KROOT: the signed message, the signature r ‖ s, the chain's identifier, the hash (SHA-256 or SHA3-256), alpha, the root
  key, its subframe, the chain's length, whether tags use CMAC-AES, and the bits of a tag -/
  | kroot (message signature : List (BitVec 8)) (pkid cid : Nat) (sha3 : Bool) (alpha root : List (BitVec 8)) (start length : Nat)
      (cmac : Bool) (tagBits : Nat)
  /-- a TESLA key of a subframe -/
  | key (subframe : Nat) (key : List (BitVec 8))
  /-- a tag over the data set of a satellite, ADKD 0 or 12, or over the timing parameters, ADKD 4, and the subframe of
  the key that it awaits -/
  | tag (sv adkd subframe : Nat) (message tag : List (BitVec 8))
  /-- a new data set of a satellite -/
  | newData (sv : Nat)
  /-- decoded Galileo System Time in s of its TAI realisation -/
  | systemTime (second : Nat)
  /-- an alert message -/
  | alert
  deriving DecidableEq, Repr

/-- The registers of configuration space whose values the spec gives (R378 to R381). -/
inductive ConfigRegister where
  | vendorDevice
  | command
  | classRevision
  | subsystem
  | bar0
  | bar2
  | bar4
  | expansionRom
  | msixControl
  | powerState
  | serialNumber
  | ptmCapability
  | ptmControl
  deriving DecidableEq, Repr

/-- A configuration access (R380), and the message PME_Turn_Off of R384. -/
inductive ConfigAccess where
  | read (r : ConfigRegister)
  | busMaster (b : Bool)
  | msix (enable mask : Bool)
  | powerState (d3 : Bool)
  | ptmEnable (b : Bool)
  /-- Max Payload Size 128, 256 or 512 bytes -/
  | maxPayload (n : Fin 3)
  /-- Max Read Request Size 128 to 4,096 bytes -/
  | maxReadRequest (n : Fin 6)
  | bar0 (v : BitVec 64)
  | bar2 (v : BitVec 64)
  | pmeTurnOff
  deriving DecidableEq, Repr

/-- The completion of a DMA read (R399). -/
inductive ReadResult where
  | data (bytes : List (BitVec 8))
  | unsupportedRequest
  | completerAbort
  | poisoned
  deriving DecidableEq, Repr

/-- What a read of a memory word finds (R468). -/
inductive EccFind where
  | clean
  | corrected
  | uncorrectable
  deriving DecidableEq, Repr

/-- How an I2C transfer ends (R438): the bytes read, and whether a NACK or the clock-stretch limit ended it. -/
inductive I2cEnd where
  | done (bytes : List (BitVec 8))
  | nack (bytes : List (BitVec 8))
  | timeout (bytes : List (BitVec 8))
  deriving DecidableEq, Repr

/-- What ends DORMANT (R435). -/
inductive WakeCause where
  | alarm
  /-- an edge on a GPIO pin -/
  | gpio (pin : Fin 16) (rising : Bool)
  | loLoss
  deriving DecidableEq, Repr

/-- A valid firmware image (R447): its version, the entry index of each service core, and the bytes it places in each
core's SRAM (core, address, bytes). -/
structure Firmware where
  version : BitVec 16
  entries : List (BitVec 19)
  images : List (Fin 8 × Nat × List (BitVec 8))
  deriving DecidableEq, Repr

/-- The payload of a HEARTBEAT (R485). -/
structure Heartbeat where
  role : Fin 4
  mode : BitVec 4
  qlevel : Fin 4
  deposed : Bool
  msync : Bool
  dsn : BitVec 64
  deriving DecidableEq, Repr

/-- The commands, one per row of the table. -/
inductive Instr where
  /-- REGISTER_WRITE (R32). An aligned 32-bit write to a BAR0 register that has no row of its own completes under the decoder, mapping and domain-state order. -/
  | registerWrite (ag : Agent) (off : Nat) (v : Word)
  /-- UNALIGNED_BAR0_ACCESS (R4). A BAR0 access that is not an aligned 32-bit read or write completes with Unsupported Request, writing nothing and returning no data. -/
  | unalignedBar0Access (ag : Agent) (off size : Nat) (write : Bool)
  /-- RC_FIELD_READ (R6). A read of a register with an RC field returns the value and then clears the field, whatever the reading agent. -/
  | rcFieldRead (ag : Agent) (off : Nat)
  /-- PENDING_ACCESS_COMPLETE (R32). An access that waited for a powering-up or reset domain completes normally once the domain is ready and out of reset. -/
  | pendingAccessComplete
  /-- BUS_TIMEOUT (R32). The 2 us bus timeout expires on a waiting access, which completes as an access to a powered-off block. -/
  | busTimeout
  /-- BADACC_CLEAR (R32). A write of 1 to GCTL_BADACC.LATCHED clears the record so that the next failed access is recorded. -/
  | badaccClear (ag : Agent) (v : Word)
  /-- REPLICA_COMPARE (R21). Every 1,024 TCLK ticks Caldera compares the master count with each replica. -/
  | replicaCompare
  /-- INCR_OWNER_WRITE (R44). A write of CAL_CTRL.INCR_OWNER, accepted as 1 only in STAGED, MEASURE or SAFE, otherwise refused with CAL_ERR.OWNER. -/
  | incrOwnerWrite (ag : Agent) (v : Word)
  /-- INCR_COMMIT (R41). A write of CAL_INCR_H by the owner commits CAL_INCR_L and CAL_INCR_H as the pending increment, subject to the range check. -/
  | incrCommit (ag : Agent) (v : Word)
  /-- INCR_APPLY (R38). At the 64th TCLK edge after acceptance the pending increment takes effect in the master and all replicas and INCR_APPLIED is raised. -/
  | incrApply
  /-- STEP_GO (R47). A write of CAL_STEP_CMD.GO accepts a relative or absolute step from CAL_STEP_W0-W2 after the busy, format and range checks. -/
  | stepGo (ag : Agent) (v : Word)
  /-- STEP_ABORT (R46). A write of CAL_STEP_CMD.ABORT cancels the pending step if its apply edge has not passed. -/
  | stepAbort (ag : Agent) (v : Word)
  /-- STEP_APPLY (R45). At its apply edge (64 edges after acceptance, or the next second boundary with AT_SECOND) the step changes the count, bumps STEPGEN and raises STEP_APPLIED. -/
  | stepApply
  /-- NOW_READ (R49). A read of CAL_NOW_W0 returns W0 of the master count and latches W1 and W2 from the same edge. -/
  | nowRead (ag : Agent) (w : Fin 3)
  /-- SNAP_GO (R50). A write of CAL_SNAP_CTL.GO captures the master count at the edge the write reaches Caldera. -/
  | snapGo (ag : Agent) (v : Word)
  /-- PTM_PERIOD (R52). The PTM period timer expires with EN = 1 and the device starts a PTM dialogue. -/
  | ptmPeriod (phase : Nat)
  /-- PTM_ONESHOT (R52). A write of CAL_PTM_CTRL.ONESHOT starts one PTM dialogue. -/
  | ptmOneshot (ag : Agent) (v : Word) (phase : Nat)
  /-- PTM_RESPONSE (R51). A PTM ResponseD arrives and the device computes the link delay and DEV, completing or discarding the dialogue. -/
  | ptmResponse (phase t2 turnaround : Nat) (earlier : Bool)
  /-- PTM_TIMEOUT (R52). No ResponseD arrives within 100 us and the dialogue is discarded. -/
  | ptmTimeout (phase : Nat)
  /-- PTM_STATUS_READ (R53). A read of CAL_PTM_STATUS latches the most recent completed record into the record registers. -/
  | ptmStatusRead (ag : Agent)
  /-- COMPARATOR_FIRE (R55). A comparator fires at the first TCLK edge at which the signed difference between its replica and its CF64 target is zero or greater. -/
  | comparatorFire (owner : CmpOwner)
  /-- UTC_COMMIT (R59). A write of CAL_UTC_CMD.COMMIT captures the shadow UTC state, refused with UTC_BUSY if a commit is pending. -/
  | utcCommit (ag : Agent) (v : Word)
  /-- UTC_APPLY (R60). At its apply edge the captured UTC state is checked for the leap table and jumps and takes effect everywhere. -/
  | utcApply
  /-- LEAP_WARN (R61). Device time comes within WARN hours of the next leap entry, LEAP_PEND leaves 0 and source 8 is raised. -/
  | leapWarn
  /-- LEAP_INSTANT (R61). Device time reaches a leap entry's SEC, the offset changes and LEAP_PEND returns to 0. -/
  | leapInstant
  /-- UTC_EXPIRED (R61). Device time reaches a non-zero expiry, EXPIRED is set and source 9 raised. -/
  | utcExpired
  /-- SMEAR_START (R62). With SMEAR_EN = 1 the smear amount leaves 0 at the start of a window and source 10 is raised. -/
  | smearStart
  /-- SMEAR_END (R62). The smear amount returns to 0 at the end of a window and source 11 is raised. -/
  | smearEnd
  /-- QUAD_MODE_WRITE (R68). A write of PRT_QUAD.MODE, refused while a port of the quad is enabled, relocks QPLLq. -/
  | quadModeWrite (ag : Agent) (q : Fin 4) (v : Word)
  /-- LINK_UP (R88). A port's link comes up, PRT_MEAS_TX is measured and source 48 + 2n raised. -/
  | linkUp (n : Fin 16) (meas : Word)
  /-- LINK_DOWN (R88). A port's link goes down, LINK_DOWN sticky sets and source 48 + 2n raised. -/
  | linkDown (n : Fin 16) (cdr : Option (Fin 16))
  /-- ALIGNMENT_LOCK (R75). FEC and alignment lock on a port and Burin measures PRT_MEAS_RX for that lock. -/
  | alignmentLock (n : Fin 16) (meas : Word)
  /-- FRAME_RX (R89). A frame arrives at RXSP, is stamped, passed or dropped by the MAC and written to the packet buffer with its stamp record. -/
  | frameRx (n : Fin 16) (bs : List Byte) (corrected : Nat) (fecOk fcsOk : Bool) (phase : Nat)
  /-- PAUSE_END (R87). The pause timer expires and the MAC resumes starting frames. -/
  | pauseEnd (n : Fin 16)
  /-- CLASSIFY (R91). The classifier parses a buffered frame, assigns its code and applies the dispatch entry to array, host ring or drop. -/
  | classify (n : Fin 16)
  /-- FRAME_TX_COMMIT (R81). A frame passes TXSP; Burin applies the answer gate, computes the egress stamp, inserts it, adjusts the checksum and queues any capture record. -/
  | frameTxCommit (n : Fin 16) (phase : Nat)
  /-- TXAGE_EXPIRE (R86). A frame waits in its egress queue longer than TXAGE and is discarded and counted. -/
  | txageExpire (n : Fin 16)
  /-- CAPTURE_RECORD_DELIVER (R93). The classifier delivers a capture record as code 63 to the tile named in TAG, or drops it when the tile cannot take it. -/
  | captureRecordDeliver (n : Fin 16)
  /-- CAL_CTRL_WRITE (R80). A write setting PRT_CAL_CTRL.CALPAT or LOOPCAL, accepted only in STAGED, MEASURE or SAFE and with the other bit 0. -/
  | calCtrlWrite (ag : Agent) (n : Fin 16) (v : Word)
  /-- CALPAT_EDGE (R78). At each 1 kHz rising edge of the calibration pattern Burin stamps it, latches PRT_CAL_TX and increments CNT. -/
  | calpatEdge (n : Fin 16) (phase : Nat)
  /-- LOOPCAL_FRAME_TX (R79). Every 1 ms with LOOPCAL = 1 the port sends one 64-byte calibration frame. -/
  | loopcalFrameTx (n : Fin 16) (phase : Nat)
  /-- CAL_TX_READ (R78). A read of PRT_CAL_TX_W0 latches W1 and W2 of the edge stamp. -/
  | calTxRead (ag : Agent) (n : Fin 16) (w : Fin 3)
  /-- ADD (R103). rd = ra + rb, setting CY and OV. -/
  | add (x : Ctx)
  /-- SUB (R103). rd = ra - rb, setting CY as borrow and OV. -/
  | sub (x : Ctx)
  /-- AND (R103). rd = ra & rb. -/
  | andReg (x : Ctx)
  /-- OR (R103). rd = ra | rb. -/
  | orReg (x : Ctx)
  /-- XOR (R103). rd = ra ^ rb. -/
  | xorReg (x : Ctx)
  /-- SHL (R103). rd = ra shifted left by rb[5:0]. -/
  | shl (x : Ctx)
  /-- SHR (R103). rd = ra shifted right logically by rb[5:0]. -/
  | shr (x : Ctx)
  /-- SAR (R103). rd = ra shifted right arithmetically by rb[5:0]. -/
  | sar (x : Ctx)
  /-- ROL (R103). rd = ra rotated left by rb[5:0]. -/
  | rol (x : Ctx)
  /-- SLT (R103). rd = 1 if ra < rb signed, else 0. -/
  | slt (x : Ctx)
  /-- SLTU (R103). rd = 1 if ra < rb unsigned, else 0. -/
  | sltu (x : Ctx)
  /-- MINU (R103). rd = unsigned minimum of ra and rb. -/
  | minu (x : Ctx)
  /-- MAXU (R103). rd = unsigned maximum of ra and rb. -/
  | maxu (x : Ctx)
  /-- MUL (R103). rd = low 64 bits of ra x rb. -/
  | mul (x : Ctx)
  /-- MULHU (R103). rd = high 64 bits of the unsigned product ra x rb. -/
  | mulhu (x : Ctx)
  /-- CLZ (R103). rd = leading zeros of ra. -/
  | clz (x : Ctx)
  /-- POPC (R103). rd = number of 1 bits in ra. -/
  | popc (x : Ctx)
  /-- BSWAP (R103). rd = ra with its bytes reversed. -/
  | bswap (x : Ctx)
  /-- EXT (R103). rd = a bit field of ra chosen by rb. -/
  | extField (x : Ctx)
  /-- CRC (R103). rd = CRC-32C of the 8 bytes of rb seeded with ra, no inversion. -/
  | crc (x : Ctx)
  /-- ADDI (R104). rd = ra + sign-extended IMM16, setting CY and OV. -/
  | addi (x : Ctx)
  /-- ANDI (R104). rd = ra & zero-extended IMM16. -/
  | andi (x : Ctx)
  /-- ORI (R104). rd = ra | zero-extended IMM16. -/
  | ori (x : Ctx)
  /-- XORI (R104). rd = ra ^ zero-extended IMM16. -/
  | xori (x : Ctx)
  /-- SHLI (R104). rd = ra shifted left by IMM16[5:0]. -/
  | shli (x : Ctx)
  /-- SHRI (R104). rd = ra shifted right logically by IMM16[5:0]. -/
  | shri (x : Ctx)
  /-- SARI (R104). rd = ra shifted right arithmetically by IMM16[5:0]. -/
  | sari (x : Ctx)
  /-- MOVI (R104). rd = sign-extended IMM16. -/
  | movi (x : Ctx)
  /-- MOVK (R104). Writes IMM16 into quarter k of rd, keeping the other bits. -/
  | movk (x : Ctx)
  /-- SLTI (R104). rd = 1 if ra < sign-extended IMM16 signed. -/
  | slti (x : Ctx)
  /-- SLTIU (R104). rd = 1 if ra < sign-extended IMM16 unsigned. -/
  | sltiu (x : Ctx)
  /-- BEQ (R105). Branches when ra == rb. -/
  | beq (x : Ctx)
  /-- BNE (R105). Branches when ra != rb. -/
  | bneBranch (x : Ctx)
  /-- BLT (R105). Branches when ra < rb signed. -/
  | blt (x : Ctx)
  /-- BGE (R105). Branches when ra >= rb signed. -/
  | bge (x : Ctx)
  /-- BLTU (R105). Branches when ra < rb unsigned. -/
  | bltu (x : Ctx)
  /-- BGEU (R105). Branches when ra >= rb unsigned. -/
  | bgeu (x : Ctx)
  /-- BFS (R105). Branches when flag F[RB] is 1, waiting for an outstanding RES producer. -/
  | bfs (x : Ctx)
  /-- BFC (R105). Branches when flag F[RB] is 0, waiting for an outstanding RES producer. -/
  | bfc (x : Ctx)
  /-- JAL (R105). Links PC + 1 in rd and jumps by OFF21. -/
  | jal (x : Ctx)
  /-- JALR (R105). Links PC + 1 in rd and jumps to ra + IMM16. -/
  | jalr (x : Ctx)
  /-- LDL (R106). Loads SZ bytes from L, zero-extended, little-endian. -/
  | ldl (x : Ctx)
  /-- LDLS (R106). Loads SZ bytes from L, sign-extended. -/
  | ldls (x : Ctx)
  /-- STL (R106). Stores the low SZ bytes of a register to L. -/
  | stl (x : Ctx)
  /-- LDP (R106). Loads SZ bytes from the frame in network order, zero-extended. -/
  | ldp (x : Ctx)
  /-- LDPS (R106). Loads SZ bytes from the frame in network order, sign-extended. -/
  | ldps (x : Ctx)
  /-- STP (R106). Stores the low SZ bytes of a register to the frame in network order. -/
  | stp (x : Ctx)
  /-- TLDL (R108). Loads a time register from 12 bytes of L, faulting T_FMT on an invalid NS. -/
  | tldl (x : Ctx)
  /-- TSTL (R108). Stores a time register to 12 bytes of L. -/
  | tstl (x : Ctx)
  /-- TNOW (R109). Reads the replica time into a time register. -/
  | tnow (x : Ctx) (lag : Nat)
  /-- TINGR (R109). Reads the context's ingress stamp and sets SUS from its SUSPECT bit. -/
  | tingr (x : Ctx)
  /-- TMOV (R109). Copies one time register to another. -/
  | tmov (x : Ctx)
  /-- TADD (R109). Adds a signed offset to a time register, setting OV on range overflow. -/
  | tadd (x : Ctx)
  /-- TSUB (R109). Subtracts two time registers into a signed difference, saturating with OV. -/
  | tsub (x : Ctx)
  /-- TSET (R109). Builds a time register from seconds and nanosecond fields, faulting T_FMT on invalid NS. -/
  | tset (x : Ctx)
  /-- TGSEC (R109). Extracts the seconds of a time register. -/
  | tgsec (x : Ctx)
  /-- TGNS (R109). Extracts NS and FRAC of a time register. -/
  | tgns (x : Ctx)
  /-- TCF (R109). Converts a time register to CF64. -/
  | tcf (x : Ctx)
  /-- TNTP (R110). Converts a time register to the NTP 64-bit timestamp under the committed UTC state and smear. -/
  | tntp (x : Ctx)
  /-- TUTC (R109). Returns UTC seconds, leap state, smear flag and era of a time register. -/
  | tutc (x : Ctx)
  /-- TWAIT (R112). Starts a long-latency wait for a CF64 target. -/
  | twait (x : Ctx)
  /-- TWAIT_COMPLETE (R112). The replica satisfies the compare rule for the TWAIT target and the wait completes. -/
  | twaitComplete (x : Ctx)
  /-- TSTP (R111). Writes a time register into the frame in NTP, PTP or CT96 format. -/
  | tstp (x : Ctx)
  /-- FINFO (R114). Returns a frame metadata item. -/
  | finfo (x : Ctx)
  /-- FLEN (R113). Sets the frame length, taking cells when growing and setting RES. -/
  | flen (x : Ctx)
  /-- FMARK (R115). Sets the egress insertion fields with MARK_EN = 1. -/
  | fmark (x : Ctx)
  /-- FUNMARK (R113). Clears MARK_EN and CAPTURE. -/
  | funmark (x : Ctx)
  /-- FPORT (R113). Sets the egress port of the frame. -/
  | fport (x : Ctx)
  /-- FSWAP (R113). Swaps MAC addresses, IP addresses and L4 ports as selected. -/
  | fswap (x : Ctx)
  /-- FCPYP (R113). Copies bytes from L into the frame. -/
  | fcpyp (x : Ctx)
  /-- FCPYL (R113). Copies bytes from the frame into L. -/
  | fcpyl (x : Ctx)
  /-- CSUM (R116). Returns the folded one's-complement sum of frame bytes. -/
  | csum (x : Ctx)
  /-- CSADD (R116). Returns the one's-complement sum of two 16-bit values. -/
  | csadd (x : Ctx)
  /-- CSIP (R116). Recomputes and writes the IPv4 header checksum. -/
  | csip (x : Ctx)
  /-- CSUDP (R116). Recomputes and writes the UDP checksum, optionally fixing lengths first. -/
  | csudp (x : Ctx)
  /-- TBLD (R119). Starts a 64-bit load from the table pool. -/
  | tbld (x : Ctx)
  /-- TBST (R119). Issues a posted 64-bit store to the table pool. -/
  | tbst (x : Ctx)
  /-- TBCAS (R119). Starts an atomic compare-and-swap on a table word, setting RES on mismatch. -/
  | tbcas (x : Ctx)
  /-- TBADD (R119). Starts an atomic fetch-and-add on a table word. -/
  | tbadd (x : Ctx)
  /-- TBFIND (R120). Starts a search of a four-slot bucket for a key. -/
  | tbfind (x : Ctx)
  /-- TBLOCK (R121). Tries to take a lock word, recording it on success and setting RES on failure. -/
  | tblock (x : Ctx)
  /-- TBUNLK (R121). Releases a recorded lock with a posted write of 0, or faults T_LOCK. -/
  | tbunlk (x : Ctx)
  /-- TBGET (R119). Starts a copy of bytes from the table pool to L. -/
  | tbget (x : Ctx)
  /-- TBPUT (R119). Issues a posted copy of bytes from L to the table pool. -/
  | tbput (x : Ctx)
  /-- TABLE_OP_COMPLETE (R119). A long-latency table operation completes and writes its destination and RES. -/
  | tableOpComplete (x : Ctx) (lag : Nat)
  /-- POSTED_STORE_COMPLETE (R102). A posted table store completes, in issue order, freeing a posted-store slot. -/
  | postedStoreComplete (x : Ctx)
  /-- TKN (R122). Starts an atomic token take from a bucket. -/
  | tkn (x : Ctx)
  /-- TKN_COMPLETE (R122). The token bucket access completes with refill, take or refusal, writing gd and RES. -/
  | tknComplete (x : Ctx) (lag : Nat)
  /-- TKSET (R123). Sets rate and depth of a bucket, clamping or filling its level. -/
  | tkset (x : Ctx)
  /-- CJOB (R124). Issues a crypto job to the cluster's job queue after the issue-time checks. -/
  | cjob (x : Ctx)
  /-- CJOB_QUEUE_ROOM (R124). A context blocked on a full crypto job queue issues its job when room appears. -/
  | cjobQueueRoom (p : Fin 72) (c : Fin 48)
  /-- CJOB_COMPLETE (R193). A crypto job completes, writing its outputs on OK, its status to gd and RES. -/
  | cjobComplete (p : Fin 72) (c : Fin 48) (ev : JobEvent)
  /-- CELL_ARRIVE (R107). A packet-buffer cell beyond the first two arrives at the tile and the stalled access proceeds. -/
  | cellArrive (p : Fin 72) (c : Fin 48)
  /-- SEND (R125). Disposes of the frame by queuing it to its egress port after the stale check. -/
  | sendFrame (x : Ctx)
  /-- DROP (R125). Disposes of the frame by freeing it and counting the reason. -/
  | dropFrame (x : Ctx)
  /-- TOHOST (R125). Disposes of the frame by sending it to an up ring after the stale check. -/
  | tohost (x : Ctx)
  /-- END (R125). Ends a frameless context. -/
  | endContext (x : Ctx)
  /-- NOP (R126). Does nothing. -/
  | nop (x : Ctx)
  /-- YIELD (R137). Makes the context the newest READY context of its class. -/
  | yield (x : Ctx)
  /-- WAITL (R126). Waits for the outstanding long-latency operation. -/
  | waitl (x : Ctx)
  /-- FENCE (R126). Waits until every posted store of the context has completed. -/
  | fence (x : Ctx)
  /-- BRK (R126). Raises fault BRK with IMM6 recorded. -/
  | brk (x : Ctx)
  /-- EVRAISE (R126). Raises event source 240 + IMM6[3:0] with data ga. -/
  | evraise (x : Ctx)
  /-- RDCTX (R126). Returns a context item. -/
  | rdctx (x : Ctx)
  /-- WAIT (R130). Stops service-core issue and offers the WAIT depth to the power controller. -/
  | waitCore (x : Ctx)
  /-- ERET (R127). Returns from a service-core handler, restoring PC and IE. -/
  | eret (x : Ctx)
  /-- MFSR (R128). Reads a service-core system register. -/
  | mfsr (x : Ctx)
  /-- MTSR (R128). Writes a service-core system register. -/
  | mtsr (x : Ctx)
  /-- MRGN (R129). Sets a service-core translation region. -/
  | mrgn (x : Ctx)
  /-- MRGI (R127). Invalidates a service-core translation region. -/
  | mrgi (x : Ctx)
  /-- UNDEFINED_ENCODING (R99). An undefined opcode, function code or the all-zero word raises ILLEGAL. -/
  | undefinedEncoding (x : Ctx)
  /-- SC_INTERRUPT (R130). An event-controller interrupt or a power-handshake release wakes a service core or enters its handler. -/
  | scInterrupt (k : Fin 8) (release : Bool)
  /-- REQUEST_ARRIVE (R138). A frame or context request reaches its tile and joins its class queue or is dropped at admission. -/
  | requestArrive (k : Fin 8)
  /-- CONTEXT_START (R138). A FREE context starts the head request of the first eligible class queue after the stale check. -/
  | contextStart (p : Fin 72) (c : Fin 48)
  /-- CONTEXT_FREE (R134). An ending context whose outstanding operation, stores and locks are done becomes FREE. -/
  | contextFree (p : Fin 72) (c : Fin 48)
  /-- KILL_LOCK_HANDLING (R148). After a killed context's stores and operation complete, each lock it held is orphaned or released per LOCKPOL. -/
  | killLockHandling (p : Fin 72) (c : Fin 48)
  /-- STALE_SCAN (R142). Every 1 us the tile drops stale heads of each class queue and ends stale waiting contexts. -/
  | staleScan (l : Fin 64)
  /-- CORE_FAULT (R149). A core-level fault stops issue, drains the tile, kills its contexts and starts the core scan. -/
  | coreFault (p : Fin 72)
  /-- CORE_SCAN_DONE (R149). The 2 ms core scan ends and the tile returns, is replaced by the spare, or stays retired. -/
  | coreScanDone (p : Fin 72) (failed : Bool)
  /-- TIMER_FIRE (R150). An array timer fires and places requests in the admission queues, skipping where the previous one has not ended. -/
  | timerFire (k : Fin 8)
  /-- TIMER_CTL_WRITE (R152). A write to an array timer register, accepted only while stopped except a write of EN = 0. -/
  | timerCtlWrite (ag : Agent) (k : Fin 8) (w : Fin 3) (v : Word)
  /-- INIT_CONTEXT_START (R155). An init context starts on a tile at the first FREE context after a bank activation, drain return or spare entry. -/
  | initContextStart (p : Fin 72) (c : Fin 48)
  /-- DRAIN_SET (R133). The host sets GYS_MAPl.DRAIN and queued requests move to other tiles of the cluster. -/
  | drainSet (ag : Agent) (l : Fin 64)
  /-- DRAIN_CLEAR (R133). The host clears GYS_MAPl.DRAIN, running the init context and returning the tile to dispatch. -/
  | drainClear (ag : Agent) (l : Fin 64)
  /-- CLSQ_WRITE (R139). A write of GYS_CLSQc is checked and applies to new admissions only. -/
  | clsqWrite (ag : Agent) (c : Fin 4) (v : Word)
  /-- BANK_WRITE (R156). A BAR2 write to a program bank, discarded for the active or busy bank, clearing VERIFIED otherwise. -/
  | bankWrite (b : Fin 2) (i : Fin 524288) (v : Word)
  /-- BANK_HEADER_WRITE (R156). A write to GYS_HDRA or GYS_HDRB, discarded for the active or busy bank, clearing VERIFIED otherwise. -/
  | bankHeaderWrite (ag : Agent) (b : Fin 2) (i : Fin 128) (v : Word)
  /-- BANK_VERIFY (R157). A write of GYS_BANK_CTL.VERIFY starts the signature check of a bank. -/
  | bankVerify (ag : Agent) (b : Fin 2)
  /-- VERIFY_DONE (R157). The bank check ends, setting VERIFIED or ERR and raising source 142. -/
  | verifyDone
  /-- BANK_SWITCH (R158). A write of GYS_BANK_CTL.SWITCH requests a bank switch, refused under the listed conditions. -/
  | bankSwitch (ag : Agent) (b : Fin 2) (quiesce : Bool)
  /-- SWITCH_INSTANT (R158). At the first dispatch, timer firing or 1 us after acceptance the new bank becomes active and SWITCH_DONE is raised. -/
  | switchInstant
  /-- JOB_DISPATCH (R192). The crypto dispatcher gives a queued job to the lowest-numbered idle pipeline. -/
  | jobDispatch
  /-- PIPE_KAT (R202). With KAT_EN = 1 a pipeline starts its once-per-second known-answer test at its time in the second. -/
  | pipeKat (i : Fin 16)
  /-- KAT_DONE (R202). A pipeline known-answer test ends, returning or retiring the pipeline. -/
  | katDone (i : Fin 16) (failed : Bool)
  /-- DRBG_HEALTH_FAIL (R200). A nonce-source health test fails, DRBG status clears and nonce jobs complete with NONCE. -/
  | drbgHealthFail
  /-- DRBG_RESEED_RETRY (R200). Every 1 ms after a failure the generator tries to reseed. -/
  | drbgReseedRetry (passes : Bool)
  /-- CRYPTO_DISABLE (R201). CRY_CTRL.EN is written 0 and every queued job completes UNAVAIL. -/
  | cryptoDisable (ag : Agent) (katEn : Bool)
  /-- KEY_LOAD (R205). CRY_KCMD LOAD unwraps a blob into an EMPTY slot, placing it in ACCEPT, and zeroes CRY_WRAPIN. -/
  | keyLoad (ag : Agent) (slot : Fin 64) (len : Fin 256)
  /-- KEY_SETCUR (R206). CRY_KCMD SETCUR makes an ACCEPT slot CURRENT. -/
  | keySetcur (ag : Agent) (slot : Fin 64)
  /-- KEY_RETIRE (R206). CRY_KCMD RETIRE moves a non-current slot to DRAINING. -/
  | keyRetire (ag : Agent) (slot : Fin 64)
  /-- SLOT_DRAIN_END (R206). The last job bound to a DRAINING slot ends and the slot is zeroed to EMPTY. -/
  | slotDrainEnd (n : Fin 64)
  /-- HOST_MINT (R207). A write of CRY_HMINT_CTL.GO starts a host cookie mint under the CURRENT slot. -/
  | hostMint (ag : Agent)
  /-- HOST_MINT_DONE (R207). The host mint completes with the cookie in CRY_HMINT_OUT or an error status. -/
  | hostMintDone (ev : JobEvent)
  /-- ANCHOR_WRITE (R208). A write of CRY_ANCH_CTL.GO writes an anchor entry once, refusing a second write. -/
  | anchorWrite (ag : Agent) (entry : Fin 16) (ty : Fin 16)
  /-- SLOT_MEASUREMENT (R220). A measurement of a reference slot arrives, is checked, qualifies the slot and drives the discipline loop. -/
  | slotMeasurement (n : Fin 16) (r : Reading) (suspectStamp : Bool)
  /-- SLOT_SECOND_CHECK (R224). Once per second without a measurement the slot's checks, including loss, are evaluated. -/
  | slotSecondCheck (n : Fin 16)
  /-- SELECTOR_SECOND (R228). The selector re-evaluates once per second. -/
  | selectorSecond
  /-- INJECT (R223). A write of SEL_INJm_CTL.GO submits a host measurement record for S14 or S15. -/
  | inject (ag : Agent) (m : Fin 2) (v : Word)
  /-- INIT_ALIGN_STEP (R231). When the count lies 0.1-0.9 s into a second firmware writes the initial absolute step. -/
  | initAlignStep
  /-- SEL_ALIGN (R242). The ALIGN command, accepted only in ALIGN_PENDING. -/
  | selAlign (ag : Agent) (v : Word)
  /-- ALIGN_STEP_WRITE (R242). In the second window firmware writes the relative re-alignment step with AT_SECOND. -/
  | alignStepWrite
  /-- SEL_FORCE_SLEW (R243). The FORCE_SLEW command enters SLEW from ALIGN_PENDING. -/
  | selForceSlew (ag : Agent) (v : Word)
  /-- SEL_WTR_CLR (R226). The WTR_CLR command qualifies a slot in WTR. -/
  | selWtrClr (ag : Agent) (v : Word)
  /-- SEL_LOAD_SEED (R251). The LOAD_SEED command copies SEL_SEED into the model in STAGED or ACQUIRE. -/
  | selLoadSeed (ag : Agent) (v : Word)
  /-- SEL_RELEARN (R251). The RELEARN command clears the model and MVALID. -/
  | selRelearn (ag : Agent) (v : Word)
  /-- HOLD_UPDATE (R245). Once per second in HOLD or SLEW_HOLD firmware commits the holdover prediction or aid rate. -/
  | holdUpdate
  /-- MODEL_SAMPLE (R247). Every 100 s while learning, firmware samples y and temperature. -/
  | modelSample
  /-- MODEL_REFIT (R247). Once per hour firmware refits the holdover model and raises source 41. -/
  | modelRefit
  /-- EDGE_COMMAND (R257). 160 ns before an output target Drypoint computes and sends the edge command to the timing die. -/
  | edgeCommand (o : PlacedOut)
  /-- PPS_PULSE (R260). A PPSOUT rising edge is emitted for its labelled second, applying shadowed configuration or skipping. -/
  | ppsPulse (n : Fin 4)
  /-- PPS_PULSE_END (R260). The PPSOUT width count expires and the output returns to its inactive level. -/
  | ppsPulseEnd (n : Fin 4)
  /-- OUTPUT_CTL_WRITE (R262). A configuration write to a pulse or clock output goes to its shadow, or enables or disables it. -/
  | outputCtlWrite (ag : Agent) (off : Nat) (v : Word)
  /-- TOD_MESSAGE_WRITE (R267). After each pulse of the source output firmware writes the TODOUT message and sets READY. -/
  | todMessageWrite
  /-- TOD_MESSAGE_START (R267). DELAYMS after the pulse Drypoint starts sending the message, or counts it late. -/
  | todMessageStart
  /-- TOD_MESSAGE_END (R267). The stop bit of the last byte ends and READY clears. -/
  | todMessageEnd
  /-- CKMON_WRITE (R270). A write of DRY_CKMON changes the monitored source or divisor, refused above 400 MHz. -/
  | ckmonWrite (ag : Agent) (v : Word)
  /-- SCLK_WINDOW (R275). A 10 us LO window of SCLKIN counting ends and is judged good or bad. -/
  | sclkWindow (edges : Nat)
  /-- SAMPLE_MARKER (R276). At every 81,840th sample the baseband captures device time refined by marker phase. -/
  | sampleMarker (phase : Nat)
  /-- SCNT_READ (R276). A read of GNS_SCNT_L latches GNS_SCNT_H and GNS_STIME from the latest marker. -/
  | scntRead (ag : Agent)
  /-- SIN_STAT_UPDATE (R277). Every 100 ms the rms and clip fraction of each input are reported, setting CLIP. -/
  | sinStatUpdate (i : Fin 4) (codes : List (BitVec 8 × Nat))
  /-- SIN_CTL_WRITE (R280). A write to GNS_SINn_CTL or _FC, refused with INUSE while the input is in use except clearing EN. -/
  | sinCtlWrite (ag : Agent) (i : Fin 4) (fc : Bool) (v : Word)
  /-- SIG_WRITE (R280). A write to GNS_SIGs, refused for INPUT while channels are in use; EN = 0 releases channels. -/
  | sigWrite (ag : Agent) (g : Fin 19) (v : Word)
  /-- ACQ_JOB_START (R282). The FFT acquisition engine starts a job for SC2-SC5. -/
  | acqJobStart (j : AcqJob)
  /-- ACQ_JOB_DONE (R283). An FFT job ends with its detections. -/
  | acqJobDone (e : AcqEnd)
  /-- AID_PARSE (R287). A write of GNS_AID_CTL.GO starts parsing the aiding records. -/
  | aidParse (ag : Agent) (v : Word)
  /-- AID_DONE (R287). The aiding parse ends and source 90 is raised. -/
  | aidDone
  /-- TPG_ENABLE (R290). A write setting GNS_TPG_CTL.EN, accepted only in STAGED, MEASURE or SAFE. -/
  | tpgEnable (ag : Agent) (v : Word)
  /-- CHANNEL_DUMP (R293). A channel ends its dump interval, queues a record and applies any pending command. -/
  | channelDump (c : Fin 256) (n : Nat) (sums : Correlators) (bad : Option DumpFault)
  /-- CHANNEL_COMMAND (R294). Firmware writes a channel command, merged field by field until the next dump. -/
  | channelCommand (c : Fin 256) (k : ChannelCommand)
  /-- BURST_FRONTEND_ON (R301). In DORMANT GFE_EN is driven high and PLL_G started WARM before the burst. -/
  | burstFrontendOn
  /-- BURST_START (R301). The burst sequencer starts a burst, propagating channel phases. -/
  | burstStart
  /-- BURST_END (R301). The burst ends, state is saved and clocks stop. -/
  | burstEnd (rs : List BurstResult)
  /-- ENGINE_CHECK_ERROR (R304). A correlator engine check error sends its channels LOST and starts the vector test. -/
  | engineCheckError (e : Fin 16)
  /-- SOLUTION (R310). Once per GNSS second the firmware solves position and time and evaluates integrity. -/
  | solution (sol : Solution)
  /-- EPOCH_PULSE (R319). The GNSS epoch pulse is emitted on the PLL_G edge nearest S + 1. -/
  | epochPulse
  /-- FIX_READ (R318). A read of GNS_FIX0 latches GNS_FIX1-15 and the satellite table. -/
  | fixRead (ag : Agent)
  /-- QERR_READ (R320). A read of GNS_QERR_SEC latches GNS_QERR. -/
  | qerrRead (ag : Agent)
  /-- NAV_CTL_WRITE (R314). A write of GNS_NAV_CTL, refused for TSYS or TUTC while S0 is selected. -/
  | navCtlWrite (ag : Agent) (v : Word)
  /-- SURVEY_RESTART (R316). GNS_NAV_CMD SURVEY_RESTART discards the held mean and restarts the survey. -/
  | surveyRestart (ag : Agent) (v : Word)
  /-- APPLY_POS (R315). GNS_NAV_CMD APPLY_POS copies the fixed position into the held position at the next solution. -/
  | applyPos (ag : Agent) (v : Word)
  /-- OSNMA_RESET (R330). GNS_NAV_CMD OSNMA_RESET clears the OSNMA alert state. -/
  | osnmaReset (ag : Agent) (v : Word)
  /-- OSNMA_MESSAGE (R327). Decoded OSNMA data is verified, updating satellite authentication, raising failures or alerts. -/
  | osnmaMessage (m : OsnmaMessage)
  /-- EDGE_STAMP (R337). A Graver channel captures an edge and forms its stamp, placing a record in the FIFO. -/
  | edgeStamp (n : Fin 20) (falling : Bool) (c : Fin 3) (p : Fin 64)
  /-- GATE_EDGE (R345). A GATE input edge opens or closes a channel's gate. -/
  | gateEdge (g : Fin 4) (falling : Bool) (phase : Nat)
  /-- WINDOW_END (R345). Time passes WSTOP of a WINDOW channel and the channel completes. -/
  | windowEnd (n : Fin 20)
  /-- FIFO_POP (R338). A read of GRV_CHn_POP_W0 by the owner removes the oldest record and latches W1-W3. -/
  | fifoPop (ag : Agent) (n : Fin 20) (bad : Bool)
  /-- CHANNEL_ARM (R345). A write of GRV_CHn_CTL with EN = 1 arms the channel, checking window targets. -/
  | channelArm (ag : Agent) (n : Fin 20) (v : Word)
  /-- FIFO_CLEAR (R343). A write of CLR empties the channel FIFO and resets SEQ. -/
  | fifoClear (ag : Agent) (n : Fin 20) (v : Word)
  /-- CHANNEL_OWNER_WRITE (R339). A host write of OWNER on a Graver channel, refused on channels 8-17 outside STAGED, MEASURE and SAFE. -/
  | channelOwnerWrite (ag : Agent) (n : Fin 20) (v : Word)
  /-- THRESHOLD_WRITE (R341). A write of THR or HYST on an enabled channel disarms it while the DAC settles. -/
  | thresholdWrite (ag : Agent) (n : Fin 20) (v : Word)
  /-- THRESHOLD_SETTLE (R341). 2 us after a threshold write the channel rearms. -/
  | thresholdSettle (n : Fin 20)
  /-- CALTAB_UPDATE (R344). After 2^20 calibration hits Graver computes and applies a new CALTAB or rejects it. -/
  | caltabUpdate (n : Fin 20) (counts : List Nat)
  /-- LOINC_COMMIT (R347). A write of GRV_LOINC_H commits the LO-scale increment. -/
  | loincCommit (ag : Agent) (v : Word)
  /-- LOINC_APPLY (R347). At the 64th TCLK edge the LO-scale increment takes effect. -/
  | loincApply
  /-- REGRESSION_WINDOW_END (R349). A regression window ends and the unit computes period, offset and residual. -/
  | regressionWindowEnd (k : Fin 8)
  /-- REGRESSION_READ (R349). A read of GRV_REGk_N latches the other results of the same window. -/
  | regressionRead (ag : Agent) (k : Fin 8)
  /-- ECDSA_VER (R360). Submits an ECDSA signature verification to the BNE. -/
  | ecdsaVer (ag : Agent) (p : Fin 2) (v : Word)
  /-- ED25519_VER (R360). Submits an Ed25519 signature verification. -/
  | ed25519Ver (ag : Agent) (p : Fin 2) (v : Word)
  /-- PTCHECK (R360). Submits a point check. -/
  | ptcheck (ag : Agent) (p : Fin 2) (v : Word)
  /-- RSA_PUB (R360). Submits an RSA public operation checked against an anchor hash. -/
  | rsaPub (ag : Agent) (p : Fin 2) (v : Word)
  /-- ANCHCMP (R360). Submits a comparison of a digest with an anchor entry. -/
  | anchcmp (ag : Agent) (p : Fin 2) (v : Word)
  /-- MODMUL (R360). Submits a modular multiplication. -/
  | modmul (ag : Agent) (p : Fin 2) (v : Word)
  /-- MODEXP (R360). Submits a modular exponentiation. -/
  | modexp (ag : Agent) (p : Fin 2) (v : Word)
  /-- MODINV (R360). Submits a modular inversion. -/
  | modinv (ag : Agent) (p : Fin 2) (v : Word)
  /-- MODRED (R360). Submits a modular reduction. -/
  | modred (ag : Agent) (p : Fin 2) (v : Word)
  /-- UCHECK (R364). Submits the microcode check on port 0. -/
  | ucheck (ag : Agent) (p : Fin 2) (v : Word)
  /-- BNE_COMMAND_START (R358). The engine starts an eligible pending command, alternating ports. -/
  | bneCommandStart
  /-- BNE_VALIDATION_END (R361). The fixed validation phase ends, completing with the first failed check or continuing. -/
  | bneValidationEnd
  /-- BNE_COMMAND_DONE (R362). A BNE command completes with its status, setting DONE and raising the port event. -/
  | bneCommandDone (corrected : Nat) (bad : Option (Fin 98304))
  /-- OPMEM_WRITE (R355). A write to a BNE operand slot, discarded for a non-owner or a busy slot. -/
  | opmemWrite (ag : Agent) (i : Fin 8192) (v : Word)
  /-- UCODE_WRITE (R364). A service-core write to BNE_UCODE or BNE_UHDR clears UVALID, or is discarded while a command runs. -/
  | ucodeWrite (ag : Agent) (header : Bool) (i : Fin 16384) (v : Word)
  /-- EVENT_RAISE (R370). The event controller accepts a raise, sets EVT_RAW, queues a record and sets the vector pending. -/
  | eventRaise
  /-- EVENT_RECORD_WRITE (R370). The DMA engine issues the write of a queued event record as class 0 work. -/
  | eventRecordWrite
  /-- MSIX_SEND (R375). A pending vector whose conditions hold sends its MSI-X message. -/
  | msixSend (v : Fin 128)
  /-- HOLDOFF_END (R376). A vector's holdoff expires and a pending cause sends one message. -/
  | holdoffEnd (v : Fin 128)
  /-- CONFIG_ACCESS (R380). A PCIe configuration read or write completes, possibly changing Bus Master Enable, power state or PTM Enable. -/
  | configAccess (a : ConfigAccess)
  /-- FLR (R382). A Function Level Reset resets the DMA, EVT, MSI-X table and PBA, sets DMA_STICKY.FLR. -/
  | flr
  /-- PCIE_LINK_DOWN (R382). A Hot Reset or link-down resets the endpoint blocks as an FLR when the link returns. -/
  | pcieLinkDown
  /-- PERST_ASSERT (R444). PERST_N falls and the PCIe endpoint is held in reset. -/
  | perstAssert
  /-- PERST_RELEASE (R444). PERST_N rises and the endpoint leaves reset and trains. -/
  | perstRelease
  /-- BAR2_ACCESS (R386). A BAR2 read or write to the table pool or program store, with unmapped, off and ECC outcomes. -/
  | bar2Access (i : Fin 33554432) (n : Nat) (w : Option (List (Vector (Option Byte) 4)))
  /-- PROD_WRITE (R390). A host write of a data ring's PROD, checked against the ring size. -/
  | prodWrite (ag : Agent) (r : Fin 64) (v : Word)
  /-- CONS_WRITE (R390). A host write of an event ring's CONS, checked against the ring size. -/
  | consWrite (ag : Agent) (e : Fin 4) (v : Word)
  /-- UP_FRAME_ARRIVE (R403). A frame for an up ring is admitted under the ring budget and pool limit, or dropped. -/
  | upFrameArrive
  /-- UP_FRAME_WRITE (R391). With a posted buffer available the device writes the frame and its completion descriptor. -/
  | upFrameWrite (r : Fin 32)
  /-- DESCRIPTOR_FETCH (R392). The device fetches up to 8 down descriptors and reads their frames into packet-buffer cells. -/
  | descriptorFetch (r : Fin 64)
  /-- DOWN_COMPLETION (R392). A down frame passes TXSP or is discarded and its completion is written in order. -/
  | downCompletion (r : Fin 32)
  /-- RING_ENABLE (R395). A write of EN = 1 enters RUN from DISABLED, or is held as a pending enable in STOPPING. -/
  | ringEnable (ag : Agent) (r : Fin 68) (v : Word)
  /-- RING_DISABLE (R395). A write of EN = 0 enters STOPPING. -/
  | ringDisable (ag : Agent) (r : Fin 68) (v : Word)
  /-- RING_STOP_DONE (R395). A STOPPING ring's issued chunks complete and it reaches DISABLED. -/
  | ringStopDone (r : Fin 68)
  /-- CHUNK_ISSUE (R398). At a chunk boundary the engine translates and issues the next chunk by class priority. -/
  | chunkIssue
  /-- READ_COMPLETION (R399). A completion for a DMA read arrives, faulting the ring on UR, CA or poison. -/
  | readCompletion (r : Fin 64) (i : Nat) (res : ReadResult)
  /-- COMPLETION_TIMEOUT (R399). A DMA read's completion times out and the ring enters FAULT. -/
  | completionTimeout (r : Fin 64) (i : Nat)
  /-- RING_RESUME (R400). DMA_RINGr_CMD RESUME re-issues the faulting chunk and leaves FAULT. -/
  | ringResume (ag : Agent) (r : Fin 68)
  /-- RING_SKIP (R400). DMA_RINGr_CMD SKIP completes the faulting descriptor with an error status and continues. -/
  | ringSkip (ag : Agent) (r : Fin 68)
  /-- WINDOW_WRITE (R397). A write to a DMA window applies to every TLP issued afterwards. -/
  | windowWrite (ag : Agent) (w : Fin 64) (j : Fin 4) (v : Word)
  /-- INPUT_LOSS (R406). The CPM declares a clock input lost and raises source 210. -/
  | inputLoss (i : Fin 4)
  /-- INPUT_OK (R406). After 1 ms of correct operation the CPM declares a clock input good and raises source 211. -/
  | inputOk (i : Fin 4)
  /-- PLL_READY (R409). A PLL holds lock for 1 us, sets READY and raises source 209. -/
  | pllReady (p : Fin 13)
  /-- PLL_LOSS (R409). A PLL loses its reference or lock, coasts, sets LOSS and raises source 208. -/
  | pllLoss (p : Fin 13)
  /-- CLOCK_SWITCH (R411). A write of CPM_CLKSEL switches a domain's clock glitch-free, or is refused when the source is not READY. -/
  | clockSwitch (ag : Agent) (v : Word)
  /-- CLOCK_GATE (R413). A write of CLKOFF = 1 forces a domain's clocks closed, at once or after accesses complete. -/
  | clockGate (ag : Agent) (d : Fin 21) (busy : Bool)
  /-- GATE_CLOSE (R413). A deferred gate closes once accesses complete or the 2 us timeout expires. -/
  | gateClose (d : Fin 21) (expired : Bool)
  /-- CLOCK_UNGATE (R413). A write of CLKOFF = 0 reopens the clocks and STATE returns to ON. -/
  | clockUngate (ag : Agent) (d : Fin 21)
  /-- PD_ENABLE (R421). A write of EN = 1 to a domain powers it up, or latches a pending enable during a shut-down. -/
  | pdEnable (ag : Agent) (d : Fin 21)
  /-- PD_DISABLE (R422). A write of EN = 0 raises a power-down request to the domain. -/
  | pdDisable (ag : Agent) (d : Fin 21)
  /-- PD_FORCE_DISABLE (R424). A write of EN = 0 with FORCE = 1 makes the request forced, overriding refusal reasons. -/
  | pdForceDisable (ag : Agent) (d : Fin 21)
  /-- PD_HANDSHAKE_ANSWER (R422). The block answers ACK, DELAY or REFUSE to a power-down request. -/
  | pdHandshakeAnswer (d : Fin 21)
  /-- PD_DELAY_LIMIT (R424). The delay limit expires: forced requests proceed, unforced ones are refused with TIMEOUT. -/
  | pdDelayLimit (d : Fin 21)
  /-- PD_OFF (R422). 5 us after ACK the domain reaches OFF and source 212 is raised. -/
  | pdOff (d : Fin 21)
  /-- PD_SLOT_START (R426). At its fixed slot time the CPM starts a domain's power switch ramp. -/
  | pdSlotStart (d : Fin 21)
  /-- PD_RESET_RELEASE (R426). After SRAM initialisation the domain's reset is released and its queues resynchronise. -/
  | pdResetRelease (d : Fin 21)
  /-- PD_READY (R426). A domain reaches ON with its block start-up done. -/
  | pdReady (d : Fin 21) (meas : Nat)
  /-- PD_RESET (R427). A write of CPM_PDd_CTL.RESET = 1 resets a domain for 1 us without removing power. -/
  | pdReset (ag : Agent) (d : Fin 21)
  /-- PD_RESET_END (R427). The 1 us domain reset ends and its blocks restart. -/
  | pdResetEnd (d : Fin 21) (meas : Nat)
  /-- XQ_RESYNC (R416). A dual-clock queue runs its three-step resync handshake after a reset side leaves reset. -/
  | xqResync (i : Fin 74)
  /-- PLEVEL_TARGET_WRITE (R429). A write of CPM_PLEVEL.TARGET starts, or is latched for, a P-level sequence. -/
  | plevelTargetWrite (ag : Agent) (v : Word)
  /-- VSETTLE_END (R429). VSETTLE expires after a voltage command and the sequence continues. -/
  | vsettleEnd (accepted : Bool)
  /-- AVS_RETRY (R506). After a failed AVSBus voltage write the sequencer retries every 100 us and logs. -/
  | avsRetry (accepted : Bool)
  /-- THERMAL_CHECK (R432). The junction estimate is compared with TH_HI, TH_LO and TRIP, changing TCAP. -/
  | thermalCheck (held : Bool)
  /-- SENSOR_POLL (R437). Every 250 ms the CPM polls an external temperature sensor over I2C master 0. -/
  | sensorPoll (n : Fin 3) (reading : Option (BitVec 16)) (stale : Bool)
  /-- I2C_TRANSFER (R438). A write of CPM_I2Cm_XFER.GO starts one I2C transfer by the owner. -/
  | i2cTransfer (ag : Agent) (m : Fin 2) (v : Word)
  /-- I2C_DONE (R438). The I2C transfer ends, DONE sets and source 220 is raised. -/
  | i2cDone (m : Fin 2) (e : I2cEnd)
  /-- WAKE_ALARM_WRITE (R435). A write of CPM_WAKE_W0-W2 is checked as a comparator target. -/
  | wakeAlarmWrite (ag : Agent) (w : Fin 3) (v : Word)
  /-- DORMANT_ENTRY (R433). The DORMANT power sequence runs, forcing domains down and retaining PD_GNSS_TRK. -/
  | dormantEntry
  /-- WAKE (R435). A wake alarm, GPIO edge or LO loss ends DORMANT and domains power up. -/
  | wake (cause : WakeCause)
  /-- SUPPLY_LOSS (R502). A rail below its threshold for 2 us puts the device in OFF. -/
  | supplyLoss
  /-- POWER_ON_RESET_END (R502). 2 ms after every rail is in range the power-on reset ends. -/
  | powerOnResetEnd
  /-- RESET_N_ASSERT (R519). RESET_N low for the filter time causes a cold reset into RESET. -/
  | resetNAssert
  /-- RESET_N_RELEASE (R442). RESET_N goes high after power-on reset and boot begins. -/
  | resetNRelease
  /-- COLD_RESET (R442). A GCTL_RESET write with COLD and the key gives an internal cold reset. -/
  | coldReset (ag : Agent)
  /-- WARM_RESET (R442). A GCTL_RESET write with WARM and the key gives a warm reset into BOOT. -/
  | warmReset (ag : Agent)
  /-- BOOT_START (R446). Boot powers PD_FABRIC, PD_PCIE and PD_BNE and writes anchor entry 0. -/
  | bootStart
  /-- ROM_SELFTEST_DONE (R446). The ROM self-test ends, halting boot on failure. -/
  | romSelftestDone (result : Fin 3)
  /-- FIRMWARE_VERIFIED (R447). The ROM verifies firmware slots and releases SC1-SC7, or enters SAFE with no valid firmware. -/
  | firmwareVerified (a b : Option Firmware)
  /-- CONFIG_APPLY (R453). Firmware chooses and applies a Sinter slot or factory defaults, counting refused writes. -/
  | configApply (late : Bool)
  /-- BOOT_DONE (R446). Boot ends in STAGED, ACQUIRE or the wake mode, raising source 225. -/
  | bootDone
  /-- MODE_START (R458). The START mode command moves STAGED to ACQUIRE. -/
  | modeStart (ag : Agent)
  /-- MODE_STAGE (R458). The STAGE mode command returns to STAGED. -/
  | modeStage (ag : Agent)
  /-- MODE_MEASURE (R458). The MEASURE mode command moves STAGED to MEASURE. -/
  | modeMeasure (ag : Agent)
  /-- MODE_SLEEP (R458). The SLEEP mode command enters DORMANT. -/
  | modeSleep (ag : Agent)
  /-- MODE_SAFE (R460). The SAFE mode command enters SAFE. -/
  | modeSafe (ag : Agent)
  /-- MODE_RECOVER (R461). The RECOVER command leaves SAFE for STAGED, refused while a cause is present. -/
  | modeRecover (ag : Agent)
  /-- MODE_LOADFW (R447). The LOADFW command verifies and loads a host-written firmware image in SAFE under the ROM. -/
  | modeLoadfw (ag : Agent) (len : BitVec 24) (image : Option Firmware)
  /-- FLASH_READ (R456). The READ flash command copies flash bytes into GCTL_FLASH_BUF. -/
  | flashRead (ag : Agent) (len : BitVec 13)
  /-- FLASH_PROGRAM (R456). The PROGRAM flash command writes bytes from the buffer to flash. -/
  | flashProgram (ag : Agent) (len : BitVec 13)
  /-- FLASH_ERASE (R456). The ERASE flash command erases a 64 KiB sector. -/
  | flashErase (ag : Agent)
  /-- FLASH_DONE (R456). The flash reports completion of a command and DONE sets. -/
  | flashDone
  /-- FLASH_TIMEOUT (R456). PROGRAM after 5 ms or ERASE after 2 s ends with ERR 0x05. -/
  | flashTimeout
  /-- OFUSE_PROGRAM (R457). A write of GCTL_OFUSE_CTL.GO programs one operator fuse target once. -/
  | ofuseProgram (ag : Agent) (target : Fin 4) (supply : Bool)
  /-- SCRUB_READ (R470). The scrubber reads the next word, correcting or reporting errors and ending passes. -/
  | scrubRead (mem : Fin 10) (addr : Nat) (found : EccFind) (last : Bool)
  /-- SELFTEST_START (R475). A queued targeted self-test starts when fewer than 16 run. -/
  | selftestStart
  /-- SELFTEST_DONE (R471). A targeted self-test reaches its verdict, logging it and retiring the unit on LASTING. -/
  | selftestDone (unit : BitVec 16) (row : Nat) (failed spare : Bool)
  /-- RETIRE_TILE_WRITE (R476). A write of 1 to REL_RET_TILE retires a physical tile as a failed core scan. -/
  | retireTileWrite (ag : Agent) (k : Fin 3) (v : Word)
  /-- RETIRE_LANE_WRITE (R476). A write of 1 to REL_RET_LANE retires a lane. -/
  | retireLaneWrite (ag : Agent) (v : Word)
  /-- WDG_KICK (R478). A service core writes REL_WDG_KICK and restarts its watchdog. -/
  | wdgKick (ag : Agent) (v : Word)
  /-- WDG_EXPIRE (R478). A watchdog reaches TIMEOUT, sets EXPIRED and raises source 229. -/
  | wdgExpire (k : Fin 8)
  /-- WDG_ACTION (R479). A further TIMEOUT passes and the group action is taken. -/
  | wdgAction (k : Fin 8)
  /-- LOG_IN_COMMIT (R481). A service-core write of REL_LOG_IN4 commits a log entry. -/
  | logInCommit (ag : Agent) (v : Word)
  /-- LOG_ACCEPT (R481). The trouble log accepts one waiting entry per AON cycle. -/
  | logAccept
  /-- LOG_CLEAR (R482). A write of REL_LOG_CTRL.CLEAR sets HEAD and TAIL to 0. -/
  | logClear (ag : Agent)
  /-- LOG_READ (R483). A read of REL_LOG_DATA0 latches the selected entry and RSTAT. -/
  | logRead (ag : Agent)
  /-- WEAR_UPDATE (R497). Once a minute REL_WEAR accumulates life used. -/
  | wearUpdate
  /-- PAIR_ENABLE_WRITE (R486). A write changing PAR_CTRL.EN, accepted only in BOOT, STAGED, MEASURE and SAFE. -/
  | pairEnableWrite (ag : Agent) (v : Word)
  /-- PAIR_LINK_UP (R484). The pair link finishes training and PAR_STATUS.LINK sets. -/
  | pairLinkUp
  /-- HEARTBEAT_TX (R489). Every 100 us the pair controller sends a heartbeat and toggles PAIR_ALIVE_OUT. -/
  | heartbeatTx
  /-- HEARTBEAT_INTERVAL (R489). A 100 us interval ends; a missed one is counted and may declare the peer dead or the link failed. -/
  | heartbeatInterval
  /-- HEARTBEAT_RX (R488). A HEARTBEAT message arrives, checked for epoch, deposing the device on a newer epoch. -/
  | heartbeatRx (crc : Bool) (epoch : Word) (h : Heartbeat)
  /-- FORM_RX (R495). A FORM message arrives and roles are chosen. -/
  | formRx (crc : Bool) (epoch : Word) (pref : Bool) (dsn : BitVec 64)
  /-- FORM_ACK_RX (R495). A FORM_ACK arrives, the epoch is adopted and the pair formed. -/
  | formAckRx (crc : Bool) (epoch : Word) (role : Fin 4)
  /-- YIELD_RX (R496). A YIELD arrives and the standby takes over without fencing. -/
  | yieldRx (crc : Bool) (epoch : Word)
  /-- TIMEX_RX (R492). A TIMEX message arrives and the standby forms the S13 offset. -/
  | timexRx (crc : Bool) (epoch : Word) (k : BitVec 16) (second : Word) (stamp : CT96)
  /-- MIRROR_RX (R493). A MIRROR message arrives and the standby writes the line in order. -/
  | mirrorRx (crc : Bool) (epoch : Word) (line : Word) (poison : BitVec 8) (bytes : List (BitVec 8))
  /-- FENCE_IN_ASSERT (R487). A FENCE_IN assertion of 100 ns or longer latches FENCED and DEPOSED and closes the gates. -/
  | fenceInAssert
  /-- PAIR_TAKEOVER (R490). The PAR_CMD TAKEOVER command, or an automatic trigger, increments the epoch and asserts FENCE_OUT. -/
  | pairTakeover (ag : Option Agent)
  /-- FENCE_SETTLE_END (R490). FENCE_SETTLE expires, ROLE becomes ACTIVE, the TKMODE mode is entered and source 233 raised. -/
  | fenceSettleEnd
  /-- PAIR_FORM (R495). The PAR_CMD FORM command starts forming a pair. -/
  | pairForm (ag : Agent)
  /-- FORM_RESEND (R495). Every 1 ms during forming the device sends FORM. -/
  | formResend
  /-- FORM_TIMEOUT (R495). A FORM not completed within 10 s sets PAR_ERR.FORM. -/
  | formTimeout
  /-- PAIR_SWITCHOVER (R496). The PAR_CMD SWITCHOVER command yields the active role to a synchronised standby. -/
  | pairSwitchover (ag : Agent)
  /-- YIELD_RESEND (R496). Every 10 us during a switchover the former active sends YIELD. -/
  | yieldResend
  /-- YIELD_TIMEOUT (R496). No heartbeat in the new epoch within 1 ms leaves the former active STANDBY with PAR_ERR.CMD. -/
  | yieldTimeout
  /-- PAIR_RESYNC (R494). The PAR_CMD RESYNC command sends every mirrored line in address order. -/
  | pairResync (ag : Agent)
  /-- RESYNC_DONE (R494). A resync ends and MSYNC sets if no loss occurred. -/
  | resyncDone
  /-- TCLK_EDGE (R35). At every TCLK edge Caldera and every replica add the increment in effect, with the dither carry, to the count. -/
  | tclkEdge
  /-- SUPPLY_IN_RANGE (R458). Every rail rises above its monitor threshold and the device moves from OFF to RESET. -/
  | supplyInRange
  /-- PCIE_LINK_UP (R382). The PCIe link finishes training and returns, the endpoint blocks start at their reset values and DMA_STICKY.FLR sets. -/
  | pcieLinkUp
  /-- PAIR_LINK_DOWN (R484). The pair link loses training or lane lock and PAR_STATUS.LINK clears. -/
  | pairLinkDown
  /-- PAIR_ALIVE_IN_EDGE (R489). PAIR_ALIVE_IN shows a transition, restarting its 500 us silence measure and setting ALIVE_IN. -/
  | pairAliveInEdge
  /-- PAIR_ALIVE_SILENCE (R489). PAIR_ALIVE_IN has shown no transition for 500 us, ALIVE_IN clears, and with missed heartbeats the peer is declared dead or the silence is logged. -/
  | pairAliveSilence
  /-- FENCE_IN_DEASSERT (R487). The FENCE_IN ball is deasserted, so the gate condition of the ball ends and a later assertion can latch FENCED again. -/
  | fenceInDeassert
  /-- PAIR_MESSAGE_SEND (R485). The pair link sends the next queued message in priority order, draining the mirror queue. -/
  | pairMessageSend
  deriving DecidableEq, Repr

end Sys2Proof
end

