-- ==== Sys2Proof/Machine/Bits.lean ====
section
/-!
DEFINITION. Bit fields of registers, the CT96 and CF64 forms of the device count, and byte order.
-/
namespace Sys2Proof.Machine

/-- Bits lo to lo + n - 1 of a register as a number. -/
def bitsAt (w : Word) (lo n : Nat) : Nat := w.toNat / 2 ^ lo % 2 ^ n

/-- One bit of a register. -/
def bitAt (w : Word) (i : Nat) : Bool := w.getLsbD i

/-- The word whose bits lo to lo + n - 1 are one and whose others are zero. -/
def fieldMask (lo n : Nat) : Word := BitVec.ofNat 32 ((2 ^ n - 1) * 2 ^ lo)

/-- A register with the field at lo of width n replaced by v (cut to the field's width). -/
def putBits (w : Word) (lo n v : Nat) : Word :=
  (w &&& ~~~ fieldMask lo n) ||| (BitVec.ofNat 32 (v * 2 ^ lo) &&& fieldMask lo n)

/-- A register with one bit set or cleared. -/
def putBit (w : Word) (i : Nat) (b : Bool) : Word :=
  if b then w ||| (1#32 <<< i) else w &&& ~~~ (1#32 <<< i)

/-- A number of n bits read as two's complement. -/
def signed (n v : Nat) : Int :=
  if v % 2 ^ n < 2 ^ (n - 1) then ((v % 2 ^ n : Nat) : Int) else ((v % 2 ^ n : Nat) : Int) - ((2 ^ n : Nat) : Int)

/-- The n-bit two's complement form of an integer. -/
def unsigned (n : Nat) (v : Int) : Nat := (v % ((2 ^ n : Nat) : Int)).toNat

/-- The master count in units of 2^-32 ns, and how many of them a second has (R35). -/
def secUnits : Nat := 10 ^ 9 * 2 ^ 32

/-- The count wraps with its 48-bit seconds field (R35). -/
def countMod : Nat := 2 ^ 48 * secUnits

/-- CT96 of a time given in units of 2^-16 ns (R10). -/
def ct96OfFrac (q : Nat) : CT96 :=
  BitVec.ofNat 96 ((q / (10 ^ 9 * 2 ^ 16)) % 2 ^ 48 * 2 ^ 48 + q % (10 ^ 9 * 2 ^ 16))

/-- CT96 of a count: the low 16 sub-nanosecond bits are cut off, never rounded (R36). -/
def ct96OfCount (c : Nat) : CT96 := ct96OfFrac (c / 2 ^ 16)

/-- The fields of a CT96 value (R10). -/
def ct96Sec (t : CT96) : Nat := t.toNat / 2 ^ 48
def ct96Ns (t : CT96) : Nat := t.toNat / 2 ^ 16 % 2 ^ 32
def ct96Frac (t : CT96) : Nat := t.toNat % 2 ^ 16

/-- A CT96 value whose NS field is at most 999,999,999 (R11). -/
def ct96Valid (t : CT96) : Bool := ct96Ns t < 10 ^ 9

/-- A CT96 value as a number of units of 2^-16 ns. -/
def ct96ToFrac (t : CT96) : Nat := ct96Sec t * (10 ^ 9 * 2 ^ 16) + ct96Ns t * 2 ^ 16 + ct96Frac t

/-- A CT96 value as a count in units of 2^-32 ns; the low 16 bits are zero (R45). -/
def countOfCt96 (t : CT96) : Nat := ct96ToFrac t * 2 ^ 16

/-- A signed CT96 offset: SEC two's complement, NS and FRAC never negative (R37), in units of 2^-32 ns. -/
def offsetOfCt96 (t : CT96) : Int :=
  signed 48 (ct96Sec t) * (secUnits : Int) + ((ct96Ns t * 2 ^ 32 + ct96Frac t * 2 ^ 16 : Nat) : Int)

/-- The signed CT96 layout of an offset given in units of 2^-16 ns: floor seconds, then NS and FRAC (R37). -/
def ct96OfSigned (q : Int) : CT96 :=
  BitVec.ofNat 96 (unsigned 48 (q.fdiv (10 ^ 9 * 2 ^ 16)) * 2 ^ 48 + (q.fmod (10 ^ 9 * 2 ^ 16)).toNat)

/-- A signed CT96 offset in units of 2^-16 ns. -/
def fracOfSigned (t : CT96) : Int :=
  signed 48 (ct96Sec t) * (10 ^ 9 * 2 ^ 16) + ((ct96Ns t * 2 ^ 16 + ct96Frac t : Nat) : Int)

/-- CF64 of a CT96 value: SEC32 and BFRAC (R12, R54). -/
def cf64OfCt96 (t : CT96) : Word64 :=
  BitVec.ofNat 64 (ct96Sec t % 2 ^ 32 * 2 ^ 32
    + ((ct96Ns t * 2 ^ 16 + ct96Frac t) * 2 ^ 32 / (10 ^ 9 * 2 ^ 16)) % 2 ^ 32)

/-- The binary fraction of a second of a CT96 value (R54). -/
def bfrac (t : CT96) : Nat := (ct96Ns t * 2 ^ 16 + ct96Frac t) * 2 ^ 32 / (10 ^ 9 * 2 ^ 16)

/-- The comparator rule: the signed 64-bit difference now - target is zero or greater (R55). -/
def cf64Reached (now target : Word64) : Bool := !(now - target).msb

/-- The three words W0 to W2 of a 96-bit value, least significant first (R7, R37). -/
def word96 (t : CT96) (i : Nat) : Word := BitVec.ofNat 32 (t.toNat / 2 ^ (32 * i))

/-- A 96-bit value from its words. -/
def ofWords96 (w0 w1 w2 : Word) : CT96 :=
  BitVec.ofNat 96 (w0.toNat + w1.toNat * 2 ^ 32 + w2.toNat * 2 ^ 64)

/-- The low and the high word of a 64-bit value. -/
def lo32 (v : Word64) : Word := BitVec.ofNat 32 v.toNat
def hi32 (v : Word64) : Word := BitVec.ofNat 32 (v.toNat / 2 ^ 32)

/-- A 64-bit value from its words. -/
def ofWords64 (lo hi : Word) : Word64 := BitVec.ofNat 64 (lo.toNat + hi.toNat * 2 ^ 32)

/-- n bytes of a number, least significant first. -/
def leBytes (n v : Nat) : List Byte := (List.range n).map fun i => BitVec.ofNat 8 (v / 2 ^ (8 * i))

/-- n bytes of a number, most significant first. -/
def beBytes (n v : Nat) : List Byte := (leBytes n v).reverse

/-- The number that bytes spell, least significant first. -/
def ofLeBytes : List Byte → Nat
  | [] => 0
  | b :: bs => b.toNat + 256 * ofLeBytes bs

/-- The number that bytes spell, most significant first. -/
def ofBeBytes (bs : List Byte) : Nat := ofLeBytes bs.reverse

/-- A flag as a number. -/
def ofBool (b : Bool) : Nat := if b then 1 else 0

/-- A counter that stops at its largest value. -/
def satAdd (limit a b : Nat) : Nat := min limit (a + b)

/-- Floor division with the spec's rounding left open: the exact quotient where it is whole, otherwise either
neighbour (log entry 8). -/
def openDiv (a : Int) (b : Nat) : Int :=
  if a % (b : Int) = 0 then a / (b : Int)
  else a / (b : Int) + (if Config.roundsUp a then 1 else 0)

end Sys2Proof.Machine
end

