-- ==== Sys2Proof/Machine/Aes.lean ====
section
/-!
DEFINITION. The ciphers that R196, R204, R205 and R210 name: AES of FIPS 197 with keys of 128 and 256 bits, CMAC of SP
800-38B, AES-SIV of RFC 5297 and the key unwrap of RFC 3394 (PRESUMED: the rules give no more than the names, log entry 12).
-/
namespace Sys2Proof.Machine

/-! ### The block cipher -/

/-- The S-box, 16 values in a row. -/
def aesSboxRows : List (List Byte) :=
  [[0x63, 0x7c, 0x77, 0x7b, 0xf2, 0x6b, 0x6f, 0xc5, 0x30, 0x01, 0x67, 0x2b, 0xfe, 0xd7, 0xab, 0x76],
   [0xca, 0x82, 0xc9, 0x7d, 0xfa, 0x59, 0x47, 0xf0, 0xad, 0xd4, 0xa2, 0xaf, 0x9c, 0xa4, 0x72, 0xc0],
   [0xb7, 0xfd, 0x93, 0x26, 0x36, 0x3f, 0xf7, 0xcc, 0x34, 0xa5, 0xe5, 0xf1, 0x71, 0xd8, 0x31, 0x15],
   [0x04, 0xc7, 0x23, 0xc3, 0x18, 0x96, 0x05, 0x9a, 0x07, 0x12, 0x80, 0xe2, 0xeb, 0x27, 0xb2, 0x75],
   [0x09, 0x83, 0x2c, 0x1a, 0x1b, 0x6e, 0x5a, 0xa0, 0x52, 0x3b, 0xd6, 0xb3, 0x29, 0xe3, 0x2f, 0x84],
   [0x53, 0xd1, 0x00, 0xed, 0x20, 0xfc, 0xb1, 0x5b, 0x6a, 0xcb, 0xbe, 0x39, 0x4a, 0x4c, 0x58, 0xcf],
   [0xd0, 0xef, 0xaa, 0xfb, 0x43, 0x4d, 0x33, 0x85, 0x45, 0xf9, 0x02, 0x7f, 0x50, 0x3c, 0x9f, 0xa8],
   [0x51, 0xa3, 0x40, 0x8f, 0x92, 0x9d, 0x38, 0xf5, 0xbc, 0xb6, 0xda, 0x21, 0x10, 0xff, 0xf3, 0xd2]] ++
  [[0xcd, 0x0c, 0x13, 0xec, 0x5f, 0x97, 0x44, 0x17, 0xc4, 0xa7, 0x7e, 0x3d, 0x64, 0x5d, 0x19, 0x73],
   [0x60, 0x81, 0x4f, 0xdc, 0x22, 0x2a, 0x90, 0x88, 0x46, 0xee, 0xb8, 0x14, 0xde, 0x5e, 0x0b, 0xdb],
   [0xe0, 0x32, 0x3a, 0x0a, 0x49, 0x06, 0x24, 0x5c, 0xc2, 0xd3, 0xac, 0x62, 0x91, 0x95, 0xe4, 0x79],
   [0xe7, 0xc8, 0x37, 0x6d, 0x8d, 0xd5, 0x4e, 0xa9, 0x6c, 0x56, 0xf4, 0xea, 0x65, 0x7a, 0xae, 0x08],
   [0xba, 0x78, 0x25, 0x2e, 0x1c, 0xa6, 0xb4, 0xc6, 0xe8, 0xdd, 0x74, 0x1f, 0x4b, 0xbd, 0x8b, 0x8a],
   [0x70, 0x3e, 0xb5, 0x66, 0x48, 0x03, 0xf6, 0x0e, 0x61, 0x35, 0x57, 0xb9, 0x86, 0xc1, 0x1d, 0x9e],
   [0xe1, 0xf8, 0x98, 0x11, 0x69, 0xd9, 0x8e, 0x94, 0x9b, 0x1e, 0x87, 0xe9, 0xce, 0x55, 0x28, 0xdf],
   [0x8c, 0xa1, 0x89, 0x0d, 0xbf, 0xe6, 0x42, 0x68, 0x41, 0x99, 0x2d, 0x0f, 0xb0, 0x54, 0xbb, 0x16]]

/-- The S-box at a byte. -/
def aesSub (b : Byte) : Byte := (aesSboxRows.getD (b.toNat / 16) []).getD (b.toNat % 16) 0

/-- Its inverse. -/
def aesUnsub (b : Byte) : Byte := BitVec.ofNat 8 (aesSboxRows.flatten.idxOf b)

/-- A byte times x in the field of AES. -/
def aesDouble (b : Byte) : Byte := (b <<< 1) ^^^ if b.msb then 0x1B#8 else 0#8

/-- A byte times a constant below 16. -/
def aesTimes (k : Nat) (b : Byte) : Byte :=
  let part (i : Nat) (v : Byte) : Byte := if k.testBit i then v else 0
  let b2 := aesDouble b
  let b4 := aesDouble b2
  part 0 b ^^^ part 1 b2 ^^^ part 2 b4 ^^^ part 3 (aesDouble b4)

/-- Bytes combined one by one. -/
def xorBytes (a b : List Byte) : List Byte := List.zipWith (· ^^^ ·) a b

/-- The next words of a key schedule of nk words: f counts the words made, rc is the round constant. -/
def aesExpand (nk : Nat) : Nat → Nat → Byte → List (List Byte) → List (List Byte)
  | 0, _, _, ws => ws
  | n + 1, i, rc, ws =>
    let t := ws.getD (i - 1) []
    let u :=
      if i % nk = 0 then xorBytes ((t.drop 1 ++ t.take 1).map aesSub) [rc, 0, 0, 0]
      else if nk = 8 ∧ i % nk = 4 then t.map aesSub
      else t
    aesExpand nk n (i + 1) (if i % nk = 0 then aesDouble rc else rc) (ws ++ [xorBytes (ws.getD (i - nk) []) u])

/-- The words of a key of 16 or 32 bytes. -/
def aesKeyWords (key : List Byte) : List (List Byte) :=
  (List.range (key.length / 4)).map fun i => (key.drop (4 * i)).take 4

/-- The round keys of a key of 16 or 32 bytes: 11 or 15 of 16 bytes each. -/
def aesKeys (key : List Byte) : List (List Byte) :=
  let nk := key.length / 4
  let ws := aesExpand nk (4 * (nk + 7) - nk) nk 1 (aesKeyWords key)
  (List.range (nk + 7)).map fun i => ((ws.drop (4 * i)).take 4).flatten

/-- The rows of a block of four columns rotated by k times their number. -/
def aesRows (k : Nat) (b : List Byte) : List Byte :=
  (List.range 16).map fun i => b.getD ((i + 4 * (k * (i % 4))) % 16) 0

/-- Each column times a circulant matrix. -/
def aesColumns (m : List Nat) (b : List Byte) : List Byte :=
  (List.range 16).map fun i =>
    (List.range 4).foldl (fun v j => v ^^^ aesTimes (m.getD ((j + 4 - i % 4) % 4) 0) (b.getD (i / 4 * 4 + j) 0)) 0

/-- The rounds after the first round key. -/
def aesRounds : List (List Byte) → List Byte → List Byte
  | [], b => b
  | [k], b => xorBytes (aesRows 1 (b.map aesSub)) k
  | k :: ks, b => aesRounds ks (xorBytes (aesColumns [2, 3, 1, 1] (aesRows 1 (b.map aesSub))) k)

/-- A block enciphered under round keys. -/
def aesEncipher (keys : List (List Byte)) (b : List Byte) : List Byte :=
  match keys with
  | [] => b
  | k :: ks => aesRounds ks (xorBytes b k)

/-- The rounds of the inverse cipher, the round keys in the opposite order. -/
def aesUnrounds : List (List Byte) → List Byte → List Byte
  | [], b => b
  | [k], b => xorBytes ((aesRows 3 b).map aesUnsub) k
  | k :: ks, b => aesUnrounds ks (aesColumns [14, 11, 13, 9] (xorBytes ((aesRows 3 b).map aesUnsub) k))

/-- A block deciphered under round keys. -/
def aesDecipher (keys : List (List Byte)) (b : List Byte) : List Byte :=
  match keys.reverse with
  | [] => b
  | k :: ks => aesUnrounds ks (xorBytes b k)

/-- A block as a number of 128 bits, enciphered. -/
def aesBlock (keys : List (List Byte)) (x : BitVec 128) : BitVec 128 :=
  BitVec.ofNat 128 (ofBeBytes (aesEncipher keys (beBytes 16 x.toNat)))

/-! ### CMAC -/

/-- Twice a block in the field of CMAC. -/
def blockDouble (x : BitVec 128) : BitVec 128 := (x <<< 1) ^^^ if x.msb then 0x87#128 else 0#128

/-- A block of up to 16 bytes, filled with a 1 bit and zeros where it is shorter. -/
def blockPad (m : List Byte) : BitVec 128 :=
  BitVec.ofNat 128 (ofBeBytes ((if m.length < 16 then m ++ [0x80#8] ++ List.replicate 15 0#8 else m).take 16))

/-- The chain over the blocks of a message, at most n of them, with the two subkeys for the last. -/
def cmacChain (keys : List (List Byte)) (k1 k2 : BitVec 128) : Nat → BitVec 128 → List Byte → BitVec 128
  | 0, c, _ => c
  | n + 1, c, m =>
    if m.length ≤ 16 then aesBlock keys (c ^^^ blockPad m ^^^ if m.length = 16 then k1 else k2)
    else cmacChain keys k1 k2 n (aesBlock keys (c ^^^ blockPad (m.take 16))) (m.drop 16)

/-- AES-CMAC of a message under a key. -/
def cmac (key m : List Byte) : BitVec 128 :=
  let keys := aesKeys key
  let k1 := blockDouble (aesBlock keys 0)
  cmacChain keys k1 (blockDouble k1) (m.length / 16 + 1) 0 m

/-! ### AES-SIV -/

/-- The tag S2V of associated data and a plaintext: the first half of the key is for CMAC. -/
def sivTag (key : List Byte) (ads : List (List Byte)) (plain : List Byte) : BitVec 128 :=
  let k := key.take (key.length / 2)
  let d := ads.foldl (fun d a => blockDouble d ^^^ cmac k a) (cmac k (List.replicate 16 0#8))
  let n := plain.length
  if 16 ≤ n then
    cmac k (plain.take (n - 16) ++ xorBytes (plain.drop (n - 16)) (beBytes 16 d.toNat))
  else cmac k (beBytes 16 (blockDouble d ^^^ blockPad plain).toNat)

/-- The key stream of n blocks from a counter up. -/
def ctrStream (keys : List (List Byte)) : Nat → BitVec 128 → List Byte
  | 0, _ => []
  | n + 1, q => beBytes 16 (aesBlock keys q).toNat ++ ctrStream keys n (q + 1)

/-- A text under the key stream of a tag: the second half of the key is for CTR, and the counter starts at the tag with bits
31 and 63 cleared. -/
def sivCrypt (key : List Byte) (tag : BitVec 128) (text : List Byte) : List Byte :=
  xorBytes text (ctrStream (aesKeys (key.drop (key.length / 2))) ((text.length + 15) / 16)
    (tag &&& ~~~ (1#128 <<< 31) &&& ~~~ (1#128 <<< 63)))

/-! ### Key unwrap -/

/-- One step of the unwrap: t counts down, a is the check value and rs the words so far, the last one next. -/
def unwrapSteps (keys : List (List Byte)) (n : Nat) : Nat → List Byte → List (List Byte) → List Byte × List (List Byte)
  | 0, a, rs => (a, rs)
  | t + 1, a, rs =>
    let b := aesDecipher keys (xorBytes a (beBytes 8 (t + 1)) ++ rs.getD (n - 1) [])
    unwrapSteps keys n t (b.take 8) (b.drop 8 :: rs.take (n - 1))

/-- The RFC 3394 unwrap of a blob under a key; none where the check value is not the default IV. -/
def unwrap (key blob : List Byte) : Option (List Byte) :=
  let n := blob.length / 8 - 1
  let r := unwrapSteps (aesKeys key) n (6 * n) (blob.take 8)
    ((List.range n).map fun i => (blob.drop (8 + 8 * i)).take 8)
  if blob.length % 8 = 0 ∧ 2 ≤ n ∧ r.1 = List.replicate 8 0xA6#8 then some r.2.flatten else none

end Sys2Proof.Machine
end

