-- ==== Sys2Proof/Machine/Sparse.lean ====
section
/-!
DEFINITION. Sparse maps from addresses to values in one canonical form: addresses strictly rising, no entry equal to
what an unlisted address holds. The register map of BAR0 and every byte memory of the device use it.
-/
namespace Sys2Proof.Machine

variable {α : Type}

/-- The value at an address: its entry, or the default where it is not listed. -/
def sparseGet (d : Nat → α) : List (Nat × α) → Nat → α
  | [], k => d k
  | (a, v) :: m, k => if k = a then v else sparseGet d m k

/-- The map with every entry of one address taken out. -/
def sparseDrop (m : List (Nat × α)) (k : Nat) : List (Nat × α) := m.filter fun e => e.1 != k

/-- An entry put before the first greater address. -/
def sparsePut (k : Nat) (v : α) : List (Nat × α) → List (Nat × α)
  | [] => [(k, v)]
  | (a, w) :: m => if k < a then (k, v) :: (a, w) :: m else (a, w) :: sparsePut k v m

/-- Writing: the address then reads the value, and the canonical form is kept. -/
def sparseSet [DecidableEq α] (d : Nat → α) (m : List (Nat × α)) (k : Nat) (v : α) : List (Nat × α) :=
  if v = d k then sparseDrop m k else sparsePut k v (sparseDrop m k)

/-- The canonical form. -/
def sparseWf [DecidableEq α] (d : Nat → α) (m : List (Nat × α)) : Bool :=
  decide ((m.map (·.1)).Pairwise (· < ·)) && m.all fun e => decide (e.2 ≠ d e.1)

/-- Every byte that nothing has written reads zero (log entry 1). -/
def memDefault : Nat → Byte := fun _ => 0#8

/-- One byte of a memory. -/
def memRead (m : List (Nat × Byte)) (a : Nat) : Byte := sparseGet memDefault m a

/-- A memory with one byte written. -/
def memWrite (m : List (Nat × Byte)) (a : Nat) (b : Byte) : List (Nat × Byte) := sparseSet memDefault m a b

/-- n bytes from an address up. -/
def memReadBytes (m : List (Nat × Byte)) (a n : Nat) : List Byte := (List.range n).map fun i => memRead m (a + i)

/-- Bytes written from an address up. -/
def memWriteBytes (m : List (Nat × Byte)) (a : Nat) : List Byte → List (Nat × Byte)
  | [] => m
  | b :: bs => memWriteBytes (memWrite m a b) (a + 1) bs

/-- A memory in its canonical form. -/
def Memory.wf (m : List (Nat × Byte)) : Bool := sparseWf memDefault m

end Sys2Proof.Machine
end

