-- ==== Sys2Proof/Machine/Registers.lean ====
section
/-!
DEFINITION. The BAR0 registers of the block map of R30: the offset, access, reset value and domain that the register
tables of the chapters give each register. Offsets carry the spec's register names.
-/
namespace Sys2Proof.Machine

/-! Offsets of the registers; an index argument counts the copies at the strides of the tables. -/
namespace Reg

abbrev GCTL_DEVID : Nat := 0x0
abbrev GCTL_STATUS : Nat := 0x4
abbrev GCTL_BADACC : Nat := 0x8
abbrev GCTL_BADCNT : Nat := 0xC
abbrev GCTL_MODECMD : Nat := 0x10
abbrev GCTL_MODESTAT : Nat := 0x14
abbrev GCTL_RESET : Nat := 0x18
abbrev GCTL_CAUSE : Nat := 0x1C
abbrev GCTL_BOOT : Nat := 0x20
abbrev GCTL_CFGREJ : Nat := 0x24
abbrev GCTL_CFGSEQ_L : Nat := 0x28
abbrev GCTL_CFGSEQ_H : Nat := 0x2C
abbrev GCTL_FWINFO : Nat := 0x30
abbrev GCTL_FLASH_CTL : Nat := 0x40
abbrev GCTL_FLASH_ADDR : Nat := 0x44
abbrev GCTL_FLASH_STAT : Nat := 0x48
abbrev GCTL_OFUSE_CTL : Nat := 0x50
abbrev GCTL_OFUSE_DATA (i : Nat) : Nat := 0x60 + 0x4 * i
abbrev GCTL_FLASH_BUF (i : Nat) : Nat := 0x1000 + 0x4 * i
abbrev CPM_STATUS : Nat := 0x100000
abbrev CPM_ERR : Nat := 0x100004
abbrev CPM_STICKY : Nat := 0x100008
abbrev CPM_PLL : Nat := 0x10000C
abbrev CPM_CLKSEL : Nat := 0x100010
abbrev CPM_PLEVEL : Nat := 0x100014
abbrev CPM_THERM : Nat := 0x100018
abbrev CPM_SCPOL : Nat := 0x10001C
abbrev CPM_TEMP (i : Nat) : Nat := 0x100020 + 0x4 * i
abbrev CPM_TSCFG (i : Nat) : Nat := 0x100030 + 0x4 * i
abbrev CPM_PD_CTL0_1 (i : Nat) : Nat := 0x100040 + 0x4 * i
abbrev CPM_PD_CTL2_18 (i : Nat) : Nat := 0x100048 + 0x4 * i
abbrev CPM_PD_CTL19 : Nat := 0x10008C
abbrev CPM_PD_CTL20 : Nat := 0x100090
abbrev CPM_XQ_IDX : Nat := 0x100100
abbrev CPM_XQ_STAT : Nat := 0x100104
abbrev CPM_XQ_CNT : Nat := 0x100108
abbrev CPM_DORM : Nat := 0x100200
abbrev CPM_DORM_STAT : Nat := 0x100204
abbrev CPM_WAKE_W (i : Nat) : Nat := 0x100210 + 0x4 * i
abbrev CPM_I2C0_CTL : Nat := 0x100300
abbrev CPM_I2C_XFER (i : Nat) : Nat := 0x100304 + 0x20 * i
abbrev CPM_I2C_DATA0 (i : Nat) : Nat := 0x100308 + 0x20 * i
abbrev CPM_I2C_DATA1 (i : Nat) : Nat := 0x10030C + 0x20 * i
abbrev CPM_I2C_STAT (i : Nat) : Nat := 0x100310 + 0x20 * i
abbrev CPM_I2C1_CTL : Nat := 0x100320
abbrev CPM_KEEP (i : Nat) : Nat := 0x100800 + 0x4 * i
abbrev CAL_CTRL : Nat := 0x200000
abbrev CAL_STATUS : Nat := 0x200004
abbrev CAL_ERR : Nat := 0x200008
abbrev CAL_INCR_L : Nat := 0x200010
abbrev CAL_INCR_H : Nat := 0x200014
abbrev CAL_INCR_CUR_L : Nat := 0x200018
abbrev CAL_INCR_CUR_H : Nat := 0x20001C
abbrev CAL_STEP_W (i : Nat) : Nat := 0x200020 + 0x4 * i
abbrev CAL_STEP_CMD : Nat := 0x20002C
abbrev CAL_NOW_W (i : Nat) : Nat := 0x200030 + 0x4 * i
abbrev CAL_SNAP_W (i : Nat) : Nat := 0x200040 + 0x4 * i
abbrev CAL_SNAP_CTL : Nat := 0x20004C
abbrev CAL_PTM_CTRL : Nat := 0x200060
abbrev CAL_PTM_STATUS : Nat := 0x200064
abbrev CAL_PTM_DEV_W (i : Nat) : Nat := 0x200068 + 0x4 * i
abbrev CAL_PTM_HOST_L : Nat := 0x200074
abbrev CAL_PTM_HOST_H : Nat := 0x200078
abbrev CAL_PTM_DELAY : Nat := 0x20007C
abbrev CAL_UTC_CTRL : Nat := 0x200080
abbrev CAL_UTC_BASE : Nat := 0x200084
abbrev CAL_UTC_EXP_L : Nat := 0x200088
abbrev CAL_UTC_EXP_H : Nat := 0x20008C
abbrev CAL_UTC_CMD : Nat := 0x200090
abbrev CAL_UTC_STATUS : Nat := 0x200094
abbrev CAL_LEAP_L (i : Nat) : Nat := 0x200100 + 0x8 * i
abbrev CAL_LEAP_H (i : Nat) : Nat := 0x200104 + 0x8 * i
abbrev SEL_CTRL : Nat := 0x300000
abbrev SEL_STATUS : Nat := 0x300004
abbrev SEL_CMD : Nat := 0x300008
abbrev SEL_ERR : Nat := 0x30000C
abbrev SEL_QUAL : Nat := 0x300010
abbrev SEL_FLIM : Nat := 0x300014
abbrev SEL_DIS : Nat := 0x300018
abbrev SEL_LOOP : Nat := 0x30001C
abbrev SEL_HO : Nat := 0x300020
abbrev SEL_HOCTL : Nat := 0x300024
abbrev SEL_HOFLOOR_FU : Nat := 0x300028
abbrev SEL_HOFLOOR_TU : Nat := 0x30002C
abbrev SEL_HOFLOOR_AU : Nat := 0x300030
abbrev SEL_EST : Nat := 0x300034
abbrev SEL_RESID_L : Nat := 0x300038
abbrev SEL_RESID_H : Nat := 0x30003C
abbrev SEL_TEMP : Nat := 0x300040
abbrev SEL_LRN_FU : Nat := 0x300044
abbrev SEL_LRN_AU : Nat := 0x300048
abbrev SEL_MOD (i : Nat) : Nat := 0x300080 + 0x4 * i
abbrev SEL_SEED_C (i : Nat) : Nat := 0x3000C0 + 0x4 * i
abbrev SEL_SEED_TREF : Nat := 0x3000DC
abbrev SEL_SEED_TM_L : Nat := 0x3000E0
abbrev SEL_SEED_TM_H : Nat := 0x3000E4
abbrev SEL_SLOT_CFG0 : Nat := 0x300100
abbrev SEL_SLOT_COMP (i : Nat) : Nat := 0x300104 + 0x40 * i
abbrev SEL_SLOT_STAT (i : Nat) : Nat := 0x300108 + 0x40 * i
abbrev SEL_SLOT_OFF_L (i : Nat) : Nat := 0x30010C + 0x40 * i
abbrev SEL_SLOT_OFF_H (i : Nat) : Nat := 0x300110 + 0x40 * i
abbrev SEL_SLOT_FREQ (i : Nat) : Nat := 0x300114 + 0x40 * i
abbrev SEL_SLOT_MCNT (i : Nat) : Nat := 0x300118 + 0x40 * i
abbrev SEL_SLOT_DCNT (i : Nat) : Nat := 0x30011C + 0x40 * i
abbrev SEL_SLOT_CFG1_4 (i : Nat) : Nat := 0x300140 + 0x40 * i
abbrev SEL_SLOT_CFG5_12 (i : Nat) : Nat := 0x300240 + 0x40 * i
abbrev SEL_SLOT_CFG13 : Nat := 0x300440
abbrev SEL_SLOT_CFG14_15 (i : Nat) : Nat := 0x300480 + 0x40 * i
abbrev SEL_INJ_OFF_W0 (i : Nat) : Nat := 0x300600 + 0x20 * i
abbrev SEL_INJ_OFF_W1 (i : Nat) : Nat := 0x300604 + 0x20 * i
abbrev SEL_INJ_OFF_W2 (i : Nat) : Nat := 0x300608 + 0x20 * i
abbrev SEL_INJ_AT_W0 (i : Nat) : Nat := 0x30060C + 0x20 * i
abbrev SEL_INJ_AT_W1 (i : Nat) : Nat := 0x300610 + 0x20 * i
abbrev SEL_INJ_AT_W2 (i : Nat) : Nat := 0x300614 + 0x20 * i
abbrev SEL_INJ_CTL (i : Nat) : Nat := 0x300618 + 0x20 * i
abbrev DRY_CTRL : Nat := 0x400000
abbrev DRY_STATUS : Nat := 0x400004
abbrev DRY_ERR : Nat := 0x400008
abbrev DRY_PPS_CTL (i : Nat) : Nat := 0x400100 + 0x20 * i
abbrev DRY_PPS_WIDTH (i : Nat) : Nat := 0x400104 + 0x20 * i
abbrev DRY_PPS_DELAY (i : Nat) : Nat := 0x400108 + 0x20 * i
abbrev DRY_PPS_LAST (i : Nat) : Nat := 0x40010C + 0x20 * i
abbrev DRY_PPS_SKIP (i : Nat) : Nat := 0x400110 + 0x20 * i
abbrev DRY_CLK_CTL (i : Nat) : Nat := 0x400200 + 0x20 * i
abbrev DRY_CLK_FREQ (i : Nat) : Nat := 0x400204 + 0x20 * i
abbrev DRY_CLK_DELAY (i : Nat) : Nat := 0x400208 + 0x20 * i
abbrev DRY_CLK_STRETCH (i : Nat) : Nat := 0x400210 + 0x20 * i
abbrev DRY_TOD_CTL : Nat := 0x400300
abbrev DRY_TOD_LATE : Nat := 0x400304
abbrev DRY_TOD_SENT : Nat := 0x400308
abbrev DRY_TOD_BUF (i : Nat) : Nat := 0x400320 + 0x4 * i
abbrev DRY_GPPS_CTL : Nat := 0x400340
abbrev DRY_CKMON : Nat := 0x400380
abbrev GRV_CTRL : Nat := 0x500000
abbrev GRV_STATUS : Nat := 0x500004
abbrev GRV_ERR : Nat := 0x500008
abbrev GRV_STICKY : Nat := 0x50000C
abbrev GRV_STICKY_EN : Nat := 0x500010
abbrev GRV_LOINC_L : Nat := 0x500020
abbrev GRV_LOINC_H : Nat := 0x500024
abbrev GRV_LOINC_CUR_L : Nat := 0x500028
abbrev GRV_LOINC_CUR_H : Nat := 0x50002C
abbrev GRV_REFNOM (i : Nat) : Nat := 0x500040 + 0x4 * i
abbrev GRV_CH_CTL0_7 (i : Nat) : Nat := 0x500100 + 0x40 * i
abbrev GRV_CH_THR (i : Nat) : Nat := 0x500104 + 0x40 * i
abbrev GRV_CH_DIV0_11 (i : Nat) : Nat := 0x500108 + 0x40 * i
abbrev GRV_CH_OFS (i : Nat) : Nat := 0x50010C + 0x40 * i
abbrev GRV_CH_WSTART_W (i j : Nat) : Nat := 0x500110 + 0x40 * i + 0x4 * j
abbrev GRV_CH_WSTOP_W (i j : Nat) : Nat := 0x50011C + 0x40 * i + 0x4 * j
abbrev GRV_CH_STAT (i : Nat) : Nat := 0x500128 + 0x40 * i
abbrev GRV_CH_POP_W (i j : Nat) : Nat := 0x50012C + 0x40 * i + 0x4 * j
abbrev GRV_CH_CNT (i : Nat) : Nat := 0x50013C + 0x40 * i
abbrev GRV_CH_CTL8_17 (i : Nat) : Nat := 0x500300 + 0x40 * i
abbrev GRV_CH_DIV12_15 (i : Nat) : Nat := 0x500408 + 0x40 * i
abbrev GRV_CH_DIV16_19 (i : Nat) : Nat := 0x500508 + 0x40 * i
abbrev GRV_CH_CTL18_19 (i : Nat) : Nat := 0x500580 + 0x40 * i
abbrev GRV_REG_CTL (i : Nat) : Nat := 0x500800 + 0x40 * i
abbrev GRV_REG_NOMF (i : Nat) : Nat := 0x500804 + 0x40 * i
abbrev GRV_REG_N (i : Nat) : Nat := 0x500808 + 0x40 * i
abbrev GRV_REG_PER_L (i : Nat) : Nat := 0x50080C + 0x40 * i
abbrev GRV_REG_PER_H (i : Nat) : Nat := 0x500810 + 0x40 * i
abbrev GRV_REG_Y_L (i : Nat) : Nat := 0x500814 + 0x40 * i
abbrev GRV_REG_Y_H (i : Nat) : Nat := 0x500818 + 0x40 * i
abbrev GRV_REG_RESID (i : Nat) : Nat := 0x50081C + 0x40 * i
abbrev GRV_REG_RSTAT (i : Nat) : Nat := 0x500820 + 0x40 * i
abbrev GNS_CTRL : Nat := 0x600000
abbrev GNS_STATUS : Nat := 0x600004
abbrev GNS_ERR : Nat := 0x600008
abbrev GNS_STICKY : Nat := 0x60000C
abbrev GNS_STICKY_EN : Nat := 0x600010
abbrev GNS_CLK : Nat := 0x600014
abbrev GNS_SCNT_L : Nat := 0x600018
abbrev GNS_SCNT_H : Nat := 0x60001C
abbrev GNS_STIME_W (i : Nat) : Nat := 0x600020 + 0x4 * i
abbrev GNS_SIN_CTL (i : Nat) : Nat := 0x600040 + 0x10 * i
abbrev GNS_SIN_FC (i : Nat) : Nat := 0x600044 + 0x30 * i
abbrev GNS_SIN_STAT (i : Nat) : Nat := 0x600048 + 0x10 * i
abbrev GNS_SIN1_FC : Nat := 0x600054
abbrev GNS_SIN2_FC : Nat := 0x600064
abbrev GNS_SIG (i : Nat) : Nat := 0x600100 + 0x4 * i
abbrev GNS_LOOP0_A : Nat := 0x600180
abbrev GNS_LOOP0_B : Nat := 0x600184
abbrev GNS_LOOP1_A : Nat := 0x600188
abbrev GNS_LOOP1_B : Nat := 0x60018C
abbrev GNS_LOOP2_A : Nat := 0x600190
abbrev GNS_LOOP2_B : Nat := 0x600194
abbrev GNS_LOOP3_A : Nat := 0x600198
abbrev GNS_LOOP3_B : Nat := 0x60019C
abbrev GNS_ACQ_CFG : Nat := 0x6001C0
abbrev GNS_AID_CTL : Nat := 0x6001D0
abbrev GNS_AID_STAT : Nat := 0x6001D4
abbrev GNS_TPG_CTL : Nat := 0x6001E0
abbrev GNS_TPG_DOP : Nat := 0x6001E4
abbrev GNS_TPG_CODE : Nat := 0x6001E8
abbrev GNS_BURST : Nat := 0x600200
abbrev GNS_BSTAT : Nat := 0x600204
abbrev GNS_CNT_LATE : Nat := 0x600300
abbrev GNS_CNT_QOVF : Nat := 0x600304
abbrev GNS_CNT_LOST : Nat := 0x600308
abbrev GNS_CNT_ACQ : Nat := 0x60030C
abbrev GNS_CH (i : Nat) : Nat := 0x601000 + 0x4 * i
abbrev GNS_AIDBUF (i : Nat) : Nat := 0x610000 + 0x4 * i
abbrev GNS_NAV_CTL : Nat := 0x620000
abbrev GNS_NAV_STAT : Nat := 0x620004
abbrev GNS_NERR : Nat := 0x620008
abbrev GNS_ICHK1 : Nat := 0x62000C
abbrev GNS_ICHK2 : Nat := 0x620010
abbrev GNS_ICHK3 : Nat := 0x620014
abbrev GNS_IFLAGS : Nat := 0x620018
abbrev GNS_SURVEY : Nat := 0x62001C
abbrev GNS_FPOS (i : Nat) : Nat := 0x620020 + 0x4 * i
abbrev GNS_NAV_CMD : Nat := 0x620038
abbrev GNS_FIX (i : Nat) : Nat := 0x620040 + 0x4 * i
abbrev GNS_QERR_SEC : Nat := 0x620080
abbrev GNS_QERR : Nat := 0x620084
abbrev GNS_OSNMA : Nat := 0x620090
abbrev GNS_CNT_TAGFAIL : Nat := 0x620094
abbrev GNS_CNT_EXCL : Nat := 0x620098
abbrev GNS_BLEAP : Nat := 0x6200A0
abbrev GNS_BLEAP_AT_L : Nat := 0x6200A4
abbrev GNS_BLEAP_AT_H : Nat := 0x6200A8
abbrev GNS_SIN_DLY (i : Nat) : Nat := 0x620100 + 0x4 * i
abbrev GNS_BIAS (i : Nat) : Nat := 0x620140 + 0x4 * i
abbrev GNS_SV_A (i : Nat) : Nat := 0x621000 + 0x8 * i
abbrev GNS_SV_B (i : Nat) : Nat := 0x621004 + 0x8 * i
abbrev PRT_QUAD (i : Nat) : Nat := 0x700000 + 0x40000 * i
abbrev PRT_CTRL (i : Nat) : Nat := 0x700004 + 0x10000 * i
abbrev PRT_STATUS (i : Nat) : Nat := 0x700008 + 0x10000 * i
abbrev PRT_STICKY (i : Nat) : Nat := 0x70000C + 0x10000 * i
abbrev PRT_STICKY_EN (i : Nat) : Nat := 0x700010 + 0x10000 * i
abbrev PRT_MAC_L (i : Nat) : Nat := 0x700014 + 0x10000 * i
abbrev PRT_MAC_H (i : Nat) : Nat := 0x700018 + 0x10000 * i
abbrev PRT_TXCTL (i : Nat) : Nat := 0x70001C + 0x10000 * i
abbrev PRT_MEAS_RX (i : Nat) : Nat := 0x700020 + 0x10000 * i
abbrev PRT_MEAS_TX (i : Nat) : Nat := 0x700024 + 0x10000 * i
abbrev PRT_CAL_CTRL (i : Nat) : Nat := 0x700028 + 0x10000 * i
abbrev PRT_CAL_LOOP (i : Nat) : Nat := 0x70002C + 0x10000 * i
abbrev PRT_CAL_TX_W0 (i : Nat) : Nat := 0x700030 + 0x10000 * i
abbrev PRT_CAL_TX_W1 (i : Nat) : Nat := 0x700034 + 0x10000 * i
abbrev PRT_CAL_TX_W2 (i : Nat) : Nat := 0x700038 + 0x10000 * i
abbrev PRT_TRIM_RX (i j : Nat) : Nat := 0x700040 + 0x10000 * i + 0x8 * j
abbrev PRT_TRIM_TX (i j : Nat) : Nat := 0x700044 + 0x10000 * i + 0x8 * j
abbrev PRT_CNT_RX (i : Nat) : Nat := 0x700080 + 0x10000 * i
abbrev PRT_CNT_RXDROP (i : Nat) : Nat := 0x700084 + 0x10000 * i
abbrev PRT_CNT_TX (i : Nat) : Nat := 0x700088 + 0x10000 * i
abbrev PRT_CNT_TXDROP (i : Nat) : Nat := 0x70008C + 0x10000 * i
abbrev PRT_CNT_PAUSE (i : Nat) : Nat := 0x700090 + 0x10000 * i
abbrev PRT_CNT_FECCORR (i : Nat) : Nat := 0x700094 + 0x10000 * i
abbrev PRT_CNT_SUSPECT (i : Nat) : Nat := 0x700098 + 0x10000 * i
abbrev PRT_CNT_CAPLOST (i : Nat) : Nat := 0x70009C + 0x10000 * i
abbrev CLS_CTRL : Nat := 0x800000
abbrev CLS_HASH_SEED : Nat := 0x800004
abbrev CLS_NOTILE : Nat := 0x800008
abbrev CLS_MALFORMED : Nat := 0x80000C
abbrev CLS_DISABLED : Nat := 0x800010
abbrev CLS_CAPLOST : Nat := 0x800014
abbrev CLS_RULE (i : Nat) : Nat := 0x800040 + 0x4 * i
abbrev CLS_DISP (i : Nat) : Nat := 0x800100 + 0x4 * i
abbrev CLS_IND (i : Nat) : Nat := 0x801000 + 0x4 * i
abbrev GYS_CTRL : Nat := 0x900000
abbrev GYS_STATUS : Nat := 0x900004
abbrev GYS_BANK_CTL : Nat := 0x900008
abbrev GYS_BANK_STAT : Nat := 0x90000C
abbrev GYS_STICKY : Nat := 0x900010
abbrev GYS_STICKY_EN : Nat := 0x900014
abbrev GYS_SCHED : Nat := 0x900018
abbrev GYS_CLSQ0 : Nat := 0x900020
abbrev GYS_CLSQ1 : Nat := 0x900024
abbrev GYS_CLSQ2 : Nat := 0x900028
abbrev GYS_CLSQ3 : Nat := 0x90002C
abbrev GYS_CLSL (i : Nat) : Nat := 0x900030 + 0x4 * i
abbrev GYS_FAULT0 : Nat := 0x900040
abbrev GYS_FAULT1 : Nat := 0x900044
abbrev GYS_FAULT2 : Nat := 0x900048
abbrev GYS_TMR_CTL (i : Nat) : Nat := 0x900100 + 0x10 * i
abbrev GYS_TMR_ENTRY (i : Nat) : Nat := 0x900104 + 0x10 * i
abbrev GYS_TMR_PERIOD (i : Nat) : Nat := 0x900108 + 0x10 * i
abbrev GYS_MAP (i : Nat) : Nat := 0x900200 + 0x4 * i
abbrev GYS_DROP (i : Nat) : Nat := 0x900400 + 0x4 * i
abbrev GYS_KILL (i : Nat) : Nat := 0x900500 + 0x4 * i
abbrev GYS_ADMDROP (i : Nat) : Nat := 0x900580 + 0x4 * i
abbrev GYS_STALE (i : Nat) : Nat := 0x900590 + 0x4 * i
abbrev GYS_NOPORT : Nat := 0x9005A0
abbrev GYS_TIMERSKIP : Nat := 0x9005A4
abbrev GYS_HDRA (i : Nat) : Nat := 0x901000 + 0x4 * i
abbrev GYS_HDRB (i : Nat) : Nat := 0x901200 + 0x4 * i
abbrev CRY_CTRL : Nat := 0xA00000
abbrev CRY_STATUS : Nat := 0xA00004
abbrev CRY_STICKY : Nat := 0xA00008
abbrev CRY_STICKY_EN : Nat := 0xA0000C
abbrev CRY_KCMD : Nat := 0xA00010
abbrev CRY_KSTAT : Nat := 0xA00014
abbrev CRY_WRAPIN (i : Nat) : Nat := 0xA00020 + 0x4 * i
abbrev CRY_KSLOT (i : Nat) : Nat := 0xA00100 + 0x8 * i
abbrev CRY_KID (i : Nat) : Nat := 0xA00104 + 0x8 * i
abbrev CRY_HMINT_IN (i : Nat) : Nat := 0xA00400 + 0x4 * i
abbrev CRY_HMINT_OUT (i : Nat) : Nat := 0xA00480 + 0x4 * i
abbrev CRY_HMINT_CTL : Nat := 0xA004F0
abbrev CRY_ANCH_DATA (i : Nat) : Nat := 0xA00600 + 0x4 * i
abbrev CRY_ANCH_CTL : Nat := 0xA00680
abbrev CRY_ANCH_STAT : Nat := 0xA00684
abbrev CRY_CNT_JOB : Nat := 0xA00700
abbrev CRY_CNT_FAIL : Nat := 0xA00704
abbrev BNE_CTRL : Nat := 0xB00000
abbrev BNE_STATUS : Nat := 0xB00004
abbrev BNE_ERR : Nat := 0xB00008
abbrev BNE_ECCCNT : Nat := 0xB0000C
abbrev BNE_UINFO : Nat := 0xB00010
abbrev BNE_P_CMD0 (i : Nat) : Nat := 0xB00020 + 0x10 * i
abbrev BNE_P_CMD1 (i : Nat) : Nat := 0xB00024 + 0x10 * i
abbrev BNE_P_RES (i : Nat) : Nat := 0xB00028 + 0x10 * i
abbrev BNE_P_TIME (i : Nat) : Nat := 0xB0002C + 0x10 * i
abbrev BNE_UHDR (i : Nat) : Nat := 0xB00200 + 0x4 * i
abbrev BNE_OPMEM (i : Nat) : Nat := 0xB08000 + 0x4 * i
abbrev BNE_UCODE (i : Nat) : Nat := 0xB10000 + 0x4 * i
abbrev DMA_CTRL : Nat := 0xC00000
abbrev DMA_STATUS : Nat := 0xC00004
abbrev DMA_ERR : Nat := 0xC00008
abbrev DMA_STICKY : Nat := 0xC0000C
abbrev DMA_STICKY_EN : Nat := 0xC00010
abbrev DMA_POOL : Nat := 0xC00014
abbrev DMA_CNT_EVLOST : Nat := 0xC00018
abbrev DMA_CNT_BAR2 : Nat := 0xC0001C
abbrev DMA_CNT_NOHOST : Nat := 0xC00020
abbrev DMA_WIN_CTL (i : Nat) : Nat := 0xC01000 + 0x10 * i
abbrev DMA_WIN_DA (i : Nat) : Nat := 0xC01004 + 0x10 * i
abbrev DMA_WIN_HA_L (i : Nat) : Nat := 0xC01008 + 0x10 * i
abbrev DMA_WIN_HA_H (i : Nat) : Nat := 0xC0100C + 0x10 * i
abbrev DMA_RING_BASE_L (i : Nat) : Nat := 0xC02000 + 0x40 * i
abbrev DMA_RING_BASE_H (i : Nat) : Nat := 0xC02004 + 0x40 * i
abbrev DMA_RING_CFG (i : Nat) : Nat := 0xC02008 + 0x40 * i
abbrev DMA_RING_PROD (i : Nat) : Nat := 0xC0200C + 0x40 * i
abbrev DMA_RING_CONS (i : Nat) : Nat := 0xC02010 + 0x40 * i
abbrev DMA_RING_BUDGET (i : Nat) : Nat := 0xC02014 + 0x40 * i
abbrev DMA_RING_STAT (i : Nat) : Nat := 0xC02018 + 0x40 * i
abbrev DMA_RING_CMD (i : Nat) : Nat := 0xC0201C + 0x40 * i
abbrev DMA_RING_FINFO (i : Nat) : Nat := 0xC02020 + 0x40 * i
abbrev DMA_RING_FDA_L (i : Nat) : Nat := 0xC02024 + 0x40 * i
abbrev DMA_RING_FDA_H (i : Nat) : Nat := 0xC02028 + 0x40 * i
abbrev DMA_RING_CNT_DONE (i : Nat) : Nat := 0xC0202C + 0x40 * i
abbrev DMA_RING_CNT_DROP (i : Nat) : Nat := 0xC02030 + 0x40 * i
abbrev DMA_ERING_BASE_L (i : Nat) : Nat := 0xC03000 + 0x40 * i
abbrev DMA_ERING_BASE_H (i : Nat) : Nat := 0xC03004 + 0x40 * i
abbrev DMA_ERING_CFG (i : Nat) : Nat := 0xC03008 + 0x40 * i
abbrev DMA_ERING_PROD (i : Nat) : Nat := 0xC0300C + 0x40 * i
abbrev DMA_ERING_CONS (i : Nat) : Nat := 0xC03010 + 0x40 * i
abbrev DMA_ERING_STAT (i : Nat) : Nat := 0xC03018 + 0x40 * i
abbrev DMA_ERING_CMD (i : Nat) : Nat := 0xC0301C + 0x40 * i
abbrev DMA_ERING_FINFO (i : Nat) : Nat := 0xC03020 + 0x40 * i
abbrev DMA_ERING_FDA_L (i : Nat) : Nat := 0xC03024 + 0x40 * i
abbrev DMA_ERING_FDA_H (i : Nat) : Nat := 0xC03028 + 0x40 * i
abbrev DMA_ERING_CNT_DONE (i : Nat) : Nat := 0xC0302C + 0x40 * i
abbrev DMA_ERING_CNT_DROP (i : Nat) : Nat := 0xC03030 + 0x40 * i
abbrev MSIX_ADDR_L (i : Nat) : Nat := 0xC80000 + 0x10 * i
abbrev MSIX_ADDR_H (i : Nat) : Nat := 0xC80004 + 0x10 * i
abbrev MSIX_DATA (i : Nat) : Nat := 0xC80008 + 0x10 * i
abbrev MSIX_CTL (i : Nat) : Nat := 0xC8000C + 0x10 * i
abbrev MSIX_PBA (i : Nat) : Nat := 0xC81000 + 0x4 * i
abbrev EVT_CTRL : Nat := 0xD00000
abbrev EVT_ERR : Nat := 0xD00004
abbrev EVT_RAW (i : Nat) : Nat := 0xD00010 + 0x4 * i
abbrev EVT_SRC (i : Nat) : Nat := 0xD00400 + 0x4 * i
abbrev EVT_VEC (i : Nat) : Nat := 0xD00800 + 0x4 * i
abbrev REL_STICKY : Nat := 0xE00000
abbrev REL_ERR : Nat := 0xE00004
abbrev REL_ECC_CORR : Nat := 0xE00008
abbrev REL_ECC_UNC : Nat := 0xE0000C
abbrev REL_SCRUB : Nat := 0xE00010
abbrev REL_TRANS : Nat := 0xE00014
abbrev REL_STQ : Nat := 0xE00018
abbrev REL_CNT_GHOST : Nat := 0xE0001C
abbrev REL_RET_TILE0_1 (i : Nat) : Nat := 0xE00020 + 0x4 * i
abbrev REL_RET_TILE2 : Nat := 0xE00028
abbrev REL_RET_LANE : Nat := 0xE0002C
abbrev REL_WDG_CFG0 : Nat := 0xE00030
abbrev REL_WDG_CFG1 : Nat := 0xE00034
abbrev REL_WDG_CFG2 : Nat := 0xE00038
abbrev REL_WDG_KICK : Nat := 0xE0003C
abbrev REL_WDG_STAT : Nat := 0xE00040
abbrev REL_LOG_CTRL : Nat := 0xE00050
abbrev REL_LOG_HEAD : Nat := 0xE00054
abbrev REL_LOG_TAIL : Nat := 0xE00058
abbrev REL_LOG_LOST : Nat := 0xE0005C
abbrev REL_LOG_SEL : Nat := 0xE00060
abbrev REL_LOG_RSTAT : Nat := 0xE00064
abbrev REL_LOG_DATA (i : Nat) : Nat := 0xE00080 + 0x4 * i
abbrev REL_LOG_IN (i : Nat) : Nat := 0xE000A0 + 0x4 * i
abbrev REL_WEAR : Nat := 0xE000C0
abbrev PAR_CTRL : Nat := 0xF00000
abbrev PAR_STATUS : Nat := 0xF00004
abbrev PAR_ERR : Nat := 0xF00008
abbrev PAR_CMD : Nat := 0xF0000C
abbrev PAR_EPOCH : Nat := 0xF00010
abbrev PAR_TKMODE : Nat := 0xF00014
abbrev PAR_PEER_DSN_L : Nat := 0xF00018
abbrev PAR_PEER_DSN_H : Nat := 0xF0001C
abbrev PAR_MIR_CTL (i : Nat) : Nat := 0xF00020 + 0x4 * i
abbrev PAR_CNT_HBMISS : Nat := 0xF00040
abbrev PAR_CNT_STALE : Nat := 0xF00044
abbrev PAR_CNT_CRC : Nat := 0xF00048
abbrev PAR_CNT_MDISC : Nat := 0xF0004C
abbrev PAR_CNT_MLOST : Nat := 0xF00050
abbrev SEL_SEED (i : Nat) : Nat := 0x3000C0 + 4 * i
abbrev SEL_SLOT_CFG (i : Nat) : Nat := 0x300100 + 0x40 * i
abbrev GRV_CH_CTL (i : Nat) : Nat := 0x500100 + 0x40 * i
abbrev GRV_CH_DIV (i : Nat) : Nat := 0x500108 + 0x40 * i
abbrev GNS_SIN_FREQ (i : Nat) : Nat := 0x600044 + 0x10 * i
abbrev GNS_LOOP_A (i : Nat) : Nat := 0x600180 + 8 * i
abbrev GNS_LOOP_B (i : Nat) : Nat := 0x600184 + 8 * i
abbrev REL_RET_TILE (i : Nat) : Nat := 0xE00020 + 4 * i
abbrev REL_WDG_CFG (i : Nat) : Nat := 0xE00030 + 4 * i
abbrev GYS_CLSQ (i : Nat) : Nat := 0x900020 + 4 * i
abbrev CPM_PD_CTL (d : Nat) : Nat := 0x100040 + 4 * d
abbrev CPM_I2C_CTL (i : Nat) : Nat := 0x100300 + 0x20 * i

end Reg

/-- How a register's reset value is given: one constant, or a value that depends on the copy. -/
inductive RegReset where
  /-- the same value in every copy -/
  | const (v : Word)
  /-- CLS_INDm: entry 4m + j in bits 8j + 6 to 8j is (4m + j) mod 64 (R93) -/
  | clsInd
  /-- GYS_MAPl: physical tile 9 (l / 8) + l mod 8, mapped, on (R132) -/
  | gysMap
  /-- GNS_SIGs: the rows of the signal table of R278 -/
  | gnsSig
  /-- GNS_CHc: bits 7 to 4 hold c >> 4 (R295) -/
  | gnsCh
  /-- EVT_SRCs: vector s >> 1, IRQ and REC set (R370) -/
  | evtSrc
  deriving DecidableEq, Repr

/-- One row of a register table: copies at base + stride1 i + stride2 j, the bits of each access code of R6, the
reset value, and the power domain that holds the register's logic (R32 step 3). -/
structure RegRow where
  base : Nat
  stride1 : Nat
  count1 : Nat
  stride2 : Nat
  count2 : Nat
  rw : Word
  w1c : Word
  w1s : Word
  rc : Word
  reset : RegReset
  domain : Nat
  deriving DecidableEq, Repr

/-- The power-domain numbers of R419. -/
abbrev PD_AON : Nat := 0
abbrev PD_FABRIC : Nat := 1
abbrev PD_ARRAY (k : Nat) : Nat := 2 + k
abbrev PD_CRYPTO : Nat := 10
abbrev PD_BNE : Nat := 11
abbrev PD_GNSS_ACQ : Nat := 12
abbrev PD_GNSS_TRK : Nat := 13
abbrev PD_TDC : Nat := 14
abbrev PD_SERDES (q : Nat) : Nat := 15 + q
abbrev PD_PCIE : Nat := 19
abbrev PD_PAIR : Nat := 20

/-- Stands for the domain of the quad of a port block (R31, R32). -/
abbrev domainOfQuad : Nat := 99

/-- Rows of the GCTL block. -/
def gctlRows0 : List RegRow :=
  [ ⟨0x0, 0x4, 1, 0x4, 1, 0x0, 0x0, 0x0, 0x0, .const 0x42100110, PD_AON⟩,
    ⟨0x4, 0x4, 1, 0x4, 1, 0x0, 0x0, 0x0, 0x0, .const 0x1, PD_AON⟩,
    ⟨0x8, 0x4, 1, 0x4, 1, 0x0, 0x80000000, 0x0, 0x0, .const 0x0, PD_AON⟩,
    ⟨0xC, 0x4, 1, 0x4, 1, 0x0, 0x0, 0x0, 0xFFFFFFFF, .const 0x0, PD_AON⟩,
    ⟨0x10, 0x4, 1, 0x4, 1, 0x0, 0x0, 0x0, 0x0, .const 0x0, PD_AON⟩,
    ⟨0x14, 0x4, 1, 0x4, 1, 0x0, 0x0, 0x0, 0x0, .const 0x0, PD_AON⟩,
    ⟨0x18, 0x4, 1, 0x4, 1, 0x0, 0x0, 0x0, 0x0, .const 0x0, PD_AON⟩,
    ⟨0x1C, 0x4, 1, 0x4, 1, 0x0, 0x3F3F, 0x0, 0x0, .const 0x1, PD_AON⟩,
    ⟨0x20, 0x4, 1, 0x4, 1, 0x0, 0x0, 0x0, 0x0, .const 0x2C0, PD_AON⟩,
    ⟨0x24, 0x4, 1, 0x4, 1, 0x0, 0x0, 0x0, 0x0, .const 0x808, PD_AON⟩,
    ⟨0x28, 0x4, 1, 0x4, 1, 0x0, 0x0, 0x0, 0x0, .const 0x0, PD_AON⟩,
    ⟨0x2C, 0x4, 1, 0x4, 1, 0x0, 0x0, 0x0, 0x0, .const 0x0, PD_AON⟩,
    ⟨0x30, 0x4, 1, 0x4, 1, 0x0, 0x0, 0x0, 0x0, .const 0x0, PD_AON⟩,
    ⟨0x40, 0x4, 1, 0x4, 1, 0x0, 0x0, 0x0, 0x0, .const 0x0, PD_AON⟩,
    ⟨0x44, 0x4, 1, 0x4, 1, 0xFFFFFFFF, 0x0, 0x0, 0x0, .const 0x0, PD_AON⟩,
    ⟨0x48, 0x4, 1, 0x4, 1, 0x0, 0x0, 0x0, 0x0, .const 0x0, PD_AON⟩ ]

/-- Rows of the GCTL block. -/
def gctlRows1 : List RegRow :=
  [ ⟨0x50, 0x4, 1, 0x4, 1, 0x0, 0x0, 0x0, 0x0, .const 0x0, PD_AON⟩,
    ⟨0x60, 0x4, 12, 0x4, 1, 0x0, 0x0, 0x0, 0x0, .const 0x0, PD_AON⟩,
    ⟨0x1000, 0x4, 1024, 0x4, 1, 0xFFFFFFFF, 0x0, 0x0, 0x0, .const 0x0, PD_AON⟩ ]

/-- Rows of the CPM block. -/
def cpmRows0 : List RegRow :=
  [ ⟨0x100000, 0x4, 1, 0x4, 1, 0x0, 0x0, 0x0, 0x0, .const 0x0, PD_AON⟩,
    ⟨0x100004, 0x4, 1, 0x4, 1, 0x0, 0x77, 0x0, 0x0, .const 0x0, PD_AON⟩,
    ⟨0x100008, 0x4, 1, 0x4, 1, 0x0, 0x3FF, 0x0, 0x0, .const 0x0, PD_AON⟩,
    ⟨0x10000C, 0x4, 1, 0x4, 1, 0x0, 0x0, 0x0, 0x0, .const 0x0, PD_AON⟩,
    ⟨0x100010, 0x4, 1, 0x4, 1, 0x11, 0x0, 0x0, 0x0, .const 0x4, PD_AON⟩,
    ⟨0x100014, 0x4, 1, 0x4, 1, 0xFF0003, 0x0, 0x0, 0x0, .const 0x140000, PD_AON⟩,
    ⟨0x100018, 0x4, 1, 0x4, 1, 0xFFFFFF, 0x0, 0x0, 0x0, .const 0x695F5508, PD_AON⟩,
    ⟨0x10001C, 0x4, 1, 0x4, 1, 0xFFFF, 0x0, 0x0, 0x0, .const 0xFFFF, PD_AON⟩,
    ⟨0x100020, 0x4, 3, 0x4, 1, 0x0, 0x0, 0x0, 0x0, .const 0x0, PD_AON⟩,
    ⟨0x100030, 0x4, 2, 0x4, 1, 0x80007FFF, 0x0, 0x0, 0x0, .const 0x4800, PD_AON⟩,
    ⟨0x100040, 0x4, 2, 0x4, 1, 0xA0000000, 0x0, 0x0, 0x0, .const 0x82000000, PD_AON⟩,
    ⟨0x100048, 0x4, 17, 0x4, 1, 0xA0000000, 0x0, 0x0, 0x0, .const 0x0, PD_AON⟩,
    ⟨0x10008C, 0x4, 1, 0x4, 1, 0xA0000000, 0x0, 0x0, 0x0, .const 0x82000000, PD_AON⟩,
    ⟨0x100090, 0x4, 1, 0x4, 1, 0xA0000000, 0x0, 0x0, 0x0, .const 0x0, PD_AON⟩,
    ⟨0x100100, 0x4, 1, 0x4, 1, 0x7F, 0x0, 0x0, 0x0, .const 0x0, PD_AON⟩,
    ⟨0x100104, 0x4, 1, 0x4, 1, 0x0, 0x0, 0x0, 0x0, .const 0x0, PD_AON⟩ ]

/-- Rows of the CPM block. -/
def cpmRows1 : List RegRow :=
  [ ⟨0x100108, 0x4, 1, 0x4, 1, 0x0, 0x0, 0x0, 0xFFFFFFFF, .const 0x0, PD_AON⟩,
    ⟨0x100200, 0x4, 1, 0x4, 1, 0xE00F0000, 0x0, 0x0, 0x0, .const 0x0, PD_AON⟩,
    ⟨0x100204, 0x4, 1, 0x4, 1, 0x0, 0x0, 0x0, 0x0, .const 0x0, PD_AON⟩,
    ⟨0x100210, 0x4, 3, 0x4, 1, 0xFFFFFFFF, 0x0, 0x0, 0x0, .const 0x0, PD_AON⟩,
    ⟨0x100300, 0x4, 1, 0x4, 1, 0xC300FFFF, 0x0, 0x0, 0x0, .const 0x81002710, PD_AON⟩,
    ⟨0x100304, 0x20, 2, 0x4, 1, 0x0, 0x0, 0x0, 0x0, .const 0x0, PD_AON⟩,
    ⟨0x100308, 0x20, 2, 0x4, 1, 0xFFFFFFFF, 0x0, 0x0, 0x0, .const 0x0, PD_AON⟩,
    ⟨0x10030C, 0x20, 2, 0x4, 1, 0xFFFFFFFF, 0x0, 0x0, 0x0, .const 0x0, PD_AON⟩,
    ⟨0x100310, 0x20, 2, 0x4, 1, 0x0, 0x0, 0x0, 0x0, .const 0x0, PD_AON⟩,
    ⟨0x100320, 0x4, 1, 0x4, 1, 0xC300FFFF, 0x0, 0x0, 0x0, .const 0x1002710, PD_AON⟩,
    ⟨0x100800, 0x4, 256, 0x4, 1, 0xFFFFFFFF, 0x0, 0x0, 0x0, .const 0x0, PD_AON⟩ ]

/-- Rows of the CAL block. -/
def calRows0 : List RegRow :=
  [ ⟨0x200000, 0x4, 1, 0x4, 1, 0x1, 0x0, 0x0, 0x0, .const 0x0, PD_AON⟩,
    ⟨0x200004, 0x4, 1, 0x4, 1, 0x0, 0x0, 0x0, 0x0, .const 0x0, PD_AON⟩,
    ⟨0x200008, 0x4, 1, 0x4, 1, 0x0, 0x3FF, 0x0, 0x0, .const 0x0, PD_AON⟩,
    ⟨0x200010, 0x4, 1, 0x4, 1, 0xFFFFFFFF, 0x0, 0x0, 0x0, .const 0x40000000, PD_AON⟩,
    ⟨0x200014, 0x4, 1, 0x4, 1, 0xFFFFFFFF, 0x0, 0x0, 0x0, .const 0x1, PD_AON⟩,
    ⟨0x200018, 0x4, 1, 0x4, 1, 0x0, 0x0, 0x0, 0x0, .const 0x40000000, PD_AON⟩,
    ⟨0x20001C, 0x4, 1, 0x4, 1, 0x0, 0x0, 0x0, 0x0, .const 0x1, PD_AON⟩,
    ⟨0x200020, 0x4, 3, 0x4, 1, 0xFFFFFFFF, 0x0, 0x0, 0x0, .const 0x0, PD_AON⟩,
    ⟨0x20002C, 0x4, 1, 0x4, 1, 0x0, 0x0, 0x0, 0x0, .const 0x0, PD_AON⟩,
    ⟨0x200030, 0x4, 3, 0x4, 1, 0x0, 0x0, 0x0, 0x0, .const 0x0, PD_AON⟩,
    ⟨0x200040, 0x4, 3, 0x4, 1, 0x0, 0x0, 0x0, 0x0, .const 0x0, PD_AON⟩,
    ⟨0x20004C, 0x4, 1, 0x4, 1, 0x0, 0x0, 0x0, 0x0, .const 0x0, PD_AON⟩,
    ⟨0x200060, 0x4, 1, 0x4, 1, 0x3FF0001, 0x0, 0x0, 0x0, .const 0xA0000, PD_AON⟩,
    ⟨0x200064, 0x4, 1, 0x4, 1, 0x0, 0x0, 0x0, 0xFF00, .const 0x0, PD_AON⟩,
    ⟨0x200068, 0x4, 3, 0x4, 1, 0x0, 0x0, 0x0, 0x0, .const 0x0, PD_AON⟩,
    ⟨0x200074, 0x4, 1, 0x4, 1, 0x0, 0x0, 0x0, 0x0, .const 0x0, PD_AON⟩ ]

/-- Rows of the CAL block. -/
def calRows1 : List RegRow :=
  [ ⟨0x200078, 0x4, 1, 0x4, 1, 0x0, 0x0, 0x0, 0x0, .const 0x0, PD_AON⟩,
    ⟨0x20007C, 0x4, 1, 0x4, 1, 0x0, 0x0, 0x0, 0x0, .const 0x0, PD_AON⟩,
    ⟨0x200080, 0x4, 1, 0x4, 1, 0xFFDFFFF1, 0x0, 0x0, 0x0, .const 0x6151800, PD_AON⟩,
    ⟨0x200084, 0x4, 1, 0x4, 1, 0x3FFFFF, 0x0, 0x0, 0x0, .const 0x0, PD_AON⟩,
    ⟨0x200088, 0x4, 1, 0x4, 1, 0xFFFFFFFF, 0x0, 0x0, 0x0, .const 0x0, PD_AON⟩,
    ⟨0x20008C, 0x4, 1, 0x4, 1, 0xFFFF, 0x0, 0x0, 0x0, .const 0x0, PD_AON⟩,
    ⟨0x200090, 0x4, 1, 0x4, 1, 0x0, 0x0, 0x0, 0x0, .const 0x0, PD_AON⟩,
    ⟨0x200094, 0x4, 1, 0x4, 1, 0x0, 0x0, 0x0, 0x0, .const 0x0, PD_AON⟩,
    ⟨0x200100, 0x8, 32, 0x4, 1, 0xFFFFFFFF, 0x0, 0x0, 0x0, .const 0x0, PD_AON⟩,
    ⟨0x200104, 0x8, 32, 0x4, 1, 0xFFFFFFFF, 0x0, 0x0, 0x0, .const 0x0, PD_AON⟩ ]

/-- Rows of the SEL block. -/
def selRows0 : List RegRow :=
  [ ⟨0x300000, 0x4, 1, 0x4, 1, 0xF, 0x0, 0x0, 0x0, .const 0xE, PD_FABRIC⟩,
    ⟨0x300004, 0x4, 1, 0x4, 1, 0x0, 0x0, 0x0, 0x0, .const 0x30000, PD_FABRIC⟩,
    ⟨0x300008, 0x4, 1, 0x4, 1, 0x0, 0x0, 0x0, 0x0, .const 0x0, PD_FABRIC⟩,
    ⟨0x30000C, 0x4, 1, 0x4, 1, 0x0, 0x7F, 0x0, 0x0, .const 0x0, PD_FABRIC⟩,
    ⟨0x300010, 0x4, 1, 0x4, 1, 0xFFFFFFFF, 0x0, 0x0, 0x0, .const 0x30283E8, PD_FABRIC⟩,
    ⟨0x300014, 0x4, 1, 0x4, 1, 0xFFFFFFFF, 0x0, 0x0, 0x0, .const 0x186A0, PD_FABRIC⟩,
    ⟨0x300018, 0x4, 1, 0x4, 1, 0xFFFFFFFF, 0x0, 0x0, 0x0, .const 0x190064, PD_FABRIC⟩,
    ⟨0x30001C, 0x4, 1, 0x4, 1, 0xFFFFFFFF, 0x0, 0x0, 0x0, .const 0xC90064, PD_FABRIC⟩,
    ⟨0x300020, 0x4, 1, 0x4, 1, 0xFFFF83FF, 0x0, 0x0, 0x0, .const 0x1F4000A, PD_FABRIC⟩,
    ⟨0x300024, 0x4, 1, 0x4, 1, 0xFFFFFF00, 0x0, 0x0, 0x0, .const 0xA071800, PD_FABRIC⟩,
    ⟨0x300028, 0x4, 1, 0x4, 1, 0xFFFFFFFF, 0x0, 0x0, 0x0, .const 0x2710, PD_FABRIC⟩,
    ⟨0x30002C, 0x4, 1, 0x4, 1, 0xFFFFFFFF, 0x0, 0x0, 0x0, .const 0x1388, PD_FABRIC⟩,
    ⟨0x300030, 0x4, 1, 0x4, 1, 0xFFFFFFFF, 0x0, 0x0, 0x0, .const 0x4E20, PD_FABRIC⟩,
    ⟨0x300034, 0x4, 1, 0x4, 1, 0x0, 0x0, 0x0, 0x0, .const 0x0, PD_FABRIC⟩,
    ⟨0x300038, 0x4, 1, 0x4, 1, 0x0, 0x0, 0x0, 0x0, .const 0x0, PD_FABRIC⟩,
    ⟨0x30003C, 0x4, 1, 0x4, 1, 0x0, 0x0, 0x0, 0x0, .const 0x0, PD_FABRIC⟩ ]

/-- Rows of the SEL block. -/
def selRows1 : List RegRow :=
  [ ⟨0x300040, 0x4, 1, 0x4, 1, 0x0, 0x0, 0x0, 0x0, .const 0x0, PD_FABRIC⟩,
    ⟨0x300044, 0x4, 1, 0x4, 1, 0x0, 0x0, 0x0, 0x0, .const 0x0, PD_FABRIC⟩,
    ⟨0x300048, 0x4, 1, 0x4, 1, 0x0, 0x0, 0x0, 0x0, .const 0x0, PD_FABRIC⟩,
    ⟨0x300080, 0x4, 10, 0x4, 1, 0x0, 0x0, 0x0, 0x0, .const 0x0, PD_FABRIC⟩,
    ⟨0x3000C0, 0x4, 7, 0x4, 1, 0xFFFFFFFF, 0x0, 0x0, 0x0, .const 0x0, PD_FABRIC⟩,
    ⟨0x3000DC, 0x4, 1, 0x4, 1, 0xFFFF000F, 0x0, 0x0, 0x0, .const 0x0, PD_FABRIC⟩,
    ⟨0x3000E0, 0x4, 1, 0x4, 1, 0xFFFFFFFF, 0x0, 0x0, 0x0, .const 0x0, PD_FABRIC⟩,
    ⟨0x3000E4, 0x4, 1, 0x4, 1, 0xFFFF, 0x0, 0x0, 0x0, .const 0x0, PD_FABRIC⟩,
    ⟨0x300100, 0x4, 1, 0x4, 1, 0xFFFFF0F0, 0x0, 0x0, 0x0, .const 0x12C1020, PD_FABRIC⟩,
    ⟨0x300104, 0x40, 16, 0x4, 1, 0xFFFFFFFF, 0x0, 0x0, 0x0, .const 0x0, PD_FABRIC⟩,
    ⟨0x300108, 0x40, 16, 0x4, 1, 0x0, 0x0, 0x0, 0x0, .const 0x0, PD_FABRIC⟩,
    ⟨0x30010C, 0x40, 16, 0x4, 1, 0x0, 0x0, 0x0, 0x0, .const 0x0, PD_FABRIC⟩,
    ⟨0x300110, 0x40, 16, 0x4, 1, 0x0, 0x0, 0x0, 0x0, .const 0x0, PD_FABRIC⟩,
    ⟨0x300114, 0x40, 16, 0x4, 1, 0x0, 0x0, 0x0, 0x0, .const 0x0, PD_FABRIC⟩,
    ⟨0x300118, 0x40, 16, 0x4, 1, 0x0, 0x0, 0x0, 0xFFFFFFFF, .const 0x0, PD_FABRIC⟩,
    ⟨0x30011C, 0x40, 16, 0x4, 1, 0x0, 0x0, 0x0, 0xFFFFFFFF, .const 0x0, PD_FABRIC⟩ ]

/-- Rows of the SEL block. -/
def selRows2 : List RegRow :=
  [ ⟨0x300140, 0x40, 4, 0x4, 1, 0xFFFFFFFF, 0x0, 0x0, 0x0, .const 0x12C1120, PD_FABRIC⟩,
    ⟨0x300240, 0x40, 8, 0x4, 1, 0xFFFFF0F0, 0x0, 0x0, 0x0, .const 0x12C1000, PD_FABRIC⟩,
    ⟨0x300440, 0x4, 1, 0x4, 1, 0xFFFFF0F0, 0x0, 0x0, 0x0, .const 0x12C108A, PD_FABRIC⟩,
    ⟨0x300480, 0x40, 2, 0x4, 1, 0xFFFFF0F0, 0x0, 0x0, 0x0, .const 0x12C1020, PD_FABRIC⟩,
    ⟨0x300600, 0x20, 2, 0x4, 1, 0xFFFFFFFF, 0x0, 0x0, 0x0, .const 0x0, PD_FABRIC⟩,
    ⟨0x300604, 0x20, 2, 0x4, 1, 0xFFFFFFFF, 0x0, 0x0, 0x0, .const 0x0, PD_FABRIC⟩,
    ⟨0x300608, 0x20, 2, 0x4, 1, 0xFFFFFFFF, 0x0, 0x0, 0x0, .const 0x0, PD_FABRIC⟩,
    ⟨0x30060C, 0x20, 2, 0x4, 1, 0xFFFFFFFF, 0x0, 0x0, 0x0, .const 0x0, PD_FABRIC⟩,
    ⟨0x300610, 0x20, 2, 0x4, 1, 0xFFFFFFFF, 0x0, 0x0, 0x0, .const 0x0, PD_FABRIC⟩,
    ⟨0x300614, 0x20, 2, 0x4, 1, 0xFFFFFFFF, 0x0, 0x0, 0x0, .const 0x0, PD_FABRIC⟩,
    ⟨0x300618, 0x20, 2, 0x4, 1, 0x0, 0x0, 0x0, 0x0, .const 0x0, PD_FABRIC⟩ ]

/-- Rows of the DRY block. -/
def dryRows0 : List RegRow :=
  [ ⟨0x400000, 0x4, 1, 0x4, 1, 0x1, 0x0, 0x0, 0x0, .const 0x0, PD_AON⟩,
    ⟨0x400004, 0x4, 1, 0x4, 1, 0x0, 0x0, 0x0, 0x0, .const 0x0, PD_AON⟩,
    ⟨0x400008, 0x4, 1, 0x4, 1, 0x0, 0x7, 0x0, 0x0, .const 0x0, PD_AON⟩,
    ⟨0x400100, 0x20, 4, 0x4, 1, 0xFFC00000, 0x0, 0x0, 0x0, .const 0x30400000, PD_AON⟩,
    ⟨0x400104, 0x20, 4, 0x4, 1, 0x3FFFFFFF, 0x0, 0x0, 0x0, .const 0x5F5E100, PD_AON⟩,
    ⟨0x400108, 0x20, 4, 0x4, 1, 0xFFFFFFFF, 0x0, 0x0, 0x0, .const 0x0, PD_AON⟩,
    ⟨0x40010C, 0x20, 4, 0x4, 1, 0x0, 0x0, 0x0, 0x0, .const 0x0, PD_AON⟩,
    ⟨0x400110, 0x20, 4, 0x4, 1, 0x0, 0x0, 0x0, 0xFFFFFFFF, .const 0x0, PD_AON⟩,
    ⟨0x400200, 0x20, 4, 0x4, 1, 0xF0000000, 0x0, 0x0, 0x0, .const 0x30000000, PD_AON⟩,
    ⟨0x400204, 0x20, 4, 0x4, 1, 0x1FFFFFFF, 0x0, 0x0, 0x0, .const 0x989680, PD_AON⟩,
    ⟨0x400208, 0x20, 4, 0x4, 1, 0xFFFFFFFF, 0x0, 0x0, 0x0, .const 0x0, PD_AON⟩,
    ⟨0x400210, 0x20, 4, 0x4, 1, 0x0, 0x0, 0x0, 0xFFFFFFFF, .const 0x0, PD_AON⟩,
    ⟨0x400300, 0x4, 1, 0x4, 1, 0xB70001FF, 0x0, 0x40000000, 0x0, .const 0x400000A, PD_AON⟩,
    ⟨0x400304, 0x4, 1, 0x4, 1, 0x0, 0x0, 0x0, 0xFFFFFFFF, .const 0x0, PD_AON⟩,
    ⟨0x400308, 0x4, 1, 0x4, 1, 0x0, 0x0, 0x0, 0xFFFFFFFF, .const 0x0, PD_AON⟩,
    ⟨0x400320, 0x4, 8, 0x4, 1, 0xFFFFFFFF, 0x0, 0x0, 0x0, .const 0x0, PD_AON⟩ ]

/-- Rows of the DRY block. -/
def dryRows1 : List RegRow :=
  [ ⟨0x400340, 0x4, 1, 0x4, 1, 0xC00001FF, 0x0, 0x0, 0x0, .const 0x64, PD_AON⟩,
    ⟨0x400380, 0x4, 1, 0x4, 1, 0x801FFFFF, 0x0, 0x0, 0x0, .const 0x0, PD_AON⟩ ]

/-- Rows of the GRV block. -/
def grvRows0 : List RegRow :=
  [ ⟨0x500000, 0x4, 1, 0x4, 1, 0x1, 0x0, 0x0, 0x0, .const 0x1, PD_AON⟩,
    ⟨0x500004, 0x4, 1, 0x4, 1, 0x0, 0x0, 0x0, 0x0, .const 0x0, PD_AON⟩,
    ⟨0x500008, 0x4, 1, 0x4, 1, 0x0, 0x1F, 0x0, 0x0, .const 0x0, PD_AON⟩,
    ⟨0x50000C, 0x4, 1, 0x4, 1, 0x0, 0xFF, 0x0, 0x0, .const 0x0, PD_AON⟩,
    ⟨0x500010, 0x4, 1, 0x4, 1, 0xFF, 0x0, 0x0, 0x0, .const 0xFF, PD_AON⟩,
    ⟨0x500020, 0x4, 1, 0x4, 1, 0xFFFFFFFF, 0x0, 0x0, 0x0, .const 0x40000000, PD_AON⟩,
    ⟨0x500024, 0x4, 1, 0x4, 1, 0xFFFFFFFF, 0x0, 0x0, 0x0, .const 0x1, PD_AON⟩,
    ⟨0x500028, 0x4, 1, 0x4, 1, 0x0, 0x0, 0x0, 0x0, .const 0x40000000, PD_AON⟩,
    ⟨0x50002C, 0x4, 1, 0x4, 1, 0x0, 0x0, 0x0, 0x0, .const 0x1, PD_AON⟩,
    ⟨0x500040, 0x4, 4, 0x4, 1, 0xFFFFFFFF, 0x0, 0x0, 0x0, .const 0x989680, PD_AON⟩,
    ⟨0x500100, 0x40, 8, 0x4, 1, 0xFFFEFFFF, 0x0, 0x0, 0x0, .const 0x40000000, PD_AON⟩,
    ⟨0x500104, 0x40, 20, 0x4, 1, 0xFFF, 0x0, 0x0, 0x0, .const 0x800, PD_AON⟩,
    ⟨0x500108, 0x40, 12, 0x4, 1, 0x0, 0x0, 0x0, 0x0, .const 0x1, PD_AON⟩,
    ⟨0x50010C, 0x40, 20, 0x4, 1, 0xFFFFFFFF, 0x0, 0x0, 0x0, .const 0x0, PD_AON⟩,
    ⟨0x500110, 0x40, 20, 0x4, 3, 0xFFFFFFFF, 0x0, 0x0, 0x0, .const 0x0, PD_AON⟩,
    ⟨0x50011C, 0x40, 20, 0x4, 3, 0xFFFFFFFF, 0x0, 0x0, 0x0, .const 0x0, PD_AON⟩ ]

/-- Rows of the GRV block. -/
def grvRows1 : List RegRow :=
  [ ⟨0x500128, 0x40, 20, 0x4, 1, 0x0, 0x0, 0x0, 0x0, .const 0x0, PD_TDC⟩,
    ⟨0x50012C, 0x40, 20, 0x4, 4, 0x0, 0x0, 0x0, 0x0, .const 0x0, PD_TDC⟩,
    ⟨0x50013C, 0x40, 20, 0x4, 1, 0x0, 0x0, 0x0, 0xFFFFFFFF, .const 0x0, PD_TDC⟩,
    ⟨0x500300, 0x40, 10, 0x4, 1, 0xFFFEFFFF, 0x0, 0x0, 0x0, .const 0x0, PD_AON⟩,
    ⟨0x500408, 0x40, 4, 0x4, 1, 0xFFFFFFFF, 0x0, 0x0, 0x0, .const 0x1, PD_AON⟩,
    ⟨0x500508, 0x40, 4, 0x4, 1, 0x0, 0x0, 0x0, 0x0, .const 0x1, PD_AON⟩,
    ⟨0x500580, 0x40, 2, 0x4, 1, 0xFFFEFFFF, 0x0, 0x0, 0x0, .const 0x40000000, PD_AON⟩,
    ⟨0x500800, 0x40, 8, 0x4, 1, 0xC1FFFFFF, 0x0, 0x0, 0x0, .const 0x400003E8, PD_AON⟩,
    ⟨0x500804, 0x40, 8, 0x4, 1, 0x1FFFFFFF, 0x0, 0x0, 0x0, .const 0x989680, PD_AON⟩,
    ⟨0x500808, 0x40, 8, 0x4, 1, 0x0, 0x0, 0x0, 0x0, .const 0x0, PD_TDC⟩,
    ⟨0x50080C, 0x40, 8, 0x4, 1, 0x0, 0x0, 0x0, 0x0, .const 0x0, PD_TDC⟩,
    ⟨0x500810, 0x40, 8, 0x4, 1, 0x0, 0x0, 0x0, 0x0, .const 0x0, PD_TDC⟩,
    ⟨0x500814, 0x40, 8, 0x4, 1, 0x0, 0x0, 0x0, 0x0, .const 0x0, PD_TDC⟩,
    ⟨0x500818, 0x40, 8, 0x4, 1, 0x0, 0x0, 0x0, 0x0, .const 0x0, PD_TDC⟩,
    ⟨0x50081C, 0x40, 8, 0x4, 1, 0x0, 0x0, 0x0, 0x0, .const 0x0, PD_TDC⟩,
    ⟨0x500820, 0x40, 8, 0x4, 1, 0x0, 0x0, 0x0, 0x0, .const 0x0, PD_TDC⟩ ]

/-- Rows of the GNS block. -/
def gnsRows0 : List RegRow :=
  [ ⟨0x600000, 0x4, 1, 0x4, 1, 0x3, 0x0, 0x0, 0x0, .const 0x2, PD_GNSS_TRK⟩,
    ⟨0x600004, 0x4, 1, 0x4, 1, 0x0, 0x0, 0x0, 0x0, .const 0xFFFF0000, PD_GNSS_TRK⟩,
    ⟨0x600008, 0x4, 1, 0x4, 1, 0x0, 0x1F, 0x0, 0x0, .const 0x0, PD_GNSS_TRK⟩,
    ⟨0x60000C, 0x4, 1, 0x4, 1, 0x0, 0xFF, 0x0, 0x0, .const 0x0, PD_GNSS_TRK⟩,
    ⟨0x600010, 0x4, 1, 0x4, 1, 0xFF, 0x0, 0x0, 0x0, .const 0xFF, PD_GNSS_TRK⟩,
    ⟨0x600014, 0x4, 1, 0x4, 1, 0x1, 0x0, 0x0, 0x0, .const 0x0, PD_GNSS_TRK⟩,
    ⟨0x600018, 0x4, 1, 0x4, 1, 0x0, 0x0, 0x0, 0x0, .const 0x0, PD_GNSS_TRK⟩,
    ⟨0x60001C, 0x4, 1, 0x4, 1, 0x0, 0x0, 0x0, 0x0, .const 0x0, PD_GNSS_TRK⟩,
    ⟨0x600020, 0x4, 3, 0x4, 1, 0x0, 0x0, 0x0, 0x0, .const 0x0, PD_GNSS_TRK⟩,
    ⟨0x600040, 0x10, 4, 0x4, 1, 0xFF000000, 0x0, 0x0, 0x0, .const 0x1000000, PD_GNSS_TRK⟩,
    ⟨0x600044, 0x30, 2, 0x4, 1, 0xFFFFFFFF, 0x0, 0x0, 0x0, .const 0x5E4B6780, PD_GNSS_TRK⟩,
    ⟨0x600048, 0x10, 4, 0x4, 1, 0x0, 0x0, 0x0, 0x0, .const 0x0, PD_GNSS_TRK⟩,
    ⟨0x600054, 0x4, 1, 0x4, 1, 0xFFFFFFFF, 0x0, 0x0, 0x0, .const 0x4A447380, PD_GNSS_TRK⟩,
    ⟨0x600064, 0x4, 1, 0x4, 1, 0xFFFFFFFF, 0x0, 0x0, 0x0, .const 0x47095938, PD_GNSS_TRK⟩,
    ⟨0x600100, 0x4, 19, 0x4, 1, 0xFFFF0000, 0x0, 0x0, 0x0, .gnsSig, PD_GNSS_TRK⟩,
    ⟨0x600180, 0x4, 1, 0x4, 1, 0xFFFFFFFF, 0x0, 0x0, 0x0, .const 0x96643214, PD_GNSS_TRK⟩ ]

/-- Rows of the GNS block. -/
def gnsRows1 : List RegRow :=
  [ ⟨0x600184, 0x4, 1, 0x4, 1, 0xFFFFFFFF, 0x0, 0x0, 0x0, .const 0xD1A8002, PD_GNSS_TRK⟩,
    ⟨0x600188, 0x4, 1, 0x4, 1, 0xFFFFFFFF, 0x0, 0x0, 0x0, .const 0x64321414, PD_GNSS_TRK⟩,
    ⟨0x60018C, 0x4, 1, 0x4, 1, 0xFFFFFFFF, 0x0, 0x0, 0x0, .const 0xC168002, PD_GNSS_TRK⟩,
    ⟨0x600190, 0x4, 1, 0x4, 1, 0xFFFFFFFF, 0x0, 0x0, 0x0, .const 0x96643201, PD_GNSS_TRK⟩,
    ⟨0x600194, 0x4, 1, 0x4, 1, 0xFFFFFFFF, 0x0, 0x0, 0x0, .const 0x101C8002, PD_GNSS_TRK⟩,
    ⟨0x600198, 0x4, 1, 0x4, 1, 0xFFFFFFFF, 0x0, 0x0, 0x0, .const 0x32140514, PD_GNSS_TRK⟩,
    ⟨0x60019C, 0x4, 1, 0x4, 1, 0xFFFFFFFF, 0x0, 0x0, 0x0, .const 0x814A005, PD_GNSS_TRK⟩,
    ⟨0x6001C0, 0x4, 1, 0x4, 1, 0xC0FFFFFF, 0x0, 0x0, 0x0, .const 0x401770, PD_GNSS_TRK⟩,
    ⟨0x6001D0, 0x4, 1, 0x4, 1, 0x0, 0x0, 0x0, 0x0, .const 0x0, PD_GNSS_TRK⟩,
    ⟨0x6001D4, 0x4, 1, 0x4, 1, 0x0, 0x0, 0x0, 0x0, .const 0x0, PD_GNSS_TRK⟩,
    ⟨0x6001E0, 0x4, 1, 0x4, 1, 0xFCFFFF00, 0x0, 0x0, 0x0, .const 0x12D00, PD_GNSS_TRK⟩,
    ⟨0x6001E4, 0x4, 1, 0x4, 1, 0xFFFFFFFF, 0x0, 0x0, 0x0, .const 0x0, PD_GNSS_TRK⟩,
    ⟨0x6001E8, 0x4, 1, 0x4, 1, 0xFFFFFFFF, 0x0, 0x0, 0x0, .const 0x0, PD_GNSS_TRK⟩,
    ⟨0x600200, 0x4, 1, 0x4, 1, 0xFFFFFFFF, 0x0, 0x0, 0x0, .const 0x14641420, PD_GNSS_TRK⟩,
    ⟨0x600204, 0x4, 1, 0x4, 1, 0x0, 0x0, 0x0, 0x0, .const 0x0, PD_GNSS_TRK⟩,
    ⟨0x600300, 0x4, 1, 0x4, 1, 0x0, 0x0, 0x0, 0xFFFFFFFF, .const 0x0, PD_GNSS_TRK⟩ ]

/-- Rows of the GNS block. -/
def gnsRows2 : List RegRow :=
  [ ⟨0x600304, 0x4, 1, 0x4, 1, 0x0, 0x0, 0x0, 0xFFFFFFFF, .const 0x0, PD_GNSS_TRK⟩,
    ⟨0x600308, 0x4, 1, 0x4, 1, 0x0, 0x0, 0x0, 0xFFFFFFFF, .const 0x0, PD_GNSS_TRK⟩,
    ⟨0x60030C, 0x4, 1, 0x4, 1, 0x0, 0x0, 0x0, 0xFFFFFFFF, .const 0x0, PD_GNSS_TRK⟩,
    ⟨0x601000, 0x4, 256, 0x4, 1, 0x0, 0x0, 0x0, 0x0, .gnsCh, PD_GNSS_TRK⟩,
    ⟨0x610000, 0x4, 16384, 0x4, 1, 0xFFFFFFFF, 0x0, 0x0, 0x0, .const 0x0, PD_GNSS_TRK⟩,
    ⟨0x620000, 0x4, 1, 0x4, 1, 0xFF80FF00, 0x0, 0x0, 0x0, .const 0x45000A00, PD_GNSS_TRK⟩,
    ⟨0x620004, 0x4, 1, 0x4, 1, 0x0, 0x0, 0x0, 0x0, .const 0x8000000, PD_GNSS_TRK⟩,
    ⟨0x620008, 0x4, 1, 0x4, 1, 0x0, 0xF, 0x0, 0x0, .const 0x0, PD_GNSS_TRK⟩,
    ⟨0x62000C, 0x4, 1, 0x4, 1, 0xFFFFFFFF, 0x0, 0x0, 0x0, .const 0x1E001E, PD_GNSS_TRK⟩,
    ⟨0x620010, 0x4, 1, 0x4, 1, 0xFFFFFFFF, 0x0, 0x0, 0x0, .const 0x320032, PD_GNSS_TRK⟩,
    ⟨0x620014, 0x4, 1, 0x4, 1, 0xFFFFFF00, 0x0, 0x0, 0x0, .const 0x3C042800, PD_GNSS_TRK⟩,
    ⟨0x620018, 0x4, 1, 0x4, 1, 0x0, 0x0, 0x0, 0x0, .const 0x0, PD_GNSS_TRK⟩,
    ⟨0x62001C, 0x4, 1, 0x4, 1, 0xFFFFFFFF, 0x0, 0x0, 0x0, .const 0x1E007D0, PD_GNSS_TRK⟩,
    ⟨0x620020, 0x4, 6, 0x4, 1, 0xFFFFFFFF, 0x0, 0x0, 0x0, .const 0x0, PD_GNSS_TRK⟩,
    ⟨0x620038, 0x4, 1, 0x4, 1, 0x0, 0x0, 0x0, 0x0, .const 0x0, PD_GNSS_TRK⟩,
    ⟨0x620040, 0x4, 16, 0x4, 1, 0x0, 0x0, 0x0, 0x0, .const 0x0, PD_GNSS_TRK⟩ ]

/-- Rows of the GNS block. -/
def gnsRows3 : List RegRow :=
  [ ⟨0x620080, 0x4, 1, 0x4, 1, 0x0, 0x0, 0x0, 0x0, .const 0x0, PD_GNSS_TRK⟩,
    ⟨0x620084, 0x4, 1, 0x4, 1, 0x0, 0x0, 0x0, 0x0, .const 0x0, PD_GNSS_TRK⟩,
    ⟨0x620090, 0x4, 1, 0x4, 1, 0x0, 0x0, 0x0, 0x0, .const 0x0, PD_GNSS_TRK⟩,
    ⟨0x620094, 0x4, 1, 0x4, 1, 0x0, 0x0, 0x0, 0xFFFFFFFF, .const 0x0, PD_GNSS_TRK⟩,
    ⟨0x620098, 0x4, 1, 0x4, 1, 0x0, 0x0, 0x0, 0xFFFFFFFF, .const 0x0, PD_GNSS_TRK⟩,
    ⟨0x6200A0, 0x4, 1, 0x4, 1, 0x0, 0x0, 0x0, 0x0, .const 0x0, PD_GNSS_TRK⟩,
    ⟨0x6200A4, 0x4, 1, 0x4, 1, 0x0, 0x0, 0x0, 0x0, .const 0x0, PD_GNSS_TRK⟩,
    ⟨0x6200A8, 0x4, 1, 0x4, 1, 0x0, 0x0, 0x0, 0x0, .const 0x0, PD_GNSS_TRK⟩,
    ⟨0x620100, 0x4, 4, 0x4, 1, 0xFFFFFFFF, 0x0, 0x0, 0x0, .const 0x0, PD_GNSS_TRK⟩,
    ⟨0x620140, 0x4, 19, 0x4, 1, 0xFFFFFFFF, 0x0, 0x0, 0x0, .const 0x0, PD_GNSS_TRK⟩,
    ⟨0x621000, 0x8, 128, 0x4, 1, 0x0, 0x0, 0x0, 0x0, .const 0xF0000000, PD_GNSS_TRK⟩,
    ⟨0x621004, 0x8, 128, 0x4, 1, 0x0, 0x0, 0x0, 0x0, .const 0x0, PD_GNSS_TRK⟩ ]

/-- Rows of the PRT block. -/
def prtRows0 : List RegRow :=
  [ ⟨0x700000, 0x40000, 4, 0x4, 1, 0x7, 0x80000000, 0x0, 0x0, .const 0x0, domainOfQuad⟩,
    ⟨0x700004, 0x10000, 16, 0x4, 1, 0xFF, 0x0, 0x0, 0x0, .const 0x4A, domainOfQuad⟩,
    ⟨0x700008, 0x10000, 16, 0x4, 1, 0x0, 0x0, 0x0, 0x0, .const 0x0, domainOfQuad⟩,
    ⟨0x70000C, 0x10000, 16, 0x4, 1, 0x0, 0xFF, 0x0, 0x0, .const 0x0, domainOfQuad⟩,
    ⟨0x700010, 0x10000, 16, 0x4, 1, 0xFF, 0x0, 0x0, 0x0, .const 0xFF, domainOfQuad⟩,
    ⟨0x700014, 0x10000, 16, 0x4, 1, 0xFFFFFFFF, 0x0, 0x0, 0x0, .const 0x0, domainOfQuad⟩,
    ⟨0x700018, 0x10000, 16, 0x4, 1, 0xFFFF, 0x0, 0x0, 0x0, .const 0x0, domainOfQuad⟩,
    ⟨0x70001C, 0x10000, 16, 0x4, 1, 0xFFFF03FF, 0x0, 0x0, 0x0, .const 0x1000028, domainOfQuad⟩,
    ⟨0x700020, 0x10000, 16, 0x4, 1, 0x0, 0x0, 0x0, 0x0, .const 0x0, domainOfQuad⟩,
    ⟨0x700024, 0x10000, 16, 0x4, 1, 0x0, 0x0, 0x0, 0x0, .const 0x0, domainOfQuad⟩,
    ⟨0x700028, 0x10000, 16, 0x4, 1, 0x3, 0x0, 0x0, 0x0, .const 0x0, domainOfQuad⟩,
    ⟨0x70002C, 0x10000, 16, 0x4, 1, 0x0, 0x0, 0x0, 0x0, .const 0x0, domainOfQuad⟩,
    ⟨0x700030, 0x10000, 16, 0x4, 1, 0x0, 0x0, 0x0, 0x0, .const 0x0, domainOfQuad⟩,
    ⟨0x700034, 0x10000, 16, 0x4, 1, 0x0, 0x0, 0x0, 0x0, .const 0x0, domainOfQuad⟩,
    ⟨0x700038, 0x10000, 16, 0x4, 1, 0x0, 0x0, 0x0, 0x0, .const 0x0, domainOfQuad⟩,
    ⟨0x700040, 0x10000, 16, 0x8, 5, 0xFFFFFFFF, 0x0, 0x0, 0x0, .const 0x0, domainOfQuad⟩ ]

/-- Rows of the PRT block. -/
def prtRows1 : List RegRow :=
  [ ⟨0x700044, 0x10000, 16, 0x8, 5, 0xFFFFFFFF, 0x0, 0x0, 0x0, .const 0x0, domainOfQuad⟩,
    ⟨0x700080, 0x10000, 16, 0x4, 1, 0x0, 0x0, 0x0, 0xFFFFFFFF, .const 0x0, domainOfQuad⟩,
    ⟨0x700084, 0x10000, 16, 0x4, 1, 0x0, 0x0, 0x0, 0xFFFFFFFF, .const 0x0, domainOfQuad⟩,
    ⟨0x700088, 0x10000, 16, 0x4, 1, 0x0, 0x0, 0x0, 0xFFFFFFFF, .const 0x0, domainOfQuad⟩,
    ⟨0x70008C, 0x10000, 16, 0x4, 1, 0x0, 0x0, 0x0, 0xFFFFFFFF, .const 0x0, domainOfQuad⟩,
    ⟨0x700090, 0x10000, 16, 0x4, 1, 0x0, 0x0, 0x0, 0xFFFFFFFF, .const 0x0, domainOfQuad⟩,
    ⟨0x700094, 0x10000, 16, 0x4, 1, 0x0, 0x0, 0x0, 0xFFFFFFFF, .const 0x0, domainOfQuad⟩,
    ⟨0x700098, 0x10000, 16, 0x4, 1, 0x0, 0x0, 0x0, 0xFFFFFFFF, .const 0x0, domainOfQuad⟩,
    ⟨0x70009C, 0x10000, 16, 0x4, 1, 0x0, 0x0, 0x0, 0xFFFFFFFF, .const 0x0, domainOfQuad⟩ ]

/-- Rows of the CLS block. -/
def clsRows0 : List RegRow :=
  [ ⟨0x800000, 0x4, 1, 0x4, 1, 0x1, 0x0, 0x0, 0x0, .const 0x0, PD_FABRIC⟩,
    ⟨0x800004, 0x4, 1, 0x4, 1, 0xFFFFFFFF, 0x0, 0x0, 0x0, .const 0xFFFFFFFF, PD_FABRIC⟩,
    ⟨0x800008, 0x4, 1, 0x4, 1, 0x0, 0x0, 0x0, 0xFFFFFFFF, .const 0x0, PD_FABRIC⟩,
    ⟨0x80000C, 0x4, 1, 0x4, 1, 0x0, 0x0, 0x0, 0xFFFFFFFF, .const 0x0, PD_FABRIC⟩,
    ⟨0x800010, 0x4, 1, 0x4, 1, 0x0, 0x0, 0x0, 0xFFFFFFFF, .const 0x0, PD_FABRIC⟩,
    ⟨0x800014, 0x4, 1, 0x4, 1, 0x0, 0x0, 0x0, 0xFFFFFFFF, .const 0x0, PD_FABRIC⟩,
    ⟨0x800040, 0x4, 14, 0x4, 1, 0xE000FFFF, 0x0, 0x0, 0x0, .const 0x0, PD_FABRIC⟩,
    ⟨0x800100, 0x4, 64, 0x4, 1, 0xFFFFFFFF, 0x0, 0x0, 0x0, .const 0x18000000, PD_FABRIC⟩,
    ⟨0x801000, 0x4, 1024, 0x4, 1, 0x7F7F7F7F, 0x0, 0x0, 0x0, .clsInd, PD_FABRIC⟩ ]

/-- Rows of the GYS block. -/
def gysRows0 : List RegRow :=
  [ ⟨0x900000, 0x4, 1, 0x4, 1, 0x1, 0x0, 0x2, 0x0, .const 0x0, PD_FABRIC⟩,
    ⟨0x900004, 0x4, 1, 0x4, 1, 0x0, 0x0, 0x0, 0x0, .const 0x803, PD_FABRIC⟩,
    ⟨0x900008, 0x4, 1, 0x4, 1, 0x0, 0x0, 0x0, 0x0, .const 0x0, PD_FABRIC⟩,
    ⟨0x90000C, 0x4, 1, 0x4, 1, 0x0, 0x1000000, 0x0, 0x0, .const 0x0, PD_FABRIC⟩,
    ⟨0x900010, 0x4, 1, 0x4, 1, 0x0, 0xFFF, 0x0, 0x0, .const 0x0, PD_FABRIC⟩,
    ⟨0x900014, 0x4, 1, 0x4, 1, 0xFFF, 0x0, 0x0, 0x0, .const 0xFFF, PD_FABRIC⟩,
    ⟨0x900018, 0x4, 1, 0x4, 1, 0x3F3F3F, 0x0, 0x0, 0x0, .const 0x20800, PD_FABRIC⟩,
    ⟨0x900020, 0x4, 1, 0x4, 1, 0x3F3F07FF, 0x0, 0x0, 0x0, .const 0x30040040, PD_FABRIC⟩,
    ⟨0x900024, 0x4, 1, 0x4, 1, 0x3F3F07FF, 0x0, 0x0, 0x0, .const 0x30080100, PD_FABRIC⟩,
    ⟨0x900028, 0x4, 1, 0x4, 1, 0x3F3F07FF, 0x0, 0x0, 0x0, .const 0x28000280, PD_FABRIC⟩,
    ⟨0x90002C, 0x4, 1, 0x4, 1, 0x3F3F07FF, 0x0, 0x0, 0x0, .const 0x8020040, PD_FABRIC⟩,
    ⟨0x900030, 0x4, 4, 0x4, 1, 0xFFFF00FF, 0x0, 0x0, 0x0, .const 0x10000028, PD_FABRIC⟩,
    ⟨0x900040, 0x4, 1, 0x4, 1, 0x0, 0x80000000, 0x0, 0x0, .const 0x0, PD_FABRIC⟩,
    ⟨0x900044, 0x4, 1, 0x4, 1, 0x0, 0x0, 0x0, 0x0, .const 0x0, PD_FABRIC⟩,
    ⟨0x900048, 0x4, 1, 0x4, 1, 0x0, 0x0, 0x0, 0x0, .const 0x0, PD_FABRIC⟩,
    ⟨0x900100, 0x10, 8, 0x4, 1, 0xF83F000F, 0x0, 0x0, 0x0, .const 0x38000000, PD_FABRIC⟩ ]

/-- Rows of the GYS block. -/
def gysRows1 : List RegRow :=
  [ ⟨0x900104, 0x10, 8, 0x4, 1, 0x7FFFF, 0x0, 0x0, 0x0, .const 0x0, PD_FABRIC⟩,
    ⟨0x900108, 0x10, 8, 0x4, 1, 0x3FFFFFF, 0x0, 0x0, 0x0, .const 0xA00000, PD_FABRIC⟩,
    ⟨0x900200, 0x4, 64, 0x4, 1, 0x80000000, 0x0, 0x0, 0x0, .gysMap, PD_FABRIC⟩,
    ⟨0x900400, 0x4, 64, 0x4, 1, 0x0, 0x0, 0x0, 0xFFFFFFFF, .const 0x0, PD_FABRIC⟩,
    ⟨0x900500, 0x4, 32, 0x4, 1, 0x0, 0x0, 0x0, 0xFFFFFFFF, .const 0x0, PD_FABRIC⟩,
    ⟨0x900580, 0x4, 4, 0x4, 1, 0x0, 0x0, 0x0, 0xFFFFFFFF, .const 0x0, PD_FABRIC⟩,
    ⟨0x900590, 0x4, 4, 0x4, 1, 0x0, 0x0, 0x0, 0xFFFFFFFF, .const 0x0, PD_FABRIC⟩,
    ⟨0x9005A0, 0x4, 1, 0x4, 1, 0x0, 0x0, 0x0, 0xFFFFFFFF, .const 0x0, PD_FABRIC⟩,
    ⟨0x9005A4, 0x4, 1, 0x4, 1, 0x0, 0x0, 0x0, 0xFFFFFFFF, .const 0x0, PD_FABRIC⟩,
    ⟨0x901000, 0x4, 128, 0x4, 1, 0xFFFFFFFF, 0x0, 0x0, 0x0, .const 0x0, PD_FABRIC⟩,
    ⟨0x901200, 0x4, 128, 0x4, 1, 0xFFFFFFFF, 0x0, 0x0, 0x0, .const 0x0, PD_FABRIC⟩ ]

/-- Rows of the CRY block. -/
def cryRows0 : List RegRow :=
  [ ⟨0xA00000, 0x4, 1, 0x4, 1, 0x101, 0x0, 0x0, 0x0, .const 0x100, PD_AON⟩,
    ⟨0xA00004, 0x4, 1, 0x4, 1, 0x0, 0x0, 0x0, 0x0, .const 0x0, PD_AON⟩,
    ⟨0xA00008, 0x4, 1, 0x4, 1, 0x0, 0xFF, 0x0, 0x0, .const 0x0, PD_AON⟩,
    ⟨0xA0000C, 0x4, 1, 0x4, 1, 0xFF, 0x0, 0x0, 0x0, .const 0xFF, PD_AON⟩,
    ⟨0xA00010, 0x4, 1, 0x4, 1, 0x0, 0x0, 0x0, 0x0, .const 0x0, PD_AON⟩,
    ⟨0xA00014, 0x4, 1, 0x4, 1, 0x0, 0x0, 0x0, 0x0, .const 0x0, PD_AON⟩,
    ⟨0xA00020, 0x4, 20, 0x4, 1, 0x0, 0x0, 0x0, 0x0, .const 0x0, PD_AON⟩,
    ⟨0xA00100, 0x8, 64, 0x4, 1, 0x0, 0x0, 0x0, 0xFFFF0000, .const 0x0, PD_AON⟩,
    ⟨0xA00104, 0x8, 64, 0x4, 1, 0x0, 0x0, 0x0, 0x0, .const 0x0, PD_AON⟩,
    ⟨0xA00400, 0x4, 17, 0x4, 1, 0x0, 0x0, 0x0, 0x0, .const 0x0, PD_AON⟩,
    ⟨0xA00480, 0x4, 26, 0x4, 1, 0x0, 0x0, 0x0, 0x0, .const 0x0, PD_AON⟩,
    ⟨0xA004F0, 0x4, 1, 0x4, 1, 0x0, 0x0, 0x0, 0x0, .const 0x0, PD_AON⟩,
    ⟨0xA00600, 0x4, 32, 0x4, 1, 0x0, 0x0, 0x0, 0x0, .const 0x0, PD_AON⟩,
    ⟨0xA00680, 0x4, 1, 0x4, 1, 0x0, 0x0, 0x0, 0x0, .const 0x0, PD_AON⟩,
    ⟨0xA00684, 0x4, 1, 0x4, 1, 0x0, 0x0, 0x0, 0x0, .const 0x0, PD_AON⟩,
    ⟨0xA00700, 0x4, 1, 0x4, 1, 0x0, 0x0, 0x0, 0xFFFFFFFF, .const 0x0, PD_CRYPTO⟩ ]

/-- Rows of the CRY block. -/
def cryRows1 : List RegRow :=
  [ ⟨0xA00704, 0x4, 1, 0x4, 1, 0x0, 0x0, 0x0, 0xFFFFFFFF, .const 0x0, PD_CRYPTO⟩ ]

/-- Rows of the BNE block. -/
def bneRows0 : List RegRow :=
  [ ⟨0xB00000, 0x4, 1, 0x4, 1, 0x1, 0x0, 0x0, 0x0, .const 0x1, PD_AON⟩,
    ⟨0xB00004, 0x4, 1, 0x4, 1, 0x0, 0x0, 0x0, 0x0, .const 0x0, PD_AON⟩,
    ⟨0xB00008, 0x4, 1, 0x4, 1, 0x0, 0x1F, 0x0, 0x0, .const 0x0, PD_AON⟩,
    ⟨0xB0000C, 0x4, 1, 0x4, 1, 0x0, 0x0, 0x0, 0xFFFFFFFF, .const 0x0, PD_AON⟩,
    ⟨0xB00010, 0x4, 1, 0x4, 1, 0x0, 0x0, 0x0, 0x0, .const 0x0, PD_AON⟩,
    ⟨0xB00020, 0x10, 2, 0x4, 1, 0xFFFF80F, 0x0, 0x0, 0x0, .const 0x0, PD_AON⟩,
    ⟨0xB00024, 0x10, 2, 0x4, 1, 0x3FFFFFE0, 0x0, 0x0, 0x0, .const 0x0, PD_AON⟩,
    ⟨0xB00028, 0x10, 2, 0x4, 1, 0x0, 0x0, 0x0, 0x0, .const 0x0, PD_AON⟩,
    ⟨0xB0002C, 0x10, 2, 0x4, 1, 0x0, 0x0, 0x0, 0x0, .const 0x0, PD_AON⟩,
    ⟨0xB00200, 0x4, 64, 0x4, 1, 0xFFFFFFFF, 0x0, 0x0, 0x0, .const 0x0, PD_BNE⟩,
    ⟨0xB08000, 0x4, 8192, 0x4, 1, 0xFFFFFFFF, 0x0, 0x0, 0x0, .const 0x0, PD_BNE⟩,
    ⟨0xB10000, 0x4, 16384, 0x4, 1, 0xFFFFFFFF, 0x0, 0x0, 0x0, .const 0x0, PD_BNE⟩ ]

/-- Rows of the DMA block. -/
def dmaRows0 : List RegRow :=
  [ ⟨0xC00000, 0x4, 1, 0x4, 1, 0x1, 0x0, 0x0, 0x0, .const 0x0, PD_PCIE⟩,
    ⟨0xC00004, 0x4, 1, 0x4, 1, 0x0, 0x0, 0x0, 0x0, .const 0x0, PD_PCIE⟩,
    ⟨0xC00008, 0x4, 1, 0x4, 1, 0x0, 0xF, 0x0, 0x0, .const 0x0, PD_PCIE⟩,
    ⟨0xC0000C, 0x4, 1, 0x4, 1, 0x0, 0x7FF, 0x0, 0x0, .const 0x0, PD_PCIE⟩,
    ⟨0xC00010, 0x4, 1, 0x4, 1, 0x7FF, 0x0, 0x0, 0x0, .const 0x7FF, PD_PCIE⟩,
    ⟨0xC00014, 0x4, 1, 0x4, 1, 0xFFFF, 0x0, 0x0, 0x0, .const 0x2000, PD_PCIE⟩,
    ⟨0xC00018, 0x4, 1, 0x4, 1, 0x0, 0x0, 0x0, 0xFFFFFFFF, .const 0x0, PD_PCIE⟩,
    ⟨0xC0001C, 0x4, 1, 0x4, 1, 0x0, 0x0, 0x0, 0xFFFFFFFF, .const 0x0, PD_PCIE⟩,
    ⟨0xC00020, 0x4, 1, 0x4, 1, 0x0, 0x0, 0x0, 0xFFFFFFFF, .const 0x0, PD_FABRIC⟩,
    ⟨0xC01000, 0x10, 64, 0x4, 1, 0xE0FF0000, 0x0, 0x0, 0x0, .const 0xC0000, PD_PCIE⟩,
    ⟨0xC01004, 0x10, 64, 0x4, 1, 0xFFFFFFFF, 0x0, 0x0, 0x0, .const 0x0, PD_PCIE⟩,
    ⟨0xC01008, 0x10, 64, 0x4, 1, 0xFFFFFFFF, 0x0, 0x0, 0x0, .const 0x0, PD_PCIE⟩,
    ⟨0xC0100C, 0x10, 64, 0x4, 1, 0xFFFFF, 0x0, 0x0, 0x0, .const 0x0, PD_PCIE⟩,
    ⟨0xC02000, 0x40, 64, 0x4, 1, 0xFFFFF000, 0x0, 0x0, 0x0, .const 0x0, PD_PCIE⟩,
    ⟨0xC02004, 0x40, 64, 0x4, 1, 0xFFF, 0x0, 0x0, 0x0, .const 0x0, PD_PCIE⟩,
    ⟨0xC02008, 0x40, 64, 0x4, 1, 0xF87F001F, 0x0, 0x0, 0x0, .const 0x20000006, PD_PCIE⟩ ]

/-- Rows of the DMA block. -/
def dmaRows1 : List RegRow :=
  [ ⟨0xC0200C, 0x40, 64, 0x4, 1, 0xFFFFFFFF, 0x0, 0x0, 0x0, .const 0x0, PD_PCIE⟩,
    ⟨0xC02010, 0x40, 64, 0x4, 1, 0x0, 0x0, 0x0, 0x0, .const 0x0, PD_PCIE⟩,
    ⟨0xC02014, 0x40, 64, 0x4, 1, 0xFFFF, 0x0, 0x0, 0x0, .const 0x200, PD_PCIE⟩,
    ⟨0xC02018, 0x40, 64, 0x4, 1, 0x0, 0x0, 0x0, 0x0, .const 0x0, PD_PCIE⟩,
    ⟨0xC0201C, 0x40, 64, 0x4, 1, 0x0, 0x0, 0x0, 0x0, .const 0x0, PD_PCIE⟩,
    ⟨0xC02020, 0x40, 64, 0x4, 1, 0x0, 0x0, 0x0, 0x0, .const 0x0, PD_PCIE⟩,
    ⟨0xC02024, 0x40, 64, 0x4, 1, 0x0, 0x0, 0x0, 0x0, .const 0x0, PD_PCIE⟩,
    ⟨0xC02028, 0x40, 64, 0x4, 1, 0x0, 0x0, 0x0, 0x0, .const 0x0, PD_PCIE⟩,
    ⟨0xC0202C, 0x40, 64, 0x4, 1, 0x0, 0x0, 0x0, 0xFFFFFFFF, .const 0x0, PD_PCIE⟩,
    ⟨0xC02030, 0x40, 64, 0x4, 1, 0x0, 0x0, 0x0, 0xFFFFFFFF, .const 0x0, PD_PCIE⟩,
    ⟨0xC03000, 0x40, 4, 0x4, 1, 0xFFFFF000, 0x0, 0x0, 0x0, .const 0x0, PD_PCIE⟩,
    ⟨0xC03004, 0x40, 4, 0x4, 1, 0xFFF, 0x0, 0x0, 0x0, .const 0x0, PD_PCIE⟩,
    ⟨0xC03008, 0x40, 4, 0x4, 1, 0x887F001F, 0x0, 0x0, 0x0, .const 0x6, PD_PCIE⟩,
    ⟨0xC0300C, 0x40, 4, 0x4, 1, 0x0, 0x0, 0x0, 0x0, .const 0x0, PD_PCIE⟩,
    ⟨0xC03010, 0x40, 4, 0x4, 1, 0xFFFFFFFF, 0x0, 0x0, 0x0, .const 0x0, PD_PCIE⟩,
    ⟨0xC03018, 0x40, 4, 0x4, 1, 0x0, 0x0, 0x0, 0x0, .const 0x0, PD_PCIE⟩ ]

/-- Rows of the DMA block. -/
def dmaRows2 : List RegRow :=
  [ ⟨0xC0301C, 0x40, 4, 0x4, 1, 0x0, 0x0, 0x0, 0x0, .const 0x0, PD_PCIE⟩,
    ⟨0xC03020, 0x40, 4, 0x4, 1, 0x0, 0x0, 0x0, 0x0, .const 0x0, PD_PCIE⟩,
    ⟨0xC03024, 0x40, 4, 0x4, 1, 0x0, 0x0, 0x0, 0x0, .const 0x0, PD_PCIE⟩,
    ⟨0xC03028, 0x40, 4, 0x4, 1, 0x0, 0x0, 0x0, 0x0, .const 0x0, PD_PCIE⟩,
    ⟨0xC0302C, 0x40, 4, 0x4, 1, 0x0, 0x0, 0x0, 0xFFFFFFFF, .const 0x0, PD_PCIE⟩,
    ⟨0xC03030, 0x40, 4, 0x4, 1, 0x0, 0x0, 0x0, 0xFFFFFFFF, .const 0x0, PD_PCIE⟩,
    ⟨0xC80000, 0x10, 128, 0x4, 1, 0xFFFFFFFC, 0x0, 0x0, 0x0, .const 0x0, PD_PCIE⟩,
    ⟨0xC80004, 0x10, 128, 0x4, 1, 0xFFFFFFFF, 0x0, 0x0, 0x0, .const 0x0, PD_PCIE⟩,
    ⟨0xC80008, 0x10, 128, 0x4, 1, 0xFFFFFFFF, 0x0, 0x0, 0x0, .const 0x0, PD_PCIE⟩,
    ⟨0xC8000C, 0x10, 128, 0x4, 1, 0x1, 0x0, 0x0, 0x0, .const 0x1, PD_PCIE⟩,
    ⟨0xC81000, 0x4, 4, 0x4, 1, 0x0, 0x0, 0x0, 0x0, .const 0x0, PD_PCIE⟩ ]

/-- Rows of the EVT block. -/
def evtRows0 : List RegRow :=
  [ ⟨0xD00000, 0x4, 1, 0x4, 1, 0x1, 0x0, 0x0, 0x0, .const 0x1, PD_FABRIC⟩,
    ⟨0xD00004, 0x4, 1, 0x4, 1, 0x0, 0x1, 0x0, 0x0, .const 0x0, PD_FABRIC⟩,
    ⟨0xD00010, 0x4, 8, 0x4, 1, 0x0, 0xFFFFFFFF, 0x0, 0x0, .const 0x0, PD_FABRIC⟩,
    ⟨0xD00400, 0x4, 256, 0x4, 1, 0xE300007F, 0x0, 0x0, 0x0, .evtSrc, PD_FABRIC⟩,
    ⟨0xD00800, 0x4, 128, 0x4, 1, 0x3FF, 0x0, 0x0, 0x0, .const 0x0, PD_FABRIC⟩ ]

/-- Rows of the REL block. -/
def relRows0 : List RegRow :=
  [ ⟨0xE00000, 0x4, 1, 0x4, 1, 0x0, 0xFF, 0x0, 0x0, .const 0x0, PD_AON⟩,
    ⟨0xE00004, 0x4, 1, 0x4, 1, 0x0, 0x7, 0x0, 0x0, .const 0x0, PD_AON⟩,
    ⟨0xE00008, 0x4, 1, 0x4, 1, 0x0, 0x0, 0x0, 0xFFFFFFFF, .const 0x0, PD_AON⟩,
    ⟨0xE0000C, 0x4, 1, 0x4, 1, 0x0, 0x0, 0x0, 0xFFFFFFFF, .const 0x0, PD_AON⟩,
    ⟨0xE00010, 0x4, 1, 0x4, 1, 0xFF800000, 0x0, 0x0, 0x0, .const 0x18800000, PD_AON⟩,
    ⟨0xE00014, 0x4, 1, 0x4, 1, 0xFFFF0000, 0x0, 0x0, 0x0, .const 0x8180000, PD_AON⟩,
    ⟨0xE00018, 0x4, 1, 0x4, 1, 0x0, 0x0, 0x0, 0x0, .const 0x0, PD_AON⟩,
    ⟨0xE0001C, 0x4, 1, 0x4, 1, 0x0, 0x0, 0x0, 0xFFFFFFFF, .const 0x0, PD_AON⟩,
    ⟨0xE00020, 0x4, 2, 0x4, 1, 0x0, 0x0, 0xFFFFFFFF, 0x0, .const 0x0, PD_AON⟩,
    ⟨0xE00028, 0x4, 1, 0x4, 1, 0x0, 0x0, 0xFF, 0x0, .const 0x0, PD_AON⟩,
    ⟨0xE0002C, 0x4, 1, 0x4, 1, 0x0, 0x0, 0x3FFFF, 0x0, .const 0x0, PD_AON⟩,
    ⟨0xE00030, 0x4, 1, 0x4, 1, 0xC0003FFF, 0x0, 0x0, 0x0, .const 0x80000064, PD_AON⟩,
    ⟨0xE00034, 0x4, 1, 0x4, 1, 0xC0003FFF, 0x0, 0x0, 0x0, .const 0x14, PD_AON⟩,
    ⟨0xE00038, 0x4, 1, 0x4, 1, 0xC0003FFF, 0x0, 0x0, 0x0, .const 0x40000064, PD_AON⟩,
    ⟨0xE0003C, 0x4, 1, 0x4, 1, 0x0, 0x0, 0x0, 0x0, .const 0x0, PD_AON⟩,
    ⟨0xE00040, 0x4, 1, 0x4, 1, 0x0, 0x0, 0x0, 0x0, .const 0x0, PD_AON⟩ ]

/-- Rows of the REL block. -/
def relRows1 : List RegRow :=
  [ ⟨0xE00050, 0x4, 1, 0x4, 1, 0xC7000000, 0x0, 0x0, 0x0, .const 0x80000000, PD_AON⟩,
    ⟨0xE00054, 0x4, 1, 0x4, 1, 0x0, 0x0, 0x0, 0x0, .const 0x0, PD_AON⟩,
    ⟨0xE00058, 0x4, 1, 0x4, 1, 0x0, 0x0, 0x0, 0x0, .const 0x0, PD_AON⟩,
    ⟨0xE0005C, 0x4, 1, 0x4, 1, 0x0, 0x0, 0x0, 0xFFFFFFFF, .const 0x0, PD_AON⟩,
    ⟨0xE00060, 0x4, 1, 0x4, 1, 0xFFFFFFFF, 0x0, 0x0, 0x0, .const 0x0, PD_AON⟩,
    ⟨0xE00064, 0x4, 1, 0x4, 1, 0x0, 0x0, 0x0, 0x0, .const 0x0, PD_AON⟩,
    ⟨0xE00080, 0x4, 8, 0x4, 1, 0x0, 0x0, 0x0, 0x0, .const 0x0, PD_AON⟩,
    ⟨0xE000A0, 0x4, 5, 0x4, 1, 0x0, 0x0, 0x0, 0x0, .const 0x0, PD_AON⟩,
    ⟨0xE000C0, 0x4, 1, 0x4, 1, 0x0, 0x0, 0x0, 0x0, .const 0x0, PD_AON⟩ ]

/-- Rows of the PAR block. -/
def parRows0 : List RegRow :=
  [ ⟨0xF00000, 0x4, 1, 0x4, 1, 0xC0FF0000, 0x0, 0x0, 0x0, .const 0xA0000, PD_AON⟩,
    ⟨0xF00004, 0x4, 1, 0x4, 1, 0x0, 0x0, 0x0, 0x0, .const 0x0, PD_AON⟩,
    ⟨0xF00008, 0x4, 1, 0x4, 1, 0x0, 0x1F, 0x0, 0x0, .const 0x0, PD_AON⟩,
    ⟨0xF0000C, 0x4, 1, 0x4, 1, 0x0, 0x0, 0x0, 0x0, .const 0x0, PD_AON⟩,
    ⟨0xF00010, 0x4, 1, 0x4, 1, 0x0, 0x0, 0x0, 0x0, .const 0x0, PD_AON⟩,
    ⟨0xF00014, 0x4, 1, 0x4, 1, 0xF, 0x0, 0x0, 0x0, .const 0x7, PD_AON⟩,
    ⟨0xF00018, 0x4, 1, 0x4, 1, 0x0, 0x0, 0x0, 0x0, .const 0x0, PD_AON⟩,
    ⟨0xF0001C, 0x4, 1, 0x4, 1, 0x0, 0x0, 0x0, 0x0, .const 0x0, PD_AON⟩,
    ⟨0xF00020, 0x4, 4, 0x4, 1, 0x8FFFFFFF, 0x0, 0x0, 0x0, .const 0x0, PD_AON⟩,
    ⟨0xF00040, 0x4, 1, 0x4, 1, 0x0, 0x0, 0x0, 0xFFFFFFFF, .const 0x0, PD_AON⟩,
    ⟨0xF00044, 0x4, 1, 0x4, 1, 0x0, 0x0, 0x0, 0xFFFFFFFF, .const 0x0, PD_AON⟩,
    ⟨0xF00048, 0x4, 1, 0x4, 1, 0x0, 0x0, 0x0, 0xFFFFFFFF, .const 0x0, PD_AON⟩,
    ⟨0xF0004C, 0x4, 1, 0x4, 1, 0x0, 0x0, 0x0, 0xFFFFFFFF, .const 0x0, PD_AON⟩,
    ⟨0xF00050, 0x4, 1, 0x4, 1, 0x0, 0x0, 0x0, 0xFFFFFFFF, .const 0x0, PD_AON⟩ ]

/-- The register table of one 1 MiB block of R30. -/
def blockRows : Nat → List RegRow
  | 0 => gctlRows0 ++ gctlRows1
  | 1 => cpmRows0 ++ cpmRows1
  | 2 => calRows0 ++ calRows1
  | 3 => selRows0 ++ selRows1 ++ selRows2
  | 4 => dryRows0 ++ dryRows1
  | 5 => grvRows0 ++ grvRows1
  | 6 => gnsRows0 ++ gnsRows1 ++ gnsRows2 ++ gnsRows3
  | 7 => prtRows0 ++ prtRows1
  | 8 => clsRows0
  | 9 => gysRows0 ++ gysRows1
  | 10 => cryRows0 ++ cryRows1
  | 11 => bneRows0
  | 12 => dmaRows0 ++ dmaRows1 ++ dmaRows2
  | 13 => evtRows0
  | 14 => relRows0 ++ relRows1
  | 15 => parRows0
  | _ => []

/-- The copy of a row that an offset names. -/
def rowIndex (r : RegRow) (off : Nat) : Option (Nat × Nat) :=
  if off < r.base then none
  else
    let i := (off - r.base) / r.stride1
    let rest := (off - r.base) % r.stride1
    let j := rest / r.stride2
    if i < r.count1 && j < r.count2 && rest % r.stride2 == 0 then some (i, j) else none

/-- The first row that names an offset, with the index of its copy. -/
def findRow : List RegRow → Nat → Option (RegRow × Nat × Nat)
  | [], _ => none
  | r :: rs, off =>
    match rowIndex r off with
    | some (i, j) => some (r, i, j)
    | none => findRow rs off

/-- The register at a BAR0 offset, none at an unmapped one (R30, R32 step 2). -/
def regRow (off : Nat) : Option (RegRow × Nat × Nat) := findRow (blockRows (off / 2 ^ 20)) off

/-- The table under R278: input, profile and priority of the 19 signals. -/
def signalTable : List (Nat × Nat × Nat) :=
  [ (0, 0, 0), (0, 1, 2), (1, 1, 1), (2, 1, 1), (0, 1, 0), (2, 1, 1), (2, 1, 2), (0, 0, 0), (0, 1, 2), (2, 1, 1) ]
    ++ [ (1, 0, 1), (0, 0, 0), (1, 0, 1), (0, 0, 0), (0, 1, 2), (1, 1, 2), (2, 1, 2), (2, 0, 0), (0, 0, 3) ]

/-- The reset value of a copy of a register. -/
def RegReset.value : RegReset → Nat → Word
  | .const v, _ => v
  | .clsInd, m => BitVec.ofNat 32
      ((4 * m) % 64 + (4 * m + 1) % 64 * 2 ^ 8 + (4 * m + 2) % 64 * 2 ^ 16 + (4 * m + 3) % 64 * 2 ^ 24)
  | .gysMap, l => BitVec.ofNat 32 (0x20000000 + 9 * (l / 8) + l % 8)
  | .gnsSig, s =>
    match signalTable[s]? with
    | some (inp, prof, prio) => BitVec.ofNat 32 (0x80FF0000 + inp * 2 ^ 29 + prof * 2 ^ 27 + prio * 2 ^ 24)
    | none => 0
  | .gnsCh, c => BitVec.ofNat 32 (c / 16 * 16)
  | .evtSrc, s => BitVec.ofNat 32 (0x60000000 + s / 2)

/-- What a register holds before anything writes it: its reset value; an unmapped offset reads 0 (R32). -/
def regDefault (off : Nat) : Word :=
  match regRow off with
  | some (r, i, _) => r.reset.value i
  | none => 0

/-- The domain that holds a register's own logic (R32 step 3). -/
def regDomain (r : RegRow) (off : Nat) : Nat :=
  if r.domain = domainOfQuad then PD_SERDES ((off - 0x700000) / 0x40000) else r.domain

/-- The domain whose logic decodes the offsets of a block (R32 step 1). -/
def decoderDomain (off : Nat) : Nat :=
  match off / 2 ^ 20 with
  | 3 | 8 | 9 | 12 | 13 => PD_FABRIC
  | 6 => PD_GNSS_TRK
  | 7 => PD_SERDES ((off - 0x700000) / 0x40000)
  | _ => PD_AON

end Sys2Proof.Machine
end

