-- ==== Sys2Proof/Machine/State.lean ====
section
/-!
DEFINITION. The state of the block: the BAR0 register map, the state that no register shows, and the queue of waiting
commands. Plain data; INVENTORY.md lists each piece with the rule that names it.
-/
namespace Sys2Proof.Machine

/-- One pulse from a block to the event controller (R370). -/
structure Raise where
  src : Nat
  data0 : Word
  data1 : Word
  deriving DecidableEq, Repr

/-- One trouble-log entry without its TIME (R480). -/
structure LogEntry where
  source : Nat
  severity : Nat
  code : Nat
  data0 : Word
  data1 : Word
  detail : Word64
  deriving DecidableEq, Repr

/-- A register access that waits for its domain (R32 step 3). -/
structure Access where
  agent : Agent
  off : Nat
  write : Bool
  value : Word
  deriving DecidableEq, Repr

/-- How a register access completed for the agent that made it (R4, R32). -/
inductive Completion where
  /-- no read has completed yet -/
  | none
  /-- a read returned this word -/
  | data (v : Word)
  /-- Unsupported Request, nothing read or written (R4) -/
  | unsupportedRequest
  deriving DecidableEq, Repr

/-- The register fabric: accesses that wait, oldest first, and the last completion. -/
structure BusState where
  waiting : List Access
  last : Completion
  deriving DecidableEq, Repr

/-- A time replica (R20 to R22): its count in units of 2^-32 ns and dither accumulator, whether it has been loaded
since its domain's reset, whether no compare has matched since the load, and whether a reload is due. -/
structure Replica where
  count : Nat
  acc : Nat
  loaded : Bool
  unchecked : Bool
  reload : Bool
  deriving DecidableEq, Repr

/-- An accepted increment commit with the TCLK edges left before its apply edge (R38, R41). -/
structure PendIncr where
  low : Word
  high : Word
  edges : Nat
  deriving DecidableEq, Repr

/-- An accepted step (R38, R45). -/
structure PendStep where
  absolute : Bool
  atSecond : Bool
  value : CT96
  edges : Nat
  deriving DecidableEq, Repr

/-- A UTC state: smear settings, warning window, base offset, leap entries (TAI second and offset) and expiry
(R58 to R62). -/
structure Utc where
  smearEn : Bool
  smearLead : Nat
  warn : Nat
  offset0 : Int
  count : Nat
  entries : List (Nat × Int)
  expiry : Nat
  deriving DecidableEq, Repr

/-- An accepted UTC commit (R59), and whether a configuration record made it (R453). -/
structure PendUtc where
  utc : Utc
  force : Bool
  edges : Nat
  config : Bool
  deriving DecidableEq, Repr

/-- An armed comparator (R55): its owner, its CF64 target, and whether it has fired. -/
structure Comparator where
  owner : CmpOwner
  target : Word64
  fired : Bool
  deriving DecidableEq, Repr

/-- Caldera (chapter 02): the master count with its dither accumulator, the changes that are pending, the UTC state, the
replicas with the number of compares and the (replica, compare interval) pairs whose stamps are suspect (R21), the PTM
dialogue that is open, t1 and t4 of the one before it, dialogues owed and the last record, and the comparators. -/
structure CalState where
  count : Nat
  acc : Nat
  absEdge : Bool
  pendIncr : Option PendIncr
  pendStep : Option PendStep
  pendUtc : Option PendUtc
  utc : Utc
  replicas : List Replica
  compares : Nat
  bad : List (Nat × Nat)
  ptmT1 : Option CT96
  ptmBefore : Option (CT96 × CT96)
  ptmOwed : Nat
  ptmDev : CT96
  ptmHost : Word64
  ptmDelay : Word
  comparators : List Comparator
  deriving DecidableEq, Repr

/-- What the classifier found in a frame (R89, R114): the code, the dispatch entry number, the offsets (0xFFFF where
there is none), the VLAN tags, the IP version, the preemption class, and whether it carries L4 ports. -/
structure FrameInfo where
  code : Nat
  entry : Nat
  ipOff : Nat
  l4Off : Nat
  udpOff : Nat
  vlanTags : Nat
  ipVersion : Nat
  pclass : Nat
  hasPorts : Bool
  deriving DecidableEq, Repr

/-- The insertion fields of R81 to R84. -/
structure Mark where
  enabled : Bool
  off : Nat
  fmt : Nat
  cks : Nat
  cksOff : Nat
  auxOff : Nat
  capture : Bool
  tag : Nat
  deriving DecidableEq, Repr

/-- Who put a frame into an egress queue (R85). -/
inductive FrameOrigin where
  | array
  | host
  deriving DecidableEq, Repr

/-- A stamp that a consumer took: its time, whether it was known to be suspect when it was taken, and the replica and the
compare interval that decide the rest (R21). -/
structure Stamp where
  time : CT96
  suspect : Bool
  replica : Nat
  interval : Nat
  deriving DecidableEq, Repr

/-- A time that no replica's stamp gave: no compare marks it. -/
def Stamp.plain (t : CT96) : Stamp := ⟨t, false, 29, 0⟩

/-- A frame in the packet buffer, without its FCS: bytes, ingress port and stamp record, classification, insertion
fields, egress port, origin, the time it entered an egress queue (R86), the offsets of its 8-byte words that carry a
poison mark (R469), and the ring and serial number of its descriptor where it came from a down ring (R392). -/
structure Frame where
  bytes : List Byte
  port : Nat
  stamp : Stamp
  info : FrameInfo
  mark : Mark
  egress : Nat
  origin : FrameOrigin
  queued : CT96
  poison : List Nat
  job : Option (Nat × Nat)
  deriving DecidableEq, Repr

/-- An egress capture record (R84). -/
structure CaptureRecord where
  tag : Nat
  stamp : Stamp
  deriving DecidableEq, Repr

/-- One port (chapter 03): received frames that wait for the classifier, frames that wait for egress, capture
records, the bit times of an honoured pause, the last pattern edge stamp, the egress stamp of the loop calibration frame
in flight with the sum and count of the loop, and the stamps taken since the last compare of the port's replica. -/
structure PortState where
  received : List Frame
  egress : List Frame
  captures : List CaptureRecord
  pauseBits : Nat
  calTx : CT96
  calSent : Option CT96
  loopSum : Int
  loopCount : Nat
  fresh : Nat
  deriving DecidableEq, Repr

/-- What a request of the array carries out (R138, R150, R155, R158). -/
inductive RequestKind where
  | frame
  | capture
  | timer (k : Nat)
  | init (bank : Nat)
  deriving DecidableEq, Repr

/-- A request for a context of a logical tile: class, entry, the registers it starts with (R95), and its frame. -/
structure Request where
  kind : RequestKind
  tile : Nat
  pclass : Nat
  entry : Nat
  bank : Nat
  stamp : Stamp
  g1 : Nat
  code : Nat
  tag : Nat
  frame : Option Frame
  deriving DecidableEq, Repr

/-- A frame toward an up ring, with the logical tile of the context that sent it by TOHOST (R391). -/
structure UpFrame where
  ring : Nat
  frame : Frame
  tile : Option Nat
  deriving DecidableEq, Repr

/-- The ports, the classifier and what they send on: requests toward the array in dispatch order, frames toward up
rings, and the frames that have left the balls. -/
structure NetState where
  ports : List (Nat × PortState)
  nextIndex : Nat
  toArray : List Request
  toHost : List UpFrame
  wire : List (Nat × List Byte)
  deriving DecidableEq, Repr

/-- A long-latency operation with the operands it was issued with (R102). -/
inductive LongKind where
  /-- TWAIT (R112) -/
  | twait
  /-- TBLD: address -/
  | load (a : Nat)
  /-- TBCAS: address, expected and new value -/
  | cas (a : Nat) (old new : Word64)
  /-- TBADD: address and addend -/
  | add (a : Nat) (v : Word64)
  /-- TBFIND: bucket and key -/
  | find (a : Nat) (key : Word64)
  /-- TBLOCK: lock word -/
  | lock (a : Nat)
  /-- TBUNLK on a service core: its read of the lock word -/
  | unlockRead (a : Nat)
  /-- TBGET: T address, L address, bytes -/
  | get (a l n : Nat)
  /-- TKN: bucket and whole tokens -/
  | take (a n : Nat)
  /-- TKSET: bucket, RATE and DEPTH, and whether LEVEL and LAST are set -/
  | setBucket (a : Nat) (v : Word64) (fill : Bool)
  /-- CJOB: descriptor, auxiliary word and operation code -/
  | job (desc : Nat) (aux : Word64) (code : Nat)
  deriving DecidableEq, Repr

/-- An outstanding long-latency operation, the general register it writes, and the PC of its instruction. -/
structure LongOp where
  kind : LongKind
  dst : Option Nat
  pc : Nat
  deriving DecidableEq, Repr

/-- A posted store on its way to the table pool; late when issued after the operation outstanding (R118). -/
structure PostedStore where
  addr : Nat
  bytes : List Byte
  late : Bool
  deriving DecidableEq, Repr

/-- Why a context is BLOCKED (R134). -/
inductive BlockCause where
  | cell (i : Nat)
  | stores
  | jobQueue
  deriving DecidableEq, Repr

/-- The state of R134 of a context or a core's thread; an ENDING context holds its kill reason, if it was killed. -/
inductive ThreadStatus where
  | free
  | ready
  | waiting
  | blocked (c : BlockCause)
  | ending (kill : Option Nat)
  deriving DecidableEq, Repr

/-- The Walzor state of R94 with what is in flight: registers as sparse maps with default 0, PC, flags, the
instructions executed, the outstanding operation, posted stores oldest first, and a register load that waits on the
control fabric (destination, sign extension). -/
structure Thread where
  status : ThreadStatus
  g : List (Nat × Word64)
  t : List (Nat × CT96)
  pc : Nat
  cy : Bool
  ov : Bool
  sus : Bool
  res : Bool
  executed : Nat
  op : Option LongOp
  stores : List PostedStore
  busLoad : Option (Nat × Bool)
  deriving DecidableEq, Repr

/-- A tile context: its thread, what it was started with (R95), its frame, the later cells that have arrived (R107),
the locks it holds (R121), and when it became READY (R137). -/
structure Context where
  th : Thread
  kind : RequestKind
  tile : Nat
  pclass : Nat
  bank : Nat
  budget : Nat
  stamp : Stamp
  code : Nat
  tag : Nat
  frame : Option Frame
  cells : List Nat
  locks : List Nat
  order : Nat
  deriving DecidableEq, Repr

/-- The responder array (chapter 05): contexts by 48 p + c, queued requests in arrival order, the table pool, the L
memories by 2^19 p + a, the program banks by 2^21 b + a, the switch that is pending (target, quiesced), the bank whose
contexts are old, a bank check that runs (bank, interrupted), init contexts owed (tile, bank, after its old contexts),
tiles out of dispatch for a core fault or a failed init context, tiles that return from a core fault when their init
context ends, and the slot of 2^-20 s of each timer's last firing, plus one. -/
structure GysState where
  contexts : List (Nat × Context)
  queued : List Request
  pool : List (Nat × Byte)
  l : List (Nat × Byte)
  banks : List (Nat × Byte)
  order : Nat
  pendSwitch : Option (Nat × Bool)
  oldBank : Option Nat
  check : Option (Nat × Bool)
  initOwed : List (Nat × Nat × Bool)
  coreFault : List Nat
  initFailed : List Nat
  returning : List Nat
  fired : List (Nat × Nat)
  deriving DecidableEq, Repr

/-- One region of a service core (R129): virtual base, physical base and size in 64 KiB units, and rights. -/
structure Region where
  valid : Bool
  base : Nat
  phys : Nat
  units : Nat
  read : Bool
  write : Bool
  device : Bool
  deriving DecidableEq, Repr

/-- A service core (R127 to R130): its thread, system registers, regions, interrupt vectors pending, whether it is stopped,
stopped by WAIT at a depth, or held in reset, and the cycles since it left reset beyond one for each instruction (R128). -/
structure CoreState where
  th : Thread
  ie : Bool
  pie : Bool
  inh : Bool
  cause : Nat
  epc : Nat
  faddr : Word64
  pwrMode : Nat
  vec : Nat
  regions : List (Nat × Region)
  irqs : List Nat
  stopped : Bool
  depth : Option Nat
  inReset : Bool
  idle : Nat
  deriving DecidableEq, Repr

/-- The service cores, their SRAM by 2^18 k + a, and the GNSS memory they reach (R388). -/
structure CoresState where
  cores : List (Nat × CoreState)
  sram : List (Nat × Byte)
  gnss : List (Nat × Byte)
  deriving DecidableEq, Repr

/-- The crypto block (chapter 07): jobs queued by (tile, context) in arrival order, jobs running (pipeline, tile,
context, slot bound), the cluster that the round robin serves next, pipelines in their known-answer test, requests
since the last reseed, the key-wrap key where the fuses hold KS, keys by slot, anchors (entry, type, data), and the jobs
of which the program wrote bytes that their descriptor names (R195). -/
structure CryState where
  queued : List (Nat × Nat)
  running : List (Nat × Nat × Nat × Option Nat)
  next : Nat
  testing : List Nat
  requests : Nat
  kwk : Option (List Byte)
  keys : List (Nat × List Byte)
  anchors : List (Nat × Nat × List Byte)
  spoiled : List (Nat × Nat)
  deriving DecidableEq, Repr

/-- Reliability control (chapter 17): poison marks by memory ID and word address, retired pipelines and engines by unit,
targeted self-tests that run and that wait in arrival order, by unit and row, the times of TRANSIENT verdicts by unit and
row, rows remapped by memory ID and row, the trouble log by entry index, whether source 231 is due when the log fills or
wraps, and the life used in minutes (R497). -/
structure RelState where
  poison : List (Nat × Nat)
  retired : List Nat
  tests : List (Nat × Nat)
  waiting : List (Nat × Nat)
  transients : List (Nat × Nat × Nat)
  spares : List (Nat × Nat)
  log : List (Nat × CT96 × LogEntry)
  full : Bool
  wear : Rat
  deriving DecidableEq, Repr

/-- A line that travels to the pair peer (R493): T address, poison mask, bytes. -/
structure MirrorLine where
  addr : Nat
  mask : Nat
  bytes : List Byte
  deriving DecidableEq, Repr

/-- The body of a message of the pair link (R485). -/
inductive PairBody where
  | heartbeat (role mode qlevel flags : Nat) (dsn : Word64)
  | form (pref : Bool) (dsn : Word64)
  | formAck (role : Nat) (epoch : Word)
  | yield
  | timex (k : Nat) (second : Nat) (stamp : CT96)
  | mirror (line : MirrorLine)
  deriving DecidableEq, Repr

/-- A FORM that runs (R495): the new epoch, once the peer's FORM has made this device the active one. -/
structure Forming where
  epoch : Option Word
  deriving DecidableEq, Repr

/-- What the last heartbeat told beyond PAR_STATUS (R485, R496): DEPOSED and MSYNC of the peer, and how many heartbeats in
a row reported it ACTIVE in a mode that answers no clients (R490). -/
structure PairPeer where
  deposed : Bool
  msync : Bool
  dumb : Nat
  deriving DecidableEq, Repr

/-- The pair controller (chapter 17): messages queued, mirror lines that wait for the link, messages sent, the SEQ of the
next one, PAIR_ALIVE_OUT, the epoch of the last heartbeat, what it told, whether one of the current epoch came in this
interval, intervals missed in a row, a FORM that runs, whether a takeover waits for FENCE_SETTLE, whether a switchover
waits for the new epoch, a resync with its next line, whether a line was lost since it began, the peer's edges (the last
rising stamp, and the number and second of the last pulse), own stamps of the peer's edges by number and second, and the
offset that S13 takes next. -/
structure PairState where
  queue : List PairBody
  mirror : List MirrorLine
  sent : List (List Byte)
  seq : Nat
  alive : Bool
  peerEpoch : Option Word
  peer : Option PairPeer
  got : Bool
  missed : Nat
  forming : Option Forming
  settling : Bool
  yielding : Bool
  resync : Option Nat
  lost : Bool
  rise : Option CT96
  pulse : Option (Nat × Nat)
  stamps : List (Nat × Nat × CT96)
  offset : Option Int
  deriving DecidableEq, Repr

/-- A reference slot as SC6 and SC7 keep it (chapter 08): the latest x in 2^-16 ns and the measurements since the last
discontinuity, newest first, with the instant of the first; the instants of the last accepted measurement and of the
timer's zero, in 2^-16 ns; QCLASS before DISAG; the grandmaster identity and whether it has changed; while SUSPECT, the
arbiter that marked it (none: the prediction) and the other member of its pair; whether nothing has been measured since a
step that the firmware did not issue (R227); and the master chosen on a client port (R186). -/
structure SlotState where
  x : Int
  hist : List (Int × Int)
  start : Int
  seen : Option Int
  timer : Int
  quality : Nat
  master : Option Nat
  changed : Bool
  marked : Option (Option Nat × Nat)
  stale : Bool
  sender : Option Nat
  deriving DecidableEq, Repr

/-- The holdover model of R246: Y0, A, R (per day), C1, C2, CD as fractions, the fitted flags, T0 in K and the model
epoch in TAI seconds. -/
structure Model where
  y0 : Rat
  a : Rat
  r : Rat
  c1 : Rat
  c2 : Rat
  cd : Rat
  fitted : Nat
  t0 : Option Rat
  tm : Option Nat
  deriving DecidableEq, Repr

/-- A sample of R247: the instant, y, T in K and the temperature slope in K/h. -/
structure Sample where
  time : Int
  y : Rat
  temp : Rat
  slope : Rat
  deriving DecidableEq, Repr

/-- A record injected for S14 or S15 (R223). -/
structure Injected where
  valid : Bool
  quality : Nat
  off : CT96
  at_ : CT96
  deriving DecidableEq, Repr

/-- What SC6 and SC7 hold for selection and discipline (chapter 08): the slots, the loop integrator, y in effect and the
last 1,000 s of y in TRACK (interval in s, y), E at entry to holdover in ns and the instant of entry, since when the lock
condition has held, the model, the one it was seeded with and its samples, T in use with its slope and the last hour of readings (instant, T in
1/256 K), the alignment that waits (true: the initial one) and the one whose step Caldera has accepted, records not yet
taken, pairs that disagree without an arbiter, the better slots that returned during a slew, the aid that acts, and x of the selected slot. -/
structure SelState where
  slots : List (Nat × SlotState)
  integ : Rat
  y : Rat
  track : List (Rat × Rat)
  e0 : Rat
  since : Int
  lockSince : Option Int
  model : Model
  seeded : Model
  samples : List Sample
  temp : Rat
  slope : Rat
  temps : List (Int × Int)
  aligning : Option Bool
  wrote : Option Bool
  injected : List (Nat × Injected)
  pairs : List (Nat × Nat)
  returning : List Nat
  aid : Option Nat
  resid : Int
  deriving DecidableEq, Repr

/-- An edge command that Drypoint has sent for a PPSOUT (R257): the label, the count at its tick in units of 2^-32 ns,
the PLL_F cycle count and phase code, and the CTL and WIDTH registers that the pulse takes. -/
structure EdgeCommand where
  label : Nat
  edge : Int
  cycle : Nat
  phase : Nat
  ctl : Word
  width : Word
  deriving DecidableEq, Repr

/-- One PPSOUT: enabled and not stopped, an enable that waits for a stop, the edge command sent, the last label, the
CTL in effect, the width of the pulse in progress in TCLK ticks, and the count of the last falling edge. -/
structure PpsState where
  armed : Bool
  again : Bool
  sent : Option EdgeCommand
  label : Option Nat
  ctl : Word
  high : Option Nat
  fell : Option Int
  deriving DecidableEq, Repr

/-- One CLKOUT: enabled and not stopped, an enable that waits for a stop, the registers in effect, the level without
POL, the time of the last edge in 2^-32 ns, whether an edge was left out or the scale stepped since, whether QLEVEL
exceeded SQ at the last rising edge computed, and the last edge command (count at its tick, cycle count, phase code). -/
structure ClkState where
  armed : Bool
  again : Bool
  ctl : Word
  freq : Nat
  delay : Word
  level : Bool
  last : Rat
  held : Bool
  quiet : Bool
  sent : Option (Nat × Nat × Nat)
  deriving DecidableEq, Repr

/-- A message on TODOUT: its bytes, the count at its start bit, and its rate (R267). -/
structure TodMessage where
  bytes : List Byte
  start : Int
  baud : Nat
  deriving DecidableEq, Repr

/-- Drypoint (chapter 09): the outputs; the pulse that TODOUT describes next (label, count of its rising edge, whether
its message has been composed), the message being sent, the messages' sequence number, the messages sent, and the last
pulse of GNSS_PPS (count at its edge, WIDTH in ms). -/
structure DryState where
  pps : List (Nat × PpsState)
  clk : List (Nat × ClkState)
  todPulse : Option (Nat × Int × Bool)
  sending : Option TodMessage
  seq : Nat
  line : List (List Byte)
  gpps : Option (Int × Nat)
  deriving DecidableEq, Repr

/-- A search in a channel (R289, R298): its code window in half chips and its Doppler window in Hz on each side, whether
it recovers a signal, whether a cell was detected, dwells completed, dumps in the dwell under way, and the non-coherent sums
of its six cells and of the noise correlator. -/
structure Search where
  code : Nat
  doppler : Nat
  recovers : Bool
  detected : Bool
  dwells : Nat
  dumps : Nat
  cells : List Nat
  noise : Nat
  deriving DecidableEq, Repr

/-- A tracking channel (R291 to R297): state, signal, SV, decoded GLONASS slot and C/N0; the NCOs of R292 (carrier word,
carrier phase in 2^-40 cycle, code rate in 2^-40 chip per sample, code phase in 2^-40 chip, periods of the primary code
within the secondary), the SCNT of the last dump, dumps since allocation, whether a command has come since the last dump, the
merged command, a release that waits for the next dump, the spacing, the count when the clock was lost, consecutive bursts
below 28 dB-Hz, the loop profile in effect, the PLI of the last 20 dumps, dumps in a row with their average at PLI_THR
or above and below it, dumps in its state, and its search. -/
structure Channel where
  state : Nat
  sig : Nat
  sv : Nat
  slot : Nat
  cn0 : Nat
  carrier : Int
  carrierPhase : Nat
  codeRate : Nat
  codePhase : Nat
  secondary : Nat
  at_ : Nat
  dumps : Nat
  commanded : Bool
  pending : ChannelSteer
  release : Bool
  spacing : Nat
  lostAt : Nat
  low : Nat
  loop : Word × Word
  pli : List Rat
  good : Nat
  weak : Nat
  age : Nat
  search : Search
  deriving DecidableEq, Repr

/-- A candidate of R299: signal and SV, measured C/N0, predicted elevation, the uncertainties of R288 in chips and Hz where
it is predicted, and whether an FFT job detected it. -/
structure Candidate where
  sig : Nat
  sv : Nat
  cn0 : Option Nat
  elev : Int
  window : Option (Nat × Nat)
  found : Bool
  deriving DecidableEq, Repr

/-- A dump record (R293): channel, the seven correlator sums, dump count, state, TEST, whether it is valid, and marker number
with carrier and code phase for each marker in the interval. -/
structure DumpRecord where
  channel : Nat
  sums : Correlators
  dumps : Nat
  state : Nat
  test : Bool
  valid : Bool
  marks : List (Nat × Nat × Nat)
  deriving DecidableEq, Repr

/-- A TESLA chain of OSNMA (R326, R327): its identifier, whether its hash is SHA3-256, alpha, the latest key verified with its
subframe, the root's subframe, the chain's length, whether tags use CMAC-AES, and the bits of a tag. -/
structure OsnmaChain where
  cid : Nat
  sha3 : Bool
  alpha : List Byte
  key : List Byte
  subframe : Nat
  start : Nat
  length : Nat
  cmac : Bool
  tagBits : Nat
  deriving DecidableEq, Repr

/-- A tag that awaits its key (R330): satellite, ADKD, the key's subframe, the message and the tag. -/
structure OsnmaTag where
  sv : Nat
  adkd : Nat
  subframe : Nat
  message : List Byte
  tag : List Byte
  deriving DecidableEq, Repr

/-- GNSS navigation (chapter 11): the epoch pulse that is scheduled (label, Q in ps, its PLL_G edge, four to an SCNT) and the
last one emitted (label, Q), GNS_QERR as a read of GNS_QERR_SEC latched it, the PMODE in effect, the held position in mm,
whether APPLY_POS waits for a solution, the survey (count, sums and sums of squares), the last fix record and satellite
table, the record's SEQ, the last second with a FAIL condition, the satellites excluded (system, SV), those whose aided data
disagreed, the constellations excluded with their seconds in agreement, solutions in a row with a uniform C/N0 and with the parallel position apart, the
noise power of each input over the last hour without JAM, the inter-system biases of the last hour of PASS solutions by
system (second, ps), whether S0's x departed from its prediction since the last
solution, whether the broadcast leap data differ; and of OSNMA
the public key in use (identifier, curve, x ‖ y), the chain, the tags that await a key, the authentication state of each
Galileo satellite, the state of the ADKD 4 parameters, and whether the time check of R327 failed. -/
structure NavState where
  pulse : Option (Nat × Int × Int)
  emitted : Option (Nat × Int)
  latched : Option Word
  pmode : Nat
  held : Option (Int × Int × Int)
  apply : Bool
  survey : Nat × List Int × List Int
  fix : List Word
  table : List (Word × Word)
  seq : Nat
  lastFail : Option Nat
  excluded : List (Nat × Nat)
  mismatched : List (Nat × Nat)
  constOut : List (Nat × Nat)
  uniform : Nat
  apart : Nat
  noise : List (List Int)
  isb : List (Nat × List (Nat × Int))
  jumped : Bool
  leapOff : Bool
  publicKey : Option (Nat × KrootCurve × List Byte)
  chain : Option OsnmaChain
  tags : List OsnmaTag
  auth : List (Nat × Nat)
  adkd4 : Nat
  badTime : Bool
  deriving DecidableEq, Repr

/-- The GNSS baseband (chapter 10): good sample-clock windows in a row, markers so far, SCNT and device time of the latest
marker and of the one nearest a device second, the channels, the candidates, the dump records that wait for SC2 to SC5
(queue c >> 6), the acquisition job and whether it is its second run, the detections of the last job, the satellites whose
recovery failed and that an FFT job is to search (signal, SV), whether a channel has reached PLL since EN, the length of the
aiding parse that runs, the aiding records applied (type, system, SV, payload), the navigation state saved for DORMANT,
the front ends held on for a burst, whether a burst runs, the TAI second of the last, and the bursts and drops of this
DORMANT stay. -/
structure GnsState where
  good : Nat
  markers : Nat
  scnt : Nat
  stime : CT96
  near : Option (Nat × CT96)
  channels : List (Nat × Channel)
  candidates : List Candidate
  queue : List DumpRecord
  job : Option (AcqJob × Bool)
  found : List Detection
  wanted : List (Nat × Nat)
  tracked : Bool
  aiding : Option Nat
  aid : List (Nat × Nat × Nat × List Byte)
  saved : Option NavState
  frontEnds : List Nat
  bursting : Bool
  lastBurst : Option Nat
  bursts : Nat
  dropped : Nat
  deriving DecidableEq, Repr

/-- A stamp record of R338: the stamp, its flags, and the compare interval of Graver's replica it was taken in (none on the
LO scale). -/
structure StampRecord where
  stamp : CT96
  flags : Word
  interval : Option Nat
  deriving DecidableEq, Repr

/-- A Graver channel (chapter 12): records in its FIFO, SEQ of the next stamped edge, whether the next record carries GAP,
edges since the divider last passed one, whether it stands armed, whether a threshold settles, DONE, the last opening and
closing of its gate, stamps taken since arming, the calibration table in 2^-16 ns with its generation, whether one has been
accepted and whether the last was rejected, and the replica count of the last stamped edge in 2^-32 ns. -/
structure GrvChannel where
  fifo : List StampRecord
  seq : Nat
  gap : Bool
  divided : Nat
  armed : Bool
  settling : Bool
  isDone : Bool
  opened : Option CT96
  closed : Option CT96
  taken : Nat
  table : List Nat
  gen : Nat
  ready : Bool
  rejected : Bool
  last : Option Nat
  deriving DecidableEq, Repr

/-- A regression unit (R349): the window's start in 2^-16 ns, edges numbered, stamps, the first stamp, the sums of k, k^2, t,
k t and t^2, whether edges were lost or a stamp was suspect, the compare interval of the latest stamp, STEPGEN at the window's
start, windows completed, and the result registers of the last window from N up. -/
structure GrvUnit where
  start : Nat
  edges : Nat
  n : Int
  first : Int
  sk : Int
  skk : Int
  st : Int
  skt : Int
  stt : Int
  lost : Bool
  suspect : Bool
  interval : Option Nat
  stepGen : Nat
  seq : Nat
  result : List Word
  deriving DecidableEq, Repr

/-- Graver (chapter 12): channels, units, the LO scale with its accumulator and a pending increment, the replica count of
the last gate edge by gate input, the captures of a tick (its count, how many), and whether a device-time stamp was taken
since the last compare of Graver's replica. -/
structure GrvState where
  channels : List (Nat × GrvChannel)
  units : List (Nat × GrvUnit)
  lo : Nat
  acc : Nat
  pendIncr : Option PendIncr
  gates : List (Nat × Nat)
  tick : Nat × Nat
  fresh : Bool
  deriving DecidableEq, Repr

/-- A command of the big-number engine: its port, CMD0 and CMD1 (R357). -/
structure BneCommand where
  port : Nat
  cmd0 : Word
  cmd1 : Word
  deriving DecidableEq, Repr

/-- The big-number engine (chapter 13): pending commands (at most one of a port), the command that runs and whether its
validation has ended, and the port served next. -/
structure BneState where
  pending : List BneCommand
  running : Option (BneCommand × Bool)
  next : Nat
  deriving DecidableEq, Repr

/-- A P-level sequence (R429): the level it moves to, whether it raises the level, its phase (0 the voltage before the
clocks, 1 the relock, 2 the voltage after them), and whether the regulator has accepted the AVS write (R506). -/
structure LevelMove where
  target : Nat
  raising : Bool
  phase : Nat
  accepted : Option Bool
  deriving DecidableEq, Repr

/-- Clocks and power (chapter 15): domains in reset (R427), inputs lost (R406), domains powering up by step (1: the switch has
ramped, 2: the reset is released), domains whose power-down request is forced (R424), power-downs owed after a power-up
with their force (R425), forced gates that wait (R413), dual-clock queues by index (state, discarded entries), the P-level
sequence that runs, VDD_ARRAY in mV as the regulator has accepted it and the AVSBus voltage writes sent in mV (R1, R506), whether PD_GNSS_TRK powers up from RETAINED, whether the junction stands at TRIP, I2C transfers that run by master, and the transfers sent (master, address, bytes). -/
structure CpmState where
  inReset : List Nat
  lost : List Nat
  stage : List (Nat × Nat)
  forced : List Nat
  owed : List (Nat × Bool)
  closing : List Nat
  queues : List (Nat × Nat × Nat)
  level : Option LevelMove
  vddArray : Nat
  avs : List Nat
  retained : Bool
  tripped : Bool
  transfers : List (Nat × Word)
  i2c : List (Nat × Nat × List Byte)
  deriving DecidableEq, Repr

/-- Global control (chapter 16): RESET_N low, the internal power-on reset held, causes of SAFE that wait for the end of boot
or of DORMANT (bits of GCTL_CAUSE), firmware running from the ROM, the mode in which SLEEP was accepted with the second of
DORMANT entry, what CPM_KEEP holds of the selector (its state at entry and SEL_STATUS), configuration pairs still to be
written in step 6 and after step 7, anchors of the slot, the flash, and the flash command that runs (OP, address, length). -/
structure GctlState where
  resetN : Bool
  por : Bool
  causes : List Nat
  rom : Bool
  slept : Option (Nat × Nat)
  keep : Option (SelState × Word)
  later : List (Nat × Word)
  post : List (Nat × Word)
  anchors : List (Nat × Nat × List Byte)
  flash : List (Nat × Byte)
  command : Option (Nat × Nat × Nat)
  deriving DecidableEq, Repr

/-- What the host's configuration and the link hold of the PCIe function (chapter 14): Bus Master Enable, MSI-X Enable and
Function Mask, the D-state, PTM Enable, the sizes and base addresses that the host sets, the subsystem identity presented
and the one that the next link training presents (R453), the link, PERST_N low, PME_Turn_Off received, a link-down whose
reset is due when the link returns, and the last BAR2 read with its EP bit and configuration read. -/
structure PcieState where
  busMaster : Bool
  msixEnable : Bool
  functionMask : Bool
  dState : Nat
  ptmEnable : Bool
  maxPayload : Nat
  maxReadRequest : Nat
  bar0 : Word64
  bar2 : Word64
  subsystem : Word
  subsystemNext : Word
  linkUp : Bool
  perst : Bool
  turnOff : Bool
  downed : Bool
  bar2Data : List Byte × Bool
  configData : Word64
  deriving DecidableEq, Repr

/-- An event record that waits for its ring (R371), with the vector whose message waits for it (R377). -/
structure EventRecord where
  time : CT96
  src : Nat
  data0 : Word
  data1 : Word
  vec : Option Nat
  deriving DecidableEq, Repr

/-- A transfer of the DMA engine (R398): its KIND of DMA_RINGr_FINFO, whether it writes, its DA, length, bytes issued, slot,
the bytes that a write carries, and the serial number of the down descriptor whose frame it reads. -/
structure Transfer where
  kind : Nat
  write : Bool
  da : Nat
  total : Nat
  pos : Nat
  slot : Nat
  data : List Byte
  serial : Nat
  deriving DecidableEq, Repr

/-- A down descriptor fetched (R392): serial number, its 32 bytes, whether its frame's read has begun, and its status with
the egress stamp record once it is known. -/
structure DownDescriptor where
  serial : Nat
  raw : List Byte
  started : Bool
  status : Option (Nat × Stamp)
  deriving DecidableEq, Repr

/-- A ring (R395): state, a pending enable, the transfer in progress, the reads issued (offset, length) and received
(offset, bytes), up frames that wait with the posted descriptor and the status of the completion being written, down
descriptors in order and how many were fetched, event records that wait, whether the next one carries OVF, SEQ, and the
down frames that wait for egress (serial, cells). -/
structure RingState where
  st : Nat
  again : Bool
  xfer : Option Transfer
  reads : List (Nat × Nat)
  got : List (Nat × List Byte)
  up : List UpFrame
  posted : Option (List Byte)
  ending : Nat
  down : List DownDescriptor
  fetched : Nat
  events : List EventRecord
  ovf : Bool
  seq : Nat
  leaving : List (Nat × Nat)
  deriving DecidableEq, Repr

/-- What the device has put on the link. -/
inductive Tlp where
  /-- a memory write at a host bus address -/
  | write (ha : Nat) (bytes : List Byte)
  /-- a memory read request -/
  | read (ha n : Nat)
  /-- an MSI-X message (R375) -/
  | message (addr : Word64) (data : Word)
  /-- an error message of Advanced Error Reporting (R387) -/
  | errorMessage
  /-- PME_TO_Ack: the link goes to L2/L3 Ready (R384) -/
  | pmeAck
  deriving DecidableEq, Repr

/-- The DMA engine and MSI-X (chapter 14): rings (data rings 0 to 63, event rings from 64), the ring that each class tries
first, chunks since classes 2 and 3 with ready work had one, vectors in holdoff, what went onto the link, and the serial
number of the next down descriptor. -/
structure DmaState where
  rings : List (Nat × RingState)
  next : List (Nat × Nat)
  since2 : Nat
  since3 : Nat
  hold : List Nat
  link : List Tlp
  serial : Nat
  deriving DecidableEq, Repr

/-- Fuses (R204, R378, R447, R457): the serial number, the anchor of entry 0, the firmware and microcode minimum versions,
the registers whose reset value is a fuse (R13, R76, R432, GRV_CHn_OFS), by offset where it is not that of a blank part, and the
operator's KS, OPHASH and SIGREQ where programmed, and the path delay of the epoch pulse to the GNSS_PPS ball in ps (R319). -/
structure FuseState where
  dsn : Word64
  factory : List (Nat × Word)
  anchor : List Byte
  firmwareMin : Nat
  microcodeMin : Nat
  ks : Option (List Byte)
  opHash : Option (List Byte)
  sigReq : Bool
  epochPath : Int
  deriving DecidableEq, Repr

/-- The state of the block. -/
structure State where
  /-- the BAR0 registers, by offset, where they differ from their reset values -/
  regs : List (Nat × Word)
  /-- the commands that wait, first in first out -/
  pending : List Instr
  /-- raises that the event controller has not taken yet (R370) -/
  raised : List Raise
  /-- trouble-log entries that wait for acceptance (R481) -/
  logWait : List LogEntry
  /-- how many free values have been drawn (log entry 2) -/
  free : Nat
  bus : BusState
  cal : CalState
  cpm : CpmState
  gctl : GctlState
  pcie : PcieState
  net : NetState
  gys : GysState
  cores : CoresState
  cry : CryState
  rel : RelState
  pair : PairState
  sel : SelState
  nav : NavState
  gns : GnsState
  grv : GrvState
  dry : DryState
  bne : BneState
  dma : DmaState
  fuse : FuseState
  /-- the words of the write-only buffers, by offset -/
  staged : List (Nat × Word)
  fenceIn : Bool
  deriving DecidableEq, Repr

/-- Why the machine stops: no command of the table ends in a fault. -/
inductive Fault where
  /-- raised by nothing: kept so that the type has a name to report (safe) -/
  | none
  deriving DecidableEq, Repr

/-- Why a command has no meaning. -/
inductive Refusal where
  /-- raised by an arm of exec whose command has no meaning yet (safe: the machine stops) -/
  | notModelled (mnemonic : String)
  deriving DecidableEq, Repr

/-- A replica that no load has reached. -/
def Replica.reset : Replica := ⟨0, 0, false, false, false⟩

/-- The UTC state of reset: no entries, offset 0, no smear, no expiry (R59: the committed state is all zero). -/
def Utc.reset : Utc := ⟨false, 0, 0, 0, 0, [], 0⟩

/-- Caldera after a cold reset (R37, R40). -/
def CalState.reset : CalState :=
  { count := 0, acc := 0, absEdge := false, pendIncr := none, pendStep := none, pendUtc := none,
    utc := Utc.reset, replicas := List.replicate 29 Replica.reset, compares := 0, bad := [], ptmT1 := none,
    ptmBefore := none, ptmOwed := 0,
    ptmDev := 0, ptmHost := 0, ptmDelay := 0, comparators := [] }

/-- Clocks and power after a cold reset. -/
def CpmState.reset : CpmState := ⟨[], [], [], [], [], [], [], none, 820, [], false, false, [], []⟩

/-- Global control right after power-on: the power-on reset is held, RESET_N is high, the flash is erased (log entry 3). -/
def GctlState.reset : GctlState := ⟨false, true, [], false, none, none, [], [], [], [], none⟩

/-- Reliability control after a cold reset. -/
def RelState.reset : RelState := ⟨[], [], [], [], [], [], [], true, 0⟩

/-- The pair controller after a cold reset. -/
def PairState.reset : PairState :=
  { queue := [], mirror := [], sent := [], seq := 0, alive := false, peerEpoch := none, peer := none, got := false,
    missed := 0, forming := none, settling := false, yielding := false, resync := none, lost := false, rise := none,
    pulse := none, stamps := [], offset := none }

/-- The PCIe function after reset: every enable clear, D0, the link down; 128-byte payloads and 512-byte read requests
are the defaults of PCIe Base 5.0 (log entry 4). -/
def PcieState.reset : PcieState :=
  { busMaster := false, msixEnable := false, functionMask := false, dState := 0, ptmEnable := false, maxPayload := 128,
    maxReadRequest := 512, bar0 := 0, bar2 := 0, subsystem := 0x42101F6B#32, subsystemNext := 0x42101F6B#32,
    linkUp := false, perst := false, turnOff := false, downed := false, bar2Data := ([], false), configData := 0 }

/-- A ring in DISABLED with nothing in it. -/
def RingState.reset : RingState :=
  { st := 0, again := false, xfer := none, reads := [], got := [], up := [], posted := none, ending := 0, down := [],
    fetched := 0, events := [], ovf := false, seq := 0, leaving := [] }

/-- The DMA engine after reset. -/
def DmaState.reset : DmaState := ⟨[], [], 0, 0, [], [], 0⟩

/-- A part whose fuses are blank (log entry 3). -/
def FuseState.reset : FuseState := ⟨0, [], List.replicate 96 0, 0, 0, none, none, false, 0⟩

/-- A port after reset: nothing queued. -/
def PortState.reset : PortState := ⟨[], [], [], 0, 0, none, 0, 0, 0⟩

/-- The ports and the classifier after reset. -/
def NetState.reset : NetState := ⟨[], 0, [], [], []⟩

/-- A thread that does not run: every register and flag 0. -/
def Thread.reset : Thread := ⟨.free, [], [], 0, false, false, false, false, 0, none, [], none⟩

/-- A FREE context (R134). -/
def Context.reset : Context :=
  { th := Thread.reset, kind := .frame, tile := 0, pclass := 0, bank := 0, budget := 0, stamp := Stamp.plain 0,
    code := 0, tag := 0, frame := none, cells := [], locks := [], order := 0 }

/-- The array after reset: every context FREE, nothing queued, no bank switch. -/
def GysState.reset : GysState :=
  { contexts := [], queued := [], pool := [], l := [], banks := [], order := 0, pendSwitch := none, oldBank := none,
    check := none, initOwed := [], coreFault := [], initFailed := [], returning := [], fired := [] }

/-- An invalid region. -/
def Region.reset : Region := ⟨false, 0, 0, 0, false, false, false⟩

/-- A service core held in reset (log entry 3). -/
def CoreState.reset : CoreState :=
  { th := Thread.reset, ie := false, pie := false, inh := false, cause := 0, epc := 0, faddr := 0, pwrMode := 0,
    vec := 0, regions := [], irqs := [], stopped := false, depth := none, inReset := true, idle := 0 }

/-- An output that does not run. -/
def PpsState.reset : PpsState := ⟨false, false, none, none, 0, none, none⟩
def ClkState.reset : ClkState := ⟨false, false, 0, 1, 0, false, 0, false, false, none⟩

/-- No search. -/
def Search.reset : Search := ⟨0, 0, false, false, 0, 0, [0, 0, 0, 0, 0, 0], 0⟩

/-- An IDLE channel. -/
def Channel.reset : Channel :=
  { state := 0, sig := 0, sv := 0, slot := 0, cn0 := 0, carrier := 0, carrierPhase := 0, codeRate := 0, codePhase := 0
    secondary := 0, at_ := 0, dumps := 0, commanded := false
    pending := ⟨none, none, none, none, none, none, none, none⟩, release := false, spacing := 0, lostAt := 0, low := 0
    loop := (0, 0), pli := [], good := 0, weak := 0, age := 0, search := Search.reset }

/-- The baseband at power-up: SCNT 0 and every channel IDLE. -/
def GnsState.reset : GnsState :=
  { good := 0, markers := 0, scnt := 0, stime := 0, near := none, channels := [], candidates := [], queue := [], job := none
    found := [], wanted := [], tracked := false, aiding := none, aid := [], saved := none, frontEnds := [], bursting := false
    lastBurst := none, bursts := 0, dropped := 0 }

/-- The navigation firmware at its start: PMODE SURVEY, nothing held. -/
def NavState.reset : NavState :=
  { pulse := none, emitted := none, latched := none, pmode := 1, held := none, apply := false
    survey := (0, [0, 0, 0], [0, 0, 0]), fix := [], table := [], seq := 0, lastFail := none, excluded := [], mismatched := [], constOut := []
    uniform := 0, apart := 0, noise := [[], [], [], []], isb := [], jumped := false, leapOff := false
    publicKey := none, chain := none, tags := [], auth := [], adkd4 := 0, badTime := false }

/-- A channel after PD_TDC powers up (R344, R351). -/
def GrvChannel.reset : GrvChannel :=
  { fifo := [], seq := 0, gap := false, divided := 0, armed := false, settling := false, isDone := false, opened := none,
    closed := none, taken := 0, table := [], gen := 0, ready := false, rejected := false, last := none }

/-- A unit that has completed no window. -/
def GrvUnit.reset : GrvUnit :=
  { start := 0, edges := 0, n := 0, first := 0, sk := 0, skk := 0, st := 0, skt := 0, stt := 0, lost := false,
    suspect := false, interval := none, stepGen := 0, seq := 0, result := [] }

/-- Graver after PD_TDC powers up: the LO scale starts at 0 (R347). -/
def GrvState.reset : GrvState := ⟨[], [], 0, 0, none, [], (0, 0), false⟩

/-- A slot that nothing has measured. -/
def SlotState.reset : SlotState := ⟨0, [], 0, none, 0, 0, none, false, none, false, none⟩

/-- The model before anything is learned (R247: coefficients are 0 by default). -/
def Model.reset : Model := ⟨0, 0, 0, 0, 0, 0, 0, none, none⟩

/-- The selector after reset: no measurement, no correction, no model. -/
def SelState.reset : SelState :=
  { slots := [], integ := 0, y := 0, track := [], e0 := 0, since := 0, lockSince := none, model := Model.reset, seeded := Model.reset,
    samples := [], temp := 0, slope := 0, temps := [], aligning := none, wrote := none, injected := [], pairs := [],
    returning := [], aid := none, resid := 0 }

/-- The machine right after reset. -/
def State.reset : State :=
  { regs := [], pending := [], raised := [], logWait := [], free := 0,
    bus := ⟨[], .none⟩, cal := CalState.reset, cpm := CpmState.reset, gctl := GctlState.reset,
    pcie := PcieState.reset, net := NetState.reset, gys := GysState.reset,
    cores := ⟨[], [], []⟩, cry := ⟨[], [], 0, [], 0, none, [], [], []⟩, rel := RelState.reset, pair := PairState.reset,
    sel := SelState.reset, nav := NavState.reset, gns := GnsState.reset, grv := GrvState.reset,
    dry := ⟨[], [], none, none, 0, [], none⟩, bne := ⟨[], none, 0⟩,
    dma := DmaState.reset, fuse := FuseState.reset,
    staged := [], fenceIn := false }

end Sys2Proof.Machine
end

