-- ==== Sys2Proof/Machine/Ops.lean ====
section
/-!
DEFINITION. The named operations over the register map, the raises, the trouble log, the free values and the time
replicas. Every meaning reads and writes the state through them.
-/
namespace Sys2Proof.Machine

/-- The value a register holds. -/
def State.rd (s : State) (off : Nat) : Word := sparseGet regDefault s.regs off

/-- A register given a value by the device itself. -/
def State.wr (s : State) (off : Nat) (v : Word) : State := { s with regs := sparseSet regDefault s.regs off v }

/-- The field of width n at bit lo of a register. -/
def State.fld (s : State) (off lo n : Nat) : Nat := bitsAt (s.rd off) lo n

/-- A field given a value by the device itself. -/
def State.setFld (s : State) (off lo n v : Nat) : State := s.wr off (putBits (s.rd off) lo n v)

/-- One bit of a register. -/
def State.flag (s : State) (off i : Nat) : Bool := bitAt (s.rd off) i

/-- One bit given a value by the device itself. -/
def State.setFlag (s : State) (off i : Nat) (b : Bool) : State := s.wr off (putBit (s.rd off) i b)

/-- Several 32-bit words written from an offset up. -/
def State.wrWords (s : State) (off : Nat) : List Word → State
  | [] => s
  | w :: ws => State.wrWords (s.wr off w) (off + 4) ws

/-- A 96-bit value written into three consecutive registers (R7). -/
def State.wr96 (s : State) (off : Nat) (t : CT96) : State :=
  ((s.wr off (word96 t 0)).wr (off + 4) (word96 t 1)).wr (off + 8) (word96 t 2)

/-- A 96-bit value read from three consecutive registers (R7). -/
def State.rd96 (s : State) (off : Nat) : CT96 := ofWords96 (s.rd off) (s.rd (off + 4)) (s.rd (off + 8))

/-- A pulse to the event controller (R370). -/
def State.raise (s : State) (src : Nat) (data0 : Word := 0) (data1 : Word := 0) : State :=
  { s with raised := s.raised ++ [⟨src, data0, data1⟩] }

/-- A counter field that saturates at its width. -/
def State.bump (s : State) (off lo n : Nat) (k : Nat := 1) : State :=
  s.setFld off lo n (satAdd (2 ^ n - 1) (s.fld off lo n) k)

/-- A counter field that wraps at its width. -/
def State.advance (s : State) (off lo n : Nat) (k : Nat := 1) : State :=
  s.setFld off lo n ((s.fld off lo n + k) % 2 ^ n)

/-- An error bit that sets, with its block's event source raised when the bit goes from 0 to 1. -/
def State.error (s : State) (off bit src : Nat) : State :=
  if s.flag off bit then s else (s.setFlag off bit true).raise src

/-- A sticky bit that sets, with event source src raised when it goes from 0 to 1 while its enable bit is 1. -/
def State.sticky (s : State) (off en bit src : Nat) (data0 : Word := 0) (data1 : Word := 0) : State :=
  if s.flag off bit then s
  else
    let t := s.setFlag off bit true
    if s.flag en bit then t.raise src data0 data1 else t

/-- The mode code of R2. -/
def State.mode (s : State) : Nat := s.fld Reg.GCTL_STATUS 0 4

/-- The mode codes of R2. -/
abbrev modeOff : Nat := 0x0
abbrev modeReset : Nat := 0x1
abbrev modeBoot : Nat := 0x2
abbrev modeStaged : Nat := 0x3
abbrev modeAcquire : Nat := 0x4
abbrev modeLocked : Nat := 0x5
abbrev modeHoldover : Nat := 0x6
abbrev modeFreerun : Nat := 0x7
abbrev modeStandby : Nat := 0x8
abbrev modeDormant : Nat := 0x9
abbrev modeMeasure : Nat := 0xA
abbrev modeSafe : Nat := 0xB

/-- The modes that answer clients (R2). -/
def State.answersClients (s : State) : Bool := 4 ≤ s.mode && s.mode ≤ 7

/-- The STATE codes of CPM_PDd_CTL. -/
abbrev pdOff : Nat := 0
abbrev pdPoweringUp : Nat := 1
abbrev pdOn : Nat := 2
abbrev pdRequested : Nat := 3
abbrev pdShuttingDown : Nat := 4
abbrev pdRetained : Nat := 5
abbrev pdGated : Nat := 6

/-- STATE of power domain d. -/
def State.pd (s : State) (d : Nat) : Nat := s.fld (Reg.CPM_PD_CTL d) 24 3

/-- A domain whose blocks run: ON, or REQUESTED while the handshake is open (R422), and not in reset (R427). In OFF and
RESET no block runs, whatever the reset value of STATE reads (R420). -/
def State.pdUp (s : State) (d : Nat) : Bool :=
  (s.pd d == pdOn || s.pd d == pdRequested) && !s.cpm.inReset.contains d && decide (2 ≤ s.mode)

/-- How far a power-up has come (R426): 0 waits for its slot, 1 the switch has ramped, 2 the reset is released. -/
def State.upStage (s : State) (d : Nat) : Nat := sparseGet (fun _ => 0) s.cpm.stage d

/-- The outputs of a domain are isolated: it is off, shuts down, or waits for its slot (R422, R426, R439). -/
def State.isolated (s : State) (d : Nat) : Bool :=
  let p := s.pd d
  decide (s.mode ≤ 1) || p == pdOff || p == pdShuttingDown || (p == pdPoweringUp && s.upStage d == 0)

/-- A dual-clock queue by its index: its state (0 RUN, 1 STOPPED, 2 RESYNC) and the entries it has discarded (R415). -/
def State.xq (s : State) (i : Nat) : Nat × Nat := sparseGet (fun _ => (0, 0)) s.cpm.queues i
def State.xqRuns (s : State) (i : Nat) : Bool := (s.xq i).1 == 0

/-- A trouble-log entry from hardware: discarded below MINSEV or with the log off, one of at most 16 that wait, and
lost beyond them (R481). -/
def State.logEntry (s : State) (e : LogEntry) : State :=
  if s.flag Reg.REL_LOG_CTRL 31 = false ∨ e.severity < s.fld Reg.REL_LOG_CTRL 24 3 then s
  else if s.logWait.length < 16 then { s with logWait := s.logWait ++ [e] }
  else (s.bump Reg.REL_LOG_LOST 0 32).setFlag Reg.REL_STICKY 7 true

/-- A trouble-log entry of a source with the severity that the hardware gives it (log entry 7). -/
def State.log (s : State) (src : Nat) (data0 : Word := 0) (data1 : Word := 0) (detail : Word64 := 0)
    (code : Nat := 0) : State :=
  s.logEntry ⟨src, (Config.logSeverity src).val, code, data0, data1, detail⟩

/-- A refused configuration write: counted in GCTL_BOOT.CFGERR and logged (R453). -/
def State.countConfig (s : State) (off : Nat) : State :=
  (s.bump Reg.GCTL_BOOT 16 8).log 0x0100 0 0 (BitVec.ofNat 64 off)

/-- The next free value (log entry 2). -/
def State.draw (s : State) : Word64 := Config.freeValue s.free

/-- The state in which that free value has been used. -/
def State.drawn (s : State) : State := { s with free := s.free + 1 }

/-- The replica numbers of R20: ports 0 to 15, clusters 16 to 23, then one each. -/
abbrev replicaPort (n : Nat) : Nat := n
abbrev replicaCluster (k : Nat) : Nat := 16 + k
abbrev replicaGraver : Nat := 24
abbrev replicaDrypoint : Nat := 25
abbrev replicaGnss : Nat := 26
abbrev replicaCores : Nat := 27
abbrev replicaPtm : Nat := 28

/-- The count of a replica in units of 2^-32 ns. -/
def State.replica (s : State) (r : Nat) : Replica := s.cal.replicas.getD r Replica.reset

/-- A stamp: the replica's count at the marker, refined by the measured phase in units of 2^-16 ns (R23). -/
def State.stamp (s : State) (r phase : Nat) : CT96 := ct96OfFrac ((s.replica r).count / 2 ^ 16 + phase)

/-- A stamp is suspect as it is taken: its replica awaits its reload, or has not been compared since its load (R21, R22). -/
def State.suspect (s : State) (r : Nat) : Bool := (s.replica r).unchecked || (s.replica r).reload

/-- A stamp of a replica with the interval that its next compare ends. -/
def State.takeStamp (s : State) (r : Nat) (t : CT96) : Stamp := ⟨t, s.suspect r, r, s.cal.compares⟩

/-- A stamp carries the mark of R21: it was suspect as it was taken, or the compare that ended its interval found a
mismatch. -/
def State.marked (s : State) (x : Stamp) : Bool := x.suspect || s.cal.bad.contains (x.replica, x.interval)

/-- Port n's part of the state. -/
def State.port (s : State) (n : Nat) : PortState := sparseGet (fun _ => PortState.reset) s.net.ports n

/-- Port n's part of the state replaced. -/
def State.setPort (s : State) (n : Nat) (p : PortState) : State :=
  { s with net := { s.net with ports := sparseSet (fun _ => PortState.reset) s.net.ports n p } }

/-- A sticky condition of port n: source 49 + 2n on its change with its enable set (R88). -/
def State.portSticky (s : State) (n bit : Nat) : State :=
  s.sticky (Reg.PRT_STICKY n) (Reg.PRT_STICKY_EN n) bit (49 + 2 * n)

/-- GRV_STICKY bits raise source 112 + b when they set while enabled (R353). -/
def State.grvSticky (s : State) (bit : Nat) : State := s.sticky Reg.GRV_STICKY Reg.GRV_STICKY_EN bit (112 + bit)

/-- Stamps of port n marked as suspect: counted, and STAMP_SUSPECT set (R72). -/
def State.suspectStamps (s : State) (n k : Nat) : State :=
  if k = 0 then s else (s.bump (Reg.PRT_CNT_SUSPECT n) 0 32 k).portSticky n 6

/-- Device time of the master count (R36). -/
def State.now (s : State) : CT96 := ct96OfCount s.cal.count

/-- Device time in CF64 (R54). -/
def State.nowCf (s : State) : Word64 := cf64OfCt96 s.now

/-- Device time of a replica in CF64 (R54). -/
def State.replicaCf (s : State) (r : Nat) : Word64 := cf64OfCt96 (ct96OfCount (s.replica r).count)

/-- The comparator of an owner. -/
def State.comparator (s : State) (o : CmpOwner) : Option Comparator := s.cal.comparators.find? (·.owner == o)

/-- A comparator disarmed. -/
def State.disarm (s : State) (o : CmpOwner) : State :=
  { s with cal := { s.cal with comparators := s.cal.comparators.filter (·.owner != o) } }

/-- A comparator armed anew at a target (R55). -/
def State.arm (s : State) (o : CmpOwner) (target : Word64) : State :=
  { s with cal := { s.cal with
      comparators := s.cal.comparators.filter (·.owner != o) ++ [⟨o, target, false⟩] } }

/-- The full 48-bit distance check of R56 for a CT96 target: from -2^31 s to 2^31 s - 2^-32 s. -/
def withinCf64 (target now : CT96) : Bool :=
  let d : Int := (ct96Sec target * 2 ^ 32 + bfrac target : Nat) - ((ct96Sec now * 2 ^ 32 + bfrac now : Nat) : Int)
  decide (-(2 ^ 63) ≤ d) && decide (d < 2 ^ 63)

/-- The outcome that R32 gives an aligned access, in its order. -/
inductive AccessOutcome where
  /-- completes normally -/
  | ok
  /-- completes as an access to an unmapped offset (CAUSE 1) -/
  | unmapped
  /-- completes as an access to a powered-off block (CAUSE 2) -/
  | off
  /-- waits for the domain -/
  | wait
  deriving DecidableEq, Repr

/-- The last completion of the register fabric. -/
def State.complete (s : State) (c : Completion) : State := { s with bus := { s.bus with last := c } }

/-- A failed access recorded and counted (R32): the first since the last clear stays latched. -/
def State.badAccess (s : State) (cause off : Nat) (write : Bool) : State :=
  let t := s.bump Reg.GCTL_BADCNT 0 32
  if s.flag Reg.GCTL_BADACC 31 then t
  else t.wr Reg.GCTL_BADACC
    (BitVec.ofNat 32 (2 ^ 31 + cause * 2 ^ 29 + ofBool write * 2 ^ 28 + off / 4 % 2 ^ 24 * 4))

/-- A tile out of dispatch for more than the host's drain: a core fault, retirement, or a failed init context (R93). -/
def State.coreFaulted (s : State) (l : Nat) : Bool :=
  s.gys.coreFault.contains l || s.gys.initFailed.contains l || s.flag (Reg.GYS_MAP l) 28

/-- Quad q runs a 100G mode, so that the block of each second lane has no port behind it (R31, R67). -/
def State.quad100 (s : State) (q : Nat) : Bool := s.fld (Reg.PRT_QUAD q) 0 3 == 1

/-- An offset that names no register: none in the tables, or in a port block with no port behind it (R31, R32). -/
def State.unmapped (s : State) (off : Nat) : Bool :=
  (regRow off).isNone ||
    (off / 2 ^ 20 == 7 && (off / 0x10000) % 2 == 1 && s.quad100 ((off - 0x700000) / 0x40000))

/-- The order of R32: decoder, unmapped offset, domain of the register. -/
def State.accessOutcome (s : State) (off : Nat) : AccessOutcome :=
  let d := s.pd (decoderDomain off)
  if d = pdOff ∨ d = pdShuttingDown ∨ d = pdRetained then .off
  else if s.unmapped off then .unmapped
  else
    match regRow off with
    | none => .unmapped
    | some (r, _, _) =>
      let h := regDomain r off
      let e := s.pd h
      if e = pdOn ∨ e = pdRequested then (if h ∈ s.cpm.inReset then .wait else .ok)
      else if e = pdPoweringUp then .wait
      else .off

/-- An endpoint with a link (R384, R444). -/
def State.endpointUp (s : State) : Bool := s.pdUp PD_PCIE && !s.pcie.perst && s.pcie.linkUp

/-- Which agents reach which registers: the host while there is an endpoint with a link (R384, R444, R465), a service core
while PD_FABRIC runs, a JTAG debugger in every mode but OFF, and in RESET the GCTL block only (R420, R518). -/
def State.reaches (s : State) (ag : Agent) (off : Nat) : Bool :=
  match ag with
  | .host => s.endpointUp
  | .jtag => s.mode != modeOff && (s.mode != modeReset || decide (off < 0x100000))
  | .sc _ => s.pdUp PD_FABRIC

/-- A register write under R32: k is the effect of a write that completes normally. -/
def State.writeAccess (s : State) (ag : Agent) (off : Nat) (v : Word) (k : State → State) : State :=
  if s.reaches ag off = false then s
  else
    match s.accessOutcome off with
    | .ok => k s
    | .unmapped => s.badAccess 1 off true
    | .off => s.badAccess 2 off true
    | .wait => { s with bus := { s.bus with waiting := s.bus.waiting ++ [⟨ag, off, true, v⟩] } }

/-- A register read under R32: k answers the data of a read that completes normally and the state after it. -/
def State.readAccess (s : State) (ag : Agent) (off : Nat) (k : State → Word × State) : State :=
  if s.reaches ag off = false then s
  else
    match s.accessOutcome off with
    | .ok => (k s).2.complete (.data (k s).1)
    | .unmapped => (s.badAccess 1 off false).complete (.data 0)
    | .off => (s.badAccess 2 off false).complete (.data 0xFFFFFFFF#32)
    | .wait => { s with bus := { s.bus with waiting := s.bus.waiting ++ [⟨ag, off, false, 0⟩] } }

/-- What a write leaves in a register by the access codes of R6: RW bits take the written value, W1C bits written 1
clear, W1S bits written 1 set, every other bit keeps its value (R5). -/
def writtenValue (r : RegRow) (old v : Word) : Word :=
  (((old &&& ~~~ r.rw) ||| (v &&& r.rw)) &&& ~~~ (v &&& r.w1c)) ||| (v &&& r.w1s)

/-- A write by the access codes alone. -/
def State.plainWrite (s : State) (off : Nat) (v : Word) : State :=
  match regRow off with
  | none => s
  | some (r, _, _) => s.wr off (writtenValue r (s.rd off) v)

/-- A read by the access codes alone: the current value, and RC fields clear (R6). -/
def State.plainRead (s : State) (off : Nat) : Word × State :=
  match regRow off with
  | none => (0, s)
  | some (r, _, _) => (s.rd off, if r.rc = 0 then s else s.wr off (s.rd off &&& ~~~ r.rc))

/-- A word of a write-only buffer. -/
def State.stage (s : State) (off : Nat) (v : Word) : State :=
  { s with staged := sparseSet (fun _ => 0) s.staged off v }

/-- A word that a write-only buffer holds. -/
def State.stagedWord (s : State) (off : Nat) : Word := sparseGet (fun _ => 0) s.staged off

/-- The bytes of n words of a write-only buffer, byte i in word i/4 (R207). -/
def State.stagedBytes (s : State) (off n : Nat) : List Byte :=
  (List.range n).flatMap fun i => leBytes 4 (s.stagedWord (off + 4 * i)).toNat

/-- n words of a write-only buffer zeroed. -/
def State.unstage (s : State) (off : Nat) : Nat → State
  | 0 => s
  | n + 1 => (s.stage (off + 4 * n) 0).unstage off n

/-- n bytes of free values, and the state that has used them (log entry 2). -/
def State.freeBytes (s : State) (n : Nat) : List Byte :=
  (List.range n).map fun i => (Config.freeValue (s.free + i / 8)).extractLsb' (8 * (i % 8)) 8
def State.drewBytes (s : State) (n : Nat) : State := { s with free := s.free + (n + 7) / 8 }

/-- The host or a JTAG debugger, which counts as the host (R518). -/
def isHost : Agent → Bool
  | .sc _ => false
  | _ => true

/-- A service core of a range of cores. -/
def isCore (ag : Agent) (lo hi : Nat) : Bool :=
  match ag with
  | .sc k => decide (lo ≤ k.val) && decide (k.val ≤ hi)
  | _ => false

end Sys2Proof.Machine
end

