-- ==== Sys2Proof/Machine/Caldera.lean ====
section
/-!
DEFINITION. Caldera, the time core (chapter 02): the master count and its replicas, increment commits, steps,
snapshots, PTM dialogues, comparators and the UTC state.
-/
namespace Sys2Proof.Machine

/-- Event source numbers and error bits of R65 and CAL_ERR. -/
abbrev calErrorSource : Nat := 13

/-- A CAL_ERR bit set, source 13 raised on its change from 0 to 1. -/
def State.calError (s : State) (bit : Nat) : State := s.error Reg.CAL_ERR bit calErrorSource

/-! ### The TCLK edge (R35, R38 to R40) -/

/-- The increment in effect in units of 2^-32 ns. -/
def State.incrUnits (s : State) : Nat :=
  s.fld Reg.CAL_INCR_CUR_H 0 16 * 2 ^ 32 + (s.rd Reg.CAL_INCR_CUR_L).toNat

/-- The DITHER field in effect. -/
def State.dither (s : State) : Nat := s.fld Reg.CAL_INCR_CUR_H 16 16

/-- PLL_T is READY, so that the count advances (R37, R409). -/
def State.running (s : State) : Bool := s.flag Reg.CAL_STATUS 16

/-- The units one edge adds to a count whose dither accumulator is acc: the increment, and one unit more on a carry
(R40). -/
def edgeUnits (incr dither acc : Nat) : Nat := incr + (if 2 ^ 16 ≤ acc + dither then 1 else 0)

/-- A count one edge later; on the edge of an absolute step nothing is added (R39). -/
def edgeCount (incr dither acc count : Nat) (absEdge : Bool) : Nat :=
  if absEdge then count else (count + edgeUnits incr dither acc) % countMod

/-- A replica one edge later: it advances by the broadcast increment with its own accumulator (R20, R40). -/
def Replica.edge (incr dither : Nat) (absEdge : Bool) (p : Replica) : Replica :=
  if p.loaded then
    { p with count := edgeCount incr dither p.acc p.count absEdge, acc := (p.acc + dither) % 2 ^ 16 }
  else p

/-- The master count after the coming edge, before any change that has its apply edge there. -/
def State.nextCount (s : State) : Nat :=
  if s.running then edgeCount s.incrUnits s.dither s.cal.acc s.cal.count s.cal.absEdge else s.cal.count

/-- The increment commit has its apply edge at the coming TCLK edge. -/
def State.incrDue (s : State) : Bool :=
  match s.cal.pendIncr with
  | some p => p.edges == 0
  | none => false

/-- The step has its apply edge at the coming TCLK edge; with AT_SECOND the unstepped count must pass a whole second
there (R38). -/
def State.stepDue (s : State) : Bool :=
  match s.cal.pendStep with
  | some p => p.edges == 0 && (!p.atSecond || decide (s.cal.count / secUnits ≠ s.nextCount / secUnits))
  | none => false

/-- The UTC commit has its apply edge at the coming TCLK edge. -/
def State.utcDue (s : State) : Bool :=
  match s.cal.pendUtc with
  | some p => p.edges == 0
  | none => false

/-- Caldera after one edge: the count and accumulator advance while PLL_T is READY, and every pending change is one
edge nearer. -/
def CalState.edge (c : CalState) (running : Bool) (incr dither : Nat) : CalState :=
  let c := if running then
      { c with count := edgeCount incr dither c.acc c.count c.absEdge, acc := (c.acc + dither) % 2 ^ 16,
               replicas := c.replicas.map (Replica.edge incr dither c.absEdge), absEdge := false }
    else { c with absEdge := false }
  { c with pendIncr := c.pendIncr.map fun p => { p with edges := p.edges - 1 },
           pendStep := c.pendStep.map fun p => { p with edges := p.edges - 1 },
           pendUtc := c.pendUtc.map fun p => { p with edges := p.edges - 1 } }

/-- The LO-scale increment in effect in units of 2^-32 ns, and its dither (R347). -/
def State.loUnits (s : State) : Nat :=
  s.fld Reg.GRV_LOINC_CUR_H 0 16 * 2 ^ 32 + (s.rd Reg.GRV_LOINC_CUR_L).toNat
def State.loDither (s : State) : Nat := s.fld Reg.GRV_LOINC_CUR_H 16 16

/-- The LO-scale commit has its apply edge at the coming TCLK edge. -/
def State.loDue (s : State) : Bool :=
  match s.grv.pendIncr with
  | some p => p.edges == 0
  | none => false

/-- The LO scale one edge later (R347). -/
def GrvState.edge (g : GrvState) (runs : Bool) (incr dither : Nat) : GrvState :=
  let g := { g with pendIncr := g.pendIncr.map fun p => { p with edges := p.edges - 1 } }
  if runs then { g with lo := edgeCount incr dither g.acc g.lo false, acc := (g.acc + dither) % 2 ^ 16 } else g

/-- One TCLK edge. A change whose apply edge this is goes first, as its own command. -/
def State.tclkEdge (s : State) : State :=
  if s.incrDue || s.stepDue || s.utcDue || s.loDue then s
  else { s with
    cal := s.cal.edge s.running s.incrUnits s.dither
    grv := s.grv.edge (s.running && s.pdUp PD_TDC) s.loUnits s.loDither }

/-- TCLK_EDGE (R35). -/
def execTclkEdge (s : State) : Host.Outcome State Fault Refusal := .next s.tclkEdge

/-! ### Replicas (R20 to R22) -/

/-- A replica loaded from the master count together with its dither accumulator. -/
def CalState.loadReplica (c : CalState) (r : Nat) : CalState :=
  { c with replicas := c.replicas.set r ⟨c.count, c.acc, true, true, false⟩ }

/-- The load of R22 at the release of the consumer's domain from reset. -/
def State.loadReplica (s : State) (r : Nat) : State := { s with cal := s.cal.loadReplica r }

/-- A replica after the compare of R21. -/
def Replica.compare (count acc : Nat) (p : Replica) : Replica :=
  if !p.loaded then p
  else if p.reload then { p with count := count, acc := acc, reload := false, unchecked := false }
  else if p.count = count ∧ p.acc = acc then { p with unchecked := false }
  else { p with reload := true }

/-- The compare finds a mismatch in this replica. -/
def Replica.mismatches (count acc : Nat) (p : Replica) : Bool :=
  p.loaded && !p.reload && !(p.count == count && p.acc == acc)

/-- Source 3 raised and the replica number logged for each of the replicas in a list (R21). -/
def State.reportMismatches (s : State) : List Nat → State
  | [] => s
  | r :: rs => State.reportMismatches ((s.raise 3).log 3 0 0 (BitVec.ofNat 64 r)) rs

/-- The stamps that Burin and Graver took in the interval that a compare ends are marked where it finds the consumer's
replica wrong (R21, R72, R349); the records in flight are marked by the pair that the compare leaves in CalState.bad. -/
def State.markStamps (s : State) (bad : List Nat) : State :=
  let t := (List.range 16).foldl (fun t n =>
    let k := (t.port n).fresh
    let u := if k = 0 then t else t.setPort n { t.port n with fresh := 0 }
    if bad.contains (replicaPort n) then u.suspectStamps n k else u) s
  let wrong := bad.contains replicaGraver
  let g := t.grv
  let u := { t with grv := { g with
    fresh := false
    units := g.units.map fun e =>
      (e.1, { e.2 with suspect := e.2.suspect || (wrong && e.2.interval == some t.cal.compares) }) } }
  if wrong && g.fresh then u.grvSticky 6 else u

/-- REPLICA_COMPARE (R21): every replica is compared with the master; a mismatch is raised and logged, the stamps since the
last compare are suspect, and the replica is reloaded at the next compare. -/
def execReplicaCompare (s : State) : Host.Outcome State Fault Refusal :=
  let c := s.cal
  let bad := (List.range 29).filter fun r => (s.replica r).mismatches c.count c.acc
  let t := s.markStamps bad
  let t := { t with cal := { c with
    replicas := c.replicas.map (Replica.compare c.count c.acc)
    compares := c.compares + 1
    bad := c.bad ++ bad.map fun r => (r, c.compares) } }
  .next (t.reportMismatches bad)

/-! ### The increment (R41 to R44) -/

/-- The agent that CAL_CTRL.INCR_OWNER names (R43). -/
def State.ownsIncr (s : State) (ag : Agent) : Bool :=
  if s.flag Reg.CAL_CTRL 0 then isHost ag else isCore ag 6 7

/-- The value of an increment in units of 2^-48 ns. -/
def incrValue (low high : Word) : Nat :=
  bitsAt high 0 16 * 2 ^ 48 + low.toNat * 2 ^ 16 + bitsAt high 16 16

/-- The range of R42: 1.248 75 ns to 1.251 25 ns, in units of 2^-48 ns after multiplying by 100,000. -/
def incrInRange (low high : Word) : Bool :=
  decide (124875 * 2 ^ 48 ≤ 100000 * incrValue low high) && decide (100000 * incrValue low high ≤ 125125 * 2 ^ 48)

/-- The edges left after acceptance: the 64th edge is the apply edge (R38). -/
abbrev applyEdges : Nat := 63

/-- The commit of CAL_INCR_L and CAL_INCR_H as they stand (R41, R42). -/
def State.commitIncr (s : State) : State :=
  let lo := s.rd Reg.CAL_INCR_L
  let hi := s.rd Reg.CAL_INCR_H
  if incrInRange lo hi = false then s.calError 2
  else
    let t := if s.cal.pendIncr.isSome then s.calError 3 else s
    let u := t.setFlag Reg.CAL_STATUS 0 true
    { u with cal := { u.cal with pendIncr := some ⟨lo, hi, applyEdges⟩ } }

/-- A write of CAL_INCR_L (R41, R43). -/
def State.writeIncrL (s : State) (ag : Agent) (v : Word) : State :=
  if s.ownsIncr ag then s.wr Reg.CAL_INCR_L v else s.calError 1

/-- A write of CAL_INCR_H commits (R41, R43). -/
def State.writeIncrH (s : State) (ag : Agent) (v : Word) : State :=
  if s.ownsIncr ag then (s.wr Reg.CAL_INCR_H v).commitIncr else s.calError 1

/-- INCR_COMMIT (R41): a write of CAL_INCR_H. -/
def execIncrCommit (ag : Agent) (v : Word) (s : State) : Host.Outcome State Fault Refusal :=
  .next (s.writeAccess ag Reg.CAL_INCR_H v fun t => t.writeIncrH ag v)

/-- The pending increment becomes the one in effect (R38, R41). -/
def State.applyIncr (s : State) : State :=
  match s.cal.pendIncr with
  | some p =>
    if p.edges = 0 then
      let t := ((s.wr Reg.CAL_INCR_CUR_L p.low).wr Reg.CAL_INCR_CUR_H p.high).setFlag Reg.CAL_STATUS 0 false
      ({ t with cal := { t.cal with pendIncr := none } }).raise 0
    else s
  | none => s

/-- INCR_APPLY (R38). -/
def execIncrApply (s : State) : Host.Outcome State Fault Refusal := .next s.applyIncr

/-- A write of CAL_CTRL: a 1 outside STAGED, MEASURE and SAFE is refused (R44). -/
def State.writeCalCtrl (s : State) (v : Word) : State :=
  if bitAt v 0 ∧ ¬ (s.mode = modeStaged ∨ s.mode = modeMeasure ∨ s.mode = modeSafe) then s.calError 1
  else s.plainWrite Reg.CAL_CTRL v

/-- INCR_OWNER_WRITE (R44): a write of CAL_CTRL. -/
def execIncrOwnerWrite (ag : Agent) (v : Word) (s : State) : Host.Outcome State Fault Refusal :=
  .next (s.writeAccess ag Reg.CAL_CTRL v fun t => t.writeCalCtrl v)

/-! ### Steps (R45 to R48) -/

/-- The CT96 value staged in CAL_STEP_W0 to W2. -/
def State.stepValue (s : State) : CT96 := s.rd96 (Reg.CAL_STEP_W 0)

/-- The count that a step leads to at acceptance, checked under R47. -/
def stepTarget (count : Nat) (v : CT96) (absolute : Bool) : Int :=
  if absolute then (countOfCt96 v : Int) else (count : Int) + offsetOfCt96 v

/-- A GO of CAL_STEP_CMD (R46, R47). -/
def State.stepGo (s : State) (v : Word) : State :=
  if s.flag Reg.CAL_STATUS 1 then s.calError 4
  else if ct96Valid s.stepValue = false then s.calError 0
  else
    let x := stepTarget s.cal.count s.stepValue (bitAt v 2)
    if x < 0 ∨ (countMod : Int) ≤ x then s.calError 5
    else
      let t := (s.setFlag Reg.CAL_STATUS 1 true).setFlag Reg.CAL_STATUS 2 (bitAt v 3)
      { t with cal := { t.cal with pendStep := some ⟨bitAt v 2, bitAt v 3, s.stepValue, applyEdges⟩ } }

/-- The pending step cancelled: source 2 (R46). Firmware whose own step it was writes it anew, or waits for ALIGN. -/
def State.stepAbort (s : State) : State :=
  match s.cal.pendStep with
  | some _ =>
    let t := (s.setFlag Reg.CAL_STATUS 1 false).setFlag Reg.CAL_STATUS 2 false
    ({ t with
      cal := { t.cal with pendStep := none }
      sel := { t.sel with
        wrote := none, aligning := if s.sel.wrote = some true then some true else s.sel.aligning } }).raise 2
  | none => s

/-- A write of CAL_STEP_CMD; ABORT is ignored if written together with GO. -/
def State.writeStepCmd (s : State) (v : Word) : State :=
  if bitAt v 0 then s.stepGo v else if bitAt v 1 then s.stepAbort else s

/-- STEP_GO (R46): a write of CAL_STEP_CMD with GO. -/
def execStepGo (ag : Agent) (v : Word) (s : State) : Host.Outcome State Fault Refusal :=
  .next (s.writeAccess ag Reg.CAL_STEP_CMD v fun t => if bitAt v 0 then t.stepGo v else t)

/-- STEP_ABORT (R46): a write of CAL_STEP_CMD with ABORT and without GO. -/
def execStepAbort (ag : Agent) (v : Word) (s : State) : Host.Outcome State Fault Refusal :=
  .next (s.writeAccess ag Reg.CAL_STEP_CMD v fun t => if !bitAt v 0 && bitAt v 1 then t.stepAbort else t)

/-- A count after a step, before the increment of the same edge (R39, R45). -/
def steppedCount (p : PendStep) (count : Nat) : Nat :=
  if p.absolute then countOfCt96 p.value % countMod
  else (((count : Int) + offsetOfCt96 p.value) % (countMod : Int)).toNat

/-- The step applied to the master and every loaded replica (R38). -/
def CalState.step (c : CalState) (p : PendStep) : CalState :=
  { c with count := steppedCount p c.count, absEdge := p.absolute, pendStep := none,
           replicas := c.replicas.map fun r => if r.loaded then { r with count := steppedCount p r.count } else r }

/-! ### Reading device time (R49, R50) -/

/-- A read of CAL_NOW_Ww: W0 latches all three words of one edge. -/
def State.readNow (s : State) (w : Nat) : Word × State :=
  let t := if w = 0 then s.wr96 (Reg.CAL_NOW_W 0) s.now else s
  (t.rd (Reg.CAL_NOW_W w), t)

/-- NOW_READ (R49). -/
def execNowRead (ag : Agent) (w : Fin 3) (s : State) : Host.Outcome State Fault Refusal :=
  .next (s.readAccess ag (Reg.CAL_NOW_W w.val) fun t => t.readNow w.val)

/-- The capture of R50. -/
def State.snapshot (s : State) : State :=
  let t := s.wr96 (Reg.CAL_SNAP_W 0) s.now
  let t := t.setFlag Reg.CAL_SNAP_CTL 1 true
  let t := t.setFld Reg.CAL_SNAP_CTL 8 8 (s.fld Reg.CAL_STATUS 8 8)
  (t.advance Reg.CAL_SNAP_CTL 16 16).raise 4

/-- SNAP_GO (R50): a write of CAL_SNAP_CTL with GO. -/
def execSnapGo (ag : Agent) (v : Word) (s : State) : Host.Outcome State Fault Refusal :=
  .next (s.writeAccess ag Reg.CAL_SNAP_CTL v fun t => if bitAt v 0 then t.snapshot else t)

/-! ### Comparators (R55) -/

/-- A comparator after an edge: fired once its owner's target is reached (R55). -/
def Comparator.evaluate (now : Word64) (owner : CmpOwner) (c : Comparator) : Comparator :=
  if c.owner = owner ∧ cf64Reached now c.target = true then { c with fired := true } else c

/-- CF64 of the replica that a comparator of an owner stands at (R54, R55); the wake alarm and the array timers compare with
the master count (log entry 93). -/
def State.ownerCf (s : State) (o : CmpOwner) : Word64 :=
  match o with
  | .twait p _ => s.replicaCf (replicaCluster (p.val / 9))
  | .core _ => s.replicaCf replicaCores
  | .windowStart _ | .windowStop _ => s.replicaCf replicaGraver
  | .timer _ | .wake => s.nowCf

/-- COMPARATOR_FIRE (R55): an armed comparator whose target its replica has reached fires, once for each arming. -/
def execComparatorFire (owner : CmpOwner) (s : State) : Host.Outcome State Fault Refusal :=
  .next { s with cal := { s.cal with
    comparators := s.cal.comparators.map (Comparator.evaluate (s.ownerCf owner) owner) } }

/-! ### The UTC state (R58 to R62) -/

/-- Leap entry n of the shadow registers: TAI second and offset. -/
def State.shadowLeap (s : State) (n : Nat) : Nat × Int :=
  (s.fld (Reg.CAL_LEAP_H n) 0 16 * 2 ^ 32 + (s.rd (Reg.CAL_LEAP_L n)).toNat,
   signed 16 (s.fld (Reg.CAL_LEAP_H n) 16 16))

/-- The whole shadow state as a commit captures it (R59). -/
def State.shadowUtc (s : State) : Utc :=
  let n := s.fld Reg.CAL_UTC_BASE 16 6
  { smearEn := s.flag Reg.CAL_UTC_CTRL 0, smearLead := s.fld Reg.CAL_UTC_CTRL 4 17,
    warn := s.fld Reg.CAL_UTC_CTRL 22 10, offset0 := signed 16 (s.fld Reg.CAL_UTC_BASE 0 16), count := n,
    entries := (List.range (min n 32)).map s.shadowLeap,
    expiry := s.fld Reg.CAL_UTC_EXP_H 0 16 * 2 ^ 32 + (s.rd Reg.CAL_UTC_EXP_L).toNat }

/-- Strictly increasing SEC, and each OFFSET one more or one less than the one before (R59). -/
def leapChainOk : Option Nat → Int → List (Nat × Int) → Bool
  | _, _, [] => true
  | prev, off, (sec, o) :: es =>
    (match prev with | some p => decide (p < sec) | none => true)
      && (decide (o = off + 1) || decide (o = off - 1)) && leapChainOk (some sec) o es

/-- The checks of R59. -/
def Utc.tableOk (u : Utc) : Bool := decide (u.count ≤ 32) && leapChainOk none u.offset0 u.entries

/-- OFFSET(t) of R58. -/
def Utc.offsetAt (u : Utc) (t : Nat) : Int :=
  u.entries.foldl (fun o e => if e.1 ≤ t then e.2 else o) u.offset0

/-- The UTC seconds count of R58. -/
def Utc.seconds (u : Utc) (t : Nat) : Int := (t : Int) - u.offsetAt t

/-- A CT96 time in units of 2^-32 s: (SEC << 32) + BFRAC. -/
def ctUnits (t : CT96) : Nat := ct96Sec t * 2 ^ 32 + bfrac t

/-- The sum of the contributions C_i at T (R62), each from its entry and the offset before it. -/
def smearSum (lead : Nat) (T : Int) : Int → List (Nat × Int) → Int
  | _, [] => 0
  | off, (sec, o) :: es =>
    let w : Int := ((sec : Int) - lead) * 2 ^ 32
    let δ := o - off
    let c := if T < w then 0
      else if T < w + 86400 * 2 ^ 32 then (δ * (T - w)).fdiv 86400
      else δ * 2 ^ 32
    c + smearSum lead T o es

/-- The smeared count s(t) of R62 in units of 2^-32 s. -/
def Utc.smeared (u : Utc) (t : CT96) : Int :=
  (ctUnits t : Int) - u.offset0 * 2 ^ 32 - smearSum u.smearLead (ctUnits t) u.offset0 u.entries

/-- The unsmeared count in units of 2^-32 s (R63). -/
def Utc.unsmeared (u : Utc) (t : CT96) : Int := u.seconds (ct96Sec t) * 2 ^ 32 + bfrac t

/-- The smear amount u - s(t): 0 with SMEAR_EN = 0 (R62). -/
def Utc.smearAmount (u : Utc) (t : CT96) : Int := if u.smearEn then u.unsmeared t - u.smeared t else 0

/-- The value v that UTC-derived formats use (R62, R63). -/
def Utc.formatted (u : Utc) (t : CT96) : Int := if u.smearEn then u.smeared t else u.unsmeared t

/-- LEAP_PEND of R61: the direction of the next entry after t while it is at most WARN hours away. -/
def leapPendAt (warn t : Nat) : Int → List (Nat × Int) → Nat
  | _, [] => 0
  | off, (sec, o) :: es =>
    if sec ≤ t then leapPendAt warn t o es
    else if sec - t ≤ warn * 3600 then (if off < o then 1 else 2)
    else 0

/-- LEAP_PEND of a UTC state at a TAI second. -/
def Utc.leapPend (u : Utc) (t : Nat) : Nat := leapPendAt u.warn t u.offset0 u.entries

/-- The expiry of R61: not 0, and reached. -/
def Utc.expired (u : Utc) (t : Nat) : Bool := decide (u.expiry ≠ 0) && decide (u.expiry ≤ t)

/-- A commit would change the UTC seconds count or the smear amount at t (R60). -/
def utcJumps (old new : Utc) (t : CT96) : Bool :=
  decide (old.seconds (ct96Sec t) ≠ new.seconds (ct96Sec t)) || decide (old.smearAmount t ≠ new.smearAmount t)

/-- A COMMIT of CAL_UTC_CMD (R59). -/
def State.commitUtc (s : State) (force : Bool) : State :=
  if s.flag Reg.CAL_UTC_STATUS 20 then s.calError 8
  else
    let t := s.setFlag Reg.CAL_UTC_STATUS 20 true
    { t with cal := { t.cal with pendUtc := some ⟨s.shadowUtc, force, applyEdges, false⟩ } }

/-- UTC_COMMIT (R59): a write of CAL_UTC_CMD with COMMIT. -/
def execUtcCommit (ag : Agent) (v : Word) (s : State) : Host.Outcome State Fault Refusal :=
  .next (s.writeAccess ag Reg.CAL_UTC_CMD v fun t => if bitAt v 0 then t.commitUtc (bitAt v 1) else t)

/-- The status fields that follow the committed state when it or the count changes at once; LEAP_PEND, EXPIRED and
SMEAR_ACT leave 0 only through their own commands, and SMEAR_ACT reads 0 with SMEAR_EN = 0 (R62). -/
def State.refreshUtc (s : State) : State :=
  let sec := ct96Sec s.now
  let u := s.cal.utc
  let t := s.setFld Reg.CAL_UTC_STATUS 0 16 (unsigned 16 (u.offsetAt sec))
  let t := t.setFld Reg.CAL_UTC_STATUS 16 2 (if s.fld Reg.CAL_UTC_STATUS 16 2 = 0 then 0 else u.leapPend sec)
  let t := t.setFlag Reg.CAL_UTC_STATUS 19 (s.flag Reg.CAL_UTC_STATUS 19 && u.expired sec)
  t.setFlag Reg.CAL_UTC_STATUS 18 (s.flag Reg.CAL_UTC_STATUS 18 && u.smearEn)

/-- The step's apply edge: STEPGEN, SET, source 1 and the log entry (R45). -/
def State.applyStep (s : State) (p : PendStep) : State :=
  let t := { s with cal := s.cal.step p }
  let t := (t.setFlag Reg.CAL_STATUS 1 false).setFlag Reg.CAL_STATUS 2 false
  let t := t.advance Reg.CAL_STATUS 8 8
  let t := if p.absolute then t.setFlag Reg.CAL_STATUS 17 true else t
  (t.refreshUtc.raise 1).log 1 (word96 p.value 0) (word96 p.value 1) (BitVec.ofNat 64 (word96 p.value 2).toNat)

/-- The commit's apply edge: checked against the count after that edge, then in effect everywhere (R59, R60). -/
def State.applyUtc (s : State) (p : PendUtc) : State :=
  let t := s.setFlag Reg.CAL_UTC_STATUS 20 false
  let t := { t with cal := { t.cal with pendUtc := none } }
  let refused (u : State) : State := if p.config then u.countConfig Reg.CAL_UTC_CMD else u
  if p.utc.tableOk = false then refused (t.calError 6)
  else if p.force = false ∧ utcJumps s.cal.utc p.utc (ct96OfCount s.nextCount) then refused (t.calError 7)
  else
    let t := { t with cal := { t.cal with utc := p.utc } }
    ((t.advance Reg.CAL_UTC_STATUS 24 8).refreshUtc).raise 7

/-- UTC_APPLY (R60): after an increment and a step that have the same apply edge. -/
def execUtcApply (s : State) : Host.Outcome State Fault Refusal :=
  match s.cal.pendUtc with
  | some p => .next (if p.edges = 0 ∧ s.incrDue = false ∧ s.stepDue = false then s.applyUtc p else s)
  | none => .next s

/-- LEAP_WARN (R61): LEAP_PEND leaves 0 and source 8 is raised. -/
def execLeapWarn (s : State) : Host.Outcome State Fault Refusal :=
  let d := s.cal.utc.leapPend (ct96Sec s.now)
  .next (if s.fld Reg.CAL_UTC_STATUS 16 2 = 0 ∧ d ≠ 0 then (s.setFld Reg.CAL_UTC_STATUS 16 2 d).raise 8 else s)

/-- LEAP_INSTANT (R58, R61): at an entry's SEC the offset changes and LEAP_PEND returns to 0. -/
def execLeapInstant (s : State) : Host.Outcome State Fault Refusal :=
  let o := unsigned 16 (s.cal.utc.offsetAt (ct96Sec s.now))
  .next (if s.fld Reg.CAL_UTC_STATUS 0 16 = o then s
    else (s.setFld Reg.CAL_UTC_STATUS 0 16 o).setFld Reg.CAL_UTC_STATUS 16 2 0)

/-- UTC_EXPIRED (R61): now reaches a non-zero expiry, EXPIRED sets and source 9 is raised. -/
def execUtcExpired (s : State) : Host.Outcome State Fault Refusal :=
  .next (if s.cal.utc.expired (ct96Sec s.now) ∧ s.flag Reg.CAL_UTC_STATUS 19 = false then
      (s.setFlag Reg.CAL_UTC_STATUS 19 true).raise 9
    else s)

/-- SMEAR_START (R62): the smear amount leaves 0, SMEAR_ACT sets and source 10 is raised. -/
def execSmearStart (s : State) : Host.Outcome State Fault Refusal :=
  .next (if s.cal.utc.smearAmount s.now ≠ 0 ∧ s.flag Reg.CAL_UTC_STATUS 18 = false then
      (s.setFlag Reg.CAL_UTC_STATUS 18 true).raise 10
    else s)

/-- SMEAR_END (R62): the smear amount returns to 0, SMEAR_ACT clears and source 11 is raised. -/
def execSmearEnd (s : State) : Host.Outcome State Fault Refusal :=
  .next (if s.cal.utc.smearEn ∧ s.cal.utc.smearAmount s.now = 0 ∧ s.flag Reg.CAL_UTC_STATUS 18 then
      (s.setFlag Reg.CAL_UTC_STATUS 18 false).raise 11
    else s)

/-! ### PCIe PTM (R51 to R53) -/

/-- NOPTM: PTM Enable is clear in configuration space (R52). -/
def State.notePtm (s : State) : State := s.setFlag Reg.CAL_PTM_STATUS 16 (!s.pcie.ptmEnable)

/-- A dialogue begins: t1 is stamped on the PTM-unit replica; with PTM Enable clear NOPTM sets and none runs (R52). -/
def State.ptmStart (s : State) (phase : Nat) : State :=
  if s.pcie.ptmEnable = false then s.notePtm
  else
    let t := s.notePtm.setFlag Reg.CAL_PTM_STATUS 17 true
    { t with cal := { t.cal with ptmT1 := some (s.stamp replicaPtm phase) } }

/-- The end of a dialogue; a further one that came due meanwhile begins at once (log entry 94). -/
def State.ptmEnd (s : State) (phase : Nat) : State :=
  let t := s.setFlag Reg.CAL_PTM_STATUS 17 false
  let t := { t with cal := { t.cal with ptmT1 := none } }
  if s.cal.ptmOwed = 0 then t
  else ({ t with cal := { t.cal with ptmOwed := s.cal.ptmOwed - 1 } }).ptmStart phase

/-- A dialogue discarded: FAILCNT and source 6 (R52). -/
def State.ptmFail (s : State) : State := (s.bump Reg.CAL_PTM_STATUS 8 8).raise 6

/-- A dialogue comes due: it begins, or waits for the end of the one that is open (log entry 94). -/
def State.ptmDue (s : State) (phase : Nat) : State :=
  if s.cal.ptmT1 = none then s.ptmStart phase else { s with cal := { s.cal with ptmOwed := s.cal.ptmOwed + 1 } }

/-- PTM_PERIOD (R52): the periodic dialogue while EN = 1. -/
def execPtmPeriod (phase : Nat) (s : State) : Host.Outcome State Fault Refusal :=
  .next (if s.flag Reg.CAL_PTM_CTRL 0 then s.ptmDue phase else s)

/-- A write of CAL_PTM_CTRL: PERIOD must be 1 to 1,000; ONESHOT runs one dialogue more. -/
def State.writePtmCtrl (s : State) (v : Word) (phase : Nat) : State :=
  if bitsAt v 16 10 = 0 ∨ 1000 < bitsAt v 16 10 then s.calError 9
  else
    let t := s.plainWrite Reg.CAL_PTM_CTRL v
    if bitAt v 1 then t.ptmDue phase else t

/-- PTM_ONESHOT (R52): a write of CAL_PTM_CTRL with ONESHOT. -/
def execPtmOneshot (ag : Agent) (v : Word) (phase : Nat) (s : State) : Host.Outcome State Fault Refusal :=
  .next (s.writeAccess ag Reg.CAL_PTM_CTRL v fun t => if bitAt v 1 then t.writePtmCtrl v phase else t)

/-- The link delay D of R51 in units of 2^-16 ns: ((t4 - t1) - (t3 - t2)) / 2, the turnaround in nanoseconds. -/
def ptmDelayOf (t1 t4 : CT96) (turnaround : Nat) : Int :=
  openDiv ((ct96ToFrac t4 : Int) - ct96ToFrac t1 - ((turnaround * 2 ^ 16 : Nat) : Int)) 2

/-- A dialogue's record from its own t1 and t4, where D lies within 0 to 10 us; otherwise it is discarded (R51, R52). -/
def State.ptmRecord (s : State) (t1 t4 : CT96) (t2 turnaround : Nat) : State :=
  let d := ptmDelayOf t1 t4 turnaround
  if d < 0 ∨ 10000 * 2 ^ 16 < d then s.ptmFail
  else
    let t := { s with cal := { s.cal with
      ptmDev := ct96OfFrac (ct96ToFrac t1 + d.toNat), ptmHost := BitVec.ofNat 64 t2,
      ptmDelay := BitVec.ofNat 32 d.toNat } }
    ((t.advance Reg.CAL_PTM_STATUS 0 8).setFlag Reg.CAL_PTM_STATUS 18 true).raise 5

/-- PTM_RESPONSE (R51, R52): the ResponseD with Master Time t2 and turnaround t3 - t2 in nanoseconds, and whether those
describe the dialogue before this one, whose t1 and t4 are kept; with none kept the dialogue is discarded (log entry 94). -/
def execPtmResponse (phase t2 turnaround : Nat) (earlier : Bool) (s : State) : Host.Outcome State Fault Refusal :=
  match s.cal.ptmT1 with
  | none => .next s
  | some t1 =>
    let t4 := s.stamp replicaPtm phase
    let t := { s with cal := { s.cal with ptmBefore := some (t1, t4) } }
    .next ((match if earlier then s.cal.ptmBefore else some (t1, t4) with
      | some (a, b) => t.ptmRecord a b t2 turnaround
      | none => t.ptmFail).ptmEnd phase)

/-- PTM_TIMEOUT (R52): no ResponseD within 100 us. -/
def execPtmTimeout (phase : Nat) (s : State) : Host.Outcome State Fault Refusal :=
  match s.cal.ptmT1 with
  | none => .next s
  | some _ => .next (s.ptmFail.ptmEnd phase)

/-- A read of CAL_PTM_STATUS latches the most recent completed record (R53). -/
def State.readPtmStatus (s : State) : Word × State :=
  let t := s.wr96 (Reg.CAL_PTM_DEV_W 0) s.cal.ptmDev
  let t := ((t.wr Reg.CAL_PTM_HOST_L (lo32 s.cal.ptmHost)).wr Reg.CAL_PTM_HOST_H (hi32 s.cal.ptmHost)).wr
    Reg.CAL_PTM_DELAY s.cal.ptmDelay
  t.plainRead Reg.CAL_PTM_STATUS

/-- PTM_STATUS_READ (R53). -/
def execPtmStatusRead (ag : Agent) (s : State) : Host.Outcome State Fault Refusal :=
  .next (s.readAccess ag Reg.CAL_PTM_STATUS State.readPtmStatus)

/-! ### The registers of the block -/

/-- The range checks of CAL_UTC_CTRL: WARN 1 to 744 hours, SMEAR_LEAD at most 86,400 s. -/
def utcCtrlOk (v : Word) : Bool :=
  decide (1 ≤ bitsAt v 22 10) && decide (bitsAt v 22 10 ≤ 744) && decide (bitsAt v 4 17 ≤ 86400)

/-- A write to a register of the CAL block that completes normally. -/
def State.calWrite (s : State) (ag : Agent) (off : Nat) (v : Word) : State :=
  if off = Reg.CAL_CTRL then s.writeCalCtrl v
  else if off = Reg.CAL_INCR_L then s.writeIncrL ag v
  else if off = Reg.CAL_INCR_H then s.writeIncrH ag v
  else if off = Reg.CAL_STEP_CMD then s.writeStepCmd v
  else if off = Reg.CAL_SNAP_CTL then (if bitAt v 0 then s.snapshot else s)
  else if off = Reg.CAL_PTM_CTRL then s.writePtmCtrl v 0
  else if off = Reg.CAL_UTC_CTRL then (if utcCtrlOk v then s.plainWrite off v else s.calError 9)
  else if off = Reg.CAL_UTC_CMD then (if bitAt v 0 then s.commitUtc (bitAt v 1) else s)
  else s.plainWrite off v

/-- A read of a register of the CAL block that completes normally. -/
def State.calRead (s : State) (off : Nat) : Word × State :=
  if off = Reg.CAL_NOW_W 0 then s.readNow 0
  else if off = Reg.CAL_PTM_STATUS then s.readPtmStatus
  else s.plainRead off

end Sys2Proof.Machine
end

