-- ==== Sys2Proof/Machine/Packet.lean ====
section
/-!
DEFINITION. Frames as bytes: the parse and the classifier codes of R89, R90 and R520, checksums, the CRC of R103 and the
timestamp formats of R81.
-/
namespace Sys2Proof.Machine

/-- One byte of a frame; 0 beyond its end. -/
def byteAt (bs : List Byte) (i : Nat) : Nat := (bs.getD i 0).toNat

/-- Bytes in network order (R97). -/
def be16 (bs : List Byte) (i : Nat) : Nat := byteAt bs i * 256 + byteAt bs (i + 1)
def beField (bs : List Byte) (i n : Nat) : Nat := ofBeBytes ((bs.drop i).take n)

/-- Bytes put over those of a frame from an offset; none fall outside it. -/
def patch (bs : List Byte) (i : Nat) (new : List Byte) : List Byte :=
  bs.take i ++ (new.take (bs.length - i) ++ bs.drop (i + new.length))

/-! ### CRC-32C (R103) -/

/-- One bit of the reflected Castagnoli register. -/
def crcBit (c : Word) : Word := if c.getLsbD 0 then (c >>> 1) ^^^ 0x82F63B78#32 else c >>> 1

/-- One byte shifted in, least significant bit first. -/
def crcByte (c : Word) (b : Byte) : Word := (List.range 8).foldl (fun c _ => crcBit c) (c ^^^ b.setWidth 32)

/-- Bytes shifted in, in order. -/
def crcBytes (c : Word) (bs : List Byte) : Word := bs.foldl crcByte c

/-- The CRC instruction: eight bytes of an item, least significant first. -/
def crcItem (c : Word) (item : Nat) : Word := crcBytes c (leBytes 8 item)

/-! ### One's-complement sums (R82, R116) -/

/-- A sum folded to 16 bits with end-around carry: only the empty sum folds to 0. -/
def fold16 (n : Nat) : Nat := if n = 0 then 0 else if n % (2 ^ 16 - 1) = 0 then 2 ^ 16 - 1 else n % (2 ^ 16 - 1)

/-- The sum of big-endian 16-bit words, an odd final byte padded with zero. -/
def sum16 : List Byte → Nat
  | [] => 0
  | [a] => a.toNat * 256
  | a :: b :: rest => a.toNat * 256 + b.toNat + sum16 rest

/-- The folded sum. -/
def csum (bs : List Byte) : Nat := fold16 (sum16 bs)

/-- What a byte at an offset weighs in the sum whose words start at the parity of base. -/
def byteWeight (base i v : Nat) : Nat := if i % 2 = base % 2 then v * 256 else v

/-- The one's-complement sum of (not old) + new over the bytes that differ, words aligned as base (RFC 1624); the
lists start at offset i. -/
def changeSum (base : Nat) : Nat → List Byte → List Byte → Nat
  | i, o :: os, n :: ns =>
    (if o = n then 0 else (2 ^ 16 - 1 - byteWeight base i o.toNat) + byteWeight base i n.toNat)
      + changeSum base (i + 1) os ns
  | _, _, _ => 0

/-! ### The parse (R89, R520) -/

/-- What the parse of a frame finds. -/
structure Parsed where
  malformed : Bool
  special : Bool
  etherType : Nat
  l3 : Nat
  tags : Nat
  ipVersion : Nat
  proto : Nat
  l4 : Nat
  l4End : Nat
  deriving DecidableEq, Repr

/-- The IPv6 extension-header numbers (log entry 9). -/
def isExtensionHeader (n : Nat) : Bool := [0, 43, 44, 50, 51, 60, 135, 139, 140, 253, 254].contains n

/-- A VLAN tag's EtherType. -/
def isVlan (t : Nat) : Bool := t == 0x8100 || t == 0x88A8

/-- The UDP and TCP checks of R520 on a datagram from l4 to l4End. -/
def l4Malformed (bs : List Byte) (proto l4 l4End : Nat) : Bool :=
  if proto = 17 then
    decide (l4End < l4 + 8) || decide (be16 bs (l4 + 4) < 8) || decide (l4End - l4 < be16 bs (l4 + 4))
  else if proto = 6 then decide (l4End < l4 + 4)
  else false

/-- The IPv4 part of the parse. -/
def parseIpv4 (bs : List Byte) (l3 tags : Nat) : Parsed :=
  let avail := bs.length - l3
  let ihl := byteAt bs l3 % 16
  let total := be16 bs (l3 + 2)
  let bad := decide (avail = 0) || decide (byteAt bs l3 / 16 ≠ 4) || decide (ihl < 5) || decide (avail < ihl * 4)
    || decide (csum ((bs.drop l3).take (ihl * 4)) ≠ 0xFFFF) || decide (total < ihl * 4) || decide (avail < total)
  let frag := decide (be16 bs (l3 + 6) % 2 ^ 14 ≠ 0)
  let proto := byteAt bs (l3 + 9)
  let l4 := l3 + ihl * 4
  let bad := bad || (!frag && l4Malformed bs proto l4 (l3 + total))
  ⟨bad, frag, 0x0800, l3, tags, 4, proto, l4, l3 + total⟩

/-- The IPv6 part of the parse. -/
def parseIpv6 (bs : List Byte) (l3 tags : Nat) : Parsed :=
  let avail := bs.length - l3
  let plen := be16 bs (l3 + 4)
  let bad := decide (avail < 40) || decide (byteAt bs l3 / 16 ≠ 6) || decide (avail - 40 < plen)
  let proto := byteAt bs (l3 + 6)
  let ext := isExtensionHeader proto
  let l4 := l3 + 40
  let bad := bad || (!ext && l4Malformed bs proto l4 (l4 + plen))
  ⟨bad, ext, 0x86DD, l3, tags, 6, proto, l4, l4 + plen⟩

/-- The number of VLAN tags and the offset of the EtherType behind them: at most two are parsed. -/
def skipTags (bs : List Byte) : Nat × Nat :=
  if isVlan (be16 bs 12) then (if isVlan (be16 bs 16) then (2, 20) else (1, 16)) else (0, 12)

/-- The parse of a frame. -/
def parseFrame (bs : List Byte) : Parsed :=
  let (tags, at_) := skipTags bs
  let et := be16 bs at_
  let l3 := at_ + 2
  if bs.length < l3 then ⟨true, false, 0, l3, tags, 0, 0, 0, 0⟩
  else if tags = 2 ∧ isVlan et then ⟨decide (bs.length < l3 + 4), true, et, l3, tags, 0, 0, 0, 0⟩
  else if et = 0x0800 then parseIpv4 bs l3 tags
  else if et = 0x86DD then parseIpv6 bs l3 tags
  else ⟨false, false, et, l3, tags, 0, 0, 0, 0⟩

/-- A well-formed IP header that R89 parses. -/
def Parsed.hasIp (p : Parsed) : Bool := p.ipVersion != 0 && !p.malformed

/-- An L4 header of a protocol, parsed: not a fragment and no extension header. -/
def Parsed.isL4 (p : Parsed) (proto : Nat) : Bool := p.hasIp && !p.special && p.proto == proto

/-- The UDP datagram's payload length. -/
def udpPayload (bs : List Byte) (p : Parsed) : Nat := be16 bs (p.l4 + 4) - 8

/-- The codes 0 to 6 of a UDP datagram to port 123. -/
def ntpCode (bs : List Byte) (p : Parsed) : Nat :=
  let n := udpPayload bs p
  let m := byteAt bs (p.l4 + 8) % 8
  let v := byteAt bs (p.l4 + 8) / 8 % 8
  if v = 4 ∧ m = 3 ∧ n = 48 then 0
  else if v = 3 ∧ m = 3 ∧ 48 ≤ n then 1
  else if v = 4 ∧ m = 3 ∧ 50 ≤ n ∧ be16 bs (p.l4 + 56) = 0x0104 then 2
  else if v = 4 ∧ m = 3 ∧ 48 ≤ n then 3
  else if (m = 1 ∨ m = 2) ∧ 1 ≤ n then 4
  else if (m = 6 ∨ m = 7) ∧ 1 ≤ n then 5
  else 6

/-- The offset of a PTP message with majorVersion 2 and at least 2 bytes, over UDP or over its EtherType. -/
def ptpOffset (bs : List Byte) (p : Parsed) : Option Nat :=
  if p.isL4 17 ∧ (be16 bs (p.l4 + 2) = 319 ∨ be16 bs (p.l4 + 2) = 320) ∧ 2 ≤ udpPayload bs p
      ∧ byteAt bs (p.l4 + 9) % 16 = 2 then some (p.l4 + 8)
  else if p.malformed = false ∧ p.special = false ∧ p.etherType = 0x88F7 ∧ p.l3 + 2 ≤ bs.length
      ∧ byteAt bs (p.l3 + 1) % 16 = 2 then some p.l3
  else none

/-- The code of R89 before the user rules. -/
def baseCode (bs : List Byte) (p : Parsed) : Nat :=
  if p.malformed then 14
  else if p.special then 11
  else if p.isL4 17 ∧ be16 bs (p.l4 + 2) = 123 then ntpCode bs p
  else if p.isL4 6 ∧ be16 bs (p.l4 + 2) = 4460 then 7
  else if p.etherType = 0x0806 then 8
  else if p.ipVersion = 6 ∧ p.proto = 58 then
    (if p.l4 < p.l4End ∧ 133 ≤ byteAt bs p.l4 ∧ byteAt bs p.l4 ≤ 137 then 9 else 10)
  else if p.ipVersion = 4 ∧ p.proto = 1 then 10
  else
    match ptpOffset bs p with
    | some o => (if p.ipVersion = 0 then 32 else 16) + byteAt bs o % 16
    | none => if p.ipVersion = 0 then 13 else 12

/-- A user rule of R90 matches: kind and value against the parse. -/
def ruleMatches (bs : List Byte) (p : Parsed) (kind value : Nat) : Bool :=
  match kind with
  | 0 => p.etherType == value
  | 1 => p.ipVersion != 0 && p.proto == value
  | 2 => p.isL4 17 && be16 bs (p.l4 + 2) == value
  | _ => p.isL4 6 && be16 bs (p.l4 + 2) == value

/-- An offset of R114, 0xFFFF where it does not exist. -/
def offsetOr (present : Bool) (o : Nat) : Nat := if present then o else 0xFFFF

/-- The metadata of R114 from the parse. -/
def frameInfo (p : Parsed) (code entry pclass : Nat) : FrameInfo :=
  { code, entry, pclass, ipOff := offsetOr p.hasIp p.l3,
    l4Off := offsetOr (p.hasIp && !p.special) p.l4, udpOff := offsetOr (p.isL4 17) (p.l4 + 8),
    vlanTags := p.tags, ipVersion := if p.hasIp then p.ipVersion else 0,
    hasPorts := p.isL4 17 || p.isL4 6 }

/-- Metadata of a frame that no classifier has seen. -/
def FrameInfo.none : FrameInfo := ⟨0, 0, 0xFFFF, 0xFFFF, 0xFFFF, 0, 0, 0, false⟩

/-- No insertion. -/
def Mark.none : Mark := ⟨false, 0, 0, 0, 0, 0, false, 0⟩

/-- The IP header lies whole in the frame, so that its addresses are present whatever else is wrong with it (R92). -/
def Parsed.wholeIp (p : Parsed) (bs : List Byte) : Bool :=
  let avail := bs.length - p.l3
  if p.ipVersion = 4 then
    byteAt bs p.l3 / 16 == 4 && decide (5 ≤ byteAt bs p.l3 % 16) && decide (byteAt bs p.l3 % 16 * 4 ≤ avail)
  else if p.ipVersion = 6 then byteAt bs p.l3 / 16 == 6 && decide (40 ≤ avail)
  else false

/-- The frame has L4 port numbers: a UDP or TCP header that the classifier parses, the 4 bytes within the datagram. -/
def Parsed.hasPorts (p : Parsed) (bs : List Byte) : Bool :=
  p.wholeIp bs && !p.special && (p.proto == 17 || p.proto == 6) && decide (p.l4 + 4 ≤ min p.l4End bs.length)

/-- Where the PTP message at an offset ends: with its UDP datagram, or with the frame. -/
def ptpEnd (bs : List Byte) (p : Parsed) : Nat := if p.ipVersion = 0 then bs.length else p.l4 + be16 bs (p.l4 + 4)

/-- The key items of R92 for a HASH code; an absent field is the ingress port. -/
def hashItems (bs : List Byte) (p : Parsed) (hash port : Nat) : List Nat :=
  let src := if p.wholeIp bs = false then [port]
    else if p.ipVersion = 4 then [beField bs (p.l3 + 12) 4]
    else [beField bs (p.l3 + 8) 8, beField bs (p.l3 + 16) 8]
  let dst := if p.wholeIp bs = false then [port]
    else if p.ipVersion = 4 then [beField bs (p.l3 + 16) 4]
    else [beField bs (p.l3 + 24) 8, beField bs (p.l3 + 32) 8]
  let l4 := p.hasPorts bs
  match hash with
  | 0 => src ++ dst ++ [if l4 then be16 bs p.l4 else port, if l4 then be16 bs (p.l4 + 2) else port]
  | 1 => src
  | 2 =>
    match ptpOffset bs p with
    | some o =>
      [ if o + 28 ≤ ptpEnd bs p then beField bs (o + 20) 8 else port,
        if o + 30 ≤ ptpEnd bs p then byteAt bs (o + 4) * 2 ^ 16 + be16 bs (o + 28) else port ]
    | none => [port, port]
  | _ => [port]

/-! ### Timestamp formats (R63, R64, R81) -/

/-- The NTP 64-bit timestamp of a count of 2^-32 s since 1970 (R63). -/
def ntpOf (v : Int) : Nat :=
  ((v.fdiv (2 ^ 32) + 2208988800) % (2 ^ 32)).toNat * 2 ^ 32 + (v % (2 ^ 32)).toNat

/-- The bytes that a format code writes for a time (R81, R111). -/
def stampBytes (u : Utc) (fmt : Nat) (t : CT96) : List Byte :=
  match fmt with
  | 0 => beBytes 8 (ntpOf (u.formatted t))
  | 1 | 2 => beBytes 6 (ct96Sec t) ++ beBytes 4 (ct96Ns t)
  | _ => beBytes 12 t.toNat

/-- The size of a format (R81). -/
def stampSize (fmt : Nat) : Nat :=
  match fmt with
  | 0 => 8
  | 1 | 2 => 10
  | _ => 12

/-- The insertion fields are invalid for a frame of a length (R83). -/
def markInvalid (m : Mark) (len : Nat) : Bool :=
  decide (3 < m.fmt) || decide (2 < m.cks) || decide (len < m.off + stampSize m.fmt)
    || (m.fmt == 2 && decide (len < m.auxOff + 8))
    || (m.cks != 0 && decide (len < m.cksOff + 2))
    || (m.cks != 0 && decide (m.cksOff < m.off + stampSize m.fmt) && decide (m.off < m.cksOff + 2))

/-- The timestamp and the correctionField written (R81). -/
def insertStamp (u : Utc) (m : Mark) (t : CT96) (bs : List Byte) : List Byte :=
  let bs := patch bs m.off (stampBytes u m.fmt t)
  if m.fmt = 2 then patch bs m.auxOff (beBytes 8 ((beField bs m.auxOff 8 + ct96Frac t) % 2 ^ 64)) else bs

/-- The checksum mode of R82 over the bytes that changed. -/
def adjustChecksum (m : Mark) (old new : List Byte) : List Byte :=
  let change := changeSum m.cksOff 0 old new
  let field := be16 new m.cksOff
  match m.cks with
  | 1 =>
    if field = 0 then new
    else
      let c := 2 ^ 16 - 1 - fold16 (2 ^ 16 - 1 - field + change)
      patch new m.cksOff (beBytes 2 (if c = 0 then 0xFFFF else c))
  | 2 =>
    let undo := changeSum m.cksOff 0 new old
    patch new m.cksOff (beBytes 2 (fold16 (field + undo)))
  | _ => new

end Sys2Proof.Machine
end

