-- ==== Sys2Proof/Machine/Ecc.lean ====
section
/-!
DEFINITION. Memory errors and targeted self-tests (chapter 17): poison marks, the handling of an uncorrectable error,
the queue of tests and their verdicts, and the mirrored writes of the table pool (R493).
-/
namespace Sys2Proof.Machine

/-! The memory IDs of R468 and the units of R473. -/
abbrev memL : Nat := 1
abbrev memPool : Nat := 2
abbrev memPacket : Nat := 3
abbrev memProgram : Nat := 4
abbrev memCore : Nat := 5
abbrev memLog : Nat := 6
abbrev memGnss : Nat := 7
abbrev memCrypto : Nat := 8
abbrev memBne : Nat := 9
abbrev unitRow (mem : Nat) : Nat := 0x1000 + mem
abbrev unitTile (p : Nat) : Nat := 0x2000 + p
abbrev unitPipe (p : Nat) : Nat := 0x3000 + p
abbrev unitLane (n : Nat) : Nat := 0x4000 + n
abbrev unitEngine (e : Nat) : Nat := 0x5000 + e

/-- A retired tile (R476). -/
def State.tileRetired (s : State) (p : Nat) : Bool := s.flag (Reg.REL_RET_TILE (p / 32)) (p % 32)

/-- A retired lane (R476). -/
def State.laneRetired (s : State) (n : Nat) : Bool := s.flag Reg.REL_RET_LANE n

/-- A retired unit (R475). -/
def State.unitRetired (s : State) (u : Nat) : Bool :=
  if u / 0x1000 = 2 then s.tileRetired (u % 0x1000)
  else if u / 0x1000 = 4 then s.laneRetired (u % 0x1000)
  else s.rel.retired.contains u

/-- The verdict codes of R480. -/
abbrev verdictTransient : Nat := 1
abbrev verdictLasting : Nat := 2
abbrev verdictUntested : Nat := 3

/-- A verdict logged, with source 227 raised and REL_STICKY.LASTING set by a lasting one (R471). -/
def State.verdict (s : State) (unit code : Nat) : State :=
  let d := BitVec.ofNat 32 (unit + code * 2 ^ 16)
  let t := (s.raise 227 d).log 227 d 0 0 code
  if code = verdictLasting then t.setFlag Reg.REL_STICKY 2 true else t

/-- A targeted self-test asked for (R475): it joins a test of its unit that runs or waits; at most 16 run, further ones
wait in a queue of 64, and one that finds the queue full is not run. -/
def State.startTest (s : State) (unit row : Nat) : State :=
  if s.unitRetired unit then s
  else if s.rel.tests.contains (unit, row) || s.rel.waiting.contains (unit, row) then s
  else if s.rel.tests.length < 16 ∧ s.rel.waiting = [] then
    { s with rel := { s.rel with tests := s.rel.tests ++ [(unit, row)] } }
  else if s.rel.waiting.length < 64 then { s with rel := { s.rel with waiting := s.rel.waiting ++ [(unit, row)] } }
  else (s.verdict unit verdictUntested).setFlag Reg.REL_STICKY 3 true

/-- A test that has ended or was abandoned. -/
def State.endTest (s : State) (unit row : Nat) : State :=
  { s with rel := { s.rel with tests := s.rel.tests.filter (· != (unit, row))
                               waiting := s.rel.waiting.filter (· != (unit, row)) } }

/-- A test that runs (R475). -/
def State.testRuns (s : State) (unit row : Nat) : Bool := s.rel.tests.contains (unit, row)

/-- An event source raised with a trouble-log entry of the same data. -/
def State.report (s : State) (src : Nat) (data0 : Word := 0) (data1 : Word := 0) (detail : Word64 := 0) : State :=
  (s.raise src data0 data1).log src data0 data1 detail

/-- An uncorrectable error met at an address of a memory (R468): counted, reported, its row tested. -/
def State.eccReport (s : State) (mem addr : Nat) : State :=
  let t := ((s.bump Reg.REL_ECC_UNC 0 32).setFlag Reg.REL_STICKY 0 true).report 226
    (BitVec.ofNat 32 mem) (BitVec.ofNat 32 addr) (BitVec.ofNat 64 addr)
  t.startTest (unitRow mem) (addr / 512)

/-- A word marked as poisoned (R469). -/
def State.markPoison (s : State) (mem addr : Nat) : State :=
  let m := (mem, addr / 8 * 8)
  if s.rel.poison.contains m then s else { s with rel := { s.rel with poison := s.rel.poison ++ [m] } }

/-- An uncorrectable error found at an address of a memory: the word keeps a mark. -/
def State.eccError (s : State) (mem addr : Nat) : State := (s.markPoison mem addr).eccReport mem addr

/-- A poisoned word of a frame is read: the place of a frame in the packet buffer is open, so the address is free (log
entry 10). -/
def State.packetError (s : State) : State := s.drawn.eccReport memPacket (s.draw.toNat % 2 ^ 24)

/-- The 8-byte words that n bytes at an address touch. -/
def wordsOf (a n : Nat) : List Nat := (List.range ((a + n + 7) / 8 - a / 8)).map fun i => (a / 8 + i) * 8

/-- The first poisoned word among n bytes of a memory. -/
def State.poisoned (s : State) (mem a n : Nat) : Option Nat :=
  (wordsOf a n).find? fun w => s.rel.poison.contains (mem, w)

/-- The first poisoned word that a write of n bytes covers only in part (R469). -/
def State.partlyPoisoned (s : State) (mem a n : Nat) : Option Nat :=
  (wordsOf a n).find? fun w => s.rel.poison.contains (mem, w) && !(decide (a ≤ w) && decide (w + 8 ≤ a + n))

/-- The marks of the words that a write covers whole are cleared (R469). -/
def State.clearPoison (s : State) (mem a n : Nat) : State :=
  { s with rel := { s.rel with poison := s.rel.poison.filter fun m =>
      !(m.1 == mem && decide (a ≤ m.2) && decide (m.2 + 8 ≤ a + n)) } }

/-- Who writes to the table pool (R493). -/
inductive PoolWriter where
  | tile
  | core
  | host
  deriving DecidableEq, Repr

/-- The roles of PAR_STATUS (R486). -/
abbrev roleSolo : Nat := 0
abbrev roleUnformed : Nat := 1
abbrev roleActive : Nat := 2
abbrev roleStandby : Nat := 3
def State.role (s : State) : Nat := s.fld Reg.PAR_STATUS 30 2

/-- A T address in a mirrored range (R493). -/
def State.mirrored (s : State) (a : Nat) : Bool :=
  (List.range 4).any fun n =>
    s.flag (Reg.PAR_MIR_CTL n) 31 && decide (s.fld (Reg.PAR_MIR_CTL n) 0 14 ≤ a / 4096) &&
      decide (a / 4096 ≤ s.fld (Reg.PAR_MIR_CTL n) 0 14 + s.fld (Reg.PAR_MIR_CTL n) 14 14)

/-- A line of the pool with its poison marks (R493). -/
def State.mirrorLine (s : State) (line : Nat) : MirrorLine :=
  { addr := line
    mask := (List.range 8).foldl (fun m i => m + (if s.rel.poison.contains (memPool, line + 8 * i) then 2 ^ i else 0)) 0
    bytes := memReadBytes s.gys.pool line 64 }

/-- A MIRROR message for a line, or its loss with 8,192 queued (R493). -/
def State.queueMirror (s : State) (line : Nat) : State :=
  if s.pair.mirror.length < 8192 then { s with pair := { s.pair with mirror := s.pair.mirror ++ [s.mirrorLine line] } }
  else
    let t := ((s.bump Reg.PAR_CNT_MLOST 0 32).setFlag Reg.PAR_STATUS 22 false).raise 237
    { t with pair := { t.pair with lost := true } }

/-- The bytes of the pool as a write leaves them, marks cleared. -/
def State.poolStore (s : State) (a : Nat) (bs : List Byte) : State :=
  State.clearPoison { s with gys := { s.gys with pool := memWriteBytes s.gys.pool a bs } } memPool a bs.length

/-- A write to the table pool that lies within one 64-byte line (R118, R493): a tile's write to a mirrored range of a
standby device is discarded; an active device mirrors the line. -/
def State.poolWrite (s : State) (who : PoolWriter) (a : Nat) (bs : List Byte) : State :=
  if s.role = roleStandby ∧ who = .tile ∧ s.mirrored a then s.bump Reg.PAR_CNT_MDISC 0 32
  else if s.role = roleActive ∧ s.mirrored a then (s.poolStore a bs).queueMirror (a / 64 * 64)
  else s.poolStore a bs

/-- A write to the table pool cut at line boundaries. -/
def State.poolWriteLines (s : State) (who : PoolWriter) : Nat → Nat → List Byte → State
  | 0, _, _ => s
  | n + 1, a, bs =>
    let k := 64 - a % 64
    if bs.length ≤ k then s.poolWrite who a bs
    else (s.poolWrite who a (bs.take k)).poolWriteLines who n (a + k) (bs.drop k)

/-- 64 bits of the pool. -/
def State.poolWord (s : State) (a : Nat) : Nat := ofLeBytes (memReadBytes s.gys.pool a 8)

end Sys2Proof.Machine
end

