-- ==== Sys2Proof/Machine/Rings.lean ====
section
/-!
DEFINITION. The rings of the DMA engine as other chapters meet them (chapter 14): their registers, states, cells, and the
status of a down frame.
-/
namespace Sys2Proof.Machine

/-- A ring's part of the state: data rings 0 to 63, event rings 64 to 67. -/
def State.ring (s : State) (r : Nat) : RingState := sparseGet (fun _ => RingState.reset) s.dma.rings r
def State.setRing (s : State) (r : Nat) (x : RingState) : State :=
  { s with dma := { s.dma with rings := sparseSet (fun _ => RingState.reset) s.dma.rings r x } }

/-- The offset of a ring register. -/
def ringReg (r o : Nat) : Nat := if r < 64 then 0xC02000 + 0x40 * r + o else 0xC03000 + 0x40 * (r - 64) + o

/-- DMA_STATUS.RUN. -/
def State.dmaEnabled (s : State) : Bool := s.flag Reg.DMA_CTRL 0 && s.pcie.busMaster && s.pcie.dState == 0

/-- The engine may issue requests (R383). -/
def State.dmaRuns (s : State) : Bool := s.dmaEnabled && s.endpointUp

/-! The states of R395. -/
abbrev ringDisabled : Nat := 0
abbrev ringRun : Nat := 1
abbrev ringStopping : Nat := 2
abbrev ringFault : Nat := 3
abbrev ringHeld : Nat := 4

/-- STATE of a ring: RUN and FAULT read HELD while the engine may issue nothing (R383). -/
def State.ringState (s : State) (r : Nat) : Nat :=
  let st := (s.ring r).st
  if (st = ringRun ∨ st = ringFault) ∧ s.dmaRuns = false then ringHeld else st

/-- A sticky condition of the DMA block (R404). -/
def State.dmaSticky (s : State) (b : Nat) : State := s.sticky Reg.DMA_STICKY Reg.DMA_STICKY_EN b (176 + b)

/-- A refusal of the DMA block (R404). -/
def State.dmaError (s : State) (b : Nat) : State := s.error Reg.DMA_ERR b 194

/-- The cells that a frame of some bytes takes (R403). -/
def frameCells (n : Nat) : Nat := (n + 255) / 256

/-- LEN of a down descriptor. -/
def DownDescriptor.len (d : DownDescriptor) : Nat := ofLeBytes ((d.raw.drop 8).take 2)

/-- The cells that a data ring holds (R403): up frames, the down frame that is read, and the down frames that wait for
egress, those of a ring that has been disabled since (R395) included. -/
def RingState.inUse (x : RingState) : Nat :=
  (x.up.map fun u => frameCells u.frame.bytes.length).sum +
    (x.down.map fun d =>
      if d.started && d.status.isNone && !(x.leaving.any fun e => e.1 == d.serial) then frameCells d.len else 0).sum +
    (x.leaving.map (·.2)).sum

/-- The cells of ring r, and of all data rings. -/
def State.ringCells (s : State) (r : Nat) : Nat := (s.ring r).inUse
def State.poolCells (s : State) : Nat := (s.dma.rings.map fun e => if e.1 < 64 then e.2.inUse else 0).sum

/-- INUSE above its limit. -/
def State.ringOver (s : State) (r : Nat) : Bool := decide (s.fld (Reg.DMA_RING_BUDGET r) 0 16 < s.ringCells r)
def State.poolOver (s : State) : Bool := decide (s.fld Reg.DMA_POOL 0 16 < s.poolCells)

/-- A frame may be admitted to a ring (R403). -/
def State.admissible (s : State) (r : Nat) : Bool :=
  decide (s.ringCells r < s.fld (Reg.DMA_RING_BUDGET r) 0 16) && decide (s.poolCells < s.fld Reg.DMA_POOL 0 16)

/-- DMA_STICKY.OVER_QUOTA after a change of cells or limits: a ring or the pool has gone over (R403). -/
def State.quotaAfter (t s : State) : State :=
  if (List.range 64).any (fun r => t.ringOver r && !s.ringOver r) || (t.poolOver && !s.poolOver) then t.dmaSticky 4 else t

/-- The cells of the packet buffer that hold frames (R28): those that wait in the ports, for their tile or in a context, the
frames toward up rings, and what the data rings hold (R403), but for their down frames that stand in egress queues already. -/
def cellsOfFrames (fs : List Frame) : Nat := (fs.map fun f => frameCells f.bytes.length).sum
def State.bufferCells (s : State) : Nat :=
  (s.net.ports.map fun e => cellsOfFrames e.2.received + cellsOfFrames e.2.egress).sum +
    cellsOfFrames (s.net.toArray.filterMap (·.frame)) + cellsOfFrames (s.net.toHost.map (·.frame)) +
    cellsOfFrames (s.gys.queued.filterMap (·.frame)) + cellsOfFrames (s.gys.contexts.filterMap (·.2.frame)) +
    (s.poolCells - (s.dma.rings.map fun e => (e.2.leaving.map (·.2)).sum).sum)

/-- A number of further cells is free: the pool has 65,536 of 256 bytes (R28). -/
def State.cellsFree (s : State) (n : Nat) : Bool := decide (s.bufferCells + n ≤ 65536)

/-- A down frame has passed TXSP or was discarded (R392, R394): its descriptor takes a status and the egress stamp
record. -/
def State.frameEnded (s : State) (f : Frame) (status : Nat) (stamp : Stamp := Stamp.plain 0) : State :=
  match f.job with
  | none => s
  | some (r, k) =>
    let x := s.ring r
    s.setRing r { x with
      leaving := x.leaving.filter (·.1 != k)
      down := x.down.map fun d =>
        if d.serial == k && d.status.isNone then { d with status := some (status, stamp) } else d }

end Sys2Proof.Machine
end

