-- ==== Sys2Proof/Machine/Ports.lean ====
section
/-!
DEFINITION. Burin, the ports (chapter 03): quad modes, links, received frames and their stamps, the answer gate, egress
insertion, PAUSE, port calibration, and the port registers.
-/
namespace Sys2Proof.Machine

/-- PRT_QUAD.MODE of the quad that holds port n. -/
def State.portMode (s : State) (n : Nat) : Nat := s.fld (Reg.PRT_QUAD (n / 4)) 0 3

/-- Port n has a port behind its block (R31, R67). -/
def State.portExists (s : State) (n : Nat) : Bool :=
  match s.portMode n with
  | 0 => false
  | 1 => n % 2 == 0
  | _ => true

/-- The trim index k of the active mode (R74). -/
def State.trimIndex (s : State) (n : Nat) : Nat :=
  match s.portMode n with
  | 1 => 0
  | 2 => 1
  | 3 => if s.flag (Reg.PRT_CTRL n) 3 then 2 else 3
  | _ => 4

/-- RX_FIXED and TX_FIXED in tenths of a nanosecond (R74). -/
def fixedTenths (k : Nat) : Nat × Nat :=
  match k with
  | 0 => (1843, 967)
  | 1 => (2986, 1421)
  | 2 => (4867, 2083)
  | 3 => (964, 702)
  | _ => (1589, 1126)

/-- Tenths of a nanosecond in units of 2^-16 ns; the rounding is open (log entry 8). -/
def tenthsToUnits (x : Nat) : Int := openDiv ((x * 2 ^ 16 : Nat) : Int) 10

/-- The time of a signed number of units of 2^-16 ns, modulo the range of CT96. -/
def ct96OfInt (q : Int) : CT96 := ct96OfFrac (q % ((2 ^ 48 * (10 ^ 9 * 2 ^ 16) : Nat) : Int)).toNat

/-- The ingress stamp of R73. -/
def State.ingressStamp (s : State) (n phase : Nat) : CT96 :=
  let k := s.trimIndex n
  ct96OfInt ((ct96ToFrac (s.stamp (replicaPort n) phase) : Int)
    - (tenthsToUnits (fixedTenths k).1 + (s.rd (Reg.PRT_MEAS_RX n)).toNat + (s.rd (Reg.PRT_TRIM_RX n k)).toInt))

/-- The egress stamp of R73. -/
def State.egressStamp (s : State) (n phase : Nat) : CT96 :=
  let k := s.trimIndex n
  ct96OfInt ((ct96ToFrac (s.stamp (replicaPort n) phase) : Int)
    + (tenthsToUnits (fixedTenths k).2 + (s.rd (Reg.PRT_MEAS_TX n)).toNat + (s.rd (Reg.PRT_TRIM_TX n k)).toInt))

/-- A stamp that Burin takes: counted at once where it is suspect already, else held for the compare that ends its
interval (R21, R72). -/
def State.countStamp (s : State) (n : Nat) : State :=
  if s.suspect (replicaPort n) then s.suspectStamps n 1 else s.setPort n { s.port n with fresh := (s.port n).fresh + 1 }

/-! ### The answer gate (R34, R85) -/

/-- The conditions of R34 for port n. -/
def State.canAnswer (s : State) (n : Nat) : Bool :=
  s.pdUp PD_AON && s.pdUp PD_FABRIC && (List.range 8).any (fun k => s.pdUp (PD_ARRAY k))
    && s.pdUp (PD_SERDES (n / 4)) && !s.flag Reg.CPM_PLL 18

/-- What the answer gate takes as FENCE_IN asserted (R487). -/
def State.fenceAsserted (s : State) : Bool :=
  s.fenceIn || s.flag Reg.PAR_STATUS 28 || (s.flag Reg.PAR_CTRL 31 && s.fld Reg.PAR_STATUS 30 2 != 2)

/-- The answer gate of port n is open (R85). -/
def State.gateOpen (s : State) (n : Nat) : Bool :=
  s.canAnswer n && !s.fenceAsserted && s.answersClients
    && !s.flag (Reg.PRT_CAL_CTRL n) 0 && !s.flag (Reg.PRT_CAL_CTRL n) 1

/-! ### Quad mode and links (R67, R68, R75, R88) -/

/-- A port of quad q is enabled. -/
def State.quadInUse (s : State) (q : Nat) : Bool :=
  (List.range 4).any fun i => s.flag (Reg.PRT_CTRL (4 * q + i)) 0

/-- The outcome of a write to a port block shown in REFUSED. -/
def State.portRefused (s : State) (n : Nat) (b : Bool) : State := s.setFlag (Reg.PRT_STATUS n) 5 b

/-- Port n loses alignment and training, and with them its link where it was up: LINK_DOWN sets, source 48 + 2n is raised
(R75, R88). -/
def State.linkDown (s : State) (n : Nat) : State :=
  let t := s.setFld (Reg.PRT_STATUS n) 0 3 0
  if s.flag (Reg.PRT_STATUS n) 0 then (t.portSticky n 0).raise (48 + 2 * n) else t

/-- A write of PRT_QUAD: refused with ERR for a reserved mode or with a port of the quad enabled; an accepted write
relocks QPLLq (R68). -/
def State.writeQuad (s : State) (q : Nat) (v : Word) : State :=
  if 4 < bitsAt v 0 3 ∨ s.quadInUse q then
    (s.setFlag (Reg.PRT_QUAD q) 31 true).portRefused (4 * q) true
  else
    let t := (s.plainWrite (Reg.PRT_QUAD q) v).setFlag (Reg.PRT_QUAD q) 8 false
    let t := (t.setFlag Reg.CPM_PLL (6 + q) false).portRefused (4 * q) false
    let t := (List.range 4).foldl (fun u i => u.linkDown (4 * q + i)) t
    if bitsAt v 0 3 = 0 then t.setFlag Reg.CPM_PLL (22 + q) false else t

/-- QUAD_MODE_WRITE (R67, R68): a write of PRT_QUAD. -/
def execQuadModeWrite (ag : Agent) (q : Fin 4) (v : Word) (s : State) : Host.Outcome State Fault Refusal :=
  .next (s.writeAccess ag (Reg.PRT_QUAD q.val) v fun t => t.writeQuad q.val v)

/-- Port n can hold a lock: it exists, its quad's clock is ready, it is enabled and its domain runs. -/
def State.portEnabled (s : State) (n : Nat) : Bool :=
  s.portExists n && s.flag (Reg.PRT_QUAD (n / 4)) 8 && s.flag (Reg.PRT_CTRL n) 0 && s.pdUp (PD_SERDES (n / 4))

/-- ALIGNMENT_LOCK (R75): FEC and alignment lock, and the receive latency of this lock is held. -/
def execAlignmentLock (n : Fin 16) (meas : Word) (s : State) : Host.Outcome State Fault Refusal :=
  .next (if s.portEnabled n.val then
      (s.wr (Reg.PRT_MEAS_RX n.val) meas).setFlag (Reg.PRT_STATUS n.val) 1 true
    else s)

/-- The lanes of port n: two in a 100G mode (R67). -/
def State.lanesOf (s : State) (n : Nat) : List Nat := if s.quad100 (n / 4) then [n, n + 1] else [n]

/-- No lane of a list is retired or in its loopback test (R471). -/
def State.lanesFree (s : State) (ls : List Nat) : Bool :=
  ls.all fun l => !s.laneRetired l && !s.testRuns (unitLane l) 0

/-- LINK_UP (R75, R88): the link comes up on a locked port, the transmit gearbox phase is measured, and source 48 + 2n
is raised. -/
def execLinkUp (n : Fin 16) (meas : Word) (s : State) : Host.Outcome State Fault Refusal :=
  .next (if s.portEnabled n.val ∧ s.lanesFree (s.lanesOf n.val) ∧ s.flag (Reg.PRT_STATUS n.val) 1 ∧
      s.flag (Reg.PRT_CAL_CTRL n.val) 0 = false ∧ s.flag (Reg.PRT_STATUS n.val) 0 = false then
      (((s.wr (Reg.PRT_MEAS_TX n.val) meas).setFlag (Reg.PRT_STATUS n.val) 2 true).setFlag
        (Reg.PRT_STATUS n.val) 0 true).raise (48 + 2 * n.val)
    else s)

/-- LINK_DOWN (R88): with the lane whose CDR lost lock, where that brought the link down; the lane is tested (R471). -/
def execLinkDown (n : Fin 16) (cdr : Option (Fin 16)) (s : State) : Host.Outcome State Fault Refusal :=
  .next (
    let t := s.linkDown n.val
    match cdr with
    | none => t
    | some l => if (s.lanesOf n.val).contains l.val ∧ s.pdUp (PD_SERDES (n.val / 4)) then t.startTest (unitLane l.val) 0 else t)

/-! ### Reception (R69 to R73, R87, R89) -/

/-- PRT_MAC as a number of 48 bits. -/
def State.portMac (s : State) (n : Nat) : Nat :=
  s.fld (Reg.PRT_MAC_H n) 0 16 * 2 ^ 32 + (s.rd (Reg.PRT_MAC_L n)).toNat

/-- The destination is PRT_MAC, broadcast, any multicast address, or PROMISC is 1 (R89). -/
def State.acceptsMac (s : State) (n : Nat) (bs : List Byte) : Bool :=
  s.flag (Reg.PRT_CTRL n) 7 || byteAt bs 0 % 2 == 1 || beField bs 0 6 == s.portMac n

/-- A PAUSE frame: counted, and honoured with PAUSE_MODE 1 (R87). -/
def State.pauseRx (s : State) (n quanta : Nat) : State :=
  let t := s.portSticky n 2
  if s.fld (Reg.PRT_CTRL n) 4 2 ≠ 1 then t
  else
    let cap := s.fld (Reg.PRT_TXCTL n) 16 16
    let t := if cap < quanta then t.portSticky n 3 else t
    let bits := min quanta cap * 512
    (t.setPort n { t.port n with pauseBits := bits }).setFlag (Reg.PRT_STATUS n) 4 (decide (bits ≠ 0))

/-- A MAC Control frame is consumed and counted; only PAUSE acts (R87). -/
def State.macControl (s : State) (n : Nat) (bs : List Byte) : State :=
  let t := s.bump (Reg.PRT_CNT_PAUSE n) 0 32
  if be16 bs 14 = 0x0001 then t.pauseRx n (be16 bs 16) else t

/-- A calibration frame that comes back: ingress minus egress is summed, and the mean of 1,024 is written (R79). -/
def State.loopCalRx (s : State) (n phase : Nat) : State :=
  let p := s.port n
  match p.calSent with
  | none => s
  | some e =>
    if s.flag (Reg.PRT_CAL_CTRL n) 2 then s.setPort n { p with calSent := none }
    else
      let d : Int := (ct96ToFrac (s.ingressStamp n phase) : Int) - ct96ToFrac e
      let sum := p.loopSum + d
      let t := s.setPort n { p with calSent := none, loopSum := sum, loopCount := p.loopCount + 1 }
      if p.loopCount + 1 < 1024 then t
      else (t.wr (Reg.PRT_CAL_LOOP n) (BitVec.ofInt 32 (openDiv sum 1024))).setFlag (Reg.PRT_CAL_CTRL n) 2 true

/-- A frame of the calibration kind that comes back to its own port. -/
def State.isCalFrame (s : State) (n : Nat) (bs : List Byte) : Bool :=
  s.flag (Reg.PRT_CAL_CTRL n) 1 && be16 bs 12 == 0x88B5 && beField bs 0 6 == s.portMac n

/-- A received frame that the MAC passes, with its ingress stamp record, in the packet buffer (R89). -/
def State.receive (s : State) (n : Nat) (bs : List Byte) (phase : Nat) : State :=
  let f : Frame := { bytes := bs, port := n, stamp := s.takeStamp (replicaPort n) (s.ingressStamp n phase), info := FrameInfo.none,
                     mark := Mark.none, egress := n, origin := .array, queued := 0, poison := [], job := none }
  s.setPort n { s.port n with received := (s.port n).received ++ [f] }

/-- A received frame dropped and counted. -/
def State.dropRx (s : State) (n : Nat) : State := s.bump (Reg.PRT_CNT_RXDROP n) 0 32

/-- FRAME_RX (R87, R89): the frame's bytes from the destination MAC to the last before the FCS, the number of corrected
codewords, whether FEC and FCS were good, and the measured phase of RXSP. Every frame is stamped there (R70, R72). -/
def execFrameRx (n : Fin 16) (bs : List Byte) (corrected : Nat) (fecOk fcsOk : Bool) (phase : Nat) (s : State) :
    Host.Outcome State Fault Refusal :=
  let p := n.val
  if s.flag (Reg.PRT_STATUS p) 0 = false then .next s
  else
    let t := ((s.countStamp p).bump (Reg.PRT_CNT_FECCORR p) 0 32 corrected).bump (Reg.PRT_CNT_RX p) 0 32
    .next (
      if fecOk = false then (t.dropRx p).portSticky p 1
      else if fcsOk = false ∨ bs.length + 4 < 64 ∨ 9216 < bs.length + 4 then t.dropRx p
      else if be16 bs 12 = 0x8808 then t.macControl p bs
      else if t.isCalFrame p bs then t.loopCalRx p phase
      else if t.acceptsMac p bs = false then t.dropRx p
      else if t.cellsFree (frameCells bs.length) = false then (t.dropRx p).portSticky p 7
      else t.receive p bs phase)

/-- PAUSE_END (R87): the honoured pause has run out. -/
def execPauseEnd (n : Fin 16) (s : State) : Host.Outcome State Fault Refusal :=
  .next (if s.flag (Reg.PRT_STATUS n.val) 4 then
      (s.setPort n.val { s.port n.val with pauseBits := 0 }).setFlag (Reg.PRT_STATUS n.val) 4 false
    else s)

/-! ### Egress (R81 to R86) -/

/-- A frame that leaves port n's egress queue unsent, counted. -/
def State.dropTx (s : State) (n : Nat) : State := s.bump (Reg.PRT_CNT_TXDROP n) 0 32

/-- A frame's bytes past the balls. -/
def State.send (s : State) (n : Nat) (bs : List Byte) : State :=
  { s with net := { s.net with wire := s.net.wire ++ [(n, bs)] } }

/-- The capture record of a frame: queued, or lost at 512 (R84). -/
def State.capture (s : State) (n : Nat) (f : Frame) (t : Stamp) : State :=
  if f.mark.capture = false then s
  else if (s.port n).captures.length < 512 then
    s.setPort n { s.port n with captures := (s.port n).captures ++ [⟨f.mark.tag, t⟩] }
  else (s.bump (Reg.PRT_CNT_CAPLOST n) 0 32).portSticky n 5

/-- The gate discards this frame at TXSP (R85). -/
def State.gateBlocks (s : State) (n : Nat) (f : Frame) : Bool :=
  !s.gateOpen n && (f.origin == .array || s.flag (Reg.PRT_CTRL n) 6)

/-- A frame at the transmit commit point (R81 to R85). -/
def State.txCommit (s : State) (n : Nat) (f : Frame) (phase : Nat) : State :=
  if s.gateBlocks n f then (s.dropTx n).frameEnded f 1
  else if f.poison ≠ [] then (s.packetError.dropTx n).frameEnded f 9
  else if f.mark.enabled && markInvalid f.mark f.bytes.length then ((s.dropTx n).portSticky n 4).frameEnded f 3
  else
    let e := s.egressStamp n phase
    let t := s.countStamp n
    let out := if f.mark.enabled then adjustChecksum f.mark f.bytes (insertStamp s.cal.utc f.mark e f.bytes)
      else f.bytes
    let x := s.takeStamp (replicaPort n) e
    (((t.capture n f x).bump (Reg.PRT_CNT_TX n) 0 32).send n out).frameEnded f 0 x

/-- The time a frame has waited, in units of 2^-16 ns. -/
def State.waited (s : State) (f : Frame) : Int := (ct96ToFrac s.now : Int) - ct96ToFrac f.queued

/-- A frame has waited in port n's egress queue for longer than TXAGE (R86). -/
def State.aged (s : State) (n : Nat) (f : Frame) : Bool :=
  decide (((s.fld (Reg.PRT_TXCTL n) 0 10 * 1000 * 2 ^ 16 : Nat) : Int) < s.waited f)

/-- A frame discarded for its age (R86). -/
def State.ageDrop (s : State) (n : Nat) (f : Frame) : State := (s.dropTx n).frameEnded f 2

/-- FRAME_TX_COMMIT (R81): the oldest frame of a port's egress queue passes TXSP, unless a pause is running or the
link is down; one that has waited longer than TXAGE is discarded instead (R86). -/
def execFrameTxCommit (n : Fin 16) (phase : Nat) (s : State) : Host.Outcome State Fault Refusal :=
  let p := n.val
  match (s.port p).egress with
  | [] => .next s
  | f :: rest =>
    if s.xqRuns (0x10 + p) = false ∨ s.flag (Reg.PRT_STATUS p) 4 ∨ s.flag (Reg.PRT_STATUS p) 0 = false ∨ s.flag (Reg.PRT_CAL_CTRL p) 0 then .next s
    else
      let t := s.setPort p { s.port p with egress := rest }
      .next (if s.aged p f then t.ageDrop p f else t.txCommit p f phase)

/-- TXAGE_EXPIRE (R86): the oldest frame of the egress queue has waited longer than TXAGE. -/
def execTxageExpire (n : Fin 16) (s : State) : Host.Outcome State Fault Refusal :=
  let p := n.val
  match (s.port p).egress with
  | [] => .next s
  | f :: rest =>
    .next (if s.aged p f then (s.setPort p { s.port p with egress := rest }).ageDrop p f else s)

/-- A frame put into the egress queue of its port. -/
def State.enqueueTx (s : State) (f : Frame) : State :=
  let n := f.egress
  s.setPort n { s.port n with egress := (s.port n).egress ++ [{ f with queued := s.now }] }

/-! ### Port calibration (R78 to R80) -/

/-- A write of PRT_CAL_CTRL (R80): a set of CALPAT or LOOPCAL needs STAGED, MEASURE or SAFE and the other bit 0. Under
CALPAT the port has no link signalling, so its link goes down (R78). -/
def State.writeCalPort (s : State) (n : Nat) (v : Word) : State :=
  let mode := s.mode = modeStaged ∨ s.mode = modeMeasure ∨ s.mode = modeSafe
  let clash := (bitAt v 0 ∧ (bitAt v 1 ∨ s.flag (Reg.PRT_CAL_CTRL n) 1))
    ∨ (bitAt v 1 ∧ s.flag (Reg.PRT_CAL_CTRL n) 0)
  if (bitAt v 0 ∨ bitAt v 1) ∧ (¬ mode ∨ clash) then s.portRefused n true
  else
    let t := (s.plainWrite (Reg.PRT_CAL_CTRL n) v).portRefused n false
    if bitAt v 0 then t.linkDown n
    else if bitAt v 1 then
      (t.setFlag (Reg.PRT_CAL_CTRL n) 2 false).setPort n { t.port n with calSent := none, loopSum := 0, loopCount := 0 }
    else t

/-- CAL_CTRL_WRITE (R80): a write of PRT_CAL_CTRL. -/
def execCalCtrlWrite (ag : Agent) (n : Fin 16) (v : Word) (s : State) : Host.Outcome State Fault Refusal :=
  .next (s.writeAccess ag (Reg.PRT_CAL_CTRL n.val) v fun t => t.writeCalPort n.val v)

/-- CALPAT_EDGE (R78): a rising edge of the pattern is stamped as an egress stamp and counted. -/
def execCalpatEdge (n : Fin 16) (phase : Nat) (s : State) : Host.Outcome State Fault Refusal :=
  let p := n.val
  .next (if s.flag (Reg.PRT_CAL_CTRL p) 0 ∧ s.portEnabled p then
      let t := s.countStamp p
      (t.setPort p { t.port p with calTx := s.egressStamp p phase }).advance (Reg.PRT_CAL_CTRL p) 16 16
    else s)

/-- The calibration frame of R79: 60 bytes before the FCS, to the port's own address, EtherType 0x88B5. -/
def State.calFrame (s : State) (n : Nat) : List Byte :=
  beBytes 6 (s.portMac n) ++ beBytes 6 (s.portMac n) ++ beBytes 2 0x88B5 ++ List.replicate 46 0

/-- LOOPCAL_FRAME_TX (R79): one calibration frame, unless a pause is running (R87); its egress stamp is held until it
returns or the next one, 1 ms later, finds it lost. -/
def execLoopcalFrameTx (n : Fin 16) (phase : Nat) (s : State) : Host.Outcome State Fault Refusal :=
  let p := n.val
  .next (if s.flag (Reg.PRT_CAL_CTRL p) 1 ∧ s.flag (Reg.PRT_STATUS p) 0 ∧ s.flag (Reg.PRT_STATUS p) 4 = false then
      let t := s.countStamp p
      ((t.setPort p { t.port p with calSent := some (s.egressStamp p phase) }).bump
        (Reg.PRT_CNT_TX p) 0 32).send p (s.calFrame p)
    else s)

/-- A read of PRT_CAL_TX_Ww: W0 latches all three words of the last edge (R78). -/
def State.readCalTx (s : State) (n w : Nat) : Word × State :=
  let t := if w = 0 then s.wr96 (Reg.PRT_CAL_TX_W0 n) (s.port n).calTx else s
  (t.rd (Reg.PRT_CAL_TX_W0 n + 4 * w), t)

/-- CAL_TX_READ (R78). -/
def execCalTxRead (ag : Agent) (n : Fin 16) (w : Fin 3) (s : State) : Host.Outcome State Fault Refusal :=
  .next (s.readAccess ag (Reg.PRT_CAL_TX_W0 n.val + 4 * w.val) fun t => t.readCalTx n.val w.val)

/-! ### The registers of the block -/

/-- A write of PRT_CTRL is refused: a reserved PAUSE_MODE, EN = 1 without a ready quad, or a change of FEC25 or CR
while EN = 1. -/
def State.portCtrlBad (s : State) (n : Nat) (v : Word) : Bool :=
  let old := s.rd (Reg.PRT_CTRL n)
  decide (1 < bitsAt v 4 2) || (bitAt v 0 && !s.flag (Reg.PRT_QUAD (n / 4)) 8)
    || (bitAt old 0 && decide (bitsAt v 2 2 ≠ bitsAt old 2 2))

/-- A trim within 100 ns either way (R76). -/
def trimOk (v : Word) : Bool := decide (-6553600 ≤ v.toInt) && decide (v.toInt ≤ 6553600)

/-- A write to a register of port block n, at offset o of the block, that completes normally; a port that is disabled loses
its link. -/
def State.portWrite (s : State) (off : Nat) (v : Word) : State :=
  let n := (off - 0x700000) / 0x10000
  let o := (off - 0x700000) % 0x10000
  let bad := (o == 0x04 && s.portCtrlBad n v)
    || (o == 0x1C && (bitsAt v 0 10 == 0 || decide (1000 < bitsAt v 0 10)))
    || (decide (0x40 ≤ o) && decide (o < 0x68) && !trimOk v)
  if o = 0 then s.writeQuad (n / 4) v
  else if o = 0x28 then s.writeCalPort n v
  else if bad then s.portRefused n true
  else
    let t := (s.plainWrite off v).portRefused n false
    if o = 0x04 ∧ bitAt v 0 = false then t.linkDown n else t

/-- A read of a register of the port blocks that completes normally; GATE shows the gate as it stands. -/
def State.portRead (s : State) (off : Nat) : Word × State :=
  let n := (off - 0x700000) / 0x10000
  let o := (off - 0x700000) % 0x10000
  if o = 0x30 then s.readCalTx n 0
  else if o = 0x08 then (putBit (s.rd off) 3 (s.gateOpen n), s)
  else s.plainRead off

end Sys2Proof.Machine
end

