-- ==== Sys2Proof/Machine/Array.lean ====
section
/-!
DEFINITION. The shared operations of the responder array (chapter 05): bank headers, tiles and their drains, admission,
the life of contexts, kills, and the switch of banks. The commands of the chapter are in Geyser.lean.
-/
namespace Sys2Proof.Machine

/-! ### Tiles and contexts -/

/-- The physical tile behind a logical tile (R132). -/
def State.phys (s : State) (l : Nat) : Nat := s.fld (Reg.GYS_MAP l) 0 7

/-- The logical tile that a physical tile serves. -/
def State.logical (s : State) (p : Nat) : Option Nat := (List.range 64).find? fun l => s.phys l == p

/-- The cluster of logical tile l (R132). -/
abbrev clusterOf (l : Nat) : Nat := l / 8

/-- The tiles of a cluster run: its domain is not off, gated or in reset. -/
def State.clusterRuns (s : State) (k : Nat) : Bool := s.pdUp (PD_ARRAY k)

/-- A cluster whose domain is on and not asked to power down (R92, R423). -/
def State.clusterPowered (s : State) (k : Nat) : Bool := s.pd (PD_ARRAY k) == pdOn || s.pd (PD_ARRAY k) == pdGated

/-- A cluster whose tiles may hold contexts: powered, also while it is asked to power down. -/
def State.clusterLive (s : State) (k : Nat) : Bool := s.clusterPowered k || s.pd (PD_ARRAY k) == pdRequested

/-- GYS_MAPl.DRAINING. -/
def State.draining (s : State) (l : Nat) : Bool := s.flag (Reg.GYS_MAP l) 30

/-- A tile that dispatch may select (R92, R133). -/
def State.tileAvailable (s : State) (l : Nat) : Bool :=
  decide (l < 64) && s.clusterPowered (clusterOf l) && !s.draining l

/-- Only the host keeps a draining tile out of dispatch, or the init context that ends such a drain (R93). -/
def State.hostDrained (s : State) (l : Nat) : Bool := !s.coreFaulted l && !s.gys.returning.contains l

/-- The conditions under which a capture record is admitted to its tile (R93): a drain of the host alone, or the init
context that ends one, keeps the tile open to it. -/
def State.takesCapture (s : State) (l : Nat) : Bool :=
  s.clusterPowered (clusterOf l) && (!s.draining l || s.hostDrained l)

/-- A context of a physical tile. -/
def State.ctx (s : State) (p c : Nat) : Context := sparseGet (fun _ => Context.reset) s.gys.contexts (48 * p + c)

/-- A context given a value. -/
def State.setCtx (s : State) (p c : Nat) (x : Context) : State :=
  { s with gys := { s.gys with contexts := sparseSet (fun _ => Context.reset) s.gys.contexts (48 * p + c) x } }

/-- A context that is not FREE. -/
def Context.used (x : Context) : Bool := x.th.status != .free

/-- A context that runs an init context (R155). -/
def Context.isInit (x : Context) : Bool :=
  match x.kind with
  | .init _ => true
  | _ => false

/-- A context subject to the stale rules: neither an init nor a frameless context (R142). -/
def Context.ages (x : Context) : Bool := x.frame.isSome && !x.isInit

/-- The contexts of a physical tile that are not FREE. -/
def State.usedContexts (s : State) (p : Nat) : List Context :=
  ((List.range 48).map (s.ctx p)).filter Context.used

/-- The contexts of a class in use on a tile; an init context is exempt from the quotas (R138, R155). -/
def State.inuse (s : State) (p k : Nat) : Nat :=
  ((s.usedContexts p).filter fun x => x.pclass == k && !x.isInit).length

/-- The FREE contexts of a tile. -/
def State.freeContexts (s : State) (p : Nat) : Nat := 48 - (s.usedContexts p).length

/-! The quota fields of GYS_CLSQ. -/
def State.maxOf (s : State) (k : Nat) : Nat := s.fld (Reg.GYS_CLSQ k) 24 6
def State.resvOf (s : State) (k : Nat) : Nat := s.fld (Reg.GYS_CLSQ k) 16 6
def State.depthOf (s : State) (k : Nat) : Nat := s.fld (Reg.GYS_CLSQ k) 0 11

/-- GYS_MAPl.OVQ: the classes that use more contexts than MAX on a tile (R140). -/
def State.overQuota (s : State) (l : Nat) : Nat :=
  (List.range 4).foldl (fun m k => m + (if s.maxOf k < s.inuse (s.phys l) k then 2 ^ k else 0)) 0

/-- Whether class k may start another context on a tile (R138). -/
def State.mayStart (s : State) (p k : Nat) : Bool :=
  decide (s.inuse p k < s.maxOf k) &&
    (decide (s.inuse p k < s.resvOf k) ||
      decide ((((List.range 4).filter (· != k)).map fun j => s.resvOf j - s.inuse p j).sum < s.freeContexts p))

/-- GYS_STICKY bits raise source 128 + b when they set while enabled (R160). -/
def State.gysSticky (s : State) (b : Nat) : State := s.sticky Reg.GYS_STICKY Reg.GYS_STICKY_EN b (128 + b)

/-! The bits of GYS_STICKY and the sources of R160 that follow their order from bit 0 = 128, bit 2 = 130. -/
abbrev stFault : Nat := 0
abbrev stLockOrphan : Nat := 1
abbrev stStale : Nat := 2
abbrev stAdmitDrop : Nat := 3
abbrev stOverQuota : Nat := 4
abbrev stTimerSkip : Nat := 5
abbrev stTileDraining : Nat := 6
abbrev stTileRetired : Nat := 7
abbrev stNoSpare : Nat := 8
abbrev stBankErr : Nat := 9
abbrev stParam : Nat := 10
abbrev stNoPort : Nat := 11

/-- A refused write of a GYS register. -/
def State.gysParam (s : State) : State := s.gysSticky stParam

/-! ### Bank headers -/

/-- Word i of a bank's header (R153). -/
def State.hdr (s : State) (b i : Nat) : Word := s.rd (if b = 0 then Reg.GYS_HDRA i else Reg.GYS_HDRB i)

/-- The LENGTH and INIT_ENTRY fields. -/
def State.bankLength (s : State) (b : Nat) : Nat := (s.hdr b 2).toNat
def State.initEntry (s : State) (b : Nat) : Nat := (s.hdr b 3).toNat

/-- The bounds of LMAP in bytes: RO_TOP, PRIV_BASE and PRIV_SIZE (R153). -/
def State.roTop (s : State) (b : Nat) : Nat := bitsAt (s.hdr b 6) 0 8 * 4096
def State.privBase (s : State) (b : Nat) : Nat := bitsAt (s.hdr b 6) 8 8 * 4096
def State.privSize (s : State) (b : Nat) : Nat := bitsAt (s.hdr b 6) 16 12 * 64

/-- The two words of a table region. -/
def State.treg0 (s : State) (b i : Nat) : Word := s.hdr b (16 + 2 * i)
def State.treg1 (s : State) (b i : Nat) : Word := s.hdr b (17 + 2 * i)

/-- A table region within the pool, its unused bits zero (R153). -/
def State.tregOk (s : State) (b i : Nat) : Bool :=
  bitsAt (s.treg0 b i) 14 8 == 0 && bitsAt (s.treg1 b i) 14 18 == 0 &&
    decide (bitsAt (s.treg0 b i) 0 14 + bitsAt (s.treg1 b i) 0 14 < 12288)

/-- The error code of the first header field that fails R153, in the order of GYS_BANK_STAT.ERR. -/
def State.headerError (s : State) (b : Nat) : Option Nat :=
  if s.hdr b 0 ≠ 0x574C5A31 then some 1
  else if s.hdr b 1 ≠ 1 then some 2
  else if s.bankLength b = 0 ∨ 524288 < s.bankLength b then some 3
  else if s.bankLength b ≤ s.initEntry b then some 4
  else if bitsAt (s.hdr b 6) 28 4 ≠ 0 ∨ s.privBase b < s.roTop b ∨ 524288 < s.privBase b + 48 * s.privSize b then some 5
  else if (List.range 16).any fun i => !s.tregOk b i then some 6
  else none

/-- The region of a bank that holds a T address: the lowest-numbered enabled one (R145). -/
def State.regionOf (s : State) (b a : Nat) : Option Nat :=
  (List.range 16).find? fun i =>
    bitAt (s.treg0 b i) 31 && decide (bitsAt (s.treg0 b i) 0 14 ≤ a / 4096) &&
      decide (a / 4096 ≤ bitsAt (s.treg0 b i) 0 14 + bitsAt (s.treg1 b i) 0 14)

/-- The active bank; 3 while none is (GYS_STATUS.BANK). -/
def State.activeBank (s : State) : Nat := s.fld Reg.GYS_STATUS 0 2

/-! ### Old banks -/

/-- Whether any request or context bound to a bank remains (R158). -/
def State.bankUsed (s : State) (b : Nat) : Bool :=
  s.gys.queued.any (fun r => r.bank == b) || s.net.toArray.any (fun r => r.bank == b) ||
    s.gys.contexts.any (fun e => e.2.used && e.2.bank == b)

/-- OLD_BUSY clears and source 141 is raised when nothing of the old bank remains (R158). -/
def State.checkOld (s : State) : State :=
  match s.gys.oldBank with
  | none => s
  | some b =>
    if s.bankUsed b then s
    else State.raise { s.setFlag Reg.GYS_STATUS 3 false with gys := { s.gys with oldBank := none } } 141

/-! ### Admission -/

/-- A request dropped at admission and counted (R138). -/
def State.admitDrop (s : State) (k : Nat) : State := ((s.bump (Reg.GYS_ADMDROP k) 0 32).gysSticky stAdmitDrop).checkOld

/-- Requests queued on a tile, and those of one class. -/
def State.queuedOn (s : State) (l : Nat) : List Request := s.gys.queued.filter (·.tile == l)

/-- A request that reaches its tile (R138); one that was dispatched while no bank was active is bound to none (R158, log
entry 98). -/
def State.enqueueRequest (s : State) (r : Request) : State :=
  let q := s.queuedOn r.tile
  if s.flag Reg.GYS_CTRL 0 = false ∨ r.bank = 3 then s.admitDrop r.pclass
  else if s.depthOf r.pclass ≤ (q.filter (·.pclass == r.pclass)).length ∨ 1024 ≤ q.length then s.admitDrop r.pclass
  else { s with gys := { s.gys with queued := s.gys.queued ++ [r] } }

/-- The next available tile of a cluster after tile l, in rising order and wrapping (R133). -/
def State.nextTile (s : State) (l : Nat) : Option Nat :=
  ((List.range 8).map fun i => clusterOf l * 8 + (l + 1 + i) % 8).find? s.tileAvailable

/-- Frames moved from a draining tile, one after another, each to the available tile after the one before (R133). -/
def State.moveFrames (s : State) : Nat → List Request → State
  | _, [] => s
  | l, r :: rs =>
    match s.nextTile l with
    | none => (s.admitDrop r.pclass).moveFrames l rs
    | some m => (s.enqueueRequest { r with tile := m }).moveFrames m rs

/-- Requests dropped at admission. -/
def State.dropRequests (s : State) : List Request → State
  | [] => s
  | r :: rs => (s.admitDrop r.pclass).dropRequests rs

/-- A request that travels with a received frame. -/
def Request.isFrame (r : Request) : Bool := r.kind == .frame

/-- A tile taken out of dispatch (R133): its queued frames move; its other requests stay on a tile that the host drains
and are dropped on any other (log entry 11). -/
def State.drainTile (s : State) (l : Nat) : State :=
  let t := s.setFlag (Reg.GYS_MAP l) 30 true
  let mine := t.queuedOn l
  let rest := t.gys.queued.filter (·.tile != l)
  let keep := if t.coreFaulted l then [] else mine.filter fun r => !r.isFrame
  let lost := if t.coreFaulted l then mine.filter fun r => !r.isFrame else []
  let u := { t with gys := { t.gys with queued := rest ++ keep } }
  ((u.moveFrames l (mine.filter Request.isFrame)).dropRequests lost).checkOld

/-! ### Init contexts and the return to dispatch -/

/-- An init context owed to a tile; with no active bank there is none to run (R155). -/
def State.oweInit (s : State) (l b : Nat) (afterOld : Bool) : State :=
  { s with gys := { s.gys with
      initOwed := s.gys.initOwed.filter (·.1 != l) ++ [(l, b, afterOld)] } }

/-- A tile that no cause of R133 keeps out of dispatch. -/
def State.mayReturn (s : State) (l : Nat) : Bool :=
  !s.flag (Reg.GYS_MAP l) 31 && !s.coreFaulted l

/-- A tile whose init context has ended, or that needs none: a failed one is forgotten (R155), DRAINING clears where no
cause remains, and source 143 is raised for a tile back from a core fault (R149). -/
def State.returnTile (s : State) (l : Nat) : State :=
  let s := { s with gys := { s.gys with initFailed := s.gys.initFailed.filter (· != l) } }
  if s.mayReturn l then
    let t := s.setFlag (Reg.GYS_MAP l) 30 false
    if s.gys.returning.contains l then
      State.raise { t with gys := { t.gys with returning := t.gys.returning.filter (· != l) } } 143
    else t
  else s

/-- The active bank's init context owed to a tile that returns, after its old contexts where it was so already (R158); with no active bank it returns at once, and a tile retired
with no spare never does (R149). -/
def State.initAndReturn (s : State) (l : Nat) : State :=
  if s.flag (Reg.GYS_MAP l) 28 then s
  else if s.activeBank = 3 then s.returnTile l
  else s.oweInit l s.activeBank (s.gys.initOwed.any fun e => e.1 == l && e.2.2)

/-! ### The switch instant -/

/-- The tiles on which the new bank's init context runs: powered and not retired. -/
def State.initTiles (s : State) : List Nat :=
  (List.range 64).filter fun l => s.clusterLive (clusterOf l) && !s.flag (Reg.GYS_MAP l) 28

/-- The switch instant (R158): the new bank becomes active and its init contexts are owed. -/
def State.switchTo (s : State) (b : Nat) (quiesce : Bool) : State :=
  let old := s.activeBank
  let t := (s.setFld Reg.GYS_STATUS 0 2 b).setFlag Reg.GYS_STATUS 2 false
  let u := State.raise { t with gys := { t.gys with
    pendSwitch := none
    oldBank := if old = 3 then none else some old
    initOwed := s.initTiles.map fun l => (l, b, quiesce) } } 140
  (if old = 3 then u else u.setFlag Reg.GYS_STATUS 3 true).checkOld

/-- A dispatch decision or a timer firing carries a switch that is pending (R158). -/
def State.carrySwitch (s : State) : State :=
  match s.gys.pendSwitch with
  | none => s
  | some (b, q) => s.switchTo b q

/-! ### Kills -/

/-- The fault record of R146, latched when none is. -/
def State.latchFault (s : State) (p c code aux : Nat) (addr : Nat) : State :=
  let x := s.ctx p c
  if s.flag Reg.GYS_FAULT0 31 then s
  else
    ((s.wr Reg.GYS_FAULT0 (BitVec.ofNat 32
        (2 ^ 31 + p * 2 ^ 24 + c * 2 ^ 18 + x.pclass % 4 * 2 ^ 16 + code % 256 * 2 ^ 8 + aux % 256))).wr Reg.GYS_FAULT1
      (BitVec.ofNat 32 (x.bank % 2 * 2 ^ 19 + x.th.pc % 2 ^ 19))).wr Reg.GYS_FAULT2 (BitVec.ofNat 32 addr)

/-- A context whose end the given kill reason records; its frame is freed when it becomes FREE (R136, R147). -/
def Context.killed (x : Context) (code : Nat) : Context :=
  { x with th := { x.th with status := .ending (some code) } }

/-- Kills of R146 counted and recorded: one trouble-log entry for the first kill after each clear of STICKY.FAULT. -/
def State.recordKill (s : State) (p c code aux addr : Nat) : State :=
  let t := (s.bump (Reg.GYS_KILL code) 0 32).latchFault p c code aux addr
  let u := if t.flag Reg.GYS_STICKY stFault then t else t.log 128
  u.gysSticky stFault

/-- An init context killed: the tile stays out of dispatch (R155). -/
def State.initKilled (s : State) (l : Nat) : State :=
  let t := { s with gys := { s.gys with initFailed := s.gys.initFailed.filter (· != l) ++ [l] } }
  (t.gysSticky stBankErr).drainTile l

/-- A context killed with a reason of R100 or 0x11 (R146, R149); an init context among them fails (R155). -/
def State.kill (s : State) (p c code aux addr : Nat) : State :=
  let x := s.ctx p c
  let t := (s.recordKill p c code aux addr).setCtx p c (x.killed code)
  if x.isInit then t.initKilled x.tile else t

/-- A context ended stale (R143). -/
def State.staleEnd (s : State) (p c : Nat) : State :=
  let x := s.ctx p c
  (((((s.bump (Reg.GYS_STALE x.pclass) 0 32).bump (Reg.GYS_KILL 0x10) 0 32).gysSticky stStale).latchFault p c 0x10
    x.locks.length 0)).setCtx p c (x.killed 0x10)

/-! ### Stale checks -/

/-- The age of a request or context, in units of 2^-16 ns of the cluster replica (R142). -/
def State.ageOf (s : State) (k : Nat) (t0 : CT96) : Int :=
  (ct96ToFrac (s.stamp (replicaCluster k) 0) : Int) - ct96ToFrac t0

/-- Older than the threshold of its class. -/
def State.stale (s : State) (k pclass : Nat) (t0 : CT96) : Bool :=
  decide (((s.fld (Reg.GYS_CLSL pclass) 0 8 * 1000 * 2 ^ 16 : Nat) : Int) < s.ageOf k t0)

/-- A stale request dropped and counted (R142). -/
def State.staleDrop (s : State) (pclass : Nat) : State :=
  ((s.bump (Reg.GYS_STALE pclass) 0 32).gysSticky stStale).checkOld

/-- A queued request that has grown stale; those without a frame are exempt (R142). -/
def State.staleRequest (s : State) (r : Request) : Bool := r.frame.isSome && s.stale (clusterOf r.tile) r.pclass r.stamp.time

end Sys2Proof.Machine
end

