-- ==== Sys2Proof/Machine/Threads.lean ====
section
/-!
DEFINITION. What executes Walzor: the contexts of the tiles and the service cores, their threads, how a fault ends or
redirects one (R100, R130, R146), and the interrupts of a service core.
-/
namespace Sys2Proof.Machine

/-- Service core k. -/
def State.core (s : State) (k : Nat) : CoreState := sparseGet (fun _ => CoreState.reset) s.cores.cores k

/-- A service core given a value. -/
def State.setCore (s : State) (k : Nat) (c : CoreState) : State :=
  { s with cores := { s.cores with cores := sparseSet (fun _ => CoreState.reset) s.cores.cores k c } }

/-- The thread of a context or core. -/
def State.th (s : State) : Ctx → Thread
  | .tile p c => (s.ctx p.val c.val).th
  | .core k => (s.core k.val).th

/-- A thread given a value. -/
def State.setTh (s : State) (x : Ctx) (t : Thread) : State :=
  match x with
  | .tile p c => s.setCtx p.val c.val { s.ctx p.val c.val with th := t }
  | .core k => s.setCore k.val { s.core k.val with th := t }

/-- The tile context behind an executor; a FREE one for a core. -/
def State.tileCtx (s : State) : Ctx → Context
  | .tile p c => s.ctx p.val c.val
  | .core _ => Context.reset

/-- A tile context. -/
def isTile : Ctx → Bool
  | .tile _ _ => true
  | .core _ => false

/-- A general register: g0 reads zero (R94). -/
def Thread.reg (t : Thread) (r : Nat) : Word64 := if r = 0 then 0 else sparseGet (fun _ => 0) t.g r

/-- A general register written: writes to g0 are discarded (R94). -/
def Thread.setReg (t : Thread) (r : Nat) (v : Word64) : Thread :=
  if r = 0 then t else { t with g := sparseSet (fun _ => 0) t.g r v }

/-- A time register (R94). -/
def Thread.time (t : Thread) (r : Nat) : CT96 := sparseGet (fun _ => 0) t.t r

/-- A time register written. -/
def Thread.setTime (t : Thread) (r : Nat) (v : CT96) : Thread := { t with t := sparseSet (fun _ => 0) t.t r v }

/-! The same of an executor. -/
def State.g (s : State) (x : Ctx) (r : Nat) : Word64 := (s.th x).reg r
def State.setG (s : State) (x : Ctx) (r : Nat) (v : Word64) : State := s.setTh x ((s.th x).setReg r v)
def State.t (s : State) (x : Ctx) (r : Nat) : CT96 := (s.th x).time r
def State.setT (s : State) (x : Ctx) (r : Nat) (v : CT96) : State := s.setTh x ((s.th x).setTime r v)

/-! The fault codes of R100 and the kill reasons of R161. -/
abbrev fltIllegal : Nat := 0x01
abbrev fltPriv : Nat := 0x02
abbrev fltLRange : Nat := 0x03
abbrev fltAlign : Nat := 0x04
abbrev fltPRange : Nat := 0x05
abbrev fltTProt : Nat := 0x06
abbrev fltTLock : Nat := 0x07
abbrev fltTFmt : Nat := 0x08
abbrev fltArg : Nat := 0x09
abbrev fltIRange : Nat := 0x0A
abbrev fltBudget : Nat := 0x0B
abbrev fltEcc : Nat := 0x0C
abbrev fltBrk : Nat := 0x0D

/-- The faults whose address GYS_FAULT2 records (R161). -/
def tileFaultAddr (code addr : Nat) : Nat :=
  if [fltLRange, fltAlign, fltPRange, fltTProt, fltEcc].contains code then addr else 0

/-- A fault on a service core (R130): the entry of the handler, or the stop of a core that is in one. -/
def State.coreTrap (s : State) (k code imm addr : Nat) : State :=
  let c := s.core k
  if c.inh then
    (s.setCore k { c with stopped := true, th := { c.th with status := .free } }).setFlag Reg.REL_WDG_STAT (16 + k) true
  else
    s.setCore k { c with
      epc := c.th.pc
      cause := code + imm * 2 ^ 8
      faddr := if [fltLRange, fltAlign, fltTProt, fltEcc].contains code then BitVec.ofNat 64 addr else c.faddr
      pie := c.ie, ie := false, inh := true
      th := { c.th with pc := c.vec, status := .ready, busLoad := none } }

/-- A fault of an executor, with the IMM6 of BRK and the faulting address. -/
def State.faultAt (s : State) (x : Ctx) (code imm addr : Nat) : State :=
  match x with
  | .tile p c =>
    s.kill p.val c.val code (if code = fltBrk then imm else (s.ctx p.val c.val).locks.length) (tileFaultAddr code addr)
  | .core k => s.coreTrap k.val code imm addr

/-- A core's fault waits while an earlier instruction of it has not completed (R100); what that instruction writes must not
fall into the handler. -/
def State.trapWaits (s : State) (x : Ctx) : Bool := !isTile x && (s.th x).op.isSome

/-- A core that executes: not in reset, not stopped, not in WAIT. -/
def CoreState.runs (c : CoreState) : Bool := !c.inReset && !c.stopped && c.depth.isNone

/-- Issue is halted on every tile while PLL_A relocks (R429). -/
def State.arrayHalted (s : State) : Bool :=
  match s.cpm.level with
  | some m => m.phase == 1
  | none => false

/-- An executor whose next instruction may issue (R134). -/
def State.mayIssue (s : State) (x : Ctx) : Bool :=
  (s.th x).status == .ready &&
    match x with
    | .tile p _ => !s.arrayHalted && s.clusterRuns (p.val / 9)
    | .core k => (s.core k.val).runs && s.pdUp PD_FABRIC

/-- A thread woken by a completion: WAITING ends unless a TWAIT, a core's read of a lock word or its access to a register is
still outstanding (R112, R121, R134). -/
def Thread.wake (t : Thread) : Thread :=
  match t.status, t.op with
  | .waiting, some ⟨.twait, _, _⟩ => t
  | .waiting, some ⟨.unlockRead _, _, _⟩ => t
  | .waiting, _ => if t.busLoad.isSome then t else { t with status := .ready }
  | .blocked .stores, _ => if t.stores.length < 4 then { t with status := .ready } else t
  | _, _ => t

/-- The newest READY context of its class (R137). -/
def State.makeNewest (s : State) (x : Ctx) : State :=
  match x with
  | .tile p c =>
    let t := s.setCtx p.val c.val { s.ctx p.val c.val with order := s.gys.order }
    { t with gys := { t.gys with order := s.gys.order + 1 } }
  | .core _ => s

/-- A state that a completion has led to: an executor that it made READY is the newest of its class (R134, R137). -/
def State.readied (s t : State) (x : Ctx) : State :=
  if (s.th x).status ≠ .ready ∧ (t.th x).status = .ready then t.makeNewest x else t

/-- An outstanding operation that sets RES (R102). -/
def LongKind.setsRes : LongKind → Bool
  | .cas _ _ _ => true
  | .find _ _ => true
  | .lock _ => true
  | .take _ _ => true
  | .job _ _ _ => true
  | _ => false

/-- The operation outstanding has completed: its register and RES are written unless the context is ending (R102, R147),
and later stores no longer count as behind it. -/
def Thread.complete (t : Thread) (v : Option Word64) (res : Option Bool) : Thread :=
  let dst := match t.op with
    | some o => o.dst
    | none => none
  let u := { t with op := none, stores := t.stores.map fun p => { p with late := false } }
  match t.status with
  | .ending _ => u
  | _ =>
    let w := match dst, v with
      | some r, some v => u.setReg r v
      | _, _ => u
    Thread.wake { w with res := res.getD w.res }

/-- An interrupt or a release of the power handshake reaches service core k (R130): it ends a WAIT, and with IE = 1 a
pending interrupt enters the handler. -/
def State.coreInterrupt (s : State) (k : Nat) : State :=
  let c := s.core k
  let woken := { c with depth := none }
  match c.ie, c.irqs with
  | true, v :: vs =>
    s.setCore k { woken with
      epc := c.th.pc, cause := 0xFF + v % 256 * 2 ^ 8, pie := true, ie := false, inh := true, irqs := vs,
      th := { c.th with pc := c.vec } }
  | _, _ => s.setCore k woken

end Sys2Proof.Machine
end

