-- ==== Sys2Proof/Machine/Operands.lean ====
section
/-!
DEFINITION. Walzor words (R98, R99): the fields of the six forms, the encoding of every instruction as a mask and a
value, and the fetch of the word at a program counter (R154).
-/
namespace Sys2Proof.Machine

/-! ### Fields -/
def fOp (w : Word) : Nat := bitsAt w 26 6
def fRd (w : Word) : Nat := bitsAt w 21 5
def fRa (w : Word) : Nat := bitsAt w 16 5
def fRb (w : Word) : Nat := bitsAt w 11 5
def fImm16 (w : Word) : Nat := bitsAt w 0 16
def fImm6 (w : Word) : Nat := bitsAt w 0 6

/-- Form C puts its two registers one field higher (R98). -/
def fCa (w : Word) : Nat := bitsAt w 21 5
def fCb (w : Word) : Nat := bitsAt w 16 5
def fOff13 (w : Word) : Int := signed 13 (bitsAt w 0 13)
def fOff21 (w : Word) : Int := signed 21 (bitsAt w 0 21)
def fOff14 (w : Word) : Int := signed 14 (bitsAt w 0 14)

/-- The access size in bytes of Form E (R98). -/
def fSize (w : Word) : Nat := 2 ^ bitsAt w 14 2

/-- IMM16 extended with its sign, and with zeros. -/
def sext16 (w : Word) : Word64 := BitVec.ofInt 64 (signed 16 (fImm16 w))
def zext16 (w : Word) : Word64 := BitVec.ofNat 64 (fImm16 w)

/-! ### Encodings -/

/-- The encoding of an instruction: the bits that are fixed, the IMM6 values it takes (none listed: every one), and what
executes it. -/
structure Enc where
  mask : Word
  value : Word
  imms : List Nat
  onTile : Bool
  onCore : Bool
  deriving DecidableEq, Repr

/-- A word of this encoding on a tile or on a core. -/
def Enc.fits (e : Enc) (tile : Bool) (w : Word) : Bool :=
  (if tile then e.onTile else e.onCore) && w &&& e.mask == e.value && (e.imms.isEmpty || e.imms.contains (fImm6 w))

/-- How an instruction of Form F uses a register field (R98). -/
inductive Use where
  /-- names a general register -/
  | g
  /-- names a time register: bits 4 and 3 zero -/
  | t
  /-- unused: zero -/
  | z
  deriving DecidableEq, Repr

/-- The bits of a register field that must be zero. -/
def Use.zeros : Use → Nat
  | .g => 0
  | .t => 0x18
  | .z => 0x1F

/-- Form A with FN; a unary operation has RB zero (R103). -/
def encA (fn : Nat) (unary : Bool := false) : Enc :=
  ⟨BitVec.ofNat 32 (0xFC0007FF + if unary then 0xF800 else 0), BitVec.ofNat 32 fn, [], true, true⟩

/-- Form B with the bits of RA and IMM16 that must be zero (R104). -/
def encB (op : Nat) (zeros : Nat := 0) : Enc :=
  ⟨BitVec.ofNat 32 (0xFC000000 + zeros), BitVec.ofNat 32 (op * 2 ^ 26), [], true, true⟩

/-- Form C with COND; a flag test has RB 0 to 3 (R105). -/
def encC (cond : Nat) (flag : Bool := false) : Enc :=
  ⟨BitVec.ofNat 32 (0xFC00E000 + if flag then 0x1C0000 else 0), BitVec.ofNat 32 (0x0C * 2 ^ 26 + cond * 2 ^ 13), [], true,
    true⟩

/-- Form D. -/
def encD (op : Nat) : Enc := ⟨0xFC000000, BitVec.ofNat 32 (op * 2 ^ 26), [], true, true⟩

/-- Form E on memory; P instructions run on tiles only (R106, R127). -/
def encE (op : Nat) (onCore : Bool := true) : Enc :=
  ⟨0xFC000000, BitVec.ofNat 32 (op * 2 ^ 26), [], true, onCore⟩

/-- Form E on a time register: SZ 0b11, RD 0 to 7 (R108). -/
def encET (op : Nat) : Enc := ⟨0xFF00C000, BitVec.ofNat 32 (op * 2 ^ 26 + 0xC000), [], true, true⟩

/-- Form F with SUB, the use of its register fields and of IMM6. -/
def encF (op sub : Nat) (rd ra rb : Use) (imms : List Nat) (onTile onCore : Bool) : Enc :=
  ⟨BitVec.ofNat 32 (0xFC0007C0 + rd.zeros * 2 ^ 21 + ra.zeros * 2 ^ 16 + rb.zeros * 2 ^ 11),
    BitVec.ofNat 32 (op * 2 ^ 26 + sub * 2 ^ 6), imms, onTile, onCore⟩

/-- IMM6 values 0 to n - 1. -/
abbrev below (n : Nat) : List Nat := List.range n

/-! Register arithmetic and logic (R103). -/
def encAdd := encA 0x001
def encSub := encA 0x002
def encAnd := encA 0x003
def encOr := encA 0x004
def encXor := encA 0x005
def encShl := encA 0x006
def encShr := encA 0x007
def encSar := encA 0x008
def encRol := encA 0x009
def encSlt := encA 0x00A
def encSltu := encA 0x00B
def encMinu := encA 0x00C
def encMaxu := encA 0x00D
def encMul := encA 0x00E
def encMulhu := encA 0x00F
def encClz := encA 0x010 true
def encPopc := encA 0x011 true
def encBswap := encA 0x012 true
def encExt := encA 0x013
def encCrc := encA 0x014

/-! Immediates (R104). -/
def encAddi := encB 0x01
def encAndi := encB 0x02
def encOri := encB 0x03
def encXori := encB 0x04
def encShli := encB 0x05 0xFFC0
def encShri := encB 0x06 0xFFC0
def encSari := encB 0x07 0xFFC0
def encMovi := encB 0x08 0x1F0000
def encMovk := encB 0x09 0x1C0000
def encSlti := encB 0x0A
def encSltiu := encB 0x0B

/-! Branches and jumps (R105). -/
def encBeq := encC 0
def encBne := encC 1
def encBlt := encC 2
def encBge := encC 3
def encBltu := encC 4
def encBgeu := encC 5
def encBfs := encC 6 true
def encBfc := encC 7 true
def encJal := encD 0x0D
def encJalr := encB 0x0E

/-! Loads and stores (R106, R108). -/
def encLdl := encE 0x10
def encLdls := encE 0x11
def encStl := encE 0x12
def encLdp := encE 0x13 false
def encLdps := encE 0x14 false
def encStp := encE 0x15 false
def encTldl := encET 0x16
def encTstl := encET 0x17

/-! Time (R109, R111). -/
def encTnow := encF 0x18 0x00 .t .z .z [0] true true
def encTingr := encF 0x18 0x01 .t .z .z [0] true false
def encTmov := encF 0x18 0x02 .t .t .z [0] true true
def encTadd := encF 0x18 0x03 .t .t .g [0] true true
def encTsub := encF 0x18 0x04 .g .t .t [0] true true
def encTset := encF 0x18 0x05 .t .g .g [0] true true
def encTgsec := encF 0x18 0x06 .g .t .z [0] true true
def encTgns := encF 0x18 0x07 .g .t .z [0] true true
def encTcf := encF 0x18 0x08 .g .t .z [0] true true
def encTntp := encF 0x18 0x09 .g .t .z [0] true true
def encTutc := encF 0x18 0x0A .g .t .z [0] true true
def encTwait := encF 0x18 0x0B .z .g .z [0] true true
def encTstp := encF 0x18 0x0C .z .g .t [0, 1, 3] true false

/-! Frames (R113) and checksums (R116). -/
def encFinfo := encF 0x19 0x00 .g .z .z (below 11) true false
def encFlen := encF 0x19 0x01 .z .g .z [0] true false
def encFmark := encF 0x19 0x02 .z .g .g [] true false
def encFunmark := encF 0x19 0x03 .z .z .z [0] true false
def encFport := encF 0x19 0x04 .z .g .z [0] true false
def encFswap := encF 0x19 0x05 .z .z .z (below 8) true false
def encFcpyp := encF 0x19 0x06 .z .g .g (below 32) true false
def encFcpyl := encF 0x19 0x07 .z .g .g (below 32) true false
def encCsum := encF 0x1A 0x00 .g .g .g [0] true false
def encCsadd := encF 0x1A 0x01 .g .g .g [0] true false
def encCsip := encF 0x1A 0x02 .z .z .z [0] true false
def encCsudp := encF 0x1A 0x03 .z .z .z (below 2) true false

/-! Table pool and tokens (R119, R122, R123). -/
def encTbld := encF 0x1B 0x00 .g .g .z [] true true
def encTbst := encF 0x1B 0x01 .z .g .g [] true true
def encTbcas := encF 0x1B 0x02 .g .g .g [0] true true
def encTbadd := encF 0x1B 0x03 .g .g .g [0] true true
def encTbfind := encF 0x1B 0x04 .g .g .g [0] true true
def encTblock := encF 0x1B 0x05 .g .g .z [0] true true
def encTbunlk := encF 0x1B 0x06 .z .g .z [0] true true
def encTbget := encF 0x1B 0x07 .z .g .g (below 32) true true
def encTbput := encF 0x1B 0x08 .z .g .g (below 32) true true
def encTkn := encF 0x1C 0x00 .g .g .g [0] true true
def encTkset := encF 0x1C 0x01 .z .g .g (below 2) true true

/-! Crypto (R124), disposal (R125), control (R126) and the privileged profile (R127). -/
def encCjob := encF 0x1D 0x00 .g .g .g [] true false
def encSend := encF 0x1E 0x00 .z .z .z [0] true false
def encDrop := encF 0x1E 0x01 .z .z .z [] true false
def encTohost := encF 0x1E 0x02 .z .g .z [0] true false
def encEnd := encF 0x1E 0x03 .z .z .z [0] true false
def encNop := encF 0x1F 0x00 .z .z .z [0] true true
def encYield := encF 0x1F 0x01 .z .z .z [0] true true
def encWaitl := encF 0x1F 0x02 .z .z .z [0] true true
def encFence := encF 0x1F 0x03 .z .z .z [0] true true
def encBrk := encF 0x1F 0x04 .z .z .z [] true true
def encEvraise := encF 0x1F 0x05 .z .g .z (below 16) true true
def encRdctx := encF 0x1F 0x06 .g .z .z (below 6) true true
def encWait := encF 0x38 0x00 .z .z .z [0] false true
def encEret := encF 0x38 0x01 .z .z .z [0] false true
def encMfsr := encF 0x38 0x02 .g .z .z (below 8) false true
def encMtsr := encF 0x38 0x03 .z .g .z (below 8) false true
def encMrgn := encF 0x38 0x04 .z .g .g (below 16) false true
def encMrgi := encF 0x38 0x05 .z .z .z (below 16) false true

/-- Every encoding of the chapter (R99). -/
def encodings : List Enc :=
  [encAdd, encSub, encAnd, encOr, encXor, encShl, encShr, encSar, encRol, encSlt, encSltu, encMinu, encMaxu, encMul,
    encMulhu, encClz, encPopc, encBswap, encExt, encCrc, encAddi, encAndi, encOri, encXori, encShli, encShri, encSari,
    encMovi, encMovk, encSlti, encSltiu, encBeq, encBne, encBlt, encBge, encBltu, encBgeu, encBfs, encBfc, encJal,
    encJalr] ++
  [encLdl, encLdls, encStl, encLdp, encLdps, encStp, encTldl, encTstl, encTnow, encTingr, encTmov, encTadd, encTsub,
    encTset, encTgsec, encTgns, encTcf, encTntp, encTutc, encTwait, encTstp, encFinfo, encFlen, encFmark, encFunmark,
    encFport, encFswap, encFcpyp, encFcpyl, encCsum, encCsadd, encCsip, encCsudp] ++
  [encTbld, encTbst, encTbcas, encTbadd, encTbfind, encTblock, encTbunlk, encTbget, encTbput, encTkn, encTkset, encCjob,
    encSend, encDrop, encTohost, encEnd, encNop, encYield, encWaitl, encFence, encBrk, encEvraise, encRdctx, encWait,
    encEret, encMfsr, encMtsr, encMrgn, encMrgi]

/-- A word that some instruction of a tile or of a core has. -/
def isDefined (tile : Bool) (w : Word) : Bool := encodings.any fun e => e.fits tile w

/-! ### Fetch -/

/-- The memory and the address of the word at an executor's PC. -/
def State.fetchPlace (s : State) (x : Ctx) : Nat × Nat :=
  match x with
  | .tile _ _ => (memProgram, 2 ^ 21 * (s.tileCtx x).bank + 4 * (s.th x).pc)
  | .core k => (memCore, 2 ^ 18 * k.val + 4 * (s.th x).pc)

/-- How many words the I space of an executor holds: LENGTH of the bound bank, or a core's SRAM (R127, R154). -/
def State.fetchLimit (s : State) (x : Ctx) : Nat :=
  match x with
  | .tile _ _ => s.bankLength (s.tileCtx x).bank
  | .core _ => 65536

/-- The word at the PC: zero at or beyond the limit (R154). -/
def State.fetch (s : State) (x : Ctx) : Word :=
  if s.fetchLimit x ≤ (s.th x).pc then 0
  else
    let a := (s.fetchPlace x).2
    BitVec.ofNat 32 (ofLeBytes (memReadBytes (match x with
      | .tile _ _ => s.gys.banks
      | .core _ => s.cores.sram) a 4))

/-- The word at the PC carries a poison mark (R468). -/
def State.fetchPoisoned (s : State) (x : Ctx) : Bool :=
  decide ((s.th x).pc < s.fetchLimit x) && (s.poisoned (s.fetchPlace x).1 (s.fetchPlace x).2 4).isSome

end Sys2Proof.Machine
end

