-- ==== Sys2Proof/Machine/Flags.lean ====
section
/-!
DEFINITION. The flags that arithmetic writes (R94, R103, R104): CY is the carry out of bit 63, for SUB the borrow; OV is
signed overflow or a time result outside its range.
-/
namespace Sys2Proof.Machine

/-- Carry out of bit 63 of a sum. -/
def carryAdd (a b : Word64) : Bool := decide (2 ^ 64 ≤ a.toNat + b.toNat)

/-- The borrow of a difference. -/
def borrowSub (a b : Word64) : Bool := decide (a.toNat < b.toNat)

/-- An integer outside the signed 64-bit range. -/
def outside64 (v : Int) : Bool := decide (v < -(2 ^ 63)) || decide ((2 ^ 63 : Int) ≤ v)

/-- Signed overflow of a sum and of a difference. -/
def overflowAdd (a b : Word64) : Bool := outside64 (a.toInt + b.toInt)
def overflowSub (a b : Word64) : Bool := outside64 (a.toInt - b.toInt)

/-- CY and OV written. -/
def State.setCyOv (s : State) (x : Ctx) (cy ov : Bool) : State := s.setTh x { s.th x with cy := cy, ov := ov }

/-- OV written. -/
def State.setOv (s : State) (x : Ctx) (ov : Bool) : State := s.setTh x { s.th x with ov := ov }

/-- SUS written. -/
def State.setSus (s : State) (x : Ctx) (b : Bool) : State := s.setTh x { s.th x with sus := b }

/-- RES written. -/
def State.setRes (s : State) (x : Ctx) (b : Bool) : State := s.setTh x { s.th x with res := b }

/-- Flag i of F (R94). -/
def Thread.flag (t : Thread) (i : Nat) : Bool :=
  match i with
  | 0 => t.cy
  | 1 => t.ov
  | 2 => t.sus
  | _ => t.res

/-- F as a number (R94). -/
def Thread.flags (t : Thread) : Nat := ofBool t.cy + 2 * ofBool t.ov + 4 * ofBool t.sus + 8 * ofBool t.res

end Sys2Proof.Machine
end

