-- ==== Sys2Proof/Machine/Walzor.lean ====
section
/-!
DEFINITION. How a Walzor instruction issues (R100 to R102, R141): the word at the PC must be its encoding, the budget and
the waits of R102 are checked, and its body then runs; and the accesses of a tile context to L, P and T.
-/
namespace Sys2Proof.Machine

/-- What the body of an instruction answers. -/
inductive Act where
  /-- it has executed: the PC moves to the next word -/
  | next (s : State)
  /-- it has executed and the PC moves to a target -/
  | goto (s : State) (pc : Nat)
  /-- it raises a fault, with the IMM6 of BRK and an address, in a state that holds only reports of the error -/
  | fault (s : State) (code imm addr : Nat)
  /-- it waits and issues again -/
  | wait (s : State)
  /-- it stalls and issues again when the cause clears -/
  | block (s : State) (cause : BlockCause)

/-- What makes an instruction wait: the registers it reads, whether it reads or writes RES, and whether it starts a
long-latency operation or is a WAITL (R102). -/
structure Needs where
  reads : Word → List Nat
  res : Word → Bool
  long : Bool

/-- The usual register operands. -/
def noReads : Needs := ⟨fun _ => [], fun _ => false, false⟩
def readsA : Needs := ⟨fun w => [fRa w], fun _ => false, false⟩
def readsB : Needs := ⟨fun w => [fRb w], fun _ => false, false⟩
def readsD : Needs := ⟨fun w => [fRd w], fun _ => false, false⟩
def readsAB : Needs := ⟨fun w => [fRa w, fRb w], fun _ => false, false⟩
def readsDA : Needs := ⟨fun w => [fRd w, fRa w], fun _ => false, false⟩
def readsC : Needs := ⟨fun w => [fCa w, fCb w], fun _ => false, false⟩
def longA : Needs := ⟨fun w => [fRa w], fun _ => false, true⟩
def longAB : Needs := ⟨fun w => [fRa w, fRb w], fun _ => false, true⟩
def longDAB : Needs := ⟨fun w => [fRd w, fRa w, fRb w], fun _ => false, true⟩

/-- The waits of R102 for the outstanding operation. g0 is never a destination. -/
def Thread.mustWait (t : Thread) (n : Needs) (w : Word) : Bool :=
  match t.op with
  | none => false
  | some o =>
    n.long || (o.kind.setsRes && n.res w) ||
      match o.dst with
      | some r => r != 0 && (n.reads w).contains r
      | none => false

/-- The instruction would exceed the budget of a tile context (R141). -/
def State.overBudget (s : State) (x : Ctx) : Bool :=
  match x with
  | .tile p c => decide ((s.ctx p.val c.val).budget ≤ (s.ctx p.val c.val).th.executed)
  | .core _ => false

/-- An instruction has executed: it counts, and the PC moves (R101). -/
def State.retire (s : State) (x : Ctx) (pc : Nat) : State :=
  s.setTh x { s.th x with pc := pc, executed := (s.th x).executed + 1 }

/-- The index after an instruction: the PC has 19 bits (R94). -/
def nextPc (pc : Nat) : Nat := (pc + 1) % 2 ^ 19

/-- A thread's status given a value. -/
def State.setStatus (s : State) (x : Ctx) (st : ThreadStatus) : State := s.setTh x { s.th x with status := st }

/-- The state that an instruction's answer leads to. -/
def Act.finish (x : Ctx) (pc : Nat) : Act → State
  | .next s => s.retire x (nextPc pc)
  | .goto s target => s.retire x target
  | .fault s code imm addr => s.faultAt x code imm addr
  | .wait s => s.setStatus x .waiting
  | .block s c => s.setStatus x (.blocked c)

/-- The body raises a fault. -/
def Act.faults : Act → Bool
  | .fault _ _ _ _ => true
  | _ => false

/-- An instruction at issue. A word of another encoding is not this instruction: nothing happens. A core's fault is taken once
the operation outstanding has completed (R100). -/
def State.issue (s : State) (x : Ctx) (e : Enc) (n : Needs) (body : Word → State → Act) : State :=
  if s.mayIssue x = false ∨ s.fetchPoisoned x ∨ e.fits (isTile x) (s.fetch x) = false then s
  else if s.overBudget x then s.faultAt x fltBudget 0 0
  else if (s.th x).mustWait n (s.fetch x) then s.setStatus x .waiting
  else if (body (s.fetch x) s).faults && s.trapWaits x then s.setStatus x .waiting
  else (body (s.fetch x) s).finish x (s.th x).pc

/-- An instruction that writes rd from its word and the state, and nothing else. -/
def State.issueRd (s : State) (x : Ctx) (e : Enc) (n : Needs) (f : Word → Word64) : State :=
  s.issue x e n fun w s => .next (s.setG x (fRd w) (f w))

/-! ### Tile-local memory (R144) -/

/-- The class of access that the regions of R144 give n bytes at an address of L. -/
def State.lPermits (s : State) (x : Context) (c a n : Nat) (write : Bool) : Bool :=
  let ro := s.roTop x.bank
  let base := s.privBase x.bank
  let mine := base + c * s.privSize x.bank
  if x.isInit then decide (a + n ≤ 0x80000)
  else
    (!write && decide (a + n ≤ ro)) || (decide (ro ≤ a) && decide (a + n ≤ base)) ||
      (decide (mine ≤ a) && decide (a + n ≤ mine + s.privSize x.bank))

/-- The address of a byte of a tile's L in the state. -/
def lAddr (p a : Nat) : Nat := 2 ^ 19 * p + a

/-- The outcome of an L read of a tile context: the bytes, or a fault code and its address. -/
def State.lRead (s : State) (p : Nat) (x : Context) (c a n : Nat) : Except (State × Nat × Nat) (List Byte) :=
  if s.lPermits x c a n false = false then .error (s, fltLRange, a)
  else
    match s.poisoned memL (lAddr p a) n with
    | some w => .error (s.eccError memL w, fltEcc, a)
    | none => .ok (memReadBytes s.gys.l (lAddr p a) n)

/-- Bytes stored to a tile's L, marks cleared. -/
def State.lStore (s : State) (p a : Nat) (bs : List Byte) : State :=
  State.clearPoison { s with gys := { s.gys with l := memWriteBytes s.gys.l (lAddr p a) bs } } memL (lAddr p a) bs.length

/-! ### Crypto jobs under way (R195, R196) -/

/-- Whether a hash operation, and the bytes of its digest (R196). -/
def digestBytes (code : Nat) : Option Nat :=
  match code with
  | 0x08 => some 32
  | 0x09 => some 48
  | 0x0A => some 64
  | 0x0B => some 32
  | _ => none

/-- A job descriptor (R196). -/
structure Descriptor where
  pa : Nat
  la : Nat
  pb : Nat
  lb : Nat
  pc : Nat
  lc : Nat
  kl : Nat
  dl : Nat
  reserved : List Byte
  deriving DecidableEq, Repr

/-- The fields of 64 descriptor bytes. -/
def descriptorOf (d : List Byte) : Descriptor :=
  let h := fun i => ofLeBytes ((d.drop i).take 2)
  let w := fun i => ofLeBytes ((d.drop i).take 4)
  { pa := h 0, la := h 2, pb := h 4, lb := h 6, pc := h 8, lc := h 10, kl := w 12, dl := w 20,
    reserved := (d.drop 24).take 40 }

/-- The L ranges of a hash operation, or of another that is listed: its source or key block, and its digest. -/
def Descriptor.sourceL (d : Descriptor) (code : Nat) : List (Nat × Nat) :=
  if (digestBytes code).isSome then (if 1 ≤ d.la ∧ d.la ≤ 4096 then [(d.kl, d.la)] else [])
  else if 1 ≤ code ∧ code ≤ 6 then [(d.kl, 68)] else []
def Descriptor.digestL (d : Descriptor) (code : Nat) : List (Nat × Nat) :=
  match digestBytes code with
  | some n => [(d.dl, n)]
  | none => []

/-- The L ranges that a descriptor names through KL and DL (R194); an operation that is not listed names none. -/
def Descriptor.rangesL (d : Descriptor) (code : Nat) : List (Nat × Nat) := d.sourceL code ++ d.digestL code

/-- The L ranges that an operation reads: KL, but where the key block is an output (R196). -/
def Descriptor.inputsL (d : Descriptor) (code : Nat) : List (Nat × Nat) :=
  if code = 1 ∨ code = 3 then [] else d.sourceL code

/-- The L ranges that an operation writes, its descriptor being at an address (R196). -/
def Descriptor.outputsL (d : Descriptor) (desc code : Nat) : List (Nat × Nat) :=
  (if code = 1 ∨ code = 3 then [(d.kl, 68)] else []) ++ (if 1 ≤ code ∧ code ≤ 3 then [(desc + 0x10, 4)] else []) ++
    d.digestL code

/-- The ranges of the frame that an operation reads (R196). -/
def Descriptor.inputsP (d : Descriptor) (code : Nat) : List (Nat × Nat) :=
  let a := (d.pa, d.la)
  let b := (d.pb, d.lb)
  let c := (d.pc, d.lc)
  match code with
  | 0x01 => [a, b, c]
  | 0x02 => [a]
  | 0x03 => [a]
  | 0x05 => [a, b]
  | 0x06 => [a, c]
  | _ => []

/-- Where the decrypted fields of an authenticator body at b go: after the tag. -/
def plainAt (b : Nat) : Nat := b + 36

/-- The ranges of the frame that an operation may write (R196). -/
def Descriptor.outputsP (d : Descriptor) (code : Nat) : List (Nat × Nat) :=
  match code with
  | 0x01 => [(plainAt d.pb, d.lb - 36)]
  | 0x02 => [(d.pb, d.lb)]
  | 0x04 => [(d.pb, d.lb)]
  | 0x05 => [(plainAt d.pb, d.lb - 36)]
  | 0x06 => [(d.pb, d.lb)]
  | _ => []

/-- The bytes of L of a tile, and of its frame. -/
def State.jobL (s : State) (p a n : Nat) : List Byte := memReadBytes s.gys.l (lAddr p a) n
def framePart (f : List Byte) (a n : Nat) : List Byte := (f.drop a).take n

/-- One of some ranges shares a byte with another (R195). -/
def meets (rs : List (Nat × Nat)) (w : Nat × Nat) : Bool := 
  rs.any fun r => decide (r.2 ≠ 0 ∧ w.2 ≠ 0 ∧ r.1 < w.1 + w.2 ∧ w.1 < r.1 + r.2)

/-- The L ranges (or with inP the ranges of the frame) of a context's outstanding job, its descriptor among them. -/
def State.jobNames (s : State) (p c : Nat) (inP : Bool) : List (Nat × Nat) :=
  match (s.ctx p c).th.op with
  | some ⟨.job desc _ code, _, _⟩ =>
    let d := descriptorOf (s.jobL p desc 64)
    if inP then d.inputsP code ++ d.outputsP code else (desc, 64) :: d.rangesL code
  | _ => []

/-- The jobs that wait or run (R192). -/
def State.jobs (s : State) : List (Nat × Nat) := s.cry.queued ++ s.cry.running.map fun r => (r.2.1, r.2.2.1)

/-- A tile's program has written ranges of its L, or of the frame of context c: every job that names a byte of them is
spoiled (R195). -/
def State.spoil (s : State) (p : Nat) (c : Option Nat) (ws : List (Nat × Nat)) : State :=
  let hit := s.jobs.filter fun j =>
    j.1 == p && (match c with | some c => c == j.2 | none => true) && ws.any (meets (s.jobNames p j.2 c.isSome))
  { s with cry := { s.cry with spoiled := s.cry.spoiled ++ hit.filter fun j => !s.cry.spoiled.contains j } }

/-- The outcome of an L write of a tile context; a partial write of a poisoned word is discarded and faults (R469). -/
def State.lWrite (s : State) (p : Nat) (x : Context) (c a : Nat) (bs : List Byte) : Except (State × Nat × Nat) State :=
  if s.lPermits x c a bs.length true = false then .error (s, fltLRange, a)
  else
    match s.partlyPoisoned memL (lAddr p a) bs.length with
    | some w => .error (s.eccError memL w, fltEcc, a)
    | none => .ok ((s.spoil p none [(a, bs.length)]).lStore p a bs)

/-! ### The frame (R96, R106, R107) -/

/-- The first cell from 2 up, among those of n bytes at an offset, that has not arrived (R107). -/
def Context.missingCell (x : Context) (a n : Nat) : Option Nat :=
  if n = 0 then none
  else
    ((List.range ((a + n - 1) / 256 + 1 - a / 256)).map (a / 256 + ·)).find? fun i => 2 ≤ i && !x.cells.contains i

/-- A poisoned word of a frame among n bytes at an offset; only those that a write covers in part where part is set. -/
def Frame.poisonedAt (f : Frame) (a n : Nat) (part : Bool) : Bool :=
  f.poison.any fun w => decide (w < a + n) && decide (a < w + 8) && !(part && decide (a ≤ w) && decide (w + 8 ≤ a + n))

/-- How an access to the frame turns out: an answer of the instruction, or go on with the frame. -/
def State.pAccess (s : State) (x : Context) (a n : Nat) (write : Bool) (k : Frame → Act) : Act :=
  match x.frame with
  | none => .fault s fltPRange 0 a
  | some f =>
    if n ≠ 0 ∧ f.bytes.length < a + n then .fault s fltPRange 0 a
    else
      match x.missingCell a n with
      | some i => .block s (.cell i)
      | none => if f.poisonedAt a n write then .fault s.packetError fltEcc 0 a else k f

/-- Bytes written into a frame, marks of words covered whole cleared. -/
def Frame.store (f : Frame) (a : Nat) (bs : List Byte) : Frame :=
  { f with bytes := patch f.bytes a bs
           poison := f.poison.filter fun w => !(decide (a ≤ w) && decide (w + 8 ≤ a + bs.length)) }

/-- The frame of a context given a value. -/
def State.setFrame (s : State) (x : Ctx) (f : Frame) : State :=
  match x with
  | .tile p c => s.setCtx p.val c.val { s.ctx p.val c.val with frame := some f }
  | .core _ => s

/-- A frame that its program has changed, with the ranges written (R195). -/
def State.writeFrame (s : State) (x : Ctx) (f : Frame) (ws : List (Nat × Nat)) : State :=
  match x with
  | .tile p c => (s.spoil p.val (some c.val) ws).setFrame x f
  | .core _ => s

/-- The context number of an executor. -/
def ctxNumber : Ctx → Nat
  | .tile _ c => c.val
  | .core _ => 0

/-- The physical tile of an executor. -/
def ctxTile : Ctx → Nat
  | .tile p _ => p.val
  | .core _ => 0

/-! ### The table pool (R117, R145) -/

/-- The checks of R117 and R145 on n bytes at a T address: ALIGN first, then T_PROT. An init context has the rights of all
four classes together. -/
def State.tFault (s : State) (x : Ctx) (a n align : Nat) (write : Bool) : Option Nat :=
  if a % align ≠ 0 then some fltAlign
  else if 0x3000000 < a + n then some fltTProt
  else
    match x with
    | .core _ => none
    | .tile p c =>
      let y := s.ctx p.val c.val
      match s.regionOf y.bank a with
      | none => some fltTProt
      | some i =>
        let t := s.treg0 y.bank i
        let mask := if write then bitsAt t 26 4 else bitsAt t 22 4
        if (bitsAt t 0 14 + bitsAt (s.treg1 y.bank i) 0 14 + 1) * 4096 < a + n then some fltTProt
        else if (if y.isInit then decide (mask ≠ 0) else mask.testBit y.pclass) then none
        else some fltTProt

/-- Who writes to the pool for an executor. -/
def poolWriter : Ctx → PoolWriter
  | .tile _ _ => .tile
  | .core _ => .core

/-- A long-latency operation started (R102). -/
def State.startOp (s : State) (x : Ctx) (k : LongKind) (dst : Option Nat) : State :=
  s.setTh x { s.th x with op := some ⟨k, dst, (s.th x).pc⟩ }

/-- A posted store issued: a fifth waits (R102). -/
def State.postStore (s : State) (x : Ctx) (a : Nat) (bs : List Byte) : Act :=
  let t := s.th x
  if 4 ≤ t.stores.length then .block s .stores
  else .next (s.setTh x { t with stores := t.stores ++ [⟨a, bs, t.op.isSome⟩] })

end Sys2Proof.Machine
end

