-- ==== Sys2Proof/Machine/Alu.lean ====
section
/-!
DEFINITION. Walzor arithmetic, logic, constants, branches and jumps (R103 to R105).
-/
namespace Sys2Proof.Machine

/-! ### The operations of R103 -/

/-- A shift amount: bits 5 to 0. -/
def shamt (b : Word64) : Nat := b.toNat % 64

/-- Leading zeros, 0 to 64. -/
def clz64 (a : Word64) : Word64 := if a = 0 then 64 else BitVec.ofNat 64 (63 - a.toNat.log2)

/-- The number of 1 bits. -/
def popc64 (a : Word64) : Word64 := BitVec.ofNat 64 ((List.range 64).filter a.getLsbD).length

/-- The eight bytes reversed. -/
def bswap64 (a : Word64) : Word64 := BitVec.ofNat 64 (ofBeBytes (leBytes 8 a.toNat))

/-- The field of width b[13:8], 0 meaning 64, at bit b[5:0]. -/
def ext64 (a b : Word64) : Word64 :=
  let w := b.toNat / 2 ^ 8 % 64
  BitVec.ofNat 64 (a.toNat / 2 ^ shamt b % 2 ^ (if w = 0 then 64 else w))

/-- CRC-32C of the eight bytes of b, least significant first, seeded with a[31:0]. -/
def crc64 (a b : Word64) : Word64 := (crcBytes (lo32 a) (leBytes 8 b.toNat)).setWidth 64

/-- One for true, zero for false. -/
def bit64 (b : Bool) : Word64 := if b then 1 else 0

/-- The operations of R103 on ra and rb. -/
def opMinu (a b : Word64) : Word64 := if a.toNat < b.toNat then a else b
def opMaxu (a b : Word64) : Word64 := if a.toNat < b.toNat then b else a
def opMulhu (a b : Word64) : Word64 := BitVec.ofNat 64 (a.toNat * b.toNat / 2 ^ 64)

/-- A register operation that writes rd and no flag. -/
def State.alu (s : State) (x : Ctx) (e : Enc) (f : Word64 → Word64 → Word64) : State :=
  s.issue x e readsAB fun w s => .next (s.setG x (fRd w) (f (s.g x (fRa w)) (s.g x (fRb w))))

/-- A register operation that writes rd, CY and OV. -/
def State.aluFlags (s : State) (x : Ctx) (e : Enc) (f : Word64 → Word64 → Word64) (cy ov : Word64 → Word64 → Bool) : State :=
  s.issue x e readsAB fun w s =>
    let a := s.g x (fRa w)
    let b := s.g x (fRb w)
    .next ((s.setG x (fRd w) (f a b)).setCyOv x (cy a b) (ov a b))

/-- An immediate operation that writes rd and no flag. -/
def State.aluImm (s : State) (x : Ctx) (e : Enc) (f : Word64 → Word → Word64) : State :=
  s.issue x e readsA fun w s => .next (s.setG x (fRd w) (f (s.g x (fRa w)) w))

/-- ADD: rd = ra + rb. -/
def execAdd (x : Ctx) (s : State) : Host.Outcome State Fault Refusal :=
  .next (s.aluFlags x encAdd (· + ·) carryAdd overflowAdd)

/-- SUB: rd = ra - rb; CY is the borrow. -/
def execSub (x : Ctx) (s : State) : Host.Outcome State Fault Refusal :=
  .next (s.aluFlags x encSub (· - ·) borrowSub overflowSub)

/-- AND (R103). -/
def execAndReg (x : Ctx) (s : State) : Host.Outcome State Fault Refusal :=
  .next (s.alu x encAnd (· &&& ·))

/-- OR (R103). -/
def execOrReg (x : Ctx) (s : State) : Host.Outcome State Fault Refusal :=
  .next (s.alu x encOr (· ||| ·))

/-- XOR (R103). -/
def execXorReg (x : Ctx) (s : State) : Host.Outcome State Fault Refusal :=
  .next (s.alu x encXor (· ^^^ ·))

/-- SHL (R103). -/
def execShl (x : Ctx) (s : State) : Host.Outcome State Fault Refusal :=
  .next (s.alu x encShl (fun a b => a <<< shamt b))

/-- SHR (R103). -/
def execShr (x : Ctx) (s : State) : Host.Outcome State Fault Refusal :=
  .next (s.alu x encShr (fun a b => a >>> shamt b))

/-- SAR (R103). -/
def execSar (x : Ctx) (s : State) : Host.Outcome State Fault Refusal :=
  .next (s.alu x encSar (fun a b => a.sshiftRight (shamt b)))

/-- ROL (R103). -/
def execRol (x : Ctx) (s : State) : Host.Outcome State Fault Refusal :=
  .next (s.alu x encRol (fun a b => a.rotateLeft (shamt b)))

/-- SLT (R103). -/
def execSlt (x : Ctx) (s : State) : Host.Outcome State Fault Refusal :=
  .next (s.alu x encSlt (fun a b => bit64 (decide (a.toInt < b.toInt))))

/-- SLTU (R103). -/
def execSltu (x : Ctx) (s : State) : Host.Outcome State Fault Refusal :=
  .next (s.alu x encSltu (fun a b => bit64 (decide (a.toNat < b.toNat))))

/-- MINU (R103). -/
def execMinu (x : Ctx) (s : State) : Host.Outcome State Fault Refusal :=
  .next (s.alu x encMinu opMinu)

/-- MAXU (R103). -/
def execMaxu (x : Ctx) (s : State) : Host.Outcome State Fault Refusal :=
  .next (s.alu x encMaxu opMaxu)

/-- MUL: the low 64 bits of the product (R103). -/
def execMul (x : Ctx) (s : State) : Host.Outcome State Fault Refusal :=
  .next (s.alu x encMul (· * ·))

/-- MULHU: the high 64 bits of the unsigned product (R103). -/
def execMulhu (x : Ctx) (s : State) : Host.Outcome State Fault Refusal :=
  .next (s.alu x encMulhu opMulhu)

/-- CLZ (R103). -/
def execClz (x : Ctx) (s : State) : Host.Outcome State Fault Refusal :=
  .next (s.alu x encClz (fun a _ => clz64 a))

/-- POPC (R103). -/
def execPopc (x : Ctx) (s : State) : Host.Outcome State Fault Refusal :=
  .next (s.alu x encPopc (fun a _ => popc64 a))

/-- BSWAP (R103). -/
def execBswap (x : Ctx) (s : State) : Host.Outcome State Fault Refusal :=
  .next (s.alu x encBswap (fun a _ => bswap64 a))

/-- EXT (R103). -/
def execExtField (x : Ctx) (s : State) : Host.Outcome State Fault Refusal :=
  .next (s.alu x encExt ext64)

/-- CRC (R103). -/
def execCrc (x : Ctx) (s : State) : Host.Outcome State Fault Refusal :=
  .next (s.alu x encCrc crc64)

/-! ### Immediates (R104) -/

/-- ADDI: rd = ra + sext(IMM16), with CY and OV. -/
def execAddi (x : Ctx) (s : State) : Host.Outcome State Fault Refusal :=
  .next (s.issue x encAddi readsA fun w s =>
    let a := s.g x (fRa w)
    .next ((s.setG x (fRd w) (a + sext16 w)).setCyOv x (carryAdd a (sext16 w)) (overflowAdd a (sext16 w))))

/-- ANDI (R104). -/
def execAndi (x : Ctx) (s : State) : Host.Outcome State Fault Refusal :=
  .next (s.aluImm x encAndi fun a w => a &&& zext16 w)

/-- ORI (R104). -/
def execOri (x : Ctx) (s : State) : Host.Outcome State Fault Refusal :=
  .next (s.aluImm x encOri fun a w => a ||| zext16 w)

/-- XORI (R104). -/
def execXori (x : Ctx) (s : State) : Host.Outcome State Fault Refusal :=
  .next (s.aluImm x encXori fun a w => a ^^^ zext16 w)

/-- SHLI (R104). -/
def execShli (x : Ctx) (s : State) : Host.Outcome State Fault Refusal :=
  .next (s.aluImm x encShli fun a w => a <<< fImm6 w)

/-- SHRI (R104). -/
def execShri (x : Ctx) (s : State) : Host.Outcome State Fault Refusal :=
  .next (s.aluImm x encShri fun a w => a >>> fImm6 w)

/-- SARI (R104). -/
def execSari (x : Ctx) (s : State) : Host.Outcome State Fault Refusal :=
  .next (s.aluImm x encSari fun a w => a.sshiftRight (fImm6 w))

/-- SLTI (R104). -/
def execSlti (x : Ctx) (s : State) : Host.Outcome State Fault Refusal :=
  .next (s.aluImm x encSlti fun a w => bit64 (decide (a.toInt < (sext16 w).toInt)))

/-- SLTIU (R104). -/
def execSltiu (x : Ctx) (s : State) : Host.Outcome State Fault Refusal :=
  .next (s.aluImm x encSltiu fun a w => bit64 (decide (a.toNat < (sext16 w).toNat)))

/-- MOVI: rd = sext(IMM16). -/
def execMovi (x : Ctx) (s : State) : Host.Outcome State Fault Refusal :=
  .next (s.issueRd x encMovi noReads sext16)

/-- The quarter k of a register replaced (R104). -/
def putQuarter (d : Word64) (k v : Nat) : Word64 :=
  (d &&& ~~~ BitVec.ofNat 64 (0xFFFF * 2 ^ (16 * k))) ||| BitVec.ofNat 64 (v * 2 ^ (16 * k))

/-- MOVK: quarter k = RA[1:0] of rd. -/
def execMovk (x : Ctx) (s : State) : Host.Outcome State Fault Refusal :=
  .next (s.issue x encMovk readsD fun w s =>
    .next (s.setG x (fRd w) (putQuarter (s.g x (fRd w)) (fRa w % 4) (fImm16 w))))

/-! ### Branches and jumps (R105) -/

/-- The limit of I space: 524,288 indices on a tile, 65,536 on a service core (R105, R127). -/
def iLimit : Ctx → Int
  | .tile _ _ => 524288
  | .core _ => 65536

/-- A target taken, or I_RANGE with nothing changed: s is the state before, t the state with the link written. -/
def jumpTo (x : Ctx) (s t : State) (target : Int) : Act :=
  if 0 ≤ target ∧ target < iLimit x then .goto t target.toNat else .fault s fltIRange 0 0

/-- A conditional branch on ra and rb. -/
def State.branch (s : State) (x : Ctx) (e : Enc) (taken : Word64 → Word64 → Bool) : State :=
  s.issue x e readsC fun w s =>
    if taken (s.g x (fCa w)) (s.g x (fCb w)) then jumpTo x s s ((s.th x).pc + fOff13 w) else .next s

/-- A branch on a flag; one that tests RES waits for the operation that sets it (R102). -/
def State.branchFlag (s : State) (x : Ctx) (e : Enc) (want : Bool) : State :=
  s.issue x e ⟨fun _ => [], fun w => fCb w == 3, false⟩ fun w s =>
    if (s.th x).flag (fCb w) = want then jumpTo x s s ((s.th x).pc + fOff13 w) else .next s

/-- BEQ (R105). -/
def execBeq (x : Ctx) (s : State) : Host.Outcome State Fault Refusal :=
  .next (s.branch x encBeq fun a b => a == b)

/-- BNE (R105). -/
def execBneBranch (x : Ctx) (s : State) : Host.Outcome State Fault Refusal :=
  .next (s.branch x encBne fun a b => a != b)

/-- BLT (R105). -/
def execBlt (x : Ctx) (s : State) : Host.Outcome State Fault Refusal :=
  .next (s.branch x encBlt fun a b => decide (a.toInt < b.toInt))

/-- BGE (R105). -/
def execBge (x : Ctx) (s : State) : Host.Outcome State Fault Refusal :=
  .next (s.branch x encBge fun a b => decide (b.toInt ≤ a.toInt))

/-- BLTU (R105). -/
def execBltu (x : Ctx) (s : State) : Host.Outcome State Fault Refusal :=
  .next (s.branch x encBltu fun a b => decide (a.toNat < b.toNat))

/-- BGEU (R105). -/
def execBgeu (x : Ctx) (s : State) : Host.Outcome State Fault Refusal :=
  .next (s.branch x encBgeu fun a b => decide (b.toNat ≤ a.toNat))

/-- BFS (R105). -/
def execBfs (x : Ctx) (s : State) : Host.Outcome State Fault Refusal :=
  .next (s.branchFlag x encBfs true)

/-- BFC (R105). -/
def execBfc (x : Ctx) (s : State) : Host.Outcome State Fault Refusal :=
  .next (s.branchFlag x encBfc false)

/-- PC + 1 as a register holds it. -/
def State.link (s : State) (x : Ctx) : Word64 := BitVec.ofNat 64 ((s.th x).pc + 1)

/-- JAL: rd = PC + 1; PC = PC + sext(OFF21). -/
def execJal (x : Ctx) (s : State) : Host.Outcome State Fault Refusal :=
  .next (s.issue x encJal noReads fun w s => jumpTo x s (s.setG x (fRd w) (s.link x)) ((s.th x).pc + fOff21 w))

/-- JALR: the target is ra + sext(IMM16), read before rd is written. -/
def execJalr (x : Ctx) (s : State) : Host.Outcome State Fault Refusal :=
  .next (s.issue x encJalr readsA fun w s =>
    jumpTo x s (s.setG x (fRd w) (s.link x)) (s.g x (fRa w) + sext16 w).toNat)

end Sys2Proof.Machine
end

