-- ==== Sys2Proof/Machine/Curves.lean ====
section
/-!
DEFINITION. The arithmetic of the big-number engine (R360): residues, the Weierstrass curves of FIPS 186-5 and the
Edwards curve of RFC 8032. The spec names the curves; their constants are those of the standards (log entry 25).
-/
namespace Sys2Proof.Machine

/-- b^e mod m over the n low bits of e. -/
def powMod (m b e n : Nat) : Nat :=
  (List.range n).foldr (fun i acc => if e.testBit i then acc * acc % m * b % m else acc * acc % m) (1 % m)

/-- The extended Euclidean steps: the coefficient of a in the greatest common divisor. -/
def euclid : Nat → Nat → Nat → Int → Int → Int
  | 0, _, _, x, _ => x
  | n + 1, a, b, x, y => if b = 0 then x else euclid n b (a % b) y (x - (a / b : Nat) * y)

/-- The inverse of a mod m where they are coprime; m has at most n bits. -/
def invMod (n m a : Nat) : Nat := (euclid (3 * n + 4) a m 1 0 % (m : Int)).toNat

/-- A Weierstrass curve y^2 = x^3 - 3x + b over p with base point (gx, gy) of order n; coordinates of k words. -/
structure Curve where
  k : Nat
  p : Nat
  b : Nat
  gx : Nat
  gy : Nat
  n : Nat
  deriving DecidableEq, Repr

def curveP256 : Curve :=
  { k := 4
    p := 0xffffffff00000001000000000000000000000000ffffffffffffffffffffffff
    b := 0x5ac635d8aa3a93e7b3ebbd55769886bc651d06b0cc53b0f63bce3c3e27d2604b
    gx := 0x6b17d1f2e12c4247f8bce6e563a440f277037d812deb33a0f4a13945d898c296
    gy := 0x4fe342e2fe1a7f9b8ee7eb4a7c0f9e162bce33576b315ececbb6406837bf51f5
    n := 0xffffffff00000000ffffffffffffffffbce6faada7179e84f3b9cac2fc632551 }

def curveP384 : Curve :=
  { k := 6
    p := 0xfffffffffffffffffffffffffffffffffffffffffffffffffffffffffffffffeffffffff0000000000000000ffffffff
    b := 0xb3312fa7e23ee7e4988e056be3f82d19181d9c6efe8141120314088f5013875ac656398d8a2ed19d2a85c8edd3ec2aef
    gx := 0xaa87ca22be8b05378eb1c71ef320ad746e1d3b628ba79b9859f741e082542a385502f25dbf55296c3a545e3872760ab7
    gy := 0x3617de4a96262c6f5d9e98bf9292dc29f8f41dbd289a147ce9da3113b5f0b8c00a60b1ce1d7e819d7a431d7c90ea0e5f
    n := 0xffffffffffffffffffffffffffffffffffffffffffffffffc7634d81f4372ddf581a0db248b0a77aecec196accc52973 }

def curveP521 : Curve :=
  { k := 9
    p := 2 ^ 521 - 1
    b := 0x51953eb9618e1c9a1f929a21a0b68540eea2da725b99b315f3b8b489918ef109e156193951ec7e937b1652c0bd3bb1bf073573df883d2c34f1ef451fd46b503f00
    gx := 0xc6858e06b70404e9cd9e3ecb662395b4429c648139053fb521f828af606b4d3dbaa14b5e77efe75928fe1dc127a2ffa8de3348b3c1856a429bf97e7e31c2e5bd66
    gy := 0x11839296a789a3bc0045c8a5fb42c7d1bd998f54449579b446817afbd17273e662c97ee72995ef42640c550b9013fad0761353c7086a272c24088be94769fd16650
    n := 0x1fffffffffffffffffffffffffffffffffffffffffffffffffffffffffffffffffa51868783bf2f966b7fcc0148f709a5d03bb5c9b8899c47aebb6fb71e91386409 }

/-- A point of a curve; none is the point at infinity. -/
abbrev Point := Option (Nat × Nat)

/-- a - b mod m for a, b below m. -/
def subMod (m a b : Nat) : Nat := (a + m - b) % m

/-- The curve equation y^2 = x^3 + ax + b mod p with a = -3. -/
def Curve.onCurve (c : Curve) (x y : Nat) : Bool :=
  y * y % c.p == (x * x % c.p * x + (c.p - 3) * x + c.b) % c.p

/-- The sum of two points from the slope of their chord or tangent. -/
def Curve.chord (c : Curve) (l x1 y1 x2 : Nat) : Point :=
  let x := subMod c.p (l * l % c.p) ((x1 + x2) % c.p)
  some (x, subMod c.p (l * subMod c.p x1 x % c.p) y1)

/-- The sum of two points. -/
def Curve.add (c : Curve) : Point → Point → Point
  | none, q => q
  | p, none => p
  | some (x1, y1), some (x2, y2) =>
    if x1 = x2 then
      if (y1 + y2) % c.p = 0 then none
      else c.chord ((3 * x1 * x1 + c.p - 3) * invMod 521 c.p (2 * y1 % c.p) % c.p) x1 y1 x2
    else c.chord (subMod c.p y2 y1 * invMod 521 c.p (subMod c.p x2 x1) % c.p) x1 y1 x2

/-- The multiple of a point by a number below 2^521. -/
def Curve.mul (c : Curve) (n : Nat) (q : Point) : Point :=
  (List.range 521).foldr (fun i acc => if n.testBit i then c.add (c.add acc acc) q else c.add acc acc) none

/-- ECDSA verification (R360): the digest is reduced mod n. -/
def Curve.ecdsa (c : Curve) (x y r s e : Nat) : Bool :=
  let w := invMod 521 c.n s
  match c.add (c.mul (e * w % c.n) (some (c.gx, c.gy))) (c.mul (r * w % c.n) (some (x, y))) with
  | none => false
  | some (px, _) => px % c.n == r

/-- The validation of a public point (R361): the status of the first failed check. -/
def Curve.checkPoint (c : Curve) (x y : Nat) : Option Nat :=
  if x = 0 ∨ y = 0 then some 0x02
  else if c.p ≤ x ∨ c.p ≤ y then some 0x03
  else if c.onCurve x y = false then some 0x04
  else none

/-- The validation of a signature (R361). -/
def Curve.checkSignature (c : Curve) (r s : Nat) : Option Nat :=
  if 0 < r ∧ r < c.n ∧ 0 < s ∧ s < c.n then none else some 0x05

/-- A whole ECDSA verification of big-endian bytes, n to a coordinate: key x ‖ y, signature r ‖ s, digest (R360, R361). -/
def Curve.verify (c : Curve) (n : Nat) (key digest sig : List Byte) : Bool :=
  let x := ofBeBytes (key.take n)
  let y := ofBeBytes ((key.drop n).take n)
  let r := ofBeBytes (sig.take n)
  let s := ofBeBytes ((sig.drop n).take n)
  (c.checkPoint x y).isNone && (c.checkSignature r s).isNone && c.ecdsa x y r s (ofBeBytes digest)

/-- ECDSA P-384 (R157). -/
def verifyP384 (key digest sig : List Byte) : Bool := curveP384.verify 48 key digest sig

/-! The Edwards curve -x^2 + y^2 = 1 + d x^2 y^2 of RFC 8032. -/
def edP : Nat := 2 ^ 255 - 19
def edL : Nat := 2 ^ 252 + 27742317777372353535851937790883648493
def edD : Nat := 0x52036cee2b6ffe738cc740797779e89800700a4d4141d8ab75eb4dca135978a3
def edBase : Nat × Nat :=
  (0x216936d3cd6e53fec0a4e231fdd6dc5c692cc7609525a7b2c9562d608f25d51a,
   0x6666666666666666666666666666666666666666666666666666666666666658)

/-- The sum of two points of the Edwards curve. -/
def edAdd (a b : Nat × Nat) : Nat × Nat :=
  let k := edD * a.1 % edP * b.1 % edP * a.2 % edP * b.2 % edP
  ((a.1 * b.2 + a.2 * b.1) % edP * invMod 256 edP ((1 + k) % edP) % edP,
   (a.2 * b.2 + a.1 * b.1) % edP * invMod 256 edP (subMod edP 1 k) % edP)

/-- The multiple of a point by a number below 2^256. -/
def edMul (n : Nat) (q : Nat × Nat) : Nat × Nat :=
  (List.range 256).foldr (fun i acc => if n.testBit i then edAdd (edAdd acc acc) q else edAdd acc acc) (0, 1)

/-- The y coordinate of an encoding. -/
def edY (enc : Nat) : Nat := enc % 2 ^ 255

/-- The point that an encoding decodes to, with y below p; none where there is none. -/
def edDecode (enc : Nat) : Option (Nat × Nat) :=
  let y := edY enc
  let sign := enc / 2 ^ 255 % 2
  let u := subMod edP (y * y % edP) 1
  let v := (edD * (y * y % edP) + 1) % edP
  let q := u * invMod 256 edP v % edP
  let x0 := powMod edP q ((edP + 3) / 8) 256
  let x1 := if x0 * x0 % edP = q then x0 else x0 * powMod edP 2 ((edP - 1) / 4) 256 % edP
  if x1 * x1 % edP ≠ q then none
  else if x1 = 0 ∧ sign = 1 then none
  else some (if x1 % 2 = sign then x1 else subMod edP 0 x1, y)

/-- The cofactored equation [8][S]B = [8]R + [8][h mod L]A (R360). -/
def edVerify (a r : Nat × Nat) (s h : Nat) : Bool :=
  edMul 8 (edMul s edBase) == edAdd (edMul 8 r) (edMul 8 (edMul (h % edL) a))

end Sys2Proof.Machine
end

