-- ==== Sys2Proof/Machine/Sha.lean ====
section
/-!
DEFINITION. The SHA functions of R196 over byte strings: SHA-256, SHA-384 and SHA-512 of FIPS 180-4 and SHA3-256 of FIPS
202, which R202 names (PRESUMED: the rules give no more than the names, log entry 12).
-/
namespace Sys2Proof.Machine

/-! ### SHA-2 -/

/-- The greatest r below 2^n times the start with r^k at most x, found bit by bit from the top. -/
def rootBits (k x : Nat) : Nat → Nat → Nat
  | 0, r => r
  | n + 1, r => rootBits k x n (if (r + 2 ^ n) ^ k ≤ x then r + 2 ^ n else r)

/-- The first 64 bits of the fractional part of the k-th root of p, for p below 2^16. -/
def rootFraction (k p : Nat) : BitVec 64 := BitVec.ofNat 64 (rootBits k (p * 2 ^ (64 * k)) (64 + 16 / k) 0)

/-- The primes below a bound. -/
def primesBelow (n : Nat) : List Nat :=
  (List.range n).filter fun p => decide (2 ≤ p) && (List.range (Nat.sqrt p + 1)).all fun d => d < 2 || p % d != 0

/-- What FIPS 180-4 adds in each round: the cube roots of the first 80 primes, of which the last is 409. -/
def shaKs : List (BitVec 64) := (primesBelow 410).map (rootFraction 3)

/-- Where its hash values start: the square roots of the first 16 primes, of which the last is 53. -/
def shaRoots : List (BitVec 64) := (primesBelow 54).map (rootFraction 2)

/-- The top halves, which SHA-256 uses in place of the whole values. -/
def topHalves (l : List (BitVec 64)) : List (BitVec 32) := l.map (·.extractLsb' 32 32)

/-- The rotation and shift amounts of one width. -/
structure ShaWidth where
  big0 : Nat × Nat × Nat
  big1 : Nat × Nat × Nat
  small0 : Nat × Nat × Nat
  small1 : Nat × Nat × Nat
  deriving DecidableEq, Repr

def sha32 : ShaWidth := ⟨(2, 13, 22), (6, 11, 25), (7, 18, 3), (17, 19, 10)⟩
def sha64 : ShaWidth := ⟨(28, 34, 39), (14, 18, 41), (1, 8, 7), (19, 61, 6)⟩

/-- Three rotations combined. -/
def shaBig {w : Nat} (r : Nat × Nat × Nat) (x : BitVec w) : BitVec w :=
  x.rotateRight r.1 ^^^ x.rotateRight r.2.1 ^^^ x.rotateRight r.2.2

/-- Two rotations and a shift combined. -/
def shaSmall {w : Nat} (r : Nat × Nat × Nat) (x : BitVec w) : BitVec w :=
  x.rotateRight r.1 ^^^ x.rotateRight r.2.1 ^^^ (x >>> r.2.2)

/-- One round over the eight working variables. -/
def shaRound {w : Nat} (p : ShaWidth) (k : BitVec w) : List (BitVec w) → List (BitVec w)
  | [a, b, c, d, e, f, g, h] =>
    let t1 := h + shaBig p.big1 e + ((e &&& f) ^^^ (~~~ e &&& g)) + k
    let t2 := shaBig p.big0 a + ((a &&& b) ^^^ (a &&& c) ^^^ (b &&& c))
    [t1 + t2, a, b, c, d + t1, e, f, g]
  | v => v

/-- The rounds of a block: the window holds the next 16 words of the message schedule. -/
def shaRounds {w : Nat} (p : ShaWidth) : List (BitVec w) → List (BitVec w) → List (BitVec w) → List (BitVec w)
  | [], _, v => v
  | k :: ks, win, v =>
    let word (i : Nat) := win.getD i 0
    let next := shaSmall p.small1 (word 14) + word 9 + shaSmall p.small0 (word 1) + word 0
    shaRounds p ks (win.drop 1 ++ [next]) (shaRound p (k + word 0) v)

/-- The hash value after one more block of 16 words. -/
def shaBlock {w : Nat} (p : ShaWidth) (ks : List (BitVec w)) (v : List (BitVec w)) (block : List (BitVec w)) :
    List (BitVec w) := (v.zip (shaRounds p ks block v)).map fun x => x.1 + x.2

/-- A message padded to blocks of 16 words of n bytes, its length in bits in the last two words. -/
def shaPad (n : Nat) (m : List Byte) : List Byte :=
  m ++ [0x80#8] ++ List.replicate ((16 * n - (m.length + 1 + 2 * n) % (16 * n)) % (16 * n)) 0#8 ++
    beBytes (2 * n) (8 * m.length)

/-- Bytes cut into k pieces of n. -/
def pieces (n : Nat) : Nat → List Byte → List (List Byte)
  | 0, _ => []
  | k + 1, m => m.take n :: pieces n k (m.drop n)

/-- The final hash value over words of n bytes, as bytes. -/
def shaDigest (n : Nat) (p : ShaWidth) (ks init : List (BitVec (8 * n))) (m : List Byte) : List Byte :=
  let bytes := shaPad n m
  let blocks := (pieces (16 * n) (bytes.length / (16 * n)) bytes).map fun b =>
    (pieces n 16 b).map fun x => BitVec.ofNat (8 * n) (ofBeBytes x)
  (blocks.foldl (shaBlock p ks) init).flatMap fun x => beBytes n x.toNat

def sha256 (m : List Byte) : List Byte := shaDigest 4 sha32 (topHalves (shaKs.take 64)) (topHalves (shaRoots.take 8)) m
def sha512 (m : List Byte) : List Byte := shaDigest 8 sha64 shaKs (shaRoots.take 8) m
def sha384 (m : List Byte) : List Byte := (shaDigest 8 sha64 shaKs (shaRoots.drop 8) m).take 48

/-! ### SHA3-256 -/

/-- The bits of the feedback shift register x^8 + x^6 + x^5 + x^4 + 1 of FIPS 202, from a state on. -/
def keccakLfsr : Nat → Nat → List Bool
  | 0, _ => []
  | n + 1, r => r.testBit 0 :: keccakLfsr n (if r.testBit 7 then 2 * r ^^^ 0x171 else 2 * r)

/-- The constant of one round from its seven bits, bit j at place 2^j - 1. -/
def keccakConstant (bits : List Bool) : BitVec 64 :=
  (List.range 7).foldl (fun v j => if bits.getD j false then v ||| 1#64 <<< (2 ^ j - 1) else v) 0#64

/-- The constants of the last step of each of the 24 rounds of Keccak-f[1600]. -/
def keccakConstants : List (BitVec 64) :=
  (List.range 24).map fun i => keccakConstant ((keccakLfsr 168 1).drop (7 * i))

/-- The walk over the lanes that gives their rotations: step t rotates its lane by (t + 1)(t + 2) / 2. -/
def keccakWalk : Nat → Nat → Nat × Nat → List (Nat × Nat)
  | 0, _, _ => []
  | n + 1, t, (x, y) => (x + 5 * y, (t + 1) * (t + 2) / 2 % 64) :: keccakWalk n (t + 1) (y, (2 * x + 3 * y) % 5)

/-- The rotation of lane x + 5y; that of lane 0 is 0. -/
def keccakRotations : List Nat :=
  (List.range 25).map fun i => (((keccakWalk 24 0 (1, 0)).find? fun e => e.1 == i).map (·.2)).getD 0

/-- One round over 25 lanes, lane x + 5y. -/
def keccakRound (a : List (BitVec 64)) (rc : BitVec 64) : List (BitVec 64) :=
  let c := (List.range 5).map fun x => (List.range 5).foldl (fun v y => v ^^^ a.getD (x + 5 * y) 0) 0
  let d := (List.range 5).map fun x => c.getD ((x + 4) % 5) 0 ^^^ (c.getD ((x + 1) % 5) 0).rotateLeft 1
  let e := (List.range 25).map fun i => (a.getD i 0 ^^^ d.getD (i % 5) 0).rotateLeft (keccakRotations.getD i 0)
  let b := (List.range 25).map fun i => e.getD ((i % 5 + 3 * (i / 5)) % 5 + 5 * (i % 5)) 0
  let f := (List.range 25).map fun i =>
    b.getD i 0 ^^^ (~~~ b.getD ((i % 5 + 1) % 5 + 5 * (i / 5)) 0 &&& b.getD ((i % 5 + 2) % 5 + 5 * (i / 5)) 0)
  (f.getD 0 0 ^^^ rc) :: f.drop 1

/-- Keccak-f[1600]. -/
def keccak (a : List (BitVec 64)) : List (BitVec 64) := keccakConstants.foldl keccakRound a

/-- The 17 lanes of a block of 136 bytes taken in. -/
def sha3Absorb (a : List (BitVec 64)) (block : List Byte) : List (BitVec 64) :=
  let lanes := (pieces 8 17 block).map fun x => BitVec.ofNat 64 (ofLeBytes x)
  keccak ((List.range 25).map fun i => a.getD i 0 ^^^ lanes.getD i 0)

/-- A message padded to blocks of 136 bytes. -/
def sha3Pad (m : List Byte) : List Byte :=
  let n := 136 - m.length % 136
  m ++ if n = 1 then [0x86#8] else [0x06#8] ++ List.replicate (n - 2) 0#8 ++ [0x80#8]

/-- SHA3-256. -/
def sha3 (m : List Byte) : List Byte :=
  let bytes := sha3Pad m
  (((pieces 136 (bytes.length / 136) bytes).foldl sha3Absorb (List.replicate 25 0)).take 4).flatMap fun x =>
    leBytes 8 x.toNat

end Sys2Proof.Machine
end

