-- ==== Sys2Proof/Machine/BigNumber.lean ====
section
/-!
DEFINITION. The big-number engine (chapter 13): ports, operand slots, the commands with their validation and results,
microcode, and the registers of the BNE block.
-/
namespace Sys2Proof.Machine

/-! ### A command's fields (R357, R360) -/

namespace Bne
abbrev ecdsaVer : Nat := 0x1
abbrev ed25519Ver : Nat := 0x2
abbrev ptCheck : Nat := 0x3
abbrev rsaPub : Nat := 0x4
abbrev anchCmp : Nat := 0x5
abbrev modMul : Nat := 0x8
abbrev modExp : Nat := 0x9
abbrev modInv : Nat := 0xA
abbrev modRed : Nat := 0xB
abbrev uCheck : Nat := 0xF
end Bne

def BneCommand.op (c : BneCommand) : Nat := bitsAt c.cmd0 24 4
def BneCommand.curve (c : BneCommand) : Nat := bitsAt c.cmd0 20 4
def BneCommand.k (c : BneCommand) : Nat := bitsAt c.cmd0 12 8
def BneCommand.ksrc (c : BneCommand) : Bool := bitAt c.cmd0 11
def BneCommand.anch (c : BneCommand) : Nat := bitsAt c.cmd0 0 4
def BneCommand.sa (c : BneCommand) : Nat := bitsAt c.cmd1 25 5
def BneCommand.sb (c : BneCommand) : Nat := bitsAt c.cmd1 20 5
def BneCommand.sc (c : BneCommand) : Nat := bitsAt c.cmd1 15 5
def BneCommand.sd (c : BneCommand) : Nat := bitsAt c.cmd1 10 5
def BneCommand.sx (c : BneCommand) : Nat := bitsAt c.cmd1 5 5

/-- The key comes from an anchor entry in place of slot A. -/
def BneCommand.anchored (c : BneCommand) : Bool :=
  c.ksrc && (c.op == Bne.ecdsaVer || c.op == Bne.ed25519Ver || c.op == Bne.ptCheck)

/-- The input slots that the table of R360 gives a command, with the words that it reads of each. -/
def BneCommand.inputs (c : BneCommand) : List (Nat × Nat) :=
  let kc := match c.curve with
    | 1 => 4
    | 2 => 6
    | 3 => 9
    | _ => 4
  let key := fun n => if c.anchored then [] else [(c.sa, n)]
  match c.op with
  | 0x1 => key (2 * kc) ++ [(c.sb, 2 * kc), (c.sc, kc)]
  | 0x2 => key 4 ++ [(c.sb, 8), (c.sc, 8)]
  | 0x3 => key (if c.curve = 4 then 4 else 2 * kc)
  | 0x4 => [(c.sa, c.k), (c.sb, c.k), (c.sc, 1)]
  | 0x5 => [(c.sa, 6)]
  | 0x8 => [(c.sa, c.k), (c.sb, c.k), (c.sc, c.k)]
  | 0x9 => [(c.sa, c.k), (c.sb, c.k), (c.sc, c.k)]
  | 0xA => [(c.sa, c.k), (c.sb, c.k)]
  | 0xB => [(c.sa, c.k), (c.sb, 2 * c.k)]
  | _ => []

/-- The output and scratch slots of a command. -/
def BneCommand.outputs (c : BneCommand) : List Nat :=
  match c.op with
  | 0x1 => [c.sx]
  | 0x2 => [c.sx]
  | 0x4 => [c.sd, c.sx]
  | 0x8 => [c.sd, c.sx]
  | 0x9 => [c.sd, c.sx]
  | 0xA => [c.sd, c.sx]
  | 0xB => [c.sd]
  | _ => []

/-- Every slot that a command names. -/
def BneCommand.slots (c : BneCommand) : List Nat := c.inputs.map (·.1) ++ c.outputs

/-- A slot lies in the range that a port owns (R355). -/
def ownsSlot (p slot : Nat) : Bool := (p == 0) == decide (slot < 24)

/-- The K range of R360, where the command has one. -/
def BneCommand.kInRange (c : BneCommand) : Bool :=
  match c.op with
  | 0x4 => decide (16 ≤ c.k) && decide (c.k ≤ 128)
  | 0x8 => decide (1 ≤ c.k) && decide (c.k ≤ 128)
  | 0x9 => decide (1 ≤ c.k) && decide (c.k ≤ 128)
  | 0xA => decide (1 ≤ c.k) && decide (c.k ≤ 128)
  | 0xB => decide (1 ≤ c.k) && decide (c.k ≤ 64)
  | _ => true

/-- The listed codes: OP, and CURVE where the command uses it (R360, R368). -/
def BneCommand.listed (c : BneCommand) : Bool :=
  match c.op with
  | 0x1 => decide (1 ≤ c.curve) && decide (c.curve ≤ 3)
  | 0x3 => decide (1 ≤ c.curve) && decide (c.curve ≤ 4)
  | o => o == 0x2 || o == 0x4 || o == 0x5 || o == 0x8 || o == 0x9 || o == 0xA || o == 0xB || o == 0xF

/-- The form that R357 asks for. -/
def BneCommand.wellFormed (c : BneCommand) : Bool :=
  c.listed && c.kInRange && c.slots.all (ownsSlot c.port) &&
    c.outputs.all (fun o => c.slots.countP (· == o) == 1) &&
    !(c.ksrc && (c.op == 0x8 || c.op == 0x9 || c.op == 0xA || c.op == 0xB)) &&
    !(!c.ksrc && c.op == 0x5) && !(c.op == 0xF && c.port == 1)

/-- The commands of the mask-ROM kernel (R364): they need no microcode. -/
def BneCommand.inRom (c : BneCommand) : Bool := c.op == 0xF || (c.op == 0x1 && c.curve == 2)

/-! ### Slots, header and store -/

/-- 32-bit word i of a slot. -/
def State.slotWord32 (s : State) (slot i : Nat) : Word := s.rd (Reg.BNE_OPMEM (256 * slot + i))

/-- The number of w 64-bit words from word i of a slot (R356). -/
def State.slotNumber (s : State) (slot i w : Nat) : Nat :=
  ofLeBytes ((List.range (2 * w)).flatMap fun j => leBytes 4 (s.slotWord32 slot (2 * i + j)).toNat)

/-- The first n bytes of a slot. -/
def State.slotBytes (s : State) (slot n : Nat) : List Byte :=
  ((List.range ((n + 3) / 4)).flatMap fun j => leBytes 4 (s.slotWord32 slot j).toNat).take n

/-- A number written into w words of a slot. -/
def State.writeSlot (s : State) (slot w v : Nat) : State :=
  s.wrWords (Reg.BNE_OPMEM (256 * slot)) ((List.range (2 * w)).map fun i => BitVec.ofNat 32 (v / 2 ^ (32 * i)))

/-- A slot with undefined contents (R367, log entry 2). -/
def State.scribble (s : State) (slot : Nat) : State :=
  let t := s.wrWords (Reg.BNE_OPMEM (256 * slot))
    ((List.range 128).flatMap fun i => [lo32 (Config.freeValue (s.free + i)), hi32 (Config.freeValue (s.free + i))])
  { t with free := s.free + 128 }

/-- The bytes of the microcode header and of the store (R368). -/
def State.uHeader (s : State) : List Byte := (List.range 64).flatMap fun i => leBytes 4 (s.rd (Reg.BNE_UHDR i)).toNat
def State.uStore (s : State) (n : Nat) : List Byte :=
  ((List.range ((n + 3) / 4)).flatMap fun i => leBytes 4 (s.rd (Reg.BNE_UCODE i)).toNat).take n

/-- UVALID. -/
def State.uValid (s : State) : Bool := s.flag Reg.BNE_STATUS 4

/-- The valid microcode is lost (R364): source 171 is raised. -/
def State.uInvalid (s : State) : State := ((s.setFlag Reg.BNE_STATUS 4 false).setFld Reg.BNE_UINFO 0 16 0).raise 171

/-! ### Validation and results (R360 to R362, R364) -/

/-- An anchor entry of one of the types. -/
def State.anchorOf (s : State) (e : Nat) (types : List Nat) : Option (Nat × List Byte) :=
  match s.cry.anchors.find? fun a => a.1 == e with
  | some (_, ty, data) => if types.contains ty then some (ty, data) else none
  | none => none

/-- The first of several checks that fails. -/
def firstFailed : List (Option Nat) → Option Nat
  | [] => none
  | some e :: _ => some e
  | none :: cs => firstFailed cs

/-- A check that fails with a status unless its condition holds. -/
def unlessOk (ok : Bool) (status : Nat) : Option Nat := if ok then none else some status

/-- The curve of a CURVE code, and the anchor type that fits it. -/
def curveOf (code : Nat) : Curve := if code = 1 then curveP256 else if code = 3 then curveP521 else curveP384
def curveAnchor (code : Nat) : List Nat := if code = 1 then [1] else if code = 2 then [2] else []

/-- The coordinates of a command's public point: from the anchor as x ‖ y big-endian, or from slot A. -/
def State.bnePoint (s : State) (c : BneCommand) : Nat × Nat :=
  let cv := curveOf c.curve
  if c.ksrc then
    match s.anchorOf c.anch (curveAnchor c.curve) with
    | some (_, d) => (ofBeBytes (d.take (8 * cv.k)), ofBeBytes ((d.drop (8 * cv.k)).take (8 * cv.k)))
    | none => (0, 0)
  else (s.slotNumber c.sa 0 cv.k, s.slotNumber c.sa cv.k cv.k)

/-- The Ed25519 encoding of a command's public key. -/
def State.bneEncoding (s : State) (c : BneCommand) : Nat :=
  if c.ksrc then
    match s.anchorOf c.anch [3] with
    | some (_, d) => ofLeBytes (d.take 32)
    | none => 0
  else s.slotNumber c.sa 0 4

/-- The anchor check: written and of a type that fits. -/
def State.anchorCheck (s : State) (c : BneCommand) (types : List Nat) : Option Nat :=
  if c.ksrc then unlessOk (s.anchorOf c.anch types).isSome 0x06 else none

/-- The hash of n and e equals the anchor (R361, R363). -/
def State.rsaHashCheck (s : State) (c : BneCommand) : Option Nat :=
  if c.ksrc = false then none
  else
    let bytes := beBytes (8 * c.k) (s.slotNumber c.sa 0 c.k) ++ beBytes 8 (s.slotNumber c.sc 0 1)
    match s.anchorOf c.anch [4, 5] with
    | none => none
    | some (ty, d) =>
      if ty = 4 then unlessOk (sha256 bytes == d.take 32) 0x07 else unlessOk (sha384 bytes == d.take 48) 0x07

/-- A field of the microcode header. -/
def State.uField (s : State) (off n : Nat) : Nat := ofLeBytes ((s.uHeader.drop off).take n)

/-- The digest that UCHECK computes (R364). -/
def State.uDigest (s : State) : List Byte := sha384 (s.uHeader.take 0x60 ++ s.uStore (s.uField 8 4))

/-- Key, r and s of the microcode signature: anchor entry 0, SIG big-endian. -/
def State.uKey (s : State) : Nat × Nat :=
  match s.anchorOf 0 [2] with
  | some (_, d) => (ofBeBytes (d.take 48), ofBeBytes ((d.drop 48).take 48))
  | none => (0, 0)
def State.uSig (s : State) : Nat × Nat :=
  (ofBeBytes ((s.uHeader.drop 0x60).take 48), ofBeBytes ((s.uHeader.drop 0x90).take 48))

/-- The validation of UCHECK (R364): header, version, then the checks of R361. -/
def State.uValidate (s : State) : Option Nat :=
  let len := s.uField 8 4
  firstFailed
    [ unlessOk (s.uField 0 4 == 0x424E4531 && len % 8 == 0 && decide (8 ≤ len) && decide (len ≤ 65536)) 0x09,
      unlessOk (decide (s.fld Reg.BNE_UINFO 16 16 ≤ s.uField 4 2)) 0x0E,
      unlessOk (s.anchorOf 0 [2]).isSome 0x06,
      curveP384.checkPoint s.uKey.1 s.uKey.2,
      curveP384.checkSignature s.uSig.1 s.uSig.2 ]

/-- The checks of a modulus and its operands (R361). -/
def State.modValidate (s : State) (c : BneCommand) : Option Nat :=
  let m := s.slotNumber c.sa 0 c.k
  let a := s.slotNumber c.sb 0 (if c.op = Bne.modRed then 2 * c.k else c.k)
  firstFailed
    [ unlessOk (m % 2 == 1 && decide (1 < m)) 0x03,
      unlessOk (!(c.op == Bne.modInv && a == 0)) 0x02,
      unlessOk (c.op == Bne.modRed || decide (a < m)) 0x03,
      unlessOk (c.op != Bne.modMul || decide (s.slotNumber c.sc 0 c.k < m)) 0x03 ]

/-- The validation phase of R361: the status of the first failed check. -/
def State.bneValidate (s : State) (c : BneCommand) : Option Nat :=
  let cv := curveOf c.curve
  let pt := s.bnePoint c
  let ed := fun (e : Nat) => if edP ≤ edY e then some 0x03 else none
  let dec := fun (e : Nat) => unlessOk (edDecode e).isSome 0x04
  let key := s.bneEncoding c
  let rr := s.slotNumber c.sb 0 4
  let neutral := unlessOk (edDecode key != some (0, 1)) 0x02
  match c.op with
  | 0x1 => firstFailed [s.anchorCheck c (curveAnchor c.curve), cv.checkPoint pt.1 pt.2,
      cv.checkSignature (s.slotNumber c.sb 0 cv.k) (s.slotNumber c.sb cv.k cv.k)]
  | 0x2 => firstFailed [s.anchorCheck c [3], ed key, ed rr, dec key, dec rr, neutral,
      unlessOk (decide (0 < s.slotNumber c.sb 4 4) && decide (s.slotNumber c.sb 4 4 < edL)) 0x05]
  | 0x3 =>
    if c.curve = 4 then firstFailed [s.anchorCheck c [3], ed key, dec key, neutral]
    else firstFailed [s.anchorCheck c (curveAnchor c.curve), cv.checkPoint pt.1 pt.2]
  | 0x4 =>
    let n := s.slotNumber c.sa 0 c.k
    let e := s.slotNumber c.sc 0 1
    let m := s.slotNumber c.sb 0 c.k
    firstFailed [s.anchorCheck c [4, 5], s.rsaHashCheck c,
      unlessOk (n % 2 == 1 && n.testBit (64 * c.k - 1)) 0x03, unlessOk (e % 2 == 1 && decide (3 ≤ e)) 0x03,
      unlessOk (m != 0) 0x02, unlessOk (decide (m < n)) 0x03]
  | 0x5 => s.anchorCheck c [4, 5]
  | 0xF => s.uValidate
  | _ => s.modValidate c

/-- The status of a command whose checks passed, and the number that it leaves in slot D with its words (R360). -/
def State.bneResult (s : State) (c : BneCommand) : Nat × Option (Nat × Nat) :=
  let cv := curveOf c.curve
  let pt := s.bnePoint c
  let m := s.slotNumber c.sa 0 c.k
  let a := s.slotNumber c.sb 0 c.k
  let b := s.slotNumber c.sc 0 c.k
  match c.op with
  | 0x1 =>
    (if cv.ecdsa pt.1 pt.2 (s.slotNumber c.sb 0 cv.k) (s.slotNumber c.sb cv.k cv.k) (s.slotNumber c.sc 0 cv.k) then 0
      else 1, none)
  | 0x2 =>
    match edDecode (s.bneEncoding c), edDecode (s.slotNumber c.sb 0 4) with
    | some ka, some r => (if edVerify ka r (s.slotNumber c.sb 4 4) (s.slotNumber c.sc 0 8) then 0 else 1, none)
    | _, _ => (1, none)
  | 0x4 => (0, some (powMod m a (s.slotNumber c.sc 0 1) 64, c.k))
  | 0x5 =>
    match s.anchorOf c.anch [4, 5] with
    | some (ty, d) =>
      let n := if ty = 4 then 32 else 48
      (if s.slotBytes c.sa n = d.take n then 0 else 7, none)
    | none => (6, none)
  | 0x8 => (0, some (a * b % m, c.k))
  | 0x9 => (0, some (powMod m a b (64 * c.k), c.k))
  | 0xA => if Nat.gcd a m = 1 then (0, some (invMod (64 * c.k) m a, c.k)) else (8, none)
  | 0xB => (0, some (s.slotNumber c.sb 0 (2 * c.k) % m, c.k))
  | 0xF =>
    (if curveP384.ecdsa s.uKey.1 s.uKey.2 s.uSig.1 s.uSig.2 (ofBeBytes s.uDigest) then 0 else 1, none)
  | _ => (0, none)

/-! ### Durations in ns (R363) -/

/-- Montgomery multiplication, and the blocks of a hash. -/
def bneMm (k : Nat) : Nat := (k * k + 1) / 2 + 3 * k + 24
def ceilDiv (a b : Nat) : Nat := (a + b - 1) / b

/-- The validation phase, exact at 1.0 GHz. -/
def State.bneValidation (s : State) (c : BneCommand) : Nat :=
  let curve := if c.curve = 1 then 800 else if c.curve = 2 then 1000 else 1500
  match c.op with
  | 0x1 => curve
  | 0x2 => 24000
  | 0x3 => if c.curve = 4 then 12000 else curve
  | 0x4 =>
    let hash := match s.anchorOf c.anch [4, 5] with
      | some (4, _) => 2000 * ceilDiv (8 * c.k + 17) 64
      | _ => 2600 * ceilDiv (8 * c.k + 25) 128
    300 + 5 * c.k + (if c.ksrc then hash else 0)
  | 0x5 => 300
  | 0xF => 1000 + 2600 * ceilDiv (s.uField 8 4 + 113) 128
  | _ => 200 + 5 * c.k

/-- The bits that e has, and those that are 1. -/
def bitLength (e : Nat) : Nat := if e = 0 then 0 else e.log2 + 1
def popCount (n e : Nat) : Nat := (List.range n).countP e.testBit

/-- The shortest and the longest duration of the whole command. -/
def State.bneDuration (s : State) (c : BneCommand) : Nat × Nat :=
  let v := s.bneValidation c
  let power := fun (e n : Nat) => v + (bitLength e + popCount n e + 1) * bneMm c.k
  let blocks := 2600 * ceilDiv (s.uField 8 4 + 113) 128
  match c.op with
  | 0x1 => (v, if c.curve = 1 then 230000 else if c.curve = 2 then 470000 else 980000)
  | 0x2 => (v, 275000)
  | 0x3 => (v + 50, v + 50)
  | 0x4 => (power (s.slotNumber c.sc 0 1) 64, power (s.slotNumber c.sc 0 1) 64)
  | 0x5 => (300, 300)
  | 0x8 => (v + 4 * bneMm c.k, v + 4 * bneMm c.k)
  | 0x9 => (power (s.slotNumber c.sc 0 c.k) (64 * c.k), power (s.slotNumber c.sc 0 c.k) (64 * c.k))
  | 0xA => (v, v + 128 * c.k * (ceilDiv c.k 4 + 2))
  | 0xB => (v + 3 * bneMm c.k, v + 3 * bneMm c.k)
  | _ => (v, blocks + 470000)

/-- A duration between two bounds: free where they differ (log entry 2). -/
def State.freeBetween (s : State) (lo hi : Nat) : Nat := if lo = hi then lo else lo + s.draw.toNat % (hi + 1 - lo)
def State.drawnBetween (s : State) (lo hi : Nat) : State := if lo = hi then s else s.drawn

/-! ### Completion (R362) -/

/-- PEND, RUNNING and RUNPORT of BNE_STATUS. -/
def State.showBne (s : State) : State :=
  let pend := s.bne.pending.foldl (fun m c => m + 2 ^ c.port) 0
  let t := (s.setFld Reg.BNE_STATUS 0 2 pend).setFlag Reg.BNE_STATUS 2 s.bne.running.isSome
  match s.bne.running with
  | some (c, _) => t.setFlag Reg.BNE_STATUS 3 (c.port == 1)
  | none => t

/-- A command of a port completes: DONE, BUSY, STATUS, SEQ, TIME and the port's event. -/
def State.bneComplete (s : State) (p status ns : Nat) : State :=
  let t := s.advance (Reg.BNE_P_RES p) 0 16
  let t := (t.setFld (Reg.BNE_P_RES p) 30 2 1).setFld (Reg.BNE_P_RES p) 16 8 status
  (t.wr (Reg.BNE_P_TIME p) (BitVec.ofNat 32 (min ns (2 ^ 32 - 1)))).raise (168 + p)

/-- A command that completes without having started: its duration from a start is open (log entry 2). -/
def State.bneRefuse (s : State) (p status : Nat) : State := s.drawn.bneComplete p status (s.draw.toNat % 2 ^ 32)

/-- Every pending command completes with UNAVAIL (R365). -/
def State.bneDropPending (s : State) : State :=
  let t := s.bne.pending.foldl (fun u c => u.bneRefuse c.port 0x0B) { s with bne := { s.bne with pending := [] } }
  t.showBne

/-- The running command leaves the engine with a status: a failed UCHECK clears UVALID (R364). -/
def State.bneEnd (s : State) (c : BneCommand) (status ns : Nat) : State :=
  let t := { s with bne := { s.bne with running := none } }
  let t := (t.bneComplete c.port status ns).showBne
  if c.op = Bne.uCheck ∧ status ≠ 0 then t.uInvalid else t

/-- A submission (R357, R362, R364): refused with a command pending or running on the port; UNAVAIL, FORMAT and NO_UCODE
end it at once. -/
def State.bneSubmit (s : State) (p : Nat) : State :=
  let c : BneCommand := ⟨p, s.rd (Reg.BNE_P_CMD0 p), s.rd (Reg.BNE_P_CMD1 p)⟩
  if s.flag (Reg.BNE_P_RES p) 31 then s.error Reg.BNE_ERR 2 174
  else
    let t := s.setFld (Reg.BNE_P_RES p) 30 2 2
    if s.flag Reg.BNE_CTRL 0 = false ∨ s.pd PD_BNE ≠ pdOn then t.bneRefuse p 0x0B
    else if c.wellFormed = false then t.bneRefuse p 0x09
    else if s.uValid = false ∧ c.inRom = false then t.bneRefuse p 0x0A
    else State.showBne { t with bne := { t.bne with pending := t.bne.pending ++ [c] } }

/-- A write of BNE_Pp_CMD0, _CMD1, _RES or _TIME: only the port's owner writes (R355). -/
def State.writeBnePort (s : State) (ag : Agent) (p off : Nat) (v : Word) : State :=
  if isHost ag ≠ (p == 1) then s.error Reg.BNE_ERR 1 174
  else
    let t := s.plainWrite off v
    if off = Reg.BNE_P_CMD0 p ∧ bitAt v 31 then t.bneSubmit p else t

/-- A submission of one of the commands of R360: the write of CMD0 with GO and its OP code. -/
def State.bneCommand (s : State) (ag : Agent) (p : Fin 2) (v : Word) (op : Nat) : State :=
  let w := putBits (putBit v 31 true) 24 4 op
  s.writeAccess ag (Reg.BNE_P_CMD0 p.val) w fun t => t.writeBnePort ag p.val (Reg.BNE_P_CMD0 p.val) w

/-- ECDSA_VER (R357, R360). -/
def execEcdsaVer (ag : Agent) (p : Fin 2) (v : Word) (s : State) : Host.Outcome State Fault Refusal :=
  .next (s.bneCommand ag p v Bne.ecdsaVer)

/-- ED25519_VER (R357, R360). -/
def execEd25519Ver (ag : Agent) (p : Fin 2) (v : Word) (s : State) : Host.Outcome State Fault Refusal :=
  .next (s.bneCommand ag p v Bne.ed25519Ver)

/-- PTCHECK (R357, R360). -/
def execPtcheck (ag : Agent) (p : Fin 2) (v : Word) (s : State) : Host.Outcome State Fault Refusal :=
  .next (s.bneCommand ag p v Bne.ptCheck)

/-- RSA_PUB (R357, R360). -/
def execRsaPub (ag : Agent) (p : Fin 2) (v : Word) (s : State) : Host.Outcome State Fault Refusal :=
  .next (s.bneCommand ag p v Bne.rsaPub)

/-- ANCHCMP (R357, R360). -/
def execAnchcmp (ag : Agent) (p : Fin 2) (v : Word) (s : State) : Host.Outcome State Fault Refusal :=
  .next (s.bneCommand ag p v Bne.anchCmp)

/-- MODMUL (R357, R360). -/
def execModmul (ag : Agent) (p : Fin 2) (v : Word) (s : State) : Host.Outcome State Fault Refusal :=
  .next (s.bneCommand ag p v Bne.modMul)

/-- MODEXP (R357, R360). -/
def execModexp (ag : Agent) (p : Fin 2) (v : Word) (s : State) : Host.Outcome State Fault Refusal :=
  .next (s.bneCommand ag p v Bne.modExp)

/-- MODINV (R357, R360). -/
def execModinv (ag : Agent) (p : Fin 2) (v : Word) (s : State) : Host.Outcome State Fault Refusal :=
  .next (s.bneCommand ag p v Bne.modInv)

/-- MODRED (R357, R360). -/
def execModred (ag : Agent) (p : Fin 2) (v : Word) (s : State) : Host.Outcome State Fault Refusal :=
  .next (s.bneCommand ag p v Bne.modRed)

/-- UCHECK (R357, R364). -/
def execUcheck (ag : Agent) (p : Fin 2) (v : Word) (s : State) : Host.Outcome State Fault Refusal :=
  .next (s.bneCommand ag p v Bne.uCheck)

/-- BNE_COMMAND_START (R358): with both ports pending the engine takes them alternately; a command whose microcode has
become invalid ends with NO_UCODE (R364). -/
def execBneCommandStart (s : State) : Host.Outcome State Fault Refusal :=
  let chosen := match s.bne.pending.find? (·.port == s.bne.next) with
    | some c => some c
    | none => s.bne.pending.head?
  .next (match chosen with
    | none => s
    | some c =>
      if s.bne.running.isSome ∨ s.pd PD_BNE ≠ pdOn ∨ PD_BNE ∈ s.cpm.inReset then s
      else
        let t := { s with bne := { s.bne with pending := s.bne.pending.filter (· != c), next := 1 - c.port } }
        if s.uValid = false ∧ c.inRom = false then (t.bneRefuse c.port 0x0A).showBne
        else State.showBne { t with bne := { t.bne with running := some (c, false) } })

/-- BNE_VALIDATION_END (R361): the first failed check ends the command; otherwise it goes on, and its output and scratch
slots are undefined until it completes (R359). -/
def execBneValidationEnd (s : State) : Host.Outcome State Fault Refusal :=
  .next (match s.bne.running with
    | some (c, false) =>
      match s.bneValidate c with
      | some e => s.bneEnd c e (s.bneValidation c)
      | none =>
        let t := c.outputs.foldl State.scribble s
        { t with bne := { t.bne with running := some (c, true) } }
    | _ => s)

/-- The end of a command whose checks passed (R362, R364, R367). -/
def State.bneFinish (s : State) (c : BneCommand) : State :=
  let r := s.bneResult c
  let d := s.bneDuration c
  let ns := s.freeBetween d.1 d.2
  let t := s.drawnBetween d.1 d.2
  let t := c.outputs.foldl State.scribble t
  let t := match r.2 with
    | some (v, k) => t.writeSlot c.sd k v
    | none => t
  let t := t.bneEnd c r.1 ns
  if c.op = Bne.uCheck ∧ r.1 = 0 then
    ((t.setFlag Reg.BNE_STATUS 4 true).setFld Reg.BNE_UINFO 0 16 (s.uField 4 2)).raise 170
  else t

/-- The 64-bit word at a byte of the arrays keeps its bad value until it is rewritten (R366): a mark for each half. -/
def State.markBne (s : State) (addr : Nat) : State :=
  { s with rel := { s.rel with poison := s.rel.poison.filter (fun m => !(m.1 == memBne && m.2 / 8 == addr / 8)) ++
      [(memBne, addr / 8 * 8), (memBne, addr / 8 * 8 + 4)] } }

/-- The first bad half among n bytes of the arrays. -/
def State.bneBad (s : State) (a n : Nat) : Option Nat :=
  (s.rel.poison.find? fun m => m.1 == memBne && decide (a ≤ m.2) && decide (m.2 < a + n)).map (·.2)

/-- An uncorrectable error in operand memory or the store (R366): the running command ends with ECC, and one in the store
clears UVALID (R364). The address is the byte offset in the BNE block. -/
def State.bneEcc (s : State) (c : BneCommand) (validated : Bool) (addr : Nat) : State :=
  let t := s.drawn
  let t := if validated then c.outputs.foldl State.scribble t else t
  let t := (((t.eccReport memBne addr).markBne addr).bneEnd c 0x0C (s.draw.toNat % 2 ^ 32)).raise 173
  if 0x10000 ≤ addr ∧ c.op ≠ Bne.uCheck then t.uInvalid else t

/-- The places of a command's inputs that carry a poison mark (R366, R469): its slots, and the store where it runs
microcode. -/
def State.bnePoisoned (s : State) (c : BneCommand) : Option Nat :=
  match c.inputs.findSome? fun i => s.bneBad (0x8000 + 1024 * i.1) (8 * i.2) with
  | some a => some a
  | none => if c.inRom && c.op != Bne.uCheck then none else s.bneBad 0x10000 0x10000

/-- BNE_COMMAND_DONE (R362): the running command ends; before that it has corrected a number of single-bit errors, or met
an uncorrectable one at a byte of the arrays (R366). -/
def execBneCommandDone (corrected : Nat) (bad : Option (Fin 98304)) (s : State) : Host.Outcome State Fault Refusal :=
  .next (match s.bne.running with
    | none => s
    | some (c, validated) =>
      let t := s.bump Reg.BNE_ECCCNT 0 32 corrected
      match bad with
      | some a => t.bneEcc c validated (0x8000 + a.val)
      | none =>
        match s.bnePoisoned c with
        | some a => t.bneEcc c validated a
        | none => if validated then t.bneFinish c else s)

/-- A slot that a pending or running command names (R359). -/
def State.slotBusy (s : State) (slot : Nat) : Bool :=
  s.bne.pending.any (fun c => c.slots.contains slot) ||
    (match s.bne.running with
      | some (c, _) => c.slots.contains slot
      | none => false)

/-- A 32-bit write to one of the arrays of PD_BNE: that half of its word is rewritten (R366). -/
def State.bneStore (s : State) (off : Nat) (v : Word) : State :=
  let t := s.wr off v
  { t with rel := { t.rel with poison := t.rel.poison.filter (· != (memBne, off - 0xB00000)) } }

/-- A write to operand memory (R355, R359). -/
def State.writeOpmem (s : State) (ag : Agent) (off : Nat) (v : Word) : State :=
  let slot := (off - Reg.BNE_OPMEM 0) / 1024
  if isHost ag ≠ decide (24 ≤ slot) then s.error Reg.BNE_ERR 1 174
  else if s.slotBusy slot then s.error Reg.BNE_ERR 3 174
  else s.bneStore off v

/-- OPMEM_WRITE (R355). -/
def execOpmemWrite (ag : Agent) (i : Fin 8192) (v : Word) (s : State) : Host.Outcome State Fault Refusal :=
  .next (s.writeAccess ag (Reg.BNE_OPMEM i.val) v fun t => t.writeOpmem ag (Reg.BNE_OPMEM i.val) v)

/-- A write to the microcode header or store (R364): only service cores write. -/
def State.writeUcode (s : State) (ag : Agent) (off : Nat) (v : Word) : State :=
  if isHost ag then s
  else if s.bne.running.isSome then s.error Reg.BNE_ERR 4 174
  else
    let t := s.bneStore off v
    if s.uValid then t.uInvalid else t

/-- UCODE_WRITE (R364): word i of the header, or of the store. -/
def execUcodeWrite (ag : Agent) (header : Bool) (i : Fin 16384) (v : Word) (s : State) :
    Host.Outcome State Fault Refusal :=
  let off := if header then Reg.BNE_UHDR (i.val % 64) else Reg.BNE_UCODE i.val
  .next (s.writeAccess ag off v fun t => t.writeUcode ag off v)

/-! ### Power and reset (R358, R364, R365) -/

/-- PD_BNE shuts down: what has not started ends with UNAVAIL. -/
def State.bneShutdown (s : State) : State := s.bneDropPending

/-- The engine delays its acknowledgement of the handshake until no command runs. -/
def State.bneIdle (s : State) : Bool := s.bne.running.isNone

/-- A running command aborted by a reset or a loss of power. -/
def State.bneAbort (s : State) : State :=
  match s.bne.running with
  | none => s.bneDropPending
  | some (c, validated) =>
    let t := s.drawn
    let t := if validated then c.outputs.foldl State.scribble t else t
    (t.bneEnd c 0x0D (s.draw.toNat % 2 ^ 32)).bneDropPending.raise 172

/-- A reset of PD_BNE: port 0 is served first, and UVALID clears. -/
def State.bneReset (s : State) : State :=
  let t := s.bneAbort.uInvalid
  { t with bne := { t.bne with next := 0 } }

/-! ### Registers (R368) -/

/-- A write of a register of the BNE block that completes normally. -/
def State.bneWrite (s : State) (ag : Agent) (off : Nat) (v : Word) : State :=
  if Reg.BNE_UCODE 0 ≤ off then s.writeUcode ag off v
  else if Reg.BNE_OPMEM 0 ≤ off then s.writeOpmem ag off v
  else if Reg.BNE_UHDR 0 ≤ off then s.writeUcode ag off v
  else if Reg.BNE_P_CMD0 1 ≤ off then s.writeBnePort ag 1 off v
  else if Reg.BNE_P_CMD0 0 ≤ off then s.writeBnePort ag 0 off v
  else s.plainWrite off v

/-- A read of a register of the BNE block that completes normally. -/
def State.bneRead (s : State) (off : Nat) : Word × State := s.plainRead off

end Sys2Proof.Machine
end

