-- ==== Sys2Proof/Machine/TimeOps.lean ====
section
/-!
DEFINITION. Walzor time instructions (R109 to R112).
-/
namespace Sys2Proof.Machine

/-- The replica that an executor reads (R20, R109). -/
def replicaOf : Ctx → Nat
  | .tile p _ => replicaCluster (p.val / 9)
  | .core _ => replicaCores

/-- The furthest that a time read lies behind its replica: 2.5 ns in units of 2^-16 ns (R23). -/
abbrev maxLag : Nat := 163840

/-- The replica's time as a program reads it, a lag behind. -/
def State.timeRead (s : State) (x : Ctx) (lag : Nat) : CT96 :=
  ct96OfInt (((s.replica (replicaOf x)).count / 2 ^ 16 : Nat) - (lag : Int))

/-- TNOW: a read within 2.5 ns of device time (R23). -/
def execTnow (x : Ctx) (lag : Nat) (s : State) : Host.Outcome State Fault Refusal :=
  if maxLag < lag then .next s
  else .next (s.issue x encTnow noReads fun w s => .next (s.setT x (fRd w) (s.timeRead x lag)))

/-- TINGR: the starting t0, SUS from its stamp. -/
def execTingr (x : Ctx) (s : State) : Host.Outcome State Fault Refusal :=
  .next (s.issue x encTingr noReads fun w s =>
    .next ((s.setT x (fRd w) (s.tileCtx x).stamp.time).setSus x (s.marked (s.tileCtx x).stamp)))

/-- TMOV. -/
def execTmov (x : Ctx) (s : State) : Host.Outcome State Fault Refusal :=
  .next (s.issue x encTmov noReads fun w s => .next (s.setT x (fRd w) (s.t x (fRa w))))

/-- A time outside SEC 0 to 2^48 - 1, in units of 2^-16 ns (R109). -/
def outsideTime (q : Int) : Bool := decide (q < 0) || decide (((2 ^ 48 * (10 ^ 9 * 2 ^ 16) : Nat) : Int) ≤ q)

/-- TADD: td = ta + gb, normalised; OV when the result wraps. -/
def execTadd (x : Ctx) (s : State) : Host.Outcome State Fault Refusal :=
  .next (s.issue x encTadd readsB fun w s =>
    let q : Int := ct96ToFrac (s.t x (fRa w)) + (s.g x (fRb w)).toInt
    .next ((s.setT x (fRd w) (ct96OfInt q)).setOv x (outsideTime q)))

/-- A signed 64-bit value, saturated. -/
def saturate64 (v : Int) : Word64 := BitVec.ofInt 64 (max (-(2 ^ 63)) (min (2 ^ 63 - 1) v))

/-- TSUB: gd = ta - tb, saturated with OV outside the signed 64-bit range. -/
def execTsub (x : Ctx) (s : State) : Host.Outcome State Fault Refusal :=
  .next (s.issue x encTsub noReads fun w s =>
    let d : Int := ct96ToFrac (s.t x (fRa w)) - ct96ToFrac (s.t x (fRb w))
    .next ((s.setG x (fRd w) (saturate64 d)).setOv x (outside64 d)))

/-- TSET: SEC = ga[47:0], NS = gb[47:16], FRAC = gb[15:0]; T_FMT on an invalid NS. -/
def execTset (x : Ctx) (s : State) : Host.Outcome State Fault Refusal :=
  .next (s.issue x encTset readsAB fun w s =>
    let v : CT96 := BitVec.ofNat 96 ((s.g x (fRa w)).toNat % 2 ^ 48 * 2 ^ 48 + (s.g x (fRb w)).toNat % 2 ^ 48)
    if ct96Valid v then .next (s.setT x (fRd w) v) else .fault s fltTFmt 0 0)

/-- A function of a time register into a general register. -/
def State.timeFn (s : State) (x : Ctx) (e : Enc) (f : State → CT96 → Word64) : State :=
  s.issue x e noReads fun w s => .next (s.setG x (fRd w) (f s (s.t x (fRa w))))

/-- TGSEC. -/
def execTgsec (x : Ctx) (s : State) : Host.Outcome State Fault Refusal :=
  .next (s.timeFn x encTgsec fun _ t => BitVec.ofNat 64 (ct96Sec t))

/-- TGNS: (NS << 16) | FRAC. -/
def execTgns (x : Ctx) (s : State) : Host.Outcome State Fault Refusal :=
  .next (s.timeFn x encTgns fun _ t => BitVec.ofNat 64 (t.toNat % 2 ^ 48))

/-- TCF (R54). -/
def execTcf (x : Ctx) (s : State) : Host.Outcome State Fault Refusal :=
  .next (s.timeFn x encTcf fun _ t => cf64OfCt96 t)

/-- TNTP (R63, R110). -/
def execTntp (x : Ctx) (s : State) : Host.Outcome State Fault Refusal :=
  .next (s.timeFn x encTntp fun s t => BitVec.ofNat 64 (ntpOf (s.cal.utc.formatted t)))

/-- The NTP era of an unsmeared count of seconds (R63). -/
def ntpEra (u : Int) : Int := (u + 2208988800).fdiv (2 ^ 32)

/-- The layout of TUTC (R109). -/
def utcWord (u : Utc) (t : CT96) : Word64 :=
  let sec := u.seconds (ct96Sec t)
  BitVec.ofNat 64 ((sec % 2 ^ 48).toNat + u.leapPend (ct96Sec t) * 2 ^ 48
    + ofBool (u.expired (ct96Sec t)) * 2 ^ 50 + ofBool (u.smearAmount t != 0) * 2 ^ 51
    + (ntpEra sec % 256).toNat * 2 ^ 56)

/-- TUTC. -/
def execTutc (x : Ctx) (s : State) : Host.Outcome State Fault Refusal :=
  .next (s.timeFn x encTutc fun s t => utcWord s.cal.utc t)

/-- The comparator owner of an executor in TWAIT. -/
def waitOwner : Ctx → CmpOwner
  | .tile p c => .twait p c
  | .core k => .core k

/-- TWAIT (R112): the context waits; the target is not checked (R57). -/
def execTwait (x : Ctx) (s : State) : Host.Outcome State Fault Refusal :=
  .next (s.issue x encTwait longA fun w s =>
    .next (((s.arm (waitOwner x) (s.g x (fRa w))).startOp x .twait none).setStatus x .waiting))

/-- The outstanding operation of a thread is a TWAIT. -/
def Thread.inTwait (t : Thread) : Bool :=
  match t.op with
  | some ⟨.twait, _, _⟩ => true
  | _ => false

/-- The target of an executor's TWAIT is reached on its replica (R55). -/
def State.waitOver (s : State) (x : Ctx) : Bool :=
  match s.comparator (waitOwner x) with
  | none => false
  | some c => c.fired || cf64Reached (cf64OfCt96 (s.timeRead x 0)) c.target

/-- TWAIT_COMPLETE (R112): no register is written. -/
def execTwaitComplete (x : Ctx) (s : State) : Host.Outcome State Fault Refusal :=
  if (s.th x).inTwait && s.waitOver x then
    .next (s.readied ((s.disarm (waitOwner x)).setTh x ((s.th x).complete none none)) x)
  else .next s

/-- TSTP (R111): tb into the frame at ga, in the format of IMM6. -/
def execTstp (x : Ctx) (s : State) : Host.Outcome State Fault Refusal :=
  .next (s.issue x encTstp readsA fun w s =>
    let a := (s.g x (fRa w)).toNat
    let bs := stampBytes s.cal.utc (fImm6 w) (s.t x (fRb w))
    s.pAccess (s.tileCtx x) a bs.length true fun f => .next (s.writeFrame x (f.store a bs) [(a, bs.length)]))

end Sys2Proof.Machine
end

