-- ==== Sys2Proof/Machine/FrameOps.lean ====
section
/-!
DEFINITION. Walzor frame and checksum instructions (R113 to R116), and the arrival of cells (R107).
-/
namespace Sys2Proof.Machine

/-- The metadata items of R114; without a frame, the ingress port is open (log entry 14). -/
def State.frameItem (s : State) (x : Context) (i : Nat) : Nat :=
  let info := (x.frame.map Frame.info).getD FrameInfo.none
  match i with
  | 0 => (x.frame.map fun f => f.bytes.length).getD 0
  | 1 => (x.frame.map Frame.port).getD s.draw.toNat
  | 2 => x.code
  | 3 => match x.kind with
    | .frame => info.entry
    | .capture => 63
    | _ => 62
  | 4 => info.ipOff
  | 5 => info.l4Off
  | 6 => info.udpOff
  | 7 => info.vlanTags
  | 8 => info.ipVersion
  | 9 => if x.kind = .capture then x.tag else 0
  | _ => x.pclass

/-- FINFO. -/
def execFinfo (x : Ctx) (s : State) : Host.Outcome State Fault Refusal :=
  .next (s.issue x encFinfo noReads fun w s =>
    let y := s.tileCtx x
    let t := if fImm6 w = 1 ∧ y.frame = none then s.drawn else s
    .next (t.setG x (fRd w) (BitVec.ofNat 64 (s.frameItem y (fImm6 w)))))

/-- An instruction on the frame itself: P_RANGE in a context without one (R100). -/
def withFrame (s : State) (x : Ctx) (k : Frame → Act) : Act :=
  match (s.tileCtx x).frame with
  | none => .fault s fltPRange 0 0
  | some f => k f

/-- A frame cut or grown with zero bytes (R113). -/
def Frame.resize (f : Frame) (n : Nat) : Frame :=
  { f with bytes := (f.bytes.take n) ++ List.replicate (n - f.bytes.length) 0
           poison := f.poison.filter fun w => decide (w < n) }

/-- FLEN: a frame that grows takes cells of the packet buffer (R28); growth that needs none sets RES = 0. -/
def execFlen (x : Ctx) (s : State) : Host.Outcome State Fault Refusal :=
  .next (s.issue x encFlen ⟨fun w => [fRa w], fun _ => true, false⟩ fun w s =>
    withFrame s x fun f =>
      let n := (s.g x (fRa w)).toNat
      if n < 60 ∨ 9212 < n then .fault s fltArg 0 0
      else if frameCells f.bytes.length < frameCells n ∧
          s.cellsFree (frameCells n - frameCells f.bytes.length) = false then .next (s.setRes x true)
      else .next ((s.writeFrame x (f.resize n) [(f.bytes.length, n - f.bytes.length)]).setRes x false))

/-- FMARK (R115). -/
def execFmark (x : Ctx) (s : State) : Host.Outcome State Fault Refusal :=
  .next (s.issue x encFmark readsAB fun w s =>
    withFrame s x fun f =>
      let a := (s.g x (fRa w)).toNat
      let i := fImm6 w
      .next (s.setFrame x { f with mark :=
        { enabled := true, off := a % 2 ^ 14, fmt := i % 8, cks := i / 8 % 4, cksOff := a / 2 ^ 16 % 2 ^ 14,
          auxOff := a / 2 ^ 32 % 2 ^ 14, capture := i.testBit 5, tag := (s.g x (fRb w)).toNat % 2 ^ 16 } }))

/-- FUNMARK. -/
def execFunmark (x : Ctx) (s : State) : Host.Outcome State Fault Refusal :=
  .next (s.issue x encFunmark noReads fun _ s =>
    withFrame s x fun f => .next (s.setFrame x { f with mark := { f.mark with enabled := false, capture := false } }))

/-- FPORT. -/
def execFport (x : Ctx) (s : State) : Host.Outcome State Fault Refusal :=
  .next (s.issue x encFport readsA fun w s =>
    withFrame s x fun f =>
      let n := (s.g x (fRa w)).toNat
      if 15 < n then .fault s fltArg 0 0 else .next (s.setFrame x { f with egress := n }))

/-- The pairs of fields that FSWAP exchanges, as (offset, offset, size); none where a selected field is absent. -/
def swapPairs (i : FrameInfo) (sel : Nat) : Option (List (Nat × Nat × Nat)) :=
  let mac := if sel.testBit 0 then [(0, 6, 6)] else []
  let ip := if sel.testBit 1 then
      (if i.ipVersion = 4 then some [(i.ipOff + 12, i.ipOff + 16, 4)]
       else if i.ipVersion = 6 then some [(i.ipOff + 8, i.ipOff + 24, 16)] else none)
    else some []
  let l4 := if sel.testBit 2 then (if i.hasPorts then some [(i.l4Off, i.l4Off + 2, 2)] else none) else some []
  match ip, l4 with
  | some a, some b => some (mac ++ a ++ b)
  | _, _ => none

/-- Two fields exchanged. -/
def Frame.swap (f : Frame) (e : Nat × Nat × Nat) : Frame :=
  let a := (f.bytes.drop e.1).take e.2.2
  let b := (f.bytes.drop e.2.1).take e.2.2
  (f.store e.1 b).store e.2.1 a

/-- The reads of several parts of a frame before an instruction goes on: a cell that is missing blocks it, and a poisoned
word raises ECC. -/
def State.pReads (s : State) (x : Context) (f : Frame) (k : Act) : List (Nat × Nat) → Act
  | [] => k
  | (a, n) :: rs =>
    match x.missingCell a n with
    | some i => .block s (.cell i)
    | none => if f.poisonedAt a n false then .fault s.packetError fltEcc 0 a else s.pReads x f k rs

/-- The fields that FSWAP reads, as (offset, size). -/
def swapReads (ps : List (Nat × Nat × Nat)) : List (Nat × Nat) := ps.flatMap fun e => [(e.1, e.2.2), (e.2.1, e.2.2)]

/-- FSWAP: a selected field that reaches past the frame's end counts as absent (log entry 15). -/
def execFswap (x : Ctx) (s : State) : Host.Outcome State Fault Refusal :=
  .next (s.issue x encFswap noReads fun w s =>
    withFrame s x fun f =>
      match swapPairs f.info (fImm6 w) with
      | none => .fault s fltArg 0 0
      | some ps =>
        let last := (ps.map fun e => e.2.1 + e.2.2).foldl max 0
        if f.bytes.length < last then .fault s fltArg 0 0
        else s.pReads (s.tileCtx x) f (.next (s.writeFrame x (ps.foldl Frame.swap f) (swapReads ps))) (swapReads ps))

/-- The bytes that FCPYP, FCPYL, TBGET and TBPUT copy. -/
def copySize (w : Word) : Nat := (fImm6 w + 1) * 8

/-- FCPYP: L at gb to P at ga. -/
def execFcpyp (x : Ctx) (s : State) : Host.Outcome State Fault Refusal :=
  .next (s.issue x encFcpyp readsAB fun w s =>
    let y := s.tileCtx x
    let a := (s.g x (fRa w)).toNat
    s.pAccess y a (copySize w) true fun f =>
      match s.lRead (ctxTile x) y (ctxNumber x) (s.g x (fRb w)).toNat (copySize w) with
      | .error (t, code, addr) => .fault t code 0 addr
      | .ok bs => .next (s.writeFrame x (f.store a bs) [(a, bs.length)]))

/-- FCPYL: P at gb to L at ga. -/
def execFcpyl (x : Ctx) (s : State) : Host.Outcome State Fault Refusal :=
  .next (s.issue x encFcpyl readsAB fun w s =>
    let y := s.tileCtx x
    let b := (s.g x (fRb w)).toNat
    s.pAccess y b (copySize w) false fun f =>
      match s.lWrite (ctxTile x) y (ctxNumber x) (s.g x (fRa w)).toNat ((f.bytes.drop b).take (copySize w)) with
      | .error (t, code, addr) => .fault t code 0 addr
      | .ok t => .next t)

/-! ### Checksums (R116) -/

/-- CSUM: the folded sum of gb bytes at ga, not complemented. -/
def execCsum (x : Ctx) (s : State) : Host.Outcome State Fault Refusal :=
  .next (s.issue x encCsum readsAB fun w s =>
    let a := (s.g x (fRa w)).toNat
    let n := (s.g x (fRb w)).toNat
    s.pAccess (s.tileCtx x) a n false fun f =>
      .next (s.setG x (fRd w) (BitVec.ofNat 64 (csum ((f.bytes.drop a).take n)))))

/-- CSADD: the one's-complement sum of ga[15:0] and gb[15:0]. -/
def execCsadd (x : Ctx) (s : State) : Host.Outcome State Fault Refusal :=
  .next (s.issue x encCsadd readsAB fun w s =>
    .next (s.setG x (fRd w)
      (BitVec.ofNat 64 (fold16 ((s.g x (fRa w)).toNat % 2 ^ 16 + (s.g x (fRb w)).toNat % 2 ^ 16)))))

/-- The complement of a folded sum. -/
def complement16 (n : Nat) : Nat := 0xFFFF - n % 2 ^ 16

/-- The bytes of an IPv4 header of n bytes with its checksum recomputed. -/
def fixIpv4 (bs : List Byte) (ip n : Nat) : List Byte :=
  let z := patch bs (ip + 10) [0, 0]
  patch z (ip + 10) (beBytes 2 (complement16 (csum ((z.drop ip).take n))))

/-- The length of the IPv4 header as its IHL field gives it. -/
def ipv4Header (bs : List Byte) (ip : Nat) : Nat := 4 * (byteAt bs ip % 16)

/-- CSIP: ARG where the frame is not IPv4 or holds no whole header (log entry 15). -/
def execCsip (x : Ctx) (s : State) : Host.Outcome State Fault Refusal :=
  .next (s.issue x encCsip noReads fun _ s =>
    withFrame s x fun f =>
      let ip := f.info.ipOff
      let n := ipv4Header f.bytes ip
      if f.info.ipVersion ≠ 4 ∨ n < 20 ∨ f.bytes.length < ip + n then .fault s fltArg 0 0
      else s.pAccess (s.tileCtx x) ip n false fun f =>
        .next (s.writeFrame x (f.store ip (((fixIpv4 f.bytes ip n).drop ip).take n)) [(ip + 10, 2)]))

/-- The pseudo-header of a UDP datagram of len bytes. -/
def pseudoHeader (bs : List Byte) (i : FrameInfo) (len : Nat) : List Byte :=
  if i.ipVersion = 4 then (bs.drop (i.ipOff + 12)).take 8 ++ beBytes 2 17 ++ beBytes 2 len
  else (bs.drop (i.ipOff + 8)).take 32 ++ beBytes 4 len ++ beBytes 4 17

/-- The lengths that FIXLEN rewrites: UDP, then IPv4 total length and header checksum, or IPv6 payload length. -/
def fixLengths (bs : List Byte) (i : FrameInfo) : List Byte :=
  let u := patch bs (i.l4Off + 4) (beBytes 2 (bs.length - i.l4Off))
  if i.ipVersion = 4 then
    fixIpv4 (patch u (i.ipOff + 2) (beBytes 2 (bs.length - i.ipOff))) i.ipOff (ipv4Header bs i.ipOff)
  else patch u (i.ipOff + 4) (beBytes 2 (bs.length - (i.ipOff + 40)))

/-- The UDP checksum recomputed over a datagram of len bytes; 0x0000 is written as 0xFFFF. -/
def fixUdp (bs : List Byte) (i : FrameInfo) (len : Nat) : List Byte :=
  let z := patch bs (i.l4Off + 6) [0, 0]
  let c := complement16 (csum (pseudoHeader z i len ++ (z.drop i.l4Off).take len))
  patch z (i.l4Off + 6) (beBytes 2 (if c = 0 then 0xFFFF else c))

/-- The parts of a frame that CSUDP reads, as (offset, size): the addresses, or with FIXLEN the whole IP header, and the
datagram. -/
def csudpReads (bs : List Byte) (i : FrameInfo) (fix : Bool) (len : Nat) : List (Nat × Nat) :=
  [if i.ipVersion = 4 then (if fix then (i.ipOff, ipv4Header bs i.ipOff) else (i.ipOff + 12, 8))
   else if fix then (i.ipOff, 40) else (i.ipOff + 8, 32), (i.l4Off, len)]

/-- The fields that CSUDP writes: the checksum, and with FIXLEN the lengths and the IPv4 header checksum. -/
def csudpWrites (i : FrameInfo) (fix : Bool) : List (Nat × Nat) :=
  (i.l4Off + 6, 2) :: (if fix = false then []
    else if i.ipVersion = 4 then [(i.l4Off + 4, 2), (i.ipOff + 2, 2), (i.ipOff + 10, 2)]
    else [(i.l4Off + 4, 2), (i.ipOff + 4, 2)])

/-- CSUDP: L below 8, or a datagram past the frame's end, raises ARG with nothing written. -/
def execCsudp (x : Ctx) (s : State) : Host.Outcome State Fault Refusal :=
  .next (s.issue x encCsudp noReads fun w s =>
    withFrame s x fun f =>
      let i := f.info
      let fix := decide (fImm6 w = 1)
      let len := if fix then f.bytes.length - i.l4Off else be16 f.bytes (i.l4Off + 4)
      if i.udpOff = 0xFFFF ∨ len < 8 ∨ f.bytes.length < i.l4Off + len ∨ f.bytes.length < i.l4Off + 8 then
        .fault s fltArg 0 0
      else s.pReads (s.tileCtx x) f
        (.next (s.writeFrame x { f with bytes := fixUdp (if fix then fixLengths f.bytes i else f.bytes) i len }
          (csudpWrites i fix)))
        (csudpReads f.bytes i fix len))

/-! ### Cells (R107) -/

/-- CELL_ARRIVE (R107): the cell that a stalled context waits for arrives. -/
def execCellArrive (p : Fin 72) (c : Fin 48) (s : State) : Host.Outcome State Fault Refusal :=
  let x := s.ctx p.val c.val
  match x.th.status with
  | .blocked (.cell i) =>
    .next (s.readied (s.setCtx p.val c.val { x with th := { x.th with status := .ready }, cells := x.cells ++ [i] }) (.tile p c))
  | _ => .next s

end Sys2Proof.Machine
end

