-- ==== Sys2Proof/Machine/Geyser.lean ====
section
/-!
DEFINITION. Geyser, the responder array (chapter 05): the commands that take in, start, end and kill contexts, the array
timers, drains, program banks, and the registers of the GYS block.
-/
namespace Sys2Proof.Machine

/-! ### Requests and contexts -/

/-- REQUEST_ARRIVE (R138): the oldest request on its way to a tile of cluster k reaches it. A frame whose tile has left
dispatch meanwhile moves on as a queued one does, and a capture record is dropped there unless the host alone drains the
tile (R93, log entry 13). -/
def execRequestArrive (k : Fin 8) (s : State) : Host.Outcome State Fault Refusal :=
  match s.net.toArray.find? fun r => clusterOf r.tile == k.val with
  | none => .next s
  | some r =>
    if s.xqRuns (0x20 + k.val) = false then .next s
    else
    let t := { s with net := { s.net with toArray := s.net.toArray.erase r } }
    if r.isFrame && t.draining r.tile then .next (t.moveFrames r.tile [r]).checkOld
    else if t.draining r.tile && !t.hostDrained r.tile then .next (t.admitDrop r.pclass)
    else .next (t.enqueueRequest r)

/-- The registers and flags of R95 with which a request's context starts, SUS as its stamp is marked. -/
def Request.thread (r : Request) (sus : Bool) : Thread :=
  { Thread.reset with
    status := .ready
    g := sparseSet (fun _ => 0) (sparseSet (fun _ => 0) [] 1 (BitVec.ofNat 64 r.g1)) 2 (BitVec.ofNat 64 r.code)
    t := sparseSet (fun _ => 0) [] 0 r.stamp.time
    sus := sus
    pc := r.entry }

/-- The context that a request starts with a budget (R95, R135, R141). -/
def Request.context (r : Request) (sus : Bool) (budget order : Nat) : Context :=
  { Context.reset with
    th := r.thread sus, kind := r.kind, tile := r.tile, pclass := r.pclass, bank := r.bank, budget := budget,
    stamp := r.stamp, code := r.code, tag := r.tag, frame := r.frame, order := order }

/-- A context started (R134). -/
def State.startContext (s : State) (p c : Nat) (r : Request) (budget : Nat) : State :=
  let t := s.setCtx p c (r.context (s.marked r.stamp) budget s.gys.order)
  { t with gys := { t.gys with order := s.gys.order + 1 } }

/-- Whether a tile may start a request: its bank's init context has ended there and no core fault is open (R155). -/
def State.startable (s : State) (p : Nat) (r : Request) : Bool :=
  !s.gys.coreFault.contains r.tile &&
    !(s.gys.initOwed.any fun e => e.1 == r.tile && e.2.1 == r.bank) &&
    !(s.usedContexts p).any fun x => x.isInit && x.bank == r.bank

/-- The head of a class queue of a tile. -/
def State.queueHead (s : State) (l k : Nat) : Option Request := (s.queuedOn l).find? fun r => r.pclass == k

/-- The request that a tile starts next (R138). -/
def State.nextRequest (s : State) (p l : Nat) : Option Request :=
  ((List.range 4).filterMap fun k => if s.mayStart p k then s.queueHead l k else none).find? (s.startable p)

/-- A request taken out of its queue. -/
def State.unqueue (s : State) (r : Request) : State :=
  { s with gys := { s.gys with queued := s.gys.queued.erase r } }

/-- CONTEXT_START (R138, R142): a FREE context of a physical tile starts the request that is due, or the stale head is
dropped. An init context that is owed goes first (R155). -/
def execContextStart (p : Fin 72) (c : Fin 48) (s : State) : Host.Outcome State Fault Refusal :=
  match s.logical p.val with
  | none => .next s
  | some l =>
    if (s.ctx p.val c.val).used ∨ s.clusterRuns (clusterOf l) = false ∨
        s.gys.initOwed.any (fun e => e.1 == l && !e.2.2) then .next s
    else
      match s.nextRequest p.val l with
      | none => .next s
      | some r =>
        if s.staleRequest r then .next ((s.unqueue r).staleDrop r.pclass)
        else .next ((s.unqueue r).startContext p.val c.val r (s.fld (Reg.GYS_CLSL r.pclass) 16 16))

/-- An ending context whose operation and stores are done, and whose locks are handled if it was killed (R134, R147). -/
def Context.finished (x : Context) : Bool :=
  match x.th.status with
  | .ending k => x.th.op.isNone && x.th.stores.isEmpty && (k.isNone || x.locks.isEmpty)
  | _ => false

/-- An init context has ended: the tile returns to dispatch unless it was killed (R155). -/
def State.initEnded (s : State) (x : Context) : State :=
  if x.isInit && x.th.status == .ending none then s.returnTile x.tile else s

/-- CONTEXT_FREE (R134). -/
def execContextFree (p : Fin 72) (c : Fin 48) (s : State) : Host.Outcome State Fault Refusal :=
  let x := s.ctx p.val c.val
  if x.finished then .next (((s.setCtx p.val c.val Context.reset).initEnded x).checkOld)
  else .next s

/-- The word of an orphaned lock (R148). -/
def orphanWord : Nat := 0x8000000000000FFF

/-- LOCKPOL of the region that contains a lock word; ORPHAN where none does. -/
def State.lockReleases (s : State) (b a : Nat) : Bool :=
  match s.regionOf b a with
  | none => false
  | some i => bitAt (s.treg0 b i) 30

/-- One lock of a killed context (R148). -/
def State.handleLock (s : State) (b code a : Nat) : State :=
  if s.lockReleases b a then s.poolWrite .tile a (leBytes 8 0)
  else
    (((s.poolWrite .tile a (leBytes 8 orphanWord)).setFlag Reg.GYS_STICKY stLockOrphan true).raise 129).log 129
      0 0 (BitVec.ofNat 64 (code * 2 ^ 32 + a))

/-- The locks of a killed context, one after another. -/
def State.handleLocks (s : State) (b code : Nat) : List Nat → State
  | [] => s
  | a :: as => (s.handleLock b code a).handleLocks b code as

/-- KILL_LOCK_HANDLING (R148): after a killed context's stores and operation have completed. -/
def execKillLockHandling (p : Fin 72) (c : Fin 48) (s : State) : Host.Outcome State Fault Refusal :=
  let x := s.ctx p.val c.val
  match x.th.status with
  | .ending (some code) =>
    if x.th.op.isSome || !x.th.stores.isEmpty then .next s
    else .next ((s.handleLocks x.bank code x.locks).setCtx p.val c.val { x with locks := [] })
  | _ => .next s

/-- The stale heads of one class queue dropped, up to n of them (R142). -/
def State.scanQueue (s : State) (l k : Nat) : Nat → State
  | 0 => s
  | n + 1 =>
    match s.queueHead l k with
    | none => s
    | some r => if s.staleRequest r then ((s.unqueue r).staleDrop k).scanQueue l k n else s

/-- A context that waits for a long-latency operation and has grown stale (R142). -/
def State.staleContext (s : State) (x : Context) : Bool :=
  x.th.status == .waiting && x.th.op.isSome && x.ages && s.stale (clusterOf x.tile) x.pclass x.stamp.time

/-- STALE_SCAN (R142, R143): once every 1 µs on logical tile l. -/
def execStaleScan (l : Fin 64) (s : State) : Host.Outcome State Fault Refusal :=
  let t := (List.range 4).foldl (fun t k => t.scanQueue l.val k 1024) s
  let p := t.phys l.val
  .next ((List.range 48).foldl (fun t c => if t.staleContext (t.ctx p c) then t.staleEnd p c else t) t)

/-! ### Core faults -/

/-- The started contexts of a tile killed with reason 0x11 (R149). -/
def State.killStarted (s : State) (p : Nat) : State :=
  (List.range 48).foldl (fun t c =>
    match (t.ctx p c).th.status with
    | .free => t
    | .ending _ => t
    | _ => t.kill p c 0x11 (t.ctx p c).locks.length 0) s

/-- A core fault on a physical tile that serves logical tile l (R149). -/
def State.coreFault (s : State) (p l : Nat) : State :=
  let t := { s with gys := { s.gys with coreFault := s.gys.coreFault ++ [l] } }
  (((((t.drainTile l).killStarted p).setFlag Reg.GYS_STICKY stTileDraining true).raise 134).startTest (unitTile p) 0).checkOld

/-- CORE_FAULT (R149): on a tile in service. -/
def execCoreFault (p : Fin 72) (s : State) : Host.Outcome State Fault Refusal :=
  match s.logical p.val with
  | none => .next s
  | some l =>
    if s.gys.coreFault.contains l ∨ s.flag (Reg.GYS_MAP l) 28 ∨ s.tileRetired p.val ∨ s.clusterLive (clusterOf l) = false then .next s
    else .next (s.coreFault p.val l)

/-- The spare of a cluster, while it is unused: in place of no tile and not retired (R132, R149). -/
def State.spareOf (s : State) (l : Nat) : Option Nat :=
  let q := 9 * clusterOf l + 8
  if s.tileRetired q ∨ (s.logical q).isSome then none else some q

/-- A physical tile retired, with the outcome of a failed core scan (R149 step 5, R476). -/
def State.retireTile (s : State) (p : Nat) : State :=
  let r := (s.setFlag (Reg.REL_RET_TILE (p / 32)) (p % 32) true).raise 228
  match s.logical p with
  | none => if p % 9 = 8 then r.setFld Reg.GYS_STATUS 8 4 (r.fld Reg.GYS_STATUS 8 4 - 1) else r
  | some l =>
    let t := { r with gys := { r.gys with coreFault := r.gys.coreFault.filter (· != l) } }
    match t.spareOf l with
    | some q =>
      let u := (t.setFld (Reg.GYS_MAP l) 0 7 q).setFld Reg.GYS_STATUS 8 4 (t.fld Reg.GYS_STATUS 8 4 - 1)
      let v := (u.setFlag Reg.GYS_STICKY stTileRetired true).raise 135
      State.initAndReturn { v with gys := { v.gys with returning := v.gys.returning.filter (· != l) ++ [l] } } l
    | none => (((t.setFlag (Reg.GYS_MAP l) 28 true).setFlag Reg.GYS_STICKY stNoSpare true).raise 136).drainTile l

/-- The outcome of a core scan: TRANSIENT returns the tile through its init context, LASTING retires it (R149). -/
def State.coreScanned (s : State) (p : Nat) (lasting : Bool) : State :=
  let t := (s.endTest (unitTile p) 0).verdict (unitTile p) (if lasting then verdictLasting else verdictTransient)
  if lasting then t.retireTile p
  else
    match t.logical p with
    | none => t
    | some l =>
      State.initAndReturn { t with gys := { t.gys with
        coreFault := t.gys.coreFault.filter (· != l)
        returning := t.gys.returning.filter (· != l) ++ [l] } } l

/-- How many TRANSIENT verdicts a unit has had within WINDOW hours (R474). -/
def State.recentTransients (s : State) (unit row : Nat) : Nat :=
  (s.rel.transients.filter fun e => e.1 == unit && e.2.1 == row &&
    decide (ct96Sec s.now - e.2.2 < s.fld Reg.REL_TRANS 16 8 * 3600)).length

/-- A pass escalates to LASTING at the LIMITth TRANSIENT verdict of the window; lanes are exempt (R474). -/
def State.escalates (s : State) (unit row : Nat) : Bool :=
  unit / 0x1000 != 4 && decide (s.fld Reg.REL_TRANS 24 8 ≤ s.recentTransients unit row + 1)

/-- A TRANSIENT verdict remembered for the escalation of R474. -/
def State.noteTransient (s : State) (unit row : Nat) : State :=
  { s with rel := { s.rel with transients := s.rel.transients ++ [(unit, row, ct96Sec s.now)] } }

/-- CORE_SCAN_DONE (R149): the core scan of a physical tile ends. -/
def execCoreScanDone (p : Fin 72) (failed : Bool) (s : State) : Host.Outcome State Fault Refusal :=
  if s.testRuns (unitTile p.val) 0 = false then .next s
  else
    let lasting := failed || s.escalates (unitTile p.val) 0
    let t := if lasting then s else s.noteTransient (unitTile p.val) 0
    .next (t.coreScanned p.val lasting)

/-! ### Timers -/

/-- The slot of 2^-20 s that the device time lies in, within its second and in all. -/
def timerSlot (t : CT96) : Nat := ct96Sec t * 2 ^ 20 + bfrac t / 2 ^ 12

/-- Timer k fires in this slot: it and the array run, the phase is OFFSET, and it has not fired yet (R150, R152). -/
def State.timerDue (s : State) (k : Nat) : Bool :=
  s.flag Reg.GYS_CTRL 0 && s.flag (Reg.GYS_TMR_CTL k) 31 &&
    (bfrac s.now / 2 ^ 12 % 2 ^ (s.fld (Reg.GYS_TMR_PERIOD k) 20 6) == s.fld (Reg.GYS_TMR_PERIOD k) 0 20) &&
    (sparseGet (fun _ => 0) s.gys.fired k != timerSlot s.now + 1)

/-- The frame of an allocated timer context: 60 zero bytes (R151). -/
def timerFrame (port : Nat) (t : CT96) (pclass : Nat) : Frame :=
  { bytes := List.replicate 60 0, port := port, stamp := Stamp.plain t,
    info := { FrameInfo.none with code := 62, entry := 62, pclass := pclass }, mark := Mark.none, egress := port,
    origin := .array, queued := 0, poison := [], job := none }

/-- The request of a firing on a tile (R150, R151). -/
def State.timerRequest (s : State) (k l : Nat) : Request :=
  let e := Reg.GYS_TMR_CTL k
  let pc := s.fld e 28 2
  let alloc := s.flag e 30
  { kind := .timer k, tile := l, pclass := pc, entry := s.fld (Reg.GYS_TMR_ENTRY k) 0 19, bank := s.activeBank,
    stamp := Stamp.plain s.now, g1 := if alloc then 60 else 0, code := 62, tag := 0,
    frame := if alloc then some (timerFrame (s.fld e 0 4) s.now pc) else none }

/-- The previous firing's request or context on a tile has not ended (R151). -/
def State.timerBusy (s : State) (k l : Nat) : Bool :=
  s.gys.queued.any (fun r => r.kind == .timer k && r.tile == l) ||
    (s.usedContexts (s.phys l)).any fun x => x.kind == .timer k && x.tile == l

/-! ### The parameter refresh of the standard image (R164, R166, R168) -/

/-- The places of the shared L region that R164 lays out: PARAM_PTR, the layout value and the parameter copies. -/
abbrev paramPtr : Nat := 0x1000
abbrev layoutAddr : Nat := 0x1008
abbrev layoutValue : Nat := 0x4E4C535400010000
abbrev copyA : Nat := 0x2000
abbrev copyB : Nat := 0x2800

/-- Timer k is the scanner of R164, and this firing is sub-firing 0 of its tick of 1/128 s. -/
def State.scannerTick (s : State) (k : Nat) : Bool :=
  k == 7 && s.fld (Reg.GYS_TMR_ENTRY k) 0 19 == 71 && s.fld (Reg.GYS_TMR_PERIOD k) 20 6 == 7
    && s.fld (Reg.GYS_TMR_PERIOD k) 0 20 == 0 && timerSlot s.now % 2 ^ 13 == 0

/-- The stratum of R168 for the QLEVEL and STRATUM_BASE of a copy. -/
def reportedStratum (q base : Nat) : Nat := if q < 3 then min 15 (base + q) else 16

/-- The derived words of R168 for a parameter block: NTPW, LEAPMASK and the base of the rate-limit buckets. -/
def derivedWords (block : List Byte) : List Byte :=
  let q := byteAt block 0
  let ntpw := (if q < 3 then 0 else 3) * 2 ^ 30 + 4 * 2 ^ 24 + reportedStratum q (byteAt block 1) * 2 ^ 16 + byteAt block 0x88
  leBytes 4 ntpw ++ (leBytes 4 (if (byteAt block 0x84).testBit 1 then 0 else 3) ++ leBytes 8 0x00012000)

/-- The refresh on physical tile p (R166): the block into the copy that PARAM_PTR does not name, with the derived words at
+0x400, and then PARAM_PTR. -/
def State.paramRefresh (s : State) (p : Nat) : State :=
  let block := memReadBytes s.gys.pool 0 1024
  let next := if ofLeBytes (memReadBytes s.gys.l (lAddr p paramPtr) 8) = copyA then copyB else copyA
  (s.lStore p next (block ++ derivedWords block)).lStore p paramPtr (leBytes 8 next)

/-- The refresh is due on physical tile p: it holds the layout of the standard image, HOLD is not 1, and no word of the block
is poisoned (log entry 100). -/
def State.refreshes (s : State) (k p : Nat) : Bool :=
  s.scannerTick k && ofLeBytes (memReadBytes s.gys.l (lAddr p layoutAddr) 8) == layoutValue
    && ofLeBytes (memReadBytes s.gys.pool 0x80 4) != 1 && (s.poisoned memPool 0 1024).isNone

/-- A firing's request placed on a tile; the scanner's refresh goes with it where the request is admitted (R166). -/
def State.placeTimer (s : State) (k l : Nat) : State :=
  let t := s.enqueueRequest (s.timerRequest k l)
  if t.gys.queued.length = s.gys.queued.length then t
  else if t.refreshes k (t.phys l) then t.paramRefresh (t.phys l) else t

/-- A firing on one tile: skipped while the previous one lasts or with no frame cells free (R151). -/
def State.fireOn (s : State) (k l : Nat) : State :=
  if s.timerBusy k l || (s.flag (Reg.GYS_TMR_CTL k) 30 && !s.cellsFree 1) then
    (s.bump Reg.GYS_TIMERSKIP 0 32).gysSticky stTimerSkip
  else if s.takesCapture l then s.placeTimer k l
  else s.admitDrop (s.fld (Reg.GYS_TMR_CTL k) 28 2)

/-- The tiles of a firing: every available tile, or TILE (R150). -/
def State.timerTiles (s : State) (k : Nat) : List Nat :=
  if s.flag (Reg.GYS_TMR_CTL k) 27 then (List.range 64).filter s.tileAvailable else [s.fld (Reg.GYS_TMR_CTL k) 16 6]

/-- A firing (R150, R158): it carries a switch that is pending. -/
def State.fireTimer (s : State) (k : Nat) : State :=
  let t := s.carrySwitch
  let u := { t with gys := { t.gys with fired := sparseSet (fun _ => 0) t.gys.fired k (timerSlot t.now + 1) } }
  (u.timerTiles k).foldl (fun u l => u.fireOn k l) u

/-- TIMER_FIRE (R150), with PARAM_REFRESH within it (R166). -/
def execTimerFire (k : Fin 8) (s : State) : Host.Outcome State Fault Refusal :=
  if s.timerDue k.val then .next (s.fireTimer k.val) else .next s

/-- A write to word w of a timer's registers (R152). -/
def State.writeTimer (s : State) (k w : Nat) (v : Word) : State :=
  let running := s.flag (Reg.GYS_TMR_CTL k) 31
  if w = 0 then
    if running && bitAt v 31 then s.gysParam else s.plainWrite (Reg.GYS_TMR_CTL k) v
  else if running then s.gysParam
  else if w = 1 then s.plainWrite (Reg.GYS_TMR_ENTRY k) v
  else if bitsAt v 20 6 < 4 ∨ 20 < bitsAt v 20 6 ∨ 2 ^ bitsAt v 20 6 ≤ bitsAt v 0 20 then s.gysParam
  else s.plainWrite (Reg.GYS_TMR_PERIOD k) v

/-- TIMER_CTL_WRITE (R152): CTL, ENTRY or PERIOD of a timer. -/
def execTimerCtlWrite (ag : Agent) (k : Fin 8) (w : Fin 3) (v : Word) (s : State) : Host.Outcome State Fault Refusal :=
  .next (s.writeAccess ag (Reg.GYS_TMR_CTL k.val + 4 * w.val) v fun s => s.writeTimer k.val w.val v)

/-! ### Init contexts and drains -/

/-- The request of an init context (R155). -/
def State.initRequest (s : State) (l b : Nat) : Request :=
  { kind := .init b, tile := l, pclass := 3, entry := s.initEntry b, bank := b,
    stamp := Stamp.plain (s.stamp (replicaCluster (clusterOf l)) 0), g1 := 0, code := 62, tag := 0, frame := none }

/-- Contexts of another bank on a tile, or requests bound to one that wait there or are on their way (R158). -/
def State.oldLeft (s : State) (p l b : Nat) : Bool :=
  (s.usedContexts p).any (fun x => x.bank != b) || (s.queuedOn l).any (fun r => r.bank != b)
    || s.net.toArray.any fun r => r.tile == l && r.bank != b

/-- INIT_CONTEXT_START (R155): the first context of a tile that is FREE takes the init context that is owed; after a
quiesced switch, only once nothing of the old bank is left on the tile, be it a context or a request that will be one. -/
def execInitContextStart (p : Fin 72) (c : Fin 48) (s : State) : Host.Outcome State Fault Refusal :=
  match s.logical p.val with
  | none => .next s
  | some l =>
    match s.gys.initOwed.find? fun e => e.1 == l with
    | none => .next s
    | some (_, b, afterOld) =>
      if (s.ctx p.val c.val).used ∨ s.clusterRuns (clusterOf l) = false ∨ s.gys.coreFault.contains l ∨
          (afterOld && s.oldLeft p.val l b) = true then .next s
      else
        let t := { s with gys := { s.gys with initOwed := s.gys.initOwed.filter (·.1 != l) } }
        .next (t.startContext p.val c.val (s.initRequest l b) 1048576)

/-- A write to GYS_MAPl (R133): setting DRAIN takes the tile out of dispatch, clearing it runs the init context and
returns the tile. -/
def State.writeMap (s : State) (l : Nat) (v : Word) : State :=
  let was := s.flag (Reg.GYS_MAP l) 31
  let t := s.plainWrite (Reg.GYS_MAP l) v
  if bitAt v 31 && !was then t.drainTile l
  else if !bitAt v 31 && was then
    t.initAndReturn l
  else t

/-- DRAIN_SET (R133). -/
def execDrainSet (ag : Agent) (l : Fin 64) (s : State) : Host.Outcome State Fault Refusal :=
  .next (s.writeAccess ag (Reg.GYS_MAP l.val) 0x80000000 fun s => s.writeMap l.val 0x80000000)

/-- DRAIN_CLEAR (R133). -/
def execDrainClear (ag : Agent) (l : Fin 64) (s : State) : Host.Outcome State Fault Refusal :=
  .next (s.writeAccess ag (Reg.GYS_MAP l.val) 0 fun s => s.writeMap l.val 0)

/-! ### Quotas -/

/-- A quota write that R139 refuses. -/
def State.quotaBad (s : State) : Bool :=
  (List.range 4).any (fun k => decide (s.maxOf k < s.resvOf k) || decide (48 < s.maxOf k)) ||
    decide (48 < ((List.range 4).map s.resvOf).sum) || decide (1024 < ((List.range 4).map s.depthOf).sum)

/-- An OVQ bit went from 0 to 1 on some tile (R140). -/
def State.newlyOver (old new : State) : Bool :=
  (List.range 64).any fun l => (List.range 4).any fun k =>
    (new.overQuota l).testBit k && !(old.overQuota l).testBit k

/-- A write of GYS_CLSQc (R139, R140). -/
def State.writeQuota (s : State) (c : Nat) (v : Word) : State :=
  let t := s.plainWrite (Reg.GYS_CLSQ c) v
  if t.quotaBad then s.gysParam
  else if s.newlyOver t then t.gysSticky stOverQuota
  else t

/-- CLSQ_WRITE (R139). -/
def execClsqWrite (ag : Agent) (c : Fin 4) (v : Word) (s : State) : Host.Outcome State Fault Refusal :=
  .next (s.writeAccess ag (Reg.GYS_CLSQ c.val) v fun s => s.writeQuota c.val v)

/-! ### Banks -/

/-- A bank that takes no writes: the active one, or one whose old contexts still run (R156). -/
def State.bankLocked (s : State) (b : Nat) : Bool := s.activeBank == b || s.gys.oldBank == some b

/-- A bank write discarded (R156). -/
def State.bankWriteError (s : State) : State := (s.setFlag Reg.GYS_BANK_STAT 24 true).gysSticky stBankErr

/-- An accepted write to a bank or its header clears VERIFIED and interrupts a check of it (R156, R157). -/
def State.bankTouched (s : State) (b : Nat) : State :=
  let t := s.setFlag Reg.GYS_BANK_STAT b false
  match t.gys.check with
  | some (d, _) => if d = b then { t with gys := { t.gys with check := some (d, true) } } else t
  | none => t

/-- Bytes written to program bank b at byte a (R156); a partial write of a poisoned word is discarded (R469). -/
def State.writeBank (s : State) (b a : Nat) (bs : List Byte) : State :=
  let k := 2 ^ 21 * b + a
  if s.bankLocked b then s.bankWriteError
  else
    match s.partlyPoisoned memProgram k bs.length with
    | some w => s.eccError memProgram w
    | none =>
      State.clearPoison ({ s with gys := { s.gys with banks := memWriteBytes s.gys.banks k bs } }.bankTouched b)
        memProgram k bs.length

/-- BANK_WRITE (R156): word i of bank b. -/
def execBankWrite (b : Fin 2) (i : Fin 524288) (v : Word) (s : State) : Host.Outcome State Fault Refusal :=
  if s.pdUp PD_FABRIC then .next (s.writeBank b.val (4 * i.val) (leBytes 4 v.toNat)) else .next s

/-- Word i of a bank's header written (R156). -/
def State.writeHeader (s : State) (b i : Nat) (v : Word) : State :=
  if s.bankLocked b then s.bankWriteError
  else (s.wr (if b = 0 then Reg.GYS_HDRA i else Reg.GYS_HDRB i) v).bankTouched b

/-- BANK_HEADER_WRITE (R156). -/
def execBankHeaderWrite (ag : Agent) (b : Fin 2) (i : Fin 128) (v : Word) (s : State) : Host.Outcome State Fault Refusal :=
  .next (s.writeAccess ag (if b.val = 0 then Reg.GYS_HDRA i.val else Reg.GYS_HDRB i.val) v
    fun s => s.writeHeader b.val i.val v)

/-- A bank command refused with an error code, or a check that failed (R157, R158). -/
def State.bankError (s : State) (code : Nat) : State := (s.setFld Reg.GYS_BANK_STAT 16 8 code).gysSticky stBankErr

/-- A check of bank VBANK started (R157). -/
def State.startVerify (s : State) (b : Nat) : State :=
  if s.flag Reg.GYS_STATUS 4 then s.bankError 9
  else
    { (s.setFlag Reg.GYS_STATUS 4 true).setFld Reg.GYS_BANK_STAT 16 8 0 with gys := { s.gys with check := some (b, false) } }

/-- The error code of a switch that is refused (R158). -/
def State.switchError (s : State) (b : Nat) : Option Nat :=
  if s.activeBank = b then some 0xA
  else if s.flag Reg.GYS_STATUS 2 then some 9
  else if s.flag Reg.GYS_STATUS 3 then some 9
  else
    match s.headerError b with
    | some e => some e
    | none => if s.flag Reg.GYS_CTRL 1 && !s.flag Reg.GYS_BANK_STAT b then some 7 else none

/-- A switch requested (R158): with no active bank, the acceptance is the switch instant. -/
def State.requestSwitch (s : State) (b : Nat) (quiesce : Bool) : State :=
  match s.switchError b with
  | some e => s.bankError e
  | none =>
    let t := s.setFld Reg.GYS_BANK_STAT 16 8 0
    if s.activeBank = 3 then t.switchTo b quiesce
    else { t.setFlag Reg.GYS_STATUS 2 true with gys := { t.gys with pendSwitch := some (b, quiesce) } }

/-- A write of GYS_BANK_CTL. -/
def State.writeBankCtl (s : State) (v : Word) : State :=
  let t := if bitAt v 4 then s.startVerify (bitsAt v 5 1) else s
  if bitAt v 0 then t.requestSwitch (bitsAt v 1 1) (bitAt v 2) else t

/-- BANK_VERIFY (R157): a write with VERIFY = 1. -/
def execBankVerify (ag : Agent) (b : Fin 2) (s : State) : Host.Outcome State Fault Refusal :=
  let v := BitVec.ofNat 32 (2 ^ 4 + b.val * 2 ^ 5)
  .next (s.writeAccess ag Reg.GYS_BANK_CTL v fun s => s.writeBankCtl v)

/-- BANK_SWITCH (R158): a write with SWITCH = 1. -/
def execBankSwitch (ag : Agent) (b : Fin 2) (quiesce : Bool) (s : State) : Host.Outcome State Fault Refusal :=
  let v := BitVec.ofNat 32 (1 + b.val * 2 + ofBool quiesce * 4)
  .next (s.writeAccess ag Reg.GYS_BANK_CTL v fun s => s.writeBankCtl v)

/-- SWITCH_INSTANT (R158): 1 µs after acceptance the classifier makes an empty dispatch decision. -/
def execSwitchInstant (s : State) : Host.Outcome State Fault Refusal := .next s.carrySwitch

/-- The bytes of a bank's header. -/
def State.headerBytes (s : State) (b : Nat) : List Byte := (List.range 128).flatMap fun i => leBytes 4 (s.hdr b i).toNat

/-- The signature of a bank verifies against the operator anchor, entry 1 (R157, R208). -/
def State.signatureOk (s : State) (b : Nat) : Bool :=
  let h := s.headerBytes b
  let code := memReadBytes s.gys.banks (2 ^ 21 * b) (4 * s.bankLength b)
  match s.cry.anchors.find? fun a => a.1 == 1 with
  | none => false
  | some (_, ty, key) => ty == 2 && verifyP384 key (sha384 (h.take 256 ++ code)) ((h.drop 256).take 96)

/-- The error code of a bank check (R157): the tests in the order SIGNED, header, signature; with PD_BNE off no signature
passes (R33). -/
def State.verifyError (s : State) (b : Nat) : Option Nat :=
  if bitAt (s.hdr b 7) 0 = false then some 8
  else
    match s.headerError b with
    | some e => some e
    | none => if s.pdUp PD_BNE && s.signatureOk b then none else some 8

/-- A bank check that ends (R157). -/
def State.endVerify (s : State) (b : Nat) (interrupted : Bool) : State :=
  let t := { s.setFlag Reg.GYS_STATUS 4 false with gys := { s.gys with check := none } }
  let u :=
    if interrupted then t.bankError 9
    else
      match t.verifyError b with
      | some e => t.bankError e
      | none => t.setFlag Reg.GYS_BANK_STAT b true
  u.raise 142

/-- VERIFY_DONE (R157). -/
def execVerifyDone (s : State) : Host.Outcome State Fault Refusal :=
  match s.gys.check with
  | none => .next s
  | some (b, i) => .next (s.endVerify b i)

/-! ### Registers -/

/-- A write to GYS_CTRL: EN is refused while no bank is active (R161). -/
def State.writeGysCtrl (s : State) (v : Word) : State :=
  if bitAt v 0 && s.activeBank == 3 then s.gysParam else s.plainWrite Reg.GYS_CTRL v

/-- A write to a register of the GYS block that completes normally. -/
def State.gysWrite (s : State) (off : Nat) (v : Word) : State :=
  if off = Reg.GYS_CTRL then s.writeGysCtrl v
  else if off = Reg.GYS_BANK_CTL then s.writeBankCtl v
  else if off = Reg.GYS_SCHED then
    if 32 < bitsAt v 0 6 + bitsAt v 8 6 + bitsAt v 16 6 then s.gysParam else s.plainWrite off v
  else if 0x900020 ≤ off ∧ off < 0x900030 then s.writeQuota ((off - 0x900020) / 4) v
  else if 0x900030 ≤ off ∧ off < 0x900040 then
    if bitsAt v 16 16 < 64 ∨ bitsAt v 0 8 = 0 ∨ 200 < bitsAt v 0 8 then s.gysParam else s.plainWrite off v
  else if off = Reg.GYS_FAULT0 then
    if bitAt v 31 then ((s.wr Reg.GYS_FAULT0 0).wr Reg.GYS_FAULT1 0).wr Reg.GYS_FAULT2 0 else s
  else if 0x900100 ≤ off ∧ off < 0x900180 then s.writeTimer ((off - 0x900100) / 16) ((off - 0x900100) % 16 / 4) v
  else if 0x900200 ≤ off ∧ off < 0x900300 then s.writeMap ((off - 0x900200) / 4) v
  else if 0x901000 ≤ off ∧ off < 0x901200 then s.writeHeader 0 ((off - 0x901000) / 4) v
  else if 0x901200 ≤ off ∧ off < 0x901400 then s.writeHeader 1 ((off - 0x901200) / 4) v
  else s.plainWrite off v

/-- GYS_MAPl as it reads: IDLE, INIT and OVQ show the contexts (R133, R140, R155). -/
def State.readMap (s : State) (l : Nat) : Word :=
  let used := s.usedContexts (s.phys l)
  putBits (putBit (putBit (s.rd (Reg.GYS_MAP l)) 29 used.isEmpty) 27 (used.any Context.isInit)) 20 4 (s.overQuota l)

/-- GYS_STATUS.OVQ: the classes over quota on at least one tile. -/
def State.allOver (s : State) : Nat :=
  (List.range 4).foldl (fun m k =>
    m + (if (List.range 64).any fun l => (s.overQuota l).testBit k then 2 ^ k else 0)) 0

/-- A read of a register of the GYS block that completes normally. -/
def State.gysRead (s : State) (off : Nat) : Word × State :=
  if off = Reg.GYS_STATUS then (putBits (s.rd off) 16 4 s.allOver, s)
  else if 0x900200 ≤ off ∧ off < 0x900300 then (s.readMap ((off - 0x900200) / 4), s)
  else s.plainRead off

end Sys2Proof.Machine
end

