-- ==== Sys2Proof/Machine/CoreMemory.lean ====
section
/-!
DEFINITION. The L side of a service core (R129, R388): translation through the regions, and the memories of the
control-fabric map.
-/
namespace Sys2Proof.Machine

/-- Region i of a core. -/
def CoreState.region (c : CoreState) (i : Nat) : Region := sparseGet (fun _ => Region.reset) c.regions i

/-- A region covers a virtual address. -/
def Region.covers (r : Region) (a : Nat) : Bool :=
  r.valid && decide (r.base ≤ a) && decide (a < r.base + r.units * 65536)

/-- The lowest-numbered region that covers an address (R129). -/
def CoreState.regionOf (c : CoreState) (a : Nat) : Option Region :=
  ((List.range 16).map c.region).find? fun r => r.covers a

/-- The control-fabric address of n bytes at a virtual address, where one region covers and permits them (R129). -/
def CoreState.translate (c : CoreState) (a n : Nat) (write : Bool) : Option Nat :=
  match c.regionOf a with
  | none => none
  | some r =>
    if (if write then r.write else r.read) = false ∨ r.base + r.units * 65536 < a + n then none
    else some (r.phys * 65536 + (a - r.base))

/-- An access of n bytes at a virtual address, as control-fabric addresses and sizes: regions begin and end on multiples of
64 KiB, so each 64 KiB block of the access has one region, the lowest-numbered that covers it (R129). -/
def CoreState.pieces (c : CoreState) (a n : Nat) (write : Bool) : Option (List (Nat × Nat)) :=
  let k := min n (65536 - a % 65536)
  match c.translate a k write, if n = k then some 0 else c.translate (a + k) (n - k) write with
  | some p, some q => some (if n = k then [(p, n)] else [(p, k), (q, n - k)])
  | _, _ => none

/-- What lies at a control-fabric address for core k (R388). -/
inductive FabricPlace where
  /-- a register block, by BAR0 offset -/
  | registers (off : Nat)
  /-- the packet buffer's host port -/
  | packet
  /-- the table pool, by T address -/
  | pool (a : Nat)
  /-- the program store, by bank address -/
  | program (a : Nat)
  /-- GNSS memory -/
  | gnss (a : Nat)
  /-- the SRAM of a service core -/
  | sram (a : Nat)
  /-- outside the table -/
  | unmapped
  deriving DecidableEq, Repr

/-- The control-fabric map of R388 as core k reaches it. -/
def fabricPlace (k a : Nat) : FabricPlace :=
  if a < 0x01000000 then .registers a
  else if a < 0x02000000 then .packet
  else if a < 0x05000000 then .pool (a - 0x02000000)
  else if 0x06000000 ≤ a ∧ a < 0x06400000 ∧ k < 2 then .program (a - 0x06000000)
  else if 0x08000000 ≤ a ∧ a < 0x08200000 ∧ 2 ≤ k ∧ k < 6 then .gnss (a - 0x08000000)
  else if 0x10000000 ≤ a ∧ a < 0x10000000 + 0x40000 * 8 then .sram (a - 0x10000000)
  else .unmapped

/-- The memory ID of R468 and the address of a fabric place in it. -/
def FabricPlace.memory : FabricPlace → Option (Nat × Nat)
  | .pool a => some (memPool, a)
  | .program a => some (memProgram, a)
  | .gnss a => some (memGnss, a)
  | .sram a => some (memCore, a)
  | _ => none

/-- The bytes of a memory of the fabric. -/
def State.fabricBytes (s : State) (f : FabricPlace) (n : Nat) : List Byte :=
  match f with
  | .pool a => memReadBytes s.gys.pool a n
  | .program a => memReadBytes s.gys.banks a n
  | .gnss a => memReadBytes s.cores.gnss a n
  | .sram a => memReadBytes s.cores.sram a n
  | _ => List.replicate n 0

/-- The outcome of a core's read of memory: the bytes and the state after it, or ECC. Register blocks are read by
Bus.lean; the packet buffer's host port gives free bytes, an unmapped address 0 with the failure recorded (R32, R388). -/
def State.fabricRead (s : State) (f : FabricPlace) (off n : Nat) : Except State (List Byte × State) :=
  match f.memory with
  | some (m, a) =>
    match s.poisoned m a n with
    | some w => .error (s.eccError m w)
    | none => .ok (s.fabricBytes f n, s)
  | none =>
    match f with
    | .unmapped => .ok (List.replicate n 0, s.badAccess 1 off false)
    | _ => .ok (s.freeBytes n, s.drewBytes n)

/-- Bytes written to a memory of the fabric, marks cleared; a bank takes them as from BAR2 (R156). -/
def State.fabricStore (s : State) (f : FabricPlace) (bs : List Byte) : State :=
  match f with
  | .pool a => s.poolWriteLines .core 8 a bs
  | .program a => s.writeBank (a / 2 ^ 21) (a % 2 ^ 21) bs
  | .gnss a => State.clearPoison { s with cores := { s.cores with gnss := memWriteBytes s.cores.gnss a bs } } memGnss a bs.length
  | .sram a => State.clearPoison { s with cores := { s.cores with sram := memWriteBytes s.cores.sram a bs } } memCore a bs.length
  | _ => s

/-- A write that a poisoned word which it covers in part discards, with the state that reports the error (R469). -/
def State.fabricRefuses (s : State) (f : FabricPlace) (n : Nat) : Option State :=
  match f.memory with
  | some (m, a) => (s.partlyPoisoned m a n).map (s.eccError m)
  | none => none

/-- A core's write; one to an unmapped address is recorded (R32). -/
def State.fabricWrite (s : State) (f : FabricPlace) (off : Nat) (bs : List Byte) : State :=
  match f.memory with
  | some _ => s.fabricStore f bs
  | none => if f = .unmapped then s.badAccess 1 off true else s

/-- The pieces of a read, in order. -/
def State.readPieces (s : State) (k : Nat) : List (Nat × Nat) → Except State (List Byte × State)
  | [] => .ok ([], s)
  | (p, n) :: rest =>
    match s.fabricRead (fabricPlace k p) p n with
    | .error t => .error t
    | .ok (bs, t) =>
      match State.readPieces t k rest with
      | .error u => .error u
      | .ok (cs, u) => .ok (bs ++ cs, u)

/-- The pieces of a write, in order. -/
def State.writePieces (s : State) (k : Nat) (bs : List Byte) : List (Nat × Nat) → State
  | [] => s
  | (p, n) :: rest => State.writePieces (s.fabricWrite (fabricPlace k p) p (bs.take n)) k (bs.drop n) rest

/-- A core's read of n bytes at a virtual address (R129): L_RANGE where no region permits it. -/
def State.coreRead (s : State) (k a n : Nat) : Except (State × Nat × Nat) (List Byte × State) :=
  match (s.core k).pieces a n false with
  | none => .error (s, fltLRange, a)
  | some ps =>
    match s.readPieces k ps with
    | .error t => .error (t, fltEcc, a)
    | .ok r => .ok r

/-- A core's write at a virtual address: nothing is written where a piece is refused (R100). -/
def State.coreWrite (s : State) (k a : Nat) (bs : List Byte) : Except (State × Nat × Nat) State :=
  match (s.core k).pieces a bs.length true with
  | none => .error (s, fltLRange, a)
  | some ps =>
    match ps.findSome? fun p => s.fabricRefuses (fabricPlace k p.1) p.2 with
    | some t => .error (t, fltEcc, a)
    | none => .ok (s.writePieces k bs ps)

/-- A read of n bytes of L by an executor. -/
def State.readL (s : State) (x : Ctx) (a n : Nat) : Except (State × Nat × Nat) (List Byte × State) :=
  match x with
  | .core k => s.coreRead k.val a n
  | .tile p c =>
    match s.lRead p.val (s.ctx p.val c.val) c.val a n with
    | .error e => .error e
    | .ok bs => .ok (bs, s)

/-- A write of L by an executor. -/
def State.writeL (s : State) (x : Ctx) (a : Nat) (bs : List Byte) : Except (State × Nat × Nat) State :=
  match x with
  | .core k => s.coreWrite k.val a bs
  | .tile p c => s.lWrite p.val (s.ctx p.val c.val) c.val a bs

/-- Whether an executor may access n bytes of L: the checks of a copy that is made later (R119). -/
def State.lFault (s : State) (x : Ctx) (a n : Nat) (write : Bool) : Option Nat :=
  match x with
  | .core k => if ((s.core k.val).pieces a n write).isNone then some fltLRange else none
  | .tile p c => if s.lPermits (s.ctx p.val c.val) c.val a n write then none else some fltLRange

end Sys2Proof.Machine
end

