-- ==== Sys2Proof/Machine/Table.lean ====
section
/-!
DEFINITION. Walzor table-pool and token instructions (R117 to R123), and the completion of their operations and posted
stores (R102, R118).
-/
namespace Sys2Proof.Machine

/-- The checks on a T access before an instruction goes on (R117, R145). -/
def tAccess (s : State) (x : Ctx) (a n align : Nat) (write : Bool) (k : Act) : Act :=
  match s.tFault x a n align write with
  | some code => .fault s code 0 a
  | none => k

/-- The T address of TBLD and TBST: ga + 8 × IMM6, modulo 2^64 as the addresses of Form E (R119, log entry 97). -/
def State.tAddr (s : State) (x : Ctx) (w : Word) : Nat := ((s.g x (fRa w)).toNat + 8 * fImm6 w) % 2 ^ 64

/-- TBLD. -/
def execTbld (x : Ctx) (s : State) : Host.Outcome State Fault Refusal :=
  .next (s.issue x encTbld longA fun w s =>
    tAccess s x (s.tAddr x w) 8 8 false (.next (s.startOp x (.load (s.tAddr x w)) (some (fRd w)))))

/-- TBST, posted. -/
def execTbst (x : Ctx) (s : State) : Host.Outcome State Fault Refusal :=
  .next (s.issue x encTbst readsAB fun w s =>
    tAccess s x (s.tAddr x w) 8 8 true (s.postStore x (s.tAddr x w) (leBytes 8 (s.g x (fRb w)).toNat)))

/-- TBCAS: expected value in gd, new value in gb. -/
def execTbcas (x : Ctx) (s : State) : Host.Outcome State Fault Refusal :=
  .next (s.issue x encTbcas longDAB fun w s =>
    let a := (s.g x (fRa w)).toNat
    tAccess s x a 8 8 true (.next (s.startOp x (.cas a (s.g x (fRd w)) (s.g x (fRb w))) (some (fRd w)))))

/-- TBADD. -/
def execTbadd (x : Ctx) (s : State) : Host.Outcome State Fault Refusal :=
  .next (s.issue x encTbadd longAB fun w s =>
    let a := (s.g x (fRa w)).toNat
    tAccess s x a 8 8 true (.next (s.startOp x (.add a (s.g x (fRb w))) (some (fRd w)))))

/-- TBFIND (R120): a search for 0 raises ARG. -/
def execTbfind (x : Ctx) (s : State) : Host.Outcome State Fault Refusal :=
  .next (s.issue x encTbfind longAB fun w s =>
    let a := (s.g x (fRa w)).toNat
    tAccess s x a 64 64 false
      (if s.g x (fRb w) = 0 then .fault s fltArg 0 0
       else .next (s.startOp x (.find a (s.g x (fRb w))) (some (fRd w)))))

/-- TBLOCK (R121): a tile context that holds four locks raises ARG. -/
def execTblock (x : Ctx) (s : State) : Host.Outcome State Fault Refusal :=
  .next (s.issue x encTblock longA fun w s =>
    let a := (s.g x (fRa w)).toNat
    tAccess s x a 8 8 true
      (if 4 ≤ (s.tileCtx x).locks.length then .fault s fltArg 0 0
       else .next (s.startOp x (.lock a) (some (fRd w)))))

/-- A lock taken out of a tile context's record (R121). -/
def State.forgetLock (s : State) (x : Ctx) (a : Nat) : State :=
  match x with
  | .tile p c => s.setCtx p.val c.val { s.ctx p.val c.val with locks := (s.ctx p.val c.val).locks.filter (· != a) }
  | .core _ => s

/-- A posted store outstanding would be a fifth (R102). -/
def Thread.storesFull (t : Thread) : Bool := decide (4 ≤ t.stores.length)

/-- TBUNLK (R121): a tile tests its record; a service core first reads the word. -/
def execTbunlk (x : Ctx) (s : State) : Host.Outcome State Fault Refusal :=
  .next (s.issue x encTbunlk ⟨fun w => [fRa w], fun _ => false, !isTile x⟩ fun w s =>
    let a := (s.g x (fRa w)).toNat
    tAccess s x a 8 8 true
      (if isTile x then
        (if (s.tileCtx x).locks.contains a = false then .fault s fltTLock 0 0
         else if (s.th x).storesFull then .block s .stores
         else (s.forgetLock x a).postStore x a (leBytes 8 0))
       else if (s.th x).storesFull then .block s .stores
       else .wait (s.startOp x (.unlockRead a) none)))

/-- TBGET: T at gb to L at ga. -/
def execTbget (x : Ctx) (s : State) : Host.Outcome State Fault Refusal :=
  .next (s.issue x encTbget longAB fun w s =>
    let l := (s.g x (fRa w)).toNat
    let a := (s.g x (fRb w)).toNat
    if l % 8 ≠ 0 then .fault s fltAlign 0 l
    else
      tAccess s x a (copySize w) 8 false
        (match s.lFault x l (copySize w) true with
         | some code => .fault s code 0 l
         | none => .next (s.startOp x (.get a l (copySize w)) none)))

/-- TBPUT: L at gb to T at ga, posted. -/
def execTbput (x : Ctx) (s : State) : Host.Outcome State Fault Refusal :=
  .next (s.issue x encTbput readsAB fun w s =>
    let a := (s.g x (fRa w)).toNat
    let l := (s.g x (fRb w)).toNat
    if l % 8 ≠ 0 then .fault s fltAlign 0 l
    else
      tAccess s x a (copySize w) 8 true
        (if (s.th x).storesFull then .block s .stores
         else
           match s.readL x l (copySize w) with
           | .error (t, code, addr) => .fault t code 0 addr
           | .ok (bs, t) => t.postStore x a bs))

/-- TKN (R122): gb of 2^24 or more raises ARG. -/
def execTkn (x : Ctx) (s : State) : Host.Outcome State Fault Refusal :=
  .next (s.issue x encTkn longAB fun w s =>
    let a := (s.g x (fRa w)).toNat
    let n := (s.g x (fRb w)).toNat
    tAccess s x a 16 16 true
      (if 2 ^ 24 ≤ n then .fault s fltArg 0 0 else .next (s.startOp x (.take a n) (some (fRd w)))))

/-- TKSET (R123). -/
def execTkset (x : Ctx) (s : State) : Host.Outcome State Fault Refusal :=
  .next (s.issue x encTkset longAB fun w s =>
    let a := (s.g x (fRa w)).toNat
    tAccess s x a 16 16 true
      (.next (s.startOp x (.setBucket a (s.g x (fRb w)) (decide (fImm6 w = 1))) none)))

/-! ### Completion -/

/-- The T address and size that an operation accesses. -/
def LongKind.span : LongKind → Option (Nat × Nat)
  | .load a => some (a, 8)
  | .cas a _ _ => some (a, 8)
  | .add a _ => some (a, 8)
  | .find a _ => some (a, 64)
  | .lock a => some (a, 8)
  | .unlockRead a => some (a, 8)
  | .get a _ n => some (a, n)
  | .take a _ => some (a, 16)
  | .setBucket a _ _ => some (a, 16)
  | _ => none

/-- An earlier posted store of the thread lies on a line of n bytes at an address (R118). -/
def Thread.storeAhead (t : Thread) (a n : Nat) : Bool :=
  t.stores.any fun p => !p.late && decide (p.addr / 64 ≤ (a + n - 1) / 64) && decide (a / 64 ≤ (p.addr + p.bytes.length - 1) / 64)

/-- now12 of R122: units of 2^-12 s of an executor's replica. -/
def State.now12 (s : State) (x : Ctx) (lag : Nat) : Nat :=
  let t := s.timeRead x lag
  (ct96Sec t % 2 ^ 32 * 2 ^ 12 + bfrac t / 2 ^ 20) % 2 ^ 32

/-- The refill and the take of R122 on (LEVEL, LAST, RATE, DEPTH): the new LEVEL and whether the tokens were there. -/
def takeTokens (level last rate depth now n : Nat) : Nat × Bool :=
  let el := (now + 2 ^ 32 - last) % 2 ^ 32
  let l := min depth (level + rate * el / 2 ^ 12)
  if n * 2 ^ 8 ≤ l then (l - n * 2 ^ 8, true) else (l, false)

/-- The holder number of an executor (R121). -/
def holderOf : Ctx → Nat
  | .tile p c => p.val * 48 + c.val
  | .core k => 3456 + k.val

/-- The slot of a bucket whose key matches, slot 0 first (R120). -/
def findSlot (s : State) (a : Nat) (key : Word64) : Option Nat :=
  (List.range 4).find? fun i => s.poolWord (a + 16 * i) == key.toNat

/-- A lock recorded for a tile context (R121). -/
def State.noteLock (s : State) (x : Ctx) (a : Nat) : State :=
  match x with
  | .tile p c => s.setCtx p.val c.val { s.ctx p.val c.val with locks := (s.ctx p.val c.val).locks ++ [a] }
  | .core _ => s

/-- The thread after its operation has completed with a result and RES. -/
def State.completeOp (s : State) (x : Ctx) (v : Option Word64) (res : Option Bool) : State :=
  s.readied (s.setTh x ((s.th x).complete v res)) x

/-- A thread that is ENDING takes no result and no fault. -/
def Thread.isEnding (t : Thread) : Bool :=
  match t.status with
  | .ending _ => true
  | _ => false

/-- An operation lost to an uncorrectable error: the executor stops at the instruction that started it, unless it is ending
(R100, R468, log entry 97). -/
def State.opEcc (s : State) (x : Ctx) (word a : Nat) : State :=
  let t := s.eccError memPool word
  let th := t.th x
  if th.isEnding then t.setTh x { th with op := none }
  else (t.setTh x { th with op := none, pc := th.op.elim th.pc (·.pc) }).faultAt x fltEcc 0 a

/-- The effect and the result of an operation on the pool (R119 to R123). A TBGET reads and writes all its lines in one
command, and a TBPUT likewise (log entry 97); what it read for an ending context is discarded (R147). -/
def State.runOp (s : State) (x : Ctx) (k : LongKind) (lag : Nat) : State :=
  let who := poolWriter x
  match k with
  | .load a => s.completeOp x (some (BitVec.ofNat 64 (s.poolWord a))) none
  | .cas a old new =>
    let v := s.poolWord a
    let t := if v = old.toNat then s.poolWrite who a (leBytes 8 new.toNat) else s
    t.completeOp x (some (BitVec.ofNat 64 v)) (some (decide (v ≠ old.toNat)))
  | .add a n =>
    let v := s.poolWord a
    (s.poolWrite who a (leBytes 8 (v + n.toNat))).completeOp x (some (BitVec.ofNat 64 v)) none
  | .find a key =>
    match findSlot s a key with
    | some i => s.completeOp x (some (BitVec.ofNat 64 (s.poolWord (a + 16 * i + 8)))) (some false)
    | none => s.completeOp x (some 0) (some true)
  | .lock a =>
    let v := s.poolWord a
    if v.testBit 63 then s.completeOp x (some (BitVec.ofNat 64 v)) (some true)
    else
      ((s.poolWrite who a (leBytes 8 (2 ^ 63 + holderOf x))).noteLock x a).completeOp x (some (BitVec.ofNat 64 v))
        (some false)
  | .unlockRead a =>
    let v := s.poolWord a
    let t := s.setTh x { s.th x with op := none, status := .ready }
    if v.testBit 63 && v % 2 ^ 12 == holderOf x then
      (t.setTh x { t.th x with stores := (t.th x).stores ++ [⟨a, leBytes 8 0, false⟩] }).retire x (nextPc (t.th x).pc)
    else t.faultAt x fltTLock 0 0
  | .get a l n =>
    if (s.th x).isEnding then s.completeOp x none none else
    match s.writeL x l (memReadBytes s.gys.pool a n) with
    | .ok t => t.completeOp x none none
    | .error (t, _, _) => t.completeOp x none none
  | .take a n =>
    let w0 := s.poolWord a
    let w1 := s.poolWord (a + 8)
    let now := s.now12 x lag
    let r := takeTokens (w0 / 2 ^ 32) (w0 % 2 ^ 32) (w1 / 2 ^ 32) (w1 % 2 ^ 32) now n
    (s.poolWrite who a (leBytes 8 (r.1 * 2 ^ 32 + now))).completeOp x (some (BitVec.ofNat 64 (r.1 / 2 ^ 8))) (some (!r.2))
  | .setBucket a v fill =>
    let w0 := s.poolWord a
    let depth := v.toNat % 2 ^ 32
    let level := if fill then depth else min (w0 / 2 ^ 32) depth
    let last := if fill then s.now12 x lag else w0 % 2 ^ 32
    (s.poolWrite who a (leBytes 8 (level * 2 ^ 32 + last) ++ leBytes 8 v.toNat)).completeOp x none none
  | _ => s

/-- An executor on a retired physical tile (R477). -/
def State.ghost (s : State) (x : Ctx) : Bool :=
  match x with
  | .tile p _ => s.tileRetired p.val
  | .core _ => false

/-- An emission of a retired unit discarded and counted (R477). -/
def State.countGhost (s : State) : State := (s.bump Reg.REL_CNT_GHOST 0 32).setFlag Reg.REL_STICKY 4 true

/-- The outstanding operation of an executor completes: after its own earlier stores to the line (R118), discarded from
a retired tile (R477), with ECC from a poisoned word (R468). -/
def State.finishOp (s : State) (x : Ctx) (k : LongKind) (a n lag : Nat) : State :=
  if (s.th x).storeAhead a n then s
  else if s.ghost x then s.countGhost.completeOp x none none
  else
    match s.poisoned memPool a n with
    | some w => s.opEcc x w a
    | none => s.runOp x k lag

/-- TABLE_OP_COMPLETE (R119): an operation other than TKN; the lag is that of the time read by a TKSET that fills. -/
def execTableOpComplete (x : Ctx) (lag : Nat) (s : State) : Host.Outcome State Fault Refusal :=
  match (s.th x).op with
  | some ⟨.take _ _, _, _⟩ => .next s
  | some ⟨k, _, _⟩ =>
    match k.span with
    | some (a, n) => if maxLag < lag then .next s else .next (s.finishOp x k a n lag)
    | none => .next s
  | none => .next s

/-- TKN_COMPLETE (R122). -/
def execTknComplete (x : Ctx) (lag : Nat) (s : State) : Host.Outcome State Fault Refusal :=
  match (s.th x).op with
  | some ⟨.take a n, _, _⟩ => if maxLag < lag then .next s else .next (s.finishOp x (.take a n) a 16 lag)
  | _ => .next s

/-- POSTED_STORE_COMPLETE (R102, R118): the oldest posted store of an executor. -/
def execPostedStoreComplete (x : Ctx) (s : State) : Host.Outcome State Fault Refusal :=
  match (s.th x).stores with
  | [] => .next s
  | p :: ps =>
    let t := if s.ghost x then s.countGhost else s.poolWriteLines (poolWriter x) 8 p.addr p.bytes
    .next (t.readied (t.setTh x (Thread.wake { t.th x with stores := ps })) x)

end Sys2Proof.Machine
end

