-- ==== Sys2Proof/Machine/Control.lean ====
section
/-!
DEFINITION. Walzor disposal, control and privileged instructions (R125 to R130), crypto job issue (R124, R194), and the
words that no instruction has (R99).
-/
namespace Sys2Proof.Machine

/-! ### Disposal (R125) -/

/-- A disposal: it waits for the outstanding operation and the posted stores; a lock still held raises T_LOCK and nothing
else; then it checks its frame and operand, and acts. -/
def dispose (s : State) (x : Ctx) (k : Act) : Act :=
  if (s.th x).op.isSome ∨ (s.th x).stores ≠ [] then .wait s
  else if (s.tileCtx x).locks ≠ [] then .fault s fltTLock 0 0
  else k

/-- A context that ends by a disposal; its frame has left it (R136). -/
def State.endContext (s : State) (x : Ctx) : State :=
  match x with
  | .tile p c =>
    let y := s.ctx p.val c.val
    s.setCtx p.val c.val { y with th := { y.th with status := .ending none }, frame := none }
  | .core _ => s

/-- A context whose frame is stale at SEND or TOHOST (R142). -/
def State.staleHere (s : State) (x : Ctx) : Bool :=
  let y := s.tileCtx x
  y.ages && s.stale (clusterOf y.tile) y.pclass y.stamp.time

/-- A frame queued to its egress port, or dropped and counted where no port or no link is there (R113). -/
def State.sendOut (s : State) (f : Frame) : State :=
  if s.portExists f.egress && s.flag (Reg.PRT_STATUS f.egress) 0 then s.enqueueTx { f with origin := .array }
  else (s.bump Reg.GYS_NOPORT 0 32).gysSticky stNoPort

/-- SEND. -/
def execSendFrame (x : Ctx) (s : State) : Host.Outcome State Fault Refusal :=
  .next (s.issue x encSend noReads fun _ s =>
    dispose s x (withFrame s x fun f =>
      (.next (State.endContext (if s.staleHere x then s.staleDrop (s.tileCtx x).pclass else s.sendOut f) x))))

/-- DROP: counted under its reason. -/
def execDropFrame (x : Ctx) (s : State) : Host.Outcome State Fault Refusal :=
  .next (s.issue x encDrop noReads fun w s =>
    dispose s x (withFrame s x fun _ =>
      (.next (State.endContext (s.bump (Reg.GYS_DROP (fImm6 w)) 0 32) x))))

/-- TOHOST: to up ring ga. -/
def execTohost (x : Ctx) (s : State) : Host.Outcome State Fault Refusal :=
  .next (s.issue x encTohost readsA fun w s =>
    dispose s x (withFrame s x fun f =>
      let r := (s.g x (fRa w)).toNat
      if 31 < r then .fault s fltArg 0 0
      else (.next (State.endContext
        (if s.staleHere x then s.staleDrop (s.tileCtx x).pclass
         else { s with net := { s.net with toHost := s.net.toHost ++ [⟨r, f, some (s.tileCtx x).tile⟩] } }) x))))

/-- END: ARG in a frame context. -/
def execEndContext (x : Ctx) (s : State) : Host.Outcome State Fault Refusal :=
  .next (s.issue x encEnd noReads fun _ s =>
    dispose s x
      (if (s.tileCtx x).frame.isSome then .fault s fltArg 0 0 else .next (s.endContext x)))

/-! ### Control (R126) -/

/-- NOP. -/
def execNop (x : Ctx) (s : State) : Host.Outcome State Fault Refusal :=
  .next (s.issue x encNop noReads fun _ s => .next s)

/-- YIELD. -/
def execYield (x : Ctx) (s : State) : Host.Outcome State Fault Refusal :=
  .next (s.issue x encYield noReads fun _ s => .next (s.makeNewest x))

/-- WAITL: waits for the outstanding operation. -/
def execWaitl (x : Ctx) (s : State) : Host.Outcome State Fault Refusal :=
  .next (s.issue x encWaitl ⟨fun _ => [], fun _ => false, true⟩ fun _ s => .next s)

/-- FENCE: waits until every posted store has completed. -/
def execFence (x : Ctx) (s : State) : Host.Outcome State Fault Refusal :=
  .next (s.issue x encFence noReads fun _ s => if (s.th x).stores = [] then .next s else .wait s)

/-- BRK. -/
def execBrk (x : Ctx) (s : State) : Host.Outcome State Fault Refusal :=
  .next (s.issue x encBrk noReads fun w s => .fault s fltBrk (fImm6 w) 0)

/-- DATA1 of an event that EVRAISE raises (R372). -/
def State.raiserData (s : State) (x : Ctx) : Word :=
  match x with
  | .tile p c =>
    let y := s.ctx p.val c.val
    BitVec.ofNat 32 (y.tile * 2 ^ 16 + c.val * 2 ^ 8 + y.bank % 2)
  | .core k => BitVec.ofNat 32 (2 ^ 31 + k.val * 2 ^ 16)

/-- EVRAISE. -/
def execEvraise (x : Ctx) (s : State) : Host.Outcome State Fault Refusal :=
  .next (s.issue x encEvraise readsA fun w s =>
    .next (s.raise (240 + fImm6 w) (lo32 (s.g x (fRa w))) (s.raiserData x)))

/-- The items of RDCTX; a service core has no cluster, and no bank is active before the first switch: free values (log
entry 16). -/
def State.contextItem (s : State) (x : Ctx) (i : Nat) : Nat :=
  match i with
  | 0 => match x with
    | .tile _ _ => (s.tileCtx x).tile
    | .core k => k.val
  | 1 => ctxNumber x
  | 2 => (s.th x).executed
  | 3 => if s.activeBank = 3 then s.draw.toNat else s.activeBank
  | 4 => match x with
    | .tile p _ => p.val / 9
    | .core _ => s.draw.toNat
  | _ => (s.th x).flags

/-- RDCTX; with item 5 it waits for an operation that sets RES (R102). -/
def execRdctx (x : Ctx) (s : State) : Host.Outcome State Fault Refusal :=
  .next (s.issue x encRdctx ⟨fun _ => [], fun w => fImm6 w == 5, false⟩ fun w s =>
    let i := fImm6 w
    let t := if (i = 3 ∧ s.activeBank = 3) ∨ (i = 4 ∧ isTile x = false) then s.drawn else s
    .next (t.setG x (fRd w) (BitVec.ofNat 64 (s.contextItem x i))))

/-! ### Privileged profile (R127 to R130) -/

/-- The service core of an executor. -/
def State.coreOf (s : State) (x : Ctx) : CoreState :=
  match x with
  | .core k => s.core k.val
  | .tile _ _ => CoreState.reset

/-- A core's state replaced. -/
def State.setCoreOf (s : State) (x : Ctx) (c : CoreState) : State :=
  match x with
  | .core k => s.setCore k.val c
  | .tile _ _ => s

/-- The depth that the CPM grants core k for the one that it offers: the smaller of it and MAXDEPTH, and 0x3 as 0x2 (R428). -/
def State.grantedDepth (s : State) (k offered : Nat) : Nat := min (min offered (s.fld Reg.CPM_SCPOL (2 * k) 2)) 2

/-- The depth granted to an executor. -/
def State.depthFor (s : State) : Ctx → Nat
  | .core k => s.grantedDepth k.val (s.core k.val).pwrMode
  | .tile _ _ => 0

/-- WAIT: stops issue, at the depth that the CPM grants of SR_PWRMODE, unless an interrupt is pending and enabled. -/
def execWaitCore (x : Ctx) (s : State) : Host.Outcome State Fault Refusal :=
  .next (s.issue x encWait noReads fun _ s =>
    let c := s.coreOf x
    if c.ie ∧ c.irqs ≠ [] then .next s else .next (s.setCoreOf x { c with depth := some (s.depthFor x) }))

/-- ERET. -/
def execEret (x : Ctx) (s : State) : Host.Outcome State Fault Refusal :=
  .next (s.issue x encEret noReads fun _ s =>
    let c := s.coreOf x
    .goto (s.setCoreOf x { c with inh := false, ie := c.pie }) c.epc)

/-- The system registers of R128 as they read. SR_CYCLE counts a cycle for each instruction and the further ones that have
passed, of which the read finds a free number (log entry 17). -/
def State.systemRegister (s : State) (x : Ctx) (i : Nat) : Word64 :=
  let c := s.coreOf x
  match i with
  | 0 => BitVec.ofNat 64 (ofBool c.ie + 2 * ofBool c.pie + 4 * ofBool c.inh)
  | 1 => BitVec.ofNat 64 c.cause
  | 2 => BitVec.ofNat 64 c.epc
  | 3 => c.faddr
  | 4 => BitVec.ofNat 64 c.pwrMode
  | 5 => BitVec.ofNat 64 c.vec
  | 6 => match x with
    | .core k => BitVec.ofNat 64 k.val
    | .tile _ _ => 0
  | _ => BitVec.ofNat 64 ((s.th x).executed + c.idle)

/-- A free number of core cycles has passed since the last one was counted. -/
def State.passCycles (s : State) (x : Ctx) : State :=
  let t := s.drawn
  t.setCoreOf x { t.coreOf x with idle := (t.coreOf x).idle + s.draw.toNat }

/-- MFSR. -/
def execMfsr (x : Ctx) (s : State) : Host.Outcome State Fault Refusal :=
  .next (s.issue x encMfsr noReads fun w s =>
    let t := if fImm6 w = 7 then s.passCycles x else s
    .next (t.setG x (fRd w) (t.systemRegister x (fImm6 w))))

/-- A system register written: the ones marked RO discard it, and only the bits that a register has are kept (R128). -/
def CoreState.setSystem (c : CoreState) (i : Nat) (v : Word64) : CoreState :=
  match i with
  | 0 => { c with ie := v.getLsbD 0, pie := v.getLsbD 1, inh := v.getLsbD 2 }
  | 2 => { c with epc := v.toNat % 2 ^ 19 }
  | 4 => { c with pwrMode := v.toNat % 4 }
  | 5 => { c with vec := v.toNat % 2 ^ 19 }
  | _ => c

/-- MTSR. -/
def execMtsr (x : Ctx) (s : State) : Host.Outcome State Fault Refusal :=
  .next (s.issue x encMtsr readsA fun w s =>
    .next (s.setCoreOf x ((s.coreOf x).setSystem (fImm6 w) (s.g x (fRa w)))))

/-- A region given a value. -/
def CoreState.setRegion (c : CoreState) (i : Nat) (r : Region) : CoreState :=
  { c with regions := sparseSet (fun _ => Region.reset) c.regions i r }

/-- The bits of MRGN's gb that must be 0 (R129). -/
def regionZeros : Nat := 2 ^ 64 - 1 - ((2 ^ 24 - 1) * 2 ^ 40 + (2 ^ 16 - 1) * 2 ^ 24 + 0xB)

/-- The region that MRGN sets (R129). -/
def regionFrom (a b : Nat) : Region :=
  { valid := true, base := a, phys := b / 2 ^ 40, units := b / 2 ^ 24 % 2 ^ 16 + 1, read := b.testBit 0,
    write := b.testBit 1, device := b.testBit 3 }

/-- MRGN: ARG for a base that is not 64 KiB aligned or a bit of gb that must be 0. -/
def execMrgn (x : Ctx) (s : State) : Host.Outcome State Fault Refusal :=
  .next (s.issue x encMrgn readsAB fun w s =>
    let a := (s.g x (fRa w)).toNat
    let b := (s.g x (fRb w)).toNat
    if a % 65536 ≠ 0 ∨ b &&& regionZeros ≠ 0 then .fault s fltArg 0 0
    else .next (s.setCoreOf x ((s.coreOf x).setRegion (fImm6 w) (regionFrom a b))))

/-- MRGI. -/
def execMrgi (x : Ctx) (s : State) : Host.Outcome State Fault Refusal :=
  .next (s.issue x encMrgi noReads fun w s =>
    .next (s.setCoreOf x ((s.coreOf x).setRegion (fImm6 w) Region.reset)))

/-- SC_INTERRUPT (R130): an interrupt with IE = 1 enters the handler, and an interrupt or a release of the power handshake
ends a WAIT. -/
def execScInterrupt (k : Fin 8) (release : Bool) (s : State) : Host.Outcome State Fault Refusal :=
  let c := s.core k.val
  if c.inReset || c.stopped || c.th.status != .ready then .next s
  else if (c.irqs ≠ [] ∧ (c.ie = true ∨ c.depth ≠ none)) ∨ (release = true ∧ c.depth ≠ none) then
    .next (s.coreInterrupt k.val)
  else .next s

/-! ### Undefined words (R99, R127, R154, R468) -/

/-- The fault of the word at the PC, where no instruction can run there: ECC for a poisoned word, PRIV for opcode 0x38
on a tile, ILLEGAL for a word without an encoding. -/
def State.undefinedFault (s : State) (x : Ctx) : Option Nat :=
  if s.fetchPoisoned x then some fltEcc
  else if isTile x && fOp (s.fetch x) == 0x38 then some fltPriv
  else if isDefined (isTile x) (s.fetch x) then none
  else some fltIllegal

/-- UNDEFINED_ENCODING. -/
def execUndefinedEncoding (x : Ctx) (s : State) : Host.Outcome State Fault Refusal :=
  match s.undefinedFault x with
  | none => .next s
  | some code =>
    if s.mayIssue x = false then .next s
    else if s.overBudget x then .next (s.faultAt x fltBudget 0 0)
    else if s.trapWaits x then .next (s.setStatus x .waiting)
    else
      let t := if code = fltEcc then s.eccError (s.fetchPlace x).1 (s.fetchPlace x).2 else s
      .next (t.faultAt x code 0 (if isTile x then 0 else 4 * (s.th x).pc))

/-! ### Crypto jobs (R124, R194, R196) -/

/-- The jobs in a cluster's queue (R192). -/
def State.jobsQueued (s : State) (k : Nat) : Nat := (s.cry.queued.filter fun j => j.1 / 9 == k).length

/-- The job placed in its cluster's queue. -/
def State.queueJob (s : State) (x : Ctx) : State :=
  { s with cry := { s.cry with queued := s.cry.queued ++ [(ctxTile x, ctxNumber x)] } }

/-- CJOB's body: the checks of R194, then the queue, where a full one blocks the context. -/
def cjobBody (x : Ctx) (w : Word) (s : State) : Act :=
  let y := s.tileCtx x
  let c := ctxNumber x
  let a := (s.g x (fRa w)).toNat
  if a % 64 ≠ 0 then .fault s fltAlign 0 a
  else if s.lPermits y c a 64 true = false then .fault s fltLRange 0 a
  else
    match ((descriptorOf (s.jobL (ctxTile x) a 64)).rangesL (fImm6 w)).find? fun r => !s.lPermits y c r.1 r.2 true with
    | some r => .fault s fltLRange 0 r.1
    | none =>
      if 256 ≤ s.jobsQueued (ctxTile x / 9) then .block s .jobQueue
      else .next ((s.queueJob x).startOp x
          (.job a (s.g x (fRb w)) (fImm6 w)) (some (fRd w)))

/-- CJOB. -/
def execCjob (x : Ctx) (s : State) : Host.Outcome State Fault Refusal :=
  .next (s.issue x encCjob longAB (cjobBody x))

/-- CJOB_QUEUE_ROOM (R124): a context blocked on a full job queue issues its job when room appears. -/
def execCjobQueueRoom (p : Fin 72) (c : Fin 48) (s : State) : Host.Outcome State Fault Refusal :=
  let x : Ctx := .tile p c
  if (s.th x).status ≠ .blocked .jobQueue ∨ 256 ≤ s.jobsQueued (p.val / 9) then .next s
  else .next ((s.setStatus x .ready).issue x encCjob longAB (cjobBody x))

end Sys2Proof.Machine
end

