-- ==== Sys2Proof/Machine/Crypto.lean ====
section
/-!
DEFINITION. The crypto pipelines and the key store (chapter 07): the life of a job, the operations of R196, key slots,
host mints, anchors, and the registers of the CRY block.
-/
namespace Sys2Proof.Machine

/-! The job status codes of R197. -/
abbrev jobOk : Nat := 0x00
abbrev jobKeyUnknown : Nat := 0x01
abbrev jobCookieAuth : Nat := 0x02
abbrev jobAeadId : Nat := 0x03
abbrev jobReqAuth : Nat := 0x04
abbrev jobFormat : Nat := 0x05
abbrev jobNoCurrent : Nat := 0x06
abbrev jobUnavail : Nat := 0x07
abbrev jobEcc : Nat := 0x08
abbrev jobPipeFault : Nat := 0x09
abbrev jobNonce : Nat := 0x0A

/-- CRY_STICKY bits raise source 160 + b (R218). -/
def State.crySticky (s : State) (b : Nat) : State := s.sticky Reg.CRY_STICKY Reg.CRY_STICKY_EN b (160 + b)

/-! ### AES-SIV (R196, R210) -/

/-- The 16 bytes of a tag. -/
def tagBytes (t : BitVec 128) : List Byte := beBytes 16 t.toNat

/-- Sealing: the tag and the ciphertext. -/
def sivSeal (key : List Byte) (ads : List (List Byte)) (plain : List Byte) : List Byte :=
  tagBytes (sivTag key ads plain) ++ sivCrypt key (sivTag key ads plain) plain

/-- Opening a tag and a ciphertext: the plaintext, where the check passes. -/
def sivOpen (key : List Byte) (ads : List (List Byte)) (sealed : List Byte) : Option (List Byte) :=
  let tag := BitVec.ofNat 128 (ofBeBytes (sealed.take 16))
  let plain := sivCrypt key tag (sealed.drop 16)
  if sivTag key ads plain = tag then some plain else none

/-- Exactly n bytes. -/
def sized (n : Nat) (bs : List Byte) : List Byte := (bs ++ List.replicate n 0).take n

/-! ### Key slots (R205, R206) -/

/-! The states of CRY_KSLOTn. -/
abbrev slotEmpty : Nat := 0
abbrev slotAccept : Nat := 1
abbrev slotCurrent : Nat := 2
abbrev slotDraining : Nat := 3
abbrev slotFailed : Nat := 4

/-- State, KEYID and key of slot n. -/
def State.keyState (s : State) (n : Nat) : Nat := s.fld (Reg.CRY_KSLOT n) 0 3
def State.keyId (s : State) (n : Nat) : Nat := (s.rd (Reg.CRY_KID n)).toNat
def State.keyOf (s : State) (n : Nat) : List Byte := sparseGet (fun _ => []) s.cry.keys n

/-- A slot's state given a value. -/
def State.setKeyState (s : State) (n st : Nat) : State := s.setFld (Reg.CRY_KSLOT n) 0 3 st

/-- The slot that is CURRENT. -/
def State.currentSlot (s : State) : Option Nat := (List.range 64).find? fun n => s.keyState n == slotCurrent

/-- The slot that opens a cookie: its KEYID, in ACCEPT or CURRENT (R206). -/
def State.slotFor (s : State) (id : Nat) : Option Nat :=
  (List.range 64).find? fun n => (s.keyState n == slotAccept || s.keyState n == slotCurrent) && s.keyId n == id

/-- CUR and CUR_VALID as CRY_KSTAT and CRY_STATUS show them. -/
def State.showCurrent (s : State) : State :=
  let v := s.currentSlot.isSome
  ((s.setFlag Reg.CRY_KSTAT 24 v).setFld Reg.CRY_KSTAT 16 6 (s.currentSlot.getD 0)).setFlag Reg.CRY_STATUS 1 v

/-- A slot becomes FAILED (R201). -/
def State.failSlot (s : State) (n : Nat) : State := ((s.setKeyState n slotFailed).showCurrent).crySticky 4

/-- One more use of a slot. -/
def State.useSlot (s : State) (n k : Nat) : State := s.bump (Reg.CRY_KSLOT n) 16 16 k

/-! ### Cookies (R210, R211) -/

/-- The body of a cookie sealed under a slot with a nonce. -/
def cookieBody (id : Nat) (key keyBlock nonce : List Byte) : List Byte :=
  beBytes 4 id ++ nonce ++ sivSeal key [beBytes 4 id, nonce] (keyBlock.take 66) ++ [0, 0]

/-- A cookie opened under the slot that its job bound: the key block, or a status of R211. -/
def State.openCookie (s : State) (slot : Option Nat) (body : List Byte) : Except Nat (List Byte) :=
  match slot with
  | none => .error jobKeyUnknown
  | some n =>
    if (body.drop 102).take 2 ≠ [0, 0] then .error jobCookieAuth
    else
      match sivOpen (s.keyOf n) [body.take 4, (body.drop 4).take 16] ((body.drop 20).take 82) with
      | none => .error jobCookieAuth
      | some plain => if be16 plain 0 = 15 then .ok (plain ++ [0, 0]) else .error jobAeadId

/-- N cookie fields of 108 bytes minted under a slot, each with a nonce of its own (R196). -/
def State.mintFields (s : State) (n : Nat) (keyBlock : List Byte) : Nat → List Byte
  | 0 => []
  | k + 1 =>
    beBytes 2 0x0204 ++ beBytes 2 108 ++ cookieBody (s.keyId n) (s.keyOf n) keyBlock (s.freeBytes 16) ++
      (s.drewBytes 16).mintFields n keyBlock k

/-- The state after n nonces were drawn; the generator reseeds after every 2^20 requests (R200). -/
def State.drewNonces (s : State) (n : Nat) : State :=
  let t := s.drewBytes (16 * n)
  { t with cry := { t.cry with requests := (t.cry.requests + n) % 2 ^ 20 } }

/-! ### Jobs (R192 to R197) -/

/-- An output of a job. -/
inductive JobOutput where
  | p (a : Nat) (bs : List Byte)
  | l (a : Nat) (bs : List Byte)
  deriving DecidableEq, Repr

/-- How a job turns out: its status, its outputs where that is OK, the slot uses it counts, and the nonces it drew. -/
structure JobResult where
  status : Nat
  outputs : List JobOutput
  uses : Option (Nat × Nat)
  nonces : Nat
  deriving DecidableEq, Repr

/-- A job that fails. -/
def JobResult.fail (status : Nat) : JobResult := ⟨status, [], none, 0⟩

/-- The nonce and the ciphertext of an authenticator body (R196); none where its lengths are invalid. -/
def authenticator (b : List Byte) : Option (List Byte × List Byte) :=
  let n := be16 b 2
  if b.length < 20 ∨ be16 b 0 ≠ 16 ∨ n < 16 ∨ b.length < 20 + n then none
  else some ((b.drop 4).take 16, (b.drop 20).take n)

/-- An authenticator body sealed over associated data (R196, RFC 8915): padded to four bytes. -/
def sealBody (key ad nonce plain : List Byte) : List Byte :=
  let c := sivSeal key [ad, nonce] plain
  beBytes 2 16 ++ beBytes 2 c.length ++ nonce ++ c ++ List.replicate ((4 - c.length % 4) % 4) 0

/-- SIV_OPEN under a C2S key (R196). -/
def openRequest (key ad body : List Byte) (pb : Nat) : Except Nat JobOutput :=
  match authenticator body with
  | none => .error jobFormat
  | some (nonce, c) =>
    match sivOpen key [ad, nonce] c with
    | none => .error jobReqAuth
    | some plain => .ok (.p (plainAt pb) plain)

/-- A P range of a job that lies within the frame. -/
def inFrame (f : List Byte) (a n : Nat) : Bool := decide (a + n ≤ f.length)

/-- The slot number that a job writes to RES of its descriptor (R196). -/
def resOutput (desc v : Nat) : JobOutput := .l (desc + 0x10) (leBytes 4 v)

/-- The operations of R196 on a frame f of tile p, with the slot the job bound. -/
def State.runJob (s : State) (p : Nat) (f : List Byte) (desc : Nat) (d : Descriptor) (aux code : Nat)
    (slot : Option Nat) : JobResult :=
  let n := aux % 16
  let kb := s.jobL p d.kl 68
  let c2s := (kb.drop 2).take 32
  let s2c := (kb.drop 34).take 32
  let badN := n = 0 ∨ 8 < n
  if (aux / 16 % 16 ≠ 0 ∨ aux / 512 ≠ 0) ∨ d.reserved ≠ List.replicate 40 0 then .fail jobFormat
  else
    match code with
    | 0x01 =>
      if d.la ≠ 104 ∨ d.kl % 4 ≠ 0 ∨ !inFrame f d.pa d.la ∨ !inFrame f d.pb d.lb ∨ !inFrame f d.pc d.lc
          ∨ (authenticator (framePart f d.pb d.lb)).isNone then .fail jobFormat
      else
        match s.openCookie slot (framePart f d.pa 104) with
        | .error e => .fail e
        | .ok keys =>
          match openRequest ((keys.drop 2).take 32) (framePart f d.pc d.lc) (framePart f d.pb d.lb) d.pb with
          | .error e => .fail e
          | .ok o => ⟨jobOk, [.l d.kl (sized 68 keys), o, resOutput desc (slot.getD 0)], slot.map (·, 1), 0⟩
    | 0x02 =>
      let len := 36 + 108 * n
      if badN ∨ d.kl % 4 ≠ 0 ∨ !inFrame f d.pa d.la ∨ !inFrame f d.pb d.lb ∨ d.lb < len then .fail jobFormat
      else
        match slot with
        | none => .fail jobNoCurrent
        | some k =>
          if s.flag Reg.CRY_STATUS 3 = false then .fail jobNonce
          else
            let nonce := s.freeBytes 16
            let body := sealBody s2c (framePart f d.pa d.la) nonce ((s.drewBytes 16).mintFields k kb n)
            ⟨jobOk, [.p d.pb body, resOutput desc body.length], some (k, n), n + 1⟩
    | 0x03 =>
      if d.la ≠ 104 ∨ d.kl % 4 ≠ 0 ∨ !inFrame f d.pa d.la then .fail jobFormat
      else
        match s.openCookie slot (framePart f d.pa 104) with
        | .error e => .fail e
        | .ok keys => ⟨jobOk, [.l d.kl (sized 68 keys), resOutput desc (slot.getD 0)], slot.map (·, 1), 0⟩
    | 0x04 =>
      if badN ∨ d.kl % 4 ≠ 0 ∨ !inFrame f d.pb d.lb ∨ d.lb < 108 * n then .fail jobFormat
      else
        match slot with
        | none => .fail jobNoCurrent
        | some k =>
          if s.flag Reg.CRY_STATUS 3 = false then .fail jobNonce
          else ⟨jobOk, [.p d.pb (s.mintFields k kb n)], some (k, n), n⟩
    | 0x05 =>
      if d.kl % 4 ≠ 0 ∨ !inFrame f d.pa d.la ∨ !inFrame f d.pb d.lb then .fail jobFormat
      else
        match openRequest c2s (framePart f d.pa d.la) (framePart f d.pb d.lb) d.pb with
        | .error e => .fail e
        | .ok o => ⟨jobOk, [o], none, 0⟩
    | 0x06 =>
      let body := sealBody s2c (framePart f d.pa d.la) (s.freeBytes 16) (framePart f d.pc d.lc)
      if d.kl % 4 ≠ 0 ∨ !inFrame f d.pa d.la ∨ !inFrame f d.pb d.lb ∨ !inFrame f d.pc d.lc ∨ d.lb < body.length then
        .fail jobFormat
      else if s.flag Reg.CRY_STATUS 3 = false then .fail jobNonce
      else ⟨jobOk, [.p d.pb body], none, 1⟩
    | _ =>
      match digestBytes code with
      | none => .fail jobFormat
      | some m =>
        if d.la = 0 ∨ 4096 < d.la then .fail jobFormat
        else if s.flag Reg.CRY_STATUS 2 = false then .fail jobPipeFault
        else
          let src := s.jobL p d.kl d.la
          let h := match code with
            | 0x08 => sha256 src
            | 0x09 => sha384 src
            | 0x0A => sha512 src
            | _ => sha3 src
          ⟨jobOk, [.l d.dl (sized m h)], none, 0⟩

/-- Bytes that a job writes to L of its tile: the ranges were checked at issue (R194), and none lies past L's end. -/
def State.jobStore (s : State) (p a : Nat) (bs : List Byte) : State :=
  if a + bs.length ≤ 2 ^ 19 then s.lStore p a bs else s

/-- An output written to the frame or to L of a context. -/
def State.putOutput (s : State) (p c : Nat) : JobOutput → State
  | .p a bs =>
    match (s.ctx p c).frame with
    | none => s
    | some f => s.setCtx p c { s.ctx p c with frame := some (f.store a bs) }
  | .l a bs => s.jobStore p a bs

/-- The outputs of a job written. -/
def State.putOutputs (s : State) (p c : Nat) (os : List JobOutput) : State := os.foldl (fun t o => t.putOutput p c o) s

/-- Every byte that an operation may write takes a free value (R195): ranges of L, then of the frame as far as it goes. -/
def State.freeOutputs (s : State) (p c desc code : Nat) : State :=
  let d := descriptorOf (s.jobL p desc 64)
  let len := ((s.ctx p c).frame.map fun f => f.bytes.length).getD 0
  let t := (d.outputsL desc code).foldl (fun t r => (t.putOutput p c (.l r.1 (t.freeBytes r.2))).drewBytes r.2) s
  (d.outputsP code).foldl (fun t r =>
    let n := min r.2 (len - r.1)
    (t.putOutput p c (.p r.1 (t.freeBytes n))).drewBytes n) t

/-- A poisoned word among a job's inputs (R197): of L, or of the frame. -/
def State.jobInputPoisoned (s : State) (p c desc code : Nat) : Option State :=
  let d := descriptorOf (s.jobL p desc 64)
  let inL := (((desc, 64) :: d.inputsL code).filterMap fun r => s.poisoned memL (lAddr p r.1) r.2).head?
  match inL with
  | some w => some (s.eccError memL w)
  | none =>
    match (s.ctx p c).frame with
    | none => none
    | some f => if (d.inputsP code).any fun r => f.poisonedAt r.1 r.2 false then some s.packetError else none

/-- WIPE: the key block zeroed at completion, whatever the status (R196). -/
def State.wipe (s : State) (p aux code : Nat) (d : Descriptor) : State :=
  if aux.testBit 8 && decide (1 ≤ code) && decide (code ≤ 6) then s.jobStore p d.kl (List.replicate 68 0) else s

/-- A job counted (R218). -/
def State.countJob (s : State) (status : Nat) : State :=
  let t := s.bump Reg.CRY_CNT_JOB 0 32
  if status = jobOk then t else t.bump Reg.CRY_CNT_FAIL 0 32

/-- The job of a context taken out of the queue and the pipelines. -/
def State.dropJob (s : State) (p c : Nat) : State :=
  { s with cry := { s.cry with
      queued := s.cry.queued.filter (· != (p, c))
      running := s.cry.running.filter fun r => !(r.2.1 == p && r.2.2.1 == c)
      spoiled := s.cry.spoiled.filter (· != (p, c)) } }

/-- A job that ends with a status: WIPE, the count, gd and RES (R193, R196). -/
def State.endJob (s : State) (x : Ctx) (desc aux code status : Nat) : State :=
  let p := ctxTile x
  let c := ctxNumber x
  let t := ((s.wipe p aux code (descriptorOf (s.jobL p desc 64))).countJob status).dropJob p c
  t.completeOp x (some (BitVec.ofNat 64 status)) (some (decide (status ≠ jobOk)))

/-- The pipelines in service (R201). -/
def State.pipeOk (s : State) (i : Nat) : Bool := s.flag Reg.CRY_STATUS (16 + i)

/-- A pipeline that may take a job. -/
def State.pipeIdle (s : State) (i : Nat) : Bool :=
  s.pipeOk i && !s.cry.testing.contains i && !(s.cry.running.any fun r => r.1 == i)

/-- The crypto block runs jobs: on, out of reset and enabled (R197). -/
def State.cryptoOn (s : State) : Bool :=
  s.pd PD_CRYPTO == pdOn && !s.cpm.inReset.contains PD_CRYPTO && s.flag Reg.CRY_CTRL 0

/-- The crypto block takes jobs, which wait while its clock is gated; else they are UNAVAIL (R197). -/
def State.cryptoTakes (s : State) : Bool :=
  (s.pd PD_CRYPTO == pdOn || s.pd PD_CRYPTO == pdGated) && !s.cpm.inReset.contains PD_CRYPTO && s.flag Reg.CRY_CTRL 0

/-- The cluster whose queue the round robin serves next (R192). -/
def State.nextCluster (s : State) : Option Nat :=
  ((List.range 8).map fun i => (s.cry.next + i) % 8).find? fun k => 0 < s.jobsQueued k

/-- The slot that a job binds when it starts (R206): by the cookie's KEYID, or the CURRENT one. -/
def State.bindSlot (s : State) (p c : Nat) : Option Nat :=
  match (s.ctx p c).th.op, (s.ctx p c).frame with
  | some ⟨.job desc _ code, _, _⟩, some f =>
    if code = 1 ∨ code = 3 then s.slotFor (beField f.bytes (descriptorOf (s.jobL p desc 64)).pa 4)
    else if code = 2 ∨ code = 4 then s.currentSlot
    else none
  | _, _ => none

/-- JOB_DISPATCH (R192): the next job in turn goes to the lowest-numbered idle pipeline. -/
def execJobDispatch (s : State) : Host.Outcome State Fault Refusal :=
  if (s.cryptoOn && s.flag Reg.CRY_STATUS 0) = false then .next s
  else
    match s.nextCluster, (List.range 16).find? s.pipeIdle with
    | some k, some i =>
      match s.cry.queued.find? fun j => j.1 / 9 == k with
      | none => .next s
      | some (p, c) =>
        .next { s with cry := { s.cry with
          queued := s.cry.queued.erase (p, c)
          running := s.cry.running ++ [(i, p, c, s.bindSlot p c)]
          next := (k + 1) % 8 } }
    | _, _ => .next s

/-- A pipeline taken out of service for its targeted known-answer test (R201). -/
def State.suspectPipe (s : State) (i : Nat) : State :=
  State.startTest { s.setFlag Reg.CRY_STATUS (16 + i) false with cry := { s.cry with testing := s.cry.testing ++ [i] } }
    (unitPipe i) 0

/-- The error that a pipeline meets while it runs an operation with a slot (R201): its status and what the device does. -/
def State.pipeError (s : State) (i : Nat) (slot : Option Nat) (ev : JobEvent) : Option (Nat × State) :=
  match ev, slot with
  | .mismatch, _ => some (jobPipeFault, s.suspectPipe i)
  | .bufferEcc a, _ => some (jobEcc, (s.eccReport memCrypto a.toNat).crySticky 0)
  | .slotEcc a, some n => some (jobEcc, ((s.eccReport memCrypto a.toNat).failSlot n).crySticky 0)
  | _, _ => none

/-- A job of which the program wrote a byte that its descriptor names: status and output bytes are free (R195). -/
def State.finishSpoiled (s : State) (x : Ctx) (desc a code : Nat) : State :=
  (s.drawn.freeOutputs (ctxTile x) (ctxNumber x) desc code).endJob x desc a code (s.draw.toNat % 11)

/-- A job on a pipeline ends (R193, R195, R201). -/
def State.finishJob (s : State) (x : Ctx) (i : Nat) (slot : Option Nat) (desc : Nat) (aux : Word64) (code : Nat)
    (ev : JobEvent) : State :=
  let p := ctxTile x
  let c := ctxNumber x
  let a := aux.toNat
  match s.pipeError i slot ev with
  | some (st, t) => t.endJob x desc a code st
  | none =>
    match s.jobInputPoisoned p c desc code with
    | some t => (t.crySticky 0).endJob x desc a code jobEcc
    | none =>
      if s.cry.spoiled.contains (p, c) then s.finishSpoiled x desc a code
      else
        let r := s.runJob p (((s.ctx p c).frame.map Frame.bytes).getD []) desc (descriptorOf (s.jobL p desc 64)) a code slot
        let t := s.drewNonces r.nonces
        let v := if r.status = jobOk then t.putOutputs p c r.outputs else t
        let u := match r.uses with
          | some (n, k) => v.useSlot n k
          | none => v
        u.endJob x desc a code r.status

/-- A job that no pipeline will run: the block is disabled or off, or it was lost with the crossing's reset (R201). -/
def State.jobUnavailable (s : State) (p c : Nat) : Bool := !s.cry.queued.contains (p, c) || !s.cryptoTakes

/-- CJOB_COMPLETE (R193). -/
def execCjobComplete (p : Fin 72) (c : Fin 48) (ev : JobEvent) (s : State) : Host.Outcome State Fault Refusal :=
  let x : Ctx := .tile p c
  match (s.th x).op with
  | some ⟨.job desc aux code, _, _⟩ =>
    match s.cry.running.find? fun r => r.2.1 == p.val && r.2.2.1 == c.val with
    | some (i, _, _, slot) => .next (s.finishJob x i slot desc aux code ev)
    | none =>
      if s.jobUnavailable p.val c.val then .next (s.endJob x desc aux.toNat code jobUnavail) else .next s
  | _ => .next s

/-- Every queued job completes UNAVAIL (R201). -/
def State.flushJobs (s : State) : State :=
  s.cry.queued.foldl (fun t j =>
    if h : j.1 < 72 ∧ j.2 < 48 then
      let x : Ctx := .tile ⟨j.1, h.1⟩ ⟨j.2, h.2⟩
      match (t.th x).op with
      | some ⟨.job desc aux code, _, _⟩ => t.endJob x desc aux.toNat code jobUnavail
      | _ => t
    else t) s

/-- A write to CRY_CTRL; clearing EN ends every queued job. -/
def State.writeCryCtrl (s : State) (v : Word) : State :=
  let t := s.plainWrite Reg.CRY_CTRL v
  if bitAt v 0 then t else t.flushJobs

/-- CRYPTO_DISABLE (R201): CRY_CTRL.EN written 0. -/
def execCryptoDisable (ag : Agent) (katEn : Bool) (s : State) : Host.Outcome State Fault Refusal :=
  let v := BitVec.ofNat 32 (ofBool katEn * 2 ^ 8)
  .next (s.writeAccess ag Reg.CRY_CTRL v fun s => s.writeCryCtrl v)

/-! ### Known-answer tests (R201, R202) -/

/-- PIPE_KAT (R202): pipeline i, from i × 62.5 ms into the second. -/
def execPipeKat (i : Fin 16) (s : State) : Host.Outcome State Fault Refusal :=
  if s.pd PD_CRYPTO = pdOn ∧ s.flag Reg.CRY_STATUS 0 = true ∧ s.flag Reg.CRY_CTRL 8 = true ∧ s.pipeIdle i.val = true
      ∧ i.val * 62500000 ≤ ct96Ns s.now then
    .next { s with cry := { s.cry with testing := s.cry.testing ++ [i.val] } }
  else .next s

/-- A pipeline retired (R201, R471). -/
def State.retirePipe (s : State) (i : Nat) : State :=
  let t := (s.setFlag Reg.CRY_STATUS (16 + i) false).crySticky 1
  State.raise { t with rel := { t.rel with retired := t.rel.retired.filter (· != unitPipe i) ++ [unitPipe i] } } 228

/-- A pipeline back in service, where PD_CRYPTO is up and tested. -/
def State.returnPipe (s : State) (i : Nat) : State :=
  if s.flag Reg.CRY_STATUS 0 then s.setFlag Reg.CRY_STATUS (16 + i) true else s

/-- KAT_DONE (R201, R202): a targeted test gives a verdict, a periodic one retires a pipeline that fails. -/
def execKatDone (i : Fin 16) (failed : Bool) (s : State) : Host.Outcome State Fault Refusal :=
  let u := unitPipe i.val
  if (s.cry.testing.contains i.val || s.testRuns u 0) = false then .next s
  else
    let t := { s with cry := { s.cry with testing := s.cry.testing.filter (· != i.val) } }
    if s.testRuns u 0 then
      let lasting := failed || s.escalates u 0
      let v := (t.endTest u 0).verdict u (if lasting then verdictLasting else verdictTransient)
      let w := if failed then v.crySticky 2 else v
      .next (if lasting then w.retirePipe i.val else (w.noteTransient u 0).returnPipe i.val)
    else if s.rel.waiting.contains (u, 0) then .next s
    else .next (if failed then (t.crySticky 2).retirePipe i.val else t)

/-! ### The nonce generator (R200) -/

/-- A health test has failed (R200). -/
def State.drbgFail (s : State) : State := (s.setFlag Reg.CRY_STATUS 3 false).crySticky 3

/-- DRBG_HEALTH_FAIL. -/
def execDrbgHealthFail (s : State) : Host.Outcome State Fault Refusal :=
  if s.pd PD_CRYPTO = pdOn then .next s.drbgFail else .next s

/-- DRBG_RESEED_RETRY: the source passes, or fails its tests again. -/
def execDrbgReseedRetry (passes : Bool) (s : State) : Host.Outcome State Fault Refusal :=
  if s.pd PD_CRYPTO = pdOn ∧ s.flag Reg.CRY_STATUS 0 = true ∧ s.flag Reg.CRY_STATUS 3 = false then
    if passes then
      let t := s.setFlag Reg.CRY_STATUS 3 true
      .next { t with cry := { t.cry with requests := 0 } }
    else .next s.drbgFail
  else .next s

/-- PD_CRYPTO has powered up and its tests have ended (R200, R202): failed pipelines in bits 15 to 0 of meas, the SHA
unit in bit 16, the entropy source in bit 17. -/
def State.cryptoReady (s : State) (meas : Nat) : State :=
  let t := ((s.setFlag Reg.CRY_STATUS 0 true).setFlag Reg.CRY_STATUS 2 (!meas.testBit 16)).setFlag Reg.CRY_STATUS 3
    (!meas.testBit 17)
  let a := if meas.testBit 17 then t.crySticky 3 else t
  let u := if meas % 2 ^ 17 = 0 then a else a.crySticky 2
  let v := { u with cry := { u.cry with requests := 0, testing := [], running := [] } }
  (List.range 16).foldl (fun v i =>
    if v.rel.retired.contains (unitPipe i) || v.testRuns (unitPipe i) 0 || v.rel.waiting.contains (unitPipe i, 0) then v
    else if meas.testBit i then v.retirePipe i
    else v.setFlag Reg.CRY_STATUS (16 + i) true) v

/-- PD_CRYPTO has turned off or entered reset: nothing is in service; its counters take their reset values (R201, R209). -/
def State.cryptoLost (s : State) : State :=
  let t := ((s.wr Reg.CRY_STATUS (s.rd Reg.CRY_STATUS &&& 0x12)).wr Reg.CRY_CNT_JOB 0).wr Reg.CRY_CNT_FAIL 0
  { t with cry := { t.cry with running := [], testing := [] } }

/-! ### Key commands (R205, R206) -/

/-- A key command refused. -/
def State.keyError (s : State) (code : Nat) : State := (s.setFld Reg.CRY_KSTAT 0 8 code).crySticky 5

/-- The error of a LOAD, or the KEYID, KTYPE and key that it loads (R205). -/
def State.loadOutcome (s : State) (slot len : Nat) : Except Nat (Nat × Nat × List Byte) :=
  if len ≠ 6 ∧ len ≠ 10 then .error 7
  else
    match s.cry.kwk with
    | none => .error 6
    | some kwk =>
      if s.keyState slot ≠ slotEmpty then .error 3
      else
        match unwrap kwk ((s.stagedBytes (Reg.CRY_WRAPIN 0) 20).take (8 * len)) with
        | none => .error 1
        | some plain =>
          let id := ofBeBytes (plain.take 4)
          let ktype := byteAt plain 4
          if id = 0 ∨ (ktype ≠ 0 ∧ ktype ≠ 1) ∨ (ktype = 0 ∧ len ≠ 6) ∨ (ktype = 1 ∧ len ≠ 10)
              ∨ (plain.drop 5).take 3 ≠ [0, 0, 0] then .error 7
          else if (List.range 64).any fun n => s.keyState n != slotEmpty && s.keyId n == id then .error 2
          else .ok (id, ktype, plain.drop 8)

/-- LOAD: the slot enters ACCEPT; in either outcome CRY_WRAPIN is zeroed. -/
def State.keyLoad (s : State) (slot len : Nat) : State :=
  State.unstage (match s.loadOutcome slot len with
    | .error e => s.keyError e
    | .ok (id, ktype, key) =>
      let t := (((s.setKeyState slot slotAccept).setFlag (Reg.CRY_KSLOT slot) 4 (decide (ktype = 1))).wr
        (Reg.CRY_KID slot) (BitVec.ofNat 32 id)).setFld Reg.CRY_KSTAT 0 8 0
      { t with cry := { t.cry with keys := sparseSet (fun _ => []) t.cry.keys slot key } })
    (Reg.CRY_WRAPIN 0) 20

/-- SETCUR: the slot that was CURRENT returns to ACCEPT. -/
def State.keySetcur (s : State) (slot : Nat) : State :=
  if s.keyState slot ≠ slotAccept then s.keyError 4
  else
    let t := match s.currentSlot with
      | some n => s.setKeyState n slotAccept
      | none => s
    ((t.setKeyState slot slotCurrent).showCurrent).setFld Reg.CRY_KSTAT 0 8 0

/-- RETIRE: of a slot in ACCEPT or FAILED. -/
def State.keyRetire (s : State) (slot : Nat) : State :=
  if s.keyState slot = slotCurrent then s.keyError 5
  else if s.keyState slot ≠ slotAccept ∧ s.keyState slot ≠ slotFailed then s.keyError 4
  else (s.setKeyState slot slotDraining).setFld Reg.CRY_KSTAT 0 8 0

/-- A write of CRY_KCMD. A command runs wholly within its step, as KEY_LOAD, KEY_SETCUR and KEY_RETIRE do, so BUSY reads 0
between steps (log entry 33). -/
def State.writeKeyCommand (s : State) (v : Word) : State :=
  let slot := bitsAt v 0 6
  if bitAt v 31 = false then s
  else if s.flag Reg.CRY_KSTAT 31 then s.keyError 8
  else
    match bitsAt v 24 4 with
    | 1 => s.keyLoad slot (bitsAt v 8 8)
    | 2 => s.keySetcur slot
    | 3 => s.keyRetire slot
    | _ => s.keyError 7

/-- The word that starts a key command. -/
def keyCommand (op slot len : Nat) : Word := BitVec.ofNat 32 (2 ^ 31 + op * 2 ^ 24 + len * 2 ^ 8 + slot)

/-- KEY_LOAD (R205). -/
def execKeyLoad (ag : Agent) (slot : Fin 64) (len : Fin 256) (s : State) : Host.Outcome State Fault Refusal :=
  let v := keyCommand 1 slot.val len.val
  .next (s.writeAccess ag Reg.CRY_KCMD v fun s => s.writeKeyCommand v)

/-- KEY_SETCUR (R206). -/
def execKeySetcur (ag : Agent) (slot : Fin 64) (s : State) : Host.Outcome State Fault Refusal :=
  let v := keyCommand 2 slot.val 0
  .next (s.writeAccess ag Reg.CRY_KCMD v fun s => s.writeKeyCommand v)

/-- KEY_RETIRE (R206). -/
def execKeyRetire (ag : Agent) (slot : Fin 64) (s : State) : Host.Outcome State Fault Refusal :=
  let v := keyCommand 3 slot.val 0
  .next (s.writeAccess ag Reg.CRY_KCMD v fun s => s.writeKeyCommand v)

/-- A slot zeroed to EMPTY. -/
def State.clearSlot (s : State) (n : Nat) : State :=
  let t := ((s.setKeyState n slotEmpty).setFlag (Reg.CRY_KSLOT n) 4 false).wr (Reg.CRY_KID n) 0
  { t with cry := { t.cry with keys := sparseSet (fun _ => []) t.cry.keys n [] } }

/-- SLOT_DRAIN_END (R206): no job bound to a DRAINING slot runs any more. -/
def execSlotDrainEnd (n : Fin 64) (s : State) : Host.Outcome State Fault Refusal :=
  if s.keyState n.val = slotDraining ∧ (s.cry.running.any fun r => r.2.2.2 == some n.val) = false then
    .next (s.clearSlot n.val)
  else .next s

/-! ### Host mints (R207) -/

/-- A GO of CRY_HMINT_CTL, ignored while a mint runs. -/
def State.writeHostMint (s : State) (v : Word) : State :=
  if bitAt v 31 = false ∨ s.flag Reg.CRY_HMINT_CTL 0 then s
  else (s.setFlag Reg.CRY_HMINT_CTL 16 false).setFlag Reg.CRY_HMINT_CTL 0 true

/-- HOST_MINT. -/
def execHostMint (ag : Agent) (s : State) : Host.Outcome State Fault Refusal :=
  .next (s.writeAccess ag Reg.CRY_HMINT_CTL 0x80000000 fun s => s.writeHostMint 0x80000000)

/-- A word of each four bytes, least significant first. -/
def wordsFrom : List Byte → List Word
  | a :: b :: c :: d :: bs => BitVec.ofNat 32 (ofLeBytes [a, b, c, d]) :: wordsFrom bs
  | _ => []

/-- A host mint ends with a status other than OK. -/
def State.mintFailed (s : State) (st : Nat) : State :=
  ((s.setFlag Reg.CRY_HMINT_CTL 0 false).setFld Reg.CRY_HMINT_CTL 8 8 st).crySticky 7

/-- A host mint on a pipeline, under the CURRENT slot (R207). -/
def State.hostMint (s : State) (i : Nat) (ev : JobEvent) : State :=
  match s.currentSlot with
  | none => s.mintFailed jobNoCurrent
  | some n =>
    match s.pipeError i (some n) ev with
    | some (st, t) => t.mintFailed st
    | none =>
      if s.flag Reg.CRY_STATUS 3 = false then s.mintFailed jobNonce
      else
        let body := cookieBody (s.keyId n) (s.keyOf n) (s.stagedBytes (Reg.CRY_HMINT_IN 0) 17) (s.freeBytes 16)
        let t := (s.setFlag Reg.CRY_HMINT_CTL 0 false).setFld Reg.CRY_HMINT_CTL 8 8 jobOk
        (((t.drewNonces 1).wrWords (Reg.CRY_HMINT_OUT 0) (wordsFrom (sized 104 body))).useSlot n 1).setFlag
          Reg.CRY_HMINT_CTL 16 true

/-- HOST_MINT_DONE: the mint uses the lowest-numbered idle pipeline, and waits where there is none (log entry 33). -/
def execHostMintDone (ev : JobEvent) (s : State) : Host.Outcome State Fault Refusal :=
  if s.flag Reg.CRY_HMINT_CTL 0 = false then .next s
  else if s.cryptoTakes = false then .next (s.mintFailed jobUnavail)
  else
    match (List.range 16).find? s.pipeIdle with
    | none => .next s
    | some i => .next (s.hostMint i ev)

/-! ### Anchors (R208) -/

/-- The size of an anchor type. -/
def anchorSize (ty : Nat) : Option Nat :=
  match ty with
  | 1 => some 64
  | 2 => some 96
  | 3 => some 32
  | 4 => some 32
  | 5 => some 48
  | _ => none

/-- An anchor entry written, which boot also does. -/
def State.putAnchor (s : State) (e ty : Nat) (data : List Byte) : State :=
  let t := s.setFlag Reg.CRY_ANCH_STAT e true
  { t with cry := { t.cry with anchors := t.cry.anchors.filter (·.1 != e) ++ [(e, ty, data)] } }

/-- A GO of CRY_ANCH_CTL. -/
def State.writeAnchor (s : State) (v : Word) : State :=
  let e := bitsAt v 16 4
  if bitAt v 31 = false then s
  else if s.flag Reg.CRY_ANCH_STAT e then (s.setFld Reg.CRY_ANCH_CTL 8 8 1).crySticky 6
  else
    match anchorSize (bitsAt v 24 4) with
    | none => (s.setFld Reg.CRY_ANCH_CTL 8 8 2).crySticky 6
    | some n =>
      (s.setFld Reg.CRY_ANCH_CTL 8 8 0).putAnchor e (bitsAt v 24 4) ((s.stagedBytes (Reg.CRY_ANCH_DATA 0) 32).take n)

/-- ANCHOR_WRITE. -/
def execAnchorWrite (ag : Agent) (entry : Fin 16) (ty : Fin 16) (s : State) : Host.Outcome State Fault Refusal :=
  let v := BitVec.ofNat 32 (2 ^ 31 + ty.val * 2 ^ 24 + entry.val * 2 ^ 16)
  .next (s.writeAccess ag Reg.CRY_ANCH_CTL v fun s => s.writeAnchor v)

/-! ### Registers -/

/-- A write to a register of the CRY block that completes normally. -/
def State.cryWrite (s : State) (off : Nat) (v : Word) : State :=
  if off = Reg.CRY_CTRL then s.writeCryCtrl v
  else if off = Reg.CRY_KCMD then s.writeKeyCommand v
  else if off = Reg.CRY_HMINT_CTL then s.writeHostMint v
  else if off = Reg.CRY_ANCH_CTL then s.writeAnchor v
  else if (Reg.CRY_WRAPIN 0 ≤ off ∧ off ≤ Reg.CRY_WRAPIN 19) ∨ (Reg.CRY_HMINT_IN 0 ≤ off ∧ off ≤ Reg.CRY_HMINT_IN 16)
      ∨ (Reg.CRY_ANCH_DATA 0 ≤ off ∧ off ≤ Reg.CRY_ANCH_DATA 31) then s.stage off v
  else s.plainWrite off v

/-- A read of a register of the CRY block that completes normally. -/
def State.cryRead (s : State) (off : Nat) : Word × State := s.plainRead off

end Sys2Proof.Machine
end

