-- ==== Sys2Proof/Machine/Events.lean ====
section
/-!
DEFINITION. Events and the PCIe endpoint (chapter 14): the event controller, MSI-X, configuration space, the resets of the
endpoint, BAR2, and the registers of the EVT block and the MSI-X table.
-/
namespace Sys2Proof.Machine

/-! ### MSI-X (R375 to R377) -/

/-- Vector v is pending: its PBA bit. -/
def State.vecPending (s : State) (v : Nat) : Bool := s.flag (Reg.MSIX_PBA (v / 32)) (v % 32)
def State.setPending (s : State) (v : Nat) (b : Bool) : State := s.setFlag (Reg.MSIX_PBA (v / 32)) (v % 32) b

/-- A cause sets a vector pending; none does while PD_PCIE is off (R375). -/
def State.pend (s : State) (v : Nat) : State := if s.pdUp PD_PCIE then s.setPending v true else s

/-- The four conditions of R375, on an endpoint with a link. -/
def State.vecMaySend (s : State) (v : Nat) : Bool :=
  s.pcie.msixEnable && !s.pcie.functionMask && !s.flag (Reg.MSIX_CTL v) 0 && s.pcie.busMaster && s.endpointUp

/-- A record whose event set the vector pending has not been written yet (R370, R377). -/
def State.vecWaits (s : State) (v : Nat) : Bool :=
  (List.range 4).any fun e => (s.ring (64 + e)).events.any fun r => r.vec == some v

/-- The message of a vector, and its holdoff (R375, R376). -/
def State.sendMessage (s : State) (v : Nat) : State :=
  let t := s.setPending v false
  let m := Tlp.message (ofWords64 (s.rd (Reg.MSIX_ADDR_L v)) (s.rd (Reg.MSIX_ADDR_H v))) (s.rd (Reg.MSIX_DATA v))
  { t with dma := { t.dma with
      link := t.dma.link ++ [m]
      hold := if s.fld (Reg.EVT_VEC v) 0 10 = 0 then t.dma.hold else t.dma.hold ++ [v] } }

/-- A vector that is pending and may send does so. -/
def State.trySend (s : State) (v : Nat) : State :=
  if s.vecPending v && !s.dma.hold.contains v && !s.vecWaits v && s.vecMaySend v then s.sendMessage v else s

/-- MSIX_SEND (R375). -/
def execMsixSend (v : Fin 128) (s : State) : Host.Outcome State Fault Refusal := .next (s.trySend v.val)

/-- HOLDOFF_END (R376). -/
def execHoldoffEnd (v : Fin 128) (s : State) : Host.Outcome State Fault Refusal :=
  .next (if s.dma.hold.contains v.val then
      State.trySend { s with dma := { s.dma with hold := s.dma.hold.filter (· != v.val) } } v.val
    else s)

/-! ### The event controller (R370 to R374) -/

/-- A record lost: counted and flagged, and the ring's next record carries OVF (R373). -/
def State.loseRecord (s : State) (e : Nat) : State :=
  let t := (s.bump Reg.DMA_CNT_EVLOST 0 32).dmaSticky 7
  t.setRing (64 + e) { t.ring (64 + e) with ovf := true }

/-- A record to the queue of its ring (R373): lost without a count while PD_PCIE is off, counted where the ring is DISABLED
or its queue of 256 is full. -/
def State.queueRecord (s : State) (e : Nat) (r : EventRecord) : State :=
  let x := s.ring (64 + e)
  if s.pdUp PD_PCIE = false then s
  else if x.st = ringDisabled ∨ 256 ≤ x.events.length then s.loseRecord e
  else s.setRing (64 + e) { x with events := x.events ++ [r] }

/-- A raise accepted (R370). -/
def State.acceptRaise (s : State) (r : Raise) : State :=
  let t := s.setFlag (Reg.EVT_RAW (r.src / 32)) (r.src % 32) true
  let c := Reg.EVT_SRC r.src
  if s.flag Reg.EVT_CTRL 0 = false ∨ s.flag c 31 = false then t
  else
    let v := s.fld c 0 7
    let irq := s.flag c 29
    let rec' : EventRecord :=
      ⟨ct96OfCount (s.replica replicaCores).count, r.src, r.data0, r.data1, if irq then some v else none⟩
    let t := if s.flag c 30 then t.queueRecord (s.fld c 24 2) rec' else t
    if irq then t.pend v else t

/-- EVENT_RAISE (R370): the oldest raise reaches the controller; none is accepted while PD_FABRIC is off (R374). -/
def execEventRaise (s : State) : Host.Outcome State Fault Refusal :=
  match s.raised with
  | [] => .next s
  | r :: rest =>
    let t := { s with raised := rest }
    .next (if s.pdUp PD_FABRIC then t.acceptRaise r else t)

/-- A write of a register of the EVT block that completes normally. -/
def State.evtWrite (s : State) (off : Nat) (v : Word) : State :=
  if Reg.EVT_VEC 0 ≤ off ∧ 1000 < bitsAt v 0 10 then s.setFlag Reg.EVT_ERR 0 true else s.plainWrite off v

/-- A read of a register of the EVT block: PEND mirrors the PBA bit, 0 while PD_PCIE is off (R375). -/
def State.evtRead (s : State) (off : Nat) : Word × State :=
  if Reg.EVT_VEC 0 ≤ off then
    (putBit (s.rd off) 16 (s.pdUp PD_PCIE && s.vecPending ((off - Reg.EVT_VEC 0) / 4)), s)
  else s.plainRead off

/-! ### Resets of the endpoint (R382, R384, R444) -/

/-- The registers of a range of offsets at their reset values, but for one that is kept. -/
def State.resetRegs (s : State) (lo hi keep : Nat) : State :=
  { s with regs := s.regs.filter fun e => !(decide (lo ≤ e.1) && decide (e.1 < hi)) || e.1 == keep }

/-- Configuration space at its reset values; the payload size stays where the reset is an FLR (log entry 4). -/
def PcieState.resetConfig (p : PcieState) (flr : Bool) : PcieState :=
  { p with busMaster := false, msixEnable := false, functionMask := false, dState := 0, ptmEnable := false,
           maxPayload := if flr then p.maxPayload else 128, maxReadRequest := 512, bar0 := 0, bar2 := 0, turnOff := false }

/-- The DMA block, the EVT block, the MSI-X table and the PBA at their reset values, with every transfer and every queued
record discarded; DMA_CNT_NOHOST keeps its count (R382). -/
def State.resetEndpoint (s : State) : State :=
  let t := s.resetRegs 0xC00000 0xE00000 Reg.DMA_CNT_NOHOST
  { t with dma := { DmaState.reset with link := t.dma.link, serial := t.dma.serial } }

/-- A reset of the block during which PD_PCIE stays powered: DMA_STICKY.FLR reads 1 at its end (R382). -/
def State.resetEndpointMarked (s : State) (flr : Bool) : State :=
  let t := s.resetEndpoint
  (State.dmaSticky { t with pcie := { t.pcie.resetConfig flr with downed := false } } 10).notePtm

/-- FLR (R382). -/
def execFlr (s : State) : Host.Outcome State Fault Refusal :=
  .next (if s.endpointUp then s.resetEndpointMarked true else s)

/-- PCIE_LINK_DOWN (R382): a Hot Reset or a lost link; its reset is due when the link returns. -/
def execPcieLinkDown (s : State) : Host.Outcome State Fault Refusal :=
  .next (if s.pcie.linkUp then { s with pcie := { s.pcie with linkUp := false, downed := true } } else s)

/-- PCIE_LINK_UP (R382): the link trains; the endpoint presents the subsystem identity of the slot (R453). -/
def execPcieLinkUp (s : State) : Host.Outcome State Fault Refusal :=
  .next (if s.pdUp PD_PCIE = false ∨ s.pcie.perst ∨ s.pcie.linkUp then s
    else
      let t := if s.pcie.downed then s.resetEndpointMarked false else s
      { t with pcie := { t.pcie with linkUp := true, subsystem := t.pcie.subsystemNext } })

/-- PERST_ASSERT (R444): the endpoint is reset and held; no link exists. -/
def execPerstAssert (s : State) : Host.Outcome State Fault Refusal :=
  .next (if s.pcie.perst then s
    else
      let t := if s.pdUp PD_PCIE then s.resetEndpoint else s
      State.notePtm { t with pcie := { t.pcie.resetConfig false with linkUp := false, perst := true, downed := false } })

/-- PERST_RELEASE (R444): the endpoint leaves reset at its reset values, and DMA_STICKY.FLR reads 1. -/
def execPerstRelease (s : State) : Host.Outcome State Fault Refusal :=
  .next (if s.pcie.perst = false then s
    else
      let t := { s with pcie := { s.pcie with perst := false } }
      if s.pdUp PD_PCIE then t.resetEndpointMarked false else t)

/-- PD_PCIE has lost its power: the link, configuration space and the blocks are at their reset values when it returns
(R384); the PTM unit has no dialogue open or kept, and CAL_PTM_STATUS.VALID counts none of before. The EVT block lies in
PD_FABRIC. -/
def State.pcieLost (s : State) : State :=
  let t := ((s.resetRegs 0xC00000 0xD00000 Reg.DMA_CNT_NOHOST).setFlag Reg.CAL_PTM_STATUS 18 false).setFlag
    Reg.CAL_PTM_STATUS 17 false
  State.notePtm { t with
    cal := { t.cal with ptmT1 := none, ptmBefore := none, ptmOwed := 0 }
    dma := { DmaState.reset with link := t.dma.link, serial := t.dma.serial }
    pcie := { t.pcie.resetConfig false with linkUp := false, downed := false } }

/-! ### Configuration space (R378 to R381) -/

/-- Something goes onto the link. -/
def State.emit (s : State) (t : Tlp) : State := { s with dma := { s.dma with link := s.dma.link ++ [t] } }

/-- What a configuration read returns. -/
def State.configWord (s : State) (r : ConfigRegister) : Word64 :=
  let p := s.pcie
  match r with
  | .vendorDevice => 0x42101F6B#64
  | .command => BitVec.ofNat 64 (ofBool p.busMaster * 4)
  | .classRevision => 0x11100011#64
  | .subsystem => p.subsystem.setWidth 64
  | .bar0 => (p.bar0 &&& 0xFFFFFFFFFC000000#64) ||| 0x4#64
  | .bar2 => (p.bar2 &&& 0xFFFFFFFFF8000000#64) ||| 0xC#64
  | .bar4 => 0
  | .expansionRom => 0
  | .msixControl => BitVec.ofNat 64 (127 + ofBool p.functionMask * 2 ^ 14 + ofBool p.msixEnable * 2 ^ 15)
  | .powerState => BitVec.ofNat 64 (8 + p.dState)
  | .serialNumber => s.fuse.dsn
  | .ptmCapability => 1
  | .ptmControl => BitVec.ofNat 64 (ofBool p.ptmEnable)

/-- CONFIG_ACCESS (R380): a read or a write of configuration space; the endpoint then holds, sends or resumes by the new
values (R375, R383), NOPTM follows PTM Enable (R52), and PME_Turn_Off is answered (R384). -/
def execConfigAccess (a : ConfigAccess) (s : State) : Host.Outcome State Fault Refusal :=
  let p := s.pcie
  let t := match a with
    | .ptmEnable b => s.setFlag Reg.CAL_PTM_STATUS 16 (!b)
    | .pmeTurnOff => if s.pcie.turnOff then s else s.emit .pmeAck
    | _ => s
  .next (if s.endpointUp = false then s
    else { t with pcie :=
      match a with
      | .read r => { p with configData := s.configWord r }
      | .busMaster b => { p with busMaster := b }
      | .msix enable mask => { p with msixEnable := enable, functionMask := mask }
      | .powerState d3 => { p with dState := if d3 then 3 else 0 }
      | .ptmEnable b => { p with ptmEnable := b }
      | .maxPayload n => { p with maxPayload := 128 * 2 ^ n.val }
      | .maxReadRequest n => { p with maxReadRequest := 128 * 2 ^ n.val }
      | .bar0 v => { p with bar0 := v }
      | .bar2 v => { p with bar2 := v }
      | .pmeTurnOff => { p with turnOff := true } })

/-! ### BAR2 (R385 to R387) -/

/-- A BAR2 access that failed. -/
def State.bar2Failed (s : State) : State := (s.bump Reg.DMA_CNT_BAR2 0 32).dmaSticky 9

/-- Where a BAR2 offset lies: the table pool, or a program bank with its byte. -/
inductive Bar2Place where
  | pool (a : Nat)
  | bank (b a : Nat)
  | unmapped
  deriving DecidableEq, Repr
def bar2Place (a : Nat) : Bar2Place :=
  if a < 0x3000000 then .pool a
  else if 0x4000000 ≤ a ∧ a < 0x4200000 then .bank 0 (a - 0x4000000)
  else if 0x4200000 ≤ a ∧ a < 0x4400000 then .bank 1 (a - 0x4200000)
  else .unmapped

/-- One aligned 32-bit word of a BAR2 read: its bytes, whether it failed, whether it met an uncorrectable error, and the
state after. -/
def State.bar2ReadWord (s : State) (a : Nat) : List Byte × Bool × Bool × State :=
  match bar2Place a with
  | .unmapped => ([0, 0, 0, 0], true, false, s)
  | .pool p =>
    match s.poisoned memPool p 4 with
    | some w => (memReadBytes s.gys.pool p 4, true, true, s.eccError memPool w)
    | none => (memReadBytes s.gys.pool p 4, false, false, s)
  | .bank b p =>
    match s.poisoned memProgram (2 ^ 21 * b + p) 4 with
    | some w => (memReadBytes s.gys.banks (2 ^ 21 * b + p) 4, true, true, s.eccError memProgram w)
    | none => (memReadBytes s.gys.banks (2 ^ 21 * b + p) 4, false, false, s)

/-- n words of a BAR2 read. -/
def State.bar2Read (s : State) (a : Nat) : Nat → List Byte × Bool × Bool × State
  | 0 => ([], false, false, s)
  | n + 1 =>
    let (bs, failed, bad, t) := s.bar2ReadWord a
    let (cs, failed', bad', u) := t.bar2Read (a + 4) n
    (bs ++ cs, failed || failed', bad || bad', u)

/-- Bytes of one aligned 64-bit word or less written to a place of BAR2, and whether that failed: a write of part of a
poisoned word is discarded and reported (R469). -/
def State.bar2Store (s : State) (a : Nat) (bs : List (Option Byte)) : Bool × State :=
  let old := fun (m : List (Nat × Byte)) (k : Nat) => bs.mapIdx fun i b => b.getD (memRead m (k + i))
  match bar2Place a with
  | .unmapped => (true, s)
  | .pool p =>
    match s.partlyPoisoned memPool p bs.length with
    | some w => (true, s.eccError memPool w)
    | none => (false, s.poolWrite .host p (old s.gys.pool p))
  | .bank b p => (false, s.writeBank b p (old s.gys.banks (2 ^ 21 * b + p)))

/-- A BAR2 write: an aligned 64-bit word whose 8 bytes are all enabled is written in one access, other 32-bit words each by
itself (R386, R469). -/
def State.bar2Write (s : State) (a : Nat) : List (List (Option Byte)) → Bool × State
  | [] => (false, s)
  | [w] => s.bar2Store a w
  | w :: v :: ws =>
    if a % 8 = 0 ∧ (w ++ v).all Option.isSome then
      let (failed, t) := s.bar2Store a (w ++ v)
      let (failed', u) := t.bar2Write (a + 8) ws
      (failed || failed', u)
    else
      let (failed, t) := s.bar2Store a w
      let (failed', u) := t.bar2Write (a + 4) (v :: ws)
      (failed || failed', u)

/-- BAR2_ACCESS (R386): a read of n words from word i on, or a write of words with byte enables; an access that fails is
counted once, and one with an uncorrectable error is poisoned and reported through AER (R387). -/
def execBar2Access (i : Fin 33554432) (n : Nat) (w : Option (List (Vector (Option Byte) 4))) (s : State) :
    Host.Outcome State Fault Refusal :=
  .next (if s.endpointUp = false then s
    else if s.pdUp PD_FABRIC = false then
      match w with
      | some _ => s.bar2Failed
      | none => { s.bar2Failed with pcie := { s.pcie with bar2Data := (List.replicate (4 * n) 0xFF#8, false) } }
    else
      match w with
      | some ws =>
        let (failed, t) := s.bar2Write (4 * i.val) (ws.map fun v => v.toList)
        if failed then t.bar2Failed else t
      | none =>
        let (bs, failed, bad, t) := s.bar2Read (4 * i.val) n
        let t : State := { t with pcie := { t.pcie with bar2Data := (bs, bad) } }
        let t := if bad then t.emit .errorMessage else t
        if failed then t.bar2Failed else t)

end Sys2Proof.Machine
end

