-- ==== Sys2Proof/Machine/Channels.lean ====
section
/-!
DEFINITION. The channels of Graver as state (chapter 12): access, control fields, inputs, and arming.
-/
namespace Sys2Proof.Machine

def State.grvCh (s : State) (n : Nat) : GrvChannel := (s.grv.channels.find? (·.1 == n)).elim GrvChannel.reset (·.2)
def State.setGrvCh (s : State) (n : Nat) (v : GrvChannel) : State :=
  { s with grv := { s.grv with channels := sparseSet (fun _ => GrvChannel.reset) s.grv.channels n v } }
def State.grvUnit (s : State) (k : Nat) : GrvUnit := (s.grv.units.find? (·.1 == k)).elim GrvUnit.reset (·.2)
def State.setGrvUnit (s : State) (k : Nat) (v : GrvUnit) : State :=
  { s with grv := { s.grv with units := sparseSet (fun _ => GrvUnit.reset) s.grv.units k v } }

/-- Fields of GRV_CHn_CTL. -/
def State.grvEn (s : State) (n : Nat) : Bool := s.flag (Reg.GRV_CH_CTL n) 31
def State.grvHost (s : State) (n : Nat) : Bool := s.flag (Reg.GRV_CH_CTL n) 30
def State.grvSlope (s : State) (n : Nat) : Nat := s.fld (Reg.GRV_CH_CTL n) 28 2
def State.grvMode (s : State) (n : Nat) : Nat := s.fld (Reg.GRV_CH_CTL n) 24 3

/-- The channel stamps on the LO scale; a channel of firmware never does (R347). -/
def State.onLo (s : State) (n : Nat) : Bool := s.grvHost n && s.flag (Reg.GRV_CH_CTL n) 27

/-! Inputs TIN0 to TIN7 (R341): the threshold and hysteresis in mV, and the 50 ohm termination. -/
def State.tinThreshold (s : State) (n : Nat) : Rat := (s.fld (Reg.GRV_CH_THR n) 0 12 : Nat) * 2500 / 4096
def State.tinHysteresis (s : State) (n : Nat) : Nat := [0, 5, 10, 20, 40, 80, 120, 160].getD (s.fld (Reg.GRV_CH_CTL n) 18 3) 0
def State.tinTerminated (s : State) (n : Nat) : Bool := s.flag (Reg.GRV_CH_CTL n) 17

/-- A channel armed (R345). -/
def State.grvArm (s : State) (n : Nat) : State :=
  let c := s.grvCh n
  let t := s.setGrvCh n { c with
    armed := true, isDone := false, opened := none, closed := none, taken := 0, divided := 0 }
  if s.grvMode n = 3 ∧ s.onLo n = false then
    (t.arm (.windowStart (Fin.ofNat 20 n)) (cf64OfCt96 (s.rd96 (Reg.GRV_CH_WSTART_W n 0)))).arm
      (.windowStop (Fin.ofNat 20 n)) (cf64OfCt96 (s.rd96 (Reg.GRV_CH_WSTOP_W n 0)))
  else t

end Sys2Proof.Machine
end

