-- ==== Sys2Proof/Machine/Client.lean ====
section
/-!
DEFINITION. The client queues of R186: the records that the programs of the array leave in the table pool for SC6 and SC7, and
the exchanges and masters that the records tell of. Multi-byte PTP fields stand as on the wire, flags and local stamps as
Walzor stores them (log entry 99).
-/
namespace Sys2Proof.Machine

/-- An exchange of R220 in units of 2^-16 ns: the four times, the correctionFields of the two master times, and whether a
stamp of it is SUSPECT. -/
structure Exchange where
  t1 : Int
  t2 : Int
  t3 : Int
  t4 : Int
  c1 : Int
  c4 : Int
  suspect : Bool
  deriving DecidableEq, Repr

/-- What the Announce messages say of the master of a client port (R222, R224). -/
structure Master where
  clockClass : Nat
  traceable : Bool
  identity : Nat
  deriving DecidableEq, Repr

/-- The places of a slot's queue and of its PROD and CONS words. -/
def queueBase (n : Nat) : Nat := 0x2000 + 8192 * (n - 5)
def prodAddr (n : Nat) : Nat := 0x1C00 + 16 * (n - 5)
def consAddr (n : Nat) : Nat := prodAddr n + 8

/-- The records between CONS and PROD, oldest first. -/
def State.clientRecords (s : State) (n : Nat) : List (List Byte) :=
  let cons := s.poolWord (consAddr n)
  (List.range (min 128 ((s.poolWord (prodAddr n) + 2 ^ 64 - cons) % 2 ^ 64))).map fun i =>
    memReadBytes s.gys.pool (queueBase n + (cons + i) % 128 * 64) 64

/-! The fields of a record. -/
def recKind (r : List Byte) : Nat := byteAt r 0
def recSeq (r : List Byte) : Nat := beField r 2 2
def recSuspect (r : List Byte) : Bool := (byteAt r 4).testBit 0
def recTwoStep (r : List Byte) : Bool := (byteAt r 4).testBit 1
def recLocal (r : List Byte) : Int := (ct96ToFrac (BitVec.ofNat 96 (ofLeBytes ((r.drop 8).take 12))) : Nat)
def recTime (r : List Byte) : Int := ((beField r 20 6 * 10 ^ 9 + beField r 26 4) * 2 ^ 16 : Nat)
def recCorrection (r : List Byte) : Int := signed 64 (beField r 32 8)
def recSender (r : List Byte) : Nat := beField r 40 10

/-- The Sync messages of a master: t1 with its correction, t2, and whether t2 is SUSPECT; a two-step one needs its
Follow_Up. -/
def syncTimes (rs : List (List Byte)) : List (Int × Int × Int × Bool) :=
  (rs.filter fun r => recKind r == 1).filterMap fun r =>
    if recTwoStep r then
      (rs.find? fun f => recKind f == 2 && recSeq f == recSeq r).map fun f =>
        (recTime f, recCorrection r + recCorrection f, recLocal r, recSuspect r)
    else some (recTime r, recCorrection r, recLocal r, recSuspect r)

/-- The Delay_Req messages sent that a master has answered: t3, whether it is SUSPECT, t4 with its correction. -/
def delayTimes (sent rs : List (List Byte)) : List (Int × Bool × Int × Int) :=
  (sent.filter fun r => recKind r == 3).filterMap fun r =>
    (rs.find? fun f => recKind f == 4 && recSeq f == recSeq r).map fun f =>
      (recLocal r, recSuspect r, recTime f, recCorrection f)

/-- The exchanges that a slot's queue holds with one master (R220). -/
def State.exchanges (s : State) (n sender : Nat) : List Exchange :=
  let all := s.clientRecords n
  let rs := all.filter fun r => recSender r == sender
  (syncTimes rs).flatMap fun a => (delayTimes all rs).map fun d =>
    { t1 := a.1, c1 := a.2.1, t2 := a.2.2.1, t3 := d.1, t4 := d.2.2.1, c4 := d.2.2.2, suspect := a.2.2.2 || d.2.1 }

/-- The x of R220 of an exchange. -/
def exchangeOffset (e : Exchange) : Int := openDiv ((e.t1 + e.c1 - e.t2) + (e.t4 - e.c4 - e.t3)) 2

/-- The path delay of an exchange. -/
def exchangeDelay (e : Exchange) : Int := (e.t2 - (e.t1 + e.c1)) + ((e.t4 - e.c4) - e.t3)

/-- The exchange with the least path delay. -/
def bestExchange : List Exchange → Option Exchange
  | [] => none
  | e :: es => some (es.foldl (fun a b => if exchangeDelay b < exchangeDelay a then b else a) e)

/-- The latest Announce of a master in a slot's queue; timeTraceable is bit 4 of the second byte of flagField (log entry 99). -/
def State.announced (s : State) (n sender : Nat) : Option Master :=
  (((s.clientRecords n).filter fun r => recKind r == 5 && recSender r == sender).getLast?).map fun r =>
    ⟨byteAt r 52, (byteAt r 62).testBit 4, beField r 20 8⟩

/-- SC6 and SC7 have read the records: CONS moves up to PROD. -/
def State.takeRecords (s : State) (n : Nat) : State :=
  s.poolWrite .core (consAddr n) (leBytes 8 (s.poolWord (prodAddr n)))

/-- The PORTM entry of client port p written for a newly chosen master (R165): its MAC and IPv4 addresses stand in no record,
so they are free values. -/
def State.writeMaster (s : State) (p : Nat) : State :=
  let f := s.freeBytes 10
  (s.poolWrite .core (0x300 + 16 * p) (f.take 6 ++ ([0, 0] ++ (f.drop 6 ++ [0, 0, 0, 0])))).drewBytes 10

end Sys2Proof.Machine
end

