-- ==== Sys2Proof/Machine/Modes.lean ====
section
/-!
DEFINITION. A change of the operating mode (R2, R464), and device time as the firmware counts it.
-/
namespace Sys2Proof.Machine

/-- The mode changes: source 224 with the new and the old code, and a log entry; no event while PD_FABRIC is off
(R464). -/
def State.setMode (s : State) (m : Nat) : State :=
  if m = s.mode then s
  else
    let d := BitVec.ofNat 32 (m + s.mode * 2 ^ 8)
    let t := (s.setFld Reg.GCTL_STATUS 0 4 m).log 224 d
    if s.pdUp PD_FABRIC then t.raise 224 d else t

/-- The serving modes of R253. -/
def State.serving (s : State) : Bool := s.answersClients

/-- Firmware runs: the device has booted, not into the ROM, and is not in DORMANT (R2, R447). -/
def State.firmwareRuns (s : State) : Bool :=
  decide (modeStaged ≤ s.mode) && decide (s.mode ≠ modeDormant) && s.pdUp PD_FABRIC && !s.gctl.rom

/-- A service core has stalled: its watchdog has expired, as it does at once where the core stops (R33, R478). -/
def State.coreStalled (s : State) (k : Nat) : Bool :=
  s.flag Reg.REL_WDG_STAT k || (sparseGet (fun _ => CoreState.reset) s.cores.cores k).stopped

/-- The firmware of SC2 to SC5, for GNSS, and of SC6 and SC7, for selection and discipline, runs: none of its cores has
stalled (R19, R33). -/
def State.gnssFirmware (s : State) : Bool := s.firmwareRuns && !(List.range 8).any fun k => decide (2 ≤ k) && decide (k ≤ 5) && s.coreStalled k
def State.selFirmware (s : State) : Bool := s.firmwareRuns && !s.coreStalled 6 && !s.coreStalled 7

/-- Device time in units of 2^-16 ns, and one second in them. -/
def State.tick (s : State) : Int := (s.cal.count / 2 ^ 16 : Nat)
def tickSec : Int := 10 ^ 9 * 2 ^ 16

/-- A rational number in an integer field: exact where it is whole, otherwise either neighbour (log entry 8). -/
def openRound (q : Rat) : Int := if q.den = 1 then q.num else q.floor + (if Config.roundsUp q.floor then 1 else 0)

/-- A value held between two ends. -/
def clampInt (lo hi v : Int) : Int := max lo (min hi v)

/-- A rational number in a signed field of n bits, held at the field's ends. -/
def signedField (n : Nat) (q : Rat) : Nat := unsigned n (clampInt (-(2 ^ (n - 1))) (2 ^ (n - 1) - 1) (openRound q))

/-- The absolute value. -/
def absRat (q : Rat) : Rat := if q < 0 then -q else q

end Sys2Proof.Machine
end

