-- ==== Sys2Proof/Machine/Selector.lean ====
section
/-!
DEFINITION. Reference selection (chapter 08): slots, their measurements and estimates, qualification, arbitration and
the choice of the time reference, with the phase state that a new choice enters. Firmware on SC6 and SC7 does all of
this; its arithmetic is exact here and rounded only where a register holds the result (log entry 18).
-/
namespace Sys2Proof.Machine

/-! ### Slots -/

/-- The state codes of R225 and the reason codes of R224. -/
abbrev slDisabled : Nat := 0
abbrev slNoSignal : Nat := 1
abbrev slQualifying : Nat := 2
abbrev slWtr : Nat := 3
abbrev slQualified : Nat := 4
abbrev slSuspect : Nat := 5
abbrev whyLos : Nat := 1
abbrev whyJump : Nat := 2
abbrev whyFreq : Nat := 3
abbrev whySource : Nat := 4
abbrev whySuspect : Nat := 5

/-- The DSTATE codes of SEL_STATUS. -/
abbrev dsIdle : Nat := 0
abbrev dsTrack : Nat := 3
abbrev dsSlew : Nat := 4
abbrev dsSlewHold : Nat := 5
abbrev dsAlign : Nat := 6
abbrev dsHold : Nat := 7

/-- SEL_ERR bits; each raises source 43 as it sets, with the slot concerned, 0 where none is (R255). -/
def State.selError (s : State) (bit : Nat) (slot : Nat := 0) : State :=
  if s.flag Reg.SEL_ERR bit then s else (s.setFlag Reg.SEL_ERR bit true).raise 43 (BitVec.ofNat 32 slot)
abbrev seStep : Nat := 0
abbrev seParam : Nat := 1
abbrev seCmd : Nat := 2
abbrev seAlign : Nat := 3
abbrev seSeed : Nat := 4
abbrev seInj : Nat := 5
abbrev seClamp : Nat := 6

def State.slot (s : State) (n : Nat) : SlotState := (s.sel.slots.find? (·.1 == n)).elim SlotState.reset (·.2)
def State.setSlot (s : State) (n : Nat) (v : SlotState) : State :=
  { s with sel := { s.sel with slots := sparseSet (fun _ => SlotState.reset) s.sel.slots n v } }

/-- The fields of SEL_SLOTn_CFG. -/
def State.rank (s : State) (n : Nat) : Nat := s.fld (Reg.SEL_SLOT_CFG n) 28 4
def State.wtr (s : State) (n : Nat) : Nat := s.fld (Reg.SEL_SLOT_CFG n) 16 12
def State.lockout (s : State) (n : Nat) : Bool :=
  s.flag (Reg.SEL_SLOT_CFG n) 15 || (n == 13 && s.fld Reg.PAR_STATUS 30 2 == 2)
def State.freqKind (s : State) (n : Nat) : Bool := s.fld (Reg.SEL_SLOT_CFG n) 8 2 == 2
def State.todKind (s : State) (n : Nat) : Bool := s.fld (Reg.SEL_SLOT_CFG n) 8 2 == 0

/-- The fields of SEL_SLOTn_STAT. -/
def State.slotState (s : State) (n : Nat) : Nat := s.fld (Reg.SEL_SLOT_STAT n) 29 3
def State.slotClass (s : State) (n : Nat) : Nat := s.fld (Reg.SEL_SLOT_STAT n) 23 2
def State.disag (s : State) (n : Nat) : Bool := s.flag (Reg.SEL_SLOT_STAT n) 21
def State.everq (s : State) (n : Nat) : Bool := s.flag (Reg.SEL_SLOT_STAT n) 20
def State.isQualified (s : State) (n : Nat) : Bool := s.slotState n == slQualified

/-- The fields of SEL_STATUS. -/
def State.dstate (s : State) : Nat := s.fld Reg.SEL_STATUS 8 3
def State.setDstate (s : State) (d : Nat) : State := s.setFld Reg.SEL_STATUS 8 3 d
def State.cur (s : State) : Option Nat := if s.flag Reg.SEL_STATUS 4 then some (s.fld Reg.SEL_STATUS 0 4) else none
def State.fcur (s : State) : Option Nat := if s.flag Reg.SEL_STATUS 27 then some (s.fld Reg.SEL_STATUS 28 4) else none
def State.mvalid (s : State) : Bool := s.flag Reg.SEL_STATUS 25

/-- The rate of a slot per second (R219); records of S14 and S15 count as one per second (log entry 21). -/
def State.slotRate (s : State) (n : Nat) : Nat := 2 ^ s.fld (Reg.SEL_SLOT_CFG n) 0 4

/-- TIMER: the seconds since the timer's zero (R226). -/
def State.slotTimer (s : State) (n : Nat) : Nat := ((s.tick - (s.slot n).timer) / tickSec).toNat

/-- The effective class of R222. -/
def State.effectiveClass (s : State) (n : Nat) : Nat := min 3 ((s.slot n).quality + ofBool (s.disag n))

/-- x reduced into the range from minus half a period (left out) to plus half a period. -/
def reduceTo (period x : Int) : Int :=
  let r := x % period
  if period < 2 * r then r - period else r

/-- An offset as slot n's kind has it (R220): a PHASE slot's within a second, a FREQ slot's within its period. -/
def State.reduced (s : State) (n : Nat) (x : Int) : Int :=
  if s.freqKind n then reduceTo (tickSec / (s.slotRate n : Int)) x
  else if s.todKind n then x
  else reduceTo tickSec x

/-- The flags of SEL_SLOTn_STAT that follow from x, the class and the choice. -/
def State.refreshSlot (s : State) (n : Nat) : State :=
  let x := s.reduced n (s.slot n).x
  let far := decide (100000 * 2 ^ 16 < x) || decide (x < -(100000 * 2 ^ 16))
  let t := (s.setFlag (Reg.SEL_SLOT_STAT n) 22 far).setFld (Reg.SEL_SLOT_STAT n) 23 2 (s.effectiveClass n)
  t.setFlag (Reg.SEL_SLOT_STAT n) 19 (s.cur == some n || s.fcur == some n)

/-- Every slot's flags brought up to date. -/
def State.refreshSlots (s : State) : State := (List.range 16).foldl State.refreshSlot s

/-- A slot changes state: REASON is recorded and source 16 + n raised (R226); in QUALIFYING and WTR the timer starts. -/
def State.moveSlot (s : State) (n st why : Nat) : State :=
  let t := if st = slQualifying ∨ st = slWtr then s.setSlot n { s.slot n with timer := s.tick } else s
  let t := if st = s.slotState n then t
    else (t.setFld (Reg.SEL_SLOT_STAT n) 29 3 st).raise (16 + n) (Config.slotWord n st)
  let t := if st = slQualified then t.setFlag (Reg.SEL_SLOT_STAT n) 20 true else t
  if why = 0 then t else t.setFld (Reg.SEL_SLOT_STAT n) 25 4 why

/-- The measurements of a slot start afresh (R221, R227). -/
def State.restartSlot (s : State) (n : Nat) : State :=
  s.setSlot n { s.slot n with hist := [], start := s.tick }

/-! ### Estimates (R221, R232) -/

/-- The slope of a least-squares line through points (t, x), at least 3 of them. -/
def slopeOf (pts : List (Rat × Rat)) : Option Rat :=
  let n : Rat := (pts.length : Nat)
  let st := (pts.map (·.1)).sum
  let sx := (pts.map (·.2)).sum
  let stt := (pts.map fun p => p.1 * p.1).sum
  let stx := (pts.map fun p => p.1 * p.2).sum
  let den := n * stt - st * st
  if pts.length < 3 ∨ den = 0 then none else some ((n * stx - st * sx) / den)

/-- Points in whole units. -/
def ratPoints (pts : List (Int × Int)) : List (Rat × Rat) := pts.map fun p => ((p.1 : Rat), (p.2 : Rat))

/-- The measurements of a slot over the last w seconds. -/
def State.recent (s : State) (n w : Nat) : List (Int × Int) :=
  (s.slot n).hist.filter fun p => decide (s.tick - w * tickSec ≤ p.1)

/-- The frequency estimate of R221. -/
def State.estimate (s : State) (n : Nat) : Option Rat := slopeOf (ratPoints (s.recent n 100))

/-- The y in effect: CAL_INCR as it stands is 1.25 ns times 1 + y (R221, R237), whoever wrote it. -/
def State.yEffect (s : State) : Rat := ((s.incrUnits * 2 ^ 16 + s.dither : Nat) : Rat) / ((5 * 2 ^ 46 : Nat) : Rat) - 1

/-- yref of R221. -/
def State.yref (s : State) (n : Nat) : Rat := s.yEffect + (s.estimate n).getD 0

/-- The rate of a slot over the disagreement window (R232). -/
def State.windowRate (s : State) (n : Nat) : Option Rat := slopeOf (ratPoints (s.recent n (s.fld Reg.SEL_DIS 14 18)))

/-- The holdover prediction of R246; while MVALID = 0 the mean of y over the last 1,000 s in TRACK. -/
def Model.predict (m : Model) (tau temp slope : Rat) (tick : Int) : Rat :=
  let td : Rat := match m.tm with
    | some t0 => ((tick - t0 * tickSec : Int) : Rat) / ((86400 * tickSec : Int) : Rat)
    | none => 0
  let dT := match m.t0 with | some t0 => temp - t0 | none => 0
  m.y0 + m.a * Config.ln (1 + td / tau) + m.r * td + m.c1 * dT + m.c2 * (dT * dT) + m.cd * slope

/-- The mean of y over intervals in TRACK; with none, a value the spec does not give (log entry 18). -/
def meanTrack (ys : List (Rat × Rat)) : Rat :=
  let w := (ys.map (·.1)).sum
  if w = 0 then Config.untracked else (ys.map fun p => p.1 * p.2).sum / w

/-- TAU in days. -/
def State.tau (s : State) : Rat := (s.fld Reg.SEL_HOCTL 24 6 : Nat)

/-- yho at this moment. -/
def State.yho (s : State) : Rat :=
  if s.mvalid then s.sel.model.predict s.tau s.sel.temp s.sel.slope s.tick else meanTrack s.sel.track

/-! ### The reported error and quality (R250, R253) -/

/-- A time of 2^-16 ns in ns. -/
def nsOf (x : Int) : Rat := (x : Rat) / 65536

/-- |x| of the selected slot in ns. -/
def State.residual (s : State) : Rat :=
  match s.cur with
  | some n => absRat (nsOf (s.slot n).x)
  | none => absRat (nsOf s.sel.resid)

/-- The aid rate in ns per second that QFIX gives (R249). -/
def aidRate (qfix : Nat) : Rat := (10 ^ qfix : Nat) / (10 ^ 4 : Nat)

/-- FU, TU in ns per second and AU in ns per second squared (R250). -/
def State.fu (s : State) : Rat := ((max (s.rd Reg.SEL_HOFLOOR_FU).toNat (s.rd Reg.SEL_LRN_FU).toNat : Nat) : Rat) / 10 ^ 6
def State.tu (s : State) : Rat :=
  (((s.rd Reg.SEL_HOFLOOR_TU).toNat * (if s.flag Reg.SEL_TEMP 0 then 10 else 1) : Nat) : Rat) / 10 ^ 6
def State.au (s : State) : Rat :=
  ((max (s.rd Reg.SEL_HOFLOOR_AU).toNat (s.rd Reg.SEL_LRN_AU).toNat : Nat) : Rat) / 10 ^ 6 / 86400

/-- The holdover error estimate E of R250 in ns. -/
def State.errorEstimate (s : State) : Rat :=
  let d := s.dstate
  if d = dsTrack ∨ d = dsSlew ∨ d = dsAlign then s.residual
  else if d = dsHold ∨ d = dsSlewHold then
    let t : Rat := ((s.tick - s.sel.since : Int) : Rat) / (tickSec : Rat)
    match s.sel.aid with
    | some n => s.sel.e0 + aidRate (s.fld (Reg.SEL_SLOT_CFG n) 10 2) * t
    | none => s.sel.e0 + (s.fu + s.tu) * t + s.au * (t * t) / 2
  else s.sel.e0

/-- BUDGET, and the in-spec limit min(HO_SPEC, BUDGET), in ns. -/
def State.budget (s : State) : Nat := s.fld Reg.SEL_HO 15 17
def State.inSpec (s : State) : Nat := min (ofLeBytes (memReadBytes s.gys.pool 0x8C 4)) s.budget
def State.lockThr (s : State) : Nat := s.fld Reg.SEL_LOOP 0 16

/-- The degrade count of R253. -/
def State.degrade (s : State) : Nat :=
  let d := match s.cur with | some n => ofBool (s.disag n) | none => 0
  let r := if s.dstate = dsTrack ∨ s.dstate = dsSlew then
      (if s.residual ≤ (s.lockThr : Rat) then 0 else if s.residual ≤ (s.inSpec : Rat) then 1 else 2)
    else 0
  min 3 (d + r)

/-- QLEVEL of R167. -/
def State.qlevel (s : State) : Nat :=
  let base := if s.mode = modeLocked then 0
    else if s.mode = modeHoldover then (if s.errorEstimate ≤ ((ofLeBytes (memReadBytes s.gys.pool 0x8C 4) : Nat) : Rat) then 1 else 2)
    else 3
  if base = 3 then 3 else min 2 (base + s.degrade)

/-- The REFID and STRATUM_BASE that R167 gives, where it gives them. -/
def State.reportedRef (s : State) : Option (Word × Option Nat) :=
  if s.mode = modeAcquire then some (0x494E4954#32, none)
  else if s.mode = modeFreerun then some (0x46524545#32, none)
  else if s.mode = modeLocked ∨ s.mode = modeHoldover then
    s.cur.map fun n => (Config.slotRefId n, some ((Config.slotStratum n).val + 1))
  else none

/-- The first line of the parameter block as SC6 and SC7 write it (R165, R167): QLEVEL, STRATUM_BASE, TIMESRC, CLKACC, REFID,
ROOTDD, REFTS, VARIANCE. The fields that no rule gives a value are free while a reference is reported (log entry 20). -/
def State.paramLine (s : State) : List Byte :=
  let old := memReadBytes s.gys.pool 0 64
  let q := BitVec.ofNat 8 s.qlevel
  match s.reportedRef with
  | none => q :: old.drop 1
  | some (ref, none) => q :: ((old.drop 1).take 3 ++ (leBytes 4 ref.toNat ++ old.drop 8))
  | some (ref, some k) =>
    let f := s.freeBytes 20
    q :: BitVec.ofNat 8 k :: (f.take 2 ++ (leBytes 4 ref.toNat ++ ((f.drop 2).take 18 ++ old.drop 26)))

/-- The free values of that line. -/
def State.paramDraws (s : State) : Nat :=
  match s.reportedRef with
  | some (_, some _) => 20
  | _ => 0

/-- AVAIL of the parameter block as SC0 and SC1 write it: the tiles available for dispatch (R165). -/
def State.availWord (s : State) : List Byte :=
  leBytes 8 (((List.range 64).filter s.tileAvailable).map fun l => 2 ^ l).sum

/-- The lines of the parameter block that firmware writes, where they have changed. -/
def State.writeParams (s : State) (line : List Byte) : State :=
  let t := if line = memReadBytes s.gys.pool 0 64 then s else s.poolWrite .core 0 line
  if t.availWord = memReadBytes t.gys.pool 0x40 8 then t else t.poolWrite .core 0x40 t.availWord

/-- QLEVEL and what goes with it written to the parameter block, with AVAIL, where they have changed; source 40 with a
change of QLEVEL (R165, R167, R253; log entry 90). -/
def State.publish (s : State) : State :=
  if s.selFirmware = false then s
  else
    let d := match s.cur with | some n => s.disag n | none => false
    let t := (s.setFlag Reg.SEL_STATUS 24 d).setFld Reg.SEL_STATUS 20 2 s.degrade
    let q := t.qlevel
    let line := t.paramLine
    let u := (t.writeParams line).drewBytes t.paramDraws
    if q = s.fld Reg.SEL_STATUS 16 2 then u
    else (u.setFld Reg.SEL_STATUS 16 2 q).raise 40 (BitVec.ofNat 32 ((s.cur).getD 0))

/-- The row of R253 that applies from a mode. -/
def State.nextMode (s : State) (m : Nat) : Nat :=
  let d := s.dstate
  let e := s.errorEstimate
  let inBudget : Bool := decide (e ≤ (s.budget : Rat))
  if m = modeAcquire then
    match s.sel.lockSince with
    | some t => if d = dsTrack ∧ s.fld Reg.SEL_HO 0 10 * tickSec ≤ s.tick - t then modeLocked else modeAcquire
    | none => modeAcquire
  else if s.cur.isSome ∧ (d = dsTrack ∨ d = dsSlew) ∧ inBudget then modeLocked
  else if m = modeLocked ∧ (d = dsHold ∨ d = dsSlewHold) ∧ inBudget then modeHoldover
  else if (m = modeLocked ∨ m = modeHoldover) ∧ (inBudget = false ∨ d = dsAlign) then modeFreerun
  else m

/-- The mode table of R253, in STANDBY over PAR_TKMODE; EVERLOCK sets with the first LOCKED. -/
def State.moveMode (s : State) : State :=
  let everlock (t : State) (m : Nat) : State := if m = modeLocked then t.setFlag Reg.SEL_STATUS 26 true else t
  if s.mode = modeStandby then
    let m := s.nextMode (s.fld Reg.PAR_TKMODE 0 4)
    everlock (s.setFld Reg.PAR_TKMODE 0 4 m) m
  else if s.serving then everlock (s.setMode (s.nextMode s.mode)) (s.nextMode s.mode)
  else s

/-- Modes and reported quality brought up to date (R253). -/
def State.settle (s : State) : State := (s.moveMode.refreshSlots).publish

/-! ### Phase states (R240, R241, R244, R245) -/

/-- Selection and steering run (R229). -/
def State.steers (s : State) : Bool :=
  s.flag Reg.SEL_CTRL 0 && !s.flag Reg.CAL_CTRL 0 && decide (4 ≤ s.mode) && decide (s.mode ≤ 8)

/-- Source 45 for an aid that starts or stops. -/
def State.aidEvent (s : State) : Option Nat → State
  | some n => s.raise 45 (BitVec.ofNat 32 n)
  | none => s

/-- The aid that acts (R249): source 45 as one stops and as one starts. -/
def State.checkAid (s : State) : State :=
  let acts := if s.dstate = dsHold ∨ s.dstate = dsSlewHold then s.fcur else none
  if acts = s.sel.aid then s
  else (State.aidEvent { s with sel := { s.sel with aid := acts } } s.sel.aid).aidEvent acts

/-- HOLD or SLEW_HOLD entered: E at entry and the instant are kept (R245, R250). -/
def State.enterHold (s : State) (d : Nat) : State :=
  if s.dstate = dsHold ∨ s.dstate = dsSlewHold then s.setDstate d
  else
    let e := s.errorEstimate
    let t := { s with sel := { s.sel with e0 := e, since := s.tick, lockSince := none } }
    (t.setDstate d).checkAid

/-- TRACK entered with the integrator at yref (R240). -/
def State.enterTrack (s : State) (n : Nat) : State :=
  ({ s with sel := { s.sel with integ := s.yref n } }.setDstate dsTrack).checkAid

/-- SLEW entered: source 35 (R240, R243). -/
def State.enterSlew (s : State) (n : Nat) : State :=
  let t := ({ s with sel := { s.sel with returning := [], lockSince := none } }.setDstate dsSlew).checkAid
  t.raise 35 (BitVec.ofNat 32 n)

/-- ALIGN_PENDING entered: source 38 once on entry (R241). -/
def State.enterAlign (s : State) (n : Nat) : State :=
  if s.dstate = dsAlign then s
  else
    (({ s with sel := { s.sel with lockSince := none } }.setDstate dsAlign).checkAid).raise 38
      (BitVec.ofNat 32 n)

/-- |x| of a slot is at most a number of ns. -/
def State.within (s : State) (n ns : Nat) : Bool := decide ((s.slot n).x.natAbs ≤ ns * 2 ^ 16)

/-- The conditions of the initial alignment (R231). -/
def State.initialAlign (s : State) : Bool := !s.flag Reg.CAL_STATUS 17 && s.flag Reg.SEL_CTRL 2

/-- A new reference, or the named one again after a slew-hold (R240); while CAL_STATUS.SET = 0 the initial alignment
waits, or the host's ALIGN (R231). -/
def State.approach (s : State) (n : Nat) : State :=
  if s.flag Reg.CAL_STATUS 17 = false then
    if s.initialAlign then { s with sel := { s.sel with aligning := some true } }
    else s.enterAlign n
  else if s.within n s.lockThr then s.enterTrack n
  else if s.within n 100000 then s.enterSlew n
  else s.enterAlign n

/-! ### Selection (R228 to R230) -/

/-- The lesser of two candidates by (RANK, QCLASS, slot number), the second coming later. -/
def State.better (s : State) (a b : Nat) : Nat :=
  if s.rank b < s.rank a ∨ (s.rank b = s.rank a ∧ s.effectiveClass b < s.effectiveClass a) then b else a

/-- The best of a list in slot order. -/
def State.bestOf (s : State) : List Nat → Option Nat
  | [] => none
  | n :: ns => some (ns.foldl s.better n)

/-- The candidates of R229. -/
def State.candidates (s : State) : List Nat :=
  (List.range 16).filter fun n =>
    s.isQualified n && !s.lockout n && !s.freqKind n && (s.flag Reg.CAL_STATUS 17 || s.todKind n)

/-- Candidates within 100 us; the selected slot stays one unless it waits for alignment (log entry 22). -/
def State.nearby (s : State) : List Nat :=
  s.candidates.filter fun n =>
    !s.flag Reg.CAL_STATUS 17 || s.within n 100000 || (s.cur == some n && s.dstate != dsAlign)

/-- The pool of R229. -/
def State.pool (s : State) : List Nat := if s.nearby = [] then s.candidates else s.nearby

/-- The slot that R229 names. -/
def State.choice (s : State) : Option Nat :=
  let pool := s.pool
  match s.bestOf pool, s.cur with
  | none, _ => none
  | some b, none => some b
  | some b, some c =>
    if pool.contains c = false then some b
    else if s.flag Reg.SEL_CTRL 1 ∧ s.rank b < s.rank c then some b
    else some c

/-- The frequency aid of R230. -/
def State.aidChoice (s : State) : Option Nat :=
  if s.flag Reg.SEL_CTRL 3 = false then none
  else s.bestOf ((List.range 16).filter fun n => s.isQualified n && !s.lockout n && s.freqKind n)

/-- CUR and FCUR written. -/
def State.nameCur (s : State) (c : Option Nat) : State :=
  (s.setFlag Reg.SEL_STATUS 4 c.isSome).setFld Reg.SEL_STATUS 0 4 (c.getD 0)
def State.nameFcur (s : State) (c : Option Nat) : State :=
  (s.setFlag Reg.SEL_STATUS 27 c.isSome).setFld Reg.SEL_STATUS 28 4 (c.getD 0)

/-- The selected slot changes: source 32, and the phase state that R240, R241 or R245 gives. -/
def State.select (s : State) (c : Option Nat) : State :=
  let old := (s.cur).getD 0
  match c with
  | some n =>
    let t := (s.nameCur c).raise 32 (BitVec.ofNat 32 n)
    ({ t with sel := { t.sel with resid := (t.slot n).x, aligning := none } }).approach n
  | none =>
    let t := (s.enterHold dsHold).nameCur none
    ({ t with sel := { t.sel with aligning := none } }).raise 32 (BitVec.ofNat 32 old)

/-- Better slots that have not fallen back (R244). -/
def State.dropReturned (s : State) : State :=
  { s with sel := { s.sel with returning := s.sel.returning.filter (fun n =>
      s.slotState n == slQualifying || s.slotState n == slWtr) } }

/-- No alignment waits: the ALIGN command or the initial alignment is over. -/
def State.stopAligning (s : State) : State := { s with sel := { s.sel with aligning := none } }

/-- Some candidate has not been measured since a step that the firmware did not issue: the re-evaluation waits for the
offsets measured after it (R227). -/
def State.awaitsOffsets (s : State) : Bool := s.candidates.any fun n => (s.slot n).stale

/-- The re-evaluation of R228. While selection does not run, nothing is selected and DSTATE is IDLE (log entry 22). -/
def State.evaluate (s : State) : State :=
  if s.steers = false then
    let t := { s with sel := { s.sel with e0 := s.errorEstimate, aligning := none, returning := [], lockSince := none } }
    (((t.setDstate dsIdle).nameCur none).nameFcur none).checkAid
  else
    let t := (s.nameFcur s.aidChoice).checkAid
    let c := t.choice
    if t.awaitsOffsets then t
    else if c ≠ t.cur then t.select c
    else if c = none then t.enterHold dsHold
    else
      let u := t.dropReturned
      if u.dstate = dsSlewHold ∧ u.sel.returning = [] then u.approach (c.getD 0)
      else if u.dstate = dsAlign ∧ u.flag Reg.CAL_STATUS 17 ∧ u.within (c.getD 0) 100000 then u.stopAligning.approach (c.getD 0)
      else if u.sel.aligning = some true ∧ u.initialAlign = false then u.stopAligning.approach (c.getD 0)
      else if (u.dstate = dsIdle ∨ u.dstate = dsHold) ∧ u.sel.aligning = none ∧ u.sel.wrote = none then u.approach (c.getD 0)
      else u

/-- A better slot enters QUALIFYING or WTR while a slew is in progress: SLEW_HOLD (R244). -/
def State.noteReturn (s : State) (n : Nat) : State :=
  match s.cur with
  | some c =>
    if s.flag Reg.SEL_CTRL 1 ∧ s.rank n < s.rank c ∧ (s.dstate = dsSlew ∨ s.dstate = dsSlewHold) then
      let t := { s with sel := { s.sel with returning := n :: s.sel.returning.filter (· != n) } }
      if s.dstate = dsSlew then (t.enterHold dsSlewHold).raise 37 (BitVec.ofNat 32 n) else t
    else s
  | none => s

/-- A slot's change of state with what follows from it under R244. -/
def State.toState (s : State) (n st why : Nat) : State :=
  let t := s.moveSlot n st why
  if (st = slQualifying ∨ st = slWtr) ∧ s.slotState n ≠ st then t.noteReturn n else t

/-! ### Qualification (R224 to R226) -/

/-- The class of R222 before DISAG for slots whose class the device's own registers give. -/
def State.sourceClass (s : State) (n : Nat) : Nat :=
  if n = 0 then
    let ty := s.fld Reg.GNS_NAV_STAT 28 3
    if s.fld Reg.GNS_NAV_STAT 26 2 = 1 then 2
    else if s.fld Reg.GNS_NAV_STAT 26 2 ≠ 0 then 3
    else if ty = 4 then 0 else 1
  else if n ≤ 4 then s.fld (Reg.SEL_SLOT_CFG n) 10 2
  else if n = 13 then s.fld Reg.PAR_STATUS 6 2
  else (s.slot n).quality

/-- The class of a PTP master (R222). -/
def masterClass (m : Master) : Nat :=
  if [52, 135, 140, 150, 160, 165].contains m.clockClass ∨ m.traceable = false then
    (if [6, 7, 52, 135, 140, 150, 160, 165].contains m.clockClass then 2 else 3)
  else if m.clockClass = 6 then 0 else if m.clockClass = 7 then 1 else 3

/-- The class brought up to date. -/
def State.classifySlot (s : State) (n : Nat) : State :=
  (s.setSlot n { s.slot n with quality := s.sourceClass n }).refreshSlot n

/-- The ports whose PORT entry names a client slot (R219). -/
def State.portsOf (s : State) (n : Nat) : List Nat :=
  (List.range 16).filter fun p => (memRead s.gys.pool (0x100 + 16 * p + 14)).toNat == n

/-- The Source check fails (R224). -/
def State.sourceFails (s : State) (n : Nat) : Bool :=
  (n == 0 && (s.fld Reg.GNS_NAV_STAT 26 2 == 2 ||
    (s.flag (Reg.SEL_SLOT_CFG 0) 14 && s.fld Reg.GNS_NAV_STAT 24 2 != 2))) ||
  (decide (5 ≤ n) && decide (n ≤ 12) &&
    ((s.slot n).changed || (s.portsOf n).any fun p => !s.flag (Reg.PRT_STATUS p) 0)) ||
  (n == 13 && s.pair.peerEpoch != some (s.rd Reg.PAR_EPOCH)) ||
  decide (s.fld (Reg.SEL_SLOT_CFG n) 12 2 < s.effectiveClass n)

/-- The Frequency check fails; skipped without a model or without an estimate (R224). -/
def State.freqFails (s : State) (n : Nat) : Bool :=
  s.mvalid && (s.estimate n).isSome &&
    decide ((s.rd Reg.SEL_FLIM).toNat / (10 ^ 12 : Rat) < absRat (s.yref n - s.yho))

/-- The Loss check fails (R224). -/
def State.lossFails (s : State) (n : Nat) : Bool :=
  match (s.slot n).seen with
  | some t => decide (s.fld Reg.SEL_QUAL 24 8 * tickSec ≤ s.tick - t)
  | none => true

/-- The Phase-jump check fails for a new x (R224); skipped without a prediction. -/
def State.jumpFails (s : State) (n : Nat) (at_ x : Int) : Bool :=
  match (s.slot n).hist, s.estimate n with
  | (t0, x0) :: _, some e =>
    let d : Rat := ((x - x0 : Int) : Rat) - e * ((at_ - t0 : Int) : Rat)
    decide (((s.fld Reg.SEL_QUAL 0 14 * 2 ^ 16 : Nat) : Rat) < absRat d)
  | _, _ => false

/-- The state table of R226 after the checks other than loss: why is the last that failed, 0 for none. -/
def State.judge (s : State) (n why : Nat) : State :=
  let st := s.slotState n
  if why ≠ 0 then
    if st = slQualifying ∨ st = slWtr then s.toState n st why
    else if st = slQualified then s.toState n slWtr why
    else s.setFld (Reg.SEL_SLOT_STAT n) 25 4 why
  else
    if st = slQualifying ∧ s.fld Reg.SEL_QUAL 14 10 ≤ s.slotTimer n then s.toState n slQualified 0
    else if st = slWtr ∧ s.wtr n ≤ s.slotTimer n then s.toState n slQualified 0
    else s

/-- The loss of a slot's signal (R226): NOSIGNAL. -/
def State.loseSlot (s : State) (n : Nat) : State :=
  let st := s.slotState n
  if st = slNoSignal ∨ st = slDisabled then s
  else (s.toState n slNoSignal whyLos).restartSlot n

/-- The checks of a second without a measurement (R224). -/
def State.checkSlot (s : State) (n : Nat) : State :=
  let s := s.classifySlot n
  if s.lossFails n then s.loseSlot n
  else s.judge n (if s.sourceFails n then whySource else if s.freqFails n then whyFreq else 0)

/-! ### Disagreement (R232 to R235) -/

/-- THR as a fraction. -/
def State.disThr (s : State) : Rat := (s.fld Reg.SEL_DIS 0 14 : Nat) / (10 ^ 12 : Rat)

/-- A slot's offset at an instant within its measurements, newest first, on the line between the two next to it. -/
def offsetAt (h : List (Int × Int)) (t : Int) : Option Rat :=
  match h.find? (fun p => decide (p.1 ≤ t)), (h.filter fun p => decide (t ≤ p.1)).getLast? with
  | some p, some q =>
    if p.1 = q.1 then some ((p.2 : Int) : Rat)
    else some ((p.2 : Rat) + ((q.2 - p.2 : Int) : Rat) * ((t - p.1 : Int) : Rat) / ((q.1 - p.1 : Int) : Rat))
  | _, _ => none

/-- The difference of two slots' offsets at the instants of the first one's measurements (R232, log entry 99). -/
def State.offsetDiffs (s : State) (a b : Nat) : List (Rat × Rat) :=
  let w := s.fld Reg.SEL_DIS 14 18
  (s.recent a w).filterMap fun p => (offsetAt (s.recent b w) p.1).map fun y => ((p.1 : Rat), (p.2 : Rat) - y)

/-- The pair's fractional frequency difference: the regression of the difference of their offsets (R232). -/
def State.pairDiff (s : State) (a b : Nat) : Option Rat := (slopeOf (s.offsetDiffs a b)).map absRat

/-- A slot's measurements since its last discontinuity fill the window. -/
def State.fullWindow (s : State) (n : Nat) : Bool :=
  (s.slot n).hist.length != 0 && decide ((s.slot n).start ≤ s.tick - s.fld Reg.SEL_DIS 14 18 * tickSec)

/-- How far a slot's frequency lies from an arbiter's: a slot, or the prediction. -/
def State.fromArbiter (s : State) (n : Nat) : Option Nat → Rat
  | some a => (s.pairDiff n a).getD 0
  | none => absRat (s.yref n - s.yho)

/-- DISAG set or cleared on a slot. -/
def State.flagDisag (s : State) (n : Nat) (b : Bool) : State := (s.setFlag (Reg.SEL_SLOT_STAT n) 21 b).refreshSlot n

/-- A pair no longer stands open: the flags of slots in no other open pair clear. -/
def State.closePair (s : State) (p : Nat × Nat) : State :=
  let t := { s with sel := { s.sel with pairs := s.sel.pairs.filter (· != p) } }
  [p.1, p.2].foldl (fun u n => if t.sel.pairs.any (fun q => q.1 == n || q.2 == n) then u else u.flagDisag n false) t

/-- The arbiter of a pair (R233): the best qualified slot outside it, else the prediction. -/
def State.arbiter (s : State) (a b : Nat) : Option (Option Nat) :=
  let others := (List.range 16).filter fun n => n != a && n != b && s.isQualified n && (s.windowRate n).isSome
  match others with
  | [] => if s.mvalid then some none else none
  | n :: ns => some (some (ns.foldl (fun x y => if s.rank y < s.rank x then y else x) n))

/-- A pair that disagrees is arbitrated (R233, R234). -/
def State.arbitrate (s : State) (a b : Nat) : State :=
  let marked := match s.arbiter a b with
    | some w => ([(a, b), (b, a)].filter (fun p => decide (s.disThr < s.fromArbiter p.1 w))).map fun p => (p, w)
    | none => []
  if marked ≠ [] then
    (marked.foldl (fun t m =>
      (t.toState m.1.1 slSuspect whySuspect).setSlot m.1.1 { t.slot m.1.1 with marked := some (m.2, m.1.2) })
      (s.closePair (a, b)))
  else if s.sel.pairs.contains (a, b) then s
  else
    let t := { s with sel := { s.sel with pairs := s.sel.pairs ++ [(a, b)] } }
    ((t.flagDisag a true).flagDisag b true).raise 33 (BitVec.ofNat 32 a)

/-- One pair examined (R232, R234). -/
def State.examinePair (s : State) (p : Nat × Nat) : State :=
  let paired := s.isQualified p.1 && s.isQualified p.2 && s.rank p.1 == s.rank p.2 && s.rank p.1 != 0
  let isOpen := s.sel.pairs.contains p
  if paired = false then (if isOpen then s.closePair p else s)
  else
    match s.pairDiff p.1 p.2 with
    | none => s
    | some d =>
      if isOpen ∧ d ≤ s.disThr / 2 ∧ s.fullWindow p.1 ∧ s.fullWindow p.2 then
        (s.closePair p).raise 34 (BitVec.ofNat 32 p.1)
      else if isOpen ∨ s.disThr < d then s.arbitrate p.1 p.2
      else s

/-- A SUSPECT slot agrees again (R235): it serves its wait-to-restore. -/
def State.examineSuspect (s : State) (n : Nat) : State :=
  if s.slotState n ≠ slSuspect then s
  else
    match (s.slot n).marked with
    | none => s
    | some (w, other) =>
      let present := match w with | some a => s.isQualified a | none => s.mvalid
      let d := if present then (match w with | some a => s.pairDiff n a | none => some (s.fromArbiter n none))
        else s.pairDiff n other
      match d with
      | some d => if d ≤ s.disThr / 2 ∧ s.fullWindow n then s.toState n slWtr 0 else s
      | none => s

/-- Every pair of slots in order. -/
def allPairs : List (Nat × Nat) :=
  (List.range 16).flatMap fun a => ((List.range 16).filter (fun b => decide (a < b))).map fun b => (a, b)

/-- Disagreement examined (R232 to R235). -/
def State.examine (s : State) : State :=
  (List.range 16).foldl State.examineSuspect (allPairs.foldl State.examinePair s)

end Sys2Proof.Machine
end

