-- ==== Sys2Proof/Machine/Discipline.lean ====
section
/-!
DEFINITION. The discipline loop, alignment, holdover and the model (chapter 08), and the commands of the selector.
-/
namespace Sys2Proof.Machine

/-! ### The correction (R237, R238) -/

/-- The value of CAL_INCR for a correction y, in units of 2^-48 ns, within the range of R42. -/
def incrOf (y : Rat) : Nat :=
  (clampInt ((124875 * 2 ^ 48 + 99999) / 100000) (125125 * 2 ^ 48 / 100000)
    (openRound ((5 / 4 : Rat) * (1 + y) * (2 ^ 48 : Nat)))).toNat

/-- y committed under R41; beyond the range of R42 it is the nearest end, with INCR_CLAMP (R238). -/
def State.steer (s : State) (y : Rat) : State :=
  let c : Rat := if y < -(1 / 1000) then -(1 / 1000) else if 1 / 1000 < y then 1 / 1000 else y
  let s := if c = y then s else s.selError seClamp (s.cur.getD 0)
  let s := { s with sel := { s.sel with y := c } }
  let v := incrOf c
  (s.writeIncrL (.sc 6) (BitVec.ofNat 32 (v / 2 ^ 16))).writeIncrH (.sc 6)
    (BitVec.ofNat 32 (v / 2 ^ 48 + v % 2 ^ 16 * 2 ^ 16))

/-- The loop bandwidths of R236 in mHz. -/
def bandwidths : List Nat := [1, 3, 10, 30, 100, 300, 1000, 3000, 10000, 30000, 100000, 300000, 1000000]

/-- ζ from SEL_LOOP.DAMP. -/
def damping (d : Nat) : Rat := if d = 0 then 707 / 1000 else if d = 1 then 1 else if d = 2 then 2 else 4

/-- SLOPE as a fractional rate. -/
def State.slopeLimit (s : State) : Rat := (s.fld Reg.SEL_LOOP 18 14 : Nat) / (10 ^ 10 : Rat)

def clampRat (lo hi v : Rat) : Rat := if v < lo then lo else if hi < v then hi else v

/-- y kept for the mean over the last 1,000 s in TRACK (R246). -/
def keepTrack (limit : Rat) : List (Rat × Rat) → List (Rat × Rat)
  | [] => []
  | p :: ps => if limit ≤ 0 then [] else p :: keepTrack (limit - p.1) ps

/-- The TRACK row of R237. -/
def State.track (s : State) (n : Nat) : State :=
  let rate : Rat := (s.slotRate n : Nat)
  let x : Rat := ((s.slot n).x : Rat) / (tickSec : Rat)
  let w : Rat := 2 * Config.pi * ((bandwidths.getD (s.fld (Reg.SEL_SLOT_CFG n) 4 4) 0 : Nat) / 1000 : Rat) / rate
  let integ := s.sel.integ + w * w * x * rate
  let p := clampRat (-s.slopeLimit) s.slopeLimit (2 * damping (s.fld Reg.SEL_LOOP 16 2) * w * x * rate)
  let y := integ + p
  ({ s with sel := { s.sel with
      integ := integ, track := keepTrack 1000 ((1 / rate, y) :: s.sel.track) } }).steer y

/-- The SLEW row of R237: source 36 as the slew ends in TRACK. -/
def State.slew (s : State) (n : Nat) : State :=
  let x := (s.slot n).x
  let yr := s.yref n
  let t := s.steer (yr + (if 0 < x then s.slopeLimit else if x < 0 then -s.slopeLimit else 0))
  if s.within n s.lockThr then
    (({ t with sel := { t.sel with integ := yr, returning := [] } }).setDstate dsTrack).raise 36 (BitVec.ofNat 32 n)
  else t

/-- The loop at a measurement of the selected slot (R237). -/
def State.loopStep (s : State) (n : Nat) : State :=
  if s.steers = false then s
  else if s.dstate = dsTrack then s.track n
  else if s.dstate = dsSlew then s.slew n
  else if s.dstate = dsAlign then s.steer (s.yref n)
  else s

/-- Since when the lock condition of R253 has held. -/
def State.trackLock (s : State) (n : Nat) : State :=
  let l := if s.dstate = dsTrack ∧ s.within n s.lockThr then some (s.sel.lockSince.getD s.tick) else none
  { s with sel := { s.sel with lockSince := l } }

/-! ### Measurements (R220) -/

/-- REFNOM of a slot's REFIN is a whole multiple of its rate (R340). -/
def State.refDivides (s : State) (n : Nat) : Bool :=
  (s.rd (Reg.GRV_REFNOM (n - 1))).toNat % s.slotRate n == 0

/-- A slot whose measurement uses REFIN edges (R219). -/
def State.usesRefin (s : State) (n : Nat) : Bool :=
  decide (1 ≤ n) && decide (n ≤ 4) && s.rank n != 0 && (s.freqKind n || s.slotRate n != 1)

/-- What a reading measures for slot n: the instant and reference time minus device time; none where the reading is not
of the slot's kind. -/
def State.measured (s : State) (n : Nat) : Reading → Option (Int × Int)
  | .epoch g =>
    if n = 0 then
      s.nav.emitted.map fun p =>
        (s.tick, p.1 * tickSec + openDiv (p.2 * 65536) 1000 - ct96ToFrac g + Config.epochDelay)
    else none
  | .edge g k =>
    if 1 ≤ n ∧ n ≤ 4 ∧ (s.usesRefin n = false ∨ s.refDivides n) then
      let period := tickSec / (s.slotRate n : Int)
      if s.freqKind n then some (s.tick, reduceTo period (-(ct96ToFrac g : Int)))
      else some (s.tick, (k : Int) * period - ct96ToFrac g)
    else none
  | .client m =>
    if 5 ≤ n ∧ n ≤ 12 then (bestExchange (s.exchanges n m.toNat)).map fun e => (s.tick, exchangeOffset e) else none
  | .pair => if n = 13 then s.pair.offset.map fun m => (s.tick, m) else none
  | .record =>
    if 14 ≤ n then
      match s.sel.injected.find? (·.1 == n) with
      | some (_, r) => if r.valid then some ((ct96ToFrac r.at_ : Int), fracOfSigned r.off) else none
      | none => none
    else none

/-- COMP of a slot. -/
def State.comp (s : State) (n : Nat) : Int := (s.rd (Reg.SEL_SLOT_COMP n)).toInt

/-- x of a slot from what was measured: COMP added, a PHASE slot reduced (R220); a FREQ slot's x runs on from the x
before. -/
def State.finalX (s : State) (n : Nat) (m : Int) : Int :=
  let x := m + s.comp n
  if s.freqKind n then
    let period := tickSec / (s.slotRate n : Int)
    match (s.slot n).hist with
    | (_, x0) :: _ => x0 + reduceTo period (x - x0)
    | [] => s.reduced n x
  else s.reduced n x

/-- A measurement appended to a slot's history, cut to what R221 and R232 look back on. -/
def State.record (s : State) (n : Nat) (at_ x : Int) : State :=
  let v := s.slot n
  let keep := s.tick - (max 100 (s.fld Reg.SEL_DIS 14 18) : Nat) * tickSec
  let h := (at_, x) :: v.hist.filter fun p => decide (keep ≤ p.1)
  let t := s.setSlot n { v with
    x := x, hist := h, start := if v.hist = [] then at_ else v.start, seen := some s.tick, stale := false }
  let t := t.bump (Reg.SEL_SLOT_MCNT n) 0 32
  let e := t.estimate n
  t.wr (Reg.SEL_SLOT_FREQ n) (BitVec.ofNat 32 (signedField 32 (e.getD 0 * (10 ^ 12 : Nat))))

/-- The master that the firmware has chosen on a slot's ports: PORTM is written where it is another one (R165). -/
def State.chooseMaster (s : State) (n sender : Nat) : State :=
  if (s.slot n).sender = some sender then s
  else (s.portsOf n).foldl State.writeMaster (s.setSlot n { s.slot n with sender := some sender })

/-- What an Announce says of a slot's master (R222, R224). -/
def State.noteAnnounce (s : State) (n : Nat) : Option Master → State
  | some m =>
    let v := s.slot n
    let changed := match v.master with | some i => decide (i ≠ m.identity) | none => false
    s.setSlot n { v with master := some m.identity, changed := changed, quality := masterClass m }
  | none => s

/-- What a reading brings beside its measurement: a client slot's records are read (R186), a record is taken. -/
def State.noteMaster (s : State) (n : Nat) : Reading → State
  | .client m =>
    if n < 5 ∨ 12 < n then s
    else ((s.noteAnnounce n (s.announced n m.toNat)).chooseMaster n m.toNat).takeRecords n
  | .record =>
    match s.sel.injected.find? (·.1 == n) with
    | some (_, r) =>
      let t := if r.valid then s.setSlot n { s.slot n with quality := r.quality } else s
      { t with sel := { t.sel with injected := t.sel.injected.filter (·.1 != n) } }
    | none => s
  | .pair => { s with pair := { s.pair with offset := none } }
  | _ => s

/-- BUSY of an injection register pair clears as its record is taken (R223). -/
def State.freeInjection (s : State) (n : Nat) : State :=
  if 14 ≤ n then s.setFlag (Reg.SEL_INJ_CTL (n - 14)) 0 false else s

/-- A slot's accepted measurement: checks, state, disagreement, selection, and the loop where it is the selected one. -/
def State.accept (s : State) (n : Nat) (at_ m : Int) : State :=
  let x := s.finalX n m
  let jump := s.jumpFails n at_ x
  let s := if jump then s.restartSlot n else s
  let s := (s.record n at_ x).classifySlot n
  let s := if s.slotState n = slNoSignal then s.toState n (if s.everq n then slWtr else slQualifying) 0 else s
  let why := if s.sourceFails n then whySource else if s.freqFails n then whyFreq else if jump then whyJump else 0
  let s := ((s.judge n why).examine).evaluate
  let s := if s.cur = some n then
      (({ s with sel := { s.sel with resid := x } }).loopStep n).trackLock n
    else s
  s.settle

/-- A stamp of the reading is marked SUSPECT (R220): of a client exchange, in its records (R186). -/
def State.readingSuspect (s : State) (n : Nat) (r : Reading) (suspectStamp : Bool) : Bool :=
  match r with
  | .client m => (bestExchange (s.exchanges n m.toNat)).elim false (·.suspect)
  | _ => suspectStamp

/-- A measurement of a slot whose rank is 0: no check runs, and its frequency estimate is kept all the same (R221). -/
def State.observe (s : State) (n : Nat) (at_ m : Int) : State := (s.record n at_ (s.finalX n m)).refreshSlot n

/-- S0's x departs from its prediction, the last accepted x plus the estimate over the interval, by more than CLK_THR and
SEL_EST (R323). -/
def State.clockJumps (s : State) (at_ x : Int) : Bool :=
  match (s.slot 0).hist, s.estimate 0 with
  | (t0, x0) :: _, some e =>
    let d : Rat := ((x - x0 : Int) : Rat) - e * ((at_ - t0 : Int) : Rat)
    decide (((s.fld Reg.GNS_ICHK2 16 16 : Nat) : Rat) + s.errorEstimate < absRat d / 65536)
  | _, _ => false

/-- A measurement of S0 is what the next solution's CLKJUMP looks at. -/
def State.noteJump (s : State) (n : Nat) (at_ m : Int) : State :=
  if n = 0 then { s with nav := { s.nav with jumped := s.nav.jumped || s.clockJumps at_ (s.finalX 0 m) } } else s

/-- SLOT_MEASUREMENT (R219 to R226, R237). -/
def execSlotMeasurement (n : Fin 16) (r : Reading) (suspectStamp : Bool) (s : State) :
    Host.Outcome State Fault Refusal :=
  let n := n.val
  .next (if s.selFirmware = false then s
    else if s.readingSuspect n r suspectStamp then (s.noteMaster n r).bump (Reg.SEL_SLOT_DCNT n) 0 32
    else
      match s.measured n r with
      | some (at_, m) =>
        let t := ((s.noteMaster n r).freeInjection n).noteJump n at_ m
        if s.rank n = 0 then t.observe n at_ m else t.accept n at_ m
      | none =>
        if s.rank n = 0 then s.noteMaster n r
        else if r = .record ∧ 14 ≤ n ∧ s.sel.injected.any (·.1 == n) then
          (((((s.noteMaster n r).freeInjection n).loseSlot n).examine).evaluate).settle
        else s.noteMaster n r)

/-- SLOT_SECOND_CHECK (R224): a second in which no measurement of the slot arrived. -/
def execSlotSecondCheck (n : Fin 16) (s : State) : Host.Outcome State Fault Refusal :=
  let arrived : Bool := match (s.slot n.val).seen with
    | some t => decide (s.tick - t < tickSec)
    | none => false
  .next (if s.selFirmware = false ∨ s.rank n.val = 0 ∨ arrived then s
    else (((s.checkSlot n.val).examine).evaluate).settle)

/-! ### Temperature (R248) -/

/-- T that TSRC names in 1/256 °C, where it is a valid reading, and whether its source has failed. -/
def State.sensor (s : State) : Option Int × Bool :=
  let t (i : Nat) : Int := signed 16 (s.fld (Reg.CPM_TEMP i) 16 16)
  let ok (i : Nat) := s.flag (Reg.CPM_TEMP i) 0
  let bad (i : Nat) := s.flag (Reg.CPM_TEMP i) 1
  let src := s.fld Reg.SEL_HOCTL 30 2
  if src = 3 then
    (if ok 1 && ok 2 && !bad 1 && !bad 2 then some (openDiv (t 1 + t 2) 2) else none, bad 1 || bad 2)
  else (if ok src && !bad src then some (t src) else none, bad src)

/-- The temperature in use and its slope over the last hour in K/h; source 42 as the source fails (R248). -/
def State.readTemp (s : State) : State :=
  let (v, failed) := s.sensor
  let s := if failed && !s.flag Reg.SEL_TEMP 0 then
      s.raise 42 (BitVec.ofNat 32 (s.fld Reg.SEL_HOCTL 30 2))
    else s
  let s := s.setFlag Reg.SEL_TEMP 0 failed
  match v with
  | none => s
  | some t =>
    let temps := (s.tick, t) :: s.sel.temps.filter fun p => decide (s.tick - 3600 * tickSec ≤ p.1)
    let slope := ((slopeOf (ratPoints temps)).getD 0) * ((3600 * tickSec : Int) : Rat) / 256
    let s := s.setFld Reg.SEL_TEMP 16 16 (unsigned 16 t)
    { s with sel := { s.sel with temp := (t : Rat) / 256, slope := slope, temps := temps } }

/-- SELECTOR_SECOND (R228, R253). -/
def execSelectorSecond (s : State) : Host.Outcome State Fault Refusal :=
  .next (if s.selFirmware = false then s else ((s.readTemp.examine).evaluate).settle)

/-! ### Injection (R223) -/

/-- The record that a GO of SEL_INJm_CTL submits. -/
def State.injection (s : State) (m : Nat) (v : Word) : Injected :=
  ⟨bitAt v 30, bitsAt v 28 2, s.rd96 (Reg.SEL_INJ_OFF_W0 m), s.rd96 (Reg.SEL_INJ_AT_W0 m)⟩

/-- The refusals of R223. -/
def State.injectRefused (s : State) (m : Nat) (r : Injected) : Bool :=
  let a : Int := ct96ToFrac r.at_
  decide (s.tick < a) || decide (a < s.tick - 2 * tickSec) || !ct96Valid r.at_ || !ct96Valid r.off ||
    s.flag (Reg.SEL_INJ_CTL m) 0

/-- A write of SEL_INJm_CTL. -/
def State.writeInject (s : State) (m : Nat) (v : Word) : State :=
  if bitAt v 31 = false then s
  else if s.injectRefused m (s.injection m v) then s.selError seInj (14 + m)
  else
    let t := s.setFlag (Reg.SEL_INJ_CTL m) 0 true
    { t with sel := { t.sel with injected := t.sel.injected ++ [(14 + m, s.injection m v)] } }

/-- INJECT (R223): a write of SEL_INJm_CTL. -/
def execInject (ag : Agent) (m : Fin 2) (v : Word) (s : State) : Host.Outcome State Fault Refusal :=
  .next (s.writeAccess ag (Reg.SEL_INJ_CTL m.val) v fun t => t.writeInject m.val v)

/-! ### Alignment (R231, R242, R243) -/

/-- The unstepped count lies 0.1 s to 0.9 s into a second (R231). -/
def State.alignWindow (s : State) : Bool :=
  let f := s.tick % tickSec
  decide (tickSec ≤ 10 * f) && decide (10 * f ≤ 9 * tickSec)

/-- The absolute step value S + 1 + x, x extrapolated to that edge (R231). -/
def State.absoluteStep (s : State) (n : Nat) : CT96 :=
  let edge := (s.tick / tickSec + 1) * tickSec
  let at_ := match (s.slot n).hist with | (t, _) :: _ => t | [] => s.tick
  ct96OfSigned (openRound (((edge + (s.slot n).x : Int) : Rat) + (s.estimate n).getD 0 * ((edge - at_ : Int) : Rat)))

/-- A step that the firmware writes; which alignment it belongs to is kept once Caldera has accepted it. -/
def State.writeStep (s : State) (value : CT96) (absolute initial : Bool) : State :=
  let t := (s.wr96 (Reg.CAL_STEP_W 0) value).writeStepCmd (BitVec.ofNat 32 (1 + ofBool absolute * 4 + 8))
  if s.flag Reg.CAL_STATUS 1 = false ∧ t.flag Reg.CAL_STATUS 1 then
    { t with sel := { t.sel with wrote := some initial, aligning := none } }
  else t.selError seStep (s.cur.getD 0)

/-- INIT_ALIGN_STEP (R231). -/
def execInitAlignStep (s : State) : Host.Outcome State Fault Refusal :=
  .next (match s.cur with
    | some n =>
      if s.selFirmware ∧ s.steers ∧ s.mode = modeAcquire ∧ s.initialAlign ∧ s.sel.aligning = some true ∧ s.alignWindow then
        s.writeStep (s.absoluteStep n) true true
      else s
    | none => s)

/-- ALIGN (R242): accepted only in ALIGN_PENDING. -/
def State.cmdAlign (s : State) : State :=
  if s.dstate = dsAlign then { s with sel := { s.sel with aligning := some false } }
  else s.selError seAlign (s.cur.getD 0)

/-- ALIGN_STEP_WRITE (R242): the relative step of x, or the absolute one while SET = 0; a refusal by Caldera leaves
ALIGN_PENDING. -/
def execAlignStepWrite (s : State) : Host.Outcome State Fault Refusal :=
  .next (match s.cur with
    | some n =>
      if s.selFirmware ∧ s.steers ∧ s.dstate = dsAlign ∧ s.sel.aligning = some false ∧ s.alignWindow then
        let t := { s with sel := { s.sel with aligning := none } }
        if s.flag Reg.CAL_STATUS 17 then t.writeStep (ct96OfSigned (s.slot n).x) false false
        else if s.mode = modeAcquire then t.writeStep (s.absoluteStep n) true false
        else s
      else s
    | none => s)

/-- FORCE_SLEW (R243): accepted only in ALIGN_PENDING. -/
def State.cmdForceSlew (s : State) : State :=
  match s.cur with
  | some n => if s.dstate = dsAlign then (s.enterSlew n).settle else s.selError seAlign n
  | none => s.selError seAlign

/-- WTR_CLR (R226): ignored where the slot is not in WTR. -/
def State.cmdWtrClr (s : State) (n : Nat) : State :=
  if s.slotState n = slWtr then (((s.toState n slQualified 0).examine).evaluate).settle else s

/-! ### The model (R247, R251) -/

/-- A 32-bit and a 64-bit signed number of SEL_MOD or SEL_SEED. -/
def State.seedWord (s : State) (k : Nat) : Rat := ((s.rd (Reg.SEL_SEED k)).toInt : Rat)

/-- The seed as a model (R256). -/
def State.seedModel (s : State) : Model :=
  { y0 := ((ofWords64 (s.rd (Reg.SEL_SEED 0)) (s.rd (Reg.SEL_SEED 1))).toInt : Rat) / (10 ^ 18 : Nat)
    a := s.seedWord 2 / (10 ^ 15 : Nat), r := s.seedWord 3 / (10 ^ 15 : Nat)
    c1 := s.seedWord 4 / (10 ^ 15 : Nat), c2 := s.seedWord 5 / (10 ^ 15 : Nat), cd := s.seedWord 6 / (10 ^ 15 : Nat)
    fitted := s.fld (Reg.SEL_SEED 7) 0 4
    t0 := some ((signed 16 (s.fld (Reg.SEL_SEED 7) 16 16) : Rat) / 256)
    tm := some (s.fld (Reg.SEL_SEED 9) 0 16 * 2 ^ 32 + (s.rd (Reg.SEL_SEED 8)).toNat) }

/-- SEL_MOD written from the model in use. -/
def State.showModel (s : State) : State :=
  let m := s.sel.model
  let y := unsigned 64 (clampInt (-(2 ^ 63)) (2 ^ 63 - 1) (openRound (m.y0 * (10 ^ 18 : Nat))))
  let w (q : Rat) : Word := BitVec.ofNat 32 (signedField 32 (q * (10 ^ 15 : Nat)))
  let tm := m.tm.getD 0
  let t0 := match m.t0 with | some q => signedField 16 (q * 256) | none => 0
  s.wrWords (Reg.SEL_MOD 0)
    [BitVec.ofNat 32 y, BitVec.ofNat 32 (y / 2 ^ 32), w m.a, w m.r, w m.c1, w m.c2, w m.cd,
     BitVec.ofNat 32 (t0 * 2 ^ 16 + m.fitted), BitVec.ofNat 32 tm, BitVec.ofNat 32 (tm / 2 ^ 32 % 2 ^ 16)]

/-- LOAD_SEED (R251): accepted only in STAGED and ACQUIRE. -/
def State.cmdLoadSeed (s : State) : State :=
  if s.mode = modeStaged ∨ s.mode = modeAcquire then
    (({ s with sel := { s.sel with model := s.seedModel, seeded := s.seedModel } }).setFlag Reg.SEL_STATUS 25 true).showModel
  else s.selError seSeed

/-- RELEARN (R251): the model and MVALID clear. -/
def State.cmdRelearn (s : State) : State :=
  (({ s with sel := { s.sel with model := Model.reset, seeded := Model.reset, samples := [] } }).setFlag Reg.SEL_STATUS 25 false).showModel

/-- A write of SEL_CMD: refused while a previous command is unfinished, and for an OP outside 1 to 5. -/
def State.writeSelCmd (s : State) (v : Word) : State :=
  let op := bitsAt v 24 3
  if bitAt v 31 = false then s
  else if s.sel.aligning = some false ∨ s.sel.wrote = some false then s.selError seCmd
  else if op = 1 then s.cmdAlign
  else if op = 2 then s.cmdForceSlew
  else if op = 3 then s.cmdWtrClr (bitsAt v 0 4)
  else if op = 4 then s.cmdLoadSeed
  else if op = 5 then s.cmdRelearn
  else s.selError seCmd

/-- A command of SEL_CMD with one OP. -/
def State.selCommand (s : State) (ag : Agent) (op : Nat) (v : Word) : State :=
  s.writeAccess ag Reg.SEL_CMD v fun t => if bitsAt v 24 3 = op then t.writeSelCmd v else t

/-- SEL_ALIGN (R242). -/
def execSelAlign (ag : Agent) (v : Word) (s : State) : Host.Outcome State Fault Refusal := .next (s.selCommand ag 1 v)
/-- SEL_FORCE_SLEW (R243). -/
def execSelForceSlew (ag : Agent) (v : Word) (s : State) : Host.Outcome State Fault Refusal :=
  .next (s.selCommand ag 2 v)
/-- SEL_WTR_CLR (R226). -/
def execSelWtrClr (ag : Agent) (v : Word) (s : State) : Host.Outcome State Fault Refusal := .next (s.selCommand ag 3 v)
/-- SEL_LOAD_SEED (R251). -/
def execSelLoadSeed (ag : Agent) (v : Word) (s : State) : Host.Outcome State Fault Refusal :=
  .next (s.selCommand ag 4 v)
/-- SEL_RELEARN (R251). -/
def execSelRelearn (ag : Agent) (v : Word) (s : State) : Host.Outcome State Fault Refusal :=
  .next (s.selCommand ag 5 v)

/-- HOLD_UPDATE (R237, R245, R249): once per second in HOLD and SLEW_HOLD. -/
def execHoldUpdate (s : State) : Host.Outcome State Fault Refusal :=
  .next (if s.selFirmware ∧ s.steers ∧ (s.dstate = dsHold ∨ s.dstate = dsSlewHold) then
      (s.steer (match s.sel.aid with
        | some n => s.yref n
        | none => s.yho)).settle
    else s)

/-- Learning is on (R247). -/
def State.learning (s : State) : Bool :=
  s.steers && s.dstate == dsTrack && s.mode == modeLocked && s.degrade == 0

/-- MODEL_SAMPLE (R247): y and T, every 100 s while learning; MVALID sets with LEARN_MIN hours of samples. -/
def execModelSample (s : State) : Host.Outcome State Fault Refusal :=
  .next (if s.selFirmware = false ∨ s.learning = false then s
    else
      let m := s.sel.model
      let m := { m with tm := some (m.tm.getD (ct96Sec s.now)), t0 := some (m.t0.getD s.sel.temp) }
      let keep := s.tick - s.fld Reg.SEL_HOCTL 16 8 * 86400 * tickSec
      let samples := ⟨s.tick, s.yEffect, s.sel.temp, s.sel.slope⟩ ::
        s.sel.samples.filter fun p => decide (keep ≤ p.time)
      let t := ({ s with sel := { s.sel with model := m, samples := samples } }).showModel
      if s.fld Reg.SEL_HOCTL 8 8 * 3600 ≤ 100 * samples.length then t.setFlag Reg.SEL_STATUS 25 true else t)

/-- Inner product. -/
def dot (a b : List Rat) : Rat := (List.zipWith (· * ·) a b).sum

/-- Solves n linear equations given as rows of n + 1 numbers; none where they have no single solution. -/
def solveRows : Nat → List (List Rat) → Option (List Rat)
  | 0, _ => some []
  | n + 1, rows =>
    match rows.find? fun r => r.headD 0 != 0 with
    | none => none
    | some p =>
      let q := p.tail.map (· / p.headD 0)
      let rest := (rows.erase p).map fun r => List.zipWith (fun a b => a - r.headD 0 * b) r.tail q
      (solveRows n rest).map fun xs => (q.getLastD 0 - dot q xs) :: xs

/-- The spread of a list of values. -/
def spread : List Rat → Rat
  | [] => 0
  | a :: as => as.foldl (fun x y => if x < y then y else x) a - as.foldl (fun x y => if y < x then y else x) a

/-- The samples of the last LEARN_WIN days (R247). -/
def State.learnt (s : State) : List Sample :=
  s.sel.samples.filter fun p => decide (s.tick - s.fld Reg.SEL_HOCTL 16 8 * 86400 * tickSec ≤ p.time)

/-- The fitted flags of TREF: C1, C2, CD, A by the conditions of R247. -/
def State.fitFlags (s : State) : Nat :=
  let temps := s.learnt.map (·.temp)
  let old : Bool := match s.sel.model.tm with
    | some t0 => decide (s.tau * 86400 ≤ (((ct96Sec s.now : Int) - t0 : Int) : Rat))
    | none => false
  ofBool (decide (2 ≤ spread temps)) + 2 * ofBool (decide (5 ≤ spread temps)) +
    4 * ofBool (decide ((1 / 2 : Rat) ≤ spread (s.learnt.map (·.slope)))) + 8 * ofBool old

/-- The six terms of R246 at a sample: Y0, R, A, C1, C2, CD. -/
def Model.terms (m : Model) (tau : Rat) (p : Sample) : List Rat :=
  let td : Rat := ((p.time - (m.tm.getD 0) * tickSec : Int) : Rat) / ((86400 * tickSec : Int) : Rat)
  let dT := p.temp - m.t0.getD 0
  [1, td, Config.ln (1 + td / tau), dT, dT * dT, p.slope]

/-- Which terms a fit covers: Y0 and R always. -/
def fitMask (flags : Nat) : List Bool :=
  [true, true, flags.testBit 3, flags.testBit 0, flags.testBit 1, flags.testBit 2]

/-- The entries of a list that a mask picks. -/
def pick : List Bool → List Rat → List Rat
  | true :: ms, a :: as => a :: pick ms as
  | false :: ms, _ :: as => pick ms as
  | _, _ => []

/-- Picked entries put back in their places, the others from a list. -/
def unpick : List Bool → List Rat → List Rat → List Rat
  | true :: ms, a :: as, _ :: bs => a :: unpick ms as bs
  | false :: ms, as, b :: bs => b :: unpick ms as bs
  | _, _, _ => []

/-- The coefficients of a model in the order of its terms. -/
def Model.coefs (m : Model) : List Rat := [m.y0, m.r, m.a, m.c1, m.c2, m.cd]

/-- A model with given coefficients. -/
def Model.withCoefs (m : Model) (c : List Rat) (flags : Nat) : Model :=
  { m with y0 := c.getD 0 0, r := c.getD 1 0, a := c.getD 2 0, c1 := c.getD 3 0, c2 := c.getD 4 0, cd := c.getD 5 0,
           fitted := flags }

/-- The least-squares fit of R247 over the samples of the window, every other term at its seeded value: the new model, the residual rms and the standard error of R; none
where the samples do not determine it. -/
def State.fit (s : State) : Option (Model × Rat × Rat) :=
  let m := s.sel.model
  let flags := s.fitFlags
  let mask := fitMask flags
  let fixed := unpick mask (List.replicate 6 0) s.sel.seeded.coefs
  let data := s.learnt.map fun p =>
    let b := m.terms s.tau p
    (pick mask b, p.y - dot fixed b)
  let k := (mask.filter (fun b => b)).length
  let normal (i : Nat) : List Rat := (List.range k).map fun j => (data.map fun d => d.1.getD i 0 * d.1.getD j 0).sum
  let rhs (i : Nat) : Rat := (data.map fun d => d.1.getD i 0 * d.2).sum
  match solveRows k ((List.range k).map fun i => normal i ++ [rhs i]),
        solveRows k ((List.range k).map fun i => normal i ++ [if i = 1 then 1 else 0]) with
  | some b, some v =>
    let n : Rat := (data.length : Nat)
    let rss := (data.map fun d => let e := d.2 - dot d.1 b; e * e).sum
    if data.length ≤ k then none
    else some (m.withCoefs (unpick mask b s.sel.seeded.coefs) flags, Config.sqrt (rss / n),
      Config.sqrt (rss / (n - (k : Nat)) * v.getD 1 0))
  | _, _ => none

/-- MODEL_REFIT (R247): once per hour; source 41. -/
def execModelRefit (s : State) : Host.Outcome State Fault Refusal :=
  .next (if s.selFirmware = false then s
    else
      match s.fit with
      | none => s
      | some (m, rms, se) =>
        let field (q : Rat) : Word := BitVec.ofNat 32 (min (2 ^ 32 - 1) (openRound (q * (10 ^ 15 : Nat))).toNat)
        let t := ({ s with sel := { s.sel with model := m } }).showModel
        ((t.wr Reg.SEL_LRN_FU (field rms)).wr Reg.SEL_LRN_AU (field se)).raise 41)

/-! ### Steps (R227, R231, R242) -/

/-- A slot across a step of d units of 2^-16 ns: instants keep their distance from now, and x is what the step leaves of it.
After a step of another's its measurements start afresh and the next one is awaited (R227). -/
def State.steppedSlot (s : State) (d : Int) (own : Bool) (n : Nat) (v : SlotState) : SlotState :=
  let x := s.reduced n (v.x - d)
  { v with
    x := x, seen := v.seen.map (· + d), timer := v.timer + d
    hist := if own then v.hist.map fun p => (p.1 + d, p.2 + (x - v.x)) else []
    start := if own then v.start + d else s.tick
    stale := if own then v.stale else v.seen.isSome }

/-- The selector across a step of d units of 2^-16 ns, its own or another's. -/
def State.stepSelector (s : State) (d : Int) (own : Bool) : State :=
  let q := s.sel
  { s with sel := { q with
      slots := q.slots.map fun e => (e.1, s.steppedSlot d own e.1 e.2)
      since := q.since + d, lockSince := q.lockSince.map (· + d), resid := q.resid - d
      samples := q.samples.map fun p => { p with time := p.time + d }
      temps := q.temps.map fun p => (p.1 + d, p.2)
      wrote := none } }

/-- The selector learns of a step (R227); its own step ends the alignment in TRACK with the integrator at yref
(sources 44 and 39). -/
def State.selectorStep (s : State) (d : Int) : State :=
  let t := s.stepSelector d s.sel.wrote.isSome
  match s.sel.wrote, s.cur with
  | some initial, some n =>
    let u := ({ t with sel := { t.sel with integ := t.yref n } }).setDstate dsTrack
    ((u.checkAid).raise (if initial then 44 else 39) (BitVec.ofNat 32 n)).settle
  | _, _ => t

/-- The step that is due is an absolute one of the firmware, and the device has left ACQUIRE (R231). -/
def State.alignLate (s : State) (p : PendStep) : Bool := s.sel.wrote.isSome && p.absolute && s.mode != modeAcquire

/-- Drypoint's edges of the past and those already commanded keep their distance from now across a step of d units of
2^-32 ns (R258); so do the bits of a TODOUT message under way (log entry 101). -/
def State.outputsStep (s : State) (d : Int) : State :=
  { s with dry := { s.dry with
      pps := s.dry.pps.map fun e => (e.1, { e.2 with
        sent := e.2.sent.map fun c => { c with edge := c.edge + d }
        fell := e.2.fell.map (· + d) })
      clk := s.dry.clk.map fun e => (e.1, { e.2 with last := e.2.last + (d : Rat), held := true })
      todPulse := s.dry.todPulse.map fun e => (e.1, e.2.1 + d, e.2.2)
      sending := s.dry.sending.map fun m => { m with start := m.start + d }
      gpps := s.dry.gpps.map fun g => (g.1 + d, g.2) } }

/-- STEP_APPLY (R45): the step's apply edge; an increment due at the same edge goes first (R38). An alignment that the
firmware wrote in ACQUIRE does not apply outside it: the firmware aborts it (R231). -/
def execStepApply (s : State) : Host.Outcome State Fault Refusal :=
  match s.cal.pendStep with
  | some p =>
    .next (if s.stepDue ∧ s.incrDue = false then
        if s.alignLate p then s.stepAbort
        else
        let t := s.applyStep p
        (t.selectorStep (t.tick - s.tick)).outputsStep ((t.cal.count : Int) - s.cal.count)
      else s)
  | none => .next s

/-! ### DORMANT (R252) -/

/-- Before DORMANT the firmware commits yho as it stands then, where it owns the increment; E and the instant are kept. -/
def State.selectorSleep (s : State) : State :=
  let t := if s.ownsIncr (.sc 6) then s.steer s.yho else s
  { t with sel := { t.sel with e0 := s.errorEstimate, since := s.tick } }

/-- On return E0 is E at entry with the FU term of the floors over the time away; the selector resumes in HOLD. -/
def State.selectorWake (s : State) : State :=
  let t : Rat := ((s.tick - s.sel.since : Int) : Rat) / (tickSec : Rat)
  let e := s.sel.e0 + ((s.rd Reg.SEL_HOFLOOR_FU).toNat : Rat) / (10 ^ 6 : Nat) * t
  { s with sel := { s.sel with e0 := e, since := s.tick } }

/-! ### The registers of the block (R256) -/

/-- The range checks of SEL registers. -/
def selRangeOk (off : Nat) (v : Word) : Bool :=
  let inRange (lo n a b : Nat) := decide (a ≤ bitsAt v lo n) && decide (bitsAt v lo n ≤ b)
  if off = Reg.SEL_QUAL then inRange 24 8 1 60 && inRange 14 10 1 600 && inRange 0 14 10 16383
  else if off = Reg.SEL_FLIM then decide (1 ≤ v.toNat) && decide (v.toNat ≤ 1000000000)
  else if off = Reg.SEL_DIS then inRange 14 18 10 10000 && inRange 0 14 1 16383
  else if off = Reg.SEL_LOOP then inRange 18 14 1 10000 && inRange 0 16 1 10000
  else if off = Reg.SEL_HO then inRange 15 17 100 100000 && inRange 0 10 1 600
  else if off = Reg.SEL_HOCTL then inRange 24 6 1 63 && inRange 16 8 1 60 && inRange 8 8 1 168
  else true

/-- The rate that a CFG value gives slot n (R219, R236). -/
def cfgRate (n : Nat) (v : Word) : Nat := if 1 ≤ n ∧ n ≤ 4 then 2 ^ bitsAt v 0 4 else if n = 13 then 1024 else 1

/-- The checks of a write to SEL_SLOTn_CFG (R236, R256). -/
def cfgOk (n : Nat) (v : Word) : Bool :=
  let bw := bitsAt v 4 4
  decide (bitsAt v 16 12 ≤ 3600) && decide (bw ≤ 12) &&
    decide (10 * bandwidths.getD bw 0 ≤ 1000 * cfgRate n v) &&
    (!(decide (1 ≤ n) && decide (n ≤ 4)) ||
      ((bitsAt v 8 2 == 1 || bitsAt v 8 2 == 2) && decide (bitsAt v 0 4 ≤ 14)))

/-- A channel as firmware configures it for a reference: enabled, rising edges (channel 17 both, as R492 reads widths),
free-running on device time. -/
def State.refEnable (s : State) (n : Nat) : State :=
  (s.wr (Reg.GRV_CH_CTL n) (if n = 17 then 0xA0000000#32 else 0x80000000#32)).grvArm n

/-- Firmware sets the divider of the slot's REFIN channel and enables it, or finds no whole divider (R340). -/
def State.refDivider (s : State) (n : Nat) : State :=
  if s.usesRefin n = false ∨ s.flag (Reg.GRV_CH_CTL (11 + n)) 30 then s
  else if s.refDivides n then
    (s.wr (Reg.GRV_CH_DIV (11 + n)) (BitVec.ofNat 32 ((s.rd (Reg.GRV_REFNOM (n - 1))).toNat / s.slotRate n))).refEnable (11 + n)
  else s.error Reg.GRV_ERR 4 120

/-- Firmware's configuration of one of channels 8 to 17 from the slot settings (R336, R339). -/
def State.refChannel (s : State) (n : Nat) : State :=
  if s.firmwareRuns = false then s
  else if 12 ≤ n ∧ n ≤ 15 then s.refDivider (n - 11)
  else s.refEnable n

/-- A write of SEL_SLOTn_CFG; RANK enables and disables the slot (R226). -/
def State.writeSlotCfg (s : State) (n : Nat) (v : Word) : State :=
  if cfgOk n v = false then s.selError seParam n
  else
    let old := s.rank n
    let kind := s.fld (Reg.SEL_SLOT_CFG n) 8 2
    let t := (s.plainWrite (Reg.SEL_SLOT_CFG n) v).refDivider n
    let t := if t.fld (Reg.SEL_SLOT_CFG n) 8 2 = kind then t else t.restartSlot n
    let t := if t.rank n = 0 ∧ old ≠ 0 then (t.moveSlot n slDisabled 0).setFlag (Reg.SEL_SLOT_STAT n) 20 false
      else if t.rank n ≠ 0 ∧ old = 0 then
        ((t.setSlot n { t.slot n with seen := none, changed := false, marked := none }).moveSlot n slNoSignal 0)
      else t
    if t.selFirmware then (((t.classifySlot n).examine).evaluate).settle else t

/-- A write to a register of the SEL block that completes normally. -/
def State.selWrite (s : State) (off : Nat) (v : Word) : State :=
  if off = Reg.SEL_CMD then s.writeSelCmd v
  else if 0x300100 ≤ off ∧ off < 0x300500 ∧ off % 0x40 = 0 then s.writeSlotCfg ((off - 0x300100) / 0x40) v
  else if off = Reg.SEL_INJ_CTL 0 then s.writeInject 0 v
  else if off = Reg.SEL_INJ_CTL 1 then s.writeInject 1 v
  else if selRangeOk off v = false then s.selError seParam
  else
    let t := s.plainWrite off v
    if (off = Reg.SEL_CTRL ∨ off = Reg.SEL_DIS) ∧ t.selFirmware then ((t.examine).evaluate).settle else t

/-- A 64-bit value latched into a register and the one after it. -/
def State.latch64 (s : State) (off : Nat) (v : Int) : State :=
  let u := unsigned 64 v
  (s.wr off (BitVec.ofNat 32 u)).wr (off + 4) (BitVec.ofNat 32 (u / 2 ^ 32))

/-- A read of a register of the SEL block that completes normally: E, x and TIMER are as of now, and a read of a low word
latches the high word. -/
def State.selRead (s : State) (off : Nat) : Word × State :=
  if off = Reg.SEL_EST then
    (BitVec.ofNat 32 (min (2 ^ 32 - 1) (openRound (s.errorEstimate * 1000)).toNat), s)
  else if off = Reg.SEL_RESID_L then (s.latch64 off s.sel.resid).plainRead off
  else if 0x300100 ≤ off ∧ off < 0x300500 ∧ off % 0x40 = 0x0C then
    let n := (off - 0x300100) / 0x40
    (s.latch64 off (s.reduced n (s.slot n).x)).plainRead off
  else if 0x300100 ≤ off ∧ off < 0x300500 ∧ off % 0x40 = 0x08 then
    let n := (off - 0x300100) / 0x40
    let t := if s.slotState n = slQualifying ∨ s.slotState n = slWtr then min 4095 (s.slotTimer n) else 0
    (putBits (s.rd off) 0 12 t, s)
  else s.plainRead off

end Sys2Proof.Machine
end

