-- ==== Sys2Proof/Machine/Drypoint.lean ====
section
/-!
DEFINITION. Drypoint (chapter 09): placed edges, pulse and clock outputs, the TODOUT message, GNSS_PPS and CKMON.
-/
namespace Sys2Proof.Machine

def State.pps (s : State) (n : Nat) : PpsState := (s.dry.pps.find? (·.1 == n)).elim PpsState.reset (·.2)
def State.setPps (s : State) (n : Nat) (v : PpsState) : State :=
  { s with dry := { s.dry with pps := sparseSet (fun _ => PpsState.reset) s.dry.pps n v } }
def State.clk (s : State) (n : Nat) : ClkState := (s.dry.clk.find? (·.1 == n)).elim ClkState.reset (·.2)
def State.setClk (s : State) (n : Nat) (v : ClkState) : State :=
  { s with dry := { s.dry with clk := sparseSet (fun _ => ClkState.reset) s.dry.clk n v } }

/-- DRY_ERR bits, source 126 (R271). -/
def State.dryError (s : State) (bit : Nat) : State := s.error Reg.DRY_ERR bit 126

/-- An output starts or stops: its DRY_STATUS bit, and source 127 with its number, the number of that bit (R271, log
entry 23). -/
def State.outRun (s : State) (k : Nat) (b : Bool) : State :=
  if s.flag Reg.DRY_STATUS k = b then s
  else (s.setFlag Reg.DRY_STATUS k b).raise 127 (BitVec.ofNat 32 k)

/-! ### Placement (R257) -/

/-- The count that the replica will hold k edges from now at the increment in effect. -/
def State.predict (s : State) (k : Nat) : Nat :=
  let p := s.replica replicaDrypoint
  p.count + k * s.incrUnits + (p.acc + k * s.dither) / 2 ^ 16

/-- The nearest whole number; a tie goes either way (log entry 8). -/
def openNearest (q : Rat) : Int :=
  let f := q.floor
  let r := q - (f : Rat)
  if r < 1 / 2 then f else if 1 / 2 < r then f + 1 else f + (if Config.roundsUp f then 1 else 0)

/-- The edge command for a target: the count at its tick, the PLL_F cycle count and the phase code. -/
def State.placeEdge (s : State) (target : Rat) : Nat × Nat × Nat :=
  let c := s.predict 128
  let n := (openNearest ((target - (c : Rat)) * 128 / (2 ^ 32 : Nat))).toNat
  if n = 160 then (s.predict 129, 0, 0) else (c, n / 64, n % 64)

/-- A target that belongs to the tick 128 ahead: at or after its predicted device time, and before the next. -/
def State.atLead (s : State) (target : Rat) : Bool :=
  decide ((s.predict 128 : Rat) ≤ target) && decide (target < (s.predict 129 : Rat))

/-- DELAY in units of 2^-32 ns. -/
def delayUnits (v : Word) : Int := v.toInt * 2 ^ 25

/-! ### What may run (R265, R266) -/

/-- The outputs' state by mode: whether they run, and whether squelch applies. -/
def State.outMode (s : State) : Bool × Bool :=
  let m := s.mode
  if m = modeAcquire then (s.flag Reg.CAL_STATUS 17, true)
  else if m = modeLocked ∨ m = modeHoldover ∨ m = modeFreerun then (true, true)
  else if m = modeStandby then (!s.flag Reg.DRY_CTRL 0, true)
  else if m = modeMeasure then (true, false)
  else (false, false)

/-- A placed output may run: PD_TDC is on, PLL_F is not in LOSS, and the mode lets it. -/
def State.outRuns (s : State) : Bool := s.pdUp PD_TDC && !s.flag Reg.DRY_STATUS 16 && s.outMode.1

/-- QLEVEL exceeds SQ of this CTL where squelch applies (R265). -/
def State.squelched (s : State) (ctl : Word) : Bool :=
  s.outMode.2 && bitsAt ctl 28 2 != 3 && decide (bitsAt ctl 28 2 < s.fld Reg.SEL_STATUS 16 2)

/-- An output with this CTL may run. -/
def State.outAllowed (s : State) (ctl : Word) : Bool := s.outRuns && !s.squelched ctl

/-- The modes in which the outputs float (R266); elsewhere an output that does not run is quiet. -/
def State.modeFloats (s : State) : Bool := decide (s.mode ≤ modeBoot) || s.mode == modeDormant

/-- TODOUT runs (R266). -/
def State.todAllowed (s : State) : Bool :=
  let src := s.flag Reg.DRY_STATUS (s.fld Reg.DRY_TOD_CTL 28 2)
  let m := s.mode
  s.flag Reg.DRY_TOD_CTL 31 && s.pdUp PD_TDC && !s.flag Reg.DRY_STATUS 16 &&
    (if m = modeAcquire ∨ m = modeStandby then src
     else m == modeLocked || m == modeHoldover || m == modeFreerun || m == modeMeasure)

/-- GNSS_PPS runs (R266, R269). -/
def State.gppsAllowed (s : State) : Bool :=
  s.flag Reg.DRY_GPPS_CTL 31 && s.pdUp PD_TDC && s.pdUp PD_GNSS_TRK && s.flag Reg.GNS_NAV_STAT 31 &&
    decide (modeAcquire ≤ s.mode) && decide (s.mode ≤ modeMeasure) && s.mode != modeDormant

/-- A pulse output that no longer may run stops once no pulse of it is in progress or commanded (R266). -/
def State.quietPps (s : State) (n : Nat) : State :=
  if s.outRuns = false ∧ (s.pps n).high = none ∧ (s.pps n).sent = none then s.outRun n false else s

/-- The run bits brought up to date. -/
def State.dryRefresh (s : State) : State :=
  (((List.range 4).foldl State.quietPps s).outRun 8 s.todAllowed).outRun 9 s.gppsAllowed

/-! ### Pulse outputs (R260 to R262) -/

/-- The edge command for the next pulse of PPSOUTn, taken from the shadow: a multiple of NSEC after the last label whose
target belongs to the tick 128 ahead. -/
def State.schedulePps (s : State) (n : Nat) : State :=
  let p := s.pps n
  let ctl := s.rd (Reg.DRY_PPS_CTL n)
  let d := delayUnits (s.rd (Reg.DRY_PPS_DELAY n))
  let sec : Int := (((s.predict 128 : Int) + d + (secUnits - 1)) / secUnits)
  let target : Int := sec * secUnits - d
  let fresh : Bool := match p.label with | some l => decide ((l : Int) < sec) | none => true
  if p.armed ∧ bitAt ctl 31 ∧ p.sent = none ∧ 0 ≤ sec ∧ fresh ∧ sec % (bitsAt ctl 22 6 : Int) = 0 ∧
      s.atLead (target : Rat) ∧ s.outAllowed ctl then
    let (edge, cycle, phase) := s.placeEdge (target : Rat)
    s.setPps n { p with sent := some ⟨sec.toNat, edge, cycle, phase, ctl, s.rd (Reg.DRY_PPS_WIDTH n)⟩ }
  else if p.sent = none ∧ p.high = none ∧ s.outAllowed ctl = false then s.outRun n false
  else s

/-- PPS_PULSE (R260, R261): the edge of the command sent, or a skip. -/
def State.pulse (s : State) (n : Nat) : State :=
  let p := s.pps n
  match p.sent with
  | none => s
  | some c =>
    let near : Bool := match p.high, p.fell with
      | some _, _ => true
      | none, some f => decide (c.edge - f < 1000 * 2 ^ 32)
      | none, none => false
    if near then
      ((s.setPps n { p with sent := none }).bump (Reg.DRY_PPS_SKIP n) 0 32).dryError 1
    else
      let ticks := (openDiv (bitsAt c.width 0 30 * 2 ^ 48) (s.incrUnits * 2 ^ 16 + s.dither)).toNat
      let t := s.setPps n { p with sent := none, label := some c.label, ctl := c.ctl, high := some ticks }
      let t := (t.wr (Reg.DRY_PPS_LAST n) (BitVec.ofNat 32 c.label)).outRun n true
      if s.fld Reg.DRY_TOD_CTL 28 2 = n then
        { t with dry := { t.dry with todPulse := some (c.label, c.edge, false) } }
      else t

def execPpsPulse (n : Fin 4) (s : State) : Host.Outcome State Fault Refusal := .next (s.pulse n.val).dryRefresh

/-- PPS_PULSE_END (R260): the width has been counted; a stop that waited completes, and a pending enable starts anew
(R262). -/
def execPpsPulseEnd (n : Fin 4) (s : State) : Host.Outcome State Fault Refusal :=
  let p := s.pps n.val
  .next (match p.high with
    | none => s
    | some _ =>
      let t := s.setPps n.val { p with
        high := none, fell := some ((s.replica replicaDrypoint).count : Int), armed := p.armed || p.again, again := false
        ctl := if p.again then s.rd (Reg.DRY_PPS_CTL n.val) else p.ctl }
      if p.armed then t.dryRefresh else (t.outRun n.val false).dryRefresh)

/-! ### Clock outputs (R263, R264) -/

/-- The half-period edge j of a clock at freq with a delay: its time in units of 2^-32 ns. -/
def clkEdge (freq : Nat) (delay : Word) (j : Int) : Rat :=
  ((j * (secUnits : Int) : Int) : Rat) / (2 * freq : Nat) - (delayUnits delay : Rat)

/-- The first half-period edge at or after a count. -/
def clkIndex (freq : Nat) (delay : Word) (c : Nat) : Int :=
  -((-(((c : Int) + delayUnits delay) * (2 * freq : Nat))) / (secUnits : Int))

/-- Half a period at freq, in units of 2^-32 ns. -/
def halfPeriod (freq : Nat) : Rat := (secUnits : Rat) / (2 * freq : Nat)

/-- An edge of CLKOUTn placed, at least the half period of the level that it ends after the edge before; a level that a
step or an edge left out has lengthened is counted (R264). A clock that is to stop does so after a falling edge. -/
def State.clkPlace (s : State) (n : Nat) (c : ClkState) (half target : Rat) (rising : Bool) : State :=
  if c.level != rising && decide (half ≤ target - c.last) then
    let t := s.setClk n { c with level := rising, last := target, held := false, sent := some (s.placeEdge target) }
    let t := if c.held && decide (half < target - c.last) then t.bump (Reg.DRY_CLK_STRETCH n) 0 32 else t
    if rising then t.outRun (4 + n) true
    else if c.armed = false ∨ c.quiet = true ∨ s.outRuns = false then
      (t.setClk n { t.clk n with
        armed := c.armed || c.again, again := false
        ctl := if c.again then s.rd (Reg.DRY_CLK_CTL n) else c.ctl }).outRun (4 + n) false
    else t
  else s.setClk n { c with held := true }

/-- The edge command for CLKOUTn: the shadow applies at a whole-second anchor, whose edge ends a level of the old rate; a
running clock keeps its registers, and QLEVEL is looked at as each rising edge is computed (R263, R265). -/
def State.scheduleClk (s : State) (n : Nat) : State :=
  let c := s.clk n
  let ctl := s.rd (Reg.DRY_CLK_CTL n)
  let freq := s.fld (Reg.DRY_CLK_FREQ n) 0 29
  let delay := s.rd (Reg.DRY_CLK_DELAY n)
  let j := clkIndex freq delay (s.predict 128)
  let runs := s.flag Reg.DRY_STATUS (4 + n)
  if c.armed ∧ s.outAllowed ctl ∧ j % (2 * freq : Nat) = 0 ∧ s.atLead (clkEdge freq delay j) then
    let half := halfPeriod (if runs then c.freq else freq)
    let c := if runs then c else { c with level := false, last := clkEdge freq delay (j - 1), held := false }
    s.clkPlace n { c with ctl := ctl, freq := freq, delay := delay, quiet := false } half (clkEdge freq delay j) true
  else if runs then
    let i := clkIndex c.freq c.delay (s.predict 128)
    let rising := i % 2 == 0
    if s.atLead (clkEdge c.freq c.delay i) then
      s.clkPlace n { c with quiet := if rising then s.squelched c.ctl else c.quiet } (halfPeriod c.freq)
        (clkEdge c.freq c.delay i) rising
    else s
  else s

/-- EDGE_COMMAND (R257). -/
def execEdgeCommand (o : PlacedOut) (s : State) : Host.Outcome State Fault Refusal :=
  .next (match o with
    | .pps n => (s.schedulePps n.val).dryRefresh
    | .clk n => (s.scheduleClk n.val).dryRefresh)

/-- Every placed output at once at its inactive level: PD_TDC turned off, or PLL_F LOSS (R266). A pulse or a high level
cut short falls now. -/
def State.dropOutputs (s : State) : State :=
  let now := (s.replica replicaDrypoint).count
  let t : State := { s with dry := { s.dry with
    pps := s.dry.pps.map fun e => (e.1, { e.2 with
      sent := none, high := none, fell := if e.2.high.isSome then some (now : Int) else e.2.fell
      armed := e.2.armed || e.2.again, again := false
      ctl := if e.2.again then s.rd (Reg.DRY_PPS_CTL e.1) else e.2.ctl })
    clk := s.dry.clk.map fun e => (e.1, { e.2 with
      level := false, last := if e.2.level then (now : Rat) else e.2.last, held := false
      armed := e.2.armed || e.2.again, again := false
      ctl := if e.2.again then s.rd (Reg.DRY_CLK_CTL e.1) else e.2.ctl })
    todPulse := none, sending := none, gpps := none } }
  ((List.range 8).foldl (fun u k => u.outRun k false) t).dryRefresh

/-! ### Configuration writes (R262, R271) -/

/-- The range checks of the DRY registers (R271). -/
def dryRangeOk (off : Nat) (v : Word) : Bool :=
  let inRange (lo n a b : Nat) := decide (a ≤ bitsAt v lo n) && decide (bitsAt v lo n ≤ b)
  if 0x400100 ≤ off ∧ off < 0x400180 then
    if off % 0x20 = 0 then inRange 22 6 1 60
    else if off % 0x20 = 4 then inRange 0 30 1000 900000000
    else if off % 0x20 = 8 then decide (v.toInt.natAbs ≤ 1280000000)
    else true
  else if 0x400200 ≤ off ∧ off < 0x400280 then
    if off % 0x20 = 4 then inRange 0 29 1 312500000
    else if off % 0x20 = 8 then decide (v.toInt.natAbs ≤ 1280000000)
    else true
  else if off = Reg.DRY_TOD_CTL then inRange 0 9 1 500
  else if off = Reg.DRY_GPPS_CTL then inRange 0 9 1 500
  else true

/-- EN of PPSOUTn changes: a stop waits for a pulse in progress, and an enable waits for the stop (R262). -/
def State.enablePps (s : State) (n : Nat) (old new : Bool) : State :=
  let p := s.pps n
  if new && !old then
    if p.high.isSome && !p.armed then s.setPps n { p with again := true }
    else s.setPps n { p with armed := true, ctl := s.rd (Reg.DRY_PPS_CTL n) }
  else if old && !new then
    if p.high.isSome then s.setPps n { p with armed := false, again := false }
    else (s.setPps n { p with armed := false, again := false }).outRun n false
  else s

/-- EN of CLKOUTn changes (R262). -/
def State.enableClk (s : State) (n : Nat) (old new : Bool) : State :=
  let c := s.clk n
  let runs := s.flag Reg.DRY_STATUS (4 + n)
  if new && !old then
    if runs && !c.armed then s.setClk n { c with again := true }
    else s.setClk n { c with armed := true, ctl := s.rd (Reg.DRY_CLK_CTL n) }
  else if old && !new then
    if runs && c.level then s.setClk n { c with armed := false, again := false }
    else (s.setClk n { c with armed := false, again := false }).outRun (4 + n) false
  else s

/-! ### CKMON (R270) -/

/-- The highest frequency of a CKMON source in Hz. -/
def ckmonHighest (sel : Nat) : Option Nat :=
  if sel < 8 then
    [50000000, 800000000, 2000000000, 1600000000, 1200000000, 1000000000, 327360000, 81840000][sel]?
  else if sel ≤ 0xC then some 1000000000
  else if sel = 0xD then some 644531250
  else if sel ≤ 0xF then none
  else some 1000000000

/-- A write of DRY_CKMON: refused above 400 MHz and for the sources that the table refuses. -/
def State.writeCkmon (s : State) (v : Word) : State :=
  match ckmonHighest (bitsAt v 16 5) with
  | some f => if 400000000 * (bitsAt v 0 16 + 1) < f then s.dryError 0 else s.plainWrite Reg.DRY_CKMON v
  | none => s.dryError 0

/-- CKMON_WRITE (R270). -/
def execCkmonWrite (ag : Agent) (v : Word) (s : State) : Host.Outcome State Fault Refusal :=
  .next (s.writeAccess ag Reg.DRY_CKMON v fun t => t.writeCkmon v)

/-- Whether a CKMON source runs: its domain is on and its PLL is READY; LO and the sample clock have none. -/
def State.ckmonRuns (s : State) (sel : Nat) : Bool :=
  let pll (p : Nat) := s.flag Reg.CPM_PLL p
  match sel with
  | 0x0 => !s.cpm.lost.contains 0
  | 0x1 => pll 2
  | 0x2 => s.pdUp PD_TDC && pll 3
  | 0x3 => pll 0 && (List.range 8).any fun k => s.pdUp (PD_ARRAY k)
  | 0x4 => s.pdUp PD_CRYPTO && pll 1
  | 0x5 => s.pdUp PD_FABRIC && pll 5
  | 0x6 => s.pdUp PD_GNSS_TRK && pll 4
  | 0x7 => s.flag Reg.GNS_STATUS 1
  | 0xC => s.pdUp PD_PCIE && pll 10
  | 0xD => s.pdUp PD_PAIR && pll 11
  | _ =>
    let q := if sel < 0x10 then sel - 8 else (sel - 0x10) / 4
    s.pdUp (PD_SERDES q) && pll (6 + q)

/-- A divided clock: its period and its high time in half source cycles (R270). -/
def ckmonWave (div : Nat) : Nat × Nat :=
  (2 * (div + 1), if div = 0 ∨ (div + 1) % 2 = 0 then div + 1 else 2 * ((div + 2) / 2))

/-- What CKMON gives while it runs: the source, and the wave of `ckmonWave`; none while it is low or floats. -/
def State.ckmonOut (s : State) : Option (Nat × Nat × Nat) :=
  let sel := s.fld Reg.DRY_CKMON 16 5
  if s.pdUp PD_TDC && !s.modeFloats && s.flag Reg.DRY_CKMON 31 && s.ckmonRuns sel then
    some (sel, ckmonWave (s.fld Reg.DRY_CKMON 0 16))
  else none

/-- A write to a register of the DRY block that completes normally. -/
def State.dryWrite (s : State) (off : Nat) (v : Word) : State :=
  if off = Reg.DRY_CKMON then s.writeCkmon v
  else if dryRangeOk off v = false then s.dryError 0
  else
    let t := s.plainWrite off v
    let t := if 0x400100 ≤ off ∧ off < 0x400180 ∧ off % 0x20 = 0 then
        t.enablePps ((off - 0x400100) / 0x20) (s.flag off 31) (bitAt v 31)
      else if 0x400200 ≤ off ∧ off < 0x400280 ∧ off % 0x20 = 0 then
        t.enableClk ((off - 0x400200) / 0x20) (s.flag off 31) (bitAt v 31)
      else t
    t.dryRefresh

/-- A read of a register of the DRY block that completes normally. -/
def State.dryRead (s : State) (off : Nat) : Word × State := s.plainRead off

/-- OUTPUT_CTL_WRITE (R262): a write to a register of a pulse or clock output. -/
def execOutputCtlWrite (ag : Agent) (off : Nat) (v : Word) (s : State) : Host.Outcome State Fault Refusal :=
  .next (if 0x400100 ≤ off ∧ off < 0x400280 then s.writeAccess ag off v fun t => t.dryWrite off v else s)

/-! ### TODOUT (R267, R268) -/

/-- CRC-16/CCITT-FALSE (R268). -/
def crc16Byte (crc : Nat) (b : Byte) : Nat :=
  (List.range 8).foldl (fun c _ => if c.testBit 15 then ((c * 2) % 65536) ^^^ 0x1021 else (c * 2) % 65536)
    (crc ^^^ (b.toNat * 256))
def crc16 (bs : List Byte) : Nat := bs.foldl crc16Byte 0xFFFF

/-- clockClass for QLEVEL under R168, by the PROFILE and CAT of the parameter block. -/
def State.clockClass (s : State) : Nat :=
  let q := s.fld Reg.SEL_STATUS 16 2
  if q = 0 then 6 else if q = 1 then 7
  else if q = 2 then (if memRead s.gys.pool 0xCB = 0 then 52 else (memRead s.gys.pool 0xD8).toNat)
  else 248

/-- The message for the pulse labelled sec (R268). -/
def State.todMessage (s : State) (sec : Nat) : List Byte :=
  let b (v : Nat) : Byte := BitVec.ofNat 8 v
  let body : List Byte :=
    [0x4E, 0x54, 0x01, 32] ++ (beBytes 6 sec ++ (beBytes 2 (unsigned 16 (s.cal.utc.offsetAt sec)) ++
    ([b (s.fld Reg.CAL_UTC_STATUS 16 2 + 4 * s.fld Reg.CAL_UTC_STATUS 19 1 + 8 * s.fld Reg.CAL_UTC_STATUS 18 1),
      b s.mode, b (s.fld Reg.SEL_STATUS 16 2), b s.clockClass,
      b (s.fld Reg.SEL_STATUS 0 4 + 128 * s.fld Reg.SEL_STATUS 4 1), b s.dstate] ++
    (beBytes 4 ((s.selRead Reg.SEL_EST).1.toNat / 1000) ++
    (beBytes 2 s.dry.seq ++ List.replicate 6 0)))))
  body ++ beBytes 2 (crc16 body)

/-- The words of a byte list, four bytes each, least significant first. -/
def wordsOfBytes : List Byte → List Word
  | a :: b :: c :: d :: bs => BitVec.ofNat 32 (ofLeBytes [a, b, c, d]) :: wordsOfBytes bs
  | _ => []

/-- TOD_MESSAGE_WRITE (R267): firmware writes the message for the pulse that has gone out, and READY. -/
def execTodMessageWrite (s : State) : Host.Outcome State Fault Refusal :=
  .next (match s.dry.todPulse with
    | some (sec, t, false) =>
      if s.firmwareRuns ∧ s.flag Reg.DRY_TOD_CTL 31 then
        let u := (s.wrWords (Reg.DRY_TOD_BUF 0) (wordsOfBytes (s.todMessage sec))).setFlag Reg.DRY_TOD_CTL 30 true
        { u with dry := { u.dry with todPulse := some (sec, t, true) } }
      else s
    | _ => s)

/-- The bytes in DRY_TOD_BUF0 to 7. -/
def State.todBuffer (s : State) : List Byte :=
  (List.range 8).flatMap fun i => leBytes 4 (s.rd (Reg.DRY_TOD_BUF i)).toNat

/-- The bits of bytes on the line, a start bit, the least significant bit first, and a stop bit each (R267). -/
def uartBits (bs : List Byte) : List Bool := bs.flatMap fun b => false :: ((List.range 8).map b.getLsbD ++ [true])

/-- The rates that BAUD selects. -/
def todBaud (code : Nat) : Nat := [9600, 19200, 38400, 57600, 115200, 230400, 460800, 921600].getD code 9600

/-- The bits of a message whose start has come at a count: bit k starts at the TCLK tick nearest to start + k × 10^9 / baud
ns (R267; of two as near, the later). -/
def TodMessage.begun (m : TodMessage) (count incr : Nat) : Int :=
  (2 * ((count : Int) - m.start) + incr) * m.baud / (2 * secUnits : Nat) + 1

/-- TOD_MESSAGE_START (R267): DELAYMS after the pulse the bytes are sent, or counted late. -/
def execTodMessageStart (s : State) : Host.Outcome State Fault Refusal :=
  .next (match s.dry.todPulse with
    | some (_, t, _) =>
      if s.todAllowed = false ∨
          (s.replica replicaDrypoint).count < t + s.fld Reg.DRY_TOD_CTL 0 9 * 1000000 * 2 ^ 32 then s.dryRefresh
      else
        let u := { s with dry := { s.dry with todPulse := none } }
        if s.flag Reg.DRY_TOD_CTL 30 then
          let m : TodMessage :=
            ⟨s.todBuffer, t + s.fld Reg.DRY_TOD_CTL 0 9 * 1000000 * 2 ^ 32, todBaud (s.fld Reg.DRY_TOD_CTL 24 3)⟩
          ({ u with dry := { u.dry with sending := some m } }).dryRefresh
        else ((u.bump Reg.DRY_TOD_LATE 0 32).dryError 2).dryRefresh
    | none => s.dryRefresh)

/-- TOD_MESSAGE_END (R267): the last stop bit ends. -/
def execTodMessageEnd (s : State) : Host.Outcome State Fault Refusal :=
  .next (match s.dry.sending with
    | some m =>
      if m.begun (s.replica replicaDrypoint).count s.incrUnits ≤ (uartBits m.bytes).length then s
      else
        let t := (s.setFlag Reg.DRY_TOD_CTL 30 false).bump Reg.DRY_TOD_SENT 0 32
        { t with dry := { t.dry with sending := none, seq := (t.dry.seq + 1) % 65536, line := t.dry.line ++ [m.bytes] } }
    | none => s)

/-! ### The balls (R260, R266, R267, R269) -/

/-- What the driver of an output ball does. -/
inductive Drive where
  | float
  | low
  | high
  deriving DecidableEq, Repr

/-- A ball driven active or inactive, under POL. -/
def drive (active pol : Bool) : Drive := if active != pol then .high else .low

/-- A ball that floats with PD_TDC off, is driven while its output runs, and else floats or is inactive by the mode. -/
def State.ball (s : State) (runs active pol : Bool) : Drive :=
  if s.isolated PD_TDC then .float
  else if runs then drive active pol
  else if s.modeFloats then .float
  else drive false pol

/-- PPSOUTn: POL of an output that is enabled, or still in a pulse, is that in effect; else its register's. -/
def State.ppsBall (s : State) (n : Nat) : Drive :=
  let p := s.pps n
  let ctl := if p.armed || p.high.isSome then p.ctl else s.rd (Reg.DRY_PPS_CTL n)
  s.ball (s.flag Reg.DRY_STATUS n) p.high.isSome (bitAt ctl 30)

/-- CLKOUTn. -/
def State.clkBall (s : State) (n : Nat) : Drive :=
  let c := s.clk n
  let runs := s.flag Reg.DRY_STATUS (4 + n)
  s.ball runs c.level (bitAt (if c.armed || runs then c.ctl else s.rd (Reg.DRY_CLK_CTL n)) 30)

/-- TODOUT: the bit under way, or mark. -/
def State.todBall (s : State) : Drive :=
  match s.dry.sending with
  | some m =>
    let k := m.begun (s.replica replicaDrypoint).count s.incrUnits - 1
    s.ball true (if k < 0 then true else (uartBits m.bytes).getD k.toNat true) false
  | none => s.ball s.todAllowed true (!s.todAllowed)

/-- GNSS_PPS: active for WIDTH ms from its edge, measured in device time (log entry 101). -/
def State.gppsBall (s : State) : Drive :=
  let active := match s.dry.gpps with
    | some (c, w) => decide ((s.replica replicaDrypoint).count < c + (w * 1000000 * 2 ^ 32 : Nat))
    | none => false
  s.ball (s.flag Reg.DRY_STATUS 9) active (s.flag Reg.DRY_GPPS_CTL 30)

end Sys2Proof.Machine
end

