-- ==== Sys2Proof/Machine/Clocks.lean ====
section
/-!
DEFINITION. The READY and LOSS bits of the PLLs (R409), which several chapters read and set.
-/
namespace Sys2Proof.Machine

/-- The PLL numbers of R408. -/
abbrev pllA : Nat := 0
abbrev pllC : Nat := 1
abbrev pllT : Nat := 2
abbrev pllF : Nat := 3
abbrev pllG : Nat := 4
abbrev pllH : Nat := 5
abbrev pllQuad (q : Nat) : Nat := 6 + q
abbrev pllPcie : Nat := 10
abbrev pllPair : Nat := 11
abbrev pllSclk : Nat := 12

/-- READY of a PLL. -/
def State.pllReady (s : State) (p : Nat) : Bool := s.flag Reg.CPM_PLL p

/-- A PLL stopped: neither READY nor LOSS (R408), so FLOSS clears with PLL_F (R271). -/
def State.pllStop (s : State) (p : Nat) : State :=
  let t := (s.setFlag Reg.CPM_PLL p false).setFlag Reg.CPM_PLL (16 + p) false
  if p = pllF then t.setFlag Reg.DRY_STATUS 16 false else t

/-- The bits and events of a PLL that enters LOSS (R409). -/
def State.pllLost (s : State) (p : Nat) : State :=
  if s.flag Reg.CPM_PLL (16 + p) then s
  else
    (((s.setFlag Reg.CPM_PLL p false).setFlag Reg.CPM_PLL (16 + p) true).setFlag Reg.CPM_STICKY 1 true).raise 208
      (BitVec.ofNat 32 p)

/-- The bits of a PLL that locks; source 209 where it relocks after a LOSS (R409). -/
def State.pllLocked (s : State) (p : Nat) : State :=
  let t := (s.setFlag Reg.CPM_PLL p true).setFlag Reg.CPM_PLL (16 + p) false
  if s.flag Reg.CPM_PLL (16 + p) then t.raise 209 (BitVec.ofNat 32 p) else t

end Sys2Proof.Machine
end

