-- ==== Sys2Proof/Machine/Gnss.lean ====
section
/-!
DEFINITION. The GNSS baseband (chapter 10): sample inputs, the sample clock, acquisition jobs, aiding and the test
generator. Samples reach the model as counts of their codes, correlator sums and peaks (log entry 24).
-/
namespace Sys2Proof.Machine

def State.channel (s : State) (c : Nat) : Channel := (s.gns.channels.find? (·.1 == c)).elim Channel.reset (·.2)
def State.setChannel (s : State) (c : Nat) (v : Channel) : State :=
  { s with gns := { s.gns with channels := sparseSet (fun _ => Channel.reset) s.gns.channels c v } }

/-- GNS_ERR bits, source 93; GNS_STICKY bits, sources 80 to 87 (R309). -/
def State.gnsError (s : State) (bit : Nat) : State := s.error Reg.GNS_ERR bit 93
def State.gnsSticky (s : State) (bit : Nat) : State := s.sticky Reg.GNS_STICKY Reg.GNS_STICKY_EN bit (80 + bit)

/-- The states of R295. -/
abbrev chIdle : Nat := 0
abbrev chSearch : Nat := 1
abbrev chPullin : Nat := 2
abbrev chFll : Nat := 3
abbrev chPll : Nat := 4
abbrev chSync : Nat := 5
abbrev chData : Nat := 6
abbrev chLost : Nat := 7
abbrev chBurst : Nat := 8

/-- A signal of R278: carrier in Hz (for GLONASS k = 0) and the step for each k, chip rate and half main lobe in kHz,
chips of the code and of one dump interval, whether the FFT engine acquires it, and the periods of the primary code in its
secondary code (log entry 24). -/
structure Signal where
  carrier : Nat
  step : Nat
  chipRate : Nat
  lobe : Nat
  code : Nat
  span : Nat
  fft : Bool
  secondary : Nat
  deriving DecidableEq, Repr

/-- The table under R278; the main lobe of BOC(1,1) reaches twice its chip rate (log entry 24). -/
def signals : List Signal :=
  [ ⟨1575420000, 0, 1023, 1023, 1023, 1023, true, 1⟩, ⟨1575420000, 0, 1023, 2046, 10230, 1023, false, 1800⟩,
    ⟨1227600000, 0, 1023, 1023, 767250, 1023, false, 2⟩, ⟨1176450000, 0, 10230, 10230, 10230, 10230, true, 20⟩,
    ⟨1575420000, 0, 1023, 2046, 4092, 1023, true, 25⟩, ⟨1176450000, 0, 10230, 10230, 10230, 10230, true, 100⟩,
    ⟨1207140000, 0, 10230, 10230, 10230, 10230, true, 100⟩, ⟨1561098000, 0, 2046, 2046, 2046, 2046, true, 20⟩,
    ⟨1575420000, 0, 1023, 2046, 10230, 1023, false, 1800⟩, ⟨1176450000, 0, 10230, 10230, 10230, 10230, true, 100⟩ ]
  ++ [ ⟨1268520000, 0, 10230, 10230, 10230, 10230, true, 20⟩, ⟨1602000000, 562500, 511, 511, 511, 511, true, 20⟩,
    ⟨1246000000, 437500, 511, 511, 511, 511, true, 20⟩, ⟨1575420000, 0, 1023, 1023, 1023, 1023, true, 1⟩,
    ⟨1575420000, 0, 1023, 2046, 10230, 1023, false, 1800⟩, ⟨1227600000, 0, 1023, 1023, 767250, 1023, false, 2⟩,
    ⟨1176450000, 0, 10230, 10230, 10230, 10230, true, 20⟩, ⟨1176450000, 0, 1023, 1023, 1023, 1023, true, 1⟩,
    ⟨1575420000, 0, 1023, 1023, 1023, 1023, true, 1⟩ ]

/-- A signal by its ID. -/
def signalOf (sig : Nat) : Signal := signals.getD sig ⟨0, 0, 0, 0, 1, 1, false, 1⟩

/-- An SV that the table under R278 knows: a GLONASS k runs from −7 to +6, named as 64 + k + 7. -/
def Signal.svOk (g : Signal) (sv : Nat) : Bool :=
  if g.step = 0 then decide (0 < sv) else decide (64 ≤ sv) && decide (sv ≤ 77)

/-- The source signal of a handover (R278). -/
def handoverFrom (sig : Nat) : Option Nat :=
  if sig = 1 ∨ sig = 2 then some 0 else if sig = 8 then some 7 else if sig = 14 ∨ sig = 15 then some 13 else none

/-- The carrier of a signal and SV; a GLONASS channel that is not decoded names k as 64 + k + 7. -/
def Signal.carrierOf (g : Signal) (sv : Nat) : Int := (g.carrier : Int) + ((sv : Int) - 71) * g.step

/-- The input, profile, cap and enable of a signal. -/
def State.sigInput (s : State) (g : Nat) : Nat := s.fld (Reg.GNS_SIG g) 29 2
def State.sigEnabled (s : State) (g : Nat) : Bool := s.flag (Reg.GNS_SIG g) 31
def State.sinEnabled (s : State) (i : Nat) : Bool := s.flag (Reg.GNS_SIN_CTL i) 31
def State.sinTest (s : State) (i : Nat) : Bool := s.fld (Reg.GNS_SIN_CTL i) 29 2 == 1 && s.flag Reg.GNS_TPG_CTL 31

/-- The channels that are not IDLE, of a signal or on an input. -/
def State.sigChannels (s : State) (g : Nat) : List Nat :=
  (s.gns.channels.filter fun e => e.2.state != chIdle && e.2.sig == g).map (·.1)
def State.inputChannels (s : State) (i : Nat) : List Nat :=
  (s.gns.channels.filter fun e => e.2.state != chIdle && s.sigInput e.2.sig == i).map (·.1)

/-- The sample clock is present; the modes in which the baseband runs, and whether it does (R275, R305). -/
def State.sclkOk (s : State) : Bool := s.flag Reg.GNS_STATUS 1
def State.gnsMode (s : State) : Bool := decide (modeStaged ≤ s.mode) && s.mode != modeDormant
def State.gnsClocked (s : State) : Bool := s.sclkOk && s.pdUp PD_GNSS_TRK && s.gnsMode
def State.gnsRuns (s : State) : Bool := s.flag Reg.GNS_CTRL 0 && s.gnsClocked

/-- RUN, TPG_ACTIVE and NTRACK brought up to date. -/
def State.gnsRefresh (s : State) : State :=
  let n := (s.gns.channels.filter fun e => decide (chPll ≤ e.2.state) && decide (e.2.state ≤ chData)).length
  let t := s.setFlag Reg.GNS_STATUS 0 (s.flag Reg.GNS_CTRL 0 && s.sclkOk)
  let t := t.setFlag Reg.GNS_STATUS 4 ((List.range 4).any fun i => s.sinEnabled i && s.sinTest i)
  t.setFld Reg.GNS_STATUS 7 9 n

/-- GNS_CHc brought up to date. -/
def State.showChannel (s : State) (c : Nat) : State :=
  let v := s.channel c
  let test := v.state != chIdle && s.sinTest (s.sigInput v.sig)
  s.wr (Reg.GNS_CH c) (BitVec.ofNat 32
    (v.state * 2 ^ 28 + v.sig % 32 * 2 ^ 23 + (if v.slot = 0 then v.sv else v.slot) % 128 * 2 ^ 16 +
      (if v.state = chIdle then 0 else v.cn0 % 256) * 2 ^ 8 + c / 16 * 16 + ofBool test * 8))

/-- The recovery window of R298 after an elapsed count of 2^-32 ns: half chips, and Hz. -/
def recoveryWindow (elapsed : Nat) : Nat × Nat :=
  (min 20 (2 + elapsed / secUnits), min 500 (25 + 25 * elapsed / secUnits))

/-- A channel in a new state: what it measures there begins anew, and a search is fresh. -/
def Channel.enter (v : Channel) (st : Nat) (k : Search) : Channel :=
  { v with state := st, pli := [], good := 0, weak := 0, age := 0, search := k }

/-- The search with which a channel recovers (R298). -/
def Channel.recovery (v : Channel) (now : Nat) : Search :=
  let w := recoveryWindow (now - v.lostAt)
  { Search.reset with code := w.1, doppler := w.2, recovers := true }

/-- The vector test of a channel's engine runs, or waits to (R304). -/
def State.engineTests (s : State) (c : Nat) : Bool :=
  s.testRuns (unitEngine (c / 16)) 0 || s.rel.waiting.contains (unitEngine (c / 16), 0)

/-- A channel enters a state (R296): LOST is counted, and left at once while the sample clock runs and its engine is not in
its test; the first PLL since EN raises source 89; PLL on a test input raises 91. -/
def State.toChannelState (s : State) (c st : Nat) : State :=
  let v := s.channel c
  if st = v.state then s
  else if st = chIdle then ((s.setChannel c Channel.reset).showChannel c).gnsRefresh
  else if st = chLost then
    let t := (s.bump Reg.GNS_CNT_LOST 0 32).gnsSticky 1
    let v := { v with lostAt := s.cal.count }
    let w := if s.sclkOk && !s.engineTests c then v.enter chSearch (v.recovery s.cal.count) else v.enter chLost Search.reset
    ((t.setChannel c w).showChannel c).gnsRefresh
  else
    let t := ((s.setChannel c (v.enter st Search.reset)).showChannel c).gnsRefresh
    if st = chPll then
      let t := if s.gns.tracked then t else ({ t with gns := { t.gns with tracked := true } }).raise 89
      if s.sinTest (s.sigInput v.sig) then t.raise 91 else t
    else t

/-- Each channel of a list released at its next dump (R280). -/
def State.releaseChannels (s : State) (cs : List Nat) : State :=
  cs.foldl (fun t c => t.setChannel c { t.channel c with release := true }) s

/-! ### Sample clock and markers (R275, R276) -/

/-- A channel's phases after n samples, through the primary and the secondary code (R292). -/
def Channel.advance (v : Channel) (n : Nat) : Channel :=
  let g := signalOf v.sig
  let phase := v.codePhase + n * v.codeRate
  { v with
    carrierPhase := (((v.carrierPhase : Int) + n * v.carrier) % 2 ^ 40).toNat
    codePhase := phase % (g.code * 2 ^ 40)
    secondary := (v.secondary + phase / (g.code * 2 ^ 40)) % g.secondary }

/-- The samples of 81.84 MHz in an elapsed count of 2^-32 ns (R298). -/
def samplesIn (count : Nat) : Nat := (openDiv ((count * 8184 : Nat) : Int) (2 ^ 32 * 100000)).toNat

/-- The channels in FLL to DATA. -/
def State.trackingChannels (s : State) : List Nat :=
  (s.gns.channels.filter fun e => decide (chFll ≤ e.2.state) && decide (e.2.state ≤ chData)).map (·.1)

/-- The job gone, its results discarded (R275, R286); source 91 where the test generator fed it (R290). -/
def State.abandonJob (s : State) : State :=
  let test : Bool := match s.gns.job with | some (j, _) => s.sinTest j.input | none => false
  let t := ({ s with gns := { s.gns with job := none } }).setFlag Reg.GNS_STATUS 3 false
  if test then t.raise 91 else t

/-- A power-down asked for during a job: after the cell in progress the job is abandoned, and with MODE = AUTO queued
again (R286). -/
def State.yieldJob (s : State) : State :=
  match s.gns.job with
  | some (j, _) =>
    let mine := if s.fld Reg.GNS_ACQ_CFG 30 2 = 0 then j.svs.map fun v => (j.sig, v) else []
    let t := s.abandonJob
    { t with gns := { t.gns with wanted := t.gns.wanted.filter (!mine.contains ·) ++ mine } }
  | none => s

/-- Sample-clock loss: PLL_G reports LOSS, tracking channels enter LOST, a job is abandoned. -/
def State.sclkLost (s : State) : State :=
  let t := (s.setFlag Reg.GNS_STATUS 1 false).gnsSticky 0
  let t := (t.pllLost pllG).setFlag Reg.GNS_STATUS 2 false
  ((s.trackingChannels.foldl (fun u c => u.toChannelState c chLost) t).abandonJob).gnsRefresh

/-- A LOST channel resumes in SEARCH with its phases propagated over the device time that has passed (R298). -/
def State.resumeChannel (s : State) (c : Nat) : State :=
  let v := s.channel c
  if v.state ≠ chLost then s
  else
    let w := v.advance (samplesIn (s.cal.count - v.lostAt))
    (s.setChannel c ({ w with at_ := s.gns.scnt }.enter chSearch (v.recovery s.cal.count))).showChannel c

/-- The clock is restored: source 88, and every LOST channel resumes, but those of an engine in its test. -/
def State.sclkRestored (s : State) : State :=
  let t := (s.setFlag Reg.GNS_STATUS 1 true).raise 88
  let lost := (s.gns.channels.filter fun e => e.2.state == chLost && !s.engineTests e.1).map (·.1)
  (lost.foldl State.resumeChannel t).gnsRefresh

/-- SCLK_WINDOW (R275): a 10 us window with its count of edges. -/
def execSclkWindow (edges : Nat) (s : State) : Host.Outcome State Fault Refusal :=
  let bad := decide (edges < 810) || decide (827 < edges)
  let t := { s with gns := { s.gns with good := if bad then 0 else s.gns.good + 1 } }
  .next (if s.pdUp PD_GNSS_TRK = false then t
    else if bad then (if s.sclkOk then t.sclkLost else t)
    else if 100 ≤ t.gns.good ∧ s.sclkOk = false ∧ s.pllReady pllG then
      (t.setFlag Reg.GNS_STATUS 2 true).sclkRestored
    else t)

/-- Samples between two markers. -/
abbrev markerSamples : Nat := 81840

/-- A marker within half a millisecond of a whole second of device time. -/
def nearSecond (t : CT96) : Bool := decide (ct96Ns t ≤ 500000) || decide (999500000 ≤ ct96Ns t)

/-- SAMPLE_MARKER (R276): SCNT and device time of the marker; the first falls at SCNT = 0. -/
def execSampleMarker (phase : Nat) (s : State) : Host.Outcome State Fault Refusal :=
  .next (if s.sclkOk ∧ s.pdUp PD_GNSS_TRK then
      let n := s.gns.markers * markerSamples % 2 ^ 64
      let t := s.stamp replicaGnss phase
      { s with gns := { s.gns with
          markers := s.gns.markers + 1, scnt := n, stime := t
          near := if nearSecond t then some (n, t) else s.gns.near } }
    else s)

/-- A read of GNS_SCNT_L latches SCNT_H and STIME of the latest marker. -/
def State.readScnt (s : State) : Word × State :=
  let t := (s.wr Reg.GNS_SCNT_L (BitVec.ofNat 32 s.gns.scnt)).wr Reg.GNS_SCNT_H (BitVec.ofNat 32 (s.gns.scnt / 2 ^ 32))
  (t.wr96 (Reg.GNS_STIME_W 0) s.gns.stime).plainRead Reg.GNS_SCNT_L

/-- SCNT_READ (R276). -/
def execScntRead (ag : Agent) (s : State) : Host.Outcome State Fault Refusal :=
  .next (s.readAccess ag Reg.GNS_SCNT_L State.readScnt)

/-! ### Samples (R272, R277) -/

/-- A four-bit code by FMT: two's complement, sign-magnitude or offset binary. -/
def sinCode (fmt : Nat) (v : BitVec 4) : Int :=
  match fmt with
  | 0 => v.toInt
  | 1 => if v.msb then -((v.toNat % 8 : Nat) : Int) else v.toNat
  | _ => (v.toNat : Int) - 8

/-- The codes at either extreme of a format. -/
def sinExtreme (fmt : Nat) (v : BitVec 4) : Bool :=
  match fmt with
  | 0 => v == 0x7#4 || v == 0x8#4
  | 1 => v == 0x7#4 || v == 0xF#4
  | _ => v == 0x0#4 || v == 0xF#4

/-- The sample that balls D[7:0] carry under GNS_SINn_CTL. -/
def sinSample (ctl : Word) (d : BitVec 8) : Int × Int :=
  let i := sinCode (bitsAt ctl 27 2) (d.extractLsb' 4 4)
  let q := sinCode (bitsAt ctl 27 2) (d.extractLsb' 0 4)
  let (i, q) := if bitAt ctl 25 then (q, i) else (i, q)
  (i, if bitAt ctl 26 then -q else q)

/-- An input that presents 0 + 0j: EN = 0 or SRC = 0x2. -/
def State.sinZero (s : State) (i : Nat) : Bool := !s.sinEnabled i || s.fld (Reg.GNS_SIN_CTL i) 29 2 == 2

/-- The sample that input i presents to every consumer. -/
def State.sinValue (s : State) (i : Nat) (d : BitVec 8) : Int × Int :=
  if s.sinZero i then (0, 0) else sinSample (s.rd (Reg.GNS_SIN_CTL i)) d

/-- A sum over samples counted by their code. -/
def overCodes (codes : List (BitVec 8 × Nat)) (f : BitVec 8 → Nat) : Nat := (codes.map fun e => e.2 * f e.1).sum

/-- The whole root of a number below 2^128. -/
def wholeRoot (n : Nat) : Nat :=
  (List.range 64).foldl (fun r i => if (r + 2 ^ (63 - i)) * (r + 2 ^ (63 - i)) ≤ n then r + 2 ^ (63 - i) else r) 0

/-- A root; between two whole numbers it is either (log entry 8). -/
def openRoot (n : Nat) : Nat :=
  let r := wholeRoot n
  r + ofBool (r * r != n && Config.roundsUp r)

/-- SIN_STAT_UPDATE (R277): the samples of the last 100 ms, counted by their code, give the rms in 1/256 LSB and the
fraction at either extreme code in 1/1,024. -/
def execSinStatUpdate (i : Fin 4) (codes : List (BitVec 8 × Nat)) (s : State) : Host.Outcome State Fault Refusal :=
  let n := overCodes codes fun _ => 1
  let i := i.val
  .next (if s.sinEnabled i ∧ s.gnsRuns ∧ 0 < n then
      let fmt := s.fld (Reg.GNS_SIN_CTL i) 27 2
      let power := overCodes codes fun d => let v := s.sinValue i d; (v.1 * v.1 + v.2 * v.2).toNat
      let clips := if s.sinZero i then 0
        else overCodes codes fun d => ofBool (sinExtreme fmt (d.extractLsb' 4 4) || sinExtreme fmt (d.extractLsb' 0 4))
      let rms := openRoot (openDiv ((power * 65536 : Nat) : Int) n).toNat
      let frac := (openDiv ((clips * 1024 : Nat) : Int) n).toNat
      let t := s.wr (Reg.GNS_SIN_STAT i) (BitVec.ofNat 32 (min rms 65535 * 2 ^ 16 + min frac 255 * 2 ^ 8))
      if 10 * n < clips * 1024 then t.gnsSticky 5 else t
    else s)

/-! ### The sample clock's ball (R273, R439) -/

/-- The synthesizer drives SCLKOUT: SRC = 1, with PD_GNSS_TRK on, or retained while front ends are held on for a burst. -/
def State.sclkOutRuns (s : State) : Bool :=
  s.flag Reg.GNS_CLK 0 && (s.pdUp PD_GNSS_TRK || s.gns.frontEnds != []) && s.pllReady pllSclk

/-- SCLKOUT while the synthesizer does not drive it: held low, or floating with PD_GNSS_TRK off. -/
def State.sclkOutIdle (s : State) : Drive :=
  if s.isolated PD_GNSS_TRK then .float else .low

/-! ### Inputs, signals and the test generator (R280, R281, R290) -/

/-- An input that a channel or an acquisition job uses. -/
def State.inputInUse (s : State) (i : Nat) : Bool :=
  !(s.inputChannels i).isEmpty || (match s.gns.job with | some (j, _) => j.input == i | none => false)

/-- A write of GNS_SINn_CTL; clearing EN is always accepted. -/
def State.writeSinCtl (s : State) (i : Nat) (v : Word) : State :=
  let off := Reg.GNS_SIN_CTL i
  if bitsAt v 29 2 = 3 ∨ bitsAt v 27 2 = 3 then s.gnsError 0
  else if bitsAt v 25 6 ≠ s.fld off 25 6 ∧ s.inputInUse i ∧ ¬ (s.sinEnabled i = true ∧ bitAt v 31 = false) then s.gnsError 1
  else
    let t := s.plainWrite off v
    (if bitAt v 31 then t else t.releaseChannels (s.inputChannels i)).gnsRefresh

/-- A write of GNS_SINn_FC. -/
def State.writeSinFc (s : State) (i : Nat) (v : Word) : State :=
  if v.toNat < 1100000000 ∨ 1700000000 < v.toNat then s.gnsError 0
  else if v ≠ s.rd (Reg.GNS_SIN_FREQ i) ∧ s.inputInUse i then s.gnsError 1
  else s.plainWrite (Reg.GNS_SIN_FREQ i) v

/-- SIN_CTL_WRITE (R280): a write of GNS_SINn_CTL, or of GNS_SINn_FC. -/
def execSinCtlWrite (ag : Agent) (i : Fin 4) (fc : Bool) (v : Word) (s : State) : Host.Outcome State Fault Refusal :=
  .next (if fc then s.writeAccess ag (Reg.GNS_SIN_FREQ i.val) v fun t => t.writeSinFc i.val v
    else s.writeAccess ag (Reg.GNS_SIN_CTL i.val) v fun t => t.writeSinCtl i.val v)

/-- A write of GNS_SIGs (R280, R281). -/
def State.writeSig (s : State) (g : Nat) (v : Word) : State :=
  if bitsAt v 29 2 ≠ s.sigInput g ∧ s.sigChannels g ≠ [] then s.gnsError 1
  else
    let t := s.plainWrite (Reg.GNS_SIG g) v
    if bitAt v 31 then t else t.releaseChannels (s.sigChannels g)

/-- SIG_WRITE (R280). -/
def execSigWrite (ag : Agent) (g : Fin 19) (v : Word) (s : State) : Host.Outcome State Fault Refusal :=
  .next (s.writeAccess ag (Reg.GNS_SIG g.val) v fun t => t.writeSig g.val v)

/-- A write of GNS_TPG_CTL: EN is accepted only in STAGED, MEASURE and SAFE (R290). -/
def State.writeTpg (s : State) (v : Word) : State :=
  if 18 < bitsAt v 26 5 ∨ bitsAt v 8 8 < 20 ∨ 60 < bitsAt v 8 8 then s.gnsError 0
  else if bitAt v 31 ∧ ¬ (s.mode = modeStaged ∨ s.mode = modeMeasure ∨ s.mode = modeSafe) then s.gnsError 2
  else (s.plainWrite Reg.GNS_TPG_CTL v).gnsRefresh

/-- TPG_ENABLE (R290): a write of GNS_TPG_CTL that sets EN. -/
def execTpgEnable (ag : Agent) (v : Word) (s : State) : Host.Outcome State Fault Refusal :=
  .next (s.writeAccess ag Reg.GNS_TPG_CTL v fun t => if bitAt v 31 then t.writeTpg v else t)

/-! ### Candidates (R288, R299) -/

/-- A signal that its input can carry: its main lobe lies within 36 MHz of FC (R279). -/
def State.inBand (s : State) (g sv : Nat) : Bool :=
  match signals[g]? with
  | some sg =>
    let off := sg.carrierOf (if sg.step = 0 then 71 else sv) - (s.rd (Reg.GNS_SIN_FREQ (s.sigInput g))).toNat
    decide (off.natAbs + sg.lobe * 1000 ≤ 36000000)
  | none => false

/-- A candidate of a signal and SV. -/
def State.candidate (s : State) (g sv : Nat) : Option Candidate := s.gns.candidates.find? fun k => k.sig == g && k.sv == sv

/-- The candidates without those of a signal and SV. -/
def State.otherCandidates (s : State) (g sv : Nat) : List Candidate :=
  s.gns.candidates.filter fun k => !(k.sig == g && k.sv == sv)

/-- A candidate put among the others. -/
def State.putCandidate (s : State) (k : Candidate) : State :=
  { s with gns := { s.gns with candidates := s.otherCandidates k.sig k.sv ++ [k] } }

/-- Uncertainties small enough for a search in a channel (R288): 10 chips and 500 Hz. -/
def inChannel (w : Nat × Nat) : Bool := decide (w.1 ≤ 10) && decide (w.2 ≤ 500)

/-! ### FFT acquisition (R282 to R286) -/

/-- Tc in ms and NNC of a signal's search (R284). -/
def fftPlan (g : Nat) : Nat × Nat := if [3, 5, 6, 7, 9, 10, 16].contains g then (1, 8) else (4, 2)

/-- The half-width of a job (R284, R288): DOPW around the signal's carrier; or, for one satellite that aiding predicts too
loosely for a channel, its Doppler uncertainty around the prediction, but at least 250 Hz. -/
def State.jobAimed (s : State) (j : AcqJob) : Bool :=
  (decide (j.centre = 0) && decide (j.halfWidth = s.fld Reg.GNS_ACQ_CFG 0 16)) ||
    match j.svs with
    | [sv] =>
      match (s.candidate j.sig sv).bind (·.window) with
      | some w => !inChannel w && decide (j.halfWidth = max 250 w.2)
      | none => false
    | _ => false

/-- A job that R282, R284, R285 and R288 allow. -/
def State.jobAllowed (s : State) (j : AcqJob) : Bool :=
  s.gnsRuns && s.gnssFirmware && s.pdUp PD_GNSS_ACQ && s.gns.job.isNone && s.fld Reg.GNS_ACQ_CFG 30 2 == 0 &&
    decide (j.sig < 19) && j.input == s.sigInput j.sig && s.sigEnabled j.sig && s.sinEnabled j.input &&
    (signalOf j.sig).fft && decide ((j.tc, j.nnc) = fftPlan j.sig) && !j.svs.isEmpty &&
    j.svs.all (signalOf j.sig).svOk && s.jobAimed j

/-- ACQ_JOB_START (R282): the satellites that recovery left to the engine have their job. -/
def execAcqJobStart (j : AcqJob) (s : State) : Host.Outcome State Fault Refusal :=
  .next (if s.jobAllowed j then
      ({ s with gns := { s.gns with
          job := some (j, false), wanted := s.gns.wanted.filter fun e => !(e.1 == j.sig && j.svs.contains e.2) } }).setFlag
        Reg.GNS_STATUS 3 true
    else s)

/-- A peak that is a detection (R282): of a block of 65,536 samples, within the Doppler searched, its ratio at least THR. -/
def State.detects (s : State) (j : AcqJob) (d : Detection) : Bool :=
  j.svs.contains d.sv && decide (s.fld Reg.GNS_ACQ_CFG 16 8 ≤ d.ratio) && decide (d.phase < 65536) &&
    decide (d.eighths.natAbs * 1000 ≤ 16 * j.tc * j.halfWidth)

/-- What the test generator lets a job report (R290): its one signal, at its code phase within one sample and its Doppler
within an eighth of a bin. -/
def State.testDetects (s : State) (j : AcqJob) (d : Detection) : Bool :=
  let g := signalOf j.sig
  let sv := s.fld Reg.GNS_TPG_CTL 16 8
  let turn : Int := (g.code * 65536 : Nat)
  let off : Int := (((d.phase * g.chipRate * j.tc : Nat) : Int) - 256 * (s.rd Reg.GNS_TPG_CODE).toNat) % turn
  let one : Int := (g.chipRate * j.tc : Nat)
  j.sig == s.fld Reg.GNS_TPG_CTL 26 5 && d.sv == (if g.step = 0 then sv else sv + 63) &&
    (decide (off ≤ one) || decide (turn - one ≤ off)) &&
    decide (((j.centre - (s.rd Reg.GNS_TPG_DOP).toInt) * 16 * j.tc + d.eighths * 1000).natAbs ≤ 1000)

/-- The detections of a job, one for an SV; an input that presents zeros gives none. -/
def State.detections (s : State) (j : AcqJob) (ds : List Detection) : List Detection :=
  let ok (d : Detection) : Bool := s.detects j d && !s.sinZero j.input && (!s.sinTest j.input || s.testDetects j d)
  (ds.filter ok).foldl (fun l d => if l.any (·.sv == d.sv) then l else l ++ [d]) []

/-- A satellite that an FFT job has detected becomes a candidate (R299). -/
def State.noteFound (s : State) (g sv : Nat) : State :=
  s.putCandidate (match s.candidate g sv with
    | some k => { k with found := true }
    | none => ⟨g, sv, none, 0, none, true⟩)

/-- ACQ_JOB_DONE (R282, R283, R304): detections of the job's SVs; an uncorrectable error makes it run once more, and then
abandons it. -/
def execAcqJobDone (e : AcqEnd) (s : State) : Host.Outcome State Fault Refusal :=
  .next (match s.gns.job with
    | none => s
    | some (j, again) =>
      match e with
      | .detected ds =>
        let found := s.detections j ds
        let t := { s with gns := { s.gns with found := found } }
        found.foldl (fun u d => u.noteFound j.sig d.sv) (t.abandonJob.bump Reg.GNS_CNT_ACQ 0 32)
      | .bufferEcc a =>
        let t := s.eccError memGnss a
        if again then t.abandonJob else { t with gns := { t.gns with job := some (j, true) } })

/-! ### Aiding (R287) -/

/-- The bytes of GNS_AIDBUF. -/
def State.aidBytes (s : State) (n : Nat) : List Byte :=
  (List.range n).map fun i => BitVec.ofNat 8 (s.fld (Reg.GNS_AIDBUF (i / 4)) (8 * (i % 4)) 8)

/-- The records of a buffer in order, and the ERR code that stops the parse (0 at its end). -/
def parseAid : Nat → List Byte → List (Nat × Nat × Nat × List Byte) × Nat
  | 0, _ => ([], 0)
  | _ + 1, [] => ([], 0)
  | k + 1, bs =>
    if bs.length < 8 then ([], 2)
    else
      let b (i : Nat) : Nat := (bs.getD i 0).toNat
      let n := b 4 + 256 * b 5
      let kind := b 0
      if kind = 0 ∨ 4 < kind then ([], 3)
      else if b 3 ≠ 0 ∨ b 6 ≠ 0 ∨ b 7 ≠ 0 ∨ 6 < b 1 ∨ (kind ≤ 2 ∧ (b 1 ≠ 0 ∨ b 2 ≠ 0)) ∨
          (3 ≤ kind ∧ (b 2 = 0 ∨ (b 1 = 3 ∧ 24 < b 2))) ∨ (kind = 1 ∧ n ≠ 8) ∨ (kind = 2 ∧ n ≠ 32) ∨ 1024 < n then ([], 1)
      else if bs.length < 8 + n then ([], 2)
      else
        let r := parseAid k (bs.drop (8 + n))
        ((kind, b 1, b 2, (bs.drop 8).take n) :: r.1, r.2)

/-- A write of GNS_AID_CTL. -/
def State.writeAid (s : State) (v : Word) : State :=
  if bitAt v 31 = false then s
  else if bitsAt v 0 17 < 8 ∨ 65536 < bitsAt v 0 17 then s.gnsError 0
  else if s.gns.aiding.isSome then (s.setFld Reg.GNS_AID_STAT 16 8 4).gnsError 4
  else if s.flag Reg.GNS_CTRL 0 = false then (s.setFld Reg.GNS_AID_STAT 16 8 5).gnsError 3
  else
    ({ s with gns := { s.gns with aiding := some (bitsAt v 0 17) } }).setFlag Reg.GNS_AID_STAT 31 true

/-- AID_PARSE (R287): a write of GNS_AID_CTL. -/
def execAidParse (ag : Agent) (v : Word) (s : State) : Host.Outcome State Fault Refusal :=
  .next (s.writeAccess ag Reg.GNS_AID_CTL v fun t => t.writeAid v)

/-- AID_DONE (R287): the records up to the first that fails are applied; source 90. -/
def execAidDone (s : State) : Host.Outcome State Fault Refusal :=
  .next (match s.gns.aiding with
    | none => s
    | some n =>
      let r := parseAid (n / 8 + 1) (s.aidBytes n)
      let t := { s with gns := { s.gns with aiding := none, aid := s.gns.aid ++ r.1 } }
      let t := t.wr Reg.GNS_AID_STAT (BitVec.ofNat 32 (r.2 * 2 ^ 16 + r.1.length))
      (if r.2 = 0 then t else t.gnsError 3).raise 90)

/-! ### Power and registers (R305, R308) -/

/-- GFE_ENn (R301, R305). -/
def State.gfeEn (s : State) (i : Nat) : Bool :=
  s.gns.frontEnds.contains i ||
    (s.flag Reg.GNS_CTRL 0 && s.pdUp PD_GNSS_TRK && s.gnsMode && s.sinEnabled i && s.flag (Reg.GNS_SIN_CTL i) 24)

/-- The domain loses power or is reset: channels, jobs and the saved state are lost (R300, R305). -/
def State.gnsLost (s : State) : State :=
  State.outRun { s with gns := { GnsState.reset with good := s.gns.good }, nav := NavState.reset } 9 false

/-- A write of GNS_CTRL: EN = 0 releases every channel and abandons a job; EN = 1 starts afresh (R296, R305). -/
def State.writeGnsCtrl (s : State) (v : Word) : State :=
  let t := s.plainWrite Reg.GNS_CTRL v
  if bitAt v 0 = false ∧ s.flag Reg.GNS_CTRL 0 then
    ((t.releaseChannels (s.gns.channels.map (·.1))).abandonJob).gnsRefresh
  else if bitAt v 0 ∧ s.flag Reg.GNS_CTRL 0 = false then
    ({ t with gns := { t.gns with tracked := false } }).gnsRefresh
  else t

/-- The range checks of loop profiles, acquisition and bursts. -/
def gnsRangeOk (s : State) (off : Nat) (v : Word) : Bool :=
  let inRange (lo n a b : Nat) := decide (a ≤ bitsAt v lo n) && decide (bitsAt v lo n ≤ b)
  if 0x600180 ≤ off ∧ off < 0x6001A0 then
    if off % 8 = 0 then inRange 24 8 10 255 && inRange 16 8 10 255 && inRange 8 8 1 255 && inRange 0 8 1 20
    else inRange 24 8 4 32 && inRange 16 8 15 40 && inRange 8 8 64 250 && inRange 0 8 0 30
  else if off = Reg.GNS_ACQ_CFG then inRange 30 2 0 2 && inRange 16 8 40 120 && inRange 0 16 500 50000
  else if off = Reg.GNS_TPG_DOP then decide (v.toInt.natAbs ≤ 50000)
  else if off = Reg.GNS_TPG_CODE then
    decide (v.toNat < 256 * (signalOf (s.fld Reg.GNS_TPG_CTL 26 5)).code)
  else if off = Reg.GNS_BURST then
    inRange 24 8 1 80 && inRange 16 8 20 200 && inRange 8 8 10 100 && inRange 0 8 1 64 &&
      decide (bitsAt v 8 8 ≤ 10 * bitsAt v 24 8) && decide (10 * bitsAt v 24 8 + bitsAt v 16 8 ≤ 1000)
  else true

/-- A write to a register of the baseband that completes normally. -/
def State.gnsWrite (s : State) (off : Nat) (v : Word) : State :=
  if off = Reg.GNS_CTRL then s.writeGnsCtrl v
  else if off = Reg.GNS_CLK then
    (if s.flag Reg.GNS_CTRL 0 then s.gnsError 1 else s.plainWrite off v)
  else if 0x600040 ≤ off ∧ off < 0x600080 ∧ off % 0x10 = 0 then s.writeSinCtl ((off - 0x600040) / 0x10) v
  else if 0x600040 ≤ off ∧ off < 0x600080 ∧ off % 0x10 = 4 then s.writeSinFc ((off - 0x600040) / 0x10) v
  else if 0x600100 ≤ off ∧ off < 0x60014C then s.writeSig ((off - 0x600100) / 4) v
  else if off = Reg.GNS_TPG_CTL then s.writeTpg v
  else if off = Reg.GNS_AID_CTL then s.writeAid v
  else if gnsRangeOk s off v = false then s.gnsError 0
  else s.plainWrite off v

/-- A read of a register of the baseband that completes normally; TEST of GNS_CHc shows what feeds its input now (R290). -/
def State.gnsRead (s : State) (off : Nat) : Word × State :=
  if off = Reg.GNS_SCNT_L then s.readScnt
  else if 0x601000 ≤ off ∧ off < 0x601400 then
    let v := s.channel ((off - 0x601000) / 4)
    (putBit (s.rd off) 3 (v.state != chIdle && s.sinTest (s.sigInput v.sig)), s)
  else s.plainRead off

end Sys2Proof.Machine
end

