-- ==== Sys2Proof/Machine/Tracking.lean ====
section
/-!
DEFINITION. The tracking channels of the GNSS baseband (chapter 10): searches, dumps and steering, the states of R296,
allocation, engine faults, and bursts in DORMANT. Correlator sums, and what firmware finds in them that the rules give no
formula for, come with the commands (log entry 24).
-/
namespace Sys2Proof.Machine

/-! ### Loop profiles (R297) -/

/-- The profile that GNS_SIGs.PROF names: GNS_LOOPp_A and GNS_LOOPp_B. -/
def State.profile (s : State) (g : Nat) : Word × Word :=
  let p := s.fld (Reg.GNS_SIG g) 27 2
  (s.rd (Reg.GNS_LOOP0_A + 8 * p), s.rd (Reg.GNS_LOOP0_B + 8 * p))

/-! The parameters in effect on a channel: bandwidths in 0.1, 0.1 and 0.01 Hz with the FLL four times as wide in PULLIN,
coherent integration in ms (1 ms before SYNC), spacing in 1/64 chip, and the thresholds. -/
def Channel.pllBw (v : Channel) : Nat := bitsAt v.loop.1 24 8
def Channel.fllBw (v : Channel) : Nat := (if v.state = chPullin then 4 else 1) * bitsAt v.loop.1 16 8
def Channel.dllBw (v : Channel) : Nat := bitsAt v.loop.1 8 8
def Channel.coherent (v : Channel) : Nat := if v.state = chSync ∨ v.state = chData then bitsAt v.loop.1 0 8 else 1
def Channel.loopSpacing (v : Channel) : Nat := if v.state = chSearch then 32 else bitsAt v.loop.2 24 8
def Channel.cn0Loss (v : Channel) : Nat := bitsAt v.loop.2 16 8
def Channel.pliThr (v : Channel) : Nat := bitsAt v.loop.2 8 8
def Channel.reacq (v : Channel) : Nat := bitsAt v.loop.2 0 8

/-! ### Searches in a channel (R289) -/

/-- The squared magnitude of a sum. -/
def power (z : Int × Int) : Nat := (z.1 * z.1 + z.2 * z.2).toNat

/-- The six cells of a group. -/
def groupCells (c : Correlators) : List Nat := [c.veryEarly, c.early, c.prompt, c.late, c.veryLate, c.second].map power

/-- A cell whose power exceeds the noise correlator's by at least thr quarters of a dB. -/
def cellDetected (thr noise cell : Nat) : Bool := decide (0 < cell) && decide (10 ^ thr * noise ^ 40 ≤ cell ^ 40)

/-- One more dump of a search: four of them, summed non-coherently, are a dwell on a group of six cells and a bin. -/
def Search.dump (k : Search) (thr : Nat) (c : Correlators) : Search :=
  let cells := List.zipWith (· + ·) k.cells (groupCells c)
  let noise := k.noise + power c.noise
  if k.dumps < 3 then { k with dumps := k.dumps + 1, cells := cells, noise := noise }
  else
    { Search.reset with
      code := k.code, doppler := k.doppler, recovers := k.recovers, dwells := k.dwells + 1
      detected := k.detected || cells.any (cellDetected thr noise) }

/-- The dwells of a whole window: groups of six cells half a chip apart, by bins 250 Hz apart. -/
def Search.window (k : Search) : Nat := ((2 * k.code + 1 + 5) / 6) * (2 * k.doppler / 250 + 1)

/-! ### What a channel measures (R296) -/

/-- The phase-lock indicator of a prompt sum. -/
def pliOf (z : Int × Int) : Rat := if power z = 0 then 0 else ((z.1 * z.1 - z.2 * z.2 : Int) : Rat) / (power z : Rat)

/-- A valid dump: the PLI averaged over 20 ms stands against PLI_THR, and a search goes on. -/
def Channel.measure (v : Channel) (thr : Nat) (c : Correlators) : Channel :=
  let pli := (pliOf c.prompt :: v.pli).take 20
  let whole := decide (pli.length = 20)
  let lock := decide ((v.pliThr : Rat) / 256 ≤ pli.sum / 20)
  { v with
    pli := pli, age := v.age + 1
    good := if whole && lock then v.good + 1 else 0, weak := if whole && !lock then v.weak + 1 else 0
    search := if v.state = chSearch then v.search.dump thr c else v.search }

/-- The row of R296 that a channel takes as a command takes effect; asked is the state that firmware has found reached: FLL
for a frequency error within 10 Hz over 20 ms, SYNC for a bit edge or secondary-code phase, DATA for a confirmed
preamble, IDLE for a release. -/
def State.nextState (s : State) (v : Channel) (asked cn0 : Option Nat) : Option Nat :=
  let weakSignal : Bool := match cn0 with | some c => decide (c < v.cn0Loss) | none => false
  if asked = some chIdle then asked
  else if v.state = chSearch then
    (if v.search.detected then some chPullin
     else if v.search.recovers then
       (if v.lostAt + v.reacq * secUnits ≤ s.cal.count then some chIdle else none)
     else if v.search.window ≤ v.search.dwells then some chIdle else none)
  else if v.state = chPullin then
    (if asked = some chFll then asked else if 1000 ≤ v.age then some chIdle else none)
  else if v.state < chFll ∨ chData < v.state then none
  else if weakSignal then some chLost
  else if v.state = chFll then (if 100 ≤ v.good then some chPll else none)
  else if 200 ≤ v.weak then some chFll
  else if (v.state = chPll ∧ asked = some chSync) ∨ (v.state = chSync ∧ asked = some chData) then asked
  else none

/-- A channel that found nothing becomes IDLE and its candidate is gone; after a failed recovery the FFT engine is to search
the satellite, with MODE = AUTO (R298). -/
def State.searchFailed (s : State) (c : Nat) : State :=
  let v := s.channel c
  let again := v.search.recovers && (signalOf v.sig).fft && s.fld Reg.GNS_ACQ_CFG 30 2 == 0
  let t := s.toChannelState c chIdle
  { t with gns := { t.gns with
      candidates := t.otherCandidates v.sig v.sv
      wanted := if again then t.gns.wanted.filter (· != (v.sig, v.sv)) ++ [(v.sig, v.sv)] else t.gns.wanted } }

/-! ### Steering (R294) -/

/-- A newer command over an older one, field by field. -/
def mergeSteer (old new : ChannelSteer) : ChannelSteer :=
  ⟨new.carrier.or old.carrier, new.codeRate.or old.codeRate, new.carrierAdjust.or old.carrierAdjust,
   new.codeAdjust.or old.codeAdjust, new.spacing.or old.spacing, new.state.or old.state, new.cn0.or old.cn0,
   new.slot.or old.slot⟩

/-- No command. -/
def ChannelSteer.empty : ChannelSteer := ⟨none, none, none, none, none, none, none, none⟩

/-- A number in 40 bits, signed. -/
def signed40 (v : Int) : Int := (v + 2 ^ 39) % 2 ^ 40 - 2 ^ 39

/-- The values of a command in the widths of R292. -/
def Channel.steered (v : Channel) (p : ChannelSteer) : Channel :=
  { v with
    carrier := signed40 (p.carrier.getD v.carrier), codeRate := p.codeRate.getD v.codeRate % 2 ^ 40
    carrierPhase := (((v.carrierPhase : Int) + p.carrierAdjust.getD 0) % 2 ^ 40).toNat
    codePhase := (((v.codePhase : Int) + p.codeAdjust.getD 0) % ((signalOf v.sig).code * 2 ^ 40 : Nat)).toNat
    spacing := p.spacing.getD v.spacing, cn0 := p.cn0.getD v.cn0, slot := p.slot.getD v.slot
    pending := ChannelSteer.empty }

/-- A dump boundary: a release takes effect; else the profile as it stands now, and the merged command with the row of R296
that it brings. The spacing follows the profile and the state where they change. -/
def State.applySteer (s : State) (c : Nat) (commanded : Bool) : State :=
  let v := s.channel c
  if v.release then s.toChannelState c chIdle
  else
    let u := { v with loop := s.profile v.sig }
    let u := if u.loop = v.loop then u else { u with spacing := u.loopSpacing }
    let t := ((s.setChannel c (u.steered v.pending)).showChannel c)
    if commanded = false then t
    else
      match s.nextState u v.pending.state v.pending.cn0 with
      | none => t
      | some st =>
        if st = chIdle then (if v.pending.state = some chIdle then t.toChannelState c chIdle else t.searchFailed c)
        else
          let w := t.toChannelState c st
          w.setChannel c { w.channel c with spacing := v.pending.spacing.getD (w.channel c).loopSpacing }

/-! ### Allocation (R299) -/

/-- The system of a signal: GPS, Galileo, BeiDou, GLONASS, QZSS, NavIC, SBAS. -/
def systemOf (sig : Nat) : Nat :=
  if sig ≤ 3 then 0 else if sig ≤ 6 then 1 else if sig ≤ 10 then 2 else if sig ≤ 12 then 3
  else if sig ≤ 16 then 4 else if sig = 17 then 5 else 6

/-- A satellite that aiding or decoded orbit data can predict: a navigation or almanac record for it, or its system in
DATA. -/
def State.predictable (s : State) (g sv : Nat) : Bool :=
  (s.gns.aid.any fun r => decide (3 ≤ r.1) && r.2.1 == systemOf g && (r.2.2.1 == sv || systemOf g == 3)) ||
    s.gns.channels.any fun e => e.2.state == chData && systemOf e.2.sig == systemOf g

/-- The channel in track that a handover signal starts from. -/
def State.handoverSource (s : State) (g sv : Nat) : Option Channel :=
  match handoverFrom g with
  | none => none
  | some src => (s.gns.channels.find? fun e =>
      e.2.sig == src && e.2.sv == sv && decide (chPll ≤ e.2.state) && decide (e.2.state ≤ chData)).map (·.2)

/-- What R299 asks of a signal and satellite before it is given a channel. -/
def State.signalAllowed (s : State) (g sv : Nat) : Bool :=
  decide (g < 19) && (signalOf g).svOk sv && s.sigEnabled g && s.sinEnabled (s.sigInput g) && s.inBand g sv &&
    decide ((s.sigChannels g).length < s.fld (Reg.GNS_SIG g) 16 8) &&
    ((handoverFrom g).isNone || (s.handoverSource g sv).isSome)

/-- A candidate that may be given a channel now: detected, in handover, or predicted closely enough (R288). -/
def State.eligible (s : State) (k : Candidate) : Bool :=
  s.signalAllowed k.sig k.sv && !(s.gns.channels.any fun e => e.2.state != chIdle && e.2.sig == k.sig && e.2.sv == k.sv) &&
    (k.found || (handoverFrom k.sig).isSome || k.window.elim false inChannel)

/-- The place of a candidate in the order of R299: PRIO; measured C/N0, highest first, before elevation, highest first (log
entry 24); signal; SV. -/
def State.candidateRank (s : State) (k : Candidate) : List Nat :=
  [s.fld (Reg.GNS_SIG k.sig) 24 3, ofBool k.cn0.isNone, 400 - (k.cn0.getD (k.elev + 90).toNat), k.sig, k.sv]

/-- One list before another, by the first place in which they differ. -/
def ranksBefore : List Nat → List Nat → Bool
  | a :: as, b :: bs => decide (a < b) || (a == b && ranksBefore as bs)
  | _, _ => false

/-- The candidate that comes next. -/
def State.isNext (s : State) (k : Candidate) : Bool :=
  s.eligible k && !(s.gns.candidates.any fun o => s.eligible o && ranksBefore (s.candidateRank o) (s.candidateRank k))

/-- A channel that can be given: IDLE, on an engine in service that is not in its test. -/
def State.channelFree (s : State) (c : Nat) : Bool :=
  (s.channel c).state == chIdle && s.flag Reg.GNS_STATUS (16 + c / 16) && !s.engineTests c
def State.anyFree (s : State) : Bool := (List.range 256).any s.channelFree

/-- The rank of a channel in use: that of its candidate. -/
def State.channelRank (s : State) (v : Channel) : List Nat :=
  s.candidateRank ((s.candidate v.sig v.sv).getD ⟨v.sig, v.sv, some v.cn0, 0, none, false⟩)

/-- A channel that a candidate displaces: none is free, its PRIO is strictly worse, and no other in use ranks after it. -/
def State.displaces (s : State) (k : Candidate) (c : Nat) : Bool :=
  let v := s.channel c
  let inUse := s.gns.channels.filter fun e => e.2.state != chIdle
  !s.anyFree && v.state != chIdle && !(inUse.any (·.2.release)) &&
    decide (s.fld (Reg.GNS_SIG k.sig) 24 3 < s.fld (Reg.GNS_SIG v.sig) 24 3) &&
    !(inUse.any fun e => ranksBefore (s.channelRank v) (s.channelRank e.2))

/-- A start in handover lies within 50 Hz of the source's Doppler, scaled by the carriers, and within a chip of its code
phase (R284). -/
def State.handoverStart (s : State) (g sv : Nat) (v : Channel) (carrier : Int) (codePhase : Nat) : Bool :=
  let a := signalOf v.sig
  let b := signalOf g
  let offset (x : Signal) (sig : Nat) : Int := x.carrierOf 71 - (s.rd (Reg.GNS_SIN_FREQ (s.sigInput sig))).toNat
  let doppler : Int := v.carrier * 81840000 - offset a v.sig * 2 ^ 40
  let err : Int := (carrier * 81840000 - offset b g * 2 ^ 40) * a.carrier - doppler * b.carrier
  let turn : Int := (a.code * b.chipRate * 2 ^ 40 : Nat)
  let off : Int := ((codePhase * a.chipRate : Nat) - (v.codePhase * b.chipRate : Nat) : Int) % turn
  let chip : Int := (a.chipRate * 2 ^ 40 : Nat)
  decide (0 < sv) && decide (err.natAbs ≤ 50 * 2 ^ 40 * a.carrier) && (decide (off ≤ chip) || decide (turn - chip ≤ off))

/-- How a candidate starts: its state and search, and the SCNT of its phases; none where a handover starts outside its
window. -/
def State.startOf (s : State) (k : Candidate) (carrier : Int) (codePhase : Nat) : Option (Nat × Search × Nat) :=
  if k.found then some (chPullin, Search.reset, s.gns.scnt)
  else
    match s.handoverSource k.sig k.sv with
    | some v =>
      if s.handoverStart k.sig k.sv v carrier codePhase then
        some (chSearch, { Search.reset with code := 2, doppler := 50 }, v.at_)
      else none
    | none =>
      let w := k.window.getD (0, 0)
      some (chSearch, { Search.reset with code := 2 * w.1, doppler := w.2 }, s.gns.scnt)

/-- The allocator of R299 gives channel c to a candidate, or displaces the channel for it. -/
def State.allocate (s : State) (c : Nat) (k : Candidate) (carrier : Int) (rate cp kp : Nat) : State :=
  if s.channelFree c then
    match s.startOf k carrier kp with
    | none => s
    | some (st, search, at_) =>
      let v := { Channel.reset with
        sig := k.sig, sv := k.sv, carrier := signed40 carrier, codeRate := rate % 2 ^ 40, carrierPhase := cp % 2 ^ 40
        codePhase := kp % ((signalOf k.sig).code * 2 ^ 40), at_ := at_, commanded := true, loop := s.profile k.sig }
      let v := v.enter st search
      ((((s.putCandidate { k with found := false }).setChannel c { v with spacing := v.loopSpacing }).showChannel c)).gnsRefresh
  else if s.displaces k c then s.setChannel c { s.channel c with release := true }
  else s

/-- CHANNEL_COMMAND (R294, R299): steering, once the records of the channel have been read, merges with what waits; and the
allocator's work. -/
def execChannelCommand (c : Fin 256) (k : ChannelCommand) (s : State) : Host.Outcome State Fault Refusal :=
  let c := c.val
  let allocates := s.gnsRuns && s.gnssFirmware && s.fld Reg.GNS_ACQ_CFG 30 2 != 2
  .next (match k with
    | .steer n =>
      let v := s.channel c
      if v.state = chIdle ∨ s.gnssFirmware = false then s
      else
        let t := { s with gns := { s.gns with queue := s.gns.queue.filter (·.channel != c) } }
        let t := match n.cn0, s.candidate v.sig v.sv with
          | some q, some o => t.putCandidate { o with cn0 := some q }
          | _, _ => t
        t.setChannel c { v with pending := mergeSteer v.pending n, commanded := true }
    | .predict g sv elev chips hertz =>
      if allocates && decide (g < 19) && (signalOf g).svOk sv && s.predictable g sv then
        if elev < 0 then { s with gns := { s.gns with candidates := s.otherCandidates g sv } }
        else
          let o := (s.candidate g sv).getD ⟨g, sv, none, elev, none, false⟩
          s.putCandidate { o with elev := elev, window := some (chips, hertz) }
      else s
    | .allocate g sv carrier rate cp kp =>
      match s.candidate g sv with
      | some o => if allocates && s.isNext o then s.allocate c o carrier rate cp kp else s
      | none => s
    | .noChannel g sv =>
      match s.candidate g sv with
      | some o =>
        if allocates && s.eligible o && !s.anyFree && !((List.range 256).any (s.displaces o)) &&
            !(s.gns.channels.any (·.2.release)) then s.gnsSticky 2
        else s
      | none => s)

/-! ### Dumps (R293) -/

/-- The first n samples at which the code phase passes the end of the dump interval. -/
def Channel.dumpsAt (v : Channel) (n : Nat) : Bool :=
  let span := (signalOf v.sig).span * 2 ^ 40
  let a := v.codePhase / span
  decide (1 ≤ n) && decide (a < (v.codePhase + n * v.codeRate) / span) &&
    decide ((v.codePhase + (n - 1) * v.codeRate) / span = a)

/-- The phases at each sample marker that falls within n samples from the last dump. -/
def Channel.marks (v : Channel) (n : Nat) : List (Nat × Nat × Nat) :=
  let first := v.at_ / markerSamples + 1
  let last := (v.at_ + n) / markerSamples
  (List.range (last + 1 - first)).map fun i =>
    let w := v.advance ((first + i) * markerSamples - v.at_)
    (first + i, w.carrierPhase, w.codePhase)

/-- A record queued for SC(2 + (c >> 6)), or counted lost with 512 queued. -/
def State.queueDump (s : State) (r : DumpRecord) : State :=
  if (s.gns.queue.filter fun q => q.channel / 64 == r.channel / 64).length < 512 then
    { s with gns := { s.gns with queue := s.gns.queue ++ [r] } }
  else (s.bump Reg.GNS_CNT_QOVF 0 32).gnsSticky 4

/-- The sums over samples that are all zero (R272). -/
def zeroSums : Correlators := ⟨(0, 0), (0, 0), (0, 0), (0, 0), (0, 0), (0, 0), (0, 0)⟩

/-- A channel's dump n samples after the last: the record, the count of a missed command, and the boundary. -/
def State.dump (s : State) (c n : Nat) (sums : Correlators) (valid : Bool) : State :=
  let v := s.channel c
  let i := s.sigInput v.sig
  let t := s.queueDump ⟨c, sums, v.dumps, v.state, s.sinTest i, valid, v.marks n⟩
  let t := if v.commanded then t else (t.bump Reg.GNS_CNT_LATE 0 32).gnsSticky 3
  let w := if valid then v.measure (s.fld Reg.GNS_ACQ_CFG 16 8) sums else v
  let w := { w.advance n with at_ := v.at_ + n, dumps := v.dumps + 1, commanded := false }
  (t.setChannel c w).applySteer c v.commanded

/-- CHANNEL_DUMP (R293, R294): n samples after the last dump the interval ends. An uncorrectable error makes the record
invalid, or the channel IDLE (R304). With GNS_CTRL.EN cleared a channel still dumps, and is released there (R305). -/
def execChannelDump (c : Fin 256) (n : Nat) (sums : Correlators) (bad : Option DumpFault) (s : State) :
    Host.Outcome State Fault Refusal :=
  let c := c.val
  let v := s.channel c
  let sums := if s.sinZero (s.sigInput v.sig) then zeroSums else sums
  .next (if s.gnsClocked = false ∨ v.state = chIdle ∨ v.state = chLost ∨ s.engineTests c = true ∨ v.dumpsAt n = false then s
    else
      match bad with
      | none => s.dump c n sums true
      | some (.ring a) => (s.eccError memGnss a).dump c n sums false
      | some (.channel a) => (s.eccError memGnss a).toChannelState c chIdle)

/-! ### Engines (R304) -/

/-- The channels of an engine. -/
def engineChannels (e : Nat) : List Nat := (List.range 16).map (16 * e + ·)

/-- ENGINE_CHECK_ERROR: the engine runs the vector test, and its tracking channels enter LOST. -/
def execEngineCheckError (e : Fin 16) (s : State) : Host.Outcome State Fault Refusal :=
  let mine := s.trackingChannels.filter fun c => c / 16 == e.val
  .next (if s.gnsRuns ∧ s.flag Reg.GNS_STATUS (16 + e.val) then
      mine.foldl (fun t c => t.toChannelState c chLost) (s.startTest (unitEngine e.val) 0)
    else s)

/-- The engine's verdict was TRANSIENT: its channels recover while the sample clock runs. -/
def State.resumeEngine (s : State) (e : Nat) : State :=
  if s.sclkOk then (engineChannels e).foldl State.resumeChannel s else s

/-- An engine retired by a LASTING verdict: out of service until cold reset, its channels released. -/
def State.retireEngine (s : State) (e : Nat) : State :=
  let t := ((s.setFlag Reg.GNS_STATUS (16 + e) false).gnsSticky 6)
  let t := { t with rel := { t.rel with retired := unitEngine e :: t.rel.retired } }
  (engineChannels e).foldl (fun u c => u.toChannelState c chIdle) t

/-! ### Bursts (R300 to R303) -/

/-- The signals whose pilot is tracked. -/
def isPilot (sig : Nat) : Bool := [1, 2, 3, 4, 5, 6, 8, 9, 14, 15, 16].contains sig

/-- The order of R300: pilots first, then the lowest-numbered input, then C/N0. -/
def State.burstRank (s : State) (v : Channel) : List Nat := [ofBool (!isPilot v.sig), s.sigInput v.sig, 256 - v.cn0]

/-- A channel put into an ordered list. -/
def State.burstInsert (s : State) (a : Nat × Channel) : List (Nat × Channel) → List (Nat × Channel)
  | [] => [a]
  | b :: bs => if ranksBefore (s.burstRank a.2) (s.burstRank b.2) then a :: b :: bs else b :: s.burstInsert a bs

/-- The channels kept for bursts: one per satellite, at most MAXCH, each at 28 dB-Hz or more. -/
def State.burstChoice (s : State) : List Nat :=
  let ok := s.gns.channels.filter fun e => decide (chFll ≤ e.2.state) && decide (e.2.state ≤ chData) && decide (28 ≤ e.2.cn0)
  let ordered := ok.foldl (fun l a => s.burstInsert a l) []
  let one := ordered.foldl (fun (l : List (Nat × Channel)) a =>
    if l.any fun b => systemOf b.2.sig == systemOf a.2.sig && b.2.sv == a.2.sv then l else l ++ [a]) []
  (one.take (s.fld Reg.GNS_BURST 0 8)).map (·.1)

/-- The preparation of R300 at DORMANT entry: the navigation state is saved, and channels are kept or released. -/
def State.burstPrepare (s : State) : State :=
  let keep := s.burstChoice
  let t := s.gns.channels.foldl (fun u e =>
    if keep.contains e.1 then
      (u.setChannel e.1 { e.2 with state := chBurst, lostAt := s.cal.count, low := 0 }).showChannel e.1
    else u.toChannelState e.1 chIdle) s
  { t with gns := { t.gns with saved := some s.nav, lastBurst := none, bursts := 0, dropped := 0, queue := [] } }

/-- The domain is retained for bursts. -/
def State.burstMode (s : State) : Bool := s.mode == modeDormant && s.flag Reg.GNS_CTRL 1 && s.pd PD_GNSS_TRK == pdRetained

/-- OFFSET, WARM and LEN in ns, and whether the burst of this TAI second has yet to come. -/
def State.burstOffset (s : State) : Nat := s.fld Reg.GNS_BURST 24 8 * 10000000
def State.burstWarm (s : State) : Nat := s.fld Reg.GNS_BURST 8 8 * 1000000
def State.burstLength (s : State) : Nat := s.fld Reg.GNS_BURST 16 8 * 1000000
def State.burstDue (s : State) : Bool :=
  s.burstMode && !s.gns.bursting && s.gns.lastBurst != some (ct96Sec s.now)

/-- BURST_FRONTEND_ON (R301): WARM before the burst, the front ends of inputs that carry a BURST channel. -/
def execBurstFrontendOn (s : State) : Host.Outcome State Fault Refusal :=
  .next (if s.burstDue ∧ s.burstOffset ≤ ct96Ns s.now + s.burstWarm then
      let on := (List.range 4).filter fun i =>
        s.flag (Reg.GNS_SIN_CTL i) 24 &&
          s.gns.channels.any fun e => e.2.state == chBurst && s.sigInput e.2.sig == i
      { s with gns := { s.gns with frontEnds := on } }
    else s)

/-- A BURST channel's phases propagated to now by device time (R298). -/
def State.propagate (s : State) (v : Channel) : Channel :=
  { v.advance (samplesIn (s.cal.count - v.lostAt)) with lostAt := s.cal.count }

/-- BURST_START (R301): OFFSET into the second, each BURST channel's phases are propagated. -/
def execBurstStart (s : State) : Host.Outcome State Fault Refusal :=
  .next (if s.burstDue ∧ s.burstOffset ≤ ct96Ns s.now then
      let t := s.gns.channels.foldl (fun u e =>
        if e.2.state = chBurst then u.setChannel e.1 (s.propagate e.2) else u) s
      { t with gns := { t.gns with bursting := true, lastBurst := some (ct96Sec s.now) } }
    else s)

/-- One channel's burst result: rates, phases and C/N0 as the hardware loops leave them; 3 bursts in a row below 28 dB-Hz drop
it (R302). -/
def State.burstResult (s : State) (r : BurstResult) : State :=
  let v := s.channel r.channel
  if v.state ≠ chBurst then s
  else
    let low := if r.cn0 < 28 then v.low + 1 else 0
    if 3 ≤ low then
      let t := s.toChannelState r.channel chIdle
      { t with gns := { t.gns with dropped := min 255 (t.gns.dropped + 1) } }
    else
      (s.setChannel r.channel { v with
        carrier := signed40 r.carrier, codeRate := r.codeRate % 2 ^ 40, carrierPhase := r.carrierPhase % 2 ^ 40
        codePhase := r.codePhase % ((signalOf v.sig).code * 2 ^ 40), cn0 := r.cn0, low := low
        lostAt := s.cal.count }).showChannel r.channel

/-- The burst that runs has lasted LEN. -/
def State.burstOver (s : State) : Bool :=
  s.gns.bursting && (s.gns.lastBurst != some (ct96Sec s.now) || decide (s.burstOffset + s.burstLength ≤ ct96Ns s.now))

/-- BURST_END (R301, R302): results saved, front ends low, clocks stopped. -/
def execBurstEnd (rs : List BurstResult) (s : State) : Host.Outcome State Fault Refusal :=
  .next (if s.burstOver = false then s
    else
      let t := ((rs.foldl State.burstResult s).pllStop pllG).pllStop pllSclk
      { t with gns := { t.gns with
          bursting := false, frontEnds := [], bursts := min 65535 (t.gns.bursts + 1) } })

/-- Exit from DORMANT (R303): GNS_BSTAT, source 92 where bursts were recorded (R309), BURST_DROP, the saved navigation
state, and every BURST channel in FLL with its phases propagated. -/
def State.burstExit (s : State) : State :=
  let kept := (s.gns.channels.filter fun e => e.2.state == chBurst).length
  let t := s.wr Reg.GNS_BSTAT (BitVec.ofNat 32 (s.gns.bursts * 2 ^ 16 + min 255 kept * 2 ^ 8 + s.gns.dropped))
  let t := if s.gns.bursts = 0 then t else t.raise 92
  let t := if s.gns.dropped = 0 then t else t.gnsSticky 7
  let t := { t with nav := s.gns.saved.getD t.nav, gns := { t.gns with saved := none } }
  s.gns.channels.foldl (fun u e =>
    if e.2.state = chBurst then
      (u.setChannel e.1 { s.propagate e.2 with at_ := s.gns.scnt }).toChannelState e.1 chFll
    else u) t

end Sys2Proof.Machine
end

