-- ==== Sys2Proof/Machine/Osnma.lean ====
section
/-!
DEFINITION. OSNMA (chapter 11): the Merkle tree, DSM-KROOT signatures, the TESLA chain and tags, and what they leave of each
satellite's authentication. The layouts are those of the Galileo OSNMA SIS ICD, which R326 names (PRESUMED, log entry 102).
-/
namespace Sys2Proof.Machine

/-- The authentication states of R328 and of a satellite. -/
abbrev authNone : Nat := 0
abbrev authPending : Nat := 1
abbrev authOk : Nat := 2
abbrev authFailed : Nat := 3
def State.satAuth (s : State) (gnss sv : Nat) : Nat :=
  if gnss = 1 then ((s.nav.auth.find? (·.1 == sv)).elim authNone (·.2)) else authNone
def State.setAuth (s : State) (sv a : Nat) : State :=
  { s with nav := { s.nav with auth := sparseSet (fun _ => authNone) s.nav.auth sv a } }

/-- Authentication needs OSNMA_EN and PD_BNE (R326). -/
def State.osnmaOn (s : State) : Bool := s.flag Reg.GNS_NAV_CTL 24 && s.pdUp PD_BNE

/-- The BNE and the SHA unit are available: OSNMA checks stop without them (R33, R330, R364). -/
def State.osnmaUnits (s : State) : Bool :=
  s.pdUp PD_BNE && s.flag Reg.BNE_CTRL 0 && s.uValid && s.pdUp PD_CRYPTO && s.flag Reg.CRY_STATUS 2

/-- The device-time conditions of R327. -/
def State.osnmaTime (s : State) : Bool :=
  s.flag Reg.CAL_STATUS 17 && decide (s.errorEstimate < 10 ^ 9) && !s.nav.badTime

/-- STATE of GNS_OSNMA. -/
def State.osnmaState (s : State) : Nat := s.fld Reg.GNS_OSNMA 30 2
abbrev osnmaPending : Nat := 1
abbrev osnmaOperational : Nat := 2
abbrev osnmaAlert : Nat := 3

/-- GNS_OSNMA brought up to date: NAUTH, TSYNC_OK and BNE_OK, and STATE off without OSNMA (R326). -/
def State.showOsnma (s : State) : State :=
  let n := (s.nav.auth.filter (·.2 == authOk)).length
  let t := (s.setFld Reg.GNS_OSNMA 8 8 n).setFlag Reg.GNS_OSNMA 7 s.osnmaTime
  let t := t.setFlag Reg.GNS_OSNMA 6 s.osnmaUnits
  if s.osnmaOn = false then t.setFld Reg.GNS_OSNMA 30 2 0
  else if s.osnmaState = 0 then t.setFld Reg.GNS_OSNMA 30 2 osnmaPending else t

/-! ### Public keys and roots (R326) -/

/-- The root of a hash tree above a leaf's hash at a place, by the hashes beside the way. -/
def merkleRoot : List Byte → Nat → List (List Byte) → List Byte
  | h, _, [] => h
  | h, i, p :: ps => merkleRoot (sha256 (if i % 2 = 0 then h ++ p else p ++ h)) (i / 2) ps

/-- Bytes of a coordinate, and the hash that a curve is used with. -/
def krootBytes : KrootCurve → Nat
  | .p256 => 32
  | .p521 => 66
def krootCurve : KrootCurve → Curve
  | .p256 => curveP256
  | .p521 => curveP521
def krootDigest : KrootCurve → List Byte → List Byte
  | .p256, m => sha256 m
  | .p521, m => sha512 m

/-- A leaf of the tree: the key's type and identifier, and the point compressed. -/
def keyLeaf (curve : KrootCurve) (pkid : Nat) (key : List Byte) : List Byte :=
  let n := krootBytes curve
  let ty := match curve with | .p256 => 1 | .p521 => 3
  [BitVec.ofNat 8 (16 * ty + pkid % 16), BitVec.ofNat 8 (2 + ofBeBytes (key.drop n) % 2)] ++ key.take n

/-- A public key whose path of a tree of 16 leaves ends in anchor entry 2. -/
def State.merkleOk (s : State) (leaf : List Byte) (index : Nat) (path : List (List Byte)) (pkid : Nat) (curve : KrootCurve)
    (key : List Byte) : Bool :=
  decide (path.length = 4) && decide (index < 16) && leaf == keyLeaf curve pkid key &&
    (match s.anchorOf 2 [4] with
     | some (_, root) => merkleRoot (sha256 leaf) index path == root
     | none => false)

/-- The bits of a tag by its code. -/
def tagSize (code : Nat) : Nat := [20, 24, 28, 32, 40].getD (code - 5) 0

/-- What a DSM-KROOT says of the chain is what its signed message holds. -/
def krootHolds (m : List Byte) (c : OsnmaChain) : Bool :=
  let b (i : Nat) : Nat := (m.getD i 0).toNat
  b 1 / 64 == c.cid && b 1 / 4 % 4 == (if c.sha3 then 2 else 0) && b 1 % 4 == ofBool c.cmac &&
    tagSize (b 2 % 16) == c.tagBits && (m.drop 7).take 6 == c.alpha && m.drop 13 == c.key

/-- A DSM-KROOT whose signature verifies on the BNE under the key in use. -/
def State.krootOk (s : State) (message signature : List Byte) (pkid : Nat) (c : OsnmaChain) : Bool :=
  match s.nav.publicKey with
  | some (id, curve, key) =>
    id == pkid && krootHolds message c && (krootCurve curve).verify (krootBytes curve) key (krootDigest curve message) signature
  | none => false

/-! ### Keys and tags (R326, R327) -/

def OsnmaChain.hash (c : OsnmaChain) (m : List Byte) : List Byte := if c.sha3 then Machine.sha3 m else sha256 m

/-- Galileo System Time at the start of a subframe: the week and the second of the week in 12 and 20 bits. -/
def gstBytes (subframe : Nat) : List Byte :=
  beBytes 4 (30 * subframe / 604800 % 4096 * 2 ^ 20 + 30 * subframe % 604800)

/-- The key that stands n subframes before the one of a subframe. -/
def OsnmaChain.back (c : OsnmaChain) : Nat → Nat → List Byte → List Byte
  | 0, _, k => k
  | n + 1, subframe, k => c.back n (subframe - 1) ((c.hash (k ++ gstBytes (subframe - 1) ++ c.alpha)).take c.key.length)

/-- A key of a subframe that belongs to the chain, within its length. -/
def OsnmaChain.accepts (c : OsnmaChain) (subframe : Nat) (key : List Byte) : Bool :=
  key.length == c.key.length && decide (c.start ≤ subframe) && decide (subframe - c.start ≤ c.length) &&
    (if c.subframe ≤ subframe then c.back (subframe - c.subframe) subframe key == c.key
     else c.back (c.subframe - subframe) c.subframe c.key == key)

/-- HMAC with SHA-256, the block being 64 bytes. -/
def hmacSha256 (key m : List Byte) : List Byte :=
  let k := if 64 < key.length then sha256 key else key
  let pad (b : Byte) : List Byte := (k ++ List.replicate (64 - k.length) 0).map (· ^^^ b)
  sha256 (pad 0x5C#8 ++ sha256 (pad 0x36#8 ++ m))

/-- The first n bits of bytes, as a number. -/
def leadingBits (n : Nat) (bs : List Byte) : Nat :=
  let k := (n + 7) / 8
  ofBeBytes (bs.take k) / 2 ^ (8 * k - n)

/-- A tag that its key verifies. -/
def OsnmaChain.verifies (c : OsnmaChain) (key : List Byte) (g : OsnmaTag) : Bool :=
  let mac := if c.cmac then beBytes 16 (Machine.cmac key g.message).toNat else hmacSha256 key g.message
  decide ((c.tagBits + 7) / 8 ≤ g.tag.length) && leadingBits c.tagBits mac == leadingBits c.tagBits g.tag

/-- A verification that failed: the tag's satellite, or the timing parameters, FAILED (R328, R330). -/
def State.tagFailed (s : State) (g : OsnmaTag) : State :=
  let t := if g.adkd = 4 then { s with nav := { s.nav with adkd4 := authFailed } } else s.setAuth g.sv authFailed
  (t.bump Reg.GNS_CNT_TAGFAIL 0 32).raise 104

/-- What a tag that is checked leaves: AUTH follows from ADKD 0 alone, and a FAILED satellite waits for its next data set. -/
def State.checkTag (s : State) (c : OsnmaChain) (key : List Byte) (g : OsnmaTag) : State :=
  if c.verifies key g = false then s.tagFailed g
  else if g.adkd = 4 then { s with nav := { s.nav with adkd4 := authOk } }
  else if g.adkd = 0 ∧ s.satAuth 1 g.sv ≠ authFailed then s.setAuth g.sv authOk
  else s

/-- The tags that await a key leave the queue. -/
def State.withoutTags (s : State) (gone : OsnmaTag → Bool) : State :=
  { s with nav := { s.nav with tags := s.nav.tags.filter fun g => !gone g } }

/-- A TESLA key (R327, R330): one of the chain checks the tags that await it, any other discards them. -/
def State.teslaKey (s : State) (subframe : Nat) (key : List Byte) : State :=
  let waiting := s.nav.tags.filter (·.subframe == subframe)
  let t := s.withoutTags (·.subframe == subframe)
  match s.nav.chain with
  | some c =>
    if c.accepts subframe key then
      let latest := if c.subframe ≤ subframe then { c with key := key, subframe := subframe } else c
      waiting.foldl (fun u g => u.checkTag c key g) { t with nav := { t.nav with chain := some latest } }
    else t.raise 104
  | none => t.raise 104

/-! ### Decoded data (R326 to R330) -/

/-- A key or root discarded: STATE stays or returns to PENDING. -/
def State.osnmaDiscard (s : State) : State :=
  (if s.osnmaState = osnmaAlert then s else s.setFld Reg.GNS_OSNMA 30 2 osnmaPending).raise 104

/-- A verified root: STATE operational, but for an alert, which only a root under a new key ends. -/
def State.osnmaRoot (s : State) (pkid : Nat) (c : OsnmaChain) : State :=
  if s.osnmaState = osnmaAlert ∧ s.fld Reg.GNS_OSNMA 20 4 = pkid then s
  else
    let same : Bool := match s.nav.chain with
      | some o => o.cid == c.cid && o.alpha == c.alpha && o.start == c.start && o.length == c.length
      | none => false
    let t := if same then s else { s with nav := { s.nav with chain := some c } }
    ((t.setFld Reg.GNS_OSNMA 30 2 osnmaOperational).setFld Reg.GNS_OSNMA 20 4 pkid).setFld Reg.GNS_OSNMA 16 4 c.cid

/-- The time check of R327: device time within 15 s of decoded Galileo System Time. -/
def State.timeCheck (s : State) (second : Nat) : State :=
  { s with nav := { s.nav with badTime := decide (15 < ((ct96Sec s.now : Int) - second).natAbs) } }

/-- Decoded OSNMA data. Verification pauses without the BNE or the SHA unit. -/
def State.osnma (s : State) : OsnmaMessage → State
  | .newData sv =>
    let t := s.withoutTags fun g => g.sv == sv && g.adkd != 4
    if s.osnmaState = osnmaAlert then t else t.setAuth sv authPending
  | .systemTime second => s.timeCheck second
  | .alert =>
    if s.osnmaOn then
      (({ s with nav := { s.nav with auth := [], tags := [], chain := none, adkd4 := authNone } }).setFld
        Reg.GNS_OSNMA 30 2 osnmaAlert).raise 105
    else s
  | .publicKey leaf index path pkid curve key =>
    if (s.osnmaOn && s.osnmaUnits) = false then s
    else if s.merkleOk leaf index path pkid curve key then
      { s with nav := { s.nav with publicKey := some (pkid, curve, key) } }
    else s.osnmaDiscard
  | .kroot message signature pkid cid sha3 alpha root start length cmac tagBits =>
    let c : OsnmaChain := ⟨cid, sha3, alpha, root, start, start, length, cmac, tagBits⟩
    if (s.osnmaOn && s.osnmaUnits) = false then s
    else if s.krootOk message signature pkid c then s.osnmaRoot pkid c
    else s.osnmaDiscard
  | .key subframe key =>
    if (s.osnmaOn && s.osnmaUnits && s.osnmaTime) = false ∨ s.osnmaState = osnmaAlert then s
    else s.teslaKey subframe key
  | .tag sv adkd subframe message tag =>
    if (s.osnmaOn && s.osnmaUnits && s.osnmaTime) = false ∨ s.osnmaState = osnmaAlert then s
    else { s with nav := { s.nav with tags := s.nav.tags ++ [⟨sv, adkd, subframe, message, tag⟩] } }

/-- OSNMA_MESSAGE (R327 to R330). -/
def execOsnmaMessage (m : OsnmaMessage) (s : State) : Host.Outcome State Fault Refusal :=
  .next (if s.gnsRuns ∧ s.gnssFirmware then ((s.showOsnma).osnma m).showOsnma else s)

/-- OSNMA_RESET (R330): the alert is cleared. -/
def State.osnmaReset (s : State) : State :=
  if s.osnmaState = osnmaAlert then (s.setFld Reg.GNS_OSNMA 30 2 (ofBool s.osnmaOn)).showOsnma else s

end Sys2Proof.Machine
end

