-- ==== Sys2Proof/Machine/Nav.lean ====
section
/-!
DEFINITION. GNSS navigation (chapter 11): the solution of each second with its type and integrity, the fix record, the epoch
pulse and the survey. Firmware's fit over the satellites comes with the command; what the rules say of it is computed here
(log entry 103).
-/
namespace Sys2Proof.Machine

/-- GNS_NERR bits, source 107. -/
def State.navError (s : State) (bit : Nat) : State := s.error Reg.GNS_NERR bit 107

/-! ### Measurements (R310, R322) -/

/-- Light travels so many mm in ps. -/
def mmOf (ps : Rat) : Rat := ps * 299792458 / 10 ^ 9

/-- The system that TSYS names: GPS, Galileo or BeiDou by its number in R287. -/
def State.tsys (s : State) : Nat := s.fld Reg.GNS_NAV_CTL 28 2

/-- A pseudorange less the delay of its input and the bias of its signal, with the corrections that every signal takes. -/
def State.rangeOf (s : State) (o : Observation) : Rat :=
  let delay : Int := (s.rd (Reg.GNS_SIN_DLY (s.sigInput o.sig))).toInt + (s.rd (Reg.GNS_BIAS o.sig)).toInt
  ((o.range + o.fixed : Int) : Rat) - mmOf (delay : Rat)

/-- The measurements of a satellite that the solution may take: none from an input of the test generator (R290). -/
def State.measurements (s : State) (t : Satellite) : List Observation :=
  t.obs.filter fun o => decide (o.sig < 19) && !s.sinTest (s.sigInput o.sig)

/-- The range of a satellite, and whether it is the ionosphere-free combination: of the first measurement and the first
on another carrier; with one carrier alone the model's ionosphere is taken. -/
def State.satRange (s : State) (t : Satellite) : Option (Rat × Bool) :=
  match s.measurements t with
  | [] => none
  | o :: os =>
    let f1 := (signalOf o.sig).carrier
    match os.find? fun p => (signalOf p.sig).carrier != f1 with
    | some p =>
      let f2 := (signalOf p.sig).carrier
      let g : Rat := ((f1 * f1 : Nat) : Rat) / (((f1 * f1 : Nat) : Rat) - ((f2 * f2 : Nat) : Rat))
      some (g * s.rangeOf o - (g - 1) * s.rangeOf p, true)
    | none => some (s.rangeOf o + (o.iono : Rat), false)

/-- The distance of two points in mm. -/
def distance (a b : Int × Int × Int) : Nat :=
  let x := a.1 - b.1
  let y := a.2.1 - b.2.1
  let z := a.2.2 - b.2.2
  wholeRoot (x * x + y * y + z * z).toNat

/-- The position in use: held, or solved (R315). -/
def State.positionHeld (s : State) : Bool := s.nav.held.isSome
def State.position (s : State) (sol : Solution) : Int × Int × Int := s.nav.held.getD (sol.x, sol.y, sol.z)

/-- What a satellite's range says of the receiver clock against its own constellation, in mm. -/
def State.clockRange (s : State) (sol : Solution) (t : Satellite) : Option Rat :=
  (s.satRange t).map fun r => r.1 - ((distance (t.x, t.y, t.z) (s.position sol) : Nat) : Rat)

/-- The residual of a satellite in mm. -/
def State.residualOf (s : State) (sol : Solution) (t : Satellite) : Rat :=
  (s.clockRange sol t).elim 0 fun r =>
    r - mmOf ((sol.bias + (if t.gnss = s.tsys then 0 else sol.isb.getD t.gnss 0) : Int) : Rat)

/-! ### Which satellites count (R310, R312, R328) -/

/-- An aided navigation record for a satellite (R287). -/
def State.aidRecord (s : State) (t : Satellite) : Bool :=
  s.gns.aid.any fun r => r.1 == 3 && r.2.1 == t.gnss && r.2.2.1 == t.sv

/-- Aided data are in use: the satellite's own are not decoded yet. -/
def State.aidedSat (s : State) (t : Satellite) : Bool := !t.decoded && s.aidRecord t

/-- The satellite has clock and orbit data. -/
def State.hasData (s : State) (t : Satellite) : Bool := t.decoded || s.aidRecord t

/-- Above the mask. -/
def State.aboveMask (s : State) (t : Satellite) : Bool := decide ((s.fld Reg.GNS_NAV_CTL 8 8 : Int) < t.elev)

/-- The authentication that counts for a satellite: data that was aided is unauthenticated (R312). -/
def State.dataAuth (s : State) (t : Satellite) : Nat :=
  if s.osnmaOn = false ∨ s.aidedSat t then authNone else s.satAuth t.gnss t.sv

/-- What excludes a satellite for itself: a mismatch of its aided data, a failed tag, or a Doppler more than 20 Hz from the
prediction. -/
def State.ownExclusion (s : State) (t : Satellite) : Nat :=
  if s.nav.mismatched.contains (t.gnss, t.sv) then 5
  else if s.osnmaOn ∧ s.satAuth t.gnss t.sv = authFailed then 4
  else if 20000 < t.doppler.natAbs then 3
  else 0

/-- A satellite that could be used, but for its residual and its constellation. -/
def State.usable (s : State) (t : Satellite) : Bool :=
  s.hasData t && s.aboveMask t && s.ownExclusion t == 0 && (s.satRange t).isSome &&
    !(s.aidedSat t && !s.flag Reg.GNS_NAV_CTL 26) && !(s.flag Reg.GNS_NAV_CTL 25 && s.dataAuth t != authOk)

/-- The usable satellites of the constellations that are not excluded. -/
def State.keptSats (s : State) (sol : Solution) : List Satellite :=
  sol.sats.filter fun t => s.usable t && !s.nav.constOut.any (·.1 == t.gnss)

/-- The constellations among satellites. -/
def constellations (ts : List Satellite) : Nat :=
  ((List.range 7).filter fun g => ts.any fun t => t.gnss == g).length

/-- The fewest satellites of a type: k, or 3 + k with the position solved (R311). -/
def minSats (held : Bool) (k : Nat) : Nat := if held then k else 3 + k

/-- A residual test is possible. -/
def State.raimPossible (s : State) (ts : List Satellite) : Bool :=
  decide (minSats s.positionHeld (constellations ts) + 1 ≤ ts.length)

/-- The residual is above RAIM_THR. -/
def State.overRaim (s : State) (sol : Solution) (t : Satellite) : Bool :=
  decide (((s.fld Reg.GNS_ICHK1 16 16 * 1000 : Nat) : Rat) < absRat (s.residualOf sol t))

/-- The satellite that firmware left out for its residual, where the solution is clean without it (R323). -/
def State.outlier (s : State) (sol : Solution) : Option Satellite :=
  let ks := s.keptSats sol
  ks.find? fun t =>
    let rest := ks.filter (· != t)
    t.residualOut && s.overRaim sol t && s.raimPossible rest && !rest.any (s.overRaim sol)

/-- The satellites that a solution uses. -/
def State.usedSats (s : State) (sol : Solution) : List Satellite :=
  (s.keptSats sol).filter fun t => s.outlier sol != some t

/-- EXCL of a satellite (R334): none where it has no data or is below the mask. -/
def State.exclusion (s : State) (sol : Solution) (t : Satellite) : Nat :=
  if (s.hasData t && s.aboveMask t) = false then 0
  else if s.ownExclusion t ≠ 0 then s.ownExclusion t
  else if s.nav.constOut.any (·.1 == t.gnss) then 2
  else if s.outlier sol = some t then 1
  else 0

/-- USE of a satellite (R334). -/
def State.useOf (s : State) (sol : Solution) (t : Satellite) : Nat :=
  if s.hasData t = false then 4
  else if s.aboveMask t = false then 3
  else if s.exclusion sol t ≠ 0 then 2
  else if s.usable t then 1
  else 0

/-- A satellite's own broadcast data replace the aided data; where the two lie more than 100 m apart it is excluded, as long
as it stays in track (R312). -/
def State.replaceAided (s : State) (sol : Solution) : State :=
  let both := sol.sats.filter fun t => t.decoded && s.aidRecord t
  let off := (both.filter fun t => decide (100000 < t.apart)).map fun t => (t.gnss, t.sv)
  let still := s.nav.mismatched.filter fun e => sol.sats.any fun t => t.gnss == e.1 && t.sv == e.2
  let aid := s.gns.aid.filter fun r => !(r.1 == 3 && both.any fun t => t.gnss == r.2.1 && t.sv == r.2.2.1)
  { s with gns := { s.gns with aid := aid }, nav := { s.nav with mismatched := still.filter (!off.contains ·) ++ off } }

/-! ### The second and the type (R311, R313, R314) -/

/-- Device time at the marker nearest a second. -/
def State.markerTime (s : State) : CT96 := s.gns.near.elim s.now (·.2)

/-- The device second nearest to the marker. -/
def State.nearestSecond (s : State) : Nat := ct96Sec s.markerTime + ofBool (decide (500000000 ≤ ct96Ns s.markerTime))

/-- S in TAI: the second of TSYS and its offset where time of week is decoded, else device time's. -/
def State.solSecond (s : State) (sol : Solution) : Nat :=
  if sol.decoded then sol.second + (if s.tsys = 2 then 33 else 19) else s.nearestSecond

/-- The whole seconds come from time of week, or from device time where the latest aiding time record allows it (R313). -/
def State.secondsKnown (s : State) (sol : Solution) : Bool :=
  sol.decoded || (s.flag Reg.CAL_STATUS 17 &&
    match (s.gns.aid.filter (·.1 == 1)).getLast? with
    | some r => decide (ofLeBytes (r.2.2.2.take 4) ≤ 100000)
    | none => false)

/-- The receiver clock against S: TUTC adds the broadcast UTC correction to the constellation's time (R314). -/
def State.clockBias (s : State) (sol : Solution) : Int := if s.flag Reg.GNS_NAV_CTL 27 then sol.bias - sol.utc else sol.bias

/-- SOLTYPE of a solution (R311). -/
def State.solType (s : State) (sol : Solution) : Nat :=
  let us := s.usedSats sol
  let held := s.positionHeld
  let dual := (us.filter fun t => (s.satRange t).elim false (·.2)).length
  if us = [] ∨ us.length < minSats held (constellations us) ∨ s.secondsKnown sol = false then 0
  else (if held then 3 else 1) + ofBool (decide (4 ≤ dual) && decide (us.length ≤ 2 * dual))

/-! ### Constellation clocks (R325) -/

/-- The mean of rationals, of one at least. -/
def meanRat (l : List Rat) : Rat := l.sum / (l.length : Nat)

/-- The element that stands at a place of the ordered list. -/
def rankedAt (l : List Rat) (k : Nat) : Rat :=
  (l.find? fun v => decide ((l.filter (decide <| · < v)).length ≤ k) && decide (k < (l.filter (decide <| · ≤ v)).length)).getD 0

/-- The median: of an even number, the mean of the middle two. -/
def medianOf (l : List Rat) : Rat := (rankedAt l ((l.length - 1) / 2) + rankedAt l (l.length / 2)) / 2

/-- The inter-system offset of a constellation in ps: broadcast, or the mean over the last 3,600 s of PASS solutions. -/
def State.systemOffset (s : State) (sol : Solution) (g : Nat) : Option Rat :=
  if g = s.tsys then some 0
  else
    match sol.broadcast.getD g none with
    | some v => some (v : Rat)
    | none =>
      match s.nav.isb.find? (·.1 == g) with
      | some e => if e.2 = [] then none else some (meanRat (e.2.map fun p => (p.2 : Rat)))
      | none => none

/-- A constellation's own estimate of the receiver clock against TSYS in ps, where it has 2 usable satellites. -/
def State.systemClock (s : State) (sol : Solution) (g : Nat) : Option Rat :=
  let rs := (sol.sats.filter fun t => t.gnss == g && s.usable t && s.outlier sol != some t).filterMap (s.clockRange sol)
  if rs.length < 2 then none
  else (s.systemOffset sol g).map fun o => meanRat rs * 10 ^ 9 / 299792458 - o

/-- The constellations compared, with their clocks. -/
def State.systemClocks (s : State) (sol : Solution) : List (Nat × Rat) :=
  (List.range 7).filterMap fun g => (s.systemClock sol g).map fun c => (g, c)

/-- Two values differ by more than CONST_THR. -/
def State.overConst (s : State) (a b : Rat) : Bool := decide (((s.fld Reg.GNS_ICHK1 0 16 * 1000 : Nat) : Rat) < absRat (a - b))

/-- The device clock may judge between two constellations. -/
def State.deviceJudges (s : State) : Bool :=
  (s.mode == modeLocked && s.cur.isSome && s.cur != some 0) ||
    (s.mode == modeHoldover && decide (s.errorEstimate < ((s.fld Reg.GNS_ICHK1 0 16 : Nat) : Rat)))

/-- The clock that device time predicts at the marker, in ps. -/
def State.predictedClock (s : State) (sol : Solution) : Rat :=
  ((s.solSecond sol : Nat) : Rat) * 10 ^ 12 - ((ct96ToFrac s.markerTime : Int) : Rat) * 1000 / 65536

/-- The constellations that fail the comparison, and whether two are left unresolved. -/
def State.compareSystems (s : State) (sol : Solution) : List Nat × Bool :=
  let cs := s.systemClocks sol
  if (cs.any fun c => s.overConst c.2 sol.bias) = false then ([], false)
  else if 3 ≤ cs.length then
    let m := medianOf (cs.map (·.2))
    ((cs.filter fun c => s.overConst c.2 m).map (·.1), false)
  else if cs.length = 2 then
    let far := cs.filter fun c => s.overConst c.2 (s.predictedClock sol)
    if s.deviceJudges ∧ far.length = 1 then (far.map (·.1), false) else ([], true)
  else ([], false)

/-- The constellations excluded: each with the seconds that it has agreed since; it returns after CLEAR_T. -/
def State.stepSystems (s : State) (sol : Solution) : State :=
  let bad := (s.compareSystems sol).1
  let compared := (s.systemClocks sol).map (·.1)
  let old := s.nav.constOut.filterMap fun e =>
    if bad.contains e.1 then some (e.1, 0)
    else if compared.contains e.1 = false then some e
    else if s.fld Reg.GNS_ICHK3 24 8 ≤ e.2 + 1 then none
    else some (e.1, e.2 + 1)
  let new := (bad.filter fun g => !s.nav.constOut.any (·.1 == g)).map fun g => (g, 0)
  { s with nav := { s.nav with constOut := old ++ new } }

/-! ### Integrity (R323, R324) -/

/-- The inputs whose noise power exceeds the median of their last hour without JAM by more than JAM_THR. -/
def State.jammed (s : State) (sol : Solution) : List Nat :=
  (List.range 4).filter fun i =>
    let past := s.nav.noise.getD i []
    s.sinEnabled i && past != [] &&
      decide (medianOf (past.map fun v => (v : Rat)) + (s.fld Reg.GNS_ICHK3 8 8 : Nat) < (sol.noise.getD i 0 : Rat))

/-- The C/N0 of 6 or more used satellites lies within 1 dB. -/
def State.cn0Uniform (s : State) (sol : Solution) : Bool :=
  let cs := (s.usedSats sol).map (·.cn0)
  decide (6 ≤ cs.length) && cs.all fun a => cs.all fun b => decide (a < b + 100)

/-- The position solved in parallel lies apart from the one held. -/
def State.positionApart (s : State) (sol : Solution) : Bool :=
  match s.nav.held with
  | some p => decide (5 ≤ (s.usedSats sol).length) && decide (s.fld Reg.GNS_ICHK2 0 16 * 1000 < distance p sol.parallel)
  | none => false

/-- What the conditions look back on, brought up to date: solutions in a row, and the noise of each input. -/
def State.stepConditions (s : State) (sol : Solution) : State :=
  let jam := s.jammed sol
  let noise := (List.range 4).map fun i =>
    let past := s.nav.noise.getD i []
    if s.sinEnabled i ∧ jam.contains i = false then (sol.noise.getD i 0 :: past).take 3600 else past
  { s with nav := { s.nav with
      uniform := if s.cn0Uniform sol then s.nav.uniform + 1 else 0
      apart := if s.positionApart sol then s.nav.apart + 1 else 0, noise := noise } }

/-- Decoded time of week is a whole second or more from device time. -/
def State.secondDiffers (s : State) (sol : Solution) : Bool :=
  s.flag Reg.CAL_STATUS 17 && sol.decoded && s.solSecond sol != s.nearestSecond

/-- A tag over data in use has failed: a satellite's, or the timing parameters that S takes (R329). -/
def State.tagFailure (s : State) (sol : Solution) : Bool :=
  s.osnmaOn && ((sol.sats.any fun t => s.hasData t && s.aboveMask t && s.satAuth t.gnss t.sv == authFailed) ||
    (s.flag Reg.GNS_NAV_CTL 27 && s.tsys == 1 && s.nav.adkd4 == authFailed))

/-- The conditions present at a solution, after what they look back on: bits 0 to 11 in turn. -/
def State.conditions (s : State) (sol : Solution) (jam : List Nat) : Nat :=
  let us := s.usedSats sol
  let bits : List Bool :=
    [!s.raimPossible us, sol.sats.any fun t => [1, 3, 5].contains (s.exclusion sol t),
     s.raimPossible us && us.any (s.overRaim sol), s.nav.constOut != [] || (s.compareSystems sol).2,
     decide (10 ≤ s.nav.uniform), jam != [], s.nav.jumped, decide (10 ≤ s.nav.apart),
     sol.peaks.any fun p => decide (100 < p.1) && decide (30 ≤ p.2.1) && decide (30 ≤ p.2.2),
     s.secondDiffers sol, s.tagFailure sol, s.nav.badTime]
  (bits.zipIdx.map fun b => ofBool b.1 * 2 ^ b.2).sum

/-- The conditions whose level is FAIL. -/
def failMask : Nat := 0xFC4

/-- The integrity state of R324: 0 PASS, 1 WARN, 2 FAIL, which lasts CLEAR_T seconds beyond the last FAIL condition. -/
def integrityOf (flags : Nat) (lastFail : Option Nat) (second clearT : Nat) : Nat :=
  let held : Bool := match lastFail with | some t => decide (second ≤ t + clearT) | none => false
  if flags &&& failMask ≠ 0 ∨ held then 2 else if flags ≠ 0 then 1 else 0

/-- Overall authentication (R329). -/
def State.overallAuth (s : State) (us : List Satellite) : Nat :=
  if s.osnmaOn = false ∨ s.osnmaState = osnmaAlert then authNone
  else if us.all (fun t => s.dataAuth t == authOk) ∧ s.fld Reg.GNS_ICHK3 16 8 ≤ us.length ∧
      ¬ (s.flag Reg.GNS_NAV_CTL 27 ∧ s.tsys = 1 ∧ s.nav.adkd4 ≠ authOk) then authOk
  else authPending

/-- A field of GNS_NAV_STAT that changes, with its source. -/
def State.navField (s : State) (lo n v src : Nat) : State :=
  if s.fld Reg.GNS_NAV_STAT lo n = v then s
  else (s.setFld Reg.GNS_NAV_STAT lo n v).raise src (BitVec.ofNat 32 v)

/-! ### Survey and held position (R315, R316) -/

/-- A position's coordinates. -/
def solutionXyz (t : Solution) : List Int := [t.x, t.y, t.z]

/-- GNS_FPOS as a position in mm. -/
def State.fixedPosition (s : State) : Int × Int × Int :=
  let c (i : Nat) : Int := (ofWords64 (s.rd (Reg.GNS_FPOS (2 * i))) (s.rd (Reg.GNS_FPOS (2 * i + 1)))).toInt
  (c 0, c 1, c 2)

/-- PMODE takes effect at a solution; leaving SURVEY or FIXED discards the held position; APPLY_POS copies GNS_FPOS as it
stands then (R315). -/
def State.navMode (s : State) : State :=
  let m := s.fld Reg.GNS_NAV_CTL 30 2
  let n := s.nav
  let n := if m = n.pmode then n else { n with pmode := m, held := none, survey := (0, [0, 0, 0], [0, 0, 0]) }
  { s with nav := { n with apply := false, held := if n.apply ∧ m = 2 then some s.fixedPosition else n.held } }

/-- The standard error of the mean is at most SURVEY_SD in each axis. -/
def surveyTight (n sd : Nat) (sum sq : List Int) : Bool :=
  (List.zipWith (fun a b => decide ((n : Int) * b - a * a ≤ ((sd * sd * n * n * (n - 1) : Nat) : Int))) sum sq).all (fun b => b)

/-- A solution that the survey averages, and the survey's end: the mean is held and source 102 raised (R316). -/
def State.surveyStep (s : State) (sol : Solution) (ty integ : Nat) : State :=
  if s.nav.pmode ≠ 1 ∨ s.nav.held.isSome ∨ integ ≠ 0 ∨ ¬ (ty = 1 ∨ ty = 2) then s
  else
    let (n, sum, sq) := s.nav.survey
    let n := n + 1
    let sum := List.zipWith (· + ·) sum (solutionXyz sol)
    let sq := List.zipWith (fun a b => a + b * b) sq (solutionXyz sol)
    let t := { s with nav := { s.nav with survey := (n, sum, sq) } }
    if s.fld Reg.GNS_SURVEY 18 14 * 60 ≤ n ∧ surveyTight n (s.fld Reg.GNS_SURVEY 0 18) sum sq then
      let mean (i : Nat) : Int := openDiv (sum.getD i 0) n
      ({ t with nav := { t.nav with held := some (mean 0, mean 1, mean 2) } }).raise 102
    else t

/-- SURVEY of GNS_NAV_STAT. -/
def State.surveyField (s : State) : Nat :=
  if s.nav.pmode = 1 then (if s.nav.held.isSome then 2 else 1)
  else if s.nav.pmode = 2 ∧ s.nav.held.isSome then 3 else 0

/-! ### The fix record (R318) -/

/-- A signed 64-bit value as two words. -/
def words64 (v : Int) : List Word :=
  [BitVec.ofNat 32 (unsigned 64 v), BitVec.ofNat 32 (unsigned 64 v / 2 ^ 32)]

/-- The fix record of a solution. -/
def State.fixRecord (s : State) (sol : Solution) (ty integ auth flags : Nat) : List Word :=
  let us := s.usedSats sol
  let w (n : Nat) : Word := BitVec.ofNat 32 n
  let pos := s.position sol
  let second := s.solSecond sol
  let q : Int := match s.nav.emitted with | some (l, q) => if l = second then q else 0 | none => 0
  [w second, w (second / 2 ^ 32 % 2 ^ 16 + us.length % 256 * 2 ^ 16 + s.nav.seq % 256 * 2 ^ 24),
   w (ty + integ * 2 ^ 3 + auth * 2 ^ 5 + ofBool sol.decoded * 2 ^ 7 + ofBool s.positionHeld * 2 ^ 8 +
     ofBool (us.any s.aidedSat) * 2 ^ 9 + s.tsys * 2 ^ 10 + s.fld Reg.GNS_NAV_CTL 27 1 * 2 ^ 12)]
  ++ (words64 pos.1 ++ (words64 pos.2.1 ++ (words64 pos.2.2 ++
  [w sol.tunc, w sol.punc, w (sol.pdop % 2 ^ 16 + sol.tdop % 2 ^ 16 * 2 ^ 16), w (unsigned 32 sol.drift),
   w ((List.range 7).map fun g => min 15 (us.filter fun t => t.gnss == g).length * 2 ^ (4 * g)).sum,
   w flags, w (unsigned 16 q)])))

/-- A satellite-table entry. -/
def State.tableEntry (s : State) (sol : Solution) (t : Satellite) : Word × Word :=
  (BitVec.ofNat 32 (t.gnss % 16 * 2 ^ 28 + t.sv % 256 * 2 ^ 20 + unsigned 8 t.elev * 2 ^ 12 + t.az % 512 * 2 ^ 3),
   BitVec.ofNat 32 (t.cn0 / 100 % 256 * 2 ^ 24 + s.useOf sol t * 2 ^ 20 + s.exclusion sol t * 2 ^ 16 +
     s.dataAuth t * 2 ^ 14 + ofBool ((s.satRange t).elim false (·.2)) * 2 ^ 13 + ofBool (s.aidedSat t) * 2 ^ 12))

/-- A read of GNS_FIX0 latches the record and the satellite table of its second. -/
def State.readFix (s : State) : Word × State :=
  let t := s.wrWords (Reg.GNS_FIX 0) s.nav.fix
  let t := (List.range 128).foldl (fun u i =>
    let e := s.nav.table.getD i (0xF0000000#32, 0)
    (u.wr (Reg.GNS_SV_A i) e.1).wr (Reg.GNS_SV_B i) e.2) t
  t.plainRead (Reg.GNS_FIX 0)

/-- FIX_READ (R318). -/
def execFixRead (ag : Agent) (s : State) : Host.Outcome State Fault Refusal :=
  .next (s.readAccess ag (Reg.GNS_FIX 0) State.readFix)

/-! ### Broadcast leap data (R317) -/

/-- The device's UTC state differs from the broadcast values. -/
def State.leapDiffers (s : State) (l : Int × Int × Nat) : Bool :=
  s.cal.utc.offsetAt (ct96Sec s.now) != l.1 || (l.2.2 != 0 && s.cal.utc.offsetAt l.2.2 != l.2.1)

/-- GNS_BLEAP written; source 106 where the two differ and did not before, or the broadcast values are new. -/
def State.noteLeap (s : State) : Option (Int × Int × Nat) → State
  | none => s
  | some l =>
    let w := BitVec.ofNat 32 (unsigned 16 l.1 * 2 ^ 16 + unsigned 16 l.2.1)
    let lo := BitVec.ofNat 32 l.2.2
    let hi := BitVec.ofNat 32 (l.2.2 / 2 ^ 32 % 2 ^ 16)
    let fresh := s.rd Reg.GNS_BLEAP != w || s.rd Reg.GNS_BLEAP_AT_L != lo || s.rd Reg.GNS_BLEAP_AT_H != hi
    let t := ((s.wr Reg.GNS_BLEAP w).wr Reg.GNS_BLEAP_AT_L lo).wr Reg.GNS_BLEAP_AT_H hi
    let off := s.leapDiffers l
    let t := if off && (fresh || !s.nav.leapOff) then t.raise 106 else t
    { t with nav := { t.nav with leapOff := off } }

/-! ### The epoch pulse (R319, R320) -/

/-- The pulse for the second after a solution: its PLL_G edge, four to an SCNT, and Q in ps. The ball's edge, a fused delay
after the internal pulse, is to stand at S + 1, a second and the clock bias after the marker. -/
def State.placePulse (s : State) (sol : Solution) (marker : Nat) : Int × Int :=
  let rate : Rat := ((32736 * (10 ^ 12 + sol.drift) : Int) : Rat) / 10 ^ 20
  let x : Rat := ((10 ^ 12 + s.clockBias sol - s.fuse.epochPath : Int) : Rat) * rate
  let n := openNearest x
  (4 * (marker : Int) + n, openRound (((n : Rat) - x) / rate))

/-- The pulse scheduled, with GNS_QERR and GNS_QERR_SEC; none after a solution that is no valid time solution. -/
def State.schedulePulse (s : State) (sol : Solution) (valid : Bool) : State :=
  match valid, s.gns.near with
  | true, some (marker, _) =>
    let label := s.solSecond sol + 1
    let (edge, q) := s.placePulse sol marker
    let t := (s.wr Reg.GNS_QERR_SEC (BitVec.ofNat 32 label)).wr Reg.GNS_QERR (BitVec.ofNat 32 (2 ^ 16 + unsigned 16 q))
    { t with nav := { t.nav with pulse := some (label, q, edge) } }
  | _, _ =>
    let t := s.setFlag Reg.GNS_QERR 16 false
    { t with nav := { t.nav with pulse := none } }

/-! ### The commands -/

/-- Source 101 for each satellite or constellation whose exclusion is new, counted (R323, R325): its system and SV, 0xFF
for a whole constellation. -/
def State.noteExclusions (s : State) (sol : Solution) : State :=
  let sats := (sol.sats.filter fun t => s.exclusion sol t != 0 && s.exclusion sol t != 2).map fun t => (t.gnss, t.sv)
  let now := sats ++ s.nav.constOut.map fun e => (e.1, 0xFF)
  let fresh := now.filter fun e => !s.nav.excluded.contains e
  fresh.foldl (fun u e => (u.bump Reg.GNS_CNT_EXCL 0 32).raise 101 (BitVec.ofNat 32 (e.1 * 256 + e.2)))
    { s with nav := { s.nav with excluded := now } }

/-- Sources 99 and 100 for conditions that set (R323). -/
def State.noteFlags (s : State) (flags jammed : Nat) : State :=
  let old := (s.rd Reg.GNS_IFLAGS).toNat
  let t := s.wr Reg.GNS_IFLAGS (BitVec.ofNat 32 flags)
  let sets (i : Nat) : Bool := flags.testBit i && !old.testBit i
  let t := if [6, 7, 8, 9, 10, 11].any sets then t.raise 99 (BitVec.ofNat 32 flags) else t
  let t := t.setFld Reg.GNS_NAV_STAT 16 4 (jammed % 16)
  if sets 5 then t.raise 100 (BitVec.ofNat 32 (jammed % 16)) else t

/-- The inter-system biases of a PASS solution kept for an hour (R325). -/
def State.keepBiases (s : State) (sol : Solution) (integ : Nat) : State :=
  if integ ≠ 0 then s
  else
    let second := s.solSecond sol
    let kept := (List.range 7).filterMap fun g =>
      let past := ((s.nav.isb.find? (·.1 == g)).elim [] (·.2)).filter fun p => decide (second < p.1 + 3600)
      let now := if g ≠ s.tsys ∧ (s.usedSats sol).any (·.gnss == g) then [(second, sol.isb.getD g 0)] else []
      if past ++ now = [] then none else some (g, past ++ now)
    { s with nav := { s.nav with isb := kept } }

/-- What a solution looks at first: PMODE and APPLY_POS, OSNMA, aided data, and the constellations. -/
def State.beginSolution (s : State) (sol : Solution) : State := (((s.navMode).showOsnma).replaceAided sol).stepSystems sol

/-- SOLUTION (R310 to R320): type, integrity, authentication, the fix record, and the epoch pulse that follows a valid
time solution. -/
def State.solve (s : State) (sol : Solution) : State :=
  let s := s.beginSolution sol
  let jam := s.jammed sol
  let s := s.stepConditions sol
  let us := s.usedSats sol
  let ty := s.solType sol
  let flags := s.conditions sol jam
  let second := s.solSecond sol
  let integ := integrityOf flags s.nav.lastFail second (s.fld Reg.GNS_ICHK3 24 8)
  let auth := s.overallAuth us
  let valid := ty != 0 && integ != 2
  let t := if flags &&& failMask = 0 then s else { s with nav := { s.nav with lastFail := some second } }
  let t := ((t.noteFlags flags (jam.map (2 ^ ·)).sum).noteExclusions sol).noteLeap sol.leap
  let t := ((t.navField 28 3 ty 97).navField 26 2 integ 98).navField 24 2 auth 103
  let t := ((t.setFlag Reg.GNS_NAV_STAT 31 valid).setFlag Reg.GNS_NAV_STAT 21 sol.decoded).setFld
    Reg.GNS_NAV_STAT 8 8 (us.length % 256)
  let fix := s.fixRecord sol ty integ auth flags
  let t := { t with nav := { t.nav with
    fix := fix, table := (sol.sats.take 128).map (s.tableEntry sol), seq := (s.nav.seq + 1) % 256
    jumped := false } }
  let t := if s.flag Reg.GNS_NAV_CTL 23 then t.raise 96 else t
  let t := ((t.surveyStep sol ty integ).keepBiases sol integ).schedulePulse sol valid
  (t.setFld Reg.GNS_NAV_STAT 22 2 t.surveyField).dryRefresh

/-- SOLUTION (R310), from the code phases latched at the marker nearest the second. -/
def execSolution (sol : Solution) (s : State) : Host.Outcome State Fault Refusal :=
  .next (if s.gnsRuns ∧ s.gnssFirmware ∧ s.gns.near.isSome then s.solve sol else s)

/-- The epoch pulse at the GNSS_PPS driver, where that output runs (R269). -/
def State.gppsPulse (s : State) : State :=
  if s.flag Reg.DRY_STATUS 9 then
    { s with dry := { s.dry with
        gpps := some (((s.replica replicaDrypoint).count : Int), s.fld Reg.DRY_GPPS_CTL 0 9) } }
  else s

/-- The scheduled edge comes before the next marker. -/
def State.pulseDue (s : State) (edge : Int) : Bool :=
  decide (4 * (s.gns.scnt : Int) ≤ edge) && decide (edge < 4 * (s.gns.scnt + 81840 : Nat))

/-- EPOCH_PULSE (R319): the pulse scheduled goes out on its PLL_G edge, and none is scheduled (R320). -/
def execEpochPulse (s : State) : Host.Outcome State Fault Refusal :=
  .next (match s.nav.pulse with
    | some (label, q, edge) =>
      if s.gnsRuns && s.pulseDue edge then
        let t := s.setFlag Reg.GNS_QERR 16 false
        State.gppsPulse { t with nav := { t.nav with pulse := none, emitted := some (label, q) } }
      else s
    | none => s)

/-- A read of GNS_QERR_SEC latches GNS_QERR, for one read of it (R320). -/
def State.readQerrSec (s : State) : Word × State :=
  State.plainRead { s with nav := { s.nav with latched := some (s.rd Reg.GNS_QERR) } } Reg.GNS_QERR_SEC

/-- A read of GNS_QERR: as it was latched, else as it stands. -/
def State.readQerr (s : State) : Word × State :=
  match s.nav.latched with
  | some w => (w, { s with nav := { s.nav with latched := none } })
  | none => s.plainRead Reg.GNS_QERR

/-- QERR_READ (R320). -/
def execQerrRead (ag : Agent) (s : State) : Host.Outcome State Fault Refusal :=
  .next (s.readAccess ag Reg.GNS_QERR_SEC State.readQerrSec)

/-- A write of GNS_NAV_CTL (R314, R315). -/
def State.writeNavCtl (s : State) (v : Word) : State :=
  if bitsAt v 30 2 = 3 ∨ bitsAt v 28 2 = 3 ∨ 60 < bitsAt v 8 8 then s.navError 0
  else if bitsAt v 27 3 ≠ s.fld Reg.GNS_NAV_CTL 27 3 ∧ s.cur = some 0 then s.navError 1
  else (s.plainWrite Reg.GNS_NAV_CTL v).showOsnma

/-- NAV_CTL_WRITE (R314). -/
def execNavCtlWrite (ag : Agent) (v : Word) (s : State) : Host.Outcome State Fault Refusal :=
  .next (s.writeAccess ag Reg.GNS_NAV_CTL v fun t => t.writeNavCtl v)

/-- APPLY_POS (R315): refused outside FIXED, and outside 6,300 km to 6,400 km from the Earth's centre. -/
def State.applyPos (s : State) : State :=
  let p := s.fixedPosition
  let d : Int := p.1 * p.1 + p.2.1 * p.2.1 + p.2.2 * p.2.2
  if s.fld Reg.GNS_NAV_CTL 30 2 ≠ 2 ∨ d < 6300000000 ^ 2 ∨ 6400000000 ^ 2 < d then s.navError 3
  else { s with nav := { s.nav with apply := true } }

/-- SURVEY_RESTART (R316). -/
def State.surveyRestart (s : State) : State :=
  let n := { s.nav with survey := (0, [0, 0, 0], [0, 0, 0]), held := if s.nav.pmode = 1 then none else s.nav.held }
  let t := { s with nav := n }
  t.setFld Reg.GNS_NAV_STAT 22 2 t.surveyField

/-- A write of GNS_NAV_CMD. -/
def State.writeNavCmd (s : State) (v : Word) : State :=
  let op := bitsAt v 24 2
  if bitAt v 31 = false then s
  else if op = 1 then s.surveyRestart
  else if op = 2 then s.applyPos
  else if op = 3 then s.osnmaReset
  else s.navError 2

/-- A command of GNS_NAV_CMD with one OP. -/
def State.navCommand (s : State) (ag : Agent) (op : Nat) (v : Word) : State :=
  s.writeAccess ag Reg.GNS_NAV_CMD v fun t => if bitsAt v 24 2 = op then t.writeNavCmd v else t

/-- SURVEY_RESTART (R316). -/
def execSurveyRestart (ag : Agent) (v : Word) (s : State) : Host.Outcome State Fault Refusal :=
  .next (s.navCommand ag 1 v)
/-- APPLY_POS (R315). -/
def execApplyPos (ag : Agent) (v : Word) (s : State) : Host.Outcome State Fault Refusal := .next (s.navCommand ag 2 v)
/-- OSNMA_RESET (R330). -/
def execOsnmaReset (ag : Agent) (v : Word) (s : State) : Host.Outcome State Fault Refusal :=
  .next (s.navCommand ag 3 v)

/-! ### The registers of the block (R334) -/

/-- The range checks of R334. -/
def navRangeOk (off : Nat) (v : Word) : Bool :=
  let inRange (lo n a b : Nat) := decide (a ≤ bitsAt v lo n) && decide (bitsAt v lo n ≤ b)
  if off = Reg.GNS_ICHK1 then inRange 16 16 1 1000 && inRange 0 16 1 10000
  else if off = Reg.GNS_ICHK2 then inRange 16 16 5 10000 && inRange 0 16 1 10000
  else if off = Reg.GNS_ICHK3 then inRange 24 8 1 255 && inRange 16 8 1 16 && inRange 8 8 4 120
  else if off = Reg.GNS_SURVEY then inRange 18 14 1 10080 && inRange 0 18 10 100000
  else if 0x620100 ≤ off ∧ off < 0x620110 then decide (v.toInt.natAbs ≤ 1000000000)
  else if 0x620140 ≤ off ∧ off < 0x62018C then decide (v.toInt.natAbs ≤ 1000000)
  else true

/-- A write to a register of navigation that completes normally. -/
def State.navWrite (s : State) (off : Nat) (v : Word) : State :=
  if off = Reg.GNS_NAV_CTL then s.writeNavCtl v
  else if off = Reg.GNS_NAV_CMD then s.writeNavCmd v
  else if navRangeOk off v = false then s.navError 0
  else s.plainWrite off v

/-- A read of a register of navigation that completes normally. -/
def State.navRead (s : State) (off : Nat) : Word × State :=
  if off = Reg.GNS_FIX 0 then s.readFix
  else if off = Reg.GNS_QERR_SEC then s.readQerrSec
  else if off = Reg.GNS_QERR then s.readQerr
  else s.plainRead off

end Sys2Proof.Machine
end

