-- ==== Sys2Proof/Machine/Graver.lean ====
section
/-!
DEFINITION. Graver (chapter 12): stamping channels with their FIFOs, gates and calibration, the LO scale, and the regression
units.
-/
namespace Sys2Proof.Machine

/-- GRV_ERR bits, source 120 (R353). -/
def State.grvError (s : State) (bit : Nat) : State := s.error Reg.GRV_ERR bit 120

/-- The owner of a channel or unit (R339). -/
def ownsGrv (host : Bool) (ag : Agent) : Bool := if host then isHost ag else isCore ag 6 7

/-- The modes in which the host may own channels 8 to 17 and others may be owned (R339, R44). -/
def State.benchMode (s : State) : Bool := s.mode == modeStaged || s.mode == modeMeasure || s.mode == modeSafe

/-- The channel stamps edges: enabled, calibrated, settled and not done, with PLL_F READY (R344, R345, R409). -/
def State.grvArmed (s : State) (n : Nat) : Bool :=
  let c := s.grvCh n
  c.armed && c.ready && !c.settling && s.pdUp PD_TDC && s.pllReady pllF

/-- A gated measurement completes (R345). -/
def State.grvDone (s : State) (n : Nat) : State :=
  let t := s.setGrvCh n { s.grvCh n with armed := false, isDone := true }
  ((t.disarm (.windowStart (Fin.ofNat 20 n))).disarm (.windowStop (Fin.ofNat 20 n))).grvSticky 4

/-! ### Stamps (R337) -/

/-- Time on a channel's base at the current tick, in 2^-16 ns. -/
def State.grvBase (s : State) (lo : Bool) : Nat :=
  (if lo then s.grv.lo else (s.replica replicaGraver).count) / 2 ^ 16

/-- The stamp of an edge: PLL_F cycle c and code p after the tick. -/
def State.grvStamp (s : State) (n c p : Nat) : CT96 :=
  let q : Int := (s.grvBase (s.onLo n) : Int) + (s.grvCh n).table.getD p 0 + c * 32768 - (s.rd (Reg.GRV_CH_OFS n)).toInt
  ct96OfFrac (q % ((2 ^ 48 * (10 ^ 9 * 2 ^ 16) : Nat) : Int)).toNat

/-- Where an edge lies on the phase grid, as a replica count in 2^-32 ns: 7.8125 ps a step. -/
def State.grvRaw (s : State) (c p : Nat) : Nat := (s.replica replicaGraver).count + (c * 64 + p) * (2 ^ 32 / 128)

/-- SUSPECT of a stamp: a replica mismatch, or a failed calibration (R338, R348). -/
def State.grvSuspect (s : State) (n : Nat) : Bool :=
  (!s.onLo n && s.suspect replicaGraver) || (s.grvCh n).rejected

/-! ### Regression units (R349, R350) -/

/-- Fields of GRV_REGk_CTL. -/
def State.unitEn (s : State) (k : Nat) : Bool := s.flag (Reg.GRV_REG_CTL k) 31
def State.unitCh (s : State) (k : Nat) : Nat := s.fld (Reg.GRV_REG_CTL k) 20 5

/-- The end of a unit's window in 2^-16 ns of its channel's time base. -/
def State.unitEnd (s : State) (k : Nat) : Nat :=
  (s.grvUnit k).start + s.fld (Reg.GRV_REG_CTL k) 0 20 * 1000000 * 2 ^ 16

/-- The result registers of a window from N to RSTAT. Where the fit gives no value (fewer than two stamps that differ in k,
or a period of 0 for Y), and where a value lies outside its register's format, the value is free (log entry 91). -/
def State.unitResult (s : State) (k : Nat) : List Word :=
  let u := s.grvUnit k
  let d := u.n * u.skk - u.sk * u.sk
  let stepped := !s.onLo (s.unitCh k) && u.stepGen != s.fld Reg.CAL_STATUS 8 8
  let valid := decide (3 ≤ u.n) && !u.lost && !stepped && !u.suspect
  let rstat : Word := BitVec.ofNat 32 (ofBool valid * 2 ^ 31 + ofBool u.suspect * 2 ^ 30 + ofBool stepped * 2 ^ 29 +
    ofBool u.lost * 2 ^ 28 + (u.seq + 1) % 65536)
  let f (i : Nat) := Config.freeValue (s.free + i)
  let fit (i : Nat) (lo hi v : Int) : Word64 := if lo ≤ v ∧ v < hi then BitVec.ofInt 64 v else f i
  let mid : List Word :=
    if d = 0 then [lo32 (f 0), hi32 (f 0), lo32 (f 1), hi32 (f 1), lo32 (f 2)]
    else
      let p : Rat := ((u.n * u.skt - u.sk * u.st : Int) : Rat) / (d : Rat)
      let a : Rat := ((u.st : Rat) - p * (u.sk : Rat)) / (u.n : Rat)
      let rss : Rat := (u.stt : Rat) - a * (u.st : Rat) - p * (u.skt : Rat)
      let per := fit 0 0 (2 ^ 64) (openRound (p * 65536))
      let y := if p = 0 then f 1 else fit 1 (-(2 ^ 63)) (2 ^ 63)
        (openRound ((((10 ^ 9 : Nat) : Rat) / (s.fld (Reg.GRV_REG_NOMF k) 0 29 : Nat) / (p / 65536) - 1) * (10 ^ 18 : Nat)))
      let res := (openRound (Config.sqrt (rss / (u.n : Rat)) * 1000 / 65536)).toNat
      [lo32 per, hi32 per, lo32 y, hi32 y, BitVec.ofNat 32 (min res (2 ^ 32 - 1))]
  lo32 (fit 3 0 (2 ^ 32) u.n) :: (mid ++ [rstat])

/-- A window ends and the next begins (R349). -/
def State.unitClose (s : State) (k : Nat) : State :=
  let u := s.grvUnit k
  let t := { s with free := s.free + 4 }
  (t.setGrvUnit k { GrvUnit.reset with
    start := s.unitEnd k, stepGen := s.fld Reg.CAL_STATUS 8 8, seq := (u.seq + 1) % 65536,
    result := s.unitResult k }).grvSticky 5

/-- The compare interval of a channel's stamps: none on the LO scale, whose stamps no compare marks (R348). -/
def State.grvInterval (s : State) (n : Nat) : Option Nat := if s.onLo n then none else some s.cal.compares

/-- An edge of the unit's channel: numbered, and accumulated where its capture was not lost. -/
def GrvUnit.edge (u : GrvUnit) (x : Option (Int × Bool × Option Nat)) : GrvUnit :=
  match x with
  | none => { u with edges := u.edges + 1, lost := true }
  | some (x, suspect, interval) =>
    let first := if u.n = 0 then x else u.first
    let t := x - first
    let k : Int := u.edges
    { u with edges := u.edges + 1, n := u.n + 1, first := first, sk := u.sk + k, skk := u.skk + k * k, st := u.st + t,
             skt := u.skt + k * t, stt := u.stt + t * t, suspect := u.suspect || suspect,
             interval := interval }

/-- The windows that a time has passed end: the one under way, and of those without an edge after it all but the last by
their number alone. -/
def State.unitReach (s : State) (k at_ : Nat) : State :=
  if at_ < s.unitEnd k then s
  else
    let t := s.unitClose k
    if at_ < t.unitEnd k then t
    else
      let u := t.grvUnit k
      let len := t.unitEnd k - u.start
      let skipped := (at_ - u.start) / len - 1
      (t.setGrvUnit k { u with start := u.start + skipped * len, seq := (u.seq + skipped) % 65536 }).unitClose k

/-- A unit takes an edge at a time. -/
def State.unitTake (s : State) (k : Nat) (at_ : Nat) (x : Option (Int × Bool × Option Nat)) : State :=
  if at_ < (s.grvUnit k).start then s
  else
    let t := s.unitReach k at_
    t.setGrvUnit k ((t.grvUnit k).edge x)

/-- Every unit that watches a channel. -/
def State.unitsTake (s : State) (n at_ : Nat) (x : Option (Int × Bool × Option Nat)) : State :=
  (List.range 8).foldl (fun t k => if t.unitEn k && t.unitCh k == n then t.unitTake k at_ x else t) s

/-- REGRESSION_WINDOW_END (R349): the window's end has come on the channel's time base. -/
def execRegressionWindowEnd (k : Fin 8) (s : State) : Host.Outcome State Fault Refusal :=
  .next (if s.unitEn k.val ∧ s.pdUp PD_TDC ∧ s.unitEnd k.val ≤ s.grvBase (s.onLo (s.unitCh k.val)) then
      s.unitClose k.val
    else s)

/-- A read of GRV_REGk_N latches the results of the same window. -/
def State.readUnit (s : State) (k : Nat) : Word × State :=
  (s.wrWords (Reg.GRV_REG_N k) (s.grvUnit k).result).plainRead (Reg.GRV_REG_N k)

/-- REGRESSION_READ (R349). -/
def execRegressionRead (ag : Agent) (k : Fin 8) (s : State) : Host.Outcome State Fault Refusal :=
  .next (s.readAccess ag (Reg.GRV_REG_N k.val) fun t => t.readUnit k.val)

/-! ### The FIFO (R338, R343) -/

/-- A capture lost: counted, GAP on the next record, and the watching units lose an edge that the gate lets through. -/
def State.grvLose (s : State) (n bit at_ : Nat) (gate : Bool) : State :=
  let t := s.bump (Reg.GRV_CH_CNT n) (if bit = 2 then 16 else 0) 16
  let t := t.setGrvCh n { t.grvCh n with gap := true }
  (if gate then t.unitsTake n at_ none else t).grvSticky bit

/-- A stamped edge: SEQ counts it, DECIM keeps one in 2^d, and a full FIFO discards the record. -/
def State.grvPush (s : State) (n : Nat) (stamp : CT96) (falling suspect : Bool) : State :=
  let c := s.grvCh n
  let keep := c.seq % 2 ^ s.fld (Reg.GRV_CH_CTL n) 12 4 == 0
  let c' := { c with seq := (c.seq + 1) % 65536 }
  if keep = false then s.setGrvCh n c'
  else if 4096 ≤ c.fifo.length then
    ((s.setGrvCh n { c' with gap := true }).bump (Reg.GRV_CH_CNT n) 0 16).grvSticky 0
  else
    let flags : Word := BitVec.ofNat 32 (2 ^ 31 + ofBool suspect * 2 ^ 30 + ofBool c.gap * 2 ^ 29 +
      ofBool falling * 2 ^ 28 + c.gen % 16 * 2 ^ 24 + c.seq)
    let t := s.setGrvCh n { c' with fifo := c.fifo ++ [⟨stamp, flags, s.grvInterval n⟩], gap := false }
    if c.fifo.length + 1 = 3072 then t.grvSticky 1 else t

/-- An edge lies inside the last opening and closing of the gate (R345). -/
def GrvChannel.inside (c : GrvChannel) (stamp : CT96) : Bool :=
  match c.opened, c.closed with
  | some o, some x => decide (o.toNat ≤ stamp.toNat) && decide (stamp.toNat < x.toNat)
  | some o, none => decide (o.toNat ≤ stamp.toNat)
  | none, _ => false

/-- The gating of R345: whether the edge is taken, and whether it completes the measurement. -/
def State.gated (s : State) (n : Nat) (stamp : CT96) : Bool × Bool :=
  let c := s.grvCh n
  let m := s.grvMode n
  if m = 0 then (true, false)
  else if m = 1 ∨ m = 2 then (c.inside stamp, false)
  else if m = 3 then
    let a := (s.rd96 (Reg.GRV_CH_WSTART_W n 0)).toNat
    let b := (s.rd96 (Reg.GRV_CH_WSTOP_W n 0)).toNat
    (decide (a ≤ stamp.toNat) && decide (stamp.toNat < b), decide (b ≤ stamp.toNat))
  else if m = 4 then (true, decide (s.fld (Reg.GRV_CH_CTL n) 0 12 ≤ c.taken))
  else (false, false)

/-- An edge of the peer's pulse train on channel 17 (R492): the width of a pulse numbers it, and a pulse whose number and
second are known is reported by a TIMEX message and kept for the S13 offset. -/
def State.peerEdge (s : State) (falling : Bool) (stamp : CT96) : State :=
  if s.flag Reg.PAR_CTRL 31 = false then s
  else if falling = false then { s with pair := { s.pair with rise := some stamp } }
  else
    match s.pair.rise with
    | none => s
    | some r =>
      let wide := decide (400 * 2 ^ 16 < (ct96ToFrac stamp : Int) - ct96ToFrac r)
      let sec := 10 ^ 9 * 2 ^ 16
      let label : Option (Nat × Nat) :=
        if wide then some (0, (ct96ToFrac r + sec / 2) / sec)
        else s.pair.pulse.bind fun p => if p.1 < 1023 then some (p.1 + 1, p.2) else none
      let t := { s with pair := { s.pair with rise := none, pulse := label } }
      match label with
      | none => t
      | some (k, w) =>
        { t with pair := { t.pair with
          queue := if t.flag Reg.PAR_STATUS 24 then t.pair.queue ++ [.timex k w r] else t.pair.queue
          stamps := (k, w, r) :: t.pair.stamps.take 1023 } }

/-- A captured edge is stamped and gated. -/
def State.grvCapture (s : State) (n : Nat) (falling : Bool) (c p : Nat) : State :=
  let stamp := s.grvStamp n c p
  let suspect := s.grvSuspect n
  let (take, done) := s.gated n stamp
  let t := s.setGrvCh n { s.grvCh n with last := some (s.grvRaw c p) }
  let t := if take = false then t
    else
      let x := ct96ToFrac stamp
      let t := t.setGrvCh n { t.grvCh n with taken := (t.grvCh n).taken + 1 }
      let t := (t.grvPush n stamp falling suspect).unitsTake n x (some ((x : Int), suspect, s.grvInterval n))
      let t := if s.onLo n then t else { t with grv := { t.grv with fresh := true } }
      let t := if n = 17 then t.peerEdge falling stamp else t
      if suspect then t.grvSticky 6 else t
  if done then t.grvDone n else t

/-- EDGE_STAMP (R337, R341 to R345): an edge in PLL_F cycle c with phase code p after the current tick. Within a tick the
lower channel numbers come first, so that a third capture is the one lost (R342). -/
def execEdgeStamp (n : Fin 20) (falling : Bool) (c : Fin 3) (p : Fin 64) (s : State) : Host.Outcome State Fault Refusal :=
  let n := n.val
  let ch := s.grvCh n
  let slope := s.grvSlope n
  .next (if c.val * 64 + p.val ≥ 160 ∨ s.grvArmed n = false ∨ (slope = 0 ∧ falling) ∨ (slope = 1 ∧ falling = false) then s
    else
      let div := if 12 ≤ n ∧ n ≤ 15 then (s.rd (Reg.GRV_CH_DIV n)).toNat else 1
      if ch.divided + 1 < div then s.setGrvCh n { ch with divided := ch.divided + 1 }
      else
        let s := s.setGrvCh n { ch with divided := 0 }
        let raw := s.grvRaw c.val p.val
        let stamp := s.grvStamp n c.val p.val
        let lose (bit : Nat) := s.grvLose n bit (ct96ToFrac stamp) (s.gated n stamp).1
        let dead : Bool := match ch.last with
          | some l => decide (l ≤ raw) && decide (raw < l + 2 * 2 ^ 32)
          | none => false
        let now := (s.replica replicaGraver).count
        let used := if s.grv.tick.1 = now then s.grv.tick.2 else 0
        if dead then lose 2
        else if 2 ≤ used then lose 3
        else
          ({ s with grv := { s.grv with tick := (now, used + 1) } }).grvCapture n falling c.val p.val)

/-- The channel waits for its gate or window: armed and calibrated, whether or not its threshold settles (R341, R344). -/
def State.grvWaits (s : State) (n : Nat) : Bool := (s.grvCh n).armed && (s.grvCh n).ready && s.pdUp PD_TDC

/-- A gate edge for one channel that the gate arms (R345). -/
def State.gateChannel (s : State) (g n : Nat) (falling : Bool) (phase : Nat) : State :=
  let c := s.grvCh n
  let m := s.grvMode n
  if s.grvWaits n = false ∨ ¬ (m = 1 ∨ m = 2) ∨ s.fld (Reg.GRV_CH_CTL n) 22 2 ≠ g then s
  else
    let stamp := ct96OfFrac (s.grvBase (s.onLo n) + phase)
    let opens := falling == s.flag (Reg.GRV_CH_CTL n) 21
    if opens then
      if m = 2 ∧ c.opened.isSome then s else s.setGrvCh n { c with opened := some stamp, closed := none }
    else if c.opened.isNone ∨ c.closed.isSome then s
    else
      let t := s.setGrvCh n { c with closed := some stamp }
      if m = 2 then t.grvDone n else t

/-- GATE_EDGE (R345): an edge of GATEg at a phase of 2^-16 ns after the tick; a gate input ignores edges for 2.0 ns after
one. -/
def execGateEdge (g : Fin 4) (falling : Bool) (phase : Nat) (s : State) : Host.Outcome State Fault Refusal :=
  let raw := (s.replica replicaGraver).count + phase * 2 ^ 16
  let dead : Bool := match s.grv.gates.find? (·.1 == g.val) with
    | some (_, l) => decide (l ≤ raw) && decide (raw < l + 2 * 2 ^ 32)
    | none => false
  .next (if (!s.pdUp PD_TDC) || (!s.pllReady pllF) || dead then s
    else
      let t := { s with grv := { s.grv with gates := sparseSet (fun _ => 0) s.grv.gates g.val raw } }
      (List.range 20).foldl (fun u n => u.gateChannel g.val n falling phase) t)

/-- WINDOW_END (R345): the channel's time base passes WSTOP. -/
def execWindowEnd (n : Fin 20) (s : State) : Host.Outcome State Fault Refusal :=
  .next (if s.grvWaits n.val ∧ s.grvMode n.val = 3 ∧
      ct96ToFrac (s.rd96 (Reg.GRV_CH_WSTOP_W n.val 0)) ≤ s.grvBase (s.onLo n.val) then s.grvDone n.val
    else s)

/-- The flags of a record as it leaves the FIFO: SUSPECT also where the compare after it found a mismatch (R21, R348). -/
def State.popFlags (s : State) (r : StampRecord) : Word :=
  match r.interval with
  | some i => putBit r.flags 30 (bitAt r.flags 30 || s.cal.bad.contains (replicaGraver, i))
  | none => r.flags

/-- A read of GRV_CHn_POP_W0: the owner removes the oldest record and latches W1 to W3 (R338, R339). -/
def State.grvPop (s : State) (ag : Agent) (n : Nat) : Word × State :=
  if ownsGrv (s.grvHost n) ag = false then (0, s.grvError 1)
  else
    match (s.grvCh n).fifo with
    | [] => (0, s.wr (Reg.GRV_CH_POP_W n 3) 0)
    | r :: rs =>
      let t := s.setGrvCh n { s.grvCh n with fifo := rs }
      (word96 r.stamp 0, t.wrWords (Reg.GRV_CH_POP_W n 0)
        [word96 r.stamp 0, word96 r.stamp 1, word96 r.stamp 2, s.popFlags r])

/-- The oldest record fails parity (R343): it is discarded and counted, and the next record carries GAP. -/
def State.grvSpoiled (s : State) (n : Nat) : State :=
  let c := s.grvCh n
  match c.fifo with
  | [] => s
  | [_] => (s.setGrvCh n { c with fifo := [], gap := true }).bump (Reg.GRV_CH_CNT n) 0 16
  | _ :: r :: rs =>
    (s.setGrvCh n { c with fifo := { r with flags := putBit r.flags 29 true } :: rs }).bump (Reg.GRV_CH_CNT n) 0 16

/-- FIFO_POP (R338); bad tells that the oldest record fails parity (R343). -/
def execFifoPop (ag : Agent) (n : Fin 20) (bad : Bool) (s : State) : Host.Outcome State Fault Refusal :=
  .next (s.readAccess ag (Reg.GRV_CH_POP_W n.val 0) fun t =>
    (if bad && ownsGrv (t.grvHost n.val) ag then t.grvSpoiled n.val else t).grvPop ag n.val)

/-! ### Channel control (R339, R341, R345, R346) -/

/-- Who may write a channel's configuration: its owner, and the host where the write gives it the channel or takes the
channel from it (R339). -/
def State.grvMayWrite (s : State) (ag : Agent) (n : Nat) (v : Word) : Bool :=
  let change := bitAt v 30 != s.grvHost n
  if change then isHost ag && (!bitAt v 30 || decide (n < 8) || decide (17 < n) || s.benchMode)
  else ownsGrv (s.grvHost n) ag

/-- The window targets that R345 checks at arming: times with NS in range (R11), within reach, and in order. -/
def State.windowOk (s : State) (n : Nat) (lo : Bool) : Bool :=
  let a := s.rd96 (Reg.GRV_CH_WSTART_W n 0)
  let b := s.rd96 (Reg.GRV_CH_WSTOP_W n 0)
  let now := ct96OfFrac (s.grvBase lo)
  ct96Valid a && ct96Valid b && withinCf64 a now && withinCf64 b now && decide (a.toNat < b.toNat)

/-- The fields of CTL that may not change while the channel is enabled (R346): all but EN, OWNER, HYST and CLR. -/
def grvHeld : Word := 0x3FE2FFFF#32

/-- A write of GRV_CHn_CTL. -/
def State.writeGrvCtl (s : State) (ag : Agent) (n : Nat) (v : Word) : State :=
  let off := Reg.GRV_CH_CTL n
  let old := s.rd off
  if s.grvMayWrite ag n v = false then s.grvError 1
  else if bitsAt v 28 2 = 3 ∨ 5 ≤ bitsAt v 24 3 then s.grvError 0
  else if s.grvEn n ∧ bitAt v 31 ∧ (old ^^^ v) &&& grvHeld ≠ 0 then s.grvError 2
  else if bitAt v 31 ∧ bitsAt v 24 3 = 3 ∧ s.windowOk n (bitAt v 30 && bitAt v 27) = false then s.grvError 3
  else
    let t := s.plainWrite off v
    let t := if bitAt v 16 then t.setGrvCh n { t.grvCh n with fifo := [], seq := 0 } else t
    let t := if s.grvEn n ∧ n < 8 ∧ bitsAt v 18 3 ≠ bitsAt old 18 3 then t.setGrvCh n { t.grvCh n with settling := true } else t
    if bitAt v 31 then t.grvArm n
    else
      ((t.setGrvCh n { t.grvCh n with armed := false }).disarm (.windowStart (Fin.ofNat 20 n))).disarm
        (.windowStop (Fin.ofNat 20 n))

/-- CHANNEL_ARM (R345): a write of GRV_CHn_CTL with EN = 1. -/
def execChannelArm (ag : Agent) (n : Fin 20) (v : Word) (s : State) : Host.Outcome State Fault Refusal :=
  .next (s.writeAccess ag (Reg.GRV_CH_CTL n.val) v fun t => if bitAt v 31 then t.writeGrvCtl ag n.val v else t)

/-- FIFO_CLEAR (R343): a write of GRV_CHn_CTL with CLR = 1. -/
def execFifoClear (ag : Agent) (n : Fin 20) (v : Word) (s : State) : Host.Outcome State Fault Refusal :=
  .next (s.writeAccess ag (Reg.GRV_CH_CTL n.val) v fun t => if bitAt v 16 then t.writeGrvCtl ag n.val v else t)

/-- CHANNEL_OWNER_WRITE (R339): a write of GRV_CHn_CTL that changes OWNER. -/
def execChannelOwnerWrite (ag : Agent) (n : Fin 20) (v : Word) (s : State) : Host.Outcome State Fault Refusal :=
  .next (s.writeAccess ag (Reg.GRV_CH_CTL n.val) v fun t =>
    if bitAt v 30 = t.grvHost n.val then t else t.writeGrvCtl ag n.val v)

/-- A write of GRV_CHn_THR: LSRC on channel 18, the threshold elsewhere. -/
def State.writeGrvThr (s : State) (ag : Agent) (n : Nat) (v : Word) : State :=
  if ownsGrv (s.grvHost n) ag = false then s.grvError 1
  else if n = 18 then
    if 0xA < bitsAt v 0 4 then s.grvError 0
    else if s.grvEn n ∧ bitsAt v 0 4 ≠ s.fld (Reg.GRV_CH_THR n) 0 4 then s.grvError 2
    else s.plainWrite (Reg.GRV_CH_THR n) v
  else
    let t := s.plainWrite (Reg.GRV_CH_THR n) v
    if s.grvEn n ∧ n < 8 then t.setGrvCh n { t.grvCh n with settling := true } else t

/-- THRESHOLD_WRITE (R341): a write of GRV_CHn_THR. -/
def execThresholdWrite (ag : Agent) (n : Fin 20) (v : Word) (s : State) : Host.Outcome State Fault Refusal :=
  .next (s.writeAccess ag (Reg.GRV_CH_THR n.val) v fun t => t.writeGrvThr ag n.val v)

/-- THRESHOLD_SETTLE (R341): 2 us later the channel rearms by itself. -/
def execThresholdSettle (n : Fin 20) (s : State) : Host.Outcome State Fault Refusal :=
  .next (s.setGrvCh n.val { s.grvCh n.val with settling := false })

/-- CALTAB_UPDATE (R344): the counts of the 64 codes over 2^20 calibration hits. -/
def binCentres : Nat → List Nat → List Nat
  | _, [] => []
  | below, c :: cs => (openDiv ((2 * below + c : Nat) : Int) 64).toNat :: binCentres (below + c) cs

def execCaltabUpdate (n : Fin 20) (counts : List Nat) (s : State) : Host.Outcome State Fault Refusal :=
  let c := s.grvCh n.val
  .next (if s.flag Reg.GRV_CTRL 0 = false ∨ s.pdUp PD_TDC = false ∨ s.pllReady pllF = false ∨
      counts.length ≠ 64 ∨ counts.sum ≠ 2 ^ 20 then s
    else if counts.any fun k => decide (k < 1024) then
      (s.setGrvCh n.val { c with rejected := true }).grvSticky 7
    else s.setGrvCh n.val { c with table := binCentres 0 counts, gen := c.gen + 1, ready := true, rejected := false })

/-! ### The LO scale (R347) -/

/-- A write of GRV_LOINC_H commits; LOPEND of GRV_STATUS shows it. -/
def State.writeLoincH (s : State) (v : Word) : State :=
  let lo := s.rd Reg.GRV_LOINC_L
  let t := s.wr Reg.GRV_LOINC_H v
  if incrInRange lo v = false then t.grvError 0
  else { t with grv := { t.grv with pendIncr := some ⟨lo, v, applyEdges⟩ } }

/-- LOINC_COMMIT (R347). -/
def execLoincCommit (ag : Agent) (v : Word) (s : State) : Host.Outcome State Fault Refusal :=
  .next (s.writeAccess ag Reg.GRV_LOINC_H v fun t => t.writeLoincH v)

/-- LOINC_APPLY (R347): the 64th TCLK edge after the commit. -/
def execLoincApply (s : State) : Host.Outcome State Fault Refusal :=
  .next (match s.grv.pendIncr with
    | some p =>
      if p.edges = 0 then
        let t := (s.wr Reg.GRV_LOINC_CUR_L p.low).wr Reg.GRV_LOINC_CUR_H p.high
        { t with grv := { t.grv with pendIncr := none } }
      else s
    | none => s)

/-! ### Modes, power and the registers of the block (R339, R351, R353) -/

/-- The device leaves STAGED, MEASURE and SAFE: channels 8 to 17 return to firmware, disabled and empty, and firmware
configures them from the slot settings (R339). -/
def State.grvLeave (s : State) : State :=
  (List.range 10).foldl (fun t i =>
    let n := 8 + i
    let u := (t.setFlag (Reg.GRV_CH_CTL n) 30 false).setFlag (Reg.GRV_CH_CTL n) 31 false
    (((u.setGrvCh n { u.grvCh n with fifo := [], armed := false }).disarm (.windowStart (Fin.ofNat 20 n))).disarm
      (.windowStop (Fin.ofNat 20 n))).refChannel n) s

/-- A unit begins its windows at the next whole second of its channel's time base (R349). -/
def State.unitBegin (s : State) (k : Nat) : State :=
  let sec := 10 ^ 9 * 2 ^ 16
  let now := s.grvBase (s.onLo (s.unitCh k))
  s.setGrvUnit k { GrvUnit.reset with
    start := (now / sec + 1) * sec, stepGen := s.fld Reg.CAL_STATUS 8 8, seq := (s.grvUnit k).seq
    result := (s.grvUnit k).result }

/-- PD_TDC powers up: FIFOs empty, results invalid, the LO scale at 0; enabled channels arm once calibrated (R351), and
enabled units begin (log entry 91). -/
def State.grvStart (s : State) : State :=
  let t := { s with grv := { GrvState.reset with pendIncr := s.grv.pendIncr } }
  let t := (List.range 20).foldl (fun u n => if u.grvEn n then u.grvArm n else u) t
  (List.range 8).foldl (fun u k => if u.unitEn k then u.unitBegin k else u) t

/-- A write of GRV_REGk_CTL or GRV_REGk_NOMF (R350): CH, WLEN and NOMF change only with EN = 0. -/
def State.writeUnit (s : State) (ag : Agent) (k off : Nat) (v : Word) : State :=
  let ctl := off = Reg.GRV_REG_CTL k
  let host := s.flag (Reg.GRV_REG_CTL k) 30
  let mine := if ctl ∧ bitAt v 30 ≠ host then isHost ag else ownsGrv host ag
  if mine = false then s.grvError 1
  else if ctl then
    if 19 < bitsAt v 20 5 ∨ bitsAt v 0 20 < 1 ∨ 1000000 < bitsAt v 0 20 then s.grvError 0
    else if s.unitEn k ∧ bitAt v 31 ∧ bitsAt v 0 25 ≠ s.fld off 0 25 then s.grvError 2
    else
      let t := s.plainWrite off v
      if bitAt v 31 ∧ s.unitEn k = false then t.unitBegin k else t
  else if bitsAt v 0 29 < 1 ∨ 500000000 < bitsAt v 0 29 then s.grvError 0
  else if s.unitEn k ∧ bitsAt v 0 29 ≠ s.fld off 0 29 then s.grvError 2
  else s.plainWrite off v

/-- A write to a register of the GRV block that completes normally. -/
def State.grvWrite (s : State) (ag : Agent) (off : Nat) (v : Word) : State :=
  if 0x500100 ≤ off ∧ off < 0x500600 then
    let n := (off - 0x500100) / 0x40
    let r := off % 0x40
    if r = 0 then s.writeGrvCtl ag n v
    else if r = 4 then s.writeGrvThr ag n v
    else if ownsGrv (s.grvHost n) ag = false then s.grvError 1
    else if r = 8 then
      (if n < 12 ∨ 15 < n then s
       else if v = 0 then s.grvError 0
       else if s.grvEn n ∧ v ≠ s.rd off then s.grvError 2
       else s.plainWrite off v)
    else s.plainWrite off v
  else if 0x500800 ≤ off then s.writeUnit ag ((off - 0x500800) / 0x40) off v
  else if off = Reg.GRV_LOINC_H then s.writeLoincH v
  else if 0x500040 ≤ off ∧ off < 0x500050 then
    (if v.toNat < 1 ∨ 250000000 < v.toNat then s.grvError 0
     else (s.plainWrite off v).refDivider ((off - 0x500040) / 4 + 1))
  else s.plainWrite off v

/-- GRV_STATUS as the state gives it. -/
def State.grvStatus (s : State) : Word :=
  BitVec.ofNat 32 (ofBool (s.pdUp PD_TDC) * 2 ^ 31 + ofBool s.grv.pendIncr.isSome * 2 ^ 30 +
    ((List.range 20).map fun n => ofBool (s.grvCh n).ready * 2 ^ n).sum)

/-- GRV_CHn_STAT as the state gives it. -/
def State.grvChStat (s : State) (n : Nat) : Word :=
  let c := s.grvCh n
  BitVec.ofNat 32 (ofBool (s.grvArmed n) * 2 ^ 31 + ofBool c.ready * 2 ^ 30 +
    ofBool (c.opened.isSome && c.closed.isNone) * 2 ^ 29 + ofBool c.isDone * 2 ^ 28 + c.gen % 16 * 2 ^ 24 + c.fifo.length)

/-- A read of a register of the GRV block that completes normally. -/
def State.grvRead (s : State) (ag : Agent) (off : Nat) : Word × State :=
  if off = Reg.GRV_STATUS then (s.grvStatus, s)
  else if 0x500100 ≤ off ∧ off < 0x500600 then
    let n := (off - 0x500100) / 0x40
    if off % 0x40 = 0x2C then s.grvPop ag n
    else if off % 0x40 = 0x28 then (s.grvChStat n, s)
    else s.plainRead off
  else if 0x500800 ≤ off ∧ off % 0x40 = 8 then s.readUnit ((off - 0x500800) / 0x40)
  else s.plainRead off

end Sys2Proof.Machine
end

