-- ==== Sys2Proof/Machine/Global.lean ====
section
/-!
DEFINITION. Operating modes as global control enters them (chapter 16): what returns to firmware as the device leaves
STAGED, MEASURE and SAFE, and the entry into SAFE.
-/
namespace Sys2Proof.Machine

/-- The modes in which the host may own what R44, R290, R339 and R438 name. -/
def hostMode (m : Nat) : Bool := m == modeStaged || m == modeMeasure || m == modeSafe

/-- What returns to firmware, or stops, as the device leaves those modes (R44, R290, R339, R438). -/
def State.leaveHostMode (s : State) : State :=
  let t := ((s.setFlag Reg.CAL_CTRL 0 false).grvLeave.setFlag Reg.CPM_I2C0_CTL 30 false).setFlag Reg.CPM_I2C1_CTL 30 false
  if t.flag Reg.GNS_TPG_CTL 31 then (t.setFlag Reg.GNS_TPG_CTL 31 false).gnsRefresh else t

/-- The device enters a mode (R459): the rules that govern the mode act on ownership, the selector's report and outputs. -/
def State.enterMode (s : State) (m : Nat) : State :=
  let t := s.setMode m
  let t := if hostMode s.mode && !hostMode m then t.leaveHostMode else t
  let t := if t.selFirmware then t.settle else t
  t.dryRefresh

/-- A pair member enters STANDBY: PAR_TKMODE takes the place of the mode that it leaves (R253). -/
def State.goStandby (s : State) : State := (s.setFld Reg.PAR_TKMODE 0 4 s.mode).enterMode modeStandby

/-- The device enters a serving mode, and STANDBY at once where its ROLE is STANDBY (R488). -/
def State.enterServing (s : State) (m : Nat) : State :=
  let t := s.enterMode m
  if t.role = roleStandby ∧ t.answersClients then t.goStandby else t

/-- The bits of GCTL_CAUSE.SAFE (R460). -/
abbrev causeLo : Nat := 8
abbrev causePllT : Nat := 9
abbrev causeTrip : Nat := 10
abbrev causeHost : Nat := 11
abbrev causeNone : Nat := 12
abbrev causeFirmware : Nat := 13

/-- A mode command runs (R459). -/
def State.commandRuns (s : State) : Bool := s.flag Reg.GCTL_MODESTAT 31

/-- A command that runs is ended by SAFE (R459). -/
def State.supersede (s : State) : State :=
  if s.commandRuns then
    let t := (s.setFlag Reg.GCTL_MODESTAT 31 false).setFld Reg.GCTL_MODESTAT 0 8 5
    { t with gctl := { t.gctl with slept := none } }
  else s

/-- A cause of SAFE (R460): its bit sets; in BOOT it takes effect at the end of boot, in DORMANT at the wake. -/
def State.safeCause (s : State) (bit : Nat) : State :=
  if s.mode = modeOff ∨ s.mode = modeReset then s
  else
    let t := s.setFlag Reg.GCTL_CAUSE bit true
    if s.mode = modeBoot ∨ s.mode = modeDormant then { t with gctl := { t.gctl with causes := t.gctl.causes ++ [bit] } }
    else t.supersede.enterMode modeSafe

/-- The junction estimate of R432 in 1/256 °C. -/
def State.junction (s : State) : Int := signed 16 (s.fld (Reg.CPM_TEMP 0) 16 16) + (s.fld Reg.CPM_THERM 0 8 : Int) * 256

/-- The PRESENT bits of GCTL_CAUSE (R461). -/
def State.present (s : State) : Nat :=
  ofBool (!s.flag Reg.CPM_STATUS 30 || !s.pllReady pllT) +
    2 * ofBool (decide ((s.fld Reg.CPM_THERM 8 8 : Int) * 256 < s.junction)) + 4 * ofBool s.gctl.rom

end Sys2Proof.Machine
end

