-- ==== Sys2Proof/Machine/Pair.lean ====
section
/-!
DEFINITION. The redundant pair (chapter 17): the pair link and its messages, roles, epoch and fencing, liveness and takeover,
table mirroring, forming and switching over, and the registers of the PAR block.
-/
namespace Sys2Proof.Machine

/-- A PAR_ERR bit set; source 238 as it goes from 0 to 1 (R498). -/
def State.parError (s : State) (bit : Nat) : State := s.error Reg.PAR_ERR bit 238
abbrev peParam : Nat := 0
abbrev peOwner : Nat := 1
abbrev peMode : Nat := 2
abbrev peCmd : Nat := 3
abbrev peForm : Nat := 4

/-- The bits of PAR_STATUS. -/
abbrev psMsync : Nat := 22
abbrev psForming : Nat := 21
abbrev psAlive : Nat := 23
abbrev psLink : Nat := 24
abbrev psDead : Nat := 25
abbrev psFenceIn : Nat := 26
abbrev psFenceOut : Nat := 27
abbrev psFenced : Nat := 28
abbrev psDeposed : Nat := 29

/-- Pair operation (R486). -/
def State.pairEn (s : State) : Bool := s.flag Reg.PAR_CTRL 31
def State.deposed (s : State) : Bool := s.flag Reg.PAR_STATUS psDeposed
def State.epoch (s : State) : Word := s.rd Reg.PAR_EPOCH

/-- An epoch a is newer than b when (int32)(a - b) > 0 (R486). -/
def epochNewer (a b : Word) : Bool := decide (0 < (a - b).toInt)

/-- The role changes; one that becomes STANDBY takes a serving device to STANDBY (R488). -/
def State.setRole (s : State) (r : Nat) : State :=
  let t := s.setFld Reg.PAR_STATUS 30 2 r
  if r = roleStandby ∧ t.answersClients then t.goStandby else t

/-- The device is deposed (R487, R488): source 234; a takeover that waits ends. -/
def State.depose (s : State) : State :=
  let t := s.setFlag Reg.PAR_STATUS psDeposed true
  let t : State := { t with pair := { t.pair with settling := false } }
  (if t.pairEn then t.setRole roleStandby else t).raise 234

/-! ### Messages (R484, R485) -/

/-- TYPE and payload of a message. -/
def PairBody.bytes : PairBody → Nat × List Byte
  | .heartbeat role mode q flags dsn =>
    (1, [BitVec.ofNat 8 role, BitVec.ofNat 8 mode, BitVec.ofNat 8 q, BitVec.ofNat 8 flags] ++ leBytes 4 0 ++ leBytes 8 dsn.toNat)
  | .form pref dsn => (4, BitVec.ofNat 8 (ofBool pref) :: leBytes 7 0 ++ leBytes 8 dsn.toNat)
  | .formAck role _ => (5, BitVec.ofNat 8 role :: leBytes 7 0)
  | .yield => (6, [])
  | .timex k w t => (2, leBytes 2 k ++ leBytes 2 0 ++ leBytes 4 w ++ leBytes 12 t.toNat)
  | .mirror l => (3, leBytes 4 l.addr ++ [BitVec.ofNat 8 l.mask] ++ leBytes 3 0 ++ l.bytes)

/-- The order in which the link sends: HEARTBEAT, then FORM, FORM_ACK and YIELD, then TIMEX, then MIRROR (R485). -/
def PairBody.rank : PairBody → Nat
  | .heartbeat _ _ _ _ _ => 0
  | .form _ _ => 1
  | .formAck _ _ => 1
  | .yield => 1
  | .timex _ _ _ => 2
  | .mirror _ => 3

/-- The epoch in the header: that of the FORM for a FORM_ACK, else the device's own (R495). -/
def PairBody.epoch (own : Word) : PairBody → Word
  | .formAck _ e => e
  | _ => own

/-- CRC-32C as the manual uses it: ones before and inverted after. -/
def crc32c (bs : List Byte) : Nat := (crcBytes 0xFFFFFFFF bs ^^^ 0xFFFFFFFF#32).toNat

/-- The message on the link: header, payload and CRC (R485). -/
def pairMessage (epoch : Word) (seq : Nat) (b : PairBody) : List Byte :=
  let (ty, p) := b.bytes
  let m := BitVec.ofNat 8 ty :: 0 :: leBytes 2 p.length ++ leBytes 4 (b.epoch epoch).toNat ++ leBytes 4 seq ++ p
  m ++ leBytes 4 (crc32c m)

/-- A message queued; one that finds the link down is not sent. -/
def State.pairQueue (s : State) (b : PairBody) : State :=
  if s.flag Reg.PAR_STATUS psLink then { s with pair := { s.pair with queue := s.pair.queue ++ [b] } } else s

/-- What this device says of itself in a HEARTBEAT. -/
def State.heartbeat (s : State) : PairBody :=
  .heartbeat s.role s.mode (s.fld Reg.SEL_STATUS 16 2)
    (ofBool (s.flag Reg.SEL_STATUS 26) + 2 * ofBool s.deposed + 4 * ofBool (s.flag Reg.PAR_STATUS psMsync)) s.fuse.dsn

/-- The first mirrored line at or above an address (R494). -/
def State.nextLine (s : State) (a : Nat) : Option Nat :=
  let starts := (List.range 4).filterMap fun n =>
    let c := Reg.PAR_MIR_CTL n
    let lo := s.fld c 0 14 * 4096
    let hi := lo + (s.fld c 14 14 + 1) * 4096
    if s.flag c 31 ∧ max a lo < hi then some (max a lo) else none
  starts.min?

/-- The message that the link sends next, and the state without it. -/
def State.nextMessage (s : State) : Option (PairBody × State) :=
  match (List.range 3).findSome? fun r => s.pair.queue.find? fun b => b.rank == r with
  | some b => some (b, { s with pair := { s.pair with queue := s.pair.queue.erase b } })
  | none =>
    match s.pair.mirror with
    | l :: ls => some (.mirror l, { s with pair := { s.pair with mirror := ls } })
    | [] =>
      match s.pair.resync.bind s.nextLine with
      | some a => some (.mirror (s.mirrorLine a), { s with pair := { s.pair with resync := some (a + 64) } })
      | none => none

/-- The pair link carries messages. -/
def State.pairLink (s : State) : Bool := s.pairEn && s.flag Reg.PAR_STATUS psLink && s.pdUp PD_PAIR

/-- PAIR_MESSAGE_SEND (R485): the next queued message in priority order; live mirror lines go before those of a resync. -/
def execPairMessageSend (s : State) : Host.Outcome State Fault Refusal :=
  .next (if s.pairLink = false ∨ s.xqRuns 0x49 = false then s
    else
      match s.nextMessage with
      | none => s
      | some (b, t) =>
        { t with pair := { t.pair with sent := t.pair.sent ++ [pairMessage t.epoch t.pair.seq b], seq := t.pair.seq + 1 } })

/-! ### The link (R484) -/

/-- PAIR_LINK_UP: the bonded lanes train; a retired lane keeps the link down (R471). -/
def execPairLinkUp (s : State) : Host.Outcome State Fault Refusal :=
  .next (if s.pdUp PD_PAIR ∧ s.pllReady pllPair ∧ s.lanesFree [16, 17] then s.setFlag Reg.PAR_STATUS psLink true else s)

/-- The link is lost with what waits for it, but for the mirror queue. -/
def State.pairLinkLost (s : State) : State :=
  let t := s.setFlag Reg.PAR_STATUS psLink false
  { t with pair := { t.pair with queue := [] } }

/-- PAIR_LINK_DOWN: the lanes lose lock, and each is tested (R471). -/
def execPairLinkDown (s : State) : Host.Outcome State Fault Refusal :=
  .next (if s.flag Reg.PAR_STATUS psLink then
      (s.pairLinkLost.startTest (unitLane 16) 0).startTest (unitLane 17) 0
    else s)

/-! ### Epochs (R488) -/

/-- A message that R488 lets through; what a newer epoch does is done. -/
def State.admitEpoch (s : State) (e : Word) : Option State :=
  if e = s.epoch then some s
  else if epochNewer e s.epoch then some ((s.wr Reg.PAR_EPOCH e).depose)
  else none

/-- A message received: discarded with a bad CRC, counted as stale, or handled by k. -/
def State.receivePair (s : State) (crc : Bool) (e : Word) (k : State → State) : State :=
  if s.pairLink = false then s
  else if crc = false then s.bump Reg.PAR_CNT_CRC 0 32
  else
    match s.admitEpoch e with
    | none => s.bump Reg.PAR_CNT_STALE 0 32
    | some t => k t

/-! ### Liveness and takeover (R489, R490) -/

/-- Heartbeats are sent: EN, PD_PAIR on, and no watchdog of SC0 or SC1 expired (R478, R489). -/
def State.heartbeats (s : State) : Bool :=
  s.pairEn && s.pdUp PD_PAIR && !s.flag Reg.REL_WDG_STAT 0 && !s.flag Reg.REL_WDG_STAT 1

/-- HEARTBEAT_TX (R489). -/
def execHeartbeatTx (s : State) : Host.Outcome State Fault Refusal :=
  .next (if s.heartbeats then
      State.pairQueue { s with pair := { s.pair with alive := !s.pair.alive } } s.heartbeat
    else s)

/-- The peer is declared dead (R489): source 232. -/
def State.declareDead (s : State) : State :=
  if s.flag Reg.PAR_STATUS psDead then s else (s.setFlag Reg.PAR_STATUS psDead true).raise 232

/-- HEARTBEAT_INTERVAL (R489): five intervals missed in a row declare the peer dead where PAIR_ALIVE_IN is silent, and a link
failure where it toggles. -/
def execHeartbeatInterval (s : State) : Host.Outcome State Fault Refusal :=
  .next (if s.pairEn = false then s
    else if s.pair.got then { s with pair := { s.pair with got := false, missed := 0 } }
    else
      let n := s.pair.missed + 1
      let t := State.bump { s with pair := { s.pair with missed := n } } Reg.PAR_CNT_HBMISS 0 32
      if n < 5 then t
      else if t.flag Reg.PAR_STATUS psAlive = false then t.declareDead
      else if n = 5 then t.raise 236
      else t)

/-- PAIR_ALIVE_IN_EDGE (R489). -/
def execPairAliveInEdge (s : State) : Host.Outcome State Fault Refusal := .next (s.setFlag Reg.PAR_STATUS psAlive true)

/-- PAIR_ALIVE_SILENCE (R489): with five intervals missed the peer is dead; while heartbeats arrive the silence is logged. -/
def execPairAliveSilence (s : State) : Host.Outcome State Fault Refusal :=
  .next (if s.flag Reg.PAR_STATUS psAlive = false then s
    else
      let t := s.setFlag Reg.PAR_STATUS psAlive false
      if t.pairEn = false then t else if 5 ≤ t.pair.missed then t.declareDead else t.log 236)

/-- What the last heartbeat told: PAR_STATUS, the peer's DSN and epoch, and how often it was ACTIVE without answering. -/
def State.notePeer (s : State) (e : Word) (h : Heartbeat) : State :=
  let dumb := decide (h.role.val = roleActive) && !(decide (4 ≤ h.mode.toNat) && decide (h.mode.toNat ≤ 7))
  let before := match s.pair.peer with | some p => p.dumb | none => 0
  let t := ((s.setFld Reg.PAR_STATUS 8 4 h.mode.toNat).setFld Reg.PAR_STATUS 6 2 h.qlevel.val).setFld Reg.PAR_STATUS 4 2 h.role.val
  let t := ((t.wr Reg.PAR_PEER_DSN_L (lo32 h.dsn)).wr Reg.PAR_PEER_DSN_H (hi32 h.dsn)).setFlag Reg.PAR_STATUS psDead false
  let t := if 5 ≤ t.pair.missed ∧ t.pair.got = false then t.raise 236 else t
  let t := if t.role = roleActive then t else t.setFlag Reg.PAR_STATUS psMsync h.msync
  { t with pair := { t.pair with
    peerEpoch := some e, got := true, peer := some ⟨h.deposed, h.msync, if dumb then before + 1 else 0⟩ } }

/-- HEARTBEAT_RX (R488, R489, R496): the heartbeat of the new epoch completes a YIELD without deposing. -/
def execHeartbeatRx (crc : Bool) (epoch : Word) (h : Heartbeat) (s : State) : Host.Outcome State Fault Refusal :=
  .next (if s.pairLink ∧ crc ∧ s.pair.yielding ∧ epoch = s.epoch + 1 then
      let t := s.wr Reg.PAR_EPOCH epoch
      State.notePeer { t with pair := { t.pair with yielding := false } } epoch h
    else s.receivePair crc epoch fun t => t.notePeer epoch h)

/-- A device that may take over (R490). -/
def State.mayTakeOver (s : State) : Bool := s.role == roleStandby && s.mode == modeStandby && !s.deposed && !s.pair.settling

/-- Step 1 of R490: the epoch advances and FENCE_OUT is asserted. -/
def State.takeOver (s : State) : State :=
  let t := (s.wr Reg.PAR_EPOCH (s.epoch + 1)).setFlag Reg.PAR_STATUS psFenceOut true
  { t with pair := { t.pair with settling := true } }

/-- Steps 3 and 4 of R490: ROLE ACTIVE, the mode of PAR_TKMODE, a heartbeat in the new epoch, source 233 and a log entry. -/
def State.takenOver (s : State) : State :=
  let t := s.setRole roleActive
  let t := if t.mode = modeStandby then t.enterMode (t.fld Reg.PAR_TKMODE 0 4) else t
  let t := (t.pairQueue t.heartbeat).report 233
  { t with pair := { t.pair with settling := false } }

/-- A PAR_CMD command: k where it is accepted; refused with CMD otherwise. -/
def State.pairCommand (s : State) (ok : Bool) (k : State → State) : State := if ok then k s else s.parError peCmd

/-- TAKEOVER by the host. -/
def State.commandTakeover (s : State) : State := s.pairCommand s.mayTakeOver State.takeOver

/-- PAIR_TAKEOVER (R490): the host's command, or a trigger: the peer declared dead, or three heartbeats in a row from an
ACTIVE peer that answers no clients. -/
def execPairTakeover (ag : Option Agent) (s : State) : Host.Outcome State Fault Refusal :=
  let dumb := match s.pair.peer with | some p => p.dumb | none => 0
  .next (match ag with
    | some a => s.writeAccess a Reg.PAR_CMD 0x82000000 State.commandTakeover
    | none => if s.mayTakeOver ∧ (s.flag Reg.PAR_STATUS psDead ∨ 3 ≤ dumb) then s.takeOver else s)

/-- FENCE_SETTLE_END (R490). -/
def execFenceSettleEnd (s : State) : Host.Outcome State Fault Refusal :=
  .next (if s.pair.settling then s.takenOver else s)

/-! ### Fencing (R487) -/

/-- FENCE_IN_ASSERT: an assertion of 100 ns or longer latches FENCED and DEPOSED at its rising edge. -/
def execFenceInAssert (s : State) : Host.Outcome State Fault Refusal :=
  .next (if s.fenceIn then s
    else
      State.depose { ((s.setFlag Reg.PAR_STATUS psFenceIn true).setFlag Reg.PAR_STATUS psFenced true) with fenceIn := true })

/-- FENCE_IN_DEASSERT. -/
def execFenceInDeassert (s : State) : Host.Outcome State Fault Refusal :=
  .next { s.setFlag Reg.PAR_STATUS psFenceIn false with fenceIn := false }

/-! ### Tracking the peer (R492) -/

/-- PAIR_PPS_OUT: high for 200 ns from each k 2^-10 s, and for 600 ns at k = 0, of Drypoint's device time. -/
def State.pairPps (s : State) : Bool :=
  let ps := ct96ToFrac (s.stamp replicaDrypoint 0) % (10 ^ 9 * 2 ^ 16)
  let k := ps * 1024 / (10 ^ 9 * 2 ^ 16)
  let since := ps * 1024 - k * (10 ^ 9 * 2 ^ 16)
  s.pairEn && s.pdUp PD_TDC && decide (since < (if k = 0 then 600 else 200) * 2 ^ 16 * 1024)

/-- TIMEX_RX: the peer's stamp of this device's edge is paired with this device's stamp of the peer's edge of the same number
and second; both edges have the same nominal time, so half the difference is the offset before SEL_SLOT13_COMP. -/
def execTimexRx (crc : Bool) (epoch : Word) (k : BitVec 16) (second : Word) (stamp : CT96) (s : State) :
    Host.Outcome State Fault Refusal :=
  .next (s.receivePair crc epoch fun t =>
    if t.role ≠ roleStandby then t
    else
      match t.pair.stamps.find? fun e => e.1 == k.toNat && e.2.1 % 2 ^ 32 == second.toNat with
      | none => t
      | some (_, _, b) =>
        { t with pair := { t.pair with offset := some (openDiv ((ct96ToFrac stamp : Int) - ct96ToFrac b) 2) } })

/-! ### Table mirroring (R493, R494) -/

/-- A mirrored line written with its poison marks. -/
def State.putLine (s : State) (a mask : Nat) (bs : List Byte) : State :=
  (List.range 8).foldl (fun t i => if mask.testBit i then t.markPoison memPool (a + 8 * i) else t) (s.poolStore a bs)

/-- MIRROR_RX: on the STANDBY device a line is written. -/
def execMirrorRx (crc : Bool) (epoch : Word) (line : Word) (poison : BitVec 8) (bytes : List Byte) (s : State) :
    Host.Outcome State Fault Refusal :=
  .next (s.receivePair crc epoch fun t =>
    if t.role = roleStandby ∧ line.toNat % 64 = 0 ∧ line.toNat < 0x3000000 ∧ bytes.length = 64 ∧ t.pdUp PD_FABRIC then
      t.putLine line.toNat poison.toNat bytes
    else t)

/-- A resync begins: MSYNC clears until it ends without a loss. -/
def State.startResync (s : State) : State :=
  let t := s.setFlag Reg.PAR_STATUS psMsync false
  { t with pair := { t.pair with resync := some 0, lost := false } }

/-- RESYNC by the host, on the ACTIVE device only. -/
def State.commandResync (s : State) : State := s.pairCommand (s.role == roleActive) State.startResync

/-- PAIR_RESYNC (R494). -/
def execPairResync (ag : Agent) (s : State) : Host.Outcome State Fault Refusal :=
  .next (s.writeAccess ag Reg.PAR_CMD 0x84000000 State.commandResync)

/-- RESYNC_DONE (R494): the last line has been sent. -/
def execResyncDone (s : State) : Host.Outcome State Fault Refusal :=
  .next (match s.pair.resync with
    | none => s
    | some a =>
      if (s.nextLine a).isSome then s
      else
        let t : State := { s with pair := { s.pair with resync := none } }
        if s.pair.lost then t else t.setFlag Reg.PAR_STATUS psMsync true)

/-! ### Forming (R495) -/

/-- A FORM message of this device. -/
def State.formMessage (s : State) : PairBody := .form (s.flag Reg.PAR_CTRL 30) s.fuse.dsn

/-- FORM by the host: needs EN. -/
def State.commandForm (s : State) : State :=
  s.pairCommand s.pairEn fun t =>
    State.pairQueue { (t.setFlag Reg.PAR_STATUS psForming true) with pair := { t.pair with forming := some ⟨none⟩ } } t.formMessage

/-- PAIR_FORM (R495). -/
def execPairForm (ag : Agent) (s : State) : Host.Outcome State Fault Refusal :=
  .next (s.writeAccess ag Reg.PAR_CMD 0x81000000 State.commandForm)

/-- FORM_RESEND: every 1 ms. -/
def execFormResend (s : State) : Host.Outcome State Fault Refusal :=
  .next (if s.pair.forming.isSome then s.pairQueue s.formMessage else s)

/-- A FORM ends. -/
def State.formEnds (s : State) : State :=
  { (s.setFlag Reg.PAR_STATUS psForming false) with pair := { s.pair with forming := none } }

/-- FORM_TIMEOUT: 10 s without completion change no role. -/
def execFormTimeout (s : State) : Host.Outcome State Fault Refusal :=
  .next (if s.pair.forming.isSome then s.formEnds.parError peForm else s)

/-- Whether this device becomes the active one: the only ACTIVE device stays it, else the only one with PREF, else the one
with the higher DSN (R495). -/
def State.chosenActive (s : State) (pref : Bool) (dsn : Word64) : Bool :=
  let me := s.role == roleActive
  let peer := s.fld Reg.PAR_STATUS 4 2 == roleActive
  let mine := s.flag Reg.PAR_CTRL 30
  if me != peer then me else if mine != pref then mine else decide (dsn.toNat < s.fuse.dsn.toNat)

/-- The later of two epochs. -/
def laterEpoch (a b : Word) : Word := if epochNewer a b then a else b

/-- FORM_RX (R495): accepted whatever its epoch while a FORM runs; the device chosen as active answers FORM_ACK with the new
epoch. With no FORM running an older one is refused as stale, and a newer one has no effect (R488). -/
def execFormRx (crc : Bool) (epoch : Word) (pref : Bool) (dsn : Word64) (s : State) : Host.Outcome State Fault Refusal :=
  .next (if s.pairLink = false then s
    else if crc = false then s.bump Reg.PAR_CNT_CRC 0 32
    else
      match s.pair.forming with
      | none => if epochNewer s.epoch epoch then s.bump Reg.PAR_CNT_STALE 0 32 else s
      | some f =>
        if s.chosenActive pref dsn = false then s
        else
          let e := f.epoch.getD (laterEpoch s.epoch epoch + 1)
          State.pairQueue { s with pair := { s.pair with forming := some ⟨some e⟩ } } (.formAck roleStandby e))

/-- A completed FORM: epoch and role, FENCED and DEPOSED clear, source 235. -/
def State.formed (s : State) (e : Word) (role : Nat) : State :=
  let t := ((s.formEnds.wr Reg.PAR_EPOCH e).setFlag Reg.PAR_STATUS psFenced false).setFlag Reg.PAR_STATUS psDeposed false
  (t.setRole role).raise 235

/-- FORM_ACK_RX (R495): the standby adopts the epoch and answers; the active then deasserts FENCE_OUT and starts RESYNC. -/
def execFormAckRx (crc : Bool) (epoch : Word) (role : Fin 4) (s : State) : Host.Outcome State Fault Refusal :=
  .next (match s.pair.forming with
    | none => s.receivePair crc epoch id
    | some f =>
      if s.pairLink = false then s
      else if crc = false then s.bump Reg.PAR_CNT_CRC 0 32
      else
        match f.epoch with
        | some e => if epoch = e then ((s.formed e roleActive).setFlag Reg.PAR_STATUS psFenceOut false).startResync else s
        | none =>
          if role.val = roleStandby then (s.formed epoch roleStandby).pairQueue (.formAck roleActive epoch) else s)

/-! ### Switching over (R496) -/

/-- The latest heartbeat shows the peer as a STANDBY that is not deposed and has MSYNC. -/
def State.peerReady (s : State) : Bool :=
  match s.pair.peer with
  | some p => s.fld Reg.PAR_STATUS 4 2 == roleStandby && !p.deposed && p.msync
  | none => false

/-- YIELD, once the mirror queue is empty. -/
def State.sendYield (s : State) : State := if s.pair.mirror = [] then s.pairQueue .yield else s

/-- SWITCHOVER by the host. -/
def State.commandSwitchover (s : State) : State :=
  s.pairCommand (s.role == roleActive && s.peerReady) fun t =>
    let u := t.setRole roleStandby
    State.sendYield { u with pair := { u.pair with yielding := true } }

/-- PAIR_SWITCHOVER (R496). -/
def execPairSwitchover (ag : Agent) (s : State) : Host.Outcome State Fault Refusal :=
  .next (s.writeAccess ag Reg.PAR_CMD 0x83000000 State.commandSwitchover)

/-- YIELD_RESEND: every 10 us. -/
def execYieldResend (s : State) : Host.Outcome State Fault Refusal := .next (if s.pair.yielding then s.sendYield else s)

/-- YIELD_TIMEOUT: no heartbeat of the new epoch within 1 ms. -/
def execYieldTimeout (s : State) : Host.Outcome State Fault Refusal :=
  .next (if s.pair.yielding then State.parError { s with pair := { s.pair with yielding := false } } peCmd else s)

/-- YIELD_RX: the standby takes over with the next epoch and without FENCE_OUT. -/
def execYieldRx (crc : Bool) (epoch : Word) (s : State) : Host.Outcome State Fault Refusal :=
  .next (s.receivePair crc epoch fun t =>
    if t.mayTakeOver ∧ epoch = s.epoch then (t.wr Reg.PAR_EPOCH (t.epoch + 1)).takenOver else t)

/-! ### The registers of the block (R486, R499) -/

/-- Pair operation ends: nothing waits for the peer. -/
def State.pairStop (s : State) : State :=
  { s with pair := { s.pair with queue := [], mirror := [], settling := false, yielding := false, resync := none } }

/-- A write of PAR_CTRL: a change of EN only in BOOT, STAGED, MEASURE and SAFE. -/
def State.writePairCtrl (s : State) (v : Word) : State :=
  let change := bitAt v 31 != s.pairEn
  if bitsAt v 16 8 < 1 ∨ 100 < bitsAt v 16 8 then s.parError peParam
  else if change ∧ ¬ (s.mode = modeBoot ∨ hostMode s.mode) then s.parError peMode
  else
    let t := s.plainWrite Reg.PAR_CTRL v
    if change = false then t
    else if bitAt v 31 then t.setRole roleUnformed
    else (t.formEnds.setRole roleSolo).pairStop

/-- PAIR_ENABLE_WRITE (R486): a write that changes EN. -/
def execPairEnableWrite (ag : Agent) (v : Word) (s : State) : Host.Outcome State Fault Refusal :=
  .next (s.writeAccess ag Reg.PAR_CTRL v fun t => if bitAt v 31 != t.pairEn then t.writePairCtrl v else t)

/-- A write of PAR_CMD. -/
def State.writePairCmd (s : State) (v : Word) : State :=
  if bitAt v 31 = false then s
  else
    match bitsAt v 24 3 with
    | 1 => s.commandForm
    | 2 => s.commandTakeover
    | 3 => s.commandSwitchover
    | 4 => s.commandResync
    | _ => s.parError peCmd

/-- A write of a register of the PAR block that completes normally. -/
def State.parWrite (s : State) (ag : Agent) (off : Nat) (v : Word) : State :=
  if off = Reg.PAR_CTRL then s.writePairCtrl v
  else if off = Reg.PAR_CMD then s.writePairCmd v
  else if off = Reg.PAR_TKMODE then
    if isCore ag 6 7 = false then s.parError peOwner
    else if bitsAt v 0 4 < 4 ∨ 7 < bitsAt v 0 4 then s.parError peParam
    else s.plainWrite off v
  else if Reg.PAR_MIR_CTL 0 ≤ off ∧ off ≤ Reg.PAR_MIR_CTL 3 then
    if ¬ (s.role = roleSolo ∨ s.role = roleUnformed) then s.parError peMode
    else if 12288 ≤ bitsAt v 0 14 + bitsAt v 14 14 then s.parError peParam
    else s.plainWrite off v
  else s.plainWrite off v

/-- A read of a register of the PAR block: HB_TX as heartbeats are sent. -/
def State.parRead (s : State) (off : Nat) : Word × State :=
  if off = Reg.PAR_STATUS then (putBit (s.rd off) 20 s.heartbeats, s) else s.plainRead off

end Sys2Proof.Machine
end

