-- ==== Sys2Proof/Machine/Domains.lean ====
section
/-!
DEFINITION. Power domains as the blocks see them (chapters 01 and 15): what a domain that loses power or is reset loses, the
dual-clock queues of R415, the PLLs of R408, and the start-up of its blocks.
-/
namespace Sys2Proof.Machine

/-! ### Domain state -/

/-- STATE changes: source 212 with d where the event controller accepts raises then (R422). -/
def State.setPd (s : State) (d st : Nat) : State :=
  if s.pd d = st then s
  else
    let t := s.setFld (Reg.CPM_PD_CTL d) 24 3 st
    if t.pdUp PD_FABRIC then t.raise 212 (BitVec.ofNat 32 d) else t

def State.setStage (s : State) (d k : Nat) : State :=
  { s with cpm := { s.cpm with stage := sparseSet (fun _ => 0) s.cpm.stage d k } }

/-- A domain whose switch is closed. -/
def State.powered (s : State) (d : Nat) : Bool :=
  let p := s.pd d
  decide (2 ≤ s.mode) &&
    (p == pdOn || p == pdRequested || p == pdGated || p == pdShuttingDown || (p == pdPoweringUp && s.upStage d != 0))

/-- A domain out of reset: a side of a dual-clock queue that runs (R415). -/
def State.sideUp (s : State) (d : Nat) : Bool :=
  d == PD_AON || (!s.cpm.inReset.contains d &&
    (s.pd d == pdOn || s.pd d == pdRequested || s.pd d == pdGated || (s.pd d == pdPoweringUp && s.upStage d == 2)))

/-! ### PLLs (R408, R409) -/

/-- Some cluster is powered. -/
def State.arrayOn (s : State) : Bool := (List.range 8).any fun k => s.powered (PD_ARRAY k)

/-- The condition under which the CPM runs PLL p. -/
def State.pllUsed (s : State) (p : Nat) : Bool :=
  let gnss := s.powered PD_GNSS_TRK || s.gns.bursting || s.gns.frontEnds != []
  match p with
  | 0 => s.arrayOn
  | 1 => s.powered PD_CRYPTO
  | 2 => decide (2 ≤ s.mode)
  | 3 => s.powered PD_TDC
  | 4 => gnss
  | 5 => s.powered PD_FABRIC
  | 10 => s.powered PD_PCIE
  | 11 => s.powered PD_PAIR
  | 12 => gnss && s.flag Reg.GNS_CLK 0
  | _ => s.powered (PD_SERDES (p - 6)) && s.fld (Reg.PRT_QUAD (p - 6)) 0 3 != 0

/-- The input that a PLL locks to (R406): 0 LO_XI, 1 PCIE_REFCLK, 2 and 3 the SerDes references; PLL_G follows SCLKIN. -/
def pllInput (p : Nat) : Option Nat :=
  match p with
  | 4 => none
  | 6 | 7 => some 2
  | 8 | 9 | 11 => some 3
  | 10 => some 1
  | _ => some 0

/-- Its reference has not been declared lost; PLL_G's, the sample clock, has good windows (R275). -/
def State.refGood (s : State) (p : Nat) : Bool :=
  match pllInput p with
  | some i => !s.cpm.lost.contains i
  | none => decide (p ≠ 4) || decide (0 < s.gns.good)

/-- Every PLL that no domain needs stops. -/
def State.pllSweep (s : State) : State :=
  (List.range 13).foldl (fun t p => if t.pllUsed p then t else t.pllStop p) s

/-! ### Dual-clock queues (R415, R416) -/

/-- The two sides of a queue; PD_AON stands for TCLK and AON. -/
def queueSides (i : Nat) : Nat × Nat :=
  if i < 0x10 then (PD_SERDES (i / 4), PD_FABRIC)
  else if i < 0x20 then (PD_FABRIC, PD_SERDES ((i - 0x10) / 4))
  else if i < 0x30 then (PD_FABRIC, PD_ARRAY (i % 8))
  else if i < 0x40 then (PD_ARRAY (i % 8), PD_CRYPTO)
  else if i < 0x42 then (PD_FABRIC, PD_PCIE)
  else if i < 0x46 then (PD_FABRIC, PD_AON)
  else if i < 0x48 then (PD_GNSS_TRK, PD_FABRIC)
  else (PD_PAIR, PD_FABRIC)

/-- A request for a cluster. -/
def Request.ofCluster (k : Nat) (r : Request) : Bool := clusterOf r.tile == k

/-- The entries of a queue that holds work in this model. -/
def State.queueEntries (s : State) (i : Nat) : Nat :=
  if i < 0x10 then (s.port i).received.length
  else if i < 0x20 then (s.port (i - 0x10)).egress.length
  else if i < 0x28 then (s.net.toArray.filter (Request.ofCluster (i - 0x20))).length
  else if 0x30 ≤ i ∧ i < 0x38 then (s.cry.queued.filter fun j => j.1 / 9 == i - 0x30).length
  else if i = 0x46 then s.gns.queue.length
  else if i = 0x49 then s.pair.mirror.length
  else 0

/-- A queue emptied; a host's frame among them ends as one whose port is absent (R394). -/
def State.emptyQueue (s : State) (i : Nat) : State :=
  if i < 0x10 then s.setPort i { s.port i with received := [] }
  else if i < 0x20 then
    (s.port (i - 0x10)).egress.foldl (fun t f => t.frameEnded f 4) (s.setPort (i - 0x10) { s.port (i - 0x10) with egress := [] })
  else if i < 0x28 then
    { s with net := { s.net with toArray := s.net.toArray.filter fun r => !r.ofCluster (i - 0x20) } }
  else if 0x30 ≤ i ∧ i < 0x38 then { s with cry := { s.cry with queued := s.cry.queued.filter fun j => j.1 / 9 != i - 0x30 } }
  else if i = 0x46 then
    -- R304: dump records lost at a crossing count as late
    let n := s.gns.queue.length
    let t := { s with gns := { s.gns with queue := [] } }
    if n = 0 then t else State.sticky (t.bump Reg.GNS_CNT_LATE 0 32 n) Reg.GNS_STICKY Reg.GNS_STICKY_EN 3 83
  else if i = 0x49 then
    { s with pair := { s.pair with mirror := [], lost := s.pair.lost || s.pair.mirror != [] } }
  else s

/-- State of a queue, with its discard count. -/
def State.setXq (s : State) (i st n : Nat) : State :=
  { s with cpm := { s.cpm with queues := sparseSet (fun _ => (0, 0)) s.cpm.queues i (st, n) } }

/-- One side of a queue enters reset: the other, if it runs, discards what is queued, counts it and stops (R415). -/
def State.stopQueue (s : State) (d i : Nat) : State :=
  let (a, b) := queueSides i
  if a ≠ d ∧ b ≠ d then s
  else
    let other := if a = d then b else a
    let n := if s.sideUp other then s.queueEntries i else 0
    let t := (s.emptyQueue i).setXq i 1 (satAdd (2 ^ 32 - 1) (s.xq i).2 n)
    if n = 0 then t else (t.setFlag Reg.CPM_STICKY 5 true).raise 215 (BitVec.ofNat 32 i)
def State.stopQueues (s : State) (d : Nat) : State := (List.range 74).foldl (fun t i => t.stopQueue d i) s

/-- A side leaves reset: with both sides out of reset the queue resynchronises before any traffic (R416). -/
def State.resyncQueues (s : State) (d : Nat) : State :=
  (List.range 74).foldl (fun t i =>
    let (a, b) := queueSides i
    if (a = d ∨ b = d) ∧ t.sideUp a ∧ t.sideUp b then t.setXq i 2 (t.xq i).2 else t) s

/-! ### What a domain loses (R29, R427) -/

/-- The domain of a unit's self-test (R475). -/
def testDomain (unit row : Nat) : Nat :=
  let i := unit % 0x1000
  match unit / 0x1000 with
  | 1 =>
    match i with
    | 1 => PD_ARRAY (row * 512 / 2 ^ 19 / 9)
    | 6 => PD_AON
    | 7 => PD_GNSS_TRK
    | 8 => PD_CRYPTO
    | 9 => PD_BNE
    | _ => PD_FABRIC
  | 2 => PD_ARRAY (i / 9)
  | 3 => PD_CRYPTO
  | 4 => if i < 16 then PD_SERDES (i / 4) else PD_PAIR
  | _ => PD_GNSS_TRK

/-- Tests whose domain turns off end UNTESTED (R475). -/
def State.abandonTests (s : State) (d : Nat) : State :=
  ((s.rel.tests ++ s.rel.waiting).filter fun u => testDomain u.1 u.2 == d).foldl
    (fun t u => (t.endTest u.1 u.2).verdict u.1 verdictUntested) s

/-- The domain that holds the memory of a poison mark. -/
def poisonDomain (m : Nat × Nat) : Nat := testDomain (unitRow m.1) (m.2 / 512)

/-- The registers of a domain at their reset values, but for those that a rule keeps. -/
def State.dropRegs (s : State) (d : Nat) (keep : Nat → Bool) : State :=
  let mine (off : Nat) : Bool :=
    match regRow off with
    | some (r, _, _) => regDomain r off == d && !keep off
    | none => false
  { s with regs := s.regs.filter fun e => !mine e.1, staged := s.staged.filter fun e => !mine e.1 }

/-- The contexts of a cluster are gone, with what they and its tiles held. -/
def State.clusterLost (s : State) (k : Nat) : State :=
  let mine (l : Nat) := clusterOf l == k
  let s := { s with
    gys := { s.gys with
      contexts := s.gys.contexts.filter fun e => e.1 / 48 / 9 != k
      queued := s.gys.queued.filter fun r => !r.ofCluster k
      initOwed := s.gys.initOwed.filter fun e => !mine e.1
      coreFault := s.gys.coreFault.filter fun l => !mine l
      initFailed := s.gys.initFailed.filter fun l => !mine l
      returning := s.gys.returning.filter fun l => !mine l }
    cry := { s.cry with
      queued := s.cry.queued.filter fun j => j.1 / 9 != k
      running := s.cry.running.filter fun j => j.2.1 / 9 != k
      spoiled := s.cry.spoiled.filter fun j => j.1 / 9 != k }
    cal := { s.cal with comparators := s.cal.comparators.filter fun c =>
      match c.owner with
      | .twait p _ => p.val / 9 != k
      | _ => true } }
  s.checkOld

/-- The L memories of a cluster zeroed. -/
def State.clusterMemoryLost (s : State) (k : Nat) : State :=
  { s with gys := { s.gys with l := s.gys.l.filter fun e => e.1 / 2 ^ 19 / 9 != k } }

/-- PD_FABRIC is gone: packet buffer, requests, table pool, program store, service cores, selector and events. -/
def State.fabricLost (s : State) : State :=
  { s with
    raised := []
    net := { NetState.reset with wire := s.net.wire, ports := s.net.ports.map fun e => (e.1, { e.2 with received := [], egress := [] }) }
    gys := { s.gys with queued := [], pool := [], banks := [], pendSwitch := none, oldBank := none, check := none,
                        initOwed := [], fired := [] }
    cores := { s.cores with cores := [], sram := [] }
    cal := { s.cal with comparators := s.cal.comparators.filter fun c =>
      match c.owner with
      | .core _ => false
      | .timer _ => false
      | _ => true }
    sel := SelState.reset
    nav := NavState.reset }

/-- What the blocks of a domain lose when it is reset: state other than SRAM (R427). -/
def State.blocksLost (s : State) (d : Nat) : State :=
  if d = PD_FABRIC then s.fabricLost
  else if 2 ≤ d ∧ d ≤ 9 then s.clusterLost (d - 2)
  else if d = PD_CRYPTO then s.cryptoLost
  else if d = PD_BNE then s.bneAbort
  else if d = PD_GNSS_ACQ then s.abandonJob
  else if d = PD_GNSS_TRK then s.gnsLost
  else if d = PD_TDC then State.dropOutputs { s with grv := { GrvState.reset with pendIncr := s.grv.pendIncr } }
  else if 15 ≤ d ∧ d ≤ 18 then
    (List.range 4).foldl (fun t i =>
      let n := 4 * (d - 15) + i
      (t.linkDown n).setPort n { PortState.reset with egress := (t.port n).egress, received := (t.port n).received }) s
  else if d = PD_PCIE then s.pcieLost
  else if d = PD_PAIR then s.pairLinkLost
  else s

/-- The memories of a domain lose their contents as it turns off. -/
def State.memoriesLost (s : State) (d : Nat) : State :=
  let t : State := { s with rel := { s.rel with poison := s.rel.poison.filter fun m => poisonDomain m != d } }
  if 2 ≤ d ∧ d ≤ 9 then t.clusterMemoryLost (d - 2)
  else if d = PD_GNSS_TRK then { t with cores := { t.cores with gnss := [] } }
  else t

/-- Registers that outlive their domain: GYS_CTRL.REQSIG from its copy (R443) and DMA_CNT_NOHOST (R382). -/
def keptReg (off : Nat) : Bool := off == Reg.GYS_CTRL || off == Reg.DMA_CNT_NOHOST

/-- A domain enters reset with its power on: its queues act, its blocks lose their state, its SRAM stays (R427). -/
def State.domainReset (s : State) (d : Nat) : State :=
  let t := (s.stopQueues d).blocksLost d
  if d = PD_BNE then t else t.dropRegs d keptReg

/-- A domain loses its power. EVERLOCK tells of the time since the last cold reset, so it outlives PD_FABRIC (R253, log entry
65). -/
def State.domainLost (s : State) (d : Nat) : State :=
  let t := (((s.stopQueues d).abandonTests d).blocksLost d).memoriesLost d
  let t := t.dropRegs d keptReg
  if d = PD_FABRIC then
    ((t.wr Reg.GYS_CTRL (t.rd Reg.GYS_CTRL &&& 2)).setFlag Reg.CPM_CLKSEL 0 false).setFlag Reg.SEL_STATUS 26
      (s.flag Reg.SEL_STATUS 26)
  else t

/-! ### Release from reset and start-up -/

/-- The replicas of a domain's consumers (R20). -/
def domainReplicas (d : Nat) : List Nat :=
  if d = PD_FABRIC then [replicaCores]
  else if 2 ≤ d ∧ d ≤ 9 then [replicaCluster (d - 2)]
  else if d = PD_GNSS_TRK then [replicaGnss]
  else if d = PD_TDC then [replicaGraver, replicaDrypoint]
  else if 15 ≤ d ∧ d ≤ 18 then (List.range 4).map fun i => replicaPort (4 * (d - 15) + i)
  else if d = PD_PCIE then [replicaPtm]
  else []

/-- Replicas loaded and queues resynchronised as a domain leaves reset (R22, R416). -/
def State.released (s : State) (d : Nat) : State := ((domainReplicas d).foldl State.loadReplica s).resyncQueues d

/-- The map of a cluster's tiles after the registers were reset: a retired tile has its spare, or none (R149, R476). -/
def State.remapTile (s : State) (l : Nat) : State :=
  let p := 9 * clusterOf l + l % 8
  let q := 9 * clusterOf l + 8
  if s.tileRetired p = false then s
  else if s.tileRetired q ∨ (s.logical q).isSome then (s.setFlag (Reg.GYS_MAP l) 28 true).setFlag (Reg.GYS_MAP l) 30 true
  else s.setFld (Reg.GYS_MAP l) 0 7 q
def State.remapTiles (s : State) : State :=
  let t := (List.range 64).foldl State.remapTile s
  let spares := ((List.range 8).filter fun k => !t.tileRetired (9 * k + 8) && (t.logical (9 * k + 8)).isNone).length
  t.setFld Reg.GYS_STATUS 8 4 spares

/-- The registers whose reset value is a fuse: the identity's grade (R13), the junction limits (CPM_THERM), the port trims
(R76) and the path offsets of Graver (GRV_CHn_OFS). -/
def fusedReg (off : Nat) : Bool :=
  off == Reg.GCTL_DEVID || off == Reg.CPM_THERM
    || (decide (0x700000 ≤ off) && decide (off < 0x800000) && decide (0x40 ≤ off % 0x10000) && decide (off % 0x10000 < 0x68))
    || (decide (0x500100 ≤ off) && decide (off < 0x500100 + 0x40 * 20) && (off - 0x500100) % 0x40 == 0x0C)

/-- The fused registers of a domain take their fuses as it leaves reset, which is in BOOT or later. -/
def State.loadFactory (s : State) (d : Nat) : State :=
  (s.fuse.factory.filter fun e => fusedReg e.1 && (match regRow e.1 with
    | some (r, _, _) => regDomain r e.1 == d
    | none => false)).foldl (fun t e => t.wr e.1 e.2) s

/-- The blocks of a domain start (R426 step 5); meas is what the power-up tests of PD_CRYPTO find (R202). -/
def State.startBlocks (s : State) (d meas : Nat) : State :=
  if 2 ≤ d ∧ d ≤ 9 then
    let t := s.setFlag Reg.CPM_CLKSEL 2 (!s.pllReady pllA)
    (List.range 8).foldl (fun t i => t.initAndReturn (8 * (d - 2) + i)) t
  else if d = PD_CRYPTO then s.cryptoReady meas
  else if d = PD_BNE then s.bneReset
  else if d = PD_GNSS_TRK then
    let t := (List.range 16).foldl (fun t e =>
      if t.rel.retired.contains (unitEngine e) then t.setFlag Reg.GNS_STATUS (16 + e) false else t) s
    let t := t.setFlag Reg.GNS_STATUS 2 (t.pllReady pllG)
    if t.cpm.retained then State.burstExit { t with cpm := { t.cpm with retained := false } } else t
  else if d = PD_TDC then (s.loadFactory d).grvStart.dryRefresh
  else if d = PD_PCIE then s.resetRegs 0xD00000 0xE00000 Reg.DMA_CNT_NOHOST
  else if 15 ≤ d ∧ d ≤ 18 then (s.loadFactory d).setFlag (Reg.PRT_QUAD (d - 15)) 8 (s.pllReady (pllQuad (d - 15)))
  else s

end Sys2Proof.Machine
end

