-- ==== Sys2Proof/Machine/Power.lean ====
section
/-!
DEFINITION. The clock and power controller (chapter 15): clock inputs and PLLs, clock selection and gating, the power-down
handshake and the power-up order, performance levels, temperatures, the I2C masters, and the registers of the CPM block.
DORMANT and the wake are in Boot.
-/
namespace Sys2Proof.Machine

/-- A CPM_ERR bit set; source 222 as it goes from 0 to 1. -/
def State.cpmError (s : State) (bit : Nat) : State := s.error Reg.CPM_ERR bit 222
abbrev ceParam : Nat := 0
abbrev ceNotReady : Nat := 1
abbrev ceOwner : Nat := 2
abbrev ceState : Nat := 4
abbrev ceTarget : Nat := 5
abbrev ceBusy : Nat := 6

/-- A CPM_STICKY bit set. -/
def State.cpmSticky (s : State) (bit : Nat) : State := s.setFlag Reg.CPM_STICKY bit true

/-- The host, or firmware on SC0 or SC1. -/
def controls (ag : Agent) : Bool := isHost ag || isCore ag 0 1

/-! ### Performance levels (R429 to R431, R506) -/

/-- PEFF. -/
def State.peff (s : State) : Nat := max (s.fld Reg.CPM_PLEVEL 0 2) (s.fld Reg.CPM_PLEVEL 8 2)
def State.pcur (s : State) : Nat := s.fld Reg.CPM_PLEVEL 4 2

/-- VDD_ARRAY of a level in mV (R1). -/
def levelMillivolts (p : Nat) : Nat := [820, 750, 700, 650].getD p 0

/-- A cluster powers up (R431). -/
def State.arrayRising (s : State) : Bool :=
  (List.range 8).any fun k => s.pd (PD_ARRAY k) == pdPoweringUp && s.upStage (PD_ARRAY k) != 0

/-- A write of the level's voltage over AVSBus (R1). -/
def State.avsWrite (s : State) (m : LevelMove) : State :=
  { s with cpm := { s.cpm with avs := s.cpm.avs ++ [levelMillivolts m.target] } }

/-- The regulator accepts the write: VDD_ARRAY goes to the level's voltage. -/
def State.avsAccepted (s : State) (m : LevelMove) : State :=
  { s with cpm := { s.cpm with vddArray := levelMillivolts m.target } }

/-- The sequence in a phase: PLL_A relocks with the array on ALT in phase 1, the voltage is written in 0 and 2. -/
def State.levelPhase (s : State) (m : LevelMove) (phase : Nat) : State :=
  let t : State := { s with cpm := { s.cpm with level := some { m with phase := phase, accepted := none } } }
  if phase = 1 then (t.setFlag Reg.CPM_CLKSEL 2 true).setFlag Reg.CPM_PLL pllA false else t.avsWrite m

/-- A sequence starts where PEFF is not the level in effect, none runs, and no cluster powers up. With no cluster on there
is no clock to relock. -/
def State.startLevel (s : State) : State :=
  if s.cpm.level.isSome ∨ s.peff = s.pcur ∨ s.arrayRising then s
  else
    let up := decide (s.peff < s.pcur)
    let t := s.setFlag Reg.CPM_PLEVEL 12 true
    t.levelPhase ⟨s.peff, up, 0, none⟩ (if up then 0 else if s.arrayOn then 1 else 2)

/-- The sequence ends: CUR, source 216, and the newest PEFF next. -/
def State.endLevel (s : State) (m : LevelMove) : State :=
  let t := (s.setFld Reg.CPM_PLEVEL 4 2 m.target).setFlag Reg.CPM_PLEVEL 12 false
  (State.raise { t with cpm := { t.cpm with level := none } } 216).startLevel

/-- The clocks are done: issue resumes on PLL_A. -/
def State.levelRelocked (s : State) (m : LevelMove) : State :=
  let t := s.setFlag Reg.CPM_CLKSEL 2 (!s.pllReady pllA)
  if m.raising then t.endLevel m else t.levelPhase m 2

/-- A relock that waits for a PLL that no cluster needs any more. -/
def State.levelSweep (s : State) : State :=
  match s.cpm.level with
  | some m => if m.phase = 1 ∧ s.arrayOn = false then s.levelRelocked m else s
  | none => s

/-- The voltage has settled. -/
def State.levelSettled (s : State) (m : LevelMove) : State :=
  if m.phase = 2 then s.endLevel m
  else if s.arrayOn then s.levelPhase m 1
  else s.endLevel m

/-- A failed AVS write (R506). -/
def State.avsFailed (s : State) (m : LevelMove) : State :=
  let t : State := { s with cpm := { s.cpm with level := some { m with accepted := some false } } }
  t.log 0x0102 0 0 (BitVec.ofNat 64 (levelMillivolts m.target))

/-- VSETTLE_END (R429): VSETTLE has passed since the voltage was commanded, and the regulator accepted the write or not. -/
def execVsettleEnd (accepted : Bool) (s : State) : Host.Outcome State Fault Refusal :=
  .next (match s.cpm.level with
    | none => s
    | some m =>
      if m.phase = 1 ∨ m.accepted = some false then s
      else if m.accepted = none ∧ accepted = false then s.avsFailed m
      else (s.avsAccepted m).levelSettled m)

/-- AVS_RETRY (R506): the write is repeated; once accepted, VSETTLE counts from it. -/
def execAvsRetry (accepted : Bool) (s : State) : Host.Outcome State Fault Refusal :=
  .next (match s.cpm.level with
    | none => s
    | some m =>
      if m.accepted ≠ some false then s
      else
        let t := s.avsWrite m
        if accepted then (State.avsAccepted { t with cpm := { t.cpm with level := some { m with accepted := some true } } } m)
        else t.avsFailed m)

/-- A write of CPM_PLEVEL. -/
def State.writePlevel (s : State) (v : Word) : State :=
  if bitsAt v 16 8 < 5 ∨ 200 < bitsAt v 16 8 then s.cpmError ceParam else (s.plainWrite Reg.CPM_PLEVEL v).startLevel

/-- PLEVEL_TARGET_WRITE (R429, R431). -/
def execPlevelTargetWrite (ag : Agent) (v : Word) (s : State) : Host.Outcome State Fault Refusal :=
  .next (s.writeAccess ag Reg.CPM_PLEVEL v fun t => t.writePlevel v)

/-! ### Inputs and PLLs (R406 to R409) -/

/-- What a domain meets as its PLL enters LOSS (R33, R266, R409). -/
def State.pllFail (s : State) (p : Nat) : State :=
  let was := s.pllReady p
  let t := s.pllLost p
  if p = pllT then
    let t := if t.flag Reg.CAL_STATUS 16 then (t.setFlag Reg.CAL_STATUS 16 false).raise 12 else t
    t.safeCause causePllT
  else if p = pllF then (t.setFlag Reg.DRY_STATUS 16 true).dropOutputs
  else if p = pllG then (if was then t.sclkLost else t.setFlag Reg.GNS_STATUS 2 false)
  else if p = pllPcie then { t with pcie := { t.pcie with linkUp := false, downed := t.pcie.downed || t.pcie.linkUp } }
  else if p = pllPair then t.pairLinkLost
  else if 6 ≤ p ∧ p ≤ 9 then
    (List.range 4).foldl (fun u i => u.linkDown (4 * (p - 6) + i)) (t.setFlag (Reg.PRT_QUAD (p - 6)) 8 false)
  else t

/-- What a domain meets as its PLL locks. -/
def State.pllLock (s : State) (p : Nat) : State :=
  let t := s.pllLocked p
  if p = pllA then
    match t.cpm.level with
    | some m => if m.phase = 1 then t.levelRelocked m else t
    | none => t
  else if p = pllT then t.setFlag Reg.CAL_STATUS 16 true
  else if p = pllF then (t.setFlag Reg.DRY_STATUS 16 false).dryRefresh
  else if p = pllG then (if t.pdUp PD_GNSS_TRK then t.setFlag Reg.GNS_STATUS 2 true else t)
  else if 6 ≤ p ∧ p ≤ 9 then (if t.pdUp (PD_SERDES (p - 6)) then t.setFlag (Reg.PRT_QUAD (p - 6)) 8 true else t)
  else t

/-- PLL_READY (R409): lock is held while the PLL runs and its reference is not lost. -/
def execPllReady (p : Fin 13) (s : State) : Host.Outcome State Fault Refusal :=
  .next (if s.pllUsed p.val ∧ s.refGood p.val ∧ s.pllReady p.val = false then s.pllLock p.val else s)

/-- PLL_LOSS (R409): the lock detector drops lock. -/
def execPllLoss (p : Fin 13) (s : State) : Host.Outcome State Fault Refusal :=
  .next (if s.pllUsed p.val ∧ s.pllReady p.val then s.pllFail p.val else s)

/-- The _OK bit of an input. -/
def okBit (i : Nat) : Nat := [30, 29, 27, 28].getD i 0

/-- The monitors run from the end of the power-on reset (R406). -/
def State.monitors (s : State) : Bool := s.mode != modeOff && !s.gctl.por

/-- INPUT_LOSS (R406, R407): an input that was good is lost; the PLLs it feeds enter LOSS. -/
def execInputLoss (i : Fin 4) (s : State) : Host.Outcome State Fault Refusal :=
  .next (if s.monitors = false ∨ s.flag Reg.CPM_STATUS (okBit i.val) = false then s
    else
      let t : State := { s.setFlag Reg.CPM_STATUS (okBit i.val) false with cpm := { s.cpm with lost := s.cpm.lost ++ [i.val] } }
      let t := t.raise 210 (BitVec.ofNat 32 i.val)
      let t := if i.val = 0 then (t.setFlag Reg.CPM_STATUS 31 true).cpmSticky 0 else t.cpmSticky 2
      let t := (List.range 13).foldl (fun u p =>
        if pllInput p = some i.val ∧ u.pllUsed p then u.pllFail p else u) t
      if i.val = 0 then t.safeCause causeLo else t)

/-- INPUT_OK (R406, R407): 1 ms of correct operation; the return of a lost input raises source 211. -/
def execInputOk (i : Fin 4) (s : State) : Host.Outcome State Fault Refusal :=
  .next (if s.monitors = false ∨ s.flag Reg.CPM_STATUS (okBit i.val) then s
    else
      let was := s.cpm.lost.contains i.val
      let t : State := { s.setFlag Reg.CPM_STATUS (okBit i.val) true with
        cpm := { s.cpm with lost := s.cpm.lost.filter (· != i.val) } }
      let t := if i.val = 0 then t.setFlag Reg.CPM_STATUS 31 false else t
      if was then t.raise 211 (BitVec.ofNat 32 i.val) else t)

/-! ### Clock selection (R410, R411) -/

/-- One multiplexer switched to source PLL p, or refused where it is not READY. -/
def State.switchClock (s : State) (bit : Nat) (b ready : Bool) : State :=
  if s.flag Reg.CPM_CLKSEL bit = b then s
  else if ready then s.setFlag Reg.CPM_CLKSEL bit b
  else s.cpmError ceNotReady

/-- A write of CPM_CLKSEL: FABRIC is written by SC0 and SC1 only, CRYPTO also by the host. -/
def State.writeClksel (s : State) (ag : Agent) (v : Word) : State :=
  if controls ag = false then s.cpmError ceOwner
  else
    let t := if isHost ag then (if bitAt v 0 = s.flag Reg.CPM_CLKSEL 0 then s else s.cpmError ceOwner)
      else s.switchClock 0 (bitAt v 0) (!bitAt v 0 || s.pllReady pllH)
    t.switchClock 4 (bitAt v 4) (if bitAt v 4 then s.pllReady pllH else s.pllReady pllC)

/-- CLOCK_SWITCH (R411). -/
def execClockSwitch (ag : Agent) (v : Word) (s : State) : Host.Outcome State Fault Refusal :=
  .next (s.writeAccess ag Reg.CPM_CLKSEL v fun t => t.writeClksel ag v)

/-! ### Power domains (R413, R414, R419 to R427) -/

/-- A domain that no write controls (R419). -/
def fixedDomain (d : Nat) : Bool := d == PD_AON || d == PD_FABRIC || d == PD_PCIE

/-- EN, CLKOFF and ENABLE_PENDING of a domain. -/
def State.pdEn (s : State) (d : Nat) : Bool := s.flag (Reg.CPM_PD_CTL d) 31
def State.setEn (s : State) (d : Nat) (b : Bool) : State := s.setFlag (Reg.CPM_PD_CTL d) 31 b
def State.setEnPending (s : State) (d : Nat) (b : Bool) : State := s.setFlag (Reg.CPM_PD_CTL d) 27 b

/-- A forced request remembered, or forgotten. -/
def State.setForced (s : State) (d : Nat) (b : Bool) : State :=
  let rest := s.cpm.forced.filter (· != d)
  { s with cpm := { s.cpm with forced := if b then rest ++ [d] else rest } }
def State.forced (s : State) (d : Nat) : Bool := s.cpm.forced.contains d

/-- A power-down owed once a power-up ends (R425). -/
def State.owe (s : State) (d : Nat) (o : Option Bool) : State :=
  let rest := s.cpm.owed.filter (·.1 != d)
  { s with cpm := { s.cpm with owed := match o with | some f => rest ++ [(d, f)] | none => rest } }

/-- A domain starts to power up: it waits for its slot. -/
def State.powerUp (s : State) (d : Nat) : State := (s.setStage d 0).setPd d pdPoweringUp

/-- A power-down request (R422): the block ends what R423 says at once. -/
def State.requestDown (s : State) (d : Nat) (force : Bool) : State :=
  let t := (s.setForced d force).setPd d pdRequested
  if d = PD_CRYPTO then t.flushJobs else if d = PD_BNE then t.bneShutdown else t

/-- The EN and FORCE part of a write of CPM_PDd_CTL (R421, R424, R425). -/
def State.writeEn (s : State) (d : Nat) (en force : Bool) : State :=
  let t := s.setEn d en
  let st := s.pd d
  if st = pdOff then (if en then t.powerUp d else t)
  else if st = pdPoweringUp then
    if en then t.owe d none
    else t.owe d (some (force || (s.cpm.owed.any fun o => o.1 == d && o.2)))
  else if st = pdOn ∨ st = pdGated then (if en then t else t.requestDown d force)
  else if st = pdRequested then
    if en then t.setEnPending d true
    else if force then (t.setEnPending d false).setForced d true
    else t.setEnPending d false
  else if st = pdShuttingDown then t.setEnPending d en
  else t

/-- The CLKOFF part (R413): closed at once, or once the accesses in progress have ended. -/
def State.writeClkoff (s : State) (d : Nat) (off busy : Bool) : State :=
  let c := Reg.CPM_PD_CTL d
  if off = s.flag c 29 then s
  else if off then
    let t := s.setFlag c 29 true
    if busy then State.cpmSticky { t with cpm := { t.cpm with closing := t.cpm.closing ++ [d] } } 3
    else t.setPd d pdGated
  else
    let t : State := { s.setFlag c 29 false with cpm := { s.cpm with closing := s.cpm.closing.filter (· != d) } }
    if t.pd d = pdGated then t.setPd d pdOn else t

/-- RESET (R427). -/
def State.startReset (s : State) (d : Nat) : State :=
  let t : State := { s with cpm := { s.cpm with inReset := s.cpm.inReset.filter (· != d) ++ [d] } }
  t.domainReset d

/-- A write of CPM_PDd_CTL; busy tells whether accesses are in progress at the domain's ports. -/
def State.writePd (s : State) (ag : Agent) (d : Nat) (v : Word) (busy : Bool) : State :=
  let st := s.pd d
  if controls ag = false then s.cpmError ceOwner
  else if fixedDomain d then
    if bitAt v 31 = false ∨ bitAt v 30 ∨ bitAt v 29 ∨ bitAt v 28 then s.cpmError ceOwner else s
  else if bitAt v 28 then
    if st = pdOn ∨ st = pdGated then s.startReset d else s.cpmError ceState
  else if bitAt v 29 ∧ s.flag (Reg.CPM_PD_CTL d) 29 = false ∧ st ≠ pdOn then s.cpmError ceState
  else (s.writeClkoff d (bitAt v 29) busy).writeEn d (bitAt v 31) (bitAt v 30)

/-- The value that one of the commands below writes: EN and CLKOFF as they stand but for what it sets. -/
def State.pdWord (s : State) (d : Nat) (en force clkoff reset : Bool) : Word :=
  (ofBool en * 2 ^ 31 + ofBool force * 2 ^ 30 + ofBool clkoff * 2 ^ 29 + ofBool reset * 2 ^ 28 : Nat)
def State.clkoff (s : State) (d : Nat) : Bool := s.flag (Reg.CPM_PD_CTL d) 29

/-- CLOCK_GATE (R413). -/
def execClockGate (ag : Agent) (d : Fin 21) (busy : Bool) (s : State) : Host.Outcome State Fault Refusal :=
  let v := s.pdWord d.val (s.pdEn d.val) false true false
  .next (s.writeAccess ag (Reg.CPM_PD_CTL d.val) v fun t => t.writePd ag d.val v busy)

/-- CLOCK_UNGATE (R413). -/
def execClockUngate (ag : Agent) (d : Fin 21) (s : State) : Host.Outcome State Fault Refusal :=
  let v := s.pdWord d.val (s.pdEn d.val) false false false
  .next (s.writeAccess ag (Reg.CPM_PD_CTL d.val) v fun t => t.writePd ag d.val v false)

/-- PD_ENABLE (R421, R425). -/
def execPdEnable (ag : Agent) (d : Fin 21) (s : State) : Host.Outcome State Fault Refusal :=
  let v := s.pdWord d.val true false (s.clkoff d.val) false
  .next (s.writeAccess ag (Reg.CPM_PD_CTL d.val) v fun t => t.writePd ag d.val v false)

/-- PD_DISABLE (R422). -/
def execPdDisable (ag : Agent) (d : Fin 21) (s : State) : Host.Outcome State Fault Refusal :=
  let v := s.pdWord d.val false false (s.clkoff d.val) false
  .next (s.writeAccess ag (Reg.CPM_PD_CTL d.val) v fun t => t.writePd ag d.val v false)

/-- PD_FORCE_DISABLE (R424). -/
def execPdForceDisable (ag : Agent) (d : Fin 21) (s : State) : Host.Outcome State Fault Refusal :=
  let v := s.pdWord d.val false true (s.clkoff d.val) false
  .next (s.writeAccess ag (Reg.CPM_PD_CTL d.val) v fun t => t.writePd ag d.val v false)

/-- PD_RESET (R427). -/
def execPdReset (ag : Agent) (d : Fin 21) (s : State) : Host.Outcome State Fault Refusal :=
  let v := s.pdWord d.val (s.pdEn d.val) false (s.clkoff d.val) true
  .next (s.writeAccess ag (Reg.CPM_PD_CTL d.val) v fun t => t.writePd ag d.val v false)

/-- GATE_CLOSE (R413): the accesses have ended, or the bus timeout has expired. -/
def execGateClose (d : Fin 21) (expired : Bool) (s : State) : Host.Outcome State Fault Refusal :=
  let n := BitVec.ofNat 32 d.val
  .next (if s.cpm.closing.contains d.val = false then s
    else
      let t : State := { s with cpm := { s.cpm with closing := s.cpm.closing.filter (· != d.val) } }
      let t := if expired then (t.cpmSticky 4).raise 214 n else t
      let t := t.log 214 n 0 (BitVec.ofNat 64 (ofBool expired))
      if t.pd d.val = pdOn then t.setPd d.val pdGated else t)

/-- The reason with which a block refuses an unforced request (R423); 0 where it does not. -/
def State.refusal (s : State) (d : Nat) : Nat :=
  let k := d - 2
  if 2 ≤ d ∧ d ≤ 9 then
    if s.answersClients ∧ ((List.range 8).all fun j => j == k || !s.clusterPowered j) then 1 else 0
  else if d = PD_GNSS_TRK then (if s.cur = some 0 then 2 else 0)
  else if d = PD_TDC then
    let c := match s.cur with | some n => decide (n ≤ 4) || n == 13 | none => false
    let f := match s.fcur with | some n => decide (1 ≤ n) && decide (n ≤ 4) | none => false
    if c || f then 2 else 0
  else if 15 ≤ d ∧ d ≤ 18 then (if s.quadInUse (d - 15) then 1 else 0)
  else if d = PD_PAIR then (if s.role = roleActive ∨ s.role = roleStandby then 5 else 0)
  else 0

/-- A tile of a cluster has a context in use or a request queued. -/
def State.clusterBusy (s : State) (k : Nat) : Bool :=
  s.gys.contexts.any (fun e => e.1 / 48 / 9 == k && e.2.used) || s.gys.queued.any (Request.ofCluster k)

/-- The block answers DELAY (R423). -/
def State.delays (s : State) (d : Nat) : Bool :=
  if 2 ≤ d ∧ d ≤ 9 then s.clusterBusy (d - 2)
  else if d = PD_CRYPTO then s.cry.running != []
  else if d = PD_BNE then !s.bneIdle
  else if d = PD_PCIE then !s.pcie.turnOff
  else false

/-- A request refused (R424). -/
def State.refuseDown (s : State) (d reason : Nat) : State :=
  let t := ((s.setEn d true).setEnPending d false).setFld (Reg.CPM_PD_CTL d) 20 4 reason
  (((t.setForced d false).setPd d pdOn).cpmSticky 6).raise 213 (BitVec.ofNat 32 d)

/-- PD_HANDSHAKE_ANSWER (R422, R423): ACK, DELAY (nothing changes yet) or REFUSE. The acquisition engine ends its cell and
answers ACK (R286). -/
def execPdHandshakeAnswer (d : Fin 21) (s : State) : Host.Outcome State Fault Refusal :=
  let d := d.val
  .next (if s.pd d ≠ pdRequested then s
    else if s.forced d = false ∧ s.refusal d ≠ 0 then s.refuseDown d (s.refusal d)
    else if s.delays d then s
    else (if d = PD_GNSS_ACQ then s.yieldJob else s).setPd d pdShuttingDown)

/-- A forced cluster at its limit (R424): contexts are killed with reason 0x11, queued requests dropped and counted. -/
def State.endCluster (s : State) (k : Nat) : State :=
  let t := (List.range 9).foldl (fun u i => u.killStarted (9 * k + i)) s
  let lost := t.gys.queued.filter (Request.ofCluster k)
  State.dropRequests { t with gys := { t.gys with queued := t.gys.queued.filter fun r => !r.ofCluster k } } lost

/-- PD_DELAY_LIMIT (R424): a forced request proceeds, an unforced one is refused; PD_BNE has no limit. PD_PCIE answers ACK
at its limit (R423). -/
def execPdDelayLimit (d : Fin 21) (s : State) : Host.Outcome State Fault Refusal :=
  let d := d.val
  .next (if s.pd d ≠ pdRequested ∨ d = PD_BNE ∨ s.delays d = false then s
    else if d = PD_PCIE then s.setPd d pdShuttingDown
    else if s.forced d = false then s.refuseDown d 4
    else if 2 ≤ d ∧ d ≤ 9 then
      let t := s.endCluster (d - 2)
      if t.delays d then t else t.setPd d pdShuttingDown
    else s.setPd d pdShuttingDown)

/-- A domain reaches OFF: its PLLs stop, CLKOFF clears, a reset of it is over, and a pending enable powers it up (R414,
R422, R425). -/
def State.turnOff (s : State) (d : Nat) : State :=
  let t := ((s.domainLost d).setForced d false).setPd d pdOff
  let t := { t with cpm := { t.cpm with inReset := t.cpm.inReset.filter (· != d) } }
  let t := ((t.setFlag (Reg.CPM_PD_CTL d) 29 false).pllSweep).levelSweep
  if t.flag (Reg.CPM_PD_CTL d) 27 then ((t.setEnPending d false).setEn d true).powerUp d else t

/-- PD_OFF (R422). -/
def execPdOff (d : Fin 21) (s : State) : Host.Outcome State Fault Refusal :=
  .next (if s.pd d.val = pdShuttingDown then s.turnOff d.val else s)

/-- The fixed order of power-up (R426). -/
def powerOrder : List Nat := [1, 19, 14, 10, 11, 13, 12, 15, 16, 17, 18, 20, 2, 3, 4, 5, 6, 7, 8, 9]

/-- A domain that waits for its slot. -/
def State.awaitsSlot (s : State) (d : Nat) : Bool := s.pd d == pdPoweringUp && s.upStage d == 0

/-- PD_SLOT_START (R426, R431): no earlier domain waits, and a cluster waits for a P-level sequence. -/
def execPdSlotStart (d : Fin 21) (s : State) : Host.Outcome State Fault Refusal :=
  let d := d.val
  .next (if s.awaitsSlot d ∧ (powerOrder.find? s.awaitsSlot) = some d ∧ ¬ (2 ≤ d ∧ d ≤ 9 ∧ s.cpm.level.isSome) then
      s.setStage d 1
    else s)

/-- The PLLs and the domain that a power-up waits for; PD_GNSS_TRK does not wait for PLL_G (R426). -/
def State.clockReady (s : State) (d : Nat) : Bool :=
  if d = PD_FABRIC then s.pllReady pllH
  else if d = PD_PCIE then s.pllReady pllPcie
  else if d = PD_TDC then s.pllReady pllF
  else if d = PD_CRYPTO then s.pllReady pllC
  else if d = PD_GNSS_ACQ then s.pd PD_GNSS_TRK == pdOn
  else if 15 ≤ d ∧ d ≤ 18 then s.fld (Reg.PRT_QUAD (d - 15)) 0 3 == 0 || s.pllReady (pllQuad (d - 15))
  else if d = PD_PAIR then s.pllReady pllPair
  else if 2 ≤ d ∧ d ≤ 9 then s.pllReady pllH && s.pllReady pllA
  else true

/-- The cores leave reset at the boot ROM, whose first action switches FABRIC to PLL_H (R410, R446). -/
def State.romStarts (s : State) : State :=
  let t := ({ s with raised := [] } : State).remapTiles
  let t := t.setFlag Reg.CPM_CLKSEL 0 true
  if t.mode = modeBoot ∧ t.fld Reg.GCTL_BOOT 0 4 = 1 then t.setFld Reg.GCTL_BOOT 0 4 2 else t

/-- PD_RESET_RELEASE (R426 step 4). -/
def execPdResetRelease (d : Fin 21) (s : State) : Host.Outcome State Fault Refusal :=
  let d := d.val
  .next (if s.pd d = pdPoweringUp ∧ s.upStage d = 1 ∧ s.clockReady d then
      let t := (s.setStage d 2).released d
      if d = PD_FABRIC then t.romStarts else t
    else s)

/-- A domain reaches ON, with a power-down that is owed. -/
def State.turnOn (s : State) (d meas : Nat) : State :=
  let owed := s.cpm.owed.find? (·.1 == d)
  let t := (((s.setStage d 0).setPd d pdOn).startBlocks d meas).owe d none
  let t := match owed with
    | some (_, f) => t.requestDown d f
    | none => t
  let t := if d = PD_FABRIC ∧ t.gctl.slept.isSome then t.raise 221 else t
  t.startLevel

/-- PD_READY (R426). -/
def execPdReady (d : Fin 21) (meas : Nat) (s : State) : Host.Outcome State Fault Refusal :=
  .next (if s.pd d.val = pdPoweringUp ∧ s.upStage d.val = 2 then s.turnOn d.val meas else s)

/-- PD_RESET_END (R427). -/
def execPdResetEnd (d : Fin 21) (meas : Nat) (s : State) : Host.Outcome State Fault Refusal :=
  .next (if s.cpm.inReset.contains d.val then
      let t : State := { s with cpm := { s.cpm with inReset := s.cpm.inReset.filter (· != d.val) } }
      (t.released d.val).startBlocks d.val meas
    else s)

/-- XQ_RESYNC (R416): both sides resume with the queue empty. -/
def execXqResync (i : Fin 74) (s : State) : Host.Outcome State Fault Refusal :=
  let (a, b) := queueSides i.val
  .next (if (s.xq i.val).1 ≠ 0 ∧ s.sideUp a ∧ s.sideUp b then s.setXq i.val 0 (s.xq i.val).2 else s)

/-! ### Temperatures (R432, R437) -/

/-- TCAP changes: source 217, and the array follows. -/
def State.setTcap (s : State) (k : Nat) : State :=
  if s.fld Reg.CPM_PLEVEL 8 2 = k then s
  else
    let t := (s.setFld Reg.CPM_PLEVEL 8 2 k).raise 217
    (if s.fld Reg.CPM_PLEVEL 8 2 < k then t.cpmSticky 7 else t).startLevel

/-- A trip (R432): every cluster gets a forced request, and the device enters SAFE (R460). -/
def State.trip (s : State) : State :=
  let t := (s.cpmSticky 9).raise 218
  ((List.range 8).foldl (fun u k => u.writeEn (PD_ARRAY k) false true) t).safeCause causeTrip

/-- THERMAL_CHECK (R432): held tells whether the estimate has stood where it is for the time that the limit asks. -/
def execThermalCheck (held : Bool) (s : State) : Host.Outcome State Fault Refusal :=
  let limit (lo : Nat) : Int := (s.fld Reg.CPM_THERM lo 8 : Int) * 256
  let cap := s.fld Reg.CPM_PLEVEL 8 2
  let hot := decide (limit 24 ≤ s.junction)
  let t := if s.flag (Reg.CPM_TEMP 0) 1 then s.setTcap 3
    else if held ∧ limit 16 ≤ s.junction then s.setTcap (min 3 (cap + 1))
    else if held ∧ s.junction ≤ limit 8 then s.setTcap (cap - 1)
    else s
  let u := if hot && !s.cpm.tripped then t.trip else t
  .next { u with cpm := { u.cpm with tripped := hot } }

/-- The pointer byte of an external sensor written to its address by master 0 (R437). -/
def State.pollSensor (s : State) (i : Nat) : State :=
  let c := Reg.CPM_TSCFG i
  { s with cpm := { s.cpm with i2c := s.cpm.i2c ++ [(0, s.fld c 8 7, [BitVec.ofNat 8 (s.fld c 0 8)])] } }

/-- SENSOR_POLL (R437): the reading, none after a NACK or a bus timeout; stale tells that 2 s have passed without a valid
one. Sensor 0 is the on-die sensor; a poll of the others waits for a transfer of master 0, sends the pointer byte to its
address, and finds nothing while the master is disabled. -/
def execSensorPoll (n : Fin 3) (reading : Option (BitVec 16)) (stale : Bool) (s : State) :
    Host.Outcome State Fault Refusal :=
  let r := Reg.CPM_TEMP n.val
  let polled := n.val = 0 || (s.flag (Reg.CPM_TSCFG (n.val - 1)) 31 && !(s.cpm.transfers.any fun e => e.1 == 0))
  let bus := n.val = 0 || s.flag (Reg.CPM_I2C_CTL 0) 31
  let valid := reading.filter fun v => bus && decide (-55 * 256 ≤ v.toInt) && decide (v.toInt ≤ 150 * 256)
  .next (if polled = false ∨ s.mode < 2 then s
    else
      let s := if n.val = 0 ∨ bus = false then s else s.pollSensor (n.val - 1)
      match valid with
      | some v => s.wr r (BitVec.ofNat 32 (v.toNat * 2 ^ 16 + 1))
      | none =>
        if stale = false ∨ s.flag r 1 then s
        else
          let t := ((s.setFlag r 1 true).cpmSticky 8).raise 219 (BitVec.ofNat 32 n.val)
          if n.val = 0 then t.setTcap 3 else t)

/-! ### I2C masters (R438) -/

/-- The agent owns a master's transfers. -/
def State.ownsI2c (s : State) (m : Nat) (ag : Agent) : Bool :=
  if s.flag (Reg.CPM_I2C_CTL m) 30 then isHost ag else if m = 0 then isCore ag 0 1 else isCore ag 2 5

/-- The bytes of DATA0 and DATA1, and the registers given bytes. -/
def State.i2cData (s : State) (m : Nat) : List Byte :=
  leBytes 4 (s.rd (Reg.CPM_I2C_DATA0 m)).toNat ++ leBytes 4 (s.rd (Reg.CPM_I2C_DATA1 m)).toNat
def State.setI2cData (s : State) (m : Nat) (bs : List Byte) : State :=
  let all := bs ++ (s.i2cData m).drop bs.length
  (s.wr (Reg.CPM_I2C_DATA0 m) (BitVec.ofNat 32 (ofLeBytes (all.take 4)))).wr (Reg.CPM_I2C_DATA1 m)
    (BitVec.ofNat 32 (ofLeBytes ((all.drop 4).take 4)))

/-- A write of CPM_I2Cm_XFER. -/
def State.writeXfer (s : State) (ag : Agent) (m : Nat) (v : Word) : State :=
  let wlen := bitsAt v 8 4
  let rlen := bitsAt v 0 4
  if s.ownsI2c m ag = false then s.cpmError ceOwner
  else if bitAt v 31 = false ∨ s.flag (Reg.CPM_I2C_CTL m) 31 = false then s
  else if 8 < wlen ∨ 8 < rlen ∨ (wlen = 0 ∧ rlen = 0) then s.cpmError ceParam
  else if s.flag (Reg.CPM_I2C_STAT m) 31 then s.cpmError ceBusy
  else
    let t := s.wr (Reg.CPM_I2C_STAT m) 0x80000000
    { t with cpm := { t.cpm with
      transfers := t.cpm.transfers ++ [(m, v)]
      i2c := t.cpm.i2c ++ [(m, bitsAt v 16 7, (t.i2cData m).take wlen)] } }

/-- I2C_TRANSFER (R438). -/
def execI2cTransfer (ag : Agent) (m : Fin 2) (v : Word) (s : State) : Host.Outcome State Fault Refusal :=
  .next (s.writeAccess ag (Reg.CPM_I2C_XFER m.val) v fun t => t.writeXfer ag m.val v)

/-- The bytes read and the NACK and TIMEOUT bits of an outcome. -/
def i2cOutcome : I2cEnd → List Byte × Nat
  | .done bs => (bs, 0)
  | .nack bs => (bs, 2 ^ 29)
  | .timeout bs => (bs, 2 ^ 28)

/-- An outcome that fits a transfer: every byte asked for, or fewer after a NACK or a timeout. -/
def i2cFits (rlen : Nat) : I2cEnd → Bool
  | .done bs => bs.length == rlen
  | .nack bs => decide (bs.length ≤ rlen)
  | .timeout bs => decide (bs.length ≤ rlen)

/-- I2C_DONE (R438). -/
def execI2cDone (m : Fin 2) (e : I2cEnd) (s : State) : Host.Outcome State Fault Refusal :=
  .next (match s.cpm.transfers.find? (·.1 == m.val) with
    | none => s
    | some (_, v) =>
      if i2cFits (bitsAt v 0 4) e = false then s
      else
        let t : State := { s with cpm := { s.cpm with transfers := s.cpm.transfers.filter (·.1 != m.val) } }
        let t := t.setI2cData m.val (i2cOutcome e).1
        (t.wr (Reg.CPM_I2C_STAT m.val) (BitVec.ofNat 32 (2 ^ 30 + (i2cOutcome e).2))).raise 220 (BitVec.ofNat 32 m.val))

/-- A write of CPM_I2Cm_CTL: OWNER = 1 is set by the host in STAGED, MEASURE and SAFE. -/
def State.writeI2cCtl (s : State) (ag : Agent) (m : Nat) (v : Word) : State :=
  let c := Reg.CPM_I2C_CTL m
  if bitsAt v 24 2 = 3 ∨ bitsAt v 0 16 < 100 then s.cpmError ceParam
  else if bitAt v 30 ∧ s.flag c 30 = false ∧ ¬ (isHost ag ∧ hostMode s.mode) then s.cpmError ceOwner
  else s.plainWrite c v

/-! ### The wake alarm and the registers of the block (R435, R441) -/

/-- A word of the wake alarm: the target it gives is checked under R56. -/
def State.writeAlarm (s : State) (w : Nat) (v : Word) : State :=
  let t := s.wr (Reg.CPM_WAKE_W w) v
  let target := t.rd96 (Reg.CPM_WAKE_W 0)
  if ct96Valid target && withinCf64 target s.now then t.arm .wake (cf64OfCt96 target) else s.cpmError ceTarget

/-- WAKE_ALARM_WRITE (R435). -/
def execWakeAlarmWrite (ag : Agent) (w : Fin 3) (v : Word) (s : State) : Host.Outcome State Fault Refusal :=
  .next (s.writeAccess ag (Reg.CPM_WAKE_W w.val) v fun t => t.writeAlarm w.val v)

/-- The ranges of CPM_THERM. -/
def thermOk (v : Word) : Bool :=
  decide (50 ≤ bitsAt v 16 8) && decide (bitsAt v 16 8 ≤ 125) && decide (40 ≤ bitsAt v 8 8) &&
    decide (bitsAt v 8 8 < bitsAt v 16 8) && decide (bitsAt v 0 8 ≤ 30)

/-- A write of a register of the CPM block that completes normally. -/
def State.cpmWrite (s : State) (ag : Agent) (off : Nat) (v : Word) : State :=
  if off = Reg.CPM_CLKSEL then s.writeClksel ag v
  else if off = Reg.CPM_PLEVEL then s.writePlevel v
  else if off = Reg.CPM_THERM then (if thermOk v then s.plainWrite off v else s.cpmError ceParam)
  else if Reg.CPM_PD_CTL 0 ≤ off ∧ off ≤ Reg.CPM_PD_CTL 20 then s.writePd ag ((off - Reg.CPM_PD_CTL 0) / 4) v false
  else if off = Reg.CPM_XQ_IDX then (if bitsAt v 0 7 ≤ 0x49 then s.plainWrite off v else s.cpmError ceParam)
  else if Reg.CPM_WAKE_W 0 ≤ off ∧ off ≤ Reg.CPM_WAKE_W 2 then s.writeAlarm ((off - Reg.CPM_WAKE_W 0) / 4) v
  else if off = Reg.CPM_I2C_CTL 0 then s.writeI2cCtl ag 0 v
  else if off = Reg.CPM_I2C_CTL 1 then s.writeI2cCtl ag 1 v
  else if off = Reg.CPM_I2C_XFER 0 then s.writeXfer ag 0 v
  else if off = Reg.CPM_I2C_XFER 1 then s.writeXfer ag 1 v
  else if Reg.CPM_KEEP 0 ≤ off then (if isHost ag then s.cpmError ceOwner else s.plainWrite off v)
  else s.plainWrite off v

/-- A read of a register of the CPM block: the queue that CPM_XQ_IDX names. -/
def State.cpmRead (s : State) (off : Nat) : Word × State :=
  let i := s.fld Reg.CPM_XQ_IDX 0 7
  if off = Reg.CPM_XQ_STAT then (BitVec.ofNat 32 ((s.xq i).1 * 2 ^ 30), s)
  else if off = Reg.CPM_XQ_CNT then (BitVec.ofNat 32 (s.xq i).2, s.setXq i (s.xq i).1 0)
  else s.plainRead off

end Sys2Proof.Machine
end

