-- ==== Sys2Proof/Machine/Boot.lean ====
section
/-!
DEFINITION. Resets, boot up to the release of the service cores, the mode commands, flash and fuse access, and DORMANT
(chapters 15 and 16). The Sinter slots and the end of boot are in Sinter.
-/
namespace Sys2Proof.Machine

/-! ### The boot flash (R445, R456) -/

/-- An erased byte reads 0xFF. -/
def flashDefault : Nat → Byte := fun _ => 0xFF#8
def State.flashByte (s : State) (a : Nat) : Byte := sparseGet flashDefault s.gctl.flash a
def State.flashBytes (s : State) (a n : Nat) : List Byte := (List.range n).map fun i => s.flashByte (a + i)
def State.setFlashByte (s : State) (a : Nat) (b : Byte) : State :=
  { s with gctl := { s.gctl with flash := sparseSet flashDefault s.gctl.flash a b } }

/-- The size of the flash: at least 64 MiB. -/
def flashSize : Nat := 0x4000000 + Config.flashBeyond

/-- The bytes of GCTL_FLASH_BUF, and the buffer given bytes from its first one on. -/
def State.flashBuffer (s : State) (n : Nat) : List Byte :=
  ((List.range ((n + 3) / 4)).flatMap fun i => leBytes 4 (s.rd (Reg.GCTL_FLASH_BUF i)).toNat).take n
def State.setFlashBuffer (s : State) (bs : List Byte) : State :=
  let k := (bs.length + 3) / 4
  let old := (List.range k).flatMap fun i => leBytes 4 (s.rd (Reg.GCTL_FLASH_BUF i)).toNat
  let all := bs ++ old.drop bs.length
  s.wrWords (Reg.GCTL_FLASH_BUF 0) ((List.range k).map fun i => BitVec.ofNat 32 (ofLeBytes ((all.drop (4 * i)).take 4)))

/-- One byte programmed: an erased byte takes the value; what another holds then, no rule says (log entry 28). -/
def State.programByte (s : State) (a : Nat) (b : Byte) : State :=
  if s.flashByte a = 0xFF#8 then s.setFlashByte a b else (s.setFlashByte a (s.draw.extractLsb' 0 8)).drawn
def State.programBytes (s : State) (a : Nat) : List Byte → State
  | [] => s
  | b :: bs => (s.programByte a b).programBytes (a + 1) bs

/-- The first n bytes of a flash command carried out: 1 READ, 2 PROGRAM, 3 ERASE. -/
def State.flashCarry (s : State) (op a n : Nat) : State :=
  if op = 1 then s.setFlashBuffer (s.flashBytes a n)
  else if op = 2 then s.programBytes a (s.flashBuffer n)
  else { s with gctl := { s.gctl with flash := s.gctl.flash.filter fun e => !(decide (a ≤ e.1) && decide (e.1 < a + n)) } }

/-- A flash command that a reset or a timeout ends leaves the flash as far as it got. -/
def State.flashTear (s : State) : State :=
  match s.gctl.command with
  | none => s
  | some (op, a, n) =>
    let t := if op = 1 then s else s.drawn.flashCarry op a (s.draw.toNat % (n + 1))
    { t with gctl := { t.gctl with command := none } }

/-- A flash command ends. -/
def State.flashEnd (s : State) (err : Nat) : State :=
  State.wr { s with gctl := { s.gctl with command := none } } Reg.GCTL_FLASH_STAT (BitVec.ofNat 32 (2 ^ 30 + err))

/-- n bytes at an offset touch n' bytes at another. -/
def touches (a n b m : Nat) : Bool := decide (a < b + m) && decide (b < a + n)

/-- The firmware slot or the Sinter slot of the last boot lies in a range. -/
def State.slotTaken (s : State) (a n : Nat) : Bool :=
  let fw := s.fld Reg.GCTL_BOOT 6 2
  let cfg := s.fld Reg.GCTL_BOOT 8 2
  (decide (fw < 2) && touches a n (fw * 0x800000) 0x800000) ||
    (decide (cfg < 2) && touches a n (0x1000000 + cfg * 0x1000000) 0x1000000)

/-- The error code of R456 with which a flash command is refused; 0 where it is accepted. -/
def State.flashRefusal (s : State) (op a n : Nat) : Nat :=
  if s.mode = modeBoot then 1
  else if flashSize < a + n ∨ (op = 3 ∧ a % 0x10000 ≠ 0) then 2
  else if op ≠ 1 ∧ s.slotTaken a n then 3
  else if s.flag Reg.GCTL_FLASH_STAT 31 then 4
  else 0

/-- A write of GCTL_FLASH_CTL. -/
def State.writeFlash (s : State) (v : Word) : State :=
  let op := bitsAt v 28 3
  let len := bitsAt v 0 13
  if bitAt v 31 = false ∨ op = 0 ∨ 3 < op ∨ (op ≠ 3 ∧ (len = 0 ∨ 4096 < len)) then s
  else
    let a := (s.rd Reg.GCTL_FLASH_ADDR).toNat
    let n := if op = 3 then 0x10000 else len
    let e := s.flashRefusal op a n
    let t := (s.setFlag Reg.GCTL_FLASH_STAT 30 false).setFld Reg.GCTL_FLASH_STAT 0 8 e
    if e = 0 then
      State.setFlag { t with gctl := { t.gctl with command := some (op, a, n) } } Reg.GCTL_FLASH_STAT 31 true
    else t

/-- The word that starts a flash command. -/
def flashWord (op len : Nat) : Word := BitVec.ofNat 32 (2 ^ 31 + op * 2 ^ 28 + len)

/-- FLASH_READ (R456). -/
def execFlashRead (ag : Agent) (len : BitVec 13) (s : State) : Host.Outcome State Fault Refusal :=
  let v := flashWord 1 len.toNat
  .next (s.writeAccess ag Reg.GCTL_FLASH_CTL v fun t => t.writeFlash v)

/-- FLASH_PROGRAM (R456). -/
def execFlashProgram (ag : Agent) (len : BitVec 13) (s : State) : Host.Outcome State Fault Refusal :=
  let v := flashWord 2 len.toNat
  .next (s.writeAccess ag Reg.GCTL_FLASH_CTL v fun t => t.writeFlash v)

/-- FLASH_ERASE (R456). -/
def execFlashErase (ag : Agent) (s : State) : Host.Outcome State Fault Refusal :=
  let v := flashWord 3 0
  .next (s.writeAccess ag Reg.GCTL_FLASH_CTL v fun t => t.writeFlash v)

/-- FLASH_DONE (R456): the flash reports completion. -/
def execFlashDone (s : State) : Host.Outcome State Fault Refusal :=
  .next (match s.gctl.command with
    | none => s
    | some (op, a, n) => (s.flashCarry op a n).flashEnd 0)

/-- FLASH_TIMEOUT (R456): a PROGRAM or an ERASE ends with ERR 0x05. -/
def execFlashTimeout (s : State) : Host.Outcome State Fault Refusal :=
  .next (match s.gctl.command with
    | none => s
    | some (op, _, _) => if op = 1 then s else s.flashTear.flashEnd 5)

/-! ### Operator fuses (R457) -/

/-- Target t of the operator bank is programmed: 1 KS, 2 OPHASH, 3 SIGREQ. -/
def FuseState.programmed (f : FuseState) (t : Nat) : Bool :=
  if t = 1 then f.ks.isSome else if t = 2 then f.opHash.isSome else f.sigReq

/-- A target programmed from the data words. -/
def FuseState.program (f : FuseState) (t : Nat) (data : List Byte) : FuseState :=
  if t = 1 then { f with ks := some (data.take 32) }
  else if t = 2 then { f with opHash := some (data.take 48) }
  else { f with sigReq := true }

/-- The fields that show fuses: GCTL_OFUSE_CTL.SET, the fused minimum versions of firmware and microcode. -/
def State.showFuses (s : State) : State :=
  let f := s.fuse
  let set := ofBool (f.programmed 1) + 2 * ofBool (f.programmed 2) + 4 * ofBool (f.programmed 3)
  ((s.setFld Reg.GCTL_OFUSE_CTL 0 3 set).setFld Reg.GCTL_FWINFO 0 16 f.firmwareMin).setFld Reg.BNE_UINFO 16 16 f.microcodeMin

/-- A write of GCTL_OFUSE_CTL; supply tells whether the board supplies the fuse voltage. -/
def State.writeFuse (s : State) (v : Word) (supply : Bool) : State :=
  let target := bitsAt v 24 2
  if bitAt v 31 = false ∨ target = 0 then s
  else
    let e := if s.mode ≠ modeStaged ∧ s.mode ≠ modeSafe then 1
      else if s.fuse.programmed target then 2
      else if supply = false then 3
      else 0
    let t := if e = 0 then
        State.showFuses { s with fuse := s.fuse.program target (s.stagedBytes (Reg.GCTL_OFUSE_DATA 0) 12) }
      else s
    (t.setFld Reg.GCTL_OFUSE_CTL 16 8 e).unstage (Reg.GCTL_OFUSE_DATA 0) 12

/-- OFUSE_PROGRAM (R457). -/
def execOfuseProgram (ag : Agent) (target : Fin 4) (supply : Bool) (s : State) : Host.Outcome State Fault Refusal :=
  let v := BitVec.ofNat 32 (2 ^ 31 + target.val * 2 ^ 24)
  .next (s.writeAccess ag Reg.GCTL_OFUSE_CTL v fun t => t.writeFuse v supply)

/-! ### Resets (R442 to R444, R502, R519) -/

/-- The bits of GCTL_CAUSE.RST. -/
abbrev rstPowerOn : Nat := 0
abbrev rstPin : Nat := 1
abbrev rstCold : Nat := 2
abbrev rstWarm : Nat := 3
abbrev rstWatchdog : Nat := 4
abbrev rstWake : Nat := 5

/-- The last reset noted in GCTL_CAUSE. -/
def State.noteReset (s : State) (cause : Nat) : State := s.setFld Reg.GCTL_CAUSE 0 6 (2 ^ cause)

/-- A cold reset (R443): everything restarts, into RESET. What lies outside the device stays: pins and clock inputs, fuses
and flash, the commands that wait, and what has left the balls. -/
def State.coldReset (s : State) (cause : Nat) : State :=
  let s := s.flashTear
  let cpm : CpmState := { CpmState.reset with lost := s.cpm.lost, i2c := s.cpm.i2c }
  let gctl : GctlState := { GctlState.reset with resetN := s.gctl.resetN, por := s.gctl.por, flash := s.gctl.flash }
  let pcie : PcieState :=
    { PcieState.reset with perst := s.pcie.perst, bar2Data := s.pcie.bar2Data, configData := s.pcie.configData }
  let dry : DryState := { State.reset.dry with line := s.dry.line }
  let t : State := { State.reset with
    pending := s.pending
    free := s.free
    bus := ⟨[], s.bus.last⟩
    cpm := cpm
    gctl := gctl
    pcie := pcie
    net := { NetState.reset with wire := s.net.wire }
    pair := { PairState.reset with sent := s.pair.sent }
    dry := dry
    dma := { DmaState.reset with link := s.dma.link }
    fuse := s.fuse
    fenceIn := s.fenceIn }
  let t := t.wr Reg.CPM_STATUS (s.rd Reg.CPM_STATUS)
  let t := ((t.setFlag Reg.PAR_STATUS psFenceIn s.fenceIn).showFuses).loadFactory PD_AON
  t.noteReset cause

/-- Boot begins: mode BOOT, KIND, and no slot taken yet (R446, R458). -/
def State.beginBoot (s : State) (kind : Nat) : State :=
  (s.enterMode modeBoot).wr Reg.GCTL_BOOT (BitVec.ofNat 32 (kind * 2 ^ 10 + 0x2C0))

/-- A domain switched off without a handshake; EN stays (R422, R443). -/
def State.dropDomain (s : State) (d : Nat) : State :=
  if s.pd d = pdOff then s
  else
    let t := (s.domainLost d).setPd d pdOff
    (t.setFlag (Reg.CPM_PD_CTL d) 29 false).setFlag (Reg.CPM_PD_CTL d) 27 false

/-- What the CPM holds of domains that have been dropped. -/
def State.forgetDomains (s : State) : State :=
  { s with cpm := { s.cpm with inReset := [], stage := s.cpm.stage.filter (·.1 == PD_PCIE), forced := [], owed := [],
                                closing := [], retained := false } }

/-- The part of a warm reset that meets PD_PCIE: link and configuration space are kept (R382, R443). -/
def State.warmEndpoint (s : State) : State :=
  if s.pdUp PD_PCIE then s.resetEndpoint.dmaSticky 10 else s

/-- What global control forgets at a warm reset or a wake: a command that runs, firmware in the ROM, configuration records;
a cause of SAFE that waits keeps waiting, unless it was the search for a slot. -/
def State.forgetBoot (s : State) : State :=
  let t := s.wr Reg.GCTL_MODESTAT 0
  let g := s.gctl
  { t with gctl := { g with causes := g.causes.filter (· != causeNone), rom := false, later := [], post := [], anchors := [] } }

/-- A warm reset (R442, R443): every domain but PD_AON and PD_PCIE turns off; boot begins at once. -/
def State.warmReset (s : State) (cause : Nat) : State :=
  if s.mode < modeBoot then s
  else
    let s := s.flashTear.setFlag Reg.GCTL_FLASH_STAT 31 false
    let t := (powerOrder.reverse.filter (· != PD_PCIE)).foldl State.dropDomain s
    let t := (t.forgetDomains.warmEndpoint).forgetBoot
    let t : State := { t with
      bus := { t.bus with waiting := t.bus.waiting.filter fun a => isHost a.agent }
      gctl := { t.gctl with slept := none } }
    ((t.pllSweep).levelSweep.noteReset cause).beginBoot 1

/-- A write of GCTL_RESET: by the host or SC0 and SC1, with its KEY (R442, R467). -/
def State.writeReset (s : State) (ag : Agent) (v : Word) : State :=
  if bitsAt v 16 16 ≠ 0xA5C3 ∨ controls ag = false then s
  else if bitAt v 1 then s.coldReset rstCold
  else if bitAt v 0 then s.warmReset rstWarm
  else s

/-- COLD_RESET (R442): RESET for 10 µs; the pulse ends with BOOT_START. -/
def execColdReset (ag : Agent) (s : State) : Host.Outcome State Fault Refusal :=
  .next (s.writeAccess ag Reg.GCTL_RESET 0xA5C30002 fun t => t.writeReset ag 0xA5C30002)

/-- WARM_RESET (R442). -/
def execWarmReset (ag : Agent) (s : State) : Host.Outcome State Fault Refusal :=
  .next (s.writeAccess ag Reg.GCTL_RESET 0xA5C30001 fun t => t.writeReset ag 0xA5C30001)

/-- RESET can be left (R442). -/
def State.resetOver (s : State) : Bool := s.mode == modeReset && !s.gctl.por && !s.gctl.resetN

/-- Boot leaves RESET once the power-on reset has ended and RESET_N is high. -/
def State.leaveReset (s : State) : State := if s.resetOver then s.beginBoot 0 else s

/-- SUPPLY_LOSS (R502). -/
def execSupplyLoss (s : State) : Host.Outcome State Fault Refusal :=
  .next (if s.mode = modeOff then s
    else
      let t := s.coldReset rstPowerOn
      let t := (t.wr Reg.CPM_STATUS 0).setFld Reg.GCTL_STATUS 0 4 modeOff
      { t with cpm := { t.cpm with lost := [] }, gctl := { t.gctl with por := true } })

/-- SUPPLY_IN_RANGE (R458, R502): RESET, with the power-on reset still held. -/
def execSupplyInRange (s : State) : Host.Outcome State Fault Refusal :=
  .next (if s.mode = modeOff then s.setFld Reg.GCTL_STATUS 0 4 modeReset else s)

/-- POWER_ON_RESET_END (R502). -/
def execPowerOnResetEnd (s : State) : Host.Outcome State Fault Refusal :=
  .next (if s.mode = modeReset ∧ s.gctl.por then
      State.leaveReset { s with gctl := { s.gctl with por := false } }
    else s)

/-- RESET_N_ASSERT (R519): low for the filter time; a cold reset that holds until RESET_N is high. -/
def execResetNAssert (s : State) : Host.Outcome State Fault Refusal :=
  .next (if s.gctl.resetN then s
    else
      let t := { s with gctl := { s.gctl with resetN := true } }
      if t.mode = modeOff then t else t.coldReset rstPin)

/-- RESET_N_RELEASE (R442). -/
def execResetNRelease (s : State) : Host.Outcome State Fault Refusal :=
  .next (if s.gctl.resetN then State.leaveReset { s with gctl := { s.gctl with resetN := false } } else s)

/-! ### Boot, steps 1 to 3 (R446 to R448) -/

/-- STAGE and KIND of GCTL_BOOT. -/
def State.bootStage (s : State) : Nat := s.fld Reg.GCTL_BOOT 0 4
def State.setBootStage (s : State) (k : Nat) : State := s.setFld Reg.GCTL_BOOT 0 4 k
def State.bootKind (s : State) : Nat := s.fld Reg.GCTL_BOOT 10 2

/-- The key-wrap key of R204. -/
def deriveKwk (ks : List Byte) : List Byte :=
  let label : List Byte := "CK4210 KWK".toList.map fun c => BitVec.ofNat 8 c.toNat
  [1#8, 2#8].flatMap fun i => beBytes 16 (cmac ks (i :: label ++ [0x00#8, 0x01#8, 0x00#8])).toNat

/-- What the fuse logic writes in step 1: anchor entry 0 where it is unwritten, and after a cold reset the KWK. -/
def State.fuseKeys (s : State) : State :=
  let t := if s.flag Reg.CRY_ANCH_STAT 0 then s else s.putAnchor 0 2 s.fuse.anchor
  if s.bootKind = 0 then
    let t := t.setFlag Reg.CRY_STATUS 4 t.fuse.ks.isSome
    { t with cry := { t.cry with kwk := t.fuse.ks.map deriveKwk } }
  else t

/-- A domain that step 1 powers up. -/
def State.bootPower (s : State) (d : Nat) : State :=
  if s.bootKind = 0 ∨ s.pd d = pdOff then s.powerUp d else s

/-- Step 1 of R446. -/
def State.bootStep1 (s : State) : State :=
  let t := s.setBootStage 1
  ((((t.bootPower PD_FABRIC).bootPower PD_PCIE).bootPower PD_BNE).setEn PD_BNE true).fuseKeys

/-- BOOT_START (R446): boot, begun already or at the end of a cold-reset pulse, runs step 1. -/
def execBootStart (s : State) : Host.Outcome State Fault Refusal :=
  .next (
    let t := s.leaveReset
    if t.mode = modeBoot ∧ t.bootStage = 0 then t.bootStep1 else s)

/-- ROM_SELFTEST_DONE (R446): 0 passed, 1 the ROM checksum failed, 2 the service-core SRAM failed. -/
def execRomSelftestDone (result : Fin 3) (s : State) : Host.Outcome State Fault Refusal :=
  .next (if s.bootStage ≠ 2 ∨ s.pdUp PD_FABRIC = false then s
    else if result.val = 0 then s.setBootStage 3
    else (s.setBootStage 0xF).setFld Reg.GCTL_BOOT 24 8 result.val)

/-- A service core as it leaves reset (R448). -/
def CoreState.released (entry k : Nat) : CoreState :=
  { CoreState.reset with
    th := { Thread.reset with pc := entry, status := .ready }
    regions := [(0, ⟨true, 0, 0x1000 + 4 * k, 4, true, true, false⟩), (1, ⟨true, 0x100000000, 0, 256, true, true, true⟩)]
    inReset := false, idle := 0 }

/-- An image placed in the SRAM of its core, as far as the SRAM reaches. -/
def State.placeImage (s : State) (i : Fin 8 × Nat × List Byte) : State :=
  let bs := i.2.2.take (2 ^ 18 - i.2.1)
  { s with cores := { s.cores with sram := memWriteBytes s.cores.sram (2 ^ 18 * i.1.val + i.2.1) bs } }

/-- What firmware finds of the selector after a wake (R462). -/
def State.restoreSelector (s : State) : State :=
  match s.bootKind == 2, s.gctl.keep with
  | true, some (sel, w) =>
    State.showModel (({ s with sel := sel }.setFlag Reg.SEL_STATUS 26 (bitAt w 26)).setFlag Reg.SEL_STATUS 25 (bitAt w 25))
  | _, _ => s

/-- Firmware loaded from a slot: images in place, cores released, boot at step 4 (R447, R448). -/
def State.loadFirmware (s : State) (slot : Nat) (f : Firmware) : State :=
  let t := ((s.setFld Reg.GCTL_BOOT 6 2 slot).setFld Reg.GCTL_FWINFO 16 16 f.version.toNat).setFld Reg.REL_WDG_STAT 16 8 0
  let t := f.images.foldl State.placeImage t
  let t := (List.range 8).foldl (fun u k => u.setCore k (CoreState.released (f.entries.getD k 0).toNat k)) t
  (State.restoreSelector { t with gctl := { t.gctl with rom := false } }).setBootStage 4

/-- A slot whose VERSION is at or above the fused minimum. -/
def State.versionOk (s : State) (f : Option Firmware) : Option Firmware :=
  f.filter fun x => decide (s.fuse.firmwareMin ≤ x.version.toNat)

/-- The firmware that the ROM boots (R447): the higher VERSION, slot A where they are equal. -/
def State.chooseFirmware (s : State) (a b : Option Firmware) : Option (Nat × Firmware) :=
  match s.versionOk a, s.versionOk b with
  | some x, some y => if x.version.toNat < y.version.toNat then some (1, y) else some (0, x)
  | some x, none => some (0, x)
  | none, some y => some (1, y)
  | none, none => none

/-- No valid firmware: SAFE under the ROM, with no Sinter slot examined (R447, R451, R460). -/
def State.romSafe (s : State) : State :=
  let t := ((s.setFld Reg.GCTL_BOOT 24 8 3).setFld Reg.GCTL_BOOT 6 2 3).wr Reg.GCTL_CFGREJ 0x808
  let t := t.setFlag Reg.GCTL_CAUSE causeNone true
  State.enterMode { t with gctl := { t.gctl with rom := true } } modeSafe

/-- FIRMWARE_VERIFIED (R447): the firmware of slots A and B whose form, length and signature are valid. -/
def execFirmwareVerified (a b : Option Firmware) (s : State) : Host.Outcome State Fault Refusal :=
  .next (if s.bootStage ≠ 3 ∨ s.mode ≠ modeBoot ∨ s.pdUp PD_FABRIC = false then s
    else
      match s.chooseFirmware a b with
      | some (slot, f) => s.loadFirmware slot f
      | none => s.romSafe)

/-! ### Mode commands (R458, R459, R461) -/

/-- The modes from which R458 allows a command. -/
def State.commandAllowed (s : State) (op : Nat) : Bool :=
  let m := s.mode
  match op with
  | 1 => m == modeStaged
  | 2 => m == modeMeasure || s.answersClients
  | 3 => m == modeStaged
  | 4 => m == modeStaged || s.answersClients
  | 5 => decide (modeBoot ≤ m) && !s.gctl.rom
  | 6 => m == modeSafe
  | _ => m == modeSafe && s.gctl.rom

/-- ERR of MODESTAT. -/
def State.setModeErr (s : State) (e : Nat) : State := s.setFld Reg.GCTL_MODESTAT 0 8 e

/-- An accepted command; with PD_BNE off no LOADFW image passes (R33); SLEEP runs until the entry sequence of R433 has ended. -/
def State.runCommand (s : State) (op : Nat) (image : Option Firmware) : State :=
  match op with
  | 1 => (s.setModeErr 0).enterServing modeAcquire
  | 2 => (s.setModeErr 0).enterMode modeStaged
  | 3 => (s.setModeErr 0).enterMode modeMeasure
  | 4 =>
    let t := (s.setModeErr 0).setFlag Reg.GCTL_MODESTAT 31 true
    { t with gctl := { t.gctl with slept := some (s.mode, 0) } }
  | 5 => (s.setModeErr 0).safeCause causeHost
  | 6 => if s.present = 0 then (s.setModeErr 0).enterMode modeStaged else s.setModeErr 3
  | _ =>
    match if s.pdUp PD_BNE then s.versionOk image else none with
    | some f => (s.setModeErr 0).loadFirmware 2 f
    | none => s.setModeErr 6

/-- A write of GCTL_MODECMD; image is the firmware in the table pool as the ROM verifies it. -/
def State.writeModeCommand (s : State) (v : Word) (image : Option Firmware) : State :=
  let op := bitsAt v 24 4
  if bitAt v 31 = false ∨ (op = 7 ∧ 4194304 < bitsAt v 0 24) then s
  else if s.commandRuns then s.setModeErr 2
  else if op = 0 ∨ 7 < op then s.setModeErr 4
  else if s.commandAllowed op = false then s.setModeErr 1
  else s.runCommand op image

/-- A mode command of an agent. -/
def State.modeCommand (s : State) (ag : Agent) (op len : Nat) (image : Option Firmware) : State :=
  let v := BitVec.ofNat 32 (2 ^ 31 + op * 2 ^ 24 + len)
  s.writeAccess ag Reg.GCTL_MODECMD v fun t => t.writeModeCommand v image

/-- MODE_START (R458). -/
def execModeStart (ag : Agent) (s : State) : Host.Outcome State Fault Refusal := .next (s.modeCommand ag 1 0 none)
/-- MODE_STAGE (R458). -/
def execModeStage (ag : Agent) (s : State) : Host.Outcome State Fault Refusal := .next (s.modeCommand ag 2 0 none)
/-- MODE_MEASURE (R458). -/
def execModeMeasure (ag : Agent) (s : State) : Host.Outcome State Fault Refusal := .next (s.modeCommand ag 3 0 none)
/-- MODE_SLEEP (R458). -/
def execModeSleep (ag : Agent) (s : State) : Host.Outcome State Fault Refusal := .next (s.modeCommand ag 4 0 none)
/-- MODE_SAFE (R460). -/
def execModeSafe (ag : Agent) (s : State) : Host.Outcome State Fault Refusal := .next (s.modeCommand ag 5 0 none)
/-- MODE_RECOVER (R461). -/
def execModeRecover (ag : Agent) (s : State) : Host.Outcome State Fault Refusal := .next (s.modeCommand ag 6 0 none)
/-- MODE_LOADFW (R447). -/
def execModeLoadfw (ag : Agent) (len : BitVec 24) (image : Option Firmware) (s : State) : Host.Outcome State Fault Refusal :=
  .next (s.modeCommand ag 7 len.toNat image)

/-! ### DORMANT (R433 to R435, R462) -/

/-- Device time in units of 2^-16 ns. -/
def State.tickNat (s : State) : Nat := s.cal.count / 2 ^ 16

/-- The words of CPM_KEEP as firmware leaves them: no rule gives their layout (log entry 29). -/
def State.fillKeep (s : State) : State :=
  (List.range 256).foldl (fun t i => (t.wr (Reg.CPM_KEEP i) (lo32 t.draw)).drawn) s

/-- Step 1 of R433. -/
def State.prepareSleep (s : State) : State :=
  let t := s.selectorSleep
  let t := { t with gctl := { t.gctl with keep := some (t.sel, t.rd Reg.SEL_STATUS) } }
  (if t.flag Reg.GNS_CTRL 1 ∧ t.pdUp PD_GNSS_TRK then t.burstPrepare else t).fillKeep

/-- Step 3 of R433. -/
def State.retainGnss (s : State) : State :=
  if s.flag Reg.GNS_CTRL 1 ∧ s.pdUp PD_GNSS_TRK ∧ s.pdEn PD_GNSS_TRK then
    ((s.stopQueues PD_GNSS_TRK).abandonTests PD_GNSS_TRK).setPd PD_GNSS_TRK pdRetained
  else s.dropDomain PD_GNSS_TRK

/-- Steps 2 to 5 of R433. -/
def State.powerDown (s : State) : State :=
  let first := powerOrder.reverse.filter fun d => d != PD_FABRIC && d != PD_PCIE && d != PD_GNSS_TRK
  let t := (first.foldl State.dropDomain s).retainGnss
  (((t.dropDomain PD_PCIE).dropDomain PD_FABRIC).forgetDomains.pllSweep).levelSweep

/-- An alarm that has fired already wakes nothing. -/
def State.dropFiredAlarm (s : State) : State :=
  match s.comparator .wake with
  | some c => if c.fired then s.disarm .wake else s
  | none => s

/-- The SLEEP command reaches DORMANT. -/
def State.enterDormant (s : State) (m : Nat) : State :=
  let t := ((s.prepareSleep.powerDown).dropFiredAlarm).enterMode modeDormant
  let t := t.setFlag Reg.GCTL_MODESTAT 31 false
  { t with gctl := { t.gctl with slept := some (m, t.tickNat) }, bus := { t.bus with waiting := [] } }

/-- DORMANT_ENTRY (R433): once SLEEP is accepted; a P-level sequence and a command of PD_BNE end first. -/
def execDormantEntry (s : State) : Host.Outcome State Fault Refusal :=
  .next (match s.gctl.slept with
    | some (m, _) =>
      if s.commandRuns ∧ s.cpm.level.isNone ∧ s.bneIdle ∧ s.mode ≠ modeDormant then s.enterDormant m else s
    | none => s)

/-- A wake cause that holds, by its code. -/
def State.wakeCode (s : State) : WakeCause → Nat
  | .alarm =>
    match s.comparator .wake with
    | some c => if s.flag Reg.CPM_DORM 31 && (c.fired || cf64Reached s.nowCf c.target) then 1 else 0
    | none => 0
  | .gpio pin rising =>
    if s.flag Reg.CPM_DORM 30 && s.fld Reg.CPM_DORM 16 4 == pin.val && s.flag Reg.CPM_DORM 29 == rising then 2 else 0
  | .loLoss => if s.cpm.lost.contains 0 then 3 else 0

/-- A domain after DORMANT: powered up where EN = 1; what was retained is otherwise lost. -/
def State.wakeDomain (s : State) (d : Nat) : State :=
  if s.pdEn d then
    if s.pd d = pdRetained then State.powerUp { s with cpm := { s.cpm with retained := true } } d
    else if s.pd d = pdOff then s.powerUp d
    else s
  else if s.pd d = pdRetained then s.dropDomain d
  else s

/-- The device wakes: cause and seconds, power-up, and a wake boot. -/
def State.wakeUp (s : State) (code : Nat) : State :=
  let since := match s.gctl.slept with | some (_, t) => t | none => s.tickNat
  let secs := min (2 ^ 24 - 1) ((s.tickNat - since) / (10 ^ 9 * 2 ^ 16))
  let t := s.wr Reg.CPM_DORM_STAT (BitVec.ofNat 32 (code * 2 ^ 30 + secs))
  let t := if code = 1 then t.disarm .wake else t
  ((powerOrder.foldl State.wakeDomain t.forgetBoot).noteReset rstWake).beginBoot 2

/-- WAKE (R435). -/
def execWake (cause : WakeCause) (s : State) : Host.Outcome State Fault Refusal :=
  .next (if s.mode ≠ modeDormant ∨ s.wakeCode cause = 0 then s else s.wakeUp (s.wakeCode cause))

/-! ### The registers of the block (R467) -/

/-- GCTL_BADACC: a 1 written to LATCHED clears the record (R32). -/
def State.clearBadAccess (s : State) (v : Word) : State := if bitAt v 31 then s.wr Reg.GCTL_BADACC 0 else s

/-- A write of a register of the GCTL block that completes normally. -/
def State.gctlWrite (s : State) (ag : Agent) (off : Nat) (v : Word) : State :=
  if off = Reg.GCTL_BADACC then s.clearBadAccess v
  else if off = Reg.GCTL_MODECMD then s.writeModeCommand v none
  else if off = Reg.GCTL_RESET then s.writeReset ag v
  else if off = Reg.GCTL_FLASH_CTL then s.writeFlash v
  else if off = Reg.GCTL_OFUSE_CTL then s.writeFuse v false
  else if Reg.GCTL_OFUSE_DATA 0 ≤ off ∧ off ≤ Reg.GCTL_OFUSE_DATA 11 then s.stage off v
  else s.plainWrite off v

/-- A read of a register of the GCTL block: PRESENT is as of now. -/
def State.gctlRead (s : State) (off : Nat) : Word × State :=
  if off = Reg.GCTL_CAUSE then (putBits (s.rd off) 19 3 s.present, s) else s.plainRead off

end Sys2Proof.Machine
end

