-- ==== Sys2Proof/Machine/Classifier.lean ====
section
/-!
DEFINITION. The classifier (chapter 03): codes, user rules, dispatch entries, the flow hash and the tile it selects,
and the delivery of capture records.
-/
namespace Sys2Proof.Machine

/-- A user rule that takes a frame of code 12 or 13: the lowest-numbered enabled match (R90). -/
def State.userRule (s : State) (bs : List Byte) (p : Parsed) : Option Nat :=
  (List.range 14).find? fun n =>
    s.flag (Reg.CLS_RULE n) 31 && ruleMatches bs p (s.fld (Reg.CLS_RULE n) 29 2) (s.fld (Reg.CLS_RULE n) 0 16)

/-- The code of a frame (R89, R90, R520). -/
def State.classify (s : State) (bs : List Byte) : Nat :=
  let p := parseFrame bs
  let c := baseCode bs p
  if c = 12 ∨ c = 13 then
    match s.userRule bs p with
    | some n => 48 + n
    | none => c
  else c

/-- Entry i of the indirection table (R93). -/
def State.indirect (s : State) (i : Nat) : Nat := s.fld (Reg.CLS_IND (i / 4)) (8 * (i % 4)) 7

/-- The first available tile of up to n entries from index i on (R92). -/
def State.pickTile (s : State) : Nat → Nat → Option Nat
  | 0, _ => none
  | n + 1, i =>
    if s.tileAvailable (s.indirect (i % 4096)) then some (s.indirect (i % 4096)) else s.pickTile n (i + 1)

/-- The index of R92: a CRC chained over the key items, or the next index in turn for HASH 0x4. -/
def State.hashIndex (s : State) (bs : List Byte) (hash port : Nat) : Nat :=
  if hash = 4 then s.net.nextIndex
  else
    ((hashItems bs (parseFrame bs) hash port).foldl crcItem (s.rd Reg.CLS_HASH_SEED)).toNat % 4096

/-- A counter of the classifier. -/
def State.clsCount (s : State) (off : Nat) : State := s.bump off 0 32

/-- A request sent toward the array. -/
def State.dispatch (s : State) (r : Request) : State :=
  { s with net := { s.net with toArray := s.net.toArray ++ [r] } }

/-- The request that a classified frame makes, bound to a bank (R91, R95, R158). -/
def frameRequest (f : Frame) (tile entry bank : Nat) : Request :=
  { kind := .frame, tile, pclass := f.info.pclass, entry, bank, stamp := f.stamp,
    g1 := f.bytes.length, code := f.info.code, tag := 0, frame := some f }

/-- A frame that dispatch entry c sends to the array (R91, R92). -/
def State.toTile (s : State) (f : Frame) (c : Nat) : State :=
  let hash := s.fld (Reg.CLS_DISP c) 24 3
  let i := s.hashIndex f.bytes hash f.port
  let t := if hash = 4 then { s with net := { s.net with nextIndex := (s.net.nextIndex + 1) % 4096 } } else s
  match s.pickTile 8 i with
  | none => t.clsCount Reg.CLS_NOTILE
  | some l => t.dispatch (frameRequest f l (s.fld (Reg.CLS_DISP c) 0 19) s.activeBank)

/-- A frame with its code at its dispatch entry (R91). -/
def State.applyEntry (s : State) (f : Frame) (c : Nat) : State :=
  let e := Reg.CLS_DISP c
  if s.flag e 31 = false then s.clsCount Reg.CLS_DISABLED
  else
    match s.fld e 29 2 with
    | 0 => s.toTile f c
    | 1 => { s with net := { s.net with toHost := s.net.toHost ++ [⟨s.fld e 19 5, f, none⟩] } }
    | _ => s.clsCount Reg.CLS_DISABLED

/-- A frame through the classifier; its dispatch decision carries a switch that is pending (R158). -/
def State.classifyFrame (s : State) (f : Frame) : State :=
  if s.flag Reg.CLS_CTRL 0 = false then s.clsCount Reg.CLS_DISABLED
  else
    let c := s.classify f.bytes
    let g := { f with info := frameInfo (parseFrame f.bytes) c c (s.fld (Reg.CLS_DISP c) 27 2) }
    (if c = 14 then s.clsCount Reg.CLS_MALFORMED else s).carrySwitch.applyEntry g c

/-- CLASSIFY (R89, R91): the oldest received frame of a port. -/
def execClassify (n : Fin 16) (s : State) : Host.Outcome State Fault Refusal :=
  match (s.port n.val).received with
  | [] => .next s
  | f :: rest =>
    if s.xqRuns n.val = false ∨ s.pdUp PD_FABRIC = false then .next s
    else .next ((s.setPort n.val { s.port n.val with received := rest }).classifyFrame f)

/-- A capture record at dispatch entry 63 (R84, R91, R93). -/
def State.deliverCapture (s : State) (c : CaptureRecord) : State :=
  let e := Reg.CLS_DISP 63
  let l := c.tag / 2 ^ 10 % 64
  if s.flag e 31 = false ∨ s.fld e 29 2 ≠ 0 then s.clsCount Reg.CLS_DISABLED
  else if s.takesCapture l = false then s.clsCount Reg.CLS_CAPLOST
  else s.dispatch { kind := .capture, tile := l, pclass := s.fld e 27 2, entry := s.fld e 0 19, bank := s.activeBank,
                    stamp := c.stamp, g1 := 0, code := 63, tag := c.tag, frame := none }

/-- CAPTURE_RECORD_DELIVER (R84, R93): the oldest capture record of a port. -/
def execCaptureRecordDeliver (n : Fin 16) (s : State) : Host.Outcome State Fault Refusal :=
  match (s.port n.val).captures with
  | [] => .next s
  | c :: rest => .next ((s.setPort n.val { s.port n.val with captures := rest }).carrySwitch.deliverCapture c)

/-- A write to a register of the CLS block that completes normally: a dispatch entry with DEST 0x3 or HASH 0x5 to 0x7
is refused and unchanged (R91). -/
def State.clsWrite (s : State) (off : Nat) (v : Word) : State :=
  if 0x800100 ≤ off ∧ off < 0x800200 ∧ (bitsAt v 29 2 = 3 ∨ 4 < bitsAt v 24 3) then s
  else s.plainWrite off v

end Sys2Proof.Machine
end

