-- ==== Sys2Proof/Machine/Dma.lean ====
section
/-!
DEFINITION. The DMA engine (chapter 14): windows, ring states, chunks and their classes, up and down frames, event records,
faults, and the registers of the DMA block.
-/
namespace Sys2Proof.Machine

/-! ### Ring registers -/

/-- N of a ring, its base DA, its indices, and the slot of an index (R389). -/
def State.ringLog (s : State) (r : Nat) : Nat := s.fld (ringReg r 0x08) 0 5
def State.ringSize (s : State) (r : Nat) : Nat := 2 ^ s.ringLog r
def State.ringBase (s : State) (r : Nat) : Nat :=
  s.fld (ringReg r 0x04) 0 12 * 2 ^ 32 + s.fld (ringReg r 0x00) 12 20 * 2 ^ 12
def State.ringProd (s : State) (r : Nat) : Nat := (s.rd (ringReg r 0x0C)).toNat
def State.ringCons (s : State) (r : Nat) : Nat := (s.rd (ringReg r 0x10)).toNat
def State.slotDa (s : State) (r i : Nat) : Nat := s.ringBase r + 32 * (i % s.ringSize r)

/-- CTL of a completed slot with index i: GEN and STATUS (R389, R394). -/
def State.slotCtl (s : State) (r i status : Nat) : List Byte :=
  leBytes 4 ((1 - i / s.ringSize r % 2) * 2 ^ 31 + status * 2 ^ 24)

/-- The number of one index ahead of another, modulo 2^32. -/
def ahead (a b : Nat) : Nat := (a + 2 ^ 32 - b) % 2 ^ 32

/-! ### Windows (R396) -/

/-- The host bus address of a DA for a read or a write, or the CAUSE of its fault: the lowest-numbered valid window that
contains it translates it. -/
def State.translate (s : State) (da : Nat) (write : Bool) : Nat ⊕ Nat :=
  let base := fun w => (s.rd (Reg.DMA_WIN_DA w)).toNat * 2 ^ 12
  let hits := (List.range 64).find? fun w =>
    s.flag (Reg.DMA_WIN_CTL w) 31 && decide (base w ≤ da) && decide (da < base w + 2 ^ s.fld (Reg.DMA_WIN_CTL w) 16 8)
  if 2 ^ 44 ≤ da then .inr 1
  else
    match hits with
    | none => .inr 1
    | some w =>
      if s.flag (Reg.DMA_WIN_CTL w) (if write then 29 else 30) = false then .inr 2
      else .inl (s.fld (Reg.DMA_WIN_HA_H w) 0 20 * 2 ^ 44 + (s.rd (Reg.DMA_WIN_HA_L w)).toNat * 2 ^ 12 + (da - base w))

/-- A write of a window's control word with a size out of range, or valid with a base not aligned to its size (R405). -/
def State.windowBad (s : State) (w : Nat) (v : Word) : Bool :=
  let n := bitsAt v 16 8
  let ha := s.fld (Reg.DMA_WIN_HA_H w) 0 20 * 2 ^ 44 + (s.rd (Reg.DMA_WIN_HA_L w)).toNat * 2 ^ 12
  decide (n < 12) || decide (40 < n) ||
    (bitAt v 31 && ((s.rd (Reg.DMA_WIN_DA w)).toNat * 2 ^ 12 % 2 ^ n != 0 || ha % 2 ^ n != 0))

/-! ### Ring states (R395) -/

/-- A ring enters RUN from DISABLED with its indices at 0; its next record after a loss still carries OVF, and frames that
wait for egress keep their cells (R373, R395, R403). -/
def State.ringStart (s : State) (r : Nat) : State :=
  let t := (s.wr (ringReg r 0x0C) 0).wr (ringReg r 0x10) 0
  t.setRing r { RingState.reset with st := ringRun, ovf := (t.ring r).ovf, leaving := (t.ring r).leaving }

/-- EN written to a ring (R395): a start from DISABLED, a pending enable in STOPPING, or a stop. -/
def State.ringEnable (s : State) (r : Nat) (en : Bool) : State :=
  let x := s.ring r
  if x.st = ringDisabled then (if en then s.ringStart r else s)
  else if x.st = ringStopping then s.setRing r { x with again := en }
  else if en then s
  else s.setRing r { x with st := ringStopping, xfer := none, got := [] }

/-- A ring that is STOPPING reaches DISABLED once its issued chunks have completed: frames and records that wait are dropped
and counted, and a pending enable applies (R373, R395). -/
def State.ringStopped (s : State) (r : Nat) : State :=
  let x := s.ring r
  let t := s.setRing r { RingState.reset with ovf := x.ovf, leaving := x.leaving }
  let t := if x.up = [] then t else t.bump (ringReg r 0x30) 0 32 x.up.length
  let t := x.events.foldl (fun u _ => u.loseRecord (r - 64)) t
  if x.again then t.ringStart r else t

/-- RING_STOP_DONE (R395). -/
def execRingStopDone (r : Fin 68) (s : State) : Host.Outcome State Fault Refusal :=
  let x := s.ring r.val
  .next (if x.st = ringStopping ∧ x.reads = [] then s.ringStopped r.val else s)

/-! ### Completions -/

/-- The 12 bytes of a stamp (R37). -/
def timeBytes (t : CT96) : List Byte := leBytes 12 t.toNat

/-- A transfer that writes the completion of the descriptor at CONS. -/
def State.completion (s : State) (r : Nat) (bytes : List Byte) (status : Nat) : State :=
  let x := s.ring r
  let i := s.ringCons r
  let f : Transfer :=
    { kind := 2, write := true, da := s.slotDa r i, total := 32, pos := 0, slot := i % s.ringSize r,
      data := bytes ++ s.slotCtl r i status, serial := 0 }
  s.setRing r { x with ending := status, xfer := some f }

/-- The 28 bytes that an up frame's completion carries before CTL (R391). -/
def State.describe (s : State) (u : UpFrame) : List Byte :=
  timeBytes u.frame.stamp.time ++ leBytes 2 u.frame.bytes.length ++ leBytes 1 u.frame.port ++ leBytes 1 u.frame.info.code ++
    leBytes 1 (ofBool (s.marked u.frame.stamp) + 2 * ofBool u.tile.isSome) ++ leBytes 1 (u.tile.getD 0xFF) ++ leBytes 10 0

/-- The completion of the oldest up frame with a status; a frame that does not reach the host is dropped. -/
def State.upCompletion (s : State) (r status : Nat) (drop : Bool) : State :=
  let x := s.ring r
  match x.up with
  | [] => s
  | u :: us =>
    let t := s.setRing r { x with up := us }
    (if drop then t.bump (ringReg r 0x30) 0 32 else t).completion r (s.describe u) status

/-- A posted descriptor that R391 calls invalid. -/
def postedBad (d : List Byte) : Bool :=
  let da := ofLeBytes (d.take 8)
  let n := ofLeBytes ((d.drop 8).take 2)
  decide (2 ^ 44 ≤ da) || da % 64 != 0 || decide (n < 64) || decide (16384 < n) || n % 64 != 0 ||
    ((d.drop 10).take 18).any (· != 0)

/-- UP_FRAME_WRITE (R391): a ring in RUN that holds a posted descriptor writes its oldest frame and then the completion; an
invalid descriptor completes with DESC, one too short with TOOBIG, a frame with an uncorrectable error with ECC. -/
def execUpFrameWrite (r : Fin 32) (s : State) : Host.Outcome State Fault Refusal :=
  let k := r.val
  let x := s.ring k
  .next (match x.posted, x.up with
    | some d, u :: _ =>
      if s.ringState k ≠ ringRun ∨ x.xfer.isSome then s
      else if postedBad d then (s.freeBytes 28 |> fun bs => (s.drewBytes 28).completion k bs 5)
      else if ofLeBytes ((d.drop 8).take 2) < u.frame.bytes.length then (s.dmaSticky 3).upCompletion k 8 true
      else if u.frame.poison ≠ [] then s.packetError.upCompletion k 9 false
      else
        let f : Transfer :=
          { kind := 1, write := true, da := ofLeBytes (d.take 8), total := u.frame.bytes.length, pos := 0,
            slot := s.ringCons k % s.ringSize k, data := u.frame.bytes, serial := 0 }
        s.setRing k { x with xfer := some f }
    | _, _ => s)

/-- UP_FRAME_ARRIVE (R384, R395, R403): the oldest frame for an up ring is admitted, or dropped and counted. -/
def execUpFrameArrive (s : State) : Host.Outcome State Fault Refusal :=
  match s.net.toHost with
  | [] => .next s
  | u :: us =>
    let t : State := { s with net := { s.net with toHost := us } }
    let x := t.ring u.ring
    .next (
      if t.endpointUp = false then
        let t := t.bump Reg.DMA_CNT_NOHOST 0 32
        if t.pdUp PD_PCIE then t.dmaSticky 8 else t
      else if x.st = ringDisabled then t.bump (ringReg u.ring 0x30) 0 32
      else if t.admissible u.ring = false then (t.bump (ringReg u.ring 0x30) 0 32).dmaSticky 5
      else
        let v := (t.setRing u.ring { x with up := x.up ++ [u] }).quotaAfter t
        let ended := match x.xfer with | some f => ofBool (f.kind == 2) | none => 0
        if ahead (t.ringProd u.ring) (t.ringCons u.ring) ≤ x.up.length + ended then v.dmaSticky 2 else v)

/-- A down descriptor that R392 calls invalid. -/
def State.downBad (s : State) (d : List Byte) : Bool :=
  let b := fun (i n : Nat) => ofLeBytes ((d.drop i).take n)
  decide (2 ^ 44 ≤ b 0 8) || decide (b 8 2 < 60) || decide (9212 < b 8 2) || decide (15 < b 10 1) ||
    (s.quad100 (b 10 1 / 4) && b 10 1 % 2 == 1) || decide (7 < b 11 1) || decide (31 < b 18 1) || b 19 1 != 0 ||
    b 22 6 != 0

/-- The insertion fields of a down descriptor (R81 to R84, R392). -/
def downMark (d : List Byte) : Mark :=
  let b := fun (i n : Nat) => ofLeBytes ((d.drop i).take n)
  { enabled := (b 11 1).testBit 0, off := b 12 2 % 2 ^ 14, fmt := b 18 1 % 8, cks := b 18 1 / 8 % 4,
    cksOff := b 14 2 % 2 ^ 14, auxOff := b 16 2 % 2 ^ 14, capture := (b 11 1).testBit 1, tag := b 20 2 }

/-- DESCRIPTOR_FETCH (R391, R392, R403): an up ring with a frame and a posted slot reads that descriptor; a down ring starts
the read of its next fetched frame, or, with none left, fetches up to 8 descriptors; neither begins while the ring or the
pool is not admissible, nor a read without free cells in the packet buffer (R28). -/
def State.fetchDescriptors (s : State) (r : Nat) : State :=
  let x := s.ring r
  let read := fun (i n : Nat) => (Transfer.mk 0 false (s.slotDa r i) (32 * n) 0 (i % s.ringSize r) [] 0)
  let fetch := fun (i n : Nat) => s.setRing r { x with got := [], xfer := some (read i n) }
  let avail := fun (i : Nat) => min (min 8 (ahead (s.ringProd r) i)) (s.ringSize r - i % s.ringSize r)
  if s.ringState r ≠ ringRun ∨ x.xfer.isSome then s
  else if r < 32 then
    if x.up = [] ∨ x.posted.isSome ∨ avail (s.ringCons r) = 0 then s else fetch (s.ringCons r) 1
  else if s.admissible r = false then s
  else
    match x.down.findIdx? fun d => !d.started && d.status.isNone with
    | some j =>
      match x.down[j]? with
      | none => s
      | some d =>
        if s.cellsFree (frameCells d.len) = false then s else
        let f : Transfer :=
          { kind := 1, write := false, da := ofLeBytes (d.raw.take 8), total := d.len, pos := 0,
            slot := (s.ringCons r + j) % 2 ^ 32 % s.ringSize r, data := [], serial := d.serial }
        (s.setRing r { x with
          down := x.down.modify j (fun d => { d with started := true }), got := [], xfer := some f }).quotaAfter s
    | none => if avail x.fetched = 0 then s else fetch x.fetched (avail x.fetched)

def execDescriptorFetch (r : Fin 64) (s : State) : Host.Outcome State Fault Refusal := .next (s.fetchDescriptors r.val)

/-- DOWN_COMPLETION (R392): the oldest descriptor of a down ring has its status; a completion that is ready early waits for
those before it. -/
def execDownCompletion (r : Fin 32) (s : State) : Host.Outcome State Fault Refusal :=
  let k := 32 + r.val
  let x := s.ring k
  .next (match x.down with
    | d :: _ =>
      match d.status with
      | some (status, stamp) =>
        if s.ringState k ≠ ringRun ∨ x.xfer.isSome then s
        else if status = 0 ∧ (ofLeBytes ((d.raw.drop 11).take 1)).testBit 2 then
          s.completion k (timeBytes stamp.time ++ leBytes 1 (ofBool (s.marked stamp)) ++ leBytes 15 0) status
        else (s.drewBytes 12).completion k (s.freeBytes 12 ++ leBytes 16 0) status
      | none => s
    | [] => s)

/-! ### Ends of transfers -/

/-- The 32-byte pieces of fetched descriptors. -/
def descriptorPieces : Nat → List Byte → List (List Byte)
  | 0, _ => []
  | n + 1, bs => bs.take 32 :: descriptorPieces n (bs.drop 32)

/-- Down descriptors as fetched: one that is invalid has status DESC (R392). -/
def State.takeDown (s : State) (r : Nat) (ds : List (List Byte)) : State :=
  ds.foldl (fun u d =>
    let x := u.ring r
    let e : DownDescriptor := ⟨u.dma.serial, d, false, if u.downBad d then some (5, Stamp.plain 0) else none⟩
    let v := u.setRing r { x with down := x.down ++ [e], fetched := (x.fetched + 1) % 2 ^ 32 }
    { v with dma := { v.dma with serial := v.dma.serial + 1 } }) s

/-- A down frame whose bytes are in the packet buffer goes to its port's egress queue, or ends with NOPORT (R392, R394). -/
def State.queueDown (s : State) (r serial : Nat) (bytes : List Byte) : State :=
  match (s.ring r).down.find? (·.serial == serial) with
  | none => s
  | some d =>
    let n := ofLeBytes ((d.raw.drop 10).take 1)
    let f : Frame :=
      { bytes := bytes, port := n, stamp := Stamp.plain 0, info := FrameInfo.none, mark := downMark d.raw, egress := n,
        origin := .host, queued := 0, poison := [], job := some (r, d.serial) }
    let x := s.ring r
    if s.portExists n && s.flag (Reg.PRT_STATUS n) 0 then
      (s.setRing r { x with leaving := x.leaving ++ [(d.serial, frameCells bytes.length)] }).enqueueTx f
    else s.frameEnded f 4

/-- The bytes of a read's pieces in order of their offsets. -/
def gathered (total : Nat) (got : List (Nat × List Byte)) : List Byte :=
  (got.foldl (fun (acc : List Byte) p => acc.take p.1 ++ p.2 ++ acc.drop (p.1 + p.2.length)) (List.replicate total 0)).take
    total

/-- A completion has been written: the device's index advances, CNT_DONE counts, and the ring's vector is set pending. -/
def State.completionWritten (s : State) (r : Nat) : State :=
  let x := s.ring r
  let t := s.setRing r { x with xfer := none, posted := none, down := if r < 32 then x.down else x.down.tail }
  let t := (t.wr (ringReg r 0x10) (t.rd (ringReg r 0x10) + 1)).bump (ringReg r 0x2C) 0 32
  let t := if x.ending = 5 then t.dmaSticky 6 else t
  if s.flag (ringReg r 0x08) 30 then t.pend (s.fld (ringReg r 0x08) 16 7) else t

/-- A transfer whose every chunk is done (R391, R392). -/
def State.transferDone (s : State) (r : Nat) (t : Transfer) : State :=
  let x := s.ring r
  let bytes := gathered t.total x.got
  let u := s.setRing r { x with xfer := none, got := [] }
  if t.kind = 2 then s.completionWritten r
  else if t.kind = 1 ∧ r < 32 then u.upCompletion r 0 false
  else if t.kind = 1 then u.queueDown r t.serial bytes
  else if r < 32 then u.setRing r { u.ring r with posted := some (bytes.take 32) }
  else u.takeDown r (descriptorPieces (t.total / 32) bytes)

/-! ### Faults (R399 to R401) -/

/-- The descriptor of the faulting transfer completes with a status (R400): its frame is dropped. -/
def State.skipTransfer (s : State) (r cause serial : Nat) : State :=
  let x := s.ring r
  let status := if cause ≤ 2 then 6 else 7
  let t := s.setRing r { x with xfer := none, reads := [], got := [] }
  if r < 32 then t.upCompletion r status true
  else
    let y := t.ring r
    t.setRing r { y with down := y.down.map fun d =>
      if d.serial == serial then { d with status := some (status, Stamp.plain 0) } else d }

/-- A chunk at an offset of a ring's transfer faults (R399, R401). -/
def State.ringFaulted (s : State) (r cause : Nat) (x : Transfer) (pos : Nat) : State :=
  let da := x.da + pos
  let y := s.ring r
  let t := s.wr (ringReg r 0x20)
    (BitVec.ofNat 32 (cause * 2 ^ 28 + ofBool x.write * 2 ^ 27 + x.kind * 2 ^ 25 + x.slot))
  let t := t.wr (ringReg r 0x24) (BitVec.ofNat 32 da)
  let t := t.wr (ringReg r 0x28) (BitVec.ofNat 32 ((if x.kind = 1 then pos else 0) * 2 ^ 16 + da / 2 ^ 32 % 2 ^ 12))
  let t := t.dmaSticky (if cause ≤ 2 then 0 else 1)
  if x.kind = 1 ∧ s.flag (ringReg r 0x08) 27 then t.skipTransfer r cause x.serial
  else
    let t := t.setRing r { y with
      st := ringFault
      xfer := some { x with pos := pos }
      reads := y.reads.filter fun p => decide (p.1 < pos)
      got := y.got.filter fun p => decide (p.1 < pos) }
    if y.st = ringFault then t else t.raise 192 (BitVec.ofNat 32 r)

/-- RESUME and SKIP (R400). -/
def State.ringCommand (s : State) (r op : Nat) : State :=
  let x := s.ring r
  match x.xfer with
  | none => s.dmaError 3
  | some t =>
    if s.ringState r ≠ ringFault ∨ (op ≠ 1 ∧ op ≠ 2) ∨ (op = 2 ∧ t.kind ≠ 1) then s.dmaError 3
    else
      let u := s.setRing r { x with st := ringRun }
      let u := if op = 2 then u.skipTransfer r (s.fld (ringReg r 0x20) 28 4) t.serial else u
      u.raise 193 (BitVec.ofNat 32 r)

/-! ### Chunks (R398) -/

/-- The class of a ring, and whether it has a chunk to issue; requests outstanding number at most 256 (R378). -/
def State.ringClass (s : State) (r : Nat) : Nat := if r < 64 then s.fld (ringReg r 0x08) 28 2 else 0
def State.readsOut (s : State) : Nat := (s.dma.rings.map fun e => e.2.reads.length).sum
def State.ringReady (s : State) (r : Nat) : Bool :=
  let x := s.ring r
  s.ringState r == ringRun &&
    (if r < 64 then
      match x.xfer with
      | none => false
      | some t => decide (t.pos < t.total) && (t.write || decide (s.readsOut < 256))
    else x.xfer.isSome || (x.events != [] && decide (ahead (s.ringProd r) (s.ringCons r) < s.ringSize r)))

/-- A class has ready work. -/
def State.classReady (s : State) (c : Nat) : Bool := (List.range 68).any fun r => s.ringClass r == c && s.ringReady r

/-- The class of the next chunk (R398): the lowest with ready work, but class 3 after 14 chunks of others and class 2 after
6, which keeps the guarantee of 1 and of 2 in 16 (log entry 26). -/
def State.nextClass (s : State) : Option Nat :=
  if s.classReady 3 && decide (14 ≤ s.dma.since3) then some 3
  else if s.classReady 2 && decide (6 ≤ s.dma.since2) then some 2
  else (List.range 4).find? s.classReady

/-- The next ring of a class in round-robin order. -/
def State.nextRing (s : State) (c : Nat) : Option Nat :=
  let first := sparseGet (fun _ => 0) s.dma.next c
  let ready := (List.range 68).filter fun r => s.ringClass r == c && s.ringReady r
  match ready.find? (first ≤ ·) with
  | some r => some r
  | none => ready.head?

/-- The counts of R398 after a chunk of class c on ring r. -/
def State.countChunk (s : State) (c r : Nat) : State :=
  { s with dma := { s.dma with
      next := sparseSet (fun _ => 0) s.dma.next c (r + 1)
      since2 := if c = 2 ∨ s.classReady 2 = false then 0 else s.dma.since2 + 1
      since3 := if c = 3 ∨ s.classReady 3 = false then 0 else s.dma.since3 + 1 } }

/-- The length of a transfer's next chunk: the payload or request size, up to the next 4 KiB boundary (R396, R398). -/
def State.chunkLength (s : State) (t : Transfer) : Nat :=
  let limit := if t.write then s.pcie.maxPayload else s.pcie.maxReadRequest
  min (min limit (t.total - t.pos)) (4096 - (t.da + t.pos) % 4096)

/-- The next chunk of a data ring's transfer is translated and issued (R396, R398, R399). -/
def State.issueRing (s : State) (r : Nat) : State :=
  let x := s.ring r
  match x.xfer with
  | none => s
  | some t =>
    let n := s.chunkLength t
    match s.translate (t.da + t.pos) t.write with
    | .inr cause => s.ringFaulted r cause t t.pos
    | .inl ha =>
      let t' := { t with pos := t.pos + n }
      if t.write then
        let u := (s.emit (.write ha ((t.data.drop t.pos).take n))).setRing r { x with xfer := some t' }
        if t'.pos = t.total then u.transferDone r t' else u
      else (s.emit (.read ha n)).setRing r { x with xfer := some t', reads := x.reads ++ [(t.pos, n)] }

/-- CHUNK_ISSUE (R398): the next chunk of classes 1 to 3; a chunk boundary at which class 0 is due belongs to
EVENT_RECORD_WRITE. -/
def execChunkIssue (s : State) : Host.Outcome State Fault Refusal :=
  .next (match s.nextClass with
    | some c =>
      if c = 0 then s
      else
        match s.nextRing c with
        | some r => (s.countChunk c r).issueRing r
        | none => s
    | none => s)

/-- The 32 bytes of an event record at index i of a ring (R371). -/
def State.recordBytes (s : State) (r i : Nat) (e : EventRecord) : List Byte :=
  timeBytes e.time ++ leBytes 2 e.src ++ leBytes 1 (ofBool (s.ring r).ovf) ++ leBytes 1 0 ++ leBytes 4 e.data0.toNat ++
    leBytes 4 e.data1.toNat ++ leBytes 4 (s.ring r).seq ++ s.slotCtl r i 0

/-- The oldest record of an event ring is written, or its chunk faults and the record stays at the head (R370, R399). -/
def State.writeRecord (s : State) (r : Nat) : State :=
  let x := s.ring r
  let i := s.ringProd r
  match x.events with
  | [] => s
  | e :: es =>
    let t : Transfer :=
      { kind := 3, write := true, da := s.slotDa r i, total := 32, pos := 0, slot := i % s.ringSize r, data := [], serial := 0 }
    match s.translate t.da true with
    | .inr cause => s.ringFaulted r cause t 0
    | .inl ha =>
      let u := (s.emit (.write ha (s.recordBytes r i e))).setRing r
        { x with xfer := none, events := es, ovf := false, seq := (x.seq + 1) % 2 ^ 32 }
      (u.wr (ringReg r 0x0C) (u.rd (ringReg r 0x0C) + 1)).bump (ringReg r 0x2C) 0 32

/-- EVENT_RECORD_WRITE (R370): the engine issues a queued record as class 0 work. -/
def execEventRecordWrite (s : State) : Host.Outcome State Fault Refusal :=
  .next (if s.nextClass = some 0 then
      match s.nextRing 0 with
      | some r => (s.countChunk 0 r).writeRecord r
      | none => s
    else s)

/-- A read of a ring leaves the requests outstanding. -/
def State.takeRead (s : State) (r i : Nat) : Option ((Nat × Nat) × State) :=
  let x := s.ring r
  match x.reads[i]? with
  | none => none
  | some p => some (p, s.setRing r { x with reads := x.reads.eraseIdx i })

/-- READ_COMPLETION (R399): the i-th outstanding read of a ring completes with the bytes that it asked for, or
with a fault. -/
def execReadCompletion (r : Fin 64) (i : Nat) (res : ReadResult) (s : State) : Host.Outcome State Fault Refusal :=
  let k := r.val
  .next (match s.takeRead k i with
    | none => s
    | some (p, t) =>
      let x := t.ring k
      match x.xfer with
      | none => t
      | some f =>
        match res with
        | .data bs =>
          if bs.length ≠ p.2 then s
          else
            let u := t.setRing k { x with got := x.got ++ [(p.1, bs)] }
            if f.pos = f.total ∧ x.reads = [] ∧ x.st ≠ ringFault then u.transferDone k f else u
        | .unsupportedRequest => t.ringFaulted k 3 f p.1
        | .completerAbort => t.ringFaulted k 4 f p.1
        | .poisoned => t.ringFaulted k 6 f p.1)

/-- COMPLETION_TIMEOUT (R399). -/
def execCompletionTimeout (r : Fin 64) (i : Nat) (s : State) : Host.Outcome State Fault Refusal :=
  let k := r.val
  .next (match s.takeRead k i with
    | none => s
    | some (p, t) =>
      match (t.ring k).xfer with
      | none => t
      | some f => t.ringFaulted k 5 f p.1)

/-! ### Registers (R390, R395, R397, R400, R405) -/

/-- A write of an index (R390). -/
def State.writeIndex (s : State) (r : Nat) (prod : Bool) (v : Word) : State :=
  let off := ringReg r (if prod then 0x0C else 0x10)
  let n := s.ringSize r
  if prod ≠ decide (r < 64) then s.dmaError 1
  else
    let span := if prod then ahead v.toNat (s.ringCons r) else ahead (s.ringProd r) v.toNat
    if n < span ∨ n < ahead v.toNat (s.rd off).toNat then s.dmaError 0 else s.wr off v

/-- A write of DMA_RINGr_CFG (R395, R405). -/
def State.writeRingCfg (s : State) (r : Nat) (v : Word) : State :=
  let n := bitsAt v 0 5
  if n < 6 ∨ 16 < n ∨ (r < 64 ∧ bitsAt v 28 2 = 0) then s.dmaError 0
  else if n ≠ s.ringLog r ∧ s.ringState r ≠ ringDisabled then s.dmaError 2
  else (s.plainWrite (ringReg r 0x08) v).ringEnable r (bitAt v 31)

/-- A write of a register of ring r at offset o. -/
def State.writeRingReg (s : State) (r o : Nat) (v : Word) : State :=
  match o with
  | 0x00 => if s.ringState r = ringDisabled then s.plainWrite (ringReg r o) v else s.dmaError 2
  | 0x04 => if s.ringState r = ringDisabled then s.plainWrite (ringReg r o) v else s.dmaError 2
  | 0x08 => s.writeRingCfg r v
  | 0x0C => s.writeIndex r true v
  | 0x10 => s.writeIndex r false v
  | 0x14 => (s.plainWrite (ringReg r o) v).quotaAfter s
  | 0x1C => if bitAt v 31 then s.ringCommand r (bitsAt v 24 2) else s
  | _ => s.plainWrite (ringReg r o) v

/-- A write of a register of the DMA block that completes normally. -/
def State.dmaWrite (s : State) (off : Nat) (v : Word) : State :=
  if 0xC03000 ≤ off ∧ off < 0xC03100 then s.writeRingReg (64 + (off - 0xC03000) / 0x40) ((off - 0xC03000) % 0x40) v
  else if 0xC02000 ≤ off ∧ off < 0xC03000 then s.writeRingReg ((off - 0xC02000) / 0x40) ((off - 0xC02000) % 0x40) v
  else if 0xC01000 ≤ off ∧ off < 0xC01400 ∧ off % 0x10 = 0 ∧ s.windowBad ((off - 0xC01000) / 0x10) v then s.dmaError 0
  else if off = Reg.DMA_POOL then
    if 32768 < bitsAt v 0 16 then s.dmaError 0 else (s.plainWrite off v).quotaAfter s
  else s.plainWrite off v

/-- DMA_STATUS as it stands. -/
def State.dmaStatus (s : State) : Word :=
  let full := s.poolOver || (List.range 64).any s.ringOver
  let fault := (List.range 68).any fun r => s.ringState r == ringFault
  BitVec.ofNat 32 (ofBool full * 8 + ofBool fault * 4 + ofBool s.pcie.busMaster * 2 + ofBool s.dmaEnabled)

/-- STAT of a ring: its state, OVQ, and the cells held or the records queued. -/
def State.ringStat (s : State) (r : Nat) : Word :=
  let n := if r < 64 then s.ringCells r else (s.ring r).events.length
  BitVec.ofNat 32 (s.ringState r * 2 ^ 29 + ofBool (decide (r < 64) && s.ringOver r) * 2 ^ 28 + n % 2 ^ 17)

/-- A read of a register of the DMA block that completes normally. -/
def State.dmaRead (s : State) (off : Nat) : Word × State :=
  if off = Reg.DMA_STATUS then (s.dmaStatus, s)
  else if off = Reg.DMA_POOL then (putBits (s.rd off) 16 16 s.poolCells, s)
  else if 0xC02000 ≤ off ∧ off < 0xC03000 ∧ off % 0x40 = 0x18 then (s.ringStat ((off - 0xC02000) / 0x40), s)
  else if 0xC03000 ≤ off ∧ off < 0xC03100 ∧ off % 0x40 = 0x18 then (s.ringStat (64 + (off - 0xC03000) / 0x40), s)
  else s.plainRead off

/-- A write to a DMA register under R32. -/
def State.dmaAccess (s : State) (ag : Agent) (off : Nat) (v : Word) : State :=
  s.writeAccess ag off v fun t => t.dmaWrite off v

/-- PROD_WRITE (R390). -/
def execProdWrite (ag : Agent) (r : Fin 64) (v : Word) (s : State) : Host.Outcome State Fault Refusal :=
  .next (s.dmaAccess ag (ringReg r.val 0x0C) v)

/-- CONS_WRITE (R390). -/
def execConsWrite (ag : Agent) (e : Fin 4) (v : Word) (s : State) : Host.Outcome State Fault Refusal :=
  .next (s.dmaAccess ag (ringReg (64 + e.val) 0x10) v)

/-- RING_ENABLE (R395): a write of CFG with EN = 1. -/
def execRingEnable (ag : Agent) (r : Fin 68) (v : Word) (s : State) : Host.Outcome State Fault Refusal :=
  .next (s.dmaAccess ag (ringReg r.val 0x08) (putBit v 31 true))

/-- RING_DISABLE (R395): a write of CFG with EN = 0. -/
def execRingDisable (ag : Agent) (r : Fin 68) (v : Word) (s : State) : Host.Outcome State Fault Refusal :=
  .next (s.dmaAccess ag (ringReg r.val 0x08) (putBit v 31 false))

/-- RING_RESUME (R400): a write of CMD with OP RESUME. -/
def execRingResume (ag : Agent) (r : Fin 68) (s : State) : Host.Outcome State Fault Refusal :=
  .next (s.dmaAccess ag (ringReg r.val 0x1C) 0x81000000#32)

/-- RING_SKIP (R400): a write of CMD with OP SKIP. -/
def execRingSkip (ag : Agent) (r : Fin 68) (s : State) : Host.Outcome State Fault Refusal :=
  .next (s.dmaAccess ag (ringReg r.val 0x1C) 0x82000000#32)

/-- WINDOW_WRITE (R397): word j of window w. -/
def execWindowWrite (ag : Agent) (w : Fin 64) (j : Fin 4) (v : Word) (s : State) : Host.Outcome State Fault Refusal :=
  .next (s.dmaAccess ag (Reg.DMA_WIN_CTL w.val + 4 * j.val) v)

end Sys2Proof.Machine
end

