-- ==== Sys2Proof/Machine/Reliability.lean ====
section
/-!
DEFINITION. Reliability control (chapter 17): the scrubber, targeted self-tests and retirement, the service-core watchdogs,
the trouble log and the life used.
-/
namespace Sys2Proof.Machine

/-- A REL_ERR bit set: 0 PARAM, 1 CMD, 2 OWNER; source 238 as it goes from 0 to 1. -/
def State.relError (s : State) (bit : Nat) : State := s.error Reg.REL_ERR bit 238

/-! ### The scrubber (R470) -/

/-- A memory of R468 that the scrubber reads, while its domain is powered. -/
def State.scrubs (s : State) (mem addr : Nat) : Bool :=
  decide (1 ≤ mem) && decide (mem ≤ 7) && (mem == memLog || s.powered (testDomain (unitRow mem) (addr / 512)))

/-- A word read: corrected, or handled as uncorrectable with no reader. -/
def State.scrubWord (s : State) (mem addr : Nat) (found : EccFind) : State :=
  if (s.poisoned mem (addr / 8 * 8) 8).isSome then s.eccError mem addr
  else
    match found with
    | .clean => s
    | .corrected => s.bump Reg.REL_ECC_CORR 0 32
    | .uncorrectable => s.eccError mem addr

/-- The end of a pass. -/
def State.scrubPassed (s : State) : State := (s.advance Reg.REL_SCRUB 0 16).log 0x0101

/-- SCRUB_READ (R470): the word read, what its SECDED check found, and whether it is the last of the pass. -/
def execScrubRead (mem : Fin 10) (addr : Nat) (found : EccFind) (last : Bool) (s : State) :
    Host.Outcome State Fault Refusal :=
  .next (if s.flag Reg.REL_SCRUB 23 = false ∨ s.scrubs mem.val addr = false then s
    else
      let t := s.scrubWord mem.val addr found
      if last then t.scrubPassed else t)

/-! ### Self-tests and retirement (R471 to R476) -/

/-- SELFTEST_START (R475): the oldest test that waits. -/
def execSelftestStart (s : State) : Host.Outcome State Fault Refusal :=
  .next (match s.rel.waiting with
    | [] => s
    | u :: us =>
      if s.rel.tests.length < 16 then { s with rel := { s.rel with tests := s.rel.tests ++ [u], waiting := us } } else s)

/-- A tile that a write retires: it leaves dispatch as for a core fault, its contexts are killed, and its spare takes its
place (log entry 84). -/
def State.retireLiveTile (s : State) (p : Nat) : State :=
  if s.tileRetired p then s
  else
    let t := s.endTest (unitTile p) 0
    if t.pdUp PD_FABRIC = false then (t.setFlag (Reg.REL_RET_TILE (p / 32)) (p % 32) true).raise 228
    else
      match t.logical p with
      | some l =>
        let u : State := { t with gys := { t.gys with coreFault := t.gys.coreFault.filter (· != l) ++ [l] } }
        ((u.drainTile l).killStarted p).retireTile p
      | none => t.retireTile p

/-- A lane retired: its port, or the pair link, stays down (R471). -/
def State.retireLane (s : State) (n : Nat) : State :=
  if s.laneRetired n then s
  else
    let t := ((s.endTest (unitLane n) 0).setFlag Reg.REL_RET_LANE n true).raise 228
    if n < 16 then
      ((List.range 16).filter fun q => (t.lanesOf q).contains n).foldl State.linkDown t
    else t.pairLinkLost

/-- A row that failed: remapped to a spare of its 64 KiB macro, or left in service (R472). -/
def State.retireRow (s : State) (mem row : Nat) (spare : Bool) : State :=
  let used := (s.rel.spares.filter fun e => e.1 == mem && e.2 / 128 == row / 128).length
  if spare ∧ used < 4 then { s with rel := { s.rel with spares := s.rel.spares ++ [(mem, row)] } }
  else
    let t := s.setFlag Reg.REL_STICKY 1 true
    if mem = memL then t.retireLiveTile (row * 512 / 2 ^ 19) else t

/-- What a LASTING verdict does to its unit (R471). -/
def State.retireUnit (s : State) (unit row : Nat) (spare : Bool) : State :=
  let i := unit % 0x1000
  match unit / 0x1000 with
  | 1 => s.retireRow i row spare
  | 3 => s.retirePipe i
  | 4 => s.retireLane i
  | _ => (s.retireEngine i).raise 228

/-- SELFTEST_DONE (R471, R474): a test that runs reaches its verdict; spare tells whether the row's macro has a spare row
left. -/
def execSelftestDone (unit : BitVec 16) (row : Nat) (failed spare : Bool) (s : State) :
    Host.Outcome State Fault Refusal :=
  let u := unit.toNat
  .next (if s.testRuns u row = false then s
    else
      let lasting := failed || s.escalates u row
      let t := if lasting then s else s.noteTransient u row
      if u / 0x1000 = 2 then t.coreScanned (u % 0x1000) lasting
      else
        let t := (t.endTest u row).verdict u (if lasting then verdictLasting else verdictTransient)
        if lasting then t.retireUnit u row spare
        else if u / 0x1000 = 5 then t.resumeEngine (u % 0x1000)
        else t)

/-- A write of REL_RET_TILE0 to 2: each bit written 1 retires its tile. -/
def State.writeRetireTile (s : State) (k : Nat) (v : Word) : State :=
  (List.range 32).foldl (fun t j => if bitAt v j ∧ 32 * k + j < 72 then t.retireLiveTile (32 * k + j) else t) s

/-- RETIRE_TILE_WRITE (R476). -/
def execRetireTileWrite (ag : Agent) (k : Fin 3) (v : Word) (s : State) : Host.Outcome State Fault Refusal :=
  .next (s.writeAccess ag (Reg.REL_RET_TILE k.val) v fun t => t.writeRetireTile k.val v)

/-- A write of REL_RET_LANE. -/
def State.writeRetireLane (s : State) (v : Word) : State :=
  (List.range 18).foldl (fun t n => if bitAt v n then t.retireLane n else t) s

/-- RETIRE_LANE_WRITE (R476). -/
def execRetireLaneWrite (ag : Agent) (v : Word) (s : State) : Host.Outcome State Fault Refusal :=
  .next (s.writeAccess ag Reg.REL_RET_LANE v fun t => t.writeRetireLane v)

/-! ### Watchdogs (R478, R479) -/

/-- The group of a core and its ACTION. -/
def wdgGroup (k : Nat) : Nat := if k < 2 then 0 else if k < 6 then 1 else 2
def State.wdgAction (s : State) (k : Nat) : Nat := s.fld (Reg.REL_WDG_CFG (wdgGroup k)) 30 2

/-- EXPIRED and ACTED of a core. -/
def State.wdgExpired (s : State) (k : Nat) : Bool := s.flag Reg.REL_WDG_STAT k
def State.wdgActed (s : State) (k : Nat) : Bool := s.flag Reg.REL_WDG_STAT (8 + k)

/-- The watchdog counts: boot has released the core, and PD_FABRIC is on. -/
def State.wdgRuns (s : State) (k : Nat) : Bool := s.pdUp PD_FABRIC && !(s.core k).inReset

/-- A write of REL_WDG_KICK: a core's own restarts its count, any other agent's is discarded. -/
def State.writeKick (s : State) (ag : Agent) : State :=
  match ag with
  | .sc k => s.setFlag Reg.REL_WDG_STAT k.val false
  | _ => s.relError 2

/-- WDG_KICK (R478). -/
def execWdgKick (ag : Agent) (v : Word) (s : State) : Host.Outcome State Fault Refusal :=
  .next (s.writeAccess ag Reg.REL_WDG_KICK v fun t => t.writeKick ag)

/-- The action of core k's group (R479). -/
def State.wdgAct (s : State) (k : Nat) : State :=
  let d := BitVec.ofNat 32 k
  let a := s.wdgAction k
  let t := ((s.setFlag Reg.REL_WDG_STAT (8 + k) true).raise 230 d).log 230 d 0 0 a
  if a = 1 then t.safeCause causeFirmware
  else if a = 2 then t.warmReset rstWatchdog
  else if a = 3 then t.coldReset rstWatchdog
  else t

/-- The watchdog of core k expires. -/
def State.wdgExpire (s : State) (k : Nat) : State :=
  let d := BitVec.ofNat 32 k
  let t := (s.setFlag Reg.REL_WDG_STAT k true).setFlag Reg.REL_WDG_STAT (8 + k) false
  ((t.setFlag Reg.REL_STICKY 5 true).raise 229 d).log 229 d 0 0 (s.wdgAction k)

/-- WDG_EXPIRE (R478): the count of a core reaches TIMEOUT, or the core has stopped; the action for a stopped core comes at
once. -/
def execWdgExpire (k : Fin 8) (s : State) : Host.Outcome State Fault Refusal :=
  .next (if s.wdgRuns k.val = false ∨ s.wdgExpired k.val then s
    else
      let t := s.wdgExpire k.val
      if (s.core k.val).stopped then t.wdgAct k.val else t)

/-- WDG_ACTION (R479): a further TIMEOUT has passed without a kick. -/
def execWdgAction (k : Fin 8) (s : State) : Host.Outcome State Fault Refusal :=
  .next (if s.wdgRuns k.val ∧ s.wdgExpired k.val ∧ s.wdgActed k.val = false then s.wdgAct k.val else s)

/-! ### The trouble log (R480 to R483) -/

/-- The slots of the log. -/
abbrev logSize : Nat := 65536

/-- HEAD and TAIL, and the entries held. -/
def State.logHead (s : State) : Nat := (s.rd Reg.REL_LOG_HEAD).toNat
def State.logTail (s : State) : Nat := (s.rd Reg.REL_LOG_TAIL).toNat
def State.logHeld (s : State) : Nat := (s.logHead + 2 ^ 32 - s.logTail) % 2 ^ 32

/-- The 32 bytes of an entry as its eight words. -/
def logWords (t : CT96) (e : LogEntry) : List Word :=
  [word96 t 0, word96 t 1, word96 t 2,
   BitVec.ofNat 32 (e.source % 2 ^ 16 + e.severity % 2 ^ 8 * 2 ^ 16 + e.code % 2 ^ 8 * 2 ^ 24),
   e.data0, e.data1, lo32 e.detail, hi32 e.detail]

/-- Source 231, once for each filling since a clear. -/
def State.logFull (s : State) : State :=
  if s.rel.full then State.raise { s with rel := { s.rel with full := false } } 231 else s

/-- An entry written at HEAD. -/
def State.logPut (s : State) (e : LogEntry) : State :=
  let h := s.logHead
  let t := s.clearPoison memLog (h % logSize * 32) 32
  let t := { t with rel := { t.rel with
    log := (t.rel.log.filter fun (x : Nat × CT96 × LogEntry) => x.1 % logSize != h % logSize) ++ [(h, s.now, e)] } }
  t.wr Reg.REL_LOG_HEAD (BitVec.ofNat 32 (h + 1))

/-- An entry accepted: into a free slot, over the oldest (WRAP), or lost (STOP). -/
def State.logAccept (s : State) (e : LogEntry) : State :=
  let stop := s.flag Reg.REL_LOG_CTRL 30
  if s.logHeld < logSize then
    let t := s.logPut e
    if stop ∧ t.logHeld = logSize then t.logFull else t
  else if stop then (s.bump Reg.REL_LOG_LOST 0 32).setFlag Reg.REL_STICKY 6 true
  else ((s.logPut e).wr Reg.REL_LOG_TAIL (BitVec.ofNat 32 (s.logTail + 1))).logFull

/-- LOG_ACCEPT (R481): one entry per AON cycle. -/
def execLogAccept (s : State) : Host.Outcome State Fault Refusal :=
  .next (match s.logWait with
    | [] => s
    | e :: es =>
      if s.flag Reg.REL_LOG_CTRL 31 ∧ modeBoot ≤ s.mode then State.logAccept { s with logWait := es } e else s)

/-- The entry that REL_LOG_IN0 to 4 make. -/
def State.logInput (s : State) (v : Word) : LogEntry :=
  let w := s.stagedWord (Reg.REL_LOG_IN 0)
  { source := bitsAt w 0 16, severity := bitsAt w 16 8, code := bitsAt w 24 8,
    data0 := s.stagedWord (Reg.REL_LOG_IN 1), data1 := s.stagedWord (Reg.REL_LOG_IN 2),
    detail := ofWords64 (s.stagedWord (Reg.REL_LOG_IN 3)) v }

/-- A write of REL_LOG_INi: by service cores only; the last word commits the entry. -/
def State.writeLogIn (s : State) (ag : Agent) (i : Nat) (v : Word) : State :=
  if isHost ag then s.relError 2
  else if i = 0 ∧ 4 < bitsAt v 16 8 then s.relError 0
  else if i = 4 then s.logEntry (s.logInput v)
  else s.stage (Reg.REL_LOG_IN i) v

/-- LOG_IN_COMMIT (R481). -/
def execLogInCommit (ag : Agent) (v : Word) (s : State) : Host.Outcome State Fault Refusal :=
  .next (s.writeAccess ag (Reg.REL_LOG_IN 4) v fun t => t.writeLogIn ag 4 v)

/-- CLEAR: HEAD = TAIL = 0. -/
def State.logClear (s : State) : State :=
  let t := (s.wr Reg.REL_LOG_HEAD 0).wr Reg.REL_LOG_TAIL 0
  { t with rel := { t.rel with log := [], full := true } }

/-- A write of REL_LOG_CTRL. -/
def State.writeLogCtrl (s : State) (v : Word) : State :=
  if 4 < bitsAt v 24 3 then s.relError 0
  else
    let t := s.plainWrite Reg.REL_LOG_CTRL v
    if bitAt v 29 then t.logClear else t

/-- LOG_CLEAR (R482): the other fields of REL_LOG_CTRL written as they stand. -/
def execLogClear (ag : Agent) (s : State) : Host.Outcome State Fault Refusal :=
  let v := s.rd Reg.REL_LOG_CTRL ||| 0x20000000#32
  .next (s.writeAccess ag Reg.REL_LOG_CTRL v fun t => t.writeLogCtrl v)

/-- Eight words that no rule gives (log entry 2). -/
def State.freeLatch (s : State) : State :=
  (List.range 8).foldl (fun t i => (t.wr (Reg.REL_LOG_DATA i) (lo32 t.draw)).drawn) s

/-- The entry that REL_LOG_SEL names latched into REL_LOG_DATA0 to 7 and RSTAT. -/
def State.logLatch (s : State) : State :=
  let i := (s.rd Reg.REL_LOG_SEL).toNat
  if (i + 2 ^ 32 - s.logTail) % 2 ^ 32 < s.logHeld then
    match s.poisoned memLog (i % logSize * 32) 32 with
    | some w => ((s.eccReport memLog w).freeLatch).wr Reg.REL_LOG_RSTAT 3
    | none =>
      match s.rel.log.find? fun e => e.1 == i with
      | some (_, t, e) => (s.wrWords (Reg.REL_LOG_DATA 0) (logWords t e)).wr Reg.REL_LOG_RSTAT 2
      | none => s.freeLatch.wr Reg.REL_LOG_RSTAT 2
  else s.freeLatch.wr Reg.REL_LOG_RSTAT 0

/-- A read of REL_LOG_DATA0. -/
def State.readLogData (s : State) : Word × State := (s.logLatch.rd (Reg.REL_LOG_DATA 0), s.logLatch)

/-- LOG_READ (R483). -/
def execLogRead (ag : Agent) (s : State) : Host.Outcome State Fault Refusal :=
  .next (s.readAccess ag (Reg.REL_LOG_DATA 0) State.readLogData)

/-! ### Life used (R497) -/

/-- The acceleration at the junction estimate of R432. -/
def State.ageing (s : State) : Rat :=
  let t : Rat := (s.junction : Rat) / 256 + 27315 / 100
  Config.exp (8124 * (1 / (35815 / 100) - 1 / t))

/-- WEAR_UPDATE (R497): one minute. -/
def execWearUpdate (s : State) : Host.Outcome State Fault Refusal :=
  .next (if s.mode < modeBoot then s
    else
      let w := s.rel.wear + s.ageing
      State.wr { s with rel := { s.rel with wear := w } } Reg.REL_WEAR (BitVec.ofNat 32 (min (2 ^ 32 - 1) w.floor.toNat)))

/-! ### The registers of the block (R499) -/

/-- The ranges of REL fields. -/
def relRangeOk (off : Nat) (v : Word) : Bool :=
  let inRange (lo n a b : Nat) := decide (a ≤ bitsAt v lo n) && decide (bitsAt v lo n ≤ b)
  if off = Reg.REL_SCRUB then inRange 24 8 1 168
  else if off = Reg.REL_TRANS then inRange 24 8 1 255 && inRange 16 8 1 168
  else if Reg.REL_WDG_CFG 0 ≤ off ∧ off ≤ Reg.REL_WDG_CFG 2 then inRange 0 14 1 10000
  else true

/-- A write of a register of the REL block that completes normally. -/
def State.relWrite (s : State) (ag : Agent) (off : Nat) (v : Word) : State :=
  if Reg.REL_RET_TILE 0 ≤ off ∧ off ≤ Reg.REL_RET_TILE 2 then s.writeRetireTile ((off - Reg.REL_RET_TILE 0) / 4) v
  else if off = Reg.REL_RET_LANE then s.writeRetireLane v
  else if off = Reg.REL_WDG_KICK then s.writeKick ag
  else if off = Reg.REL_LOG_CTRL then s.writeLogCtrl v
  else if Reg.REL_LOG_IN 0 ≤ off ∧ off ≤ Reg.REL_LOG_IN 4 then s.writeLogIn ag ((off - Reg.REL_LOG_IN 0) / 4) v
  else if relRangeOk off v = false then s.relError 0
  else s.plainWrite off v

/-- A read of a register of the REL block that completes normally. -/
def State.relRead (s : State) (off : Nat) : Word × State :=
  if off = Reg.REL_STQ then
    (BitVec.ofNat 32 (s.rel.tests.length * 2 ^ 24 + s.rel.waiting.length * 2 ^ 16), s)
  else if off = Reg.REL_LOG_DATA 0 then s.readLogData
  else s.plainRead off

end Sys2Proof.Machine
end

