-- ==== Sys2Proof/Machine/Bus.lean ====
section
/-!
DEFINITION. The register fabric (R4, R6, R30 to R32): the block behind each offset, the accesses that wait for a domain, and
the accesses of service cores to registers (R388, R413).
-/
namespace Sys2Proof.Machine

/-! ### The blocks of R30 -/

/-- A write that completes normally. -/
def State.applyWrite (s : State) (ag : Agent) (off : Nat) (v : Word) : State :=
  match off / 2 ^ 20 with
  | 0 => s.gctlWrite ag off v
  | 1 => s.cpmWrite ag off v
  | 2 => s.calWrite ag off v
  | 3 => s.selWrite off v
  | 4 => s.dryWrite off v
  | 5 => s.grvWrite ag off v
  | 6 => if off < 0x620000 then (s.gnsWrite off v).pllSweep else s.navWrite off v
  | 7 => s.portWrite off v
  | 8 => s.clsWrite off v
  | 9 => s.gysWrite off v
  | 10 => s.cryWrite off v
  | 11 => s.bneWrite ag off v
  | 12 => s.dmaWrite off v
  | 13 => s.evtWrite off v
  | 14 => s.relWrite ag off v
  | 15 => s.parWrite ag off v
  | _ => s

/-- A read that completes normally. -/
def State.applyRead (s : State) (ag : Agent) (off : Nat) : Word × State :=
  match off / 2 ^ 20 with
  | 0 => s.gctlRead off
  | 1 => s.cpmRead off
  | 2 => s.calRead off
  | 3 => s.selRead off
  | 4 => s.dryRead off
  | 5 => s.grvRead ag off
  | 6 => if off < 0x620000 then s.gnsRead off else s.navRead off
  | 7 => s.portRead off
  | 9 => s.gysRead off
  | 10 => s.cryRead off
  | 11 => s.bneRead off
  | 12 => s.dmaRead off
  | 13 => s.evtRead off
  | 14 => s.relRead off
  | 15 => s.parRead off
  | _ => s.plainRead off

/-- BAR0 is 64 MiB (R30). -/
def bar0Size : Nat := 0x4000000

/-- An access that R4 rejects: nothing is written or returned. -/
def State.rejectAccess (s : State) (ag : Agent) (off : Nat) : State :=
  if s.reaches ag off then s.complete .unsupportedRequest else s

/-- REGISTER_WRITE (R32). -/
def execRegisterWrite (ag : Agent) (off : Nat) (v : Word) (s : State) : Host.Outcome State Fault Refusal :=
  .next (if bar0Size ≤ off then s
    else if off % 4 ≠ 0 then s.rejectAccess ag off
    else s.writeAccess ag off v fun t => t.applyWrite ag off v)

/-- UNALIGNED_BAR0_ACCESS (R4): size bytes at an offset. -/
def execUnalignedBar0Access (ag : Agent) (off size : Nat) (write : Bool) (s : State) :
    Host.Outcome State Fault Refusal :=
  .next (if bar0Size ≤ off ∨ (off % 4 = 0 ∧ size = 4) then s else s.rejectAccess ag off)

/-- RC_FIELD_READ (R6, R32): a read of a register, with an RC field or without. -/
def execRcFieldRead (ag : Agent) (off : Nat) (s : State) : Host.Outcome State Fault Refusal :=
  .next (if bar0Size ≤ off then s
    else if off % 4 ≠ 0 then s.rejectAccess ag off
    else s.readAccess ag off fun t => t.applyRead ag off)

/-- BADACC_CLEAR (R32). -/
def execBadaccClear (ag : Agent) (v : Word) (s : State) : Host.Outcome State Fault Refusal :=
  .next (s.writeAccess ag Reg.GCTL_BADACC v fun t => t.clearBadAccess v)

/-! ### Accesses that wait (R32) -/

/-- A word as a core's load extends it. -/
def loadWord (v : Word) (sign : Bool) : Word64 := if sign then BitVec.ofInt 64 v.toInt else v.setWidth 64

/-- A core whose load or store waited goes on with the next instruction. -/
def State.resumeCore (s : State) (k : Fin 8) (v : Word) : State :=
  match (s.core k.val).th.busLoad with
  | none => s
  | some (r, sign) =>
    let t := (s.setG (.core k) r (loadWord v sign)).retire (.core k) (nextPc (s.core k.val).th.pc)
    t.setTh (.core k) { t.th (.core k) with busLoad := none, status := .ready }

/-- The agent of a completed access is told: a service core resumes. -/
def State.answerAccess (s : State) (a : Access) (v : Word) : State :=
  let t := if a.write then s else s.complete (.data v)
  match a.agent with
  | .sc k => t.resumeCore k v
  | _ => t

/-- A waiting access taken out of the queue. -/
def State.takeAccess (s : State) (a : Access) : State := { s with bus := { s.bus with waiting := s.bus.waiting.erase a } }

/-- A waiting access completes as the state of its domain now says. -/
def State.finishAccess (s : State) (a : Access) : State :=
  let s := s.takeAccess a
  match s.accessOutcome a.off with
  | .ok =>
    if a.write then (s.applyWrite a.agent a.off a.value).answerAccess a 0
    else
      let r := s.applyRead a.agent a.off
      r.2.answerAccess a r.1
  | .unmapped => (s.badAccess 1 a.off a.write).answerAccess a 0
  | _ => (s.badAccess 2 a.off a.write).answerAccess a 0xFFFFFFFF#32

/-- PENDING_ACCESS_COMPLETE (R32): the oldest access whose domain is ready. -/
def execPendingAccessComplete (s : State) : Host.Outcome State Fault Refusal :=
  .next (match s.bus.waiting.find? fun a => s.accessOutcome a.off != .wait with
    | none => s
    | some a => s.finishAccess a)

/-- BUS_TIMEOUT (R32): the oldest access has waited 2 µs. -/
def execBusTimeout (s : State) : Host.Outcome State Fault Refusal :=
  .next (match s.bus.waiting with
    | [] => s
    | a :: _ => ((s.takeAccess a).badAccess 3 a.off a.write).answerAccess a 0xFFFFFFFF#32)

/-! ### Service cores (R388, R413) -/

/-- The register that a core's access of n bytes at a virtual address names; only aligned 32-bit accesses reach one. -/
def State.coreRegister (s : State) (x : Ctx) (a n : Nat) (write : Bool) : Option Nat :=
  match x with
  | .tile _ _ => none
  | .core k =>
    match (s.core k.val).translate a n write with
    | none => none
    | some p =>
      match fabricPlace k.val p with
      | .registers off => if n = 4 ∧ off % 4 = 0 then some off else none
      | _ => none

/-- An access of core k that waits on the control fabric; a store stalls the core as well, since DEV is strictly ordered. -/
def State.stallCore (s : State) (k : Fin 8) (a : Access) (dst : Nat) (sign : Bool) : State :=
  State.setTh { s with bus := { s.bus with waiting := s.bus.waiting ++ [a] } } (.core k)
    { s.th (.core k) with busLoad := some (dst, sign) }

/-- A core's load of a register into rd. -/
def State.coreRegLoad (s : State) (k : Fin 8) (off addr rd : Nat) (sign : Bool) : Act :=
  match s.accessOutcome off with
  | .ok =>
    let r := s.applyRead (.sc k) off
    .next ((r.2.complete (.data r.1)).setG (.core k) rd (loadWord r.1 sign))
  | .unmapped => .next (((s.badAccess 1 off false).complete (.data 0)).setG (.core k) rd 0)
  | .wait => .wait (s.stallCore k ⟨.sc k, off, false, 0⟩ rd sign)
  | .off =>
    let t := s.badAccess 2 off false
    let gated := match regRow off with
      | some (r, _, _) => s.pd (regDomain r off) == pdGated
      | none => false
    if gated then .fault t fltLRange 0 addr
    else .next ((t.complete (.data 0xFFFFFFFF#32)).setG (.core k) rd (loadWord 0xFFFFFFFF#32 sign))

/-- A core's store to a register. -/
def State.coreRegStore (s : State) (k : Fin 8) (off : Nat) (v : Word) : Act :=
  match s.accessOutcome off with
  | .ok => .next (s.applyWrite (.sc k) off v)
  | .unmapped => .next (s.badAccess 1 off true)
  | .off => .next (s.badAccess 2 off true)
  | .wait => .wait (s.stallCore k ⟨.sc k, off, true, v⟩ 0 false)

/-- A core that a register write of its own has put into reset keeps nothing of the instruction. -/
def State.settleCore (s : State) (x : Ctx) : State :=
  match x with
  | .core k => if (s.core k.val).inReset then s.setCore k.val CoreState.reset else s
  | .tile _ _ => s

end Sys2Proof.Machine
end

