-- ==== Sys2Proof/Machine/Memory.lean ====
section
/-!
DEFINITION. The Walzor loads and stores on L and P (R106 to R108).
-/
namespace Sys2Proof.Machine

/-- The address of Form E: ra + sext(OFF14) (R106). -/
def State.formE (s : State) (x : Ctx) (w : Word) : Nat := (s.g x (fRa w) + BitVec.ofInt 64 (fOff14 w)).toNat

/-- The low n bytes of a value as a load extends them. -/
def extendBytes (n : Nat) (sign : Bool) (v : Nat) : Word64 :=
  if sign then BitVec.ofInt 64 (signed (8 * n) v) else BitVec.ofNat 64 v

/-- A load from L (R106). -/
def State.loadL (s : State) (x : Ctx) (w : Word) (sign : Bool) : Act :=
  let a := s.formE x w
  let n := fSize w
  if a % n ≠ 0 then .fault s fltAlign 0 a
  else
    match x, s.coreRegister x a n false with
    | .core k, some off => s.coreRegLoad k off a (fRd w) sign
    | _, _ =>
      match s.readL x a n with
      | .error (t, code, addr) => .fault t code 0 addr
      | .ok (bs, t) => .next (t.setG x (fRd w) (extendBytes n sign (ofLeBytes bs)))

/-- LDL (R106). -/
def execLdl (x : Ctx) (s : State) : Host.Outcome State Fault Refusal :=
  .next (s.issue x encLdl readsA fun w t => t.loadL x w false)

/-- LDLS (R106). -/
def execLdls (x : Ctx) (s : State) : Host.Outcome State Fault Refusal :=
  .next (s.issue x encLdls readsA fun w t => t.loadL x w true)

/-- A store to L (R106). -/
def State.storeL (s : State) (x : Ctx) (w : Word) : Act :=
  let a := s.formE x w
  let n := fSize w
  let v := (s.g x (fRd w)).toNat
  if a % n ≠ 0 then .fault s fltAlign 0 a
  else
    match x, s.coreRegister x a n true with
    | .core k, some off => s.coreRegStore k off (BitVec.ofNat 32 v)
    | _, _ =>
      match s.writeL x a (leBytes n v) with
      | .error (t, code, addr) => .fault t code 0 addr
      | .ok t => .next t

/-- STL (R106). -/
def execStl (x : Ctx) (s : State) : Host.Outcome State Fault Refusal :=
  .next ((s.issue x encStl readsDA fun w t => t.storeL x w).settleCore x)

/-- A load from P, in network order (R106). -/
def State.loadP (s : State) (x : Ctx) (w : Word) (sign : Bool) : Act :=
  let a := s.formE x w
  let n := fSize w
  s.pAccess (s.tileCtx x) a n false fun f =>
    .next (s.setG x (fRd w) (extendBytes n sign (ofBeBytes ((f.bytes.drop a).take n))))

/-- LDP (R106). -/
def execLdp (x : Ctx) (s : State) : Host.Outcome State Fault Refusal :=
  .next (s.issue x encLdp readsA fun w t => t.loadP x w false)

/-- LDPS (R106). -/
def execLdps (x : Ctx) (s : State) : Host.Outcome State Fault Refusal :=
  .next (s.issue x encLdps readsA fun w t => t.loadP x w true)

/-- STP (R106): the low bytes of the RD register, in network order. -/
def execStp (x : Ctx) (s : State) : Host.Outcome State Fault Refusal :=
  .next (s.issue x encStp readsDA fun w t =>
    let a := t.formE x w
    let n := fSize w
    t.pAccess (t.tileCtx x) a n true fun f => .next (t.writeFrame x (f.store a (beBytes n (t.g x (fRd w)).toNat)) [(a, n)]))

/-- TLDL (R108): T_FMT where NS exceeds 999,999,999. -/
def execTldl (x : Ctx) (s : State) : Host.Outcome State Fault Refusal :=
  .next (s.issue x encTldl readsA fun w t =>
    let a := t.formE x w
    if a % 4 ≠ 0 then .fault t fltAlign 0 a
    else
      match t.readL x a 12 with
      | .error (u, code, addr) => .fault u code 0 addr
      | .ok (bs, u) =>
        let v : CT96 := BitVec.ofNat 96 (ofLeBytes bs)
        if ct96Valid v then .next (u.setT x (fRd w) v) else .fault u fltTFmt 0 0)

/-- TSTL (R108). -/
def execTstl (x : Ctx) (s : State) : Host.Outcome State Fault Refusal :=
  .next (s.issue x encTstl readsA fun w t =>
    let a := t.formE x w
    if a % 4 ≠ 0 then .fault t fltAlign 0 a
    else
      match t.writeL x a (leBytes 12 (t.t x (fRd w)).toNat) with
      | .error (u, code, addr) => .fault u code 0 addr
      | .ok u => .next u)

end Sys2Proof.Machine
end

