-- ==== Sys2Proof/Machine/Sinter.lean ====
section
/-!
DEFINITION. Sinter configuration slots and the end of boot (R446, R449 to R455, R462, R464).
-/
namespace Sys2Proof.Machine

/-! ### Slots (R449 to R452) -/

/-- Where slot A (0) and slot B (1) start in the flash, and how many bytes of body they hold. -/
def slotBase (k : Nat) : Nat := 0x1000000 + k * 0x1000000
abbrev slotHeader : Nat := 0x200
abbrev slotBodyMax : Nat := 16776704

/-- n bytes at an offset of slot k, and a little-endian field. -/
def State.sinterBytes (s : State) (k o n : Nat) : List Byte := s.flashBytes (slotBase k + o) n
def State.sinterField (s : State) (k o n : Nat) : Nat := ofLeBytes (s.sinterBytes k o n)

/-- The fields of the header of slot k. -/
def State.slotSeq (s : State) (k : Nat) : Nat := s.sinterField k 8 8
def State.slotLength (s : State) (k : Nat) : Nat := s.sinterField k 0x10 4
def State.slotFlag (s : State) (k i : Nat) : Bool := (s.sinterField k 0x18 4).testBit i
def State.slotOpKey (s : State) (k : Nat) : List Byte := s.sinterBytes k 0x80 96
def State.slotBody (s : State) (k : Nat) : List Byte := s.sinterBytes k slotHeader (s.slotLength k)

/-- A record of the body (R452). -/
inductive SlotRecord where
  | regw (pairs : List (Nat × Word))
  | anchor (entry ty : Nat) (data : List Byte)
  | pciId (v : Word)
  | postw (pairs : List (Nat × Word))
  | host
  deriving DecidableEq, Repr

/-- Pairs of an offset and a value, of n bytes in all. -/
def slotPairs : Nat → List Byte → Option (List (Nat × Word))
  | 0, bs => if bs = [] then some [] else none
  | n + 1, bs =>
    if bs = [] then some []
    else if bs.length < 8 then none
    else (slotPairs n (bs.drop 8)).map fun l =>
      (ofLeBytes (bs.take 4), BitVec.ofNat 32 (ofLeBytes ((bs.drop 4).take 4))) :: l

/-- An ANCH payload. -/
def slotAnchor (p : List Byte) : Option SlotRecord :=
  let entry := byteAt p 0
  let ty := byteAt p 1
  match anchorSize ty with
  | none => none
  | some n =>
    if p.length = 4 + n ∧ 2 ≤ entry ∧ entry ≤ 15 ∧ (p.drop 2).take 2 = [0, 0] then some (.anchor entry ty (p.drop 4))
    else none

/-- A record from its TYPE and payload; none for another TYPE or a payload of the wrong length. -/
def slotRecord (ty : Nat) (p : List Byte) : Option SlotRecord :=
  match ty with
  | 1 => (slotPairs p.length p).map .regw
  | 2 => slotAnchor p
  | 3 => if p.length = 4 then some (.pciId (BitVec.ofNat 32 (ofLeBytes p))) else none
  | 4 => (slotPairs p.length p).map .postw
  | 5 => some .host
  | _ => none

/-- The records of a body, which ends exactly at its last one; n bounds their number. -/
def slotRecords : Nat → List Byte → Option (List SlotRecord)
  | 0, bs => if bs = [] then some [] else none
  | n + 1, bs =>
    if bs = [] then some []
    else
      let len := ofLeBytes ((bs.drop 2).take 2)
      let size := 4 + (len + 3) / 4 * 4
      if bs.length < 4 ∨ bs.length < size then none
      else
        match slotRecord (ofLeBytes (bs.take 2)) ((bs.drop 4).take len), slotRecords n (bs.drop size) with
        | some r, some rs => some (r :: rs)
        | _, _ => none

/-- MAGIC, FORMAT, reserved bytes and LENGTH (R450 check 1). -/
def State.slotFormOk (s : State) (k : Nat) : Bool :=
  s.sinterField k 0 4 == 0x534E5452 && s.sinterField k 4 4 == 1 && s.slotLength k % 4 == 0 &&
    decide (s.slotLength k ≤ slotBodyMax) && decide (s.sinterField k 0x18 4 < 4) &&
    (s.sinterBytes k 0x1C 100).all (· == 0) && (s.sinterBytes k 0x140 192).all (· == 0)

/-- The CRC-32C of check 2. -/
def State.slotCrcOk (s : State) (k : Nat) : Bool :=
  s.sinterField k 0x14 4 == crc32c (s.sinterBytes k 0 0x14 ++ s.sinterBytes k 0x18 0x1E8 ++ s.slotBody k)

/-- OPKEY against the OPHASH fuse (check 3). -/
def State.slotHashOk (s : State) (k : Nat) : Bool :=
  match s.fuse.opHash with
  | none => true
  | some h => (s.slotOpKey k).any (· != 0) && sha384 (s.slotOpKey k) == h

/-- The data of an anchor entry. -/
def State.anchorData (s : State) (e : Nat) : Option (List Byte) :=
  (s.cry.anchors.find? fun a => a.1 == e).map fun a => a.2.2

/-- OPKEY against anchor entry 1 after a warm reset or a wake (check 4). -/
def State.slotAnchorOk (s : State) (k : Nat) : Bool :=
  s.bootKind == 0 ||
    match s.anchorData 1 with
    | none => true
    | some d => s.slotOpKey k == d

/-- ECDSA_VER P-384 of the signature with OPKEY answers OK (check 6). -/
def State.slotSignatureOk (s : State) (k : Nat) : Bool :=
  let digest := sha384 (s.sinterBytes k 0 0x14 ++ s.sinterBytes k 0x18 0xC8 ++ s.slotBody k)
  verifyP384 (s.slotOpKey k) digest (s.sinterBytes k 0xE0 96)

/-- The code of R450 for slot k: 0 where it passes every check; with PD_BNE off no signature passes (R33). -/
def State.slotCode (s : State) (k : Nat) : Nat :=
  if s.slotFormOk k = false then 1
  else if s.slotCrcOk k = false then 2
  else if s.slotHashOk k = false then 3
  else if s.slotAnchorOk k = false then 4
  else if s.fuse.sigReq ∧ s.slotFlag k 0 = false then 5
  else if s.slotFlag k 0 ∧ (s.pdUp PD_BNE && s.slotSignatureOk k) = false then 6
  else if (slotRecords (s.slotLength k) (s.slotBody k)).isNone then 7
  else 0

/-- The slot examined first (R451). -/
def State.firstSlot (s : State) : Nat := if s.slotSeq 0 < s.slotSeq 1 then 1 else 0

/-- The slot taken, and GCTL_CFGREJ: a slot that is not examined reads 0x08. -/
def State.chooseSlot (s : State) : Option Nat × Word :=
  let k := s.firstSlot
  let c := s.slotCode k
  let d := if c = 0 then 8 else s.slotCode (1 - k)
  let rej := if k = 0 then c + d * 2 ^ 8 else d + c * 2 ^ 8
  (if c = 0 then some k else if d = 0 then some (1 - k) else none, BitVec.ofNat 32 rej)

/-! ### Configuration writes (R453) -/

/-- The bits that say that a write was refused, by register; those of a port block belong to that port. -/
def refusalBits (off : Nat) : List (Nat × Word) :=
  [(Reg.GCTL_MODESTAT, 0xFF), (Reg.GCTL_FLASH_STAT, 0xFF), (Reg.GCTL_OFUSE_CTL, 0xFF0000), (Reg.CPM_ERR, 0x77),
    (Reg.CAL_ERR, 0x3F7), (Reg.SEL_ERR, 0x3E), (Reg.DRY_ERR, 0x1), (Reg.GRV_ERR, 0xF), (Reg.GNS_ERR, 0x1F),
    (Reg.GNS_NERR, 0xF), (Reg.GYS_STICKY, 0x600), (Reg.CRY_STICKY, 0x60), (Reg.BNE_ERR, 0x1F), (Reg.DMA_ERR, 0xF),
    (Reg.EVT_ERR, 0x1), (Reg.REL_ERR, 0x7), (Reg.PAR_ERR, 0xF)] ++
    if off / 2 ^ 20 = 7 then
      let n := (off - 0x700000) / 0x10000
      [(Reg.PRT_STATUS n, 0x20), (Reg.PRT_QUAD (n / 4), 0x80000000)]
    else []

/-- The state with those bits cleared, and whether one is set. -/
def State.clearRefusals (s : State) (off : Nat) : State :=
  (refusalBits off).foldl (fun t e => t.wr e.1 (t.rd e.1 &&& ~~~e.2)) s
def State.showsRefusal (s : State) (off : Nat) : Bool := (refusalBits off).any fun e => s.rd e.1 &&& e.2 != 0

/-- The RW bits that a write was to change and did not. -/
def State.writeIgnored (s t : State) (off : Nat) (v : Word) : Bool :=
  match regRow off with
  | none => true
  | some (r, _, _) => (s.rd off ^^^ v) &&& r.rw != 0 && s.rd off &&& r.rw == t.rd off &&& r.rw

/-- A write that would complete normally is refused or discarded by the rule that governs its register. -/
def State.refuses (s : State) (off : Nat) (v : Word) : Bool :=
  let t := (s.clearRefusals off).applyWrite .host off v
  t.showsRefusal off || s.writeIgnored t off v || (off == Reg.GCTL_RESET && bitsAt v 16 16 != 0xA5C3)

/-- A UTC commit that a configuration record makes. -/
def State.markCommit (s : State) (off : Nat) : State :=
  if off = Reg.CAL_UTC_CMD then
    { s with cal := { s.cal with pendUtc := s.cal.pendUtc.map fun p => { p with config := true } } }
  else s

/-- One pair applied as a host's write; one that is refused, or that meets no register that is ready, counts. -/
def State.configWrite (s : State) (off : Nat) (v : Word) : State :=
  if off % 4 ≠ 0 ∨ bar0Size ≤ off then s.countConfig off
  else
    match s.accessOutcome off with
    | .ok =>
      if s.refuses off v then (s.applyWrite .host off v).countConfig off
      else (s.applyWrite .host off v).markCommit off
    | .unmapped => (s.badAccess 1 off true).countConfig off
    | .off => (s.badAccess 2 off true).countConfig off
    | .wait => (s.badAccess 3 off true).countConfig off

/-- Pairs applied in record order, for as long as the boot that reads them lasts. -/
def State.configWrites (s : State) (stage : Nat) (ps : List (Nat × Word)) : State :=
  ps.foldl (fun t p => if t.bootStage = stage then t.configWrite p.1 p.2 else t) s

/-- An anchor record: CRY_ANCH_DATA, then CRY_ANCH_CTL (R208). -/
def State.configAnchor (s : State) (stage : Nat) (a : Nat × Nat × List Byte) : State :=
  let data := (List.range 32).map fun i =>
    (Reg.CRY_ANCH_DATA i, BitVec.ofNat 32 (ofLeBytes ((a.2.2.drop (4 * i)).take 4)))
  s.configWrites stage (data ++ [(Reg.CRY_ANCH_CTL, BitVec.ofNat 32 (2 ^ 31 + a.2.1 * 2 ^ 24 + a.1 * 2 ^ 16))])

/-! ### Steps 5 and 6 of boot -/

/-- Every domain with EN = 1 that is off powers up. -/
def State.powerConfigured (s : State) : State :=
  powerOrder.foldl (fun t d => if t.pdEn d ∧ t.pd d = pdOff then t.powerUp d else t) s

/-- The pairs of a list of records, and its anchors. -/
def recordPairs (rs : List SlotRecord) : List (Nat × Word) :=
  rs.flatMap fun r => match r with | .regw ps => ps | _ => []
def recordPosts (rs : List SlotRecord) : List (Nat × Word) :=
  rs.flatMap fun r => match r with | .postw ps => ps | _ => []
def recordAnchors (rs : List SlotRecord) : List (Nat × Nat × List Byte) :=
  rs.filterMap fun r => match r with | .anchor e t d => some (e, t, d) | _ => none
def recordPciId (rs : List SlotRecord) : Option Word :=
  (rs.filterMap fun r => match r with | .pciId v => some v | _ => none).getLast?

/-- A pair of the CPM block. -/
def isCpm (p : Nat × Word) : Bool := decide (0x100000 ≤ p.1) && decide (p.1 < 0x200000)

/-- A valid slot taken: steps 1 and 2 of R453, the rest kept for when the domains are ready. -/
def State.takeSlot (s : State) (k : Nat) : State :=
  let rs := (slotRecords (s.slotLength k) (s.slotBody k)).getD []
  let key := s.slotOpKey k
  let own := if key.any (· != 0) ∧ s.flag Reg.CRY_ANCH_STAT 1 = false then [(1, 2, key)] else []
  let seq := BitVec.ofNat 64 (s.slotSeq k)
  let t := (s.setFld Reg.GCTL_BOOT 8 2 k).setFlag Reg.GCTL_BOOT 12 (s.slotFlag k 1)
  let t := (t.wr Reg.GCTL_CFGSEQ_L (lo32 seq)).wr Reg.GCTL_CFGSEQ_H (hi32 seq)
  let t : State := { t with
    pcie := { t.pcie with subsystemNext := (recordPciId rs).getD t.pcie.subsystemNext }
    gctl := { t.gctl with
      later := (recordPairs rs).filter fun p => !isCpm p
      anchors := own ++ recordAnchors rs
      post := recordPosts rs } }
  let t := (t.setBootStage 6).configWrites 6 ((recordPairs rs).filter isCpm)
  if t.bootStage = 6 then t.powerConfigured else t

/-- A register in PD_AON that factory defaults reset after a warm boot: not what R443 keeps, nor the EN bits. -/
def isFactory (off : Nat) : Bool :=
  match regRow off with
  | none => false
  | some (r, _, _) =>
    regDomain r off == PD_AON && r.rw != 0 && off / 2 ^ 20 != 2 &&
      !(decide (Reg.CPM_PD_CTL 0 ≤ off) && decide (off ≤ Reg.CPM_PD_CTL 20)) && !decide (Reg.CPM_KEEP 0 ≤ off ∧ off < 0x200000)

/-- Factory defaults (R455): registers at their reset values, PD_BNE and PD_CRYPTO on, and a cause of SAFE (R451). -/
def State.factoryDefaults (s : State) : State :=
  let t := (s.setFld Reg.GCTL_BOOT 8 2 2).setFlag Reg.GCTL_BOOT 12 false
  let t := (t.wr Reg.GCTL_CFGSEQ_L 0).wr Reg.GCTL_CFGSEQ_H 0
  let t := ((t.regs.filter fun e => isFactory e.1).map (·.1)).foldl (fun u off => u.applyWrite .host off (regDefault off)) t
  let t := (powerOrder.filter fun d => !fixedDomain d).foldl (fun u d =>
    if d = PD_BNE ∨ d = PD_CRYPTO then u.writeEn d true false
    else if u.pdEn d then u.writeEn d false false
    else u) t
  let t : State := { t with pcie := { t.pcie with subsystemNext := 0x42101F6B#32 } }
  (t.safeCause causeNone).setBootStage 6

/-- A failed or missing UCHECK of step 4. -/
def State.microcodeOutcome (s : State) : State := if s.uValid then s else s.setFld Reg.GCTL_BOOT 24 8 4

/-- Step 5: the slots checked, and one taken. -/
def State.chooseConfig (s : State) : State :=
  let t := s.microcodeOutcome
  let (slot, rej) := t.chooseSlot
  let t := t.wr Reg.GCTL_CFGREJ rej
  match slot with
  | some k => t.takeSlot k
  | none => t.factoryDefaults

/-- The configured domains that are not ready. -/
def State.notReady (s : State) : List Nat := powerOrder.filter fun d => s.pdEn d && !s.pdUp d

/-- Step 6 from the moment the domains are ready, or 10 ms beyond their ready times. -/
def State.applyConfig (s : State) : State :=
  let t := s.notReady.foldl (fun u d => u.log 212 (BitVec.ofNat 32 d)) s
  let t := t.configWrites 6 t.gctl.later
  let t := t.gctl.anchors.foldl (fun u a => u.configAnchor 6 a) t
  if t.bootStage = 6 then
    State.setBootStage { t with gctl := { t.gctl with later := [], anchors := [] } } 7
  else t

/-- CONFIG_APPLY (R453): firmware chooses a slot; issued again, it applies the rest of it, once every configured domain is
ready or late says that the wait has ended. -/
def execConfigApply (late : Bool) (s : State) : Host.Outcome State Fault Refusal :=
  .next (if s.pdUp PD_FABRIC = false then s
    else if s.bootStage = 4 then s.chooseConfig
    else if s.bootStage = 6 ∧ (s.notReady = [] ∨ late) then s.applyConfig
    else s)

/-! ### Step 7 (R446, R454, R462, R464) -/

/-- The mode after a wake boot: the selector is restored, and E compared with BUDGET. -/
def State.wakeMode (s : State) (slept : Nat) : State :=
  let t := s.selectorWake
  if slept = modeStaged then t.enterMode modeStaged
  else if t.flag Reg.SEL_STATUS 26 = false then t.enterServing modeAcquire
  else
    let m := if t.errorEstimate ≤ (t.budget : Rat) then modeHoldover else modeFreerun
    (if t.flag Reg.SEL_CTRL 0 then t.setDstate dsHold else t).enterServing m

/-- The mode at the end of boot; one that firmware under the ROM or the host has left already stays. -/
def State.bootMode (s : State) : State :=
  if s.mode ≠ modeBoot then s
  else if s.gctl.causes ≠ [] then s.enterMode modeSafe
  else
    match s.bootKind == 2, s.gctl.slept with
    | true, some (m, _) => s.wakeMode m
    | _, _ => if s.flag Reg.GCTL_BOOT 12 then s.enterServing modeAcquire else s.enterMode modeStaged

/-- BOOT_DONE (R446 step 7): source 225 with GCTL_BOOT, then the POSTW pairs. -/
def execBootDone (s : State) : Host.Outcome State Fault Refusal :=
  .next (if s.bootStage ≠ 7 ∨ s.pdUp PD_FABRIC = false then s
    else
      let t := (s.setBootStage 8).bootMode
      let t := t.raise 225 (t.rd Reg.GCTL_BOOT)
      let post := t.gctl.post
      let t : State := { t with gctl := { t.gctl with causes := [], slept := none, post := [] } }
      t.configWrites 8 post)

end Sys2Proof.Machine
end

