-- ==== Sys2Proof/Machine/Dispatch.lean ====
section
/-!
DEFINITION. One arm per command: the meaning that the command's family file gives it.
-/
namespace Sys2Proof.Machine

/-- The effect of a command on everything but the queue. -/
def exec (i : Instr) (s : State) : Host.Outcome State Fault Refusal :=
  match i with
  | .registerWrite ag off v => Sys2Proof.Machine.execRegisterWrite ag off v s
  | .unalignedBar0Access ag off size write => Sys2Proof.Machine.execUnalignedBar0Access ag off size write s
  | .rcFieldRead ag off => Sys2Proof.Machine.execRcFieldRead ag off s
  | .pendingAccessComplete => Sys2Proof.Machine.execPendingAccessComplete s
  | .busTimeout => Sys2Proof.Machine.execBusTimeout s
  | .badaccClear ag v => Sys2Proof.Machine.execBadaccClear ag v s
  | .replicaCompare => Sys2Proof.Machine.execReplicaCompare s
  | .incrOwnerWrite ag v => Sys2Proof.Machine.execIncrOwnerWrite ag v s
  | .incrCommit ag v => Sys2Proof.Machine.execIncrCommit ag v s
  | .incrApply => Sys2Proof.Machine.execIncrApply s
  | .stepGo ag v => Sys2Proof.Machine.execStepGo ag v s
  | .stepAbort ag v => Sys2Proof.Machine.execStepAbort ag v s
  | .stepApply => Sys2Proof.Machine.execStepApply s
  | .nowRead ag w => Sys2Proof.Machine.execNowRead ag w s
  | .snapGo ag v => Sys2Proof.Machine.execSnapGo ag v s
  | .ptmPeriod phase => Sys2Proof.Machine.execPtmPeriod phase s
  | .ptmOneshot ag v phase => Sys2Proof.Machine.execPtmOneshot ag v phase s
  | .ptmResponse phase t2 turnaround earlier => Sys2Proof.Machine.execPtmResponse phase t2 turnaround earlier s
  | .ptmTimeout phase => Sys2Proof.Machine.execPtmTimeout phase s
  | .ptmStatusRead ag => Sys2Proof.Machine.execPtmStatusRead ag s
  | .comparatorFire owner => Sys2Proof.Machine.execComparatorFire owner s
  | .utcCommit ag v => Sys2Proof.Machine.execUtcCommit ag v s
  | .utcApply => Sys2Proof.Machine.execUtcApply s
  | .leapWarn => Sys2Proof.Machine.execLeapWarn s
  | .leapInstant => Sys2Proof.Machine.execLeapInstant s
  | .utcExpired => Sys2Proof.Machine.execUtcExpired s
  | .smearStart => Sys2Proof.Machine.execSmearStart s
  | .smearEnd => Sys2Proof.Machine.execSmearEnd s
  | .quadModeWrite ag q v => Sys2Proof.Machine.execQuadModeWrite ag q v s
  | .linkUp n meas => Sys2Proof.Machine.execLinkUp n meas s
  | .linkDown n cdr => Sys2Proof.Machine.execLinkDown n cdr s
  | .alignmentLock n meas => Sys2Proof.Machine.execAlignmentLock n meas s
  | .frameRx n bs corrected fecOk fcsOk phase => Sys2Proof.Machine.execFrameRx n bs corrected fecOk fcsOk phase s
  | .pauseEnd n => Sys2Proof.Machine.execPauseEnd n s
  | .classify n => Sys2Proof.Machine.execClassify n s
  | .frameTxCommit n phase => Sys2Proof.Machine.execFrameTxCommit n phase s
  | .txageExpire n => Sys2Proof.Machine.execTxageExpire n s
  | .captureRecordDeliver n => Sys2Proof.Machine.execCaptureRecordDeliver n s
  | .calCtrlWrite ag n v => Sys2Proof.Machine.execCalCtrlWrite ag n v s
  | .calpatEdge n phase => Sys2Proof.Machine.execCalpatEdge n phase s
  | .loopcalFrameTx n phase => Sys2Proof.Machine.execLoopcalFrameTx n phase s
  | .calTxRead ag n w => Sys2Proof.Machine.execCalTxRead ag n w s
  | .add x => Sys2Proof.Machine.execAdd x s
  | .sub x => Sys2Proof.Machine.execSub x s
  | .andReg x => Sys2Proof.Machine.execAndReg x s
  | .orReg x => Sys2Proof.Machine.execOrReg x s
  | .xorReg x => Sys2Proof.Machine.execXorReg x s
  | .shl x => Sys2Proof.Machine.execShl x s
  | .shr x => Sys2Proof.Machine.execShr x s
  | .sar x => Sys2Proof.Machine.execSar x s
  | .rol x => Sys2Proof.Machine.execRol x s
  | .slt x => Sys2Proof.Machine.execSlt x s
  | .sltu x => Sys2Proof.Machine.execSltu x s
  | .minu x => Sys2Proof.Machine.execMinu x s
  | .maxu x => Sys2Proof.Machine.execMaxu x s
  | .mul x => Sys2Proof.Machine.execMul x s
  | .mulhu x => Sys2Proof.Machine.execMulhu x s
  | .clz x => Sys2Proof.Machine.execClz x s
  | .popc x => Sys2Proof.Machine.execPopc x s
  | .bswap x => Sys2Proof.Machine.execBswap x s
  | .extField x => Sys2Proof.Machine.execExtField x s
  | .crc x => Sys2Proof.Machine.execCrc x s
  | .addi x => Sys2Proof.Machine.execAddi x s
  | .andi x => Sys2Proof.Machine.execAndi x s
  | .ori x => Sys2Proof.Machine.execOri x s
  | .xori x => Sys2Proof.Machine.execXori x s
  | .shli x => Sys2Proof.Machine.execShli x s
  | .shri x => Sys2Proof.Machine.execShri x s
  | .sari x => Sys2Proof.Machine.execSari x s
  | .movi x => Sys2Proof.Machine.execMovi x s
  | .movk x => Sys2Proof.Machine.execMovk x s
  | .slti x => Sys2Proof.Machine.execSlti x s
  | .sltiu x => Sys2Proof.Machine.execSltiu x s
  | .beq x => Sys2Proof.Machine.execBeq x s
  | .bneBranch x => Sys2Proof.Machine.execBneBranch x s
  | .blt x => Sys2Proof.Machine.execBlt x s
  | .bge x => Sys2Proof.Machine.execBge x s
  | .bltu x => Sys2Proof.Machine.execBltu x s
  | .bgeu x => Sys2Proof.Machine.execBgeu x s
  | .bfs x => Sys2Proof.Machine.execBfs x s
  | .bfc x => Sys2Proof.Machine.execBfc x s
  | .jal x => Sys2Proof.Machine.execJal x s
  | .jalr x => Sys2Proof.Machine.execJalr x s
  | .ldl x => Sys2Proof.Machine.execLdl x s
  | .ldls x => Sys2Proof.Machine.execLdls x s
  | .stl x => Sys2Proof.Machine.execStl x s
  | .ldp x => Sys2Proof.Machine.execLdp x s
  | .ldps x => Sys2Proof.Machine.execLdps x s
  | .stp x => Sys2Proof.Machine.execStp x s
  | .tldl x => Sys2Proof.Machine.execTldl x s
  | .tstl x => Sys2Proof.Machine.execTstl x s
  | .tnow x lag => Sys2Proof.Machine.execTnow x lag s
  | .tingr x => Sys2Proof.Machine.execTingr x s
  | .tmov x => Sys2Proof.Machine.execTmov x s
  | .tadd x => Sys2Proof.Machine.execTadd x s
  | .tsub x => Sys2Proof.Machine.execTsub x s
  | .tset x => Sys2Proof.Machine.execTset x s
  | .tgsec x => Sys2Proof.Machine.execTgsec x s
  | .tgns x => Sys2Proof.Machine.execTgns x s
  | .tcf x => Sys2Proof.Machine.execTcf x s
  | .tntp x => Sys2Proof.Machine.execTntp x s
  | .tutc x => Sys2Proof.Machine.execTutc x s
  | .twait x => Sys2Proof.Machine.execTwait x s
  | .twaitComplete x => Sys2Proof.Machine.execTwaitComplete x s
  | .tstp x => Sys2Proof.Machine.execTstp x s
  | .finfo x => Sys2Proof.Machine.execFinfo x s
  | .flen x => Sys2Proof.Machine.execFlen x s
  | .fmark x => Sys2Proof.Machine.execFmark x s
  | .funmark x => Sys2Proof.Machine.execFunmark x s
  | .fport x => Sys2Proof.Machine.execFport x s
  | .fswap x => Sys2Proof.Machine.execFswap x s
  | .fcpyp x => Sys2Proof.Machine.execFcpyp x s
  | .fcpyl x => Sys2Proof.Machine.execFcpyl x s
  | .csum x => Sys2Proof.Machine.execCsum x s
  | .csadd x => Sys2Proof.Machine.execCsadd x s
  | .csip x => Sys2Proof.Machine.execCsip x s
  | .csudp x => Sys2Proof.Machine.execCsudp x s
  | .tbld x => Sys2Proof.Machine.execTbld x s
  | .tbst x => Sys2Proof.Machine.execTbst x s
  | .tbcas x => Sys2Proof.Machine.execTbcas x s
  | .tbadd x => Sys2Proof.Machine.execTbadd x s
  | .tbfind x => Sys2Proof.Machine.execTbfind x s
  | .tblock x => Sys2Proof.Machine.execTblock x s
  | .tbunlk x => Sys2Proof.Machine.execTbunlk x s
  | .tbget x => Sys2Proof.Machine.execTbget x s
  | .tbput x => Sys2Proof.Machine.execTbput x s
  | .tableOpComplete x lag => Sys2Proof.Machine.execTableOpComplete x lag s
  | .postedStoreComplete x => Sys2Proof.Machine.execPostedStoreComplete x s
  | .tkn x => Sys2Proof.Machine.execTkn x s
  | .tknComplete x lag => Sys2Proof.Machine.execTknComplete x lag s
  | .tkset x => Sys2Proof.Machine.execTkset x s
  | .cjob x => Sys2Proof.Machine.execCjob x s
  | .cjobQueueRoom p c => Sys2Proof.Machine.execCjobQueueRoom p c s
  | .cjobComplete p c ev => Sys2Proof.Machine.execCjobComplete p c ev s
  | .cellArrive p c => Sys2Proof.Machine.execCellArrive p c s
  | .sendFrame x => Sys2Proof.Machine.execSendFrame x s
  | .dropFrame x => Sys2Proof.Machine.execDropFrame x s
  | .tohost x => Sys2Proof.Machine.execTohost x s
  | .endContext x => Sys2Proof.Machine.execEndContext x s
  | .nop x => Sys2Proof.Machine.execNop x s
  | .yield x => Sys2Proof.Machine.execYield x s
  | .waitl x => Sys2Proof.Machine.execWaitl x s
  | .fence x => Sys2Proof.Machine.execFence x s
  | .brk x => Sys2Proof.Machine.execBrk x s
  | .evraise x => Sys2Proof.Machine.execEvraise x s
  | .rdctx x => Sys2Proof.Machine.execRdctx x s
  | .waitCore x => Sys2Proof.Machine.execWaitCore x s
  | .eret x => Sys2Proof.Machine.execEret x s
  | .mfsr x => Sys2Proof.Machine.execMfsr x s
  | .mtsr x => Sys2Proof.Machine.execMtsr x s
  | .mrgn x => Sys2Proof.Machine.execMrgn x s
  | .mrgi x => Sys2Proof.Machine.execMrgi x s
  | .undefinedEncoding x => Sys2Proof.Machine.execUndefinedEncoding x s
  | .scInterrupt k release => Sys2Proof.Machine.execScInterrupt k release s
  | .requestArrive k => Sys2Proof.Machine.execRequestArrive k s
  | .contextStart p c => Sys2Proof.Machine.execContextStart p c s
  | .contextFree p c => Sys2Proof.Machine.execContextFree p c s
  | .killLockHandling p c => Sys2Proof.Machine.execKillLockHandling p c s
  | .staleScan l => Sys2Proof.Machine.execStaleScan l s
  | .coreFault p => Sys2Proof.Machine.execCoreFault p s
  | .coreScanDone p failed => Sys2Proof.Machine.execCoreScanDone p failed s
  | .timerFire k => Sys2Proof.Machine.execTimerFire k s
  | .timerCtlWrite ag k w v => Sys2Proof.Machine.execTimerCtlWrite ag k w v s
  | .initContextStart p c => Sys2Proof.Machine.execInitContextStart p c s
  | .drainSet ag l => Sys2Proof.Machine.execDrainSet ag l s
  | .drainClear ag l => Sys2Proof.Machine.execDrainClear ag l s
  | .clsqWrite ag c v => Sys2Proof.Machine.execClsqWrite ag c v s
  | .bankWrite b idx v => Sys2Proof.Machine.execBankWrite b idx v s
  | .bankHeaderWrite ag b idx v => Sys2Proof.Machine.execBankHeaderWrite ag b idx v s
  | .bankVerify ag b => Sys2Proof.Machine.execBankVerify ag b s
  | .verifyDone => Sys2Proof.Machine.execVerifyDone s
  | .bankSwitch ag b quiesce => Sys2Proof.Machine.execBankSwitch ag b quiesce s
  | .switchInstant => Sys2Proof.Machine.execSwitchInstant s
  | .jobDispatch => Sys2Proof.Machine.execJobDispatch s
  | .pipeKat idx => Sys2Proof.Machine.execPipeKat idx s
  | .katDone idx failed => Sys2Proof.Machine.execKatDone idx failed s
  | .drbgHealthFail => Sys2Proof.Machine.execDrbgHealthFail s
  | .drbgReseedRetry passes => Sys2Proof.Machine.execDrbgReseedRetry passes s
  | .cryptoDisable ag katEn => Sys2Proof.Machine.execCryptoDisable ag katEn s
  | .keyLoad ag slot len => Sys2Proof.Machine.execKeyLoad ag slot len s
  | .keySetcur ag slot => Sys2Proof.Machine.execKeySetcur ag slot s
  | .keyRetire ag slot => Sys2Proof.Machine.execKeyRetire ag slot s
  | .slotDrainEnd n => Sys2Proof.Machine.execSlotDrainEnd n s
  | .hostMint ag => Sys2Proof.Machine.execHostMint ag s
  | .hostMintDone ev => Sys2Proof.Machine.execHostMintDone ev s
  | .anchorWrite ag entry ty => Sys2Proof.Machine.execAnchorWrite ag entry ty s
  | .slotMeasurement n r suspectStamp => Sys2Proof.Machine.execSlotMeasurement n r suspectStamp s
  | .slotSecondCheck n => Sys2Proof.Machine.execSlotSecondCheck n s
  | .selectorSecond => Sys2Proof.Machine.execSelectorSecond s
  | .inject ag m v => Sys2Proof.Machine.execInject ag m v s
  | .initAlignStep => Sys2Proof.Machine.execInitAlignStep s
  | .selAlign ag v => Sys2Proof.Machine.execSelAlign ag v s
  | .alignStepWrite => Sys2Proof.Machine.execAlignStepWrite s
  | .selForceSlew ag v => Sys2Proof.Machine.execSelForceSlew ag v s
  | .selWtrClr ag v => Sys2Proof.Machine.execSelWtrClr ag v s
  | .selLoadSeed ag v => Sys2Proof.Machine.execSelLoadSeed ag v s
  | .selRelearn ag v => Sys2Proof.Machine.execSelRelearn ag v s
  | .holdUpdate => Sys2Proof.Machine.execHoldUpdate s
  | .modelSample => Sys2Proof.Machine.execModelSample s
  | .modelRefit => Sys2Proof.Machine.execModelRefit s
  | .edgeCommand o => Sys2Proof.Machine.execEdgeCommand o s
  | .ppsPulse n => Sys2Proof.Machine.execPpsPulse n s
  | .ppsPulseEnd n => Sys2Proof.Machine.execPpsPulseEnd n s
  | .outputCtlWrite ag off v => Sys2Proof.Machine.execOutputCtlWrite ag off v s
  | .todMessageWrite => Sys2Proof.Machine.execTodMessageWrite s
  | .todMessageStart => Sys2Proof.Machine.execTodMessageStart s
  | .todMessageEnd => Sys2Proof.Machine.execTodMessageEnd s
  | .ckmonWrite ag v => Sys2Proof.Machine.execCkmonWrite ag v s
  | .sclkWindow edges => Sys2Proof.Machine.execSclkWindow edges s
  | .sampleMarker phase => Sys2Proof.Machine.execSampleMarker phase s
  | .scntRead ag => Sys2Proof.Machine.execScntRead ag s
  | .sinStatUpdate idx codes => Sys2Proof.Machine.execSinStatUpdate idx codes s
  | .sinCtlWrite ag idx fc v => Sys2Proof.Machine.execSinCtlWrite ag idx fc v s
  | .sigWrite ag g v => Sys2Proof.Machine.execSigWrite ag g v s
  | .acqJobStart j => Sys2Proof.Machine.execAcqJobStart j s
  | .acqJobDone e => Sys2Proof.Machine.execAcqJobDone e s
  | .aidParse ag v => Sys2Proof.Machine.execAidParse ag v s
  | .aidDone => Sys2Proof.Machine.execAidDone s
  | .tpgEnable ag v => Sys2Proof.Machine.execTpgEnable ag v s
  | .channelDump c n sums bad => Sys2Proof.Machine.execChannelDump c n sums bad s
  | .channelCommand c k => Sys2Proof.Machine.execChannelCommand c k s
  | .burstFrontendOn => Sys2Proof.Machine.execBurstFrontendOn s
  | .burstStart => Sys2Proof.Machine.execBurstStart s
  | .burstEnd rs => Sys2Proof.Machine.execBurstEnd rs s
  | .engineCheckError e => Sys2Proof.Machine.execEngineCheckError e s
  | .solution sol => Sys2Proof.Machine.execSolution sol s
  | .epochPulse => Sys2Proof.Machine.execEpochPulse s
  | .fixRead ag => Sys2Proof.Machine.execFixRead ag s
  | .qerrRead ag => Sys2Proof.Machine.execQerrRead ag s
  | .navCtlWrite ag v => Sys2Proof.Machine.execNavCtlWrite ag v s
  | .surveyRestart ag v => Sys2Proof.Machine.execSurveyRestart ag v s
  | .applyPos ag v => Sys2Proof.Machine.execApplyPos ag v s
  | .osnmaReset ag v => Sys2Proof.Machine.execOsnmaReset ag v s
  | .osnmaMessage m => Sys2Proof.Machine.execOsnmaMessage m s
  | .edgeStamp n falling c p => Sys2Proof.Machine.execEdgeStamp n falling c p s
  | .gateEdge g falling phase => Sys2Proof.Machine.execGateEdge g falling phase s
  | .windowEnd n => Sys2Proof.Machine.execWindowEnd n s
  | .fifoPop ag n bad => Sys2Proof.Machine.execFifoPop ag n bad s
  | .channelArm ag n v => Sys2Proof.Machine.execChannelArm ag n v s
  | .fifoClear ag n v => Sys2Proof.Machine.execFifoClear ag n v s
  | .channelOwnerWrite ag n v => Sys2Proof.Machine.execChannelOwnerWrite ag n v s
  | .thresholdWrite ag n v => Sys2Proof.Machine.execThresholdWrite ag n v s
  | .thresholdSettle n => Sys2Proof.Machine.execThresholdSettle n s
  | .caltabUpdate n counts => Sys2Proof.Machine.execCaltabUpdate n counts s
  | .loincCommit ag v => Sys2Proof.Machine.execLoincCommit ag v s
  | .loincApply => Sys2Proof.Machine.execLoincApply s
  | .regressionWindowEnd k => Sys2Proof.Machine.execRegressionWindowEnd k s
  | .regressionRead ag k => Sys2Proof.Machine.execRegressionRead ag k s
  | .ecdsaVer ag p v => Sys2Proof.Machine.execEcdsaVer ag p v s
  | .ed25519Ver ag p v => Sys2Proof.Machine.execEd25519Ver ag p v s
  | .ptcheck ag p v => Sys2Proof.Machine.execPtcheck ag p v s
  | .rsaPub ag p v => Sys2Proof.Machine.execRsaPub ag p v s
  | .anchcmp ag p v => Sys2Proof.Machine.execAnchcmp ag p v s
  | .modmul ag p v => Sys2Proof.Machine.execModmul ag p v s
  | .modexp ag p v => Sys2Proof.Machine.execModexp ag p v s
  | .modinv ag p v => Sys2Proof.Machine.execModinv ag p v s
  | .modred ag p v => Sys2Proof.Machine.execModred ag p v s
  | .ucheck ag p v => Sys2Proof.Machine.execUcheck ag p v s
  | .bneCommandStart => Sys2Proof.Machine.execBneCommandStart s
  | .bneValidationEnd => Sys2Proof.Machine.execBneValidationEnd s
  | .bneCommandDone corrected bad => Sys2Proof.Machine.execBneCommandDone corrected bad s
  | .opmemWrite ag idx v => Sys2Proof.Machine.execOpmemWrite ag idx v s
  | .ucodeWrite ag header idx v => Sys2Proof.Machine.execUcodeWrite ag header idx v s
  | .eventRaise => Sys2Proof.Machine.execEventRaise s
  | .eventRecordWrite => Sys2Proof.Machine.execEventRecordWrite s
  | .msixSend v => Sys2Proof.Machine.execMsixSend v s
  | .holdoffEnd v => Sys2Proof.Machine.execHoldoffEnd v s
  | .configAccess a => Sys2Proof.Machine.execConfigAccess a s
  | .flr => Sys2Proof.Machine.execFlr s
  | .pcieLinkDown => Sys2Proof.Machine.execPcieLinkDown s
  | .perstAssert => Sys2Proof.Machine.execPerstAssert s
  | .perstRelease => Sys2Proof.Machine.execPerstRelease s
  | .bar2Access idx n w => Sys2Proof.Machine.execBar2Access idx n w s
  | .prodWrite ag r v => Sys2Proof.Machine.execProdWrite ag r v s
  | .consWrite ag e v => Sys2Proof.Machine.execConsWrite ag e v s
  | .upFrameArrive => Sys2Proof.Machine.execUpFrameArrive s
  | .upFrameWrite r => Sys2Proof.Machine.execUpFrameWrite r s
  | .descriptorFetch r => Sys2Proof.Machine.execDescriptorFetch r s
  | .downCompletion r => Sys2Proof.Machine.execDownCompletion r s
  | .ringEnable ag r v => Sys2Proof.Machine.execRingEnable ag r v s
  | .ringDisable ag r v => Sys2Proof.Machine.execRingDisable ag r v s
  | .ringStopDone r => Sys2Proof.Machine.execRingStopDone r s
  | .chunkIssue => Sys2Proof.Machine.execChunkIssue s
  | .readCompletion r idx res => Sys2Proof.Machine.execReadCompletion r idx res s
  | .completionTimeout r idx => Sys2Proof.Machine.execCompletionTimeout r idx s
  | .ringResume ag r => Sys2Proof.Machine.execRingResume ag r s
  | .ringSkip ag r => Sys2Proof.Machine.execRingSkip ag r s
  | .windowWrite ag w j v => Sys2Proof.Machine.execWindowWrite ag w j v s
  | .inputLoss idx => Sys2Proof.Machine.execInputLoss idx s
  | .inputOk idx => Sys2Proof.Machine.execInputOk idx s
  | .pllReady p => Sys2Proof.Machine.execPllReady p s
  | .pllLoss p => Sys2Proof.Machine.execPllLoss p s
  | .clockSwitch ag v => Sys2Proof.Machine.execClockSwitch ag v s
  | .clockGate ag d busy => Sys2Proof.Machine.execClockGate ag d busy s
  | .gateClose d expired => Sys2Proof.Machine.execGateClose d expired s
  | .clockUngate ag d => Sys2Proof.Machine.execClockUngate ag d s
  | .pdEnable ag d => Sys2Proof.Machine.execPdEnable ag d s
  | .pdDisable ag d => Sys2Proof.Machine.execPdDisable ag d s
  | .pdForceDisable ag d => Sys2Proof.Machine.execPdForceDisable ag d s
  | .pdHandshakeAnswer d => Sys2Proof.Machine.execPdHandshakeAnswer d s
  | .pdDelayLimit d => Sys2Proof.Machine.execPdDelayLimit d s
  | .pdOff d => Sys2Proof.Machine.execPdOff d s
  | .pdSlotStart d => Sys2Proof.Machine.execPdSlotStart d s
  | .pdResetRelease d => Sys2Proof.Machine.execPdResetRelease d s
  | .pdReady d meas => Sys2Proof.Machine.execPdReady d meas s
  | .pdReset ag d => Sys2Proof.Machine.execPdReset ag d s
  | .pdResetEnd d meas => Sys2Proof.Machine.execPdResetEnd d meas s
  | .xqResync idx => Sys2Proof.Machine.execXqResync idx s
  | .plevelTargetWrite ag v => Sys2Proof.Machine.execPlevelTargetWrite ag v s
  | .vsettleEnd accepted => Sys2Proof.Machine.execVsettleEnd accepted s
  | .avsRetry accepted => Sys2Proof.Machine.execAvsRetry accepted s
  | .thermalCheck held => Sys2Proof.Machine.execThermalCheck held s
  | .sensorPoll n reading stale => Sys2Proof.Machine.execSensorPoll n reading stale s
  | .i2cTransfer ag m v => Sys2Proof.Machine.execI2cTransfer ag m v s
  | .i2cDone m e => Sys2Proof.Machine.execI2cDone m e s
  | .wakeAlarmWrite ag w v => Sys2Proof.Machine.execWakeAlarmWrite ag w v s
  | .dormantEntry => Sys2Proof.Machine.execDormantEntry s
  | .wake cause => Sys2Proof.Machine.execWake cause s
  | .supplyLoss => Sys2Proof.Machine.execSupplyLoss s
  | .powerOnResetEnd => Sys2Proof.Machine.execPowerOnResetEnd s
  | .resetNAssert => Sys2Proof.Machine.execResetNAssert s
  | .resetNRelease => Sys2Proof.Machine.execResetNRelease s
  | .coldReset ag => Sys2Proof.Machine.execColdReset ag s
  | .warmReset ag => Sys2Proof.Machine.execWarmReset ag s
  | .bootStart => Sys2Proof.Machine.execBootStart s
  | .romSelftestDone result => Sys2Proof.Machine.execRomSelftestDone result s
  | .firmwareVerified a b => Sys2Proof.Machine.execFirmwareVerified a b s
  | .configApply late => Sys2Proof.Machine.execConfigApply late s
  | .bootDone => Sys2Proof.Machine.execBootDone s
  | .modeStart ag => Sys2Proof.Machine.execModeStart ag s
  | .modeStage ag => Sys2Proof.Machine.execModeStage ag s
  | .modeMeasure ag => Sys2Proof.Machine.execModeMeasure ag s
  | .modeSleep ag => Sys2Proof.Machine.execModeSleep ag s
  | .modeSafe ag => Sys2Proof.Machine.execModeSafe ag s
  | .modeRecover ag => Sys2Proof.Machine.execModeRecover ag s
  | .modeLoadfw ag len image => Sys2Proof.Machine.execModeLoadfw ag len image s
  | .flashRead ag len => Sys2Proof.Machine.execFlashRead ag len s
  | .flashProgram ag len => Sys2Proof.Machine.execFlashProgram ag len s
  | .flashErase ag => Sys2Proof.Machine.execFlashErase ag s
  | .flashDone => Sys2Proof.Machine.execFlashDone s
  | .flashTimeout => Sys2Proof.Machine.execFlashTimeout s
  | .ofuseProgram ag target supply => Sys2Proof.Machine.execOfuseProgram ag target supply s
  | .scrubRead mem addr found last => Sys2Proof.Machine.execScrubRead mem addr found last s
  | .selftestStart => Sys2Proof.Machine.execSelftestStart s
  | .selftestDone unit row failed spare => Sys2Proof.Machine.execSelftestDone unit row failed spare s
  | .retireTileWrite ag k v => Sys2Proof.Machine.execRetireTileWrite ag k v s
  | .retireLaneWrite ag v => Sys2Proof.Machine.execRetireLaneWrite ag v s
  | .wdgKick ag v => Sys2Proof.Machine.execWdgKick ag v s
  | .wdgExpire k => Sys2Proof.Machine.execWdgExpire k s
  | .wdgAction k => Sys2Proof.Machine.execWdgAction k s
  | .logInCommit ag v => Sys2Proof.Machine.execLogInCommit ag v s
  | .logAccept => Sys2Proof.Machine.execLogAccept s
  | .logClear ag => Sys2Proof.Machine.execLogClear ag s
  | .logRead ag => Sys2Proof.Machine.execLogRead ag s
  | .wearUpdate => Sys2Proof.Machine.execWearUpdate s
  | .pairEnableWrite ag v => Sys2Proof.Machine.execPairEnableWrite ag v s
  | .pairLinkUp => Sys2Proof.Machine.execPairLinkUp s
  | .heartbeatTx => Sys2Proof.Machine.execHeartbeatTx s
  | .heartbeatInterval => Sys2Proof.Machine.execHeartbeatInterval s
  | .heartbeatRx crc epoch h => Sys2Proof.Machine.execHeartbeatRx crc epoch h s
  | .formRx crc epoch pref dsn => Sys2Proof.Machine.execFormRx crc epoch pref dsn s
  | .formAckRx crc epoch role => Sys2Proof.Machine.execFormAckRx crc epoch role s
  | .yieldRx crc epoch => Sys2Proof.Machine.execYieldRx crc epoch s
  | .timexRx crc epoch k second stamp => Sys2Proof.Machine.execTimexRx crc epoch k second stamp s
  | .mirrorRx crc epoch line poison bytes => Sys2Proof.Machine.execMirrorRx crc epoch line poison bytes s
  | .fenceInAssert => Sys2Proof.Machine.execFenceInAssert s
  | .pairTakeover ag => Sys2Proof.Machine.execPairTakeover ag s
  | .fenceSettleEnd => Sys2Proof.Machine.execFenceSettleEnd s
  | .pairForm ag => Sys2Proof.Machine.execPairForm ag s
  | .formResend => Sys2Proof.Machine.execFormResend s
  | .formTimeout => Sys2Proof.Machine.execFormTimeout s
  | .pairSwitchover ag => Sys2Proof.Machine.execPairSwitchover ag s
  | .yieldResend => Sys2Proof.Machine.execYieldResend s
  | .yieldTimeout => Sys2Proof.Machine.execYieldTimeout s
  | .pairResync ag => Sys2Proof.Machine.execPairResync ag s
  | .resyncDone => Sys2Proof.Machine.execResyncDone s
  | .tclkEdge => Sys2Proof.Machine.execTclkEdge s
  | .supplyInRange => Sys2Proof.Machine.execSupplyInRange s
  | .pcieLinkUp => Sys2Proof.Machine.execPcieLinkUp s
  | .pairLinkDown => Sys2Proof.Machine.execPairLinkDown s
  | .pairAliveInEdge => Sys2Proof.Machine.execPairAliveInEdge s
  | .pairAliveSilence => Sys2Proof.Machine.execPairAliveSilence s
  | .fenceInDeassert => Sys2Proof.Machine.execFenceInDeassert s
  | .pairMessageSend => Sys2Proof.Machine.execPairMessageSend s

end Sys2Proof.Machine
end

