-- ==== Sys2Proof/Machine/Balls.lean ====
section
/-!
DEFINITION. The output balls as the board sees them (R439, R465, R512): which of them float, and the level of those that the
device drives to one.
-/
namespace Sys2Proof.Machine

/-- The outputs of R439: Ethernet transmit lanes, timing outputs, GNSS outputs, the pair's lanes and side signals, the PCIe
transmit lanes, and the slow interfaces of PD_AON. -/
inductive Ball where
  | laneTx (n : Fin 16)
  | pps (n : Fin 4)
  | clk (n : Fin 4)
  | tod
  | gnssPps
  | pairPps
  | ckmon
  | sclkOut
  | gfeEn (i : Fin 4)
  | pairTx
  | pairAlive
  | pcieTx
  | fenceOut
  | aonPort
  deriving DecidableEq, Repr

/-- The domain that drives a ball. -/
def Ball.domain : Ball → Nat
  | .laneTx n => PD_SERDES (n.val / 4)
  | .pps _ | .clk _ | .tod | .gnssPps | .pairPps | .ckmon => PD_TDC
  | .sclkOut | .gfeEn _ => PD_GNSS_TRK
  | .pairTx | .pairAlive => PD_PAIR
  | .pcieTx => PD_PCIE
  | .fenceOut | .aonPort => PD_AON

/-- A ball of Drypoint, which floats in the modes of R266 as well. -/
def Ball.timing : Ball → Bool
  | .pps _ | .clk _ | .tod | .gnssPps | .pairPps | .ckmon => true
  | _ => false

/-- A ball floats: in OFF and RESET, while its domain is off, and for an output of Drypoint in BOOT and DORMANT. -/
def State.floats (s : State) (b : Ball) : Bool :=
  decide (s.mode ≤ 1) || (b.domain != PD_AON && s.isolated b.domain) || (b.timing && s.modeFloats)

/-- The level of a ball of one line; none for a lane, a clock or a bus, which has no standing level. -/
def State.ballDrive (s : State) (b : Ball) : Option Drive :=
  if s.floats b then some .float
  else
    match b with
    | .pps n => some (s.ppsBall n.val)
    | .clk n => some (s.clkBall n.val)
    | .tod => some s.todBall
    | .gnssPps => some s.gppsBall
    | .pairPps => some (drive s.pairPps false)
    | .sclkOut => if s.sclkOutRuns then none else some s.sclkOutIdle
    | .gfeEn i => some (drive (s.gfeEn i.val) false)
    | .pairAlive => some (drive s.pair.alive false)
    | .fenceOut => some (drive (s.flag Reg.PAR_STATUS psFenceOut) false)
    | .ckmon => if s.ckmonOut.isSome then none else some .low
    | _ => none

end Sys2Proof.Machine
end

