-- ==== Sys2Proof/WellFormed.lean ====
section
/-!
DEFINITION. Which commands are well formed: the operands that the types of Syntax.lean leave wider than the rules do are in
the range that the rule of the command gives them.
-/
namespace Sys2Proof

/-- An offset of an aligned 32-bit register of BAR0, which is 64 MiB (R4, R30). -/
def barOffset (off : Nat) : Bool := decide (off < 0x4000000) && off % 4 == 0

/-- How far a read of a cluster's replica may lie behind, in 2^-16 ns: 2.5 ns (R23). -/
def replicaLag (lag : Nat) : Bool := decide (lag ≤ 163840)

/-- A job of R282: an input and a signal that exist, SVs, a coherent time and a count of sums of the rule. -/
def jobWf (j : AcqJob) : Bool :=
  decide (j.input < 4) && decide (j.sig < 19) && !j.svs.isEmpty && [1, 2, 4, 8, 16].contains j.tc &&
    decide (1 ≤ j.nnc) && decide (j.nnc ≤ 8)

/-- A signal of R279 for a command that names one. -/
def channelCommandWf : ChannelCommand → Bool
  | .steer _ => true
  | .predict g _ _ _ _ => decide (g < 19)
  | .allocate g _ _ _ _ _ => decide (g < 19)
  | .noChannel g _ => decide (g < 19)

/-- A solution with a bias for each of the seven systems, a noise power for each of the four inputs, and azimuths of a circle. -/
def solutionWf (sol : Solution) : Bool :=
  sol.isb.length == 7 && sol.broadcast.length == 7 && sol.noise.length == 4 && sol.sats.all fun t => decide (t.az < 360)

/-- At most eight bytes come back from a transfer (R438). -/
def i2cEndWf : I2cEnd → Bool
  | .done bs => decide (bs.length ≤ 8)
  | .nack bs => decide (bs.length ≤ 8)
  | .timeout bs => decide (bs.length ≤ 8)

/-- An image gives each of the eight cores an entry point and stays within the 256 KiB of a core's SRAM (R129, R447). -/
def firmwareWf : Option Firmware → Bool
  | none => true
  | some f => f.entries.length == 8 && f.images.all fun i => decide (i.2.1 + i.2.2.length ≤ 0x40000)

/-- A command whose operands are in range. -/
def Instr.wf : Instr → Bool
  | .registerWrite _ off _ => barOffset off
  | .unalignedBar0Access _ off size _ => decide (off < 0x4000000) && !(off % 4 == 0 && size == 4)
  | .rcFieldRead _ off => barOffset off
  | .ptmResponse _ t2 turnaround _ => decide (t2 < 2 ^ 64) && decide (turnaround < 2 ^ 32)
  | .tnow _ lag => replicaLag lag
  | .tableOpComplete _ lag => replicaLag lag
  | .tknComplete _ lag => replicaLag lag
  | .outputCtlWrite _ off _ => decide (0x400100 ≤ off) && decide (off < 0x400280) && off % 4 == 0
  | .sinStatUpdate _ codes => (codes.map (·.2)).sum == 8184000
  | .acqJobStart j => jobWf j
  | .channelCommand _ k => channelCommandWf k
  | .burstEnd rs => rs.all fun r => decide (r.channel < 256)
  | .solution sol => solutionWf sol
  | .edgeStamp _ _ c p => decide (c.val * 64 + p.val < 160)
  | .caltabUpdate _ counts => counts.length == 64 && counts.sum == 2 ^ 20
  | .i2cDone _ e => i2cEndWf e
  | .firmwareVerified a b => firmwareWf a && firmwareWf b
  | .modeLoadfw _ _ image => firmwareWf image
  | .mirrorRx _ _ line _ bytes => line.toNat % 64 == 0 && bytes.length == 64
  | .pendingAccessComplete | .busTimeout | .badaccClear _ _ | .replicaCompare | .incrOwnerWrite _ _ | .incrCommit _ _
  | .incrApply | .stepGo _ _ | .stepAbort _ _ | .stepApply | .nowRead _ _ | .snapGo _ _ | .ptmPeriod _
  | .ptmOneshot _ _ _ | .ptmTimeout _ | .ptmStatusRead _ | .comparatorFire _ | .utcCommit _ _ | .utcApply | .leapWarn
  | .leapInstant | .utcExpired | .smearStart | .smearEnd | .quadModeWrite _ _ _ | .linkUp _ _ | .linkDown _ _
  | .alignmentLock _ _ | .frameRx _ _ _ _ _ _ | .pauseEnd _ | .classify _ | .frameTxCommit _ _ | .txageExpire _
  | .captureRecordDeliver _ | .calCtrlWrite _ _ _ | .calpatEdge _ _ | .loopcalFrameTx _ _ | .calTxRead _ _ _ | .add _
  | .sub _ | .andReg _ | .orReg _ | .xorReg _ | .shl _ | .shr _ | .sar _ | .rol _ | .slt _ | .sltu _ | .minu _
  | .maxu _ | .mul _ | .mulhu _ | .clz _ | .popc _ | .bswap _ | .extField _ | .crc _ | .addi _ | .andi _ | .ori _
  | .xori _ | .shli _ | .shri _ | .sari _ | .movi _ | .movk _ | .slti _ | .sltiu _ | .beq _ | .bneBranch _ | .blt _
  | .bge _ | .bltu _ | .bgeu _ | .bfs _ | .bfc _ | .jal _ | .jalr _ | .ldl _ | .ldls _ | .stl _ | .ldp _ | .ldps _
  | .stp _ | .tldl _ | .tstl _ | .tingr _ | .tmov _ | .tadd _ | .tsub _ | .tset _ | .tgsec _ | .tgns _ | .tcf _
  | .tntp _ | .tutc _ | .twait _ | .twaitComplete _ | .tstp _ | .finfo _ | .flen _ | .fmark _ | .funmark _ | .fport _
  | .fswap _ | .fcpyp _ | .fcpyl _ | .csum _ | .csadd _ | .csip _ | .csudp _ | .tbld _ | .tbst _ | .tbcas _
  | .tbadd _ | .tbfind _ | .tblock _ | .tbunlk _ | .tbget _ | .tbput _ | .postedStoreComplete _ | .tkn _ | .tkset _
  | .cjob _ | .cjobQueueRoom _ _ | .cjobComplete _ _ _ | .cellArrive _ _ | .sendFrame _ | .dropFrame _ | .tohost _
  | .endContext _ | .nop _ | .yield _ | .waitl _ | .fence _ | .brk _ | .evraise _ | .rdctx _ | .waitCore _ | .eret _
  | .mfsr _ | .mtsr _ | .mrgn _ | .mrgi _ | .undefinedEncoding _ | .scInterrupt _ _ | .requestArrive _
  | .contextStart _ _ | .contextFree _ _ | .killLockHandling _ _ | .staleScan _ | .coreFault _ | .coreScanDone _ _
  | .timerFire _ | .timerCtlWrite _ _ _ _ | .initContextStart _ _ | .drainSet _ _ | .drainClear _ _
  | .clsqWrite _ _ _ | .bankWrite _ _ _ | .bankHeaderWrite _ _ _ _ | .bankVerify _ _ | .verifyDone
  | .bankSwitch _ _ _ | .switchInstant | .jobDispatch | .pipeKat _ | .katDone _ _ | .drbgHealthFail
  | .drbgReseedRetry _ | .cryptoDisable _ _ | .keyLoad _ _ _ | .keySetcur _ _ | .keyRetire _ _ | .slotDrainEnd _
  | .hostMint _ | .hostMintDone _ | .anchorWrite _ _ _ | .slotMeasurement _ _ _ | .slotSecondCheck _
  | .selectorSecond | .inject _ _ _ | .initAlignStep | .selAlign _ _ | .alignStepWrite | .selForceSlew _ _
  | .selWtrClr _ _ | .selLoadSeed _ _ | .selRelearn _ _ | .holdUpdate | .modelSample | .modelRefit | .edgeCommand _
  | .ppsPulse _ | .ppsPulseEnd _ | .todMessageWrite | .todMessageStart | .todMessageEnd | .ckmonWrite _ _
  | .sclkWindow _ | .sampleMarker _ | .scntRead _ | .sinCtlWrite _ _ _ _ | .sigWrite _ _ _ | .acqJobDone _
  | .aidParse _ _ | .aidDone | .tpgEnable _ _ | .channelDump _ _ _ _ | .burstFrontendOn | .burstStart
  | .engineCheckError _ | .epochPulse | .fixRead _ | .qerrRead _ | .navCtlWrite _ _ | .surveyRestart _ _
  | .applyPos _ _ | .osnmaReset _ _ | .osnmaMessage _ | .gateEdge _ _ _ | .windowEnd _ | .fifoPop _ _ _
  | .channelArm _ _ _ | .fifoClear _ _ _ | .channelOwnerWrite _ _ _ | .thresholdWrite _ _ _ | .thresholdSettle _
  | .loincCommit _ _ | .loincApply | .regressionWindowEnd _ | .regressionRead _ _ | .ecdsaVer _ _ _
  | .ed25519Ver _ _ _ | .ptcheck _ _ _ | .rsaPub _ _ _ | .anchcmp _ _ _ | .modmul _ _ _ | .modexp _ _ _
  | .modinv _ _ _ | .modred _ _ _ | .ucheck _ _ _ | .bneCommandStart | .bneValidationEnd | .bneCommandDone _ _
  | .opmemWrite _ _ _ | .ucodeWrite _ _ _ _ | .eventRaise | .eventRecordWrite | .msixSend _ | .holdoffEnd _
  | .configAccess _ | .flr | .pcieLinkDown | .perstAssert | .perstRelease | .bar2Access _ _ _ | .prodWrite _ _ _
  | .consWrite _ _ _ | .upFrameArrive | .upFrameWrite _ | .descriptorFetch _ | .downCompletion _ | .ringEnable _ _ _
  | .ringDisable _ _ _ | .ringStopDone _ | .chunkIssue | .readCompletion _ _ _ | .completionTimeout _ _
  | .ringResume _ _ | .ringSkip _ _ | .windowWrite _ _ _ _ | .inputLoss _ | .inputOk _ | .pllReady _ | .pllLoss _
  | .clockSwitch _ _ | .clockGate _ _ _ | .gateClose _ _ | .clockUngate _ _ | .pdEnable _ _ | .pdDisable _ _
  | .pdForceDisable _ _ | .pdHandshakeAnswer _ | .pdDelayLimit _ | .pdOff _ | .pdSlotStart _ | .pdResetRelease _
  | .pdReady _ _ | .pdReset _ _ | .pdResetEnd _ _ | .xqResync _ | .plevelTargetWrite _ _ | .vsettleEnd _
  | .avsRetry _ | .thermalCheck _ | .sensorPoll _ _ _ | .i2cTransfer _ _ _ | .wakeAlarmWrite _ _ _ | .dormantEntry
  | .wake _ | .supplyLoss | .powerOnResetEnd | .resetNAssert | .resetNRelease | .coldReset _ | .warmReset _
  | .bootStart | .romSelftestDone _ | .configApply _ | .bootDone | .modeStart _ | .modeStage _ | .modeMeasure _
  | .modeSleep _ | .modeSafe _ | .modeRecover _ | .flashRead _ _ | .flashProgram _ _ | .flashErase _ | .flashDone
  | .flashTimeout | .ofuseProgram _ _ _ | .scrubRead _ _ _ _ | .selftestStart | .selftestDone _ _ _ _
  | .retireTileWrite _ _ _ | .retireLaneWrite _ _ | .wdgKick _ _ | .wdgExpire _ | .wdgAction _ | .logInCommit _ _
  | .logAccept | .logClear _ | .logRead _ | .wearUpdate | .pairEnableWrite _ _ | .pairLinkUp | .heartbeatTx
  | .heartbeatInterval | .heartbeatRx _ _ _ | .formRx _ _ _ _ | .formAckRx _ _ _ | .yieldRx _ _ | .timexRx _ _ _ _ _
  | .fenceInAssert | .pairTakeover _ | .fenceSettleEnd | .pairForm _ | .formResend | .formTimeout | .pairSwitchover _
  | .yieldResend | .yieldTimeout | .pairResync _ | .resyncDone | .tclkEdge | .supplyInRange | .pcieLinkUp
  | .pairLinkDown | .pairAliveInEdge | .pairAliveSilence | .fenceInDeassert | .pairMessageSend => true

end Sys2Proof
end

