-- ==== Sys2Proof/Safety.lean ====
section
/-!
DEFINITION. What claims about the block are stated in: the invariant of every step, when a register access completes
normally, when a Walzor instruction issues, and what it leaves.
-/
namespace Sys2Proof.Machine

/-- What every step keeps: the register map, the write-only buffers, every memory and the map of GNSS channels are in the
canonical form of a sparse map, and at most 16 trouble-log entries wait (R481). -/
structure State.Inv (s : State) : Prop where
  regs : sparseWf regDefault s.regs = true
  staged : sparseWf (fun _ => 0) s.staged = true
  pool : Memory.wf s.gys.pool = true
  local_ : Memory.wf s.gys.l = true
  banks : Memory.wf s.gys.banks = true
  sram : Memory.wf s.cores.sram = true
  gnss : Memory.wf s.cores.gnss = true
  flash : sparseWf flashDefault s.gctl.flash = true
  channels : sparseWf (fun _ => Channel.reset) s.gns.channels = true
  waiting : s.logWait.length ≤ 16

/-- A register access of an agent at an offset completes normally (R32): the agent reaches the registers, the offset is
mapped, and the domain of its register is on and out of reset. -/
def State.opens (s : State) (ag : Agent) (off : Nat) : Bool := s.reaches ag off && s.accessOutcome off == .ok

/-- A Walzor instruction of an encoding issues and executes its body (R99, R102, R141): the executor may issue, the word at
its PC is whole and of the encoding, the budget is not spent, and nothing that it needs is outstanding. -/
def State.issues (s : State) (x : Ctx) (e : Enc) (n : Needs) : Bool :=
  s.mayIssue x && !s.fetchPoisoned x && e.fits (isTile x) (s.fetch x) && !s.overBudget x &&
    !(s.th x).mustWait n (s.fetch x)

/-- An executor's thread as an instruction leaves it: t with the PC at an index and one more instruction counted (R101). -/
def State.ran (s : State) (x : Ctx) (pc : Nat) (t : Thread) : State :=
  s.setTh x { t with pc := pc, executed := (s.th x).executed + 1 }

/-- The same of an instruction that goes on with the next word. -/
def State.ranOn (s : State) (x : Ctx) (t : Thread) : State := s.ran x (nextPc (s.th x).pc) t

/-- Every register but those of a list holds what it held before. -/
def State.keepsRegs (s t : State) (but : List Nat) : Prop := ∀ o, o ∉ but → t.rd o = s.rd o

end Sys2Proof.Machine
end

