-- ==== Sys2Proof/Certificates/Slice0/Obligations.lean ====
section
/-!
DEFINITION. What is stated of the block: the obligations for the provers. Each docstring names the rules of spec/ that the
statement formalises. Where a clause gives a next state as an update of the state, everything that the update does not name
is unchanged: that is its frame.
-/

open Sys2Proof
open Sys2Proof.Machine

/-- For every command and state, the step of the state with the command at the front of its queue is exec of the command
on the state that holds the queue's rest. (INDEX.md) -/
def Obligations.FrontCommandRuns : Prop :=
  ∀ (c : Instr) (rest : List Instr) (s : State),
    step { s with pending := c :: rest } = exec c { s with pending := rest }

/-- Whatever command runs, the queue of waiting commands after it is the queue before it, so that a step takes exactly
one command, first in first out. (INDEX.md) -/
def Obligations.ExecLeavesTheQueue : Prop :=
  ∀ (c : Instr) (s t : State), exec c s = .next t → t.pending = s.pending

/-- From every state in which the register map, the write-only buffers and every memory and the map of GNSS channels are
canonical sparse maps (the model's form of memory) and at most 16 trouble-log entries wait (R481), a step answers a
state in which they are. (17_reliability_pair.md, 01_architecture.md) -/
def Obligations.EveryStepKeepsTheInvariant : Prop :=
  ∀ (s t : State), s.Inv → step s = .next t → t.Inv

/-- State.reset has canonical memories and no trouble-log entry waiting. (01_architecture.md, 17_reliability_pair.md) -/
def Obligations.ResetMeetsTheInvariant : Prop :=
  State.reset.Inv

/-- Right after power-on the device is in RESET (GCTL_STATUS 0x1), the count is 0, the increment in effect is
0x0001_4000_0000 in units of 2^-32 ns (1.25 ns), no step or commit is pending, CAL_STATUS.SET is 0, every Walzor
context is FREE with g1 0, and no frame, request or raise is queued. (00_scope.md, 02_device_time.md,
05_responder_execution.md) -/
def Obligations.ResetValues : Prop :=
  State.reset.rd Reg.GCTL_STATUS = 1 ∧ State.reset.mode = modeReset ∧ State.reset.cal.count = 0 ∧
    State.reset.rd Reg.CAL_INCR_CUR_H = 1 ∧ State.reset.rd Reg.CAL_INCR_CUR_L = 0x40000000 ∧
    State.reset.cal.pendIncr = none ∧ State.reset.cal.pendStep = none ∧ State.reset.cal.pendUtc = none ∧
    State.reset.flag Reg.CAL_STATUS 17 = false ∧
    (∀ p c : Nat, (State.reset.ctx p c).th.status = .free ∧ (State.reset.ctx p c).th.reg 1 = 0) ∧
    State.reset.net.toArray = [] ∧ State.reset.gys.queued = [] ∧ State.reset.raised = []

/-- An access at an offset of BAR0 that is not an aligned access of four bytes, by an agent that reaches the registers,
completes with Unsupported Request: no register, buffer, memory or queue changes, and no data is returned. (R4) -/
def Obligations.UnalignedAccessRejected : Prop :=
  ∀ (s : State) (ag : Agent) (off size : Nat) (write : Bool), s.reaches ag off = true → off < 0x4000000 →
    ¬ (off % 4 = 0 ∧ size = 4) →
    exec (.unalignedBar0Access ag off size write) s =
      .next { s with bus := { s.bus with last := .unsupportedRequest } }

/-- For every agent that reaches the registers: a write to an open register has the effect of its block, and a plain
register takes the value; a read of a register with an RC field returns it and clears it; an access to an unmapped
offset or a powered-off block is recorded in GCTL_BADACC, counted in GCTL_BADCNT and returns 0 or all ones; one to a
domain that powers up waits. The oldest access whose domain is ready completes, one that times out fails with cause
3, and a 1 written to LATCHED clears the record. (01_architecture.md) -/
def Obligations.RegisterAccessOutcomes : Prop :=
  (∀ (s : State) (ag : Agent) (off : Nat) (v : Word), off < 0x4000000 → off % 4 = 0 → s.opens ag off →
      exec (.registerWrite ag off v) s = .next (s.applyWrite ag off v)) ∧
  (∀ (s : State) (ag : Agent) (i : Nat) (v : Word), i < 3 → s.opens ag (Reg.CAL_STEP_W i) →
      exec (.registerWrite ag (Reg.CAL_STEP_W i) v) s = .next (s.wr (Reg.CAL_STEP_W i) v)) ∧
  (∀ (s : State) (ag : Agent), s.opens ag Reg.GCTL_BADCNT →
      exec (.rcFieldRead ag Reg.GCTL_BADCNT) s =
        .next ((s.wr Reg.GCTL_BADCNT 0).complete (.data (s.rd Reg.GCTL_BADCNT)))) ∧
  (∀ (s : State) (ag : Agent) (off : Nat) (v : Word), off < 0x4000000 → off % 4 = 0 → s.reaches ag off = true →
      s.accessOutcome off = .unmapped → s.flag Reg.GCTL_BADACC 31 = false →
      exec (.registerWrite ag off v) s =
        .next ((s.bump Reg.GCTL_BADCNT 0 32).wr Reg.GCTL_BADACC (BitVec.ofNat 32 (2 ^ 31 + 2 ^ 29 + 2 ^ 28 + off)))) ∧
  (∀ (s : State) (ag : Agent) (off : Nat), off < 0x4000000 → off % 4 = 0 → s.reaches ag off = true →
      s.accessOutcome off = .off → s.flag Reg.GCTL_BADACC 31 = false →
      exec (.rcFieldRead ag off) s =
        .next (((s.bump Reg.GCTL_BADCNT 0 32).wr Reg.GCTL_BADACC (BitVec.ofNat 32 (2 ^ 31 + 2 * 2 ^ 29 + off))).complete
          (.data 0xFFFFFFFF#32))) ∧
  (∀ (s : State) (ag : Agent) (off : Nat) (v : Word), off < 0x4000000 → off % 4 = 0 → s.reaches ag off = true →
      s.accessOutcome off = .wait →
      exec (.registerWrite ag off v) s =
        .next { s with bus := { s.bus with waiting := s.bus.waiting ++ [⟨ag, off, true, v⟩] } }) ∧
  (∀ (s : State) (off : Nat) (v : Word) (rest : List Access), s.bus.waiting = ⟨.host, off, true, v⟩ :: rest →
      s.accessOutcome off = .ok →
      exec .pendingAccessComplete s = .next (State.applyWrite { s with bus := { s.bus with waiting := rest } } .host off v)) ∧
  (∀ (s : State) (off : Nat) (rest : List Access), s.bus.waiting = ⟨.host, off, false, 0⟩ :: rest →
      s.flag Reg.GCTL_BADACC 31 = false → off % 4 = 0 → off < 0x4000000 →
      exec .busTimeout s =
        .next (((State.bump { s with bus := { s.bus with waiting := rest } } Reg.GCTL_BADCNT 0 32).wr Reg.GCTL_BADACC
          (BitVec.ofNat 32 (2 ^ 31 + 3 * 2 ^ 29 + off))).complete (.data 0xFFFFFFFF#32))) ∧
  (∀ (s : State) (ag : Agent) (v : Word), s.opens ag Reg.GCTL_BADACC → bitAt v 31 = true →
      exec (.badaccClear ag v) s = .next (s.wr Reg.GCTL_BADACC 0))

/-- With PLL_T ready, no change due at the edge and no absolute step in it, TCLK_EDGE adds the increment in effect (and
one unit more where the dither accumulator carries) to the count, a count of units of 2^-32 ns whose seconds field
wraps at 2^48 seconds: the nanoseconds stay below 10^9 and one edge carries at most once. No register changes, and
with PLL_T not ready the count holds. (02_device_time.md) -/
def Obligations.ClockEdgeAdvancesTheCount : Prop :=
  ∀ s : State, s.incrDue = false → s.stepDue = false → s.utcDue = false → s.loDue = false → s.cal.absEdge = false →
    ∃ t, exec .tclkEdge s = .next t ∧
      (s.flag Reg.CAL_STATUS 16 = true →
        t.cal.count = (s.cal.count + (s.fld Reg.CAL_INCR_CUR_H 0 16 * 2 ^ 32 + (s.rd Reg.CAL_INCR_CUR_L).toNat) +
          (if 2 ^ 16 ≤ s.cal.acc + s.fld Reg.CAL_INCR_CUR_H 16 16 then 1 else 0)) % (2 ^ 48 * (10 ^ 9 * 2 ^ 32)) ∧
        t.cal.acc = (s.cal.acc + s.fld Reg.CAL_INCR_CUR_H 16 16) % 2 ^ 16) ∧
      (s.flag Reg.CAL_STATUS 16 = false → t.cal.count = s.cal.count ∧ t.cal.acc = s.cal.acc) ∧
      ct96Ns t.now < 10 ^ 9 ∧ t = { s with cal := t.cal, grv := t.grv }

/-- A write of CAL_INCR_L by the owner changes that register alone. A write of CAL_INCR_H by the owner, with the value
in range, makes both words the pending increment with its apply edge 64 edges on; with one pending it replaces it,
restarts the 64 edges and sets CAL_ERR.INCR_SUPERSEDED. At the apply edge the pending increment becomes the one in
effect, and source 0 is raised. (R41) -/
def Obligations.IncrementCommits : Prop :=
  (∀ (s : State) (ag : Agent) (v : Word), s.opens ag Reg.CAL_INCR_L → s.ownsIncr ag = true →
      exec (.registerWrite ag Reg.CAL_INCR_L v) s = .next (s.wr Reg.CAL_INCR_L v)) ∧
  (∀ (s : State) (ag : Agent) (v : Word), s.opens ag Reg.CAL_INCR_H → s.ownsIncr ag = true →
      incrInRange (s.rd Reg.CAL_INCR_L) v = true → s.cal.pendIncr = none →
      exec (.incrCommit ag v) s =
        .next { (s.wr Reg.CAL_INCR_H v).setFlag Reg.CAL_STATUS 0 true with
          cal := { s.cal with pendIncr := some ⟨s.rd Reg.CAL_INCR_L, v, 63⟩ } }) ∧
  (∀ (s : State) (ag : Agent) (v : Word) (p : PendIncr), s.opens ag Reg.CAL_INCR_H → s.ownsIncr ag = true →
      incrInRange (s.rd Reg.CAL_INCR_L) v = true → s.cal.pendIncr = some p → s.flag Reg.CAL_ERR 3 = false →
      exec (.incrCommit ag v) s =
        .next { (((s.wr Reg.CAL_INCR_H v).setFlag Reg.CAL_ERR 3 true).raise 13).setFlag Reg.CAL_STATUS 0 true with
          cal := { s.cal with pendIncr := some ⟨s.rd Reg.CAL_INCR_L, v, 63⟩ } }) ∧
  (∀ (s : State) (p : PendIncr), s.cal.pendIncr = some p → p.edges = 0 →
      exec .incrApply s =
        .next (State.raise { ((s.wr Reg.CAL_INCR_CUR_L p.low).wr Reg.CAL_INCR_CUR_H p.high).setFlag Reg.CAL_STATUS 0 false with
          cal := { s.cal with pendIncr := none } } 0))

/-- With INCR_OWNER 0 the owner is SC6 and SC7, with 1 the host. A write of CAL_INCR_L or CAL_INCR_H by any other agent
writes nothing and sets CAL_ERR.OWNER, source 13 being raised as the bit goes from 0 to 1; the owner's write of
CAL_INCR_L is taken. (R43) -/
def Obligations.IncrementOwner : Prop :=
  (∀ (s : State) (ag : Agent), s.ownsIncr ag = if s.flag Reg.CAL_CTRL 0 then isHost ag else isCore ag 6 7) ∧
  (∀ (s : State) (ag : Agent) (v : Word), s.opens ag Reg.CAL_INCR_L → s.ownsIncr ag = false → s.flag Reg.CAL_ERR 1 = false →
      exec (.registerWrite ag Reg.CAL_INCR_L v) s = .next ((s.setFlag Reg.CAL_ERR 1 true).raise 13)) ∧
  (∀ (s : State) (ag : Agent) (v : Word), s.opens ag Reg.CAL_INCR_H → s.ownsIncr ag = false → s.flag Reg.CAL_ERR 1 = false →
      exec (.incrCommit ag v) s = .next ((s.setFlag Reg.CAL_ERR 1 true).raise 13)) ∧
  (∀ (s : State) (ag : Agent) (v : Word), s.opens ag Reg.CAL_INCR_L → s.ownsIncr ag = true →
      exec (.registerWrite ag Reg.CAL_INCR_L v) s = .next (s.wr Reg.CAL_INCR_L v))

/-- A write of CAL_CTRL takes bit 0 in STAGED, MEASURE and SAFE, and a 0 in every mode; a 1 in another mode is refused
with CAL_ERR.OWNER. Nothing else changes. (02_device_time.md) -/
def Obligations.IncrementOwnerWrites : Prop :=
  (∀ (s : State) (ag : Agent) (v : Word), s.opens ag Reg.CAL_CTRL →
      (bitAt v 0 = true → s.mode = modeStaged ∨ s.mode = modeMeasure ∨ s.mode = modeSafe) →
      ∃ t, exec (.incrOwnerWrite ag v) s = .next t ∧ t.flag Reg.CAL_CTRL 0 = bitAt v 0 ∧ s.keepsRegs t [Reg.CAL_CTRL] ∧
        t = { s with regs := t.regs }) ∧
  (∀ (s : State) (ag : Agent) (v : Word), s.opens ag Reg.CAL_CTRL → bitAt v 0 = true → s.flag Reg.CAL_ERR 1 = false →
      s.mode ≠ modeStaged → s.mode ≠ modeMeasure → s.mode ≠ modeSafe →
      exec (.incrOwnerWrite ag v) s = .next ((s.setFlag Reg.CAL_ERR 1 true).raise 13))

/-- GO with no step pending, a valid value and a result from 0 up to 2^48 seconds makes the step pending; while one is
pending GO sets STEP_BUSY and leaves it; an invalid NS sets FMT and a result out of range STEP_RANGE. ABORT of a
pending step clears it and raises source 2, and with none pending changes nothing. At the apply edge the count
becomes the written value (absolute) or the sum with the signed offset (relative), and STEPGEN rises by one. (R46,
R47) -/
def Obligations.StepCommands : Prop :=
  (∀ (s : State) (ag : Agent) (v : Word), s.opens ag Reg.CAL_STEP_CMD → bitAt v 0 = true → s.flag Reg.CAL_STATUS 1 = false →
      ct96Ns s.stepValue < 10 ^ 9 →
      0 ≤ (if bitAt v 2 then (countOfCt96 s.stepValue : Int) else (s.cal.count : Int) + offsetOfCt96 s.stepValue) →
      (if bitAt v 2 then (countOfCt96 s.stepValue : Int) else (s.cal.count : Int) + offsetOfCt96 s.stepValue)
        < 2 ^ 48 * (10 ^ 9 * 2 ^ 32) →
      exec (.stepGo ag v) s =
        .next { (s.setFlag Reg.CAL_STATUS 1 true).setFlag Reg.CAL_STATUS 2 (bitAt v 3) with
          cal := { s.cal with pendStep := some ⟨bitAt v 2, bitAt v 3, s.stepValue, 63⟩ } }) ∧
  (∀ (s : State) (ag : Agent) (v : Word), s.opens ag Reg.CAL_STEP_CMD → bitAt v 0 = true → s.flag Reg.CAL_STATUS 1 = true →
      s.flag Reg.CAL_ERR 4 = false → exec (.stepGo ag v) s = .next ((s.setFlag Reg.CAL_ERR 4 true).raise 13)) ∧
  (∀ (s : State) (ag : Agent) (v : Word), s.opens ag Reg.CAL_STEP_CMD → bitAt v 0 = true → s.flag Reg.CAL_STATUS 1 = false →
      10 ^ 9 ≤ ct96Ns s.stepValue → s.flag Reg.CAL_ERR 0 = false →
      exec (.stepGo ag v) s = .next ((s.setFlag Reg.CAL_ERR 0 true).raise 13)) ∧
  (∀ (s : State) (ag : Agent) (v : Word), s.opens ag Reg.CAL_STEP_CMD → bitAt v 0 = true → s.flag Reg.CAL_STATUS 1 = false →
      ct96Ns s.stepValue < 10 ^ 9 → s.flag Reg.CAL_ERR 5 = false → bitAt v 2 = false →
      ((s.cal.count : Int) + offsetOfCt96 s.stepValue < 0 ∨
        2 ^ 48 * (10 ^ 9 * 2 ^ 32) ≤ (s.cal.count : Int) + offsetOfCt96 s.stepValue) →
      exec (.stepGo ag v) s = .next ((s.setFlag Reg.CAL_ERR 5 true).raise 13)) ∧
  (∀ (s : State) (ag : Agent) (v : Word) (p : PendStep), s.opens ag Reg.CAL_STEP_CMD → bitAt v 0 = false →
      bitAt v 1 = true → s.cal.pendStep = some p →
      ∃ t, exec (.stepAbort ag v) s = .next t ∧ t.flag Reg.CAL_STATUS 1 = false ∧ t.cal = { s.cal with pendStep := none } ∧
        t.raised = s.raised ++ [⟨2, 0, 0⟩] ∧ s.keepsRegs t [Reg.CAL_STATUS] ∧
        t = { s with regs := t.regs, raised := t.raised, cal := t.cal, sel := t.sel }) ∧
  (∀ (s : State) (ag : Agent) (v : Word), s.opens ag Reg.CAL_STEP_CMD → bitAt v 0 = false → bitAt v 1 = true →
      s.cal.pendStep = none → exec (.stepAbort ag v) s = .next s) ∧
  (∀ (s : State) (p : PendStep), s.cal.pendStep = some p → s.stepDue = true → s.incrDue = false →
      ∃ t, exec .stepApply s = .next t ∧ t.cal.pendStep = none ∧
        t.fld Reg.CAL_STATUS 8 8 = (s.fld Reg.CAL_STATUS 8 8 + 1) % 256 ∧ t.flag Reg.CAL_STATUS 1 = false ∧
        (p.absolute = true → t.flag Reg.CAL_STATUS 17 = true) ∧
        t.cal.count = (if p.absolute then countOfCt96 p.value % (2 ^ 48 * (10 ^ 9 * 2 ^ 32))
          else (((s.cal.count : Int) + offsetOfCt96 p.value) % (2 ^ 48 * (10 ^ 9 * 2 ^ 32))).toNat))

/-- A read of CAL_NOW_W0 returns W0 of the count and latches W1 and W2 from the same edge, and reads of W1 and W2 return
what was latched. SNAP_GO writes the capture, sets VALID, copies STEPGEN, counts SEQ and raises source 4.
REPLICA_COMPARE reports no replica where all agree and reloads one that the compare before found different; one that
it finds different raises source 3, is to be reloaded, and its stamps of the interval are marked. A comparator fires
when the signed difference between its owner's device time and its target is zero or greater. (R49) -/
def Obligations.TimeReadsAndComparisons : Prop :=
  (∀ (s : State) (ag : Agent), s.opens ag (Reg.CAL_NOW_W 0) →
      exec (.nowRead ag 0) s = .next ((s.wr96 (Reg.CAL_NOW_W 0) s.now).complete (.data (word96 s.now 0)))) ∧
  (∀ (s : State) (ag : Agent), s.opens ag (Reg.CAL_NOW_W 1) →
      exec (.nowRead ag 1) s = .next (s.complete (.data (s.rd (Reg.CAL_NOW_W 1))))) ∧
  (∀ (s : State) (ag : Agent), s.opens ag (Reg.CAL_NOW_W 2) →
      exec (.nowRead ag 2) s = .next (s.complete (.data (s.rd (Reg.CAL_NOW_W 2))))) ∧
  (∀ s : State, (s.wr96 (Reg.CAL_NOW_W 0) s.now).rd (Reg.CAL_NOW_W 1) = word96 s.now 1 ∧
      (s.wr96 (Reg.CAL_NOW_W 0) s.now).rd (Reg.CAL_NOW_W 2) = word96 s.now 2) ∧
  (∀ i < 3, State.reset.rd (Reg.CAL_NOW_W i) = 0) ∧
  (∀ (s : State) (ag : Agent) (v : Word), s.opens ag Reg.CAL_SNAP_CTL → bitAt v 0 = true →
      ∃ t, exec (.snapGo ag v) s = .next t ∧ t.rd96 (Reg.CAL_SNAP_W 0) = s.now ∧ t.flag Reg.CAL_SNAP_CTL 1 = true ∧
        t.fld Reg.CAL_SNAP_CTL 8 8 = s.fld Reg.CAL_STATUS 8 8 ∧
        t.fld Reg.CAL_SNAP_CTL 16 16 = (s.fld Reg.CAL_SNAP_CTL 16 16 + 1) % 2 ^ 16 ∧
        t.raised = s.raised ++ [⟨4, 0, 0⟩] ∧
        s.keepsRegs t [Reg.CAL_SNAP_W 0, Reg.CAL_SNAP_W 1, Reg.CAL_SNAP_W 2, Reg.CAL_SNAP_CTL] ∧
        t = { s with regs := t.regs, raised := t.raised }) ∧
  (∀ s : State, (∀ r < 29, (s.replica r).mismatches s.cal.count s.cal.acc = false) →
      ∃ t, exec .replicaCompare s = .next t ∧ t = { s with cal := t.cal, net := t.net, grv := { s.grv with fresh := false } } ∧
        t.cal.count = s.cal.count ∧ t.net = { s.net with ports := t.net.ports } ∧
        (∀ n, t.port n = { s.port n with fresh := (t.port n).fresh }) ∧
        ∀ r, r < s.cal.replicas.length → (s.replica r).loaded = true → (s.replica r).reload = true →
          (t.replica r).count = s.cal.count ∧ (t.replica r).acc = s.cal.acc ∧ (t.replica r).reload = false) ∧
  (∀ (s : State) (r : Nat), r < 29 → r < s.cal.replicas.length → (s.replica r).mismatches s.cal.count s.cal.acc = true →
      ∃ t, exec .replicaCompare s = .next t ∧ ⟨3, 0, 0⟩ ∈ t.raised ∧ (t.replica r).reload = true ∧
        (t.replica r).count = (s.replica r).count ∧ (r, s.cal.compares) ∈ t.cal.bad) ∧
  (∀ (s : State) (w : CmpOwner), ∃ t, exec (.comparatorFire w) s = .next t ∧ t = { s with cal := t.cal } ∧
      t.cal = { s.cal with comparators := t.cal.comparators } ∧
      ∀ c ∈ s.cal.comparators, c.owner = w → (s.ownerCf w - c.target).msb = false →
        { c with fired := true } ∈ t.cal.comparators)

/-- With PTM Enable set, the period timer with EN 1 and no dialogue open, or a ONESHOT, stamps t1 on the PTM replica;
with PTM Enable clear NOPTM sets and no dialogue runs. A response with a delay D from 0 to 10 us gives the record
DEV = t1 + D, counts SEQ, sets VALID and raises source 5, t1 and t4 being those of the dialogue that the response
describes; a response with another delay, or a timeout, counts FAILCNT (saturating) and raises source 6. A read of
CAL_PTM_STATUS latches the record. (02_device_time.md) -/
def Obligations.PtmDialogues : Prop :=
  (∀ (s : State) (phase : Nat), s.flag Reg.CAL_PTM_CTRL 0 = true → s.cal.ptmT1 = none → s.pcie.ptmEnable = true →
      exec (.ptmPeriod phase) s =
        .next { (s.setFlag Reg.CAL_PTM_STATUS 16 false).setFlag Reg.CAL_PTM_STATUS 17 true with
          cal := { s.cal with ptmT1 := some (s.stamp replicaPtm phase) } }) ∧
  (∀ (s : State) (phase : Nat), s.flag Reg.CAL_PTM_CTRL 0 = true → s.cal.ptmT1 = none → s.pcie.ptmEnable = false →
      exec (.ptmPeriod phase) s = .next (s.setFlag Reg.CAL_PTM_STATUS 16 true)) ∧
  (∀ (s : State) (ag : Agent) (v : Word) (phase : Nat), s.opens ag Reg.CAL_PTM_CTRL → bitAt v 1 = true →
      1 ≤ bitsAt v 16 10 → bitsAt v 16 10 ≤ 1000 → s.cal.ptmT1 = none → s.pcie.ptmEnable = true →
      ∃ t, exec (.ptmOneshot ag v phase) s = .next t ∧ t.cal = { s.cal with ptmT1 := some (s.stamp replicaPtm phase) } ∧
        t.fld Reg.CAL_PTM_CTRL 16 10 = bitsAt v 16 10 ∧ t.flag Reg.CAL_PTM_CTRL 0 = bitAt v 0 ∧
        s.keepsRegs t [Reg.CAL_PTM_CTRL, Reg.CAL_PTM_STATUS] ∧ t = { s with regs := t.regs, cal := t.cal }) ∧
  (∀ (s : State) (phase t2 turn : Nat) (t1 : CT96), s.cal.ptmT1 = some t1 → s.cal.ptmOwed = 0 →
      0 ≤ ptmDelayOf t1 (s.stamp replicaPtm phase) turn → ptmDelayOf t1 (s.stamp replicaPtm phase) turn ≤ 10000 * 2 ^ 16 →
      ∃ t, exec (.ptmResponse phase t2 turn false) s = .next t ∧ t.cal.ptmT1 = none ∧
        t.cal.ptmDev = ct96OfFrac (ct96ToFrac t1 + (ptmDelayOf t1 (s.stamp replicaPtm phase) turn).toNat) ∧
        t.cal.ptmHost = BitVec.ofNat 64 t2 ∧
        t.fld Reg.CAL_PTM_STATUS 0 8 = (s.fld Reg.CAL_PTM_STATUS 0 8 + 1) % 256 ∧ t.flag Reg.CAL_PTM_STATUS 18 = true ∧
        t.flag Reg.CAL_PTM_STATUS 17 = false ∧ t.raised = s.raised ++ [⟨5, 0, 0⟩] ∧
        s.keepsRegs t [Reg.CAL_PTM_STATUS] ∧ t = { s with regs := t.regs, raised := t.raised, cal := t.cal }) ∧
  (∀ (s : State) (phase t2 turn : Nat) (t1 : CT96), s.cal.ptmT1 = some t1 → s.cal.ptmOwed = 0 →
      (ptmDelayOf t1 (s.stamp replicaPtm phase) turn < 0 ∨ 10000 * 2 ^ 16 < ptmDelayOf t1 (s.stamp replicaPtm phase) turn) →
      exec (.ptmResponse phase t2 turn false) s =
        exec (.ptmTimeout phase) { s with cal := { s.cal with ptmBefore := some (t1, s.stamp replicaPtm phase) } }) ∧
  (∀ (s : State) (phase t2 turn : Nat) (t1 a b : CT96), s.cal.ptmT1 = some t1 → s.cal.ptmOwed = 0 →
      s.cal.ptmBefore = some (a, b) → 0 ≤ ptmDelayOf a b turn → ptmDelayOf a b turn ≤ 10000 * 2 ^ 16 →
      ∃ t, exec (.ptmResponse phase t2 turn true) s = .next t ∧
        t.cal.ptmDev = ct96OfFrac (ct96ToFrac a + (ptmDelayOf a b turn).toNat) ∧ t.cal.ptmHost = BitVec.ofNat 64 t2 ∧
        t.cal.ptmBefore = some (t1, s.stamp replicaPtm phase) ∧ t.raised = s.raised ++ [⟨5, 0, 0⟩]) ∧
  (∀ (s : State) (phase : Nat) (t1 : CT96), s.cal.ptmT1 = some t1 → s.cal.ptmOwed = 0 →
      exec (.ptmTimeout phase) s =
        .next { ((s.bump Reg.CAL_PTM_STATUS 8 8).raise 6).setFlag Reg.CAL_PTM_STATUS 17 false with
          cal := { s.cal with ptmT1 := none } }) ∧
  (∀ (s : State) (ag : Agent), s.opens ag Reg.CAL_PTM_STATUS →
      ∃ t, exec (.ptmStatusRead ag) s = .next t ∧ t.bus.last = .data (s.rd Reg.CAL_PTM_STATUS) ∧
        t.rd96 (Reg.CAL_PTM_DEV_W 0) = s.cal.ptmDev ∧ t.rd Reg.CAL_PTM_HOST_L = lo32 s.cal.ptmHost ∧
        t.rd Reg.CAL_PTM_HOST_H = hi32 s.cal.ptmHost ∧ t.rd Reg.CAL_PTM_DELAY = s.cal.ptmDelay ∧
        t.fld Reg.CAL_PTM_STATUS 8 8 = 0 ∧ t = { s with regs := t.regs, bus := t.bus })

/-- COMMIT captures the shadow state for the apply edge, and with one pending sets UTC_BUSY only. At the apply edge a
valid table that makes no jump (or one with FORCE) takes effect, VERSION rises by one and source 7 is raised; an
invalid table sets LEAPTAB, a jump without FORCE UTCJUMP, and the committed state stays. LEAP_WARN sets LEAP_PEND to
the direction of the next entry within WARN hours and raises source 8; LEAP_INSTANT shows the offset of R58 and
clears LEAP_PEND; UTC_EXPIRED sets EXPIRED (source 9); SMEAR_START and SMEAR_END set and clear SMEAR_ACT (sources 10
and 11). (02_device_time.md) -/
def Obligations.UtcCommitsAndLeaps : Prop :=
  (∀ (s : State) (ag : Agent) (v : Word), s.opens ag Reg.CAL_UTC_CMD → bitAt v 0 = true →
      s.flag Reg.CAL_UTC_STATUS 20 = false →
      exec (.utcCommit ag v) s =
        .next { s.setFlag Reg.CAL_UTC_STATUS 20 true with
          cal := { s.cal with pendUtc := some ⟨s.shadowUtc, bitAt v 1, 63, false⟩ } }) ∧
  (∀ (s : State) (ag : Agent) (v : Word), s.opens ag Reg.CAL_UTC_CMD → bitAt v 0 = true →
      s.flag Reg.CAL_UTC_STATUS 20 = true → s.flag Reg.CAL_ERR 8 = false →
      exec (.utcCommit ag v) s = .next ((s.setFlag Reg.CAL_ERR 8 true).raise 13)) ∧
  (∀ (s : State) (p : PendUtc), s.cal.pendUtc = some p → p.edges = 0 → s.incrDue = false → s.stepDue = false →
      p.utc.tableOk = true → (p.force = true ∨ utcJumps s.cal.utc p.utc (ct96OfCount s.nextCount) = false) →
      ∃ t, exec .utcApply s = .next t ∧ t.cal = { s.cal with pendUtc := none, utc := p.utc } ∧
        t.fld Reg.CAL_UTC_STATUS 24 8 = (s.fld Reg.CAL_UTC_STATUS 24 8 + 1) % 256 ∧
        t.fld Reg.CAL_UTC_STATUS 0 16 = unsigned 16 (p.utc.offsetAt (ct96Sec s.now)) ∧
        t.flag Reg.CAL_UTC_STATUS 20 = false ∧ t.raised = s.raised ++ [⟨7, 0, 0⟩] ∧
        s.keepsRegs t [Reg.CAL_UTC_STATUS] ∧ t = { s with regs := t.regs, raised := t.raised, cal := t.cal }) ∧
  (∀ (s : State) (p : PendUtc), s.cal.pendUtc = some p → p.edges = 0 → s.incrDue = false → s.stepDue = false →
      p.config = false → p.utc.tableOk = false →
      exec .utcApply s = .next (State.error { s.setFlag Reg.CAL_UTC_STATUS 20 false with
        cal := { s.cal with pendUtc := none } } Reg.CAL_ERR 6 13)) ∧
  (∀ (s : State) (p : PendUtc), s.cal.pendUtc = some p → p.edges = 0 → s.incrDue = false → s.stepDue = false →
      p.config = false → p.utc.tableOk = true → p.force = false →
      utcJumps s.cal.utc p.utc (ct96OfCount s.nextCount) = true →
      exec .utcApply s = .next (State.error { s.setFlag Reg.CAL_UTC_STATUS 20 false with
        cal := { s.cal with pendUtc := none } } Reg.CAL_ERR 7 13)) ∧
  (∀ s : State, s.fld Reg.CAL_UTC_STATUS 16 2 = 0 → s.cal.utc.leapPend (ct96Sec s.now) ≠ 0 →
      exec .leapWarn s =
        .next ((s.setFld Reg.CAL_UTC_STATUS 16 2 (s.cal.utc.leapPend (ct96Sec s.now))).raise 8)) ∧
  (∀ s : State, s.fld Reg.CAL_UTC_STATUS 0 16 ≠ unsigned 16 (s.cal.utc.offsetAt (ct96Sec s.now)) →
      exec .leapInstant s =
        .next ((s.setFld Reg.CAL_UTC_STATUS 0 16 (unsigned 16 (s.cal.utc.offsetAt (ct96Sec s.now)))).setFld
          Reg.CAL_UTC_STATUS 16 2 0)) ∧
  (∀ s : State, s.cal.utc.expiry ≠ 0 → s.cal.utc.expiry ≤ ct96Sec s.now → s.flag Reg.CAL_UTC_STATUS 19 = false →
      exec .utcExpired s = .next ((s.setFlag Reg.CAL_UTC_STATUS 19 true).raise 9)) ∧
  (∀ s : State, s.cal.utc.smearAmount s.now ≠ 0 → s.flag Reg.CAL_UTC_STATUS 18 = false →
      exec .smearStart s = .next ((s.setFlag Reg.CAL_UTC_STATUS 18 true).raise 10)) ∧
  (∀ s : State, s.cal.utc.smearEn = true → s.cal.utc.smearAmount s.now = 0 → s.flag Reg.CAL_UTC_STATUS 18 = true →
      exec .smearEnd s = .next ((s.setFlag Reg.CAL_UTC_STATUS 18 false).raise 11))

/-- A write of PRT_QUAD with a mode of the table and no port of the quad enabled takes the mode, clears READY until
QPLLq relocks and loses the alignment and links of its ports; with a port enabled it is refused with ERR and the
mode stays. Alignment holds the measured receive latency. A link comes up on an enabled, aligned port whose lanes
are free and that sends no calibration pattern, with the measured transmit latency, and goes down losing LINK, ALIGN
and training; source 48 + 2n is raised each time. (03_ports_and_stamping.md) -/
def Obligations.PortLinks : Prop :=
  (∀ (s : State) (ag : Agent) (q : Fin 4) (v : Word), s.opens ag (Reg.PRT_QUAD q.val) → bitsAt v 0 3 ≤ 4 →
      s.quadInUse q.val = false →
      ∃ t, exec (.quadModeWrite ag q v) s = .next t ∧ t.fld (Reg.PRT_QUAD q.val) 0 3 = bitsAt v 0 3 ∧
        t.flag (Reg.PRT_QUAD q.val) 8 = false ∧ t.flag Reg.CPM_PLL (6 + q.val) = false ∧
        (∀ i < 4, t.fld (Reg.PRT_STATUS (4 * q.val + i)) 0 3 = 0) ∧
        s.keepsRegs t ([Reg.PRT_QUAD q.val, Reg.CPM_PLL] ++ (List.range 4).map (fun i => Reg.PRT_STATUS (4 * q.val + i)) ++
          (List.range 4).map fun i => Reg.PRT_STICKY (4 * q.val + i)) ∧
        t = { s with regs := t.regs, raised := t.raised }) ∧
  (∀ (s : State) (ag : Agent) (q : Fin 4) (v : Word), s.opens ag (Reg.PRT_QUAD q.val) → s.quadInUse q.val = true →
      exec (.quadModeWrite ag q v) s =
        .next ((s.setFlag (Reg.PRT_QUAD q.val) 31 true).setFlag (Reg.PRT_STATUS (4 * q.val)) 5 true)) ∧
  (∀ (s : State) (n : Fin 16) (meas : Word), s.portEnabled n.val = true →
      exec (.alignmentLock n meas) s =
        .next ((s.wr (Reg.PRT_MEAS_RX n.val) meas).setFlag (Reg.PRT_STATUS n.val) 1 true)) ∧
  (∀ (s : State) (n : Fin 16) (meas : Word), s.portEnabled n.val = true → s.lanesFree (s.lanesOf n.val) = true →
      s.flag (Reg.PRT_STATUS n.val) 1 = true → s.flag (Reg.PRT_CAL_CTRL n.val) 0 = false →
      s.flag (Reg.PRT_STATUS n.val) 0 = false →
      exec (.linkUp n meas) s =
        .next ((((s.wr (Reg.PRT_MEAS_TX n.val) meas).setFlag (Reg.PRT_STATUS n.val) 2 true).setFlag
          (Reg.PRT_STATUS n.val) 0 true).raise (48 + 2 * n.val))) ∧
  (∀ (s : State) (n : Fin 16), s.flag (Reg.PRT_STATUS n.val) 0 = true →
      ∃ t, exec (.linkDown n none) s = .next t ∧ t.fld (Reg.PRT_STATUS n.val) 0 3 = 0 ∧
        t.flag (Reg.PRT_STICKY n.val) 0 = true ∧ (⟨48 + 2 * n.val, 0, 0⟩ : Raise) ∈ t.raised ∧
        s.keepsRegs t [Reg.PRT_STATUS n.val, Reg.PRT_STICKY n.val] ∧ t = { s with regs := t.regs, raised := t.raised })

/-- On a port with a link: a whole frame of legal length with good FEC and FCS, that is neither a MAC Control nor a
calibration frame, to an address the MAC accepts and with room in the packet buffer, is put behind the received
frames with its ingress stamp; a frame with bad FCS or of illegal length is dropped and counted. A PAUSE ends with
its timer. CLASSIFY takes the oldest frame: with the classifier off it is counted as disabled, and an entry that
names a host ring sends it toward that ring. A capture record is delivered as code 63 to the tile of its TAG.
(03_ports_and_stamping.md) -/
def Obligations.FrameReception : Prop :=
  (∀ (s : State) (n : Fin 16) (bs : List Byte) (c phase : Nat), s.flag (Reg.PRT_STATUS n.val) 0 = true →
      64 ≤ bs.length + 4 → bs.length + 4 ≤ 9216 → be16 bs 12 ≠ 0x8808 → s.flag (Reg.PRT_CAL_CTRL n.val) 1 = false →
      s.acceptsMac n.val bs = true → s.suspect (replicaPort n.val) = false →
      (s.countStamp n.val).cellsFree (frameCells bs.length) = true →
      ∃ t f, exec (.frameRx n bs c true true phase) s = .next t ∧
        (t.port n.val).received = (s.port n.val).received ++ [f] ∧ f.bytes = bs ∧ f.port = n.val ∧
        f.stamp = ⟨s.ingressStamp n.val phase, false, replicaPort n.val, s.cal.compares⟩ ∧
        t.fld (Reg.PRT_CNT_RX n.val) 0 32 = min (2 ^ 32 - 1) (s.fld (Reg.PRT_CNT_RX n.val) 0 32 + 1) ∧
        s.keepsRegs t [Reg.PRT_CNT_RX n.val, Reg.PRT_CNT_FECCORR n.val] ∧ t = { s with regs := t.regs, net := t.net }) ∧
  (∀ (s : State) (n : Fin 16) (bs : List Byte) (c phase : Nat) (fcs : Bool), s.flag (Reg.PRT_STATUS n.val) 0 = true →
      s.suspect (replicaPort n.val) = false →
      (fcs = false ∨ bs.length + 4 < 64 ∨ 9216 < bs.length + 4) →
      ∃ t, exec (.frameRx n bs c true fcs phase) s = .next t ∧
        t.fld (Reg.PRT_CNT_RXDROP n.val) 0 32 = min (2 ^ 32 - 1) (s.fld (Reg.PRT_CNT_RXDROP n.val) 0 32 + 1) ∧
        t.port n.val = { s.port n.val with fresh := (s.port n.val).fresh + 1 } ∧
        t = { s with regs := t.regs, net := { s.net with ports := t.net.ports } }) ∧
  (∀ (s : State) (n : Fin 16), s.flag (Reg.PRT_STATUS n.val) 4 = true →
      exec (.pauseEnd n) s =
        .next ((s.setPort n.val { s.port n.val with pauseBits := 0 }).setFlag (Reg.PRT_STATUS n.val) 4 false)) ∧
  (∀ (s : State) (n : Fin 16) (f : Frame) (rest : List Frame), (s.port n.val).received = f :: rest →
      s.xqRuns n.val = true → s.pdUp PD_FABRIC = true → s.flag Reg.CLS_CTRL 0 = false →
      exec (.classify n) s =
        .next ((s.setPort n.val { s.port n.val with received := rest }).bump Reg.CLS_DISABLED 0 32)) ∧
  (∀ (s : State) (n : Fin 16) (f : Frame) (rest : List Frame), (s.port n.val).received = f :: rest →
      s.xqRuns n.val = true → s.pdUp PD_FABRIC = true → s.flag Reg.CLS_CTRL 0 = true → s.gys.pendSwitch = none →
      s.classify f.bytes ≠ 14 → s.flag (Reg.CLS_DISP (s.classify f.bytes)) 31 = true →
      s.fld (Reg.CLS_DISP (s.classify f.bytes)) 29 2 = 1 →
      ∃ t g, exec (.classify n) s = .next t ∧ (t.port n.val).received = rest ∧
        t.net.toHost = s.net.toHost ++ [⟨s.fld (Reg.CLS_DISP (s.classify f.bytes)) 19 5, g, none⟩] ∧
        g.bytes = f.bytes ∧ g.stamp = f.stamp ∧ g.info.code = s.classify f.bytes ∧ t = { s with net := t.net }) ∧
  (∀ (s : State) (n : Fin 16) (c : CaptureRecord) (rest : List CaptureRecord), (s.port n.val).captures = c :: rest →
      s.gys.pendSwitch = none → s.flag (Reg.CLS_DISP 63) 31 = true → s.fld (Reg.CLS_DISP 63) 29 2 = 0 →
      s.takesCapture (c.tag / 2 ^ 10 % 64) = true →
      ∃ t r, exec (.captureRecordDeliver n) s = .next t ∧ (t.port n.val).captures = rest ∧
        t.net.toArray = s.net.toArray ++ [r] ∧ r.kind = .capture ∧ r.tile = c.tag / 2 ^ 10 % 64 ∧ r.stamp = c.stamp ∧
        r.code = 63 ∧ r.tag = c.tag ∧ r.entry = s.fld (Reg.CLS_DISP 63) 0 19 ∧ t = { s with net := t.net })

/-- The oldest frame of an egress queue, on a port whose link is up and that does not pause: without marks it leaves
unchanged and is counted; with MARK_EN and a valid mark it leaves with the egress stamp inserted and the checksum
adjusted; an array frame at a closed gate is discarded and counted. A frame that has waited longer than TXAGE is
discarded and counted, also at the commit point. (03_ports_and_stamping.md) -/
def Obligations.FrameTransmission : Prop :=
  (∀ (s : State) (n : Fin 16) (f : Frame) (rest : List Frame) (phase : Nat), (s.port n.val).egress = f :: rest →
      s.xqRuns (16 + n.val) = true → s.flag (Reg.PRT_STATUS n.val) 4 = false → s.flag (Reg.PRT_STATUS n.val) 0 = true →
      s.flag (Reg.PRT_CAL_CTRL n.val) 0 = false → f.job = none → f.poison = [] → s.gateBlocks n.val f = false →
      s.aged n.val f = false → f.mark.enabled = false → f.mark.capture = false → s.suspect (replicaPort n.val) = false →
      ∃ t, exec (.frameTxCommit n phase) s = .next t ∧ t.net.wire = s.net.wire ++ [(n.val, f.bytes)] ∧
        (t.port n.val).egress = rest ∧ s.keepsRegs t [Reg.PRT_CNT_TX n.val] ∧
        t = { s with regs := t.regs, net := { s.net with ports := t.net.ports, wire := t.net.wire } }) ∧
  (∀ (s : State) (n : Fin 16) (f : Frame) (rest : List Frame) (phase : Nat), (s.port n.val).egress = f :: rest →
      s.xqRuns (16 + n.val) = true → s.flag (Reg.PRT_STATUS n.val) 4 = false → s.flag (Reg.PRT_STATUS n.val) 0 = true →
      s.flag (Reg.PRT_CAL_CTRL n.val) 0 = false → f.job = none → f.poison = [] → s.gateBlocks n.val f = false →
      s.aged n.val f = false → f.mark.enabled = true → f.mark.capture = false →
      markInvalid f.mark f.bytes.length = false → s.suspect (replicaPort n.val) = false →
      ∃ t, exec (.frameTxCommit n phase) s = .next t ∧
        t.net.wire = s.net.wire ++ [(n.val, adjustChecksum f.mark f.bytes
          (insertStamp s.cal.utc f.mark (s.egressStamp n.val phase) f.bytes))] ∧
        (t.port n.val).egress = rest ∧ s.keepsRegs t [Reg.PRT_CNT_TX n.val] ∧ t = { s with regs := t.regs, net := t.net }) ∧
  (∀ (s : State) (n : Fin 16) (f : Frame) (rest : List Frame) (phase : Nat), (s.port n.val).egress = f :: rest →
      s.xqRuns (16 + n.val) = true → s.flag (Reg.PRT_STATUS n.val) 4 = false → s.flag (Reg.PRT_STATUS n.val) 0 = true →
      s.flag (Reg.PRT_CAL_CTRL n.val) 0 = false → f.job = none → f.origin = .array → s.gateOpen n.val = false →
      exec (.frameTxCommit n phase) s =
        .next ((s.setPort n.val { s.port n.val with egress := rest }).bump (Reg.PRT_CNT_TXDROP n.val) 0 32)) ∧
  (∀ (s : State) (n : Fin 16) (f : Frame) (rest : List Frame), (s.port n.val).egress = f :: rest → f.job = none →
      ((s.fld (Reg.PRT_TXCTL n.val) 0 10 * 1000 * 2 ^ 16 : Nat) : Int) < (ct96ToFrac s.now : Int) - ct96ToFrac f.queued →
      exec (.txageExpire n) s =
        .next ((s.setPort n.val { s.port n.val with egress := rest }).bump (Reg.PRT_CNT_TXDROP n.val) 0 32)) ∧
  (∀ (s : State) (n : Fin 16) (f : Frame) (rest : List Frame) (phase : Nat), (s.port n.val).egress = f :: rest → f.job = none →
      s.xqRuns (16 + n.val) = true → s.flag (Reg.PRT_STATUS n.val) 4 = false → s.flag (Reg.PRT_STATUS n.val) 0 = true →
      s.flag (Reg.PRT_CAL_CTRL n.val) 0 = false → s.aged n.val f = true →
      exec (.frameTxCommit n phase) s =
        .next ((s.setPort n.val { s.port n.val with egress := rest }).bump (Reg.PRT_CNT_TXDROP n.val) 0 32))

/-- CALPAT or LOOPCAL, alone and with the other bit 0, is accepted in STAGED, MEASURE and SAFE and refused in any other
mode. Each rising edge of the pattern latches its egress stamp and counts CNT; each calibration frame, outside a
pause, is sent to the port's own address and its stamp held; a read of PRT_CAL_TX_W0 latches W1 and W2 of the edge
stamp. (03_ports_and_stamping.md) -/
def Obligations.PortCalibration : Prop :=
  (∀ (s : State) (ag : Agent) (n : Fin 16) (v : Word), s.opens ag (Reg.PRT_CAL_CTRL n.val) → bitAt v 0 = true →
      bitAt v 1 = false → s.flag (Reg.PRT_CAL_CTRL n.val) 1 = false →
      (s.mode = modeStaged ∨ s.mode = modeMeasure ∨ s.mode = modeSafe) →
      ∃ t, exec (.calCtrlWrite ag n v) s = .next t ∧ t.flag (Reg.PRT_CAL_CTRL n.val) 0 = true ∧
        t.flag (Reg.PRT_STATUS n.val) 5 = false ∧ t.fld (Reg.PRT_STATUS n.val) 0 3 = 0 ∧
        s.keepsRegs t [Reg.PRT_CAL_CTRL n.val, Reg.PRT_STATUS n.val, Reg.PRT_STICKY n.val] ∧
        t = { s with regs := t.regs, raised := t.raised }) ∧
  (∀ (s : State) (ag : Agent) (n : Fin 16) (v : Word), s.opens ag (Reg.PRT_CAL_CTRL n.val) →
      (bitAt v 0 = true ∨ bitAt v 1 = true) → s.mode ≠ modeStaged → s.mode ≠ modeMeasure → s.mode ≠ modeSafe →
      exec (.calCtrlWrite ag n v) s = .next (s.setFlag (Reg.PRT_STATUS n.val) 5 true)) ∧
  (∀ (s : State) (n : Fin 16) (phase : Nat), s.flag (Reg.PRT_CAL_CTRL n.val) 0 = true → s.portEnabled n.val = true →
      s.suspect (replicaPort n.val) = false →
      ∃ t, exec (.calpatEdge n phase) s = .next t ∧
        t.port n.val = { s.port n.val with fresh := (s.port n.val).fresh + 1, calTx := s.egressStamp n.val phase } ∧
        t.fld (Reg.PRT_CAL_CTRL n.val) 16 16 = (s.fld (Reg.PRT_CAL_CTRL n.val) 16 16 + 1) % 2 ^ 16 ∧
        s.keepsRegs t [Reg.PRT_CAL_CTRL n.val] ∧ t = { s with regs := t.regs, net := { s.net with ports := t.net.ports } }) ∧
  (∀ (s : State) (n : Fin 16) (phase : Nat), s.flag (Reg.PRT_CAL_CTRL n.val) 1 = true →
      s.flag (Reg.PRT_STATUS n.val) 0 = true → s.flag (Reg.PRT_STATUS n.val) 4 = false →
      s.suspect (replicaPort n.val) = false →
      ∃ t, exec (.loopcalFrameTx n phase) s = .next t ∧
        t.port n.val = { s.port n.val with
          fresh := (s.port n.val).fresh + 1, calSent := some (s.egressStamp n.val phase) } ∧
        t.net.wire = s.net.wire ++ [(n.val,
          beBytes 6 (s.portMac n.val) ++ beBytes 6 (s.portMac n.val) ++ beBytes 2 0x88B5 ++ List.replicate 46 0)] ∧
        s.keepsRegs t [Reg.PRT_CNT_TX n.val] ∧
        t = { s with regs := t.regs, net := { s.net with ports := t.net.ports, wire := t.net.wire } }) ∧
  (∀ (s : State) (ag : Agent) (n : Fin 16), s.opens ag (Reg.PRT_CAL_TX_W0 n.val) →
      exec (.calTxRead ag n 0) s =
        .next ((s.wr96 (Reg.PRT_CAL_TX_W0 n.val) (s.port n.val).calTx).complete (.data (word96 (s.port n.val).calTx 0)))) ∧
  (∀ (s : State) (ag : Agent) (n : Fin 16) (w : Fin 3), w ≠ 0 → s.opens ag (Reg.PRT_CAL_TX_W0 n.val + 4 * w.val) →
      exec (.calTxRead ag n w) s = .next (s.complete (.data (s.rd (Reg.PRT_CAL_TX_W0 n.val + 4 * w.val)))))

/-- An instruction ADD, SUB, AND, OR, XOR, SHL, SHR, SAR, ROL, SLT, SLTU, MINU, MAXU, MUL or MULHU that issues on a tile
context or a service core writes its result to rd (g0 discards it), ADD and SUB write CY (carry or borrow) and OV
(signed overflow), the PC moves to the next word and the instruction is counted; nothing else of the machine
changes. (04_walzor_instruction_set.md) -/
def Obligations.RegisterArithmetic : Prop :=
  ∀ (s : State) (x : Ctx),
  let w := s.fetch x
  let t := s.th x
  let rd := fRd w
  let a := s.g x (fRa w)
  let b := s.g x (fRb w)
  (s.issues x encAdd readsAB = true →
      exec (.add x) s = .next (s.ranOn x { t.setReg rd (a + b) with
        cy := decide (2 ^ 64 ≤ a.toNat + b.toNat), ov := decide (a.toInt + b.toInt ≠ (a + b).toInt) })) ∧
  (s.issues x encSub readsAB = true →
      exec (.sub x) s = .next (s.ranOn x { t.setReg rd (a - b) with
        cy := decide (a.toNat < b.toNat), ov := decide (a.toInt - b.toInt ≠ (a - b).toInt) })) ∧
  (s.issues x encAnd readsAB = true → exec (.andReg x) s = .next (s.ranOn x (t.setReg rd (a &&& b)))) ∧
  (s.issues x encOr readsAB = true → exec (.orReg x) s = .next (s.ranOn x (t.setReg rd (a ||| b)))) ∧
  (s.issues x encXor readsAB = true → exec (.xorReg x) s = .next (s.ranOn x (t.setReg rd (a ^^^ b)))) ∧
  (s.issues x encShl readsAB = true → exec (.shl x) s = .next (s.ranOn x (t.setReg rd (a <<< (b.toNat % 64))))) ∧
  (s.issues x encShr readsAB = true → exec (.shr x) s = .next (s.ranOn x (t.setReg rd (a >>> (b.toNat % 64))))) ∧
  (s.issues x encSar readsAB = true → exec (.sar x) s = .next (s.ranOn x (t.setReg rd (a.sshiftRight (b.toNat % 64))))) ∧
  (s.issues x encRol readsAB = true → exec (.rol x) s = .next (s.ranOn x (t.setReg rd (a.rotateLeft (b.toNat % 64))))) ∧
  (s.issues x encSlt readsAB = true → exec (.slt x) s = .next (s.ranOn x (t.setReg rd (if a.toInt < b.toInt then 1 else 0)))) ∧
  (s.issues x encSltu readsAB = true → exec (.sltu x) s = .next (s.ranOn x (t.setReg rd (if a.toNat < b.toNat then 1 else 0)))) ∧
  (s.issues x encMinu readsAB = true → exec (.minu x) s = .next (s.ranOn x (t.setReg rd (if a.toNat ≤ b.toNat then a else b)))) ∧
  (s.issues x encMaxu readsAB = true → exec (.maxu x) s = .next (s.ranOn x (t.setReg rd (if a.toNat ≤ b.toNat then b else a)))) ∧
  (s.issues x encMul readsAB = true → exec (.mul x) s = .next (s.ranOn x (t.setReg rd (BitVec.ofNat 64 (a.toNat * b.toNat))))) ∧
  (s.issues x encMulhu readsAB = true → exec (.mulhu x) s = .next (s.ranOn x (t.setReg rd (BitVec.ofNat 64 (a.toNat * b.toNat / 2 ^ 64)))))

/-- CLZ gives the number of leading zeros, 64 for 0; POPC the number of 1 bits; BSWAP the bytes in reverse order; EXT
the field of width rb[13:8] (0 means 64) at bit rb[5:0]; CRC the reflected Castagnoli shift register after the 64
bits of rb, least significant first, from the seed ra[31:0] with no inversion, its upper half zero. Each writes rd
and nothing else. (04_walzor_instruction_set.md) -/
def Obligations.BitFieldAndCrc : Prop :=
  ∀ (s : State) (x : Ctx),
  let w := s.fetch x
  let t := s.th x
  let a := s.g x (fRa w)
  let b := s.g x (fRb w)
  (s.issues x encClz readsAB = true →
      ∃ v : Word64, exec (.clz x) s = .next (s.ranOn x (t.setReg (fRd w) v)) ∧ v.toNat ≤ 64 ∧
        a.toNat < 2 ^ (64 - v.toNat) ∧ (v.toNat < 64 → 2 ^ (63 - v.toNat) ≤ a.toNat)) ∧
  (s.issues x encPopc readsAB = true →
      exec (.popc x) s = .next (s.ranOn x (t.setReg (fRd w)
        (BitVec.ofNat 64 (((List.range 64).map fun i => a.toNat / 2 ^ i % 2).sum))))) ∧
  (s.issues x encBswap readsAB = true →
      ∃ v : Word64, exec (.bswap x) s = .next (s.ranOn x (t.setReg (fRd w) v)) ∧
        ∀ i < 64, v.getLsbD i = a.getLsbD (56 - i / 8 * 8 + i % 8)) ∧
  (s.issues x encExt readsAB = true →
      ∃ v : Word64, exec (.extField x) s = .next (s.ranOn x (t.setReg (fRd w) v)) ∧
        ∀ i < 64, v.getLsbD i = ((decide (b.toNat / 2 ^ 8 % 64 = 0) || decide (i < b.toNat / 2 ^ 8 % 64)) &&
          a.getLsbD (b.toNat % 64 + i))) ∧
  (s.issues x encCrc readsAB = true →
      exec (.crc x) s = .next (s.ranOn x (t.setReg (fRd w)
        (((List.range 64).foldl (fun (c : Word) i =>
          if c.getLsbD 0 != b.getLsbD i then (c >>> 1) ^^^ 0x82F63B78#32 else c >>> 1) (a.setWidth 32)).setWidth 64))))

/-- ADDI, SLTI, SLTIU and MOVI extend IMM16 with its sign, ANDI, ORI and XORI with zeros; the shifts use IMM16[5:0];
MOVK replaces one quarter of rd. ADDI writes CY and OV. Each writes rd (g0 discards it), moves to the next word, and
changes nothing else. (04_walzor_instruction_set.md) -/
def Obligations.ImmediateArithmetic : Prop :=
  ∀ (s : State) (x : Ctx),
  let w := s.fetch x
  let t := s.th x
  let rd := fRd w
  let a := s.g x (fRa w)
  let i : Int := if bitsAt w 0 16 < 2 ^ 15 then (bitsAt w 0 16 : Int) else (bitsAt w 0 16 : Int) - 2 ^ 16
  (s.issues x encAddi readsA = true →
      exec (.addi x) s = .next (s.ranOn x { t.setReg rd (a + BitVec.ofInt 64 i) with
        cy := decide (2 ^ 64 ≤ a.toNat + (BitVec.ofInt 64 i).toNat), ov := decide (a.toInt + i ≠ (a + BitVec.ofInt 64 i).toInt) })) ∧
  (s.issues x encAndi readsA = true → exec (.andi x) s = .next (s.ranOn x (t.setReg rd (a &&& BitVec.ofNat 64 (bitsAt w 0 16))))) ∧
  (s.issues x encOri readsA = true → exec (.ori x) s = .next (s.ranOn x (t.setReg rd (a ||| BitVec.ofNat 64 (bitsAt w 0 16))))) ∧
  (s.issues x encXori readsA = true → exec (.xori x) s = .next (s.ranOn x (t.setReg rd (a ^^^ BitVec.ofNat 64 (bitsAt w 0 16))))) ∧
  (s.issues x encShli readsA = true → exec (.shli x) s = .next (s.ranOn x (t.setReg rd (a <<< bitsAt w 0 6)))) ∧
  (s.issues x encShri readsA = true → exec (.shri x) s = .next (s.ranOn x (t.setReg rd (a >>> bitsAt w 0 6)))) ∧
  (s.issues x encSari readsA = true → exec (.sari x) s = .next (s.ranOn x (t.setReg rd (a.sshiftRight (bitsAt w 0 6))))) ∧
  (s.issues x encSlti readsA = true → exec (.slti x) s = .next (s.ranOn x (t.setReg rd (if a.toInt < i then 1 else 0)))) ∧
  (s.issues x encSltiu readsA = true → exec (.sltiu x) s = .next (s.ranOn x (t.setReg rd (if a.toNat < (BitVec.ofInt 64 i).toNat then 1 else 0)))) ∧
  (s.issues x encMovi noReads = true → exec (.movi x) s = .next (s.ranOn x (t.setReg rd (BitVec.ofInt 64 i)))) ∧
  (s.issues x encMovk readsD = true →
      ∃ v : Word64, exec (.movk x) s = .next (s.ranOn x (t.setReg rd v)) ∧
        ∀ j < 64, v.getLsbD j = if j / 16 = fRa w % 4 then w.getLsbD (j % 16) else (s.g x rd).getLsbD j)

/-- A conditional branch whose test holds moves the PC to PC + sext(OFF13), one whose test does not hold to the next
word; BFS and BFC test a flag of F. JAL and JALR write PC + 1 to rd (g0 discards it); the target of JALR is read
before rd is written. Nothing else changes. A taken target outside 0 to 524,287, or 65,535 on a service core, raises
I_RANGE with nothing of the instruction done. (04_walzor_instruction_set.md) -/
def Obligations.BranchesAndJumps : Prop :=
  ∀ (s : State) (x : Ctx),
  let w := s.fetch x
  let t := s.th x
  let a := s.g x (fCa w)
  let b := s.g x (fCb w)
  let p : Int := t.pc + fOff13 w
  let inI : Int → Prop := fun q => 0 ≤ q ∧ q < (if isTile x then 524288 else 65536)
  (s.issues x encBeq readsC = true → (a = b → inI p) →
      exec (.beq x) s = .next (if a = b then s.ran x p.toNat t else s.ranOn x t)) ∧
  (s.issues x encBne readsC = true → (a ≠ b → inI p) →
      exec (.bneBranch x) s = .next (if a ≠ b then s.ran x p.toNat t else s.ranOn x t)) ∧
  (s.issues x encBlt readsC = true → (a.toInt < b.toInt → inI p) →
      exec (.blt x) s = .next (if a.toInt < b.toInt then s.ran x p.toNat t else s.ranOn x t)) ∧
  (s.issues x encBge readsC = true → (b.toInt ≤ a.toInt → inI p) →
      exec (.bge x) s = .next (if b.toInt ≤ a.toInt then s.ran x p.toNat t else s.ranOn x t)) ∧
  (s.issues x encBltu readsC = true → (a.toNat < b.toNat → inI p) →
      exec (.bltu x) s = .next (if a.toNat < b.toNat then s.ran x p.toNat t else s.ranOn x t)) ∧
  (s.issues x encBgeu readsC = true → (b.toNat ≤ a.toNat → inI p) →
      exec (.bgeu x) s = .next (if b.toNat ≤ a.toNat then s.ran x p.toNat t else s.ranOn x t)) ∧
  (s.issues x encBfs ⟨fun _ => [], fun w => fCb w == 3, false⟩ = true → (t.flag (fCb w) = true → inI p) →
      exec (.bfs x) s = .next (if t.flag (fCb w) = true then s.ran x p.toNat t else s.ranOn x t)) ∧
  (s.issues x encBfc ⟨fun _ => [], fun w => fCb w == 3, false⟩ = true → (t.flag (fCb w) = false → inI p) →
      exec (.bfc x) s = .next (if t.flag (fCb w) = false then s.ran x p.toNat t else s.ranOn x t)) ∧
  (s.issues x encJal noReads = true → inI (t.pc + fOff21 w) →
      exec (.jal x) s = .next (s.ran x (t.pc + fOff21 w).toNat (t.setReg (fRd w) (BitVec.ofNat 64 (t.pc + 1))))) ∧
  (s.issues x encJalr readsA = true → inI (s.g x (fRa w) + sext16 w).toNat →
      exec (.jalr x) s = .next (s.ran x (s.g x (fRa w) + sext16 w).toNat (t.setReg (fRd w) (BitVec.ofNat 64 (t.pc + 1))))) ∧
  (s.issues x encBeq readsC = true → s.trapWaits x = false → a = b → ¬ inI p → exec (.beq x) s = .next (s.faultAt x fltIRange 0 0)) ∧
  (s.issues x encJal noReads = true → s.trapWaits x = false → ¬ inI (t.pc + fOff21 w) → exec (.jal x) s = .next (s.faultAt x fltIRange 0 0)) ∧
  (s.issues x encJalr readsA = true → s.trapWaits x = false → ¬ inI (s.g x (fRa w) + sext16 w).toNat →
      exec (.jalr x) s = .next (s.faultAt x fltIRange 0 0))

/-- A tile context's LDL and LDLS read the SZ bytes of its L at ra + sext(OFF14), least significant first; LDP and LDPS
those of its frame, most significant first; STL and STP write the low bytes of the RD register there; TLDL and TSTL
move a time register as 12 bytes. A load changes rd alone; a store changes the bytes of L or of the frame alone. A
service core's LDL and STL reach its SRAM through a region. A misaligned L address raises ALIGN, and TLDL of an
invalid NS raises T_FMT. (04_walzor_instruction_set.md) -/
def Obligations.LoadsAndStores : Prop :=
  (∀ (s : State) (p : Fin 72) (c : Fin 48),
    let x : Ctx := .tile p c
    let w := s.fetch x
    let a := s.formE x w
    let n := fSize w
    let y := s.ctx p.val c.val
    let v := ofLeBytes (memReadBytes s.gys.l (lAddr p.val a) n)
    (s.issues x encLdl readsA = true → a % n = 0 → s.lPermits y c.val a n false = true →
      s.poisoned memL (lAddr p.val a) n = none →
      exec (.ldl x) s = .next (s.ranOn x ((s.th x).setReg (fRd w) (BitVec.ofNat 64 v)))) ∧
    (s.issues x encLdls readsA = true → a % n = 0 → s.lPermits y c.val a n false = true →
      s.poisoned memL (lAddr p.val a) n = none →
      exec (.ldls x) s = .next (s.ranOn x ((s.th x).setReg (fRd w)
        (BitVec.ofInt 64 (if v < 2 ^ (8 * n - 1) then (v : Int) else (v : Int) - 2 ^ (8 * n)))))) ∧
    (s.issues x encLdl readsA = true → a % n ≠ 0 → exec (.ldl x) s = .next (s.faultAt x fltAlign 0 a)) ∧
    (s.issues x encLdl readsA = true → a % n = 0 → s.lPermits y c.val a n false = false →
      exec (.ldl x) s = .next (s.faultAt x fltLRange 0 a)) ∧
    (s.issues x encStl readsDA = true → a % n = 0 → s.lPermits y c.val a n true = true →
      s.partlyPoisoned memL (lAddr p.val a) n = none →
      ∃ l' marks, exec (.stl x) s = .next (State.ranOn { s with
          gys := { s.gys with l := l' }, rel := { s.rel with poison := marks }, cry := (s.spoil p.val none [(a, n)]).cry }
          x (s.th x)) ∧
        memReadBytes l' (lAddr p.val a) n = leBytes n (s.g x (fRd w)).toNat ∧
        (∀ b, b < lAddr p.val a ∨ lAddr p.val a + n ≤ b → memRead l' b = memRead s.gys.l b) ∧
        (∀ m ∈ marks, m ∈ s.rel.poison)) ∧
    (s.issues x encTldl readsA = true → a % 4 = 0 → s.lPermits y c.val a 12 false = true →
      s.poisoned memL (lAddr p.val a) 12 = none →
      ct96Valid (BitVec.ofNat 96 (ofLeBytes (memReadBytes s.gys.l (lAddr p.val a) 12))) = true →
      exec (.tldl x) s = .next (s.ranOn x ((s.th x).setTime (fRd w)
        (BitVec.ofNat 96 (ofLeBytes (memReadBytes s.gys.l (lAddr p.val a) 12)))))) ∧
    (s.issues x encTldl readsA = true → a % 4 = 0 → s.lPermits y c.val a 12 false = true →
      s.poisoned memL (lAddr p.val a) 12 = none →
      ct96Valid (BitVec.ofNat 96 (ofLeBytes (memReadBytes s.gys.l (lAddr p.val a) 12))) = false →
      exec (.tldl x) s = .next (s.faultAt x fltTFmt 0 0)) ∧
    (s.issues x encTstl readsA = true → a % 4 = 0 → s.lPermits y c.val a 12 true = true →
      s.partlyPoisoned memL (lAddr p.val a) 12 = none →
      ∃ l' marks, exec (.tstl x) s = .next (State.ranOn { s with
          gys := { s.gys with l := l' }, rel := { s.rel with poison := marks }, cry := (s.spoil p.val none [(a, 12)]).cry }
          x (s.th x)) ∧
        memReadBytes l' (lAddr p.val a) 12 = leBytes 12 (s.t x (fRd w)).toNat ∧
        (∀ b, b < lAddr p.val a ∨ lAddr p.val a + 12 ≤ b → memRead l' b = memRead s.gys.l b) ∧
        (∀ m ∈ marks, m ∈ s.rel.poison)) ∧
    (∀ f, y.frame = some f → a + n ≤ f.bytes.length → y.missingCell a n = none →
      (s.issues x encLdp readsA = true → f.poisonedAt a n false = false →
        exec (.ldp x) s = .next (s.ranOn x ((s.th x).setReg (fRd w)
          (BitVec.ofNat 64 (ofBeBytes ((f.bytes.drop a).take n)))))) ∧
      (s.issues x encLdps readsA = true → f.poisonedAt a n false = false →
        exec (.ldps x) s = .next (s.ranOn x ((s.th x).setReg (fRd w)
          (BitVec.ofInt 64 (signed (8 * n) (ofBeBytes ((f.bytes.drop a).take n))))))) ∧
      (s.issues x encStp readsDA = true → f.poisonedAt a n true = false →
        ∃ t g, exec (.stp x) s = .next t ∧
          t = (s.spoil p.val (some c.val) [(a, n)]).setCtx p.val c.val { y with frame := some g, th := { y.th with
            pc := nextPc y.th.pc, executed := y.th.executed + 1 } } ∧
          g.bytes = f.bytes.take a ++ beBytes n (s.g x (fRd w)).toNat ++ f.bytes.drop (a + n) ∧
          g = { f with bytes := g.bytes, poison := g.poison }))) ∧
  (∀ (s : State) (k : Fin 8) (q b : Nat),
    let x : Ctx := .core k
    let w := s.fetch x
    let a := s.formE x w
    let n := fSize w
    (s.issues x encLdl readsA = true → a % n = 0 → (s.core k.val).translate a n false = some q →
      fabricPlace k.val q = .sram b → s.poisoned memCore b n = none →
      exec (.ldl x) s = .next (s.ranOn x ((s.th x).setReg (fRd w)
        (BitVec.ofNat 64 (ofLeBytes (memReadBytes s.cores.sram b n)))))) ∧
    (s.issues x encStl readsDA = true → a % n = 0 → (s.core k.val).translate a n true = some q →
      fabricPlace k.val q = .sram b → s.partlyPoisoned memCore b n = none → (s.core k.val).inReset = false →
      ∃ m' marks, exec (.stl x) s = .next (State.ranOn
          { s with cores := { s.cores with sram := m' }, rel := { s.rel with poison := marks } } x (s.th x)) ∧
        memReadBytes m' b n = leBytes n (s.g x (fRd w)).toNat ∧
        (∀ i, i < b ∨ b + n ≤ i → memRead m' i = memRead s.cores.sram i) ∧ (∀ m ∈ marks, m ∈ s.rel.poison)))

/-- TNOW reads the replica at most 2.5 ns behind; TINGR the stamp of the start, with SUS as the stamp is marked; TMOV
copies; TADD adds modulo 2^48 s with OV outside that range; TSUB subtracts, saturating with OV; TSET builds a time
or raises T_FMT; TGSEC, TGNS, TCF, TNTP and TUTC convert. TWAIT suspends the context on a comparator at its target;
at or after the target it completes with no register written, newest of its class. A write of the frame spoils a
crypto job under way that names the bytes (R195). Each changes its destination, the flags named, the PC and the
count, and nothing else. (04_walzor_instruction_set.md, 02_device_time.md) -/
def Obligations.TimeInstructions : Prop :=
  ∀ (s : State) (x : Ctx),
  let w := s.fetch x
  let t := s.th x
  let ta := s.t x (fRa w)
  let range : Int := 2 ^ 48 * (10 ^ 9 * 2 ^ 16)
  (∀ lag, s.issues x encTnow noReads = true → lag ≤ 163840 →
      ∃ v, exec (.tnow x lag) s = .next (s.ranOn x (t.setTime (fRd w) v)) ∧ ct96Valid v = true ∧
        (ct96ToFrac v : Int) = (((s.replica (replicaOf x)).count / 2 ^ 16 : Nat) - (lag : Int)) % range) ∧
  (∀ p c, x = .tile p c → s.issues x encTingr noReads = true →
      exec (.tingr x) s = .next (s.ranOn x { t.setTime (fRd w) (s.ctx p.val c.val).stamp.time with
        sus := s.marked (s.ctx p.val c.val).stamp })) ∧
  (s.issues x encTmov noReads = true → exec (.tmov x) s = .next (s.ranOn x (t.setTime (fRd w) ta))) ∧
  (s.issues x encTadd readsB = true →
      let q : Int := ct96ToFrac ta + (s.g x (fRb w)).toInt
      ∃ v, exec (.tadd x) s = .next (s.ranOn x { t.setTime (fRd w) v with ov := decide (q < 0 ∨ range ≤ q) }) ∧
        ct96Valid v = true ∧ (ct96ToFrac v : Int) = q % range) ∧
  (s.issues x encTsub noReads = true →
      let d : Int := ct96ToFrac ta - ct96ToFrac (s.t x (fRb w))
      ∃ v : Word64, exec (.tsub x) s = .next (s.ranOn x { t.setReg (fRd w) v with
          ov := decide (d < -(2 ^ 63) ∨ (2 ^ 63 : Int) ≤ d) }) ∧
        v.toInt = max (-(2 ^ 63)) (min (2 ^ 63 - 1) d)) ∧
  (s.issues x encTset readsAB = true → (s.g x (fRb w)).toNat / 2 ^ 16 % 2 ^ 32 < 10 ^ 9 →
      ∃ v, exec (.tset x) s = .next (s.ranOn x (t.setTime (fRd w) v)) ∧
        ct96Sec v = (s.g x (fRa w)).toNat % 2 ^ 48 ∧ ct96Ns v = (s.g x (fRb w)).toNat / 2 ^ 16 % 2 ^ 32 ∧
        ct96Frac v = (s.g x (fRb w)).toNat % 2 ^ 16) ∧
  (s.issues x encTset readsAB = true → s.trapWaits x = false → 10 ^ 9 ≤ (s.g x (fRb w)).toNat / 2 ^ 16 % 2 ^ 32 →
      exec (.tset x) s = .next (s.faultAt x fltTFmt 0 0)) ∧
  (s.issues x encTgsec noReads = true →
      exec (.tgsec x) s = .next (s.ranOn x (t.setReg (fRd w) (BitVec.ofNat 64 (ct96Sec ta))))) ∧
  (s.issues x encTgns noReads = true →
      exec (.tgns x) s = .next (s.ranOn x (t.setReg (fRd w) (BitVec.ofNat 64 (ct96Ns ta * 2 ^ 16 + ct96Frac ta))))) ∧
  (s.issues x encTcf noReads = true → exec (.tcf x) s = .next (s.ranOn x (t.setReg (fRd w) (cf64OfCt96 ta)))) ∧
  (s.issues x encTntp noReads = true →
      exec (.tntp x) s = .next (s.ranOn x (t.setReg (fRd w) (BitVec.ofNat 64 (ntpOf (s.cal.utc.formatted ta)))))) ∧
  (s.issues x encTutc noReads = true →
      ∃ v : Word64, exec (.tutc x) s = .next (s.ranOn x (t.setReg (fRd w) v)) ∧
        (v.toNat % 2 ^ 48 : Int) = s.cal.utc.seconds (ct96Sec ta) % 2 ^ 48 ∧
        v.toNat / 2 ^ 48 % 4 = s.cal.utc.leapPend (ct96Sec ta) ∧
        v.getLsbD 50 = s.cal.utc.expired (ct96Sec ta) ∧ v.getLsbD 51 = (s.cal.utc.smearAmount ta != 0) ∧
        v.toNat / 2 ^ 52 % 16 = 0 ∧
        (v.toNat / 2 ^ 56 : Int) = (s.cal.utc.seconds (ct96Sec ta) + 2208988800).fdiv (2 ^ 32) % 256) ∧
  (s.issues x encTwait longA = true →
      exec (.twait x) s = .next ((s.arm (waitOwner x) (s.g x (fRa w))).ranOn x
        { t with op := some ⟨.twait, none, t.pc⟩, status := .waiting })) ∧
  (∀ k n, t.op = some ⟨.twait, none, n⟩ → t.status = .waiting → s.comparator (waitOwner x) = some k →
      (k.fired = true ∨ cf64Reached (cf64OfCt96 (ct96OfCount (s.replica (replicaOf x)).count)) k.target = true) →
      exec (.twaitComplete x) s = .next (((s.disarm (waitOwner x)).setTh x
        { t with op := none, status := .ready, stores := t.stores.map fun p => { p with late := false } }).makeNewest x)) ∧
  (∀ p c f, x = .tile p c → s.issues x encTstp readsA = true → (s.ctx p.val c.val).frame = some f →
      let a := (s.g x (fRa w)).toNat
      let bs := if fImm6 w = 0 then beBytes 8 (ntpOf (s.cal.utc.formatted (s.t x (fRb w))))
        else if fImm6 w = 1 then beBytes 6 (ct96Sec (s.t x (fRb w))) ++ beBytes 4 (ct96Ns (s.t x (fRb w)))
        else beBytes 12 (s.t x (fRb w)).toNat
      a + bs.length ≤ f.bytes.length → (s.ctx p.val c.val).missingCell a bs.length = none →
      f.poisonedAt a bs.length true = false →
      ∃ g, exec (.tstp x) s = .next (((s.spoil p.val (some c.val) [(a, bs.length)]).setFrame x g).ranOn x t) ∧
        g.bytes = f.bytes.take a ++ bs ++ f.bytes.drop (a + bs.length) ∧ g = { f with bytes := g.bytes, poison := g.poison })

/-- In a context with a frame: FINFO gives the item of R114; FLEN cuts or grows the frame with zeros, or sets RES where
cells lack; FMARK and FUNMARK set and clear the insertion; FPORT chooses the egress port; FSWAP exchanges the
selected fields; FCPYP and FCPYL copy (IMM6 + 1) × 8 bytes between L and P. A value outside the range raises ARG. A
cell that arrives lets the context go on. Only the frame, the stored bytes of L, rd, RES, the PC and the count
change, and the marks of crypto jobs under way that name bytes written (R195). (04_walzor_instruction_set.md) -/
def Obligations.FrameInstructions : Prop :=
  ∀ (s : State) (p : Fin 72) (c : Fin 48) (f : Frame), (s.ctx p.val c.val).frame = some f →
  let x : Ctx := .tile p c
  let w := s.fetch x
  let t := s.th x
  let y := s.ctx p.val c.val
  let a := (s.g x (fRa w)).toNat
  let b := (s.g x (fRb w)).toNat
  let n := (fImm6 w + 1) * 8
  let sp := fun (s : State) (ws : List (Nat × Nat)) => s.spoil p.val (some c.val) ws
  (s.issues x encFinfo noReads = true →
      ∃ v, exec (.finfo x) s = .next (s.ranOn x (t.setReg (fRd w) (BitVec.ofNat 64 v))) ∧
        (fImm6 w = 0 → v = f.bytes.length) ∧ (fImm6 w = 1 → v = f.port) ∧ (fImm6 w = 2 → v = y.code) ∧
        (fImm6 w = 3 → y.kind = .frame → v = f.info.entry) ∧ (fImm6 w = 4 → v = f.info.ipOff) ∧
        (fImm6 w = 5 → v = f.info.l4Off) ∧ (fImm6 w = 6 → v = f.info.udpOff) ∧ (fImm6 w = 7 → v = f.info.vlanTags) ∧
        (fImm6 w = 8 → v = f.info.ipVersion) ∧ (fImm6 w = 9 → y.kind ≠ .capture → v = 0) ∧ (fImm6 w = 10 → v = y.pclass)) ∧
  (s.issues x encFlen ⟨fun w => [fRa w], fun _ => true, false⟩ = true → 60 ≤ a → a ≤ 9212 →
      ((a + 255) / 256 ≤ (f.bytes.length + 255) / 256 ∨
        s.cellsFree ((a + 255) / 256 - (f.bytes.length + 255) / 256) = true) →
      ∃ g, exec (.flen x) s =
          .next (((sp s [(f.bytes.length, a - f.bytes.length)]).setFrame x g).ranOn x { t with res := false }) ∧
        g.bytes = f.bytes.take a ++ List.replicate (a - f.bytes.length) 0 ∧ g = { f with bytes := g.bytes, poison := g.poison }) ∧
  (s.issues x encFlen ⟨fun w => [fRa w], fun _ => true, false⟩ = true → 60 ≤ a → a ≤ 9212 →
      (f.bytes.length + 255) / 256 < (a + 255) / 256 →
      s.cellsFree ((a + 255) / 256 - (f.bytes.length + 255) / 256) = false → exec (.flen x) s = .next (s.ranOn x { t with res := true })) ∧
  (s.issues x encFlen ⟨fun w => [fRa w], fun _ => true, false⟩ = true → (a < 60 ∨ 9212 < a) →
      exec (.flen x) s = .next (s.faultAt x fltArg 0 0)) ∧
  (s.issues x encFmark readsAB = true → exec (.fmark x) s = .next ((s.setFrame x { f with mark :=
        { enabled := true, off := a % 2 ^ 14, fmt := fImm6 w % 8, cks := fImm6 w / 8 % 4, cksOff := a / 2 ^ 16 % 2 ^ 14,
          auxOff := a / 2 ^ 32 % 2 ^ 14, capture := (fImm6 w).testBit 5, tag := b % 2 ^ 16 } }).ranOn x t)) ∧
  (s.issues x encFunmark noReads = true →
      exec (.funmark x) s = .next ((s.setFrame x { f with mark := { f.mark with enabled := false, capture := false } }).ranOn
        x t)) ∧
  (s.issues x encFport readsA = true → a ≤ 15 → exec (.fport x) s = .next ((s.setFrame x { f with egress := a }).ranOn x t)) ∧
  (s.issues x encFport readsA = true → 15 < a → exec (.fport x) s = .next (s.faultAt x fltArg 0 0)) ∧
  (s.issues x encFswap noReads = true → fImm6 w = 1 → 12 ≤ f.bytes.length → y.missingCell 0 12 = none →
      f.poisonedAt 0 12 false = false →
      ∃ g, exec (.fswap x) s = .next (((sp s (swapReads [(0, 6, 6)])).setFrame x g).ranOn x t) ∧
        g.bytes = (f.bytes.drop 6).take 6 ++ f.bytes.take 6 ++ f.bytes.drop 12 ∧ g = { f with bytes := g.bytes, poison := g.poison }) ∧
  (∀ ps, s.issues x encFswap noReads = true → swapPairs f.info (fImm6 w) = some ps →
      (ps.map fun e => e.2.1 + e.2.2).foldl max 0 ≤ f.bytes.length →
      (∀ r ∈ swapReads ps, y.missingCell r.1 r.2 = none ∧ f.poisonedAt r.1 r.2 false = false) →
      exec (.fswap x) s = .next (((sp s (swapReads ps)).setFrame x (ps.foldl Frame.swap f)).ranOn x t)) ∧
  (s.issues x encFswap noReads = true → swapPairs f.info (fImm6 w) = none → exec (.fswap x) s = .next (s.faultAt x fltArg 0 0)) ∧
  (s.issues x encFcpyp readsAB = true → a + n ≤ f.bytes.length → y.missingCell a n = none → f.poisonedAt a n true = false →
      s.lPermits y c.val b n false = true → s.poisoned memL (lAddr p.val b) n = none →
      ∃ g, exec (.fcpyp x) s = .next (((sp s [(a, n)]).setFrame x g).ranOn x t) ∧
        g.bytes = f.bytes.take a ++ memReadBytes s.gys.l (lAddr p.val b) n ++ f.bytes.drop (a + n) ∧
        g = { f with bytes := g.bytes, poison := g.poison }) ∧
  (s.issues x encFcpyl readsAB = true → b + n ≤ f.bytes.length → y.missingCell b n = none → f.poisonedAt b n false = false →
      s.lPermits y c.val a n true = true → s.partlyPoisoned memL (lAddr p.val a) n = none →
      ∃ l' marks, exec (.fcpyl x) s = .next (State.ranOn
          { s with gys := { s.gys with l := l' }, rel := { s.rel with poison := marks },
                   cry := (s.spoil p.val none [(a, n)]).cry } x t) ∧
        memReadBytes l' (lAddr p.val a) n = (f.bytes.drop b).take n ∧
        (∀ i, i < lAddr p.val a ∨ lAddr p.val a + n ≤ i → memRead l' i = memRead s.gys.l i) ∧
        (∀ m ∈ marks, m ∈ s.rel.poison)) ∧
  (∀ i, t.status = .blocked (.cell i) →
      exec (.cellArrive p c) s = .next
        ((s.setCtx p.val c.val { y with th := { t with status := .ready }, cells := y.cells ++ [i] }).makeNewest x))

/-- CSUM folds the sum of the big-endian words of gb bytes at ga, CSADD adds two folded sums. CSIP rewrites the checksum
of an IPv4 header so that the header sums to 0xFFFF and no other byte changes. CSUDP rewrites the UDP checksum so
that pseudo-header and datagram sum to 0xFFFF, never 0x0000, and no other byte changes; with IMM6 = 1 it rewrites
the lengths first. A frame that is not IPv4, is not UDP, or whose length field does not fit raises ARG with nothing
written. A write spoils a crypto job under way that names the bytes (R195). (04_walzor_instruction_set.md) -/
def Obligations.ChecksumInstructions : Prop :=
  ∀ (s : State) (p : Fin 72) (c : Fin 48) (f : Frame), (s.ctx p.val c.val).frame = some f →
  let x : Ctx := .tile p c
  let w := s.fetch x
  let t := s.th x
  let y := s.ctx p.val c.val
  let a := (s.g x (fRa w)).toNat
  let b := (s.g x (fRb w)).toNat
  let i := f.info
  let h := 4 * (byteAt f.bytes i.ipOff % 16)
  let len := be16 f.bytes (i.l4Off + 4)
  let sp := fun (s : State) (ws : List (Nat × Nat)) => s.spoil p.val (some c.val) ws
  (s.issues x encCsum readsAB = true → (b = 0 ∨ a + b ≤ f.bytes.length) → y.missingCell a b = none →
      f.poisonedAt a b false = false →
      ∃ v : Nat, exec (.csum x) s = .next (s.ranOn x (t.setReg (fRd w) (BitVec.ofNat 64 v))) ∧ v < 2 ^ 16 ∧
        v % 65535 = sum16 ((f.bytes.drop a).take b) % 65535 ∧ (v = 0 ↔ sum16 ((f.bytes.drop a).take b) = 0)) ∧
  (s.issues x encCsadd readsAB = true →
      ∃ v : Nat, exec (.csadd x) s = .next (s.ranOn x (t.setReg (fRd w) (BitVec.ofNat 64 v))) ∧ v < 2 ^ 16 ∧
        v % 65535 = (a % 2 ^ 16 + b % 2 ^ 16) % 65535 ∧ (v = 0 ↔ a % 2 ^ 16 + b % 2 ^ 16 = 0)) ∧
  (s.issues x encCsip noReads = true → i.ipVersion = 4 → 20 ≤ h → i.ipOff + h ≤ f.bytes.length →
      y.missingCell i.ipOff h = none → f.poisonedAt i.ipOff h false = false →
      ∃ g, exec (.csip x) s = .next (((sp s [(i.ipOff + 10, 2)]).setFrame x g).ranOn x t) ∧ csum ((g.bytes.drop i.ipOff).take h) = 0xFFFF ∧
        (∀ j, j ≠ i.ipOff + 10 → j ≠ i.ipOff + 11 → byteAt g.bytes j = byteAt f.bytes j) ∧
        g = { f with bytes := g.bytes, poison := g.poison }) ∧
  (s.issues x encCsip noReads = true → (i.ipVersion ≠ 4 ∨ h < 20 ∨ f.bytes.length < i.ipOff + h) →
      exec (.csip x) s = .next (s.faultAt x fltArg 0 0)) ∧
  (s.issues x encCsudp noReads = true → fImm6 w = 0 → i.udpOff ≠ 0xFFFF → 8 ≤ len → i.l4Off + len ≤ f.bytes.length →
      y.missingCell 0 f.bytes.length = none → f.poisonedAt 0 f.bytes.length false = false → i.ipVersion = 4 →
      i.ipOff + 20 ≤ i.l4Off →
      ∃ g, exec (.csudp x) s = .next (((sp s [(i.l4Off + 6, 2)]).setFrame x g).ranOn x t) ∧
        csum (pseudoHeader g.bytes i len ++ (g.bytes.drop i.l4Off).take len) = 0xFFFF ∧ be16 g.bytes (i.l4Off + 6) ≠ 0 ∧
        (∀ j, j ≠ i.l4Off + 6 → j ≠ i.l4Off + 7 → byteAt g.bytes j = byteAt f.bytes j) ∧
        g = { f with bytes := g.bytes, poison := g.poison }) ∧
  (s.issues x encCsudp noReads = true → i.udpOff ≠ 0xFFFF → fImm6 w = 1 → i.l4Off + 8 ≤ f.bytes.length →
      (∀ r ∈ csudpReads f.bytes i true (f.bytes.length - i.l4Off), y.missingCell r.1 r.2 = none ∧ f.poisonedAt r.1 r.2 false = false) →
      exec (.csudp x) s = .next (((sp s (csudpWrites i true)).setFrame x
        { f with bytes := fixUdp (fixLengths f.bytes i) i (f.bytes.length - i.l4Off) }).ranOn x t)) ∧
  (s.issues x encCsudp noReads = true → fImm6 w = 0 → (i.udpOff = 0xFFFF ∨ len < 8 ∨ f.bytes.length < i.l4Off + len) →
      exec (.csudp x) s = .next (s.faultAt x fltArg 0 0))

/-- An instruction whose T access passes ALIGN and T_PROT: TBLD, TBCAS, TBADD, TBFIND, TBLOCK, TBGET, TKN and TKSET
start the operation outstanding with its operands and destination; TBST, TBPUT and a tile's TBUNLK post a store
behind the earlier ones, and a fifth store stalls; a service core's TBUNLK first reads the lock word. A search for
0, a fifth lock, tokens of 2^24 or more raise ARG; a lock not held raises T_LOCK; a bad address raises ALIGN or
T_PROT. Nothing else changes. (04_walzor_instruction_set.md) -/
def Obligations.TableAndTokenIssue : Prop :=
  ∀ (s : State) (x : Ctx),
  let w := s.fetch x
  let t := s.th x
  let rd := fRd w
  let ga := s.g x (fRa w)
  let gb := s.g x (fRb w)
  let a := ga.toNat
  let n := (fImm6 w + 1) * 8
  (s.issues x encTbld longA = true → s.tFault x ((a + 8 * fImm6 w) % 2 ^ 64) 8 8 false = none → 
      exec (.tbld x) s = .next (s.ranOn x { t with op := some ⟨.load ((a + 8 * fImm6 w) % 2 ^ 64), some rd, t.pc⟩ })) ∧
  (s.issues x encTbst readsAB = true → s.tFault x ((a + 8 * fImm6 w) % 2 ^ 64) 8 8 true = none → t.stores.length < 4 →
      exec (.tbst x) s = .next (s.ranOn x { t with stores := t.stores ++ [⟨(a + 8 * fImm6 w) % 2 ^ 64, leBytes 8 gb.toNat, t.op.isSome⟩] })) ∧
  (s.issues x encTbst readsAB = true → s.tFault x ((a + 8 * fImm6 w) % 2 ^ 64) 8 8 true = none → 4 ≤ t.stores.length →
      exec (.tbst x) s = .next (s.setStatus x (.blocked .stores))) ∧
  (s.issues x encTbcas longDAB = true → s.tFault x (a) 8 8 true = none → 
      exec (.tbcas x) s = .next (s.ranOn x { t with op := some ⟨.cas a (s.g x rd) gb, some rd, t.pc⟩ })) ∧
  (s.issues x encTbadd longAB = true → s.tFault x (a) 8 8 true = none → 
      exec (.tbadd x) s = .next (s.ranOn x { t with op := some ⟨.add a gb, some rd, t.pc⟩ })) ∧
  (s.issues x encTbfind longAB = true → s.tFault x (a) 64 64 false = none → gb ≠ 0 →
      exec (.tbfind x) s = .next (s.ranOn x { t with op := some ⟨.find a gb, some rd, t.pc⟩ })) ∧
  (s.issues x encTbfind longAB = true → s.tFault x a 64 64 false = none → gb = 0 → exec (.tbfind x) s = .next (s.faultAt x fltArg 0 0)) ∧
  (s.issues x encTblock longA = true → s.tFault x (a) 8 8 true = none → (s.tileCtx x).locks.length < 4 →
      exec (.tblock x) s = .next (s.ranOn x { t with op := some ⟨.lock a, some rd, t.pc⟩ })) ∧
  (∀ p c, x = .tile p c → s.issues x encTbunlk ⟨fun w => [fRa w], fun _ => false, false⟩ = true → s.tFault x a 8 8 true = none →
      a ∈ (s.ctx p.val c.val).locks → t.stores.length < 4 →
      exec (.tbunlk x) s = .next ((s.forgetLock x a).ranOn x { t with stores := t.stores ++ [⟨a, leBytes 8 0, t.op.isSome⟩] })) ∧
  (∀ p c, x = .tile p c → s.issues x encTbunlk ⟨fun w => [fRa w], fun _ => false, false⟩ = true → s.tFault x a 8 8 true = none →
      a ∉ (s.ctx p.val c.val).locks → exec (.tbunlk x) s = .next (s.faultAt x fltTLock 0 0)) ∧
  (∀ k, x = .core k → s.issues x encTbunlk ⟨fun w => [fRa w], fun _ => false, true⟩ = true → s.tFault x a 8 8 true = none →
      t.stores.length < 4 →
      exec (.tbunlk x) s = .next (s.setTh x { t with op := some ⟨.unlockRead a, none, t.pc⟩, status := .waiting })) ∧
  (s.issues x encTbget longAB = true → a % 8 = 0 → s.tFault x gb.toNat n 8 false = none → s.lFault x a n true = none →
      exec (.tbget x) s = .next (s.ranOn x { t with op := some ⟨.get gb.toNat a n, none, t.pc⟩ })) ∧
  (∀ p c, x = .tile p c → s.issues x encTbput readsAB = true → gb.toNat % 8 = 0 → s.tFault x a n 8 true = none →
      t.stores.length < 4 → s.lPermits (s.ctx p.val c.val) c.val gb.toNat n false = true →
      s.poisoned memL (lAddr p.val gb.toNat) n = none →
      exec (.tbput x) s = .next (s.ranOn x { t with stores := t.stores ++
        [⟨a, memReadBytes s.gys.l (lAddr p.val gb.toNat) n, t.op.isSome⟩] })) ∧
  (s.issues x encTkn longAB = true → s.tFault x (a) 16 16 true = none → gb.toNat < 2 ^ 24 →
      exec (.tkn x) s = .next (s.ranOn x { t with op := some ⟨.take a gb.toNat, some rd, t.pc⟩ })) ∧
  (s.issues x encTkn longAB = true → s.tFault x a 16 16 true = none → 2 ^ 24 ≤ gb.toNat → exec (.tkn x) s = .next (s.faultAt x fltArg 0 0)) ∧
  (s.issues x encTkset longAB = true → s.tFault x (a) 16 16 true = none → 
      exec (.tkset x) s = .next (s.ranOn x { t with op := some ⟨.setBucket a gb (decide (fImm6 w = 1)), none, t.pc⟩ })) ∧
  (∀ code, s.issues x encTbld longA = true → s.tFault x ((a + 8 * fImm6 w) % 2 ^ 64) 8 8 false = some code →
      exec (.tbld x) s = .next (s.faultAt x code 0 ((a + 8 * fImm6 w) % 2 ^ 64)))

/-- When the operation outstanding of an executor on a tile that is not retired completes: TBLD reads; TBCAS compares
and stores the new value where the old one is there, RES telling; TBADD adds; TBFIND gives the value of the lowest
slot whose key matches, or 0 with RES; TBLOCK takes a free lock in the holder's name or reports RES; TKN refills the
bucket, takes the tokens where they are there, RES telling; TKSET fills a bucket. The oldest posted store writes the
pool. Only the pool, its marks, rd, RES, the record of locks and the operation change, and an executor that waited
becomes the newest of its class. (04_walzor_instruction_set.md) -/
def Obligations.TableAndTokenCompletion : Prop :=
  ∀ (s : State) (x : Ctx),
  let t := s.th x
  let who := poolWriter x
  s.ghost x = false → (t.status = .ready ∨ t.status = .waiting) →
  let done : Thread := { t with op := none, status := .ready, stores := t.stores.map fun p => { p with late := false } }
  let on : State → Host.Outcome State Fault Refusal := fun u => .next (if t.status = .waiting then u.makeNewest x else u)
  (∀ a rd lag, lag ≤ maxLag → ∀ m, t.op = some ⟨.load a, some rd, m⟩ → t.storeAhead a 8 = false → s.poisoned memPool a 8 = none → 
      exec (.tableOpComplete x lag) s = on (s.setTh x (done.setReg rd (BitVec.ofNat 64 (s.poolWord a))))) ∧
  (∀ a old new rd lag, lag ≤ maxLag → ∀ m, t.op = some ⟨.cas a old new, some rd, m⟩ → t.storeAhead a 8 = false → s.poisoned memPool a 8 = none → 
      s.poolWord a = old.toNat → ∃ u, exec (.tableOpComplete x lag) s = .next u ∧ u = (s.poolWrite who a (leBytes 8 new.toNat)).setTh x
        { done.setReg rd old with res := false }) ∧
  (∀ a old new rd lag, lag ≤ maxLag → ∀ m, t.op = some ⟨.cas a old new, some rd, m⟩ → t.storeAhead a 8 = false → s.poisoned memPool a 8 = none → 
      s.poolWord a ≠ old.toNat → exec (.tableOpComplete x lag) s =
        on (s.setTh x { done.setReg rd (BitVec.ofNat 64 (s.poolWord a)) with res := true })) ∧
  (∀ a v rd lag, lag ≤ maxLag → ∀ m, t.op = some ⟨.add a v, some rd, m⟩ → t.storeAhead a 8 = false → s.poisoned memPool a 8 = none → 
      exec (.tableOpComplete x lag) s = on ((s.poolWrite who a (leBytes 8 (s.poolWord a + v.toNat))).setTh x
        (done.setReg rd (BitVec.ofNat 64 (s.poolWord a))))) ∧
  (∀ a key rd lag i, lag ≤ maxLag → ∀ m, t.op = some ⟨.find a key, some rd, m⟩ → t.storeAhead a 64 = false → s.poisoned memPool a 64 = none → 
      i < 4 → s.poolWord (a + 16 * i) = key.toNat → (∀ j < i, s.poolWord (a + 16 * j) ≠ key.toNat) →
      exec (.tableOpComplete x lag) s = on (s.setTh x
        { done.setReg rd (BitVec.ofNat 64 (s.poolWord (a + 16 * i + 8))) with res := false })) ∧
  (∀ a key rd lag, lag ≤ maxLag → ∀ m, t.op = some ⟨.find a key, some rd, m⟩ → t.storeAhead a 64 = false → s.poisoned memPool a 64 = none → 
      (∀ j < 4, s.poolWord (a + 16 * j) ≠ key.toNat) →
      exec (.tableOpComplete x lag) s = on (s.setTh x { done.setReg rd 0 with res := true })) ∧
  (∀ a rd lag, lag ≤ maxLag → ∀ m, t.op = some ⟨.lock a, some rd, m⟩ → t.storeAhead a 8 = false → s.poisoned memPool a 8 = none → 
      (s.poolWord a).testBit 63 = true → exec (.tableOpComplete x lag) s =
        on (s.setTh x { done.setReg rd (BitVec.ofNat 64 (s.poolWord a)) with res := true })) ∧
  (∀ a rd lag p c, lag ≤ maxLag → x = .tile p c → ∀ m, t.op = some ⟨.lock a, some rd, m⟩ → t.storeAhead a 8 = false → s.poisoned memPool a 8 = none → 
      (s.poolWord a).testBit 63 = false → exec (.tableOpComplete x lag) s =
        on (((s.poolWrite who a (leBytes 8 (2 ^ 63 + (p.val * 48 + c.val)))).noteLock x a).setTh x
          { done.setReg rd (BitVec.ofNat 64 (s.poolWord a)) with res := false })) ∧
  (∀ a n rd lag, lag ≤ maxLag → ∀ m, t.op = some ⟨.take a n, some rd, m⟩ → t.storeAhead a 16 = false → s.poisoned memPool a 16 = none → 
      let now := s.now12 x lag
      let level := min (s.poolWord (a + 8) % 2 ^ 32)
        (s.poolWord a / 2 ^ 32 + s.poolWord (a + 8) / 2 ^ 32 * ((now + 2 ^ 32 - s.poolWord a % 2 ^ 32) % 2 ^ 32) / 2 ^ 12)
      let left := if n * 2 ^ 8 ≤ level then level - n * 2 ^ 8 else level
      exec (.tknComplete x lag) s = on ((s.poolWrite who a (leBytes 8 (left * 2 ^ 32 + now))).setTh x
        { done.setReg rd (BitVec.ofNat 64 (left / 2 ^ 8)) with res := decide (¬ n * 2 ^ 8 ≤ level) })) ∧
  (∀ a v lag, lag ≤ maxLag → ∀ m, t.op = some ⟨.setBucket a v true, none, m⟩ → t.storeAhead a 16 = false → s.poisoned memPool a 16 = none → 
      exec (.tableOpComplete x lag) s = on ((s.poolWrite who a
        (leBytes 8 (v.toNat % 2 ^ 32 * 2 ^ 32 + s.now12 x lag) ++ leBytes 8 v.toNat)).setTh x done)) ∧
  (∀ a v lag, lag ≤ maxLag → ∀ m, t.op = some ⟨.setBucket a v false, none, m⟩ → t.storeAhead a 16 = false → s.poisoned memPool a 16 = none → 
      exec (.tableOpComplete x lag) s = on ((s.poolWrite who a
        (leBytes 8 (min (s.poolWord a / 2 ^ 32) (v.toNat % 2 ^ 32) * 2 ^ 32 + s.poolWord a % 2 ^ 32) ++ leBytes 8 v.toNat)).setTh x
        done)) ∧
  (∀ p ps, t.stores = p :: ps → t.status = .ready →
      exec (.postedStoreComplete x) s = .next ((s.poolWriteLines who 8 p.addr p.bytes).setTh x { t with stores := ps })) ∧
  (∀ a bs, s.role ≠ roleStandby → s.role ≠ roleActive →
      s.poolWrite who a bs = State.clearPoison { s with gys := { s.gys with pool := memWriteBytes s.gys.pool a bs } } memPool a
        bs.length)

/-- In a context without an outstanding operation, posted store or lock: SEND puts the frame behind its egress queue,
DROP counts it under its reason, TOHOST sends it toward an up ring, END ends a context without a frame and raises
ARG with one; the context is then ENDING and holds no frame. A held lock raises T_LOCK and nothing else; with an
operation or store outstanding the disposal waits. NOP, WAITL and FENCE only go on, FENCE once the stores are done;
YIELD makes the context the newest; BRK faults; EVRAISE raises source 240 + IMM6; RDCTX reads.
(04_walzor_instruction_set.md, 05_responder_execution.md) -/
def Obligations.DisposalAndControl : Prop :=
  ∀ (s : State) (x : Ctx),
  let w := s.fetch x
  let t := s.th x
  let ga := s.g x (fRa w)
  let idle := t.op = none ∧ t.stores = [] ∧ (s.tileCtx x).locks = []
  (∀ p c f, x = .tile p c → s.issues x encSend noReads = true → (s.ctx p.val c.val).frame = some f → idle → s.staleHere x = false →
      s.portExists f.egress = true → s.flag (Reg.PRT_STATUS f.egress) 0 = true →
      exec (.sendFrame x) s = .next (((s.enqueueTx { f with origin := .array }).endContext x).retire x (nextPc t.pc))) ∧
  (∀ p c f, x = .tile p c → s.issues x encDrop noReads = true → (s.ctx p.val c.val).frame = some f → idle →
      ∃ u, exec (.dropFrame x) s = .next u ∧ u = ((s.bump (Reg.GYS_DROP (fImm6 w)) 0 32).endContext x).retire x (nextPc t.pc) ∧
        (u.ctx p.val c.val).frame = none ∧ (u.th x).status = .ending none ∧
        u.fld (Reg.GYS_DROP (fImm6 w)) 0 32 = min (2 ^ 32 - 1) (s.fld (Reg.GYS_DROP (fImm6 w)) 0 32 + 1)) ∧
  (∀ p c f, x = .tile p c → s.issues x encTohost readsA = true → (s.ctx p.val c.val).frame = some f → idle → ga.toNat ≤ 31 →
      s.staleHere x = false →
      exec (.tohost x) s = .next ((State.endContext { s with net := { s.net with toHost := s.net.toHost ++
        [⟨ga.toNat, f, some (s.ctx p.val c.val).tile⟩] } } x).retire x (nextPc t.pc))) ∧
  (∀ p c, x = .tile p c → s.issues x encEnd noReads = true → (s.ctx p.val c.val).frame = none → idle →
      exec (.endContext x) s = .next ((s.endContext x).retire x (nextPc t.pc))) ∧
  (∀ p c, x = .tile p c → s.issues x encEnd noReads = true → (s.ctx p.val c.val).frame ≠ none → idle →
      exec (.endContext x) s = .next (s.faultAt x fltArg 0 0)) ∧
  (isTile x = true → t.op = none → t.stores = [] → (s.tileCtx x).locks ≠ [] →
      (s.issues x encSend noReads = true → exec (.sendFrame x) s = .next (s.faultAt x fltTLock 0 0)) ∧
      (s.issues x encDrop noReads = true → exec (.dropFrame x) s = .next (s.faultAt x fltTLock 0 0)) ∧
      (s.issues x encTohost readsA = true → exec (.tohost x) s = .next (s.faultAt x fltTLock 0 0)) ∧
      (s.issues x encEnd noReads = true → exec (.endContext x) s = .next (s.faultAt x fltTLock 0 0))) ∧
  (s.issues x encSend noReads = true → (t.op ≠ none ∨ t.stores ≠ []) → exec (.sendFrame x) s = .next (s.setStatus x .waiting)) ∧
  (s.issues x encNop noReads = true → exec (.nop x) s = .next (s.ranOn x t)) ∧
  (∀ k, x = .core k → s.issues x encYield noReads = true → exec (.yield x) s = .next (s.ranOn x t)) ∧
  (∀ p c, x = .tile p c → s.issues x encYield noReads = true →
      ∃ u, exec (.yield x) s = .next u ∧ (u.ctx p.val c.val).order = s.gys.order ∧ u.gys.order = s.gys.order + 1 ∧
        u.th x = { t with pc := nextPc t.pc, executed := t.executed + 1 } ∧
        u = { s with gys := { s.gys with contexts := u.gys.contexts, order := u.gys.order } }) ∧
  (s.issues x encWaitl ⟨fun _ => [], fun _ => false, true⟩ = true → exec (.waitl x) s = .next (s.ranOn x t)) ∧
  (s.issues x encFence noReads = true → t.stores = [] → exec (.fence x) s = .next (s.ranOn x t)) ∧
  (s.issues x encFence noReads = true → t.stores ≠ [] → exec (.fence x) s = .next (s.setStatus x .waiting)) ∧
  (s.issues x encBrk noReads = true → s.trapWaits x = false → exec (.brk x) s = .next (s.faultAt x fltBrk (fImm6 w) 0)) ∧
  (s.issues x encEvraise readsA = true →
      exec (.evraise x) s = .next ((s.raise (240 + fImm6 w) (lo32 ga) (s.raiserData x)).ranOn x t)) ∧
  (s.issues x encRdctx ⟨fun _ => [], fun w => fImm6 w == 5, false⟩ = true → isTile x = true → s.activeBank ≠ 3 →
      ∃ v, exec (.rdctx x) s = .next (s.ranOn x (t.setReg (fRd w) (BitVec.ofNat 64 v))) ∧
        (fImm6 w = 0 → v = (s.tileCtx x).tile) ∧ (fImm6 w = 1 → v = ctxNumber x) ∧ (fImm6 w = 2 → v = t.executed) ∧
        (fImm6 w = 3 → v = s.activeBank) ∧ (fImm6 w = 4 → v = ctxTile x / 9) ∧ (fImm6 w = 5 → v = t.flags))

/-- WAIT stops issue, at the smaller of the depth of SR_PWRMODE and MAXDEPTH, unless an interrupt is pending and
enabled; ERET returns to SR_EPC with IE from PIE; MFSR and MTSR read and write the system registers of R128, those
marked RO discarding writes, SR_CYCLE reading at least a cycle for each instruction (log entry 17); MRGN sets a
region from ga and gb or raises ARG, MRGI clears one. An interrupt with IE = 1 saves the PC in SR_EPC and the cause,
masks, and goes on at SR_VEC; an interrupt or a release of the power handshake ends WAIT. Nothing else of the core
or the machine changes. (04_walzor_instruction_set.md) -/
def Obligations.PrivilegedProfile : Prop :=
  ∀ (s : State) (k : Fin 8),
  let x : Ctx := .core k
  let w := s.fetch x
  let t := s.th x
  let c := s.core k.val
  let a := (s.g x (fRa w)).toNat
  let b := (s.g x (fRb w)).toNat
  let next : Thread := { t with pc := nextPc t.pc, executed := t.executed + 1 }
  (s.issues x encWait noReads = true → (c.ie = false ∨ c.irqs = []) →
      exec (.waitCore x) s = .next (s.setCore k.val { c with
        depth := some (min (min c.pwrMode (s.fld Reg.CPM_SCPOL (2 * k.val) 2)) 2), th := next })) ∧
  (s.issues x encWait noReads = true → c.ie = true → c.irqs ≠ [] → exec (.waitCore x) s = .next (s.setCore k.val { c with th := next })) ∧
  (s.issues x encEret noReads = true →
      exec (.eret x) s = .next (s.setCore k.val { c with inh := false, ie := c.pie, th := { next with pc := c.epc } })) ∧
  (s.issues x encMfsr noReads = true → fImm6 w ≠ 7 →
      ∃ v, exec (.mfsr x) s = .next (s.ranOn x (t.setReg (fRd w) v)) ∧
        (fImm6 w = 0 → v.getLsbD 0 = c.ie ∧ v.getLsbD 1 = c.pie ∧ v.getLsbD 2 = c.inh ∧ v.toNat < 8) ∧
        (fImm6 w = 1 → v = BitVec.ofNat 64 c.cause) ∧ (fImm6 w = 2 → v = BitVec.ofNat 64 c.epc) ∧ (fImm6 w = 3 → v = c.faddr) ∧
        (fImm6 w = 4 → v = BitVec.ofNat 64 c.pwrMode) ∧ (fImm6 w = 5 → v = BitVec.ofNat 64 c.vec) ∧
        (fImm6 w = 6 → v = BitVec.ofNat 64 k.val)) ∧
  (s.issues x encMfsr noReads = true → fImm6 w = 7 →
      ∃ d, exec (.mfsr x) s = .next (State.setCore { s with free := s.free + 1 } k.val { c with
        idle := c.idle + d
        th := { t.setReg (fRd w) (BitVec.ofNat 64 (t.executed + (c.idle + d))) with
          pc := nextPc t.pc, executed := t.executed + 1 } })) ∧
  (s.issues x encMtsr readsA = true → ∃ d, exec (.mtsr x) s = .next (s.setCore k.val { d with th := next }) ∧
        (fImm6 w = 0 → d = { c with ie := decide (a % 2 = 1), pie := decide (a / 2 % 2 = 1), inh := decide (a / 4 % 2 = 1) }) ∧
        (fImm6 w = 2 → d = { c with epc := a % 2 ^ 19 }) ∧ (fImm6 w = 4 → d = { c with pwrMode := a % 4 }) ∧
        (fImm6 w = 5 → d = { c with vec := a % 2 ^ 19 }) ∧ (fImm6 w = 1 ∨ fImm6 w = 3 ∨ fImm6 w = 6 ∨ fImm6 w = 7 → d = c)) ∧
  (s.issues x encMrgn readsAB = true → a % 65536 = 0 → b &&& regionZeros = 0 →
      exec (.mrgn x) s = .next (s.setCore k.val { c.setRegion (fImm6 w)
        ⟨true, a, b / 2 ^ 40, b / 2 ^ 24 % 2 ^ 16 + 1, b.testBit 0, b.testBit 1, b.testBit 3⟩ with th := next })) ∧
  (s.issues x encMrgn readsAB = true → s.trapWaits x = false → (a % 65536 ≠ 0 ∨ b &&& regionZeros ≠ 0) → exec (.mrgn x) s = .next (s.faultAt x fltArg 0 0)) ∧
  (s.issues x encMrgi noReads = true →
      exec (.mrgi x) s = .next (s.setCore k.val { c.setRegion (fImm6 w) Region.reset with th := next })) ∧
  (∀ v vs, c.inReset = false → c.stopped = false → t.status = .ready → c.ie = true → c.irqs = v :: vs →
      ∀ r, exec (.scInterrupt k r) s = .next (s.setCore k.val
        { c with depth := none, epc := t.pc, cause := 0xFF + v % 256 * 2 ^ 8, pie := true,
                 ie := false, inh := true, irqs := vs, th := { t with pc := c.vec } })) ∧
  (c.inReset = false → c.stopped = false → t.status = .ready → c.depth ≠ none → c.ie = false →
      exec (.scInterrupt k true) s = .next (s.setCore k.val { c with depth := none }))

/-- A fault of a tile context counts GYS_KILL of its code, latches GYS_FAULT where none is held, and leaves the context
ENDING with the code; its registers, flags and PC stay. On a service core outside a handler it saves the PC and the
cause, records the address of an L, ALIGN, T_PROT or ECC fault, masks and enters the handler; inside one the core
stops and REL_WDG_STAT records it. An undefined word raises ILLEGAL, opcode 0x38 on a tile PRIV.
(04_walzor_instruction_set.md, 05_responder_execution.md) -/
def Obligations.FaultsOfExecutors : Prop :=
  (∀ (s : State) (k : Fin 8) (code imm addr : Nat), (s.core k.val).inh = false →
      let c := s.core k.val
      s.faultAt (.core k) code imm addr = s.setCore k.val { c with
        epc := c.th.pc, cause := code + imm * 2 ^ 8, pie := c.ie, ie := false, inh := true,
        faddr := if code = 3 ∨ code = 4 ∨ code = 6 ∨ code = 12 then BitVec.ofNat 64 addr else c.faddr,
        th := { c.th with pc := c.vec, status := .ready, busLoad := none } }) ∧
  (∀ (s : State) (k : Fin 8) (code imm addr : Nat), (s.core k.val).inh = true →
      ∃ t, s.faultAt (.core k) code imm addr = t ∧ (t.core k.val).stopped = true ∧
        t.flag Reg.REL_WDG_STAT (16 + k.val) = true ∧ s.keepsRegs t [Reg.REL_WDG_STAT] ∧
        t = { s with regs := t.regs, cores := t.cores }) ∧
  (∀ (s : State) (p : Fin 72) (c : Fin 48) (code imm addr : Nat), (s.ctx p.val c.val).isInit = false → code < 16 →
      ∃ t, s.faultAt (.tile p c) code imm addr = t ∧
        t.th (.tile p c) = { s.th (.tile p c) with status := .ending (some code) } ∧
        t.fld (Reg.GYS_KILL code) 0 32 = min (2 ^ 32 - 1) (s.fld (Reg.GYS_KILL code) 0 32 + 1) ∧
        t.flag Reg.GYS_STICKY 0 = true ∧ t.flag Reg.GYS_FAULT0 31 = true ∧
        s.keepsRegs t [Reg.GYS_KILL code, Reg.GYS_STICKY, Reg.GYS_FAULT0, Reg.GYS_FAULT1, Reg.GYS_FAULT2,
          Reg.REL_LOG_LOST, Reg.REL_STICKY] ∧
        t = { s with regs := t.regs, raised := t.raised, logWait := t.logWait,
                     gys := { s.gys with contexts := t.gys.contexts } }) ∧
  (∀ (s : State) (x : Ctx), s.mayIssue x = true → s.fetchPoisoned x = false → s.overBudget x = false →
      (isTile x = false ∨ bitsAt (s.fetch x) 26 6 ≠ 0x38) → isDefined (isTile x) (s.fetch x) = false →
      s.trapWaits x = false → exec (.undefinedEncoding x) s = .next (s.faultAt x fltIllegal 0 (if isTile x then 0 else 4 * (s.th x).pc))) ∧
  (∀ (s : State) (p : Fin 72) (c : Fin 48), s.mayIssue (.tile p c) = true → s.fetchPoisoned (.tile p c) = false →
      s.overBudget (.tile p c) = false → bitsAt (s.fetch (.tile p c)) 26 6 = 0x38 →
      exec (.undefinedEncoding (.tile p c)) s = .next (s.faultAt (.tile p c) fltPriv 0 0))

/-- Whatever the 32 bits of a word, at most one of the encodings of R99 fits it on a tile, and at most one on a service
core: every instruction is told apart by OP, FN, COND, SUB, IMM6 or the class of the executor, so that one word
never has two meanings; and every encoding fits some word. (04_walzor_instruction_set.md) -/
def Obligations.NoWordHasTwoMeanings : Prop :=
  (∀ (tile : Bool) (w : Word), (encodings.filter fun e => e.fits tile w).length ≤ 1) ∧
  (∀ e ∈ encodings, ∃ tile w, e.fits tile w = true)

/-- For every family of Walzor one word, its fields put together by hand from the form of R98 and the OP, FN, COND, SUB
and IMM6 of the tables, fits the encoding of its instruction on a tile; MRGN fits on a service core and no encoding
fits on a tile; the all-zero word, an undefined OP, a used RB of CLZ and a TSTP of format 2 fit none.
(04_walzor_instruction_set.md) -/
def Obligations.EncodingsOfTheSpec : Prop :=
  encAdd.fits true 0b00000000011000010001000000000001#32 = true ∧
  encCrc.fits true 0b00000000011000010001000000010100#32 = true ∧
  encSar.fits true 0b00000000011000010001000000001000#32 = true ∧
  encMovk.fits true 0b00100100011000100001001000110100#32 = true ∧
  encSlti.fits true 0b00101000011000011111111111111111#32 = true ∧
  encBltu.fits true 0b00110000001000101001111111111000#32 = true ∧
  encBfc.fits true 0b00110000000000111110000000000101#32 = true ∧
  encJal.fits true 0b00110111111111111111111111111111#32 = true ∧
  encJalr.fits true 0b00111000001000100000000000000000#32 = true ∧
  encLdls.fits true 0b01000100011000011011111111111100#32 = true ∧
  encTstl.fits true 0b01011100111000011100000000000100#32 = true ∧
  encTadd.fits true 0b01100000001000100001100011000000#32 = true ∧
  encTstp.fits true 0b01100000000000110010001100000001#32 = true ∧
  encFmark.fits true 0b01100100000000110010000010101111#32 = true ∧
  encCsudp.fits true 0b01101000000000000000000011000001#32 = true ∧
  encTbcas.fits true 0b01101100011000010001000010000000#32 = true ∧
  encTkn.fits true 0b01110000011000010001000000000000#32 = true ∧
  encCjob.fits true 0b01110100011000010001000000001000#32 = true ∧
  encDrop.fits true 0b01111000000000000000000001111111#32 = true ∧
  encEvraise.fits true 0b01111100000000010000000101001111#32 = true ∧
  encRdctx.fits true 0b01111100011000000000000110000101#32 = true ∧
  encMrgn.fits false 0b11100000000000010001000100000101#32 = true ∧ isDefined true 0b11100000000000010001000100000101#32 = false ∧
  isDefined true 0#32 = false ∧ isDefined false 0#32 = false ∧ isDefined false 0xFC000000#32 = false ∧
  isDefined true 0b00000000011000010001000000010000#32 = false ∧ isDefined true 0b01100000000000110010001100000010#32 = false

/-- A request that reaches its tile joins the queue while the class and tile have room, and with the array off is
dropped and counted. The request that is due starts a free context: READY at its entry, g1, g2, t0 and SUS as R95
says and all else zero, the class's budget, its frame; a stale one is dropped. An ending context that has nothing
outstanding becomes FREE. A killed context's lock is released or orphaned as LOCKPOL says. A scan leaves no stale
head and ends stale waiting contexts with reason 0x10. No other context changes. (05_responder_execution.md,
04_walzor_instruction_set.md) -/
def Obligations.RequestsAndContexts : Prop :=
  (∀ (s : State) (k : Fin 8) (r : Request) (rest : List Request), s.net.toArray = r :: rest → r.tile / 8 = k.val →
      s.xqRuns (0x20 + k.val) = true → (s.draining r.tile = false ∨ (r.isFrame = false ∧ s.hostDrained r.tile = true)) →
      s.flag Reg.GYS_CTRL 0 = true → r.bank ≠ 3 →
      ((s.queuedOn r.tile).filter fun q => q.pclass == r.pclass).length < s.fld (Reg.GYS_CLSQ r.pclass) 0 11 →
      (s.queuedOn r.tile).length < 1024 →
      exec (.requestArrive k) s =
        .next { s with net := { s.net with toArray := rest }, gys := { s.gys with queued := s.gys.queued ++ [r] } }) ∧
  (∀ (s : State) (k : Fin 8) (r : Request) (rest : List Request), s.net.toArray = r :: rest → r.tile / 8 = k.val →
      s.xqRuns (0x20 + k.val) = true → (r.isFrame = true → s.draining r.tile = false) →
      (s.flag Reg.GYS_CTRL 0 = false ∨ (s.draining r.tile = true ∧ s.hostDrained r.tile = false)) →
      s.gys.oldBank = none → r.pclass < 4 →
      ∃ t, exec (.requestArrive k) s = .next t ∧ t.net.toArray = rest ∧ t.flag Reg.GYS_STICKY 3 = true ∧
        t.fld (Reg.GYS_ADMDROP r.pclass) 0 32 = min (2 ^ 32 - 1) (s.fld (Reg.GYS_ADMDROP r.pclass) 0 32 + 1) ∧
        s.keepsRegs t [Reg.GYS_ADMDROP r.pclass, Reg.GYS_STICKY] ∧
        t = { s with regs := t.regs, raised := t.raised, net := { s.net with toArray := rest } }) ∧
  (∀ (s : State) (p : Fin 72) (c : Fin 48) (l : Nat) (r : Request), s.logical p.val = some l →
      (s.ctx p.val c.val).used = false → s.clusterRuns (l / 8) = true →
      (∀ e ∈ s.gys.initOwed, e.1 ≠ l ∨ e.2.2 = true) → s.nextRequest p.val l = some r → s.staleRequest r = false →
      ∃ t, exec (.contextStart p c) s = .next t ∧
        (t.th (.tile p c)).status = .ready ∧ (t.th (.tile p c)).pc = r.entry ∧
        t.g (.tile p c) 1 = BitVec.ofNat 64 r.g1 ∧ t.g (.tile p c) 2 = BitVec.ofNat 64 r.code ∧
        (∀ i, i ≠ 1 → i ≠ 2 → t.g (.tile p c) i = 0) ∧ t.t (.tile p c) 0 = r.stamp.time ∧
        (∀ i, i ≠ 0 → t.t (.tile p c) i = 0) ∧ (t.th (.tile p c)).flags = 4 * ofBool (s.marked r.stamp) ∧
        (t.ctx p.val c.val).budget = s.fld (Reg.GYS_CLSL r.pclass) 16 16 ∧ (t.ctx p.val c.val).frame = r.frame ∧
        (t.ctx p.val c.val).pclass = r.pclass ∧ (t.ctx p.val c.val).locks = [] ∧
        (∀ q : Fin 72, ∀ d : Fin 48, (q, d) ≠ (p, c) → t.ctx q.val d.val = s.ctx q.val d.val) ∧
        t = { s with gys := { s.gys with contexts := t.gys.contexts, queued := s.gys.queued.erase r,
                                         order := s.gys.order + 1 } }) ∧
  (∀ (s : State) (p : Fin 72) (c : Fin 48) (l : Nat) (r : Request), s.logical p.val = some l →
      (s.ctx p.val c.val).used = false → s.clusterRuns (l / 8) = true →
      (∀ e ∈ s.gys.initOwed, e.1 ≠ l ∨ e.2.2 = true) → s.nextRequest p.val l = some r → s.staleRequest r = true →
      exec (.contextStart p c) s =
        .next (State.staleDrop { s with gys := { s.gys with queued := s.gys.queued.erase r } } r.pclass)) ∧
  (∀ (s : State) (p : Fin 72) (c : Fin 48) (k : Option Nat), (s.th (.tile p c)).status = .ending k →
      (s.th (.tile p c)).op = none → (s.th (.tile p c)).stores = [] → (k = none ∨ (s.ctx p.val c.val).locks = []) →
      (s.ctx p.val c.val).isInit = false → s.gys.oldBank = none →
      exec (.contextFree p c) s = .next (s.setCtx p.val c.val Context.reset)) ∧
  (∀ (s : State) (p : Fin 72) (c : Fin 48) (code a : Nat), (s.th (.tile p c)).status = .ending (some code) →
      (s.th (.tile p c)).op = none → (s.th (.tile p c)).stores = [] → (s.ctx p.val c.val).locks = [a] →
      s.lockReleases (s.ctx p.val c.val).bank a = true →
      exec (.killLockHandling p c) s =
        .next ((s.poolWrite .tile a (leBytes 8 0)).setCtx p.val c.val { s.ctx p.val c.val with locks := [] })) ∧
  (∀ (s : State) (p : Fin 72) (c : Fin 48) (code a : Nat), (s.th (.tile p c)).status = .ending (some code) →
      (s.th (.tile p c)).op = none → (s.th (.tile p c)).stores = [] → (s.ctx p.val c.val).locks = [a] →
      s.lockReleases (s.ctx p.val c.val).bank a = false →
      exec (.killLockHandling p c) s = .next (((((s.poolWrite .tile a (leBytes 8 0x8000000000000FFF)).setFlag Reg.GYS_STICKY 1
        true).raise 129).log 129 0 0 (BitVec.ofNat 64 (code * 2 ^ 32 + a))).setCtx p.val c.val
          { s.ctx p.val c.val with locks := [] })) ∧
  (∀ (s : State) (l : Fin 64), (s.queuedOn l.val).length ≤ 1024 →
      (∀ c : Fin 48, (s.ctx (s.phys l.val) c.val).pclass < 4) →
      ∃ t, exec (.staleScan l) s = .next t ∧
        (∀ k < 4, ∀ r, t.queueHead l.val k = some r → s.staleRequest r = false) ∧
        (∀ c : Fin 48, s.staleContext (s.ctx (s.phys l.val) c.val) = true →
          (t.ctx (s.phys l.val) c.val).th.status = .ending (some 0x10)) ∧
        (∀ c : Fin 48, s.staleContext (s.ctx (s.phys l.val) c.val) = false →
          t.ctx (s.phys l.val) c.val = s.ctx (s.phys l.val) c.val) ∧
        t.gys.pool = s.gys.pool ∧ t.gys.l = s.gys.l)

/-- A core fault takes the tile out of dispatch and ends its started contexts with reason 0x11; its scan returns the
tile through the init context or retires it. A due timer queues its request on its tile and does not fire again in
the slot; PERIOD is written only while the timer is stopped and legal. An init context that is owed starts at
INIT_ENTRY. DRAIN moves the queued frames to other tiles; clearing it owes the init context. A quota write is taken
unless R139 refuses it. (05_responder_execution.md) -/
def Obligations.TilesAndTimers : Prop :=
  (∀ (s : State) (p : Fin 72) (l : Nat), s.logical p.val = some l → l ∉ s.gys.coreFault → s.flag (Reg.GYS_MAP l) 28 = false →
      s.tileRetired p.val = false → s.clusterLive (l / 8) = true → l < 64 → (∀ r ∈ s.gys.queued, r.pclass < 4) →
      ∃ t, exec (.coreFault p) s = .next t ∧ l ∈ t.gys.coreFault ∧ t.flag (Reg.GYS_MAP l) 30 = true ∧
        t.flag Reg.GYS_STICKY 6 = true ∧ (⟨134, 0, 0⟩ : Raise) ∈ t.raised ∧
        (∀ c : Fin 48, (s.ctx p.val c.val).th.status = .ready →
          (t.ctx p.val c.val).th.status = .ending (some 0x11)) ∧ t.gys.pool = s.gys.pool ∧ t.gys.l = s.gys.l) ∧
  (∀ (s : State) (p : Fin 72) (l : Nat), s.testRuns (0x2000 + p.val) 0 = true → s.escalates (0x2000 + p.val) 0 = false →
      s.logical p.val = some l →
      ∃ t, exec (.coreScanDone p false) s = .next t ∧ l ∉ t.gys.coreFault ∧ t.testRuns (0x2000 + p.val) 0 = false ∧
        (⟨227, BitVec.ofNat 32 (0x2000 + p.val + 2 ^ 16), 0⟩ : Raise) ∈ t.raised ∧
        (s.flag (Reg.GYS_MAP l) 28 = false → s.activeBank ≠ 3 →
          (l, s.activeBank, s.gys.initOwed.any fun e => e.1 == l && e.2.2) ∈ t.gys.initOwed)) ∧
  (∀ (s : State) (p : Fin 72), s.testRuns (0x2000 + p.val) 0 = true → s.logical p.val = none → p.val % 9 ≠ 8 →
      ∃ t, exec (.coreScanDone p true) s = .next t ∧ t.tileRetired p.val = true ∧
        (⟨227, BitVec.ofNat 32 (0x2000 + p.val + 2 * 2 ^ 16), 0⟩ : Raise) ∈ t.raised ∧ (⟨228, 0, 0⟩ : Raise) ∈ t.raised ∧
        s.keepsRegs t [Reg.REL_RET_TILE (p.val / 32), Reg.REL_STICKY, Reg.REL_LOG_LOST]) ∧
  (∀ (s : State) (k : Fin 8) (l : Nat), s.timerDue k.val = true → s.gys.pendSwitch = none →
      s.flag (Reg.GYS_TMR_CTL k.val) 27 = false → l = s.fld (Reg.GYS_TMR_CTL k.val) 16 6 →
      s.flag (Reg.GYS_TMR_CTL k.val) 30 = false → s.timerBusy k.val l = false → s.takesCapture l = true → s.flag Reg.GYS_CTRL 0 = true → s.activeBank ≠ 3 →
      ((s.queuedOn l).filter fun q => q.pclass == s.fld (Reg.GYS_TMR_CTL k.val) 28 2).length <
        s.fld (Reg.GYS_CLSQ (s.fld (Reg.GYS_TMR_CTL k.val) 28 2)) 0 11 → (s.queuedOn l).length < 1024 →
      s.refreshes k.val (s.phys l) = false →
      ∃ t r, exec (.timerFire k) s = .next t ∧ t.gys.queued = s.gys.queued ++ [r] ∧ r.kind = .timer k.val ∧ r.tile = l ∧
        r.code = 62 ∧ r.entry = s.fld (Reg.GYS_TMR_ENTRY k.val) 0 19 ∧ r.frame = none ∧ r.stamp.time = s.now ∧
        t.timerDue k.val = false ∧ t = { s with gys := { s.gys with queued := t.gys.queued, fired := t.gys.fired } }) ∧
  (∀ (s : State) (l : Nat), s.timerDue 7 = true → s.gys.pendSwitch = none →
      s.flag (Reg.GYS_TMR_CTL 7) 27 = false → l = s.fld (Reg.GYS_TMR_CTL 7) 16 6 →
      s.flag (Reg.GYS_TMR_CTL 7) 30 = false → s.timerBusy 7 l = false → s.takesCapture l = true → s.activeBank ≠ 3 →
      ((s.queuedOn l).filter fun q => q.pclass == s.fld (Reg.GYS_TMR_CTL 7) 28 2).length <
        s.fld (Reg.GYS_CLSQ (s.fld (Reg.GYS_TMR_CTL 7) 28 2)) 0 11 → (s.queuedOn l).length < 1024 →
      s.refreshes 7 (s.phys l) = true →
      let block := memReadBytes s.gys.pool 0 1024
      let next := if ofLeBytes (memReadBytes s.gys.l (lAddr (s.phys l) paramPtr) 8) = copyA then copyB else copyA
      ∃ t, exec (.timerFire 7) s = .next t ∧ t.gys.queued = s.gys.queued ++ [s.timerRequest 7 l] ∧
        ofLeBytes (memReadBytes t.gys.l (lAddr (s.phys l) paramPtr) 8) = next ∧
        memReadBytes t.gys.l (lAddr (s.phys l) next) 1040 = block ++ derivedWords block ∧ t.gys.pool = s.gys.pool ∧
        t = { s with gys := { s.gys with queued := t.gys.queued, fired := t.gys.fired, l := t.gys.l },
                     rel := { s.rel with poison := t.rel.poison } }) ∧
  (∀ (s : State) (ag : Agent) (k : Fin 8) (v : Word), s.opens ag (Reg.GYS_TMR_CTL k.val + 8) →
      s.flag (Reg.GYS_TMR_CTL k.val) 31 = false → 4 ≤ bitsAt v 20 6 → bitsAt v 20 6 ≤ 20 → bitsAt v 0 20 < 2 ^ bitsAt v 20 6 →
      exec (.timerCtlWrite ag k 2 v) s = .next (s.plainWrite (Reg.GYS_TMR_PERIOD k.val) v)) ∧
  (∀ (s : State) (ag : Agent) (k : Fin 8) (v : Word), s.opens ag (Reg.GYS_TMR_CTL k.val + 8) →
      (s.flag (Reg.GYS_TMR_CTL k.val) 31 = true ∨ bitsAt v 20 6 < 4 ∨ 20 < bitsAt v 20 6 ∨ 2 ^ bitsAt v 20 6 ≤ bitsAt v 0 20) →
      exec (.timerCtlWrite ag k 2 v) s = .next (s.sticky Reg.GYS_STICKY Reg.GYS_STICKY_EN 10 138)) ∧
  (∀ (s : State) (p : Fin 72) (c : Fin 48) (l b : Nat), s.logical p.val = some l →
      (s.gys.initOwed.find? fun e => e.1 == l) = some (l, b, false) → (s.ctx p.val c.val).used = false →
      s.clusterRuns (l / 8) = true → l ∉ s.gys.coreFault →
      ∃ t, exec (.initContextStart p c) s = .next t ∧ (t.ctx p.val c.val).kind = .init b ∧
        (t.th (.tile p c)).status = .ready ∧ (t.th (.tile p c)).pc = (s.hdr b 3).toNat ∧
        (t.ctx p.val c.val).budget = 1048576 ∧ (t.ctx p.val c.val).pclass = 3 ∧
        t.gys.initOwed = s.gys.initOwed.filter (fun e => e.1 != l) ∧
        t = { s with gys := { s.gys with contexts := t.gys.contexts, initOwed := t.gys.initOwed, order := s.gys.order + 1 } }) ∧
  (∀ (s : State) (ag : Agent) (l : Fin 64), s.opens ag (Reg.GYS_MAP l.val) → s.flag (Reg.GYS_MAP l.val) 31 = false →
      (∀ r ∈ s.gys.queued, r.pclass < 4) →
      ∃ t, exec (.drainSet ag l) s = .next t ∧ t.flag (Reg.GYS_MAP l.val) 31 = true ∧ t.flag (Reg.GYS_MAP l.val) 30 = true ∧
        (∀ r ∈ t.gys.queued, r.tile = l.val → r.isFrame = false) ∧ t.gys.contexts = s.gys.contexts) ∧
  (∀ (s : State) (ag : Agent) (l : Fin 64), s.opens ag (Reg.GYS_MAP l.val) → s.flag (Reg.GYS_MAP l.val) 31 = true →
      s.flag (Reg.GYS_MAP l.val) 28 = false → s.activeBank ≠ 3 →
      ∃ t, exec (.drainClear ag l) s = .next t ∧ t.flag (Reg.GYS_MAP l.val) 31 = false ∧
        (l.val, s.activeBank, s.gys.initOwed.any fun e => e.1 == l.val && e.2.2) ∈ t.gys.initOwed ∧
        s.keepsRegs t [Reg.GYS_MAP l.val] ∧
        t = { s with regs := t.regs, gys := { s.gys with initOwed := t.gys.initOwed } }) ∧
  (∀ (s : State) (ag : Agent) (c : Fin 4) (v : Word), s.opens ag (Reg.GYS_CLSQ c.val) →
      (s.plainWrite (Reg.GYS_CLSQ c.val) v).quotaBad = false →
      ∃ t, exec (.clsqWrite ag c v) s = .next t ∧ t.fld (Reg.GYS_CLSQ c.val) 24 6 = bitsAt v 24 6 ∧
        t.fld (Reg.GYS_CLSQ c.val) 16 6 = bitsAt v 16 6 ∧ t.fld (Reg.GYS_CLSQ c.val) 0 11 = bitsAt v 0 11 ∧
        s.keepsRegs t [Reg.GYS_CLSQ c.val, Reg.GYS_STICKY] ∧ t = { s with regs := t.regs, raised := t.raised }) ∧
  (∀ (s : State) (ag : Agent) (c : Fin 4) (v : Word), s.opens ag (Reg.GYS_CLSQ c.val) →
      (s.plainWrite (Reg.GYS_CLSQ c.val) v).quotaBad = true →
      exec (.clsqWrite ag c v) s = .next (s.sticky Reg.GYS_STICKY Reg.GYS_STICKY_EN 10 138))

/-- A write of a bank or its header that is neither active nor still used by old contexts changes its four bytes, clears
VERIFIED and interrupts a check of that bank; any other is discarded with BANK_STAT.WRERR. VERIFY starts a check; it
ends with VERIFIED where every test passes, with ERR 9 where it was interrupted. A SWITCH that R158 admits pends,
one that it refuses gives its error code; at the switch instant the bank becomes active and every tile owes its init
context. (05_responder_execution.md) -/
def Obligations.ProgramBanks : Prop :=
  (∀ (s : State) (b : Fin 2) (i : Fin 524288) (v : Word), s.pdUp PD_FABRIC = true → s.bankLocked b.val = false →
      s.partlyPoisoned memProgram (2 ^ 21 * b.val + 4 * i.val) 4 = none →
      ∃ t, exec (.bankWrite b i v) s = .next t ∧ ofLeBytes (memReadBytes t.gys.banks (2 ^ 21 * b.val + 4 * i.val) 4) = v.toNat ∧
        (∀ a, a < 2 ^ 21 * b.val + 4 * i.val ∨ 2 ^ 21 * b.val + 4 * i.val + 4 ≤ a → memRead t.gys.banks a = memRead s.gys.banks a) ∧
        t.flag Reg.GYS_BANK_STAT b.val = false ∧ s.keepsRegs t [Reg.GYS_BANK_STAT] ∧
        (∀ d, s.gys.check = some (b.val, d) → t.gys.check = some (b.val, true)) ∧
        t = { s with regs := t.regs, rel := { s.rel with poison := t.rel.poison },
                     gys := { s.gys with banks := t.gys.banks, check := t.gys.check } }) ∧
  (∀ (s : State) (b : Fin 2) (i : Fin 524288) (v : Word), s.pdUp PD_FABRIC = true → s.bankLocked b.val = true →
      exec (.bankWrite b i v) s =
        .next ((s.setFlag Reg.GYS_BANK_STAT 24 true).sticky Reg.GYS_STICKY Reg.GYS_STICKY_EN 9 137)) ∧
  (∀ (s : State) (ag : Agent) (b : Fin 2) (i : Fin 128) (v : Word),
      s.opens ag (if b.val = 0 then Reg.GYS_HDRA i.val else Reg.GYS_HDRB i.val) → s.bankLocked b.val = false →
      ∃ t, exec (.bankHeaderWrite ag b i v) s = .next t ∧ t.hdr b.val i.val = v ∧ t.flag Reg.GYS_BANK_STAT b.val = false ∧
        s.keepsRegs t [Reg.GYS_BANK_STAT, if b.val = 0 then Reg.GYS_HDRA i.val else Reg.GYS_HDRB i.val] ∧
        t = { s with regs := t.regs, gys := { s.gys with check := t.gys.check } }) ∧
  (∀ (s : State) (ag : Agent) (b : Fin 2), s.opens ag Reg.GYS_BANK_CTL → s.flag Reg.GYS_STATUS 4 = false →
      ∃ t, exec (.bankVerify ag b) s = .next t ∧ t.flag Reg.GYS_STATUS 4 = true ∧ t.fld Reg.GYS_BANK_STAT 16 8 = 0 ∧
        t.gys.check = some (b.val, false) ∧ s.keepsRegs t [Reg.GYS_STATUS, Reg.GYS_BANK_STAT] ∧
        t = { s with regs := t.regs, gys := { s.gys with check := t.gys.check } }) ∧
  (∀ (s : State) (b : Nat), s.gys.check = some (b, false) → b < 2 → s.verifyError b = none →
      exec .verifyDone s = .next (((({ s with gys := { s.gys with check := none } }).setFlag Reg.GYS_STATUS 4 false).setFlag
        Reg.GYS_BANK_STAT b true).raise 142)) ∧
  (∀ (s : State) (b : Nat), s.gys.check = some (b, true) →
      exec .verifyDone s = .next ((((({ s with gys := { s.gys with check := none } }).setFlag Reg.GYS_STATUS 4 false).setFld
        Reg.GYS_BANK_STAT 16 8 9).sticky Reg.GYS_STICKY Reg.GYS_STICKY_EN 9 137).raise 142)) ∧
  (∀ (s : State) (ag : Agent) (b : Fin 2) (q : Bool), s.opens ag Reg.GYS_BANK_CTL → s.switchError b.val = none →
      s.activeBank ≠ 3 →
      ∃ t, exec (.bankSwitch ag b q) s = .next t ∧ t.gys.pendSwitch = some (b.val, q) ∧ t.flag Reg.GYS_STATUS 2 = true ∧
        t.activeBank = s.activeBank ∧ s.keepsRegs t [Reg.GYS_STATUS, Reg.GYS_BANK_STAT] ∧
        t = { s with regs := t.regs, gys := { s.gys with pendSwitch := t.gys.pendSwitch } }) ∧
  (∀ (s : State) (ag : Agent) (b : Fin 2) (q : Bool) (e : Nat), s.opens ag Reg.GYS_BANK_CTL → s.switchError b.val = some e →
      exec (.bankSwitch ag b q) s =
        .next ((s.setFld Reg.GYS_BANK_STAT 16 8 e).sticky Reg.GYS_STICKY Reg.GYS_STICKY_EN 9 137)) ∧
  (∀ (s : State) (b : Nat) (q : Bool), s.gys.pendSwitch = some (b, q) → b < 2 →
      ∃ t, exec .switchInstant s = .next t ∧ t.activeBank = b ∧ t.flag Reg.GYS_STATUS 2 = false ∧ t.gys.pendSwitch = none ∧
        (⟨140, 0, 0⟩ : Raise) ∈ t.raised ∧ t.gys.initOwed = s.initTiles.map (fun l => (l, b, q)) ∧
        s.keepsRegs t [Reg.GYS_STATUS] ∧ t.gys.queued = s.gys.queued ∧ t.gys.contexts = s.gys.contexts ∧
        t = { s with regs := t.regs, raised := t.raised, gys := t.gys })

/-- CJOB with a permitted descriptor joins its cluster's queue and becomes the operation outstanding; a full queue
stalls the context until there is room. JOB_DISPATCH gives the next cluster's oldest job to the lowest idle
pipeline. A SHA-256 job writes the digest to L with status 0 and RES = 0; a mismatch gives PIPE_FAULT and suspects
the pipeline; disabling the block ends queued jobs UNAVAIL. A known-answer test that fails retires the pipeline. The
nonce generator stops on a health failure and restarts after a passing reseed. (07_nts_crypto_keystore.md,
04_walzor_instruction_set.md) -/
def Obligations.CryptoJobs : Prop :=
  (∀ (s : State) (p : Fin 72) (c : Fin 48),
    let x : Ctx := .tile p c
    let w := s.fetch x
    let a := (s.g x (fRa w)).toNat
    s.issues x encCjob longAB = true → s.lPermits (s.ctx p.val c.val) c.val a 64 true = true → a % 64 = 0 →
      (∀ r ∈ (descriptorOf (s.jobL p.val a 64)).rangesL (fImm6 w), s.lPermits (s.ctx p.val c.val) c.val r.1 r.2 true = true) → s.jobsQueued (p.val / 9) < 256 →
      exec (.cjob x) s = .next (State.ranOn { s with cry := { s.cry with queued := s.cry.queued ++ [(p.val, c.val)] } } x
        { s.th x with op := some ⟨.job a (s.g x (fRb w)) (fImm6 w), some (fRd w), (s.th x).pc⟩ })) ∧
  (∀ (s : State) (p : Fin 72) (c : Fin 48),
    let x : Ctx := .tile p c
    let w := s.fetch x
    let a := (s.g x (fRa w)).toNat
    s.issues x encCjob longAB = true → s.lPermits (s.ctx p.val c.val) c.val a 64 true = true → a % 64 = 0 →
      (∀ r ∈ (descriptorOf (s.jobL p.val a 64)).rangesL (fImm6 w), s.lPermits (s.ctx p.val c.val) c.val r.1 r.2 true = true) → 256 ≤ s.jobsQueued (p.val / 9) →
      exec (.cjob x) s = .next (s.setStatus x (.blocked .jobQueue))) ∧
  (∀ (s : State) (p : Fin 72) (c : Fin 48),
    let x : Ctx := .tile p c
    let u := s.setStatus x .ready
    let w := u.fetch x
    let a := (u.g x (fRa w)).toNat
    (s.th x).status = .blocked .jobQueue → s.jobsQueued (p.val / 9) < 256 →
      u.issues x encCjob longAB = true → u.lPermits (u.ctx p.val c.val) c.val a 64 true = true → a % 64 = 0 →
      (∀ r ∈ (descriptorOf (u.jobL p.val a 64)).rangesL (fImm6 w), u.lPermits (u.ctx p.val c.val) c.val r.1 r.2 true = true) →
      exec (.cjobQueueRoom p c) s = .next (State.ranOn { u with cry := { u.cry with queued := u.cry.queued ++ [(p.val, c.val)] } } x
        { u.th x with op := some ⟨.job a (u.g x (fRb w)) (fImm6 w), some (fRd w), (u.th x).pc⟩ })) ∧
  (∀ (s : State) (k i p c : Nat), s.cryptoOn = true → s.flag Reg.CRY_STATUS 0 = true → s.nextCluster = some k →
      ((List.range 16).find? fun i => s.pipeIdle i) = some i → (s.cry.queued.find? fun j => j.1 / 9 == k) = some (p, c) →
      exec .jobDispatch s = .next { s with cry := { s.cry with
        queued := s.cry.queued.erase (p, c), running := s.cry.running ++ [(i, p, c, s.bindSlot p c)], next := (k + 1) % 8 } }) ∧
  (∀ (s : State) (p : Fin 72) (c : Fin 48) (i desc rd pc : Nat) (aux : Word64) (slot : Option Nat),
    let d := descriptorOf (s.jobL p.val desc 64)
    (s.th (.tile p c)).op = some ⟨.job desc aux 0x08, some rd, pc⟩ → (s.th (.tile p c)).status = .waiting →
      (s.cry.running.find? fun r => r.2.1 == p.val && r.2.2.1 == c.val) = some (i, p.val, c.val, slot) →
      s.jobInputPoisoned p.val c.val desc 0x08 = none → (p.val, c.val) ∉ s.cry.spoiled →
      aux.toNat / 16 % 16 = 0 → aux.toNat / 512 = 0 → d.reserved = List.replicate 40 0 → 1 ≤ d.la → d.la ≤ 4096 → d.dl + 32 ≤ 2 ^ 19 →
      s.flag Reg.CRY_STATUS 2 = true →
      ∃ t, exec (.cjobComplete p c .none) s = .next t ∧ t.g (.tile p c) rd = 0 ∧ (t.th (.tile p c)).res = false ∧
        (t.th (.tile p c)).op = none ∧ (t.th (.tile p c)).status = .ready ∧
        memReadBytes t.gys.l (lAddr p.val d.dl) 32 = sized 32 (sha256 (s.jobL p.val d.kl d.la)) ∧
        (∀ a, a < lAddr p.val d.dl ∨ lAddr p.val d.dl + 32 ≤ a → memRead t.gys.l a = memRead s.gys.l a) ∧
        t.fld Reg.CRY_CNT_JOB 0 32 = min (2 ^ 32 - 1) (s.fld Reg.CRY_CNT_JOB 0 32 + 1) ∧ s.keepsRegs t [Reg.CRY_CNT_JOB]) ∧
  (∀ (s : State) (p : Fin 72) (c : Fin 48) (i desc code rd pc : Nat) (aux : Word64) (slot : Option Nat),
      (s.th (.tile p c)).op = some ⟨.job desc aux code, some rd, pc⟩ → (s.th (.tile p c)).status = .waiting →
      (s.cry.running.find? fun r => r.2.1 == p.val && r.2.2.1 == c.val) = some (i, p.val, c.val, slot) → 0 < rd →
      ∃ t, exec (.cjobComplete p c .mismatch) s = .next t ∧ t.g (.tile p c) rd = 0x09 ∧ (t.th (.tile p c)).res = true ∧
        i ∈ t.cry.testing ∧ (i < 16 → t.flag Reg.CRY_STATUS (16 + i) = false) ∧
        t.fld Reg.CRY_CNT_FAIL 0 32 = min (2 ^ 32 - 1) (s.fld Reg.CRY_CNT_FAIL 0 32 + 1)) ∧
  (∀ (s : State) (ag : Agent) (kat : Bool), s.opens ag Reg.CRY_CTRL → s.cry.queued = [] →
      ∃ t, exec (.cryptoDisable ag kat) s = .next t ∧ t.flag Reg.CRY_CTRL 0 = false ∧ t.flag Reg.CRY_CTRL 8 = kat ∧
        s.keepsRegs t [Reg.CRY_CTRL] ∧ t = { s with regs := t.regs }) ∧
  (∀ (s : State) (ag : Agent) (kat : Bool) (p : Fin 72) (c : Fin 48) (desc code rd pc : Nat) (aux : Word64),
      s.opens ag Reg.CRY_CTRL → s.cry.queued = [(p.val, c.val)] →
      (s.th (.tile p c)).op = some ⟨.job desc aux code, some rd, pc⟩ → (s.th (.tile p c)).status = .waiting → 0 < rd →
      ∃ t, exec (.cryptoDisable ag kat) s = .next t ∧ t.flag Reg.CRY_CTRL 0 = false ∧ t.cry.queued = [] ∧
        t.g (.tile p c) rd = 0x07 ∧ (t.th (.tile p c)).res = true) ∧
  (∀ (s : State) (i : Fin 16), s.pd PD_CRYPTO = pdOn → s.flag Reg.CRY_STATUS 0 = true → s.flag Reg.CRY_CTRL 8 = true →
      s.pipeIdle i.val = true → i.val * 62500000 ≤ ct96Ns s.now →
      exec (.pipeKat i) s = .next { s with cry := { s.cry with testing := s.cry.testing ++ [i.val] } }) ∧
  (∀ (s : State) (i : Fin 16), i.val ∈ s.cry.testing → s.testRuns (0x3000 + i.val) 0 = false →
      (0x3000 + i.val, 0) ∉ s.rel.waiting →
      exec (.katDone i false) s = .next { s with cry := { s.cry with testing := s.cry.testing.filter (· != i.val) } }) ∧
  (∀ (s : State) (i : Fin 16), i.val ∈ s.cry.testing → s.testRuns (0x3000 + i.val) 0 = false →
      (0x3000 + i.val, 0) ∉ s.rel.waiting →
      ∃ t, exec (.katDone i true) s = .next t ∧ t.flag Reg.CRY_STATUS (16 + i.val) = false ∧
        t.flag Reg.CRY_STICKY 1 = true ∧ t.flag Reg.CRY_STICKY 2 = true ∧ 0x3000 + i.val ∈ t.rel.retired ∧
        (⟨228, 0, 0⟩ : Raise) ∈ t.raised ∧ s.keepsRegs t [Reg.CRY_STATUS, Reg.CRY_STICKY]) ∧
  (∀ (s : State), s.pd PD_CRYPTO = pdOn →
      exec .drbgHealthFail s = .next ((s.setFlag Reg.CRY_STATUS 3 false).sticky Reg.CRY_STICKY Reg.CRY_STICKY_EN 3 163)) ∧
  (∀ (s : State), s.pd PD_CRYPTO = pdOn → s.flag Reg.CRY_STATUS 0 = true → s.flag Reg.CRY_STATUS 3 = false →
      exec (.drbgReseedRetry true) s = .next { s.setFlag Reg.CRY_STATUS 3 true with cry := { s.cry with requests := 0 } } ∧
        exec (.drbgReseedRetry false) s =
          .next ((s.setFlag Reg.CRY_STATUS 3 false).sticky Reg.CRY_STICKY Reg.CRY_STICKY_EN 3 163)) ∧
  (∀ (s : State) (p : Fin 72) (c : Fin 48) (i desc code rd pc : Nat) (aux : Word64) (slot : Option Nat),
      (s.th (.tile p c)).op = some ⟨.job desc aux code, some rd, pc⟩ → (s.th (.tile p c)).status = .waiting →
      (s.cry.running.find? fun r => r.2.1 == p.val && r.2.2.1 == c.val) = some (i, p.val, c.val, slot) →
      s.jobInputPoisoned p.val c.val desc code = none → (p.val, c.val) ∈ s.cry.spoiled →
      ∃ t, exec (.cjobComplete p c .none) s = .next t ∧ (t.th (.tile p c)).op = none ∧ (t.th (.tile p c)).status = .ready ∧
        (p.val, c.val) ∉ t.cry.spoiled)

/-- LOAD of a key that unwraps puts it into an empty slot in ACCEPT, any other gives its error; the wrapped words are
zeroed in both outcomes. SETCUR makes a slot CURRENT and the former one ACCEPT; RETIRE drains a slot that is not
CURRENT, which is zeroed when no job uses it. A host mint writes a cookie under the CURRENT slot or gives its
status. An anchor entry is written once; a second write is refused with its data kept. (07_nts_crypto_keystore.md) -/
def Obligations.KeysAndAnchors : Prop :=
  (∀ (s : State) (ag : Agent) (slot : Fin 64) (len : Fin 256) (id ktype : Nat) (key : List Byte), s.opens ag Reg.CRY_KCMD →
      s.loadOutcome slot.val len.val = .ok (id, ktype, key) →
      ∃ t, exec (.keyLoad ag slot len) s = .next t ∧ t.keyState slot.val = 1 ∧ t.keyId slot.val = id % 2 ^ 32 ∧
        t.keyOf slot.val = key ∧ t.flag (Reg.CRY_KSLOT slot.val) 4 = decide (ktype = 1) ∧ t.fld Reg.CRY_KSTAT 0 8 = 0 ∧
        t.stagedBytes (Reg.CRY_WRAPIN 0) 20 = List.replicate 80 0 ∧
        s.keepsRegs t [Reg.CRY_KSLOT slot.val, Reg.CRY_KID slot.val, Reg.CRY_KSTAT] ∧
        t = { s with regs := t.regs, staged := t.staged, cry := { s.cry with keys := t.cry.keys } }) ∧
  (∀ (s : State) (ag : Agent) (slot : Fin 64) (len : Fin 256) (e : Nat), s.opens ag Reg.CRY_KCMD →
      s.loadOutcome slot.val len.val = .error e →
      ∃ t, exec (.keyLoad ag slot len) s = .next t ∧ t.fld Reg.CRY_KSTAT 0 8 = e % 2 ^ 8 ∧ t.flag Reg.CRY_STICKY 5 = true ∧
        t.stagedBytes (Reg.CRY_WRAPIN 0) 20 = List.replicate 80 0 ∧ t.cry = s.cry ∧
        s.keepsRegs t [Reg.CRY_KSTAT, Reg.CRY_STICKY]) ∧
  (∀ (s : State) (ag : Agent) (slot : Fin 64), s.opens ag Reg.CRY_KCMD → s.keyState slot.val = 1 →
      (∀ n : Fin 64, s.keyState n.val = 2 → s.currentSlot = some n.val) →
      ∃ t, exec (.keySetcur ag slot) s = .next t ∧ t.keyState slot.val = 2 ∧ t.currentSlot = some slot.val ∧
        (∀ n : Fin 64, s.keyState n.val = 2 → t.keyState n.val = 1) ∧
        t.fld Reg.CRY_KSTAT 16 6 = slot.val ∧ t.flag Reg.CRY_STATUS 1 = true ∧ t = { s with regs := t.regs }) ∧
  (∀ (s : State) (ag : Agent) (slot : Fin 64), s.opens ag Reg.CRY_KCMD → (s.keyState slot.val = 1 ∨ s.keyState slot.val = 4) →
      exec (.keyRetire ag slot) s = .next ((s.setFld (Reg.CRY_KSLOT slot.val) 0 3 3).setFld Reg.CRY_KSTAT 0 8 0)) ∧
  (∀ (s : State) (ag : Agent) (slot : Fin 64), s.opens ag Reg.CRY_KCMD → s.keyState slot.val = 2 →
      exec (.keyRetire ag slot) s =
        .next ((s.setFld Reg.CRY_KSTAT 0 8 5).sticky Reg.CRY_STICKY Reg.CRY_STICKY_EN 5 165)) ∧
  (∀ (s : State) (n : Fin 64), s.keyState n.val = 3 → (∀ r ∈ s.cry.running, r.2.2.2 ≠ some n.val) →
      ∃ t, exec (.slotDrainEnd n) s = .next t ∧ t.keyState n.val = 0 ∧ t.keyId n.val = 0 ∧ t.keyOf n.val = [] ∧
        s.keepsRegs t [Reg.CRY_KSLOT n.val, Reg.CRY_KID n.val] ∧ t = { s with regs := t.regs, cry := { s.cry with keys := t.cry.keys } }) ∧
  (∀ (s : State) (ag : Agent), s.opens ag Reg.CRY_HMINT_CTL → s.flag Reg.CRY_HMINT_CTL 0 = false →
      exec (.hostMint ag) s = .next ((s.setFlag Reg.CRY_HMINT_CTL 16 false).setFlag Reg.CRY_HMINT_CTL 0 true)) ∧
  (∀ (s : State) (i n : Nat), s.flag Reg.CRY_HMINT_CTL 0 = true → s.cryptoTakes = true →
      ((List.range 16).find? fun i => s.pipeIdle i) = some i → s.currentSlot = some n → s.flag Reg.CRY_STATUS 3 = true → n < 64 →
      ∃ t, exec (.hostMintDone .none) s = .next t ∧ t.flag Reg.CRY_HMINT_CTL 0 = false ∧ t.fld Reg.CRY_HMINT_CTL 8 8 = 0 ∧
        t.flag Reg.CRY_HMINT_CTL 16 = true ∧ t.rd (Reg.CRY_HMINT_OUT 0) = BitVec.ofNat 32 (ofLeBytes (beBytes 4 (s.keyId n))) ∧
        t.fld (Reg.CRY_KSLOT n) 16 16 = min (2 ^ 16 - 1) (s.fld (Reg.CRY_KSLOT n) 16 16 + 1) ∧ t.staged = s.staged) ∧
  (∀ (s : State) (ev : JobEvent), s.flag Reg.CRY_HMINT_CTL 0 = true → s.cryptoTakes = false →
      exec (.hostMintDone ev) s = .next (((s.setFlag Reg.CRY_HMINT_CTL 0 false).setFld Reg.CRY_HMINT_CTL 8 8 7).sticky
        Reg.CRY_STICKY Reg.CRY_STICKY_EN 7 167)) ∧
  (∀ (s : State) (ev : JobEvent) (i : Nat), s.flag Reg.CRY_HMINT_CTL 0 = true → s.cryptoTakes = true →
      ((List.range 16).find? fun i => s.pipeIdle i) = some i → s.currentSlot = none →
      exec (.hostMintDone ev) s = .next (((s.setFlag Reg.CRY_HMINT_CTL 0 false).setFld Reg.CRY_HMINT_CTL 8 8 6).sticky
        Reg.CRY_STICKY Reg.CRY_STICKY_EN 7 167)) ∧
  (∀ (s : State) (i n : Nat), s.flag Reg.CRY_HMINT_CTL 0 = true → s.cryptoTakes = true →
      ((List.range 16).find? fun i => s.pipeIdle i) = some i → s.currentSlot = some n →
      ∃ t, exec (.hostMintDone .mismatch) s = .next t ∧ t.flag Reg.CRY_HMINT_CTL 0 = false ∧
        t.fld Reg.CRY_HMINT_CTL 8 8 = 9 ∧ t.flag Reg.CRY_STICKY 7 = true ∧ t.flag Reg.CRY_STATUS (16 + i) = false ∧
        i ∈ t.cry.testing) ∧
  (∀ (s : State) (ag : Agent) (e ty : Fin 16) (n : Nat), s.opens ag Reg.CRY_ANCH_CTL → s.flag Reg.CRY_ANCH_STAT e.val = false →
      anchorSize ty.val = some n →
      ∃ t, exec (.anchorWrite ag e ty) s = .next t ∧ t.flag Reg.CRY_ANCH_STAT e.val = true ∧ t.fld Reg.CRY_ANCH_CTL 8 8 = 0 ∧
        (e.val, ty.val, (s.stagedBytes (Reg.CRY_ANCH_DATA 0) 32).take n) ∈ t.cry.anchors ∧
        s.keepsRegs t [Reg.CRY_ANCH_STAT, Reg.CRY_ANCH_CTL] ∧
        t = { s with regs := t.regs, cry := { s.cry with anchors := t.cry.anchors } }) ∧
  (∀ (s : State) (ag : Agent) (e ty : Fin 16), s.opens ag Reg.CRY_ANCH_CTL → s.flag Reg.CRY_ANCH_STAT e.val = true →
      exec (.anchorWrite ag e ty) s =
        .next ((s.setFld Reg.CRY_ANCH_CTL 8 8 1).sticky Reg.CRY_STICKY Reg.CRY_STICKY_EN 6 166))

/-- An injection with a time of the last 2 s and valid fields, its registers free, is queued and sets BUSY; any other
sets SEL_ERR.INJ. ALIGN arms the step in ALIGN_PENDING, FORCE_SLEW slews there, WTR_CLR ends a wait-to-restore and
else is ignored, LOAD_SEED takes the seed in STAGED and ACQUIRE, RELEARN clears the model; each is refused in other
states and while an ALIGN is unfinished. The alignment step is written in its window of the second.
(08_reference_selection_holdover.md) -/
def Obligations.SelectorCommands : Prop :=
  (∀ (s : State) (ag : Agent) (m : Fin 2) (v : Word), s.opens ag (Reg.SEL_INJ_CTL m.val) → bitAt v 31 = true →
      s.injectRefused m.val (s.injection m.val v) = false →
      ∃ t, exec (.inject ag m v) s = .next t ∧ t.flag (Reg.SEL_INJ_CTL m.val) 0 = true ∧
        t.sel.injected = s.sel.injected ++ [(14 + m.val, ⟨bitAt v 30, bitsAt v 28 2, s.rd96 (Reg.SEL_INJ_OFF_W0 m.val),
          s.rd96 (Reg.SEL_INJ_AT_W0 m.val)⟩)] ∧
        s.keepsRegs t [Reg.SEL_INJ_CTL m.val] ∧ t = { s with regs := t.regs, sel := { s.sel with injected := t.sel.injected } }) ∧
  (∀ (s : State) (ag : Agent) (m : Fin 2) (v : Word), s.opens ag (Reg.SEL_INJ_CTL m.val) → bitAt v 31 = true →
      (s.tick < ct96ToFrac (s.rd96 (Reg.SEL_INJ_AT_W0 m.val)) ∨
        (ct96ToFrac (s.rd96 (Reg.SEL_INJ_AT_W0 m.val)) : Int) < s.tick - 2 * (10 ^ 9 * 2 ^ 16) ∨
        s.flag (Reg.SEL_INJ_CTL m.val) 0 = true ∨ ct96Valid (s.rd96 (Reg.SEL_INJ_AT_W0 m.val)) = false ∨
        ct96Valid (s.rd96 (Reg.SEL_INJ_OFF_W0 m.val)) = false) →
      exec (.inject ag m v) s = .next (s.selError 5 (14 + m.val))) ∧
  (∀ (s : State) (bit n : Nat), s.flag Reg.SEL_ERR bit = false →
      (s.selError bit n).raised = s.raised ++ [⟨43, BitVec.ofNat 32 n, 0⟩]) ∧
  (∀ (s : State) (n : Nat), s.selFirmware = true → s.cur = some n → s.steers = true → s.mode = modeAcquire →
      s.flag Reg.CAL_STATUS 17 = false → s.flag Reg.SEL_CTRL 2 = true → s.sel.aligning = some true → s.alignWindow = true → exec .initAlignStep s = .next (s.writeStep (s.absoluteStep n) true true)) ∧
  (∀ (s : State) (ag : Agent) (v : Word), s.opens ag Reg.SEL_CMD → bitAt v 31 = true → bitsAt v 24 3 = 1 → s.sel.aligning ≠ some false → s.sel.wrote ≠ some false → s.dstate = dsAlign →
      exec (.selAlign ag v) s = .next { s with sel := { s.sel with aligning := some false } }) ∧
  (∀ (s : State) (ag : Agent) (v : Word), s.opens ag Reg.SEL_CMD → bitAt v 31 = true → bitsAt v 24 3 = 1 → s.sel.aligning ≠ some false → s.sel.wrote ≠ some false → s.dstate ≠ dsAlign →
      exec (.selAlign ag v) s = .next (s.selError 3 (s.cur.getD 0))) ∧
  (∀ (s : State) (ag : Agent) (v : Word), s.opens ag Reg.SEL_CMD → bitAt v 31 = true → bitsAt v 24 3 = 1 →
      (s.sel.aligning = some false ∨ s.sel.wrote = some false) →
      exec (.selAlign ag v) s = .next (s.selError 2)) ∧
  (∀ (s : State) (n : Nat), s.selFirmware = true → s.cur = some n → s.steers = true → s.dstate = dsAlign →
      s.sel.aligning = some false →
      s.alignWindow = true → s.flag Reg.CAL_STATUS 17 = true →
      exec .alignStepWrite s = .next (State.writeStep { s with sel := { s.sel with aligning := none } }
        (ct96OfSigned (s.slot n).x) false false)) ∧
  (∀ (s : State) (ag : Agent) (v : Word) (n : Nat), s.opens ag Reg.SEL_CMD → bitAt v 31 = true → bitsAt v 24 3 = 2 → s.sel.aligning ≠ some false → s.sel.wrote ≠ some false → s.cur = some n → s.dstate = dsAlign →
      exec (.selForceSlew ag v) s = .next (s.enterSlew n).settle) ∧
  (∀ (s : State) (ag : Agent) (v : Word), s.opens ag Reg.SEL_CMD → bitAt v 31 = true → bitsAt v 24 3 = 2 → s.sel.aligning ≠ some false → s.sel.wrote ≠ some false → s.dstate ≠ dsAlign →
      exec (.selForceSlew ag v) s = .next (s.selError 3 (s.cur.getD 0))) ∧
  (∀ (s : State) (ag : Agent) (v : Word), s.opens ag Reg.SEL_CMD → bitAt v 31 = true → bitsAt v 24 3 = 3 → s.sel.aligning ≠ some false → s.sel.wrote ≠ some false → s.slotState (bitsAt v 0 4) = slWtr →
      exec (.selWtrClr ag v) s = .next ((((s.toState (bitsAt v 0 4) slQualified 0).examine).evaluate).settle)) ∧
  (∀ (s : State) (ag : Agent) (v : Word), s.opens ag Reg.SEL_CMD → bitAt v 31 = true → bitsAt v 24 3 = 3 → s.sel.aligning ≠ some false → s.sel.wrote ≠ some false → s.slotState (bitsAt v 0 4) ≠ slWtr →
      exec (.selWtrClr ag v) s = .next s) ∧
  (∀ (s : State) (ag : Agent) (v : Word), s.opens ag Reg.SEL_CMD → bitAt v 31 = true → bitsAt v 24 3 = 4 → s.sel.aligning ≠ some false → s.sel.wrote ≠ some false → (s.mode = modeStaged ∨ s.mode = modeAcquire) →
      ∃ t, exec (.selLoadSeed ag v) s = .next t ∧ t.flag Reg.SEL_STATUS 25 = true ∧ t.sel = { s.sel with model := s.seedModel, seeded := s.seedModel } ∧
        s.keepsRegs t (Reg.SEL_STATUS :: (List.range 10).map Reg.SEL_MOD) ∧ t = { s with regs := t.regs, sel := t.sel }) ∧
  (∀ (s : State) (ag : Agent) (v : Word), s.opens ag Reg.SEL_CMD → bitAt v 31 = true → bitsAt v 24 3 = 4 → s.sel.aligning ≠ some false → s.sel.wrote ≠ some false → s.mode ≠ modeStaged → s.mode ≠ modeAcquire →
      exec (.selLoadSeed ag v) s = .next (s.selError 4)) ∧
  (∀ (s : State) (ag : Agent) (v : Word), s.opens ag Reg.SEL_CMD → bitAt v 31 = true → bitsAt v 24 3 = 5 → s.sel.aligning ≠ some false → s.sel.wrote ≠ some false →
      ∃ t, exec (.selRelearn ag v) s = .next t ∧ t.flag Reg.SEL_STATUS 25 = false ∧
        t.sel = { s.sel with model := Model.reset, seeded := Model.reset, samples := [] } ∧
        s.keepsRegs t (Reg.SEL_STATUS :: (List.range 10).map Reg.SEL_MOD) ∧ t = { s with regs := t.regs, sel := t.sel })

/-- A measurement with a suspect stamp is counted and dropped; any other is taken through the checks, the state,
disagreement, selection and the loop. Of a second's exchanges the one with the least path delay gives the offset; a
PHASE slot's x is reduced to half a second. A second without a measurement runs the checks. In HOLD the correction
is yref of the aid, else yho; a correction is held within R42. While learning a sample of y and T joins the window;
a refit replaces the model and raises source 41. (08_reference_selection_holdover.md) -/
def Obligations.MeasurementsAndModel : Prop :=
  (∀ (s : State) (n : Fin 16) (r : Reading) (b : Bool), s.selFirmware = true → s.readingSuspect n.val r b = true →
      exec (.slotMeasurement n r b) s = .next ((s.noteMaster n.val r).bump (Reg.SEL_SLOT_DCNT n.val) 0 32)) ∧
  (∀ (s : State) (n : Fin 16) (r : Reading) (b : Bool) (at_ m : Int), s.selFirmware = true →
      s.readingSuspect n.val r b = false → s.measured n.val r = some (at_, m) → s.rank n.val ≠ 0 →
      exec (.slotMeasurement n r b) s =
        .next ((((s.noteMaster n.val r).freeInjection n.val).noteJump n.val at_ m).accept n.val at_ m)) ∧
  (∀ (s : State) (n : Fin 16) (r : Reading) (b : Bool) (at_ m : Int), s.selFirmware = true →
      s.readingSuspect n.val r b = false → s.measured n.val r = some (at_, m) → s.rank n.val = 0 →
      exec (.slotMeasurement n r b) s =
        .next ((((s.noteMaster n.val r).freeInjection n.val).noteJump n.val at_ m).observe n.val at_ m)) ∧
  (∀ (s : State) (n : Fin 16) (m : BitVec 80) (e : Exchange), 5 ≤ n.val → n.val ≤ 12 → e ∈ s.exchanges n.val m.toNat →
      (∀ d ∈ s.exchanges n.val m.toNat, d ≠ e → exchangeDelay e < exchangeDelay d) →
      s.measured n.val (.client m) = some (s.tick, exchangeOffset e) ∧
        (∀ b, s.readingSuspect n.val (.client m) b = e.suspect)) ∧
  (∀ (s : State) (n : Nat) (m : Int), s.freqKind n = false → s.todKind n = false →
      -(tickSec : Int) < 2 * s.finalX n m ∧ 2 * s.finalX n m ≤ tickSec ∧ (s.finalX n m - (m + s.comp n)) % tickSec = 0) ∧
  (∀ (s : State) (n : Fin 16), s.selFirmware = true → s.rank n.val ≠ 0 →
      (∀ t, (s.slot n.val).seen = some t → tickSec ≤ s.tick - t) →
      exec (.slotSecondCheck n) s = .next ((((s.checkSlot n.val).examine).evaluate).settle)) ∧
  (∀ (s : State), s.selFirmware = true → exec .selectorSecond s = .next ((((s.readTemp).examine).evaluate).settle)) ∧
  (∀ (s : State), s.selFirmware = true → s.steers = true → (s.dstate = dsHold ∨ s.dstate = dsSlewHold) →
      s.sel.aid = none → exec .holdUpdate s = .next (s.steer s.yho).settle) ∧
  (∀ (s : State) (n : Nat), s.selFirmware = true → s.steers = true → (s.dstate = dsHold ∨ s.dstate = dsSlewHold) →
      s.sel.aid = some n → exec .holdUpdate s = .next (s.steer (s.yref n)).settle) ∧
  (∀ (s : State) (y : Rat), (s.steer y).sel = { s.sel with y := max (-(1 / 1000)) (min (1 / 1000) y) }) ∧
  (∀ (s : State), s.selFirmware = true → s.learning = true →
      ∃ t, exec .modelSample s = .next t ∧
        t.sel.samples = ⟨s.tick, s.yEffect, s.sel.temp, s.sel.slope⟩ ::
          s.sel.samples.filter (fun p => decide (s.tick - s.fld Reg.SEL_HOCTL 16 8 * 86400 * tickSec ≤ p.time)) ∧
        t.sel.model = { s.sel.model with tm := some (s.sel.model.tm.getD (ct96Sec s.now)),
                                         t0 := some (s.sel.model.t0.getD s.sel.temp) } ∧
        (s.fld Reg.SEL_HOCTL 8 8 * 3600 ≤ 100 * t.sel.samples.length → t.mvalid = true) ∧
        s.keepsRegs t (Reg.SEL_STATUS :: (List.range 10).map Reg.SEL_MOD) ∧ t = { s with regs := t.regs, sel := t.sel }) ∧
  (∀ (s : State) (m : Model) (rms se : Rat), s.selFirmware = true → s.fit = some (m, rms, se) →
      ∃ t, exec .modelRefit s = .next t ∧ t.sel = { s.sel with model := m } ∧ (⟨41, 0, 0⟩ : Raise) ∈ t.raised ∧
        s.keepsRegs t (Reg.SEL_LRN_FU :: Reg.SEL_LRN_AU :: (List.range 10).map Reg.SEL_MOD) ∧
        t = { s with regs := t.regs, raised := t.raised, sel := t.sel })

/-- An edge command for PPSOUTn is sent 128 ticks ahead for a second that is a multiple of NSEC; its pulse shows the
label in DRY_PPS_LAST and takes CTL and WIDTH as sent, or is skipped and counted while a pulse is high. The end of
the width completes a stop that waited. WIDTH and CKMON are written within their ranges and refused outside. The
TODOUT message is composed with READY, sent or counted late at its start, and counted with the next sequence number
at its end. (09_time_outputs.md) -/
def Obligations.PlacedOutputs : Prop :=
  (∀ (s : State) (n : Fin 4), exec (.edgeCommand (.pps n)) s = .next (s.schedulePps n.val).dryRefresh) ∧
  (∀ (s : State) (n : Fin 4) (sec : Nat), (s.pps n.val).armed = true → s.flag (Reg.DRY_PPS_CTL n.val) 31 = true →
      (s.pps n.val).sent = none → (∀ l, (s.pps n.val).label = some l → l < sec) →
      sec % s.fld (Reg.DRY_PPS_CTL n.val) 22 6 = 0 →
      s.atLead (((sec * secUnits : Nat) : Int) - delayUnits (s.rd (Reg.DRY_PPS_DELAY n.val)) : Int) = true →
      s.outAllowed (s.rd (Reg.DRY_PPS_CTL n.val)) = true →
      ∃ e, (s.schedulePps n.val) = s.setPps n.val { s.pps n.val with sent := some e } ∧ e.label = sec ∧
        e.ctl = s.rd (Reg.DRY_PPS_CTL n.val) ∧ e.width = s.rd (Reg.DRY_PPS_WIDTH n.val) ∧ e.phase < 64) ∧
  (∀ (s : State) (n : Fin 4), exec (.edgeCommand (.clk n)) s = .next (s.scheduleClk n.val).dryRefresh) ∧
  (∀ (s : State) (n : Fin 4) (c : EdgeCommand), (s.pps n.val).sent = some c → (s.pps n.val).high = none →
      (∀ f, (s.pps n.val).fell = some f → 1000 * 2 ^ 32 ≤ (c.edge : Int) - f) →
      ∃ t, exec (.ppsPulse n) s = .next t ∧ t.rd (Reg.DRY_PPS_LAST n.val) = BitVec.ofNat 32 c.label ∧
        t.flag Reg.DRY_STATUS n.val = true ∧ (t.pps n.val).label = some c.label ∧ (t.pps n.val).sent = none ∧
        (t.pps n.val).high.isSome = true ∧ (t.pps n.val).ctl = c.ctl ∧
        s.keepsRegs t [Reg.DRY_PPS_LAST n.val, Reg.DRY_STATUS] ∧
        t = { s with regs := t.regs, raised := t.raised, dry := { s.dry with pps := t.dry.pps, todPulse := t.dry.todPulse } }) ∧
  (∀ (s : State) (n : Fin 4) (c : EdgeCommand) (h : Nat), (s.pps n.val).sent = some c → (s.pps n.val).high = some h →
      exec (.ppsPulse n) s = .next ((((s.setPps n.val { s.pps n.val with sent := none }).bump (Reg.DRY_PPS_SKIP n.val) 0 32).error
        Reg.DRY_ERR 1 126).dryRefresh)) ∧
  (∀ (s : State) (n : Fin 4) (h : Nat), (s.pps n.val).high = some h → (s.pps n.val).armed = true →
      exec (.ppsPulseEnd n) s = .next (s.setPps n.val { s.pps n.val with
        high := none, fell := some ((s.replica replicaDrypoint).count : Int), again := false
        ctl := if (s.pps n.val).again then s.rd (Reg.DRY_PPS_CTL n.val) else (s.pps n.val).ctl }).dryRefresh) ∧
  (∀ (s : State) (n : Fin 4) (h : Nat), (s.pps n.val).high = some h → (s.pps n.val).armed = false →
      exec (.ppsPulseEnd n) s = .next (((s.setPps n.val { s.pps n.val with
        high := none, fell := some ((s.replica replicaDrypoint).count : Int), armed := (s.pps n.val).again,
        again := false, ctl := if (s.pps n.val).again then s.rd (Reg.DRY_PPS_CTL n.val) else (s.pps n.val).ctl }).outRun n.val false).dryRefresh)) ∧
  (∀ (s : State) (ag : Agent) (n : Fin 4) (v : Word), s.opens ag (Reg.DRY_PPS_WIDTH n.val) → 1000 ≤ bitsAt v 0 30 →
      bitsAt v 0 30 ≤ 900000000 →
      exec (.outputCtlWrite ag (Reg.DRY_PPS_WIDTH n.val) v) s = .next (s.plainWrite (Reg.DRY_PPS_WIDTH n.val) v).dryRefresh) ∧
  (∀ (s : State) (ag : Agent) (n : Fin 4) (v : Word), s.opens ag (Reg.DRY_PPS_WIDTH n.val) →
      (bitsAt v 0 30 < 1000 ∨ 900000000 < bitsAt v 0 30) →
      exec (.outputCtlWrite ag (Reg.DRY_PPS_WIDTH n.val) v) s = .next (s.error Reg.DRY_ERR 0 126)) ∧
  (∀ (s : State) (ag : Agent) (v : Word), s.opens ag Reg.DRY_CKMON → bitsAt v 16 5 = 2 → 4 ≤ bitsAt v 0 16 →
      exec (.ckmonWrite ag v) s = .next (s.plainWrite Reg.DRY_CKMON v)) ∧
  (∀ (s : State) (ag : Agent) (v : Word), s.opens ag Reg.DRY_CKMON →
      (bitsAt v 16 5 = 2 ∧ bitsAt v 0 16 < 4 ∨ bitsAt v 16 5 = 0xE ∨ bitsAt v 16 5 = 0xF) →
      exec (.ckmonWrite ag v) s = .next (s.error Reg.DRY_ERR 0 126)) ∧
  (∀ (s : State) (sec : Nat) (e : Int), s.dry.todPulse = some (sec, e, false) → s.firmwareRuns = true →
      s.flag Reg.DRY_TOD_CTL 31 = true →
      ∃ t, exec .todMessageWrite s = .next t ∧ t.flag Reg.DRY_TOD_CTL 30 = true ∧ t.todBuffer = s.todMessage sec ∧
        s.keepsRegs t (Reg.DRY_TOD_CTL :: (List.range 8).map Reg.DRY_TOD_BUF) ∧
        t = { s with regs := t.regs, dry := { s.dry with todPulse := some (sec, e, true) } }) ∧
  (∀ (s : State) (sec : Nat) (e : Int) (w : Bool), s.dry.todPulse = some (sec, e, w) → s.todAllowed = true →
      e + s.fld Reg.DRY_TOD_CTL 0 9 * 1000000 * 2 ^ 32 ≤ (s.replica replicaDrypoint).count → s.flag Reg.DRY_TOD_CTL 30 = true →
      exec .todMessageStart s = .next (State.dryRefresh { s with dry := { s.dry with todPulse := none, sending := some ⟨s.todBuffer,
        e + s.fld Reg.DRY_TOD_CTL 0 9 * 1000000 * 2 ^ 32, todBaud (s.fld Reg.DRY_TOD_CTL 24 3)⟩ } })) ∧
  (∀ (s : State) (sec : Nat) (e : Int) (w : Bool), s.dry.todPulse = some (sec, e, w) → s.todAllowed = true →
      e + s.fld Reg.DRY_TOD_CTL 0 9 * 1000000 * 2 ^ 32 ≤ (s.replica replicaDrypoint).count → s.flag Reg.DRY_TOD_CTL 30 = false →
      exec .todMessageStart s = .next (((State.bump { s with dry := { s.dry with todPulse := none } } Reg.DRY_TOD_LATE 0 32).error
        Reg.DRY_ERR 2 126).dryRefresh)) ∧
  (∀ (s : State) (m : TodMessage), s.dry.sending = some m →
      (uartBits m.bytes).length < m.begun (s.replica replicaDrypoint).count s.incrUnits →
      ∃ t, exec .todMessageEnd s = .next t ∧ t.dry = { s.dry with sending := none, seq := (s.dry.seq + 1) % 65536,
                                                                   line := s.dry.line ++ [m.bytes] } ∧
        t.flag Reg.DRY_TOD_CTL 30 = false ∧
        t.fld Reg.DRY_TOD_SENT 0 32 = min (2 ^ 32 - 1) (s.fld Reg.DRY_TOD_SENT 0 32 + 1) ∧
        s.keepsRegs t [Reg.DRY_TOD_CTL, Reg.DRY_TOD_SENT] ∧ t = { s with regs := t.regs, dry := t.dry }) ∧
  (∀ (s : State) (m : TodMessage), s.dry.sending = some m →
      m.begun (s.replica replicaDrypoint).count s.incrUnits ≤ (uartBits m.bytes).length → exec .todMessageEnd s = .next s) ∧
  (∀ (s : State) (n : Nat), s.isolated PD_TDC = true →
      s.ppsBall n = .float ∧ s.clkBall n = .float ∧ s.todBall = .float ∧ s.gppsBall = .float)

/-- A window of 810 to 827 edges is good; another one clears SCLK_OK, drops the job and puts every tracking channel in
LOST. A marker counts 81,840 samples and takes a stamp; a read of GNS_SCNT_L latches both. SIN_STAT shows rms and
fraction, and more than 10/1,024 sets CLIP. GNS_SINn_CTL and FC are written, refused with INUSE while channels or a
job use the input, and EN = 0 releases its channels at their next dump. TPG EN is accepted in STAGED, MEASURE and
SAFE only. (10_gnss_signal_processing.md) -/
def Obligations.SampleClockAndInputs : Prop :=
  (∀ (s : State) (edges : Nat), 810 ≤ edges → edges ≤ 827 → s.pdUp PD_GNSS_TRK = true → s.sclkOk = true →
      exec (.sclkWindow edges) s = .next { s with gns := { s.gns with good := s.gns.good + 1 } }) ∧
  (∀ (s : State) (edges : Nat), (edges < 810 ∨ 827 < edges) → s.pdUp PD_GNSS_TRK = true → s.sclkOk = true →
      ∃ t, exec (.sclkWindow edges) s = .next t ∧ t.sclkOk = false ∧ t.flag Reg.GNS_STICKY 0 = true ∧ t.flag Reg.GNS_STATUS 3 = false ∧
        t.gns.job = none ∧ t.gns.good = 0 ∧
        ∀ c, chFll ≤ (s.channel c).state → (s.channel c).state ≤ chData → (t.channel c).state = chLost) ∧
  (∀ (s : State) (phase : Nat), s.sclkOk = true → s.pdUp PD_GNSS_TRK = true →
      exec (.sampleMarker phase) s = .next { s with gns := { s.gns with
        markers := s.gns.markers + 1, scnt := s.gns.markers * 81840 % 2 ^ 64, stime := s.stamp replicaGnss phase
        near := if nearSecond (s.stamp replicaGnss phase)
          then some (s.gns.markers * 81840 % 2 ^ 64, s.stamp replicaGnss phase) else s.gns.near } }) ∧
  (∀ (s : State) (ag : Agent), s.opens ag Reg.GNS_SCNT_L →
      ∃ t, exec (.scntRead ag) s = .next t ∧ t.bus.last = .data (BitVec.ofNat 32 s.gns.scnt) ∧
        t.rd Reg.GNS_SCNT_H = BitVec.ofNat 32 (s.gns.scnt / 2 ^ 32) ∧ t.rd96 (Reg.GNS_STIME_W 0) = s.gns.stime ∧
        s.keepsRegs t [Reg.GNS_SCNT_L, Reg.GNS_SCNT_H, Reg.GNS_STIME_W 0, Reg.GNS_STIME_W 1, Reg.GNS_STIME_W 2] ∧
        t = { s with regs := t.regs, bus := t.bus }) ∧
  (∀ (s : State) (n : Fin 4) (codes : List (BitVec 8 × Nat)),
      let count := overCodes codes fun _ => 1
      let power := overCodes codes fun d => ((s.sinValue n.val d).1 ^ 2 + (s.sinValue n.val d).2 ^ 2).toNat
      let clips := if s.sinZero n.val then 0 else overCodes codes fun d =>
        ofBool (sinExtreme (s.fld (Reg.GNS_SIN_CTL n.val) 27 2) (d.extractLsb' 4 4) ||
          sinExtreme (s.fld (Reg.GNS_SIN_CTL n.val) 27 2) (d.extractLsb' 0 4))
      s.sinEnabled n.val = true → s.gnsRuns = true → 0 < count →
      ∃ t, exec (.sinStatUpdate n codes) s = .next t ∧
        t.fld (Reg.GNS_SIN_STAT n.val) 16 16 = min (openRoot (openDiv ((power * 65536 : Nat) : Int) count).toNat) 65535 ∧
        t.fld (Reg.GNS_SIN_STAT n.val) 8 8 = min (openDiv ((clips * 1024 : Nat) : Int) count).toNat 255 ∧
        (10 * count < clips * 1024 → t.flag Reg.GNS_STICKY 5 = true ∧
          (s.flag Reg.GNS_STICKY 5 = false → s.flag Reg.GNS_STICKY_EN 5 = true → (⟨85, 0, 0⟩ : Raise) ∈ t.raised)) ∧
        (clips * 1024 ≤ 10 * count → t.raised = s.raised ∧ s.keepsRegs t [Reg.GNS_SIN_STAT n.val])) ∧
  (∀ (s : State) (n : Nat) (d : BitVec 8), (s.sinEnabled n = false ∨ s.fld (Reg.GNS_SIN_CTL n) 29 2 = 2) →
      s.sinValue n d = (0, 0)) ∧
  (∀ (s : State) (ag : Agent) (n : Fin 4) (v : Word), s.opens ag (Reg.GNS_SIN_CTL n.val) → bitsAt v 29 2 ≠ 3 → bitsAt v 27 2 ≠ 3 →
      bitAt v 31 = true → (bitsAt v 25 6 = s.fld (Reg.GNS_SIN_CTL n.val) 25 6 ∨ s.inputInUse n.val = false) →
      exec (.sinCtlWrite ag n false v) s = .next (s.plainWrite (Reg.GNS_SIN_CTL n.val) v).gnsRefresh) ∧
  (∀ (s : State) (ag : Agent) (n : Fin 4) (v : Word), s.opens ag (Reg.GNS_SIN_CTL n.val) → bitsAt v 29 2 ≠ 3 → bitsAt v 27 2 ≠ 3 →
      bitAt v 31 = false →
      (bitsAt v 25 6 = s.fld (Reg.GNS_SIN_CTL n.val) 25 6 ∨ s.inputInUse n.val = false ∨ s.sinEnabled n.val = true) →
      ∃ t, exec (.sinCtlWrite ag n false v) s = .next t ∧ ∀ c, c ∈ s.inputChannels n.val → (t.channel c).release = true) ∧
  (∀ (s : State) (ag : Agent) (n : Fin 4) (v : Word), s.opens ag (Reg.GNS_SIN_CTL n.val) → bitsAt v 29 2 ≠ 3 → bitsAt v 27 2 ≠ 3 →
      bitsAt v 25 6 ≠ s.fld (Reg.GNS_SIN_CTL n.val) 25 6 → s.inputInUse n.val = true →
      (bitAt v 31 = true ∨ s.sinEnabled n.val = false) →
      exec (.sinCtlWrite ag n false v) s = .next (s.error Reg.GNS_ERR 1 93)) ∧
  (∀ (s : State) (ag : Agent) (n : Fin 4) (v : Word), s.opens ag (Reg.GNS_SIN_FREQ n.val) → 1100000000 ≤ v.toNat → v.toNat ≤ 1700000000 →
      exec (.sinCtlWrite ag n true v) s = .next (if v ≠ s.rd (Reg.GNS_SIN_FREQ n.val) ∧ s.inputInUse n.val = true
        then s.error Reg.GNS_ERR 1 93 else s.wr (Reg.GNS_SIN_FREQ n.val) v)) ∧
  (∀ (s : State) (ag : Agent) (v : Word), s.opens ag Reg.GNS_TPG_CTL → bitAt v 31 = true → bitsAt v 26 5 ≤ 18 → 20 ≤ bitsAt v 8 8 →
      bitsAt v 8 8 ≤ 60 → exec (.tpgEnable ag v) s = .next (if s.mode = modeStaged ∨ s.mode = modeMeasure ∨ s.mode = modeSafe
        then (s.plainWrite Reg.GNS_TPG_CTL v).gnsRefresh else s.error Reg.GNS_ERR 2 93))

/-- A write of GNS_SIGs with EN = 1 changes that register alone, so that a cut in MAXCH releases no channel. While
signal s holds at least MAXCH channels, an allocation to it changes nothing; an allocation happens again when the
count is below the new MAXCH. (R281) -/
def Obligations.CutOfMaxch : Prop :=
  (∀ (s : State) (ag : Agent) (g : Fin 19) (v : Word), s.opens ag (Reg.GNS_SIG g.val) → bitAt v 31 = true →
      (bitsAt v 29 2 = s.sigInput g.val ∨ s.sigChannels g.val = []) →
      ∃ t, exec (.sigWrite ag g v) s = .next t ∧ t.fld (Reg.GNS_SIG g.val) 16 8 = bitsAt v 16 8 ∧
        s.keepsRegs t [Reg.GNS_SIG g.val] ∧ t = { s with regs := t.regs }) ∧
  (∀ (s : State) (c : Fin 256) (g sv : Nat) (carrier : Int) (rate cp kp : Nat),
      s.fld (Reg.GNS_SIG g) 16 8 ≤ (s.sigChannels g).length →
      exec (.channelCommand c (.allocate g sv carrier rate cp kp)) s = .next s) ∧
  (∀ (s : State) (c : Fin 256) (g sv st at_ : Nat) (carrier : Int) (rate cp kp : Nat) (o : Candidate) (k : Search),
      s.gnsRuns = true → s.gnssFirmware = true → s.fld Reg.GNS_ACQ_CFG 30 2 ≠ 2 → s.candidate g sv = some o →
      s.isNext o = true → s.channelFree c.val = true → s.startOf o carrier kp = some (st, k, at_) →
      ∃ t, exec (.channelCommand c (.allocate g sv carrier rate cp kp)) s = .next t ∧ (t.channel c.val).state = st ∧
        (t.channel c.val).sig = g ∧ (t.channel c.val).sv = sv ∧ (t.channel c.val).carrier = signed40 carrier ∧
        (t.channel c.val).codeRate = rate % 2 ^ 40 ∧ (t.channel c.val).search = k ∧
        (∀ d, d ≠ c.val → t.channel d = s.channel d))

/-- A job allowed by R282 to R285 starts, reports detections of its SVs, or runs once more after an uncorrectable error
and is then abandoned. GO starts a parse, is refused with ERR 4 while one runs, and its end reports the records and
source 90. A dump advances phases, counts, clears the command mark and queues its record, which is lost beyond 512;
an interval without a command is late. Steering merges field by field. A check error puts the engine's tracking
channels in LOST and starts its test. C/N0 below its threshold, a PLI kept above or below PLI_THR, and firmware move
a channel between its states. (10_gnss_signal_processing.md) -/
def Obligations.AcquisitionAidingAndTracking : Prop :=
  (∀ (s : State) (c : Fin 256) (n : Nat) (sums : Correlators), s.gnsClocked = true → (s.channel c.val).state ≠ chIdle → (s.channel c.val).state ≠ chLost → s.engineTests c.val = false →
      (s.channel c.val).dumpsAt n = true →
      ∃ t, exec (.channelDump c n sums none) s = .next t ∧
        ((s.channel c.val).commanded = false → (s.channel c.val).release = false →
          (s.channel c.val).pending = ChannelSteer.empty →
          (t.channel c.val).state = (s.channel c.val).state ∧ (t.channel c.val).at_ = (s.channel c.val).at_ + n ∧
          (t.channel c.val).dumps = (s.channel c.val).dumps + 1 ∧
          (t.channel c.val).carrierPhase = ((s.channel c.val).advance n).carrierPhase ∧
          (t.channel c.val).codePhase = ((s.channel c.val).advance n).codePhase ∧
          (t.channel c.val).secondary = ((s.channel c.val).advance n).secondary ∧
          (t.channel c.val).loop = s.profile (s.channel c.val).sig) ∧
        ((s.channel c.val).release = true → t.channel c.val = Channel.reset) ∧
        (∀ d, d ≠ c.val → t.channel d = s.channel d) ∧
        ((s.gns.queue.filter fun q => q.channel / 64 == c.val / 64).length < 512 →
          t.gns.queue = s.gns.queue ++ [⟨c.val, if s.sinZero (s.sigInput (s.channel c.val).sig) then zeroSums else sums,
            (s.channel c.val).dumps, (s.channel c.val).state,
            s.sinTest (s.sigInput (s.channel c.val).sig), true, (s.channel c.val).marks n⟩]) ∧
        (512 ≤ (s.gns.queue.filter fun q => q.channel / 64 == c.val / 64).length →
          t.gns.queue = s.gns.queue ∧ t.flag Reg.GNS_STICKY 4 = true ∧
          t.fld Reg.GNS_CNT_QOVF 0 32 = min (2 ^ 32 - 1) (s.fld Reg.GNS_CNT_QOVF 0 32 + 1)) ∧
        ((s.channel c.val).commanded = false → t.flag Reg.GNS_STICKY 3 = true ∧
          t.fld Reg.GNS_CNT_LATE 0 32 = min (2 ^ 32 - 1) (s.fld Reg.GNS_CNT_LATE 0 32 + 1))) ∧
  (∀ (s : State) (c : Fin 256) (n a : Nat) (sums : Correlators), s.gnsClocked = true → (s.channel c.val).state ≠ chIdle → (s.channel c.val).state ≠ chLost → s.engineTests c.val = false →
      (s.channel c.val).dumpsAt n = true →
      ∃ t, exec (.channelDump c n sums (some (.channel a))) s = .next t ∧ t.channel c.val = Channel.reset) ∧
  (∀ (s : State) (v : Channel), chFll ≤ v.state → v.state ≤ chData →
      (∀ asked q, asked ≠ some chIdle → q < v.cn0Loss → s.nextState v asked (some q) = some chLost) ∧
      (v.state = chFll → 100 ≤ v.good → s.nextState v none none = some chPll) ∧
      (chPll ≤ v.state → 200 ≤ v.weak → s.nextState v none none = some chFll) ∧
      (v.state = chPll → v.weak < 200 → s.nextState v (some chSync) none = some chSync)) ∧
  (∀ (s : State) (c : Fin 256) (k : ChannelSteer), (s.channel c.val).state ≠ chIdle → s.gnssFirmware = true →
      ∃ t, exec (.channelCommand c (.steer k)) s = .next t ∧
        t.channel c.val = { s.channel c.val with pending := mergeSteer (s.channel c.val).pending k, commanded := true } ∧
        (∀ d, d ≠ c.val → t.channel d = s.channel d) ∧
        t = { s with gns := { s.gns with channels := t.gns.channels, queue := t.gns.queue, candidates := t.gns.candidates } }) ∧
  (∀ (a b : ChannelSteer), (b.carrier ≠ none → (mergeSteer a b).carrier = b.carrier) ∧
      (b.carrier = none → (mergeSteer a b).carrier = a.carrier) ∧ (b.state ≠ none → (mergeSteer a b).state = b.state) ∧
      (b.state = none → (mergeSteer a b).state = a.state)) ∧
  (∀ (s : State) (e : Fin 16), s.gnsRuns = true → s.flag Reg.GNS_STATUS (16 + e.val) = true →
      s.unitRetired (unitEngine e.val) = false → s.rel.tests.length < 16 → s.rel.waiting = [] →
      ∃ t, exec (.engineCheckError e) s = .next t ∧ (∀ c, c / 16 ≠ e.val → t.channel c = s.channel c) ∧
        t.testRuns (unitEngine e.val) 0 = true ∧
        (∀ c, c / 16 = e.val → chFll ≤ (s.channel c).state → (s.channel c).state ≤ chData →
          (t.channel c).state = chLost ∧ (t.channel c).lostAt = s.cal.count ∧ t.flag Reg.GNS_STICKY 1 = true)) ∧
  (∀ (s : State) (j : AcqJob), s.jobAllowed j = true →
      ∃ t, exec (.acqJobStart j) s = .next t ∧ t.gns = { s.gns with
          job := some (j, false), wanted := s.gns.wanted.filter fun e => !(e.1 == j.sig && j.svs.contains e.2) } ∧ t.flag Reg.GNS_STATUS 3 = true ∧
        s.keepsRegs t [Reg.GNS_STATUS] ∧ t = { s with regs := t.regs, gns := t.gns }) ∧
  (∀ (s : State) (j : AcqJob) (again : Bool) (ds : List Detection), s.gns.job = some (j, again) → s.sinTest j.input = false →
      ∃ t, exec (.acqJobDone (.detected ds)) s = .next t ∧ t.gns.found = s.detections j ds ∧
        (∀ d ∈ t.gns.found, (t.candidate j.sig d.sv).elim false (·.found) = true ∧ j.svs.contains d.sv = true ∧
          s.fld Reg.GNS_ACQ_CFG 16 8 ≤ d.ratio) ∧
        t.gns.job = none ∧ t.flag Reg.GNS_STATUS 3 = false ∧
        t.fld Reg.GNS_CNT_ACQ 0 32 = min (2 ^ 32 - 1) (s.fld Reg.GNS_CNT_ACQ 0 32 + 1) ∧
        s.keepsRegs t [Reg.GNS_STATUS, Reg.GNS_CNT_ACQ] ∧ t = { s with regs := t.regs, gns := t.gns }) ∧
  (∀ (s : State) (j : AcqJob) (a : Nat), s.gns.job = some (j, false) →
      ∃ t, exec (.acqJobDone (.bufferEcc a)) s = .next t ∧ t.gns.job = some (j, true)) ∧
  (∀ (s : State) (j : AcqJob) (a : Nat), s.gns.job = some (j, true) →
      ∃ t, exec (.acqJobDone (.bufferEcc a)) s = .next t ∧ t.gns.job = none ∧ t.flag Reg.GNS_STATUS 3 = false) ∧
  (∀ (s : State) (ag : Agent) (v : Word), s.opens ag Reg.GNS_AID_CTL → bitAt v 31 = true → 8 ≤ bitsAt v 0 17 → bitsAt v 0 17 ≤ 65536 →
      s.gns.aiding = none → s.flag Reg.GNS_CTRL 0 = true →
      exec (.aidParse ag v) s = .next
        (State.setFlag { s with gns := { s.gns with aiding := some (bitsAt v 0 17) } } Reg.GNS_AID_STAT 31 true)) ∧
  (∀ (s : State) (ag : Agent) (v : Word) (n : Nat), s.opens ag Reg.GNS_AID_CTL → bitAt v 31 = true → 8 ≤ bitsAt v 0 17 →
      bitsAt v 0 17 ≤ 65536 → s.gns.aiding = some n →
      exec (.aidParse ag v) s = .next ((s.setFld Reg.GNS_AID_STAT 16 8 4).error Reg.GNS_ERR 4 93)) ∧
  (∀ (s : State) (n : Nat) (rs : List (Nat × Nat × Nat × List Byte)), s.gns.aiding = some n → parseAid (n / 8 + 1) (s.aidBytes n) = (rs, 0) →
      exec .aidDone s = .next ((State.wr { s with gns := { s.gns with aiding := none, aid := s.gns.aid ++ rs } } Reg.GNS_AID_STAT
        (BitVec.ofNat 32 rs.length)).raise 90)) ∧
  (∀ (k : Nat) (kind gnss sv l h : Byte) (p rest : List Byte), 1 ≤ kind.toNat → kind.toNat ≤ 4 → gnss.toNat ≤ 6 →
      p.length = l.toNat + 256 * h.toNat → p.length ≤ 1024 →
      (kind.toNat ≤ 2 → gnss.toNat = 0 ∧ sv.toNat = 0) → (kind.toNat = 1 → p.length = 8) → (kind.toNat = 2 → p.length = 32) →
      (3 ≤ kind.toNat → sv.toNat ≠ 0 ∧ (gnss.toNat = 3 → sv.toNat ≤ 24)) →
      parseAid (k + 1) ([kind, gnss, sv, 0, l, h, 0, 0] ++ p ++ rest) =
        ((kind.toNat, gnss.toNat, sv.toNat, p) :: (parseAid k rest).1, (parseAid k rest).2))

/-- In DORMANT with the domain retained, the front ends of the inputs with FEPWR and a BURST channel are driven high;
the burst propagates every BURST channel from device time; its end saves rates, phases and C/N0, counts the burst
and drives the front ends low. A channel below 28 dB-Hz counts, and in its third burst in a row becomes IDLE,
counted in DROPPED, with no event. The premise that the channels are in canonical form is part of the invariant that
every step keeps. (10_gnss_signal_processing.md) -/
def Obligations.BurstsInDormant : Prop :=
  (∀ (s : State), s.burstDue = true → s.burstOffset ≤ ct96Ns s.now + s.burstWarm →
      ∃ t, exec .burstFrontendOn s = .next t ∧ (∀ n, n ∈ t.gns.frontEnds ↔ n < 4 ∧ s.flag (Reg.GNS_SIN_CTL n) 24 = true ∧
          ∃ e ∈ s.gns.channels, e.2.state = chBurst ∧ s.sigInput e.2.sig = n) ∧
        t = { s with gns := { s.gns with frontEnds := t.gns.frontEnds } }) ∧
  (∀ (s : State), s.burstDue = true → s.burstOffset ≤ ct96Ns s.now → sparseWf (fun _ => Channel.reset) s.gns.channels = true →
      ∃ t, exec .burstStart s = .next t ∧ t.gns.bursting = true ∧
        (∀ c, (s.channel c).state = chBurst → t.channel c =
          { (s.channel c).advance (samplesIn (s.cal.count - (s.channel c).lostAt)) with lostAt := s.cal.count }) ∧
        (∀ c, (s.channel c).state ≠ chBurst → t.channel c = s.channel c) ∧
        t = { s with gns := { s.gns with channels := t.gns.channels, bursting := true,
                                                       lastBurst := some (ct96Sec s.now) } }) ∧
  (∀ (s : State), s.burstDue = true → ct96Ns s.now < s.burstOffset → exec .burstStart s = .next s) ∧
  (∀ (s : State) (r : BurstResult), s.burstOver = true → (s.channel r.channel).state = chBurst → 28 ≤ r.cn0 →
      ∃ t, exec (.burstEnd [r]) s = .next t ∧ t.gns.bursting = false ∧ t.gns.frontEnds = [] ∧
        t.gns.bursts = min 65535 (s.gns.bursts + 1) ∧ t.gns.dropped = s.gns.dropped ∧
        t.channel r.channel = { s.channel r.channel with
          carrier := signed40 r.carrier, codeRate := r.codeRate % 2 ^ 40, carrierPhase := r.carrierPhase % 2 ^ 40
          codePhase := r.codePhase % ((signalOf (s.channel r.channel).sig).code * 2 ^ 40)
          cn0 := r.cn0, low := 0, lostAt := s.cal.count } ∧
        (∀ d, d ≠ r.channel → t.channel d = s.channel d)) ∧
  (∀ (s : State) (r : BurstResult), s.burstOver = true → (s.channel r.channel).state = chBurst → r.cn0 < 28 →
      (s.channel r.channel).low < 2 →
      ∃ t, exec (.burstEnd [r]) s = .next t ∧ (t.channel r.channel).state = chBurst ∧
        (t.channel r.channel).low = (s.channel r.channel).low + 1 ∧ t.gns.dropped = s.gns.dropped) ∧
  (∀ (s : State) (r : BurstResult), s.burstOver = true → (s.channel r.channel).state = chBurst → r.cn0 < 28 →
      2 ≤ (s.channel r.channel).low →
      ∃ t, exec (.burstEnd [r]) s = .next t ∧ (t.channel r.channel).state = chIdle ∧
        t.gns.dropped = min 255 (s.gns.dropped + 1) ∧ t.raised = s.raised)

/-- A solution writes SOLTYPE, INTEG, NSAT and VALID, the next fix record and, where it is valid, the epoch pulse of the
next second; without satellites or whole seconds the type is 0, and a FAIL condition holds FAIL for CLEAR_T. Reads
of GNS_FIX0 and GNS_QERR_SEC latch their groups. SURVEY_RESTART, APPLY_POS and OSNMA_RESET act or are refused. An
alert drops every authentication; a failed tag fails its satellite, is counted and raises 104; a verified one
authenticates it. (11_gnss_navigation_integrity.md) -/
def Obligations.NavigationAndOsnma : Prop :=
  (∀ (s : State) (sol : Solution) (m : Nat) (x : CT96), s.gnsRuns = true → s.gnssFirmware = true → s.gns.near = some (m, x) →
      ∃ t, exec (.solution sol) s = .next t ∧
        (let u := (s.beginSolution sol).stepConditions sol
         let ty := u.solType sol
         let flags := u.conditions sol ((s.beginSolution sol).jammed sol)
         let integ := integrityOf flags s.nav.lastFail (u.solSecond sol) (s.fld Reg.GNS_ICHK3 24 8)
         t.fld Reg.GNS_NAV_STAT 28 3 = ty ∧ t.fld Reg.GNS_NAV_STAT 26 2 = integ ∧
         t.fld Reg.GNS_NAV_STAT 8 8 = (u.usedSats sol).length % 256 ∧ t.flag Reg.GNS_NAV_STAT 31 = (ty != 0 && integ != 2) ∧
         t.nav.fix = u.fixRecord sol ty integ (u.overallAuth (u.usedSats sol)) flags ∧ t.nav.seq = (s.nav.seq + 1) % 256 ∧
         t.nav.pulse = if ty ≠ 0 ∧ integ ≠ 2
           then some (u.solSecond sol + 1, (u.placePulse sol m).2, (u.placePulse sol m).1) else none)) ∧
  (∀ (s : State) (sol : Solution), (s.usedSats sol = [] ∨ s.secondsKnown sol = false) → s.solType sol = 0) ∧
  (∀ (s : State) (sol : Solution) (t : Satellite), t ∈ s.usedSats sol →
      s.hasData t = true ∧ (s.fld Reg.GNS_NAV_CTL 8 8 : Int) < t.elev ∧ s.ownExclusion t = 0 ∧
        (∀ e ∈ s.nav.constOut, e.1 ≠ t.gnss) ∧ s.useOf sol t = 1) ∧
  (∀ (flags second clearT t : Nat), flags &&& failMask = 0 → second ≤ t + clearT → integrityOf flags (some t) second clearT = 2) ∧
  (∀ (s : State) (l : Nat) (q e : Int), s.nav.pulse = some (l, q, e) → s.gnsRuns = true → s.pulseDue e = true →
      ∃ t, exec .epochPulse s = .next t ∧ t.nav = { s.nav with pulse := none, emitted := some (l, q) } ∧
        t.flag Reg.GNS_QERR 16 = false ∧ s.keepsRegs t [Reg.GNS_QERR] ∧ t.raised = s.raised ∧
        t.dry.gpps = (if s.flag Reg.DRY_STATUS 9
          then some (((s.replica replicaDrypoint).count : Int), s.fld Reg.DRY_GPPS_CTL 0 9) else s.dry.gpps)) ∧
  (∀ (s : State) (ag : Agent), s.opens ag (Reg.GNS_FIX 0) → s.nav.fix.length = 16 →
      ∃ t, exec (.fixRead ag) s = .next t ∧ (∀ n, n < 16 → t.rd (Reg.GNS_FIX n) = s.nav.fix.getD n 0) ∧
        (∀ n, n < 128 → t.rd (Reg.GNS_SV_A n) = (s.nav.table.getD n (0xF0000000, 0)).1 ∧
          t.rd (Reg.GNS_SV_B n) = (s.nav.table.getD n (0xF0000000, 0)).2) ∧
        t.bus.last = .data (s.nav.fix.getD 0 0) ∧ t = { s with regs := t.regs, bus := t.bus }) ∧
  (∀ (s : State) (ag : Agent), s.opens ag Reg.GNS_QERR_SEC →
      ∃ t, exec (.qerrRead ag) s = .next t ∧ t.bus.last = .data (s.rd Reg.GNS_QERR_SEC) ∧
        (t.navRead Reg.GNS_QERR).1 = s.rd Reg.GNS_QERR ∧ (∀ off, t.rd off = s.rd off) ∧
        t = { s with bus := t.bus, regs := t.regs, nav := { s.nav with latched := some (s.rd Reg.GNS_QERR) } }) ∧
  (∀ (s : State) (ag : Agent) (v : Word), s.opens ag Reg.GNS_NAV_CTL → bitsAt v 30 2 ≠ 3 → bitsAt v 28 2 ≠ 3 → bitsAt v 8 8 ≤ 60 →
      exec (.navCtlWrite ag v) s = .next (if bitsAt v 27 3 ≠ s.fld Reg.GNS_NAV_CTL 27 3 ∧ s.cur = some 0
        then s.error Reg.GNS_NERR 1 107 else (s.plainWrite Reg.GNS_NAV_CTL v).showOsnma)) ∧
  (∀ (s : State) (ag : Agent) (v : Word), s.opens ag Reg.GNS_NAV_CMD → bitAt v 31 = true → bitsAt v 24 2 = 1 → s.nav.pmode = 1 →
      ∃ t, exec (.surveyRestart ag v) s = .next t ∧ t.nav = { s.nav with survey := (0, [0, 0, 0], [0, 0, 0]), held := none } ∧
        t.fld Reg.GNS_NAV_STAT 22 2 = 1 ∧ s.keepsRegs t [Reg.GNS_NAV_STAT]) ∧
  (∀ (s : State) (ag : Agent) (v : Word) (x y z : Int), s.opens ag Reg.GNS_NAV_CMD → bitAt v 31 = true → bitsAt v 24 2 = 2 → s.fld Reg.GNS_NAV_CTL 30 2 = 2 → s.fixedPosition = (x, y, z) →
      exec (.applyPos ag v) s = .next (if 6300000000 ^ 2 ≤ x ^ 2 + y ^ 2 + z ^ 2 ∧ x ^ 2 + y ^ 2 + z ^ 2 ≤ 6400000000 ^ 2
        then { s with nav := { s.nav with apply := true } } else s.error Reg.GNS_NERR 3 107)) ∧
  (∀ (s : State), s.nav.apply = true → s.fld Reg.GNS_NAV_CTL 30 2 = 2 →
      s.navMode.nav.held = some s.fixedPosition ∧ s.navMode.nav.apply = false) ∧
  (∀ (s : State) (ag : Agent) (v : Word), s.opens ag Reg.GNS_NAV_CMD → bitAt v 31 = true → bitsAt v 24 2 = 2 → s.fld Reg.GNS_NAV_CTL 30 2 ≠ 2 →
      exec (.applyPos ag v) s = .next (s.error Reg.GNS_NERR 3 107)) ∧
  (∀ (s : State) (ag : Agent) (v : Word), s.opens ag Reg.GNS_NAV_CMD → bitAt v 31 = true → bitsAt v 24 2 = 3 → s.fld Reg.GNS_OSNMA 30 2 = 3 →
      ∃ t, exec (.osnmaReset ag v) s = .next t ∧ t.fld Reg.GNS_OSNMA 30 2 = ofBool s.osnmaOn ∧ s.keepsRegs t [Reg.GNS_OSNMA] ∧
        t = { s with regs := t.regs }) ∧
  (∀ (s : State), s.gnsRuns = true → s.gnssFirmware = true → s.osnmaOn = true →
      ∃ t, exec (.osnmaMessage .alert) s = .next t ∧ t.nav.auth = [] ∧ t.fld Reg.GNS_OSNMA 30 2 = 3 ∧ t.raised = s.raised ++ [⟨105, 0, 0⟩]) ∧
  (∀ (s : State) (sv adkd k : Nat) (message tag : List Byte), s.gnsRuns = true → s.gnssFirmware = true → s.osnmaOn = true → s.osnmaUnits = true → s.osnmaTime = true → s.osnmaState ≠ osnmaAlert →
      ∃ t, exec (.osnmaMessage (.tag sv adkd k message tag)) s = .next t ∧
        t.nav = { s.nav with tags := s.nav.tags ++ [⟨sv, adkd, k, message, tag⟩] } ∧ t.raised = s.raised) ∧
  (∀ (s : State) (key : List Byte) (c : OsnmaChain) (g : OsnmaTag), s.gnsRuns = true → s.gnssFirmware = true → s.osnmaOn = true → s.osnmaUnits = true → s.osnmaTime = true → s.osnmaState ≠ osnmaAlert → 
      s.nav.chain = some c → c.accepts g.subframe key = true → s.nav.tags = [g] → g.adkd = 0 → c.verifies key g = false →
      ∃ t, exec (.osnmaMessage (.key g.subframe key)) s = .next t ∧ t.satAuth 1 g.sv = authFailed ∧
        t.raised = s.raised ++ [⟨104, 0, 0⟩] ∧ t.nav.tags = [] ∧
        t.fld Reg.GNS_CNT_TAGFAIL 0 32 = min (2 ^ 32 - 1) (s.fld Reg.GNS_CNT_TAGFAIL 0 32 + 1)) ∧
  (∀ (s : State) (key : List Byte) (c : OsnmaChain) (g : OsnmaTag), s.gnsRuns = true → s.gnssFirmware = true → s.osnmaOn = true → s.osnmaUnits = true → s.osnmaTime = true → s.osnmaState ≠ osnmaAlert → 
      s.nav.chain = some c → c.accepts g.subframe key = true → s.nav.tags = [g] → g.adkd = 0 →
      c.verifies key g = true → s.satAuth 1 g.sv ≠ authFailed →
      ∃ t, exec (.osnmaMessage (.key g.subframe key)) s = .next t ∧ t.satAuth 1 g.sv = authOk ∧ t.raised = s.raised) ∧
  (∀ (s : State) (k : Nat) (key : List Byte), s.gnsRuns = true → s.gnssFirmware = true → s.osnmaOn = true → s.osnmaUnits = true → s.osnmaTime = true → s.osnmaState ≠ osnmaAlert → 
      (∀ c, s.nav.chain = some c → c.accepts k key = false) →
      ∃ t, exec (.osnmaMessage (.key k key)) s = .next t ∧ t.raised = s.raised ++ [⟨104, 0, 0⟩] ∧
        t.nav = { s.nav with tags := s.nav.tags.filter fun g => !(g.subframe == k) })

/-- An edge on an armed channel is stamped into its FIFO with SEQ, GAP, SLOPE and CALGEN; within 2 ns of the last, or
third in a tick, it is lost, counted and marked. COUNT and WINDOW end in DONE; a gate opens and closes with stamps.
Only the owner pops, arms, clears or configures, and the host takes channels 8 to 17 in bench modes only. THR
settles; a table with a thin code is rejected; LOINC commits in range. A unit closes its window with VALID only
where nothing spoils it, and a read latches its results. (12_time_interval_measurement.md) -/
def Obligations.StampsGatesAndUnits : Prop :=
  (∀ (s : State) (n : Fin 20) (falling : Bool) (c : Fin 3) (p : Fin 64), s.grvArmed n.val = true → c.val * 64 + p.val < 160 →
      (s.grvSlope n.val = 0 → falling = false) → (s.grvSlope n.val = 1 → falling = true) → (n.val < 12 ∨ 15 < n.val) →
      (∀ l, (s.grvCh n.val).last = some l → s.grvRaw c.val p.val < l ∨ l + 2 * 2 ^ 32 ≤ s.grvRaw c.val p.val) → (s.grv.tick.1 = (s.replica replicaGraver).count → s.grv.tick.2 < 2) →
      s.grvMode n.val = 0 → (s.grvCh n.val).seq % 2 ^ s.fld (Reg.GRV_CH_CTL n.val) 12 4 = 0 → (s.grvCh n.val).fifo.length < 4096 →
      ∃ t, exec (.edgeStamp n falling c p) s = .next t ∧ (t.grvCh n.val).seq = ((s.grvCh n.val).seq + 1) % 65536 ∧
        (t.grvCh n.val).fifo = (s.grvCh n.val).fifo ++ [⟨s.grvStamp n.val c.val p.val, BitVec.ofNat 32
          (2 ^ 31 + ofBool (s.grvSuspect n.val) * 2 ^ 30 + ofBool (s.grvCh n.val).gap * 2 ^ 29 + ofBool falling * 2 ^ 28 +
            (s.grvCh n.val).gen % 16 * 2 ^ 24 + (s.grvCh n.val).seq), s.grvInterval n.val⟩] ∧
        (t.grvCh n.val).gap = false ∧ (t.grvCh n.val).last = some (s.grvRaw c.val p.val) ∧
        ∀ d, d ≠ n.val → t.grvCh d = s.grvCh d) ∧
  (∀ (s : State) (n : Fin 20) (falling : Bool) (c : Fin 3) (p : Fin 64), s.grvArmed n.val = true → c.val * 64 + p.val < 160 →
      (s.grvSlope n.val = 0 → falling = false) → (s.grvSlope n.val = 1 → falling = true) → (n.val < 12 ∨ 15 < n.val) →
      (∀ l, (s.grvCh n.val).last = some l → s.grvRaw c.val p.val < l ∨ l + 2 * 2 ^ 32 ≤ s.grvRaw c.val p.val) → (s.grv.tick.1 = (s.replica replicaGraver).count → s.grv.tick.2 < 2) →
      s.grvMode n.val = 4 → s.fld (Reg.GRV_CH_CTL n.val) 0 12 ≤ (s.grvCh n.val).taken →
      ∃ t, exec (.edgeStamp n falling c p) s = .next t ∧ (t.grvCh n.val).isDone = true ∧ (t.grvCh n.val).armed = false ∧
        (t.grvCh n.val).seq = ((s.grvCh n.val).seq + 1) % 65536 ∧ t.flag Reg.GRV_STICKY 4 = true) ∧
  (∀ (s : State) (n : Fin 20) (falling : Bool) (c : Fin 3) (p : Fin 64) (l : Nat), s.grvArmed n.val = true → c.val * 64 + p.val < 160 →
      (s.grvSlope n.val = 0 → falling = false) → (s.grvSlope n.val = 1 → falling = true) → (n.val < 12 ∨ 15 < n.val) →
      (s.grvCh n.val).last = some l → l ≤ s.grvRaw c.val p.val → s.grvRaw c.val p.val < l + 2 * 2 ^ 32 →
      ∃ t, exec (.edgeStamp n falling c p) s = .next t ∧ (t.grvCh n.val).fifo = (s.grvCh n.val).fifo ∧
        (t.grvCh n.val).gap = true ∧ t.flag Reg.GRV_STICKY 2 = true ∧
        t.fld (Reg.GRV_CH_CNT n.val) 16 16 = min (2 ^ 16 - 1) (s.fld (Reg.GRV_CH_CNT n.val) 16 16 + 1)) ∧
  (∀ (s : State) (n : Fin 20) (falling : Bool) (c : Fin 3) (p : Fin 64), s.grvArmed n.val = true → c.val * 64 + p.val < 160 →
      (s.grvSlope n.val = 0 → falling = false) → (s.grvSlope n.val = 1 → falling = true) → (n.val < 12 ∨ 15 < n.val) →
      (s.grvCh n.val).last = none → s.grv.tick.1 = (s.replica replicaGraver).count → 2 ≤ s.grv.tick.2 →
      ∃ t, exec (.edgeStamp n falling c p) s = .next t ∧ (t.grvCh n.val).fifo = (s.grvCh n.val).fifo ∧
        (t.grvCh n.val).gap = true ∧ t.flag Reg.GRV_STICKY 3 = true ∧
        t.fld (Reg.GRV_CH_CNT n.val) 0 16 = min (2 ^ 16 - 1) (s.fld (Reg.GRV_CH_CNT n.val) 0 16 + 1)) ∧
  (∀ (s : State) (g : Fin 4) (falling : Bool) (phase : Nat) (n : Fin 20), s.pdUp PD_TDC = true →
      (∀ e ∈ s.grv.gates, e.1 = g.val → (s.replica replicaGraver).count + phase * 2 ^ 16 < e.2 ∨
        e.2 + 2 * 2 ^ 32 ≤ (s.replica replicaGraver).count + phase * 2 ^ 16) →
      s.grvArmed n.val = true → s.grvMode n.val = 1 → s.fld (Reg.GRV_CH_CTL n.val) 22 2 = g.val →
      ∃ t, exec (.gateEdge g falling phase) s = .next t ∧
        (falling = s.flag (Reg.GRV_CH_CTL n.val) 21 → (t.grvCh n.val).closed = none ∧
          (t.grvCh n.val).opened = some (ct96OfFrac (s.grvBase (s.onLo n.val) + phase))) ∧
        (falling ≠ s.flag (Reg.GRV_CH_CTL n.val) 21 → (s.grvCh n.val).opened ≠ none → (s.grvCh n.val).closed = none →
          (t.grvCh n.val).opened = (s.grvCh n.val).opened ∧
          (t.grvCh n.val).closed = some (ct96OfFrac (s.grvBase (s.onLo n.val) + phase)))) ∧
  (∀ (s : State) (n : Fin 20), s.grvWaits n.val = true → s.grvMode n.val = 3 →
      ct96ToFrac (s.rd96 (Reg.GRV_CH_WSTOP_W n.val 0)) ≤ s.grvBase (s.onLo n.val) →
      ∃ t, exec (.windowEnd n) s = .next t ∧ t.grvCh n.val = { s.grvCh n.val with armed := false, isDone := true } ∧
        t.flag Reg.GRV_STICKY 4 = true ∧ (∀ d, d ≠ n.val → t.grvCh d = s.grvCh d) ∧ s.keepsRegs t [Reg.GRV_STICKY]) ∧
  (∀ (s : State) (ag : Agent) (n : Fin 20) (r : StampRecord) (rs : List StampRecord), s.opens ag (Reg.GRV_CH_POP_W n.val 0) →
      ownsGrv (s.grvHost n.val) ag = true → (s.grvCh n.val).fifo = r :: rs →
      ∃ t, exec (.fifoPop ag n false) s = .next t ∧ t.bus.last = .data (word96 r.stamp 0) ∧
        t.rd (Reg.GRV_CH_POP_W n.val 1) = word96 r.stamp 1 ∧ t.rd (Reg.GRV_CH_POP_W n.val 2) = word96 r.stamp 2 ∧
        t.rd (Reg.GRV_CH_POP_W n.val 3) = s.popFlags r ∧ t.grvCh n.val = { s.grvCh n.val with fifo := rs } ∧
        s.keepsRegs t ((List.range 4).map (Reg.GRV_CH_POP_W n.val)) ∧ t = { s with regs := t.regs, grv := t.grv, bus := t.bus }) ∧
  (∀ (s : State) (ag : Agent) (n : Fin 20) (r q : StampRecord) (rs : List StampRecord),
      s.opens ag (Reg.GRV_CH_POP_W n.val 0) → ownsGrv (s.grvHost n.val) ag = true → (s.grvCh n.val).fifo = r :: q :: rs →
      ∃ t, exec (.fifoPop ag n true) s = .next t ∧ t.bus.last = .data (word96 q.stamp 0) ∧ (t.grvCh n.val).fifo = rs ∧
        bitAt (t.rd (Reg.GRV_CH_POP_W n.val 3)) 29 = true ∧
        t.fld (Reg.GRV_CH_CNT n.val) 0 16 = min (2 ^ 16 - 1) (s.fld (Reg.GRV_CH_CNT n.val) 0 16 + 1) ∧
        (∀ d, d ≠ n.val → t.grvCh d = s.grvCh d)) ∧
  (∀ (s : State) (r : StampRecord) (i : Nat), r.interval = some i → (replicaGraver, i) ∈ s.cal.bad →
      bitAt (s.popFlags r) 30 = true) ∧
  (∀ (s : State) (ag : Agent) (n : Fin 20) (bad : Bool), s.opens ag (Reg.GRV_CH_POP_W n.val 0) →
      ownsGrv (s.grvHost n.val) ag = true → (s.grvCh n.val).fifo = [] → exec (.fifoPop ag n bad) s = .next ((s.wr (Reg.GRV_CH_POP_W n.val 3) 0).complete (.data 0))) ∧
  (∀ (s : State) (ag : Agent) (n : Fin 20) (bad : Bool), s.opens ag (Reg.GRV_CH_POP_W n.val 0) →
      ownsGrv (s.grvHost n.val) ag = false → exec (.fifoPop ag n bad) s = .next ((s.error Reg.GRV_ERR 1 120).complete (.data 0))) ∧
  (∀ (s : State) (ag : Agent) (n : Fin 20) (v : Word), s.opens ag (Reg.GRV_CH_CTL n.val) → s.grvMayWrite ag n.val v = true → bitsAt v 28 2 ≠ 3 → bitsAt v 24 3 < 5 → 
      bitAt v 31 = true → s.grvEn n.val = false → bitsAt v 24 3 ≠ 3 →
      ∃ t, exec (.channelArm ag n v) s = .next t ∧ (t.grvCh n.val).armed = true ∧ (t.grvCh n.val).isDone = false ∧
        (t.grvCh n.val).opened = none ∧ (t.grvCh n.val).taken = 0 ∧ t.grvEn n.val = true ∧ t.grvMode n.val = bitsAt v 24 3 ∧
        (∀ d, d ≠ n.val → t.grvCh d = s.grvCh d)) ∧
  (∀ (s : State) (ag : Agent) (n : Fin 20) (v : Word), s.opens ag (Reg.GRV_CH_CTL n.val) → s.grvMayWrite ag n.val v = true → bitsAt v 28 2 ≠ 3 → bitsAt v 24 3 < 5 → 
      bitAt v 31 = true → s.grvEn n.val = false → bitsAt v 24 3 = 3 → s.windowOk n.val (bitAt v 30 && bitAt v 27) = false →
      exec (.channelArm ag n v) s = .next (s.error Reg.GRV_ERR 3 120)) ∧
  (∀ (s : State) (ag : Agent) (n : Fin 20) (v : Word), s.opens ag (Reg.GRV_CH_CTL n.val) → s.grvMayWrite ag n.val v = true → bitsAt v 28 2 ≠ 3 → bitsAt v 24 3 < 5 → 
      bitAt v 31 = false → bitAt v 16 = true →
      ∃ t, exec (.fifoClear ag n v) s = .next t ∧ (t.grvCh n.val).fifo = [] ∧ (t.grvCh n.val).seq = 0 ∧ (t.grvCh n.val).armed = false) ∧
  (∀ (s : State) (ag : Agent) (n : Fin 20) (v : Word), s.opens ag (Reg.GRV_CH_CTL n.val) → isHost ag = true →
      bitAt v 30 ≠ s.grvHost n.val → bitAt v 31 = false → bitsAt v 28 2 ≠ 3 → bitsAt v 24 3 < 5 →
      ∃ t, exec (.channelOwnerWrite ag n v) s = .next t ∧ (if bitAt v 30 = true ∧ 8 ≤ n.val ∧ n.val ≤ 17 ∧ s.benchMode = false
        then t = s.error Reg.GRV_ERR 1 120 else t.grvHost n.val = bitAt v 30 ∧ (t.grvCh n.val).armed = false)) ∧
  (∀ (s : State) (ag : Agent) (n : Fin 20) (v : Word), s.opens ag (Reg.GRV_CH_THR n.val) → ownsGrv (s.grvHost n.val) ag = true →
      n.val < 8 → s.grvEn n.val = true →
      ∃ t, exec (.thresholdWrite ag n v) s = .next t ∧ t.fld (Reg.GRV_CH_THR n.val) 0 12 = bitsAt v 0 12 ∧
        t.grvArmed n.val = false ∧ t.grvCh n.val = { s.grvCh n.val with settling := true } ∧ s.keepsRegs t [Reg.GRV_CH_THR n.val]) ∧
  (∀ (s : State) (n : Fin 20), (s.grvCh n.val).armed = true → (s.grvCh n.val).ready = true → s.pdUp PD_TDC = true → s.pllReady pllF = true →
      ∃ t, exec (.thresholdSettle n) s = .next t ∧ t.grvArmed n.val = true ∧ t.grvCh n.val = { s.grvCh n.val with settling := false } ∧
        t = { s with grv := { s.grv with channels := t.grv.channels } }) ∧
  (∀ (s : State) (n : Fin 20) (counts : List Nat), s.flag Reg.GRV_CTRL 0 = true → s.pdUp PD_TDC = true → s.pllReady pllF = true →
      counts.length = 64 → counts.sum = 2 ^ 20 →
      ∃ t, exec (.caltabUpdate n counts) s = .next t ∧ (∀ d, d ≠ n.val → t.grvCh d = s.grvCh d) ∧
        ((∀ k ∈ counts, 1024 ≤ k) → (t.grvCh n.val).gen = (s.grvCh n.val).gen + 1 ∧ (t.grvCh n.val).ready = true ∧
          (t.grvCh n.val).rejected = false ∧ (t.grvCh n.val).table.length = 64 ∧ t.regs = s.regs) ∧
        ((∃ k ∈ counts, k < 1024) → t.grvCh n.val = { s.grvCh n.val with rejected := true } ∧ t.flag Reg.GRV_STICKY 7 = true)) ∧
  (∀ (s : State) (ag : Agent) (v : Word), s.opens ag Reg.GRV_LOINC_H →
      exec (.loincCommit ag v) s = .next (if incrInRange (s.rd Reg.GRV_LOINC_L) v = true then
        { (s.wr Reg.GRV_LOINC_H v) with grv := { s.grv with pendIncr := some ⟨s.rd Reg.GRV_LOINC_L, v, applyEdges⟩ } }
        else (s.wr Reg.GRV_LOINC_H v).error Reg.GRV_ERR 0 120)) ∧
  (∀ (s : State) (p : PendIncr), s.grv.pendIncr = some p → p.edges = 0 →
      ∃ t, exec .loincApply s = .next t ∧ t.rd Reg.GRV_LOINC_CUR_L = p.low ∧ t.rd Reg.GRV_LOINC_CUR_H = p.high ∧
        s.keepsRegs t [Reg.GRV_LOINC_CUR_L, Reg.GRV_LOINC_CUR_H] ∧ t = { s with regs := t.regs, grv := { s.grv with pendIncr := none } }) ∧
  (∀ (s : State) (k : Fin 8), s.unitEn k.val = true → s.pdUp PD_TDC = true →
      s.unitEnd k.val ≤ s.grvBase (s.onLo (s.unitCh k.val)) →
      ∃ t, exec (.regressionWindowEnd k) s = .next t ∧ (t.grvUnit k.val).start = s.unitEnd k.val ∧ (t.grvUnit k.val).n = 0 ∧
        (t.grvUnit k.val).edges = 0 ∧ (t.grvUnit k.val).seq = ((s.grvUnit k.val).seq + 1) % 65536 ∧
        (t.grvUnit k.val).result = s.unitResult k.val ∧ t.flag Reg.GRV_STICKY 5 = true) ∧
  (∀ (s : State) (k : Fin 8), bitAt ((s.unitResult k.val).getD 6 0) 31 =
      (decide (3 ≤ (s.grvUnit k.val).n) && !(s.grvUnit k.val).lost && !(s.grvUnit k.val).suspect &&
        (s.onLo (s.unitCh k.val) || (s.grvUnit k.val).stepGen == s.fld Reg.CAL_STATUS 8 8)) ∧
      bitAt ((s.unitResult k.val).getD 6 0) 30 = (s.grvUnit k.val).suspect ∧
      bitAt ((s.unitResult k.val).getD 6 0) 28 = (s.grvUnit k.val).lost) ∧
  (∀ (s : State) (ag : Agent) (k : Fin 8), s.opens ag (Reg.GRV_REG_N k.val) → (s.grvUnit k.val).result.length = 7 →
      ∃ t, exec (.regressionRead ag k) s = .next t ∧ t.bus.last = .data ((s.grvUnit k.val).result.getD 0 0) ∧
        (∀ j, j < 7 → t.rd (Reg.GRV_REG_N k.val + 4 * j) = (s.grvUnit k.val).result.getD j 0) ∧
        s.keepsRegs t ((List.range 7).map fun j => Reg.GRV_REG_N k.val + 4 * j) ∧ t = { s with regs := t.regs, bus := t.bus })

/-- A write of a word of operand memory by the owner of its slot (with no command naming the slot) stores it; by any
other agent it is discarded and sets BNE_ERR.OWNER. A write of a register of a port by an agent that does not own
the port does the same, and CMD1 of the own port is written. Any agent reads any word. (R355) -/
def Obligations.OwnersOfSlotsAndPorts : Prop :=
  (∀ (s : State) (ag : Agent) (n : Fin 8192) (v : Word), s.opens ag (Reg.BNE_OPMEM n.val) → (isHost ag = true ↔ 24 ≤ n.val / 256) →
      s.slotBusy (n.val / 256) = false →
      ∃ t, exec (.opmemWrite ag n v) s = .next t ∧ t.rd (Reg.BNE_OPMEM n.val) = v ∧ s.keepsRegs t [Reg.BNE_OPMEM n.val] ∧
        t = { s with regs := t.regs, rel := { s.rel with poison := t.rel.poison } }) ∧
  (∀ (s : State) (ag : Agent) (n : Fin 8192) (v : Word), s.opens ag (Reg.BNE_OPMEM n.val) → ¬ (isHost ag = true ↔ 24 ≤ n.val / 256) →
      exec (.opmemWrite ag n v) s = .next (s.error Reg.BNE_ERR 1 174)) ∧
  (∀ (s : State) (ag : Agent) (p : Fin 2) (off : Nat) (v : Word), s.opens ag off → (isHost ag = true ↔ p.val = 0) →
      off ∈ [Reg.BNE_P_CMD0 p.val, Reg.BNE_P_CMD1 p.val, Reg.BNE_P_RES p.val, Reg.BNE_P_TIME p.val] →
      exec (.registerWrite ag off v) s = .next (s.error Reg.BNE_ERR 1 174)) ∧
  (∀ (s : State) (ag : Agent) (p : Fin 2) (v : Word), s.opens ag (Reg.BNE_P_CMD1 p.val) → (isHost ag = true ↔ p.val = 1) →
      exec (.registerWrite ag (Reg.BNE_P_CMD1 p.val) v) s = .next (s.plainWrite (Reg.BNE_P_CMD1 p.val) v)) ∧
  (∀ (s : State) (ag : Agent) (n : Fin 8192), s.opens ag (Reg.BNE_OPMEM n.val) →
      exec (.rcFieldRead ag (Reg.BNE_OPMEM n.val)) s = .next (s.complete (.data (s.rd (Reg.BNE_OPMEM n.val)))))

/-- A well-formed submission of each OP waits with BUSY, refused with PORT_BUSY while the port has one. The engine
starts the port whose turn it is; without microcode a command ends NO_UCODE. A failed check ends the command with
its status and no slot touched; otherwise only its output and scratch slots are undefined until it ends with its
status, SEQ, event and result. The results of MODEXP and MODINV are a^e mod m and the inverse of a. An uncorrectable
error ends it with ECC. A write of microcode clears UVALID. (13_big_number_engine.md) -/
def Obligations.BigNumberCommands : Prop :=
  (∀ (s : State) (ag : Agent) (p : Fin 2) (v : Word) (k : Instr) (op : Nat), (k, op) ∈ ([(.ecdsaVer ag p v, 1), (.ed25519Ver ag p v, 2), (.ptcheck ag p v, 3), (.rsaPub ag p v, 4), (.anchcmp ag p v, 5), (.modmul ag p v, 8), (.modexp ag p v, 9), (.modinv ag p v, 10), (.modred ag p v, 11), (.ucheck ag p v, 15)] : List (Instr × Nat)) →
      s.opens ag (Reg.BNE_P_CMD0 p.val) → (isHost ag = true ↔ p.val = 1) →
      s.flag (Reg.BNE_P_RES p.val) 31 = false → s.flag Reg.BNE_CTRL 0 = true → s.pd PD_BNE = pdOn →
      let w := putBits (putBit v 31 true) 24 4 op
      let c : BneCommand := ⟨p.val, (s.plainWrite (Reg.BNE_P_CMD0 p.val) w).rd (Reg.BNE_P_CMD0 p.val), s.rd (Reg.BNE_P_CMD1 p.val)⟩
      c.op = op ∧ (c.wellFormed = true → (s.uValid = true ∨ c.inRom = true) →
        ∃ t, exec k s = .next t ∧ t.bne = { s.bne with pending := s.bne.pending ++ [c] } ∧ t.fld (Reg.BNE_P_RES p.val) 30 2 = 2 ∧
          s.keepsRegs t [Reg.BNE_P_CMD0 p.val, Reg.BNE_P_RES p.val, Reg.BNE_STATUS] ∧ t = { s with regs := t.regs, bne := t.bne })) ∧
  (∀ (s : State) (ag : Agent) (p : Fin 2) (v : Word) (k : Instr) (op : Nat), (k, op) ∈ ([(.ecdsaVer ag p v, 1), (.ed25519Ver ag p v, 2), (.ptcheck ag p v, 3), (.rsaPub ag p v, 4), (.anchcmp ag p v, 5), (.modmul ag p v, 8), (.modexp ag p v, 9), (.modinv ag p v, 10), (.modred ag p v, 11), (.ucheck ag p v, 15)] : List (Instr × Nat)) →
      s.opens ag (Reg.BNE_P_CMD0 p.val) → (isHost ag = true ↔ p.val = 1) →
      s.flag (Reg.BNE_P_RES p.val) 31 = true →
      ∃ t, exec k s = .next t ∧ t.bne = s.bne ∧ t.flag Reg.BNE_ERR 2 = true ∧ t.rd (Reg.BNE_P_RES p.val) = s.rd (Reg.BNE_P_RES p.val)) ∧
  (∀ (s : State) (c : BneCommand), s.bne.running = none → s.pd PD_BNE = pdOn → PD_BNE ∉ s.cpm.inReset → (s.bne.pending.find? fun d => d.port == s.bne.next) = some c →
      (s.uValid = true ∨ c.inRom = true) →
      ∃ t, exec .bneCommandStart s = .next t ∧ t.bne = ⟨s.bne.pending.filter (· != c), some (c, false), 1 - c.port⟩ ∧
        t.flag Reg.BNE_STATUS 2 = true ∧ s.keepsRegs t [Reg.BNE_STATUS] ∧ t = { s with regs := t.regs, bne := t.bne }) ∧
  (∀ (s : State) (c : BneCommand) (rest : List BneCommand), s.bne.running = none → s.pd PD_BNE = pdOn → PD_BNE ∉ s.cpm.inReset → s.bne.pending = c :: rest →
      (∀ d ∈ s.bne.pending, d.port ≠ s.bne.next) → (s.uValid = true ∨ c.inRom = true) →
      ∃ t, exec .bneCommandStart s = .next t ∧ t.bne.running = some (c, false) ∧ t.bne.next = 1 - c.port) ∧
  (∀ (s : State) (c : BneCommand), s.bne.running = none → s.pd PD_BNE = pdOn → PD_BNE ∉ s.cpm.inReset → s.bne.pending = [c] → s.uValid = false → c.inRom = false → c.port < 2 →
      ∃ t, exec .bneCommandStart s = .next t ∧ t.bne.running = none ∧ t.bne.pending = [] ∧ t.fld (Reg.BNE_P_RES c.port) 30 2 = 1 ∧ t.fld (Reg.BNE_P_RES c.port) 16 8 = 0x0A ∧ t.fld (Reg.BNE_P_RES c.port) 0 16 = (s.fld (Reg.BNE_P_RES c.port) 0 16 + 1) % 2 ^ 16) ∧
  (∀ (s : State) (c : BneCommand) (e : Nat), s.bne.running = some (c, false) → s.bneValidate c = some e → c.port < 2 →
      ∃ t, exec .bneValidationEnd s = .next t ∧ t.bne.running = none ∧ t.fld (Reg.BNE_P_RES c.port) 30 2 = 1 ∧ t.fld (Reg.BNE_P_RES c.port) 16 8 = e % 256 ∧ t.fld (Reg.BNE_P_RES c.port) 0 16 = (s.fld (Reg.BNE_P_RES c.port) 0 16 + 1) % 2 ^ 16 ∧
        (⟨168 + c.port, 0, 0⟩ : Raise) ∈ t.raised ∧ t.fld (Reg.BNE_P_TIME c.port) 0 32 = min (s.bneValidation c) (2 ^ 32 - 1) ∧
        (c.op = 0xF → e ≠ 0 → t.flag Reg.BNE_STATUS 4 = false) ∧ (∀ j, j < 8192 → t.rd (Reg.BNE_OPMEM j) = s.rd (Reg.BNE_OPMEM j))) ∧
  (∀ (s : State) (c : BneCommand), s.bne.running = some (c, false) → s.bneValidate c = none →
      ∃ t, exec .bneValidationEnd s = .next t ∧ t.bne = { s.bne with running := some (c, true) } ∧
        (∀ slot j, slot < 32 → j < 256 → slot ∉ c.outputs → t.rd (Reg.BNE_OPMEM (256 * slot + j)) = s.rd (Reg.BNE_OPMEM (256 * slot + j)))) ∧
  (∀ (s : State) (c : BneCommand) (corrected : Nat), s.bne.running = some (c, true) → s.bnePoisoned c = none → c.port < 2 →
      c.op ≠ 0xF →
      ∃ t, exec (.bneCommandDone corrected none) s = .next t ∧ t.bne.running = none ∧ t.fld (Reg.BNE_P_RES c.port) 30 2 = 1 ∧ t.fld (Reg.BNE_P_RES c.port) 16 8 = (s.bneResult c).1 ∧ t.fld (Reg.BNE_P_RES c.port) 0 16 = (s.fld (Reg.BNE_P_RES c.port) 0 16 + 1) % 2 ^ 16 ∧
        (⟨168 + c.port, 0, 0⟩ : Raise) ∈ t.raised ∧
        (∀ v k, (s.bneResult c).2 = some (v, k) → k ≤ 128 → t.slotNumber c.sd 0 k = v % 2 ^ (64 * k))) ∧
  (∀ (s : State) (c : BneCommand) (corrected : Nat) (v : Bool) (a : Fin 98304), s.bne.running = some (c, v) → c.port < 2 →
      ∃ t, exec (.bneCommandDone corrected (some a)) s = .next t ∧ t.bne.running = none ∧ t.fld (Reg.BNE_P_RES c.port) 30 2 = 1 ∧ t.fld (Reg.BNE_P_RES c.port) 16 8 = 0x0C ∧ t.fld (Reg.BNE_P_RES c.port) 0 16 = (s.fld (Reg.BNE_P_RES c.port) 0 16 + 1) % 2 ^ 16 ∧
        (⟨173, 0, 0⟩ : Raise) ∈ t.raised ∧ (32768 ≤ a.val → t.uValid = false ∨ c.op = 0xF)) ∧
  (∀ (m b e n : Nat), e < 2 ^ n → powMod m b e n = b ^ e % m) ∧
  (∀ (m a n : Nat), 1 < m → a < m → m < 2 ^ n → Nat.gcd a m = 1 → a * invMod n m a % m = 1 ∧ invMod n m a < m) ∧
  (∀ (s : State) (ag : Agent) (h : Bool) (n : Fin 16384) (v : Word),
      let off := if h then Reg.BNE_UHDR (n.val % 64) else Reg.BNE_UCODE n.val
      s.opens ag off → isHost ag = false → s.bne.running = none →
      ∃ t, exec (.ucodeWrite ag h n v) s = .next t ∧ t.rd off = v ∧ t.uValid = false ∧
        (s.uValid = true → (⟨171, 0, 0⟩ : Raise) ∈ t.raised) ∧ s.keepsRegs t [off, Reg.BNE_STATUS, Reg.BNE_UINFO]) ∧
  (∀ (s : State) (ag : Agent) (h : Bool) (n : Fin 16384) (v : Word),
      let off := if h then Reg.BNE_UHDR (n.val % 64) else Reg.BNE_UCODE n.val
      s.opens ag off → isHost ag = true → exec (.ucodeWrite ag h n v) s = .next s) ∧
  (∀ (s : State) (ag : Agent) (h : Bool) (n : Fin 16384) (v : Word),
      let off := if h then Reg.BNE_UHDR (n.val % 64) else Reg.BNE_UCODE n.val
      s.opens ag off → isHost ag = false → s.bne.running ≠ none →
      exec (.ucodeWrite ag h n v) s = .next (s.error Reg.BNE_ERR 4 174))

/-- A raise sets its RAW bit and, with its source enabled, queues a record of 32 bytes (lost, counted and flagged where
the ring is off or full) and sets its vector pending, which sends one message and is held off. Configuration
accesses read and write their field. FLR and a returning link reset the DMA and EVT blocks but NOHOST, and set FLR;
PERST holds the endpoint down. BAR2 reads and writes pool and banks by enabled bytes; elsewhere, or without
PD_FABRIC, it is counted. A record whose translation fails faults its ring. (14_host_interface_dma_events.md) -/
def Obligations.EventsAndTheEndpoint : Prop :=
  (∀ (s : State) (r : Raise) (rest : List Raise), s.raised = r :: rest → r.src < 256 → s.pdUp PD_FABRIC = true →
      ∃ t, exec .eventRaise s = .next t ∧ t.flag (Reg.EVT_RAW (r.src / 32)) (r.src % 32) = true ∧
        ((s.flag Reg.EVT_CTRL 0 = false ∨ s.flag (Reg.EVT_SRC r.src) 31 = false) →
          t = State.setFlag { s with raised := rest } (Reg.EVT_RAW (r.src / 32)) (r.src % 32) true)) ∧
  (∀ (s : State) (r : Raise) (rest : List Raise), s.raised = r :: rest → s.pdUp PD_FABRIC = false →
      exec .eventRaise s = .next { s with raised := rest }) ∧
  (∀ (s : State) (r : Raise) (rest : List Raise), s.raised = r :: rest → r.src < 256 → s.pdUp PD_FABRIC = true → s.flag Reg.EVT_CTRL 0 = true → s.flag (Reg.EVT_SRC r.src) 31 = true →
      s.flag (Reg.EVT_SRC r.src) 29 = true → s.pdUp PD_PCIE = true →
      ∃ t, exec .eventRaise s = .next t ∧ t.vecPending (s.fld (Reg.EVT_SRC r.src) 0 7) = true) ∧
  (∀ (s : State) (r : Raise) (rest : List Raise), s.raised = r :: rest → r.src < 256 → s.pdUp PD_FABRIC = true → s.flag Reg.EVT_CTRL 0 = true → s.flag (Reg.EVT_SRC r.src) 31 = true →
      s.flag (Reg.EVT_SRC r.src) 30 = true → s.pdUp PD_PCIE = true →
      ∃ t, exec .eventRaise s = .next t ∧
        ((s.ring (64 + s.fld (Reg.EVT_SRC r.src) 24 2)).st ≠ ringDisabled → (s.ring (64 + s.fld (Reg.EVT_SRC r.src) 24 2)).events.length < 256 →
          (t.ring (64 + s.fld (Reg.EVT_SRC r.src) 24 2)).events = (s.ring (64 + s.fld (Reg.EVT_SRC r.src) 24 2)).events ++ [⟨ct96OfCount (s.replica replicaCores).count, r.src, r.data0, r.data1,
            if s.flag (Reg.EVT_SRC r.src) 29 then some (s.fld (Reg.EVT_SRC r.src) 0 7) else none⟩]) ∧
        ((s.ring (64 + s.fld (Reg.EVT_SRC r.src) 24 2)).st = ringDisabled ∨ 256 ≤ (s.ring (64 + s.fld (Reg.EVT_SRC r.src) 24 2)).events.length →
          (t.ring (64 + s.fld (Reg.EVT_SRC r.src) 24 2)).events = (s.ring (64 + s.fld (Reg.EVT_SRC r.src) 24 2)).events ∧ (t.ring (64 + s.fld (Reg.EVT_SRC r.src) 24 2)).ovf = true ∧ t.flag Reg.DMA_STICKY 7 = true ∧
          t.fld Reg.DMA_CNT_EVLOST 0 32 = min (2 ^ 32 - 1) (s.fld Reg.DMA_CNT_EVLOST 0 32 + 1))) ∧
  (∀ (s : State) (v : Fin 128), s.vecPending v.val = true → v.val ∉ s.dma.hold → s.vecWaits v.val = false → s.vecMaySend v.val = true →
      ∃ t, exec (.msixSend v) s = .next t ∧ t.vecPending v.val = false ∧
        t.dma.link = s.dma.link ++ [.message (ofWords64 (s.rd (Reg.MSIX_ADDR_L v.val)) (s.rd (Reg.MSIX_ADDR_H v.val))) (s.rd (Reg.MSIX_DATA v.val))] ∧
        (v.val ∈ t.dma.hold ↔ s.fld (Reg.EVT_VEC v.val) 0 10 ≠ 0) ∧ s.keepsRegs t [Reg.MSIX_PBA (v.val / 32)] ∧
        t = { s with regs := t.regs, dma := { s.dma with link := t.dma.link, hold := t.dma.hold } }) ∧
  (∀ (s : State) (v : Fin 128), v.val ∈ s.dma.hold → exec (.msixSend v) s = .next s) ∧
  (∀ (s : State) (v : Fin 128), v.val ∈ s.dma.hold → s.vecPending v.val = false →
      exec (.holdoffEnd v) s = .next { s with dma := { s.dma with hold := s.dma.hold.filter (· != v.val) } }) ∧
  (∀ (s : State) (v : Fin 128), v.val ∈ s.dma.hold → s.vecPending v.val = true → s.vecWaits v.val = false → s.vecMaySend v.val = true →
      ∃ t, exec (.holdoffEnd v) s = .next t ∧ t.vecPending v.val = false ∧ t.dma.link.length = s.dma.link.length + 1) ∧
  (∀ (s : State) (a : ConfigAccess), s.endpointUp = true →
      ∃ t, exec (.configAccess a) s = .next t ∧ t = { s with pcie := t.pcie, regs := t.regs, dma := { s.dma with link := t.dma.link } } ∧
        s.keepsRegs t [Reg.CAL_PTM_STATUS] ∧ ((∀ b, a ≠ .ptmEnable b) → t.regs = s.regs) ∧ (a ≠ .pmeTurnOff → t.dma = s.dma) ∧
        (∀ r, a = .read r → t.pcie = { s.pcie with configData := s.configWord r }) ∧
        (∀ b, a = .busMaster b → t.pcie = { s.pcie with busMaster := b } ∧ t.configWord .command = BitVec.ofNat 64 (ofBool b * 4)) ∧
        (∀ e m, a = .msix e m → t.pcie = { s.pcie with msixEnable := e, functionMask := m } ∧
          t.configWord .msixControl = BitVec.ofNat 64 (127 + ofBool m * 2 ^ 14 + ofBool e * 2 ^ 15)) ∧
        (∀ d, a = .powerState d → t.pcie = { s.pcie with dState := if d then 3 else 0 }) ∧
        (∀ b, a = .ptmEnable b → t.pcie = { s.pcie with ptmEnable := b } ∧ t.flag Reg.CAL_PTM_STATUS 16 = !b) ∧
        (∀ k, a = .maxPayload k → t.pcie = { s.pcie with maxPayload := 128 * 2 ^ k.val }) ∧
        (∀ k, a = .maxReadRequest k → t.pcie = { s.pcie with maxReadRequest := 128 * 2 ^ k.val }) ∧
        (∀ v, a = .bar0 v → t.pcie = { s.pcie with bar0 := v }) ∧ (∀ v, a = .bar2 v → t.pcie = { s.pcie with bar2 := v }) ∧
        (a = .pmeTurnOff → t.pcie = { s.pcie with turnOff := true } ∧
          t.dma.link = if s.pcie.turnOff then s.dma.link else s.dma.link ++ [.pmeAck])) ∧
  (∀ (s : State), s.endpointUp = true →
      ∃ t, exec .flr s = .next t ∧ t.flag Reg.DMA_STICKY 10 = true ∧ (∀ r, t.ring r = RingState.reset) ∧ t.dma.hold = [] ∧
        (∀ o, 0xC00000 ≤ o → o < 0xE00000 → o ≠ Reg.DMA_CNT_NOHOST → o ≠ Reg.DMA_STICKY → t.rd o = regDefault o) ∧
        (∀ o, o < 0xC00000 ∨ 0xE00000 ≤ o ∨ o = Reg.DMA_CNT_NOHOST → o ≠ Reg.CAL_PTM_STATUS → t.rd o = s.rd o) ∧
        t.flag Reg.CAL_PTM_STATUS 16 = true ∧
        t.pcie = { s.pcie with busMaster := false, msixEnable := false, functionMask := false, dState := 0, ptmEnable := false,
                               maxReadRequest := 512, bar0 := 0, bar2 := 0, turnOff := false, downed := false } ∧
        t = { s with regs := t.regs, raised := t.raised, dma := t.dma, pcie := t.pcie }) ∧
  (∀ (s : State), s.pcie.linkUp = true →
      exec .pcieLinkDown s = .next { s with pcie := { s.pcie with linkUp := false, downed := true } }) ∧
  (∀ (s : State), s.pdUp PD_PCIE = true → s.pcie.perst = false → s.pcie.linkUp = false →
      ∃ t, exec .pcieLinkUp s = .next t ∧ t.endpointUp = true ∧ t.pcie.subsystem = s.pcie.subsystemNext ∧
        (s.pcie.downed = false → t = { s with pcie := t.pcie }) ∧
        (s.pcie.downed = true → t.flag Reg.DMA_STICKY 10 = true ∧ (∀ r, t.ring r = RingState.reset) ∧ t.pcie.downed = false ∧
          t.pcie.maxPayload = 128 ∧ t.pcie.busMaster = false)) ∧
  (∀ (s : State), s.pcie.perst = false →
      ∃ t, exec .perstAssert s = .next t ∧ t.pcie.perst = true ∧ t.pcie.linkUp = false ∧ t.endpointUp = false ∧ t.pcie.bar0 = 0 ∧
        t.pcie.busMaster = false ∧ (s.pdUp PD_PCIE = true → ∀ r, t.ring r = RingState.reset) ∧
        t = { s with regs := t.regs, dma := t.dma, pcie := t.pcie }) ∧
  (∀ (s : State), s.pcie.perst = true →
      ∃ t, exec .perstRelease s = .next t ∧ t.pcie.perst = false ∧ (s.pdUp PD_PCIE = true → t.flag Reg.DMA_STICKY 10 = true) ∧
        (s.pdUp PD_PCIE = false → t = { s with pcie := { s.pcie with perst := false } })) ∧
  (∀ (s : State) (n : Fin 33554432), s.endpointUp = true → s.pdUp PD_FABRIC = true → 4 * n.val < 0x3000000 →
      s.poisoned memPool (4 * n.val) 4 = none →
      exec (.bar2Access n 1 none) s = .next { s with pcie := { s.pcie with bar2Data := (memReadBytes s.gys.pool (4 * n.val) 4, false) } }) ∧
  (∀ (s : State) (n : Fin 33554432) (v : Vector (Option Byte) 4), s.endpointUp = true → s.pdUp PD_FABRIC = true →
      4 * n.val < 0x3000000 → s.partlyPoisoned memPool (4 * n.val) 4 = none →
      ∃ t, exec (.bar2Access n 0 (some [v])) s = .next t ∧
        (∀ j : Fin 4, memRead t.gys.pool (4 * n.val + j.val) = (v.get j).getD (memRead s.gys.pool (4 * n.val + j.val))) ∧
        (∀ a, a < 4 * n.val ∨ 4 * n.val + 4 ≤ a → memRead t.gys.pool a = memRead s.gys.pool a)) ∧
  (∀ (s : State) (n : Fin 33554432) (b : Fin 2) (v : Vector (Option Byte) 4), s.endpointUp = true → s.pdUp PD_FABRIC = true →
      0x4000000 + 0x200000 * b.val ≤ 4 * n.val → 4 * n.val < 0x4200000 + 0x200000 * b.val →
      exec (.bar2Access n 0 (some [v])) s = .next (s.writeBank b.val (4 * n.val - (0x4000000 + 0x200000 * b.val))
        (v.toList.mapIdx fun j x => x.getD (memRead s.gys.banks (4 * n.val - 0x4000000 + j))))) ∧
  (∀ (s : State) (n : Fin 33554432), s.endpointUp = true → s.pdUp PD_FABRIC = true → 0x4400000 ≤ 4 * n.val →
      exec (.bar2Access n 1 none) s = .next (State.dmaSticky (State.bump { s with pcie := { s.pcie with
        bar2Data := ([0, 0, 0, 0], false) } } Reg.DMA_CNT_BAR2 0 32) 9)) ∧
  (∀ (s : State) (n : Fin 33554432), s.endpointUp = true → s.pdUp PD_FABRIC = false →
      ∃ t, exec (.bar2Access n 1 none) s = .next t ∧ t.pcie.bar2Data = ([0xFF, 0xFF, 0xFF, 0xFF], false) ∧ t.gys = s.gys ∧
        t.flag Reg.DMA_STICKY 9 = true ∧ t.fld Reg.DMA_CNT_BAR2 0 32 = min (2 ^ 32 - 1) (s.fld Reg.DMA_CNT_BAR2 0 32 + 1)) ∧
  (∀ (s : State) (r ha : Nat) (e : EventRecord) (es : List EventRecord), s.nextClass = some 0 → s.nextRing 0 = some r → 64 ≤ r → r < 68 →
      (s.ring r).events = e :: es → s.translate (s.slotDa r (s.ringProd r)) true = .inl ha →
      ∃ t, exec .eventRecordWrite s = .next t ∧ t.dma.link = s.dma.link ++ [.write ha (s.recordBytes r (s.ringProd r) e)] ∧
        t.ring r = { s.ring r with xfer := none, events := es, ovf := false, seq := ((s.ring r).seq + 1) % 2 ^ 32 } ∧
        t.rd (ringReg r 0x0C) = s.rd (ringReg r 0x0C) + 1 ∧ (∀ q, q ≠ r → t.ring q = s.ring q) ∧
        s.keepsRegs t [ringReg r 0x0C, ringReg r 0x2C]) ∧
  (∀ (s : State) (r cause : Nat) (e : EventRecord) (es : List EventRecord), s.nextClass = some 0 → s.nextRing 0 = some r → 64 ≤ r → r < 68 →
      (s.ring r).events = e :: es → s.translate (s.slotDa r (s.ringProd r)) true = .inr cause →
      ∃ t, exec .eventRecordWrite s = .next t ∧ (t.ring r).st = ringFault ∧ (t.ring r).events = e :: es ∧ t.dma.link = s.dma.link ∧
        t.rd (ringReg r 0x20) = BitVec.ofNat 32 (cause * 2 ^ 28 + 2 ^ 27 + 3 * 2 ^ 25 + s.ringProd r % s.ringSize r) ∧
        (⟨192, BitVec.ofNat 32 r, 0⟩ : Raise) ∈ t.raised) ∧
  (∀ (s : State) (r n : Nat) (e : EventRecord), (s.recordBytes r n e).length = 32)

/-- Indices are accepted within N; up frames are admitted, dropped or counted; a posted descriptor takes a frame, ends
TOOBIG or DESC; descriptors are fetched, up to 8 for a down ring; completions carry stamp, status and GEN. EN
starts, stops and restarts a ring. A chunk within payload size and 4 KiB is issued through its window; the last
chunk of a completion advances CONS. Failed reads fault the ring with their cause; RESUME and SKIP leave FAULT and
are refused elsewhere. Windows are checked. (14_host_interface_dma_events.md) -/
def Obligations.RingsAndTransfers : Prop :=
  (∀ (s : State) (ag : Agent) (r : Fin 64) (v : Word), s.opens ag (ringReg r.val 0x0C) →
      exec (.prodWrite ag r v) s = .next (if s.ringSize r.val < ahead v.toNat (s.ringCons r.val) ∨
          s.ringSize r.val < ahead v.toNat (s.ringProd r.val)
        then s.error Reg.DMA_ERR 0 194 else s.wr (ringReg r.val 0x0C) v)) ∧
  (∀ (s : State) (ag : Agent) (e : Fin 4) (v : Word), s.opens ag (ringReg (64 + e.val) 0x10) →
      exec (.consWrite ag e v) s = .next (if s.ringSize (64 + e.val) < ahead (s.ringProd (64 + e.val)) v.toNat ∨
          s.ringSize (64 + e.val) < ahead v.toNat (s.ringCons (64 + e.val))
        then s.error Reg.DMA_ERR 0 194 else s.wr (ringReg (64 + e.val) 0x10) v)) ∧
  (∀ (s : State) (u : UpFrame) (us : List UpFrame), s.net.toHost = u :: us → u.ring < 32 →
      ∃ t, exec .upFrameArrive s = .next t ∧ t.net = { s.net with toHost := us } ∧
        (s.endpointUp = true → (s.ring u.ring).st ≠ ringDisabled → s.admissible u.ring = true →
          (t.ring u.ring).up = (s.ring u.ring).up ++ [u] ∧ ∀ q, q ≠ u.ring → t.ring q = s.ring q) ∧
        (s.endpointUp = true → ((s.ring u.ring).st = ringDisabled ∨ s.admissible u.ring = false) → t.dma.rings = s.dma.rings ∧
          t.fld (ringReg u.ring 0x30) 0 32 = min (2 ^ 32 - 1) (s.fld (ringReg u.ring 0x30) 0 32 + 1)) ∧
        (s.endpointUp = false → t.dma = s.dma ∧
          t.fld Reg.DMA_CNT_NOHOST 0 32 = min (2 ^ 32 - 1) (s.fld Reg.DMA_CNT_NOHOST 0 32 + 1))) ∧
  (∀ (s : State) (r : Fin 32) (d : List Byte) (u : UpFrame) (us : List UpFrame), s.ringState r.val = ringRun → (s.ring r.val).xfer = none →
      (s.ring r.val).posted = some d → (s.ring r.val).up = u :: us → postedBad d = false →
      u.frame.bytes.length ≤ ofLeBytes ((d.drop 8).take 2) → u.frame.poison = [] →
      exec (.upFrameWrite r) s = .next (s.setRing r.val 
        { s.ring r.val with xfer := some ⟨1, true, ofLeBytes (d.take 8), u.frame.bytes.length, 0, s.ringCons r.val % s.ringSize r.val, u.frame.bytes, 0⟩ })) ∧
  (∀ (s : State) (r : Fin 32) (d : List Byte) (u : UpFrame) (us : List UpFrame), s.ringState r.val = ringRun → (s.ring r.val).xfer = none →
      (s.ring r.val).posted = some d → (s.ring r.val).up = u :: us → postedBad d = false →
      ofLeBytes ((d.drop 8).take 2) < u.frame.bytes.length →
      ∃ t, exec (.upFrameWrite r) s = .next t ∧ (t.ring r.val).up = us ∧ (t.ring r.val).ending = 8 ∧
        (t.ring r.val).xfer.map (·.data) = some (s.describe u ++ s.slotCtl r.val (s.ringCons r.val) 8) ∧ t.flag Reg.DMA_STICKY 3 = true ∧
        t.fld (ringReg r.val 0x30) 0 32 = min (2 ^ 32 - 1) (s.fld (ringReg r.val 0x30) 0 32 + 1)) ∧
  (∀ (s : State) (r : Fin 32) (d : List Byte) (u : UpFrame) (us : List UpFrame), s.ringState r.val = ringRun → (s.ring r.val).xfer = none →
      (s.ring r.val).posted = some d → (s.ring r.val).up = u :: us → postedBad d = true →
      ∃ t, exec (.upFrameWrite r) s = .next t ∧ (t.ring r.val).up = u :: us ∧ (t.ring r.val).ending = 5 ∧
        ∃ bs, bs.length = 28 ∧ (t.ring r.val).xfer.map (·.data) = some (bs ++ s.slotCtl r.val (s.ringCons r.val) 5)) ∧
  (∀ (s : State) (r : Fin 64), s.ringState r.val = ringRun → (s.ring r.val).xfer = none → r.val < 32 → (s.ring r.val).up ≠ [] → (s.ring r.val).posted = none →
      s.ringProd r.val ≠ s.ringCons r.val →
      exec (.descriptorFetch r) s = .next (s.setRing r.val 
        { s.ring r.val with got := [], xfer := some ⟨0, false, s.slotDa r.val (s.ringCons r.val), 32, 0, s.ringCons r.val % s.ringSize r.val, [], 0⟩ })) ∧
  (∀ (s : State) (r : Fin 64) (d : DownDescriptor) (ds : List DownDescriptor), s.ringState r.val = ringRun → (s.ring r.val).xfer = none → 32 ≤ r.val → s.admissible r.val = true →
      (s.ring r.val).down = d :: ds → d.started = false → d.status = none →
      s.cellsFree (frameCells d.len) = true →
      ∃ t, exec (.descriptorFetch r) s = .next t ∧ (t.ring r.val).down = { d with started := true } :: ds ∧
        (t.ring r.val).xfer = some ⟨1, false, ofLeBytes (d.raw.take 8), d.len, 0, s.ringCons r.val % s.ringSize r.val, [], d.serial⟩) ∧
  (∀ (s : State) (r : Fin 64), s.ringState r.val = ringRun → (s.ring r.val).xfer = none → 32 ≤ r.val → s.admissible r.val = true → (s.ring r.val).down = [] →
      s.ringProd r.val ≠ (s.ring r.val).fetched → (s.ring r.val).fetched < 2 ^ 32 →
      ∃ t n, exec (.descriptorFetch r) s = .next t ∧ 1 ≤ n ∧ n ≤ 8 ∧ n ≤ ahead (s.ringProd r.val) (s.ring r.val).fetched ∧
        (t.ring r.val).xfer = some ⟨0, false, s.slotDa r.val (s.ring r.val).fetched, 32 * n, 0,
          (s.ring r.val).fetched % s.ringSize r.val, [], 0⟩) ∧
  (∀ (s : State) (r : Fin 32) (d : DownDescriptor) (ds : List DownDescriptor) (stamp : Stamp),
      s.ringState (32 + r.val) = ringRun → (s.ring (32 + r.val)).xfer = none → (s.ring (32 + r.val)).down = d :: ds → d.status = some (0, stamp) →
      (ofLeBytes ((d.raw.drop 11).take 1)).testBit 2 = true →
      ∃ t, exec (.downCompletion r) s = .next t ∧ (t.ring (32 + r.val)).ending = 0 ∧ (t.ring (32 + r.val)).xfer.map (·.data) =
        some (timeBytes stamp.time ++ leBytes 1 (ofBool (s.marked stamp)) ++ leBytes 15 0 ++ s.slotCtl (32 + r.val) (s.ringCons (32 + r.val)) 0)) ∧
  (∀ (s : State) (r : Fin 32) (d : DownDescriptor) (ds : List DownDescriptor) (st : Nat) (stamp : Stamp),
      s.ringState (32 + r.val) = ringRun → (s.ring (32 + r.val)).xfer = none → (s.ring (32 + r.val)).down = d :: ds → d.status = some (st, stamp) → st ≠ 0 →
      ∃ t bs, exec (.downCompletion r) s = .next t ∧ (t.ring (32 + r.val)).ending = st ∧ bs.length = 12 ∧
        (t.ring (32 + r.val)).xfer.map (·.data) = some (bs ++ leBytes 16 0 ++ s.slotCtl (32 + r.val) (s.ringCons (32 + r.val)) st)) ∧
  (∀ (s : State) (ag : Agent) (r : Fin 68) (v : Word), s.opens ag (ringReg r.val 0x08) → 6 ≤ bitsAt v 0 5 → bitsAt v 0 5 ≤ 16 →
      (64 ≤ r.val ∨ bitsAt v 28 2 ≠ 0) → (s.ring r.val).st = ringDisabled →
      ∃ t, exec (.ringEnable ag r v) s = .next t ∧ (t.ring r.val).st = ringRun ∧ t.ringProd r.val = 0 ∧ t.ringCons r.val = 0 ∧
        t.ringLog r.val = bitsAt v 0 5 ∧ (t.ring r.val).events = [] ∧ s.keepsRegs t [ringReg r.val 8, ringReg r.val 0x0C, ringReg r.val 0x10]) ∧
  (∀ (s : State) (ag : Agent) (r : Fin 68) (v : Word), s.opens ag (ringReg r.val 0x08) → 6 ≤ bitsAt v 0 5 → bitsAt v 0 5 ≤ 16 →
      (64 ≤ r.val ∨ bitsAt v 28 2 ≠ 0) → bitsAt v 0 5 = s.ringLog r.val → (s.ring r.val).st = ringStopping →
      (∃ t, exec (.ringEnable ag r v) s = .next t ∧ t.ring r.val = { s.ring r.val with again := true }) ∧
      (∃ t, exec (.ringDisable ag r v) s = .next t ∧ t.ring r.val = { s.ring r.val with again := false })) ∧
  (∀ (s : State) (ag : Agent) (r : Fin 68) (v : Word), s.opens ag (ringReg r.val 0x08) → 6 ≤ bitsAt v 0 5 → bitsAt v 0 5 ≤ 16 →
      (64 ≤ r.val ∨ bitsAt v 28 2 ≠ 0) → bitsAt v 0 5 = s.ringLog r.val → ((s.ring r.val).st = ringRun ∨ (s.ring r.val).st = ringFault) →
      ∃ t, exec (.ringDisable ag r v) s = .next t ∧ (t.ring r.val).st = ringStopping ∧ (t.ring r.val).xfer = none ∧
        (t.ring r.val).reads = (s.ring r.val).reads ∧ ∀ q, q ≠ r.val → t.ring q = s.ring q) ∧
  (∀ (s : State) (r : Fin 68), (s.ring r.val).st = ringStopping → (s.ring r.val).reads = [] →
      ∃ t, exec (.ringStopDone r) s = .next t ∧ (t.ring r.val).events = [] ∧ (t.ring r.val).up = [] ∧
        ((s.ring r.val).again = false → (t.ring r.val).st = ringDisabled) ∧
        ((s.ring r.val).again = true → (t.ring r.val).st = ringRun ∧ t.ringProd r.val = 0 ∧ t.ringCons r.val = 0) ∧
        t.fld (ringReg r.val 0x30) 0 32 = (if (s.ring r.val).up = [] then s.fld (ringReg r.val 0x30) 0 32
          else min (2 ^ 32 - 1) (s.fld (ringReg r.val 0x30) 0 32 + (s.ring r.val).up.length))) ∧
  (∀ (s : State) (c r : Nat) (x : Transfer), s.nextClass = some c → c ≠ 0 → s.nextRing c = some r → r < 64 → (s.ring r).xfer = some x →
      ∀ ha, s.translate (x.da + x.pos) x.write = .inl ha → x.write = false →
      ∃ t, exec .chunkIssue s = .next t ∧ t.dma.link = s.dma.link ++ [.read ha (s.chunkLength x)] ∧
        t.ring r = { s.ring r with xfer := some { x with pos := x.pos + s.chunkLength x }, reads := (s.ring r).reads ++ [(x.pos, s.chunkLength x)] } ∧
        (∀ q, q ≠ r → t.ring q = s.ring q) ∧ t.regs = s.regs) ∧
  (∀ (s : State) (c r : Nat) (x : Transfer), s.nextClass = some c → c ≠ 0 → s.nextRing c = some r → r < 64 → (s.ring r).xfer = some x →
      ∀ ha, s.translate (x.da + x.pos) x.write = .inl ha → x.write = true → x.pos + s.chunkLength x < x.total →
      ∃ t, exec .chunkIssue s = .next t ∧ t.dma.link = s.dma.link ++ [.write ha ((x.data.drop x.pos).take (s.chunkLength x))] ∧
        t.ring r = { s.ring r with xfer := some { x with pos := x.pos + s.chunkLength x } } ∧
        (∀ q, q ≠ r → t.ring q = s.ring q) ∧ t.regs = s.regs) ∧
  (∀ (s : State) (c r : Nat) (x : Transfer), s.nextClass = some c → c ≠ 0 → s.nextRing c = some r → r < 64 → (s.ring r).xfer = some x →
      ∀ ha, s.translate (x.da + x.pos) x.write = .inl ha → x.write = true → x.kind = 2 → x.pos + s.chunkLength x = x.total →
      ∃ t, exec .chunkIssue s = .next t ∧ (t.ring r).xfer = none ∧ (t.ring r).posted = none ∧
        t.rd (ringReg r 0x10) = s.rd (ringReg r 0x10) + 1 ∧
        t.fld (ringReg r 0x2C) 0 32 = min (2 ^ 32 - 1) (s.fld (ringReg r 0x2C) 0 32 + 1)) ∧
  (∀ (s : State) (c r : Nat) (x : Transfer), s.nextClass = some c → c ≠ 0 → s.nextRing c = some r → r < 64 → (s.ring r).xfer = some x →
      ∀ cause, s.translate (x.da + x.pos) x.write = .inr cause → (x.kind ≠ 1 ∨ s.flag (ringReg r 0x08) 27 = false) →
      ∃ t, exec .chunkIssue s = .next t ∧ (t.ring r).st = ringFault ∧ (t.ring r).xfer = some x ∧ t.dma.link = s.dma.link ∧
        t.rd (ringReg r 0x20) = BitVec.ofNat 32 (cause * 2 ^ 28 + ofBool x.write * 2 ^ 27 + x.kind * 2 ^ 25 + x.slot) ∧
        (⟨192, BitVec.ofNat 32 r, 0⟩ : Raise) ∈ t.raised) ∧
  (∀ (s : State) (x : Transfer), 0 < s.chunkLength x → (x.da + x.pos + s.chunkLength x - 1) / 4096 = (x.da + x.pos) / 4096 ∧
      x.pos + s.chunkLength x ≤ x.total ∧ s.chunkLength x ≤ (if x.write then s.pcie.maxPayload else s.pcie.maxReadRequest)) ∧
  (∀ (s : State) (r : Fin 64) (k : Nat) (p : Nat × Nat) (x : Transfer) (bs : List Byte), (s.ring r.val).reads[k]? = some p →
      (s.ring r.val).xfer = some x → bs.length = p.2 → x.pos ≠ x.total →
      exec (.readCompletion r k (.data bs)) s = .next (s.setRing r.val 
        { s.ring r.val with reads := (s.ring r.val).reads.eraseIdx k, got := (s.ring r.val).got ++ [(p.1, bs)] })) ∧
  (∀ (s : State) (r : Fin 64) (x : Transfer) (bs : List Byte), r.val < 32 → (s.ring r.val).reads = [(0, 32)] → (s.ring r.val).xfer = some x →
      x.kind = 0 → x.pos = x.total → x.total = 32 → (s.ring r.val).got = [] → (s.ring r.val).st ≠ ringFault → bs.length = 32 →
      ∃ t, exec (.readCompletion r 0 (.data bs)) s = .next t ∧ (t.ring r.val).posted = some bs ∧ (t.ring r.val).xfer = none ∧
        (t.ring r.val).reads = [] ∧ t.regs = s.regs) ∧
  (∀ (s : State) (r : Fin 64) (k : Nat) (p : Nat × Nat) (x : Transfer) (res : ReadResult) (cause : Nat),
      (s.ring r.val).reads[k]? = some p → (s.ring r.val).xfer = some x → (x.kind ≠ 1 ∨ s.flag (ringReg r.val 0x08) 27 = false) →
      (res, cause) ∈ [(ReadResult.unsupportedRequest, 3), (.completerAbort, 4), (.poisoned, 6)] →
      ∃ t, exec (.readCompletion r k res) s = .next t ∧ (t.ring r.val).st = ringFault ∧
        (t.ring r.val).xfer = some { x with pos := p.1 } ∧ t.rd (ringReg r.val 0x20) =
          BitVec.ofNat 32 (cause * 2 ^ 28 + ofBool x.write * 2 ^ 27 + x.kind * 2 ^ 25 + x.slot) ∧ t.flag Reg.DMA_STICKY 1 = true) ∧
  (∀ (s : State) (r : Fin 64) (k : Nat) (p : Nat × Nat) (x : Transfer), (s.ring r.val).reads[k]? = some p → (s.ring r.val).xfer = some x →
      (x.kind ≠ 1 ∨ s.flag (ringReg r.val 0x08) 27 = false) →
      ∃ t, exec (.completionTimeout r k) s = .next t ∧ (t.ring r.val).st = ringFault ∧ t.rd (ringReg r.val 0x20) =
        BitVec.ofNat 32 (5 * 2 ^ 28 + ofBool x.write * 2 ^ 27 + x.kind * 2 ^ 25 + x.slot)) ∧
  (∀ (s : State) (ag : Agent) (r : Fin 68) (x : Transfer), s.opens ag (ringReg r.val 0x1C) → s.ringState r.val = ringFault →
      (s.ring r.val).xfer = some x →
      exec (.ringResume ag r) s = .next ((s.setRing r.val { s.ring r.val with st := ringRun }).raise 193 (BitVec.ofNat 32 r.val))) ∧
  (∀ (s : State) (ag : Agent) (r : Fin 68), s.opens ag (ringReg r.val 0x1C) → s.ringState r.val ≠ ringFault →
      exec (.ringResume ag r) s = .next (s.error Reg.DMA_ERR 3 194) ∧ exec (.ringSkip ag r) s = .next (s.error Reg.DMA_ERR 3 194)) ∧
  (∀ (s : State) (ag : Agent) (r : Fin 68) (x : Transfer) (u : UpFrame) (us : List UpFrame), s.opens ag (ringReg r.val 0x1C) → r.val < 32 →
      s.ringState r.val = ringFault → (s.ring r.val).xfer = some x → x.kind = 1 → (s.ring r.val).up = u :: us →
      ∃ t, exec (.ringSkip ag r) s = .next t ∧ (t.ring r.val).st = ringRun ∧ (t.ring r.val).up = us ∧
        (t.ring r.val).ending = (if s.fld (ringReg r.val 0x20) 28 4 ≤ 2 then 6 else 7) ∧
        t.fld (ringReg r.val 0x30) 0 32 = min (2 ^ 32 - 1) (s.fld (ringReg r.val 0x30) 0 32 + 1) ∧
        t.raised = s.raised ++ [⟨193, BitVec.ofNat 32 r.val, 0⟩]) ∧
  (∀ (s : State) (ag : Agent) (r : Fin 68) (x : Transfer), s.opens ag (ringReg r.val 0x1C) → s.ringState r.val = ringFault →
      (s.ring r.val).xfer = some x → x.kind ≠ 1 → exec (.ringSkip ag r) s = .next (s.error Reg.DMA_ERR 3 194)) ∧
  (∀ (s : State) (ag : Agent) (w : Fin 64) (j : Fin 4) (v : Word), s.opens ag (Reg.DMA_WIN_CTL w.val + 4 * j.val) →
      exec (.windowWrite ag w j v) s = .next (if j.val = 0 ∧ s.windowBad w.val v = true then s.error Reg.DMA_ERR 0 194
        else s.plainWrite (Reg.DMA_WIN_CTL w.val + 4 * j.val) v))

/-- Losses and returns of inputs and PLLs set bits and raise 208 to 211. A multiplexer switches to a READY source only,
by the agents that R410 names. A gate closes at once or when accesses end. Enables, disables, refusals, delays,
limits, OFF, slots, release, readiness and resets change STATE, EN and the latched requests; OFF leaves the domain's
registers at reset but those kept; queues resynchronise. A shut-down of PD_GNSS_ACQ ends its job and keeps its
satellites wanted in AUTO; EVERLOCK outlives PD_FABRIC. (15_clocks_power.md) -/
def Obligations.InputsClocksAndDomains : Prop :=
  (∀ (s : State) (i : Fin 4), s.monitors = true → s.flag Reg.CPM_STATUS (okBit i.val) = true →
      ∃ t, exec (.inputLoss i) s = .next t ∧ i.val ∈ t.cpm.lost ∧ (⟨210, BitVec.ofNat 32 i.val, 0⟩ : Raise) ∈ t.raised ∧
        t.flag Reg.CPM_STATUS (okBit i.val) = false ∧
        (∀ p : Fin 13, i.val ≠ 0 → pllInput p.val = some i.val → s.pllUsed p.val = true → t.flag Reg.CPM_PLL (16 + p.val) = true) ∧
        (i.val ≠ 0 → t.flag Reg.CPM_STICKY 2 = true) ∧
        (i.val = 0 → t.flag Reg.CPM_STATUS 31 = true ∧ t.flag Reg.CPM_STICKY 0 = true ∧
          (s.mode ≠ modeReset → t.flag Reg.GCTL_CAUSE causeLo = true))) ∧
  (∀ (s : State) (i : Fin 4), s.monitors = true → s.flag Reg.CPM_STATUS (okBit i.val) = false →
      ∃ t, exec (.inputOk i) s = .next t ∧ t.flag Reg.CPM_STATUS (okBit i.val) = true ∧ i.val ∉ t.cpm.lost ∧
        t.raised = s.raised ++ (if i.val ∈ s.cpm.lost then [⟨211, BitVec.ofNat 32 i.val, 0⟩] else []) ∧
        (i.val = 0 → t.flag Reg.CPM_STATUS 31 = false) ∧ s.keepsRegs t [Reg.CPM_STATUS]) ∧
  (∀ (s : State) (p : Fin 13), s.pllUsed p.val = true → s.refGood p.val = true → s.pllReady p.val = false →
      (p.val ≠ 0 ∨ s.cpm.level = none) →
      ∃ t, exec (.pllReady p) s = .next t ∧ t.pllReady p.val = true ∧ t.flag Reg.CPM_PLL (16 + p.val) = false ∧
        (s.flag Reg.CPM_PLL (16 + p.val) = true → (⟨209, BitVec.ofNat 32 p.val, 0⟩ : Raise) ∈ t.raised)) ∧
  (∀ (s : State) (p : Fin 13), s.pllUsed p.val = true → s.pllReady p.val = true → s.flag Reg.CPM_PLL (16 + p.val) = false →
      ∃ t, exec (.pllLoss p) s = .next t ∧ t.pllReady p.val = false ∧ t.flag Reg.CPM_PLL (16 + p.val) = true ∧
        t.flag Reg.CPM_STICKY 1 = true ∧ (⟨208, BitVec.ofNat 32 p.val, 0⟩ : Raise) ∈ t.raised) ∧
  (∀ (s : State) (ag : Agent) (v : Word), s.opens ag Reg.CPM_CLKSEL → isHost ag = true → bitAt v 0 = s.flag Reg.CPM_CLKSEL 0 →
      exec (.clockSwitch ag v) s = .next (if s.flag Reg.CPM_CLKSEL 4 = bitAt v 4 then s
        else if s.pllReady (if bitAt v 4 then pllH else pllC) then s.setFlag Reg.CPM_CLKSEL 4 (bitAt v 4) else s.error Reg.CPM_ERR 1 222)) ∧
  (∀ (s : State) (ag : Agent) (v : Word), s.opens ag Reg.CPM_CLKSEL → isHost ag = true → bitAt v 0 ≠ s.flag Reg.CPM_CLKSEL 0 →
      bitAt v 4 = s.flag Reg.CPM_CLKSEL 4 → exec (.clockSwitch ag v) s = .next (s.error Reg.CPM_ERR 2 222)) ∧
  (∀ (s : State) (k : Fin 8) (v : Word), s.opens (.sc k) Reg.CPM_CLKSEL → k.val < 2 → bitAt v 4 = s.flag Reg.CPM_CLKSEL 4 →
      exec (.clockSwitch (.sc k) v) s = .next (if s.flag Reg.CPM_CLKSEL 0 = bitAt v 0 then s
        else if bitAt v 0 = false ∨ s.pllReady pllH = true then s.setFlag Reg.CPM_CLKSEL 0 (bitAt v 0) else s.error Reg.CPM_ERR 1 222)) ∧
  (∀ (s : State) (k : Fin 8) (v : Word), s.opens (.sc k) Reg.CPM_CLKSEL → 2 ≤ k.val →
      exec (.clockSwitch (.sc k) v) s = .next (s.error Reg.CPM_ERR 2 222)) ∧
  (∀ (s : State) (ag : Agent) (d : Fin 21) (busy : Bool), s.opens ag (Reg.CPM_PD_CTL d.val) → controls ag = true → fixedDomain d.val = false → s.pd d.val = pdOn → s.clkoff d.val = false → s.pdEn d.val = true →
      ∃ t, exec (.clockGate ag d busy) s = .next t ∧ t.clkoff d.val = true ∧
        (busy = true → d.val ∈ t.cpm.closing ∧ t.flag Reg.CPM_STICKY 3 = true ∧ t.pd d.val = pdOn) ∧
        (busy = false → t.pd d.val = pdGated)) ∧
  (∀ (s : State) (ag : Agent) (d : Fin 21) (busy : Bool), s.opens ag (Reg.CPM_PD_CTL d.val) → controls ag = true → fixedDomain d.val = false → s.pd d.val ≠ pdOn → s.clkoff d.val = false →
      exec (.clockGate ag d busy) s = .next (s.error Reg.CPM_ERR 4 222)) ∧
  (∀ (s : State) (d : Fin 21) (expired : Bool), d.val ∈ s.cpm.closing →
      ∃ t, exec (.gateClose d expired) s = .next t ∧ d.val ∉ t.cpm.closing ∧
        t.pd d.val = (if s.pd d.val = pdOn then pdGated else s.pd d.val) ∧
        (expired = true → t.flag Reg.CPM_STICKY 4 = true ∧ (⟨214, BitVec.ofNat 32 d.val, 0⟩ : Raise) ∈ t.raised) ∧
        (s.flag Reg.REL_LOG_CTRL 31 = true → s.fld Reg.REL_LOG_CTRL 24 3 = 0 → s.logWait.length < 16 →
          t.logWait.map (·.data0) = s.logWait.map (·.data0) ++ [BitVec.ofNat 32 d.val])) ∧
  (∀ (s : State) (ag : Agent) (d : Fin 21), s.opens ag (Reg.CPM_PD_CTL d.val) → controls ag = true → fixedDomain d.val = false → s.clkoff d.val = true → s.pdEn d.val = true → (s.pd d.val = pdGated ∨ s.pd d.val = pdOn) →
      ∃ t, exec (.clockUngate ag d) s = .next t ∧ t.pd d.val = pdOn ∧ t.clkoff d.val = false ∧ d.val ∉ t.cpm.closing) ∧
  (∀ (s : State) (ag : Agent) (d : Fin 21), s.opens ag (Reg.CPM_PD_CTL d.val) → controls ag = true → fixedDomain d.val = false → s.pd d.val = pdOff →
      ∃ t, exec (.pdEnable ag d) s = .next t ∧ t.pd d.val = pdPoweringUp ∧ t.pdEn d.val = true ∧ t.upStage d.val = 0 ∧
        (s.pdUp PD_FABRIC = true → t.raised = s.raised ++ [⟨212, BitVec.ofNat 32 d.val, 0⟩]) ∧ s.keepsRegs t [Reg.CPM_PD_CTL d.val]) ∧
  (∀ (s : State) (ag : Agent) (d : Fin 21), s.opens ag (Reg.CPM_PD_CTL d.val) → controls ag = true → fixedDomain d.val = false → (s.pd d.val = pdRequested ∨ s.pd d.val = pdShuttingDown) →
      ∃ t, exec (.pdEnable ag d) s = .next t ∧ t.pd d.val = s.pd d.val ∧ t.pdEn d.val = true ∧ t.flag (Reg.CPM_PD_CTL d.val) 27 = true ∧
        t = { s with regs := t.regs }) ∧
  (∀ (s : State) (ag : Agent) (d : Fin 21), s.opens ag (Reg.CPM_PD_CTL d.val) → controls ag = true → fixedDomain d.val = false → (s.pd d.val = pdOn ∨ s.pd d.val = pdGated) →
      (∃ t, exec (.pdDisable ag d) s = .next t ∧ t.pd d.val = pdRequested ∧ t.pdEn d.val = false ∧ d.val ∉ t.cpm.forced) ∧
      (∃ t, exec (.pdForceDisable ag d) s = .next t ∧ t.pd d.val = pdRequested ∧ t.pdEn d.val = false ∧ d.val ∈ t.cpm.forced)) ∧
  (∀ (s : State) (ag : Agent) (d : Fin 21), s.opens ag (Reg.CPM_PD_CTL d.val) → controls ag = true → fixedDomain d.val = false → s.pd d.val = pdRequested →
      ∃ t, exec (.pdForceDisable ag d) s = .next t ∧ t.pd d.val = pdRequested ∧ d.val ∈ t.cpm.forced ∧ t.flag (Reg.CPM_PD_CTL d.val) 27 = false) ∧
  (∀ (s : State) (ag : Agent) (d : Fin 21), s.opens ag (Reg.CPM_PD_CTL d.val) → controls ag = true → fixedDomain d.val = false → s.pd d.val = pdPoweringUp →
      (∃ t f, exec (.pdDisable ag d) s = .next t ∧ t.pd d.val = pdPoweringUp ∧ t.pdEn d.val = false ∧ (d.val, f) ∈ t.cpm.owed) ∧
      (∃ t, exec (.pdForceDisable ag d) s = .next t ∧ t.pd d.val = pdPoweringUp ∧ (d.val, true) ∈ t.cpm.owed) ∧
      (∃ t, exec (.pdEnable ag d) s = .next t ∧ ∀ f, (d.val, f) ∉ t.cpm.owed)) ∧
  (∀ (s : State) (ag : Agent) (d : Fin 21), s.opens ag (Reg.CPM_PD_CTL d.val) → controls ag = true → fixedDomain d.val = true →
      exec (.pdDisable ag d) s = .next (s.error Reg.CPM_ERR 2 222) ∧ exec (.pdReset ag d) s = .next (s.error Reg.CPM_ERR 2 222) ∧
      exec (.clockGate ag d false) s = .next (s.error Reg.CPM_ERR 2 222)) ∧
  (∀ (s : State) (k : Fin 8) (d : Fin 21), s.opens (.sc k) (Reg.CPM_PD_CTL d.val) → 2 ≤ k.val →
      exec (.pdEnable (.sc k) d) s = .next (s.error Reg.CPM_ERR 2 222)) ∧
  (∀ (s : State) (d : Fin 21), s.pd d.val = pdRequested → s.forced d.val = false → s.refusal d.val ≠ 0 →
      ∃ t, exec (.pdHandshakeAnswer d) s = .next t ∧ t.pd d.val = pdOn ∧ t.pdEn d.val = true ∧ t.flag (Reg.CPM_PD_CTL d.val) 27 = false ∧
        t.fld (Reg.CPM_PD_CTL d.val) 20 4 = s.refusal d.val ∧ t.flag Reg.CPM_STICKY 6 = true ∧
        (⟨213, BitVec.ofNat 32 d.val, 0⟩ : Raise) ∈ t.raised ∧ s.keepsRegs t [Reg.CPM_PD_CTL d.val, Reg.CPM_STICKY]) ∧
  (∀ (s : State) (d : Fin 21), s.pd d.val = pdRequested → (s.forced d.val = true ∨ s.refusal d.val = 0) → s.delays d.val = true →
      exec (.pdHandshakeAnswer d) s = .next s) ∧
  (∀ (s : State) (d : Fin 21), s.pd d.val = pdRequested → (s.forced d.val = true ∨ s.refusal d.val = 0) → s.delays d.val = false →
      ∃ t, exec (.pdHandshakeAnswer d) s = .next t ∧ t.pd d.val = pdShuttingDown ∧ (d.val = PD_GNSS_ACQ → t.gns.job = none) ∧
        (d.val ≠ PD_GNSS_ACQ → s.keepsRegs t [Reg.CPM_PD_CTL d.val] ∧ t = { s with regs := t.regs, raised := t.raised }) ∧
        (∀ j n, s.gns.job = some (j, n) → d.val = PD_GNSS_ACQ → t.flag Reg.GNS_STATUS 3 = false ∧
          (s.fld Reg.GNS_ACQ_CFG 30 2 = 0 → ∀ v ∈ j.svs, (j.sig, v) ∈ t.gns.wanted))) ∧
  (∀ (s : State) (d : Fin 21), s.pd d.val = pdRequested → s.delays d.val = true → d.val ≠ PD_BNE →
      ∃ t, exec (.pdDelayLimit d) s = .next t ∧
        (d.val ≠ PD_PCIE → s.forced d.val = false → t.pd d.val = pdOn ∧ t.fld (Reg.CPM_PD_CTL d.val) 20 4 = 4 ∧ t.flag Reg.CPM_STICKY 6 = true) ∧
        (d.val = PD_PCIE ∨ (s.forced d.val = true ∧ (d.val < 2 ∨ 9 < d.val)) → t.pd d.val = pdShuttingDown) ∧
        (2 ≤ d.val → d.val ≤ 9 → s.forced d.val = true → ∀ r ∈ t.gys.queued, r.ofCluster (d.val - 2) = false)) ∧
  (∀ (s : State) (d : Fin 21), d.val ≠ 0 → s.pd d.val = pdShuttingDown →
      ∃ t, exec (.pdOff d) s = .next t ∧ t.clkoff d.val = false ∧ t.flag (Reg.CPM_PD_CTL d.val) 27 = false ∧ d.val ∉ t.cpm.forced ∧
        (s.flag (Reg.CPM_PD_CTL d.val) 27 = false → t.pd d.val = pdOff) ∧
        (s.flag (Reg.CPM_PD_CTL d.val) 27 = true → t.pd d.val = pdPoweringUp ∧ t.pdEn d.val = true) ∧
        (∀ off r i j, regRow off = some (r, i, j) → regDomain r off = d.val → keptReg off = false → off ≠ Reg.SEL_STATUS → t.rd off = regDefault off) ∧
        (d.val = PD_FABRIC → t.flag Reg.SEL_STATUS 26 = s.flag Reg.SEL_STATUS 26)) ∧
  (∀ (s : State) (d : Fin 21), s.awaitsSlot d.val = true → powerOrder.find? s.awaitsSlot = some d.val →
      (d.val < 2 ∨ 9 < d.val ∨ s.cpm.level = none) → exec (.pdSlotStart d) s = .next (s.setStage d.val 1)) ∧
  (∀ (s : State) (d : Fin 21), s.awaitsSlot d.val = true → 2 ≤ d.val → d.val ≤ 9 → s.cpm.level ≠ none → exec (.pdSlotStart d) s = .next s) ∧
  (∀ (s : State) (d : Fin 21), s.pd d.val = pdPoweringUp → s.upStage d.val = 1 → s.clockReady d.val = true →
      ∃ t, exec (.pdResetRelease d) s = .next t ∧ t.upStage d.val = 2 ∧ t.pd d.val = pdPoweringUp ∧
        (∀ i : Fin 74, ((queueSides i.val).1 = d.val ∨ (queueSides i.val).2 = d.val) → t.sideUp (queueSides i.val).1 = true →
          t.sideUp (queueSides i.val).2 = true → t.xq i.val = (2, (s.xq i.val).2)) ∧
        (d.val = PD_FABRIC → t.flag Reg.CPM_CLKSEL 0 = true)) ∧
  (∀ (s : State) (d : Fin 21) (meas : Nat), s.pd d.val = pdPoweringUp → s.upStage d.val = 2 →
      ∃ t, exec (.pdReady d meas) s = .next t ∧ t.upStage d.val = 0 ∧ (∀ f, (d.val, f) ∉ t.cpm.owed) ∧
        ((∀ f, (d.val, f) ∉ s.cpm.owed) → t.pd d.val = pdOn) ∧
        (∀ f, s.cpm.owed = [(d.val, f)] → t.pd d.val = pdRequested ∧ t.forced d.val = f)) ∧
  (∀ (s : State) (ag : Agent) (d : Fin 21), s.opens ag (Reg.CPM_PD_CTL d.val) → controls ag = true → fixedDomain d.val = false → (s.pd d.val = pdOn ∨ s.pd d.val = pdGated) →
      ∃ t, exec (.pdReset ag d) s = .next t ∧ d.val ∈ t.cpm.inReset ∧ t.pd d.val = s.pd d.val ∧ t.gys.l = s.gys.l) ∧
  (∀ (s : State) (ag : Agent) (d : Fin 21), s.opens ag (Reg.CPM_PD_CTL d.val) → controls ag = true → fixedDomain d.val = false → s.pd d.val ≠ pdOn → s.pd d.val ≠ pdGated → exec (.pdReset ag d) s = .next (s.error Reg.CPM_ERR 4 222)) ∧
  (∀ (s : State) (d : Fin 21) (meas : Nat), d.val ∈ s.cpm.inReset →
      ∃ t, exec (.pdResetEnd d meas) s = .next t ∧ d.val ∉ t.cpm.inReset ∧ t.pd d.val = s.pd d.val) ∧
  (∀ (s : State) (i : Fin 74), (s.xq i.val).1 ≠ 0 → s.sideUp (queueSides i.val).1 = true → s.sideUp (queueSides i.val).2 = true →
      exec (.xqResync i) s = .next (s.setXq i.val 0 (s.xq i.val).2) ∧ (s.setXq i.val 0 (s.xq i.val).2).xqRuns i.val = true)

/-- A TARGET starts the sequence its direction asks, is latched while one runs, or is refused for VSETTLE; the end sets
CUR and raises 216; an AVS write goes out and sets VDD_ARRAY when accepted; a failed one is logged, retried, and
holds the sequence. TCAP moves with the junction, stands at P3 with a failed sensor, and a trip forces the clusters
down. Valid readings are kept, stale ones flagged; an external sensor is asked over master 0, if enabled. The owner
of a master runs one transfer at a time. Alarms are checked. DORMANT turns the domains off; the wake boots with KIND
2 and powers what is enabled. In OFF and RESET every output floats, else those of a domain that is off; FENCE_OUT is
driven. (15_clocks_power.md) -/
def Obligations.LevelsTemperaturesAndDormant : Prop :=
  (∀ (s : State) (ag : Agent) (v : Word), s.opens ag Reg.CPM_PLEVEL → (bitsAt v 16 8 < 5 ∨ 200 < bitsAt v 16 8) →
      exec (.plevelTargetWrite ag v) s = .next (s.error Reg.CPM_ERR 0 222)) ∧
  (∀ (s : State) (ag : Agent) (v : Word), s.opens ag Reg.CPM_PLEVEL → 5 ≤ bitsAt v 16 8 → bitsAt v 16 8 ≤ 200 → (s.cpm.level ≠ none ∨ (max (bitsAt v 0 2) (s.fld Reg.CPM_PLEVEL 8 2)) = s.pcur) →
      ∃ t, exec (.plevelTargetWrite ag v) s = .next t ∧ t.fld Reg.CPM_PLEVEL 0 2 = bitsAt v 0 2 ∧
        t.fld Reg.CPM_PLEVEL 16 8 = bitsAt v 16 8 ∧ t.pcur = s.pcur ∧ t.cpm = s.cpm ∧ s.keepsRegs t [Reg.CPM_PLEVEL]) ∧
  (∀ (s : State) (ag : Agent) (v : Word), s.opens ag Reg.CPM_PLEVEL → 5 ≤ bitsAt v 16 8 → bitsAt v 16 8 ≤ 200 → s.cpm.level = none → s.arrayRising = false → (max (bitsAt v 0 2) (s.fld Reg.CPM_PLEVEL 8 2)) < s.pcur →
      ∃ t, exec (.plevelTargetWrite ag v) s = .next t ∧ t.cpm.level = some ⟨(max (bitsAt v 0 2) (s.fld Reg.CPM_PLEVEL 8 2)), true, 0, none⟩ ∧ t.flag Reg.CPM_PLEVEL 12 = true ∧
        t.cpm.avs = s.cpm.avs ++ [levelMillivolts (max (bitsAt v 0 2) (s.fld Reg.CPM_PLEVEL 8 2))] ∧ t.cpm.vddArray = s.cpm.vddArray ∧ t.pcur = s.pcur ∧ s.keepsRegs t [Reg.CPM_PLEVEL]) ∧
  (∀ (s : State) (ag : Agent) (v : Word), s.opens ag Reg.CPM_PLEVEL → 5 ≤ bitsAt v 16 8 → bitsAt v 16 8 ≤ 200 → s.cpm.level = none → s.arrayRising = false → s.pcur < (max (bitsAt v 0 2) (s.fld Reg.CPM_PLEVEL 8 2)) → s.arrayOn = true →
      ∃ t, exec (.plevelTargetWrite ag v) s = .next t ∧ t.cpm.level = some ⟨(max (bitsAt v 0 2) (s.fld Reg.CPM_PLEVEL 8 2)), false, 1, none⟩ ∧ t.flag Reg.CPM_PLEVEL 12 = true ∧
        t.pcur = s.pcur ∧ t.flag Reg.CPM_CLKSEL 2 = true ∧ t.pllReady pllA = false) ∧
  (∀ (s : State) (m : LevelMove), s.cpm.level = some m → m.phase = 2 → m.accepted ≠ some false → s.peff = m.target →
      m.target < 4 → ∃ t, exec (.vsettleEnd true) s = .next t ∧ t.cpm.level = none ∧ t.pcur = m.target ∧ t.flag Reg.CPM_PLEVEL 12 = false ∧
        t.raised = s.raised ++ [⟨216, 0, 0⟩] ∧ s.keepsRegs t [Reg.CPM_PLEVEL]) ∧
  (∀ (s : State) (m : LevelMove), s.cpm.level = some m → m.phase = 0 → m.accepted ≠ some false → s.arrayOn = true →
      ∃ t, exec (.vsettleEnd true) s = .next t ∧ t.cpm.vddArray = levelMillivolts m.target ∧ t.cpm.level = some { m with phase := 1, accepted := none } ∧
        t.flag Reg.CPM_CLKSEL 2 = true ∧ t.pllReady pllA = false ∧ t.pcur = s.pcur) ∧
  (∀ (s : State) (m : LevelMove), s.cpm.level = some m → m.phase ≠ 1 → m.accepted = none →
      ∃ t, exec (.vsettleEnd false) s = .next t ∧ t.cpm.level = some { m with accepted := some false } ∧ t.pcur = s.pcur ∧
        (s.flag Reg.REL_LOG_CTRL 31 = true → s.fld Reg.REL_LOG_CTRL 24 3 = 0 → s.logWait.length < 16 →
          t.logWait.map (fun e => (e.source, e.detail)) = s.logWait.map (fun e => (e.source, e.detail)) ++
            [(0x0102, BitVec.ofNat 64 (levelMillivolts m.target))])) ∧
  (∀ (s : State) (m : LevelMove), s.cpm.level = some m → m.accepted = some false →
      exec (.avsRetry true) s = .next { s with cpm := { s.cpm with
        level := some { m with accepted := some true }, avs := s.cpm.avs ++ [levelMillivolts m.target],
        vddArray := levelMillivolts m.target } } ∧
      (∃ t, exec (.avsRetry false) s = .next t ∧ t.cpm = { s.cpm with avs := s.cpm.avs ++ [levelMillivolts m.target] })) ∧
  (∀ (s : State) (m : LevelMove), s.cpm.level = some m → m.accepted = none → exec (.avsRetry true) s = .next s) ∧
  (∀ (s : State) (held : Bool), s.junction < ((s.fld Reg.CPM_THERM 24 8 : Int) * 256) → s.flag (Reg.CPM_TEMP 0) 1 = true → ∃ t, exec (.thermalCheck held) s = .next t ∧ t.fld Reg.CPM_PLEVEL 8 2 = 3 ∧ t.cpm.tripped = false ∧
        (s.fld Reg.CPM_PLEVEL 8 2 ≠ 3 → (⟨217, 0, 0⟩ : Raise) ∈ t.raised ∧ t.flag Reg.CPM_STICKY 7 = true)) ∧
  (∀ (s : State) (held : Bool), s.junction < ((s.fld Reg.CPM_THERM 24 8 : Int) * 256) → s.flag (Reg.CPM_TEMP 0) 1 = false →
      ∃ t, exec (.thermalCheck held) s = .next t ∧ t.cpm.tripped = false ∧ t.fld Reg.CPM_PLEVEL 8 2 =
        (if held = true ∧ ((s.fld Reg.CPM_THERM 16 8 : Int) * 256) ≤ s.junction then min 3 (s.fld Reg.CPM_PLEVEL 8 2 + 1)
         else if held = true ∧ s.junction ≤ ((s.fld Reg.CPM_THERM 8 8 : Int) * 256) then s.fld Reg.CPM_PLEVEL 8 2 - 1 else s.fld Reg.CPM_PLEVEL 8 2) ∧
        (t.fld Reg.CPM_PLEVEL 8 2 ≠ s.fld Reg.CPM_PLEVEL 8 2 → (⟨217, 0, 0⟩ : Raise) ∈ t.raised)) ∧
  (∀ (s : State) (held : Bool), ((s.fld Reg.CPM_THERM 24 8 : Int) * 256) ≤ s.junction → s.cpm.tripped = false →
      ∃ t, exec (.thermalCheck held) s = .next t ∧ t.cpm.tripped = true ∧ t.flag Reg.CPM_STICKY 9 = true ∧
        (⟨218, 0, 0⟩ : Raise) ∈ t.raised ∧ (s.mode ≠ modeOff → s.mode ≠ modeReset → t.flag Reg.GCTL_CAUSE causeTrip = true) ∧
        ∀ k : Fin 8, (s.pd (PD_ARRAY k.val) = pdOn ∨ s.pd (PD_ARRAY k.val) = pdGated) → t.pd (PD_ARRAY k.val) = pdRequested ∧
          t.forced (PD_ARRAY k.val) = true ∧ t.pdEn (PD_ARRAY k.val) = false) ∧
  (∀ (s : State) (n : Fin 3) (v : BitVec 16) (stale : Bool), 2 ≤ s.mode → -14080 ≤ v.toInt → v.toInt ≤ 38400 →
      (n.val = 0 ∨ (s.flag (Reg.CPM_TSCFG (n.val - 1)) 31 = true ∧ ∀ e ∈ s.cpm.transfers, e.1 ≠ 0)) →
      (n.val = 0 → exec (.sensorPoll n (some v) stale) s =
        .next (s.wr (Reg.CPM_TEMP n.val) (BitVec.ofNat 32 (v.toNat * 2 ^ 16 + 1)))) ∧
      (n.val ≠ 0 → s.flag (Reg.CPM_I2C_CTL 0) 31 = true → ∃ t, exec (.sensorPoll n (some v) stale) s = .next t ∧
        t.rd (Reg.CPM_TEMP n.val) = BitVec.ofNat 32 (v.toNat * 2 ^ 16 + 1) ∧ s.keepsRegs t [Reg.CPM_TEMP n.val] ∧
        t.cpm.i2c = s.cpm.i2c ++ [(0, s.fld (Reg.CPM_TSCFG (n.val - 1)) 8 7, [BitVec.ofNat 8 (s.fld (Reg.CPM_TSCFG (n.val - 1)) 0 8)])]) ∧
      (n.val ≠ 0 → s.flag (Reg.CPM_I2C_CTL 0) 31 = false → exec (.sensorPoll n (some v) false) s = .next s)) ∧
  (∀ (s : State) (n : Fin 3), 2 ≤ s.mode → s.flag (Reg.CPM_TEMP n.val) 1 = false →
      (n.val = 0 ∨ (s.flag (Reg.CPM_TSCFG (n.val - 1)) 31 = true ∧ ∀ e ∈ s.cpm.transfers, e.1 ≠ 0)) →
      (n.val = 0 ∨ s.flag (Reg.CPM_I2C_CTL 0) 31 = false → exec (.sensorPoll n none false) s = .next s) ∧
      ∃ t, exec (.sensorPoll n none true) s = .next t ∧ t.flag (Reg.CPM_TEMP n.val) 1 = true ∧ t.flag Reg.CPM_STICKY 8 = true ∧
        (⟨219, BitVec.ofNat 32 n.val, 0⟩ : Raise) ∈ t.raised ∧ (n.val = 0 → t.fld Reg.CPM_PLEVEL 8 2 = 3)) ∧
  (∀ (s : State) (ag : Agent) (m : Fin 2) (v : Word), s.opens ag (Reg.CPM_I2C_XFER m.val) → s.ownsI2c m.val ag = true → bitAt v 31 = true →
      s.flag (Reg.CPM_I2C_CTL m.val) 31 = true → bitsAt v 8 4 ≤ 8 → bitsAt v 0 4 ≤ 8 → (bitsAt v 8 4 ≠ 0 ∨ bitsAt v 0 4 ≠ 0) →
      ∃ t, exec (.i2cTransfer ag m v) s = .next t ∧
        (s.flag (Reg.CPM_I2C_STAT m.val) 31 = true → t = s.error Reg.CPM_ERR 6 222) ∧
        (s.flag (Reg.CPM_I2C_STAT m.val) 31 = false → t.rd (Reg.CPM_I2C_STAT m.val) = 0x80000000 ∧
          t.cpm.transfers = s.cpm.transfers ++ [(m.val, v)] ∧
          t.cpm.i2c = s.cpm.i2c ++ [(m.val, bitsAt v 16 7, (s.i2cData m.val).take (bitsAt v 8 4))] ∧
          s.keepsRegs t [Reg.CPM_I2C_STAT m.val])) ∧
  (∀ (s : State) (ag : Agent) (m : Fin 2) (v : Word), s.opens ag (Reg.CPM_I2C_XFER m.val) → s.ownsI2c m.val ag = false →
      exec (.i2cTransfer ag m v) s = .next (s.error Reg.CPM_ERR 2 222)) ∧
  (∀ (s : State) (m : Fin 2) (v : Word) (e : I2cEnd), s.cpm.transfers.find? (·.1 == m.val) = some (m.val, v) → bitsAt v 0 4 ≤ 8 →
      i2cFits (bitsAt v 0 4) e = true →
      ∃ t, exec (.i2cDone m e) s = .next t ∧ (t.i2cData m.val).take (i2cOutcome e).1.length = (i2cOutcome e).1 ∧
        t.rd (Reg.CPM_I2C_STAT m.val) = BitVec.ofNat 32 (2 ^ 30 + (i2cOutcome e).2) ∧ (∀ x ∈ t.cpm.transfers, x.1 ≠ m.val) ∧
        t.raised = s.raised ++ [⟨220, BitVec.ofNat 32 m.val, 0⟩]) ∧
  (∀ (s : State) (ag : Agent) (w : Fin 3) (v : Word), s.opens ag (Reg.CPM_WAKE_W w.val) →
      ∀ x, x = (s.wr (Reg.CPM_WAKE_W w.val) v).rd96 (Reg.CPM_WAKE_W 0) →
      exec (.wakeAlarmWrite ag w v) s = .next (if ct96Valid x = true ∧ withinCf64 x s.now = true
        then (s.wr (Reg.CPM_WAKE_W w.val) v).arm .wake (cf64OfCt96 x) else s.error Reg.CPM_ERR 5 222)) ∧
  (∀ (s : State) (m x : Nat), s.gctl.slept = some (m, x) → s.commandRuns = true → s.cpm.level = none → s.bneIdle = true → s.mode ≠ modeDormant →
      ∃ t, exec .dormantEntry s = .next t ∧ t.mode = modeDormant ∧ t.gctl.slept = some (m, s.cal.count / 2 ^ 16) ∧
        t.flag Reg.GCTL_MODESTAT 31 = false ∧ t.bus.waiting = [] ∧
        (∀ d ∈ powerOrder, t.pd d = pdOff ∨ (d = PD_GNSS_TRK ∧ t.pd d = pdRetained)) ∧ t.cal.count = s.cal.count) ∧
  (∀ (s : State) (c : WakeCause) (m x : Nat), s.mode = modeDormant → s.wakeCode c ≠ 0 → s.gctl.slept = some (m, x) →
      ∃ t, exec (.wake c) s = .next t ∧ t.mode = modeBoot ∧ t.rd Reg.GCTL_BOOT = 0xAC0 ∧ t.fld Reg.GCTL_CAUSE 0 6 = 32 ∧
        t.rd Reg.CPM_DORM_STAT = BitVec.ofNat 32 (s.wakeCode c * 2 ^ 30 +
          min (2 ^ 24 - 1) ((s.cal.count / 2 ^ 16 - x) / (10 ^ 9 * 2 ^ 16))) ∧
        ∀ d ∈ powerOrder, s.pdEn d = true → s.pd d = pdOff → t.pd d = pdPoweringUp) ∧
  (∀ (s : State) (b : Ball), (s.mode ≤ 1 ∨ (b.domain ≠ PD_AON ∧ s.pd b.domain = pdOff) →
        s.ballDrive b = some .float) ∧
      (1 < s.mode → s.ballDrive .fenceOut = some (if s.flag Reg.PAR_STATUS psFenceOut then .high else .low)))

/-- Supplies lost or in range, the end of the power-on reset and RESET_N move the device between OFF, RESET and BOOT; a
cold reset leaves every register but seven at reset; a warm reset turns the domains off but PD_AON and PD_PCIE,
keeps count, KWK and log, and boots with KIND 1. Boot powers its domains, writes anchor 0 and the KWK, halts on a
failed self-test, loads the chosen firmware or enters SAFE under the ROM, takes a slot or factory defaults, applies
it counting refused writes, and ends in the mode of R458 with source 225. (16_boot_configuration_modes.md) -/
def Obligations.SuppliesResetsAndBoot : Prop :=
  (∀ (s : State), s.mode = modeOff →
      ∃ t, exec .supplyInRange s = .next t ∧ t.mode = modeReset ∧ s.keepsRegs t [Reg.GCTL_STATUS] ∧ t = { s with regs := t.regs }) ∧
  (∀ (s : State), s.mode ≠ modeOff →
      ∃ t, exec .supplyLoss s = .next t ∧ t.mode = modeOff ∧ t.gctl.por = true ∧ t.fld Reg.GCTL_CAUSE 0 6 = 1 ∧ t.rd Reg.CPM_STATUS = 0 ∧
        t.cpm.lost = [] ∧ t.fuse = s.fuse ∧ t.cal = State.reset.cal ∧ t.logWait = [] ∧ (s.gctl.command = none → t.gctl.flash = s.gctl.flash) ∧
        (∀ o, o ∉ [Reg.CPM_STATUS, Reg.PAR_STATUS, Reg.GCTL_OFUSE_CTL, Reg.GCTL_FWINFO, Reg.BNE_UINFO, Reg.GCTL_CAUSE, Reg.GCTL_STATUS] →
          t.rd o = State.reset.rd o)) ∧
  (∀ (s : State), s.mode = modeReset → s.gctl.por = true →
      ∃ t, exec .powerOnResetEnd s = .next t ∧ t.gctl.por = false ∧ (s.gctl.resetN = true → t.mode = modeReset) ∧
        (s.gctl.resetN = false → t.mode = modeBoot ∧ t.rd Reg.GCTL_BOOT = 0x2C0)) ∧
  (∀ (s : State), s.mode ≠ modeOff → s.gctl.resetN = false →
      ∃ t, exec .resetNAssert s = .next t ∧ t.mode = modeReset ∧ t.gctl.resetN = true ∧ t.fld Reg.GCTL_CAUSE 0 6 = 2 ∧
        t.fuse = s.fuse ∧ t.cal = State.reset.cal ∧ t.rd Reg.CPM_STATUS = s.rd Reg.CPM_STATUS ∧ (∀ o, o ∉ [Reg.CPM_STATUS, Reg.PAR_STATUS, Reg.GCTL_OFUSE_CTL, Reg.GCTL_FWINFO, Reg.BNE_UINFO, Reg.GCTL_CAUSE, Reg.GCTL_STATUS] →
          t.rd o = State.reset.rd o)) ∧
  (∀ (s : State), s.gctl.resetN = true →
      ∃ t, exec .resetNRelease s = .next t ∧ t.gctl.resetN = false ∧
        (s.mode = modeReset → s.gctl.por = false → t.mode = modeBoot ∧ t.rd Reg.GCTL_BOOT = 0x2C0) ∧
        (s.mode ≠ modeReset ∨ s.gctl.por = true → t.regs = s.regs)) ∧
  (∀ (s : State) (ag : Agent), s.opens ag Reg.GCTL_RESET → controls ag = true →
      ∃ t, exec (.coldReset ag) s = .next t ∧ t.mode = modeReset ∧ t.fld Reg.GCTL_CAUSE 0 6 = 4 ∧ t.fuse = s.fuse ∧
        t.pending = s.pending ∧ t.cal = State.reset.cal ∧ t.cry = State.reset.cry ∧ t.rel = State.reset.rel ∧ (∀ o, o ∉ [Reg.CPM_STATUS, Reg.PAR_STATUS, Reg.GCTL_OFUSE_CTL, Reg.GCTL_FWINFO, Reg.BNE_UINFO, Reg.GCTL_CAUSE, Reg.GCTL_STATUS] →
          t.rd o = State.reset.rd o)) ∧
  (∀ (s : State) (ag : Agent), s.opens ag Reg.GCTL_RESET → controls ag = true → modeBoot ≤ s.mode →
      ∃ t, exec (.warmReset ag) s = .next t ∧ t.mode = modeBoot ∧ t.rd Reg.GCTL_BOOT = 0x6C0 ∧ t.fld Reg.GCTL_CAUSE 0 6 = 8 ∧
        (∀ d ∈ powerOrder, d ≠ PD_PCIE → t.pd d = pdOff ∧ t.pdEn d = s.pdEn d) ∧ t.pd PD_PCIE = s.pd PD_PCIE ∧ t.fuse = s.fuse ∧
        t.cal.count = s.cal.count ∧ t.cry.kwk = s.cry.kwk ∧ t.rd Reg.REL_LOG_HEAD = s.rd Reg.REL_LOG_HEAD ∧
        t.pcie.linkUp = s.pcie.linkUp ∧ (s.pdUp PD_PCIE = true → t.flag Reg.DMA_STICKY 10 = true)) ∧
  (∀ (s : State) (k : Fin 8), s.opens (.sc k) Reg.GCTL_RESET → 2 ≤ k.val →
      exec (.warmReset (.sc k)) s = .next s ∧ exec (.coldReset (.sc k)) s = .next s) ∧
  (∀ (s : State), s.mode = modeBoot → s.bootStage = 0 →
      ∃ t, exec .bootStart s = .next t ∧ t.bootStage = 1 ∧ t.pdEn PD_BNE = true ∧
        (∀ d ∈ [PD_FABRIC, PD_PCIE, PD_BNE], (s.bootKind = 0 ∨ s.pd d = pdOff) → t.pd d = pdPoweringUp ∧ t.upStage d = 0) ∧
        (s.flag Reg.CRY_ANCH_STAT 0 = false → t.flag Reg.CRY_ANCH_STAT 0 = true ∧ (0, 2, s.fuse.anchor) ∈ t.cry.anchors) ∧
        (s.bootKind = 0 → t.cry.kwk = s.fuse.ks.map deriveKwk ∧ t.flag Reg.CRY_STATUS 4 = s.fuse.ks.isSome) ∧
        (s.bootKind ≠ 0 → t.cry.kwk = s.cry.kwk)) ∧
  (∀ (s : State), s.resetOver = true → ∃ t, exec .bootStart s = .next t ∧ t.mode = modeBoot ∧ t.bootStage = 1 ∧ t.pd PD_FABRIC = pdPoweringUp) ∧
  (∀ (s : State) (r : Fin 3), s.bootStage = 2 → s.pdUp PD_FABRIC = true →
      ∃ t, exec (.romSelftestDone r) s = .next t ∧ t.bootStage = (if r.val = 0 then 3 else 0xF) ∧
        (r.val ≠ 0 → t.fld Reg.GCTL_BOOT 24 8 = r.val) ∧ t.pd PD_FABRIC = s.pd PD_FABRIC ∧ s.keepsRegs t [Reg.GCTL_BOOT] ∧
        t = { s with regs := t.regs }) ∧
  (∀ (s : State) (a b : Option Firmware) (slot : Nat) (f : Firmware), s.bootStage = 3 → s.mode = modeBoot → s.pdUp PD_FABRIC = true →
      s.chooseFirmware a b = some (slot, f) →
      ∃ t, exec (.firmwareVerified a b) s = .next t ∧ t.bootStage = 4 ∧ t.fld Reg.GCTL_BOOT 6 2 = slot ∧
        t.fld Reg.GCTL_FWINFO 16 16 = f.version.toNat ∧ t.gctl.rom = false ∧ t.mode = modeBoot ∧
        (∀ k : Fin 8, (t.core k.val).inReset = false ∧ (t.core k.val).th.pc = (f.entries.getD k.val 0).toNat) ∧
        (∀ (c : Fin 8) (o : Nat) (bs : List Byte) (j : Nat), f.images = [(c, o, bs)] → (h : j < bs.length) → o + j < 2 ^ 18 →
          memRead t.cores.sram (2 ^ 18 * c.val + o + j) = bs[j])) ∧
  (∀ (s : State) (a b : Option Firmware), s.bootStage = 3 → s.mode = modeBoot → s.pdUp PD_FABRIC = true → s.chooseFirmware a b = none →
      ∃ t, exec (.firmwareVerified a b) s = .next t ∧ t.mode = modeSafe ∧ t.gctl.rom = true ∧ t.flag Reg.GCTL_CAUSE causeNone = true ∧
        t.fld Reg.GCTL_BOOT 24 8 = 3 ∧ t.fld Reg.GCTL_BOOT 6 2 = 3) ∧
  (∀ (s : State) (x y : Firmware), s.fuse.firmwareMin ≤ x.version.toNat → s.fuse.firmwareMin ≤ y.version.toNat →
      s.chooseFirmware (some x) (some y) = some (if x.version.toNat < y.version.toNat then (1, y) else (0, x)) ∧
      s.chooseFirmware (some x) none = some (0, x) ∧ s.chooseFirmware none (some y) = some (1, y)) ∧
  (∀ (s : State) (x y : Firmware), x.version.toNat < s.fuse.firmwareMin → y.version.toNat < s.fuse.firmwareMin →
      s.chooseFirmware (some x) (some y) = none ∧ s.chooseFirmware none none = none) ∧
  (∀ (s : State) (late : Bool) (k : Nat) (rej : Word), s.bootStage = 4 → s.pdUp PD_FABRIC = true → s.microcodeOutcome.chooseSlot = (some k, rej) →
      recordPairs ((slotRecords (s.slotLength k) (s.slotBody k)).getD []) = [] →
      ∃ t, exec (.configApply late) s = .next t ∧ t.bootStage = 6 ∧ t.fld Reg.GCTL_BOOT 8 2 = k ∧
        t.flag Reg.GCTL_BOOT 12 = s.slotFlag k 1 ∧ t.rd Reg.GCTL_CFGREJ = rej ∧ t.gctl.later = [] ∧
        (s.uValid = false → t.fld Reg.GCTL_BOOT 24 8 = 4) ∧
        ∀ d ∈ powerOrder, s.pdEn d = true → s.pd d = pdOff → t.pd d = pdPoweringUp) ∧
  (∀ (s : State) (late : Bool) (rej : Word), s.bootStage = 4 → s.pdUp PD_FABRIC = true → s.microcodeOutcome.chooseSlot = (none, rej) →
      (∀ e ∈ s.regs, isFactory e.1 = false) →
      ∃ t, exec (.configApply late) s = .next t ∧ t.bootStage = 6 ∧ t.fld Reg.GCTL_BOOT 8 2 = 2 ∧ t.flag Reg.GCTL_CAUSE causeNone = true ∧
        t.rd Reg.GCTL_CFGSEQ_L = 0 ∧ t.rd Reg.GCTL_CFGSEQ_H = 0 ∧ t.rd Reg.GCTL_CFGREJ = rej ∧
        ∀ d ∈ [PD_BNE, PD_CRYPTO], t.pdEn d = true ∧ (s.pd d = pdOff → t.pd d = pdPoweringUp)) ∧
  (∀ (s : State), s.bootStage = 6 → s.pdUp PD_FABRIC = true → s.notReady ≠ [] → exec (.configApply false) s = .next s) ∧
  (∀ (s : State) (late : Bool), s.bootStage = 6 → s.pdUp PD_FABRIC = true → (s.notReady = [] ∨ late = true) → s.gctl.later = [] → s.gctl.anchors = [] →
      ∃ t, exec (.configApply late) s = .next t ∧ t.bootStage = 7 ∧ t.gctl = s.gctl) ∧
  (∀ (s : State) (off : Nat) (v : Word), s.bootStage = 6 → s.pdUp PD_FABRIC = true → s.notReady = [] → s.gctl.later = [(off, v)] → s.gctl.anchors = [] →
      s.accessOutcome off = .unmapped →
      ∃ t, exec (.configApply false) s = .next t ∧ t.bootStage = 7 ∧ t.gctl.later = [] ∧
        t.fld Reg.GCTL_BOOT 16 8 = min 255 (s.fld Reg.GCTL_BOOT 16 8 + 1)) ∧
  (∀ (s : State), s.bootStage = 7 → s.pdUp PD_FABRIC = true → s.gctl.post = [] →
      ∃ t, exec .bootDone s = .next t ∧ t.bootStage = 8 ∧ (⟨225, t.rd Reg.GCTL_BOOT, 0⟩ : Raise) ∈ t.raised ∧ t.gctl.causes = [] ∧
        t.gctl.slept = none ∧ (s.mode ≠ modeBoot → t.mode = s.mode) ∧
        (s.mode = modeBoot → s.gctl.causes ≠ [] → t.mode = modeSafe) ∧
        (s.mode = modeBoot → s.gctl.causes = [] → s.bootKind ≠ 2 → s.flag Reg.GCTL_BOOT 12 = false → t.mode = modeStaged) ∧
        (s.mode = modeBoot → s.gctl.causes = [] → s.bootKind ≠ 2 → s.flag Reg.GCTL_BOOT 12 = true → s.role ≠ roleStandby →
          t.answersClients = true))

/-- Each mode command has its effect from the modes that R458 allows, with ERR 0; from others ERR 1, while one runs ERR
2. RECOVER is refused with ERR 3 while PRESENT is not 0; LOADFW loads a valid image of a version allowed, and none
with PD_BNE off. Flash commands are refused in R456's order or start; their end fills the buffer, programs erased
bytes, or erases; a timeout leaves ERR 5. A fuse target is programmed once, in STAGED or SAFE, with supply; the data
words are zeroed. (16_boot_configuration_modes.md) -/
def Obligations.ModesFlashAndFuses : Prop :=
  (∀ (s : State) (ag : Agent), s.opens ag Reg.GCTL_MODECMD → s.commandRuns = true →
      exec (.modeStart ag) s = .next (s.setModeErr 2) ∧ exec (.modeStage ag) s = .next (s.setModeErr 2) ∧ exec (.modeMeasure ag) s = .next (s.setModeErr 2) ∧
      exec (.modeSleep ag) s = .next (s.setModeErr 2) ∧ exec (.modeSafe ag) s = .next (s.setModeErr 2) ∧ exec (.modeRecover ag) s = .next (s.setModeErr 2)) ∧
  (∀ (s : State) (ag : Agent), s.opens ag Reg.GCTL_MODECMD → s.commandRuns = false → s.mode = modeBoot →
      exec (.modeStart ag) s = .next (s.setModeErr 1) ∧ exec (.modeStage ag) s = .next (s.setModeErr 1) ∧ exec (.modeMeasure ag) s = .next (s.setModeErr 1) ∧
      exec (.modeSleep ag) s = .next (s.setModeErr 1) ∧ exec (.modeRecover ag) s = .next (s.setModeErr 1)) ∧
  (∀ (s : State) (ag : Agent), s.opens ag Reg.GCTL_MODECMD → s.commandRuns = false → s.mode = modeStaged →
      ∃ t, exec (.modeStart ag) s = .next t ∧ t.fld Reg.GCTL_MODESTAT 0 8 = 0 ∧ (s.role ≠ roleStandby → t.answersClients = true) ∧
        (s.role = roleStandby → t.mode = modeStandby)) ∧
  (∀ (s : State) (ag : Agent), s.opens ag Reg.GCTL_MODECMD → s.commandRuns = false → s.mode ≠ modeStaged → exec (.modeStart ag) s = .next (s.setModeErr 1) ∧ exec (.modeMeasure ag) s = .next (s.setModeErr 1)) ∧
  (∀ (s : State) (ag : Agent), s.opens ag Reg.GCTL_MODECMD → s.commandRuns = false → (s.mode = modeMeasure ∨ s.answersClients = true) →
      ∃ t, exec (.modeStage ag) s = .next t ∧ t.fld Reg.GCTL_MODESTAT 0 8 = 0 ∧ t.mode = modeStaged) ∧
  (∀ (s : State) (ag : Agent), s.opens ag Reg.GCTL_MODECMD → s.commandRuns = false → s.mode = modeStaged → ∃ t, exec (.modeMeasure ag) s = .next t ∧ t.fld Reg.GCTL_MODESTAT 0 8 = 0 ∧ t.mode = modeMeasure) ∧
  (∀ (s : State) (ag : Agent), s.opens ag Reg.GCTL_MODECMD → s.commandRuns = false → (s.mode = modeStaged ∨ s.answersClients = true) →
      ∃ t, exec (.modeSleep ag) s = .next t ∧ t.fld Reg.GCTL_MODESTAT 0 8 = 0 ∧ t.mode = s.mode ∧ t.commandRuns = true ∧ t.gctl.slept = some (s.mode, 0) ∧
        s.keepsRegs t [Reg.GCTL_MODESTAT]) ∧
  (∀ (s : State) (ag : Agent), s.opens ag Reg.GCTL_MODECMD → s.commandRuns = false → modeBoot ≤ s.mode → s.gctl.rom = false →
      ∃ t, exec (.modeSafe ag) s = .next t ∧ t.fld Reg.GCTL_MODESTAT 0 8 = 0 ∧ t.flag Reg.GCTL_CAUSE causeHost = true ∧
        (s.mode ≠ modeBoot → s.mode ≠ modeDormant → t.mode = modeSafe) ∧
        (s.mode = modeBoot → t.mode = modeBoot ∧ t.gctl.causes = s.gctl.causes ++ [causeHost])) ∧
  (∀ (s : State) (ag : Agent), s.opens ag Reg.GCTL_MODECMD → s.commandRuns = false → s.mode = modeSafe →
      ∃ t, exec (.modeRecover ag) s = .next t ∧ (s.present = 0 → t.fld Reg.GCTL_MODESTAT 0 8 = 0 ∧ t.mode = modeStaged) ∧ (s.present ≠ 0 → t = s.setModeErr 3)) ∧
  (∀ (s : State), (s.flag Reg.CPM_STATUS 30 = false ∨ s.pllReady pllT = false ∨ s.gctl.rom = true ∨
      (s.fld Reg.CPM_THERM 8 8 : Int) * 256 < s.junction) → s.present ≠ 0) ∧
  (∀ (s : State) (ag : Agent) (len : BitVec 24) (f : Firmware), s.opens ag Reg.GCTL_MODECMD → s.commandRuns = false → s.mode = modeSafe → s.gctl.rom = true →
      len.toNat ≤ 4194304 →
      exec (.modeLoadfw ag len none) s = .next (s.setModeErr 6) ∧
      (f.version.toNat < s.fuse.firmwareMin → exec (.modeLoadfw ag len (some f)) s = .next (s.setModeErr 6)) ∧
      (s.pdUp PD_BNE = false → exec (.modeLoadfw ag len (some f)) s = .next (s.setModeErr 6)) ∧
      (s.pdUp PD_BNE = true → s.fuse.firmwareMin ≤ f.version.toNat → ∃ t, exec (.modeLoadfw ag len (some f)) s = .next t ∧ t.fld Reg.GCTL_MODESTAT 0 8 = 0 ∧ t.gctl.rom = false ∧
        t.bootStage = 4 ∧ t.fld Reg.GCTL_BOOT 6 2 = 2 ∧ t.fld Reg.GCTL_FWINFO 16 16 = f.version.toNat)) ∧
  (∀ (s : State) (ag : Agent) (len : BitVec 24) (f : Option Firmware), s.opens ag Reg.GCTL_MODECMD → 4194304 < len.toNat →
      exec (.modeLoadfw ag len f) s = .next s) ∧
  (∀ (s : State) (ag : Agent) (len : BitVec 13), 1 ≤ len.toNat → len.toNat ≤ 4096 → s.opens ag Reg.GCTL_FLASH_CTL →
      ∃ t, exec (.flashRead ag len) s = .next t ∧ t.flag Reg.GCTL_FLASH_STAT 30 = false ∧
        t.fld Reg.GCTL_FLASH_STAT 0 8 = s.flashRefusal 1 (s.rd Reg.GCTL_FLASH_ADDR).toNat len.toNat ∧ s.keepsRegs t [Reg.GCTL_FLASH_STAT] ∧ t.gctl.flash = s.gctl.flash ∧
        (s.flashRefusal 1 (s.rd Reg.GCTL_FLASH_ADDR).toNat len.toNat = 0 → t.gctl.command = some (1, (s.rd Reg.GCTL_FLASH_ADDR).toNat, len.toNat) ∧ t.flag Reg.GCTL_FLASH_STAT 31 = true) ∧
        (s.flashRefusal 1 (s.rd Reg.GCTL_FLASH_ADDR).toNat len.toNat ≠ 0 → t.gctl.command = s.gctl.command)) ∧
  (∀ (s : State) (ag : Agent) (len : BitVec 13), 1 ≤ len.toNat → len.toNat ≤ 4096 → s.opens ag Reg.GCTL_FLASH_CTL →
      ∃ t, exec (.flashProgram ag len) s = .next t ∧ t.flag Reg.GCTL_FLASH_STAT 30 = false ∧
        t.fld Reg.GCTL_FLASH_STAT 0 8 = s.flashRefusal 2 (s.rd Reg.GCTL_FLASH_ADDR).toNat len.toNat ∧ s.keepsRegs t [Reg.GCTL_FLASH_STAT] ∧ t.gctl.flash = s.gctl.flash ∧
        (s.flashRefusal 2 (s.rd Reg.GCTL_FLASH_ADDR).toNat len.toNat = 0 → t.gctl.command = some (2, (s.rd Reg.GCTL_FLASH_ADDR).toNat, len.toNat) ∧ t.flag Reg.GCTL_FLASH_STAT 31 = true) ∧
        (s.flashRefusal 2 (s.rd Reg.GCTL_FLASH_ADDR).toNat len.toNat ≠ 0 → t.gctl.command = s.gctl.command)) ∧
  (∀ (s : State) (ag : Agent), s.opens ag Reg.GCTL_FLASH_CTL →
      ∃ t, exec (.flashErase ag) s = .next t ∧ t.flag Reg.GCTL_FLASH_STAT 30 = false ∧
        t.fld Reg.GCTL_FLASH_STAT 0 8 = s.flashRefusal 3 (s.rd Reg.GCTL_FLASH_ADDR).toNat 65536 ∧ s.keepsRegs t [Reg.GCTL_FLASH_STAT] ∧ t.gctl.flash = s.gctl.flash ∧
        (s.flashRefusal 3 (s.rd Reg.GCTL_FLASH_ADDR).toNat 65536 = 0 → t.gctl.command = some (3, (s.rd Reg.GCTL_FLASH_ADDR).toNat, 65536) ∧ t.flag Reg.GCTL_FLASH_STAT 31 = true) ∧
        (s.flashRefusal 3 (s.rd Reg.GCTL_FLASH_ADDR).toNat 65536 ≠ 0 → t.gctl.command = s.gctl.command)) ∧
  (∀ (s : State) (op a n : Nat), (s.mode = modeBoot → s.flashRefusal op a n = 1) ∧
      (s.mode ≠ modeBoot → (flashSize < a + n ∨ (op = 3 ∧ a % 65536 ≠ 0)) → s.flashRefusal op a n = 2) ∧
      (s.mode ≠ modeBoot → a + n ≤ flashSize → (op ≠ 3 ∨ a % 65536 = 0) → op ≠ 1 → s.slotTaken a n = true → s.flashRefusal op a n = 3) ∧
      (s.mode ≠ modeBoot → a + n ≤ flashSize → (op ≠ 3 ∨ a % 65536 = 0) → (op = 1 ∨ s.slotTaken a n = false) →
        s.flashRefusal op a n = if s.flag Reg.GCTL_FLASH_STAT 31 then 4 else 0)) ∧
  (∀ (s : State) (a n : Nat), s.gctl.command = some (1, a, n) → n ≤ 4096 →
      ∃ t, exec .flashDone s = .next t ∧ t.flashBuffer n = s.flashBytes a n ∧ t.rd Reg.GCTL_FLASH_STAT = 0x40000000 ∧
        t.gctl.command = none ∧ t.gctl.flash = s.gctl.flash) ∧
  (∀ (s : State) (a n : Nat), s.gctl.command = some (2, a, n) → (∀ i, i < n → s.flashByte (a + i) = 0xFF) → n ≤ 4096 →
      ∃ t, exec .flashDone s = .next t ∧ t.flashBytes a n = s.flashBuffer n ∧ t.rd Reg.GCTL_FLASH_STAT = 0x40000000 ∧
        t.gctl.command = none ∧ (∀ x, x < a ∨ a + n ≤ x → t.flashByte x = s.flashByte x)) ∧
  (∀ (s : State) (a n : Nat), s.gctl.command = some (3, a, n) →
      ∃ t, exec .flashDone s = .next t ∧ (∀ x, t.flashByte x = if a ≤ x ∧ x < a + n then 0xFF else s.flashByte x) ∧
        t.rd Reg.GCTL_FLASH_STAT = 0x40000000 ∧ t.gctl.command = none ∧ s.keepsRegs t [Reg.GCTL_FLASH_STAT]) ∧
  (∀ (s : State) (op a n : Nat), s.gctl.command = some (op, a, n) → op ≠ 1 →
      ∃ t, exec .flashTimeout s = .next t ∧ t.rd Reg.GCTL_FLASH_STAT = 0x40000005 ∧ t.gctl.command = none) ∧
  (∀ (s : State) (ag : Agent) (k : Fin 4) (supply : Bool), s.opens ag Reg.GCTL_OFUSE_CTL → k.val ≠ 0 →
      ∃ t, exec (.ofuseProgram ag k supply) s = .next t ∧ (∀ i : Fin 12, t.stagedWord (Reg.GCTL_OFUSE_DATA i.val) = 0) ∧
        (s.mode ≠ modeStaged → s.mode ≠ modeSafe → t.fld Reg.GCTL_OFUSE_CTL 16 8 = 1 ∧ t.fuse = s.fuse) ∧
        ((s.mode = modeStaged ∨ s.mode = modeSafe) → s.fuse.programmed k.val = true → t.fld Reg.GCTL_OFUSE_CTL 16 8 = 2 ∧ t.fuse = s.fuse) ∧
        ((s.mode = modeStaged ∨ s.mode = modeSafe) → s.fuse.programmed k.val = false → supply = false →
          t.fld Reg.GCTL_OFUSE_CTL 16 8 = 3 ∧ t.fuse = s.fuse) ∧
        ((s.mode = modeStaged ∨ s.mode = modeSafe) → s.fuse.programmed k.val = false → supply = true →
          t.fld Reg.GCTL_OFUSE_CTL 16 8 = 0 ∧ t.fuse.programmed k.val = true ∧ t.flag Reg.GCTL_OFUSE_CTL (k.val - 1) = true ∧
          (k.val = 1 → t.fuse.ks = some ((s.stagedBytes (Reg.GCTL_OFUSE_DATA 0) 12).take 32))))

/-- Words read are left, counted or reported by what their check finds; passes count. A test starts while fewer than 16
run; its verdict raises 227, and a lasting one retires or remaps its unit. Writes retire tiles and lanes. A core's
kick clears EXPIRED, the host's is an error; expiry raises 229 and the action of the group is taken. Entries are
committed by cores, accepted in order, overwrite or are lost in a full log, are cleared and latched for reading.
Wear accumulates. (17_reliability_pair.md) -/
def Obligations.ErrorsWatchdogsAndLog : Prop :=
  (∀ (s : State) (mem : Fin 10) (addr : Nat), s.flag Reg.REL_SCRUB 23 = true → s.scrubs mem.val addr = true → s.poisoned mem.val (addr / 8 * 8) 8 = none →
      exec (.scrubRead mem addr .clean false) s = .next s ∧
      (∃ t, exec (.scrubRead mem addr .corrected false) s = .next t ∧ t.fld Reg.REL_ECC_CORR 0 32 = min (2 ^ 32 - 1) (s.fld Reg.REL_ECC_CORR 0 32 + 1) ∧
        s.keepsRegs t [Reg.REL_ECC_CORR] ∧ t = { s with regs := t.regs }) ∧
      (∃ t, exec (.scrubRead mem addr .clean true) s = .next t ∧ t.fld Reg.REL_SCRUB 0 16 = (s.fld Reg.REL_SCRUB 0 16 + 1) % 2 ^ 16)) ∧
  (∀ (s : State) (mem : Fin 10) (addr : Nat), s.flag Reg.REL_SCRUB 23 = true → s.scrubs mem.val addr = true → ∀ found : EccFind, (found = .uncorrectable ∨ s.poisoned mem.val (addr / 8 * 8) 8 ≠ none) →
      ∃ t, exec (.scrubRead mem addr found false) s = .next t ∧ (mem.val, addr / 8 * 8) ∈ t.rel.poison ∧
        t.fld Reg.REL_ECC_UNC 0 32 = min (2 ^ 32 - 1) (s.fld Reg.REL_ECC_UNC 0 32 + 1) ∧ t.flag Reg.REL_STICKY 0 = true ∧
        (⟨226, BitVec.ofNat 32 mem.val, BitVec.ofNat 32 addr⟩ : Raise) ∈ t.raised) ∧
  (∀ (s : State) (u : Nat × Nat) (us : List (Nat × Nat)), s.rel.waiting = u :: us →
      exec .selftestStart s = .next (if s.rel.tests.length < 16
        then { s with rel := { s.rel with tests := s.rel.tests ++ [u], waiting := us } } else s)) ∧
  (∀ (s : State) (u : BitVec 16) (row : Nat) (failed spare : Bool), s.testRuns u.toNat row = true → failed = false → s.escalates u.toNat row = false → (u.toNat / 0x1000 = 2 → row = 0) →
      ∃ t, exec (.selftestDone u row failed spare) s = .next t ∧ t.testRuns u.toNat row = false ∧
        (⟨227, BitVec.ofNat 32 (u.toNat + 2 ^ 16), 0⟩ : Raise) ∈ t.raised ∧ (u.toNat, row, ct96Sec s.now) ∈ t.rel.transients) ∧
  (∀ (s : State) (u : BitVec 16) (row : Nat) (failed spare : Bool), s.testRuns u.toNat row = true → (failed = true ∨ s.escalates u.toNat row = true) →
      ∃ t, exec (.selftestDone u row failed spare) s = .next t ∧
        (⟨227, BitVec.ofNat 32 (u.toNat + 2 * 2 ^ 16), 0⟩ : Raise) ∈ t.raised ∧ t.flag Reg.REL_STICKY 2 = true ∧
        (∀ p, p < 72 → u.toNat = unitTile p → t.tileRetired p = true) ∧
        (∀ p, p < 16 → u.toNat = unitPipe p → t.flag Reg.CRY_STATUS (16 + p) = false ∧ unitPipe p ∈ t.rel.retired) ∧
        (∀ n, n < 18 → u.toNat = unitLane n → t.laneRetired n = true) ∧
        (∀ e, e < 16 → u.toNat = unitEngine e → unitEngine e ∈ t.rel.retired)) ∧
  (∀ (s : State) (u : BitVec 16) (row : Nat) (failed spare : Bool), s.testRuns u.toNat row = true → (failed = true ∨ s.escalates u.toNat row = true) → ∀ i, i < 16 → u.toNat = unitRow i →
      ((s.rel.spares.filter fun e => e.1 == i && e.2 / 128 == row / 128).length < 4 → spare = true →
        ∃ t, exec (.selftestDone u row failed spare) s = .next t ∧ t.rel.spares = s.rel.spares ++ [(i, row)]) ∧
      (spare = false → ∃ t, exec (.selftestDone u row failed spare) s = .next t ∧ t.flag Reg.REL_STICKY 1 = true)) ∧
  (∀ (s : State) (ag : Agent) (k : Fin 3) (v : Word), s.opens ag (Reg.REL_RET_TILE k.val) →
      ∃ t, exec (.retireTileWrite ag k v) s = .next t ∧
        ∀ j : Fin 32, bitAt v j.val = true → 32 * k.val + j.val < 72 → t.tileRetired (32 * k.val + j.val) = true) ∧
  (∀ (s : State) (ag : Agent) (v : Word), s.opens ag Reg.REL_RET_LANE →
      ∃ t, exec (.retireLaneWrite ag v) s = .next t ∧ (∀ n : Fin 18, t.laneRetired n.val = (s.laneRetired n.val || bitAt v n.val)) ∧
        (∀ n q : Fin 16, bitAt v n.val = true → s.laneRetired n.val = false → n.val ∈ s.lanesOf q.val → t.flag (Reg.PRT_STATUS q.val) 0 = false) ∧
        (∀ n : Fin 18, 16 ≤ n.val → bitAt v n.val = true → s.laneRetired n.val = false → t.flag Reg.PAR_STATUS psLink = false)) ∧
  (∀ (s : State) (ag : Agent) (v : Word), s.opens ag Reg.REL_WDG_KICK →
      (∀ k : Fin 8, ag = .sc k → exec (.wdgKick ag v) s = .next (s.setFlag Reg.REL_WDG_STAT k.val false)) ∧
      (isHost ag = true → exec (.wdgKick ag v) s = .next (s.error Reg.REL_ERR 2 238))) ∧
  (∀ (s : State) (k : Fin 8), s.wdgRuns k.val = true → s.wdgExpired k.val = false → (s.core k.val).stopped = false →
      ∃ t, exec (.wdgExpire k) s = .next t ∧ t.wdgExpired k.val = true ∧ t.wdgActed k.val = false ∧ t.flag Reg.REL_STICKY 5 = true ∧
        t.raised = s.raised ++ [⟨229, BitVec.ofNat 32 k.val, 0⟩] ∧ t.mode = s.mode) ∧
  (∀ (s : State) (k : Fin 8), s.wdgRuns k.val = true → s.wdgExpired k.val = false → (s.core k.val).stopped = true → s.wdgAction k.val = 0 →
      ∃ t, exec (.wdgExpire k) s = .next t ∧ t.wdgExpired k.val = true ∧ t.wdgActed k.val = true ∧
        t.raised = s.raised ++ [⟨229, BitVec.ofNat 32 k.val, 0⟩, ⟨230, BitVec.ofNat 32 k.val, 0⟩]) ∧
  (∀ (s : State) (k : Fin 8), s.wdgRuns k.val = true → s.wdgExpired k.val = true → s.wdgActed k.val = false →
      ∃ t, exec (.wdgAction k) s = .next t ∧
        (s.wdgAction k.val = 0 → t.wdgActed k.val = true ∧ t.raised = s.raised ++ [⟨230, BitVec.ofNat 32 k.val, 0⟩] ∧ t.mode = s.mode) ∧
        (s.wdgAction k.val = 1 → t.flag Reg.GCTL_CAUSE causeFirmware = true ∧
          (s.mode ≠ modeBoot → s.mode ≠ modeDormant → t.mode = modeSafe)) ∧
        (s.wdgAction k.val = 2 → t.mode = modeBoot ∧ t.fld Reg.GCTL_CAUSE 0 6 = 16 ∧ t.bootKind = 1) ∧
        (s.wdgAction k.val = 3 → t.mode = modeReset ∧ t.fld Reg.GCTL_CAUSE 0 6 = 16)) ∧
  (∀ (s : State) (k : Fin 8) (v : Word), s.opens (.sc k) (Reg.REL_LOG_IN 4) → s.flag Reg.REL_LOG_CTRL 31 = true →
      ∃ t, exec (.logInCommit (.sc k) v) s = .next t ∧
        ((s.logInput v).severity < s.fld Reg.REL_LOG_CTRL 24 3 → t = s) ∧
        (s.fld Reg.REL_LOG_CTRL 24 3 ≤ (s.logInput v).severity → s.logWait.length < 16 →
          t = { s with logWait := s.logWait ++ [s.logInput v] }) ∧
        (s.fld Reg.REL_LOG_CTRL 24 3 ≤ (s.logInput v).severity → 16 ≤ s.logWait.length → t.logWait = s.logWait ∧
          t.flag Reg.REL_STICKY 7 = true ∧ t.fld Reg.REL_LOG_LOST 0 32 = min (2 ^ 32 - 1) (s.fld Reg.REL_LOG_LOST 0 32 + 1))) ∧
  (∀ (s : State) (ag : Agent) (v : Word), s.opens ag (Reg.REL_LOG_IN 4) → isHost ag = true →
      exec (.logInCommit ag v) s = .next (s.error Reg.REL_ERR 2 238)) ∧
  (∀ (s : State) (e : LogEntry) (es : List LogEntry), s.logWait = e :: es → s.flag Reg.REL_LOG_CTRL 31 = true → modeBoot ≤ s.mode → s.logHeld < 65536 →
      ∃ t, exec .logAccept s = .next t ∧ t.logWait = es ∧ t.rd Reg.REL_LOG_HEAD = s.rd Reg.REL_LOG_HEAD + 1 ∧
        t.rd Reg.REL_LOG_TAIL = s.rd Reg.REL_LOG_TAIL ∧ (s.logHead, s.now, e) ∈ t.rel.log ∧
        (s.flag Reg.REL_LOG_CTRL 30 = true → s.logHeld = 65535 → s.rel.full = true →
          t.raised = s.raised ++ [⟨231, 0, 0⟩] ∧ t.rel.full = false)) ∧
  (∀ (s : State) (e : LogEntry) (es : List LogEntry), s.logWait = e :: es → s.flag Reg.REL_LOG_CTRL 31 = true → modeBoot ≤ s.mode → 65536 ≤ s.logHeld → s.flag Reg.REL_LOG_CTRL 30 = true →
      ∃ t, exec .logAccept s = .next t ∧ t.logWait = es ∧ t.rd Reg.REL_LOG_HEAD = s.rd Reg.REL_LOG_HEAD ∧ t.rel = s.rel ∧
        t.flag Reg.REL_STICKY 6 = true ∧ t.fld Reg.REL_LOG_LOST 0 32 = min (2 ^ 32 - 1) (s.fld Reg.REL_LOG_LOST 0 32 + 1)) ∧
  (∀ (s : State) (e : LogEntry) (es : List LogEntry), s.logWait = e :: es → s.flag Reg.REL_LOG_CTRL 31 = true → modeBoot ≤ s.mode → 65536 ≤ s.logHeld → s.flag Reg.REL_LOG_CTRL 30 = false →
      ∃ t, exec .logAccept s = .next t ∧ t.logWait = es ∧ t.rd Reg.REL_LOG_HEAD = s.rd Reg.REL_LOG_HEAD + 1 ∧
        t.rd Reg.REL_LOG_TAIL = s.rd Reg.REL_LOG_TAIL + 1 ∧ (s.logHead, s.now, e) ∈ t.rel.log ∧
        t.raised = s.raised ++ (if s.rel.full then [⟨231, 0, 0⟩] else []) ∧ t.rel.full = false) ∧
  (∀ (s : State) (ag : Agent), s.opens ag Reg.REL_LOG_CTRL → s.fld Reg.REL_LOG_CTRL 24 3 ≤ 4 →
      ∃ t, exec (.logClear ag) s = .next t ∧ t.logHead = 0 ∧ t.logTail = 0 ∧ t.rel.log = [] ∧ t.rel.full = true ∧
        s.keepsRegs t [Reg.REL_LOG_CTRL, Reg.REL_LOG_HEAD, Reg.REL_LOG_TAIL]) ∧
  (∀ (s : State) (ag : Agent) (tm : CT96) (e : LogEntry), s.opens ag (Reg.REL_LOG_DATA 0) →
      (s.rd Reg.REL_LOG_SEL - s.rd Reg.REL_LOG_TAIL).toNat < s.logHeld →
      s.poisoned memLog ((s.rd Reg.REL_LOG_SEL).toNat % 65536 * 32) 32 = none →
      s.rel.log.find? (fun x => x.1 == (s.rd Reg.REL_LOG_SEL).toNat) = some ((s.rd Reg.REL_LOG_SEL).toNat, tm, e) →
      ∃ t, exec (.logRead ag) s = .next t ∧ t.rd Reg.REL_LOG_RSTAT = 2 ∧ t.bus.last = .data (word96 tm 0) ∧
        (∀ i : Fin 8, t.rd (Reg.REL_LOG_DATA i.val) = (logWords tm e).getD i.val 0) ∧ t.rel = s.rel) ∧
  (∀ (s : State) (ag : Agent), s.opens ag (Reg.REL_LOG_DATA 0) → s.logHeld ≤ (s.rd Reg.REL_LOG_SEL - s.rd Reg.REL_LOG_TAIL).toNat →
      ∃ t, exec (.logRead ag) s = .next t ∧ t.rd Reg.REL_LOG_RSTAT = 0 ∧ t.rel = s.rel) ∧
  (∀ (s : State), modeBoot ≤ s.mode →
      ∃ t, exec .wearUpdate s = .next t ∧ t.rel = { s.rel with wear := s.rel.wear + s.ageing } ∧
        t.rd Reg.REL_WEAR = BitVec.ofNat 32 (min (2 ^ 32 - 1) (s.rel.wear + s.ageing).floor.toNat) ∧ s.keepsRegs t [Reg.REL_WEAR])

/-- EN changes in the modes that R486 allows, else PAR_ERR.MODE. The link comes up on free lanes; its loss drops what
waits and tests the lanes. Heartbeats toggle ALIVE; missed intervals count, and five declare the peer dead or the
link failed. Messages with a bad CRC or an old epoch are counted; a newer epoch is adopted and deposes; the
heartbeat that completes a YIELD does not. A takeover advances the epoch, asserts FENCE_OUT, waits, and makes the
device ACTIVE with 233. FENCE_IN latches FENCED and DEPOSED. (17_reliability_pair.md) -/
def Obligations.LivenessTakeoverAndFencing : Prop :=
  (∀ (s : State) (ag : Agent) (v : Word), s.opens ag Reg.PAR_CTRL → bitAt v 31 = s.pairEn → exec (.pairEnableWrite ag v) s = .next s) ∧
  (∀ (s : State) (ag : Agent) (v : Word), s.opens ag Reg.PAR_CTRL → bitAt v 31 ≠ s.pairEn →
      ((bitsAt v 16 8 < 1 ∨ 100 < bitsAt v 16 8) → exec (.pairEnableWrite ag v) s = .next (s.error Reg.PAR_ERR 0 238)) ∧
      (1 ≤ bitsAt v 16 8 → bitsAt v 16 8 ≤ 100 → s.mode ≠ modeBoot → hostMode s.mode = false →
        exec (.pairEnableWrite ag v) s = .next (s.error Reg.PAR_ERR 2 238)) ∧
      (1 ≤ bitsAt v 16 8 → bitsAt v 16 8 ≤ 100 → (s.mode = modeBoot ∨ hostMode s.mode = true) →
        ∃ t, exec (.pairEnableWrite ag v) s = .next t ∧ t.pairEn = bitAt v 31 ∧
          t.role = (if bitAt v 31 then roleUnformed else roleSolo) ∧
          (bitAt v 31 = false → t.pair.queue = [] ∧ t.pair.mirror = [] ∧ t.pair.forming = none ∧ t.pair.resync = none))) ∧
  (∀ (s : State), s.pdUp PD_PAIR = true → s.pllReady pllPair = true → s.lanesFree [16, 17] = true →
      exec .pairLinkUp s = .next (s.setFlag Reg.PAR_STATUS psLink true)) ∧
  (∀ (s : State), s.flag Reg.PAR_STATUS psLink = true →
      ∃ t, exec .pairLinkDown s = .next t ∧ t.flag Reg.PAR_STATUS psLink = false ∧ t.pair = { s.pair with queue := [] } ∧
        (s.rel.tests.length < 15 → s.rel.waiting = [] → ∀ n ∈ [16, 17], s.laneRetired n = false → t.testRuns (unitLane n) 0 = true)) ∧
  (∀ (s : State), s.heartbeats = true →
      exec .heartbeatTx s = .next { s with pair := { s.pair with
        alive := !s.pair.alive, queue := s.pair.queue ++ (if s.flag Reg.PAR_STATUS psLink then [s.heartbeat] else []) } }) ∧
  (∀ (s : State), s.heartbeats = false → exec .heartbeatTx s = .next s) ∧
  (∀ (s : State), s.pairEn = true → s.pair.got = true →
      exec .heartbeatInterval s = .next { s with pair := { s.pair with got := false, missed := 0 } }) ∧
  (∀ (s : State), s.pairEn = true → s.pair.got = false →
      ∃ t, exec .heartbeatInterval s = .next t ∧ t.pair = { s.pair with missed := s.pair.missed + 1 } ∧
        t.fld Reg.PAR_CNT_HBMISS 0 32 = min (2 ^ 32 - 1) (s.fld Reg.PAR_CNT_HBMISS 0 32 + 1) ∧
        (s.pair.missed < 4 → t.raised = s.raised ∧ s.keepsRegs t [Reg.PAR_CNT_HBMISS]) ∧
        (4 ≤ s.pair.missed → s.flag Reg.PAR_STATUS psAlive = false → t.flag Reg.PAR_STATUS psDead = true ∧
          t.raised = s.raised ++ (if s.flag Reg.PAR_STATUS psDead then [] else [⟨232, 0, 0⟩])) ∧
        (s.pair.missed = 4 → s.flag Reg.PAR_STATUS psAlive = true → t.raised = s.raised ++ [⟨236, 0, 0⟩] ∧
          t.flag Reg.PAR_STATUS psDead = s.flag Reg.PAR_STATUS psDead)) ∧
  (∀ (s : State), exec .pairAliveInEdge s = .next (s.setFlag Reg.PAR_STATUS psAlive true)) ∧
  (∀ (s : State), s.flag Reg.PAR_STATUS psAlive = true → s.pairEn = true →
      ∃ t, exec .pairAliveSilence s = .next t ∧ t.flag Reg.PAR_STATUS psAlive = false ∧
        (5 ≤ s.pair.missed → t.flag Reg.PAR_STATUS psDead = true) ∧
        (s.pair.missed < 5 → t.flag Reg.PAR_STATUS psDead = s.flag Reg.PAR_STATUS psDead ∧ t.raised = s.raised)) ∧
  (∀ (s : State) (e : Word) (h : Heartbeat), s.pairLink = true → (s.pair.yielding = false ∨ e ≠ s.epoch + 1) →
      (∃ t, exec (.heartbeatRx false e h) s = .next t ∧ t.fld Reg.PAR_CNT_CRC 0 32 = min (2 ^ 32 - 1) (s.fld Reg.PAR_CNT_CRC 0 32 + 1) ∧
        t.pair = s.pair ∧ s.keepsRegs t [Reg.PAR_CNT_CRC]) ∧
      (e ≠ s.epoch → epochNewer e s.epoch = false → ∃ t, exec (.heartbeatRx true e h) s = .next t ∧
        t.fld Reg.PAR_CNT_STALE 0 32 = min (2 ^ 32 - 1) (s.fld Reg.PAR_CNT_STALE 0 32 + 1) ∧ t.pair = s.pair ∧ s.keepsRegs t [Reg.PAR_CNT_STALE])) ∧
  (∀ (s : State) (e : Word) (h : Heartbeat), s.pairLink = true → (s.pair.yielding = false ∨ e ≠ s.epoch + 1) → (e = s.epoch ∨ epochNewer e s.epoch = true) →
      ∃ t, exec (.heartbeatRx true e h) s = .next t ∧ t.epoch = e ∧ t.pair.got = true ∧ t.flag Reg.PAR_STATUS psDead = false ∧
        t.fld Reg.PAR_STATUS 8 4 = h.mode.toNat ∧ t.fld Reg.PAR_STATUS 6 2 = h.qlevel.val ∧ t.fld Reg.PAR_STATUS 4 2 = h.role.val ∧
        ofWords64 (t.rd Reg.PAR_PEER_DSN_L) (t.rd Reg.PAR_PEER_DSN_H) = h.dsn ∧ t.pair.peerEpoch = some e ∧
        (e = s.epoch → t.role = s.role ∧ t.deposed = s.deposed) ∧
        (e ≠ s.epoch → t.role = roleStandby ∧ t.deposed = true ∧ (⟨234, 0, 0⟩ : Raise) ∈ t.raised ∧ (s.answersClients = true → t.mode = modeStandby))) ∧
  (∀ (s : State) (h : Heartbeat), s.pairLink = true → s.pair.yielding = true →
      ∃ t, exec (.heartbeatRx true (s.epoch + 1) h) s = .next t ∧ t.epoch = s.epoch + 1 ∧ t.pair.yielding = false ∧ t.deposed = s.deposed ∧
        t.role = s.role) ∧
  (∀ (s : State) (ag : Agent), s.opens ag Reg.PAR_CMD → (s.mayTakeOver = false → exec (.pairTakeover (some ag)) s = .next (s.error Reg.PAR_ERR 3 238)) ∧
      (s.mayTakeOver = true → ∃ t, exec (.pairTakeover (some ag)) s = .next t ∧ t.epoch = s.epoch + 1 ∧
        t.flag Reg.PAR_STATUS psFenceOut = true ∧ t.pair = { s.pair with settling := true } ∧ t.role = s.role ∧
        s.keepsRegs t [Reg.PAR_EPOCH, Reg.PAR_STATUS])) ∧
  (∀ (s : State), s.mayTakeOver = true → (s.flag Reg.PAR_STATUS psDead = true ∨ ∃ p, s.pair.peer = some p ∧ 3 ≤ p.dumb) →
      ∃ t, exec (.pairTakeover none) s = .next t ∧ t.epoch = s.epoch + 1 ∧ t.flag Reg.PAR_STATUS psFenceOut = true ∧
        t.pair.settling = true) ∧
  (∀ (s : State), s.pair.settling = true →
      ∃ t, exec .fenceSettleEnd s = .next t ∧ t.role = roleActive ∧ t.pair.settling = false ∧ t.epoch = s.epoch ∧ (⟨233, 0, 0⟩ : Raise) ∈ t.raised ∧
        (s.mode = modeStandby → 4 ≤ s.fld Reg.PAR_TKMODE 0 4 → s.fld Reg.PAR_TKMODE 0 4 ≤ 7 → t.answersClients = true) ∧
        t.flag Reg.PAR_STATUS psFenceOut = s.flag Reg.PAR_STATUS psFenceOut) ∧
  (∀ (s : State), s.fenceIn = false →
      ∃ t, exec .fenceInAssert s = .next t ∧ t.fenceIn = true ∧ t.flag Reg.PAR_STATUS psFenceIn = true ∧
        t.flag Reg.PAR_STATUS psFenced = true ∧ t.deposed = true ∧ t.pair.settling = false ∧ (⟨234, 0, 0⟩ : Raise) ∈ t.raised ∧
        (s.pairEn = true → t.role = roleStandby ∧ (s.answersClients = true → t.mode = modeStandby))) ∧
  (∀ (s : State), s.fenceIn = true → exec .fenceInAssert s = .next s) ∧
  (∀ (s : State), ∃ t, exec .fenceInDeassert s = .next t ∧ t.fenceIn = false ∧ t.flag Reg.PAR_STATUS psFenceIn = false ∧
        t.flag Reg.PAR_STATUS psFenced = s.flag Reg.PAR_STATUS psFenced ∧ t.deposed = s.deposed ∧ s.keepsRegs t [Reg.PAR_STATUS])

/-- FORM needs EN; the device that R495 chooses acknowledges with a new epoch, and both end ACTIVE and STANDBY with 235;
a timeout changes no role. SWITCHOVER yields to a ready standby, else PAR_ERR.CMD; the standby takes over on YIELD
without FENCE_OUT. TIMEX gives half the difference of stamps. A mirrored line is written with its poison on a
STANDBY device. RESYNC is for the ACTIVE one; MSYNC sets without loss. Messages go in priority order with their
header. (17_reliability_pair.md) -/
def Obligations.FormingSwitchoverAndMirror : Prop :=
  (∀ (s : State) (ag : Agent), s.opens ag Reg.PAR_CMD → (s.pairEn = false → exec (.pairForm ag) s = .next (s.error Reg.PAR_ERR 3 238)) ∧
      (s.pairEn = true → ∃ t, exec (.pairForm ag) s = .next t ∧ t.flag Reg.PAR_STATUS psForming = true ∧ t.pair.forming = some ⟨none⟩ ∧
        t.pair.queue = s.pair.queue ++ (if s.flag Reg.PAR_STATUS psLink then [s.formMessage] else []) ∧ t.role = s.role)) ∧
  (∀ (s : State) (f : Forming), s.pair.forming = some f →
      exec .formResend s = .next { s with pair := { s.pair with
        queue := s.pair.queue ++ (if s.flag Reg.PAR_STATUS psLink then [s.formMessage] else []) } }) ∧
  (∀ (s : State) (f : Forming), s.pair.forming = some f →
      ∃ t, exec .formTimeout s = .next t ∧ t.pair = { s.pair with forming := none } ∧ t.flag Reg.PAR_STATUS psForming = false ∧
        t.flag Reg.PAR_ERR 4 = true ∧ t.role = s.role ∧ s.keepsRegs t [Reg.PAR_STATUS, Reg.PAR_ERR]) ∧
  (∀ (s : State) (e : Word) (pref : Bool) (dsn : Word64), s.pairLink = true → s.pair.forming = some ⟨none⟩ →
      ∃ t, exec (.formRx true e pref dsn) s = .next t ∧ t.regs = s.regs ∧ (s.chosenActive pref dsn = false → t = s) ∧
        (s.chosenActive pref dsn = true → t.pair = { s.pair with
          forming := some ⟨some (laterEpoch s.epoch e + 1)⟩, queue := s.pair.queue ++ [.formAck roleStandby (laterEpoch s.epoch e + 1)] })) ∧
  (∀ (s : State) (pref : Bool) (dsn : Word64),
      (s.role = roleActive → s.fld Reg.PAR_STATUS 4 2 ≠ roleActive → s.chosenActive pref dsn = true) ∧
      (s.role ≠ roleActive → s.fld Reg.PAR_STATUS 4 2 = roleActive → s.chosenActive pref dsn = false) ∧
      ((s.role = roleActive ↔ s.fld Reg.PAR_STATUS 4 2 = roleActive) → s.flag Reg.PAR_CTRL 30 ≠ pref →
        s.chosenActive pref dsn = s.flag Reg.PAR_CTRL 30) ∧
      ((s.role = roleActive ↔ s.fld Reg.PAR_STATUS 4 2 = roleActive) → s.flag Reg.PAR_CTRL 30 = pref →
        (s.chosenActive pref dsn = true ↔ dsn.toNat < s.fuse.dsn.toNat))) ∧
  (∀ (s : State) (e : Word) (r : Fin 4), s.pairLink = true → s.pair.forming = some ⟨some e⟩ →
      ∃ t, exec (.formAckRx true e r) s = .next t ∧ t.role = roleActive ∧ t.epoch = e ∧ t.flag Reg.PAR_STATUS psFenceOut = false ∧
        t.flag Reg.PAR_STATUS psFenced = false ∧ t.deposed = false ∧ t.flag Reg.PAR_STATUS psForming = false ∧
        t.pair.forming = none ∧ t.pair.resync = some 0 ∧ t.flag Reg.PAR_STATUS psMsync = false ∧ (⟨235, 0, 0⟩ : Raise) ∈ t.raised) ∧
  (∀ (s : State) (e : Word), s.pairLink = true → s.pair.forming = some ⟨none⟩ →
      ∃ t, exec (.formAckRx true e 3) s = .next t ∧ t.role = roleStandby ∧ t.epoch = e ∧ t.flag Reg.PAR_STATUS psFenced = false ∧
        t.deposed = false ∧ t.pair.forming = none ∧ .formAck roleActive e ∈ t.pair.queue ∧ (⟨235, 0, 0⟩ : Raise) ∈ t.raised ∧
        (s.answersClients = true → t.mode = modeStandby)) ∧
  (∀ (s : State) (ag : Agent), s.opens ag Reg.PAR_CMD → (s.role ≠ roleActive ∨ s.peerReady = false → exec (.pairSwitchover ag) s = .next (s.error Reg.PAR_ERR 3 238)) ∧
      (s.role = roleActive → s.peerReady = true → ∃ t, exec (.pairSwitchover ag) s = .next t ∧ t.role = roleStandby ∧
        t.pair.yielding = true ∧ t.deposed = s.deposed ∧ (s.answersClients = true → t.mode = modeStandby) ∧
        (s.mode = modeStaged → s.pair.mirror = [] → s.flag Reg.PAR_STATUS psLink = true → t.pair.queue = s.pair.queue ++ [.yield]))) ∧
  (∀ (s : State), s.pair.yielding = true →
      exec .yieldResend s = .next { s with pair := { s.pair with
        queue := s.pair.queue ++ (if s.pair.mirror = [] ∧ s.flag Reg.PAR_STATUS psLink = true then [.yield] else []) } }) ∧
  (∀ (s : State), s.pair.yielding = true →
      ∃ t, exec .yieldTimeout s = .next t ∧ t.pair = { s.pair with yielding := false } ∧ t.flag Reg.PAR_ERR 3 = true ∧ t.role = s.role ∧
        s.keepsRegs t [Reg.PAR_ERR]) ∧
  (∀ (s : State), s.pairLink = true → s.mayTakeOver = true →
      ∃ t, exec (.yieldRx true s.epoch) s = .next t ∧ t.role = roleActive ∧ t.epoch = s.epoch + 1 ∧ (⟨233, 0, 0⟩ : Raise) ∈ t.raised ∧
        t.flag Reg.PAR_STATUS psFenceOut = s.flag Reg.PAR_STATUS psFenceOut ∧
        (4 ≤ s.fld Reg.PAR_TKMODE 0 4 → s.fld Reg.PAR_TKMODE 0 4 ≤ 7 → t.answersClients = true)) ∧
  (∀ (s : State) (k : BitVec 16) (w : Word) (a b : CT96), s.pairLink = true → s.role = roleStandby →
      s.pair.stamps.find? (fun x => x.1 == k.toNat && x.2.1 % 2 ^ 32 == w.toNat) = some (k.toNat, w.toNat, b) →
      exec (.timexRx true s.epoch k w a) s = .next { s with pair := { s.pair with
        offset := some (openDiv ((ct96ToFrac a : Int) - ct96ToFrac b) 2) } }) ∧
  (∀ (s : State) (n : Fin 786432) (p : BitVec 8) (bs : List Byte), s.pairLink = true → s.role = roleStandby → bs.length = 64 → s.pdUp PD_FABRIC = true →
      ∃ t, exec (.mirrorRx true s.epoch (BitVec.ofNat 32 (64 * n.val)) p bs) s = .next t ∧
        memReadBytes t.gys.pool (64 * n.val) 64 = bs ∧
        (∀ a, a < 64 * n.val ∨ 64 * n.val + 64 ≤ a → memRead t.gys.pool a = memRead s.gys.pool a) ∧
        (∀ i : Fin 8, (memPool, 64 * n.val + 8 * i.val) ∈ t.rel.poison ↔ p.getLsbD i.val = true) ∧ t.regs = s.regs) ∧
  (∀ (s : State) (line : Word) (p : BitVec 8) (bs : List Byte), s.pairLink = true → s.role ≠ roleStandby →
      exec (.mirrorRx true s.epoch line p bs) s = .next s) ∧
  (∀ (s : State) (ag : Agent), s.opens ag Reg.PAR_CMD → (s.role ≠ roleActive → exec (.pairResync ag) s = .next (s.error Reg.PAR_ERR 3 238)) ∧
      (s.role = roleActive → ∃ t, exec (.pairResync ag) s = .next t ∧ t.pair = { s.pair with resync := some 0, lost := false } ∧
        t.flag Reg.PAR_STATUS psMsync = false)) ∧
  (∀ (s : State) (a : Nat), s.pair.resync = some a → s.nextLine a = none →
      ∃ t, exec .resyncDone s = .next t ∧ t.pair = { s.pair with resync := none } ∧
        t.flag Reg.PAR_STATUS psMsync = (s.flag Reg.PAR_STATUS psMsync || !s.pair.lost)) ∧
  (∀ (s : State) (a b : Nat), s.pair.resync = some a → s.nextLine a = some b → exec .resyncDone s = .next s) ∧
  (∀ (s : State) (b h : PairBody), s.pairLink = true → s.xqRuns 0x49 = true → b.rank = 1 → h.rank = 0 → s.pair.queue = [b, h] →
      exec .pairMessageSend s = .next { s with pair := { s.pair with
        queue := [b], sent := s.pair.sent ++ [pairMessage s.epoch s.pair.seq h], seq := s.pair.seq + 1 } }) ∧
  (∀ (s : State) (l : MirrorLine) (ls : List MirrorLine), s.pairLink = true → s.xqRuns 0x49 = true → s.pair.queue = [] → s.pair.mirror = l :: ls →
      exec .pairMessageSend s = .next { s with pair := { s.pair with
        mirror := ls, sent := s.pair.sent ++ [pairMessage s.epoch s.pair.seq (.mirror l)], seq := s.pair.seq + 1 } }) ∧
  (∀ (s : State) (a b : Nat), s.pairLink = true → s.xqRuns 0x49 = true → s.pair.queue = [] → s.pair.mirror = [] → s.pair.resync = some a →
      s.nextLine a = some b →
      exec .pairMessageSend s = .next { s with pair := { s.pair with
        resync := some (b + 64), sent := s.pair.sent ++ [pairMessage s.epoch s.pair.seq (.mirror (s.mirrorLine b))], seq := s.pair.seq + 1 } }) ∧
  (∀ (e : Word) (q : Nat) (b : PairBody), (pairMessage e q b).length = 16 + b.bytes.2.length ∧
      ((pairMessage e q b).drop 4).take 4 = leBytes 4 (b.epoch e).toNat ∧ ((pairMessage e q b).drop 8).take 4 = leBytes 4 q)

/-- Whatever state such a command answers: every byte of the table pool, of L, of the program store, of service-core
SRAM, of GNSS memory and of the flash is unchanged, so are the fuses but for OFUSE_PROGRAM, and every register
outside the blocks that the command acts on (and the access record of R32, the trouble log, BNE_UINFO, and
GNS_STATUS where PD_GNSS_ACQ answers a power-down) holds what it held. (15_clocks_power.md,
16_boot_configuration_modes.md, 17_reliability_pair.md) -/
def Obligations.CommandsThatStoreNothing : Prop :=
  (∀ (s t : State) (c : Instr) (ag : Agent) (d : Fin 21) (b : Bool) (v : Word) (i : Fin 74) (n : Fin 3)
        (o : Option (BitVec 16)) (m : Fin 2) (x : I2cEnd),
      c ∈ [.clockSwitch ag v, .clockGate ag d b, .gateClose d b, .clockUngate ag d, .pdEnable ag d, .pdHandshakeAnswer d, .pdSlotStart d,
           .xqResync i, .plevelTargetWrite ag v, .vsettleEnd b, .avsRetry b, .sensorPoll n o b, .i2cTransfer ag m v, .i2cDone m x,
           .wakeAlarmWrite ag n v, .supplyInRange, .romSelftestDone n, .modeSleep ag] →
      exec c s = .next t →
      t.gys.pool = s.gys.pool ∧ t.gys.l = s.gys.l ∧ t.gys.banks = s.gys.banks ∧ t.cores.sram = s.cores.sram ∧
        t.cores.gnss = s.cores.gnss ∧ t.gctl.flash = s.gctl.flash ∧ t.fuse = s.fuse ∧ (∀ off, 0x200000 ≤ off → off < 0xE00000 →
        (off = Reg.GNS_STATUS → d.val = PD_GNSS_ACQ → c ≠ .pdHandshakeAnswer d) → t.rd off = s.rd off)) ∧
  (∀ (s t : State) (c : Instr) (ag : Agent) (oa : Option Agent) (b : Bool) (v : Word) (w : Word64) (m : Fin 10) (a : Nat)
        (f : EccFind),
      c ∈ [.scrubRead m a f b, .selftestStart, .wdgKick ag v, .logInCommit ag v, .logAccept, .logClear ag, .logRead ag, .wearUpdate,
           .pairEnableWrite ag v, .pairLinkUp, .pairLinkDown, .heartbeatTx, .heartbeatInterval, .pairAliveInEdge, .pairAliveSilence,
           .fenceInDeassert, .pairTakeover oa, .pairForm ag, .formResend, .formTimeout, .formRx b v b w, .yieldResend, .yieldTimeout,
           .pairResync ag, .resyncDone, .pairMessageSend] →
      exec c s = .next t →
      t.gys.pool = s.gys.pool ∧ t.gys.l = s.gys.l ∧ t.gys.banks = s.gys.banks ∧ t.cores.sram = s.cores.sram ∧
        t.cores.gnss = s.cores.gnss ∧ t.gctl.flash = s.gctl.flash ∧ t.fuse = s.fuse ∧ t.cal = s.cal ∧ (∀ off, 0x100000 ≤ off → off < 0xE00000 → t.rd off = s.rd off)) ∧
  (∀ (s t : State) (c : Instr) (ag : Agent) (l : BitVec 13) (k : Fin 4) (b : Bool),
      c ∈ [.flashRead ag l, .flashProgram ag l, .flashErase ag, .ofuseProgram ag k b] → exec c s = .next t →
      t.gys.pool = s.gys.pool ∧ t.gys.l = s.gys.l ∧ t.gys.banks = s.gys.banks ∧ t.cores.sram = s.cores.sram ∧
        t.cores.gnss = s.cores.gnss ∧ t.gctl.flash = s.gctl.flash ∧ t.cal = s.cal ∧ (∀ off, 0x100000 ≤ off → off ≠ Reg.BNE_UINFO → t.rd off = s.rd off))
end

