-- ==== Sys2Proof/Laws/Bits.lean ====
section
/-!
SUPPORT. Reading a bit field of a register after a field or a bit of it was written.
-/
namespace Sys2Proof.Machine

/-- Bit i of a field is bit lo + i of the register. -/
theorem bitsAt_testBit (w : Word) (lo n i : Nat) :
    (bitsAt w lo n).testBit i = (decide (i < n) && w.getLsbD (lo + i)) := by
  simp [bitsAt, Nat.testBit_mod_two_pow, Nat.testBit_div_two_pow, BitVec.getLsbD, Nat.add_comm]

/-- The bits of a field's mask. -/
theorem fieldMask_getLsbD (lo n i : Nat) :
    (fieldMask lo n).getLsbD i = (decide (i < 32) && decide (lo ≤ i) && decide (i - lo < n)) := by
  simp only [fieldMask, BitVec.getLsbD_ofNat, Nat.testBit_mul_two_pow, Nat.testBit_two_pow_sub_one]
  by_cases h : i < 32 <;> by_cases h' : lo ≤ i <;> simp [h, h']

/-- The bits of a register with a field written. -/
theorem putBits_getLsbD (w : Word) (lo n v i : Nat) :
    (putBits w lo n v).getLsbD i =
      (decide (i < 32) && if lo ≤ i ∧ i < lo + n then v.testBit (i - lo) else w.getLsbD i) := by
  simp only [putBits, BitVec.getLsbD_or, BitVec.getLsbD_and, BitVec.getLsbD_not, fieldMask_getLsbD, BitVec.getLsbD_ofNat,
    Nat.testBit_mul_two_pow]
  by_cases h : i < 32
  · by_cases h1 : lo ≤ i
    · by_cases h2 : i - lo < n
      · have : i < lo + n := by omega
        simp [h, h1, h2, this]
      · have : ¬ i < lo + n := by omega
        simp [h, h1, h2, this]
    · simp [h, h1]
  · simp [h, BitVec.getLsbD_of_ge w i (by omega)]

/-- The bits of a register with one bit written. -/
theorem putBit_getLsbD (w : Word) (i j : Nat) (b : Bool) :
    (putBit w i b).getLsbD j = if j = i ∧ i < 32 then b else w.getLsbD j := by
  have key : (1#32 <<< i).getLsbD j = (decide (j < 32) && decide (j = i)) := by
    by_cases hj : j < 32
    · by_cases hi : j < i
      · simp [hj, hi, Nat.ne_of_lt hi]
      · have h1 : (j - i = 0) = (j = i) := by simp only [eq_iff_iff]; omega
        simp [hj, hi, h1]
    · simp [hj]
  unfold putBit
  cases b
  · simp only [Bool.false_eq_true, if_false, BitVec.getLsbD_and, BitVec.getLsbD_not, key]
    by_cases hj : j < 32
    · by_cases hi : j = i
      · subst hi; simp [hj]
      · simp [hj, hi]
    · have hw := BitVec.getLsbD_of_ge w j (by omega)
      simp [hj, hw]
  · simp only [if_true, BitVec.getLsbD_or, key]
    by_cases hj : j < 32
    · by_cases hi : j = i
      · subst hi; simp [hj]
      · simp [hj, hi]
    · have hw := BitVec.getLsbD_of_ge w j (by omega)
      have : ¬ (j = i ∧ i < 32) := by omega
      simp [hj, hw, this]

/-- A field just written reads the value, cut to its width. -/
theorem bitsAt_putBits (w : Word) (lo n v : Nat) (h : lo + n ≤ 32) : bitsAt (putBits w lo n v) lo n = v % 2 ^ n := by
  apply Nat.eq_of_testBit_eq
  intro i
  rw [bitsAt_testBit, putBits_getLsbD, Nat.testBit_mod_two_pow]
  by_cases hi : i < n
  · have h1 : lo + i < 32 := by omega
    simp [hi, h1]
  · simp [hi]

/-- Another field keeps its value. -/
theorem bitsAt_putBits_other (w : Word) (lo n v lo' n' : Nat) (h : lo' + n' ≤ lo ∨ lo + n ≤ lo') (h' : lo' + n' ≤ 32) :
    bitsAt (putBits w lo n v) lo' n' = bitsAt w lo' n' := by
  apply Nat.eq_of_testBit_eq
  intro i
  rw [bitsAt_testBit, bitsAt_testBit, putBits_getLsbD]
  by_cases hi : i < n'
  · have h1 : lo' + i < 32 := by omega
    have h2 : ¬ (lo ≤ lo' + i ∧ lo' + i < lo + n) := by omega
    simp [hi, h1, h2]
  · simp [hi]

/-- A bit outside a written field keeps its value. -/
theorem bitAt_putBits_other (w : Word) (lo n v i : Nat) (h : i < lo ∨ lo + n ≤ i) (h' : i < 32) :
    bitAt (putBits w lo n v) i = bitAt w i := by
  have h2 : ¬ (lo ≤ i ∧ i < lo + n) := by omega
  rw [bitAt, putBits_getLsbD]
  simp only [h', h2, decide_true, Bool.true_and, if_false]
  rfl

/-- A bit just written reads the value. -/
theorem bitAt_putBit (w : Word) (i : Nat) (b : Bool) (h : i < 32) : bitAt (putBit w i b) i = b := by
  rw [bitAt, putBit_getLsbD]
  simp only [h, and_self, if_true]

/-- Another bit keeps its value. -/
theorem bitAt_putBit_other (w : Word) (i j : Nat) (b : Bool) (h : j ≠ i) : bitAt (putBit w i b) j = bitAt w j := by
  simp [bitAt, putBit_getLsbD, h]

/-- A field that does not hold a written bit keeps its value. -/
theorem bitsAt_putBit_other (w : Word) (i : Nat) (b : Bool) (lo n : Nat) (h : i < lo ∨ lo + n ≤ i) :
    bitsAt (putBit w i b) lo n = bitsAt w lo n := by
  apply Nat.eq_of_testBit_eq
  intro k
  rw [bitsAt_testBit, bitsAt_testBit, putBit_getLsbD]
  by_cases hk : k < n
  · have : ¬ (lo + k = i ∧ i < 32) := by omega
    simp [this]
  · simp [hk]

end Sys2Proof.Machine
end

