-- ==== Sys2Proof/Laws/Sparse.lean ====
section
/-!
SUPPORT. Sparse maps: reading after writing, and the canonical form.
-/
namespace Sys2Proof.Machine

variable {α : Type} [DecidableEq α] (d : Nat → α)

theorem sparseGet_drop (m : List (Nat × α)) (k j : Nat) :
    sparseGet d (sparseDrop m k) j = if j = k then d j else sparseGet d m j := by
  induction m with
  | nil => simp [sparseDrop, sparseGet]
  | cons e m ih =>
    obtain ⟨a, v⟩ := e
    by_cases h : a = k
    · subst h
      rw [show sparseDrop ((a, v) :: m) a = sparseDrop m a by simp [sparseDrop], ih]
      by_cases hj : j = a <;> simp [sparseGet, hj]
    · rw [show sparseDrop ((a, v) :: m) k = (a, v) :: sparseDrop m k by simp [sparseDrop, h]]
      simp only [sparseGet, ih]
      by_cases hj : j = a
      · subst hj; simp [h]
      · simp [hj]

theorem sparseGet_put (m : List (Nat × α)) (k j : Nat) (v : α) (h : ∀ e ∈ m, e.1 ≠ k) :
    sparseGet d (sparsePut k v m) j = if j = k then v else sparseGet d m j := by
  induction m with
  | nil => simp [sparsePut, sparseGet]
  | cons e m ih =>
    obtain ⟨a, w⟩ := e
    have ha : a ≠ k := h (a, w) (by simp)
    have ih := ih fun e he => h e (by simp [he])
    unfold sparsePut
    split
    · simp [sparseGet]
    · simp only [sparseGet, ih]
      by_cases hj : j = a
      · subst hj; simp [ha]
      · simp [hj]

theorem sparseDrop_ne (m : List (Nat × α)) (k : Nat) : ∀ e ∈ sparseDrop m k, e.1 ≠ k := by
  intro e he
  simpa using (List.mem_filter.mp he).2

/-- Reading after writing: the written address reads the value, every other address reads as before. -/
theorem sparseGet_set (m : List (Nat × α)) (k j : Nat) (v : α) :
    sparseGet d (sparseSet d m k v) j = if j = k then v else sparseGet d m j := by
  unfold sparseSet
  split
  · next h =>
    rw [sparseGet_drop]
    by_cases hj : j = k
    · subst hj; simp [h]
    · simp [hj]
  · rw [sparseGet_put d _ _ _ _ (sparseDrop_ne m k), sparseGet_drop]
    by_cases hj : j = k <;> simp [hj]

/-- The canonical form in words: addresses rise and no entry holds the default. -/
theorem sparseWf_iff (m : List (Nat × α)) :
    sparseWf d m = true ↔ (m.map (·.1)).Pairwise (· < ·) ∧ ∀ e ∈ m, e.2 ≠ d e.1 := by
  simp [sparseWf]

theorem sparseWf_nil : sparseWf d ([] : List (Nat × α)) = true := rfl

/-- Taking entries out keeps the canonical form. -/
theorem sparseWf_filter (m : List (Nat × α)) (p : Nat × α → Bool) (h : sparseWf d m = true) :
    sparseWf d (m.filter p) = true := by
  rw [sparseWf_iff] at h ⊢
  refine ⟨h.1.sublist ((List.filter_sublist).map _), fun e he => h.2 e (List.mem_of_mem_filter he)⟩

theorem sparsePut_mem (m : List (Nat × α)) (k : Nat) (v : α) (e : Nat × α) :
    e ∈ sparsePut k v m ↔ e = (k, v) ∨ e ∈ m := by
  induction m with
  | nil => simp [sparsePut]
  | cons a m ih =>
    obtain ⟨a, w⟩ := a
    unfold sparsePut
    split
    · simp
    · simp only [List.mem_cons, ih]
      tauto

theorem sparsePut_sorted (m : List (Nat × α)) (k : Nat) (v : α) (h : (m.map (·.1)).Pairwise (· < ·))
    (hk : ∀ e ∈ m, e.1 ≠ k) : ((sparsePut k v m).map (·.1)).Pairwise (· < ·) := by
  induction m with
  | nil => simp [sparsePut]
  | cons a m ih =>
    obtain ⟨a, w⟩ := a
    have ha : a ≠ k := hk (a, w) (by simp)
    simp only [List.map_cons, List.pairwise_cons] at h
    unfold sparsePut
    split
    · next hlt =>
      simp only [List.map_cons, List.pairwise_cons]
      refine ⟨fun b hb => ?_, h⟩
      rcases List.mem_cons.mp hb with rfl | hb
      · exact hlt
      · exact hlt.trans (h.1 b hb)
    · next hge =>
      simp only [List.map_cons, List.pairwise_cons]
      refine ⟨fun b hb => ?_, ih h.2 fun e he => hk e (by simp [he])⟩
      obtain ⟨e, he, rfl⟩ := List.mem_map.mp hb
      rcases (sparsePut_mem m k v e).mp he with rfl | he
      · omega
      · exact h.1 _ (List.mem_map.mpr ⟨e, he, rfl⟩)

/-- Writing keeps the canonical form. -/
theorem sparseWf_set (m : List (Nat × α)) (k : Nat) (v : α) (h : sparseWf d m = true) :
    sparseWf d (sparseSet d m k v) = true := by
  have hd := sparseWf_filter d m (fun e => e.1 != k) h
  unfold sparseSet
  split
  · exact hd
  · next hv =>
    rw [sparseWf_iff] at hd ⊢
    refine ⟨sparsePut_sorted _ k v hd.1 (sparseDrop_ne m k), fun e he => ?_⟩
    rcases (sparsePut_mem _ k v e).mp he with rfl | he
    · exact hv
    · exact hd.2 e he

/-- A byte read after a byte was written. -/
theorem memRead_write (m : List (Nat × Byte)) (a b : Nat) (v : Byte) :
    memRead (memWrite m a v) b = if b = a then v else memRead m b := sparseGet_set memDefault m a b v

/-- A byte outside the bytes written reads as before. -/
theorem memRead_writeBytes_other (m : List (Nat × Byte)) (a b : Nat) (bs : List Byte) (h : b < a ∨ a + bs.length ≤ b) :
    memRead (memWriteBytes m a bs) b = memRead m b := by
  induction bs generalizing m a with
  | nil => rfl
  | cons v bs ih =>
    rw [memWriteBytes, ih _ _ (by simp only [List.length_cons] at h; omega), memRead_write]
    have : b ≠ a := by simp only [List.length_cons] at h; omega
    simp [this]

/-- A byte inside the bytes written reads the byte. -/
theorem memRead_writeBytes (m : List (Nat × Byte)) (a i : Nat) (bs : List Byte) (h : i < bs.length) :
    memRead (memWriteBytes m a bs) (a + i) = bs[i] := by
  induction bs generalizing m a i with
  | nil => simp at h
  | cons v bs ih =>
    rw [memWriteBytes]
    cases i with
    | zero => rw [memRead_writeBytes_other _ _ _ _ (by omega), memRead_write]; simp
    | succ i =>
      rw [show a + (i + 1) = a + 1 + i by omega, ih _ _ _ (by simpa using h)]
      simp

/-- The bytes just written are read back. -/
theorem memReadBytes_write (m : List (Nat × Byte)) (a : Nat) (bs : List Byte) :
    memReadBytes (memWriteBytes m a bs) a bs.length = bs := by
  apply List.ext_getElem
  · simp [memReadBytes]
  · intro i h1 h2
    simp only [memReadBytes, List.getElem_map, List.getElem_range]
    exact memRead_writeBytes m a i bs h2

theorem memory_wf_write (m : List (Nat × Byte)) (a : Nat) (v : Byte) (h : Memory.wf m = true) :
    Memory.wf (memWrite m a v) = true := sparseWf_set memDefault m a v h

/-- Every memory operation keeps the canonical form. -/
theorem memory_wf_writeBytes (m : List (Nat × Byte)) (a : Nat) (bs : List Byte) (h : Memory.wf m = true) :
    Memory.wf (memWriteBytes m a bs) = true := by
  induction bs generalizing m a with
  | nil => exact h
  | cons v bs ih => exact ih _ _ (memory_wf_write m a v h)

/-- Values laid out from an address up read back at their places. -/
theorem sparseGet_run (d : Nat → α) (l : List α) (b k : Nat) :
    sparseGet d (l.mapIdx fun i x => (b + i, x)) k = if h : b ≤ k ∧ k < b + l.length then l[k - b] else d k := by
  induction l generalizing b with
  | nil => simp [sparseGet]
  | cons x l ih =>
    have e : (l.mapIdx fun i x => (b + (i + 1), x)) = l.mapIdx fun i x => (b + 1 + i, x) := by
      congr 1; funext i x; simp; omega
    simp only [List.mapIdx_cons, e, sparseGet, ih (b + 1), List.length_cons]
    by_cases hk : k = b
    · subst hk; simp
    · rw [if_neg (by omega : k ≠ b + 0)]
      by_cases h : b + 1 ≤ k ∧ k < b + 1 + l.length
      · rw [dif_pos h, dif_pos (by omega)]
        simp [show k - b = (k - (b + 1)) + 1 by omega]
      · rw [dif_neg h, dif_neg (by omega)]

end Sys2Proof.Machine
end

