-- ==== Sys2Proof/Laws/State.lean ====
section
/-!
SUPPORT. What the named operations over the state change and leave: one lemma per field and operation, and the laws of the
register map.
-/
namespace Sys2Proof.Machine

/-! wr changes regs and nothing else. -/
@[simp] theorem State.wr_pending (s : State) (o : Nat) (v : Word) : (s.wr o v).pending = s.pending := rfl
@[simp] theorem State.wr_raised (s : State) (o : Nat) (v : Word) : (s.wr o v).raised = s.raised := rfl
@[simp] theorem State.wr_logWait (s : State) (o : Nat) (v : Word) : (s.wr o v).logWait = s.logWait := rfl
@[simp] theorem State.wr_free (s : State) (o : Nat) (v : Word) : (s.wr o v).free = s.free := rfl
@[simp] theorem State.wr_bus (s : State) (o : Nat) (v : Word) : (s.wr o v).bus = s.bus := rfl
@[simp] theorem State.wr_cal (s : State) (o : Nat) (v : Word) : (s.wr o v).cal = s.cal := rfl
@[simp] theorem State.wr_cpm (s : State) (o : Nat) (v : Word) : (s.wr o v).cpm = s.cpm := rfl
@[simp] theorem State.wr_gctl (s : State) (o : Nat) (v : Word) : (s.wr o v).gctl = s.gctl := rfl
@[simp] theorem State.wr_pcie (s : State) (o : Nat) (v : Word) : (s.wr o v).pcie = s.pcie := rfl
@[simp] theorem State.wr_net (s : State) (o : Nat) (v : Word) : (s.wr o v).net = s.net := rfl
@[simp] theorem State.wr_gys (s : State) (o : Nat) (v : Word) : (s.wr o v).gys = s.gys := rfl
@[simp] theorem State.wr_cores (s : State) (o : Nat) (v : Word) : (s.wr o v).cores = s.cores := rfl
@[simp] theorem State.wr_cry (s : State) (o : Nat) (v : Word) : (s.wr o v).cry = s.cry := rfl
@[simp] theorem State.wr_rel (s : State) (o : Nat) (v : Word) : (s.wr o v).rel = s.rel := rfl
@[simp] theorem State.wr_pair (s : State) (o : Nat) (v : Word) : (s.wr o v).pair = s.pair := rfl
@[simp] theorem State.wr_sel (s : State) (o : Nat) (v : Word) : (s.wr o v).sel = s.sel := rfl
@[simp] theorem State.wr_nav (s : State) (o : Nat) (v : Word) : (s.wr o v).nav = s.nav := rfl
@[simp] theorem State.wr_gns (s : State) (o : Nat) (v : Word) : (s.wr o v).gns = s.gns := rfl
@[simp] theorem State.wr_grv (s : State) (o : Nat) (v : Word) : (s.wr o v).grv = s.grv := rfl
@[simp] theorem State.wr_dry (s : State) (o : Nat) (v : Word) : (s.wr o v).dry = s.dry := rfl
@[simp] theorem State.wr_bne (s : State) (o : Nat) (v : Word) : (s.wr o v).bne = s.bne := rfl
@[simp] theorem State.wr_dma (s : State) (o : Nat) (v : Word) : (s.wr o v).dma = s.dma := rfl
@[simp] theorem State.wr_fuse (s : State) (o : Nat) (v : Word) : (s.wr o v).fuse = s.fuse := rfl
@[simp] theorem State.wr_staged (s : State) (o : Nat) (v : Word) : (s.wr o v).staged = s.staged := rfl
@[simp] theorem State.wr_fenceIn (s : State) (o : Nat) (v : Word) : (s.wr o v).fenceIn = s.fenceIn := rfl

/-! raise changes raised and nothing else. -/
@[simp] theorem State.raise_regs (s : State) (k : Nat) (a b : Word) : (s.raise k a b).regs = s.regs := rfl
@[simp] theorem State.raise_pending (s : State) (k : Nat) (a b : Word) : (s.raise k a b).pending = s.pending := rfl
@[simp] theorem State.raise_logWait (s : State) (k : Nat) (a b : Word) : (s.raise k a b).logWait = s.logWait := rfl
@[simp] theorem State.raise_free (s : State) (k : Nat) (a b : Word) : (s.raise k a b).free = s.free := rfl
@[simp] theorem State.raise_bus (s : State) (k : Nat) (a b : Word) : (s.raise k a b).bus = s.bus := rfl
@[simp] theorem State.raise_cal (s : State) (k : Nat) (a b : Word) : (s.raise k a b).cal = s.cal := rfl
@[simp] theorem State.raise_cpm (s : State) (k : Nat) (a b : Word) : (s.raise k a b).cpm = s.cpm := rfl
@[simp] theorem State.raise_gctl (s : State) (k : Nat) (a b : Word) : (s.raise k a b).gctl = s.gctl := rfl
@[simp] theorem State.raise_pcie (s : State) (k : Nat) (a b : Word) : (s.raise k a b).pcie = s.pcie := rfl
@[simp] theorem State.raise_net (s : State) (k : Nat) (a b : Word) : (s.raise k a b).net = s.net := rfl
@[simp] theorem State.raise_gys (s : State) (k : Nat) (a b : Word) : (s.raise k a b).gys = s.gys := rfl
@[simp] theorem State.raise_cores (s : State) (k : Nat) (a b : Word) : (s.raise k a b).cores = s.cores := rfl
@[simp] theorem State.raise_cry (s : State) (k : Nat) (a b : Word) : (s.raise k a b).cry = s.cry := rfl
@[simp] theorem State.raise_rel (s : State) (k : Nat) (a b : Word) : (s.raise k a b).rel = s.rel := rfl
@[simp] theorem State.raise_pair (s : State) (k : Nat) (a b : Word) : (s.raise k a b).pair = s.pair := rfl
@[simp] theorem State.raise_sel (s : State) (k : Nat) (a b : Word) : (s.raise k a b).sel = s.sel := rfl
@[simp] theorem State.raise_nav (s : State) (k : Nat) (a b : Word) : (s.raise k a b).nav = s.nav := rfl
@[simp] theorem State.raise_gns (s : State) (k : Nat) (a b : Word) : (s.raise k a b).gns = s.gns := rfl
@[simp] theorem State.raise_grv (s : State) (k : Nat) (a b : Word) : (s.raise k a b).grv = s.grv := rfl
@[simp] theorem State.raise_dry (s : State) (k : Nat) (a b : Word) : (s.raise k a b).dry = s.dry := rfl
@[simp] theorem State.raise_bne (s : State) (k : Nat) (a b : Word) : (s.raise k a b).bne = s.bne := rfl
@[simp] theorem State.raise_dma (s : State) (k : Nat) (a b : Word) : (s.raise k a b).dma = s.dma := rfl
@[simp] theorem State.raise_fuse (s : State) (k : Nat) (a b : Word) : (s.raise k a b).fuse = s.fuse := rfl
@[simp] theorem State.raise_staged (s : State) (k : Nat) (a b : Word) : (s.raise k a b).staged = s.staged := rfl
@[simp] theorem State.raise_fenceIn (s : State) (k : Nat) (a b : Word) : (s.raise k a b).fenceIn = s.fenceIn := rfl

/-! stage changes staged and nothing else. -/
@[simp] theorem State.stage_regs (s : State) (o : Nat) (v : Word) : (s.stage o v).regs = s.regs := rfl
@[simp] theorem State.stage_pending (s : State) (o : Nat) (v : Word) : (s.stage o v).pending = s.pending := rfl
@[simp] theorem State.stage_raised (s : State) (o : Nat) (v : Word) : (s.stage o v).raised = s.raised := rfl
@[simp] theorem State.stage_logWait (s : State) (o : Nat) (v : Word) : (s.stage o v).logWait = s.logWait := rfl
@[simp] theorem State.stage_free (s : State) (o : Nat) (v : Word) : (s.stage o v).free = s.free := rfl
@[simp] theorem State.stage_bus (s : State) (o : Nat) (v : Word) : (s.stage o v).bus = s.bus := rfl
@[simp] theorem State.stage_cal (s : State) (o : Nat) (v : Word) : (s.stage o v).cal = s.cal := rfl
@[simp] theorem State.stage_cpm (s : State) (o : Nat) (v : Word) : (s.stage o v).cpm = s.cpm := rfl
@[simp] theorem State.stage_gctl (s : State) (o : Nat) (v : Word) : (s.stage o v).gctl = s.gctl := rfl
@[simp] theorem State.stage_pcie (s : State) (o : Nat) (v : Word) : (s.stage o v).pcie = s.pcie := rfl
@[simp] theorem State.stage_net (s : State) (o : Nat) (v : Word) : (s.stage o v).net = s.net := rfl
@[simp] theorem State.stage_gys (s : State) (o : Nat) (v : Word) : (s.stage o v).gys = s.gys := rfl
@[simp] theorem State.stage_cores (s : State) (o : Nat) (v : Word) : (s.stage o v).cores = s.cores := rfl
@[simp] theorem State.stage_cry (s : State) (o : Nat) (v : Word) : (s.stage o v).cry = s.cry := rfl
@[simp] theorem State.stage_rel (s : State) (o : Nat) (v : Word) : (s.stage o v).rel = s.rel := rfl
@[simp] theorem State.stage_pair (s : State) (o : Nat) (v : Word) : (s.stage o v).pair = s.pair := rfl
@[simp] theorem State.stage_sel (s : State) (o : Nat) (v : Word) : (s.stage o v).sel = s.sel := rfl
@[simp] theorem State.stage_nav (s : State) (o : Nat) (v : Word) : (s.stage o v).nav = s.nav := rfl
@[simp] theorem State.stage_gns (s : State) (o : Nat) (v : Word) : (s.stage o v).gns = s.gns := rfl
@[simp] theorem State.stage_grv (s : State) (o : Nat) (v : Word) : (s.stage o v).grv = s.grv := rfl
@[simp] theorem State.stage_dry (s : State) (o : Nat) (v : Word) : (s.stage o v).dry = s.dry := rfl
@[simp] theorem State.stage_bne (s : State) (o : Nat) (v : Word) : (s.stage o v).bne = s.bne := rfl
@[simp] theorem State.stage_dma (s : State) (o : Nat) (v : Word) : (s.stage o v).dma = s.dma := rfl
@[simp] theorem State.stage_fuse (s : State) (o : Nat) (v : Word) : (s.stage o v).fuse = s.fuse := rfl
@[simp] theorem State.stage_fenceIn (s : State) (o : Nat) (v : Word) : (s.stage o v).fenceIn = s.fenceIn := rfl

/-! drawn changes free and nothing else. -/
@[simp] theorem State.drawn_regs (s : State) : (s.drawn).regs = s.regs := rfl
@[simp] theorem State.drawn_pending (s : State) : (s.drawn).pending = s.pending := rfl
@[simp] theorem State.drawn_raised (s : State) : (s.drawn).raised = s.raised := rfl
@[simp] theorem State.drawn_logWait (s : State) : (s.drawn).logWait = s.logWait := rfl
@[simp] theorem State.drawn_bus (s : State) : (s.drawn).bus = s.bus := rfl
@[simp] theorem State.drawn_cal (s : State) : (s.drawn).cal = s.cal := rfl
@[simp] theorem State.drawn_cpm (s : State) : (s.drawn).cpm = s.cpm := rfl
@[simp] theorem State.drawn_gctl (s : State) : (s.drawn).gctl = s.gctl := rfl
@[simp] theorem State.drawn_pcie (s : State) : (s.drawn).pcie = s.pcie := rfl
@[simp] theorem State.drawn_net (s : State) : (s.drawn).net = s.net := rfl
@[simp] theorem State.drawn_gys (s : State) : (s.drawn).gys = s.gys := rfl
@[simp] theorem State.drawn_cores (s : State) : (s.drawn).cores = s.cores := rfl
@[simp] theorem State.drawn_cry (s : State) : (s.drawn).cry = s.cry := rfl
@[simp] theorem State.drawn_rel (s : State) : (s.drawn).rel = s.rel := rfl
@[simp] theorem State.drawn_pair (s : State) : (s.drawn).pair = s.pair := rfl
@[simp] theorem State.drawn_sel (s : State) : (s.drawn).sel = s.sel := rfl
@[simp] theorem State.drawn_nav (s : State) : (s.drawn).nav = s.nav := rfl
@[simp] theorem State.drawn_gns (s : State) : (s.drawn).gns = s.gns := rfl
@[simp] theorem State.drawn_grv (s : State) : (s.drawn).grv = s.grv := rfl
@[simp] theorem State.drawn_dry (s : State) : (s.drawn).dry = s.dry := rfl
@[simp] theorem State.drawn_bne (s : State) : (s.drawn).bne = s.bne := rfl
@[simp] theorem State.drawn_dma (s : State) : (s.drawn).dma = s.dma := rfl
@[simp] theorem State.drawn_fuse (s : State) : (s.drawn).fuse = s.fuse := rfl
@[simp] theorem State.drawn_staged (s : State) : (s.drawn).staged = s.staged := rfl
@[simp] theorem State.drawn_fenceIn (s : State) : (s.drawn).fenceIn = s.fenceIn := rfl

/-! complete changes bus and nothing else. -/
@[simp] theorem State.complete_regs (s : State) (c : Completion) : (s.complete c).regs = s.regs := rfl
@[simp] theorem State.complete_pending (s : State) (c : Completion) : (s.complete c).pending = s.pending := rfl
@[simp] theorem State.complete_raised (s : State) (c : Completion) : (s.complete c).raised = s.raised := rfl
@[simp] theorem State.complete_logWait (s : State) (c : Completion) : (s.complete c).logWait = s.logWait := rfl
@[simp] theorem State.complete_free (s : State) (c : Completion) : (s.complete c).free = s.free := rfl
@[simp] theorem State.complete_cal (s : State) (c : Completion) : (s.complete c).cal = s.cal := rfl
@[simp] theorem State.complete_cpm (s : State) (c : Completion) : (s.complete c).cpm = s.cpm := rfl
@[simp] theorem State.complete_gctl (s : State) (c : Completion) : (s.complete c).gctl = s.gctl := rfl
@[simp] theorem State.complete_pcie (s : State) (c : Completion) : (s.complete c).pcie = s.pcie := rfl
@[simp] theorem State.complete_net (s : State) (c : Completion) : (s.complete c).net = s.net := rfl
@[simp] theorem State.complete_gys (s : State) (c : Completion) : (s.complete c).gys = s.gys := rfl
@[simp] theorem State.complete_cores (s : State) (c : Completion) : (s.complete c).cores = s.cores := rfl
@[simp] theorem State.complete_cry (s : State) (c : Completion) : (s.complete c).cry = s.cry := rfl
@[simp] theorem State.complete_rel (s : State) (c : Completion) : (s.complete c).rel = s.rel := rfl
@[simp] theorem State.complete_pair (s : State) (c : Completion) : (s.complete c).pair = s.pair := rfl
@[simp] theorem State.complete_sel (s : State) (c : Completion) : (s.complete c).sel = s.sel := rfl
@[simp] theorem State.complete_nav (s : State) (c : Completion) : (s.complete c).nav = s.nav := rfl
@[simp] theorem State.complete_gns (s : State) (c : Completion) : (s.complete c).gns = s.gns := rfl
@[simp] theorem State.complete_grv (s : State) (c : Completion) : (s.complete c).grv = s.grv := rfl
@[simp] theorem State.complete_dry (s : State) (c : Completion) : (s.complete c).dry = s.dry := rfl
@[simp] theorem State.complete_bne (s : State) (c : Completion) : (s.complete c).bne = s.bne := rfl
@[simp] theorem State.complete_dma (s : State) (c : Completion) : (s.complete c).dma = s.dma := rfl
@[simp] theorem State.complete_fuse (s : State) (c : Completion) : (s.complete c).fuse = s.fuse := rfl
@[simp] theorem State.complete_staged (s : State) (c : Completion) : (s.complete c).staged = s.staged := rfl
@[simp] theorem State.complete_fenceIn (s : State) (c : Completion) : (s.complete c).fenceIn = s.fenceIn := rfl

/-! disarm changes cal and nothing else. -/
@[simp] theorem State.disarm_regs (s : State) (c : CmpOwner) : (s.disarm c).regs = s.regs := rfl
@[simp] theorem State.disarm_pending (s : State) (c : CmpOwner) : (s.disarm c).pending = s.pending := rfl
@[simp] theorem State.disarm_raised (s : State) (c : CmpOwner) : (s.disarm c).raised = s.raised := rfl
@[simp] theorem State.disarm_logWait (s : State) (c : CmpOwner) : (s.disarm c).logWait = s.logWait := rfl
@[simp] theorem State.disarm_free (s : State) (c : CmpOwner) : (s.disarm c).free = s.free := rfl
@[simp] theorem State.disarm_bus (s : State) (c : CmpOwner) : (s.disarm c).bus = s.bus := rfl
@[simp] theorem State.disarm_cpm (s : State) (c : CmpOwner) : (s.disarm c).cpm = s.cpm := rfl
@[simp] theorem State.disarm_gctl (s : State) (c : CmpOwner) : (s.disarm c).gctl = s.gctl := rfl
@[simp] theorem State.disarm_pcie (s : State) (c : CmpOwner) : (s.disarm c).pcie = s.pcie := rfl
@[simp] theorem State.disarm_net (s : State) (c : CmpOwner) : (s.disarm c).net = s.net := rfl
@[simp] theorem State.disarm_gys (s : State) (c : CmpOwner) : (s.disarm c).gys = s.gys := rfl
@[simp] theorem State.disarm_cores (s : State) (c : CmpOwner) : (s.disarm c).cores = s.cores := rfl
@[simp] theorem State.disarm_cry (s : State) (c : CmpOwner) : (s.disarm c).cry = s.cry := rfl
@[simp] theorem State.disarm_rel (s : State) (c : CmpOwner) : (s.disarm c).rel = s.rel := rfl
@[simp] theorem State.disarm_pair (s : State) (c : CmpOwner) : (s.disarm c).pair = s.pair := rfl
@[simp] theorem State.disarm_sel (s : State) (c : CmpOwner) : (s.disarm c).sel = s.sel := rfl
@[simp] theorem State.disarm_nav (s : State) (c : CmpOwner) : (s.disarm c).nav = s.nav := rfl
@[simp] theorem State.disarm_gns (s : State) (c : CmpOwner) : (s.disarm c).gns = s.gns := rfl
@[simp] theorem State.disarm_grv (s : State) (c : CmpOwner) : (s.disarm c).grv = s.grv := rfl
@[simp] theorem State.disarm_dry (s : State) (c : CmpOwner) : (s.disarm c).dry = s.dry := rfl
@[simp] theorem State.disarm_bne (s : State) (c : CmpOwner) : (s.disarm c).bne = s.bne := rfl
@[simp] theorem State.disarm_dma (s : State) (c : CmpOwner) : (s.disarm c).dma = s.dma := rfl
@[simp] theorem State.disarm_fuse (s : State) (c : CmpOwner) : (s.disarm c).fuse = s.fuse := rfl
@[simp] theorem State.disarm_staged (s : State) (c : CmpOwner) : (s.disarm c).staged = s.staged := rfl
@[simp] theorem State.disarm_fenceIn (s : State) (c : CmpOwner) : (s.disarm c).fenceIn = s.fenceIn := rfl

/-! arm changes cal and nothing else. -/
@[simp] theorem State.arm_regs (s : State) (c : CmpOwner) (v : Word64) : (s.arm c v).regs = s.regs := rfl
@[simp] theorem State.arm_pending (s : State) (c : CmpOwner) (v : Word64) : (s.arm c v).pending = s.pending := rfl
@[simp] theorem State.arm_raised (s : State) (c : CmpOwner) (v : Word64) : (s.arm c v).raised = s.raised := rfl
@[simp] theorem State.arm_logWait (s : State) (c : CmpOwner) (v : Word64) : (s.arm c v).logWait = s.logWait := rfl
@[simp] theorem State.arm_free (s : State) (c : CmpOwner) (v : Word64) : (s.arm c v).free = s.free := rfl
@[simp] theorem State.arm_bus (s : State) (c : CmpOwner) (v : Word64) : (s.arm c v).bus = s.bus := rfl
@[simp] theorem State.arm_cpm (s : State) (c : CmpOwner) (v : Word64) : (s.arm c v).cpm = s.cpm := rfl
@[simp] theorem State.arm_gctl (s : State) (c : CmpOwner) (v : Word64) : (s.arm c v).gctl = s.gctl := rfl
@[simp] theorem State.arm_pcie (s : State) (c : CmpOwner) (v : Word64) : (s.arm c v).pcie = s.pcie := rfl
@[simp] theorem State.arm_net (s : State) (c : CmpOwner) (v : Word64) : (s.arm c v).net = s.net := rfl
@[simp] theorem State.arm_gys (s : State) (c : CmpOwner) (v : Word64) : (s.arm c v).gys = s.gys := rfl
@[simp] theorem State.arm_cores (s : State) (c : CmpOwner) (v : Word64) : (s.arm c v).cores = s.cores := rfl
@[simp] theorem State.arm_cry (s : State) (c : CmpOwner) (v : Word64) : (s.arm c v).cry = s.cry := rfl
@[simp] theorem State.arm_rel (s : State) (c : CmpOwner) (v : Word64) : (s.arm c v).rel = s.rel := rfl
@[simp] theorem State.arm_pair (s : State) (c : CmpOwner) (v : Word64) : (s.arm c v).pair = s.pair := rfl
@[simp] theorem State.arm_sel (s : State) (c : CmpOwner) (v : Word64) : (s.arm c v).sel = s.sel := rfl
@[simp] theorem State.arm_nav (s : State) (c : CmpOwner) (v : Word64) : (s.arm c v).nav = s.nav := rfl
@[simp] theorem State.arm_gns (s : State) (c : CmpOwner) (v : Word64) : (s.arm c v).gns = s.gns := rfl
@[simp] theorem State.arm_grv (s : State) (c : CmpOwner) (v : Word64) : (s.arm c v).grv = s.grv := rfl
@[simp] theorem State.arm_dry (s : State) (c : CmpOwner) (v : Word64) : (s.arm c v).dry = s.dry := rfl
@[simp] theorem State.arm_bne (s : State) (c : CmpOwner) (v : Word64) : (s.arm c v).bne = s.bne := rfl
@[simp] theorem State.arm_dma (s : State) (c : CmpOwner) (v : Word64) : (s.arm c v).dma = s.dma := rfl
@[simp] theorem State.arm_fuse (s : State) (c : CmpOwner) (v : Word64) : (s.arm c v).fuse = s.fuse := rfl
@[simp] theorem State.arm_staged (s : State) (c : CmpOwner) (v : Word64) : (s.arm c v).staged = s.staged := rfl
@[simp] theorem State.arm_fenceIn (s : State) (c : CmpOwner) (v : Word64) : (s.arm c v).fenceIn = s.fenceIn := rfl

/-! ### The register map -/

/-- A register reads what was written to it, and every other register reads as before. -/
theorem State.rd_wr (s : State) (o j : Nat) (v : Word) : (s.wr o v).rd j = if j = o then v else s.rd j :=
  sparseGet_set regDefault s.regs o j v

@[simp] theorem State.rd_wr_same (s : State) (o : Nat) (v : Word) : (s.wr o v).rd o = v := by simp [State.rd_wr]

theorem State.rd_wr_ne (s : State) (o j : Nat) (v : Word) (h : j ≠ o) : (s.wr o v).rd j = s.rd j := by
  simp [State.rd_wr, h]

/-- Reading sees only the register map. -/
theorem State.rd_of_regs (s t : State) (h : t.regs = s.regs) (o : Nat) : t.rd o = s.rd o := by simp [State.rd, h]

@[simp] theorem State.rd_raise (s : State) (k : Nat) (a b : Word) (o : Nat) : (s.raise k a b).rd o = s.rd o := rfl
@[simp] theorem State.rd_drawn (s : State) (o : Nat) : s.drawn.rd o = s.rd o := rfl
@[simp] theorem State.rd_complete (s : State) (c : Completion) (o : Nat) : (s.complete c).rd o = s.rd o := rfl
@[simp] theorem State.rd_stage (s : State) (p : Nat) (v : Word) (o : Nat) : (s.stage p v).rd o = s.rd o := rfl
@[simp] theorem State.rd_disarm (s : State) (c : CmpOwner) (o : Nat) : (s.disarm c).rd o = s.rd o := rfl
@[simp] theorem State.rd_arm (s : State) (c : CmpOwner) (v : Word64) (o : Nat) : (s.arm c v).rd o = s.rd o := rfl

/-- A field write is a register write. -/
theorem State.rd_setFld (s : State) (o lo n v j : Nat) :
    (s.setFld o lo n v).rd j = if j = o then putBits (s.rd o) lo n v else s.rd j := State.rd_wr s o j _

theorem State.rd_setFlag (s : State) (o i j : Nat) (b : Bool) :
    (s.setFlag o i b).rd j = if j = o then putBit (s.rd o) i b else s.rd j := State.rd_wr s o j _

/-- A field just written reads the value, cut to its width. -/
theorem State.fld_setFld (s : State) (o lo n v : Nat) (h : lo + n ≤ 32) : (s.setFld o lo n v).fld o lo n = v % 2 ^ n := by
  simp [State.fld, State.rd_setFld, bitsAt_putBits _ _ _ _ h]

/-- A bit just written reads the value. -/
theorem State.flag_setFlag (s : State) (o i : Nat) (b : Bool) (h : i < 32) : (s.setFlag o i b).flag o i = b := by
  simp [State.flag, State.rd_setFlag, bitAt_putBit _ _ _ h]

theorem State.flag_setFlag_other (s : State) (o i o' i' : Nat) (b : Bool) (h : o' ≠ o ∨ i' ≠ i) :
    (s.setFlag o i b).flag o' i' = s.flag o' i' := by
  by_cases ho : o' = o
  · subst ho
    have hi : i' ≠ i := by simpa using h
    simp [State.flag, State.rd_setFlag, bitAt_putBit_other _ _ _ _ hi]
  · simp [State.flag, State.rd_setFlag, ho]

theorem State.fld_setFlag_other (s : State) (o i o' lo n : Nat) (b : Bool) (h : o' ≠ o ∨ i < lo ∨ lo + n ≤ i) :
    (s.setFlag o i b).fld o' lo n = s.fld o' lo n := by
  by_cases ho : o' = o
  · subst ho
    have hi : i < lo ∨ lo + n ≤ i := by simpa using h
    simp [State.fld, State.rd_setFlag, bitsAt_putBit_other _ _ _ _ _ hi]
  · simp [State.fld, State.rd_setFlag, ho]

/-- A saturating counter after k more. -/
theorem State.fld_bump (s : State) (o lo n k : Nat) (h : lo + n ≤ 32) (hn : 0 < n) :
    (s.bump o lo n k).fld o lo n = min (2 ^ n - 1) (s.fld o lo n + k) := by
  have : 0 < 2 ^ n := Nat.two_pow_pos n
  rw [State.bump, State.fld_setFld _ _ _ _ _ h, satAdd, Nat.mod_eq_of_lt (by omega)]

/-! ### Register accesses (R32) -/

/-- A write that completes normally has its effect. -/
theorem State.writeAccess_ok (s : State) (ag : Agent) (o : Nat) (v : Word) (k : State → State)
    (h : s.reaches ag o = true) (h' : s.accessOutcome o = .ok) : s.writeAccess ag o v k = k s := by
  simp [State.writeAccess, h, h']

/-- A read that completes normally gives its data and has its effect. -/
theorem State.readAccess_ok (s : State) (ag : Agent) (o : Nat) (k : State → Word × State)
    (h : s.reaches ag o = true) (h' : s.accessOutcome o = .ok) :
    s.readAccess ag o k = (k s).2.complete (.data (k s).1) := by
  simp [State.readAccess, h, h']

/-- What a write can do: nothing for an agent that does not reach the registers, its effect, a recorded failure of
cause 1 or 2, or a place in the queue of accesses that wait. -/
theorem State.writeAccess_cases (s : State) (ag : Agent) (o : Nat) (v : Word) (k : State → State) :
    s.writeAccess ag o v k = s ∨ s.writeAccess ag o v k = k s ∨ s.writeAccess ag o v k = s.badAccess 1 o true ∨
      s.writeAccess ag o v k = s.badAccess 2 o true ∨
      s.writeAccess ag o v k = { s with bus := { s.bus with waiting := s.bus.waiting ++ [⟨ag, o, true, v⟩] } } := by
  unfold State.writeAccess
  split
  · simp
  · split <;> simp

/-- A trouble-log entry only waits: at most 16 wait afterwards where at most 16 waited before (R481). -/
theorem State.logEntry_waiting (s : State) (e : LogEntry) (h : s.logWait.length ≤ 16) : (s.logEntry e).logWait.length ≤ 16 := by
  unfold State.logEntry
  split
  · exact h
  · split
    · simp only [List.length_append, List.length_cons, List.length_nil]; omega
    · exact h

end Sys2Proof.Machine
end

