-- ==== Sys2Proof/Laws/Access.lean ====
section
/-!
SUPPORT. What register accesses and Walzor instructions do where they complete.
-/
namespace Sys2Proof.Machine

/-- An access completes normally where the agent reaches the registers and the outcome of R32 is normal. -/
theorem State.opens_iff (s : State) (ag : Agent) (o : Nat) :
    s.opens ag o = true ↔ s.reaches ag o = true ∧ s.accessOutcome o = .ok := by
  simp [State.opens]

theorem State.writeAccess_opens (s : State) (ag : Agent) (o : Nat) (v : Word) (k : State → State)
    (h : s.opens ag o = true) : s.writeAccess ag o v k = k s := by
  obtain ⟨h1, h2⟩ := (s.opens_iff ag o).mp h
  exact s.writeAccess_ok ag o v k h1 h2

theorem State.readAccess_opens (s : State) (ag : Agent) (o : Nat) (k : State → Word × State)
    (h : s.opens ag o = true) : s.readAccess ag o k = (k s).2.complete (.data (k s).1) := by
  obtain ⟨h1, h2⟩ := (s.opens_iff ag o).mp h
  exact s.readAccess_ok ag o k h1 h2

/-- An instruction that issues has the effect of its body, unless the body raises a fault that has to wait. -/
theorem State.issue_issues (s : State) (x : Ctx) (e : Enc) (n : Needs) (body : Word → State → Act)
    (h : s.issues x e n = true) (hf : (body (s.fetch x) s).faults = false ∨ s.trapWaits x = false) :
    s.issue x e n body = (body (s.fetch x) s).finish x (s.th x).pc := by
  simp only [State.issues, Bool.and_eq_true, Bool.not_eq_true'] at h
  obtain ⟨⟨⟨⟨h1, h2⟩, h3⟩, h4⟩, h5⟩ := h
  rcases hf with hf | hf <;> simp [State.issue, h1, h2, h3, h4, h5, hf]

end Sys2Proof.Machine
end

