-- ==== Sys2Proof/Laws/Inv.lean ====
section
/-!
SUPPORT. The invariant of every step, kept by each shared operation: an operation that touches none of its fields keeps it
at once, and the others by the laws of sparse maps.
-/
namespace Sys2Proof.Machine

/-- The invariant says nothing of the other fields: it passes between two states that agree on its own. -/
theorem State.Inv.of_fields {s t : State} (h : s.Inv) (h1 : t.regs = s.regs) (h2 : t.staged = s.staged)
    (h3 : t.gys.pool = s.gys.pool) (h4 : t.gys.l = s.gys.l) (h5 : t.gys.banks = s.gys.banks)
    (h6 : t.cores.sram = s.cores.sram) (h7 : t.cores.gnss = s.cores.gnss) (h8 : t.gctl.flash = s.gctl.flash)
    (h9 : t.gns.channels = s.gns.channels) (h10 : t.logWait = s.logWait) : t.Inv := by
  obtain ⟨a, b, c, d, e, f, g, i, j, k⟩ := h
  exact ⟨h1 ▸ a, h2 ▸ b, h3 ▸ c, h4 ▸ d, h5 ▸ e, h6 ▸ f, h7 ▸ g, h8 ▸ i, h9 ▸ j, h10 ▸ k⟩

/-- Another register map in the canonical form. -/
theorem State.Inv.of_regs {s : State} (h : s.Inv) (m : List (Nat × Word)) (hm : sparseWf regDefault m = true) :
    State.Inv { s with regs := m } := { h with regs := hm }

/-! ### Registers -/

theorem State.Inv.wr {s : State} (h : s.Inv) (o : Nat) (v : Word) : (s.wr o v).Inv :=
  h.of_regs _ (sparseWf_set regDefault s.regs o v h.regs)

theorem State.Inv.setFld {s : State} (h : s.Inv) (o lo n v : Nat) : (s.setFld o lo n v).Inv := h.wr o _

theorem State.Inv.setFlag {s : State} (h : s.Inv) (o i : Nat) (b : Bool) : (s.setFlag o i b).Inv := h.wr o _

theorem State.Inv.bump {s : State} (h : s.Inv) (o lo n k : Nat) : (s.bump o lo n k).Inv := h.wr o _

theorem State.Inv.advance {s : State} (h : s.Inv) (o lo n k : Nat) : (s.advance o lo n k).Inv := h.wr o _

theorem State.Inv.wr96 {s : State} (h : s.Inv) (o : Nat) (v : CT96) : (s.wr96 o v).Inv := ((h.wr _ _).wr _ _).wr _ _

theorem State.Inv.wrWords {s : State} (h : s.Inv) (o : Nat) (ws : List Word) : (s.wrWords o ws).Inv := by
  induction ws generalizing s o with
  | nil => exact h
  | cons w ws ih => exact ih (h.wr o w) (o + 4)

theorem State.Inv.plainWrite {s : State} (h : s.Inv) (o : Nat) (v : Word) : (s.plainWrite o v).Inv := by
  unfold State.plainWrite
  split
  · exact h
  · exact h.wr _ _

theorem State.Inv.plainRead {s : State} (h : s.Inv) (o : Nat) : (s.plainRead o).2.Inv := by
  unfold State.plainRead
  split
  · exact h
  · dsimp only
    split
    · exact h
    · exact h.wr _ _

/-! ### Raises, the trouble log and what touches no field of the invariant -/

theorem State.Inv.raise {s : State} (h : s.Inv) (k : Nat) (a b : Word) : (s.raise k a b).Inv := { h with }

theorem State.Inv.complete {s : State} (h : s.Inv) (c : Completion) : (s.complete c).Inv := { h with }

theorem State.Inv.drawn {s : State} (h : s.Inv) : s.drawn.Inv := { h with }

theorem State.Inv.drewBytes {s : State} (h : s.Inv) (n : Nat) : (s.drewBytes n).Inv := { h with }

theorem State.Inv.arm {s : State} (h : s.Inv) (o : CmpOwner) (v : Word64) : (s.arm o v).Inv := { h with }

theorem State.Inv.disarm {s : State} (h : s.Inv) (o : CmpOwner) : (s.disarm o).Inv := { h with }

theorem State.Inv.clearPoison {s : State} (h : s.Inv) (m a n : Nat) : (s.clearPoison m a n).Inv := { h with }

theorem State.Inv.setCtx {s : State} (h : s.Inv) (p c : Nat) (x : Context) : (s.setCtx p c x).Inv := { h with }

theorem State.Inv.setCore {s : State} (h : s.Inv) (k : Nat) (c : CoreState) : (s.setCore k c).Inv := { h with }

theorem State.Inv.setTh {s : State} (h : s.Inv) (x : Ctx) (t : Thread) : (s.setTh x t).Inv := by
  unfold State.setTh
  split
  · exact h.setCtx _ _ _
  · exact h.setCore _ _

theorem State.Inv.error {s : State} (h : s.Inv) (o i k : Nat) : (s.error o i k).Inv := by
  unfold State.error
  split
  · exact h
  · exact (h.setFlag _ _ _).raise _ _ _

theorem State.Inv.sticky {s : State} (h : s.Inv) (o e i k : Nat) (a b : Word) : (s.sticky o e i k a b).Inv := by
  unfold State.sticky
  split
  · exact h
  · dsimp only
    split
    · exact (h.setFlag _ _ _).raise _ _ _
    · exact h.setFlag _ _ _

theorem State.Inv.logEntry {s : State} (h : s.Inv) (e : LogEntry) : (s.logEntry e).Inv := by
  have hw := s.logEntry_waiting e h.waiting
  unfold State.logEntry at hw ⊢
  split
  · exact h
  · next h1 =>
    rw [if_neg h1] at hw
    split
    · next h2 => rw [if_pos h2] at hw; exact { h with waiting := hw }
    · exact (h.bump _ _ _ _).setFlag _ _ _

theorem State.Inv.log {s : State} (h : s.Inv) (k : Nat) (a b : Word) (d : Word64) (c : Nat) :
    (s.log k a b d c).Inv := h.logEntry _

theorem State.Inv.countConfig {s : State} (h : s.Inv) (o : Nat) : (s.countConfig o).Inv :=
  (h.bump _ _ _ _).log _ _ _ _ _

/-! ### Register accesses (R32) -/

theorem State.Inv.badAccess {s : State} (h : s.Inv) (c o : Nat) (w : Bool) : (s.badAccess c o w).Inv := by
  unfold State.badAccess
  dsimp only
  split
  · exact h.bump _ _ _ _
  · exact (h.bump _ _ _ _).wr _ _

/-- A write keeps the invariant where its effect does. -/
theorem State.Inv.writeAccess {s : State} (h : s.Inv) (ag : Agent) (o : Nat) (v : Word) (k : State → State)
    (hk : s.Inv → (k s).Inv) : (s.writeAccess ag o v k).Inv := by
  rcases s.writeAccess_cases ag o v k with e | e | e | e | e <;> rw [e]
  · exact h
  · exact hk h
  · exact h.badAccess _ _ _
  · exact h.badAccess _ _ _
  · exact { h with }

/-- A read keeps the invariant where its effect does. -/
theorem State.Inv.readAccess {s : State} (h : s.Inv) (ag : Agent) (o : Nat) (k : State → Word × State)
    (hk : s.Inv → (k s).2.Inv) : (s.readAccess ag o k).Inv := by
  unfold State.readAccess
  split
  · exact h
  · split
    · exact (hk h).complete _
    · exact (h.badAccess _ _ _).complete _
    · exact (h.badAccess _ _ _).complete _
    · exact { h with }

/-! ### The write-only buffers and the memories -/

theorem State.Inv.stage {s : State} (h : s.Inv) (o : Nat) (v : Word) : (s.stage o v).Inv :=
  { h with staged := sparseWf_set _ s.staged o v h.staged }

theorem State.Inv.unstage {s : State} (h : s.Inv) (o n : Nat) : (s.unstage o n).Inv := by
  induction n generalizing s with
  | zero => exact h
  | succ n ih => exact ih (h.stage _ _)

theorem State.Inv.poolStore {s : State} (h : s.Inv) (a : Nat) (bs : List Byte) : (s.poolStore a bs).Inv :=
  State.Inv.clearPoison (s := { s with gys := { s.gys with pool := memWriteBytes s.gys.pool a bs } })
    { h with pool := memory_wf_writeBytes s.gys.pool a bs h.pool } _ _ _

theorem State.Inv.lStore {s : State} (h : s.Inv) (p a : Nat) (bs : List Byte) : (s.lStore p a bs).Inv :=
  State.Inv.clearPoison (s := { s with gys := { s.gys with l := memWriteBytes s.gys.l (lAddr p a) bs } })
    { h with local_ := memory_wf_writeBytes s.gys.l (lAddr p a) bs h.local_ } _ _ _

theorem State.Inv.setChannel {s : State} (h : s.Inv) (c : Nat) (v : Channel) : (s.setChannel c v).Inv :=
  { h with channels := sparseWf_set _ s.gns.channels c v h.channels }

theorem State.Inv.placeImage {s : State} (h : s.Inv) (i : Fin 8 × Nat × List Byte) : (s.placeImage i).Inv :=
  { h with sram := memory_wf_writeBytes s.cores.sram _ _ h.sram }

theorem State.Inv.verdict {s : State} (h : s.Inv) (u c : Nat) : (s.verdict u c).Inv := by
  unfold State.verdict
  dsimp only
  split
  · exact ((h.raise _ _ _).log _ _ _ _ _).setFlag _ _ _
  · exact (h.raise _ _ _).log _ _ _ _ _

theorem State.Inv.startTest {s : State} (h : s.Inv) (u r : Nat) : (s.startTest u r).Inv := by
  unfold State.startTest
  split
  · exact h
  · split
    · exact h
    · split
      · exact { h with }
      · split
        · exact { h with }
        · exact (h.verdict _ _).setFlag _ _ _

theorem State.Inv.report {s : State} (h : s.Inv) (k : Nat) (a b : Word) (d : Word64) : (s.report k a b d).Inv :=
  (h.raise _ _ _).log _ _ _ _ _

theorem State.Inv.eccReport {s : State} (h : s.Inv) (m a : Nat) : (s.eccReport m a).Inv :=
  (((h.bump _ _ _ _).setFlag _ _ _).report _ _ _ _).startTest _ _

theorem State.Inv.markPoison {s : State} (h : s.Inv) (m a : Nat) : (s.markPoison m a).Inv := by
  unfold State.markPoison
  dsimp only
  split
  · exact h
  · exact { h with }

theorem State.Inv.eccError {s : State} (h : s.Inv) (m a : Nat) : (s.eccError m a).Inv :=
  (h.markPoison m a).eccReport m a

theorem State.Inv.packetError {s : State} (h : s.Inv) : s.packetError.Inv := h.drawn.eccReport _ _

theorem State.Inv.queueMirror {s : State} (h : s.Inv) (line : Nat) : (s.queueMirror line).Inv := by
  unfold State.queueMirror
  split
  · exact { h with }
  · exact { State.Inv.raise (State.Inv.setFlag (h.bump Reg.PAR_CNT_MLOST 0 32 1) Reg.PAR_STATUS 22 false) 237 0 0 with }

theorem State.Inv.poolWrite {s : State} (h : s.Inv) (who : PoolWriter) (a : Nat) (bs : List Byte) :
    (s.poolWrite who a bs).Inv := by
  unfold State.poolWrite
  split
  · exact h.bump _ _ _ _
  · split
    · exact (h.poolStore _ _).queueMirror _
    · exact h.poolStore _ _

theorem State.Inv.poolWriteLines {s : State} (h : s.Inv) (who : PoolWriter) (n a : Nat) (bs : List Byte) :
    (s.poolWriteLines who n a bs).Inv := by
  induction n generalizing s a bs with
  | zero => exact h
  | succ n ih =>
    simp only [State.poolWriteLines]
    split
    · exact h.poolWrite _ _ _
    · exact ih (h.poolWrite _ _ _) _ _

end Sys2Proof.Machine
end

