-- ==== Sys2Proof/Laws/Threads.lean ====
section
/-!
SUPPORT. Contexts, cores and their threads: what is read after one is written, and what an instruction that issues leaves.
-/
namespace Sys2Proof.Machine

/-- A sparse map written twice at one address holds the second value. -/
theorem sparseSet_set {α : Type} [DecidableEq α] (d : Nat → α) (m : List (Nat × α)) (k : Nat) (v w : α) :
    sparseSet d (sparseSet d m k v) k w = sparseSet d m k w := by
  have hd : ∀ l : List (Nat × α), sparseDrop (sparseDrop l k) k = sparseDrop l k := by
    intro l; simp [sparseDrop]
  have hp : ∀ l : List (Nat × α), sparseDrop (sparsePut k v l) k = sparseDrop l k := by
    intro l
    induction l with
    | nil => simp [sparsePut, sparseDrop]
    | cons e l ih =>
      obtain ⟨a, u⟩ := e
      simp only [sparsePut]
      split
      · simp [sparseDrop]
      · simp only [sparseDrop, List.filter_cons] at ih ⊢
        rw [ih]
  have h : sparseDrop (sparseSet d m k v) k = sparseDrop m k := by
    unfold sparseSet
    split
    · exact hd m
    · rw [hp, hd]
  rw [sparseSet, h, sparseSet]

@[simp] theorem State.ctx_setCtx (s : State) (p c : Nat) (x : Context) : (s.setCtx p c x).ctx p c = x := by
  simp [State.ctx, State.setCtx, sparseGet_set]

@[simp] theorem State.setCtx_setCtx (s : State) (p c : Nat) (x y : Context) :
    (s.setCtx p c x).setCtx p c y = s.setCtx p c y := by
  simp [State.setCtx, sparseSet_set]

@[simp] theorem State.core_setCore (s : State) (k : Nat) (c : CoreState) : (s.setCore k c).core k = c := by
  simp [State.core, State.setCore, sparseGet_set]

@[simp] theorem State.setCore_setCore (s : State) (k : Nat) (c d : CoreState) :
    (s.setCore k c).setCore k d = s.setCore k d := by
  simp [State.setCore, sparseSet_set]

@[simp] theorem State.th_setTh (s : State) (x : Ctx) (t : Thread) : (s.setTh x t).th x = t := by
  cases x <;> simp [State.th, State.setTh]

@[simp] theorem State.setTh_setTh (s : State) (x : Ctx) (t u : Thread) : (s.setTh x t).setTh x u = s.setTh x u := by
  cases x <;> simp [State.setTh]

@[simp] theorem Thread.executed_setReg (t : Thread) (r : Nat) (v : Word64) : (t.setReg r v).executed = t.executed := by
  unfold Thread.setReg; split <;> rfl

@[simp] theorem Thread.executed_setTime (t : Thread) (r : Nat) (v : CT96) : (t.setTime r v).executed = t.executed := rfl

@[simp] theorem Thread.reg_setReg (t : Thread) (r q : Nat) (v : Word64) :
    (t.setReg r v).reg q = if q = r ∧ r ≠ 0 then v else t.reg q := by
  unfold Thread.setReg Thread.reg
  by_cases hr : r = 0
  · simp [hr]
  · by_cases hq : q = 0
    · simp [hr, hq]; omega
    · by_cases h : q = r <;> simp [hr, hq, h, sparseGet_set]

@[simp] theorem Thread.time_setTime (t : Thread) (r q : Nat) (v : CT96) :
    (t.setTime r v).time q = if q = r then v else t.time q := by
  simp [Thread.time, Thread.setTime, sparseGet_set]

/-- A thread that has been given a value retires as that value. -/
theorem State.retire_setTh (s : State) (x : Ctx) (t : Thread) (pc : Nat) (h : t.executed = (s.th x).executed) :
    (s.setTh x t).retire x pc = s.ran x pc t := by
  simp [State.retire, State.ran, h]

/-- A state whose thread is unchanged retires with its own. -/
theorem State.retire_ran (s : State) (x : Ctx) (pc : Nat) : s.retire x pc = s.ran x pc (s.th x) := rfl

/-- An instruction that changes only its thread. -/
theorem State.issue_thread (s : State) (x : Ctx) (e : Enc) (n : Needs) (body : Word → State → Act) (t : Thread)
    (h : s.issues x e n = true) (hb : body (s.fetch x) s = .next (s.setTh x t)) (ht : t.executed = (s.th x).executed) :
    s.issue x e n body = s.ranOn x t := by
  rw [State.issue_issues s x e n body h (Or.inl (by rw [hb]; rfl)), hb]
  exact s.retire_setTh x t _ ht

end Sys2Proof.Machine
end

