-- ==== Sys2Proof/Tests/Slice0.lean ====
section
/-!
SUPPORT. The model's own tests: ill-formed commands are refused by WellFormed, words of the spec's encodings, and for every
obligation with hypotheses a concrete state that meets them.
-/
namespace Sys2Proof.Tests

open Sys2Proof.Machine

-- One theorem at a time: each kernel evaluation runs on a stack of its own.
set_option Elab.async false

/-! ### Small states -/

/-- The device in STAGED, every domain at its reset STATE. -/
def staged : State := State.reset.wr Reg.GCTL_STATUS 3

/-- A state with a domain at a STATE. -/
def withPd (s : State) (d st : Nat) : State := s.setFld (Reg.CPM_PD_CTL d) 24 3 st

/-- A state with accesses that wait. -/
def withWaiting (s : State) (l : List Access) : State := { s with bus := { s.bus with waiting := l } }

/-- A state with a step that Caldera has accepted. -/
def withStep (s : State) (p : PendStep) : State := { s with cal := { s.cal with pendStep := some p } }

/-- PTM enabled, with a dialogue that has sent its request at t1. -/
def ptmOn (t1 : Option CT96) : State :=
  { staged.setFlag Reg.CAL_PTM_CTRL 0 true with
    cal := { staged.cal with ptmT1 := t1 }, pcie := { staged.pcie with ptmEnable := true } }

/-- A committed UTC state at a TAI second. -/
def utcOf (u : Utc) (sec : Nat) : State := { staged with cal := { staged.cal with utc := u, count := sec * secUnits } }

/-- One leap second at TAI second 100, smeared from second 40 on, with an expiry at second 100. -/
def oneLeap : Utc := ⟨true, 60, 1, 0, 1, [(100, 1)], 100⟩

/-- The device in STAGED with every domain on. -/
def powered : State := (List.range 21).foldl (fun s d => withPd s d pdOn) staged

/-- Port 0 enabled in a 50G mode, aligned, with its link up and a replica that agrees with the master. -/
def portUp : State :=
  { (((powered.wr (Reg.PRT_QUAD 0) 0x102).wr (Reg.PRT_CTRL 0) 1).wr (Reg.PRT_STATUS 0) 3) with
    cal := { powered.cal with replicas := List.replicate 29 ⟨0, 0, true, false, false⟩ } }

/-- Port 0 with a part of the state. -/
def portWith (p : PortState) : State := portUp.setPort 0 p

/-- A broadcast frame of 60 bytes that carries no known protocol. -/
def testFrame : Frame :=
  { bytes := List.replicate 6 0xFF ++ List.replicate 6 0x02 ++ [0x90, 0x00] ++ List.replicate 46 0, port := 0, stamp := Stamp.plain 0,
    info := FrameInfo.none, mark := Mark.none, egress := 0, origin := .array, queued := 0, poison := [],
    job := none }

/-- The same frame sent by the host. -/
def hostFrame : Frame := { testFrame with origin := .host }

/-- A state 2,000 s later. -/
def aged (s : State) : State := { s with cal := { s.cal with count := 2000 * secUnits } }

/-- A thread that is READY at index 0. -/
def testThread : Thread := { Context.reset.th with status := .ready }

/-- A service core ready at index 0, region 0 covering the SRAM of core 0. -/
def testCore : CoreState :=
  { CoreState.reset with inReset := false, th := testThread, regions := [(0, ⟨true, 0, 0x1000, 4, true, true, false⟩)] }

/-- Service core 0 with a word at index 0 of its SRAM. -/
def coreAt (w : Nat) : State := { powered with cores := ⟨[(0, testCore)], memWriteBytes [] 0 (leBytes 4 w), []⟩ }

/-- A tile context of class 0 with a frame, READY at index 0 with a budget of 100. -/
def testContext : Context := { Context.reset with th := testThread, budget := 100, frame := some testFrame }

/-- Context 0 of tile 0, bank 0 of 16 words holding a word at index 0, 1 KiB of private L per context. -/
def tileWith (y : Context) (w : Nat) : State :=
  { (powered.wr (Reg.GYS_HDRA 2) 16).wr (Reg.GYS_HDRA 6) 0x100000 with
    gys := { powered.gys with contexts := [(0, y)], banks := memWriteBytes [] 0 (leBytes 4 w) } }

/-- The test context with a word at its PC. -/
def tileAt (w : Nat) : State := tileWith testContext w

/-- The test context with a value in a register. -/
def tileReg (r v w : Nat) : State := tileWith { testContext with th := testThread.setReg r (BitVec.ofNat 64 v) } w

/-- An IPv4 UDP frame of 60 bytes from port 123 to port 123, as the classifier parses it. -/
def udpFrame : Frame :=
  let bs := List.replicate 12 0x02 ++ [0x08, 0x00, 0x45, 0, 0, 46] ++ List.replicate 4 0 ++ [64, 17, 0, 0] ++
    List.replicate 8 10 ++ [0, 123, 0, 123, 0, 26] ++ List.replicate 20 0
  { testFrame with bytes := bs, info := { FrameInfo.none with ipOff := 14, l4Off := 34, udpOff := 42, ipVersion := 4,
                                                               hasPorts := true } }

/-- The test context with that frame. -/
def tileUdp (w : Nat) : State := tileWith { testContext with frame := some udpFrame } w

/-- The test context bound to a bank whose region 0 lets every class read and write page 0 of the pool. -/
def tileT (w : Nat) : State :=
  let s := tileReg 2 0 w
  s.wr (Reg.GYS_HDRA 16) 0xBFC00000

/-- The test context waiting for an operation. -/
def tileOp (k : LongKind) (dst : Option Nat) : State :=
  tileWith { testContext with th := { testThread with op := some ⟨k, dst, 0⟩, status := .waiting } } 0

/-- Service core 0 given a value. -/
def coreLike (c : CoreState) : State := { powered with cores := ⟨[(0, c)], [], []⟩ }

/-- The array on with bank 0 active: quotas of 48 contexts and 256 requests for every class, a budget of 100 and a threshold of
1 µs, every cluster on. -/
def arrayOn : State :=
  let s := (powered.setFlag Reg.GYS_CTRL 0 true).setFld Reg.GYS_STATUS 0 2 0
  (List.range 4).foldl (fun s k => (s.wr (Reg.GYS_CLSQ k) 0x10000100).wr (Reg.GYS_CLSL k) 0x00640001) s

/-- A timer request for tile 0, class 0. -/
def testRequest : Request := ⟨.timer 0, 0, 0, 5, 0, Stamp.plain 0, 0, 62, 0, none⟩

/-- A frame request for tile 0, class 0, stamped at time 0. -/
def oldRequest : Request := ⟨.frame, 0, 0, 5, 0, Stamp.plain 0, 60, 13, 0, some testFrame⟩

/-- Requests queued. -/
def withQueued (l : List Request) : State := { arrayOn with gys := { arrayOn.gys with queued := l } }

/-- Every replica a second later. -/
def staleNow (s : State) : State :=
  { s with cal := { s.cal with replicas := List.replicate 29 ⟨secUnits, 0, true, false, false⟩ } }

/-- A targeted self-test of a unit that runs. -/
def withTest (u : Nat) : State :=
  ({ arrayOn with rel := { arrayOn.rel with tests := [(u, 0)] } }).wr Reg.REL_TRANS 0x04010000

/-- Timer 0 enabled on tile 0, due at time 0. -/
def timerOn : State := (arrayOn.wr (Reg.GYS_TMR_CTL 0) 0x80000000).wr (Reg.GYS_TMR_PERIOD 0) 0x00400000

/-- The scanner of the standard image on timer 7, with its layout value in tile 0. -/
def scannerOn : State :=
  let s := ((arrayOn.wr (Reg.GYS_TMR_CTL 7) 0x80000000).wr (Reg.GYS_TMR_ENTRY 7) 71).wr (Reg.GYS_TMR_PERIOD 7) 0x00700000
  { s with gys := { s.gys with l := memWriteBytes s.gys.l (lAddr 0 layoutAddr) (leBytes 8 layoutValue) } }

/-- Bank 1 with a valid header of one word. -/
def bankReady : State :=
  (((arrayOn.wr (Reg.GYS_HDRB 0) 0x574C5A31).wr (Reg.GYS_HDRB 1) 1).wr (Reg.GYS_HDRB 2) 1).wr Reg.GYS_CTRL 1

/-- 256 jobs of cluster 0 queued. -/
def jobsFull (s : State) : State := { s with cry := { s.cry with queued := List.replicate 256 (0, 0) } }

/-- The crypto block ready with every pipeline in service and one job queued. -/
def cryptoUp : State :=
  let s := (powered.wr Reg.CRY_CTRL 0x101).wr Reg.CRY_STATUS 0xFFFF000D
  { s with cry := { s.cry with queued := [(0, 0)] } }

/-- A SHA-256 job of 16 bytes at L 0 that runs on pipeline 0. -/
def cryptoRun : State :=
  let s := ((tileWith { testContext with frame := none } 0).wr Reg.CRY_CTRL 0x101).wr Reg.CRY_STATUS 0xFFFF000D
  let t := { s with gys := { s.gys with l := memWriteBytes [] 2 [0x10, 0] },
                    cry := { s.cry with running := [(0, 0, 0, none)] } }
  t.setTh (.tile 0 0) { testThread with status := .waiting, op := some ⟨.job 0 0 8, some 3, 0⟩ }

/-- Slot 0 in a state. -/
def keyIn (st : Nat) : State := cryptoUp.setFld (Reg.CRY_KSLOT 0) 0 3 st

/-- The selector steering in ACQUIRE, slot 2 selected, a PHASE slot of RANK 1. -/
def selOn : State :=
  ((((powered.wr Reg.GCTL_STATUS 4).wr Reg.SEL_CTRL 1).wr Reg.SEL_STATUS 0x12).wr (Reg.SEL_SLOT_CFG 2) 0x10000100)

/-- The queue of slot 5 with a Sync received at 1 s, a Delay_Req sent at 2 s and its answer of 3 s. -/
def clientOn : State :=
  let at_ (k n : Nat) : List Byte := [BitVec.ofNat 8 k] ++ List.replicate 7 0 ++
    leBytes 12 (ct96OfSigned (n * 10 ^ 9 * 2 ^ 16 : Nat)).toNat
  let q := memWriteBytes (memWriteBytes (memWriteBytes [] (prodAddr 5) (leBytes 8 3)) (queueBase 5) (at_ 1 1))
    (queueBase 5 + 64) (at_ 3 2)
  { selOn with gys := { selOn.gys with
      pool := memWriteBytes q (queueBase 5 + 128) ([4] ++ List.replicate 24 0 ++ [3]) } }

/-- The same half a second later. -/
def selHalf : State := { selOn with cal := { selOn.cal with count := secUnits / 2 } }

/-- PPSOUT3 armed, with an edge command that may be sent. -/
def ppsOn (e : Option EdgeCommand) : State := powered.setPps 3 { PpsState.reset with armed := true, sent := e }

/-- PPSOUT3 in MEASURE 129 ticks before second 5. -/
def ppsSoon : State :=
  let s := (((ppsOn none).wr Reg.GCTL_STATUS 10).wr (Reg.DRY_PPS_CTL 3) 0xB0400000).wr (Reg.DRY_PPS_DELAY 3) 0
  let c := 5 * secUnits - 128 * s.incrUnits
  { s with cal := { s.cal with replicas := List.replicate 29 ⟨c, 0, true, false, false⟩ } }

/-- TODOUT enabled in MEASURE a second after the pulse that it describes. -/
def todOn : State :=
  let s := (powered.wr Reg.GCTL_STATUS 10).wr Reg.DRY_TOD_CTL 0x80000001
  { s with dry := { s.dry with todPulse := some (5, 0, false) },
           cal := { s.cal with replicas := List.replicate 29 ⟨secUnits, 0, true, false, false⟩ } }

/-- The baseband enabled with the sample clock present, every engine in service, SIN0 and every signal enabled. -/
def gnssOn : State :=
  let s := ((powered.wr Reg.GNS_CTRL 1).wr Reg.GNS_STATUS 0xFFFF0002).setFlag (Reg.GNS_SIN_CTL 0) 31 true
  (List.range 19).foldl (fun s g => s.setFlag (Reg.GNS_SIG g) 31 true) s

/-- Channel 0 on GPS L1 C/A in a state, at half a chip per sample. -/
def trackOn (st : Nat) : State :=
  gnssOn.setChannel 0 { Channel.reset with state := st, codeRate := 2 ^ 40 / 80 }

/-- A job that R282 allows. -/
def testJob : AcqJob := ⟨0, 0, [5], 0, 6000, 4, 2⟩

/-- That job runs, for the first or the second time. -/
def jobOn (again : Bool) : State := { gnssOn with gns := { gnssOn.gns with job := some (testJob, again) } }

/-- A time record of 16 bytes being parsed. -/
def aidOn : State :=
  let s := ((gnssOn.wr (Reg.GNS_AIDBUF 0) 1).wr (Reg.GNS_AIDBUF 1) 8).wr (Reg.GNS_AIDBUF 2) 100
  { s with gns := { s.gns with aiding := some 16 } }

/-- A candidate of GPS L1 C/A, SV 12, predicted within 2 chips and 100 Hz. -/
def candOn : State := gnssOn.putCandidate ⟨0, 12, none, 30, some (2, 100), false⟩

/-- Two BURST channels in DORMANT, one of which has been low twice. -/
def burstOn (b : Bool) : State :=
  let s := withPd (((gnssOn.wr Reg.GCTL_STATUS 9).wr Reg.GNS_CTRL 3).wr Reg.GNS_BURST 0) PD_GNSS_TRK pdRetained
  { s with gns := { s.gns with bursting := b, channels := [(0, { Channel.reset with state := chBurst }),
                                                            (1, { Channel.reset with state := chBurst, low := 2 })] } }

/-- A survey with a record and a pulse of second 5, OSNMA on with its units, device time within 1 s. -/
def navOn : State :=
  let s := ((gnssOn.setFlag Reg.GNS_NAV_CTL 24 true).setFld Reg.GNS_NAV_CTL 30 2 1).setFlag Reg.CAL_STATUS 17 true
  let s := ((s.setFlag Reg.BNE_CTRL 0 true).setFlag Reg.BNE_STATUS 4 true).setFlag Reg.CRY_STATUS 2 true
  { s with nav := { s.nav with pmode := 1, pulse := some (5, -3, 0), fix := List.replicate 16 0 },
           gns := { s.gns with near := some (0, 0) }, sel := { s.sel with e0 := 0 } }

/-- A solution without satellites. -/
def testSol : Solution := ⟨5, true, [], 0, 0, 0, 0, [], [], 0, 0, 0, 0, 0, 0, (0, 0, 0), [], [], none⟩

/-- Channel 0 of Graver armed and calibrated, both slopes, in a gating mode; unit 7 on it with a window that is over. -/
def grvOn (m : Nat) : State :=
  let s := ((powered.setFlag Reg.CPM_PLL 3 true).wr (Reg.GRV_CH_CTL 0) (BitVec.ofNat 32 (0xE0000000 + m * 2 ^ 24))).setFlag
    (Reg.GRV_REG_CTL 7) 31 true
  let s := s.setGrvCh 0 { GrvChannel.reset with armed := true, ready := true }
  let s := s.setGrvUnit 7 { GrvUnit.reset with result := List.replicate 7 0 }
  { s with cal := { s.cal with replicas := List.replicate 29 ⟨2 * secUnits, 0, true, false, false⟩ },
           grv := { s.grv with tick := (2 * secUnits, 0) } }

/-- The big-number engine with valid microcode; CMD1 of port 0 names slots 1, 2, 3, 4 and 5. -/
def bneOn : State := (powered.setFlag Reg.BNE_STATUS 4 true).wr (Reg.BNE_P_CMD1 0) 0x0221_90A0

/-- A MODMUL of one word on a port's slots. -/
def testMod (p : Nat) : BneCommand := ⟨p, 0x0800_1000, 0x0221_90A0⟩

/-- Commands that wait and run. -/
def bneWith (l : List BneCommand) (r : Option (BneCommand × Bool)) : State := { bneOn with bne := ⟨l, r, 0⟩ }

/-- The MODMUL runs on operands 0 modulo 7. -/
def bneOdd : State := (bneWith [] (some (testMod 0, true))).wr (Reg.BNE_OPMEM 256) 7

/-- The endpoint with a link, bus mastering, MSI-X and DMA enabled, window 0 mapping DA 0 to host address 0, vectors unmasked. -/
def hostOn : State :=
  let s := (powered.wr Reg.DMA_CTRL 1).wr (Reg.DMA_WIN_CTL 0) 0xE0280000
  let s := (s.setFlag (Reg.MSIX_CTL 127) 0 false).setFlag Reg.EVT_CTRL 0 true
  { s with pcie := { s.pcie with busMaster := true, msixEnable := true, linkUp := true, perst := false } }

/-- A raise of a source with a configuration, event ring 64 running. -/
def rais (n : Nat) (c : Word) : State :=
  State.setRing { (hostOn.wr (Reg.EVT_SRC n) c) with raised := [⟨n, 1, 2⟩] } 64 { RingState.reset with st := ringRun }

/-- A record that waits on event ring 64. -/
def eventDue : State := hostOn.setRing 64 { RingState.reset with st := ringRun, events := [⟨0, 15, 1, 2, none⟩] }

/-- The endpoint with DMA as before. -/
def dmaOn : State := hostOn

/-- An up frame for ring 0. -/
def testUp : UpFrame := ⟨0, testFrame, none⟩

/-- A ring that runs, with an index ahead. -/
def ringWith (r : Nat) (x : RingState) : State := (hostOn.wr (ringReg r 0x0C) 3).setRing r x
def ringUp : RingState := { RingState.reset with st := ringRun, up := [testUp] }
def ringDown : RingState := { RingState.reset with st := ringRun, down := [⟨0, List.replicate 32 0, false, none⟩] }

/-- A posted descriptor of 64 bytes at DA 0. -/
def testPosted : List Byte := List.replicate 8 0 ++ [64] ++ List.replicate 23 0

/-- That up frame on its way to the host. -/
def upDue : State :=
  let s := ringWith 0 { RingState.reset with st := ringRun }
  { s with net := { s.net with toHost := [testUp] } }

/-- Ring 0 with a transfer of 300 bytes issued up to a position. -/
def chunkOn (pos : Nat) (write : Bool) : State :=
  ringWith 0 { RingState.reset with st := ringRun, xfer := some ⟨2, write, 0, 300, pos, 0, [], 0⟩ }

/-- Every input and PLL good, the power-on reset over. -/
def cpmOn : State :=
  let s := (powered.wr Reg.CPM_STATUS 0x78000000).wr Reg.CPM_PLL 0x1FFF
  { s with gctl := { s.gctl with por := false } }

/-- A state with a part of the CPM. -/
def withCpm (s : State) (c : CpmState) : State := { s with cpm := c }

/-- Domain d powering up at a step. -/
def rising (d k : Nat) : State := (withPd cpmOn d pdPoweringUp).setStage d k

/-- A sequence to P0 in a phase. -/
def atPhase (p : Nat) (a : Option Bool) : State := withCpm cpmOn { cpmOn.cpm with level := some ⟨0, true, p, a⟩ }

/-- I2C master 1 enabled and owned by the host. -/
def i2cOn : State := cpmOn.wr (Reg.CPM_I2C_CTL 1) 0xC0000190

/-- SLEEP accepted in STAGED. -/
def sleepy : State :=
  let s := cpmOn.setFlag Reg.GCTL_MODESTAT 31 true
  { s with gctl := { s.gctl with slept := some (3, 0) } }

/-- DORMANT with LO_XI lost. -/
def slept : State :=
  let s := (withPd cpmOn 20 pdOff).wr Reg.GCTL_STATUS 9
  { s with gctl := { s.gctl with slept := some (3, 0) }, cpm := { s.cpm with lost := [0] } }

/-- The device without supplies. -/
def offOn : State := State.reset.wr Reg.GCTL_STATUS 0

/-- BOOT at a stage of a cold boot, every domain on. -/
def bootAt (k : Nat) : State := (cpmOn.wr Reg.GCTL_STATUS 2).wr Reg.GCTL_BOOT (BitVec.ofNat 32 (0x2C0 + k))

/-- Stage 3 with a fused minimum version of firmware. -/
def minOf (n : Nat) : State := { bootAt 3 with fuse := { (bootAt 3).fuse with firmwareMin := n } }

/-- A mode with every domain on. -/
def inMode (m : Nat) : State := cpmOn.wr Reg.GCTL_STATUS (BitVec.ofNat 32 m)

/-- SAFE under the ROM. -/
def romOn : State := { inMode 11 with gctl := { (inMode 11).gctl with rom := true } }

/-- A flash command of 4,096 bytes that runs. -/
def flashRuns (op : Nat) : State := { cpmOn with gctl := { cpmOn.gctl with command := some (op, 0x1FFFFFF, 4096) } }

/-- An empty valid Sinter slot: its header up to the CRC, and the rest of it. -/
def slotHead : List Byte := [0x52, 0x54, 0x4E, 0x53, 1, 0, 0, 0, 5, 0, 0, 0, 0, 0, 0, 0, 0, 0, 0, 0]
@[irreducible] def slotRest : List Byte := List.replicate 488 0
def slotCrc : Nat := crc32c (slotHead ++ slotRest)
def slotFill : List Byte := slotHead ++ (leBytes 4 slotCrc ++ slotRest)

/-- A state with flash contents. -/
def withFlash (s : State) (f : List (Nat × Byte)) : State := { s with gctl := { s.gctl with flash := f } }

theorem withFlash_flash (s : State) (f : List (Nat × Byte)) : (withFlash s f).gctl.flash = f := rfl

/-- Stage 4 with that slot as slot B. -/
def slotted : State := withFlash (bootAt 4) (slotFill.mapIdx fun i b => (0x2000000 + i, b))

theorem drop_at (a b : List Byte) (n : Nat) (h : a.length = n) : (a ++ b).drop n = b := by subst h; simp
theorem take_at (a b : List Byte) (n : Nat) (h : a.length = n) : (a ++ b).take n = a := by subst h; simp

theorem slotRest_take (o n : Nat) (h : o + n ≤ 488) : (slotRest.drop o).take n = List.replicate n 0 := by
  rw [slotRest, List.drop_replicate, List.take_replicate, Nat.min_eq_left (by omega)]

theorem slotFill_length : slotFill.length = 512 := by
  rw [slotFill, List.length_append, List.length_append, slotRest, List.length_replicate]; rfl

theorem slotFill_rest (o n : Nat) (h : o + n ≤ 488) : (slotFill.drop (24 + o)).take n = List.replicate n 0 := by
  rw [← slotRest_take o n h, slotFill, ← List.append_assoc, ← List.drop_drop, drop_at (slotHead ++ leBytes 4 slotCrc) slotRest 24 rfl]

theorem slotted_mem : slotted.gctl.flash = slotFill.mapIdx fun i b => (0x2000000 + i, b) := withFlash_flash _ _

theorem slotted_at (i : Nat) (h : i < 512) : slotted.flashByte (0x2000000 + i) = slotFill[i]'(by rw [slotFill_length]; exact h) := by
  rw [State.flashByte, slotted_mem, sparseGet_run, dif_pos ⟨by omega, by rw [slotFill_length]; omega⟩]
  simp only [Nat.add_sub_cancel_left]

theorem slotted_erased (a : Nat) (h : a < 0x2000000) : slotted.flashByte a = 0xFF := by
  rw [State.flashByte, slotted_mem, sparseGet_run, dif_neg (by omega)]; rfl

/-- The slot B of that flash reads as its bytes. -/
theorem slotted_b (o n : Nat) (h : o + n ≤ 512) : slotted.sinterBytes 1 o n = (slotFill.drop o).take n := by
  apply List.ext_getElem
  · rw [List.length_take, List.length_drop, slotFill_length]
    simp only [State.sinterBytes, State.flashBytes, List.length_map, List.length_range]; omega
  · intro i h1 h2
    have hi : i < n := by simpa only [State.sinterBytes, State.flashBytes, List.length_map, List.length_range] using h1
    simp only [State.sinterBytes, State.flashBytes, List.getElem_map, List.getElem_range, List.getElem_take, List.getElem_drop]
    rw [show slotBase 1 + o + i = 0x2000000 + (o + i) by rw [slotBase]; omega, slotted_at _ (by omega)]

/-- Its slot A is erased. -/
theorem slotted_a (o n : Nat) (h : o + n ≤ 0x1000000) : slotted.sinterBytes 0 o n = List.replicate n 0xFF := by
  apply List.ext_getElem
  · simp only [State.sinterBytes, State.flashBytes, List.length_map, List.length_range, List.length_replicate]
  · intro i h1 h2
    have hi : i < n := by simpa only [State.sinterBytes, State.flashBytes, List.length_map, List.length_range] using h1
    simp only [State.sinterBytes, State.flashBytes, List.getElem_map, List.getElem_range, List.getElem_replicate]
    exact slotted_erased _ (by rw [slotBase]; omega)

theorem ofLeBytes_four (n : Nat) (h : n < 2 ^ 32) : ofLeBytes (leBytes 4 n) = n := by
  simp [leBytes, ofLeBytes, List.range_succ]; omega

theorem ofLeBytes_zeros (n : Nat) : ofLeBytes (List.replicate n 0) = 0 := by
  induction n with
  | zero => rfl
  | succ n ih => rw [List.replicate_succ, ofLeBytes, ih]; rfl

theorem slotted_length : slotted.slotLength 1 = 0 := by
  rw [State.slotLength, State.sinterField, slotted_b _ _ (by omega)]; rfl

theorem slotted_crc : slotted.slotCrcOk 1 = true := by
  have hc : (slotFill.drop 20).take 4 = leBytes 4 slotCrc := by
    rw [slotFill, drop_at slotHead _ 20 rfl, take_at (leBytes 4 slotCrc) _ 4 rfl]
  have h0 : (slotFill.drop 0).take 20 = slotHead := by rw [List.drop_zero, slotFill, take_at slotHead _ 20 rfl]
  have h1 : (slotFill.drop 24).take 488 = slotRest := by
    rw [show 24 = 24 + 0 from rfl, slotFill_rest 0 488 (by omega), slotRest]
  have hl : slotCrc < 2 ^ 32 := BitVec.isLt _
  rw [State.slotCrcOk, State.slotBody, slotted_length, State.sinterField, slotted_b _ _ (by omega), slotted_b _ _ (by omega),
    slotted_b _ _ (by omega), slotted_b _ _ (by decide), hc, h0, h1, ofLeBytes_four _ hl]
  rw [List.take_zero, List.append_nil]
  exact beq_self_eq_true slotCrc

theorem slotted_form : slotted.slotFormOk 1 = true := by
  have z (n : Nat) : (List.replicate n (0 : Byte)).all (· == 0) = true := by simp
  have h0 : slotted.sinterBytes 1 0 4 = [0x52, 0x54, 0x4E, 0x53] := slotted_b 0 4 (by omega)
  have h4 : slotted.sinterBytes 1 4 4 = [1, 0, 0, 0] := slotted_b 4 4 (by omega)
  have h18 : slotted.sinterBytes 1 24 4 = List.replicate 4 0 := (slotted_b 24 4 (by omega)).trans (slotFill_rest 0 4 (by omega))
  have h1c : slotted.sinterBytes 1 28 100 = List.replicate 100 0 :=
    (slotted_b 28 100 (by omega)).trans (slotFill_rest 4 100 (by omega))
  have h140 : slotted.sinterBytes 1 320 192 = List.replicate 192 0 :=
    (slotted_b 320 192 (by omega)).trans (slotFill_rest 296 192 (by omega))
  have l := slotted_length
  rw [State.slotLength, State.sinterField] at l
  rw [State.slotFormOk, State.slotLength, State.sinterField, State.sinterField, State.sinterField, State.sinterField, h0, h4, l, h18,
    h1c, h140, z, z, ofLeBytes_zeros]
  rfl

theorem microcode_keeps (s : State) : s.microcodeOutcome.gctl = s.gctl ∧ s.microcodeOutcome.fuse = s.fuse := by
  unfold State.microcodeOutcome; split <;> exact ⟨rfl, rfl⟩

theorem slotted_boot : slotted.microcodeOutcome.bootKind = 0 := by decide +kernel
theorem slotted_hash : slotted.fuse.opHash = none := by decide +kernel
theorem slotted_sig : slotted.fuse.sigReq = false := by decide +kernel

theorem slotted_seqA : slotted.sinterField 0 8 8 = 2 ^ 64 - 1 := by
  rw [State.sinterField, slotted_a _ _ (by omega)]; rfl
theorem slotted_seqB : slotted.sinterField 1 8 8 = 5 := by
  rw [State.sinterField, slotted_b _ _ (by omega)]; rfl
theorem slotted_magicA : slotted.sinterField 0 0 4 = 2 ^ 32 - 1 := by
  rw [State.sinterField, slotted_a _ _ (by omega)]; rfl

/-- What slot checks read of a state. -/
theorem slotForm_same (s t : State) (k : Nat) (h : ∀ o n, t.sinterBytes k o n = s.sinterBytes k o n) :
    t.slotFormOk k = s.slotFormOk k := by
  unfold State.slotFormOk State.slotLength State.sinterField
  simp only [h]

theorem slotCrc_same (s t : State) (k : Nat) (h : ∀ o n, t.sinterBytes k o n = s.sinterBytes k o n) :
    t.slotCrcOk k = s.slotCrcOk k := by
  unfold State.slotCrcOk State.slotBody State.slotLength State.sinterField
  simp only [h]

/-- Slot A fails its first check and slot B is taken. -/
theorem slotted_chosen : slotted.microcodeOutcome.chooseSlot = (some 1, 0x0001) := by
  have u := microcode_keeps slotted
  have k := slotted_boot
  generalize slotted.microcodeOutcome = t at u k
  have b (i o n : Nat) : t.sinterBytes i o n = slotted.sinterBytes i o n := by
    simp only [State.sinterBytes, State.flashBytes, State.flashByte, u.1]
  have f (i o n : Nat) : t.sinterField i o n = slotted.sinterField i o n := by rw [State.sinterField, b]; rfl
  have l : t.slotLength 1 = 0 := (f 1 0x10 4).trans slotted_length
  have fo : t.slotFormOk 1 = true := (slotForm_same slotted t 1 (b 1)).trans slotted_form
  have cr : t.slotCrcOk 1 = true := (slotCrc_same slotted t 1 (b 1)).trans slotted_crc
  have fl (i : Nat) : t.slotFlag 1 i = false := by
    rw [State.slotFlag, f, State.sinterField, slotted_b _ _ (by omega), show (0x18 : Nat) = 24 + 0 from rfl,
      slotFill_rest 0 4 (by omega), ofLeBytes_zeros, Nat.zero_testBit]
  have c1 : t.slotCode 1 = 0 := by
    have h : t.slotHashOk 1 = true := by rw [State.slotHashOk, u.2, slotted_hash]
    have a : t.slotAnchorOk 1 = true := by rw [State.slotAnchorOk, k]; rfl
    have q : t.fuse.sigReq = false := by rw [u.2, slotted_sig]
    have r : (slotRecords (t.slotLength 1) (t.slotBody 1)).isNone = false := by rw [State.slotBody, l]; rfl
    simp only [State.slotCode, fo, cr, h, a, q, r, fl]
    rfl
  have fo0 : t.slotFormOk 0 = false := by simp [State.slotFormOk, f, slotted_magicA]
  have c0 : t.slotCode 0 = 1 := by rw [State.slotCode, fo0]; rfl
  have s0 : t.slotSeq 0 = 2 ^ 64 - 1 := (f _ _ _).trans slotted_seqA
  have s1 : t.slotSeq 1 = 5 := (f _ _ _).trans slotted_seqB
  have fs : t.firstSlot = 0 := by rw [State.firstSlot, s0, s1]; exact if_neg (by omega)
  have e : t.chooseSlot = (some 1, 0x0001) := by
    simp only [State.chooseSlot, fs, c0, c1, Nat.sub_zero]
    decide
  exact e

theorem slotted_records : recordPairs ((slotRecords (slotted.slotLength 1) (slotted.slotBody 1)).getD []) = [] := by
  rw [State.slotBody, slotted_length]; rfl

/-- The scrubber enabled. -/
def relOn : State := cpmOn.setFlag Reg.REL_SCRUB 23 true

/-- Service core k released, and stopped or not. -/
def dogOn (k : Nat) (stopped : Bool) : State := relOn.setCore k { CoreState.reset with inReset := false, stopped := stopped }

/-- A log entry, and a log that holds it at index 0. -/
def testEntry : LogEntry := ⟨5, 1, 0, 2, 3, 4⟩
def logged : State := { (relOn.wr Reg.REL_LOG_HEAD 1) with rel := { relOn.rel with log := [(0, 7, testEntry)] } }

/-- The pair enabled with its link up, in epoch 7. -/
def pairOn : State := ((relOn.wr Reg.PAR_CTRL 0x800A0000).wr Reg.PAR_STATUS 0x41000000).wr Reg.PAR_EPOCH 7

/-- A state with a part of the pair controller. -/
def withPair (s : State) (p : PairState) : State := { s with pair := p }

/-- STANDBY, ready to take over into LOCKED. -/
def standingBy : State := ((pairOn.wr Reg.PAR_STATUS 0xC1000000).wr Reg.GCTL_STATUS 8).wr Reg.PAR_TKMODE 5

/-- A FORM that runs, PREF set. -/
def forming (e : Option Word) : State :=
  { withPair (pairOn.wr Reg.PAR_CTRL 0xC00A0000) { pairOn.pair with forming := some ⟨e⟩ } with fuse := { pairOn.fuse with dsn := 0 } }

/-- ACTIVE beside a standby that is ready. -/
def yieldOk : State :=
  withPair (pairOn.wr Reg.PAR_STATUS 0x81000030) { pairOn.pair with peer := some ⟨false, true, 0⟩ }

/-! ### Ill-formed commands -/

theorem test_ill_offset : (Instr.registerWrite .host 0x4000000 0).wf = false ∧ (Instr.registerWrite .host 0x102 0).wf = false := by decide
theorem test_ill_aligned : (Instr.unalignedBar0Access .host 0x100 4 true).wf = false ∧
    (Instr.unalignedBar0Access .host 0x4000001 1 true).wf = false := by decide
theorem test_ill_rc_offset : (Instr.rcFieldRead .jtag 0x103).wf = false := by decide
theorem test_ill_ptm : (Instr.ptmResponse 0 (2 ^ 64) 0 false).wf = false ∧ (Instr.ptmResponse 0 0 (2 ^ 32) false).wf = false := by decide
theorem test_ill_lag : (Instr.tnow (.core 0) 163841).wf = false ∧ (Instr.tableOpComplete (.core 0) 163841).wf = false ∧
    (Instr.tknComplete (.core 0) 163841).wf = false := by decide
theorem test_ill_output : (Instr.outputCtlWrite .host 0x4000FC 0).wf = false ∧ (Instr.outputCtlWrite .host 0x400280 0).wf = false ∧
    (Instr.outputCtlWrite .host 0x400102 0).wf = false := by decide
theorem test_ill_level : (Instr.sinStatUpdate 0 []).wf = false := by decide
theorem test_ill_job : (Instr.acqJobStart ⟨4, 0, [5], 0, 0, 1, 1⟩).wf = false ∧ (Instr.acqJobStart ⟨0, 19, [5], 0, 0, 1, 1⟩).wf = false ∧
    (Instr.acqJobStart ⟨0, 0, [], 0, 0, 1, 1⟩).wf = false ∧ (Instr.acqJobStart ⟨0, 0, [5], 0, 0, 3, 1⟩).wf = false ∧
    (Instr.acqJobStart ⟨0, 0, [5], 0, 0, 1, 9⟩).wf = false := by decide
theorem test_ill_channel : (Instr.channelCommand 0 (.allocate 19 1 0 0 0 0)).wf = false ∧
    (Instr.channelCommand 0 (.noChannel 19 1)).wf = false := by decide
theorem test_ill_burst : (Instr.burstEnd [⟨256, 0, 0, 0, 0, 0⟩]).wf = false := by decide
theorem test_ill_solution : (Instr.solution ⟨5, true, [], 0, 0, 0, 0, [], [], 0, 0, 0, 0, 0, 0, (0, 0, 0), [], [], none⟩).wf = false := by decide
theorem test_ill_edge : (Instr.edgeStamp 0 false 2 32).wf = false := by decide
theorem test_ill_table : (Instr.caltabUpdate 0 [1048576]).wf = false ∧ (Instr.caltabUpdate 0 (List.replicate 64 1)).wf = false := by
  decide
theorem test_ill_i2c : (Instr.i2cDone 0 (.done (List.replicate 9 0))).wf = false := by decide
theorem test_ill_firmware : (Instr.firmwareVerified (some ⟨1, [], []⟩) none).wf = false ∧
    (Instr.modeLoadfw .host 4 (some ⟨1, List.replicate 8 0, [(0, 0x40000, [1])]⟩)).wf = false := by decide
theorem test_ill_line : (Instr.mirrorRx true 0 32 0 (List.replicate 64 0)).wf = false ∧
    (Instr.mirrorRx true 0 64 0 (List.replicate 63 0)).wf = false := by decide

/-- No row of the table has bits. -/
theorem test_no_word : decodeTableWord 32 0x4CA0C052 = none := rfl

/-! ### The spec's worked examples -/

/-- Marking an NTP response (chapter 04): the words of steps 2 and 9 and their fields. -/
theorem test_ldp_word : encLdp.fits true 0x4CA0C052 = true ∧ fRd 0x4CA0C052 = 5 ∧ fRa 0x4CA0C052 = 0 ∧ bitsAt 0x4CA0C052 0 14 = 82 := by
  decide +kernel
theorem test_fmark_word : encFmark.fits true 0x64040088 = true ∧ fRa 0x64040088 = 4 ∧ fImm6 0x64040088 = 8 := by decide +kernel

/-- Correcting a fast LO (chapter 02): the increment and the dither that the two words give once in effect. -/
theorem test_fast_lo : ((staged.wr Reg.CAL_INCR_CUR_L 0x3FFFD60E).wr Reg.CAL_INCR_CUR_H 0x9A6E0001).incrUnits = 0x13FFFD60E ∧
    ((staged.wr Reg.CAL_INCR_CUR_L 0x3FFFD60E).wr Reg.CAL_INCR_CUR_H 0x9A6E0001).dither = 39534 := by decide +kernel

/-- The SEC32 wrap (chapter 02): three seconds ahead waits, and fires when it is reached. -/
theorem test_wrap_waits : cf64Reached 0xFFFFFFFE80000000 0x0000000180000000 = false ∧
    cf64Reached 0x0000000180000000 0x0000000180000000 = true := by decide

/-- A falsely declared death (chapter 17): the takeover moves epoch 7 to 8 and asserts FENCE_OUT. -/
theorem test_takeover : standingBy.takeOver.epoch = 8 ∧ standingBy.takeOver.flag Reg.PAR_STATUS psFenceOut = true := by decide +kernel

/-- An epoch is newer across the wrap (R486). -/
theorem test_epoch_wrap : epochNewer 0 0xFFFFFFFF = true ∧ epochNewer 0xFFFFFFFF 0 = false := by decide

/-! ### The vectors that R202 names -/

/-- "abc". -/
def abc : List Byte := [0x61#8, 0x62#8, 0x63#8]

/-- SHA-256 of "abc", FIPS 180-4. -/
theorem test_sha256_abc : sha256 abc =
    [0xBA#8, 0x78#8, 0x16#8, 0xBF#8, 0x8F#8, 0x01#8, 0xCF#8, 0xEA#8,
     0x41#8, 0x41#8, 0x40#8, 0xDE#8, 0x5D#8, 0xAE#8, 0x22#8, 0x23#8,
     0xB0#8, 0x03#8, 0x61#8, 0xA3#8, 0x96#8, 0x17#8, 0x7A#8, 0x9C#8,
     0xB4#8, 0x10#8, 0xFF#8, 0x61#8, 0xF2#8, 0x00#8, 0x15#8, 0xAD#8] := by decide +kernel

/-- SHA-384 of "abc", FIPS 180-4. -/
theorem test_sha384_abc : sha384 abc =
    [0xCB#8, 0x00#8, 0x75#8, 0x3F#8, 0x45#8, 0xA3#8, 0x5E#8, 0x8B#8,
     0xB5#8, 0xA0#8, 0x3D#8, 0x69#8, 0x9A#8, 0xC6#8, 0x50#8, 0x07#8,
     0x27#8, 0x2C#8, 0x32#8, 0xAB#8, 0x0E#8, 0xDE#8, 0xD1#8, 0x63#8,
     0x1A#8, 0x8B#8, 0x60#8, 0x5A#8, 0x43#8, 0xFF#8, 0x5B#8, 0xED#8,
     0x80#8, 0x86#8, 0x07#8, 0x2B#8, 0xA1#8, 0xE7#8, 0xCC#8, 0x23#8,
     0x58#8, 0xBA#8, 0xEC#8, 0xA1#8, 0x34#8, 0xC8#8, 0x25#8, 0xA7#8] := by decide +kernel

/-- SHA-512 of "abc", FIPS 180-4. -/
theorem test_sha512_abc : sha512 abc =
    [0xDD#8, 0xAF#8, 0x35#8, 0xA1#8, 0x93#8, 0x61#8, 0x7A#8, 0xBA#8,
     0xCC#8, 0x41#8, 0x73#8, 0x49#8, 0xAE#8, 0x20#8, 0x41#8, 0x31#8,
     0x12#8, 0xE6#8, 0xFA#8, 0x4E#8, 0x89#8, 0xA9#8, 0x7E#8, 0xA2#8,
     0x0A#8, 0x9E#8, 0xEE#8, 0xE6#8, 0x4B#8, 0x55#8, 0xD3#8, 0x9A#8,
     0x21#8, 0x92#8, 0x99#8, 0x2A#8, 0x27#8, 0x4F#8, 0xC1#8, 0xA8#8,
     0x36#8, 0xBA#8, 0x3C#8, 0x23#8, 0xA3#8, 0xFE#8, 0xEB#8, 0xBD#8,
     0x45#8, 0x4D#8, 0x44#8, 0x23#8, 0x64#8, 0x3C#8, 0xE8#8, 0x0E#8,
     0x2A#8, 0x9A#8, 0xC9#8, 0x4F#8, 0xA5#8, 0x4C#8, 0xA4#8, 0x9F#8] := by decide +kernel

/-- SHA3-256 of "abc", FIPS 202. -/
theorem test_sha3_abc : sha3 abc =
    [0x3A#8, 0x98#8, 0x5D#8, 0xA7#8, 0x4F#8, 0xE2#8, 0x25#8, 0xB2#8,
     0x04#8, 0x5C#8, 0x17#8, 0x2D#8, 0x6B#8, 0xD3#8, 0x90#8, 0xBD#8,
     0x85#8, 0x5F#8, 0x08#8, 0x6E#8, 0x3E#8, 0x9D#8, 0x52#8, 0x5B#8,
     0x46#8, 0xBF#8, 0xE2#8, 0x45#8, 0x11#8, 0x43#8, 0x15#8, 0x32#8] := by decide +kernel

/-- AES-SIV, RFC 5297 A.1. -/
theorem test_siv_a1 : sivSeal
    [0xFF#8, 0xFE#8, 0xFD#8, 0xFC#8, 0xFB#8, 0xFA#8, 0xF9#8, 0xF8#8,
     0xF7#8, 0xF6#8, 0xF5#8, 0xF4#8, 0xF3#8, 0xF2#8, 0xF1#8, 0xF0#8,
     0xF0#8, 0xF1#8, 0xF2#8, 0xF3#8, 0xF4#8, 0xF5#8, 0xF6#8, 0xF7#8,
     0xF8#8, 0xF9#8, 0xFA#8, 0xFB#8, 0xFC#8, 0xFD#8, 0xFE#8, 0xFF#8]
    [[0x10#8, 0x11#8, 0x12#8, 0x13#8, 0x14#8, 0x15#8, 0x16#8, 0x17#8,
     0x18#8, 0x19#8, 0x1A#8, 0x1B#8, 0x1C#8, 0x1D#8, 0x1E#8, 0x1F#8,
     0x20#8, 0x21#8, 0x22#8, 0x23#8, 0x24#8, 0x25#8, 0x26#8, 0x27#8]]
    [0x11#8, 0x22#8, 0x33#8, 0x44#8, 0x55#8, 0x66#8, 0x77#8, 0x88#8,
     0x99#8, 0xAA#8, 0xBB#8, 0xCC#8, 0xDD#8, 0xEE#8] =
    [0x85#8, 0x63#8, 0x2D#8, 0x07#8, 0xC6#8, 0xE8#8, 0xF3#8, 0x7F#8,
     0x95#8, 0x0A#8, 0xCD#8, 0x32#8, 0x0A#8, 0x2E#8, 0xCC#8, 0x93#8,
     0x40#8, 0xC0#8, 0x2B#8, 0x96#8, 0x90#8, 0xC4#8, 0xDC#8, 0x04#8,
     0xDA#8, 0xEF#8, 0x7F#8, 0x6A#8, 0xFE#8, 0x5C#8] := by decide +kernel

/-- The hypotheses of ExecLeavesTheQueue can be met, clause by clause. -/
theorem witness_ExecLeavesTheQueue :
    ∃ (c : Instr) (s t : State), exec c s = .next t := ⟨.tclkEdge, State.reset, _, rfl⟩

/-- The hypotheses of EveryStepKeepsTheInvariant can be met, clause by clause. -/
theorem witness_EveryStepKeepsTheInvariant :
    ∃ s t : State, s.Inv ∧ step s = .next t := ⟨State.reset, State.reset, by constructor <;> decide +kernel, rfl⟩

/-- The hypotheses of UnalignedAccessRejected can be met, clause by clause. -/
theorem witness_UnalignedAccessRejected :
    ∃ (s : State) (ag : Agent) (off size : Nat), s.reaches ag off = true ∧ off < 0x4000000 ∧ ¬ (off % 4 = 0 ∧ size = 4) :=
  ⟨staged, .jtag, 0x200001, 4, by decide +kernel⟩

/-- The hypotheses of RegisterAccessOutcomes can be met, clause by clause. -/
theorem witness_RegisterAccessOutcomes :
    (∃ (s : State) (ag : Agent) (off : Nat), off < 0x4000000 ∧ off % 4 = 0 ∧ s.opens ag off) ∧
    staged.opens .jtag (Reg.CAL_STEP_W 0) ∧ staged.opens .jtag (Reg.CAL_STEP_W 2) ∧
    staged.opens .jtag Reg.GCTL_BADCNT ∧
    (staged.reaches .jtag 0x1000000 = true ∧ staged.accessOutcome 0x1000000 = .unmapped ∧
      staged.flag Reg.GCTL_BADACC 31 = false) ∧
    (staged.reaches .jtag 0x600000 = true ∧ staged.accessOutcome 0x600000 = .off) ∧
    ((withPd staged PD_GNSS_TRK pdPoweringUp).accessOutcome 0x600000 = .wait) ∧
    (withWaiting staged [⟨.host, Reg.CAL_STEP_W 0, true, 5⟩]).accessOutcome (Reg.CAL_STEP_W 0) = .ok ∧
    (withWaiting staged [⟨.host, 0x4, false, 0⟩]).flag Reg.GCTL_BADACC 31 = false ∧
    staged.opens .jtag Reg.GCTL_BADACC := by
  refine ⟨⟨staged, .jtag, 0x200020, ?_⟩, ?_⟩ <;> decide +kernel

/-- The hypotheses of ClockEdgeAdvancesTheCount can be met, clause by clause. -/
theorem witness_ClockEdgeAdvancesTheCount :
    staged.incrDue = false ∧ staged.stepDue = false ∧ staged.utcDue = false ∧ staged.loDue = false ∧
    staged.cal.absEdge = false ∧ staged.flag Reg.CAL_STATUS 16 = false ∧
    (staged.setFlag Reg.CAL_STATUS 16 true).flag Reg.CAL_STATUS 16 = true := by decide +kernel

/-- The hypotheses of IncrementCommits can be met, clause by clause. -/
theorem witness_IncrementCommits :
    (staged.opens (.sc 6) Reg.CAL_INCR_L ∧ staged.ownsIncr (.sc 6) = true) ∧
    (staged.opens (.sc 6) Reg.CAL_INCR_H ∧ incrInRange (staged.rd Reg.CAL_INCR_L) 1 = true ∧ staged.cal.pendIncr = none) ∧
    (∃ s : State, s.opens (.sc 6) Reg.CAL_INCR_H ∧ s.ownsIncr (.sc 6) = true ∧ incrInRange (s.rd Reg.CAL_INCR_L) 1 = true ∧
      s.cal.pendIncr = some ⟨0, 0, 0⟩ ∧ s.flag Reg.CAL_ERR 3 = false) :=
  ⟨by decide +kernel, by decide +kernel, { staged with cal := { staged.cal with pendIncr := some ⟨0, 0, 0⟩ } }, by decide +kernel⟩

/-- The hypotheses of IncrementOwner can be met, clause by clause. -/
theorem witness_IncrementOwner :
    staged.opens .jtag Reg.CAL_INCR_L ∧ staged.opens .jtag Reg.CAL_INCR_H ∧ staged.ownsIncr .jtag = false ∧
    staged.flag Reg.CAL_ERR 1 = false ∧ staged.opens (.sc 7) Reg.CAL_INCR_L ∧ staged.ownsIncr (.sc 7) = true := by decide +kernel

/-- The hypotheses of IncrementOwnerWrites can be met, clause by clause. -/
theorem witness_IncrementOwnerWrites :
    staged.opens .jtag Reg.CAL_CTRL ∧ staged.mode = modeStaged ∧ (staged.setFld Reg.GCTL_STATUS 0 4 5).opens .jtag Reg.CAL_CTRL ∧
    (staged.setFld Reg.GCTL_STATUS 0 4 5).mode = 5 ∧ staged.flag Reg.CAL_ERR 1 = false := by decide +kernel

/-- The hypotheses of StepCommands can be met, clause by clause. -/
theorem witness_StepCommands :
    staged.opens .jtag Reg.CAL_STEP_CMD ∧ bitAt 1 0 = true ∧ bitAt 2 0 = false ∧ bitAt 2 1 = true ∧
    staged.flag Reg.CAL_STATUS 1 = false ∧ ct96Ns staged.stepValue < 10 ^ 9 ∧ staged.cal.pendStep = none ∧
    (0 : Int) ≤ (staged.cal.count : Int) + offsetOfCt96 staged.stepValue ∧ staged.flag Reg.CAL_ERR 0 = false ∧
    (staged.setFlag Reg.CAL_STATUS 1 true).flag Reg.CAL_STATUS 1 = true ∧
    10 ^ 9 ≤ ct96Ns (staged.wr (Reg.CAL_STEP_W 1) 0xFFFF).stepValue ∧ staged.flag Reg.CAL_ERR 4 = false ∧
    ct96Ns ((staged.wr (Reg.CAL_STEP_W 1) 0xFFFF0000).wr (Reg.CAL_STEP_W 2) 0xFFFFFFFF).stepValue < 10 ^ 9 ∧
    (staged.cal.count : Int) +
      offsetOfCt96 ((staged.wr (Reg.CAL_STEP_W 1) 0xFFFF0000).wr (Reg.CAL_STEP_W 2) 0xFFFFFFFF).stepValue < 0 ∧
    staged.flag Reg.CAL_ERR 5 = false ∧
    (withStep staged ⟨true, false, 0, 0⟩).stepDue = true ∧ (withStep staged ⟨true, false, 0, 0⟩).incrDue = false ∧
    (withStep staged ⟨true, false, 0, 0⟩).opens .jtag Reg.CAL_STEP_CMD := by decide +kernel

/-- The hypotheses of TimeReadsAndComparisons can be met, clause by clause. -/
theorem witness_TimeReadsAndComparisons :
    staged.opens .jtag (Reg.CAL_NOW_W 0) ∧ staged.opens .jtag (Reg.CAL_NOW_W 1) ∧ staged.opens .jtag (Reg.CAL_NOW_W 2) ∧
    staged.opens .jtag Reg.CAL_SNAP_CTL ∧ bitAt 1 0 = true ∧
    (∀ r < 29, (staged.replica r).mismatches staged.cal.count staged.cal.acc = false) ∧
    (∃ s : State, (∀ r < 29, (s.replica r).mismatches s.cal.count s.cal.acc = false) ∧ (s.replica 0).reload = true ∧
      (s.replica 0).loaded = true) ∧
    (∃ s : State, (s.replica 0).mismatches s.cal.count s.cal.acc = true ∧ 0 < s.cal.replicas.length) ∧
    (∃ s : State, ∃ c ∈ s.cal.comparators, c.owner = .wake ∧ (s.ownerCf .wake - c.target).msb = false) :=
  ⟨by decide +kernel, by decide +kernel, by decide +kernel, by decide +kernel, by decide +kernel, by decide +kernel,
    ⟨{ staged with cal := { staged.cal with replicas := [⟨7, 0, true, false, true⟩] } }, by decide +kernel⟩,
    ⟨{ staged with cal := { staged.cal with replicas := [⟨7, 0, true, true, false⟩] } }, by decide +kernel⟩,
    ⟨{ staged with cal := { staged.cal with comparators := [⟨.wake, 0, false⟩] } }, ⟨.wake, 0, false⟩, by decide +kernel⟩⟩

/-- The hypotheses of PtmDialogues can be met, clause by clause. -/
theorem witness_PtmDialogues :
    (ptmOn none).flag Reg.CAL_PTM_CTRL 0 = true ∧ (ptmOn none).cal.ptmT1 = none ∧ (ptmOn none).pcie.ptmEnable = true ∧
    (ptmOn none).opens .jtag Reg.CAL_PTM_CTRL ∧ bitAt 0x00010002 1 = true ∧ bitsAt 0x00010002 16 10 = 1 ∧
    (ptmOn none).opens .jtag Reg.CAL_PTM_STATUS ∧ (ptmOn (some 0)).cal.ptmT1 = some 0 ∧ (ptmOn (some 0)).cal.ptmOwed = 0 ∧
    ptmDelayOf 0 ((ptmOn (some 0)).stamp replicaPtm 0) 0 = 0 ∧
    10000 * 2 ^ 16 < ptmDelayOf 0 ((ptmOn (some 0)).stamp replicaPtm (2 ^ 32)) 0 ∧
    (staged.wr Reg.CAL_PTM_CTRL 0x00010001).flag Reg.CAL_PTM_CTRL 0 = true ∧ staged.cal.ptmT1 = none ∧ staged.pcie.ptmEnable = false ∧
    (∃ s : State, s.cal.ptmT1 = some 0 ∧ s.cal.ptmOwed = 0 ∧ s.cal.ptmBefore = some (0, 0) ∧ ptmDelayOf 0 0 0 = 0) := by
  refine ⟨by decide +kernel, by decide +kernel, by decide +kernel, by decide +kernel, by decide +kernel, by decide +kernel,
    by decide +kernel, by decide +kernel, by decide +kernel, by decide +kernel, by decide +kernel, by decide +kernel,
    by decide +kernel, by decide +kernel,
    ⟨{ staged with cal := { staged.cal with ptmT1 := some 0, ptmBefore := some (0, 0) } }, by decide +kernel⟩⟩

/-- The hypotheses of UtcCommitsAndLeaps can be met, clause by clause. -/
theorem witness_UtcCommitsAndLeaps :
    staged.opens .jtag Reg.CAL_UTC_CMD ∧ bitAt 1 0 = true ∧ staged.flag Reg.CAL_UTC_STATUS 20 = false ∧
    (staged.setFlag Reg.CAL_UTC_STATUS 20 true).flag Reg.CAL_UTC_STATUS 20 = true ∧ staged.flag Reg.CAL_ERR 8 = false ∧
    (utcOf Utc.reset 0).incrDue = false ∧ (utcOf Utc.reset 0).stepDue = false ∧ Utc.reset.tableOk = true ∧
    utcJumps (utcOf Utc.reset 0).cal.utc Utc.reset (ct96OfCount (utcOf Utc.reset 0).nextCount) = false ∧
    (⟨false, 0, 0, 0, 33, [], 0⟩ : Utc).tableOk = false ∧
    utcJumps (utcOf Utc.reset 0).cal.utc ⟨false, 0, 0, 37, 0, [], 0⟩ (ct96OfCount (utcOf Utc.reset 0).nextCount) = true ∧
    (utcOf oneLeap 0).fld Reg.CAL_UTC_STATUS 16 2 = 0 ∧
    (utcOf oneLeap 0).cal.utc.leapPend (ct96Sec (utcOf oneLeap 0).now) ≠ 0 ∧
    (utcOf oneLeap 100).fld Reg.CAL_UTC_STATUS 0 16 ≠
      unsigned 16 ((utcOf oneLeap 100).cal.utc.offsetAt (ct96Sec (utcOf oneLeap 100).now)) ∧
    oneLeap.expiry ≠ 0 ∧ oneLeap.expiry ≤ ct96Sec (utcOf oneLeap 100).now ∧
    (utcOf oneLeap 100).flag Reg.CAL_UTC_STATUS 19 = false ∧
    (utcOf oneLeap 50).cal.utc.smearAmount (utcOf oneLeap 50).now ≠ 0 ∧
    (utcOf oneLeap 50).flag Reg.CAL_UTC_STATUS 18 = false ∧
    (utcOf oneLeap 0).cal.utc.smearEn = true ∧ (utcOf oneLeap 0).cal.utc.smearAmount (utcOf oneLeap 0).now = 0 ∧
    ((utcOf oneLeap 0).setFlag Reg.CAL_UTC_STATUS 18 true).flag Reg.CAL_UTC_STATUS 18 = true := by decide +kernel

/-- The hypotheses of PortLinks can be met, clause by clause. -/
theorem witness_PortLinks :
    powered.opens .jtag (Reg.PRT_QUAD 0) ∧ bitsAt 2 0 3 ≤ 4 ∧ powered.quadInUse 0 = false ∧
    portUp.opens .jtag (Reg.PRT_QUAD 0) ∧ portUp.quadInUse 0 = true ∧ portUp.portEnabled 0 = true ∧
    (portUp.setFlag (Reg.PRT_STATUS 0) 0 false).lanesFree ((portUp.setFlag (Reg.PRT_STATUS 0) 0 false).lanesOf 0) = true ∧
    (portUp.setFlag (Reg.PRT_STATUS 0) 0 false).flag (Reg.PRT_STATUS 0) 1 = true ∧
    (portUp.setFlag (Reg.PRT_STATUS 0) 0 false).flag (Reg.PRT_CAL_CTRL 0) 0 = false ∧
    (portUp.setFlag (Reg.PRT_STATUS 0) 0 false).flag (Reg.PRT_STATUS 0) 0 = false ∧
    portUp.flag (Reg.PRT_STATUS 0) 0 = true := by decide +kernel

/-- The hypotheses of FrameReception can be met, clause by clause. -/
theorem witness_FrameReception :
    portUp.flag (Reg.PRT_STATUS 0) 0 = true ∧ 64 ≤ testFrame.bytes.length + 4 ∧ testFrame.bytes.length + 4 ≤ 9216 ∧
    be16 testFrame.bytes 12 ≠ 0x8808 ∧ portUp.flag (Reg.PRT_CAL_CTRL 0) 1 = false ∧
    portUp.acceptsMac 0 testFrame.bytes = true ∧ portUp.suspect (replicaPort 0) = false ∧
    (portUp.countStamp 0).cellsFree (frameCells testFrame.bytes.length) = true ∧
    (portUp.setFlag (Reg.PRT_STATUS 0) 4 true).flag (Reg.PRT_STATUS 0) 4 = true ∧
    (portWith { PortState.reset with received := [testFrame] }).xqRuns 0 = true ∧
    (portWith { PortState.reset with received := [testFrame] }).pdUp PD_FABRIC = true ∧
    (portWith { PortState.reset with received := [testFrame] }).flag Reg.CLS_CTRL 0 = false ∧
    ((portWith { PortState.reset with received := [testFrame] }).setFlag Reg.CLS_CTRL 0 true).classify testFrame.bytes = 13 ∧
    ((portWith { PortState.reset with received := [testFrame] }).wr (Reg.CLS_DISP 13) 0xA0000000).flag (Reg.CLS_DISP 13) 31
      = true ∧
    ((portWith { PortState.reset with received := [testFrame] }).wr (Reg.CLS_DISP 13) 0xA0000000).fld (Reg.CLS_DISP 13) 29 2
      = 1 ∧
    ((portWith { PortState.reset with captures := [⟨0, Stamp.plain 0⟩] }).wr (Reg.CLS_DISP 63) 0x80000000).takesCapture 0 = true ∧
    ((portWith { PortState.reset with captures := [⟨0, Stamp.plain 0⟩] }).wr (Reg.CLS_DISP 63) 0x80000000).fld (Reg.CLS_DISP 63) 29 2
      = 0 := by decide +kernel

/-- The hypotheses of FrameTransmission can be met, clause by clause. -/
theorem witness_FrameTransmission :
    (portWith { PortState.reset with egress := [hostFrame] }).xqRuns 16 = true ∧
    (portWith { PortState.reset with egress := [hostFrame] }).flag (Reg.PRT_STATUS 0) 4 = false ∧
    (portWith { PortState.reset with egress := [hostFrame] }).flag (Reg.PRT_STATUS 0) 0 = true ∧
    (portWith { PortState.reset with egress := [hostFrame] }).flag (Reg.PRT_CAL_CTRL 0) 0 = false ∧
    (portWith { PortState.reset with egress := [hostFrame] }).gateBlocks 0 hostFrame = false ∧
    (portWith { PortState.reset with egress := [hostFrame] }).aged 0 hostFrame = false ∧
    (portWith { PortState.reset with egress := [hostFrame] }).suspect (replicaPort 0) = false ∧
    (aged (portWith { PortState.reset with egress := [hostFrame] })).aged 0 hostFrame = true ∧
    (aged (portWith { PortState.reset with egress := [hostFrame] })).xqRuns 16 = true ∧
    (aged (portWith { PortState.reset with egress := [hostFrame] })).flag (Reg.PRT_STATUS 0) 0 = true ∧
    hostFrame.job = none ∧ hostFrame.poison = [] ∧ hostFrame.mark.enabled = false ∧ hostFrame.mark.capture = false ∧
    markInvalid { hostFrame.mark with enabled := true } 60 = false ∧ testFrame.origin = .array ∧
    (portWith { PortState.reset with egress := [testFrame] }).gateOpen 0 = false ∧
    (((portWith { PortState.reset with egress := [testFrame] }).fld (Reg.PRT_TXCTL 0) 0 10 * 1000 * 2 ^ 16 : Nat) : Int) <
      (ct96ToFrac (aged (portWith { PortState.reset with egress := [testFrame] })).now : Int) - ct96ToFrac testFrame.queued
    := by decide +kernel

/-- The hypotheses of PortCalibration can be met, clause by clause. -/
theorem witness_PortCalibration :
    portUp.opens .jtag (Reg.PRT_CAL_CTRL 0) ∧ portUp.flag (Reg.PRT_CAL_CTRL 0) 1 = false ∧ portUp.mode = modeStaged ∧
    (portUp.setFld Reg.GCTL_STATUS 0 4 5).opens .jtag (Reg.PRT_CAL_CTRL 0) ∧ (portUp.setFld Reg.GCTL_STATUS 0 4 5).mode = 5 ∧
    (portUp.setFlag (Reg.PRT_CAL_CTRL 0) 0 true).flag (Reg.PRT_CAL_CTRL 0) 0 = true ∧
    (portUp.setFlag (Reg.PRT_CAL_CTRL 0) 0 true).portEnabled 0 = true ∧
    (portUp.setFlag (Reg.PRT_CAL_CTRL 0) 0 true).suspect (replicaPort 0) = false ∧
    (portUp.setFlag (Reg.PRT_CAL_CTRL 0) 1 true).flag (Reg.PRT_CAL_CTRL 0) 1 = true ∧
    (portUp.setFlag (Reg.PRT_CAL_CTRL 0) 1 true).suspect (replicaPort 0) = false ∧
    (portUp.setFlag (Reg.PRT_CAL_CTRL 0) 1 true).flag (Reg.PRT_STATUS 0) 4 = false ∧
    (portUp.setFlag (Reg.PRT_CAL_CTRL 0) 1 true).flag (Reg.PRT_STATUS 0) 0 = true ∧
    portUp.opens .jtag (Reg.PRT_CAL_TX_W0 0) ∧ portUp.opens .jtag (Reg.PRT_CAL_TX_W0 0 + 4) := by decide +kernel

/-- The hypotheses of RegisterArithmetic can be met, clause by clause. -/
theorem witness_RegisterArithmetic :
    (coreAt 0x00611001).issues (.core 0) encAdd readsAB = true ∧
    (coreAt 0x00611002).issues (.core 0) encSub readsAB = true ∧
    (coreAt 0x00611003).issues (.core 0) encAnd readsAB = true ∧
    (coreAt 0x00611004).issues (.core 0) encOr readsAB = true ∧
    (coreAt 0x00611005).issues (.core 0) encXor readsAB = true ∧
    (coreAt 0x00611006).issues (.core 0) encShl readsAB = true ∧
    (coreAt 0x00611007).issues (.core 0) encShr readsAB = true ∧
    (coreAt 0x00611008).issues (.core 0) encSar readsAB = true ∧
    (coreAt 0x00611009).issues (.core 0) encRol readsAB = true ∧
    (coreAt 0x0061100A).issues (.core 0) encSlt readsAB = true ∧
    (coreAt 0x0061100B).issues (.core 0) encSltu readsAB = true ∧
    (coreAt 0x0061100C).issues (.core 0) encMinu readsAB = true ∧
    (coreAt 0x0061100D).issues (.core 0) encMaxu readsAB = true ∧
    (coreAt 0x0061100E).issues (.core 0) encMul readsAB = true ∧
    (coreAt 0x0061100F).issues (.core 0) encMulhu readsAB = true := by decide +kernel

/-- The hypotheses of BitFieldAndCrc can be met, clause by clause. -/
theorem witness_BitFieldAndCrc :
    (coreAt 0x00610010).issues (.core 0) encClz readsAB = true ∧
    (coreAt 0x00610011).issues (.core 0) encPopc readsAB = true ∧
    (coreAt 0x00610012).issues (.core 0) encBswap readsAB = true ∧
    (coreAt 0x00611013).issues (.core 0) encExt readsAB = true ∧
    (coreAt 0x00611014).issues (.core 0) encCrc readsAB = true := by decide +kernel

/-- The hypotheses of ImmediateArithmetic can be met, clause by clause. -/
theorem witness_ImmediateArithmetic :
    (coreAt 0x0461FFFF).issues (.core 0) encAddi readsA = true ∧
    (coreAt 0x08610005).issues (.core 0) encAndi readsA = true ∧
    (coreAt 0x0C610005).issues (.core 0) encOri readsA = true ∧
    (coreAt 0x10610005).issues (.core 0) encXori readsA = true ∧
    (coreAt 0x14610005).issues (.core 0) encShli readsA = true ∧
    (coreAt 0x18610005).issues (.core 0) encShri readsA = true ∧
    (coreAt 0x1C610005).issues (.core 0) encSari readsA = true ∧
    (coreAt 0x28610005).issues (.core 0) encSlti readsA = true ∧
    (coreAt 0x2C610005).issues (.core 0) encSltiu readsA = true ∧
    (coreAt 0x20608000).issues (.core 0) encMovi noReads = true ∧
    (coreAt 0x24621234).issues (.core 0) encMovk readsD = true := by decide +kernel

/-- The hypotheses of BranchesAndJumps can be met, clause by clause. -/
theorem witness_BranchesAndJumps :
    (coreAt 0x30220008).issues (.core 0) encBeq readsC = true ∧
    (coreAt 0x30222008).issues (.core 0) encBne readsC = true ∧
    (coreAt 0x30224008).issues (.core 0) encBlt readsC = true ∧
    (coreAt 0x30226008).issues (.core 0) encBge readsC = true ∧
    (coreAt 0x30228008).issues (.core 0) encBltu readsC = true ∧
    (coreAt 0x3022A008).issues (.core 0) encBgeu readsC = true ∧
    (coreAt 0x3003C008).issues (.core 0) encBfs ⟨fun _ => [], fun w => fCb w == 3, false⟩ = true ∧
    (coreAt 0x3003E008).issues (.core 0) encBfc ⟨fun _ => [], fun w => fCb w == 3, false⟩ = true ∧
    (coreAt 0x34200004).issues (.core 0) encJal noReads = true ∧
    (coreAt 0x38200004).issues (.core 0) encJalr readsA = true ∧
    (coreAt 0x30001FFF).issues (.core 0) encBeq readsC = true ∧
    (coreAt 0x343FFFFF).issues (.core 0) encJal noReads = true ∧
    (coreAt 0x3820FFFF).issues (.core 0) encJalr readsA = true ∧
    (coreAt 0x30001FFF).g (.core 0) 0 = (coreAt 0x30001FFF).g (.core 0) 0 ∧
    ((coreAt 0).th (.core 0)).pc + fOff13 0x30001FFF = -1 ∧ ((coreAt 0).th (.core 0)).pc + fOff13 0x30220008 = 8
    := by decide +kernel

/-- The hypotheses of LoadsAndStores can be met, clause by clause. -/
theorem witness_LoadsAndStores :
    (tileAt 0x40608040).issues (.tile 0 0) encLdl readsA = true ∧
    (tileAt 0x44608040).issues (.tile 0 0) encLdls readsA = true ∧
    (tileAt 0x40608041).issues (.tile 0 0) encLdl readsA = true ∧
    (tileAt 0x4860C040).issues (.tile 0 0) encStl readsDA = true ∧
    (tileAt 0x5860C040).issues (.tile 0 0) encTldl readsA = true ∧
    (tileAt 0x5C60C040).issues (.tile 0 0) encTstl readsA = true ∧
    (tileAt 0x4C60400C).issues (.tile 0 0) encLdp readsA = true ∧
    (tileAt 0x5060400C).issues (.tile 0 0) encLdps readsA = true ∧
    (tileAt 0x5460400C).issues (.tile 0 0) encStp readsDA = true ∧
    (coreAt 0x40608040).issues (.core 0) encLdl readsA = true ∧
    (coreAt 0x4860C040).issues (.core 0) encStl readsDA = true ∧
    (tileAt 0x40608040).formE (.tile 0 0) 0x40608040 = 0x40 ∧
    (tileAt 0x4860C040).formE (.tile 0 0) 0x4860C040 = 0x40 ∧
    (tileAt 0).lPermits testContext 0 0x40 4 false = true ∧ (tileAt 0).lPermits testContext 0 0x40 8 true = true ∧
    (tileAt 0).lPermits testContext 0 0x40 12 false = true ∧ (tileAt 0).lPermits testContext 0 0x40 12 true = true ∧
    (tileWith { testContext with th := testThread.setReg 1 0x80000 } 0x40618000).issues (.tile 0 0) encLdl readsA = true ∧
    (tileWith { testContext with th := testThread.setReg 1 0x80000 } 0x40618000).formE (.tile 0 0)
      0x40618000 = 0x80000 ∧ (tileAt 0).lPermits { testContext with th := testThread.setReg 1 0x80000 } 0 0x80000 4 false = false ∧
    (tileAt 0).poisoned memL 0x40 12 = none ∧ (tileAt 0).partlyPoisoned memL 0x40 12 = none ∧
    ct96Valid (BitVec.ofNat 96 (ofLeBytes (memReadBytes (tileAt 0).gys.l 0x40 12))) = true ∧
    ct96Valid (BitVec.ofNat 96 (ofLeBytes (memReadBytes (memWrite [] 0x45 0xFF) 0x40 12))) = false ∧
    testContext.frame = some testFrame ∧ testContext.missingCell 12 2 = none ∧ testFrame.poisonedAt 12 2 false = false ∧
    ((coreAt 0).core 0).translate 0x40 4 false = some 0x10000040 ∧ fabricPlace 0 0x10000040 = .sram 0x40 ∧
    (coreAt 0).poisoned memCore 0x40 8 = none ∧ ((coreAt 0).core 0).inReset = false := by decide +kernel

/-- The hypotheses of TimeInstructions can be met, clause by clause. -/
theorem witness_TimeInstructions :
    (coreAt 0x60200000).issues (.core 0) encTnow noReads = true ∧
    (tileAt 0x60200040).issues (.tile 0 0) encTingr noReads = true ∧
    (coreAt 0x60220080).issues (.core 0) encTmov noReads = true ∧
    (coreAt 0x602218C0).issues (.core 0) encTadd readsB = true ∧
    (coreAt 0x60221900).issues (.core 0) encTsub noReads = true ∧
    (coreAt 0x60221940).issues (.core 0) encTset readsAB = true ∧
    (coreAt 0x60220180).issues (.core 0) encTgsec noReads = true ∧
    (coreAt 0x602201C0).issues (.core 0) encTgns noReads = true ∧
    (coreAt 0x60220200).issues (.core 0) encTcf noReads = true ∧
    (coreAt 0x60220240).issues (.core 0) encTntp noReads = true ∧
    (coreAt 0x60220280).issues (.core 0) encTutc noReads = true ∧
    (coreAt 0x600202C0).issues (.core 0) encTwait longA = true ∧
    (tileAt 0x60001B03).issues (.tile 0 0) encTstp readsA = true ∧
    (tileAt 0x60001B00).issues (.tile 0 0) encTstp readsA = true ∧
    (tileAt 0x60001B01).issues (.tile 0 0) encTstp readsA = true ∧
    (tileWith { testContext with th := testThread.setReg 3 (BitVec.ofNat 64 (2 ^ 48 - 1)) } 0x60221940).issues (.tile 0 0)
      encTset readsAB = true ∧ 10 ^ 9 ≤ (2 ^ 48 - 1) / 2 ^ 16 % 2 ^ 32 ∧
    testContext.missingCell 0 12 = none ∧ testFrame.poisonedAt 0 12 true = false ∧
    ((tileWith { testContext with th := { testThread with op := some ⟨.twait, none, 0⟩, status := .waiting } } 0).arm (.twait 0 0)
      0).comparator (.twait 0 0) = some ⟨.twait 0 0, 0, false⟩ ∧
    cf64Reached (cf64OfCt96 (ct96OfCount (State.replica (tileAt 0) (replicaOf (.tile 0 0))).count)) 0 = true
    := by decide +kernel

/-- The hypotheses of FrameInstructions can be met, clause by clause. -/
theorem witness_FrameInstructions :
    (tileAt 0x64200003).issues (.tile 0 0) encFinfo noReads = true ∧
    (tileAt 0x64200009).issues (.tile 0 0) encFinfo noReads = true ∧
    (tileAt 0x640110BF).issues (.tile 0 0) encFmark readsAB = true ∧
    (tileAt 0x640000C0).issues (.tile 0 0) encFunmark noReads = true ∧
    (tileAt 0x64010100).issues (.tile 0 0) encFport readsA = true ∧
    (tileAt 0x64000141).issues (.tile 0 0) encFswap noReads = true ∧
    (tileAt 0x64000147).issues (.tile 0 0) encFswap noReads = true ∧
    (tileAt 0x64000981).issues (.tile 0 0) encFcpyp readsAB = true ∧
    (tileAt 0x640009C1).issues (.tile 0 0) encFcpyl readsAB = true ∧
    (tileAt 0x64000040).issues (.tile 0 0) encFlen ⟨fun w => [fRa w], fun _ => true, false⟩ = true ∧
    (tileReg 1 64 0x64010040).issues (.tile 0 0) encFlen ⟨fun w => [fRa w], fun _ => true, false⟩ = true ∧
    (tileReg 1 512 0x64010040).issues (.tile 0 0) encFlen ⟨fun w => [fRa w], fun _ => true, false⟩ = true ∧
    (tileReg 1 16 0x64010100).issues (.tile 0 0) encFport readsA = true ∧
    ((tileReg 1 512 0).g (.tile 0 0) 1).toNat = 512 ∧ testFrame.bytes.length = 60 ∧
    testContext.missingCell 0 16 = none ∧ testFrame.poisonedAt 0 16 true = false ∧ swapPairs testFrame.info 1 = some [(0, 6, 6)] ∧
    (∀ r ∈ swapReads [(0, 6, 6)], testContext.missingCell r.1 r.2 = none ∧ testFrame.poisonedAt r.1 r.2 false = false) ∧
    swapPairs testFrame.info 7 = none ∧ (tileAt 0).lPermits testContext 0 0 16 false = true ∧
    (tileAt 0).lPermits testContext 0 0 16 true = true ∧ (tileAt 0).poisoned memL 0 16 = none ∧
    (tileAt 0).partlyPoisoned memL 0 16 = none ∧
    ((tileWith { testContext with th := { testThread with status := .blocked (.cell 2) } } 0).th (.tile 0 0)).status
      = .blocked (.cell 2) := by decide +kernel

/-- The hypotheses of ChecksumInstructions can be met, clause by clause. -/
theorem witness_ChecksumInstructions :
    (tileAt 0x68201000).issues (.tile 0 0) encCsum readsAB = true ∧
    (tileAt 0x68221840).issues (.tile 0 0) encCsadd readsAB = true ∧
    (tileUdp 0x68000080).issues (.tile 0 0) encCsip noReads = true ∧
    (tileUdp 0x680000C0).issues (.tile 0 0) encCsudp noReads = true ∧
    (tileUdp 0x680000C1).issues (.tile 0 0) encCsudp noReads = true ∧
    (tileAt 0x68000080).issues (.tile 0 0) encCsip noReads = true ∧
    (tileAt 0x680000C0).issues (.tile 0 0) encCsudp noReads = true ∧
    testContext.missingCell 0 0 = none ∧ testFrame.poisonedAt 0 0 false = false ∧
    udpFrame.info.ipVersion = 4 ∧ udpFrame.info.ipOff = 14 ∧ udpFrame.info.l4Off = 34 ∧ udpFrame.info.udpOff = 42 ∧
    4 * (byteAt udpFrame.bytes 14 % 16) = 20 ∧ be16 udpFrame.bytes 38 = 26 ∧ udpFrame.bytes.length = 60 ∧
    { testContext with frame := some udpFrame }.missingCell 0 60 = none ∧
    (∀ r ∈ csudpReads udpFrame.bytes udpFrame.info true 26,
      testContext.missingCell r.1 r.2 = none ∧ udpFrame.poisonedAt r.1 r.2 false = false) ∧ udpFrame.poisonedAt 0 60 false = false ∧
    testFrame.info.ipVersion ≠ 4 ∧ testFrame.info.udpOff = 0xFFFF := by decide +kernel

/-- The hypotheses of TableAndTokenIssue can be met, clause by clause. -/
theorem witness_TableAndTokenIssue :
    (tileT 0x6C610002).issues (.tile 0 0) encTbld longA = true ∧
    (tileT 0x6C011042).issues (.tile 0 0) encTbst readsAB = true ∧
    (tileT 0x6C611080).issues (.tile 0 0) encTbcas longDAB = true ∧
    (tileT 0x6C6110C0).issues (.tile 0 0) encTbadd longAB = true ∧
    (tileT 0x6C611100).issues (.tile 0 0) encTbfind longAB = true ∧
    (tileT 0x6C610140).issues (.tile 0 0) encTblock longA = true ∧
    (tileT 0x6C010180).issues (.tile 0 0) encTbunlk ⟨fun w => [fRa w], fun _ => false, false⟩ = true ∧
    (coreAt 0x6C010180).issues (.core 0) encTbunlk ⟨fun w => [fRa w], fun _ => false, true⟩ = true ∧
    (tileT 0x6C0111C3).issues (.tile 0 0) encTbget longAB = true ∧
    (tileT 0x6C011203).issues (.tile 0 0) encTbput readsAB = true ∧
    (tileT 0x70611000).issues (.tile 0 0) encTkn longAB = true ∧
    (tileT 0x70011041).issues (.tile 0 0) encTkset longAB = true ∧
    (tileT 0).tFault (.tile 0 0) 0 8 8 true = none ∧ (tileT 0).tFault (.tile 0 0) 16 8 8 false = none ∧
    (tileT 0).tFault (.tile 0 0) 0 64 64 false = none ∧ (tileT 0).tFault (.tile 0 0) 0 16 16 true = none ∧
    (tileT 0).tFault (.tile 0 0) 0 32 8 true = none ∧ (tileT 0).lFault (.tile 0 0) 0 32 true = none ∧
    (tileT 0).tFault (.tile 0 0) 4 8 8 false = some fltAlign ∧ (tileT 0).tFault (.tile 0 0) 4096 8 8 false = some fltTProt ∧
    (tileT 0).lPermits testContext 0 0 32 false = true ∧ (tileT 0).poisoned memL 0 32 = none ∧
    (coreAt 0).tFault (.core 0) 0 8 8 true = none := by decide +kernel

/-- The hypotheses of TableAndTokenCompletion can be met, clause by clause. -/
theorem witness_TableAndTokenCompletion :
    (tileOp (.load 0) (some 3)).ghost (.tile 0 0) = false ∧ ((tileOp (.load 0) (some 3)).th (.tile 0 0)).status = .waiting ∧
    ((tileOp (.load 0) (some 3)).th (.tile 0 0)).op = some ⟨.load 0, some 3, 0⟩ ∧
    ((tileOp (.load 0) (some 3)).th (.tile 0 0)).storeAhead 0 64 = false ∧
    (tileOp (.load 0) (some 3)).poisoned memPool 0 64 = none ∧ (tileOp (.lock 0) (some 3)).poolWord 0 = 0 ∧
    (tileOp (.lock 0) (some 3)).role ≠ roleStandby ∧ (tileOp (.lock 0) (some 3)).role ≠ roleActive ∧
    ((tileWith { testContext with th := { testThread with stores := [⟨0, [1, 2], false⟩] } } 0).th (.tile 0 0)).stores
      = [⟨0, [1, 2], false⟩] := by decide +kernel

/-- The hypotheses of DisposalAndControl can be met, clause by clause. -/
theorem witness_DisposalAndControl :
    (tileAt 0x78000000).issues (.tile 0 0) encSend noReads = true ∧
    (tileAt 0x78000045).issues (.tile 0 0) encDrop noReads = true ∧
    (tileAt 0x78000080).issues (.tile 0 0) encTohost readsA = true ∧
    (tileAt 0x780000C0).issues (.tile 0 0) encEnd noReads = true ∧
    (tileWith { testContext with frame := none } 0x780000C0).issues (.tile 0 0) encEnd noReads = true ∧
    (tileAt 0x7C000000).issues (.tile 0 0) encNop noReads = true ∧
    (tileAt 0x7C000040).issues (.tile 0 0) encYield noReads = true ∧
    (coreAt 0x7C000040).issues (.core 0) encYield noReads = true ∧
    (tileAt 0x7C000080).issues (.tile 0 0) encWaitl ⟨fun _ => [], fun _ => false, true⟩ = true ∧
    (tileAt 0x7C0000C0).issues (.tile 0 0) encFence noReads = true ∧
    (tileWith { testContext with th := { testThread with stores := [⟨0, [1], false⟩] } } 0x7C0000C0).issues (.tile 0 0) encFence noReads = true ∧
    (tileAt 0x7C000107).issues (.tile 0 0) encBrk noReads = true ∧
    (tileAt 0x7C01014F).issues (.tile 0 0) encEvraise readsA = true ∧
    (tileAt 0x7C600184).issues (.tile 0 0) encRdctx ⟨fun _ => [], fun w => fImm6 w == 5, false⟩ = true ∧
    (tileAt 0).staleHere (.tile 0 0) = false ∧ (((tileAt 0).wr (Reg.PRT_QUAD 0) 0x102).wr (Reg.PRT_STATUS 0) 1).portExists 0 = true ∧
    (((tileAt 0).wr (Reg.PRT_QUAD 0) 0x102).wr (Reg.PRT_STATUS 0) 1).flag (Reg.PRT_STATUS 0) 0 = true ∧ ((tileAt 0).wr Reg.GYS_STATUS 0).activeBank ≠ 3 ∧
    ((tileAt 0).th (.tile 0 0)).op = none ∧ ((tileAt 0).tileCtx (.tile 0 0)).locks = [] ∧ testFrame.egress = 0 ∧
    (tileWith { testContext with locks := [8] } 0x78000000).issues (.tile 0 0) encSend noReads = true ∧
    ((tileWith { testContext with locks := [8] } 0x78000000).tileCtx (.tile 0 0)).locks ≠ [] ∧ (coreAt 0).trapWaits (.core 0) = false
    := by decide +kernel

/-- The hypotheses of PrivilegedProfile can be met, clause by clause. -/
theorem witness_PrivilegedProfile :
    (coreAt 0xE0000000).issues (.core 0) encWait noReads = true ∧
    (coreAt 0xE0000040).issues (.core 0) encEret noReads = true ∧
    (coreAt 0xE0600084).issues (.core 0) encMfsr noReads = true ∧
    (coreAt 0xE00300C5).issues (.core 0) encMtsr readsA = true ∧
    (coreAt 0xE0011105).issues (.core 0) encMrgn readsAB = true ∧
    (coreAt 0xE0000145).issues (.core 0) encMrgi noReads = true ∧
    (0 : Nat) &&& regionZeros = 0 ∧ (4 : Nat) &&& regionZeros ≠ 0 ∧
    (coreLike { testCore with ie := true, irqs := [200] }).core 0 = { testCore with ie := true, irqs := [200] } ∧
    (coreLike { testCore with depth := some 1 }).core 0 = { testCore with depth := some 1 } := by decide +kernel

/-- The hypotheses of FaultsOfExecutors can be met, clause by clause. -/
theorem witness_FaultsOfExecutors :
    (coreAt 0).mayIssue (.core 0) = true ∧ (coreAt 0).fetchPoisoned (.core 0) = false ∧ isDefined false ((coreAt 0).fetch (.core 0)) = false ∧
    (tileAt 0xE0000000).mayIssue (.tile 0 0) = true ∧ (tileAt 0xE0000000).fetchPoisoned (.tile 0 0) = false ∧
    (tileAt 0xE0000000).overBudget (.tile 0 0) = false ∧ bitsAt ((tileAt 0xE0000000).fetch (.tile 0 0)) 26 6 = 0x38 ∧
    (testCore.inh = false) ∧ (coreLike { testCore with inh := true }).core 0 = { testCore with inh := true } ∧
    testContext.isInit = false := by decide +kernel

/-- The hypotheses of RequestsAndContexts can be met, clause by clause. -/
theorem witness_RequestsAndContexts :
    (arrayOn.flag Reg.GYS_CTRL 0 = true) ∧ arrayOn.xqRuns 0x20 = true ∧ testRequest.tile / 8 = 0 ∧ testRequest.isFrame = false ∧
    ((arrayOn.queuedOn 0).filter fun q => q.pclass == 0).length < arrayOn.fld (Reg.GYS_CLSQ 0) 0 11 ∧
    (arrayOn.setFlag Reg.GYS_CTRL 0 false).flag Reg.GYS_CTRL 0 = false ∧ arrayOn.gys.oldBank = none ∧
    arrayOn.logical 0 = some 0 ∧ (arrayOn.ctx 0 0).used = false ∧ arrayOn.clusterRuns 0 = true ∧ arrayOn.gys.initOwed = [] ∧
    (withQueued [testRequest]).nextRequest 0 0 = some testRequest ∧ (withQueued [testRequest]).staleRequest testRequest = false ∧
    (aged (withQueued [oldRequest])).nextRequest 0 0 = some oldRequest ∧ (staleNow (withQueued [oldRequest])).staleRequest oldRequest = true ∧
    ((tileWith { testContext with th := { testThread with status := .ending (some 9) }, locks := [8] } 0).th (.tile 0 0)).status
      = .ending (some 9) ∧
    (tileT 0).lockReleases 0 8 = false ∧ ((tileT 0).wr (Reg.GYS_HDRA 16) 0xFFC00000).lockReleases 0 8 = true ∧
    (staleNow (withQueued [])).staleContext
      { testContext with th := { testThread with op := some ⟨.load 0, some 1, 0⟩, status := .waiting } } = true := by decide +kernel

/-- The hypotheses of TilesAndTimers can be met, clause by clause. -/
theorem witness_TilesAndTimers :
    arrayOn.logical 0 = some 0 ∧ 0 ∉ arrayOn.gys.coreFault ∧ arrayOn.flag (Reg.GYS_MAP 0) 28 = false ∧
    arrayOn.tileRetired 0 = false ∧ arrayOn.clusterLive 0 = true ∧ arrayOn.activeBank ≠ 3 ∧ testRequest.bank ≠ 3 ∧
    timerOn.refreshes 0 (timerOn.phys 0) = false ∧ scannerOn.timerDue 7 = true ∧ scannerOn.timerBusy 7 0 = false ∧
    scannerOn.takesCapture 0 = true ∧ scannerOn.refreshes 7 (scannerOn.phys 0) = true ∧
    (withTest 0x2000).testRuns 0x2000 0 = true ∧ (withTest 0x2000).escalates 0x2000 0 = false ∧
    (withTest 0x2000).logical 0 = some 0 ∧ (withTest 0x2000).flag (Reg.GYS_MAP 0) 28 = false ∧ (withTest 0x2000).activeBank ≠ 3 ∧
    ((withTest 0x2000).setFld (Reg.GYS_MAP 0) 0 7 8).logical 0 = none ∧
    timerOn.timerDue 0 = true ∧ timerOn.gys.pendSwitch = none ∧ timerOn.flag (Reg.GYS_TMR_CTL 0) 27 = false ∧
    timerOn.fld (Reg.GYS_TMR_CTL 0) 16 6 = 0 ∧ timerOn.flag (Reg.GYS_TMR_CTL 0) 30 = false ∧ timerOn.timerBusy 0 0 = false ∧
    timerOn.takesCapture 0 = true ∧
    ((timerOn.queuedOn 0).filter fun q => q.pclass == timerOn.fld (Reg.GYS_TMR_CTL 0) 28 2).length <
      timerOn.fld (Reg.GYS_CLSQ (timerOn.fld (Reg.GYS_TMR_CTL 0) 28 2)) 0 11 ∧
    arrayOn.opens .jtag (Reg.GYS_TMR_CTL 7 + 8) ∧ arrayOn.flag (Reg.GYS_TMR_CTL 7) 31 = false ∧
    4 ≤ bitsAt 0x0040000F 20 6 ∧ bitsAt 0x0040000F 20 6 ≤ 20 ∧ bitsAt 0x0040000F 0 20 < 2 ^ bitsAt 0x0040000F 20 6 ∧
    2 ^ bitsAt 0x00400010 20 6 ≤ bitsAt 0x00400010 0 20 ∧
    { arrayOn.gys with initOwed := [(0, 0, false)] }.initOwed.find? (fun e => e.1 == 0) = some (0, 0, false) ∧
    arrayOn.opens .jtag (Reg.GYS_MAP 63) ∧ arrayOn.flag (Reg.GYS_MAP 63) 31 = false ∧
    (arrayOn.setFlag (Reg.GYS_MAP 63) 31 true).flag (Reg.GYS_MAP 63) 31 = true ∧ arrayOn.activeBank ≠ 3 ∧
    arrayOn.opens .jtag (Reg.GYS_CLSQ 3) ∧ (arrayOn.plainWrite (Reg.GYS_CLSQ 3) 0x08040010).quotaBad = false ∧
    (arrayOn.plainWrite (Reg.GYS_CLSQ 3) 0x31000000).quotaBad = true := by decide +kernel

/-- The hypotheses of ProgramBanks can be met, clause by clause. -/
theorem witness_ProgramBanks :
    arrayOn.pdUp PD_FABRIC = true ∧ arrayOn.bankLocked 1 = false ∧ arrayOn.bankLocked 0 = true ∧
    arrayOn.partlyPoisoned memProgram (2 ^ 21 + 4 * 524287) 4 = none ∧ arrayOn.opens .jtag (Reg.GYS_HDRB 127) ∧
    arrayOn.opens .jtag Reg.GYS_BANK_CTL ∧ arrayOn.flag Reg.GYS_STATUS 4 = false ∧ arrayOn.activeBank ≠ 3 ∧
    bankReady.switchError 1 = none ∧ bankReady.opens .jtag Reg.GYS_BANK_CTL ∧ arrayOn.switchError 0 = some 0xA ∧
    { arrayOn.gys with pendSwitch := some (1, false) }.pendSwitch = some (1, false) := by decide +kernel

/-- The hypotheses of CryptoJobs can be met, clause by clause. -/
theorem witness_CryptoJobs :
    (tileAt 0x74600008).issues (.tile 0 0) encCjob longAB = true ∧
    (tileAt 0).lPermits testContext 0 0 64 true = true ∧ (tileAt 0).jobsQueued 0 = 0 ∧
    (descriptorOf (memReadBytes [] (lAddr 0 0) 64)).rangesL 8 = [(0, 32)] ∧ (tileAt 0).lPermits testContext 0 0 32 true = true ∧
    (jobsFull (tileAt 0)).jobsQueued 0 = 256 ∧
    (cryptoUp.cryptoOn = true) ∧ cryptoUp.flag Reg.CRY_STATUS 0 = true ∧ cryptoUp.nextCluster = some 0 ∧
    ((List.range 16).find? fun i => cryptoUp.pipeIdle i) = some 0 ∧ (cryptoUp.cry.queued.find? fun j => j.1 / 9 == 0) = some (0, 0) ∧
    (cryptoRun.th (.tile 0 0)).op = some ⟨.job 0 0 8, some 3, 0⟩ ∧
    (cryptoRun.cry.running.find? fun r => r.2.1 == 0 && r.2.2.1 == 0) = some (0, 0, 0, none) ∧
    cryptoRun.jobInputPoisoned 0 0 0 8 = none ∧ (descriptorOf (cryptoRun.jobL 0 0 64)).reserved = List.replicate 40 0 ∧
    (descriptorOf (cryptoRun.jobL 0 0 64)).la = 16 ∧ (descriptorOf (cryptoRun.jobL 0 0 64)).dl + 32 ≤ 2 ^ 19 ∧
    (0, 0) ∉ cryptoRun.cry.spoiled ∧ cryptoRun.flag Reg.CRY_STATUS 2 = true ∧
    cryptoRun.opens .jtag Reg.CRY_CTRL ∧ cryptoUp.flag Reg.CRY_CTRL 8 = true ∧ cryptoUp.pipeIdle 0 = true ∧
    0 * 62500000 ≤ ct96Ns cryptoUp.now ∧ cryptoUp.flag Reg.CRY_STATUS 3 = true ∧
    cryptoUp.testRuns 0x3000 0 = false ∧ cryptoUp.pd PD_CRYPTO = pdOn := by decide +kernel

/-- The hypotheses of KeysAndAnchors can be met, clause by clause. -/
theorem witness_KeysAndAnchors :
    cryptoUp.opens .jtag Reg.CRY_KCMD ∧ (∃ e, cryptoUp.loadOutcome 0 7 = .error e) ∧
    (keyIn 1).keyState 0 = 1 ∧ (∀ n : Fin 64, (keyIn 1).keyState n.val = 2 → (keyIn 1).currentSlot = some n.val) ∧
    (keyIn 2).keyState 0 = 2 ∧ (keyIn 3).keyState 0 = 3 ∧ (keyIn 4).keyState 0 = 4 ∧ (keyIn 3).cry.running = [] ∧
    cryptoUp.opens .jtag Reg.CRY_HMINT_CTL ∧ cryptoUp.flag Reg.CRY_HMINT_CTL 0 = false ∧
    ((keyIn 2).setFlag Reg.CRY_HMINT_CTL 0 true).cryptoTakes = true ∧ (keyIn 2).currentSlot = some 0 ∧
    ((List.range 16).find? fun i => (keyIn 2).pipeIdle i) = some 0 ∧ (keyIn 2).flag Reg.CRY_STATUS 3 = true ∧
    (cryptoUp.setFlag Reg.CRY_HMINT_CTL 0 true).currentSlot = none ∧ State.reset.cryptoTakes = false ∧
    cryptoUp.opens .jtag Reg.CRY_ANCH_CTL ∧ cryptoUp.flag Reg.CRY_ANCH_STAT 15 = false ∧ anchorSize 5 = some 48 ∧
    (cryptoUp.setFlag Reg.CRY_ANCH_STAT 15 true).flag Reg.CRY_ANCH_STAT 15 = true :=
  ⟨by decide +kernel, ⟨7, by rfl⟩, by decide +kernel⟩

/-- The hypotheses of SelectorCommands can be met, clause by clause. -/
theorem witness_SelectorCommands :
    selOn.opens .jtag (Reg.SEL_INJ_CTL 1) ∧ bitAt 0xC0000000 31 = true ∧
    selOn.injectRefused 1 (selOn.injection 1 0xC0000000) = false ∧
    selOn.tick < ct96ToFrac ((selOn.wr (Reg.SEL_INJ_AT_W0 1 + 8) 1).rd96 (Reg.SEL_INJ_AT_W0 1)) ∧
    selOn.opens .jtag Reg.SEL_CMD ∧ selOn.sel.aligning = none ∧ selOn.sel.wrote = none ∧
    bitAt 0x81000000 31 = true ∧ bitsAt 0x81000000 24 3 = 1 ∧ bitsAt 0x82000000 24 3 = 2 ∧ bitsAt 0x8300000F 24 3 = 3 ∧
    bitsAt 0x84000000 24 3 = 4 ∧ bitsAt 0x85000000 24 3 = 5 ∧ (selOn.setDstate dsAlign).dstate = dsAlign ∧ selOn.dstate ≠ dsAlign ∧
    selOn.cur = some 2 ∧ selOn.steers = true ∧ selOn.mode = modeAcquire ∧ selHalf.alignWindow = true ∧ selHalf.cur = some 2 ∧
    (selOn.setFlag Reg.CAL_STATUS 17 true).flag Reg.CAL_STATUS 17 = true ∧
    ((selOn.setFld (Reg.SEL_SLOT_STAT 15) 29 3 slWtr).slotState (bitsAt 0x8300000F 0 4)) = slWtr ∧
    selOn.slotState (bitsAt 0x8300000F 0 4) ≠ slWtr ∧ powered.mode = modeStaged ∧ portUp.mode ≠ modeAcquire := by decide +kernel

/-- The hypotheses of MeasurementsAndModel can be met, clause by clause. -/
theorem witness_MeasurementsAndModel :
    selOn.selFirmware = true ∧ selOn.rank 2 ≠ 0 ∧ (selOn.slot 2).seen = none ∧ selOn.rank 0 = 0 ∧
    clientOn.exchanges 5 0 = [⟨0, 10 ^ 9 * 2 ^ 16, 2 * 10 ^ 9 * 2 ^ 16, 3 * 10 ^ 9 * 2 ^ 16, 0, 0, false⟩] ∧
    selOn.freqKind 2 = false ∧ selOn.todKind 2 = false ∧
    selOn.steers = true ∧ (selOn.setDstate dsHold).dstate = dsHold ∧ selOn.sel.aid = none ∧
    (selOn.setFlag Reg.SEL_STATUS 27 true).fcur = some 0 ∧
    (((selOn.wr Reg.GCTL_STATUS 5).setDstate dsTrack).setFld Reg.SEL_STATUS 16 2 0).steers = true := by decide +kernel

/-- The hypotheses of PlacedOutputs can be met, clause by clause. -/
theorem witness_PlacedOutputs :
    ((ppsOn none).pps 3).armed = true ∧ ((ppsOn none).wr (Reg.DRY_PPS_CTL 3) 0x80400000).flag (Reg.DRY_PPS_CTL 3) 31 = true ∧
    5 % ((ppsOn none).wr (Reg.DRY_PPS_CTL 3) 0x80400000).fld (Reg.DRY_PPS_CTL 3) 22 6 = 0 ∧ ppsSoon.atLead ((5 * secUnits : Nat) : Int) = true ∧
    ppsSoon.outAllowed (ppsSoon.rd (Reg.DRY_PPS_CTL 3)) = true ∧
    ((ppsOn (some ⟨5, 0, 0, 0, 0, 0⟩)).pps 3).sent = some ⟨5, 0, 0, 0, 0, 0⟩ ∧ ((ppsOn none).pps 3).high = none ∧
    powered.opens .jtag (Reg.DRY_PPS_WIDTH 3) ∧ 1000 ≤ bitsAt 1000 0 30 ∧ bitsAt 1000 0 30 ≤ 900000000 ∧ bitsAt 999 0 30 < 1000 ∧
    powered.opens .jtag Reg.DRY_CKMON ∧ bitsAt 0x20004 16 5 = 2 ∧ 4 ≤ bitsAt 0x20004 0 16 ∧ bitsAt 0x20003 0 16 < 4 ∧
    selOn.firmwareRuns = true ∧ todOn.flag Reg.DRY_TOD_CTL 31 = true ∧ todOn.dry.todPulse = some (5, 0, false) ∧ todOn.todAllowed = true ∧
    (0 : Int) + todOn.fld Reg.DRY_TOD_CTL 0 9 * 1000000 * 2 ^ 32 ≤ (todOn.replica replicaDrypoint).count ∧
    (todOn.setFlag Reg.DRY_TOD_CTL 30 true).flag Reg.DRY_TOD_CTL 30 = true ∧
    ((uartBits [0#8]).length : Int) < (TodMessage.mk [0#8] 0 9600).begun secUnits (5 * 2 ^ 30) ∧
    (TodMessage.mk [0#8] 0 9600).begun 0 (5 * 2 ^ 30) ≤ (uartBits [0#8]).length ∧ State.reset.isolated PD_TDC = true := by decide +kernel

/-- The hypotheses of SampleClockAndInputs can be met, clause by clause. -/
theorem witness_SampleClockAndInputs :
    gnssOn.pdUp PD_GNSS_TRK = true ∧ gnssOn.sclkOk = true ∧ gnssOn.gnsRuns = true ∧ gnssOn.opens .jtag Reg.GNS_SCNT_L ∧
    gnssOn.sinEnabled 0 = true ∧ gnssOn.flag Reg.GNS_STICKY 5 = false ∧ gnssOn.sinEnabled 3 = false ∧
    0 < overCodes [(0x88#8, 1)] (fun _ => 1) ∧ sinExtreme 0 0x8 = true ∧
    (gnssOn.setFlag Reg.GNS_STICKY_EN 5 true).flag Reg.GNS_STICKY_EN 5 = true ∧
    gnssOn.opens .jtag (Reg.GNS_SIN_CTL 0) ∧ gnssOn.opens .jtag (Reg.GNS_SIN_CTL 3) ∧
    bitsAt (gnssOn.rd (Reg.GNS_SIN_CTL 0)) 29 2 ≠ 3 ∧ bitsAt (gnssOn.rd (Reg.GNS_SIN_CTL 0)) 27 2 ≠ 3 ∧
    bitAt (gnssOn.rd (Reg.GNS_SIN_CTL 0)) 31 = true ∧ gnssOn.inputInUse 3 = false ∧
    bitAt (putBit (gnssOn.rd (Reg.GNS_SIN_CTL 0)) 31 false) 31 = false ∧
    bitsAt (putBit (gnssOn.rd (Reg.GNS_SIN_CTL 0)) 31 false) 25 6 = gnssOn.fld (Reg.GNS_SIN_CTL 0) 25 6 ∧
    (trackOn chPll).inputChannels 0 = [0] ∧ (trackOn chPll).inputInUse 0 = true ∧
    bitsAt (putBit (gnssOn.rd (Reg.GNS_SIN_CTL 0)) 25 (!(gnssOn.flag (Reg.GNS_SIN_CTL 0) 25))) 25 6 ≠ gnssOn.fld (Reg.GNS_SIN_CTL 0) 25 6 ∧
    ((trackOn chPll).channel 0).state = chPll ∧
    gnssOn.opens .jtag (Reg.GNS_SIN_FREQ 3) ∧ (1100000000 : Word).toNat = 1100000000 ∧ (1700000000 : Word).toNat = 1700000000 ∧
    gnssOn.opens .jtag Reg.GNS_TPG_CTL ∧ bitAt 0xC8001400 31 = true ∧ bitsAt 0xC8001400 26 5 = 18 ∧ bitsAt 0xC8001400 8 8 = 20 ∧
    gnssOn.mode = modeStaged ∧ selOn.mode ≠ modeStaged ∧ selOn.mode ≠ modeMeasure ∧ selOn.mode ≠ modeSafe := by decide +kernel

/-- The hypotheses of CutOfMaxch can be met, clause by clause. -/
theorem witness_CutOfMaxch :
    gnssOn.opens .jtag (Reg.GNS_SIG 0) ∧ gnssOn.opens .jtag (Reg.GNS_SIG 18) ∧ bitAt 0x80000000 31 = true ∧
    bitsAt 0x80000000 29 2 = gnssOn.sigInput 0 ∧ (gnssOn.setFld (Reg.GNS_SIG 0) 16 8 0).fld (Reg.GNS_SIG 0) 16 8 ≤ 0 ∧
    gnssOn.gnssFirmware = true ∧ gnssOn.gnsRuns = true ∧
    gnssOn.fld Reg.GNS_ACQ_CFG 30 2 ≠ 2 ∧ candOn.candidate 0 12 = some ⟨0, 12, none, 30, some (2, 100), false⟩ ∧
    candOn.isNext ⟨0, 12, none, 30, some (2, 100), false⟩ = true ∧ candOn.channelFree 255 = true ∧
    (candOn.startOf ⟨0, 12, none, 30, some (2, 100), false⟩ 0 0).isSome = true := by decide +kernel

/-- The hypotheses of AcquisitionAidingAndTracking can be met, clause by clause. -/
theorem witness_AcquisitionAidingAndTracking :
    (gnssOn.gnsRuns = true ∧ ((trackOn chPll).channel 0).state = chPll ∧ ((trackOn chPll).channel 0).dumpsAt 81841 = true ∧
    ((trackOn chPll).channel 0).pending = ChannelSteer.empty ∧ (trackOn chPll).gnsClocked = true ∧
    (trackOn chPll).engineTests 0 = false ∧ (trackOn chPll).unitRetired (unitEngine 0) = false ∧ ((trackOn chPll).channel 0).commanded = false ∧
    ((List.replicate 512 (⟨0, zeroSums, 0, 4, false, true, []⟩ : DumpRecord)).filter fun q => q.channel / 64 == 0 / 64).length = 512 ∧
    (trackOn chPll).gnssFirmware = true ∧ gnssOn.flag Reg.GNS_STATUS 16 = true ∧ gnssOn.flag Reg.GNS_STATUS 31 = true ∧
    gnssOn.jobAllowed testJob = true) ∧
    ( gnssOn.sinTest testJob.input = false ∧ (jobOn false).gns.job = some (testJob, false) ∧
    (jobOn true).gns.job = some (testJob, true) ∧ gnssOn.opens .jtag Reg.GNS_AID_CTL ∧ bitAt 0x80000008 31 = true ∧
    bitsAt 0x80000008 0 17 = 8 ∧ bitsAt 0x80010000 0 17 = 65536 ∧ gnssOn.gns.aiding = none ∧ gnssOn.flag Reg.GNS_CTRL 0 = true ∧
    aidOn.gns.aiding = some 16 ∧ parseAid (16 / 8 + 1) (aidOn.aidBytes 16) = ([(1, 0, 0, [100, 0, 0, 0, 0, 0, 0, 0])], 0) ∧
    (List.replicate 1024 (0 : Byte)).length = (0 : Byte).toNat + 256 * (4 : Byte).toNat) := by
  exact ⟨by decide +kernel, by decide +kernel⟩

/-- The hypotheses of BurstsInDormant can be met, clause by clause. -/
theorem witness_BurstsInDormant :
    (burstOn false).burstDue = true ∧ (burstOn false).burstOffset ≤ ct96Ns (burstOn false).now + (burstOn false).burstWarm ∧
    (burstOn false).burstOffset ≤ ct96Ns (burstOn false).now ∧ (burstOn true).burstOver = true ∧
    ct96Ns (burstOn false).now < ((burstOn false).setFld Reg.GNS_BURST 24 8 1).burstOffset ∧
    sparseWf (fun _ => Channel.reset) (burstOn false).gns.channels = true ∧ ((burstOn true).channel 0).state = chBurst ∧
    ((burstOn true).channel 0).low = 0 ∧ ((burstOn true).channel 1).low = 2 ∧ ((burstOn true).channel 1).state = chBurst := by decide +kernel

/-- The hypotheses of NavigationAndOsnma can be met, clause by clause. -/
theorem witness_NavigationAndOsnma :
    navOn.gnsRuns = true ∧ navOn.gnssFirmware = true ∧ navOn.gns.near = some (0, 0) ∧ navOn.usedSats testSol = [] ∧
    (0 : Nat) &&& failMask = 0 ∧ navOn.opens .jtag (Reg.GNS_FIX 0) ∧ navOn.nav.fix.length = 16 ∧ navOn.opens .jtag Reg.GNS_QERR_SEC ∧
    navOn.nav.pulse = some (5, -3, 0) ∧ navOn.pulseDue 0 = true ∧ navOn.opens .jtag Reg.GNS_NAV_CTL ∧
    bitsAt (navOn.rd Reg.GNS_NAV_CTL) 30 2 ≠ 3 ∧ bitsAt (navOn.rd Reg.GNS_NAV_CTL) 28 2 ≠ 3 ∧ bitsAt (navOn.rd Reg.GNS_NAV_CTL) 8 8 ≤ 60 ∧
    navOn.opens .jtag Reg.GNS_NAV_CMD ∧ bitAt 0x81000000 31 = true ∧ bitsAt 0x81000000 24 2 = 1 ∧ bitsAt 0x82000000 24 2 = 2 ∧
    bitsAt 0x83000000 24 2 = 3 ∧ navOn.nav.pmode = 1 ∧ (navOn.setFld Reg.GNS_NAV_CTL 30 2 2).fld Reg.GNS_NAV_CTL 30 2 = 2 ∧
    navOn.fld Reg.GNS_NAV_CTL 30 2 ≠ 2 ∧ navOn.fixedPosition = (0, 0, 0) ∧
    (navOn.setFld Reg.GNS_OSNMA 30 2 3).fld Reg.GNS_OSNMA 30 2 = 3 ∧ navOn.osnmaOn = true ∧ navOn.osnmaTime = true ∧
    navOn.osnmaState ≠ osnmaAlert ∧ navOn.osnmaUnits = true ∧
    (OsnmaChain.mk 0 false [] [] 0 0 0 false 20).accepts 0 [] = true ∧
    (OsnmaChain.mk 0 false [] [] 0 0 0 false 20).verifies [] ⟨9, 0, 0, [], []⟩ = false ∧
    (OsnmaChain.mk 0 false [] [] 0 0 0 false 0).verifies [] ⟨9, 0, 0, [], []⟩ = true ∧ navOn.nav.chain = none ∧ navOn.satAuth 1 9 ≠ authFailed := by decide +kernel

/-- The hypotheses of StampsGatesAndUnits can be met, clause by clause. -/
theorem witness_StampsGatesAndUnits :
    ((grvOn 0).grvArmed 0 = true ∧ (grvOn 0).grvMode 0 = 0 ∧ (grvOn 0).grvSlope 0 = 2 ∧ ((grvOn 0).grvCh 0).seq = 0 ∧
     ((grvOn 0).grvCh 0).fifo.length < 4096 ∧ ((grvOn 0).grvCh 0).last = none ∧ (grvOn 4).grvMode 0 = 4 ∧
     (grvOn 4).fld (Reg.GRV_CH_CTL 0) 0 12 ≤ ((grvOn 4).grvCh 0).taken ∧
     (((grvOn 0).setGrvCh 0 { (grvOn 0).grvCh 0 with last := some (2 * secUnits) }).grvCh 0).last = some (2 * secUnits) ∧
     (grvOn 0).grvRaw 2 31 < 2 * secUnits + 2 * 2 ^ 32 ∧
     (grvOn 0).grv.tick.1 = ((grvOn 0).replica replicaGraver).count ∧ (grvOn 0).pdUp PD_TDC = true ∧ (grvOn 0).grv.gates = [] ∧
     (grvOn 1).grvMode 0 = 1 ∧ (grvOn 1).fld (Reg.GRV_CH_CTL 0) 22 2 = 0 ∧ (grvOn 1).grvArmed 0 = true ∧ (grvOn 3).grvMode 0 = 3 ∧
     (grvOn 3).grvWaits 0 = true ∧ ct96ToFrac ((grvOn 3).rd96 (Reg.GRV_CH_WSTOP_W 0 0)) ≤ (grvOn 3).grvBase ((grvOn 3).onLo 0)) ∧
    (grvOn 0).opens .jtag (Reg.GRV_CH_POP_W 0 0) ∧ ownsGrv ((grvOn 0).grvHost 0) .jtag = true ∧
     ownsGrv ((grvOn 0).grvHost 0) (.sc 6) = false ∧ (grvOn 0).opens (.sc 6) (Reg.GRV_CH_POP_W 0 0) ∧
     (grvOn 0).opens .jtag (Reg.GRV_CH_CTL 1) ∧ (grvOn 0).grvMayWrite .jtag 1 0xC0000000 = true ∧ (grvOn 0).grvEn 1 = false ∧
     bitsAt 0xC0000000 28 2 ≠ 3 ∧ bitsAt 0xC0000000 24 3 < 5 ∧ bitsAt 0xC3000000 24 3 = 3 ∧
     (grvOn 0).windowOk 1 (bitAt 0xC3000000 30 && bitAt 0xC3000000 27) = false ∧ bitAt 0x40010000 16 = true ∧
     bitAt 0x40010000 31 = false ∧ (grvOn 0).grvHost 8 = false ∧ bitAt 0x40000000 30 = true ∧ (grvOn 0).benchMode = true ∧
     selOn.benchMode = false ∧ (grvOn 0).opens .jtag (Reg.GRV_CH_THR 0) ∧ (grvOn 0).grvEn 0 = true ∧
     (grvOn 0).flag Reg.GRV_CTRL 0 = true ∧ (grvOn 0).pllReady pllF = true ∧ (List.replicate 64 16384).length = 64 ∧
     (List.replicate 64 16384).sum = 2 ^ 20 ∧ (grvOn 0).opens .jtag Reg.GRV_LOINC_H ∧
     (grvOn 0).unitEn 7 = true ∧ (grvOn 0).unitEnd 7 ≤ (grvOn 0).grvBase ((grvOn 0).onLo ((grvOn 0).unitCh 7)) ∧
     (grvOn 0).opens .jtag (Reg.GRV_REG_N 7) ∧ ((grvOn 0).grvUnit 7).result.length = 7 := by
  exact ⟨by decide +kernel, by decide +kernel⟩

/-- The hypotheses of OwnersOfSlotsAndPorts can be met, clause by clause. -/
theorem witness_OwnersOfSlotsAndPorts :
    bneOn.opens (.sc 0) (Reg.BNE_OPMEM 6143) ∧ isHost (.sc 0) = false ∧ bneOn.slotBusy 23 = false ∧
    bneOn.opens .jtag (Reg.BNE_OPMEM 6144) ∧ bneOn.opens .jtag (Reg.BNE_OPMEM 8191) ∧ isHost .jtag = true ∧
    bneOn.opens .jtag (Reg.BNE_OPMEM 0) ∧ bneOn.opens .jtag (Reg.BNE_P_CMD0 0) ∧ bneOn.opens .jtag (Reg.BNE_P_TIME 0) ∧
    bneOn.opens (.sc 7) (Reg.BNE_P_RES 1) ∧ bneOn.opens .jtag (Reg.BNE_P_CMD1 1) := by decide +kernel

/-- The hypotheses of BigNumberCommands can be met, clause by clause. -/
theorem witness_BigNumberCommands :
    (bneOn.opens .jtag (Reg.BNE_P_CMD0 1) ∧ bneOn.opens (.sc 0) (Reg.BNE_P_CMD0 0) ∧ bneOn.flag (Reg.BNE_P_RES 0) 31 = false ∧
     bneOn.flag Reg.BNE_CTRL 0 = true ∧ bneOn.pd PD_BNE = pdOn ∧ bneOn.uValid = true ∧
     (⟨0, (bneOn.plainWrite (Reg.BNE_P_CMD0 0) 0x88001000).rd (Reg.BNE_P_CMD0 0), bneOn.rd (Reg.BNE_P_CMD1 0)⟩ : BneCommand).wellFormed = true ∧
     (bneOn.setFlag (Reg.BNE_P_RES 1) 31 true).flag (Reg.BNE_P_RES 1) 31 = true ∧ bneOn.bne.running = none ∧
     PD_BNE ∉ bneOn.cpm.inReset ∧ ((bneWith [testMod 1, testMod 0] none).bne.pending.find? fun d => d.port == 0) = some (testMod 0) ∧
     (∀ d ∈ (bneWith [testMod 1] none).bne.pending, d.port ≠ 0) ∧ powered.uValid = false ∧ (testMod 0).inRom = false) ∧
    (bneWith [] (some (testMod 0, false))).bneValidate (testMod 0) = some 3 ∧
     (bneOdd).bneValidate (testMod 0) = none ∧ bneOdd.bnePoisoned (testMod 0) = none ∧ (testMod 0).op ≠ 0xF ∧
     (bneOdd.bneResult (testMod 0)).2 = some (0, 1) ∧ (5 : Nat) < 2 ^ 3 ∧ Nat.gcd 3 7 = 1 ∧
     bneOn.opens (.sc 1) (Reg.BNE_UHDR 63) ∧ bneOn.opens (.sc 1) (Reg.BNE_UCODE 16383) := by
  exact ⟨by decide +kernel, by decide +kernel⟩

/-- The hypotheses of EventsAndTheEndpoint can be met, clause by clause. -/
theorem witness_EventsAndTheEndpoint :
    ((rais 15 0xE0000005).raised = [⟨15, 1, 2⟩] ∧ (rais 15 0xE0000005).pdUp PD_FABRIC = true ∧ (rais 15 0xE0000005).flag Reg.EVT_CTRL 0 = true ∧
     (rais 15 0xE0000005).flag (Reg.EVT_SRC 15) 31 = true ∧ (rais 15 0xE0000005).flag (Reg.EVT_SRC 15) 29 = true ∧
     (rais 15 0xE0000005).flag (Reg.EVT_SRC 15) 30 = true ∧ (rais 15 0xE0000005).pdUp PD_PCIE = true ∧
     (rais 15 0xE3000005).fld (Reg.EVT_SRC 15) 24 2 = 3 ∧ ((rais 15 0xE0000005).ring 64).st = ringRun ∧
     ((rais 15 0xE3000005).ring 67).st = ringDisabled ∧ (rais 15 0x05).flag (Reg.EVT_SRC 15) 31 = false ∧
     (rais 255 0xE0000005).raised = [⟨255, 1, 2⟩] ∧ (withPd (rais 15 0) PD_FABRIC pdOff).pdUp PD_FABRIC = false ∧
     hostOn.vecMaySend 127 = true ∧ (hostOn.setPending 127 true).vecPending 127 = true ∧ hostOn.vecWaits 127 = false ∧
     hostOn.endpointUp = true ∧ hostOn.pcie.linkUp = true ∧ hostOn.pcie.perst = false ∧ State.reset.pcie.linkUp = false ∧
     hostOn.poisoned memPool (4 * 12582911) 4 = none ∧ hostOn.partlyPoisoned memPool (4 * 0) 4 = none ∧
     (withPd hostOn PD_FABRIC pdOff).endpointUp = true ∧ (withPd hostOn PD_FABRIC pdOff).pdUp PD_FABRIC = false) ∧
    eventDue.nextClass = some 0 ∧ eventDue.nextRing 0 = some 64 ∧ (eventDue.ring 64).events = [⟨0, 15, 1, 2, none⟩] ∧
     eventDue.translate (eventDue.slotDa 64 (eventDue.ringProd 64)) true = .inl 0 ∧
     (eventDue.wr (Reg.DMA_WIN_CTL 0) 0).translate (eventDue.slotDa 64 (eventDue.ringProd 64)) true = .inr 1 ∧
     (eventDue.wr (Reg.DMA_WIN_CTL 0) 0).nextClass = some 0 ∧ (eventDue.wr (Reg.DMA_WIN_CTL 0) 0).nextRing 0 = some 64 := by
  exact ⟨by decide +kernel, by decide +kernel⟩

/-- The hypotheses of RingsAndTransfers can be met, clause by clause. -/
theorem witness_RingsAndTransfers :
    (dmaOn.opens .jtag (ringReg 63 0x0C) ∧ dmaOn.opens .jtag (ringReg 67 0x10) ∧ upDue.net.toHost = [testUp] ∧ upDue.endpointUp = true ∧
     (upDue.ring 0).st ≠ ringDisabled ∧ upDue.admissible 0 = true ∧ (ringWith 0 { ringUp with posted := some testPosted }).ringState 0 = ringRun ∧
     postedBad testPosted = false ∧ testUp.frame.bytes.length ≤ ofLeBytes ((testPosted.drop 8).take 2) ∧ testUp.frame.poison = [] ∧
     postedBad (List.replicate 32 0) = true ∧ 64 < (List.replicate 65 (0 : Byte)).length ∧
     ofLeBytes ((testPosted.drop 8).take 2) = 64 ∧ (ringWith 0 ringUp).ringProd 0 ≠ (ringWith 0 ringUp).ringCons 0 ∧ ringUp.up = [testUp] ∧
     ringUp.posted = none ∧ (ringWith 32 ringDown).admissible 32 = true ∧ (ringWith 32 ringDown).ringState 32 = ringRun ∧ (ringWith 32 ringDown).cellsFree (frameCells 0) = true ∧
     ringDown.down = [⟨0, List.replicate 32 0, false, none⟩] ∧ (ringWith 63 { ringDown with down := [] }).ringProd 63 ≠ 0) ∧
    (((List.replicate 11 (0 : Byte) ++ [4]).drop 11).take 1 = [4] ∧ (4 : Nat).testBit 2 = true ∧ dmaOn.opens .jtag (ringReg 67 0x08) ∧
     bitsAt 0x20000006 0 5 = 6 ∧ bitsAt 0x20000006 28 2 ≠ 0 ∧ dmaOn.ringLog 0 = 6 ∧ (dmaOn.ring 67).st = ringDisabled ∧
     (chunkOn 0 true).nextClass = some 2 ∧ (chunkOn 0 true).nextRing 2 = some 0 ∧ (chunkOn 0 true).translate 0 true = .inl 0 ∧
     (chunkOn 0 false).nextRing 2 = some 0 ∧ (chunkOn 0 false).translate 0 false = .inl 0 ∧
     (chunkOn 0 true).chunkLength ⟨2, true, 0, 300, 0, 0, [], 0⟩ = 128 ∧ (chunkOn 200 true).chunkLength ⟨2, true, 0, 300, 200, 0, [], 0⟩ = 100 ∧
     ((chunkOn 0 true).wr (Reg.DMA_WIN_CTL 0) 0).translate 0 true = .inr 1 ∧ ((chunkOn 0 true).wr (Reg.DMA_WIN_CTL 0) 0).nextRing 2 = some 0) ∧
    dmaOn.opens .jtag (ringReg 0 0x1C) ∧ (ringWith 0 { ringUp with st := ringFault }).ringState 0 = ringFault ∧
     (ringWith 0 ringUp).ringState 0 ≠ ringFault ∧ dmaOn.opens .jtag (Reg.DMA_WIN_CTL 63 + 4 * 3) ∧ dmaOn.windowBad 63 0x80000000 = true ∧
     dmaOn.windowBad 63 0x800C0000 = false := by
  exact ⟨by decide +kernel, by decide +kernel, by decide +kernel⟩

/-- The hypotheses of InputsClocksAndDomains can be met, clause by clause. -/
theorem witness_InputsClocksAndDomains :
    ((List.range 4).all (fun i => cpmOn.flag Reg.CPM_STATUS (okBit i)) = true ∧ cpmOn.monitors = true ∧ cpmOn.mode ≠ modeReset ∧
     (cpmOn.wr Reg.CPM_STATUS 0).flag Reg.CPM_STATUS (okBit 3) = false ∧ (cpmOn.wr Reg.CPM_STATUS 0).monitors = true ∧
     cpmOn.pllUsed 12 = false ∧ cpmOn.pllUsed 11 = true ∧ pllInput 11 = some 3 ∧ cpmOn.pllReady 11 = true ∧
     cpmOn.flag Reg.CPM_PLL (16 + 11) = false ∧ (cpmOn.wr Reg.CPM_PLL 0x8000000).pllReady 11 = false ∧ cpmOn.refGood 11 = true ∧
     (cpmOn.wr Reg.CPM_PLL 0x8000000).pllUsed 11 = true ∧ cpmOn.cpm.level = none ∧
     cpmOn.opens .jtag Reg.CPM_CLKSEL ∧ cpmOn.flag Reg.CPM_CLKSEL 0 = false ∧ cpmOn.flag Reg.CPM_CLKSEL 4 = false ∧
     cpmOn.opens (.sc 0) Reg.CPM_CLKSEL ∧ cpmOn.opens (.sc 7) Reg.CPM_CLKSEL) ∧
    (cpmOn.opens .jtag (Reg.CPM_PD_CTL 20) ∧ controls .jtag = true ∧ fixedDomain 20 = false ∧ fixedDomain 2 = false ∧ fixedDomain 19 = true ∧
     cpmOn.opens .jtag (Reg.CPM_PD_CTL 19) ∧ cpmOn.pd 20 = pdOn ∧ cpmOn.clkoff 20 = false ∧ (cpmOn.setEn 20 true).pdEn 20 = true ∧
     (withPd cpmOn 20 pdGated).pd 20 = pdGated ∧ cpmOn.opens (.sc 7) (Reg.CPM_PD_CTL 20) ∧
     ((cpmOn.setEn 20 true).setFlag (Reg.CPM_PD_CTL 20) 29 true).clkoff 20 = true ∧
     (withCpm cpmOn { cpmOn.cpm with closing := [20] }).cpm.closing = [20] ∧ cpmOn.flag Reg.REL_LOG_CTRL 31 = true ∧
     cpmOn.fld Reg.REL_LOG_CTRL 24 3 = 0 ∧ (withPd cpmOn 20 pdOff).pd 20 = pdOff ∧ (withPd cpmOn 20 pdRequested).pd 20 = pdRequested ∧
     (withPd cpmOn 20 pdPoweringUp).pd 20 = pdPoweringUp) ∧
    ((withPd (cpmOn.wr (Reg.PRT_CTRL 0) 1) 15 pdRequested).refusal 15 = 1 ∧ (withPd (cpmOn.wr (Reg.PRT_CTRL 0) 1) 15 pdRequested).forced 15 = false ∧
     (withPd cpmOn 19 pdRequested).delays 19 = true ∧ (withPd cpmOn 20 pdRequested).delays 20 = false ∧
     (withPd cpmOn 20 pdRequested).refusal 20 = 0 ∧
     (withPd (withQueued [testRequest]) 2 pdRequested).delays 2 = true ∧ (withPd (withQueued [testRequest]) 2 pdRequested).pd 2 = pdRequested ∧
     (withPd cpmOn 20 pdShuttingDown).pd 20 = pdShuttingDown ∧ ((withPd cpmOn 20 pdShuttingDown).setEnPending 20 true).flag (Reg.CPM_PD_CTL 20) 27 = true) ∧
    ((withPd cpmOn 9 pdPoweringUp).awaitsSlot 9 = true ∧ powerOrder.find? (withPd cpmOn 9 pdPoweringUp).awaitsSlot = some 9 ∧
     (rising 20 1).upStage 20 = 1 ∧ (rising 20 1).pd 20 = pdPoweringUp ∧ (rising 20 1).clockReady 20 = true ∧
     (rising 1 1).clockReady 1 = true ∧ (rising 20 2).upStage 20 = 2 ∧
     (withCpm (rising 20 2) { (rising 20 2).cpm with owed := [(20, true)] }).upStage 20 = 2 ∧
     20 ∈ (withCpm cpmOn { cpmOn.cpm with inReset := [20] }).cpm.inReset ∧
     ((cpmOn.setXq 0x49 2 5).xq 0x49).1 ≠ 0 ∧ cpmOn.sideUp PD_PAIR = true ∧ cpmOn.sideUp PD_FABRIC = true) := by
  exact ⟨by decide +kernel, by decide +kernel, by decide +kernel, by decide +kernel⟩

/-- The hypotheses of LevelsTemperaturesAndDormant can be met, clause by clause. -/
theorem witness_LevelsTemperaturesAndDormant :
    (cpmOn.opens .jtag Reg.CPM_PLEVEL ∧ bitsAt 0x00140003 16 8 = 20 ∧ bitsAt 0x00140003 0 2 = 3 ∧ cpmOn.pcur = 0 ∧ cpmOn.arrayRising = false ∧
     cpmOn.arrayOn = true ∧ (cpmOn.setFld Reg.CPM_PLEVEL 4 2 3).pcur = 3 ∧ (atPhase 2 none).cpm.level = some ⟨0, true, 2, none⟩ ∧
     (atPhase 2 none).peff = 0 ∧ (atPhase 0 none).arrayOn = true ∧ (atPhase 0 (some false)).cpm.level = some ⟨0, true, 0, some false⟩ ∧
     (cpmOn.wr Reg.CPM_THERM 0x7D695A00).junction < 125 * 256 ∧ (cpmOn.wr Reg.CPM_THERM 0x7D695A00).fld Reg.CPM_THERM 24 8 = 125 ∧
     ((cpmOn.wr Reg.CPM_THERM 0x7D695A00).wr (Reg.CPM_TEMP 0) 0x7D000001).junction = 125 * 256 ∧
     ((cpmOn.wr Reg.CPM_THERM 0x7D695A00).wr (Reg.CPM_TEMP 0) 2).flag (Reg.CPM_TEMP 0) 1 = true ∧
     cpmOn.pd (PD_ARRAY 7) = pdOn ∧ cpmOn.cpm.tripped = false) ∧
    (2 ≤ cpmOn.mode ∧ (38400 : BitVec 16).toInt = -27136 ∧ (0x9600 : BitVec 16).toNat = 38400 ∧
     (cpmOn.setFlag (Reg.CPM_TSCFG 1) 31 true).flag (Reg.CPM_TSCFG (2 - 1)) 31 = true ∧ cpmOn.flag (Reg.CPM_I2C_CTL 0) 31 = true ∧
     (cpmOn.setFlag (Reg.CPM_I2C_CTL 0) 31 false).flag (Reg.CPM_I2C_CTL 0) 31 = false ∧ cpmOn.flag (Reg.CPM_TEMP 2) 1 = false ∧
     i2cOn.opens .jtag (Reg.CPM_I2C_XFER 1) ∧ i2cOn.ownsI2c 1 .jtag = true ∧ cpmOn.ownsI2c 1 .jtag = false ∧
     i2cOn.flag (Reg.CPM_I2C_CTL 1) 31 = true ∧ bitAt 0x80550808 31 = true ∧ bitsAt 0x80550808 8 4 = 8 ∧ bitsAt 0x80550808 0 4 = 8 ∧
     i2cOn.flag (Reg.CPM_I2C_STAT 1) 31 = false ∧
     (withCpm i2cOn { i2cOn.cpm with transfers := [(1, 0x80550808)] }).cpm.transfers.find? (·.1 == 1) = some (1, 0x80550808) ∧
     i2cFits 8 (.done (List.replicate 8 5)) = true ∧ i2cFits 8 (.nack []) = true) ∧
    (cpmOn.opens .jtag (Reg.CPM_WAKE_W 2) ∧ ct96Valid (0 : CT96) = true ∧ withinCf64 0 cpmOn.now = true ∧
     ct96Valid (BitVec.ofNat 96 (2 ^ 48 - 1)) = false ∧
     sleepy.gctl.slept = some (3, 0) ∧ sleepy.commandRuns = true ∧ sleepy.cpm.level = none ∧ sleepy.bneIdle = true ∧ sleepy.mode = modeStaged ∧
     slept.mode = modeDormant ∧ slept.wakeCode .loLoss = 3 ∧ slept.gctl.slept = some (3, 0) ∧ (slept.setEn 20 true).pdEn 20 = true ∧
     slept.pd 20 = pdOff) := by
  exact ⟨by decide +kernel, by decide +kernel, by decide +kernel⟩

/-- The hypotheses of SuppliesResetsAndBoot can be met, clause by clause. -/
theorem witness_SuppliesResetsAndBoot :
    (offOn.mode = modeOff ∧ State.reset.mode = modeReset ∧ State.reset.gctl.por = true ∧ State.reset.gctl.resetN = false ∧ cpmOn.mode ≠ modeOff ∧
     cpmOn.gctl.command = none ∧ { cpmOn with gctl := { cpmOn.gctl with resetN := true } }.gctl.resetN = true ∧
     { State.reset with gctl := { State.reset.gctl with resetN := true, por := false } }.mode = modeReset ∧
     cpmOn.opens .jtag Reg.GCTL_RESET ∧ controls .jtag = true ∧ modeBoot ≤ cpmOn.mode ∧ cpmOn.pdUp PD_PCIE = true ∧
     cpmOn.opens (.sc 7) Reg.GCTL_RESET ∧ (bootAt 0).mode = modeBoot ∧ (bootAt 0).bootStage = 0 ∧ (bootAt 0).bootKind = 0 ∧
     ((bootAt 0).wr Reg.GCTL_BOOT 0x6C0).bootKind = 1 ∧ (withPd (bootAt 0) PD_BNE pdOff).pd PD_BNE = pdOff ∧
     (bootAt 0).flag Reg.CRY_ANCH_STAT 0 = false ∧
     { State.reset with gctl := { State.reset.gctl with por := false } }.resetOver = true) ∧
    ((bootAt 2).bootStage = 2 ∧ (bootAt 2).pdUp PD_FABRIC = true ∧ (bootAt 3).bootStage = 3 ∧ (bootAt 3).mode = modeBoot ∧
     (minOf 5).chooseFirmware (some ⟨5, [], []⟩) none = some (0, ⟨5, [], []⟩) ∧ (minOf 5).bootStage = 3 ∧
     (minOf 5).fuse.firmwareMin ≤ (⟨6, [], []⟩ : Firmware).version.toNat ∧ (⟨4, [], []⟩ : Firmware).version.toNat < (minOf 5).fuse.firmwareMin ∧
     (minOf 5).chooseFirmware none none = none) ∧
    ((bootAt 4).bootStage = 4 ∧ (bootAt 4).microcodeOutcome.chooseSlot = (none, 0x0101) ∧ (bootAt 4).pdUp PD_FABRIC = true ∧
     (bootAt 4).regs.all (fun e => !isFactory e.1) = true ∧
     slotted.bootStage = 4 ∧ slotted.pdUp PD_FABRIC = true) ∧ slotted.microcodeOutcome.chooseSlot = (some 1, 0x0001) ∧
    (recordPairs ((slotRecords (slotted.slotLength 1) (slotted.slotBody 1)).getD []) = []) ∧
    ((bootAt 6).bootStage = 6 ∧ (bootAt 6).notReady = [] ∧ ((withPd (bootAt 6) 20 pdOff).setEn 20 true).notReady ≠ [] ∧
     ((withPd (bootAt 6) 20 pdOff).setEn 20 true).pdUp PD_FABRIC = true ∧ (bootAt 6).gctl.anchors = [] ∧
     (bootAt 6).accessOutcome 0xEFFFFC = .unmapped ∧ (bootAt 7).bootStage = 7 ∧ (bootAt 7).gctl.post = [] ∧ (bootAt 7).gctl.causes = [] ∧
     ((bootAt 7).setFlag Reg.GCTL_BOOT 12 true).flag Reg.GCTL_BOOT 12 = true ∧ (bootAt 7).role ≠ roleStandby ∧ (bootAt 7).bootKind ≠ 2) := by
  exact ⟨by decide +kernel, by decide +kernel, by decide +kernel, slotted_chosen, slotted_records, by decide +kernel⟩

/-- The hypotheses of ModesFlashAndFuses can be met, clause by clause. -/
theorem witness_ModesFlashAndFuses :
    (cpmOn.opens .jtag Reg.GCTL_MODECMD ∧ sleepy.commandRuns = true ∧ sleepy.opens .jtag Reg.GCTL_MODECMD ∧ cpmOn.commandRuns = false ∧
     (bootAt 6).mode = modeBoot ∧ (bootAt 6).opens .jtag Reg.GCTL_MODECMD ∧ (bootAt 6).commandRuns = false ∧ cpmOn.mode = modeStaged ∧
     cpmOn.role ≠ roleStandby ∧ (cpmOn.setFld Reg.PAR_STATUS 30 2 3).role = roleStandby ∧ (inMode 7).answersClients = true ∧
     (inMode 10).mode = modeMeasure ∧ (inMode 7).opens .jtag Reg.GCTL_MODECMD ∧ cpmOn.gctl.rom = false ∧ (inMode 11).mode = modeSafe ∧
     (inMode 11).present = 0 ∧ ((inMode 11).wr Reg.CPM_PLL 0).present ≠ 0 ∧ romOn.mode = modeSafe ∧ romOn.gctl.rom = true ∧
     romOn.opens .jtag Reg.GCTL_MODECMD ∧ romOn.commandRuns = false ∧ romOn.pdUp PD_BNE = true ∧ (cpmOn.dropDomain PD_BNE).pdUp PD_BNE = false ∧ (4194304 : BitVec 24).toNat = 4194304 ∧
     (⟨6, [], []⟩ : Firmware).version.toNat = 6) ∧
    (cpmOn.opens .jtag Reg.GCTL_FLASH_CTL ∧ (4096 : BitVec 13).toNat = 4096 ∧ cpmOn.slotTaken 0x1000000 1 = false ∧
     (cpmOn.wr Reg.GCTL_BOOT 0x100).slotTaken 0x2000000 1 = true ∧ (flashRuns 1).gctl.command = some (1, 0x1FFFFFF, 4096) ∧
     (flashRuns 2).gctl.command = some (2, 0x1FFFFFF, 4096) ∧ (flashRuns 2).gctl.flash = [] ∧
     (flashRuns 3).gctl.command = some (3, 0x1FFFFFF, 4096)) ∧
    (cpmOn.opens .jtag Reg.GCTL_OFUSE_CTL ∧ cpmOn.fuse.programmed 1 = false ∧ cpmOn.fuse.programmed 3 = false ∧
     { cpmOn with fuse := { cpmOn.fuse with sigReq := true } }.fuse.programmed 3 = true ∧ (inMode 7).mode ≠ modeStaged ∧
     (inMode 7).mode ≠ modeSafe ∧ (inMode 7).opens .jtag Reg.GCTL_OFUSE_CTL) := by
  exact ⟨by decide +kernel, by decide +kernel, by decide +kernel⟩

/-- The hypotheses of ErrorsWatchdogsAndLog can be met, clause by clause. -/
theorem witness_ErrorsWatchdogsAndLog :
    (relOn.flag Reg.REL_SCRUB 23 = true ∧ relOn.scrubs 1 0x23FFFFF = true ∧ relOn.scrubs 6 8 = true ∧ relOn.poisoned 1 0x23FFFF8 8 = none ∧
     { relOn with rel := { relOn.rel with poison := [(2, 8)] } }.poisoned 2 (15 / 8 * 8) 8 = some 8 ∧
     (withTest 0x4011).testRuns 0x4011 0 = true ∧ (withTest 0x4011).escalates 0x4011 0 = false ∧ (withTest 0x2047).testRuns 0x2047 0 = true ∧
     unitTile 71 = 0x2047 ∧ (withTest 0x300F).testRuns 0x300F 0 = true ∧ unitPipe 15 = 0x300F ∧ (withTest 0x500F).testRuns 0x500F 0 = true ∧
     unitEngine 15 = 0x500F ∧ unitLane 17 = 0x4011 ∧ (withTest 0x1002).testRuns 0x1002 0 = true ∧ unitRow 2 = 0x1002 ∧
     (withTest 0x1002).rel.spares = [] ∧ { relOn with rel := { relOn.rel with waiting := [(0x4000, 0)] } }.rel.waiting = [(0x4000, 0)] ∧
     relOn.opens .jtag (Reg.REL_RET_TILE 2) ∧ relOn.opens .jtag Reg.REL_RET_LANE ∧ relOn.lanesOf 15 = [15] ∧ relOn.laneRetired 17 = false) ∧
    (relOn.opens (.sc 7) Reg.REL_WDG_KICK ∧ relOn.opens .jtag Reg.REL_WDG_KICK ∧ (dogOn 7 false).wdgRuns 7 = true ∧
     (dogOn 7 false).wdgExpired 7 = false ∧ ((dogOn 7 false).core 7).stopped = false ∧ ((dogOn 7 true).core 7).stopped = true ∧
     ((dogOn 7 true).wr (Reg.REL_WDG_CFG 2) 100).wdgAction 7 = 0 ∧ ((dogOn 7 false).setFlag Reg.REL_WDG_STAT 7 true).wdgExpired 7 = true ∧
     ((dogOn 7 false).setFlag Reg.REL_WDG_STAT 7 true).wdgActed 7 = false ∧ (dogOn 7 false).wdgAction 7 = 1 ∧ (dogOn 0 false).wdgAction 0 = 2 ∧
     ((dogOn 0 false).wr (Reg.REL_WDG_CFG 0) 0xC0000064).wdgAction 0 = 3 ∧ (dogOn 0 false).wdgRuns 0 = true) ∧
    (relOn.opens (.sc 0) (Reg.REL_LOG_IN 4) ∧ relOn.opens .jtag (Reg.REL_LOG_IN 4) ∧ relOn.flag Reg.REL_LOG_CTRL 31 = true ∧
     relOn.logWait.length < 16 ∧ (relOn.wr Reg.REL_LOG_CTRL 0x82000000).fld Reg.REL_LOG_CTRL 24 3 = 2 ∧ (relOn.logInput 0).severity = 0 ∧
     { relOn with logWait := List.replicate 16 testEntry }.logWait.length = 16 ∧ { relOn with logWait := [testEntry] }.logWait = [testEntry] ∧
     modeBoot ≤ relOn.mode ∧ relOn.logHeld = 0 ∧ (relOn.wr Reg.REL_LOG_HEAD 65535).logHeld = 65535 ∧
     (relOn.wr Reg.REL_LOG_HEAD 65536).logHeld = 65536 ∧ (relOn.wr Reg.REL_LOG_CTRL 0xC0000000).flag Reg.REL_LOG_CTRL 30 = true ∧
     relOn.flag Reg.REL_LOG_CTRL 30 = false ∧ relOn.rel.full = true) ∧
    (relOn.opens .jtag Reg.REL_LOG_CTRL ∧ relOn.fld Reg.REL_LOG_CTRL 24 3 ≤ 4 ∧ logged.opens .jtag (Reg.REL_LOG_DATA 0) ∧
     (logged.rd Reg.REL_LOG_SEL - logged.rd Reg.REL_LOG_TAIL).toNat < logged.logHeld ∧ logged.poisoned memLog (0 % 65536 * 32) 32 = none ∧
     logged.rel.log.find? (fun x => x.1 == (logged.rd Reg.REL_LOG_SEL).toNat) = some (0, 7, testEntry) ∧
     relOn.logHeld ≤ (relOn.rd Reg.REL_LOG_SEL - relOn.rd Reg.REL_LOG_TAIL).toNat) := by
  exact ⟨by decide +kernel, by decide +kernel, by decide +kernel, by decide +kernel⟩

/-- The hypotheses of LivenessTakeoverAndFencing can be met, clause by clause. -/
theorem witness_LivenessTakeoverAndFencing :
    (pairOn.opens .jtag Reg.PAR_CTRL ∧ bitAt 0x800A0000 31 = pairOn.pairEn ∧ bitAt 0x000A0000 31 ≠ pairOn.pairEn ∧ bitsAt 0x000A0000 16 8 = 10 ∧
     hostMode pairOn.mode = true ∧ (pairOn.wr Reg.GCTL_STATUS 5).mode ≠ modeBoot ∧ hostMode (pairOn.wr Reg.GCTL_STATUS 5).mode = false ∧
     (pairOn.wr Reg.GCTL_STATUS 5).opens .jtag Reg.PAR_CTRL ∧ pairOn.pdUp PD_PAIR = true ∧ pairOn.pllReady pllPair = true ∧
     pairOn.lanesFree [16, 17] = true ∧ pairOn.flag Reg.PAR_STATUS psLink = true ∧ pairOn.rel.tests = [] ∧ pairOn.rel.waiting = [] ∧
     pairOn.heartbeats = true ∧ (pairOn.setFlag Reg.REL_WDG_STAT 0 true).heartbeats = false ∧ pairOn.pairEn = true ∧ pairOn.pair.got = false ∧
     (withPair pairOn { pairOn.pair with got := true }).pair.got = true ∧ (withPair pairOn { pairOn.pair with missed := 4 }).pair.missed = 4 ∧
     pairOn.flag Reg.PAR_STATUS psAlive = false ∧ (pairOn.setFlag Reg.PAR_STATUS psAlive true).flag Reg.PAR_STATUS psAlive = true) ∧
    (pairOn.pairLink = true ∧ pairOn.pair.yielding = false ∧ pairOn.epoch = 7 ∧ epochNewer 6 7 = false ∧ epochNewer 8 7 = true ∧
     (pairOn.wr Reg.GCTL_STATUS 5).answersClients = true ∧ (withPair pairOn { pairOn.pair with yielding := true }).pair.yielding = true ∧
     pairOn.opens .jtag Reg.PAR_CMD ∧ pairOn.mayTakeOver = false ∧ standingBy.mayTakeOver = true ∧ standingBy.opens .jtag Reg.PAR_CMD ∧
     (standingBy.setFlag Reg.PAR_STATUS psDead true).mayTakeOver = true ∧
     (withPair standingBy { standingBy.pair with peer := some ⟨false, false, 3⟩ }).mayTakeOver = true ∧
     (withPair standingBy { standingBy.pair with settling := true }).pair.settling = true ∧ standingBy.mode = modeStandby ∧
     standingBy.fld Reg.PAR_TKMODE 0 4 = 5 ∧ pairOn.fenceIn = false ∧ { pairOn with fenceIn := true }.fenceIn = true) := by
  exact ⟨by decide +kernel, by decide +kernel⟩

/-- The hypotheses of FormingSwitchoverAndMirror can be met, clause by clause. -/
theorem witness_FormingSwitchoverAndMirror :
    (pairOn.opens .jtag Reg.PAR_CMD ∧ pairOn.pairEn = true ∧ (pairOn.wr Reg.PAR_CTRL 0).pairEn = false ∧ pairOn.pairLink = true ∧
     (forming none).pair.forming = some ⟨none⟩ ∧ (forming none).pairLink = true ∧ (forming none).chosenActive false 0 = true ∧
     (forming none).chosenActive true 0 = false ∧ (forming (some 9)).pair.forming = some ⟨some 9⟩ ∧ (forming (some 9)).pairLink = true ∧
     pairOn.role ≠ roleActive ∧ yieldOk.role = roleActive ∧ yieldOk.peerReady = true ∧ yieldOk.mode = modeStaged ∧ yieldOk.pair.mirror = [] ∧
     yieldOk.opens .jtag Reg.PAR_CMD ∧ (withPair pairOn { pairOn.pair with yielding := true }).pair.yielding = true ∧
     standingBy.pairLink = true ∧ standingBy.mayTakeOver = true ∧ standingBy.role = roleStandby ∧ standingBy.pdUp PD_FABRIC = true) ∧
    ((withPair standingBy { standingBy.pair with stamps := [(1023, 5, 9)] }).pair.stamps.find?
       (fun x => x.1 == (1023 : BitVec 16).toNat && x.2.1 % 2 ^ 32 == (5 : Word).toNat) = some (1023, 5, 9) ∧
     (List.replicate 64 (0 : Byte)).length = 64 ∧ (withPair yieldOk { yieldOk.pair with resync := some 0 }).pair.resync = some 0 ∧
     yieldOk.nextLine 0 = none ∧ (yieldOk.wr (Reg.PAR_MIR_CTL 3) 0x80000001).nextLine 0 = some 4096 ∧ yieldOk.pairLink = true ∧
     yieldOk.xqRuns 0x49 = true ∧ PairBody.yield.rank = 1 ∧ yieldOk.heartbeat.rank = 0 ∧
     (withPair yieldOk { yieldOk.pair with queue := [.yield, yieldOk.heartbeat] }).pair.queue = [.yield, yieldOk.heartbeat] ∧
     (withPair yieldOk { yieldOk.pair with mirror := [⟨0, 0, []⟩] }).pair.mirror = [⟨0, 0, []⟩]) := by
  exact ⟨by decide +kernel, by decide +kernel⟩

/-- The hypotheses of CommandsThatStoreNothing can be met, clause by clause. -/
theorem witness_CommandsThatStoreNothing :
    exec .selftestStart staged = .next staged ∧ exec .wearUpdate offOn = .next offOn ∧
    exec (.gateClose 20 true) staged = .next staged ∧ exec (.flashErase .host) staged = .next staged := ⟨rfl, rfl, rfl, rfl⟩

end Sys2Proof.Tests
end

section
/-!
Accesses to BAR0 that R4 rejects.
-/
namespace Sys2Proof.Machine

/-- R4's rejection is seen by an agent that reaches the registers as a completion, and nothing else moves. -/
theorem State.rejectAccess_of_reaches {s : State} {ag : Agent} {off : Nat} (hr : s.reaches ag off = true) :
    s.rejectAccess ag off = s.complete .unsupportedRequest := by
  rw [State.rejectAccess, if_pos hr]

/-- Inside BAR0, an access that is not an aligned one of four bytes takes R4's rejection, a read and a write alike. -/
theorem exec_unalignedBar0Access {off size : Nat} (hoff : off < bar0Size) (hna : ¬ (off % 4 = 0 ∧ size = 4))
    (ag : Agent) (write : Bool) (s : State) :
    exec (.unalignedBar0Access ag off size write) s = .next (s.rejectAccess ag off) := by
  have hcond : ¬ (bar0Size ≤ off ∨ (off % 4 = 0 ∧ size = 4)) := not_or.mpr ⟨hoff.not_ge, hna⟩
  change execUnalignedBar0Access ag off size write s = _
  rw [execUnalignedBar0Access, if_neg hcond]

/-- Settles O6: the rejection of R4 answers an agent that reaches the registers, and only the last completion changes. -/
theorem unalignedAccessRejected : Obligations.UnalignedAccessRejected := by
  intro s ag off size write hr hoff hna
  rw [exec_unalignedBar0Access hoff hna, State.rejectAccess_of_reaches hr, State.complete]

end Sys2Proof.Machine
end

section
/-!
The increment of Caldera: writes of CAL_INCR_L and CAL_INCR_H by its owner and by others, and the apply edge (R41 to R43).
-/
namespace Sys2Proof.Machine

/-- Where the error bit is clear, a refusal sets it and raises source 13. -/
theorem State.calError_of_clear {s : State} {bit : Nat} (h : s.flag Reg.CAL_ERR bit = false) :
    s.calError bit = (s.setFlag Reg.CAL_ERR bit true).raise 13 := by
  rw [State.calError, State.error, h]
  rfl

/-- An open write of an aligned register of BAR0 has the effect of its block. -/
theorem exec_registerWrite_of_opens {s : State} {ag : Agent} {off : Nat} (h : s.opens ag off = true) (hoff : off < bar0Size)
    (hal : off % 4 = 0) (v : Word) : exec (.registerWrite ag off v) s = .next (s.applyWrite ag off v) := by
  change execRegisterWrite ag off v s = _
  rw [execRegisterWrite, if_neg hoff.not_ge, if_neg (not_not.mpr hal), State.writeAccess_opens _ _ _ _ _ h]

/-- An open write of CAL_INCR_L. -/
theorem exec_registerWrite_incrL {s : State} {ag : Agent} (h : s.opens ag Reg.CAL_INCR_L = true) (v : Word) :
    exec (.registerWrite ag Reg.CAL_INCR_L v) s = .next (s.writeIncrL ag v) :=
  exec_registerWrite_of_opens h (by decide) (by decide) v

/-- An open write of CAL_INCR_H. -/
theorem exec_incrCommit_of_opens {s : State} {ag : Agent} (h : s.opens ag Reg.CAL_INCR_H = true) (v : Word) :
    exec (.incrCommit ag v) s = .next (s.writeIncrH ag v) := by
  change execIncrCommit ag v s = _
  rw [execIncrCommit, State.writeAccess_opens _ _ _ _ _ h]

theorem State.writeIncrL_of_owns {s : State} {ag : Agent} (h : s.ownsIncr ag = true) (v : Word) :
    s.writeIncrL ag v = s.wr Reg.CAL_INCR_L v := by rw [State.writeIncrL, if_pos h]

theorem State.writeIncrL_of_not_owns {s : State} {ag : Agent} (h : s.ownsIncr ag = false) (v : Word) :
    s.writeIncrL ag v = s.calError 1 := by rw [State.writeIncrL, if_neg (Bool.not_eq_true _ ▸ h)]

theorem State.writeIncrH_of_owns {s : State} {ag : Agent} (h : s.ownsIncr ag = true) (v : Word) :
    s.writeIncrH ag v = (s.wr Reg.CAL_INCR_H v).commitIncr := by rw [State.writeIncrH, if_pos h]

theorem State.writeIncrH_of_not_owns {s : State} {ag : Agent} (h : s.ownsIncr ag = false) (v : Word) :
    s.writeIncrH ag v = s.calError 1 := by rw [State.writeIncrH, if_neg (Bool.not_eq_true _ ▸ h)]

/-- A commit in range becomes the pending increment; where one was pending already, CAL_ERR.INCR_SUPERSEDED records it. -/
theorem State.commitIncr_of_inRange {s : State} (h : incrInRange (s.rd Reg.CAL_INCR_L) (s.rd Reg.CAL_INCR_H) = true) :
    s.commitIncr = { (if s.cal.pendIncr.isSome then s.calError 3 else s).setFlag Reg.CAL_STATUS 0 true with
      cal := { s.cal with pendIncr := some ⟨s.rd Reg.CAL_INCR_L, s.rd Reg.CAL_INCR_H, 63⟩ } } := by
  have hcal : (s.calError 3).cal = s.cal := by
    unfold State.calError State.error
    split <;> rfl
  rw [State.commitIncr, if_neg (by simp [h])]
  cases hp : s.cal.pendIncr <;> simp [State.setFlag, hcal]

/-- At its apply edge the pending increment becomes the one in effect, and source 0 is raised. -/
theorem State.applyIncr_of_due {s : State} {p : PendIncr} (h : s.cal.pendIncr = some p) (he : p.edges = 0) :
    s.applyIncr = State.raise
      { ((s.wr Reg.CAL_INCR_CUR_L p.low).wr Reg.CAL_INCR_CUR_H p.high).setFlag Reg.CAL_STATUS 0 false with
        cal := { s.cal with pendIncr := none } } 0 := by
  rw [State.applyIncr, h]
  exact if_pos he

/-- An owner's write of CAL_INCR_H in range is a commit of the CAL_INCR_L that stands and of the value written. -/
theorem State.writeIncrH_of_inRange {s : State} {ag : Agent} {v : Word} (h : s.ownsIncr ag = true)
    (hr : incrInRange (s.rd Reg.CAL_INCR_L) v = true) :
    s.writeIncrH ag v =
      { (if s.cal.pendIncr.isSome then (s.wr Reg.CAL_INCR_H v).calError 3 else s.wr Reg.CAL_INCR_H v).setFlag
          Reg.CAL_STATUS 0 true with
        cal := { s.cal with pendIncr := some ⟨s.rd Reg.CAL_INCR_L, v, 63⟩ } } := by
  have hL : (s.wr Reg.CAL_INCR_H v).rd Reg.CAL_INCR_L = s.rd Reg.CAL_INCR_L := State.rd_wr_ne _ _ _ _ (by decide)
  have hH : (s.wr Reg.CAL_INCR_H v).rd Reg.CAL_INCR_H = v := State.rd_wr_same _ _ _
  rw [State.writeIncrH_of_owns h, State.commitIncr_of_inRange (by rw [hL, hH]; exact hr), hL, hH, State.wr_cal]

/-- Settles O9: an in-range write of CAL_INCR_H is a commit of both words, and its apply edge puts them into effect. -/
theorem incrementCommits : Obligations.IncrementCommits := by
  refine ⟨fun s ag v ho hown => ?_, fun s ag v ho hown hr hp => ?_, fun s ag v p ho hown hr hp hf => ?_, fun s p hp he => ?_⟩
  · rw [exec_registerWrite_incrL ho, State.writeIncrL_of_owns hown]
  · rw [exec_incrCommit_of_opens ho, State.writeIncrH_of_inRange hown hr, hp]
    rfl
  · have hclear : (s.wr Reg.CAL_INCR_H v).flag Reg.CAL_ERR 3 = false := by
      rw [State.flag, State.rd_wr_ne _ _ _ _ (by decide)]
      exact hf
    rw [exec_incrCommit_of_opens ho, State.writeIncrH_of_inRange hown hr, hp, State.calError_of_clear hclear]
    rfl
  · change Host.Outcome.next s.applyIncr = _
    rw [State.applyIncr_of_due hp he]

/-- Settles O10: a write by any agent that INCR_OWNER does not name is refused whole. -/
theorem incrementOwner : Obligations.IncrementOwner := by
  refine ⟨fun s ag => rfl, fun s ag v ho hown hf => ?_, fun s ag v ho hown hf => ?_, incrementCommits.1⟩
  · rw [exec_registerWrite_incrL ho, State.writeIncrL_of_not_owns hown, State.calError_of_clear hf]
  · rw [exec_incrCommit_of_opens ho, State.writeIncrH_of_not_owns hown, State.calError_of_clear hf]

end Sys2Proof.Machine
end

section
/-!
Steps at their apply edge: an absolute step that the firmware wrote in ACQUIRE is aborted once the device has left ACQUIRE
(R231), so that a step which is due need not be applied.
-/
namespace Sys2Proof.Machine

/-- A late alignment that is due is aborted at its apply edge. -/
theorem exec_stepApply_of_alignLate {s : State} {p : PendStep} (hp : s.cal.pendStep = some p) (hdue : s.stepDue = true)
    (hincr : s.incrDue = false) (hlate : s.alignLate p = true) : exec .stepApply s = .next s.stepAbort := by
  change execStepApply s = _
  simp only [execStepApply, hp, hdue, hincr, hlate, and_self, if_true]

/-- A step that is aborted counts in no STEPGEN. -/
theorem State.stepGen_stepAbort (s : State) : s.stepAbort.fld Reg.CAL_STATUS 8 8 = s.fld Reg.CAL_STATUS 8 8 := by
  unfold State.stepAbort
  split
  · change ((s.setFlag Reg.CAL_STATUS 1 false).setFlag Reg.CAL_STATUS 2 false).fld Reg.CAL_STATUS 8 8 = _
    rw [State.fld_setFlag_other _ _ _ _ _ _ _ (by decide), State.fld_setFlag_other _ _ _ _ _ _ _ (by decide)]
  · rfl

/-- The device in FREERUN with the firmware's initial alignment still pending and its apply edge at the coming TCLK edge. -/
def lateAlignment : State :=
  { State.reset.wr Reg.GCTL_STATUS (BitVec.ofNat 32 modeFreerun) with
    cal := { State.reset.cal with pendStep := some ⟨true, false, 0, 0⟩ }
    sel := { State.reset.sel with wrote := some true } }

theorem lateAlignment_mode : lateAlignment.mode = modeFreerun := by
  change bitsAt ((State.reset.wr Reg.GCTL_STATUS (BitVec.ofNat 32 modeFreerun)).rd Reg.GCTL_STATUS) 0 4 = _
  rw [State.rd_wr_same]
  decide

theorem lateAlignment_alignLate : lateAlignment.alignLate ⟨true, false, 0, 0⟩ = true := by
  rw [State.alignLate, lateAlignment_mode]
  rfl

/-- Refutes O12 at its last clause: in FREERUN the alignment that the firmware wrote in ACQUIRE is due, and STEP_APPLY aborts
it (R231), so that STEPGEN does not rise. -/
theorem not_stepCommands : ¬ Obligations.StepCommands := by
  rintro ⟨-, -, -, -, -, -, hApply⟩
  obtain ⟨t, hexec, -, hgen, -⟩ := hApply lateAlignment ⟨true, false, 0, 0⟩ rfl rfl rfl
  rw [exec_stepApply_of_alignLate rfl rfl rfl lateAlignment_alignLate] at hexec
  obtain rfl : lateAlignment.stepAbort = t := Host.Outcome.next.inj hexec
  rw [State.stepGen_stepAbort] at hgen
  omega

end Sys2Proof.Machine
end

section
/-!
Reading device time (R49, R50), the replica compare (R21) and the comparators (R55).
-/
namespace Sys2Proof.Machine

/-! ### 96-bit values in three registers (R7) -/

/-- A 96-bit value is the value of its three words. -/
theorem ofWords96_word96 (t : CT96) : ofWords96 (word96 t 0) (word96 t 1) (word96 t 2) = t := by
  have := t.isLt
  apply BitVec.eq_of_toNat_eq
  simp only [ofWords96, word96, BitVec.toNat_ofNat]
  omega

/-- What a register holds after a 96-bit value was written into three. -/
theorem State.rd_wr96 (s : State) (o j : Nat) (t : CT96) :
    (s.wr96 o t).rd j =
      if j = o + 8 then word96 t 2 else if j = o + 4 then word96 t 1 else if j = o then word96 t 0 else s.rd j := by
  simp only [State.wr96, State.rd_wr]

theorem State.rd_wr96_word0 (s : State) (o : Nat) (t : CT96) : (s.wr96 o t).rd o = word96 t 0 := by
  simp [State.rd_wr96]

theorem State.rd_wr96_word1 (s : State) (o : Nat) (t : CT96) : (s.wr96 o t).rd (o + 4) = word96 t 1 := by
  simp [State.rd_wr96]

theorem State.rd_wr96_word2 (s : State) (o : Nat) (t : CT96) : (s.wr96 o t).rd (o + 8) = word96 t 2 := by
  simp [State.rd_wr96]

/-- A 96-bit value just written is read back whole. -/
theorem State.rd96_wr96 (s : State) (o : Nat) (t : CT96) : (s.wr96 o t).rd96 o = t := by
  rw [State.rd96, State.rd_wr96_word0, State.rd_wr96_word1, State.rd_wr96_word2, ofWords96_word96]

/-- An open read of a word of CAL_NOW. -/
theorem exec_nowRead_of_opens {s : State} {ag : Agent} {w : Fin 3} (h : s.opens ag (Reg.CAL_NOW_W w.val) = true) :
    exec (.nowRead ag w) s = .next ((s.readNow w.val).2.complete (.data (s.readNow w.val).1)) := by
  change execNowRead ag w s = _
  rw [execNowRead, State.readAccess_opens _ _ _ _ h]

/-- A read of W0 latches all three words of the count. -/
theorem State.readNow_zero (s : State) :
    s.readNow 0 = (word96 s.now 0, s.wr96 (Reg.CAL_NOW_W 0) s.now) :=
  congrArg (·, s.wr96 (Reg.CAL_NOW_W 0) s.now) (State.rd_wr96_word0 s (Reg.CAL_NOW_W 0) s.now)

/-! ### Snapshots (R50) -/

/-- Another field of a register, and every field of another register, keep their values when a field is written. -/
theorem State.fld_setFld_other (s : State) (o lo n v o' lo' n' : Nat) (h : o' ≠ o ∨ lo' + n' ≤ lo ∨ lo + n ≤ lo')
    (h' : lo' + n' ≤ 32) : (s.setFld o lo n v).fld o' lo' n' = s.fld o' lo' n' := by
  by_cases ho : o' = o
  · subst ho
    have hf : lo' + n' ≤ lo ∨ lo + n ≤ lo' := by simpa using h
    simp [State.fld, State.rd_setFld, bitsAt_putBits_other _ _ _ _ _ _ hf h']
  · simp [State.fld, State.rd_setFld, ho]

/-- A bit outside a written field keeps its value. -/
theorem State.flag_setFld_other (s : State) (o lo n v o' i : Nat) (h : o' ≠ o ∨ i < lo ∨ lo + n ≤ i) (h' : i < 32) :
    (s.setFld o lo n v).flag o' i = s.flag o' i := by
  by_cases ho : o' = o
  · subst ho
    have hf : i < lo ∨ lo + n ≤ i := by simpa using h
    simp [State.flag, State.rd_setFld, bitAt_putBits_other _ _ _ _ _ hf h']
  · simp [State.flag, State.rd_setFld, ho]

/-- A field is less than its width allows. -/
theorem State.fld_lt (s : State) (o lo n : Nat) : s.fld o lo n < 2 ^ n := Nat.mod_lt _ (Nat.two_pow_pos n)

/-- A field of a register that a 96-bit write does not reach. -/
theorem State.fld_wr96_other (s : State) (o o' lo n : Nat) (t : CT96) (h : o' ≠ o ∧ o' ≠ o + 4 ∧ o' ≠ o + 8) :
    (s.wr96 o t).fld o' lo n = s.fld o' lo n := by
  simp [State.fld, State.rd_wr96, h]

/-- A raise changes no register. -/
theorem State.fld_raise (s : State) (k : Nat) (a b : Word) (o lo n : Nat) : (s.raise k a b).fld o lo n = s.fld o lo n := rfl

theorem State.flag_raise (s : State) (k : Nat) (a b : Word) (o i : Nat) : (s.raise k a b).flag o i = s.flag o i := rfl

/-- An open write of CAL_SNAP_CTL with GO takes the capture. -/
theorem exec_snapGo_of_opens {s : State} {ag : Agent} {v : Word} (h : s.opens ag Reg.CAL_SNAP_CTL = true)
    (hgo : bitAt v 0 = true) : exec (.snapGo ag v) s = .next s.snapshot := by
  change execSnapGo ag v s = _
  rw [execSnapGo, State.writeAccess_opens _ _ _ _ _ h, if_pos hgo]

/-- Beside CAL_SNAP_CTL a capture writes the three words of the count alone. -/
theorem State.rd_snapshot_of_ne (s : State) {o : Nat} (h : o ≠ Reg.CAL_SNAP_CTL) :
    s.snapshot.rd o = (s.wr96 (Reg.CAL_SNAP_W 0) s.now).rd o := by
  rw [State.snapshot, State.rd_raise, State.advance, State.rd_setFld, if_neg h, State.rd_setFld, if_neg h, State.rd_setFlag,
    if_neg h]

theorem State.rd96_snapshot (s : State) : s.snapshot.rd96 (Reg.CAL_SNAP_W 0) = s.now := by
  rw [State.rd96, s.rd_snapshot_of_ne (by decide), s.rd_snapshot_of_ne (by decide), s.rd_snapshot_of_ne (by decide),
    ← State.rd96, State.rd96_wr96]

theorem State.keepsRegs_snapshot (s : State) :
    s.keepsRegs s.snapshot [Reg.CAL_SNAP_W 0, Reg.CAL_SNAP_W 1, Reg.CAL_SNAP_W 2, Reg.CAL_SNAP_CTL] := by
  intro o ho
  simp only [List.mem_cons, List.not_mem_nil, or_false, not_or] at ho
  obtain ⟨h0, h1, h2, hctl⟩ := ho
  rw [s.rd_snapshot_of_ne hctl, State.rd_wr96, if_neg h2, if_neg h1, if_neg h0]

theorem State.valid_snapshot (s : State) : s.snapshot.flag Reg.CAL_SNAP_CTL 1 = true := by
  rw [State.snapshot, State.flag_raise, State.advance, State.flag_setFld_other _ _ _ _ _ _ _ (by decide) (by decide),
    State.flag_setFld_other _ _ _ _ _ _ _ (by decide) (by decide), State.flag_setFlag _ _ _ _ (by decide)]

theorem State.stepGen_snapshot (s : State) : s.snapshot.fld Reg.CAL_SNAP_CTL 8 8 = s.fld Reg.CAL_STATUS 8 8 := by
  rw [State.snapshot, State.fld_raise, State.advance,
    State.fld_setFld_other _ _ _ _ _ _ _ _ (by decide) (by decide), State.fld_setFld _ _ _ _ _ (by decide), Nat.mod_eq_of_lt (s.fld_lt _ _ _)]

theorem State.seq_snapshot (s : State) :
    s.snapshot.fld Reg.CAL_SNAP_CTL 16 16 = (s.fld Reg.CAL_SNAP_CTL 16 16 + 1) % 2 ^ 16 := by
  rw [State.snapshot, State.fld_raise, State.advance, State.fld_setFld _ _ _ _ _ (by decide), Nat.mod_mod,
    State.fld_setFld_other _ _ _ _ _ _ _ _ (by decide) (by decide), State.fld_setFlag_other _ _ _ _ _ _ _ (by decide),
    State.fld_wr96_other _ _ _ _ _ _ (by decide)]

/-- The second state differs from the first in nothing but registers. -/
def State.SameButRegs (s t : State) : Prop := ∃ m, t = { s with regs := m }

theorem State.SameButRegs.refl (s : State) : s.SameButRegs s := ⟨s.regs, rfl⟩

theorem State.SameButRegs.wr {s t : State} (h : s.SameButRegs t) (o : Nat) (v : Word) : s.SameButRegs (t.wr o v) := by
  obtain ⟨m, rfl⟩ := h
  exact ⟨_, rfl⟩

theorem State.SameButRegs.wr96 {s t : State} (h : s.SameButRegs t) (o : Nat) (v : CT96) : s.SameButRegs (t.wr96 o v) :=
  ((h.wr _ _).wr _ _).wr _ _

theorem State.SameButRegs.setFlag {s t : State} (h : s.SameButRegs t) (o i : Nat) (b : Bool) :
    s.SameButRegs (t.setFlag o i b) := h.wr _ _

theorem State.SameButRegs.setFld {s t : State} (h : s.SameButRegs t) (o lo n v : Nat) : s.SameButRegs (t.setFld o lo n v) :=
  h.wr _ _

theorem State.SameButRegs.advance {s t : State} (h : s.SameButRegs t) (o lo n k : Nat) :
    s.SameButRegs (t.advance o lo n k) := h.setFld _ _ _ _

/-- A capture writes registers and raises source 4. -/
theorem State.snapshot_frame (s : State) : ∃ m, s.snapshot = { s with regs := m, raised := s.raised ++ [⟨4, 0, 0⟩] } := by
  obtain ⟨m, hm⟩ := ((((State.SameButRegs.refl s).wr96 (Reg.CAL_SNAP_W 0) s.now).setFlag Reg.CAL_SNAP_CTL 1 true).setFld
    Reg.CAL_SNAP_CTL 8 8 (s.fld Reg.CAL_STATUS 8 8)).advance Reg.CAL_SNAP_CTL 16 16 1
  exact ⟨m, congrArg (State.raise · 4) hm⟩

/-! ### The replica compare (R21) -/

/-- The trouble log raises no event source itself and leaves Caldera alone. -/
theorem State.logEntry_raised_cal (s : State) (e : LogEntry) :
    (s.logEntry e).raised = s.raised ∧ (s.logEntry e).cal = s.cal := by
  unfold State.logEntry
  split
  · exact ⟨rfl, rfl⟩
  · split <;> exact ⟨rfl, rfl⟩

/-- The replicas that a compare finds different from the master. -/
def State.wrongReplicas (s : State) : List Nat :=
  (List.range 29).filter fun r => (s.replica r).mismatches s.cal.count s.cal.acc

/-- Caldera after a compare that found the replicas of a list different. -/
def CalState.compared (c : CalState) (bad : List Nat) : CalState :=
  { c with
    replicas := c.replicas.map (Replica.compare c.count c.acc)
    compares := c.compares + 1
    bad := c.bad ++ bad.map fun r => (r, c.compares) }

/-- A compare marks the stamps of the replicas it finds wrong, updates Caldera, and reports those replicas. -/
theorem exec_replicaCompare (s : State) :
    exec .replicaCompare s = .next (State.reportMismatches
      { s.markStamps s.wrongReplicas with cal := s.cal.compared s.wrongReplicas } s.wrongReplicas) := rfl

theorem State.mem_wrongReplicas (s : State) (r : Nat) :
    r ∈ s.wrongReplicas ↔ r < 29 ∧ (s.replica r).mismatches s.cal.count s.cal.acc = true := by
  rw [State.wrongReplicas, List.mem_filter, List.mem_range]

theorem State.wrongReplicas_eq_nil {s : State} (h : ∀ r < 29, (s.replica r).mismatches s.cal.count s.cal.acc = false) :
    s.wrongReplicas = [] := by
  apply List.eq_nil_iff_forall_not_mem.mpr
  intro r hr
  obtain ⟨hlt, hm⟩ := (s.mem_wrongReplicas r).mp hr
  exact absurd hm (Bool.eq_false_iff.mp (h r hlt))

/-- Each replica is compared on its own; one that the device does not hold stays unloaded. -/
theorem State.replica_of_compared {s t : State} {bad : List Nat} (h : t.cal = s.cal.compared bad) (r : Nat) :
    t.replica r = (s.replica r).compare s.cal.count s.cal.acc := by
  rw [State.replica, h]
  exact List.getD_map s.cal.replicas Replica.reset (Replica.compare s.cal.count s.cal.acc)

/-- A replica that the compare before found different is loaded from the master. -/
theorem Replica.compare_of_reload {p : Replica} (hl : p.loaded = true) (hr : p.reload = true) (count acc : Nat) :
    p.compare count acc = { p with count := count, acc := acc, reload := false, unchecked := false } := by
  simp [Replica.compare, hl, hr]

/-- A replica that the compare finds different is to be reloaded, and runs on until then. -/
theorem Replica.compare_of_mismatches {p : Replica} {count acc : Nat} (h : p.mismatches count acc = true) :
    p.compare count acc = { p with reload := true } := by
  simp only [Replica.mismatches, Bool.and_eq_true, Bool.not_eq_true', Bool.and_eq_false_imp, beq_iff_eq,
    beq_eq_false_iff_ne] at h
  obtain ⟨⟨hl, hr⟩, hne⟩ := h
  have hne : ¬ (p.count = count ∧ p.acc = acc) := fun e => hne e.1 e.2
  simp [Replica.compare, hl, hr, hne]

/-- A report leaves Caldera alone. -/
theorem State.reportMismatches_cal (s : State) (l : List Nat) : (s.reportMismatches l).cal = s.cal := by
  induction l generalizing s with
  | nil => rfl
  | cons r rs ih => exact (ih _).trans (State.logEntry_raised_cal _ _).2

/-- A report raises source 3 once for each replica after what was raised before. -/
theorem State.reportMismatches_raised (s : State) (l : List Nat) :
    (s.reportMismatches l).raised = s.raised ++ List.replicate l.length ⟨3, 0, 0⟩ := by
  induction l generalizing s with
  | nil => simp [State.reportMismatches]
  | cons r rs ih =>
    rw [State.reportMismatches, ih, State.log, (State.logEntry_raised_cal _ _).1, List.length_cons, List.replicate_succ]
    simp [State.raise]

/-- The second state differs from the first in nothing but the number of stamps that each port took since the
last compare. -/
def State.SameButFresh (s t : State) : Prop :=
  t = { s with net := { s.net with ports := t.net.ports } } ∧ ∀ n, t.port n = { s.port n with fresh := (t.port n).fresh }

theorem State.SameButFresh.refl (s : State) : s.SameButFresh s := ⟨rfl, fun _ => rfl⟩

/-- A port read after a port was replaced. -/
theorem State.port_setPort (s : State) (k n : Nat) (p : PortState) :
    (s.setPort k p).port n = if n = k then p else s.port n := sparseGet_set _ s.net.ports k n p

/-- Another number of stamps for a port. -/
theorem State.SameButFresh.setFresh {s t : State} (h : s.SameButFresh t) (k m : Nat) :
    s.SameButFresh (t.setPort k { t.port k with fresh := m }) := by
  obtain ⟨hs, hp⟩ := h
  refine ⟨by rw [hs]; rfl, fun n => ?_⟩
  rw [State.port_setPort]
  split
  · next hn => rw [hn, hp k]
  · exact hp n

/-- Port n with no stamp yet in the interval that a compare begins. -/
def State.restartPort (t : State) (n : Nat) : State :=
  if (t.port n).fresh = 0 then t else t.setPort n { t.port n with fresh := 0 }

/-- A compare that finds no replica wrong marks no stamp: it begins the next interval of the ports and of Graver. -/
theorem State.markStamps_nil (s : State) :
    s.markStamps [] =
      { (List.range 16).foldl State.restartPort s with
        grv := { ((List.range 16).foldl State.restartPort s).grv with fresh := false } } := by
  simp only [State.markStamps, List.contains_nil, Bool.false_and, Bool.or_false, Bool.false_eq_true, if_false,
    List.map_id']
  have hf : State.restartPort = fun t n =>
      if (t.port n).fresh = 0 then t else t.setPort n { t.port n with fresh := 0 } := rfl
  rw [hf]

theorem State.sameButFresh_restartPorts (s : State) (l : List Nat) : s.SameButFresh (l.foldl State.restartPort s) := by
  refine List.foldlRecOn l State.restartPort (State.SameButFresh.refl s) fun t ht n _ => ?_
  unfold State.restartPort
  split
  · exact ht
  · exact ht.setFresh n 0

/-- Where no replica is wrong, a compare moves the intervals of the stamps on and leaves the rest to Caldera. -/
theorem exec_replicaCompare_of_agreement {s : State}
    (h : ∀ r < 29, (s.replica r).mismatches s.cal.count s.cal.acc = false) :
    ∃ t, exec .replicaCompare s = .next t ∧ t.cal = s.cal.compared [] ∧
      t = { s with cal := t.cal, net := t.net, grv := { s.grv with fresh := false } } ∧
      t.net = { s.net with ports := t.net.ports } ∧ ∀ n, t.port n = { s.port n with fresh := (t.port n).fresh } := by
  obtain ⟨hs, hport⟩ := s.sameButFresh_restartPorts (List.range 16)
  have hexec := exec_replicaCompare s
  rw [State.wrongReplicas_eq_nil h, State.markStamps_nil, State.reportMismatches] at hexec
  generalize (List.range 16).foldl State.restartPort s = u at hs hport hexec
  refine ⟨_, hexec, rfl, ?_, congrArg State.net hs, hport⟩
  rw [hs]

/-- A compare that finds a replica wrong raises source 3, marks the stamps of its interval and has it reloaded next time. -/
theorem exec_replicaCompare_of_mismatch {s : State} {r : Nat} (hr : r < 29)
    (h : (s.replica r).mismatches s.cal.count s.cal.acc = true) :
    ∃ t, exec .replicaCompare s = .next t ∧ ⟨3, 0, 0⟩ ∈ t.raised ∧ t.replica r = { s.replica r with reload := true } ∧
      (r, s.cal.compares) ∈ t.cal.bad := by
  have hmem : r ∈ s.wrongReplicas := (s.mem_wrongReplicas r).mpr ⟨hr, h⟩
  have hcal := State.reportMismatches_cal { s.markStamps s.wrongReplicas with cal := s.cal.compared s.wrongReplicas }
    s.wrongReplicas
  refine ⟨_, exec_replicaCompare s, ?_, ?_, ?_⟩
  · rw [State.reportMismatches_raised]
    exact List.mem_append_right _ (List.mem_replicate.mpr ⟨(List.length_pos_of_mem hmem).ne', rfl⟩)
  · rw [State.replica_of_compared hcal, Replica.compare_of_mismatches h]
  · rw [hcal]
    exact List.mem_append_right _ (List.mem_map_of_mem hmem)

/-! ### Comparators (R55) -/

/-- A comparator whose owner's device time has reached its target fires. -/
theorem Comparator.evaluate_of_reached {c : Comparator} {now : Word64} (h : (now - c.target).msb = false) :
    c.evaluate now c.owner = { c with fired := true } := by
  simp [Comparator.evaluate, cf64Reached, h]

/-- Settles O13: reads of device time, captures, the replica compare and the comparators, each by its own rule above. -/
theorem timeReadsAndComparisons : Obligations.TimeReadsAndComparisons := by
  refine ⟨fun s ag h => ?_, fun s ag h => exec_nowRead_of_opens h, fun s ag h => exec_nowRead_of_opens h,
    fun s => ⟨s.rd_wr96_word1 _ _, s.rd_wr96_word2 _ _⟩, by decide, fun s ag v h hgo => ?_, fun s h => ?_,
    fun s r hr _ h => ?_, fun s w => ?_⟩
  · exact (exec_nowRead_of_opens h).trans (by rw [Fin.val_zero, State.readNow_zero])
  · obtain ⟨m, hframe⟩ := s.snapshot_frame
    exact ⟨s.snapshot, exec_snapGo_of_opens h hgo, s.rd96_snapshot, s.valid_snapshot, s.stepGen_snapshot, s.seq_snapshot,
      by rw [hframe], s.keepsRegs_snapshot, by rw [hframe]⟩
  · obtain ⟨t, hexec, hcal, hframe, hnet, hport⟩ := exec_replicaCompare_of_agreement h
    refine ⟨t, hexec, hframe, by rw [hcal]; rfl, hnet, hport, fun r _ hl hrel => ?_⟩
    rw [State.replica_of_compared hcal, Replica.compare_of_reload hl hrel]
    exact ⟨rfl, rfl, rfl⟩
  · obtain ⟨t, hexec, hraised, hrep, hbad⟩ := exec_replicaCompare_of_mismatch hr h
    refine ⟨t, hexec, hraised, ?_, ?_, hbad⟩ <;> rw [hrep]
  · refine ⟨_, rfl, rfl, rfl, fun c hc how hreach => ?_⟩
    subst how
    exact List.mem_map.mpr ⟨c, hc, Comparator.evaluate_of_reached hreach⟩

end Sys2Proof.Machine
end

section
/-!
The cap of a signal: a write of GNS_SIGs that leaves it enabled, and the allocator's answer to the cap (R281).
-/
namespace Sys2Proof.Machine

/-! ### Writes by the access codes alone (R5, R6) -/

/-- A field of RW bits takes the written value. -/
theorem bitsAt_writtenValue_of_rw {r : RegRow} {lo n : Nat}
    (h : ∀ i < n, r.rw.getLsbD (lo + i) = true ∧ r.w1c.getLsbD (lo + i) = false ∧ r.w1s.getLsbD (lo + i) = false)
    (old v : Word) : bitsAt (writtenValue r old v) lo n = bitsAt v lo n := by
  apply Nat.eq_of_testBit_eq
  intro i
  rw [bitsAt_testBit, bitsAt_testBit]
  by_cases hi : i < n
  · obtain ⟨hrw, hw1c, hw1s⟩ := h i hi
    have h32 : lo + i < 32 := BitVec.lt_of_getLsbD hrw
    simp only [writtenValue, BitVec.getLsbD_or, BitVec.getLsbD_and, BitVec.getLsbD_not, hrw, hw1c, hw1s, h32]
    simp
  · simp [hi]

/-- A write by the access codes of a register that the tables name. -/
theorem State.plainWrite_of_row {s : State} {o : Nat} {r : RegRow} {i j : Nat} (h : regRow o = some (r, i, j)) (v : Word) :
    s.plainWrite o v = s.wr o (writtenValue r (s.rd o) v) := by
  rw [State.plainWrite, h]

/-- A write by the access codes reaches no other register. -/
theorem State.keepsRegs_plainWrite (s : State) (o : Nat) (v : Word) : s.keepsRegs (s.plainWrite o v) [o] := by
  intro j hj
  unfold State.plainWrite
  split
  · rfl
  · exact s.rd_wr_ne _ _ _ (List.ne_of_not_mem_cons hj)

theorem State.SameButRegs.plainWrite {s t : State} (h : s.SameButRegs t) (o : Nat) (v : Word) :
    s.SameButRegs (t.plainWrite o v) := by
  unfold State.plainWrite
  split
  · exact h
  · exact h.wr _ _

/-! ### GNS_SIGs -/

/-- Bits 31 to 16 of each GNS_SIGs, MAXCH among them, are RW. -/
theorem regRow_gnsSig (g : Fin 19) :
    regRow (Reg.GNS_SIG g.val) = some (⟨0x600100, 0x4, 19, 0x4, 1, 0xFFFF0000, 0, 0, 0, .gnsSig, PD_GNSS_TRK⟩, g.val, 0) := by
  decide +kernel +revert

theorem State.fld_plainWrite_maxch (s : State) (g : Fin 19) (v : Word) :
    (s.plainWrite (Reg.GNS_SIG g.val) v).fld (Reg.GNS_SIG g.val) 16 8 = bitsAt v 16 8 := by
  rw [State.plainWrite_of_row (regRow_gnsSig g), State.fld, State.rd_wr_same]
  exact bitsAt_writtenValue_of_rw (by decide) _ _

/-- A write that keeps the input of the signal, or finds it without channels, and leaves EN = 1 releases no channel. -/
theorem State.writeSig_of_enabled {s : State} {g : Nat} {v : Word} (hen : bitAt v 31 = true)
    (h : bitsAt v 29 2 = s.sigInput g ∨ s.sigChannels g = []) : s.writeSig g v = s.plainWrite (Reg.GNS_SIG g) v := by
  have hok : ¬ (bitsAt v 29 2 ≠ s.sigInput g ∧ s.sigChannels g ≠ []) := fun ⟨hin, hch⟩ => h.elim hin hch
  rw [State.writeSig, if_neg hok, if_pos hen]

/-- An open write of GNS_SIGs. -/
theorem exec_sigWrite_of_opens {s : State} {ag : Agent} {g : Fin 19} (h : s.opens ag (Reg.GNS_SIG g.val) = true)
    (v : Word) : exec (.sigWrite ag g v) s = .next (s.writeSig g.val v) := by
  change execSigWrite ag g v s = _
  rw [execSigWrite, State.writeAccess_opens _ _ _ _ _ h]

/-! ### The candidate of an allocation (R299) -/

theorem State.sig_sv_of_candidate {s : State} {g sv : Nat} {o : Candidate} (h : s.candidate g sv = some o) :
    o.sig = g ∧ o.sv = sv := by
  simpa using List.find?_some h

/-- The candidate that comes next is of a signal with fewer than MAXCH channels. -/
theorem State.length_lt_maxch_of_isNext {s : State} {o : Candidate} (h : s.isNext o = true) :
    (s.sigChannels o.sig).length < s.fld (Reg.GNS_SIG o.sig) 16 8 := by
  have heligible : s.eligible o = true := (Bool.and_eq_true_iff.mp h).1
  simp only [State.eligible, State.signalAllowed, Bool.and_eq_true, decide_eq_true_eq] at heligible
  obtain ⟨⟨⟨⟨-, hcap⟩, -⟩, -⟩, -⟩ := heligible
  exact hcap

/-- An allocation is to a candidate that comes next, while the allocator works. -/
theorem exec_allocate (s : State) (c : Fin 256) (g sv : Nat) (carrier : Int) (rate cp kp : Nat) :
    exec (.channelCommand c (.allocate g sv carrier rate cp kp)) s =
      .next ((s.candidate g sv).elim s fun o =>
        if s.gnsRuns && s.gnssFirmware && s.fld Reg.GNS_ACQ_CFG 30 2 != 2 && s.isNext o then
          s.allocate c.val o carrier rate cp kp
        else s) := by
  change execChannelCommand c (.allocate g sv carrier rate cp kp) s = _
  cases h : s.candidate g sv <;> simp only [execChannelCommand, h, Option.elim]

/-- Where the signal holds its MAXCH channels, an allocation to it changes nothing. -/
theorem exec_allocate_of_maxch {s : State} {g : Nat} (hcap : s.fld (Reg.GNS_SIG g) 16 8 ≤ (s.sigChannels g).length)
    (c : Fin 256) (sv : Nat) (carrier : Int) (rate cp kp : Nat) :
    exec (.channelCommand c (.allocate g sv carrier rate cp kp)) s = .next s := by
  rw [exec_allocate]
  cases ho : s.candidate g sv with
  | none => rfl
  | some o =>
    have hnot : s.isNext o = false := by
      refine Bool.eq_false_iff.mpr fun hn => ?_
      have hlt := State.length_lt_maxch_of_isNext hn
      rw [(State.sig_sv_of_candidate ho).1] at hlt
      omega
    simp [hnot]

/-- While the allocator works, the candidate that comes next is given the channel. -/
theorem exec_allocate_of_next {s : State} {g sv : Nat} {o : Candidate} (ho : s.candidate g sv = some o)
    (hn : s.isNext o = true) (hruns : s.gnsRuns = true) (hfw : s.gnssFirmware = true)
    (hmode : s.fld Reg.GNS_ACQ_CFG 30 2 ≠ 2) (c : Fin 256) (carrier : Int) (rate cp kp : Nat) :
    exec (.channelCommand c (.allocate g sv carrier rate cp kp)) s = .next (s.allocate c.val o carrier rate cp kp) := by
  simp [exec_allocate, ho, hn, hruns, hfw, hmode]

/-! ### The channel that an allocation starts -/

/-- The channels are a sparse map over channels at reset. -/
theorem State.channel_eq_sparseGet (s : State) (c : Nat) :
    s.channel c = sparseGet (fun _ => Channel.reset) s.gns.channels c := by
  unfold State.channel
  induction s.gns.channels with
  | nil => rfl
  | cons e m ih =>
    obtain ⟨a, v⟩ := e
    by_cases ha : a = c
    · simp [sparseGet, ha]
    · simp [sparseGet, ha, Ne.symm ha, ih]

/-- A channel read after a channel was replaced. -/
theorem State.channel_setChannel (s : State) (c d : Nat) (v : Channel) :
    (s.setChannel c v).channel d = if d = c then v else s.channel d := by
  simp only [State.channel_eq_sparseGet]
  exact sparseGet_set _ s.gns.channels c d v

/-- Reading a channel sees only the baseband. -/
theorem State.channel_of_gns {s t : State} (h : t.gns = s.gns) (d : Nat) : t.channel d = s.channel d := by
  simp only [State.channel, h]

/-- The registers that show the channels hold none of them. -/
@[simp] theorem State.channel_showChannel (s : State) (c d : Nat) : (s.showChannel c).channel d = s.channel d :=
  State.channel_of_gns (s.wr_gns _ _) d

@[simp] theorem State.channel_gnsRefresh (s : State) (d : Nat) : s.gnsRefresh.channel d = s.channel d :=
  State.channel_of_gns (((State.wr_gns _ _ _).trans (State.wr_gns _ _ _)).trans (s.wr_gns _ _)) d

@[simp] theorem State.channel_putCandidate (s : State) (k : Candidate) (d : Nat) :
    (s.putCandidate k).channel d = s.channel d := rfl

/-- The channel that a candidate starts in, in a given state, with its search and the SCNT of its phases. -/
def State.startedChannel (s : State) (k : Candidate) (carrier : Int) (rate cp kp : Nat) (start : Nat × Search × Nat) :
    Channel :=
  let v := Channel.enter { Channel.reset with
    sig := k.sig, sv := k.sv, carrier := signed40 carrier, codeRate := rate % 2 ^ 40, carrierPhase := cp % 2 ^ 40
    codePhase := kp % ((signalOf k.sig).code * 2 ^ 40), at_ := start.2.2, commanded := true
    loop := s.profile k.sig } start.1 start.2.1
  { v with spacing := v.loopSpacing }

/-- An allocation puts the started channel in the place of a free one, and leaves every other channel as it is. -/
theorem State.channel_allocate_of_free {s : State} {c : Nat} {k : Candidate} {carrier : Int} {kp : Nat}
    {start : Nat × Search × Nat} (hfree : s.channelFree c = true) (hstart : s.startOf k carrier kp = some start)
    (rate cp d : Nat) : (s.allocate c k carrier rate cp kp).channel d =
      if d = c then s.startedChannel k carrier rate cp kp start else s.channel d := by
  simp only [State.allocate, hfree, hstart, if_true, State.channel_gnsRefresh, State.channel_showChannel,
    State.channel_setChannel, State.channel_putCandidate]
  rfl

/-- Settles O44: a write that leaves the signal enabled touches no channel, the candidate that comes next is of a signal
below its cap, and where one comes next a free channel starts it. -/
theorem cutOfMaxch : Obligations.CutOfMaxch := by
  refine ⟨fun s ag g v ho hen hin => ?_, fun s c g sv carrier rate cp kp hcap => exec_allocate_of_maxch hcap ..,
    fun s c g sv st at_ carrier rate cp kp o k hruns hfw hmode ho hn hfree hstart => ?_⟩
  · refine ⟨s.plainWrite (Reg.GNS_SIG g.val) v, ?_, s.fld_plainWrite_maxch g v, s.keepsRegs_plainWrite _ _, ?_⟩
    · rw [exec_sigWrite_of_opens ho, State.writeSig_of_enabled hen hin]
    · obtain ⟨m, hm⟩ := (State.SameButRegs.refl s).plainWrite (Reg.GNS_SIG g.val) v
      rw [hm]
  · obtain ⟨hsig, hsv⟩ := State.sig_sv_of_candidate ho
    have hchannel := State.channel_allocate_of_free hfree hstart rate cp
    refine ⟨_, exec_allocate_of_next ho hn hruns hfw hmode .., ?_⟩
    rw [hchannel, if_pos rfl]
    exact ⟨rfl, hsig, hsv, rfl, rfl, rfl, fun d hd => (hchannel d).trans (if_neg hd)⟩

end Sys2Proof.Machine
end

section
/-!
What every command keeps: the queue of commands and the invariant. A relation between states that each operation of the
model extends, so that a command's proof follows the operations that it is made of.
-/
namespace Sys2Proof.Machine

/-- The parts of the state that the invariant and the queue of commands speak of. -/
abbrev State.guarded (s : State) : List (Nat × Word) × List Instr × List (Nat × Word) × List (Nat × Byte) × List (Nat × Byte) ×
    List (Nat × Byte) × List (Nat × Byte) × List (Nat × Byte) × List (Nat × Byte) × List (Nat × Channel) × List LogEntry :=
  (s.regs, s.pending, s.staged, s.gys.pool, s.gys.l, s.gys.banks, s.cores.sram, s.cores.gnss, s.gctl.flash,
    s.gns.channels, s.logWait)

/-- From s, t has been reached with the queue of commands as it was, and with the invariant if s met it. -/
structure State.Kept (s t : State) : Prop where
  pending : t.pending = s.pending
  inv : s.Inv → t.Inv

/-- Every next state of an answer keeps the queue and the invariant. -/
def State.Keeps (s : State) (o : Host.Outcome State Fault Refusal) : Prop := ∀ t, o = .next t → s.Kept t

theorem State.Keeps.next {s t : State} (h : s.Kept t) : s.Keeps (.next t) := by
  rintro _ ⟨⟩
  exact h

theorem State.Keeps.ite {s : State} {o p : Host.Outcome State Fault Refusal} {c : Prop} [Decidable c] (ho : s.Keeps o)
    (hp : s.Keeps p) : s.Keeps (if c then o else p) := by
  split
  · exact ho
  · exact hp

/-- The state that an instruction's answer carries. -/
def Act.state : Act → State
  | .next s => s
  | .goto s _ => s
  | .fault s _ _ _ => s
  | .wait s => s
  | .block s _ => s

namespace State.Kept

variable {s t u : State}

theorem refl (s : State) : s.Kept s := ⟨rfl, id⟩

/-- A state that differs in none of the guarded parts. -/
theorem frame (h : s.Kept t) (e : u.guarded = t.guarded := by rfl) : s.Kept u := by
  simp only [State.guarded, Prod.mk.injEq] at e
  obtain ⟨hregs, hpending, hstaged, hpool, hl, hbanks, hsram, hgnss, hflash, hchannels, hwait⟩ := e
  exact ⟨hpending.trans h.pending, fun hs => (h.inv hs).of_fields hregs hstaged hpool hl hbanks hsram hgnss hflash hchannels hwait⟩

theorem ite {c : Prop} [Decidable c] (ht : s.Kept t) (hu : s.Kept u) : s.Kept (if c then t else u) := by
  split
  · exact ht
  · exact hu

theorem foldl {α : Type} {f : State → α → State} (h : s.Kept t) (hf : ∀ {v}, s.Kept v → ∀ a, s.Kept (f v a)) (l : List α) :
    s.Kept (l.foldl f t) :=
  List.foldlRecOn l f h fun _ hv a _ => hf hv a

theorem wr (h : s.Kept t) (o : Nat) (v : Word) : s.Kept (t.wr o v) := ⟨h.pending, fun hs => (h.inv hs).wr o v⟩

theorem setFld (h : s.Kept t) (o lo n v : Nat) : s.Kept (t.setFld o lo n v) := h.wr ..

theorem setFlag (h : s.Kept t) (o i : Nat) (b : Bool) : s.Kept (t.setFlag o i b) := h.wr ..

theorem bump (h : s.Kept t) (o lo n k : Nat) : s.Kept (t.bump o lo n k) := h.wr ..

theorem advance (h : s.Kept t) (o lo n k : Nat) : s.Kept (t.advance o lo n k) := h.wr ..

theorem wr96 (h : s.Kept t) (o : Nat) (v : CT96) : s.Kept (t.wr96 o v) := ((h.wr ..).wr ..).wr ..

theorem wrWords (h : s.Kept t) (o : Nat) (ws : List Word) : s.Kept (t.wrWords o ws) := by
  induction ws generalizing t o with
  | nil => exact h
  | cons w ws ih => exact ih (h.wr o w) (o + 4)

theorem raise (h : s.Kept t) (k : Nat) (a b : Word) : s.Kept (t.raise k a b) := h.frame

theorem logEntry (h : s.Kept t) (e : LogEntry) : s.Kept (t.logEntry e) := by
  refine ⟨?_, fun hs => (h.inv hs).logEntry e⟩
  unfold State.logEntry
  split
  · exact h.pending
  · split <;> exact h.pending

theorem stage (h : s.Kept t) (o : Nat) (v : Word) : s.Kept (t.stage o v) := ⟨h.pending, fun hs => (h.inv hs).stage o v⟩

theorem unstage (h : s.Kept t) (o n : Nat) : s.Kept (t.unstage o n) := by
  induction n generalizing t with
  | zero => exact h
  | succ n ih => exact ih (h.stage ..)

theorem setChannel (h : s.Kept t) (c : Nat) (v : Channel) : s.Kept (t.setChannel c v) :=
  ⟨h.pending, fun hs => (h.inv hs).setChannel c v⟩

theorem poolStore (h : s.Kept t) (a : Nat) (bs : List Byte) : s.Kept (t.poolStore a bs) :=
  ⟨h.pending, fun hs => (h.inv hs).poolStore a bs⟩

theorem lStore (h : s.Kept t) (p a : Nat) (bs : List Byte) : s.Kept (t.lStore p a bs) :=
  ⟨h.pending, fun hs => (h.inv hs).lStore p a bs⟩

theorem placeImage (h : s.Kept t) (i : Fin 8 × Nat × List Byte) : s.Kept (t.placeImage i) :=
  ⟨h.pending, fun hs => (h.inv hs).placeImage i⟩

/-! Parts of the state replaced whole: none of them holds a guarded part. -/

theorem withFree (h : s.Kept t) (n : Nat) : s.Kept { t with free := n } := h.frame

theorem withSel (h : s.Kept t) (x : SelState) : s.Kept { t with sel := x } := h.frame

theorem withCpm (h : s.Kept t) (x : CpmState) : s.Kept { t with cpm := x } := h.frame

theorem withPair (h : s.Kept t) (x : PairState) : s.Kept { t with pair := x } := h.frame

theorem withDry (h : s.Kept t) (x : DryState) : s.Kept { t with dry := x } := h.frame

theorem withQueued (h : s.Kept t) (x : List Request) : s.Kept { t with gys := { t.gys with queued := x } } := h.frame

theorem withFired (h : s.Kept t) (x : List (Nat × Nat)) : s.Kept { t with gys := { t.gys with fired := x } } := h.frame

theorem withRecords (h : s.Kept t) (x : PcieState) (later post : List (Nat × Word)) (anchors : List (Nat × Nat × List Byte)) :
    s.Kept { t with pcie := x, gctl := { t.gctl with later := later, anchors := anchors, post := post } } := h.frame

end State.Kept

end Sys2Proof.Machine
end

section
/-! Each operation of the model keeps the queue and the invariant, in the order of the model's files. -/
namespace Sys2Proof.Machine

-- One theorem at a time: their number would take more threads than there is memory for.
set_option Elab.async false
namespace State.Kept

variable {s t u : State}

/-! ### Ops -/

theorem error (h : s.Kept t) (off bit src : Nat) : s.Kept (t.error off bit src) := .ite h ((h.setFlag ..).raise ..)

theorem sticky (h : s.Kept t) (off en bit src : Nat) (data0 data1 : Word) :
    s.Kept (t.sticky off en bit src data0 data1) := by
  unfold State.sticky
  split
  · exact h
  · extract_lets t
    have ht : s.Kept t := h.setFlag ..
    exact .ite (ht.raise ..) ht

theorem log (h : s.Kept t) (src : Nat) (data0 data1 : Word) (detail : Word64) (code : Nat) :
    s.Kept (t.log src data0 data1 detail code) :=
  h.logEntry ..

theorem countConfig (h : s.Kept t) (off : Nat) : s.Kept (t.countConfig off) := (h.bump ..).log ..

theorem drawn (h : s.Kept t) : s.Kept t.drawn := h.frame

theorem setPort (h : s.Kept t) (n : Nat) (p : PortState) : s.Kept (t.setPort n p) := h.frame

theorem portSticky (h : s.Kept t) (n bit : Nat) : s.Kept (t.portSticky n bit) := h.sticky ..

theorem grvSticky (h : s.Kept t) (bit : Nat) : s.Kept (t.grvSticky bit) := h.sticky ..

theorem suspectStamps (h : s.Kept t) (n k : Nat) : s.Kept (t.suspectStamps n k) := .ite h ((h.bump ..).portSticky ..)

theorem disarm (h : s.Kept t) (o : CmpOwner) : s.Kept (t.disarm o) := h.frame

theorem arm (h : s.Kept t) (o : CmpOwner) (target : Word64) : s.Kept (t.arm o target) := h.frame

theorem complete (h : s.Kept t) (c : Completion) : s.Kept (t.complete c) := h.frame

theorem badAccess (h : s.Kept t) (cause off : Nat) (write : Bool) : s.Kept (t.badAccess cause off write) := by
  unfold State.badAccess
  extract_lets t
  have ht : s.Kept t := h.bump ..
  exact .ite ht (ht.wr ..)

/-- A write keeps where its effect does. -/
theorem writeAccess (h : s.Kept t) {ag : Agent} {o : Nat} {v : Word} {k : State → State} (hk : s.Kept (k t)) :
    s.Kept (t.writeAccess ag o v k) := by
  rcases t.writeAccess_cases ag o v k with e | e | e | e | e <;> rw [e]
  · exact h
  · exact hk
  · exact h.badAccess ..
  · exact h.badAccess ..
  · exact h.frame

/-- A read keeps where its effect does. -/
theorem readAccess (h : s.Kept t) {ag : Agent} {o : Nat} {k : State → Word × State} (hk : s.Kept (k t).2) :
    s.Kept (t.readAccess ag o k) := by
  unfold State.readAccess
  split
  · exact h
  · split
    · exact hk.complete ..
    · exact (h.badAccess ..).complete ..
    · exact (h.badAccess ..).complete ..
    · exact h.frame

theorem plainWrite (h : s.Kept t) (off : Nat) (v : Word) : s.Kept (t.plainWrite off v) := by
  unfold State.plainWrite
  split
  · exact h
  · exact h.wr ..

theorem plainRead (h : s.Kept t) (off : Nat) : s.Kept (t.plainRead off).2 := by
  unfold State.plainRead
  split
  · exact h
  · exact .ite h (h.wr ..)

theorem drewBytes (h : s.Kept t) (n : Nat) : s.Kept (t.drewBytes n) := h.frame

/-! ### Caldera -/

theorem calError (h : s.Kept t) (bit : Nat) : s.Kept (t.calError bit) := h.error ..

theorem tclkEdge (h : s.Kept t) : s.Kept t.tclkEdge := .ite h h.frame

theorem loadReplica (h : s.Kept t) (r : Nat) : s.Kept (t.loadReplica r) := h.frame

theorem reportMismatches (h : s.Kept t) (rs : List Nat) : s.Kept (t.reportMismatches rs) := by
  induction rs generalizing t with
  | nil => exact h
  | cons r rs ih => exact ih ((h.raise ..).log ..)

theorem markStamps (h : s.Kept t) (bad : List Nat) : s.Kept (t.markStamps bad) := by
  unfold State.markStamps
  extract_lets t _ _ u
  have ht : s.Kept t := by
    unfold t
    refine h.foldl (fun hu a => ?_) _
    extract_lets _ _ v
    have hv : s.Kept v := .ite hu (hu.setPort ..)
    exact .ite (hv.suspectStamps ..) hv
  have hu : s.Kept u := ht.frame
  exact .ite (hu.grvSticky ..) hu

theorem exec_replicaCompare (h : s.Kept t) : s.Keeps (execReplicaCompare t) := by
  unfold Machine.execReplicaCompare
  extract_lets _ _ t u
  have ht : s.Kept t := h.markStamps ..
  have hu : s.Kept u := ht.frame
  exact .next (hu.reportMismatches ..)

theorem commitIncr (h : s.Kept t) : s.Kept t.commitIncr := by
  unfold State.commitIncr
  extract_lets _ _ t u
  have ht : s.Kept t := .ite (h.calError ..) h
  have hu : s.Kept u := ht.setFlag ..
  exact .ite (h.calError ..) hu.frame

theorem writeIncrL (h : s.Kept t) (ag : Agent) (v : Word) : s.Kept (t.writeIncrL ag v) := .ite (h.wr ..) (h.calError ..)

theorem writeIncrH (h : s.Kept t) (ag : Agent) (v : Word) : s.Kept (t.writeIncrH ag v) :=
  .ite (h.wr ..).commitIncr (h.calError ..)

theorem applyIncr (h : s.Kept t) : s.Kept t.applyIncr := by
  unfold State.applyIncr
  split
  · split
    · extract_lets t
      have ht : s.Kept t := ((h.wr ..).wr ..).setFlag ..
      exact ht.frame.raise ..
    · exact h
  · exact h

theorem writeCalCtrl (h : s.Kept t) (v : Word) : s.Kept (t.writeCalCtrl v) := .ite (h.calError ..) (h.plainWrite ..)

theorem stepGo (h : s.Kept t) (v : Word) : s.Kept (t.stepGo v) := by
  unfold State.stepGo
  split
  · exact h.calError ..
  · split
    · exact h.calError ..
    · extract_lets _ t
      have ht : s.Kept t := (h.setFlag ..).setFlag ..
      exact .ite (h.calError ..) ht.frame

theorem stepAbort (h : s.Kept t) : s.Kept t.stepAbort := by
  unfold State.stepAbort
  split
  · extract_lets t
    have ht : s.Kept t := (h.setFlag ..).setFlag ..
    exact ht.frame.raise ..
  · exact h

theorem writeStepCmd (h : s.Kept t) (v : Word) : s.Kept (t.writeStepCmd v) := .ite (h.stepGo ..) (.ite h.stepAbort h)

theorem readNow (h : s.Kept t) (w : Nat) : s.Kept (t.readNow w).2 := by
  unfold State.readNow
  extract_lets t
  have ht : s.Kept t := .ite (h.wr96 ..) h
  exact ht

theorem snapshot (h : s.Kept t) : s.Kept t.snapshot := by
  unfold State.snapshot
  extract_lets t u v
  have ht : s.Kept t := h.wr96 ..
  have hu : s.Kept u := ht.setFlag ..
  have hv : s.Kept v := hu.setFld ..
  exact (hv.advance ..).raise ..

theorem commitUtc (h : s.Kept t) (force : Bool) : s.Kept (t.commitUtc force) := by
  unfold State.commitUtc
  split
  · exact h.calError ..
  · extract_lets t
    have ht : s.Kept t := h.setFlag ..
    exact ht.frame

theorem refreshUtc (h : s.Kept t) : s.Kept t.refreshUtc := by
  unfold State.refreshUtc
  extract_lets _ _ t v w
  have ht : s.Kept t := h.setFld ..
  have hv : s.Kept v := ht.setFld ..
  have hw : s.Kept w := hv.setFlag ..
  exact hw.setFlag ..

theorem applyStep (h : s.Kept t) (p : PendStep) : s.Kept (t.applyStep p) := by
  unfold State.applyStep
  extract_lets t u v w
  have ht : s.Kept t := h.frame
  have hu : s.Kept u := (ht.setFlag ..).setFlag ..
  have hv : s.Kept v := hu.advance ..
  have hw : s.Kept w := .ite (hv.setFlag ..) hv
  exact (hw.refreshUtc.raise ..).log ..

theorem applyUtc (h : s.Kept t) (p : PendUtc) : s.Kept (t.applyUtc p) := by
  unfold State.applyUtc
  extract_lets t _ u _ _ v
  have ht : s.Kept t := h.setFlag ..
  have hu : s.Kept u := ht.frame
  have hv : s.Kept v := hu.frame
  exact .ite (.ite ((hu.calError ..).countConfig ..) (hu.calError ..)) (.ite (.ite ((hu.calError ..).countConfig ..) (hu.calError ..)) ((hv.advance ..).refreshUtc.raise ..))

theorem exec_utcApply (h : s.Kept t) : s.Keeps (execUtcApply t) := by
  unfold Machine.execUtcApply
  split
  · exact .next (.ite (h.applyUtc ..) h)
  · exact .next h

theorem notePtm (h : s.Kept t) : s.Kept t.notePtm := h.setFlag ..

theorem ptmStart (h : s.Kept t) (phase : Nat) : s.Kept (t.ptmStart phase) := by
  unfold State.ptmStart
  split
  · exact h.notePtm
  · extract_lets t
    have ht : s.Kept t := h.notePtm.setFlag ..
    exact ht.frame

theorem ptmEnd (h : s.Kept t) (phase : Nat) : s.Kept (t.ptmEnd phase) := by
  unfold State.ptmEnd
  extract_lets t _ u
  have ht : s.Kept t := h.setFlag ..
  have hu : s.Kept u := ht.frame
  exact .ite hu (hu.frame.ptmStart ..)

theorem ptmFail (h : s.Kept t) : s.Kept t.ptmFail := (h.bump ..).raise ..

theorem ptmDue (h : s.Kept t) (phase : Nat) : s.Kept (t.ptmDue phase) := .ite (h.ptmStart ..) h.frame

theorem writePtmCtrl (h : s.Kept t) (v : Word) (phase : Nat) : s.Kept (t.writePtmCtrl v phase) := by
  unfold State.writePtmCtrl
  split
  · exact h.calError ..
  · extract_lets t
    have ht : s.Kept t := h.plainWrite ..
    exact .ite (ht.ptmDue ..) ht

theorem ptmRecord (h : s.Kept t) (t1 t4 : CT96) (t2 turnaround : Nat) : s.Kept (t.ptmRecord t1 t4 t2 turnaround) := by
  unfold State.ptmRecord
  extract_lets _ _ t
  have ht : s.Kept t := h.frame
  exact .ite h.ptmFail (((ht.advance ..).setFlag ..).raise ..)

theorem exec_ptmResponse (h : s.Kept t) (phase t2 turnaround : Nat) (earlier : Bool) :
    s.Keeps (execPtmResponse phase t2 turnaround earlier t) := by
  unfold Machine.execPtmResponse
  split
  · exact .next h
  · next t1 _ =>
    have hu : s.Kept { t with cal := { t.cal with ptmBefore := some (t1, t.stamp replicaPtm phase) } } := h.frame
    refine .next (.ptmEnd ?_ ..)
    split
    · exact hu.ptmRecord ..
    · exact hu.ptmFail

theorem exec_ptmTimeout (h : s.Kept t) (phase : Nat) : s.Keeps (execPtmTimeout phase t) := by
  unfold Machine.execPtmTimeout
  split
  · exact .next h
  · exact .next (h.ptmFail.ptmEnd ..)

theorem readPtmStatus (h : s.Kept t) : s.Kept t.readPtmStatus.2 := by
  unfold State.readPtmStatus
  extract_lets t u
  have ht : s.Kept t := h.wr96 ..
  have hu : s.Kept u := ((ht.wr ..).wr ..).wr ..
  exact hu.plainRead ..

theorem calWrite (h : s.Kept t) (ag : Agent) (off : Nat) (v : Word) : s.Kept (t.calWrite ag off v) :=
  .ite (h.writeCalCtrl ..) (.ite (h.writeIncrL ..) (.ite (h.writeIncrH ..) (.ite (h.writeStepCmd ..) (.ite (.ite h.snapshot h) (.ite (h.writePtmCtrl ..) (.ite (.ite (h.plainWrite ..) (h.calError ..)) (.ite (.ite (h.commitUtc ..) h) (h.plainWrite ..))))))))

theorem calRead (h : s.Kept t) (off : Nat) : s.Kept (t.calRead off).2 := by
  unfold State.calRead
  split
  · exact h.readNow ..
  · split
    · exact h.readPtmStatus
    · exact h.plainRead ..

/-! ### Ecc -/

theorem verdict (h : s.Kept t) (unit code : Nat) : s.Kept (t.verdict unit code) := by
  unfold State.verdict
  extract_lets _ t
  have ht : s.Kept t := (h.raise ..).log ..
  exact .ite (ht.setFlag ..) ht

theorem startTest (h : s.Kept t) (unit row : Nat) : s.Kept (t.startTest unit row) :=
  .ite h (.ite h (.ite h.frame (.ite h.frame ((h.verdict ..).setFlag ..))))

theorem endTest (h : s.Kept t) (unit row : Nat) : s.Kept (t.endTest unit row) := h.frame

theorem report (h : s.Kept t) (src : Nat) (data0 data1 : Word) (detail : Word64) :
    s.Kept (t.report src data0 data1 detail) :=
  (h.raise ..).log ..

theorem eccReport (h : s.Kept t) (mem addr : Nat) : s.Kept (t.eccReport mem addr) := by
  unfold State.eccReport
  extract_lets t
  have ht : s.Kept t := ((h.bump ..).setFlag ..).report ..
  exact ht.startTest ..

theorem markPoison (h : s.Kept t) (mem addr : Nat) : s.Kept (t.markPoison mem addr) := .ite h h.frame

theorem eccError (h : s.Kept t) (mem addr : Nat) : s.Kept (t.eccError mem addr) := (h.markPoison ..).eccReport ..

theorem packetError (h : s.Kept t) : s.Kept t.packetError := h.drawn.eccReport ..

theorem clearPoison (h : s.Kept t) (mem a n : Nat) : s.Kept (t.clearPoison mem a n) := h.frame

theorem queueMirror (h : s.Kept t) (line : Nat) : s.Kept (t.queueMirror line) := by
  unfold State.queueMirror
  split
  · exact h.frame
  · extract_lets t
    have ht : s.Kept t := ((h.bump ..).setFlag ..).raise ..
    exact ht.frame

theorem poolWrite (h : s.Kept t) (who : PoolWriter) (a : Nat) (bs : List Byte) : s.Kept (t.poolWrite who a bs) :=
  .ite (h.bump ..) (.ite ((h.poolStore ..).queueMirror ..) (h.poolStore ..))

theorem poolWriteLines (h : s.Kept t) (who : PoolWriter) (n a : Nat) (bs : List Byte) :
    s.Kept (t.poolWriteLines who n a bs) := by
  induction n generalizing t a bs with
  | zero => exact h
  | succ n ih => exact .ite (h.poolWrite ..) (ih (h.poolWrite ..) _ _)

/-! ### Rings -/

theorem setRing (h : s.Kept t) (r : Nat) (x : RingState) : s.Kept (t.setRing r x) := h.frame

theorem dmaSticky (h : s.Kept t) (b : Nat) : s.Kept (t.dmaSticky b) := h.sticky ..

theorem dmaError (h : s.Kept t) (b : Nat) : s.Kept (t.dmaError b) := h.error ..

theorem quotaAfter (h : s.Kept t) (u : State) : s.Kept (t.quotaAfter u) := .ite (h.dmaSticky ..) h

theorem frameEnded (h : s.Kept t) (f : Frame) (status : Nat) (stamp : Stamp) :
    s.Kept (t.frameEnded f status stamp) := by
  unfold State.frameEnded
  split
  · exact h
  · exact h.setRing ..

/-! ### Ports -/

theorem countStamp (h : s.Kept t) (n : Nat) : s.Kept (t.countStamp n) := .ite (h.suspectStamps ..) (h.setPort ..)

theorem portRefused (h : s.Kept t) (n : Nat) (b : Bool) : s.Kept (t.portRefused n b) := h.setFlag ..

theorem linkDown (h : s.Kept t) (n : Nat) : s.Kept (t.linkDown n) := by
  unfold State.linkDown
  extract_lets t
  have ht : s.Kept t := h.setFld ..
  exact .ite ((ht.portSticky ..).raise ..) ht

theorem writeQuad (h : s.Kept t) (q : Nat) (v : Word) : s.Kept (t.writeQuad q v) := by
  unfold State.writeQuad
  split
  · exact (h.setFlag ..).portRefused ..
  · extract_lets t u w
    have ht : s.Kept t := (h.plainWrite ..).setFlag ..
    have hu : s.Kept u := (ht.setFlag ..).portRefused ..
    have hw : s.Kept w := hu.foldl (fun hu _ => hu.linkDown ..) _
    exact .ite (hw.setFlag ..) hw

theorem exec_linkDown (h : s.Kept t) (n : Fin 16) (cdr : Option (Fin 16)) : s.Keeps (execLinkDown n cdr t) := by
  unfold Machine.execLinkDown
  extract_lets t
  have ht : s.Kept t := h.linkDown ..
  split
  · exact .next ht
  · exact .next (.ite (ht.startTest ..) ht)

theorem pauseRx (h : s.Kept t) (n quanta : Nat) : s.Kept (t.pauseRx n quanta) := by
  unfold State.pauseRx
  extract_lets t _ u
  have ht : s.Kept t := h.portSticky ..
  have hu : s.Kept u := .ite (ht.portSticky ..) ht
  exact .ite ht ((hu.setPort ..).setFlag ..)

theorem macControl (h : s.Kept t) (n : Nat) (bs : List Byte) : s.Kept (t.macControl n bs) := by
  unfold State.macControl
  extract_lets t
  have ht : s.Kept t := h.bump ..
  exact .ite (ht.pauseRx ..) ht

theorem loopCalRx (h : s.Kept t) (n phase : Nat) : s.Kept (t.loopCalRx n phase) := by
  unfold State.loopCalRx
  extract_lets
  split
  · exact h
  · split
    · exact h.setPort ..
    · extract_lets _ _ t
      have ht : s.Kept t := h.setPort ..
      exact .ite ht ((ht.wr ..).setFlag ..)

theorem receive (h : s.Kept t) (n : Nat) (bs : List Byte) (phase : Nat) : s.Kept (t.receive n bs phase) := h.setPort ..

theorem dropRx (h : s.Kept t) (n : Nat) : s.Kept (t.dropRx n) := h.bump ..

theorem exec_frameRx (h : s.Kept t) (n : Fin 16) (bs : List Byte) (corrected : Nat) (fecOk fcsOk : Bool) (phase : Nat) :
    s.Keeps (execFrameRx n bs corrected fecOk fcsOk phase t) := by
  unfold Machine.execFrameRx
  extract_lets _ t
  have ht : s.Kept t := ((h.countStamp ..).bump ..).bump ..
  exact .ite (.next h) (.next (.ite ((ht.dropRx ..).portSticky ..) (.ite (ht.dropRx ..) (.ite (ht.macControl ..) (.ite (ht.loopCalRx ..) (.ite (ht.dropRx ..) (.ite ((ht.dropRx ..).portSticky ..) (ht.receive ..))))))))

theorem dropTx (h : s.Kept t) (n : Nat) : s.Kept (t.dropTx n) := h.bump ..

theorem send (h : s.Kept t) (n : Nat) (bs : List Byte) : s.Kept (t.send n bs) := h.frame

theorem capture (h : s.Kept t) (n : Nat) (f : Frame) (t' : Stamp) : s.Kept (t.capture n f t') :=
  .ite h (.ite (h.setPort ..) ((h.bump ..).portSticky ..))

theorem txCommit (h : s.Kept t) (n : Nat) (f : Frame) (phase : Nat) : s.Kept (t.txCommit n f phase) := by
  unfold State.txCommit
  split
  · exact (h.dropTx ..).frameEnded ..
  · split
    · exact (h.packetError.dropTx ..).frameEnded ..
    · split
      · exact ((h.dropTx ..).portSticky ..).frameEnded ..
      · extract_lets _ t
        have ht : s.Kept t := h.countStamp ..
        exact (((ht.capture ..).bump ..).send ..).frameEnded ..

theorem ageDrop (h : s.Kept t) (n : Nat) (f : Frame) : s.Kept (t.ageDrop n f) := (h.dropTx ..).frameEnded ..

theorem exec_frameTxCommit (h : s.Kept t) (n : Fin 16) (phase : Nat) : s.Keeps (execFrameTxCommit n phase t) := by
  unfold Machine.execFrameTxCommit
  extract_lets
  split
  · exact .next h
  · split
    · exact .next h
    · extract_lets t
      have ht : s.Kept t := h.setPort ..
      exact .next (.ite (ht.ageDrop ..) (ht.txCommit ..))

theorem exec_txageExpire (h : s.Kept t) (n : Fin 16) : s.Keeps (execTxageExpire n t) := by
  unfold Machine.execTxageExpire
  extract_lets
  split
  · exact .next h
  · exact .next (.ite ((h.setPort ..).ageDrop ..) h)

theorem enqueueTx (h : s.Kept t) (f : Frame) : s.Kept (t.enqueueTx f) := h.setPort ..

theorem writeCalPort (h : s.Kept t) (n : Nat) (v : Word) : s.Kept (t.writeCalPort n v) := by
  unfold State.writeCalPort
  extract_lets _ _ t
  have ht : s.Kept t := (h.plainWrite ..).portRefused ..
  exact .ite (h.portRefused ..) (.ite (ht.linkDown ..) (.ite ((ht.setFlag ..).setPort ..) ht))

theorem exec_calpatEdge (h : s.Kept t) (n : Fin 16) (phase : Nat) : s.Keeps (execCalpatEdge n phase t) := by
  unfold Machine.execCalpatEdge
  extract_lets _ t
  have ht : s.Kept t := h.countStamp ..
  exact .next (.ite ((ht.setPort ..).advance ..) h)

theorem exec_loopcalFrameTx (h : s.Kept t) (n : Fin 16) (phase : Nat) : s.Keeps (execLoopcalFrameTx n phase t) := by
  unfold Machine.execLoopcalFrameTx
  extract_lets _ t
  have ht : s.Kept t := h.countStamp ..
  exact .next (.ite (((ht.setPort ..).bump ..).send ..) h)

theorem readCalTx (h : s.Kept t) (n w : Nat) : s.Kept (t.readCalTx n w).2 := by
  unfold State.readCalTx
  extract_lets t
  have ht : s.Kept t := .ite (h.wr96 ..) h
  exact ht

theorem portWrite (h : s.Kept t) (off : Nat) (v : Word) : s.Kept (t.portWrite off v) := by
  unfold State.portWrite
  extract_lets _ _ _ t
  have ht : s.Kept t := (h.plainWrite ..).portRefused ..
  exact .ite (h.writeQuad ..) (.ite (h.writeCalPort ..) (.ite (h.portRefused ..) (.ite (ht.linkDown ..) ht)))

theorem portRead (h : s.Kept t) (off : Nat) : s.Kept (t.portRead off).2 := by
  unfold State.portRead
  extract_lets
  split
  · exact h.readCalTx ..
  · split
    · exact h
    · exact h.plainRead ..

/-! ### Array -/

theorem setCtx (h : s.Kept t) (p c : Nat) (x : Context) : s.Kept (t.setCtx p c x) := h.frame

theorem gysSticky (h : s.Kept t) (b : Nat) : s.Kept (t.gysSticky b) := h.sticky ..

theorem gysParam (h : s.Kept t) : s.Kept t.gysParam := h.gysSticky ..

theorem checkOld (h : s.Kept t) : s.Kept t.checkOld := by
  unfold State.checkOld
  split
  · exact h
  · split
    · exact h
    · refine .raise ?_ ..
      extract_lets u
      have hu : s.Kept u := h.setFlag ..
      exact hu.frame

theorem admitDrop (h : s.Kept t) (k : Nat) : s.Kept (t.admitDrop k) := ((h.bump ..).gysSticky ..).checkOld

theorem enqueueRequest (h : s.Kept t) (r : Request) : s.Kept (t.enqueueRequest r) :=
  .ite (h.admitDrop ..) (.ite (h.admitDrop ..) h.frame)

theorem moveFrames (h : s.Kept t) (l : Nat) (rs : List Request) : s.Kept (t.moveFrames l rs) := by
  induction rs generalizing t l with
  | nil => exact h
  | cons r rs ih =>
    unfold State.moveFrames
    split
    · exact ih (h.admitDrop ..) _
    · exact ih (h.enqueueRequest ..) _

theorem dropRequests (h : s.Kept t) (rs : List Request) : s.Kept (t.dropRequests rs) := by
  induction rs generalizing t with
  | nil => exact h
  | cons r rs ih => exact ih (h.admitDrop ..)

theorem drainTile (h : s.Kept t) (l : Nat) : s.Kept (t.drainTile l) := by
  unfold State.drainTile
  extract_lets t _ _ _ _ _ u
  have ht : s.Kept t := h.setFlag ..
  have hu : s.Kept u := ht.frame
  exact ((hu.moveFrames ..).dropRequests ..).checkOld

theorem oweInit (h : s.Kept t) (l b : Nat) (afterOld : Bool) : s.Kept (t.oweInit l b afterOld) := h.frame

theorem returnTile (h : s.Kept t) (l : Nat) : s.Kept (t.returnTile l) := by
  unfold State.returnTile
  extract_lets _ u t
  have hu : s.Kept u := h.frame
  have ht : s.Kept t := hu.setFlag ..
  exact .ite (.ite (ht.frame.raise ..) ht) hu

theorem initAndReturn (h : s.Kept t) (l : Nat) : s.Kept (t.initAndReturn l) :=
  .ite h (.ite (h.returnTile ..) (h.oweInit ..))

theorem switchTo (h : s.Kept t) (b : Nat) (quiesce : Bool) : s.Kept (t.switchTo b quiesce) := by
  unfold State.switchTo
  extract_lets _ t _ u
  have ht : s.Kept t := (h.setFld ..).setFlag ..
  have hu : s.Kept u := ht.frame.raise ..
  exact .checkOld (.ite hu (hu.setFlag ..))

theorem carrySwitch (h : s.Kept t) : s.Kept t.carrySwitch := by
  unfold State.carrySwitch
  split
  · exact h
  · exact h.switchTo ..

theorem latchFault (h : s.Kept t) (p c code aux addr : Nat) : s.Kept (t.latchFault p c code aux addr) :=
  .ite h (((h.wr ..).wr ..).wr ..)

theorem recordKill (h : s.Kept t) (p c code aux addr : Nat) : s.Kept (t.recordKill p c code aux addr) := by
  unfold State.recordKill
  extract_lets t u
  have ht : s.Kept t := (h.bump ..).latchFault ..
  have hu : s.Kept u := .ite ht (ht.log ..)
  exact hu.gysSticky ..

theorem initKilled (h : s.Kept t) (l : Nat) : s.Kept (t.initKilled l) := by
  unfold State.initKilled
  extract_lets _ t
  have ht : s.Kept t := h.frame
  exact (ht.gysSticky ..).drainTile ..

theorem kill (h : s.Kept t) (p c code aux addr : Nat) : s.Kept (t.kill p c code aux addr) := by
  unfold State.kill
  extract_lets _ t
  have ht : s.Kept t := (h.recordKill ..).setCtx ..
  exact .ite (ht.initKilled ..) ht

theorem staleEnd (h : s.Kept t) (p c : Nat) : s.Kept (t.staleEnd p c) :=
  ((((h.bump ..).bump ..).gysSticky ..).latchFault ..).setCtx ..

theorem staleDrop (h : s.Kept t) (pclass : Nat) : s.Kept (t.staleDrop pclass) := ((h.bump ..).gysSticky ..).checkOld

/-! ### Threads -/

theorem setCore (h : s.Kept t) (k : Nat) (c : CoreState) : s.Kept (t.setCore k c) := h.frame

theorem setTh (h : s.Kept t) (x : Ctx) (t' : Thread) : s.Kept (t.setTh x t') := by
  unfold State.setTh
  split
  · exact h.setCtx ..
  · exact h.setCore ..

theorem setG (h : s.Kept t) (x : Ctx) (r : Nat) (v : Word64) : s.Kept (t.setG x r v) := h.setTh ..

theorem setT (h : s.Kept t) (x : Ctx) (r : Nat) (v : CT96) : s.Kept (t.setT x r v) := h.setTh ..

theorem coreTrap (h : s.Kept t) (k code imm addr : Nat) : s.Kept (t.coreTrap k code imm addr) :=
  .ite ((h.setCore ..).setFlag ..) (h.setCore ..)

theorem faultAt (h : s.Kept t) (x : Ctx) (code imm addr : Nat) : s.Kept (t.faultAt x code imm addr) := by
  unfold State.faultAt
  split
  · exact h.kill ..
  · exact h.coreTrap ..

theorem makeNewest (h : s.Kept t) (x : Ctx) : s.Kept (t.makeNewest x) := by
  unfold State.makeNewest
  split
  · extract_lets _ t
    have ht : s.Kept t := h.setCtx ..
    exact ht.frame
  · exact h

/-- Only the state that a completion has led to matters. -/
theorem readied (h : s.Kept u) (t : State) (x : Ctx) : s.Kept (t.readied u x) := .ite (h.makeNewest ..) h

theorem coreInterrupt (h : s.Kept t) (k : Nat) : s.Kept (t.coreInterrupt k) := by
  unfold State.coreInterrupt
  extract_lets
  split
  · exact h.setCore ..
  · exact h.setCore ..

/-! ### Flags -/

theorem setCyOv (h : s.Kept t) (x : Ctx) (cy ov : Bool) : s.Kept (t.setCyOv x cy ov) := h.setTh ..

theorem setOv (h : s.Kept t) (x : Ctx) (ov : Bool) : s.Kept (t.setOv x ov) := h.setTh ..

theorem setSus (h : s.Kept t) (x : Ctx) (b : Bool) : s.Kept (t.setSus x b) := h.setTh ..

theorem setRes (h : s.Kept t) (x : Ctx) (b : Bool) : s.Kept (t.setRes x b) := h.setTh ..

/-! ### Walzor -/

theorem retire (h : s.Kept t) (x : Ctx) (pc : Nat) : s.Kept (t.retire x pc) := h.setTh ..

theorem setStatus (h : s.Kept t) (x : Ctx) (st : ThreadStatus) : s.Kept (t.setStatus x st) := h.setTh ..

theorem finish {a : Act} (h : s.Kept a.state) (x : Ctx) (pc : Nat) : s.Kept (a.finish x pc) := by
  cases a with
  | next v => exact State.Kept.retire h x (nextPc pc)
  | goto v target => exact State.Kept.retire h x target
  | fault v code imm addr => exact State.Kept.faultAt h x code imm addr
  | wait v => exact State.Kept.setStatus h x .waiting
  | block v c => exact State.Kept.setStatus h x (.blocked c)

/-- An instruction keeps where its body does. -/
theorem issue (h : s.Kept t) {x : Ctx} {e : Enc} {n : Needs} {body : Word → State → Act}
    (hb : ∀ w, s.Kept (body w t).state) : s.Kept (t.issue x e n body) :=
  .ite h (.ite (h.faultAt ..) (.ite (h.setStatus ..) (.ite (h.setStatus ..) ((hb _).finish ..))))

theorem issueRd (h : s.Kept t) (x : Ctx) (e : Enc) (n : Needs) (f : Word → Word64) : s.Kept (t.issueRd x e n f) :=
  h.issue fun _ => h.setG ..

theorem lRead_error (h : s.Kept t) {p : Nat} {x : Context} {c a n : Nat} {e : State × Nat × Nat}
    (he : t.lRead p x c a n = .error e) : s.Kept e.1 := by
  unfold State.lRead at he
  split at he
  · cases he
    exact h
  · split at he
    · cases he
      exact h.eccError ..
    · cases he

theorem spoil (h : s.Kept t) (p : Nat) (c : Option Nat) (ws : List (Nat × Nat)) : s.Kept (t.spoil p c ws) := h.frame

theorem lWrite_error (h : s.Kept t) {p : Nat} {x : Context} {c a : Nat} {bs : List Byte} {e : State × Nat × Nat}
    (he : t.lWrite p x c a bs = .error e) : s.Kept e.1 := by
  unfold State.lWrite at he
  split at he
  · cases he
    exact h
  · split at he
    · cases he
      exact h.eccError ..
    · cases he

theorem lWrite_ok (h : s.Kept t) {p : Nat} {x : Context} {c a : Nat} {bs : List Byte}
    (he : t.lWrite p x c a bs = .ok u) : s.Kept u := by
  unfold State.lWrite at he
  split at he
  · cases he
  · split at he
    · cases he
    · cases he
      exact (h.spoil ..).lStore ..

theorem pAccess (h :
    s.Kept t) {x : Context} {a n : Nat} {write : Bool} {k : Frame → Act} (hk : ∀ f, s.Kept (k f).state) :
    s.Kept (t.pAccess x a n write k).state := by
  unfold State.pAccess
  split
  · exact h
  · split
    · exact h
    · split
      · exact h
      · split
        · exact h.packetError
        · exact hk _

theorem setFrame (h : s.Kept t) (x : Ctx) (f : Frame) : s.Kept (t.setFrame x f) := by
  unfold State.setFrame
  split
  · exact h.setCtx ..
  · exact h

theorem writeFrame (h : s.Kept t) (x : Ctx) (f : Frame) (ws : List (Nat × Nat)) : s.Kept (t.writeFrame x f ws) := by
  unfold State.writeFrame
  split
  · exact (h.spoil ..).setFrame ..
  · exact h

theorem startOp (h : s.Kept t) (x : Ctx) (k : LongKind) (dst : Option Nat) : s.Kept (t.startOp x k dst) := h.setTh ..

theorem postStore (h : s.Kept t) (x : Ctx) (a : Nat) (bs : List Byte) : s.Kept (t.postStore x a bs).state := by
  unfold State.postStore
  extract_lets
  split
  · exact h
  · exact h.setTh ..

/-! ### Alu -/

theorem alu (h : s.Kept t) (x : Ctx) (e : Enc) (f : Word64 → Word64 → Word64) : s.Kept (t.alu x e f) :=
  h.issue fun _ => h.setG ..

theorem aluFlags (h : s.Kept t) (x : Ctx) (e : Enc) (f : Word64 → Word64 → Word64) (cy ov : Word64 → Word64 → Bool) :
    s.Kept (t.aluFlags x e f cy ov) := by
  unfold State.aluFlags
  refine h.issue fun _ => ?_
  exact (h.setG ..).setCyOv ..

theorem aluImm (h : s.Kept t) (x : Ctx) (e : Enc) (f : Word64 → Word → Word64) : s.Kept (t.aluImm x e f) :=
  h.issue fun _ => h.setG ..

theorem exec_addi (h : s.Kept t) (x : Ctx) : s.Keeps (execAddi x t) := by
  unfold Machine.execAddi
  refine .next (h.issue fun _ => ?_)
  exact (h.setG ..).setCyOv ..

theorem jumpTo {x : Ctx} {target : Int} (ht : s.Kept t) (hu : s.Kept u) : s.Kept (jumpTo x u t target).state := by
  unfold Machine.jumpTo
  split
  · exact ht
  · exact hu

theorem branch (h : s.Kept t) (x : Ctx) (e : Enc) (taken : Word64 → Word64 → Bool) : s.Kept (t.branch x e taken) := by
  unfold State.branch
  refine h.issue fun _ => ?_
  split
  · exact h.jumpTo h
  · exact h

theorem branchFlag (h : s.Kept t) (x : Ctx) (e : Enc) (want : Bool) : s.Kept (t.branchFlag x e want) := by
  unfold State.branchFlag
  refine h.issue fun _ => ?_
  split
  · exact h.jumpTo h
  · exact h

/-! ### BigNumber -/

theorem writeSlot (h : s.Kept t) (slot w v : Nat) : s.Kept (t.writeSlot slot w v) := h.wrWords ..

theorem scribble (h : s.Kept t) (slot : Nat) : s.Kept (t.scribble slot) := by
  unfold State.scribble
  extract_lets u
  have hu : s.Kept u := h.wrWords ..
  exact hu.withFree _

theorem uInvalid (h : s.Kept t) : s.Kept t.uInvalid := ((h.setFlag ..).setFld ..).raise ..

theorem drawnBetween (h : s.Kept t) (lo hi : Nat) : s.Kept (t.drawnBetween lo hi) := .ite h h.drawn

theorem showBne (h : s.Kept t) : s.Kept t.showBne := by
  unfold State.showBne
  extract_lets _ t
  have ht : s.Kept t := (h.setFld ..).setFlag ..
  split
  · exact ht.setFlag ..
  · exact ht

theorem bneComplete (h : s.Kept t) (p status ns : Nat) : s.Kept (t.bneComplete p status ns) := by
  unfold State.bneComplete
  extract_lets t u
  have ht : s.Kept t := h.advance ..
  have hu : s.Kept u := (ht.setFld ..).setFld ..
  exact (hu.wr ..).raise ..

theorem bneRefuse (h : s.Kept t) (p status : Nat) : s.Kept (t.bneRefuse p status) := h.drawn.bneComplete ..

theorem bneDropPending (h : s.Kept t) : s.Kept t.bneDropPending := by
  unfold State.bneDropPending
  extract_lets _ t
  have ht : s.Kept t := h.frame.foldl (fun hu _ => hu.bneRefuse ..) _
  exact ht.showBne

theorem bneEnd (h : s.Kept t) (c : BneCommand) (status ns : Nat) : s.Kept (t.bneEnd c status ns) := by
  unfold State.bneEnd
  extract_lets _ t u
  have ht : s.Kept t := h.frame
  have hu : s.Kept u := (ht.bneComplete ..).showBne
  exact .ite hu.uInvalid hu

theorem bneSubmit (h : s.Kept t) (p : Nat) : s.Kept (t.bneSubmit p) := by
  unfold State.bneSubmit
  extract_lets _ t
  have ht : s.Kept t := h.setFld ..
  exact .ite (h.error ..) (.ite (ht.bneRefuse ..) (.ite (ht.bneRefuse ..) (.ite (ht.bneRefuse ..) ht.frame.showBne)))

theorem writeBnePort (h : s.Kept t) (ag : Agent) (p off : Nat) (v : Word) : s.Kept (t.writeBnePort ag p off v) := by
  unfold State.writeBnePort
  split
  · exact h.error ..
  · extract_lets t
    have ht : s.Kept t := h.plainWrite ..
    exact .ite (ht.bneSubmit ..) ht

theorem bneCommand (h : s.Kept t) (ag : Agent) (p : Fin 2) (v : Word) (op : Nat) : s.Kept (t.bneCommand ag p v op) := by
  unfold State.bneCommand
  exact h.writeAccess (h.writeBnePort ..)

theorem exec_bneCommandStart (h : s.Kept t) : s.Keeps (execBneCommandStart t) := by
  unfold Machine.execBneCommandStart
  extract_lets chosen
  clear_value chosen
  split
  · exact .next h
  · split
    · exact .next h
    · extract_lets t
      have ht : s.Kept t := h.frame
      exact .next (.ite (ht.bneRefuse ..).showBne ht.frame.showBne)

theorem exec_bneValidationEnd (h : s.Kept t) : s.Keeps (execBneValidationEnd t) := by
  unfold Machine.execBneValidationEnd
  split
  · split
    · exact .next (h.bneEnd ..)
    · extract_lets t
      have ht : s.Kept t := h.foldl (fun hu _ => hu.scribble ..) _
      exact .next ht.frame
  · exact .next h

theorem bneFinish (h : s.Kept t) (c : BneCommand) : s.Kept (t.bneFinish c) := by
  unfold State.bneFinish
  extract_lets _ _ _ t u v w
  have ht : s.Kept t := h.drawnBetween ..
  have hu : s.Kept u := ht.foldl (fun hu _ => hu.scribble ..) _
  have hv : s.Kept v := by
    unfold v
    split
    · exact hu.writeSlot ..
    · exact hu
  have hw : s.Kept w := hv.bneEnd ..
  exact .ite (((hw.setFlag ..).setFld ..).raise ..) hw

theorem markBne (h : s.Kept t) (addr : Nat) : s.Kept (t.markBne addr) := h.frame

theorem bneEcc (h : s.Kept t) (c : BneCommand) (validated : Bool) (addr : Nat) :
    s.Kept (t.bneEcc c validated addr) := by
  unfold State.bneEcc
  extract_lets t u v
  have ht : s.Kept t := h.drawn
  have hu : s.Kept u := .ite (ht.foldl (fun hu _ => hu.scribble ..) _) ht
  have hv : s.Kept v := (((hu.eccReport ..).markBne ..).bneEnd ..).raise ..
  exact .ite hv.uInvalid hv

theorem exec_bneCommandDone (h : s.Kept t) (corrected : Nat) (bad : Option (Fin 98304)) :
    s.Keeps (execBneCommandDone corrected bad t) := by
  unfold Machine.execBneCommandDone
  split
  · exact .next h
  · extract_lets t
    have ht : s.Kept t := h.bump ..
    split
    · exact .next (ht.bneEcc ..)
    · split
      · exact .next (ht.bneEcc ..)
      · exact .next (.ite (ht.bneFinish ..) h)

theorem bneStore (h : s.Kept t) (off : Nat) (v : Word) : s.Kept (t.bneStore off v) := by
  unfold State.bneStore
  extract_lets t
  have ht : s.Kept t := h.wr ..
  exact ht.frame

theorem writeOpmem (h : s.Kept t) (ag : Agent) (off : Nat) (v : Word) : s.Kept (t.writeOpmem ag off v) :=
  .ite (h.error ..) (.ite (h.error ..) (h.bneStore ..))

theorem writeUcode (h : s.Kept t) (ag : Agent) (off : Nat) (v : Word) : s.Kept (t.writeUcode ag off v) := by
  unfold State.writeUcode
  split
  · exact h
  · split
    · exact h.error ..
    · extract_lets t
      have ht : s.Kept t := h.bneStore ..
      exact .ite ht.uInvalid ht

theorem bneShutdown (h : s.Kept t) : s.Kept t.bneShutdown := h.bneDropPending

theorem bneAbort (h : s.Kept t) : s.Kept t.bneAbort := by
  unfold State.bneAbort
  split
  · exact h.bneDropPending
  · extract_lets t u
    have ht : s.Kept t := h.drawn
    have hu : s.Kept u := .ite (ht.foldl (fun hu _ => hu.scribble ..) _) ht
    exact (hu.bneEnd ..).bneDropPending.raise ..

theorem bneReset (h : s.Kept t) : s.Kept t.bneReset := by
  unfold State.bneReset
  extract_lets t
  have ht : s.Kept t := h.bneAbort.uInvalid
  exact ht.frame

theorem bneWrite (h : s.Kept t) (ag : Agent) (off : Nat) (v : Word) : s.Kept (t.bneWrite ag off v) :=
  .ite (h.writeUcode ..) (.ite (h.writeOpmem ..) (.ite (h.writeUcode ..) (.ite (h.writeBnePort ..) (.ite (h.writeBnePort ..) (h.plainWrite ..)))))

theorem bneRead (h : s.Kept t) (off : Nat) : s.Kept (t.bneRead off).2 := h.plainRead ..

/-! ### TimeOps -/

theorem exec_tadd (h : s.Kept t) (x : Ctx) : s.Keeps (execTadd x t) := by
  unfold Machine.execTadd
  refine .next (h.issue fun _ => ?_)
  exact (h.setT ..).setOv ..

theorem exec_tsub (h : s.Kept t) (x : Ctx) : s.Keeps (execTsub x t) := by
  unfold Machine.execTsub
  refine .next (h.issue fun _ => ?_)
  exact (h.setG ..).setOv ..

theorem exec_tset (h : s.Kept t) (x : Ctx) : s.Keeps (execTset x t) := by
  unfold Machine.execTset
  refine .next (h.issue fun _ => ?_)
  extract_lets
  split
  · exact h.setT ..
  · exact h

theorem timeFn (h : s.Kept t) (x : Ctx) (e : Enc) (f : State → CT96 → Word64) : s.Kept (t.timeFn x e f) :=
  h.issue fun _ => h.setG ..

theorem exec_tstp (h : s.Kept t) (x : Ctx) : s.Keeps (execTstp x t) := by
  unfold Machine.execTstp
  refine .next (h.issue fun _ => ?_)
  exact h.pAccess fun _ => h.writeFrame ..

/-! ### FrameOps -/

theorem exec_finfo (h : s.Kept t) (x : Ctx) : s.Keeps (execFinfo x t) := by
  unfold Machine.execFinfo
  refine .next (h.issue fun _ => ?_)
  extract_lets _ t
  have ht : s.Kept t := .ite h.drawn h
  exact ht.setG ..

theorem withFrame (h : s.Kept t) {x : Ctx} {k : Frame → Act} (hk : ∀ f, s.Kept (k f).state) :
    s.Kept (withFrame t x k).state := by
  unfold Machine.withFrame
  split
  · exact h
  · exact hk _

theorem exec_flen (h : s.Kept t) (x : Ctx) : s.Keeps (execFlen x t) := by
  unfold Machine.execFlen
  refine .next (h.issue fun _ => ?_)
  refine h.withFrame fun _ => ?_
  extract_lets
  split
  · exact h
  · split
    · exact h.setRes ..
    · exact (h.writeFrame ..).setRes ..

theorem exec_fmark (h : s.Kept t) (x : Ctx) : s.Keeps (execFmark x t) := by
  unfold Machine.execFmark
  refine .next (h.issue fun _ => ?_)
  refine h.withFrame fun _ => ?_
  exact h.setFrame ..

theorem exec_fport (h : s.Kept t) (x : Ctx) : s.Keeps (execFport x t) := by
  unfold Machine.execFport
  refine .next (h.issue fun _ => ?_)
  refine h.withFrame fun _ => ?_
  extract_lets
  split
  · exact h
  · exact h.setFrame ..

theorem pReads (h : s.Kept t) {x : Context} {f : Frame} {k : Act} {rs : List (Nat × Nat)} (hk : s.Kept k.state) :
    s.Kept (t.pReads x f k rs).state := by
  induction rs with
  | nil => exact hk
  | cons r rs ih =>
    unfold State.pReads
    split
    · exact h
    · split
      · exact h.packetError
      · exact ih

theorem exec_fswap (h : s.Kept t) (x : Ctx) : s.Keeps (execFswap x t) := by
  unfold Machine.execFswap
  refine .next (h.issue fun _ => ?_)
  refine h.withFrame fun _ => ?_
  split
  · exact h
  · extract_lets
    split
    · exact h
    · exact h.pReads (h.writeFrame ..)

theorem exec_fcpyp (h : s.Kept t) (x : Ctx) : s.Keeps (execFcpyp x t) := by
  unfold Machine.execFcpyp
  refine .next (h.issue fun w => h.pAccess fun f => ?_)
  split
  · next he => exact h.lRead_error he
  · exact h.writeFrame ..

theorem exec_fcpyl (h : s.Kept t) (x : Ctx) : s.Keeps (execFcpyl x t) := by
  unfold Machine.execFcpyl
  refine .next (h.issue fun w => h.pAccess fun f => ?_)
  split
  · next he => exact h.lWrite_error he
  · next he => exact h.lWrite_ok he

theorem exec_csum (h : s.Kept t) (x : Ctx) : s.Keeps (execCsum x t) := by
  unfold Machine.execCsum
  refine .next (h.issue fun _ => ?_)
  exact h.pAccess fun _ => h.setG ..

theorem exec_csip (h : s.Kept t) (x : Ctx) : s.Keeps (execCsip x t) := by
  unfold Machine.execCsip
  refine .next (h.issue fun _ => ?_)
  refine h.withFrame fun _ => ?_
  extract_lets
  split
  · exact h
  · exact h.pAccess fun _ => h.writeFrame ..

theorem exec_csudp (h : s.Kept t) (x : Ctx) : s.Keeps (execCsudp x t) := by
  unfold Machine.execCsudp
  refine .next (h.issue fun _ => ?_)
  refine h.withFrame fun _ => ?_
  extract_lets
  split
  · exact h
  · exact h.pReads (h.writeFrame ..)

theorem exec_cellArrive (h : s.Kept t) (p : Fin 72) (c : Fin 48) : s.Keeps (execCellArrive p c t) := by
  unfold Machine.execCellArrive
  extract_lets
  split
  · exact .next ((h.setCtx ..).readied ..)
  · exact .next h

/-! ### Geyser -/

theorem exec_requestArrive (h : s.Kept t) (k : Fin 8) : s.Keeps (execRequestArrive k t) := by
  unfold Machine.execRequestArrive
  split
  · exact .next h
  · split
    · exact .next h
    · extract_lets _ t
      have ht : s.Kept t := h.frame
      exact .ite (.next (ht.moveFrames ..).checkOld) (.ite (.next (ht.admitDrop ..)) (.next (ht.enqueueRequest ..)))

theorem startContext (h : s.Kept t) (p c : Nat) (r : Request) (budget : Nat) :
    s.Kept (t.startContext p c r budget) := by
  unfold State.startContext
  extract_lets t
  have ht : s.Kept t := h.setCtx ..
  exact ht.frame

theorem unqueue (h : s.Kept t) (r : Request) : s.Kept (t.unqueue r) := h.frame

theorem exec_contextStart (h : s.Kept t) (p : Fin 72) (c : Fin 48) : s.Keeps (execContextStart p c t) := by
  unfold Machine.execContextStart
  split
  · exact .next h
  · split
    · exact .next h
    · split
      · exact .next h
      · exact .ite (.next ((h.unqueue ..).staleDrop ..)) (.next ((h.unqueue ..).startContext ..))

theorem initEnded (h : s.Kept t) (x : Context) : s.Kept (t.initEnded x) := .ite (h.returnTile ..) h

theorem handleLock (h : s.Kept t) (b code a : Nat) : s.Kept (t.handleLock b code a) :=
  .ite (h.poolWrite ..) ((((h.poolWrite ..).setFlag ..).raise ..).log ..)

theorem handleLocks (h : s.Kept t) (b code : Nat) (as : List Nat) : s.Kept (t.handleLocks b code as) := by
  induction as generalizing t with
  | nil => exact h
  | cons a as ih => exact ih (h.handleLock ..)

theorem exec_killLockHandling (h : s.Kept t) (p : Fin 72) (c : Fin 48) : s.Keeps (execKillLockHandling p c t) := by
  unfold Machine.execKillLockHandling
  extract_lets
  split
  · exact .ite (.next h) (.next ((h.handleLocks ..).setCtx ..))
  · exact .next h

theorem scanQueue (h : s.Kept t) (l k n : Nat) : s.Kept (t.scanQueue l k n) := by
  induction n generalizing t with
  | zero => exact h
  | succ n ih =>
    unfold State.scanQueue
    split
    · exact h
    · exact .ite (ih ((h.unqueue ..).staleDrop ..)) h

theorem exec_staleScan (h : s.Kept t) (l : Fin 64) : s.Keeps (execStaleScan l t) := by
  unfold Machine.execStaleScan
  extract_lets t
  have ht : s.Kept t := h.foldl (fun hu _ => hu.scanQueue ..) _
  exact .next (ht.foldl (fun hu _ => .ite (hu.staleEnd ..) hu) _)

theorem killStarted (h : s.Kept t) (p : Nat) : s.Kept (t.killStarted p) := by
  unfold State.killStarted
  refine h.foldl (fun hu a => ?_) _
  split
  · exact hu
  · exact hu
  · exact hu.kill ..

theorem coreFault (h : s.Kept t) (p l : Nat) : s.Kept (t.coreFault p l) := by
  unfold State.coreFault
  extract_lets _ t
  have ht : s.Kept t := h.frame
  exact (((((ht.drainTile ..).killStarted ..).setFlag ..).raise ..).startTest ..).checkOld

theorem exec_coreFault (h : s.Kept t) (p : Fin 72) : s.Keeps (execCoreFault p t) := by
  unfold Machine.execCoreFault
  split
  · exact .next h
  · exact .ite (.next h) (.next (h.coreFault ..))

theorem retireTile (h : s.Kept t) (p : Nat) : s.Kept (t.retireTile p) := by
  unfold State.retireTile
  extract_lets r
  have hr : s.Kept r := (h.setFlag ..).raise ..
  split
  · exact .ite (hr.setFld ..) hr
  · extract_lets t
    have ht : s.Kept t := hr.frame
    split
    · extract_lets u v
      have hu : s.Kept u := (ht.setFld ..).setFld ..
      have hv : s.Kept v := (hu.setFlag ..).raise ..
      exact hv.frame.initAndReturn ..
    · exact (((ht.setFlag ..).setFlag ..).raise ..).drainTile ..

theorem coreScanned (h : s.Kept t) (p : Nat) (lasting : Bool) : s.Kept (t.coreScanned p lasting) := by
  unfold State.coreScanned
  extract_lets t
  have ht : s.Kept t := (h.endTest ..).verdict ..
  split
  · exact ht.retireTile ..
  · split
    · exact ht
    · exact ht.frame.initAndReturn ..

theorem noteTransient (h : s.Kept t) (unit row : Nat) : s.Kept (t.noteTransient unit row) := h.frame

theorem exec_coreScanDone (h : s.Kept t) (p : Fin 72) (failed : Bool) : s.Keeps (execCoreScanDone p failed t) := by
  unfold Machine.execCoreScanDone
  split
  · exact .next h
  · extract_lets _ t
    have ht : s.Kept t := .ite h (h.noteTransient ..)
    exact .next (ht.coreScanned ..)

theorem paramRefresh (h : s.Kept t) (p : Nat) : s.Kept (t.paramRefresh p) := (h.lStore ..).lStore ..

theorem placeTimer (h : s.Kept t) (k l : Nat) : s.Kept (t.placeTimer k l) := by
  unfold State.placeTimer
  extract_lets t
  have ht : s.Kept t := h.enqueueRequest ..
  exact .ite ht (.ite (ht.paramRefresh ..) ht)

theorem fireOn (h : s.Kept t) (k l : Nat) : s.Kept (t.fireOn k l) :=
  .ite ((h.bump ..).gysSticky ..) (.ite (h.placeTimer ..) (h.admitDrop ..))

theorem fireTimer (h : s.Kept t) (k : Nat) : s.Kept (t.fireTimer k) := by
  unfold State.fireTimer
  extract_lets u _ v
  have hu : s.Kept u := h.carrySwitch
  have hv : s.Kept v := hu.withFired _
  exact hv.foldl (fun hw _ => hw.fireOn ..) _

theorem writeTimer (h : s.Kept t) (k w : Nat) (v : Word) : s.Kept (t.writeTimer k w v) :=
  .ite (.ite h.gysParam (h.plainWrite ..)) (.ite h.gysParam (.ite (h.plainWrite ..) (.ite h.gysParam (h.plainWrite ..))))

theorem exec_initContextStart (h : s.Kept t) (p : Fin 72) (c : Fin 48) : s.Keeps (execInitContextStart p c t) := by
  unfold Machine.execInitContextStart
  split
  · exact .next h
  · split
    · exact .next h
    · split
      · exact .next h
      · extract_lets _ t
        have ht : s.Kept t := h.frame
        exact .next (ht.startContext ..)

theorem writeMap (h : s.Kept t) (l : Nat) (v : Word) : s.Kept (t.writeMap l v) := by
  unfold State.writeMap
  extract_lets _ t
  have ht : s.Kept t := h.plainWrite ..
  exact .ite (ht.drainTile ..) (.ite (ht.initAndReturn ..) ht)

theorem writeQuota (h : s.Kept t) (c : Nat) (v : Word) : s.Kept (t.writeQuota c v) := by
  unfold State.writeQuota
  extract_lets t
  have ht : s.Kept t := h.plainWrite ..
  exact .ite h.gysParam (.ite (ht.gysSticky ..) ht)

theorem bankWriteError (h : s.Kept t) : s.Kept t.bankWriteError := (h.setFlag ..).gysSticky ..

theorem bankTouched (h : s.Kept t) (b : Nat) : s.Kept (t.bankTouched b) := by
  unfold State.bankTouched
  extract_lets t
  have ht : s.Kept t := h.setFlag ..
  split
  · exact .ite ht.frame ht
  · exact ht

theorem writeBank (h : s.Kept t) (b a : Nat) (bs : List Byte) : s.Kept (t.writeBank b a bs) := by
  unfold State.writeBank
  extract_lets k
  have hbanks : s.Kept { t with gys := { t.gys with banks := memWriteBytes t.gys.banks k bs } } :=
    ⟨h.pending, fun hs => { h.inv hs with banks := memory_wf_writeBytes t.gys.banks k bs (h.inv hs).banks }⟩
  split
  · exact h.bankWriteError
  · split
    · exact h.eccError ..
    · exact (hbanks.bankTouched b).clearPoison ..

theorem writeHeader (h : s.Kept t) (b i : Nat) (v : Word) : s.Kept (t.writeHeader b i v) :=
  .ite h.bankWriteError ((h.wr ..).bankTouched ..)

theorem bankError (h : s.Kept t) (code : Nat) : s.Kept (t.bankError code) := (h.setFld ..).gysSticky ..

theorem startVerify (h : s.Kept t) (b : Nat) : s.Kept (t.startVerify b) := by
  unfold State.startVerify
  split
  · exact h.bankError ..
  · extract_lets u
    have hu : s.Kept u := (h.setFlag ..).setFld ..
    exact hu.frame

theorem requestSwitch (h : s.Kept t) (b : Nat) (quiesce : Bool) : s.Kept (t.requestSwitch b quiesce) := by
  unfold State.requestSwitch
  split
  · exact h.bankError ..
  · extract_lets t u
    have ht : s.Kept t := h.setFld ..
    have hu : s.Kept u := ht.setFlag ..
    exact .ite (ht.switchTo ..) hu.frame

theorem writeBankCtl (h : s.Kept t) (v : Word) : s.Kept (t.writeBankCtl v) := by
  unfold State.writeBankCtl
  extract_lets t
  have ht : s.Kept t := .ite (h.startVerify ..) h
  exact .ite (ht.requestSwitch ..) ht

theorem endVerify (h : s.Kept t) (b : Nat) (interrupted : Bool) : s.Kept (t.endVerify b interrupted) := by
  unfold State.endVerify
  extract_lets u _ t v
  have hu : s.Kept u := h.setFlag ..
  have ht : s.Kept t := hu.frame
  have hv : s.Kept v := by
    unfold v
    split
    · exact ht.bankError ..
    · split
      · exact ht.bankError ..
      · exact ht.setFlag ..
  exact hv.raise ..

theorem exec_verifyDone (h : s.Kept t) : s.Keeps (execVerifyDone t) := by
  unfold Machine.execVerifyDone
  split
  · exact .next h
  · exact .next (h.endVerify ..)

theorem writeGysCtrl (h : s.Kept t) (v : Word) : s.Kept (t.writeGysCtrl v) := .ite h.gysParam (h.plainWrite ..)

theorem gysWrite (h : s.Kept t) (off : Nat) (v : Word) : s.Kept (t.gysWrite off v) :=
  .ite (h.writeGysCtrl ..) (.ite (h.writeBankCtl ..) (.ite (.ite h.gysParam (h.plainWrite ..)) (.ite (h.writeQuota ..) (.ite (.ite h.gysParam (h.plainWrite ..)) (.ite (.ite (((h.wr ..).wr ..).wr ..) h) (.ite (h.writeTimer ..) (.ite (h.writeMap ..) (.ite (h.writeHeader ..) (.ite (h.writeHeader ..) (h.plainWrite ..))))))))))

theorem gysRead (h : s.Kept t) (off : Nat) : s.Kept (t.gysRead off).2 := by
  unfold State.gysRead
  split
  · exact h
  · split
    · exact h
    · exact h.plainRead ..

/-! ### CoreMemory -/

theorem fabricRead_error (h : s.Kept t) {f : FabricPlace} {o n : Nat} (he : t.fabricRead f o n = .error u) :
    s.Kept u := by
  unfold State.fabricRead at he
  split at he
  · split at he
    · cases he
      exact h.eccError ..
    · cases he
  · split at he <;> cases he

theorem fabricRead_ok (h : s.Kept t) {f : FabricPlace} {o n : Nat} {r : List Byte × State}
    (he : t.fabricRead f o n = .ok r) : s.Kept r.2 := by
  unfold State.fabricRead at he
  split at he
  · split at he
    · cases he
    · cases he
      exact h
  · split at he
    · cases he
      exact h.badAccess ..
    · cases he
      exact h.drewBytes ..

theorem fabricStore (h : s.Kept t) (f : FabricPlace) (bs : List Byte) : s.Kept (t.fabricStore f bs) := by
  unfold State.fabricStore
  split
  · exact h.poolWriteLines ..
  · exact h.writeBank ..
  · next a =>
    have hgnss : s.Kept { t with cores := { t.cores with gnss := memWriteBytes t.cores.gnss a bs } } :=
      ⟨h.pending, fun hs => { h.inv hs with gnss := memory_wf_writeBytes t.cores.gnss a bs (h.inv hs).gnss }⟩
    exact hgnss.clearPoison ..
  · next a =>
    have hsram : s.Kept { t with cores := { t.cores with sram := memWriteBytes t.cores.sram a bs } } :=
      ⟨h.pending, fun hs => { h.inv hs with sram := memory_wf_writeBytes t.cores.sram a bs (h.inv hs).sram }⟩
    exact hsram.clearPoison ..
  · exact h

theorem fabricRefuses (h : s.Kept t) {f : FabricPlace} {n : Nat} (he : t.fabricRefuses f n = some u) : s.Kept u := by
  unfold State.fabricRefuses at he
  split at he
  · obtain ⟨w, -, rfl⟩ := Option.map_eq_some_iff.mp he
    exact h.eccError ..
  · cases he

theorem fabricWrite (h : s.Kept t) (f : FabricPlace) (off : Nat) (bs : List Byte) :
    s.Kept (t.fabricWrite f off bs) := by
  unfold State.fabricWrite
  split
  · exact h.fabricStore ..
  · exact .ite (h.badAccess ..) h

theorem readPieces_error (h : s.Kept t) {k : Nat} {ps : List (Nat × Nat)} (he : t.readPieces k ps = .error u) :
    s.Kept u := by
  induction ps generalizing t with
  | nil => cases he
  | cons p ps ih =>
    unfold State.readPieces at he
    split at he
    · next hr =>
      cases he
      exact h.fabricRead_error hr
    · next v hr =>
      split at he
      · next hu =>
        cases he
        exact ih (show s.Kept v from h.fabricRead_ok hr) hu
      · cases he

theorem readPieces_ok (h : s.Kept t) {k : Nat} {ps : List (Nat × Nat)} {bs : List Byte}
    (he : t.readPieces k ps = .ok (bs, u)) : s.Kept u := by
  induction ps generalizing t bs with
  | nil =>
    cases he
    exact h
  | cons p ps ih =>
    unfold State.readPieces at he
    split at he
    · cases he
    · next v hr =>
      split at he
      · cases he
      · next hu =>
        cases he
        exact ih (show s.Kept v from h.fabricRead_ok hr) hu

theorem writePieces (h : s.Kept t) (k : Nat) (bs : List Byte) (ps : List (Nat × Nat)) :
    s.Kept (t.writePieces k bs ps) := by
  induction ps generalizing t bs with
  | nil => exact h
  | cons p ps ih => exact ih (h.fabricWrite ..) _

theorem coreRead_error (h : s.Kept t) {k a n : Nat} {e : State × Nat × Nat} (he : t.coreRead k a n = .error e) :
    s.Kept e.1 := by
  unfold State.coreRead at he
  split at he
  · cases he
    exact h
  · split at he
    · next hr =>
      cases he
      exact h.readPieces_error hr
    · cases he

theorem coreRead_ok (h : s.Kept t) {k a n : Nat} {r : List Byte × State} (he : t.coreRead k a n = .ok r) :
    s.Kept r.2 := by
  unfold State.coreRead at he
  split at he
  · cases he
  · split at he
    · cases he
    · next hr =>
      cases he
      exact h.readPieces_ok (bs := _) hr

theorem coreWrite_error (h : s.Kept t) {k a : Nat} {bs : List Byte} {e : State × Nat × Nat}
    (he : t.coreWrite k a bs = .error e) : s.Kept e.1 := by
  unfold State.coreWrite at he
  split at he
  · cases he
    exact h
  · split at he
    · next hr =>
      cases he
      obtain ⟨p, -, hp⟩ := List.exists_of_findSome?_eq_some hr
      exact h.fabricRefuses hp
    · cases he

theorem coreWrite_ok (h : s.Kept t) {k a : Nat} {bs : List Byte} (he : t.coreWrite k a bs = .ok u) : s.Kept u := by
  unfold State.coreWrite at he
  split at he
  · cases he
  · split at he
    · cases he
    · cases he
      exact h.writePieces ..

theorem readL_error (h : s.Kept t) {x : Ctx} {a n : Nat} {e : State × Nat × Nat} (he : t.readL x a n = .error e) :
    s.Kept e.1 := by
  unfold State.readL at he
  split at he
  · exact h.coreRead_error he
  · split at he
    · next hr =>
      cases he
      exact h.lRead_error hr
    · cases he

theorem readL_ok (h : s.Kept t) {x : Ctx} {a n : Nat} {r : List Byte × State} (he : t.readL x a n = .ok r) :
    s.Kept r.2 := by
  unfold State.readL at he
  split at he
  · exact h.coreRead_ok he
  · split at he
    · cases he
    · cases he
      exact h

theorem writeL_error (h : s.Kept t) {x : Ctx} {a : Nat} {bs : List Byte} {e : State × Nat × Nat}
    (he : t.writeL x a bs = .error e) : s.Kept e.1 := by
  unfold State.writeL at he
  split at he
  · exact h.coreWrite_error he
  · exact h.lWrite_error he

theorem writeL_ok (h : s.Kept t) {x : Ctx} {a : Nat} {bs : List Byte} (he : t.writeL x a bs = .ok u) : s.Kept u := by
  unfold State.writeL at he
  split at he
  · exact h.coreWrite_ok he
  · exact h.lWrite_ok he

/-! ### Table -/

theorem tAccess (h : s.Kept t) {x : Ctx} {a n align : Nat} {write : Bool} {k : Act} (hk : s.Kept k.state) :
    s.Kept (tAccess t x a n align write k).state := by
  unfold Machine.tAccess
  split
  · exact h
  · exact hk

theorem exec_tbcas (h : s.Kept t) (x : Ctx) : s.Keeps (execTbcas x t) := by
  unfold Machine.execTbcas
  refine .next (h.issue fun _ => ?_)
  exact h.tAccess (h.startOp ..)

theorem exec_tbadd (h : s.Kept t) (x : Ctx) : s.Keeps (execTbadd x t) := by
  unfold Machine.execTbadd
  refine .next (h.issue fun _ => ?_)
  exact h.tAccess (h.startOp ..)

theorem exec_tbfind (h : s.Kept t) (x : Ctx) : s.Keeps (execTbfind x t) := by
  unfold Machine.execTbfind
  refine .next (h.issue fun _ => ?_)
  extract_lets
  refine h.tAccess ?_
  split
  · exact h
  · exact h.startOp ..

theorem exec_tblock (h : s.Kept t) (x : Ctx) : s.Keeps (execTblock x t) := by
  unfold Machine.execTblock
  refine .next (h.issue fun _ => ?_)
  extract_lets
  refine h.tAccess ?_
  split
  · exact h
  · exact h.startOp ..

theorem forgetLock (h : s.Kept t) (x : Ctx) (a : Nat) : s.Kept (t.forgetLock x a) := by
  unfold State.forgetLock
  split
  · exact h.setCtx ..
  · exact h

theorem exec_tbunlk (h : s.Kept t) (x : Ctx) : s.Keeps (execTbunlk x t) := by
  unfold Machine.execTbunlk
  refine .next (h.issue fun _ => ?_)
  extract_lets
  refine h.tAccess ?_
  split
  · split
    · exact h
    · split
      · exact h
      · exact (h.forgetLock ..).postStore ..
  · split
    · exact h
    · exact h.startOp ..

theorem exec_tbget (h : s.Kept t) (x : Ctx) : s.Keeps (execTbget x t) := by
  unfold Machine.execTbget
  refine .next (h.issue fun _ => ?_)
  extract_lets
  split
  · exact h
  · refine h.tAccess ?_
    split
    · exact h
    · exact h.startOp ..

theorem exec_tbput (h : s.Kept t) (x : Ctx) : s.Keeps (execTbput x t) := by
  unfold Machine.execTbput
  refine .next (h.issue fun w => ?_)
  dsimp only
  split
  · exact h
  · refine h.tAccess ?_
    split
    · exact h
    · split
      · next he => exact h.readL_error he
      · next he => exact (h.readL_ok he).postStore ..

theorem exec_tkn (h : s.Kept t) (x : Ctx) : s.Keeps (execTkn x t) := by
  unfold Machine.execTkn
  refine .next (h.issue fun _ => ?_)
  extract_lets
  refine h.tAccess ?_
  split
  · exact h
  · exact h.startOp ..

theorem exec_tkset (h : s.Kept t) (x : Ctx) : s.Keeps (execTkset x t) := by
  unfold Machine.execTkset
  refine .next (h.issue fun _ => ?_)
  exact h.tAccess (h.startOp ..)

theorem noteLock (h : s.Kept t) (x : Ctx) (a : Nat) : s.Kept (t.noteLock x a) := by
  unfold State.noteLock
  split
  · exact h.setCtx ..
  · exact h

theorem completeOp (h : s.Kept t) (x : Ctx) (v : Option Word64) (res : Option Bool) : s.Kept (t.completeOp x v res) :=
  (h.setTh ..).readied ..

theorem opEcc (h : s.Kept t) (x : Ctx) (word a : Nat) : s.Kept (t.opEcc x word a) := by
  unfold State.opEcc
  extract_lets t
  have ht : s.Kept t := h.eccError ..
  exact .ite (ht.setTh ..) ((ht.setTh ..).faultAt ..)

theorem runOp (h : s.Kept t) (x : Ctx) (k : LongKind) (lag : Nat) : s.Kept (t.runOp x k lag) := by
  unfold State.runOp
  dsimp only
  split
  · exact h.completeOp ..
  · exact .completeOp (.ite (h.poolWrite ..) h) ..
  · exact (h.poolWrite ..).completeOp ..
  · split
    · exact h.completeOp ..
    · exact h.completeOp ..
  · exact .ite (h.completeOp ..) (((h.poolWrite ..).noteLock ..).completeOp ..)
  · exact .ite (((h.setTh ..).setTh ..).retire ..) ((h.setTh ..).faultAt ..)
  · split
    · exact h.completeOp ..
    · split
      · next he => exact (h.writeL_ok he).completeOp ..
      · next he => exact (h.writeL_error he).completeOp ..
  · exact (h.poolWrite ..).completeOp ..
  · exact (h.poolWrite ..).completeOp ..
  · exact h

theorem countGhost (h : s.Kept t) : s.Kept t.countGhost := (h.bump ..).setFlag ..

theorem finishOp (h : s.Kept t) (x : Ctx) (k : LongKind) (a n lag : Nat) : s.Kept (t.finishOp x k a n lag) := by
  unfold State.finishOp
  split
  · exact h
  · split
    · exact h.countGhost.completeOp ..
    · split
      · exact h.opEcc ..
      · exact h.runOp ..

theorem exec_tableOpComplete (h : s.Kept t) (x : Ctx) (lag : Nat) : s.Keeps (execTableOpComplete x lag t) := by
  unfold Machine.execTableOpComplete
  split
  · exact .next h
  · split
    · exact .ite (.next h) (.next (h.finishOp ..))
    · exact .next h
  · exact .next h

theorem exec_tknComplete (h : s.Kept t) (x : Ctx) (lag : Nat) : s.Keeps (execTknComplete x lag t) := by
  unfold Machine.execTknComplete
  split
  · exact .ite (.next h) (.next (h.finishOp ..))
  · exact .next h

theorem exec_postedStoreComplete (h : s.Kept t) (x : Ctx) : s.Keeps (execPostedStoreComplete x t) := by
  unfold Machine.execPostedStoreComplete
  split
  · exact .next h
  · extract_lets t
    have ht : s.Kept t := .ite h.countGhost (h.poolWriteLines ..)
    exact .next ((ht.setTh ..).readied ..)

/-! ### Control -/

theorem dispose (h : s.Kept t) {x : Ctx} {k : Act} (hk : s.Kept k.state) : s.Kept (dispose t x k).state := by
  unfold Machine.dispose
  split
  · exact h
  · split
    · exact h
    · exact hk

theorem endContext (h : s.Kept t) (x : Ctx) : s.Kept (t.endContext x) := by
  unfold State.endContext
  split
  · exact h.setCtx ..
  · exact h

theorem sendOut (h : s.Kept t) (f : Frame) : s.Kept (t.sendOut f) := .ite (h.enqueueTx ..) ((h.bump ..).gysSticky ..)

theorem exec_tohost (h : s.Kept t) (x : Ctx) : s.Keeps (execTohost x t) := by
  unfold Machine.execTohost
  refine .next (h.issue fun _ => ?_)
  refine h.dispose ?_
  refine h.withFrame fun _ => ?_
  extract_lets
  split
  · exact h
  · exact .endContext (.ite (h.staleDrop ..) h.frame) ..

theorem exec_endContext (h : s.Kept t) (x : Ctx) : s.Keeps (execEndContext x t) := by
  unfold Machine.execEndContext
  refine .next (h.issue fun _ => ?_)
  refine h.dispose ?_
  split
  · exact h
  · exact h.endContext ..

theorem exec_fence (h : s.Kept t) (x : Ctx) : s.Keeps (execFence x t) := by
  unfold Machine.execFence
  refine .next (h.issue fun _ => ?_)
  split
  · exact h
  · exact h

theorem exec_rdctx (h : s.Kept t) (x : Ctx) : s.Keeps (execRdctx x t) := by
  unfold Machine.execRdctx
  refine .next (h.issue fun _ => ?_)
  extract_lets _ t
  have ht : s.Kept t := .ite h.drawn h
  exact ht.setG ..

theorem setCoreOf (h : s.Kept t) (x : Ctx) (c : CoreState) : s.Kept (t.setCoreOf x c) := by
  unfold State.setCoreOf
  split
  · exact h.setCore ..
  · exact h

theorem exec_waitCore (h : s.Kept t) (x : Ctx) : s.Keeps (execWaitCore x t) := by
  unfold Machine.execWaitCore
  refine .next (h.issue fun _ => ?_)
  extract_lets
  split
  · exact h
  · exact h.setCoreOf ..

theorem exec_eret (h : s.Kept t) (x : Ctx) : s.Keeps (execEret x t) := by
  unfold Machine.execEret
  refine .next (h.issue fun _ => ?_)
  exact h.setCoreOf ..

theorem passCycles (h : s.Kept t) (x : Ctx) : s.Kept (t.passCycles x) := by
  unfold State.passCycles
  extract_lets t
  have ht : s.Kept t := h.drawn
  exact ht.setCoreOf ..

theorem exec_mfsr (h : s.Kept t) (x : Ctx) : s.Keeps (execMfsr x t) := by
  unfold Machine.execMfsr
  refine .next (h.issue fun _ => ?_)
  extract_lets t
  have ht : s.Kept t := .ite (h.passCycles ..) h
  exact ht.setG ..

theorem exec_mrgn (h : s.Kept t) (x : Ctx) : s.Keeps (execMrgn x t) := by
  unfold Machine.execMrgn
  refine .next (h.issue fun _ => ?_)
  extract_lets
  split
  · exact h
  · exact h.setCoreOf ..

theorem exec_undefinedEncoding (h : s.Kept t) (x : Ctx) : s.Keeps (execUndefinedEncoding x t) := by
  unfold Machine.execUndefinedEncoding
  split
  · exact .next h
  · split
    · exact .next h
    · split
      · exact .next (h.faultAt ..)
      · split
        · exact .next (h.setStatus ..)
        · extract_lets t
          have ht : s.Kept t := .ite (h.eccError ..) h
          exact .next (ht.faultAt ..)

theorem queueJob (h : s.Kept t) (x : Ctx) : s.Kept (t.queueJob x) := h.frame

theorem cjobBody (h : s.Kept t) (x : Ctx) (w : Word) : s.Kept (cjobBody x w t).state := by
  unfold Machine.cjobBody
  extract_lets
  split
  · exact h
  · split
    · exact h
    · split
      · exact h
      · split
        · exact h
        · exact (h.queueJob ..).startOp ..

/-! ### Crypto -/

theorem crySticky (h : s.Kept t) (b : Nat) : s.Kept (t.crySticky b) := h.sticky ..

theorem setKeyState (h : s.Kept t) (n st : Nat) : s.Kept (t.setKeyState n st) := h.setFld ..

theorem showCurrent (h : s.Kept t) : s.Kept t.showCurrent := ((h.setFlag ..).setFld ..).setFlag ..

theorem failSlot (h : s.Kept t) (n : Nat) : s.Kept (t.failSlot n) := (h.setKeyState ..).showCurrent.crySticky ..

theorem useSlot (h : s.Kept t) (n k : Nat) : s.Kept (t.useSlot n k) := h.bump ..

theorem drewNonces (h : s.Kept t) (n : Nat) : s.Kept (t.drewNonces n) := by
  unfold State.drewNonces
  extract_lets t
  have ht : s.Kept t := h.drewBytes ..
  exact ht.frame

theorem jobStore (h : s.Kept t) (p a : Nat) (bs : List Byte) : s.Kept (t.jobStore p a bs) := .ite (h.lStore ..) h

theorem putOutput (h : s.Kept t) (p c : Nat) (a : JobOutput) : s.Kept (t.putOutput p c a) := by
  unfold State.putOutput
  split
  · split
    · exact h
    · exact h.setCtx ..
  · exact h.jobStore ..

theorem putOutputs (h : s.Kept t) (p c : Nat) (os : List JobOutput) : s.Kept (t.putOutputs p c os) :=
  h.foldl (fun hu _ => hu.putOutput ..) _

theorem freeOutputs (h : s.Kept t) (p c desc code : Nat) : s.Kept (t.freeOutputs p c desc code) := by
  unfold State.freeOutputs
  extract_lets _ _ t
  have ht : s.Kept t := h.foldl (fun hu _ => (hu.putOutput ..).drewBytes ..) _
  refine ht.foldl (fun hu a => ?_) _
  exact (hu.putOutput ..).drewBytes ..

theorem jobInputPoisoned (h : s.Kept t) {p c desc code : Nat} (he : t.jobInputPoisoned p c desc code = some u) :
    s.Kept u := by
  unfold State.jobInputPoisoned at he
  dsimp only at he
  split at he
  · cases he
    exact h.eccError ..
  · split at he
    · cases he
    · split at he
      · cases he
        exact h.packetError
      · cases he

theorem wipe (h : s.Kept t) (p aux code : Nat) (d : Descriptor) : s.Kept (t.wipe p aux code d) := .ite (h.jobStore ..) h

theorem countJob (h : s.Kept t) (status : Nat) : s.Kept (t.countJob status) := by
  unfold State.countJob
  extract_lets t
  have ht : s.Kept t := h.bump ..
  exact .ite ht (ht.bump ..)

theorem dropJob (h : s.Kept t) (p c : Nat) : s.Kept (t.dropJob p c) := h.frame

theorem endJob (h : s.Kept t) (x : Ctx) (desc aux code status : Nat) : s.Kept (t.endJob x desc aux code status) := by
  unfold State.endJob
  extract_lets _ _ t
  have ht : s.Kept t := ((h.wipe ..).countJob ..).dropJob ..
  exact ht.completeOp ..

theorem exec_jobDispatch (h : s.Kept t) : s.Keeps (execJobDispatch t) := by
  unfold Machine.execJobDispatch
  split
  · exact .next h
  · split
    · split
      · exact .next h
      · exact .next h.frame
    · exact .next h

theorem suspectPipe (h : s.Kept t) (i : Nat) : s.Kept (t.suspectPipe i) := by
  unfold State.suspectPipe
  refine .startTest ?_ ..
  extract_lets u
  have hu : s.Kept u := h.setFlag ..
  exact hu.frame

theorem pipeError (h : s.Kept t) {i : Nat} {slot : Option Nat} {ev : JobEvent} {r : Nat × State}
    (he : t.pipeError i slot ev = some r) : s.Kept r.2 := by
  unfold State.pipeError at he
  split at he
  · cases he
    exact h.suspectPipe ..
  · cases he
    exact (h.eccReport ..).crySticky ..
  · cases he
    exact ((h.eccReport ..).failSlot ..).crySticky ..
  · cases he

theorem finishSpoiled (h : s.Kept t) (x : Ctx) (desc a code : Nat) : s.Kept (t.finishSpoiled x desc a code) :=
  (h.drawn.freeOutputs ..).endJob ..

theorem finishJob (h : s.Kept t) (x : Ctx) (i : Nat) (slot : Option Nat) (desc : Nat) (aux : Word64) (code : Nat)
    (ev : JobEvent) : s.Kept (t.finishJob x i slot desc aux code ev) := by
  unfold State.finishJob
  extract_lets _ _ _ r v w x
  split
  · next he => exact (h.pipeError he).endJob ..
  · split
    · next he => exact ((h.jobInputPoisoned he).crySticky ..).endJob ..
    · split
      · exact h.finishSpoiled ..
      · have hv : s.Kept v := h.drewNonces ..
        have hw : s.Kept w := .ite (hv.putOutputs ..) hv
        have hx : s.Kept x := by
          unfold x
          split
          · exact hw.useSlot ..
          · exact hw
        exact hx.endJob ..

theorem exec_cjobComplete (h : s.Kept t) (p : Fin 72) (c : Fin 48) (ev : JobEvent) :
    s.Keeps (execCjobComplete p c ev t) := by
  unfold Machine.execCjobComplete
  extract_lets
  split
  · split
    · exact .next (h.finishJob ..)
    · exact .ite (.next (h.endJob ..)) (.next h)
  · exact .next h

theorem flushJobs (h : s.Kept t) : s.Kept t.flushJobs := by
  unfold State.flushJobs
  refine h.foldl (fun hu a => ?_) _
  split
  · extract_lets
    split
    · exact hu.endJob ..
    · exact hu
  · exact hu

theorem writeCryCtrl (h : s.Kept t) (v : Word) : s.Kept (t.writeCryCtrl v) := by
  unfold State.writeCryCtrl
  extract_lets t
  have ht : s.Kept t := h.plainWrite ..
  exact .ite ht ht.flushJobs

theorem retirePipe (h : s.Kept t) (i : Nat) : s.Kept (t.retirePipe i) := by
  unfold State.retirePipe
  extract_lets t
  have ht : s.Kept t := (h.setFlag ..).crySticky ..
  exact ht.frame.raise ..

theorem returnPipe (h : s.Kept t) (i : Nat) : s.Kept (t.returnPipe i) := .ite (h.setFlag ..) h

theorem exec_katDone (h : s.Kept t) (i : Fin 16) (failed : Bool) : s.Keeps (execKatDone i failed t) := by
  unfold Machine.execKatDone
  extract_lets _ _ t _ v w
  have ht : s.Kept t := h.frame
  have hv : s.Kept v := (ht.endTest ..).verdict ..
  have hw : s.Kept w := .ite (hv.crySticky ..) hv
  exact .ite (.next h) (.ite (.next (.ite (hw.retirePipe ..) ((hw.noteTransient ..).returnPipe ..))) (.ite (.next h) (.next (.ite ((ht.crySticky ..).retirePipe ..) ht))))

theorem drbgFail (h : s.Kept t) : s.Kept t.drbgFail := (h.setFlag ..).crySticky ..

theorem exec_drbgReseedRetry (h : s.Kept t) (passes : Bool) : s.Keeps (execDrbgReseedRetry passes t) := by
  unfold Machine.execDrbgReseedRetry
  split
  · split
    · extract_lets t
      have ht : s.Kept t := h.setFlag ..
      exact .next ht.frame
    · exact .next h.drbgFail
  · exact .next h

theorem cryptoReady (h : s.Kept t) (meas : Nat) : s.Kept (t.cryptoReady meas) := by
  unfold State.cryptoReady
  extract_lets t a u _ v
  have ht : s.Kept t := ((h.setFlag ..).setFlag ..).setFlag ..
  have ha : s.Kept a := .ite (ht.crySticky ..) ht
  have hu : s.Kept u := .ite ha (ha.crySticky ..)
  have hv : s.Kept v := hu.frame
  exact hv.foldl (fun hu _ => .ite hu (.ite (hu.retirePipe ..) (hu.setFlag ..))) _

theorem cryptoLost (h : s.Kept t) : s.Kept t.cryptoLost := by
  unfold State.cryptoLost
  extract_lets t
  have ht : s.Kept t := ((h.wr ..).wr ..).wr ..
  exact ht.frame

theorem keyError (h : s.Kept t) (code : Nat) : s.Kept (t.keyError code) := (h.setFld ..).crySticky ..

theorem keyLoad (h : s.Kept t) (slot len : Nat) : s.Kept (t.keyLoad slot len) := by
  unfold State.keyLoad
  refine .unstage ?_ ..
  split
  · exact h.keyError ..
  · extract_lets t
    have ht : s.Kept t := (((h.setKeyState ..).setFlag ..).wr ..).setFld ..
    exact ht.frame

theorem keySetcur (h : s.Kept t) (slot : Nat) : s.Kept (t.keySetcur slot) := by
  unfold State.keySetcur
  split
  · exact h.keyError ..
  · extract_lets t
    have ht : s.Kept t := by
      unfold t
      split
      · exact h.setKeyState ..
      · exact h
    exact (ht.setKeyState ..).showCurrent.setFld ..

theorem keyRetire (h : s.Kept t) (slot : Nat) : s.Kept (t.keyRetire slot) :=
  .ite (h.keyError ..) (.ite (h.keyError ..) ((h.setKeyState ..).setFld ..))

theorem writeKeyCommand (h : s.Kept t) (v : Word) : s.Kept (t.writeKeyCommand v) := by
  unfold State.writeKeyCommand
  extract_lets
  split
  · exact h
  · split
    · exact h.keyError ..
    · split
      · exact h.keyLoad ..
      · exact h.keySetcur ..
      · exact h.keyRetire ..
      · exact h.keyError ..

theorem clearSlot (h : s.Kept t) (n : Nat) : s.Kept (t.clearSlot n) := by
  unfold State.clearSlot
  extract_lets t
  have ht : s.Kept t := ((h.setKeyState ..).setFlag ..).wr ..
  exact ht.frame

theorem writeHostMint (h : s.Kept t) (v : Word) : s.Kept (t.writeHostMint v) := .ite h ((h.setFlag ..).setFlag ..)

theorem mintFailed (h : s.Kept t) (st : Nat) : s.Kept (t.mintFailed st) := ((h.setFlag ..).setFld ..).crySticky ..

theorem hostMint (h : s.Kept t) (i : Nat) (ev : JobEvent) : s.Kept (t.hostMint i ev) := by
  unfold State.hostMint
  split
  · exact h.mintFailed ..
  · split
    · next he => exact (h.pipeError he).mintFailed ..
    · exact .ite (h.mintFailed ..)
        ((((((h.setFlag ..).setFld ..).drewNonces ..).wrWords ..).useSlot ..).setFlag ..)

theorem exec_hostMintDone (h : s.Kept t) (ev : JobEvent) : s.Keeps (execHostMintDone ev t) := by
  unfold Machine.execHostMintDone
  split
  · exact .next h
  · split
    · exact .next (h.mintFailed ..)
    · split
      · exact .next h
      · exact .next (h.hostMint ..)

theorem putAnchor (h : s.Kept t) (e ty : Nat) (data : List Byte) : s.Kept (t.putAnchor e ty data) := by
  unfold State.putAnchor
  extract_lets t
  have ht : s.Kept t := h.setFlag ..
  exact ht.frame

theorem writeAnchor (h : s.Kept t) (v : Word) : s.Kept (t.writeAnchor v) := by
  unfold State.writeAnchor
  extract_lets
  split
  · exact h
  · split
    · exact (h.setFld ..).crySticky ..
    · split
      · exact (h.setFld ..).crySticky ..
      · exact (h.setFld ..).putAnchor ..

theorem cryWrite (h : s.Kept t) (off : Nat) (v : Word) : s.Kept (t.cryWrite off v) :=
  .ite (h.writeCryCtrl ..) (.ite (h.writeKeyCommand ..) (.ite (h.writeHostMint ..) (.ite (h.writeAnchor ..) (.ite (h.stage ..) (h.plainWrite ..)))))

theorem cryRead (h : s.Kept t) (off : Nat) : s.Kept (t.cryRead off).2 := h.plainRead ..

/-! ### Events -/

theorem setPending (h : s.Kept t) (v : Nat) (b : Bool) : s.Kept (t.setPending v b) := h.setFlag ..

theorem pend (h : s.Kept t) (v : Nat) : s.Kept (t.pend v) := .ite (h.setPending ..) h

theorem sendMessage (h : s.Kept t) (v : Nat) : s.Kept (t.sendMessage v) := by
  unfold State.sendMessage
  extract_lets t
  have ht : s.Kept t := h.setPending ..
  exact ht.frame

theorem trySend (h : s.Kept t) (v : Nat) : s.Kept (t.trySend v) := .ite (h.sendMessage ..) h

theorem loseRecord (h : s.Kept t) (e : Nat) : s.Kept (t.loseRecord e) := by
  unfold State.loseRecord
  extract_lets t
  have ht : s.Kept t := (h.bump ..).dmaSticky ..
  exact ht.setRing ..

theorem queueRecord (h : s.Kept t) (e : Nat) (r : EventRecord) : s.Kept (t.queueRecord e r) :=
  .ite h (.ite (h.loseRecord ..) (h.setRing ..))

theorem acceptRaise (h : s.Kept t) (r : Raise) : s.Kept (t.acceptRaise r) := by
  unfold State.acceptRaise
  extract_lets t _ _ _ _ u
  have ht : s.Kept t := h.setFlag ..
  have hu : s.Kept u := .ite (ht.queueRecord ..) ht
  exact .ite ht (.ite (hu.pend ..) hu)

theorem exec_eventRaise (h : s.Kept t) : s.Keeps (execEventRaise t) := by
  unfold Machine.execEventRaise
  split
  · exact .next h
  · extract_lets t
    have ht : s.Kept t := h.frame
    exact .next (.ite (ht.acceptRaise ..) ht)

theorem evtWrite (h : s.Kept t) (off : Nat) (v : Word) : s.Kept (t.evtWrite off v) :=
  .ite (h.setFlag ..) (h.plainWrite ..)

theorem evtRead (h : s.Kept t) (off : Nat) : s.Kept (t.evtRead off).2 := by
  unfold State.evtRead
  split
  · exact h
  · exact h.plainRead ..

theorem resetRegs (h : s.Kept t) (lo hi keep : Nat) : s.Kept (t.resetRegs lo hi keep) :=
  ⟨h.pending, fun hs => (h.inv hs).of_regs _ (sparseWf_filter regDefault t.regs _ (h.inv hs).regs)⟩

theorem resetEndpoint (h : s.Kept t) : s.Kept t.resetEndpoint := by
  unfold State.resetEndpoint
  extract_lets t
  have ht : s.Kept t := h.resetRegs ..
  exact ht.frame

theorem resetEndpointMarked (h : s.Kept t) (flr : Bool) : s.Kept (t.resetEndpointMarked flr) := by
  unfold State.resetEndpointMarked
  extract_lets t
  have ht : s.Kept t := h.resetEndpoint
  exact (ht.frame.dmaSticky ..).notePtm

theorem exec_pcieLinkUp (h : s.Kept t) : s.Keeps (execPcieLinkUp t) := by
  unfold Machine.execPcieLinkUp
  split
  · exact .next h
  · extract_lets t
    have ht : s.Kept t := .ite (h.resetEndpointMarked ..) h
    exact .next ht.frame

theorem exec_perstAssert (h : s.Kept t) : s.Keeps (execPerstAssert t) := by
  unfold Machine.execPerstAssert
  split
  · exact .next h
  · extract_lets t
    have ht : s.Kept t := .ite h.resetEndpoint h
    exact .next ht.frame.notePtm

theorem exec_perstRelease (h : s.Kept t) : s.Keeps (execPerstRelease t) := by
  unfold Machine.execPerstRelease
  split
  · exact .next h
  · extract_lets _ t
    have ht : s.Kept t := h.frame
    exact .next (.ite (ht.resetEndpointMarked ..) ht)

theorem pcieLost (h : s.Kept t) : s.Kept t.pcieLost := by
  unfold State.pcieLost
  extract_lets t
  have ht : s.Kept t := ((h.resetRegs ..).setFlag ..).setFlag ..
  exact ht.frame.notePtm

theorem emit (h : s.Kept t) (t' : Tlp) : s.Kept (t.emit t') := h.frame

theorem exec_configAccess (h : s.Kept t) (a : ConfigAccess) : s.Keeps (execConfigAccess a t) := by
  unfold Machine.execConfigAccess
  extract_lets _ t
  have ht : s.Kept t := by
    unfold t
    split
    · exact h.setFlag ..
    · exact .ite h (h.emit ..)
    · exact h
  exact .next (.ite h ht.frame)

theorem bar2Failed (h : s.Kept t) : s.Kept t.bar2Failed := (h.bump ..).dmaSticky ..

theorem bar2ReadWord (h : s.Kept t) (a : Nat) : s.Kept (t.bar2ReadWord a).2.2.2 := by
  unfold State.bar2ReadWord
  split
  · exact h
  · split
    · exact h.eccError ..
    · exact h
  · split
    · exact h.eccError ..
    · exact h

theorem bar2Read (h : s.Kept t) (a n : Nat) : s.Kept (t.bar2Read a n).2.2.2 := by
  induction n generalizing t a with
  | zero => exact h
  | succ n ih => exact ih (h.bar2ReadWord a) (a + 4)

theorem bar2Store (h : s.Kept t) (a : Nat) (bs : List (Option Byte)) : s.Kept (t.bar2Store a bs).2 := by
  unfold State.bar2Store
  extract_lets
  split
  · exact h
  · split
    · exact h.eccError ..
    · exact h.poolWrite ..
  · exact h.writeBank ..

theorem bar2Write (h : s.Kept t) (a : Nat) (ws : List (List (Option Byte))) : s.Kept (t.bar2Write a ws).2 := by
  induction t, a, ws using State.bar2Write.induct with
  | case1 t a => exact h
  | case2 t a w => exact h.bar2Store ..
  | case3 t a w v ws hc failed u hu failed' u' hu' ih =>
    have hstore := h.bar2Store a (w ++ v)
    rw [hu] at hstore
    rw [State.bar2Write, if_pos hc, hu]
    exact ih hstore
  | case4 t a w v ws hc failed u hu failed' u' hu' ih =>
    have hstore := h.bar2Store a w
    rw [hu] at hstore
    rw [State.bar2Write, if_neg hc, hu]
    exact ih hstore

theorem exec_bar2Access (h : s.Kept t) (i : Fin 33554432) (n : Nat) (w : Option (List (Vector (Option Byte) 4))) :
    s.Keeps (execBar2Access i n w t) := by
  unfold Machine.execBar2Access
  refine .next (.ite h (.ite ?_ ?_))
  · split
    · exact h.bar2Failed
    · exact h.bar2Failed.frame
  · split
    · exact .ite (h.bar2Write ..).bar2Failed (h.bar2Write ..)
    · have hread := (h.bar2Read (4 * i.val) n).frame (u := { (t.bar2Read (4 * i.val) n).2.2.2 with
        pcie := { (t.bar2Read (4 * i.val) n).2.2.2.pcie with
          bar2Data := ((t.bar2Read (4 * i.val) n).1, (t.bar2Read (4 * i.val) n).2.2.1) } })
      have hemit : s.Kept (if (t.bar2Read (4 * i.val) n).2.2.1 then _ else _) := .ite (hread.emit .errorMessage) hread
      exact .ite hemit.bar2Failed hemit

/-! ### Channels -/

theorem setGrvCh (h : s.Kept t) (n : Nat) (v : GrvChannel) : s.Kept (t.setGrvCh n v) := h.frame

theorem setGrvUnit (h : s.Kept t) (k : Nat) (v : GrvUnit) : s.Kept (t.setGrvUnit k v) := h.frame

theorem grvArm (h : s.Kept t) (n : Nat) : s.Kept (t.grvArm n) := by
  unfold State.grvArm
  extract_lets _ t
  have ht : s.Kept t := h.setGrvCh ..
  exact .ite ((ht.arm ..).arm ..) ht

/-! ### Client -/

theorem takeRecords (h : s.Kept t) (n : Nat) : s.Kept (t.takeRecords n) := h.poolWrite ..

theorem writeMaster (h : s.Kept t) (p : Nat) : s.Kept (t.writeMaster p) := (h.poolWrite ..).drewBytes ..

/-! ### Modes -/

theorem setMode (h : s.Kept t) (m : Nat) : s.Kept (t.setMode m) := by
  unfold State.setMode
  split
  · exact h
  · extract_lets _ t
    have ht : s.Kept t := (h.setFld ..).log ..
    exact .ite (ht.raise ..) ht

/-! ### Selector -/

theorem selError (h : s.Kept t) (bit slot : Nat) : s.Kept (t.selError bit slot) := .ite h ((h.setFlag ..).raise ..)

theorem setSlot (h : s.Kept t) (n : Nat) (v : SlotState) : s.Kept (t.setSlot n v) := h.frame

theorem setDstate (h : s.Kept t) (d : Nat) : s.Kept (t.setDstate d) := h.setFld ..

theorem refreshSlot (h : s.Kept t) (n : Nat) : s.Kept (t.refreshSlot n) := by
  unfold State.refreshSlot
  extract_lets _ _ t
  have ht : s.Kept t := (h.setFlag ..).setFld ..
  exact ht.setFlag ..

theorem refreshSlots (h : s.Kept t) : s.Kept t.refreshSlots := h.foldl (fun hu _ => hu.refreshSlot ..) _

theorem moveSlot (h : s.Kept t) (n st why : Nat) : s.Kept (t.moveSlot n st why) := by
  unfold State.moveSlot
  extract_lets _ t u v
  have ht : s.Kept t := .ite (h.setSlot ..) h
  have hu : s.Kept u := .ite ht ((ht.setFld ..).raise ..)
  have hv : s.Kept v := .ite (hu.setFlag ..) hu
  exact .ite hv (hv.setFld ..)

theorem restartSlot (h : s.Kept t) (n : Nat) : s.Kept (t.restartSlot n) := h.setSlot ..

theorem writeParams (h : s.Kept t) (line : List Byte) : s.Kept (t.writeParams line) := by
  unfold State.writeParams
  extract_lets t
  have ht : s.Kept t := .ite h (h.poolWrite ..)
  exact .ite ht (ht.poolWrite ..)

theorem publish (h : s.Kept t) : s.Kept t.publish := by
  unfold State.publish
  split
  · exact h
  · extract_lets _ t _ _ u
    have ht : s.Kept t := (h.setFlag ..).setFld ..
    have hu : s.Kept u := (ht.writeParams ..).drewBytes ..
    exact .ite hu ((hu.setFld ..).raise ..)

theorem moveMode (h : s.Kept t) : s.Kept t.moveMode :=
  .ite (.ite ((h.setFld ..).setFlag ..) (h.setFld ..)) (.ite (.ite ((h.setMode ..).setFlag ..) (h.setMode ..)) h)

theorem settle (h : s.Kept t) : s.Kept t.settle := h.moveMode.refreshSlots.publish

theorem aidEvent (h : s.Kept t) (a : Option Nat) : s.Kept (t.aidEvent a) := by
  unfold State.aidEvent
  split
  · exact h.raise ..
  · exact h

theorem checkAid (h : s.Kept t) : s.Kept t.checkAid := .ite h ((h.frame.aidEvent ..).aidEvent ..)

theorem enterHold (h : s.Kept t) (d : Nat) : s.Kept (t.enterHold d) := by
  unfold State.enterHold
  split
  · exact h.setDstate ..
  · extract_lets _ _ t
    have ht : s.Kept t := h.frame
    exact (ht.setDstate ..).checkAid

theorem enterTrack (h : s.Kept t) (n : Nat) : s.Kept (t.enterTrack n) := (h.frame.setDstate ..).checkAid

theorem enterSlew (h : s.Kept t) (n : Nat) : s.Kept (t.enterSlew n) := by
  unfold State.enterSlew
  extract_lets _ t
  have ht : s.Kept t := (h.frame.setDstate ..).checkAid
  exact ht.raise ..

theorem enterAlign (h : s.Kept t) (n : Nat) : s.Kept (t.enterAlign n) :=
  .ite h ((h.frame.setDstate ..).checkAid.raise ..)

theorem approach (h : s.Kept t) (n : Nat) : s.Kept (t.approach n) :=
  .ite (.ite h.frame (h.enterAlign ..)) (.ite (h.enterTrack ..) (.ite (h.enterSlew ..) (h.enterAlign ..)))

theorem nameCur (h : s.Kept t) (c : Option Nat) : s.Kept (t.nameCur c) := (h.setFlag ..).setFld ..

theorem nameFcur (h : s.Kept t) (c : Option Nat) : s.Kept (t.nameFcur c) := (h.setFlag ..).setFld ..

theorem select (h : s.Kept t) (c : Option Nat) : s.Kept (t.select c) := by
  unfold State.select
  extract_lets _ t
  have ht : s.Kept t := (h.enterHold ..).nameCur ..
  split
  · extract_lets u
    have hu : s.Kept u := (h.nameCur ..).raise ..
    exact hu.frame.approach ..
  · exact ht.frame.raise ..

theorem dropReturned (h : s.Kept t) : s.Kept t.dropReturned := h.frame

theorem stopAligning (h : s.Kept t) : s.Kept t.stopAligning := h.frame

theorem evaluate (h : s.Kept t) : s.Kept t.evaluate := by
  unfold State.evaluate
  split
  · extract_lets _ t
    have ht : s.Kept t := h.frame
    exact (((ht.setDstate ..).nameCur ..).nameFcur ..).checkAid
  · extract_lets t _ u
    have ht : s.Kept t := (h.nameFcur ..).checkAid
    have hu : s.Kept u := ht.dropReturned
    exact .ite ht (.ite (ht.select ..) (.ite (ht.enterHold ..) (.ite (hu.approach ..) (.ite (hu.stopAligning.approach ..) (.ite (hu.stopAligning.approach ..) (.ite (hu.approach ..) hu))))))

theorem noteReturn (h : s.Kept t) (n : Nat) : s.Kept (t.noteReturn n) := by
  unfold State.noteReturn
  split
  · split
    · extract_lets _ t
      have ht : s.Kept t := h.frame
      exact .ite ((ht.enterHold ..).raise ..) ht
    · exact h
  · exact h

theorem toState (h : s.Kept t) (n st why : Nat) : s.Kept (t.toState n st why) := by
  unfold State.toState
  extract_lets t
  have ht : s.Kept t := h.moveSlot ..
  exact .ite (ht.noteReturn ..) ht

theorem classifySlot (h : s.Kept t) (n : Nat) : s.Kept (t.classifySlot n) := (h.setSlot ..).refreshSlot ..

theorem judge (h : s.Kept t) (n why : Nat) : s.Kept (t.judge n why) :=
  .ite (.ite (h.toState ..) (.ite (h.toState ..) (h.setFld ..))) (.ite (h.toState ..) (.ite (h.toState ..) h))

theorem loseSlot (h : s.Kept t) (n : Nat) : s.Kept (t.loseSlot n) := .ite h ((h.toState ..).restartSlot ..)

theorem checkSlot (h : s.Kept t) (n : Nat) : s.Kept (t.checkSlot n) := by
  unfold State.checkSlot
  extract_lets u
  have hu : s.Kept u := h.classifySlot ..
  exact .ite (hu.loseSlot ..) (hu.judge ..)

theorem flagDisag (h : s.Kept t) (n : Nat) (b : Bool) : s.Kept (t.flagDisag n b) := (h.setFlag ..).refreshSlot ..

theorem closePair (h : s.Kept t) (p : Nat × Nat) : s.Kept (t.closePair p) := by
  unfold State.closePair
  extract_lets _ t
  have ht : s.Kept t := h.frame
  exact ht.foldl (fun hu _ => .ite hu (hu.flagDisag ..)) _

theorem arbitrate (h : s.Kept t) (a b : Nat) : s.Kept (t.arbitrate a b) := by
  unfold State.arbitrate
  extract_lets _ _ t
  have ht : s.Kept t := h.frame
  exact .ite ((h.closePair ..).foldl (fun hu _ => (hu.toState ..).setSlot ..) _) (.ite h (((ht.flagDisag ..).flagDisag ..).raise ..))

theorem examinePair (h : s.Kept t) (p : Nat × Nat) : s.Kept (t.examinePair p) := by
  unfold State.examinePair
  extract_lets
  split
  · exact .ite (h.closePair ..) h
  · split
    · exact h
    · exact .ite ((h.closePair ..).raise ..) (.ite (h.arbitrate ..) h)

theorem examineSuspect (h : s.Kept t) (n : Nat) : s.Kept (t.examineSuspect n) := by
  unfold State.examineSuspect
  split
  · exact h
  · split
    · exact h
    · extract_lets _ d
      clear_value d
      split
      · exact .ite (h.toState ..) h
      · exact h

theorem examine (h : s.Kept t) : s.Kept t.examine :=
  .foldl (h.foldl (fun hu _ => hu.examinePair ..) _) (fun hu _ => hu.examineSuspect ..) _

/-! ### Discipline -/

theorem steer (h : s.Kept t) (y : Rat) : s.Kept (t.steer y) := by
  unfold State.steer
  extract_lets _ u _ v
  have hu : s.Kept u := .ite h (h.selError ..)
  have hv : s.Kept v := hu.withSel _
  exact (hv.writeIncrL ..).writeIncrH ..

theorem track (h : s.Kept t) (n : Nat) : s.Kept (t.track n) := h.frame.steer ..

theorem slew (h : s.Kept t) (n : Nat) : s.Kept (t.slew n) := by
  unfold State.slew
  extract_lets x yr u
  have hu : s.Kept u := h.steer ..
  exact .ite (((hu.withSel _).setDstate ..).raise ..) hu

theorem loopStep (h : s.Kept t) (n : Nat) : s.Kept (t.loopStep n) :=
  .ite h (.ite (h.track ..) (.ite (h.slew ..) (.ite (h.steer ..) h)))

theorem trackLock (h : s.Kept t) (n : Nat) : s.Kept (t.trackLock n) := h.frame

theorem record (h : s.Kept t) (n : Nat) (at_ x : Int) : s.Kept (t.record n at_ x) := by
  unfold State.record
  extract_lets _ _ _ t u
  have ht : s.Kept t := h.setSlot ..
  have hu : s.Kept u := ht.bump ..
  exact hu.wr ..

theorem chooseMaster (h : s.Kept t) (n sender : Nat) : s.Kept (t.chooseMaster n sender) :=
  .ite h ((h.setSlot ..).foldl (fun hu _ => hu.writeMaster ..) _)

theorem noteAnnounce (h : s.Kept t) (n : Nat) (a : Option Master) : s.Kept (t.noteAnnounce n a) := by
  unfold State.noteAnnounce
  split
  · exact h.setSlot ..
  · exact h

theorem noteMaster (h : s.Kept t) (n : Nat) (r : Reading) : s.Kept (t.noteMaster n r) := by
  cases r with
  | client m => exact .ite h (((h.noteAnnounce ..).chooseMaster ..).takeRecords ..)
  | record =>
    delta State.noteMaster
    dsimp only
    cases t.sel.injected.find? (·.1 == n) with
    | none => exact h
    | some r => exact .withSel (.ite (h.setSlot ..) h) _
  | pair => exact h.frame
  | epoch g => exact h
  | edge g k => exact h

theorem freeInjection (h : s.Kept t) (n : Nat) : s.Kept (t.freeInjection n) := .ite (h.setFlag ..) h

theorem accept (h : s.Kept t) (n : Nat) (at_ m : Int) : s.Kept (t.accept n at_ m) := by
  unfold State.accept
  extract_lets _ _ u v w _ u₁ _ u₂
  have hu : s.Kept u := .ite (h.restartSlot ..) h
  have hv : s.Kept v := (hu.record ..).classifySlot ..
  have hw : s.Kept w := .ite (hv.toState ..) hv
  have hu₁ : s.Kept u₁ := (hw.judge ..).examine.evaluate
  have hu₂ : s.Kept u₂ := .ite ((hu₁.frame.loopStep ..).trackLock ..) hu₁
  exact hu₂.settle

theorem observe (h : s.Kept t) (n : Nat) (at_ m : Int) : s.Kept (t.observe n at_ m) := (h.record ..).refreshSlot ..

theorem noteJump (h : s.Kept t) (n : Nat) (at_ m : Int) : s.Kept (t.noteJump n at_ m) := .ite h.frame h

theorem exec_slotMeasurement (h : s.Kept t) (n : Fin 16) (r : Reading) (suspectStamp : Bool) :
    s.Keeps (execSlotMeasurement n r suspectStamp t) := by
  unfold Machine.execSlotMeasurement
  extract_lets
  split
  · exact .next h
  · split
    · exact .next ((h.noteMaster ..).bump ..)
    · split
      · extract_lets t
        have ht : s.Kept t := ((h.noteMaster ..).freeInjection ..).noteJump ..
        exact .next (.ite (ht.observe ..) (ht.accept ..))
      · exact .next (.ite (h.noteMaster ..) (.ite (((h.noteMaster ..).freeInjection ..).loseSlot ..).examine.evaluate.settle (h.noteMaster ..)))

theorem readTemp (h : s.Kept t) : s.Kept t.readTemp := by
  unfold State.readTemp
  split
  · extract_lets u v
    have hu : s.Kept u := .ite (h.raise ..) h
    have hv : s.Kept v := hu.setFlag ..
    split
    · exact hv
    · extract_lets _ _ w
      have hw : s.Kept w := hv.setFld ..
      exact hw.frame

theorem writeInject (h : s.Kept t) (m : Nat) (v : Word) : s.Kept (t.writeInject m v) := by
  unfold State.writeInject
  split
  · exact h
  · split
    · exact h.selError ..
    · extract_lets t
      have ht : s.Kept t := h.setFlag ..
      exact ht.frame

theorem writeStep (h : s.Kept t) (value : CT96) (absolute initial : Bool) :
    s.Kept (t.writeStep value absolute initial) := by
  unfold State.writeStep
  extract_lets t
  have ht : s.Kept t := (h.wr96 ..).writeStepCmd ..
  exact .ite ht.frame (ht.selError ..)

theorem exec_initAlignStep (h : s.Kept t) : s.Keeps (execInitAlignStep t) := by
  unfold Machine.execInitAlignStep
  split
  · exact .next (.ite (h.writeStep ..) h)
  · exact .next h

theorem cmdAlign (h : s.Kept t) : s.Kept t.cmdAlign := .ite h.frame (h.selError ..)

theorem exec_alignStepWrite (h : s.Kept t) : s.Keeps (execAlignStepWrite t) := by
  unfold Machine.execAlignStepWrite
  split
  · split
    · extract_lets _ t
      have ht : s.Kept t := h.frame
      exact .next (.ite (ht.writeStep ..) (.ite (ht.writeStep ..) h))
    · exact .next h
  · exact .next h

theorem cmdForceSlew (h : s.Kept t) : s.Kept t.cmdForceSlew := by
  unfold State.cmdForceSlew
  split
  · exact .ite (h.enterSlew ..).settle (h.selError ..)
  · exact h.selError ..

theorem cmdWtrClr (h : s.Kept t) (n : Nat) : s.Kept (t.cmdWtrClr n) := .ite (h.toState ..).examine.evaluate.settle h

theorem showModel (h : s.Kept t) : s.Kept t.showModel := h.wrWords ..

theorem cmdLoadSeed (h : s.Kept t) : s.Kept t.cmdLoadSeed := .ite (h.frame.setFlag ..).showModel (h.selError ..)

theorem cmdRelearn (h : s.Kept t) : s.Kept t.cmdRelearn := (h.frame.setFlag ..).showModel

theorem writeSelCmd (h : s.Kept t) (v : Word) : s.Kept (t.writeSelCmd v) :=
  .ite h (.ite (h.selError ..) (.ite h.cmdAlign (.ite h.cmdForceSlew (.ite (h.cmdWtrClr ..) (.ite h.cmdLoadSeed (.ite h.cmdRelearn (h.selError ..)))))))

theorem selCommand (h : s.Kept t) (ag : Agent) (op : Nat) (v : Word) : s.Kept (t.selCommand ag op v) :=
  h.writeAccess (.ite (h.writeSelCmd ..) h)

theorem exec_modelSample (h : s.Kept t) : s.Keeps (execModelSample t) := by
  unfold Machine.execModelSample
  split
  · exact .next h
  · extract_lets _ _ _ _ _ t
    have ht : s.Kept t := h.frame.showModel
    exact .next (.ite (ht.setFlag ..) ht)

theorem exec_modelRefit (h : s.Kept t) : s.Keeps (execModelRefit t) := by
  unfold Machine.execModelRefit
  split
  · exact .next h
  · split
    · exact .next h
    · extract_lets _ _ t
      have ht : s.Kept t := h.frame.showModel
      exact .next (((ht.wr ..).wr ..).raise ..)

theorem stepSelector (h : s.Kept t) (d : Int) (own : Bool) : s.Kept (t.stepSelector d own) := h.frame

theorem selectorStep (h : s.Kept t) (d : Int) : s.Kept (t.selectorStep d) := by
  unfold State.selectorStep
  extract_lets t
  have ht : s.Kept t := h.stepSelector ..
  split
  · extract_lets u
    have hu : s.Kept u := ht.frame.setDstate ..
    exact (hu.checkAid.raise ..).settle
  · exact ht

theorem outputsStep (h : s.Kept t) (d : Int) : s.Kept (t.outputsStep d) := h.frame

theorem exec_stepApply (h : s.Kept t) : s.Keeps (execStepApply t) := by
  unfold Machine.execStepApply
  split
  · split
    · split
      · exact .next h.stepAbort
      · extract_lets t
        have ht : s.Kept t := h.applyStep ..
        exact .next ((ht.selectorStep ..).outputsStep ..)
    · exact .next h
  · exact .next h

theorem selectorSleep (h : s.Kept t) : s.Kept t.selectorSleep := by
  unfold State.selectorSleep
  extract_lets t
  have ht : s.Kept t := .ite (h.steer ..) h
  exact ht.frame

theorem selectorWake (h : s.Kept t) : s.Kept t.selectorWake := h.frame

theorem refEnable (h : s.Kept t) (n : Nat) : s.Kept (t.refEnable n) := (h.wr ..).grvArm ..

theorem refDivider (h : s.Kept t) (n : Nat) : s.Kept (t.refDivider n) :=
  .ite h (.ite ((h.wr ..).refEnable ..) (h.error ..))

theorem refChannel (h : s.Kept t) (n : Nat) : s.Kept (t.refChannel n) :=
  .ite h (.ite (h.refDivider ..) (h.refEnable ..))

theorem writeSlotCfg (h : s.Kept t) (n : Nat) (v : Word) : s.Kept (t.writeSlotCfg n v) := by
  unfold State.writeSlotCfg
  split
  · exact h.selError ..
  · extract_lets _ _ t u _ w
    have ht : s.Kept t := (h.plainWrite ..).refDivider ..
    have hu : s.Kept u := .ite ht (ht.restartSlot ..)
    have hw : s.Kept w := .ite ((hu.moveSlot ..).setFlag ..) (.ite ((hu.setSlot ..).moveSlot ..) hu)
    exact .ite (hw.classifySlot ..).examine.evaluate.settle hw

theorem selWrite (h : s.Kept t) (off : Nat) (v : Word) : s.Kept (t.selWrite off v) := by
  unfold State.selWrite
  split
  · exact h.writeSelCmd ..
  · split
    · exact h.writeSlotCfg ..
    · split
      · exact h.writeInject ..
      · split
        · exact h.writeInject ..
        · split
          · exact h.selError ..
          · extract_lets t
            have ht : s.Kept t := h.plainWrite ..
            exact .ite ht.examine.evaluate.settle ht

theorem latch64 (h : s.Kept t) (off : Nat) (v : Int) : s.Kept (t.latch64 off v) := (h.wr ..).wr ..

theorem selRead (h : s.Kept t) (off : Nat) : s.Kept (t.selRead off).2 := by
  unfold State.selRead
  split
  · exact h
  · split
    · exact (h.latch64 ..).plainRead ..
    · split
      · exact (h.latch64 ..).plainRead ..
      · split
        · exact h
        · exact h.plainRead ..

/-! ### Drypoint -/

theorem setPps (h : s.Kept t) (n : Nat) (v : PpsState) : s.Kept (t.setPps n v) := h.frame

theorem setClk (h : s.Kept t) (n : Nat) (v : ClkState) : s.Kept (t.setClk n v) := h.frame

theorem dryError (h : s.Kept t) (bit : Nat) : s.Kept (t.dryError bit) := h.error ..

theorem outRun (h : s.Kept t) (k : Nat) (b : Bool) : s.Kept (t.outRun k b) := .ite h ((h.setFlag ..).raise ..)

theorem quietPps (h : s.Kept t) (n : Nat) : s.Kept (t.quietPps n) := .ite (h.outRun ..) h

theorem dryRefresh (h : s.Kept t) : s.Kept t.dryRefresh :=
  .outRun (.outRun (h.foldl (fun hu _ => hu.quietPps ..) _) ..) ..

theorem schedulePps (h : s.Kept t) (n : Nat) : s.Kept (t.schedulePps n) := by
  unfold State.schedulePps
  extract_lets
  split
  · split
    · exact h.setPps ..
  · exact .ite (h.outRun ..) h

theorem pulse (h : s.Kept t) (n : Nat) : s.Kept (t.pulse n) := by
  unfold State.pulse
  extract_lets
  split
  · exact h
  · extract_lets _ _ t u
    have ht : s.Kept t := h.setPps ..
    have hu : s.Kept u := (ht.wr ..).outRun ..
    exact .ite (((h.setPps ..).bump ..).dryError ..) (.ite hu.frame hu)

theorem exec_ppsPulseEnd (h : s.Kept t) (n : Fin 4) : s.Keeps (execPpsPulseEnd n t) := by
  unfold Machine.execPpsPulseEnd
  extract_lets _ t
  have ht : s.Kept t := h.setPps ..
  split
  · exact .next h
  · exact .next (.ite ht.dryRefresh (ht.outRun ..).dryRefresh)

theorem clkPlace (h : s.Kept t) (n : Nat) (c : ClkState) (half target : ℚ) (rising : Bool) :
    s.Kept (t.clkPlace n c half target rising) := by
  unfold State.clkPlace
  split
  · extract_lets t u
    have ht : s.Kept t := h.setClk ..
    have hu : s.Kept u := .ite (ht.bump ..) ht
    exact .ite (hu.outRun ..) (.ite ((hu.setClk ..).outRun ..) hu)
  · exact h.setClk ..

theorem scheduleClk (h : s.Kept t) (n : Nat) : s.Kept (t.scheduleClk n) :=
  .ite (h.clkPlace ..) (.ite (.ite (h.clkPlace ..) h) h)

theorem exec_edgeCommand (h : s.Kept t) (o : PlacedOut) : s.Keeps (execEdgeCommand o t) := by
  unfold Machine.execEdgeCommand
  split
  · exact .next (h.schedulePps ..).dryRefresh
  · exact .next (h.scheduleClk ..).dryRefresh

theorem dropOutputs (h : s.Kept t) : s.Kept t.dropOutputs := by
  unfold State.dropOutputs
  extract_lets _ _ t
  have ht : s.Kept t := h.frame
  exact .dryRefresh (ht.foldl (fun hu _ => hu.outRun ..) _)

theorem enablePps (h : s.Kept t) (n : Nat) (old new : Bool) : s.Kept (t.enablePps n old new) :=
  .ite (.ite (h.setPps ..) (h.setPps ..)) (.ite (.ite (h.setPps ..) ((h.setPps ..).outRun ..)) h)

theorem enableClk (h : s.Kept t) (n : Nat) (old new : Bool) : s.Kept (t.enableClk n old new) :=
  .ite (.ite (h.setClk ..) (h.setClk ..)) (.ite (.ite (h.setClk ..) ((h.setClk ..).outRun ..)) h)

theorem writeCkmon (h : s.Kept t) (v : Word) : s.Kept (t.writeCkmon v) := by
  unfold State.writeCkmon
  split
  · exact .ite (h.dryError ..) (h.plainWrite ..)
  · exact h.dryError ..

theorem dryWrite (h : s.Kept t) (off : Nat) (v : Word) : s.Kept (t.dryWrite off v) := by
  unfold State.dryWrite
  split
  · exact h.writeCkmon ..
  · split
    · exact h.dryError ..
    · extract_lets t u
      have ht : s.Kept t := h.plainWrite ..
      have hu : s.Kept u := .ite (ht.enablePps ..) (.ite (ht.enableClk ..) ht)
      exact hu.dryRefresh

theorem dryRead (h : s.Kept t) (off : Nat) : s.Kept (t.dryRead off).2 := h.plainRead ..

theorem exec_todMessageWrite (h : s.Kept t) : s.Keeps (execTodMessageWrite t) := by
  unfold Machine.execTodMessageWrite
  refine .next ?_
  split
  · extract_lets u
    have hu : s.Kept u := (h.wrWords ..).setFlag ..
    exact .ite (hu.withDry _) h
  · exact h

theorem exec_todMessageStart (h : s.Kept t) : s.Keeps (execTodMessageStart t) := by
  unfold Machine.execTodMessageStart
  split
  · split
    · exact .next h.dryRefresh
    · extract_lets _ u
      have hu : s.Kept u := h.frame
      exact .next (.ite hu.frame.dryRefresh ((hu.bump ..).dryError ..).dryRefresh)
  · exact .next h.dryRefresh

theorem exec_todMessageEnd (h : s.Kept t) : s.Keeps (execTodMessageEnd t) := by
  unfold Machine.execTodMessageEnd
  split
  · split
    · exact .next h
    · extract_lets t
      have ht : s.Kept t := (h.setFlag ..).bump ..
      exact .next ht.frame
  · exact .next h

/-! ### Clocks -/

theorem pllStop (h : s.Kept t) (p : Nat) : s.Kept (t.pllStop p) := by
  unfold State.pllStop
  extract_lets t
  have ht : s.Kept t := (h.setFlag ..).setFlag ..
  exact .ite (ht.setFlag ..) ht

theorem pllLost (h : s.Kept t) (p : Nat) : s.Kept (t.pllLost p) :=
  .ite h ((((h.setFlag ..).setFlag ..).setFlag ..).raise ..)

theorem pllLocked (h : s.Kept t) (p : Nat) : s.Kept (t.pllLocked p) := by
  unfold State.pllLocked
  extract_lets t
  have ht : s.Kept t := (h.setFlag ..).setFlag ..
  exact .ite (ht.raise ..) ht

/-! ### Gnss -/

theorem gnsError (h : s.Kept t) (bit : Nat) : s.Kept (t.gnsError bit) := h.error ..

theorem gnsSticky (h : s.Kept t) (bit : Nat) : s.Kept (t.gnsSticky bit) := h.sticky ..

theorem gnsRefresh (h : s.Kept t) : s.Kept t.gnsRefresh := by
  unfold State.gnsRefresh
  extract_lets _ t u
  have ht : s.Kept t := h.setFlag ..
  have hu : s.Kept u := ht.setFlag ..
  exact hu.setFld ..

theorem showChannel (h : s.Kept t) (c : Nat) : s.Kept (t.showChannel c) := h.wr ..

theorem toChannelState (h : s.Kept t) (c st : Nat) : s.Kept (t.toChannelState c st) := by
  unfold State.toChannelState
  extract_lets v u v' w x _ y
  split
  · exact h
  · split
    · exact ((h.setChannel ..).showChannel ..).gnsRefresh
    · split
      · exact ((((h.bump ..).gnsSticky ..).setChannel ..).showChannel ..).gnsRefresh
      · have hx : s.Kept x := ((h.setChannel ..).showChannel ..).gnsRefresh
        have hy : s.Kept y := .ite hx (hx.frame.raise ..)
        exact .ite (.ite (hy.raise ..) hy) hx

theorem releaseChannels (h : s.Kept t) (cs : List Nat) : s.Kept (t.releaseChannels cs) :=
  h.foldl (fun hu _ => hu.setChannel ..) _

theorem abandonJob (h : s.Kept t) : s.Kept t.abandonJob := by
  unfold State.abandonJob
  extract_lets _ _ t
  have ht : s.Kept t := h.frame.setFlag ..
  exact .ite (ht.raise ..) ht

theorem yieldJob (h : s.Kept t) : s.Kept t.yieldJob := by
  unfold State.yieldJob
  split
  · extract_lets _ t
    have ht : s.Kept t := h.abandonJob
    exact ht.frame
  · exact h

theorem sclkLost (h : s.Kept t) : s.Kept t.sclkLost := by
  unfold State.sclkLost
  extract_lets t u
  have ht : s.Kept t := (h.setFlag ..).gnsSticky ..
  have hu : s.Kept u := (ht.pllLost ..).setFlag ..
  exact .gnsRefresh (.abandonJob (hu.foldl (fun hu _ => hu.toChannelState ..) _))

theorem resumeChannel (h : s.Kept t) (c : Nat) : s.Kept (t.resumeChannel c) := .ite h ((h.setChannel ..).showChannel ..)

theorem sclkRestored (h : s.Kept t) : s.Kept t.sclkRestored := by
  unfold State.sclkRestored
  extract_lets t
  have ht : s.Kept t := (h.setFlag ..).raise ..
  exact .gnsRefresh (ht.foldl (fun hu _ => hu.resumeChannel ..) _)

theorem exec_sclkWindow (h : s.Kept t) (edges : Nat) : s.Keeps (execSclkWindow edges t) := by
  unfold Machine.execSclkWindow
  extract_lets _ _ t
  have ht : s.Kept t := h.frame
  exact .next (.ite ht (.ite (.ite ht.sclkLost ht) (.ite (ht.setFlag ..).sclkRestored ht)))

theorem exec_sampleMarker (h : s.Kept t) (phase : Nat) : s.Keeps (execSampleMarker phase t) := by
  unfold Machine.execSampleMarker
  split
  · exact .next h.frame
  · exact .next h

theorem readScnt (h : s.Kept t) : s.Kept t.readScnt.2 := by
  unfold State.readScnt
  extract_lets t
  have ht : s.Kept t := (h.wr ..).wr ..
  exact (ht.wr96 ..).plainRead ..

theorem exec_sinStatUpdate (h : s.Kept t) (i : Fin 4) (codes : List (BitVec 8 × Nat)) :
    s.Keeps (execSinStatUpdate i codes t) := by
  unfold Machine.execSinStatUpdate
  extract_lets _ _ _ _ _ _ _ t
  have ht : s.Kept t := h.wr ..
  exact .next (.ite (.ite (ht.gnsSticky ..) ht) h)

theorem writeSinCtl (h : s.Kept t) (i : Nat) (v : Word) : s.Kept (t.writeSinCtl i v) := by
  unfold State.writeSinCtl
  extract_lets _ t
  have ht : s.Kept t := h.plainWrite ..
  exact .ite (h.gnsError ..) (.ite (h.gnsError ..) (.gnsRefresh (.ite ht (ht.releaseChannels ..))))

theorem writeSinFc (h : s.Kept t) (i : Nat) (v : Word) : s.Kept (t.writeSinFc i v) :=
  .ite (h.gnsError ..) (.ite (h.gnsError ..) (h.plainWrite ..))

theorem writeSig (h : s.Kept t) (g : Nat) (v : Word) : s.Kept (t.writeSig g v) := by
  unfold State.writeSig
  split
  · exact h.gnsError ..
  · extract_lets t
    have ht : s.Kept t := h.plainWrite ..
    exact .ite ht (ht.releaseChannels ..)

theorem writeTpg (h : s.Kept t) (v : Word) : s.Kept (t.writeTpg v) :=
  .ite (h.gnsError ..) (.ite (h.gnsError ..) (h.plainWrite ..).gnsRefresh)

theorem putCandidate (h : s.Kept t) (k : Candidate) : s.Kept (t.putCandidate k) := h.frame

theorem noteFound (h : s.Kept t) (g sv : Nat) : s.Kept (t.noteFound g sv) := h.putCandidate ..

theorem exec_acqJobDone (h : s.Kept t) (e : AcqEnd) : s.Keeps (execAcqJobDone e t) := by
  unfold Machine.execAcqJobDone
  split
  · exact .next h
  · split
    · extract_lets _ _ t
      have ht : s.Kept t := h.frame
      exact .next ((ht.abandonJob.bump ..).foldl (fun hu _ => hu.noteFound ..) _)
    · extract_lets t
      have ht : s.Kept t := h.eccError ..
      exact .next (.ite ht.abandonJob ht.frame)

theorem writeAid (h : s.Kept t) (v : Word) : s.Kept (t.writeAid v) :=
  .ite h (.ite (h.gnsError ..) (.ite ((h.setFld ..).gnsError ..) (.ite ((h.setFld ..).gnsError ..) (h.frame.setFlag ..))))

theorem exec_aidDone (h : s.Kept t) : s.Keeps (execAidDone t) := by
  unfold Machine.execAidDone
  split
  · exact .next h
  · extract_lets _ _ t u
    have ht : s.Kept t := h.frame
    have hu : s.Kept u := ht.wr ..
    exact .next (.raise (.ite hu (hu.gnsError ..)) ..)

theorem gnsLost (h : s.Kept t) : s.Kept t.gnsLost := by
  have hlost : s.Kept { t with gns := { GnsState.reset with good := t.gns.good }, nav := NavState.reset } :=
    ⟨h.pending, fun hs => { h.inv hs with channels := sparseWf_nil _ }⟩
  exact hlost.outRun ..

theorem writeGnsCtrl (h : s.Kept t) (v : Word) : s.Kept (t.writeGnsCtrl v) := by
  unfold State.writeGnsCtrl
  extract_lets t
  have ht : s.Kept t := h.plainWrite ..
  exact .ite (ht.releaseChannels ..).abandonJob.gnsRefresh (.ite ht.frame.gnsRefresh ht)

theorem gnsWrite (h : s.Kept t) (off : Nat) (v : Word) : s.Kept (t.gnsWrite off v) :=
  .ite (h.writeGnsCtrl ..) (.ite (.ite (h.gnsError ..) (h.plainWrite ..)) (.ite (h.writeSinCtl ..) (.ite (h.writeSinFc ..) (.ite (h.writeSig ..) (.ite (h.writeTpg ..) (.ite (h.writeAid ..) (.ite (h.gnsError ..) (h.plainWrite ..))))))))

theorem gnsRead (h : s.Kept t) (off : Nat) : s.Kept (t.gnsRead off).2 := by
  unfold State.gnsRead
  split
  · exact h.readScnt
  · split
    · exact h
    · exact h.plainRead ..

/-! ### Tracking -/

theorem searchFailed (h : s.Kept t) (c : Nat) : s.Kept (t.searchFailed c) := by
  unfold State.searchFailed
  extract_lets _ _ t
  have ht : s.Kept t := h.toChannelState ..
  exact ht.frame

theorem applySteer (h : s.Kept t) (c : Nat) (commanded : Bool) : s.Kept (t.applySteer c commanded) := by
  unfold State.applySteer
  extract_lets _ _ _ t
  have ht : s.Kept t := (h.setChannel ..).showChannel ..
  split
  · exact h.toChannelState ..
  · split
    · exact ht
    · split
      · exact ht
      · split
        · exact .ite (ht.toChannelState ..) (ht.searchFailed ..)
        · extract_lets w
          have hw : s.Kept w := ht.toChannelState ..
          exact hw.setChannel ..

theorem allocate (h : s.Kept t) (c : Nat) (k : Candidate) (carrier : Int) (rate cp kp : Nat) :
    s.Kept (t.allocate c k carrier rate cp kp) := by
  unfold State.allocate
  split
  · split
    · exact h
    · exact (((h.putCandidate ..).setChannel ..).showChannel ..).gnsRefresh
  · exact .ite (h.setChannel ..) h

theorem exec_channelCommand (h : s.Kept t) (c : Fin 256) (k : ChannelCommand) : s.Keeps (execChannelCommand c k t) := by
  unfold Machine.execChannelCommand
  extract_lets _ _ _ _ t
  have ht : s.Kept t := h.frame
  split
  · split
    · exact .next h
    · extract_lets u
      have hu : s.Kept u := by
        unfold u
        split
        · exact ht.putCandidate ..
        · exact ht
      exact .next (hu.setChannel ..)
  · split
    · split
      · exact .next h.frame
      · exact .next (h.putCandidate ..)
    · exact .next h
  · split
    · exact .next (.ite (h.allocate ..) h)
    · exact .next h
  · split
    · exact .next (.ite (h.gnsSticky ..) h)
    · exact .next h

theorem queueDump (h : s.Kept t) (r : DumpRecord) : s.Kept (t.queueDump r) := .ite h.frame ((h.bump ..).gnsSticky ..)

theorem dump (h : s.Kept t) (c n : Nat) (sums : Correlators) (valid : Bool) : s.Kept (t.dump c n sums valid) := by
  unfold State.dump
  extract_lets _ _ t u
  have ht : s.Kept t := h.queueDump ..
  have hu : s.Kept u := .ite ht ((ht.bump ..).gnsSticky ..)
  exact (hu.setChannel ..).applySteer ..

theorem exec_channelDump (h : s.Kept t) (c : Fin 256) (n : Nat) (sums : Correlators) (bad : Option DumpFault) :
    s.Keeps (execChannelDump c n sums bad t) := by
  unfold Machine.execChannelDump
  extract_lets
  split
  · exact .next h
  · split
    · exact .next (h.dump ..)
    · exact .next ((h.eccError ..).dump ..)
    · exact .next ((h.eccError ..).toChannelState ..)

theorem resumeEngine (h : s.Kept t) (e : Nat) : s.Kept (t.resumeEngine e) :=
  .ite (h.foldl (fun hu _ => hu.resumeChannel ..) _) h

theorem retireEngine (h : s.Kept t) (e : Nat) : s.Kept (t.retireEngine e) := by
  unfold State.retireEngine
  extract_lets t _ u
  have ht : s.Kept t := (h.setFlag ..).gnsSticky ..
  have hu : s.Kept u := ht.frame
  exact hu.foldl (fun hu _ => hu.toChannelState ..) _

theorem burstPrepare (h : s.Kept t) : s.Kept t.burstPrepare := by
  unfold State.burstPrepare
  extract_lets _ t
  have ht : s.Kept t := h.foldl (fun hu _ => .ite ((hu.setChannel ..).showChannel ..) (hu.toChannelState ..)) _
  exact ht.frame

theorem exec_burstFrontendOn (h : s.Kept t) : s.Keeps (execBurstFrontendOn t) := by
  unfold Machine.execBurstFrontendOn
  split
  · exact .next h.frame
  · exact .next h

theorem exec_burstStart (h : s.Kept t) : s.Keeps (execBurstStart t) := by
  unfold Machine.execBurstStart
  split
  · extract_lets t
    have ht : s.Kept t := h.foldl (fun hu _ => .ite (hu.setChannel ..) hu) _
    exact .next ht.frame
  · exact .next h

theorem burstResult (h : s.Kept t) (r : BurstResult) : s.Kept (t.burstResult r) := by
  unfold State.burstResult
  extract_lets _ _ t
  have ht : s.Kept t := h.toChannelState ..
  exact .ite h (.ite ht.frame ((h.setChannel ..).showChannel ..))

theorem exec_burstEnd (h : s.Kept t) (rs : List BurstResult) : s.Keeps (execBurstEnd rs t) := by
  unfold Machine.execBurstEnd
  split
  · exact .next h
  · extract_lets t
    have ht : s.Kept t := .pllStop (.pllStop (h.foldl (fun hu _ => hu.burstResult ..) _) ..) ..
    exact .next ht.frame

theorem burstExit (h : s.Kept t) : s.Kept t.burstExit := by
  unfold State.burstExit
  extract_lets _ t u v _ w
  have ht : s.Kept t := h.wr ..
  have hu : s.Kept u := .ite ht (ht.raise ..)
  have hv : s.Kept v := .ite hu (hu.gnsSticky ..)
  have hw : s.Kept w := hv.frame
  exact hw.foldl (fun hu _ => .ite ((hu.setChannel ..).toChannelState ..) hu) _

/-! ### Osnma -/

theorem setAuth (h : s.Kept t) (sv a : Nat) : s.Kept (t.setAuth sv a) := h.frame

theorem showOsnma (h : s.Kept t) : s.Kept t.showOsnma := by
  unfold State.showOsnma
  extract_lets _ t u
  have ht : s.Kept t := (h.setFld ..).setFlag ..
  have hu : s.Kept u := ht.setFlag ..
  exact .ite (hu.setFld ..) (.ite (hu.setFld ..) hu)

theorem tagFailed (h : s.Kept t) (g : OsnmaTag) : s.Kept (t.tagFailed g) := by
  unfold State.tagFailed
  extract_lets _ t
  have ht : s.Kept t := .ite h.frame (h.setAuth ..)
  exact (ht.bump ..).raise ..

theorem checkTag (h : s.Kept t) (c : OsnmaChain) (key : List Byte) (g : OsnmaTag) : s.Kept (t.checkTag c key g) :=
  .ite (h.tagFailed ..) (.ite h.frame (.ite (h.setAuth ..) h))

theorem withoutTags (h : s.Kept t) (gone : OsnmaTag → Bool) : s.Kept (t.withoutTags gone) := h.frame

theorem teslaKey (h : s.Kept t) (subframe : Nat) (key : List Byte) : s.Kept (t.teslaKey subframe key) := by
  unfold State.teslaKey
  extract_lets _ t
  have ht : s.Kept t := h.withoutTags ..
  split
  · split
    · exact ht.frame.foldl (fun hu _ => hu.checkTag ..) _
    · exact ht.raise ..
  · exact ht.raise ..

theorem osnmaDiscard (h : s.Kept t) : s.Kept t.osnmaDiscard := .raise (.ite h (h.setFld ..)) ..

theorem osnmaRoot (h : s.Kept t) (pkid : Nat) (c : OsnmaChain) : s.Kept (t.osnmaRoot pkid c) := by
  unfold State.osnmaRoot
  split
  · exact h
  · extract_lets _ _ t
    have ht : s.Kept t := .ite h h.frame
    exact ((ht.setFld ..).setFld ..).setFld ..

theorem timeCheck (h : s.Kept t) (second : Nat) : s.Kept (t.timeCheck second) := h.frame

theorem osnma (h : s.Kept t) (a : OsnmaMessage) : s.Kept (t.osnma a) := by
  unfold State.osnma
  split
  · extract_lets t
    have ht : s.Kept t := h.withoutTags ..
    exact .ite ht (ht.setAuth ..)
  · exact h.timeCheck ..
  · exact .ite ((h.frame.setFld ..).raise ..) h
  · exact .ite h (.ite h.frame h.osnmaDiscard)
  · exact .ite h (.ite (h.osnmaRoot ..) h.osnmaDiscard)
  · exact .ite h (h.teslaKey ..)
  · exact .ite h h.frame

theorem osnmaReset (h : s.Kept t) : s.Kept t.osnmaReset := .ite (h.setFld ..).showOsnma h

/-! ### Nav -/

theorem navError (h : s.Kept t) (bit : Nat) : s.Kept (t.navError bit) := h.error ..

theorem replaceAided (h : s.Kept t) (sol : Solution) : s.Kept (t.replaceAided sol) := h.frame

theorem stepSystems (h : s.Kept t) (sol : Solution) : s.Kept (t.stepSystems sol) := h.frame

theorem stepConditions (h : s.Kept t) (sol : Solution) : s.Kept (t.stepConditions sol) := h.frame

theorem navField (h : s.Kept t) (lo n v src : Nat) : s.Kept (t.navField lo n v src) := .ite h ((h.setFld ..).raise ..)

theorem navMode (h : s.Kept t) : s.Kept t.navMode := h.frame

theorem surveyStep (h : s.Kept t) (sol : Solution) (ty integ : Nat) : s.Kept (t.surveyStep sol ty integ) := by
  unfold State.surveyStep
  split
  · exact h
  · split
    · extract_lets _ _ _ _ t
      have ht : s.Kept t := h.frame
      exact .ite (ht.frame.raise ..) ht

theorem readFix (h : s.Kept t) : s.Kept t.readFix.2 := by
  unfold State.readFix
  extract_lets t u
  have ht : s.Kept t := h.wrWords ..
  have hu : s.Kept u := by
    unfold u
    refine ht.foldl (fun hu a => ?_) _
    exact (hu.wr ..).wr ..
  exact hu.plainRead ..

theorem noteLeap (h : s.Kept t) (a : Option (Int × Int × Nat)) : s.Kept (t.noteLeap a) := by
  unfold State.noteLeap
  split
  · exact h
  · extract_lets _ _ _ _ t _ u
    have ht : s.Kept t := ((h.wr ..).wr ..).wr ..
    have hu : s.Kept u := .ite (ht.raise ..) ht
    exact hu.frame

theorem schedulePulse (h : s.Kept t) (sol : Solution) (valid : Bool) : s.Kept (t.schedulePulse sol valid) := by
  unfold State.schedulePulse
  split
  · extract_lets
    split
    · extract_lets t
      have ht : s.Kept t := (h.wr ..).wr ..
      exact ht.frame
  · extract_lets t
    have ht : s.Kept t := h.setFlag ..
    exact ht.frame

theorem noteExclusions (h : s.Kept t) (sol : Solution) : s.Kept (t.noteExclusions sol) :=
  h.frame.foldl (fun hu _ => (hu.bump ..).raise ..) _

theorem noteFlags (h : s.Kept t) (flags jammed : Nat) : s.Kept (t.noteFlags flags jammed) := by
  unfold State.noteFlags
  extract_lets _ t _ u v
  have ht : s.Kept t := h.wr ..
  have hu : s.Kept u := .ite (ht.raise ..) ht
  have hv : s.Kept v := hu.setFld ..
  exact .ite (hv.raise ..) hv

theorem keepBiases (h : s.Kept t) (sol : Solution) (integ : Nat) : s.Kept (t.keepBiases sol integ) := by
  unfold State.keepBiases
  split
  · exact h
  · exact h.frame

theorem beginSolution (h : s.Kept t) (sol : Solution) : s.Kept (t.beginSolution sol) :=
  (h.navMode.showOsnma.replaceAided ..).stepSystems ..

theorem solve (h : s.Kept t) (sol : Solution) : s.Kept (t.solve sol) := by
  unfold State.solve
  extract_lets u _ v _ _ _ _ _ _ _ _ t w u₁ u₂ _ _ u₃ u₄ u₅
  have hu : s.Kept u := h.beginSolution ..
  have hv : s.Kept v := hu.stepConditions ..
  have ht : s.Kept t := .ite hv hv.frame
  have hw : s.Kept w := ((ht.noteFlags ..).noteExclusions ..).noteLeap ..
  have hu₁ : s.Kept u₁ := ((hw.navField ..).navField ..).navField ..
  have hu₂ : s.Kept u₂ := ((hu₁.setFlag ..).setFlag ..).setFld ..
  have hu₃ : s.Kept u₃ := hu₂.frame
  have hu₄ : s.Kept u₄ := .ite (hu₃.raise ..) hu₃
  have hu₅ : s.Kept u₅ := ((hu₄.surveyStep ..).keepBiases ..).schedulePulse ..
  exact (hu₅.setFld ..).dryRefresh

theorem gppsPulse (h : s.Kept t) : s.Kept t.gppsPulse := .ite h.frame h

theorem exec_epochPulse (h : s.Kept t) : s.Keeps (execEpochPulse t) := by
  unfold Machine.execEpochPulse
  split
  · split
    · extract_lets t
      have ht : s.Kept t := h.setFlag ..
      exact .next ht.frame.gppsPulse
    · exact .next h
  · exact .next h

theorem readQerrSec (h : s.Kept t) : s.Kept t.readQerrSec.2 := h.frame.plainRead ..

theorem readQerr (h : s.Kept t) : s.Kept t.readQerr.2 := by
  unfold State.readQerr
  split
  · exact h.frame
  · exact h.plainRead ..

theorem writeNavCtl (h : s.Kept t) (v : Word) : s.Kept (t.writeNavCtl v) :=
  .ite (h.navError ..) (.ite (h.navError ..) (h.plainWrite ..).showOsnma)

theorem applyPos (h : s.Kept t) : s.Kept t.applyPos := .ite (h.navError ..) h.frame

theorem surveyRestart (h : s.Kept t) : s.Kept t.surveyRestart := by
  unfold State.surveyRestart
  extract_lets _ _ t
  have ht : s.Kept t := h.frame
  exact ht.setFld ..

theorem writeNavCmd (h : s.Kept t) (v : Word) : s.Kept (t.writeNavCmd v) :=
  .ite h (.ite h.surveyRestart (.ite h.applyPos (.ite h.osnmaReset (h.navError ..))))

theorem navCommand (h : s.Kept t) (ag : Agent) (op : Nat) (v : Word) : s.Kept (t.navCommand ag op v) :=
  h.writeAccess (.ite (h.writeNavCmd ..) h)

theorem navWrite (h : s.Kept t) (off : Nat) (v : Word) : s.Kept (t.navWrite off v) :=
  .ite (h.writeNavCtl ..) (.ite (h.writeNavCmd ..) (.ite (h.navError ..) (h.plainWrite ..)))

theorem navRead (h : s.Kept t) (off : Nat) : s.Kept (t.navRead off).2 := by
  unfold State.navRead
  split
  · exact h.readFix
  · split
    · exact h.readQerrSec
    · split
      · exact h.readQerr
      · exact h.plainRead ..

/-! ### Graver -/

theorem grvError (h : s.Kept t) (bit : Nat) : s.Kept (t.grvError bit) := h.error ..

theorem grvDone (h : s.Kept t) (n : Nat) : s.Kept (t.grvDone n) := by
  unfold State.grvDone
  extract_lets _ t
  have ht : s.Kept t := h.setGrvCh ..
  exact ((ht.disarm ..).disarm ..).grvSticky ..

theorem unitClose (h : s.Kept t) (k : Nat) : s.Kept (t.unitClose k) := by
  unfold State.unitClose
  extract_lets _ t
  have ht : s.Kept t := h.frame
  exact (ht.setGrvUnit ..).grvSticky ..

theorem unitReach (h : s.Kept t) (k at_ : Nat) : s.Kept (t.unitReach k at_) := by
  unfold State.unitReach
  split
  · exact h
  · extract_lets t
    have ht : s.Kept t := h.unitClose ..
    exact .ite ht ((ht.setGrvUnit ..).unitClose ..)

theorem unitTake (h : s.Kept t) (k at_ : Nat) (x : Option (Int × Bool × Option Nat)) : s.Kept (t.unitTake k at_ x) := by
  unfold State.unitTake
  split
  · exact h
  · extract_lets t
    have ht : s.Kept t := h.unitReach ..
    exact ht.setGrvUnit ..

theorem unitsTake (h : s.Kept t) (n at_ : Nat) (x : Option (Int × Bool × Option Nat)) : s.Kept (t.unitsTake n at_ x) :=
  h.foldl (fun hu _ => .ite (hu.unitTake ..) hu) _

theorem readUnit (h : s.Kept t) (k : Nat) : s.Kept (t.readUnit k).2 := (h.wrWords ..).plainRead ..

theorem grvLose (h : s.Kept t) (n bit at_ : Nat) (gate : Bool) : s.Kept (t.grvLose n bit at_ gate) := by
  unfold State.grvLose
  extract_lets t _ u
  have ht : s.Kept t := h.bump ..
  have hu : s.Kept u := ht.setGrvCh ..
  exact .grvSticky (.ite (hu.unitsTake ..) hu) ..

theorem grvPush (h : s.Kept t) (n : Nat) (stamp : CT96) (falling suspect : Bool) :
    s.Kept (t.grvPush n stamp falling suspect) := by
  unfold State.grvPush
  extract_lets _ _ _ _ t
  have ht : s.Kept t := h.setGrvCh ..
  exact .ite (h.setGrvCh ..) (.ite (((h.setGrvCh ..).bump ..).grvSticky ..) (.ite (ht.grvSticky ..) ht))

/-- Read as a lemma, so that the kernel need not look into the rising edge's times. -/
theorem edgeCases {n : State} {f : CT96 → State} (o : Option CT96) (hn : s.Kept n) (hf : ∀ a, s.Kept (f a)) :
    s.Kept (match o with | none => n | some a => f a) := by
  cases o with
  | none => exact hn
  | some a => exact hf a
theorem pulseLabel (h : s.Kept t) (label : Option (Nat × Nat)) (r : CT96) :
    s.Kept (
      let t := { t with pair := { t.pair with rise := none, pulse := label } }
      match label with
      | none => t
      | some (k, w) =>
        { t with pair := { t.pair with
          queue := if t.flag Reg.PAR_STATUS 24 then t.pair.queue ++ [.timex k w r] else t.pair.queue
          stamps := (k, w, r) :: t.pair.stamps.take 1023 } }) := by
  extract_lets p u
  have hu : s.Kept u := h.withPair _
  clear_value u
  cases label with
  | none => exact hu
  | some _ => exact hu.withPair _
theorem peerEdge (h : s.Kept t) (falling : Bool) (stamp : CT96) : s.Kept (t.peerEdge falling stamp) := by
  unfold State.peerEdge
  refine .ite h (.ite (h.withPair _) ?_)
  refine edgeCases _ h fun r => ?_
  exact h.pulseLabel _ r

theorem grvCapture (h : s.Kept t) (n : Nat) (falling : Bool) (c p : Nat) : s.Kept (t.grvCapture n falling c p) := by
  unfold State.grvCapture
  extract_lets _ _ _ t _ _ u v _ w u₁
  have ht : s.Kept t := h.setGrvCh ..
  have hu : s.Kept u := ht.setGrvCh ..
  have hv : s.Kept v := (hu.grvPush ..).unitsTake ..
  have hw : s.Kept w := .ite hv hv.frame
  have hu₁ : s.Kept u₁ := .ite (hw.peerEdge ..) hw
  split
  · extract_lets u₂
    have hu₂ : s.Kept u₂ := .ite ht (.ite (hu₁.grvSticky ..) hu₁)
    exact .ite (hu₂.grvDone ..) hu₂

theorem exec_edgeStamp (h : s.Kept t) (n : Fin 20) (falling : Bool) (c : Fin 3) (p : Fin 64) :
    s.Keeps (execEdgeStamp n falling c p t) := by
  unfold Machine.execEdgeStamp
  extract_lets _ _ _ _ u
  have hu : s.Kept u := h.setGrvCh ..
  exact .next (.ite h (.ite (h.setGrvCh ..) (.ite (hu.grvLose ..) (.ite (hu.grvLose ..) (hu.frame.grvCapture ..)))))

theorem gateChannel (h : s.Kept t) (g n : Nat) (falling : Bool) (phase : Nat) :
    s.Kept (t.gateChannel g n falling phase) := by
  unfold State.gateChannel
  extract_lets _ _ _ _ t
  have ht : s.Kept t := h.setGrvCh ..
  exact .ite h (.ite (.ite h (h.setGrvCh ..)) (.ite h (.ite (ht.grvDone ..) ht)))

theorem exec_gateEdge (h : s.Kept t) (g : Fin 4) (falling : Bool) (phase : Nat) :
    s.Keeps (execGateEdge g falling phase t) := by
  unfold Machine.execGateEdge
  extract_lets _ _ _ t
  have ht : s.Kept t := h.frame
  exact .next (.ite h (ht.foldl (fun hu _ => hu.gateChannel ..) _))

theorem grvPop (h : s.Kept t) (ag : Agent) (n : Nat) : s.Kept (t.grvPop ag n).2 := by
  unfold State.grvPop
  split
  · exact h.grvError ..
  · split
    · exact h.wr ..
    · extract_lets _ t
      have ht : s.Kept t := h.setGrvCh ..
      exact ht.wrWords ..

theorem grvSpoiled (h : s.Kept t) (n : Nat) : s.Kept (t.grvSpoiled n) := by
  unfold State.grvSpoiled
  extract_lets
  split
  · exact h
  · exact (h.setGrvCh ..).bump ..
  · exact (h.setGrvCh ..).bump ..

theorem writeGrvCtl (h : s.Kept t) (ag : Agent) (n : Nat) (v : Word) : s.Kept (t.writeGrvCtl ag n v) := by
  unfold State.writeGrvCtl
  extract_lets _ _ t _ u _ w
  have ht : s.Kept t := h.plainWrite ..
  have hu : s.Kept u := .ite (ht.setGrvCh ..) ht
  have hw : s.Kept w := .ite (hu.setGrvCh ..) hu
  exact .ite (h.grvError ..) (.ite (h.grvError ..) (.ite (h.grvError ..) (.ite (h.grvError ..) (.ite (hw.grvArm ..) (((hw.setGrvCh ..).disarm ..).disarm ..)))))

theorem writeGrvThr (h : s.Kept t) (ag : Agent) (n : Nat) (v : Word) : s.Kept (t.writeGrvThr ag n v) := by
  unfold State.writeGrvThr
  split
  · exact h.grvError ..
  · split
    · exact .ite (h.grvError ..) (.ite (h.grvError ..) (h.plainWrite ..))
    · extract_lets t
      have ht : s.Kept t := h.plainWrite ..
      exact .ite (ht.setGrvCh ..) ht

theorem writeLoincH (h : s.Kept t) (v : Word) : s.Kept (t.writeLoincH v) := by
  unfold State.writeLoincH
  extract_lets _ t
  have ht : s.Kept t := h.wr ..
  exact .ite (ht.grvError ..) ht.frame

theorem exec_loincApply (h : s.Kept t) : s.Keeps (execLoincApply t) := by
  unfold Machine.execLoincApply
  split
  · split
    · extract_lets t
      have ht : s.Kept t := (h.wr ..).wr ..
      exact .next ht.frame
    · exact .next h
  · exact .next h

theorem grvLeave (h : s.Kept t) : s.Kept t.grvLeave := by
  unfold State.grvLeave
  refine h.foldl (fun hu a => ?_) _
  extract_lets _ v
  have hv : s.Kept v := (hu.setFlag ..).setFlag ..
  exact (((hv.setGrvCh ..).disarm ..).disarm ..).refChannel ..

theorem unitBegin (h : s.Kept t) (k : Nat) : s.Kept (t.unitBegin k) := h.setGrvUnit ..

theorem grvStart (h : s.Kept t) : s.Kept t.grvStart := by
  unfold State.grvStart
  extract_lets _ t u
  have ht : s.Kept t := h.frame
  have hu : s.Kept u := ht.foldl (fun hu _ => .ite (hu.grvArm ..) hu) _
  exact hu.foldl (fun hu _ => .ite (hu.unitBegin ..) hu) _

theorem writeUnit (h : s.Kept t) (ag : Agent) (k off : Nat) (v : Word) : s.Kept (t.writeUnit ag k off v) := by
  unfold State.writeUnit
  extract_lets _ _ _ t
  have ht : s.Kept t := h.plainWrite ..
  exact .ite (h.grvError ..) (.ite (.ite (h.grvError ..) (.ite (h.grvError ..) (.ite (ht.unitBegin ..) ht))) (.ite (h.grvError ..) (.ite (h.grvError ..) (h.plainWrite ..))))

theorem grvWrite (h : s.Kept t) (ag : Agent) (off : Nat) (v : Word) : s.Kept (t.grvWrite ag off v) := by
  unfold State.grvWrite
  split
  · exact .ite (h.writeGrvCtl ..) (.ite (h.writeGrvThr ..) (.ite (h.grvError ..) (.ite (.ite h (.ite (h.grvError ..) (.ite (h.grvError ..) (h.plainWrite ..)))) (h.plainWrite ..))))
  · exact .ite (h.writeUnit ..) (.ite (h.writeLoincH ..) (.ite (.ite (h.grvError ..) ((h.plainWrite ..).refDivider ..)) (h.plainWrite ..)))

theorem grvRead (h : s.Kept t) (ag : Agent) (off : Nat) : s.Kept (t.grvRead ag off).2 := by
  unfold State.grvRead
  split
  · exact h
  · split
    · extract_lets
      split
      · exact h.grvPop ..
      · split
        · exact h
        · exact h.plainRead ..
    · split
      · exact h.readUnit ..
      · exact h.plainRead ..

/-! ### Global -/

theorem leaveHostMode (h : s.Kept t) : s.Kept t.leaveHostMode := by
  unfold State.leaveHostMode
  extract_lets t
  have ht : s.Kept t := ((h.setFlag ..).grvLeave.setFlag ..).setFlag ..
  exact .ite (ht.setFlag ..).gnsRefresh ht

theorem enterMode (h : s.Kept t) (m : Nat) : s.Kept (t.enterMode m) := by
  unfold State.enterMode
  extract_lets t u v
  have ht : s.Kept t := h.setMode ..
  have hu : s.Kept u := .ite ht.leaveHostMode ht
  have hv : s.Kept v := .ite hu.settle hu
  exact hv.dryRefresh

theorem goStandby (h : s.Kept t) : s.Kept t.goStandby := (h.setFld ..).enterMode ..

theorem enterServing (h : s.Kept t) (m : Nat) : s.Kept (t.enterServing m) := by
  unfold State.enterServing
  extract_lets t
  have ht : s.Kept t := h.enterMode ..
  exact .ite ht.goStandby ht

theorem supersede (h : s.Kept t) : s.Kept t.supersede := by
  unfold State.supersede
  split
  · extract_lets t
    have ht : s.Kept t := (h.setFlag ..).setFld ..
    exact ht.frame
  · exact h

theorem safeCause (h : s.Kept t) (bit : Nat) : s.Kept (t.safeCause bit) := by
  unfold State.safeCause
  split
  · exact h
  · extract_lets t
    have ht : s.Kept t := h.setFlag ..
    exact .ite ht.frame (ht.supersede.enterMode ..)

/-! ### Pair -/

theorem parError (h : s.Kept t) (bit : Nat) : s.Kept (t.parError bit) := h.error ..

theorem setRole (h : s.Kept t) (r : Nat) : s.Kept (t.setRole r) := by
  unfold State.setRole
  extract_lets t
  have ht : s.Kept t := h.setFld ..
  exact .ite ht.goStandby ht

theorem depose (h : s.Kept t) : s.Kept t.depose := by
  unfold State.depose
  extract_lets t _ u
  have ht : s.Kept t := h.setFlag ..
  have hu : s.Kept u := ht.frame
  exact .raise (.ite (hu.setRole ..) hu) ..

theorem pairQueue (h : s.Kept t) (b : PairBody) : s.Kept (t.pairQueue b) := .ite h.frame h

theorem nextMessage (h : s.Kept t) {r : PairBody × State} (he : t.nextMessage = some r) : s.Kept r.2 := by
  unfold State.nextMessage at he
  split at he
  · cases he
    exact h.frame
  · split at he
    · cases he
      exact h.frame
    · split at he
      · cases he
        exact h.frame
      · cases he

theorem exec_pairMessageSend (h : s.Kept t) : s.Keeps (execPairMessageSend t) := by
  unfold Machine.execPairMessageSend
  refine .next (.ite h ?_)
  split
  · exact h
  · next he => exact (h.nextMessage he).frame

theorem pairLinkLost (h : s.Kept t) : s.Kept t.pairLinkLost := by
  unfold State.pairLinkLost
  extract_lets t
  have ht : s.Kept t := h.setFlag ..
  exact ht.frame

theorem admitEpoch (h : s.Kept t) {e : Word} (he : t.admitEpoch e = some u) : s.Kept u := by
  unfold State.admitEpoch at he
  split at he
  · cases he
    exact h
  · split at he
    · cases he
      exact (h.wr ..).depose
    · cases he

/-- A message keeps where what it does once its epoch is admitted keeps. -/
theorem receivePair (h : s.Kept t) {crc : Bool} {e : Word} {k : State → State} (hk : ∀ {v}, s.Kept v → s.Kept (k v)) :
    s.Kept (t.receivePair crc e k) := by
  unfold State.receivePair
  split
  · exact h
  · split
    · exact h.bump ..
    · split
      · exact h.bump ..
      · next he => exact hk (h.admitEpoch he)

theorem declareDead (h : s.Kept t) : s.Kept t.declareDead := .ite h ((h.setFlag ..).raise ..)

theorem exec_heartbeatInterval (h : s.Kept t) : s.Keeps (execHeartbeatInterval t) := by
  unfold Machine.execHeartbeatInterval
  split
  · exact .next h
  · split
    · exact .next h.frame
    · extract_lets _ _ t
      have ht : s.Kept t := h.frame.bump ..
      exact .next (.ite ht (.ite ht.declareDead (.ite (ht.raise ..) ht)))

theorem exec_pairAliveSilence (h : s.Kept t) : s.Keeps (execPairAliveSilence t) := by
  unfold Machine.execPairAliveSilence
  split
  · exact .next h
  · extract_lets t
    have ht : s.Kept t := h.setFlag ..
    exact .next (.ite ht (.ite ht.declareDead (ht.log ..)))

theorem notePeer (h : s.Kept t) (e : Word) (h' : Heartbeat) : s.Kept (t.notePeer e h') := by
  unfold State.notePeer
  extract_lets _ _ t u v w
  have ht : s.Kept t := ((h.setFld ..).setFld ..).setFld ..
  have hu : s.Kept u := ((ht.wr ..).wr ..).setFlag ..
  have hv : s.Kept v := .ite (hu.raise ..) hu
  have hw : s.Kept w := .ite hv (hv.setFlag ..)
  exact hw.frame

theorem exec_heartbeatRx (h : s.Kept t) (crc : Bool) (epoch : Word) (h' : Heartbeat) :
    s.Keeps (execHeartbeatRx crc epoch h' t) := by
  unfold Machine.execHeartbeatRx
  split
  · extract_lets t
    have ht : s.Kept t := h.wr ..
    exact .next (ht.frame.notePeer ..)
  · exact .next (h.receivePair fun hu => hu.notePeer ..)

theorem takeOver (h : s.Kept t) : s.Kept t.takeOver := by
  unfold State.takeOver
  extract_lets t
  have ht : s.Kept t := (h.wr ..).setFlag ..
  exact ht.frame

theorem takenOver (h : s.Kept t) : s.Kept t.takenOver := by
  unfold State.takenOver
  extract_lets t u v
  have ht : s.Kept t := h.setRole ..
  have hu : s.Kept u := .ite (ht.enterMode ..) ht
  have hv : s.Kept v := (hu.pairQueue ..).report ..
  exact hv.frame

theorem pairCommand (h : s.Kept t) {ok : Bool} {k : State → State} (hk : s.Kept (k t)) : s.Kept (t.pairCommand ok k) :=
  .ite hk (h.parError ..)

theorem commandTakeover (h : s.Kept t) : s.Kept t.commandTakeover := h.pairCommand h.takeOver

theorem exec_pairTakeover (h : s.Kept t) (ag : Option Agent) : s.Keeps (execPairTakeover ag t) := by
  unfold Machine.execPairTakeover
  extract_lets
  split
  · exact .next (h.writeAccess h.commandTakeover)
  · exact .next (.ite h.takeOver h)

theorem exec_fenceInAssert (h : s.Kept t) : s.Keeps (execFenceInAssert t) := by
  unfold Machine.execFenceInAssert
  split
  · exact .next h
  · refine .next (.depose ?_)
    extract_lets u
    have hu : s.Kept u := (h.setFlag ..).setFlag ..
    exact hu.frame

theorem exec_fenceInDeassert (h : s.Kept t) : s.Keeps (execFenceInDeassert t) := by
  unfold Machine.execFenceInDeassert
  extract_lets u
  have hu : s.Kept u := h.setFlag ..
  exact .next hu.frame

theorem exec_timexRx (h : s.Kept t) (crc : Bool) (epoch : Word) (k : BitVec 16) (second : Word) (stamp : CT96) :
    s.Keeps (execTimexRx crc epoch k second stamp t) := by
  unfold Machine.execTimexRx
  refine .next (h.receivePair fun hu => ?_)
  split
  · exact hu
  · split
    · exact hu
    · exact hu.frame

theorem putLine (h : s.Kept t) (a mask : Nat) (bs : List Byte) : s.Kept (t.putLine a mask bs) :=
  (h.poolStore ..).foldl (fun hu _ => .ite (hu.markPoison ..) hu) _

theorem startResync (h : s.Kept t) : s.Kept t.startResync := by
  unfold State.startResync
  extract_lets t
  have ht : s.Kept t := h.setFlag ..
  exact ht.frame

theorem commandResync (h : s.Kept t) : s.Kept t.commandResync := h.pairCommand h.startResync

theorem exec_resyncDone (h : s.Kept t) : s.Keeps (execResyncDone t) := by
  unfold Machine.execResyncDone
  split
  · exact .next h
  · split
    · exact .next h
    · extract_lets _ t
      have ht : s.Kept t := h.frame
      exact .next (.ite ht (ht.setFlag ..))

theorem commandForm (h : s.Kept t) : s.Kept t.commandForm := by
  unfold State.commandForm
  refine h.pairCommand ?_
  refine .pairQueue ?_ ..
  extract_lets u
  have hu : s.Kept u := h.setFlag ..
  exact hu.frame

theorem formEnds (h : s.Kept t) : s.Kept t.formEnds := by
  unfold State.formEnds
  extract_lets u
  have hu : s.Kept u := h.setFlag ..
  exact hu.frame

theorem exec_formRx (h : s.Kept t) (crc : Bool) (epoch : Word) (pref : Bool) (dsn : Word64) :
    s.Keeps (execFormRx crc epoch pref dsn t) := by
  unfold Machine.execFormRx
  split
  · exact .next h
  · split
    · exact .next (h.bump ..)
    · split
      · exact .next (.ite (h.bump ..) h)
      · split
        · exact .next h
        · exact .next (h.frame.pairQueue ..)

theorem formed (h : s.Kept t) (e : Word) (role : Nat) : s.Kept (t.formed e role) := by
  unfold State.formed
  extract_lets t
  have ht : s.Kept t := ((h.formEnds.wr ..).setFlag ..).setFlag ..
  exact (ht.setRole ..).raise ..

theorem exec_formAckRx (h : s.Kept t) (crc : Bool) (epoch : Word) (role : Fin 4) :
    s.Keeps (execFormAckRx crc epoch role t) := by
  unfold Machine.execFormAckRx
  refine .next ?_
  split
  · exact h.receivePair id
  · refine .ite h (.ite (h.bump ..) ?_)
    split
    · exact .ite ((h.formed ..).setFlag ..).startResync h
    · exact .ite ((h.formed ..).pairQueue ..) h

theorem sendYield (h : s.Kept t) : s.Kept t.sendYield := .ite (h.pairQueue ..) h

theorem commandSwitchover (h : s.Kept t) : s.Kept t.commandSwitchover := by
  unfold State.commandSwitchover
  refine h.pairCommand ?_
  extract_lets u
  have hu : s.Kept u := h.setRole ..
  exact hu.frame.sendYield

theorem pairStop (h : s.Kept t) : s.Kept t.pairStop := h.frame

theorem writePairCtrl (h : s.Kept t) (v : Word) : s.Kept (t.writePairCtrl v) := by
  unfold State.writePairCtrl
  extract_lets _ t
  have ht : s.Kept t := h.plainWrite ..
  exact .ite (h.parError ..) (.ite (h.parError ..) (.ite ht (.ite (ht.setRole ..) (ht.formEnds.setRole ..).pairStop)))

theorem writePairCmd (h : s.Kept t) (v : Word) : s.Kept (t.writePairCmd v) := by
  unfold State.writePairCmd
  split
  · exact h
  · split
    · exact h.commandForm
    · exact h.commandTakeover
    · exact h.commandSwitchover
    · exact h.commandResync
    · exact h.parError ..

theorem parWrite (h : s.Kept t) (ag : Agent) (off : Nat) (v : Word) : s.Kept (t.parWrite ag off v) :=
  .ite (h.writePairCtrl ..) (.ite (h.writePairCmd ..) (.ite (.ite (h.parError ..) (.ite (h.parError ..) (h.plainWrite ..))) (.ite (.ite (h.parError ..) (.ite (h.parError ..) (h.plainWrite ..))) (h.plainWrite ..))))

theorem parRead (h : s.Kept t) (off : Nat) : s.Kept (t.parRead off).2 := by
  unfold State.parRead
  split
  · exact h
  · exact h.plainRead ..

/-! ### Domains -/

theorem setPd (h : s.Kept t) (d st : Nat) : s.Kept (t.setPd d st) := by
  unfold State.setPd
  split
  · exact h
  · extract_lets t
    have ht : s.Kept t := h.setFld ..
    exact .ite (ht.raise ..) ht

theorem setStage (h : s.Kept t) (d k : Nat) : s.Kept (t.setStage d k) := h.frame

theorem pllSweep (h : s.Kept t) : s.Kept t.pllSweep := h.foldl (fun hu _ => .ite hu (hu.pllStop ..)) _

theorem emptyQueue (h : s.Kept t) (i : Nat) : s.Kept (t.emptyQueue i) := by
  unfold State.emptyQueue
  split
  · exact h.setPort ..
  · split
    · exact (h.setPort ..).foldl (fun hu _ => hu.frameEnded ..) _
    · split
      · exact h.frame
      · split
        · exact h.frame
        · split
          · extract_lets _ _ t
            have ht : s.Kept t := h.frame
            exact .ite ht ((ht.bump ..).sticky ..)
          · exact .ite h.frame h

theorem setXq (h : s.Kept t) (i st n : Nat) : s.Kept (t.setXq i st n) := h.frame

theorem stopQueue (h : s.Kept t) (d i : Nat) : s.Kept (t.stopQueue d i) := by
  unfold State.stopQueue
  split
  · split
    · exact h
    · extract_lets _ _ t
      have ht : s.Kept t := (h.emptyQueue ..).setXq ..
      exact .ite ht ((ht.setFlag ..).raise ..)

theorem stopQueues (h : s.Kept t) (d : Nat) : s.Kept (t.stopQueues d) := h.foldl (fun hu _ => hu.stopQueue ..) _

theorem resyncQueues (h : s.Kept t) (d : Nat) : s.Kept (t.resyncQueues d) := by
  unfold State.resyncQueues
  refine h.foldl (fun hu a => ?_) _
  split
  · exact .ite (hu.setXq ..) hu

theorem abandonTests (h : s.Kept t) (d : Nat) : s.Kept (t.abandonTests d) :=
  h.foldl (fun hu _ => (hu.endTest ..).verdict ..) _

theorem dropRegs (h : s.Kept t) (d : Nat) (keep : Nat → Bool) : s.Kept (t.dropRegs d keep) :=
  ⟨h.pending, fun hs => { h.inv hs with
    regs := sparseWf_filter regDefault t.regs _ (h.inv hs).regs
    staged := sparseWf_filter _ t.staged _ (h.inv hs).staged }⟩

theorem clusterLost (h : s.Kept t) (k : Nat) : s.Kept (t.clusterLost k) := by
  unfold State.clusterLost
  extract_lets _ _ _ _ u
  have hu : s.Kept u := h.frame
  exact hu.checkOld

theorem clusterMemoryLost (h : s.Kept t) (k : Nat) : s.Kept (t.clusterMemoryLost k) :=
  ⟨h.pending, fun hs => { h.inv hs with local_ := sparseWf_filter memDefault t.gys.l _ (h.inv hs).local_ }⟩

theorem fabricLost (h : s.Kept t) : s.Kept t.fabricLost :=
  ⟨h.pending, fun hs => { h.inv hs with pool := sparseWf_nil _, banks := sparseWf_nil _, sram := sparseWf_nil _ }⟩

theorem blocksLost (h : s.Kept t) (d : Nat) : s.Kept (t.blocksLost d) := by
  unfold State.blocksLost
  split
  · exact h.fabricLost
  · split
    · exact h.clusterLost ..
    · split
      · exact h.cryptoLost
      · split
        · exact h.bneAbort
        · split
          · exact h.abandonJob
          · split
            · exact h.gnsLost
            · split
              · exact h.frame.dropOutputs
              · split
                · refine h.foldl (fun hu a => ?_) _
                  exact (hu.linkDown ..).setPort ..
                · exact .ite h.pcieLost (.ite h.pairLinkLost h)

theorem memoriesLost (h : s.Kept t) (d : Nat) : s.Kept (t.memoriesLost d) := by
  unfold State.memoriesLost
  extract_lets _ u
  have hu : s.Kept u := h.frame
  refine .ite (hu.clusterMemoryLost ..) (.ite ?_ hu)
  exact ⟨hu.pending, fun hs => { hu.inv hs with gnss := sparseWf_nil _ }⟩

theorem domainReset (h : s.Kept t) (d : Nat) : s.Kept (t.domainReset d) := by
  unfold State.domainReset
  extract_lets t
  have ht : s.Kept t := (h.stopQueues ..).blocksLost ..
  exact .ite ht (ht.dropRegs ..)

theorem domainLost (h : s.Kept t) (d : Nat) : s.Kept (t.domainLost d) := by
  unfold State.domainLost
  extract_lets t u
  have ht : s.Kept t := (((h.stopQueues ..).abandonTests ..).blocksLost ..).memoriesLost ..
  have hu : s.Kept u := ht.dropRegs ..
  exact .ite (((hu.wr ..).setFlag ..).setFlag ..) hu

theorem released (h : s.Kept t) (d : Nat) : s.Kept (t.released d) :=
  .resyncQueues (h.foldl (fun hu _ => hu.loadReplica ..) _) ..

theorem remapTile (h : s.Kept t) (l : Nat) : s.Kept (t.remapTile l) :=
  .ite h (.ite ((h.setFlag ..).setFlag ..) (h.setFld ..))

theorem remapTiles (h : s.Kept t) : s.Kept t.remapTiles := by
  unfold State.remapTiles
  extract_lets t
  have ht : s.Kept t := h.foldl (fun hu _ => hu.remapTile ..) _
  exact ht.setFld ..

theorem loadFactory (h : s.Kept t) (d : Nat) : s.Kept (t.loadFactory d) := h.foldl (fun hu _ => hu.wr ..) _

theorem startBlocks (h : s.Kept t) (d meas : Nat) : s.Kept (t.startBlocks d meas) := by
  unfold State.startBlocks
  extract_lets u v w
  have hv : s.Kept v := h.foldl (fun hx _ => .ite (hx.setFlag ..) hx) _
  have hw : s.Kept w := hv.setFlag ..
  exact .ite ((h.setFlag ..).foldl (fun hx _ => hx.initAndReturn ..) _) (.ite (h.cryptoReady ..) (.ite h.bneReset
    (.ite (.ite (hw.withCpm _).burstExit hw) (.ite (h.loadFactory ..).grvStart.dryRefresh (.ite (h.resetRegs ..)
      (.ite ((h.loadFactory ..).setFlag ..) h))))))

/-! ### Power -/

theorem cpmError (h : s.Kept t) (bit : Nat) : s.Kept (t.cpmError bit) := h.error ..

theorem cpmSticky (h : s.Kept t) (bit : Nat) : s.Kept (t.cpmSticky bit) := h.setFlag ..

theorem avsWrite (h : s.Kept t) (m : LevelMove) : s.Kept (t.avsWrite m) := h.frame

theorem avsAccepted (h : s.Kept t) (m : LevelMove) : s.Kept (t.avsAccepted m) := h.frame

theorem levelPhase (h : s.Kept t) (m : LevelMove) (phase : Nat) : s.Kept (t.levelPhase m phase) := by
  unfold State.levelPhase
  extract_lets _ t
  have ht : s.Kept t := h.frame
  exact .ite ((ht.setFlag ..).setFlag ..) (ht.avsWrite ..)

theorem startLevel (h : s.Kept t) : s.Kept t.startLevel := by
  unfold State.startLevel
  split
  · exact h
  · extract_lets _ t
    have ht : s.Kept t := h.setFlag ..
    exact ht.levelPhase ..

theorem endLevel (h : s.Kept t) (m : LevelMove) : s.Kept (t.endLevel m) := by
  unfold State.endLevel
  extract_lets t
  have ht : s.Kept t := (h.setFld ..).setFlag ..
  exact (ht.frame.raise ..).startLevel

theorem levelRelocked (h : s.Kept t) (m : LevelMove) : s.Kept (t.levelRelocked m) := by
  unfold State.levelRelocked
  extract_lets t
  have ht : s.Kept t := h.setFlag ..
  exact .ite (ht.endLevel ..) (ht.levelPhase ..)

theorem levelSweep (h : s.Kept t) : s.Kept t.levelSweep := by
  unfold State.levelSweep
  split
  · exact .ite (h.levelRelocked ..) h
  · exact h

theorem levelSettled (h : s.Kept t) (m : LevelMove) : s.Kept (t.levelSettled m) :=
  .ite (h.endLevel ..) (.ite (h.levelPhase ..) (h.endLevel ..))

theorem avsFailed (h : s.Kept t) (m : LevelMove) : s.Kept (t.avsFailed m) := by
  unfold State.avsFailed
  extract_lets _ t
  have ht : s.Kept t := h.frame
  exact ht.log ..

theorem exec_vsettleEnd (h : s.Kept t) (accepted : Bool) : s.Keeps (execVsettleEnd accepted t) := by
  unfold Machine.execVsettleEnd
  split
  · exact .next h
  · exact .next (.ite h (.ite (h.avsFailed ..) ((h.avsAccepted ..).levelSettled ..)))

theorem exec_avsRetry (h : s.Kept t) (accepted : Bool) : s.Keeps (execAvsRetry accepted t) := by
  unfold Machine.execAvsRetry
  split
  · exact .next h
  · split
    · exact .next h
    · extract_lets t
      have ht : s.Kept t := h.avsWrite ..
      exact .next (.ite (ht.frame.avsAccepted ..) (ht.avsFailed ..))

theorem writePlevel (h : s.Kept t) (v : Word) : s.Kept (t.writePlevel v) :=
  .ite (h.cpmError ..) (h.plainWrite ..).startLevel

theorem pllFail (h : s.Kept t) (p : Nat) : s.Kept (t.pllFail p) := by
  unfold State.pllFail
  extract_lets _ t u
  have ht : s.Kept t := h.pllLost ..
  have hu : s.Kept u := .ite ((ht.setFlag ..).raise ..) ht
  exact .ite (hu.safeCause ..) (.ite (ht.setFlag ..).dropOutputs (.ite (.ite ht.sclkLost (ht.setFlag ..)) (.ite ht.frame (.ite ht.pairLinkLost (.ite ((ht.setFlag ..).foldl (fun hu _ => hu.linkDown ..) _) ht)))))

theorem pllLock (h : s.Kept t) (p : Nat) : s.Kept (t.pllLock p) := by
  unfold State.pllLock
  extract_lets t
  have ht : s.Kept t := h.pllLocked ..
  split
  · split
    · exact .ite (ht.levelRelocked ..) ht
    · exact ht
  · exact .ite (ht.setFlag ..) (.ite (ht.setFlag ..).dryRefresh (.ite (.ite (ht.setFlag ..) ht) (.ite (.ite (ht.setFlag ..) ht) ht)))

theorem exec_inputLoss (h : s.Kept t) (i : Fin 4) : s.Keeps (execInputLoss i t) := by
  unfold Machine.execInputLoss
  split
  · exact .next h
  · extract_lets u _ t v w u₁
    have hu : s.Kept u := h.setFlag ..
    have ht : s.Kept t := hu.frame
    have hv : s.Kept v := ht.raise ..
    have hw : s.Kept w := .ite ((hv.setFlag ..).cpmSticky ..) (hv.cpmSticky ..)
    have hu₁ : s.Kept u₁ := hw.foldl (fun hu _ => .ite (hu.pllFail ..) hu) _
    exact .next (.ite (hu₁.safeCause ..) hu₁)

theorem exec_inputOk (h : s.Kept t) (i : Fin 4) : s.Keeps (execInputOk i t) := by
  unfold Machine.execInputOk
  split
  · exact .next h
  · extract_lets _ u _ t v
    have hu : s.Kept u := h.setFlag ..
    have ht : s.Kept t := hu.frame
    have hv : s.Kept v := .ite (ht.setFlag ..) ht
    exact .next (.ite (hv.raise ..) hv)

theorem switchClock (h : s.Kept t) (bit : Nat) (b ready : Bool) : s.Kept (t.switchClock bit b ready) :=
  .ite h (.ite (h.setFlag ..) (h.cpmError ..))

theorem writeClksel (h : s.Kept t) (ag : Agent) (v : Word) : s.Kept (t.writeClksel ag v) := by
  unfold State.writeClksel
  split
  · exact h.cpmError ..
  · extract_lets t
    have ht : s.Kept t := .ite (.ite h (h.cpmError ..)) (h.switchClock ..)
    exact ht.switchClock ..

theorem setEn (h : s.Kept t) (d : Nat) (b : Bool) : s.Kept (t.setEn d b) := h.setFlag ..

theorem setEnPending (h : s.Kept t) (d : Nat) (b : Bool) : s.Kept (t.setEnPending d b) := h.setFlag ..

theorem setForced (h : s.Kept t) (d : Nat) (b : Bool) : s.Kept (t.setForced d b) := h.frame

theorem owe (h : s.Kept t) (d : Nat) (o : Option Bool) : s.Kept (t.owe d o) := h.frame

theorem powerUp (h : s.Kept t) (d : Nat) : s.Kept (t.powerUp d) := (h.setStage ..).setPd ..

theorem requestDown (h : s.Kept t) (d : Nat) (force : Bool) : s.Kept (t.requestDown d force) := by
  unfold State.requestDown
  extract_lets t
  have ht : s.Kept t := (h.setForced ..).setPd ..
  exact .ite ht.flushJobs (.ite ht.bneShutdown ht)

theorem writeEn (h : s.Kept t) (d : Nat) (en force : Bool) : s.Kept (t.writeEn d en force) := by
  unfold State.writeEn
  extract_lets t
  have ht : s.Kept t := h.setEn ..
  exact .ite (.ite (ht.powerUp ..) ht) (.ite (.ite (ht.owe ..) (ht.owe ..)) (.ite (.ite ht (ht.requestDown ..)) (.ite (.ite (ht.setEnPending ..) (.ite ((ht.setEnPending ..).setForced ..) (ht.setEnPending ..))) (.ite (ht.setEnPending ..) ht))))

theorem writeClkoff (h : s.Kept t) (d : Nat) (off busy : Bool) : s.Kept (t.writeClkoff d off busy) := by
  unfold State.writeClkoff
  extract_lets _ t _ u _ v
  have ht : s.Kept t := h.setFlag ..
  have hu : s.Kept u := h.setFlag ..
  have hv : s.Kept v := hu.frame
  exact .ite h (.ite (.ite (ht.frame.cpmSticky ..) (ht.setPd ..)) (.ite (hv.setPd ..) hv))

theorem startReset (h : s.Kept t) (d : Nat) : s.Kept (t.startReset d) := by
  unfold State.startReset
  extract_lets _ t
  have ht : s.Kept t := h.frame
  exact ht.domainReset ..

theorem writePd (h : s.Kept t) (ag : Agent) (d : Nat) (v : Word) (busy : Bool) : s.Kept (t.writePd ag d v busy) :=
  .ite (h.cpmError ..) (.ite (.ite (h.cpmError ..) h) (.ite (.ite (h.startReset ..) (h.cpmError ..)) (.ite (h.cpmError ..) ((h.writeClkoff ..).writeEn ..))))

theorem exec_gateClose (h : s.Kept t) (d : Fin 21) (expired : Bool) : s.Keeps (execGateClose d expired t) := by
  unfold Machine.execGateClose
  extract_lets _ _ t u v
  have ht : s.Kept t := h.frame
  have hu : s.Kept u := .ite ((ht.cpmSticky ..).raise ..) ht
  have hv : s.Kept v := hu.log ..
  exact .next (.ite h (.ite (hv.setPd ..) hv))

theorem refuseDown (h : s.Kept t) (d reason : Nat) : s.Kept (t.refuseDown d reason) := by
  unfold State.refuseDown
  extract_lets t
  have ht : s.Kept t := ((h.setEn ..).setEnPending ..).setFld ..
  exact (((ht.setForced ..).setPd ..).cpmSticky ..).raise ..

theorem endCluster (h : s.Kept t) (k : Nat) : s.Kept (t.endCluster k) := by
  unfold State.endCluster
  extract_lets u lost
  have hu : s.Kept u := h.foldl (fun hv _ => hv.killStarted ..) _
  exact (hu.withQueued _).dropRequests _

theorem exec_pdDelayLimit (h : s.Kept t) (d : Fin 21) : s.Keeps (execPdDelayLimit d t) := by
  unfold Machine.execPdDelayLimit
  extract_lets _ t
  have ht : s.Kept t := h.endCluster ..
  exact .next (.ite h (.ite (h.setPd ..) (.ite (h.refuseDown ..) (.ite (.ite ht (ht.setPd ..)) (h.setPd ..)))))

theorem turnOff (h : s.Kept t) (d : Nat) : s.Kept (t.turnOff d) := by
  unfold State.turnOff
  extract_lets t _ u v
  have ht : s.Kept t := ((h.domainLost ..).setForced ..).setPd ..
  have hu : s.Kept u := ht.frame
  have hv : s.Kept v := (hu.setFlag ..).pllSweep.levelSweep
  exact .ite (((hv.setEnPending ..).setEn ..).powerUp ..) hv

theorem romStarts (h : s.Kept t) : s.Kept t.romStarts := by
  unfold State.romStarts
  extract_lets t u
  have ht : s.Kept t := h.frame.remapTiles
  have hu : s.Kept u := ht.setFlag ..
  exact .ite (hu.setFld ..) hu

theorem exec_pdResetRelease (h : s.Kept t) (d : Fin 21) : s.Keeps (execPdResetRelease d t) := by
  unfold Machine.execPdResetRelease
  extract_lets _ t
  have ht : s.Kept t := (h.setStage ..).released ..
  exact .next (.ite (.ite ht.romStarts ht) h)

theorem turnOn (h : s.Kept t) (d meas : Nat) : s.Kept (t.turnOn d meas) := by
  unfold State.turnOn
  extract_lets owed u v w
  have hu : s.Kept u := (((h.setStage ..).setPd ..).startBlocks ..).owe ..
  have hv : s.Kept v := by
    unfold v
    cases owed with
    | none => exact hu
    | some o => exact hu.requestDown ..
  have hw : s.Kept w := .ite (hv.raise ..) hv
  exact hw.startLevel

theorem exec_pdResetEnd (h : s.Kept t) (d : Fin 21) (meas : Nat) : s.Keeps (execPdResetEnd d meas t) := by
  unfold Machine.execPdResetEnd
  split
  · extract_lets _ t
    have ht : s.Kept t := h.frame
    exact .next ((ht.released ..).startBlocks ..)
  · exact .next h

theorem exec_xqResync (h : s.Kept t) (i : Fin 74) : s.Keeps (execXqResync i t) := by
  unfold Machine.execXqResync
  split
  · exact .next (.ite (h.setXq ..) h)

theorem setTcap (h : s.Kept t) (k : Nat) : s.Kept (t.setTcap k) := by
  unfold State.setTcap
  split
  · exact h
  · extract_lets t
    have ht : s.Kept t := (h.setFld ..).raise ..
    exact .startLevel (.ite (ht.cpmSticky ..) ht)

theorem trip (h : s.Kept t) : s.Kept t.trip := by
  unfold State.trip
  extract_lets t
  have ht : s.Kept t := (h.cpmSticky ..).raise ..
  exact .safeCause (ht.foldl (fun hu _ => hu.writeEn ..) _) ..

theorem exec_thermalCheck (h : s.Kept t) (held : Bool) : s.Keeps (execThermalCheck held t) := by
  unfold Machine.execThermalCheck
  extract_lets _ _ _ t u
  have ht : s.Kept t := .ite (h.setTcap ..) (.ite (h.setTcap ..) (.ite (h.setTcap ..) h))
  have hu : s.Kept u := .ite ht.trip ht
  exact .next hu.frame

theorem pollSensor (h : s.Kept t) (i : Nat) : s.Kept (t.pollSensor i) := h.frame

theorem exec_sensorPoll (h : s.Kept t) (n : Fin 3) (reading : Option (BitVec 16)) (stale : Bool) :
    s.Keeps (execSensorPoll n reading stale t) := by
  unfold Machine.execSensorPoll
  extract_lets _ _ _ valid u t
  have hu : s.Kept u := .ite h (h.pollSensor ..)
  have ht : s.Kept t := ((hu.setFlag ..).cpmSticky ..).raise ..
  split
  · exact .next h
  · clear_value valid
    split
    · exact .next (hu.wr ..)
    · exact .next (.ite hu (.ite (ht.setTcap ..) ht))

theorem setI2cData (h : s.Kept t) (m : Nat) (bs : List Byte) : s.Kept (t.setI2cData m bs) := (h.wr ..).wr ..

theorem writeXfer (h : s.Kept t) (ag : Agent) (m : Nat) (v : Word) : s.Kept (t.writeXfer ag m v) := by
  unfold State.writeXfer
  extract_lets _ _ t
  have ht : s.Kept t := h.wr ..
  exact .ite (h.cpmError ..) (.ite h (.ite (h.cpmError ..) (.ite (h.cpmError ..) ht.frame)))

theorem exec_i2cDone (h : s.Kept t) (m : Fin 2) (e : I2cEnd) : s.Keeps (execI2cDone m e t) := by
  unfold Machine.execI2cDone
  split
  · exact .next h
  · split
    · exact .next h
    · extract_lets _ t u
      have ht : s.Kept t := h.frame
      have hu : s.Kept u := ht.setI2cData ..
      exact .next ((hu.wr ..).raise ..)

theorem writeI2cCtl (h : s.Kept t) (ag : Agent) (m : Nat) (v : Word) : s.Kept (t.writeI2cCtl ag m v) :=
  .ite (h.cpmError ..) (.ite (h.cpmError ..) (h.plainWrite ..))

theorem writeAlarm (h : s.Kept t) (w : Nat) (v : Word) : s.Kept (t.writeAlarm w v) := by
  unfold State.writeAlarm
  extract_lets t
  have ht : s.Kept t := h.wr ..
  exact .ite (ht.arm ..) (h.cpmError ..)

theorem cpmWrite (h : s.Kept t) (ag : Agent) (off : Nat) (v : Word) : s.Kept (t.cpmWrite ag off v) :=
  .ite (h.writeClksel ..) (.ite (h.writePlevel ..) (.ite (.ite (h.plainWrite ..) (h.cpmError ..)) (.ite (h.writePd ..) (.ite (.ite (h.plainWrite ..) (h.cpmError ..)) (.ite (h.writeAlarm ..) (.ite (h.writeI2cCtl ..) (.ite (h.writeI2cCtl ..) (.ite (h.writeXfer ..) (.ite (h.writeXfer ..) (.ite (.ite (h.cpmError ..) (h.plainWrite ..)) (h.plainWrite ..)))))))))))

theorem cpmRead (h : s.Kept t) (off : Nat) : s.Kept (t.cpmRead off).2 := by
  unfold State.cpmRead
  extract_lets
  split
  · exact h
  · split
    · exact h.setXq ..
    · exact h.plainRead ..

/-! ### Boot -/

theorem setFlashByte (h : s.Kept t) (a : Nat) (b : Byte) : s.Kept (t.setFlashByte a b) :=
  ⟨h.pending, fun hs => { h.inv hs with flash := sparseWf_set flashDefault t.gctl.flash a b (h.inv hs).flash }⟩

theorem setFlashBuffer (h : s.Kept t) (bs : List Byte) : s.Kept (t.setFlashBuffer bs) := h.wrWords ..

theorem programByte (h : s.Kept t) (a : Nat) (b : Byte) : s.Kept (t.programByte a b) :=
  .ite (h.setFlashByte ..) (h.setFlashByte ..).drawn

theorem programBytes (h : s.Kept t) (a : Nat) (bs : List Byte) : s.Kept (t.programBytes a bs) := by
  induction bs generalizing t a with
  | nil => exact h
  | cons b bs ih => exact ih (h.programByte ..) _

theorem flashCarry (h : s.Kept t) (op a n : Nat) : s.Kept (t.flashCarry op a n) := by
  refine .ite (h.setFlashBuffer ..) (.ite (h.programBytes ..) ?_)
  exact ⟨h.pending, fun hs => { h.inv hs with flash := sparseWf_filter flashDefault t.gctl.flash _ (h.inv hs).flash }⟩

theorem flashTear (h : s.Kept t) : s.Kept t.flashTear := by
  unfold State.flashTear
  split
  · exact h
  · extract_lets t
    have ht : s.Kept t := .ite h (h.drawn.flashCarry ..)
    exact ht.frame

theorem flashEnd (h : s.Kept t) (err : Nat) : s.Kept (t.flashEnd err) := h.frame.wr ..

theorem writeFlash (h : s.Kept t) (v : Word) : s.Kept (t.writeFlash v) := by
  unfold State.writeFlash
  extract_lets _ _ _ _ _ t
  have ht : s.Kept t := (h.setFlag ..).setFld ..
  exact .ite h (.ite (ht.frame.setFlag ..) ht)

theorem exec_flashDone (h : s.Kept t) : s.Keeps (execFlashDone t) := by
  unfold Machine.execFlashDone
  split
  · exact .next h
  · exact .next ((h.flashCarry ..).flashEnd ..)

theorem exec_flashTimeout (h : s.Kept t) : s.Keeps (execFlashTimeout t) := by
  unfold Machine.execFlashTimeout
  split
  · exact .next h
  · exact .next (.ite h (h.flashTear.flashEnd ..))

theorem showFuses (h : s.Kept t) : s.Kept t.showFuses := ((h.setFld ..).setFld ..).setFld ..

theorem writeFuse (h : s.Kept t) (v : Word) (supply : Bool) : s.Kept (t.writeFuse v supply) := by
  unfold State.writeFuse
  extract_lets _ _ t
  have ht : s.Kept t := .ite h.frame.showFuses h
  exact .ite h ((ht.setFld ..).unstage ..)

theorem noteReset (h : s.Kept t) (cause : Nat) : s.Kept (t.noteReset cause) := h.setFld ..

theorem coldReset (h : s.Kept t) (cause : Nat) : s.Kept (t.coldReset cause) := by
  unfold State.coldReset
  extract_lets v _ cpm _ gctl _ pcie _ dry _ _ _ _ w x y
  have hv : s.Kept v := h.flashTear
  have hw : s.Kept w := ⟨hv.pending, fun hs =>
    ⟨sparseWf_nil _, sparseWf_nil _, sparseWf_nil _, sparseWf_nil _, sparseWf_nil _, sparseWf_nil _, sparseWf_nil _,
      (hv.inv hs).flash, sparseWf_nil _, Nat.zero_le _⟩⟩
  exact (((hw.wr ..).setFlag ..).showFuses.loadFactory ..).noteReset ..

theorem beginBoot (h : s.Kept t) (kind : Nat) : s.Kept (t.beginBoot kind) := (h.enterMode ..).wr ..

theorem dropDomain (h : s.Kept t) (d : Nat) : s.Kept (t.dropDomain d) := by
  unfold State.dropDomain
  split
  · exact h
  · extract_lets t
    have ht : s.Kept t := (h.domainLost ..).setPd ..
    exact (ht.setFlag ..).setFlag ..

theorem forgetDomains (h : s.Kept t) : s.Kept t.forgetDomains := h.frame

theorem warmEndpoint (h : s.Kept t) : s.Kept t.warmEndpoint := .ite (h.resetEndpoint.dmaSticky ..) h

theorem forgetBoot (h : s.Kept t) : s.Kept t.forgetBoot := by
  unfold State.forgetBoot
  extract_lets t
  have ht : s.Kept t := h.wr ..
  exact ht.frame

theorem warmReset (h : s.Kept t) (cause : Nat) : s.Kept (t.warmReset cause) := by
  unfold State.warmReset
  split
  · exact h
  · extract_lets u t v _ _ w
    have hu : s.Kept u := h.flashTear.setFlag ..
    have ht : s.Kept t := hu.foldl (fun hu _ => hu.dropDomain ..) _
    have hv : s.Kept v := ht.forgetDomains.warmEndpoint.forgetBoot
    have hw : s.Kept w := hv.frame
    exact (hw.pllSweep.levelSweep.noteReset ..).beginBoot ..

theorem writeReset (h : s.Kept t) (ag : Agent) (v : Word) : s.Kept (t.writeReset ag v) :=
  .ite h (.ite (h.coldReset ..) (.ite (h.warmReset ..) h))

theorem leaveReset (h : s.Kept t) : s.Kept t.leaveReset := .ite (h.beginBoot ..) h

theorem exec_supplyLoss (h : s.Kept t) : s.Keeps (execSupplyLoss t) := by
  unfold Machine.execSupplyLoss
  split
  · exact .next h
  · extract_lets t u
    have ht : s.Kept t := h.coldReset ..
    have hu : s.Kept u := (ht.wr ..).setFld ..
    exact .next hu.frame

theorem exec_resetNAssert (h : s.Kept t) : s.Keeps (execResetNAssert t) := by
  unfold Machine.execResetNAssert
  split
  · exact .next h
  · extract_lets _ t
    have ht : s.Kept t := h.frame
    exact .next (.ite ht (ht.coldReset ..))

theorem setBootStage (h : s.Kept t) (k : Nat) : s.Kept (t.setBootStage k) := h.setFld ..

theorem fuseKeys (h : s.Kept t) : s.Kept t.fuseKeys := by
  unfold State.fuseKeys
  extract_lets t u
  have ht : s.Kept t := .ite h (h.putAnchor ..)
  have hu : s.Kept u := ht.setFlag ..
  exact .ite hu.frame ht

theorem bootPower (h : s.Kept t) (d : Nat) : s.Kept (t.bootPower d) := .ite (h.powerUp ..) h

theorem bootStep1 (h : s.Kept t) : s.Kept t.bootStep1 := by
  unfold State.bootStep1
  extract_lets t
  have ht : s.Kept t := h.setBootStage ..
  exact ((((ht.bootPower ..).bootPower ..).bootPower ..).setEn ..).fuseKeys

theorem exec_bootStart (h : s.Kept t) : s.Keeps (execBootStart t) := by
  unfold Machine.execBootStart
  extract_lets t
  have ht : s.Kept t := h.leaveReset
  exact .next (.ite ht.bootStep1 h)

theorem restoreSelector (h : s.Kept t) : s.Kept t.restoreSelector := by
  unfold State.restoreSelector
  split
  · exact ((h.frame.setFlag ..).setFlag ..).showModel
  · exact h

theorem loadFirmware (h : s.Kept t) (slot : Nat) (f : Firmware) : s.Kept (t.loadFirmware slot f) := by
  have himages := (((h.setFld Reg.GCTL_BOOT 6 2 slot).setFld Reg.GCTL_FWINFO 16 16 f.version.toNat).setFld
    Reg.REL_WDG_STAT 16 8 0).foldl (f := State.placeImage) (fun hu _ => hu.placeImage ..) f.images
  have hcores := himages.foldl (f := fun u k => u.setCore k (CoreState.released (f.entries.getD k 0).toNat k))
    (fun hu _ => hu.setCore ..) (List.range 8)
  exact hcores.frame.restoreSelector.setBootStage ..

theorem romSafe (h : s.Kept t) : s.Kept t.romSafe := by
  unfold State.romSafe
  extract_lets t u
  have ht : s.Kept t := ((h.setFld ..).setFld ..).wr ..
  have hu : s.Kept u := ht.setFlag ..
  exact hu.frame.enterMode ..

theorem exec_firmwareVerified (h : s.Kept t) (a b : Option Firmware) : s.Keeps (execFirmwareVerified a b t) := by
  unfold Machine.execFirmwareVerified
  split
  · exact .next h
  · split
    · exact .next (h.loadFirmware ..)
    · exact .next h.romSafe

theorem setModeErr (h : s.Kept t) (e : Nat) : s.Kept (t.setModeErr e) := h.setFld ..

theorem runCommand (h : s.Kept t) (op : Nat) (image : Option Firmware) : s.Kept (t.runCommand op image) := by
  unfold State.runCommand
  split
  · exact (h.setModeErr ..).enterServing ..
  · exact (h.setModeErr ..).enterMode ..
  · exact (h.setModeErr ..).enterMode ..
  · extract_lets t
    have ht : s.Kept t := (h.setModeErr ..).setFlag ..
    exact ht.frame
  · exact (h.setModeErr ..).safeCause ..
  · exact .ite ((h.setModeErr ..).enterMode ..) (h.setModeErr ..)
  · split
    · exact (h.setModeErr ..).loadFirmware ..
    · exact h.setModeErr ..

theorem writeModeCommand (h : s.Kept t) (v : Word) (image : Option Firmware) : s.Kept (t.writeModeCommand v image) :=
  .ite h (.ite (h.setModeErr ..) (.ite (h.setModeErr ..) (.ite (h.setModeErr ..) (h.runCommand ..))))

theorem modeCommand (h : s.Kept t) (ag : Agent) (op len : Nat) (image : Option Firmware) :
    s.Kept (t.modeCommand ag op len image) := by
  unfold State.modeCommand
  exact h.writeAccess (h.writeModeCommand ..)

theorem fillKeep (h : s.Kept t) : s.Kept t.fillKeep := h.foldl (fun hu _ => (hu.wr ..).drawn) _

theorem prepareSleep (h : s.Kept t) : s.Kept t.prepareSleep := by
  unfold State.prepareSleep
  extract_lets t _ u
  have ht : s.Kept t := h.selectorSleep
  have hu : s.Kept u := ht.frame
  exact .fillKeep (.ite hu.burstPrepare hu)

theorem retainGnss (h : s.Kept t) : s.Kept t.retainGnss :=
  .ite (((h.stopQueues ..).abandonTests ..).setPd ..) (h.dropDomain ..)

theorem powerDown (h : s.Kept t) : s.Kept t.powerDown := by
  unfold State.powerDown
  extract_lets _ t
  have ht : s.Kept t := .retainGnss (h.foldl (fun hu _ => hu.dropDomain ..) _)
  exact ((ht.dropDomain ..).dropDomain ..).forgetDomains.pllSweep.levelSweep

theorem dropFiredAlarm (h : s.Kept t) : s.Kept t.dropFiredAlarm := by
  unfold State.dropFiredAlarm
  split
  · exact .ite (h.disarm ..) h
  · exact h

theorem enterDormant (h : s.Kept t) (m : Nat) : s.Kept (t.enterDormant m) := by
  unfold State.enterDormant
  extract_lets t u
  have ht : s.Kept t := h.prepareSleep.powerDown.dropFiredAlarm.enterMode ..
  have hu : s.Kept u := ht.setFlag ..
  exact hu.frame

theorem exec_dormantEntry (h : s.Kept t) : s.Keeps (execDormantEntry t) := by
  unfold Machine.execDormantEntry
  split
  · exact .next (.ite (h.enterDormant ..) h)
  · exact .next h

theorem wakeDomain (h : s.Kept t) (d : Nat) : s.Kept (t.wakeDomain d) :=
  .ite (.ite (h.frame.powerUp ..) (.ite (h.powerUp ..) h)) (.ite (h.dropDomain ..) h)

theorem wakeUp (h : s.Kept t) (code : Nat) : s.Kept (t.wakeUp code) := by
  unfold State.wakeUp
  extract_lets _ _ t u
  have ht : s.Kept t := h.wr ..
  have hu : s.Kept u := .ite (ht.disarm ..) ht
  exact .beginBoot (.noteReset (hu.forgetBoot.foldl (fun hu _ => hu.wakeDomain ..) _) ..) ..

theorem clearBadAccess (h : s.Kept t) (v : Word) : s.Kept (t.clearBadAccess v) := .ite (h.wr ..) h

theorem gctlWrite (h : s.Kept t) (ag : Agent) (off : Nat) (v : Word) : s.Kept (t.gctlWrite ag off v) :=
  .ite (h.clearBadAccess ..) (.ite (h.writeModeCommand ..) (.ite (h.writeReset ..) (.ite (h.writeFlash ..) (.ite (h.writeFuse ..) (.ite (h.stage ..) (h.plainWrite ..))))))

theorem gctlRead (h : s.Kept t) (off : Nat) : s.Kept (t.gctlRead off).2 := by
  unfold State.gctlRead
  split
  · exact h
  · exact h.plainRead ..

/-! ### Classifier -/

theorem clsCount (h : s.Kept t) (off : Nat) : s.Kept (t.clsCount off) := h.bump ..

theorem dispatch (h : s.Kept t) (r : Request) : s.Kept (t.dispatch r) := h.frame

theorem toTile (h : s.Kept t) (f : Frame) (c : Nat) : s.Kept (t.toTile f c) := by
  unfold State.toTile
  extract_lets _ _ _ t
  have ht : s.Kept t := .ite h.frame h
  split
  · exact ht.clsCount ..
  · exact ht.dispatch ..

theorem applyEntry (h : s.Kept t) (f : Frame) (c : Nat) : s.Kept (t.applyEntry f c) := by
  unfold State.applyEntry
  extract_lets
  split
  · exact h.clsCount ..
  · split
    · exact h.toTile ..
    · exact h.frame
    · exact h.clsCount ..

theorem classifyFrame (h : s.Kept t) (f : Frame) : s.Kept (t.classifyFrame f) := by
  unfold State.classifyFrame
  split
  · exact h.clsCount ..
  · exact .applyEntry (.carrySwitch (.ite (h.clsCount ..) h)) ..

theorem exec_classify (h : s.Kept t) (n : Fin 16) : s.Keeps (execClassify n t) := by
  unfold Machine.execClassify
  split
  · exact .next h
  · exact .ite (.next h) (.next ((h.setPort ..).classifyFrame ..))

theorem deliverCapture (h : s.Kept t) (c : CaptureRecord) : s.Kept (t.deliverCapture c) :=
  .ite (h.clsCount ..) (.ite (h.clsCount ..) (h.dispatch ..))

theorem exec_captureRecordDeliver (h : s.Kept t) (n : Fin 16) : s.Keeps (execCaptureRecordDeliver n t) := by
  unfold Machine.execCaptureRecordDeliver
  split
  · exact .next h
  · exact .next ((h.setPort ..).carrySwitch.deliverCapture ..)

theorem clsWrite (h : s.Kept t) (off : Nat) (v : Word) : s.Kept (t.clsWrite off v) := .ite h (h.plainWrite ..)

/-! ### Dma -/

theorem ringStart (h : s.Kept t) (r : Nat) : s.Kept (t.ringStart r) := by
  unfold State.ringStart
  extract_lets t
  have ht : s.Kept t := (h.wr ..).wr ..
  exact ht.setRing ..

theorem ringEnable (h : s.Kept t) (r : Nat) (en : Bool) : s.Kept (t.ringEnable r en) :=
  .ite (.ite (h.ringStart ..) h) (.ite (h.setRing ..) (.ite h (h.setRing ..)))

theorem ringStopped (h : s.Kept t) (r : Nat) : s.Kept (t.ringStopped r) := by
  unfold State.ringStopped
  extract_lets _ _ t u v
  have ht : s.Kept t := h.setRing ..
  have hu : s.Kept u := .ite ht (ht.bump ..)
  have hv : s.Kept v := hu.foldl (fun hu _ => hu.loseRecord ..) _
  exact .ite (hv.ringStart ..) hv

theorem completion (h : s.Kept t) (r : Nat) (bytes : List Byte) (status : Nat) : s.Kept (t.completion r bytes status) :=
  h.setRing ..

theorem upCompletion (h : s.Kept t) (r status : Nat) (drop : Bool) : s.Kept (t.upCompletion r status drop) := by
  unfold State.upCompletion
  extract_lets
  split
  · exact h
  · extract_lets t
    have ht : s.Kept t := h.setRing ..
    exact .completion (.ite (ht.bump ..) ht) ..

theorem exec_upFrameWrite (h : s.Kept t) (r : Fin 32) : s.Keeps (execUpFrameWrite r t) := by
  unfold Machine.execUpFrameWrite
  extract_lets
  split
  · split
    · exact .next h
    · split
      · exact .next ((h.drewBytes ..).completion ..)
      · split
        · exact .next ((h.dmaSticky ..).upCompletion ..)
        · split
          · exact .next (h.packetError.upCompletion ..)
          · exact .next (h.setRing ..)
  · exact .next h

theorem exec_upFrameArrive (h : s.Kept t) : s.Keeps (execUpFrameArrive t) := by
  unfold Machine.execUpFrameArrive
  split
  · exact .next h
  · extract_lets _ t _ u v
    have ht : s.Kept t := h.frame
    have hu : s.Kept u := ht.bump ..
    have hv : s.Kept v := (ht.setRing ..).quotaAfter ..
    exact .next (.ite (.ite (hu.dmaSticky ..) hu) (.ite (ht.bump ..) (.ite ((ht.bump ..).dmaSticky ..) (.ite (hv.dmaSticky ..) hv))))

theorem fetchDescriptors (h : s.Kept t) (r : Nat) : s.Kept (t.fetchDescriptors r) := by
  unfold State.fetchDescriptors
  extract_lets
  split
  · exact h
  · split
    · exact .ite h (h.setRing ..)
    · split
      · exact h
      · split
        · split
          · exact h
          · split
            · exact h
            · exact (h.setRing ..).quotaAfter ..
        · exact .ite h (h.setRing ..)

theorem exec_downCompletion (h : s.Kept t) (r : Fin 32) : s.Keeps (execDownCompletion r t) := by
  unfold Machine.execDownCompletion
  extract_lets
  split
  · split
    · exact .next (.ite h (.ite (h.completion ..) ((h.drewBytes ..).completion ..)))
    · exact .next h
  · exact .next h

theorem takeDown (h : s.Kept t) (r : Nat) (ds : List (List Byte)) : s.Kept (t.takeDown r ds) := by
  unfold State.takeDown
  refine h.foldl (fun hu a => ?_) _
  extract_lets _ _ v
  have hv : s.Kept v := hu.setRing ..
  exact hv.frame

theorem queueDown (h : s.Kept t) (r serial : Nat) (bytes : List Byte) : s.Kept (t.queueDown r serial bytes) := by
  unfold State.queueDown
  split
  · exact h
  · exact .ite ((h.setRing ..).enqueueTx ..) (h.frameEnded ..)

theorem completionWritten (h : s.Kept t) (r : Nat) : s.Kept (t.completionWritten r) := by
  unfold State.completionWritten
  extract_lets _ t u v
  have ht : s.Kept t := h.setRing ..
  have hu : s.Kept u := (ht.wr ..).bump ..
  have hv : s.Kept v := .ite (hu.dmaSticky ..) hu
  exact .ite (hv.pend ..) hv

theorem transferDone (h : s.Kept t) (r : Nat) (t' : Transfer) : s.Kept (t.transferDone r t') := by
  unfold State.transferDone
  extract_lets _ _ u
  have hu : s.Kept u := h.setRing ..
  exact .ite (h.completionWritten ..) (.ite (hu.upCompletion ..) (.ite (hu.queueDown ..) (.ite (hu.setRing ..) (hu.takeDown ..))))

theorem skipTransfer (h : s.Kept t) (r cause serial : Nat) : s.Kept (t.skipTransfer r cause serial) := by
  unfold State.skipTransfer
  extract_lets _ _ t
  have ht : s.Kept t := h.setRing ..
  exact .ite (ht.upCompletion ..) (ht.setRing ..)

theorem ringFaulted (h : s.Kept t) (r cause : Nat) (x : Transfer) (pos : Nat) :
    s.Kept (t.ringFaulted r cause x pos) := by
  unfold State.ringFaulted
  extract_lets _ _ t u v w u₁
  have ht : s.Kept t := h.wr ..
  have hu : s.Kept u := ht.wr ..
  have hv : s.Kept v := hu.wr ..
  have hw : s.Kept w := hv.dmaSticky ..
  have hu₁ : s.Kept u₁ := hw.setRing ..
  exact .ite (hw.skipTransfer ..) (.ite hu₁ (hu₁.raise ..))

theorem ringCommand (h : s.Kept t) (r op : Nat) : s.Kept (t.ringCommand r op) := by
  unfold State.ringCommand
  extract_lets _ u
  have hu : s.Kept u := h.setRing ..
  split
  · exact h.dmaError ..
  · split
    · exact h.dmaError ..
    · extract_lets v
      have hv : s.Kept v := .ite (hu.skipTransfer ..) hu
      exact hv.raise ..

theorem countChunk (h : s.Kept t) (c r : Nat) : s.Kept (t.countChunk c r) := h.frame

theorem issueRing (h : s.Kept t) (r : Nat) : s.Kept (t.issueRing r) := by
  unfold State.issueRing
  extract_lets
  split
  · exact h
  · extract_lets
    split
    · exact h.ringFaulted ..
    · split
      · extract_lets u
        have hu : s.Kept u := (h.emit ..).setRing ..
        exact .ite (hu.transferDone ..) hu
      · exact (h.emit ..).setRing ..

theorem exec_chunkIssue (h : s.Kept t) : s.Keeps (execChunkIssue t) := by
  unfold Machine.execChunkIssue
  split
  · split
    · exact .next h
    · split
      · exact .next ((h.countChunk ..).issueRing ..)
      · exact .next h
  · exact .next h

theorem writeRecord (h : s.Kept t) (r : Nat) : s.Kept (t.writeRecord r) := by
  unfold State.writeRecord
  extract_lets x i f
  clear_value x i f
  cases x.events with
  | nil => exact h
  | cons e es =>
    cases t.translate f.da true with
    | inr c => exact h.ringFaulted ..
    | inl ha =>
      refine .bump ?_ ..
      refine .wr ?_ ..
      exact (h.emit ..).setRing ..

theorem exec_eventRecordWrite (h : s.Kept t) : s.Keeps (execEventRecordWrite t) := by
  unfold Machine.execEventRecordWrite
  split
  · split
    · exact .next ((h.countChunk ..).writeRecord ..)
    · exact .next h
  · exact .next h

theorem takeRead (h : s.Kept t) {r i : Nat} {p : (Nat × Nat) × State} (he : t.takeRead r i = some p) : s.Kept p.2 := by
  unfold State.takeRead at he
  dsimp only at he
  split at he
  · cases he
  · cases he
    exact h.setRing ..

theorem exec_readCompletion (h : s.Kept t) (r : Fin 64) (i : Nat) (res : ReadResult) :
    s.Keeps (execReadCompletion r i res t) := by
  unfold Machine.execReadCompletion
  refine .next ?_
  split
  · exact h
  · next he =>
    have hu := h.takeRead he
    dsimp only
    split
    · exact hu
    · split
      · exact .ite h (.ite ((hu.setRing ..).transferDone ..) (hu.setRing ..))
      · exact hu.ringFaulted ..
      · exact hu.ringFaulted ..
      · exact hu.ringFaulted ..

theorem exec_completionTimeout (h : s.Kept t) (r : Fin 64) (i : Nat) : s.Keeps (execCompletionTimeout r i t) := by
  unfold Machine.execCompletionTimeout
  refine .next ?_
  split
  · exact h
  · next he =>
    have hu := h.takeRead he
    split
    · exact hu
    · exact hu.ringFaulted ..

theorem writeIndex (h : s.Kept t) (r : Nat) (prod : Bool) (v : Word) : s.Kept (t.writeIndex r prod v) :=
  .ite (h.dmaError ..) (.ite (h.dmaError ..) (h.wr ..))

theorem writeRingCfg (h : s.Kept t) (r : Nat) (v : Word) : s.Kept (t.writeRingCfg r v) :=
  .ite (h.dmaError ..) (.ite (h.dmaError ..) ((h.plainWrite ..).ringEnable ..))

theorem writeRingReg (h : s.Kept t) (r o : Nat) (v : Word) : s.Kept (t.writeRingReg r o v) := by
  unfold State.writeRingReg
  split
  · exact .ite (h.plainWrite ..) (h.dmaError ..)
  · exact .ite (h.plainWrite ..) (h.dmaError ..)
  · exact h.writeRingCfg ..
  · exact h.writeIndex ..
  · exact h.writeIndex ..
  · exact (h.plainWrite ..).quotaAfter ..
  · exact .ite (h.ringCommand ..) h
  · exact h.plainWrite ..

theorem dmaWrite (h : s.Kept t) (off : Nat) (v : Word) : s.Kept (t.dmaWrite off v) :=
  .ite (h.writeRingReg ..) (.ite (h.writeRingReg ..) (.ite (h.dmaError ..) (.ite (.ite (h.dmaError ..) ((h.plainWrite ..).quotaAfter ..)) (h.plainWrite ..))))

theorem dmaRead (h : s.Kept t) (off : Nat) : s.Kept (t.dmaRead off).2 := by
  unfold State.dmaRead
  split
  · exact h
  · split
    · exact h
    · split
      · exact h
      · split
        · exact h
        · exact h.plainRead ..

theorem dmaAccess (h : s.Kept t) (ag : Agent) (off : Nat) (v : Word) : s.Kept (t.dmaAccess ag off v) :=
  h.writeAccess (h.dmaWrite ..)

/-! ### Reliability -/

theorem relError (h : s.Kept t) (bit : Nat) : s.Kept (t.relError bit) := h.error ..

theorem scrubWord (h : s.Kept t) (mem addr : Nat) (found : EccFind) : s.Kept (t.scrubWord mem addr found) := by
  unfold State.scrubWord
  split
  · exact h.eccError ..
  · split
    · exact h
    · exact h.bump ..
    · exact h.eccError ..

theorem scrubPassed (h : s.Kept t) : s.Kept t.scrubPassed := (h.advance ..).log ..

theorem exec_scrubRead (h : s.Kept t) (mem : Fin 10) (addr : Nat) (found : EccFind) (last : Bool) :
    s.Keeps (execScrubRead mem addr found last t) := by
  unfold Machine.execScrubRead
  split
  · exact .next h
  · extract_lets t
    have ht : s.Kept t := h.scrubWord ..
    exact .next (.ite ht.scrubPassed ht)

theorem exec_selftestStart (h : s.Kept t) : s.Keeps (execSelftestStart t) := by
  unfold Machine.execSelftestStart
  split
  · exact .next h
  · exact .next (.ite h.frame h)

theorem retireLiveTile (h : s.Kept t) (p : Nat) : s.Kept (t.retireLiveTile p) := by
  unfold State.retireLiveTile
  split
  · exact h
  · extract_lets t
    have ht : s.Kept t := h.endTest ..
    split
    · exact (ht.setFlag ..).raise ..
    · split
      · extract_lets u
        have hu : s.Kept u := ht.frame
        exact ((hu.drainTile ..).killStarted ..).retireTile ..
      · exact ht.retireTile ..

theorem retireLane (h : s.Kept t) (n : Nat) : s.Kept (t.retireLane n) := by
  unfold State.retireLane
  split
  · exact h
  · extract_lets t
    have ht : s.Kept t := ((h.endTest ..).setFlag ..).raise ..
    exact .ite (ht.foldl (fun hu _ => hu.linkDown ..) _) ht.pairLinkLost

theorem retireRow (h : s.Kept t) (mem row : Nat) (spare : Bool) : s.Kept (t.retireRow mem row spare) := by
  unfold State.retireRow
  extract_lets _ _ t
  have ht : s.Kept t := h.setFlag ..
  exact .ite h.frame (.ite (ht.retireLiveTile ..) ht)

theorem retireUnit (h : s.Kept t) (unit row : Nat) (spare : Bool) : s.Kept (t.retireUnit unit row spare) := by
  unfold State.retireUnit
  extract_lets
  split
  · exact h.retireRow ..
  · exact h.retirePipe ..
  · exact h.retireLane ..
  · exact (h.retireEngine ..).raise ..

theorem exec_selftestDone (h : s.Kept t) (unit : BitVec 16) (row : Nat) (failed spare : Bool) :
    s.Keeps (execSelftestDone unit row failed spare t) := by
  unfold Machine.execSelftestDone
  extract_lets _ _ t v
  have ht : s.Kept t := .ite h (h.noteTransient ..)
  have hv : s.Kept v := (ht.endTest ..).verdict ..
  exact .next (.ite h (.ite (ht.coreScanned ..) (.ite (hv.retireUnit ..) (.ite (hv.resumeEngine ..) hv))))

theorem writeRetireTile (h : s.Kept t) (k : Nat) (v : Word) : s.Kept (t.writeRetireTile k v) :=
  h.foldl (fun hu _ => .ite (hu.retireLiveTile ..) hu) _

theorem writeRetireLane (h : s.Kept t) (v : Word) : s.Kept (t.writeRetireLane v) :=
  h.foldl (fun hu _ => .ite (hu.retireLane ..) hu) _

theorem writeKick (h : s.Kept t) (ag : Agent) : s.Kept (t.writeKick ag) := by
  unfold State.writeKick
  split
  · exact h.setFlag ..
  · exact h.relError ..

theorem wdgAct (h : s.Kept t) (k : Nat) : s.Kept (t.wdgAct k) := by
  unfold State.wdgAct
  extract_lets _ _ t
  have ht : s.Kept t := ((h.setFlag ..).raise ..).log ..
  exact .ite (ht.safeCause ..) (.ite (ht.warmReset ..) (.ite (ht.coldReset ..) ht))

theorem wdgExpire (h : s.Kept t) (k : Nat) : s.Kept (t.wdgExpire k) := by
  unfold State.wdgExpire
  extract_lets _ t
  have ht : s.Kept t := (h.setFlag ..).setFlag ..
  exact ((ht.setFlag ..).raise ..).log ..

theorem exec_wdgExpire (h : s.Kept t) (k : Fin 8) : s.Keeps (execWdgExpire k t) := by
  unfold Machine.execWdgExpire
  split
  · exact .next h
  · extract_lets t
    have ht : s.Kept t := h.wdgExpire ..
    exact .next (.ite (ht.wdgAct ..) ht)

theorem logFull (h : s.Kept t) : s.Kept t.logFull := .ite (h.frame.raise ..) h

theorem logPut (h : s.Kept t) (e : LogEntry) : s.Kept (t.logPut e) := by
  unfold State.logPut
  extract_lets _ t _ u
  have ht : s.Kept t := h.clearPoison ..
  have hu : s.Kept u := ht.frame
  exact hu.wr ..

theorem logAccept (h : s.Kept t) (e : LogEntry) : s.Kept (t.logAccept e) := by
  unfold State.logAccept
  extract_lets _ t
  have ht : s.Kept t := h.logPut ..
  exact .ite (.ite ht.logFull ht) (.ite ((h.bump ..).setFlag ..) ((h.logPut ..).wr ..).logFull)

theorem exec_logAccept (h : s.Kept t) : s.Keeps (execLogAccept t) := by
  unfold Machine.execLogAccept
  refine .next ?_
  split
  · exact h
  · next e es he =>
    have hrest : s.Kept { t with logWait := es } := by
      refine ⟨h.pending, fun hs => { h.inv hs with waiting := ?_ }⟩
      have hw := (h.inv hs).waiting
      rw [he, List.length_cons] at hw
      exact Nat.le_of_succ_le hw
    exact .ite (hrest.logAccept ..) h

theorem writeLogIn (h : s.Kept t) (ag : Agent) (i : Nat) (v : Word) : s.Kept (t.writeLogIn ag i v) :=
  .ite (h.relError ..) (.ite (h.relError ..) (.ite (h.logEntry ..) (h.stage ..)))

theorem logClear (h : s.Kept t) : s.Kept t.logClear := by
  unfold State.logClear
  extract_lets t
  have ht : s.Kept t := (h.wr ..).wr ..
  exact ht.frame

theorem writeLogCtrl (h : s.Kept t) (v : Word) : s.Kept (t.writeLogCtrl v) := by
  unfold State.writeLogCtrl
  split
  · exact h.relError ..
  · extract_lets t
    have ht : s.Kept t := h.plainWrite ..
    exact .ite ht.logClear ht

theorem freeLatch (h : s.Kept t) : s.Kept t.freeLatch := h.foldl (fun hu _ => (hu.wr ..).drawn) _

theorem logLatch (h : s.Kept t) : s.Kept t.logLatch := by
  unfold State.logLatch
  extract_lets
  split
  · split
    · exact (h.eccReport ..).freeLatch.wr ..
    · split
      · exact (h.wrWords ..).wr ..
      · exact h.freeLatch.wr ..
  · exact h.freeLatch.wr ..

theorem readLogData (h : s.Kept t) : s.Kept t.readLogData.2 := h.logLatch

theorem exec_wearUpdate (h : s.Kept t) : s.Keeps (execWearUpdate t) := by
  unfold Machine.execWearUpdate
  split
  · exact .next h
  · exact .next (h.frame.wr ..)

theorem relWrite (h : s.Kept t) (ag : Agent) (off : Nat) (v : Word) : s.Kept (t.relWrite ag off v) :=
  .ite (h.writeRetireTile ..) (.ite (h.writeRetireLane ..) (.ite (h.writeKick ..) (.ite (h.writeLogCtrl ..) (.ite (h.writeLogIn ..) (.ite (h.relError ..) (h.plainWrite ..))))))

theorem relRead (h : s.Kept t) (off : Nat) : s.Kept (t.relRead off).2 := by
  unfold State.relRead
  split
  · exact h
  · split
    · exact h.readLogData
    · exact h.plainRead ..

/-! ### Bus -/

theorem applyWrite (h : s.Kept t) (ag : Agent) (off : Nat) (v : Word) : s.Kept (t.applyWrite ag off v) := by
  unfold State.applyWrite
  split
  · exact h.gctlWrite ..
  · exact h.cpmWrite ..
  · exact h.calWrite ..
  · exact h.selWrite ..
  · exact h.dryWrite ..
  · exact h.grvWrite ..
  · exact .ite (h.gnsWrite ..).pllSweep (h.navWrite ..)
  · exact h.portWrite ..
  · exact h.clsWrite ..
  · exact h.gysWrite ..
  · exact h.cryWrite ..
  · exact h.bneWrite ..
  · exact h.dmaWrite ..
  · exact h.evtWrite ..
  · exact h.relWrite ..
  · exact h.parWrite ..
  · exact h

/-- A read of a port's register, apart from the others: the kernel must not look into a port's offsets. -/
theorem applyRead_port (h : s.Kept t) (ag : Agent) {off : Nat} (hb : off / 2 ^ 20 = 7) : s.Kept (t.applyRead ag off).2 := by
  simp only [State.applyRead, hb]
  exact h.portRead ..

theorem applyRead (h : s.Kept t) (ag : Agent) (off : Nat) : s.Kept (t.applyRead ag off).2 := by
  by_cases hb : off / 2 ^ 20 = 7
  · exact h.applyRead_port ag hb
  unfold State.applyRead
  split
  · exact h.gctlRead ..
  · exact h.cpmRead ..
  · exact h.calRead ..
  · exact h.selRead ..
  · exact h.dryRead ..
  · exact h.grvRead ..
  · split
    · exact h.gnsRead ..
    · exact h.navRead ..
  case h_8 h7 => exact absurd h7 hb
  · exact h.gysRead ..
  · exact h.cryRead ..
  · exact h.bneRead ..
  · exact h.dmaRead ..
  · exact h.evtRead ..
  · exact h.relRead ..
  · exact h.parRead ..
  · exact h.plainRead ..

theorem rejectAccess (h : s.Kept t) (ag : Agent) (off : Nat) : s.Kept (t.rejectAccess ag off) := .ite (h.complete ..) h

theorem resumeCore (h : s.Kept t) (k : Fin 8) (v : Word) : s.Kept (t.resumeCore k v) := by
  unfold State.resumeCore
  split
  · exact h
  · extract_lets t
    have ht : s.Kept t := (h.setG ..).retire ..
    exact ht.setTh ..

theorem answerAccess (h : s.Kept t) (a : Access) (v : Word) : s.Kept (t.answerAccess a v) := by
  unfold State.answerAccess
  extract_lets t
  have ht : s.Kept t := .ite h (h.complete ..)
  split
  · exact ht.resumeCore ..
  · exact ht

theorem takeAccess (h : s.Kept t) (a : Access) : s.Kept (t.takeAccess a) := h.frame

theorem finishAccess (h : s.Kept t) (a : Access) : s.Kept (t.finishAccess a) := by
  unfold State.finishAccess
  extract_lets u r
  have hu : s.Kept u := h.takeAccess ..
  have hr : s.Kept r.2 := hu.applyRead ..
  split
  · exact .ite ((hu.applyWrite ..).answerAccess ..) (hr.answerAccess ..)
  · exact (hu.badAccess ..).answerAccess ..
  · exact (hu.badAccess ..).answerAccess ..

theorem exec_pendingAccessComplete (h : s.Kept t) : s.Keeps (execPendingAccessComplete t) := by
  unfold Machine.execPendingAccessComplete
  split
  · exact .next h
  · exact .next (h.finishAccess ..)

theorem exec_busTimeout (h : s.Kept t) : s.Keeps (execBusTimeout t) := by
  unfold Machine.execBusTimeout
  split
  · exact .next h
  · exact .next (((h.takeAccess ..).badAccess ..).answerAccess ..)

theorem stallCore (h : s.Kept t) (k : Fin 8) (a : Access) (dst : Nat) (sign : Bool) :
    s.Kept (t.stallCore k a dst sign) :=
  h.frame.setTh ..

theorem coreRegLoad (h : s.Kept t) (k : Fin 8) (off addr rd : Nat) (sign : Bool) :
    s.Kept (t.coreRegLoad k off addr rd sign).state := by
  unfold State.coreRegLoad
  split
  · exact ((h.applyRead ..).complete ..).setG ..
  · exact ((h.badAccess ..).complete ..).setG ..
  · exact h.stallCore ..
  · extract_lets u gated
    have hu : s.Kept u := h.badAccess ..
    split
    · exact hu
    · exact (hu.complete ..).setG ..

theorem coreRegStore (h : s.Kept t) (k : Fin 8) (off : Nat) (v : Word) : s.Kept (t.coreRegStore k off v).state := by
  unfold State.coreRegStore
  split
  · exact h.applyWrite ..
  · exact h.badAccess ..
  · exact h.badAccess ..
  · exact h.stallCore ..

theorem settleCore (h : s.Kept t) (x : Ctx) : s.Kept (t.settleCore x) := by
  unfold State.settleCore
  split
  · exact .ite (h.setCore ..) h
  · exact h

/-! ### Memory -/

theorem loadL (h : s.Kept t) (x : Ctx) (w : Word) (sign : Bool) : s.Kept (t.loadL x w sign).state := by
  unfold State.loadL
  dsimp only
  split
  · exact h
  · split
    · exact h.coreRegLoad ..
    · split
      · next he => exact h.readL_error he
      · next he => exact (h.readL_ok he).setG ..

theorem storeL (h : s.Kept t) (x : Ctx) (w : Word) : s.Kept (t.storeL x w).state := by
  unfold State.storeL
  dsimp only
  split
  · exact h
  · split
    · exact h.coreRegStore ..
    · split
      · next he => exact h.writeL_error he
      · next he => exact h.writeL_ok he

theorem loadP (h : s.Kept t) (x : Ctx) (w : Word) (sign : Bool) : s.Kept (t.loadP x w sign).state :=
  h.pAccess fun _ => h.setG ..

theorem exec_stp (h : s.Kept t) (x : Ctx) : s.Keeps (execStp x t) := by
  unfold Machine.execStp
  refine .next (h.issue fun _ => ?_)
  exact h.pAccess fun _ => h.writeFrame ..

theorem exec_tldl (h : s.Kept t) (x : Ctx) : s.Keeps (execTldl x t) := by
  unfold Machine.execTldl
  refine .next (h.issue fun w => ?_)
  dsimp only
  split
  · exact h
  · split
    · next he => exact h.readL_error he
    · next he =>
      have hu := h.readL_ok he
      split
      · exact hu.setT ..
      · exact hu

theorem exec_tstl (h : s.Kept t) (x : Ctx) : s.Keeps (execTstl x t) := by
  unfold Machine.execTstl
  refine .next (h.issue fun w => ?_)
  dsimp only
  split
  · exact h
  · split
    · next he => exact h.writeL_error he
    · next he => exact h.writeL_ok he

/-! ### Sinter -/

theorem clearRefusals (h : s.Kept t) (off : Nat) : s.Kept (t.clearRefusals off) := h.foldl (fun hu _ => hu.wr ..) _

theorem markCommit (h : s.Kept t) (off : Nat) : s.Kept (t.markCommit off) := .ite h.frame h

theorem configWrite (h : s.Kept t) (off : Nat) (v : Word) : s.Kept (t.configWrite off v) := by
  unfold State.configWrite
  split
  · exact h.countConfig ..
  · split
    · exact .ite ((h.applyWrite ..).countConfig ..) ((h.applyWrite ..).markCommit ..)
    · exact (h.badAccess ..).countConfig ..
    · exact (h.badAccess ..).countConfig ..
    · exact (h.badAccess ..).countConfig ..

theorem configWrites (h : s.Kept t) (stage : Nat) (ps : List (Nat × Word)) : s.Kept (t.configWrites stage ps) :=
  h.foldl (fun hu _ => .ite (hu.configWrite ..) hu) _

theorem configAnchor (h : s.Kept t) (stage : Nat) (a : Nat × Nat × List Byte) : s.Kept (t.configAnchor stage a) :=
  h.configWrites ..

theorem powerConfigured (h : s.Kept t) : s.Kept t.powerConfigured := h.foldl (fun hu _ => .ite (hu.powerUp ..) hu) _

theorem takeSlot (h : s.Kept t) (k : Nat) : s.Kept (t.takeSlot k) := by
  unfold State.takeSlot
  extract_lets _ _ _ _ u v x y z w
  have hu : s.Kept u := (h.setFld ..).setFlag ..
  have hv : s.Kept v := (hu.wr ..).wr ..
  have hw : s.Kept w := ((hv.withRecords ..).setBootStage ..).configWrites ..
  exact .ite hw.powerConfigured hw

theorem factoryDefaults (h : s.Kept t) : s.Kept t.factoryDefaults := by
  unfold State.factoryDefaults
  extract_lets t u v w _ u₁
  have ht : s.Kept t := (h.setFld ..).setFlag ..
  have hu : s.Kept u := (ht.wr ..).wr ..
  have hv : s.Kept v := hu.foldl (fun hu _ => hu.applyWrite ..) _
  have hw : s.Kept w := hv.foldl (fun hu _ => .ite (hu.writeEn ..) (.ite (hu.writeEn ..) hu)) _
  have hu₁ : s.Kept u₁ := hw.frame
  exact (hu₁.safeCause ..).setBootStage ..

theorem microcodeOutcome (h : s.Kept t) : s.Kept t.microcodeOutcome := .ite h (h.setFld ..)

theorem chooseConfig (h : s.Kept t) : s.Kept t.chooseConfig := by
  unfold State.chooseConfig
  extract_lets t
  have ht : s.Kept t := h.microcodeOutcome
  split
  · extract_lets u
    have hu : s.Kept u := ht.wr ..
    split
    · exact hu.takeSlot ..
    · exact hu.factoryDefaults

theorem applyConfig (h : s.Kept t) : s.Kept t.applyConfig := by
  unfold State.applyConfig
  extract_lets t u v
  have ht : s.Kept t := h.foldl (fun hu _ => hu.log ..) _
  have hu : s.Kept u := ht.configWrites ..
  have hv : s.Kept v := hu.foldl (fun hu _ => hu.configAnchor ..) _
  exact .ite (hv.frame.setBootStage ..) hv

theorem wakeMode (h : s.Kept t) (slept : Nat) : s.Kept (t.wakeMode slept) := by
  unfold State.wakeMode
  extract_lets t
  have ht : s.Kept t := h.selectorWake
  exact .ite (ht.enterMode ..) (.ite (ht.enterServing ..) (.enterServing (.ite (ht.setDstate ..) ht) ..))

theorem bootMode (h : s.Kept t) : s.Kept t.bootMode := by
  unfold State.bootMode
  split
  · exact h
  · split
    · exact h.enterMode ..
    · split
      · exact h.wakeMode ..
      · exact .ite (h.enterServing ..) (h.enterMode ..)

theorem exec_bootDone (h : s.Kept t) : s.Keeps (execBootDone t) := by
  unfold Machine.execBootDone
  split
  · exact .next h
  · extract_lets t u _ _ v
    have ht : s.Kept t := (h.setBootStage ..).bootMode
    have hu : s.Kept u := ht.raise ..
    have hv : s.Kept v := hu.frame
    exact .next (hv.configWrites ..)

end State.Kept

end Sys2Proof.Machine
end

section
/-! Every command, and with it every step, keeps the queue and the invariant. -/
namespace Sys2Proof.Machine

-- One theorem at a time: their number would take more threads than there is memory for.
set_option Elab.async false

/-- Every command keeps the queue of commands and the invariant. -/
theorem exec_keeps (c : Instr) (s : State) : s.Keeps (exec c s) := by
  have h := State.Kept.refl s
  cases c with
  | registerWrite _ _ _ => exact .next (.ite h (.ite (h.rejectAccess ..) (h.writeAccess (h.applyWrite ..))))
  | unalignedBar0Access _ _ _ _ => exact .next (.ite h (h.rejectAccess ..))
  | rcFieldRead _ _ => exact .next (.ite h (.ite (h.rejectAccess ..) (h.readAccess (h.applyRead ..))))
  | pendingAccessComplete => exact h.exec_pendingAccessComplete
  | busTimeout => exact h.exec_busTimeout
  | badaccClear _ _ => exact .next (h.writeAccess (h.clearBadAccess ..))
  | replicaCompare => exact h.exec_replicaCompare
  | incrOwnerWrite _ _ => exact .next (h.writeAccess (h.writeCalCtrl ..))
  | incrCommit _ _ => exact .next (h.writeAccess (h.writeIncrH ..))
  | incrApply => exact .next h.applyIncr
  | stepGo _ _ => exact .next (h.writeAccess (.ite (h.stepGo ..) h))
  | stepAbort _ _ => exact .next (h.writeAccess (.ite h.stepAbort h))
  | stepApply => exact h.exec_stepApply
  | nowRead _ _ => exact .next (h.readAccess (h.readNow ..))
  | snapGo _ _ => exact .next (h.writeAccess (.ite h.snapshot h))
  | ptmPeriod _ => exact .next (.ite (h.ptmDue ..) h)
  | ptmOneshot _ _ _ => exact .next (h.writeAccess (.ite (h.writePtmCtrl ..) h))
  | ptmResponse _ _ _ _ => exact h.exec_ptmResponse _ _ _ _
  | ptmTimeout _ => exact h.exec_ptmTimeout _
  | ptmStatusRead _ => exact .next (h.readAccess h.readPtmStatus)
  | comparatorFire _ => exact .next h.frame
  | utcCommit _ _ => exact .next (h.writeAccess (.ite (h.commitUtc ..) h))
  | utcApply => exact h.exec_utcApply
  | leapWarn => exact .next (.ite ((h.setFld ..).raise ..) h)
  | leapInstant => exact .next (.ite h ((h.setFld ..).setFld ..))
  | utcExpired => exact .next (.ite ((h.setFlag ..).raise ..) h)
  | smearStart => exact .next (.ite ((h.setFlag ..).raise ..) h)
  | smearEnd => exact .next (.ite ((h.setFlag ..).raise ..) h)
  | quadModeWrite _ _ _ => exact .next (h.writeAccess (h.writeQuad ..))
  | linkUp _ _ => exact .next (.ite ((((h.wr ..).setFlag ..).setFlag ..).raise ..) h)
  | linkDown _ _ => exact h.exec_linkDown _ _
  | alignmentLock _ _ => exact .next (.ite ((h.wr ..).setFlag ..) h)
  | frameRx _ _ _ _ _ _ => exact h.exec_frameRx _ _ _ _ _ _
  | pauseEnd _ => exact .next (.ite ((h.setPort ..).setFlag ..) h)
  | classify _ => exact h.exec_classify _
  | frameTxCommit _ _ => exact h.exec_frameTxCommit _ _
  | txageExpire _ => exact h.exec_txageExpire _
  | captureRecordDeliver _ => exact h.exec_captureRecordDeliver _
  | calCtrlWrite _ _ _ => exact .next (h.writeAccess (h.writeCalPort ..))
  | calpatEdge _ _ => exact h.exec_calpatEdge _ _
  | loopcalFrameTx _ _ => exact h.exec_loopcalFrameTx _ _
  | calTxRead _ _ _ => exact .next (h.readAccess (h.readCalTx ..))
  | add _ => exact .next (h.aluFlags ..)
  | sub _ => exact .next (h.aluFlags ..)
  | andReg _ => exact .next (h.alu ..)
  | orReg _ => exact .next (h.alu ..)
  | xorReg _ => exact .next (h.alu ..)
  | shl _ => exact .next (h.alu ..)
  | shr _ => exact .next (h.alu ..)
  | sar _ => exact .next (h.alu ..)
  | rol _ => exact .next (h.alu ..)
  | slt _ => exact .next (h.alu ..)
  | sltu _ => exact .next (h.alu ..)
  | minu _ => exact .next (h.alu ..)
  | maxu _ => exact .next (h.alu ..)
  | mul _ => exact .next (h.alu ..)
  | mulhu _ => exact .next (h.alu ..)
  | clz _ => exact .next (h.alu ..)
  | popc _ => exact .next (h.alu ..)
  | bswap _ => exact .next (h.alu ..)
  | extField _ => exact .next (h.alu ..)
  | crc _ => exact .next (h.alu ..)
  | addi _ => exact h.exec_addi _
  | andi _ => exact .next (h.aluImm ..)
  | ori _ => exact .next (h.aluImm ..)
  | xori _ => exact .next (h.aluImm ..)
  | shli _ => exact .next (h.aluImm ..)
  | shri _ => exact .next (h.aluImm ..)
  | sari _ => exact .next (h.aluImm ..)
  | movi _ => exact .next (h.issueRd ..)
  | movk _ => exact .next (h.issue fun _ => h.setG ..)
  | slti _ => exact .next (h.aluImm ..)
  | sltiu _ => exact .next (h.aluImm ..)
  | beq _ => exact .next (h.branch ..)
  | bneBranch _ => exact .next (h.branch ..)
  | blt _ => exact .next (h.branch ..)
  | bge _ => exact .next (h.branch ..)
  | bltu _ => exact .next (h.branch ..)
  | bgeu _ => exact .next (h.branch ..)
  | bfs _ => exact .next (h.branchFlag ..)
  | bfc _ => exact .next (h.branchFlag ..)
  | jal _ => exact .next (h.issue fun _ => .jumpTo (h.setG ..) h)
  | jalr _ => exact .next (h.issue fun _ => .jumpTo (h.setG ..) h)
  | ldl _ => exact .next (h.issue fun _ => h.loadL ..)
  | ldls _ => exact .next (h.issue fun _ => h.loadL ..)
  | stl _ => exact .next ((h.issue fun _ => h.storeL ..).settleCore ..)
  | ldp _ => exact .next (h.issue fun _ => h.loadP ..)
  | ldps _ => exact .next (h.issue fun _ => h.loadP ..)
  | stp _ => exact h.exec_stp _
  | tldl _ => exact h.exec_tldl _
  | tstl _ => exact h.exec_tstl _
  | tnow _ _ => exact .ite (.next h) (.next (h.issue fun _ => h.setT ..))
  | tingr _ => exact .next (h.issue fun _ => (h.setT ..).setSus ..)
  | tmov _ => exact .next (h.issue fun _ => h.setT ..)
  | tadd _ => exact h.exec_tadd _
  | tsub _ => exact h.exec_tsub _
  | tset _ => exact h.exec_tset _
  | tgsec _ => exact .next (h.timeFn ..)
  | tgns _ => exact .next (h.timeFn ..)
  | tcf _ => exact .next (h.timeFn ..)
  | tntp _ => exact .next (h.timeFn ..)
  | tutc _ => exact .next (h.timeFn ..)
  | twait _ => exact .next (h.issue fun _ => ((h.arm ..).startOp ..).setStatus ..)
  | twaitComplete _ => exact .ite (.next (((h.disarm ..).setTh ..).readied ..)) (.next h)
  | tstp _ => exact h.exec_tstp _
  | finfo _ => exact h.exec_finfo _
  | flen _ => exact h.exec_flen _
  | fmark _ => exact h.exec_fmark _
  | funmark _ => exact .next (h.issue fun _ => h.withFrame fun _ => h.setFrame ..)
  | fport _ => exact h.exec_fport _
  | fswap _ => exact h.exec_fswap _
  | fcpyp _ => exact h.exec_fcpyp _
  | fcpyl _ => exact h.exec_fcpyl _
  | csum _ => exact h.exec_csum _
  | csadd _ => exact .next (h.issue fun _ => h.setG ..)
  | csip _ => exact h.exec_csip _
  | csudp _ => exact h.exec_csudp _
  | tbld _ => exact .next (h.issue fun _ => h.tAccess (h.startOp ..))
  | tbst _ => exact .next (h.issue fun _ => h.tAccess (h.postStore ..))
  | tbcas _ => exact h.exec_tbcas _
  | tbadd _ => exact h.exec_tbadd _
  | tbfind _ => exact h.exec_tbfind _
  | tblock _ => exact h.exec_tblock _
  | tbunlk _ => exact h.exec_tbunlk _
  | tbget _ => exact h.exec_tbget _
  | tbput _ => exact h.exec_tbput _
  | tableOpComplete _ _ => exact h.exec_tableOpComplete _ _
  | postedStoreComplete _ => exact h.exec_postedStoreComplete _
  | tkn _ => exact h.exec_tkn _
  | tknComplete _ _ => exact h.exec_tknComplete _ _
  | tkset _ => exact h.exec_tkset _
  | cjob _ => exact .next (h.issue fun _ => h.cjobBody ..)
  | cjobQueueRoom _ _ => exact .ite (.next h) (.next ((h.setStatus ..).issue fun _ => (h.setStatus ..).cjobBody ..))
  | cjobComplete _ _ _ => exact h.exec_cjobComplete _ _ _
  | cellArrive _ _ => exact h.exec_cellArrive _ _
  | sendFrame _ => exact .next (h.issue fun _ => h.dispose (h.withFrame fun _ => .endContext (.ite (h.staleDrop ..) (h.sendOut ..)) ..))
  | dropFrame _ => exact .next (h.issue fun _ => h.dispose (h.withFrame fun _ => (h.bump ..).endContext ..))
  | tohost _ => exact h.exec_tohost _
  | endContext _ => exact h.exec_endContext _
  | nop _ => exact .next (h.issue fun _ => h)
  | yield _ => exact .next (h.issue fun _ => h.makeNewest ..)
  | waitl _ => exact .next (h.issue fun _ => h)
  | fence _ => exact h.exec_fence _
  | brk _ => exact .next (h.issue fun _ => h)
  | evraise _ => exact .next (h.issue fun _ => h.raise ..)
  | rdctx _ => exact h.exec_rdctx _
  | waitCore _ => exact h.exec_waitCore _
  | eret _ => exact h.exec_eret _
  | mfsr _ => exact h.exec_mfsr _
  | mtsr _ => exact .next (h.issue fun _ => h.setCoreOf ..)
  | mrgn _ => exact h.exec_mrgn _
  | mrgi _ => exact .next (h.issue fun _ => h.setCoreOf ..)
  | undefinedEncoding _ => exact h.exec_undefinedEncoding _
  | scInterrupt _ _ => exact .ite (.next h) (.ite (.next (h.coreInterrupt ..)) (.next h))
  | requestArrive _ => exact h.exec_requestArrive _
  | contextStart _ _ => exact h.exec_contextStart _ _
  | contextFree _ _ => exact .ite (.next ((h.setCtx ..).initEnded ..).checkOld) (.next h)
  | killLockHandling _ _ => exact h.exec_killLockHandling _ _
  | staleScan _ => exact h.exec_staleScan _
  | coreFault _ => exact h.exec_coreFault _
  | coreScanDone _ _ => exact h.exec_coreScanDone _ _
  | timerFire _ => exact .ite (.next (h.fireTimer ..)) (.next h)
  | timerCtlWrite _ _ _ _ => exact .next (h.writeAccess (h.writeTimer ..))
  | initContextStart _ _ => exact h.exec_initContextStart _ _
  | drainSet _ _ => exact .next (h.writeAccess (h.writeMap ..))
  | drainClear _ _ => exact .next (h.writeAccess (h.writeMap ..))
  | clsqWrite _ _ _ => exact .next (h.writeAccess (h.writeQuota ..))
  | bankWrite _ _ _ => exact .ite (.next (h.writeBank ..)) (.next h)
  | bankHeaderWrite _ _ _ _ => exact .next (h.writeAccess (h.writeHeader ..))
  | bankVerify _ _ => exact .next (h.writeAccess (h.writeBankCtl ..))
  | verifyDone => exact h.exec_verifyDone
  | bankSwitch _ _ _ => exact .next (h.writeAccess (h.writeBankCtl ..))
  | switchInstant => exact .next h.carrySwitch
  | jobDispatch => exact h.exec_jobDispatch
  | pipeKat _ => exact .ite (.next h.frame) (.next h)
  | katDone _ _ => exact h.exec_katDone _ _
  | drbgHealthFail => exact .ite (.next h.drbgFail) (.next h)
  | drbgReseedRetry _ => exact h.exec_drbgReseedRetry _
  | cryptoDisable _ _ => exact .next (h.writeAccess (h.writeCryCtrl ..))
  | keyLoad _ _ _ => exact .next (h.writeAccess (h.writeKeyCommand ..))
  | keySetcur _ _ => exact .next (h.writeAccess (h.writeKeyCommand ..))
  | keyRetire _ _ => exact .next (h.writeAccess (h.writeKeyCommand ..))
  | slotDrainEnd _ => exact .ite (.next (h.clearSlot ..)) (.next h)
  | hostMint _ => exact .next (h.writeAccess (h.writeHostMint ..))
  | hostMintDone _ => exact h.exec_hostMintDone _
  | anchorWrite _ _ _ => exact .next (h.writeAccess (h.writeAnchor ..))
  | slotMeasurement _ _ _ => exact h.exec_slotMeasurement _ _ _
  | slotSecondCheck _ => exact .next (.ite h (h.checkSlot ..).examine.evaluate.settle)
  | selectorSecond => exact .next (.ite h h.readTemp.examine.evaluate.settle)
  | inject _ _ _ => exact .next (h.writeAccess (h.writeInject ..))
  | initAlignStep => exact h.exec_initAlignStep
  | selAlign _ _ => exact .next (h.selCommand ..)
  | alignStepWrite => exact h.exec_alignStepWrite
  | selForceSlew _ _ => exact .next (h.selCommand ..)
  | selWtrClr _ _ => exact .next (h.selCommand ..)
  | selLoadSeed _ _ => exact .next (h.selCommand ..)
  | selRelearn _ _ => exact .next (h.selCommand ..)
  | holdUpdate => exact .next (.ite (h.steer ..).settle h)
  | modelSample => exact h.exec_modelSample
  | modelRefit => exact h.exec_modelRefit
  | edgeCommand _ => exact h.exec_edgeCommand _
  | ppsPulse _ => exact .next (h.pulse ..).dryRefresh
  | ppsPulseEnd _ => exact h.exec_ppsPulseEnd _
  | outputCtlWrite _ _ _ => exact .next (.ite (h.writeAccess (h.dryWrite ..)) h)
  | todMessageWrite => exact h.exec_todMessageWrite
  | todMessageStart => exact h.exec_todMessageStart
  | todMessageEnd => exact h.exec_todMessageEnd
  | ckmonWrite _ _ => exact .next (h.writeAccess (h.writeCkmon ..))
  | sclkWindow _ => exact h.exec_sclkWindow _
  | sampleMarker _ => exact h.exec_sampleMarker _
  | scntRead _ => exact .next (h.readAccess h.readScnt)
  | sinStatUpdate _ _ => exact h.exec_sinStatUpdate _ _
  | sinCtlWrite _ _ _ _ => exact .next (.ite (h.writeAccess (h.writeSinFc ..)) (h.writeAccess (h.writeSinCtl ..)))
  | sigWrite _ _ _ => exact .next (h.writeAccess (h.writeSig ..))
  | acqJobStart _ => exact .next (.ite (h.frame.setFlag ..) h)
  | acqJobDone _ => exact h.exec_acqJobDone _
  | aidParse _ _ => exact .next (h.writeAccess (h.writeAid ..))
  | aidDone => exact h.exec_aidDone
  | tpgEnable _ _ => exact .next (h.writeAccess (.ite (h.writeTpg ..) h))
  | channelDump _ _ _ _ => exact h.exec_channelDump _ _ _ _
  | channelCommand _ _ => exact h.exec_channelCommand _ _
  | burstFrontendOn => exact h.exec_burstFrontendOn
  | burstStart => exact h.exec_burstStart
  | burstEnd _ => exact h.exec_burstEnd _
  | engineCheckError _ => exact .next (.ite ((h.startTest ..).foldl (fun hu _ => hu.toChannelState ..) _) h)
  | solution _ => exact .next (.ite (h.solve ..) h)
  | epochPulse => exact h.exec_epochPulse
  | fixRead _ => exact .next (h.readAccess h.readFix)
  | qerrRead _ => exact .next (h.readAccess h.readQerrSec)
  | navCtlWrite _ _ => exact .next (h.writeAccess (h.writeNavCtl ..))
  | surveyRestart _ _ => exact .next (h.navCommand ..)
  | applyPos _ _ => exact .next (h.navCommand ..)
  | osnmaReset _ _ => exact .next (h.navCommand ..)
  | osnmaMessage _ => exact .next (.ite (h.showOsnma.osnma ..).showOsnma h)
  | edgeStamp _ _ _ _ => exact h.exec_edgeStamp _ _ _ _
  | gateEdge _ _ _ => exact h.exec_gateEdge _ _ _
  | windowEnd _ => exact .next (.ite (h.grvDone ..) h)
  | fifoPop _ _ _ => exact .next (h.readAccess (.grvPop (.ite (h.grvSpoiled ..) h) ..))
  | channelArm _ _ _ => exact .next (h.writeAccess (.ite (h.writeGrvCtl ..) h))
  | fifoClear _ _ _ => exact .next (h.writeAccess (.ite (h.writeGrvCtl ..) h))
  | channelOwnerWrite _ _ _ => exact .next (h.writeAccess (.ite h (h.writeGrvCtl ..)))
  | thresholdWrite _ _ _ => exact .next (h.writeAccess (h.writeGrvThr ..))
  | thresholdSettle _ => exact .next (h.setGrvCh ..)
  | caltabUpdate _ _ => exact .next (.ite h (.ite ((h.setGrvCh ..).grvSticky ..) (h.setGrvCh ..)))
  | loincCommit _ _ => exact .next (h.writeAccess (h.writeLoincH ..))
  | loincApply => exact h.exec_loincApply
  | regressionWindowEnd _ => exact .next (.ite (h.unitClose ..) h)
  | regressionRead _ _ => exact .next (h.readAccess (h.readUnit ..))
  | ecdsaVer _ _ _ => exact .next (h.bneCommand ..)
  | ed25519Ver _ _ _ => exact .next (h.bneCommand ..)
  | ptcheck _ _ _ => exact .next (h.bneCommand ..)
  | rsaPub _ _ _ => exact .next (h.bneCommand ..)
  | anchcmp _ _ _ => exact .next (h.bneCommand ..)
  | modmul _ _ _ => exact .next (h.bneCommand ..)
  | modexp _ _ _ => exact .next (h.bneCommand ..)
  | modinv _ _ _ => exact .next (h.bneCommand ..)
  | modred _ _ _ => exact .next (h.bneCommand ..)
  | ucheck _ _ _ => exact .next (h.bneCommand ..)
  | bneCommandStart => exact h.exec_bneCommandStart
  | bneValidationEnd => exact h.exec_bneValidationEnd
  | bneCommandDone _ _ => exact h.exec_bneCommandDone _ _
  | opmemWrite _ _ _ => exact .next (h.writeAccess (h.writeOpmem ..))
  | ucodeWrite _ _ _ _ => exact .next (h.writeAccess (h.writeUcode ..))
  | eventRaise => exact h.exec_eventRaise
  | eventRecordWrite => exact h.exec_eventRecordWrite
  | msixSend _ => exact .next (h.trySend ..)
  | holdoffEnd _ => exact .next (.ite (h.frame.trySend ..) h)
  | configAccess _ => exact h.exec_configAccess _
  | flr => exact .next (.ite (h.resetEndpointMarked ..) h)
  | pcieLinkDown => exact .next (.ite h.frame h)
  | perstAssert => exact h.exec_perstAssert
  | perstRelease => exact h.exec_perstRelease
  | bar2Access _ _ _ => exact h.exec_bar2Access _ _ _
  | prodWrite _ _ _ => exact .next (h.dmaAccess ..)
  | consWrite _ _ _ => exact .next (h.dmaAccess ..)
  | upFrameArrive => exact h.exec_upFrameArrive
  | upFrameWrite _ => exact h.exec_upFrameWrite _
  | descriptorFetch _ => exact .next (h.fetchDescriptors ..)
  | downCompletion _ => exact h.exec_downCompletion _
  | ringEnable _ _ _ => exact .next (h.dmaAccess ..)
  | ringDisable _ _ _ => exact .next (h.dmaAccess ..)
  | ringStopDone _ => exact .next (.ite (h.ringStopped ..) h)
  | chunkIssue => exact h.exec_chunkIssue
  | readCompletion _ _ _ => exact h.exec_readCompletion _ _ _
  | completionTimeout _ _ => exact h.exec_completionTimeout _ _
  | ringResume _ _ => exact .next (h.dmaAccess ..)
  | ringSkip _ _ => exact .next (h.dmaAccess ..)
  | windowWrite _ _ _ _ => exact .next (h.dmaAccess ..)
  | inputLoss _ => exact h.exec_inputLoss _
  | inputOk _ => exact h.exec_inputOk _
  | pllReady _ => exact .next (.ite (h.pllLock ..) h)
  | pllLoss _ => exact .next (.ite (h.pllFail ..) h)
  | clockSwitch _ _ => exact .next (h.writeAccess (h.writeClksel ..))
  | clockGate _ _ _ => exact .next (h.writeAccess (h.writePd ..))
  | gateClose _ _ => exact h.exec_gateClose _ _
  | clockUngate _ _ => exact .next (h.writeAccess (h.writePd ..))
  | pdEnable _ _ => exact .next (h.writeAccess (h.writePd ..))
  | pdDisable _ _ => exact .next (h.writeAccess (h.writePd ..))
  | pdForceDisable _ _ => exact .next (h.writeAccess (h.writePd ..))
  | pdHandshakeAnswer _ => exact .next (.ite h (.ite (h.refuseDown ..) (.ite h (.setPd (.ite h.yieldJob h) ..))))
  | pdDelayLimit _ => exact h.exec_pdDelayLimit _
  | pdOff _ => exact .next (.ite (h.turnOff ..) h)
  | pdSlotStart _ => exact .next (.ite (h.setStage ..) h)
  | pdResetRelease _ => exact h.exec_pdResetRelease _
  | pdReady _ _ => exact .next (.ite (h.turnOn ..) h)
  | pdReset _ _ => exact .next (h.writeAccess (h.writePd ..))
  | pdResetEnd _ _ => exact h.exec_pdResetEnd _ _
  | xqResync _ => exact h.exec_xqResync _
  | plevelTargetWrite _ _ => exact .next (h.writeAccess (h.writePlevel ..))
  | vsettleEnd _ => exact h.exec_vsettleEnd _
  | avsRetry _ => exact h.exec_avsRetry _
  | thermalCheck _ => exact h.exec_thermalCheck _
  | sensorPoll _ _ _ => exact h.exec_sensorPoll _ _ _
  | i2cTransfer _ _ _ => exact .next (h.writeAccess (h.writeXfer ..))
  | i2cDone _ _ => exact h.exec_i2cDone _ _
  | wakeAlarmWrite _ _ _ => exact .next (h.writeAccess (h.writeAlarm ..))
  | dormantEntry => exact h.exec_dormantEntry
  | wake _ => exact .next (.ite h (h.wakeUp ..))
  | supplyLoss => exact h.exec_supplyLoss
  | powerOnResetEnd => exact .next (.ite h.frame.leaveReset h)
  | resetNAssert => exact h.exec_resetNAssert
  | resetNRelease => exact .next (.ite h.frame.leaveReset h)
  | coldReset _ => exact .next (h.writeAccess (h.writeReset ..))
  | warmReset _ => exact .next (h.writeAccess (h.writeReset ..))
  | bootStart => exact h.exec_bootStart
  | romSelftestDone _ => exact .next (.ite h (.ite (h.setBootStage ..) ((h.setBootStage ..).setFld ..)))
  | firmwareVerified _ _ => exact h.exec_firmwareVerified _ _
  | configApply _ => exact .next (.ite h (.ite h.chooseConfig (.ite h.applyConfig h)))
  | bootDone => exact h.exec_bootDone
  | modeStart _ => exact .next (h.modeCommand ..)
  | modeStage _ => exact .next (h.modeCommand ..)
  | modeMeasure _ => exact .next (h.modeCommand ..)
  | modeSleep _ => exact .next (h.modeCommand ..)
  | modeSafe _ => exact .next (h.modeCommand ..)
  | modeRecover _ => exact .next (h.modeCommand ..)
  | modeLoadfw _ _ _ => exact .next (h.modeCommand ..)
  | flashRead _ _ => exact .next (h.writeAccess (h.writeFlash ..))
  | flashProgram _ _ => exact .next (h.writeAccess (h.writeFlash ..))
  | flashErase _ => exact .next (h.writeAccess (h.writeFlash ..))
  | flashDone => exact h.exec_flashDone
  | flashTimeout => exact h.exec_flashTimeout
  | ofuseProgram _ _ _ => exact .next (h.writeAccess (h.writeFuse ..))
  | scrubRead _ _ _ _ => exact h.exec_scrubRead _ _ _ _
  | selftestStart => exact h.exec_selftestStart
  | selftestDone _ _ _ _ => exact h.exec_selftestDone _ _ _ _
  | retireTileWrite _ _ _ => exact .next (h.writeAccess (h.writeRetireTile ..))
  | retireLaneWrite _ _ => exact .next (h.writeAccess (h.writeRetireLane ..))
  | wdgKick _ _ => exact .next (h.writeAccess (h.writeKick ..))
  | wdgExpire _ => exact h.exec_wdgExpire _
  | wdgAction _ => exact .next (.ite (h.wdgAct ..) h)
  | logInCommit _ _ => exact .next (h.writeAccess (h.writeLogIn ..))
  | logAccept => exact h.exec_logAccept
  | logClear _ => exact .next (h.writeAccess (h.writeLogCtrl ..))
  | logRead _ => exact .next (h.readAccess h.readLogData)
  | wearUpdate => exact h.exec_wearUpdate
  | pairEnableWrite _ _ => exact .next (h.writeAccess (.ite (h.writePairCtrl ..) h))
  | pairLinkUp => exact .next (.ite (h.setFlag ..) h)
  | heartbeatTx => exact .next (.ite (h.frame.pairQueue ..) h)
  | heartbeatInterval => exact h.exec_heartbeatInterval
  | heartbeatRx _ _ _ => exact h.exec_heartbeatRx _ _ _
  | formRx _ _ _ _ => exact h.exec_formRx _ _ _ _
  | formAckRx _ _ _ => exact h.exec_formAckRx _ _ _
  | yieldRx _ _ => exact .next (h.receivePair fun hu => .ite (hu.wr ..).takenOver hu)
  | timexRx _ _ _ _ _ => exact h.exec_timexRx _ _ _ _ _
  | mirrorRx _ _ _ _ _ => exact .next (h.receivePair fun hu => .ite (hu.putLine ..) hu)
  | fenceInAssert => exact h.exec_fenceInAssert
  | pairTakeover _ => exact h.exec_pairTakeover _
  | fenceSettleEnd => exact .next (.ite h.takenOver h)
  | pairForm _ => exact .next (h.writeAccess h.commandForm)
  | formResend => exact .next (.ite (h.pairQueue ..) h)
  | formTimeout => exact .next (.ite (h.formEnds.parError ..) h)
  | pairSwitchover _ => exact .next (h.writeAccess h.commandSwitchover)
  | yieldResend => exact .next (.ite h.sendYield h)
  | yieldTimeout => exact .next (.ite (h.frame.parError ..) h)
  | pairResync _ => exact .next (h.writeAccess h.commandResync)
  | resyncDone => exact h.exec_resyncDone
  | tclkEdge => exact .next h.tclkEdge
  | supplyInRange => exact .next (.ite (h.setFld ..) h)
  | pcieLinkUp => exact h.exec_pcieLinkUp
  | pairLinkDown => exact .next (.ite ((h.pairLinkLost.startTest ..).startTest ..) h)
  | pairAliveInEdge => exact .next (h.setFlag ..)
  | pairAliveSilence => exact h.exec_pairAliveSilence
  | fenceInDeassert => exact h.exec_fenceInDeassert
  | pairMessageSend => exact h.exec_pairMessageSend

/-- Settles O2: every operation that a command is made of keeps the queue. -/
theorem execLeavesTheQueue : Obligations.ExecLeavesTheQueue := by
  intro c s t hc
  exact (exec_keeps c s t hc).pending

/-- Settles O3: every operation that a command is made of keeps the memories canonical and the waiting entries few. -/
theorem everyStepKeepsTheInvariant : Obligations.EveryStepKeepsTheInvariant := by
  intro s t hs ht
  unfold step at ht
  split at ht
  · cases ht
    exact hs
  · exact (exec_keeps _ _ t ht).inv (hs.of_fields rfl rfl rfl rfl rfl rfl rfl rfl rfl rfl)

end Sys2Proof.Machine
end

section
/-!
No word fits two encodings: any two of them differ in a bit that both fix, in the values they allow IMM6, or in the class of
the executor (R98, R99).
-/
namespace Sys2Proof.Machine

/-- No word can fit both encodings on one class of executor. -/
def Enc.apart (e f : Enc) : Bool :=
  !(e.onTile && f.onTile || e.onCore && f.onCore) || e.mask &&& f.mask &&& (e.value ^^^ f.value) != 0 ||
    !e.imms.isEmpty && !f.imms.isEmpty && e.imms.all fun i => !f.imms.contains i

/-- A word of the encoding: its fixed bits, and the first IMM6 that it allows. -/
def Enc.sample (e : Enc) : Word := e.value ||| BitVec.ofNat 32 (e.imms.headD 0)

theorem masked_values_agree {w m n u v : Word} (hm : w &&& m = u) (hn : w &&& n = v) : m &&& n &&& (u ^^^ v) = 0 := by
  subst hm hn
  ext i hi
  simp
  grind

theorem Enc.fits_iff (e : Enc) (tile : Bool) (w : Word) :
    e.fits tile w = true ↔ (if tile then e.onTile else e.onCore) = true ∧ w &&& e.mask = e.value ∧
      (e.imms = [] ∨ fImm6 w ∈ e.imms) := by
  simp [Enc.fits, and_assoc]

theorem Enc.not_fits_of_apart {e f : Enc} (h : e.apart f = true) {tile : Bool} {w : Word} (he : e.fits tile w = true) :
    f.fits tile w = false := by
  by_contra hf
  obtain ⟨hce, hme, hie⟩ := (e.fits_iff tile w).mp he
  obtain ⟨hcf, hmf, hif⟩ := (f.fits_iff tile w).mp (by simpa using hf)
  have hagree := masked_values_agree hme hmf
  simp only [Enc.apart, Bool.or_eq_true, Bool.and_eq_true, bne_iff_ne, List.all_eq_true, Bool.not_eq_true',
    List.isEmpty_eq_false_iff] at h
  obtain (hclass | hbits) | ⟨⟨hne, hnf⟩, hall⟩ := h
  · cases tile <;> simp_all
  · exact hbits hagree
  · have := hall _ (hie.resolve_left hne)
    simp_all

theorem encodings_apart : encodings.Pairwise fun e f => e.apart f = true := by decide

theorem encodings_sample : ∀ e ∈ encodings, e.fits true e.sample = true ∨ e.fits false e.sample = true := by decide

theorem filter_length_le_one {α : Type} {l : List α} {p : α → Bool} (h : l.Pairwise fun a b => p a = true → p b = false) :
    (l.filter p).length ≤ 1 := by
  have hp : (l.filter p).Pairwise fun _ _ => False := by
    rw [List.pairwise_filter]
    exact h.imp fun hab ha hb => by simp [hab ha] at hb
  match l.filter p, hp with
  | [], _ => simp
  | [_], _ => simp
  | a :: b :: l, hp => exact absurd ((List.pairwise_cons.mp hp).1 b (by simp)) id

/-- Settles O33: the encodings are apart in pairs, and each fits its sample. -/
theorem noWordHasTwoMeanings : Obligations.NoWordHasTwoMeanings := by
  refine ⟨fun tile w => filter_length_le_one (encodings_apart.imp fun h he => Enc.not_fits_of_apart h he), fun e he => ?_⟩
  obtain h | h := encodings_sample e he
  · exact ⟨true, _, h⟩
  · exact ⟨false, _, h⟩

/-- Settles O34: the words are written out, and their fields compared with the encodings. -/
theorem encodingsOfTheSpec : Obligations.EncodingsOfTheSpec := by
  unfold Obligations.EncodingsOfTheSpec
  decide +kernel

end Sys2Proof.Machine
end

section
/-!
Writes by the access codes alone: the bits that a register's row marks RW take the written value, those that it marks neither
RW, W1C nor W1S keep theirs.
-/
namespace Sys2Proof.Machine

/-- The row of the register marks the bit RW, and neither W1C nor W1S. -/
def rwBit (o i : Nat) : Bool :=
  match regRow o with
  | some (r, _, _) => r.rw.getLsbD i && !r.w1c.getLsbD i && !r.w1s.getLsbD i
  | none => false

/-- A write by the access codes leaves the bit as it is. -/
def roBit (o i : Nat) : Bool :=
  match regRow o with
  | some (r, _, _) => !r.rw.getLsbD i && !r.w1c.getLsbD i && !r.w1s.getLsbD i
  | none => true

theorem State.flag_plainWrite {o i : Nat} (h : rwBit o i = true) (s : State) (v : Word) :
    (s.plainWrite o v).flag o i = bitAt v i := by
  unfold rwBit at h
  split at h
  · next r _ _ hr =>
    simp only [Bool.and_eq_true, Bool.not_eq_true'] at h
    obtain ⟨⟨hrw, hw1c⟩, hw1s⟩ := h
    rw [State.plainWrite_of_row hr, State.flag, State.rd_wr_same]
    have h32 : i < 32 := BitVec.lt_of_getLsbD hrw
    simp only [bitAt, writtenValue, BitVec.getLsbD_or, BitVec.getLsbD_and, BitVec.getLsbD_not, hrw, hw1c, hw1s, h32]
    simp
  · cases h

theorem State.fld_plainWrite {o lo n : Nat} (h : (List.range n).all (fun i => rwBit o (lo + i)) = true) (s : State) (v : Word) :
    (s.plainWrite o v).fld o lo n = bitsAt v lo n := by
  apply Nat.eq_of_testBit_eq
  intro i
  rw [State.fld, bitsAt_testBit, bitsAt_testBit]
  by_cases hi : i < n
  · have hbit := s.flag_plainWrite (List.all_eq_true.mp h i (List.mem_range.mpr hi)) v
    simp only [State.flag, bitAt] at hbit
    rw [hbit]
  · simp [hi]

theorem State.flag_plainWrite_of_ro {o i : Nat} (h : roBit o i = true) (s : State) (v : Word) :
    (s.plainWrite o v).flag o i = s.flag o i := by
  unfold roBit at h
  split at h
  · next r _ _ hr =>
    simp only [Bool.and_eq_true, Bool.not_eq_true'] at h
    obtain ⟨⟨hrw, hw1c⟩, hw1s⟩ := h
    rw [State.plainWrite_of_row hr, State.flag, State.rd_wr_same]
    by_cases hi : i < 32
    · simp only [State.flag, bitAt, writtenValue, BitVec.getLsbD_or, BitVec.getLsbD_and, BitVec.getLsbD_not, hrw, hw1c,
        hw1s, hi]
      simp
    · simp [State.flag, bitAt, BitVec.getLsbD_of_ge _ _ (Nat.le_of_not_lt hi)]
  · next hr => rw [State.plainWrite, hr]

/-- A write by the access codes touches the registers alone. -/
theorem State.plainWrite_frame (s : State) (o : Nat) (v : Word) :
    s.plainWrite o v = { s with regs := (s.plainWrite o v).regs } := by
  unfold State.plainWrite
  split <;> rfl

end Sys2Proof.Machine
end

section
/-!
The front command, the state after reset, and the owner of INCR.
-/
namespace Sys2Proof.Machine

/-- Settles O1: step takes the front of the queue by its definition. -/
theorem frontCommandRuns : Obligations.FrontCommandRuns := fun _ _ _ => rfl

/-- Settles O4: every map of the reset state is empty. -/
theorem resetMeetsTheInvariant : Obligations.ResetMeetsTheInvariant := by
  constructor
  all_goals decide

/-- Settles O5: each value is read off the reset state. -/
theorem resetValues : Obligations.ResetValues := by
  unfold Obligations.ResetValues
  refine ⟨by decide, by decide, rfl, by decide, by decide, rfl, rfl, rfl, by decide, fun p c => ⟨rfl, rfl⟩, rfl, rfl, rfl⟩

theorem exec_incrOwnerWrite_of_opens {s : State} {ag : Agent} (h : s.opens ag Reg.CAL_CTRL = true) (v : Word) :
    exec (.incrOwnerWrite ag v) s = .next (s.writeCalCtrl v) := by
  change execIncrOwnerWrite ag v s = _
  rw [execIncrOwnerWrite, State.writeAccess_opens _ _ _ _ _ h]

/-- Settles O11: the write is plain where the bit is 0 or the mode allows it, and the owner's error otherwise. -/
theorem incrementOwnerWrites : Obligations.IncrementOwnerWrites := by
  refine ⟨fun s ag v ho hm => ?_, fun s ag v ho hv hc h1 h2 h3 => ?_⟩
  · have hgo : s.writeCalCtrl v = s.plainWrite Reg.CAL_CTRL v := by
      rw [State.writeCalCtrl, if_neg fun h => h.2 (hm h.1)]
    refine ⟨_, by rw [exec_incrOwnerWrite_of_opens ho, hgo], ?_, ?_, s.plainWrite_frame _ _⟩
    · exact s.flag_plainWrite (by decide +kernel) v
    · exact s.keepsRegs_plainWrite _ _
  · rw [exec_incrOwnerWrite_of_opens ho, State.writeCalCtrl, if_pos ⟨hv, by simp [h1, h2, h3]⟩,
      State.calError_of_clear hc]

end Sys2Proof.Machine
end

section
/-!
Registers after a change. Every reading of a register comes down to its word in the register map, and every operation on
registers to words put into the map; a state that differs elsewhere has the same map.
-/
namespace Sys2Proof.Machine

/-! What the operations put into the map. -/

@[simp] theorem State.regs_wr (s : State) (o : Nat) (v : Word) : (s.wr o v).regs = sparseSet regDefault s.regs o v := rfl

@[simp] theorem State.regs_setFld (s : State) (o lo n v : Nat) :
    (s.setFld o lo n v).regs = sparseSet regDefault s.regs o (putBits (sparseGet regDefault s.regs o) lo n v) := rfl

@[simp] theorem State.regs_setFlag (s : State) (o i : Nat) (b : Bool) :
    (s.setFlag o i b).regs = sparseSet regDefault s.regs o (putBit (sparseGet regDefault s.regs o) i b) := rfl

@[simp] theorem State.regs_bump (s : State) (o lo n k : Nat) :
    (s.bump o lo n k).regs = sparseSet regDefault s.regs o (putBits (sparseGet regDefault s.regs o) lo n
      (satAdd (2 ^ n - 1) (bitsAt (sparseGet regDefault s.regs o) lo n) k)) := rfl

@[simp] theorem State.regs_advance (s : State) (o lo n k : Nat) :
    (s.advance o lo n k).regs = sparseSet regDefault s.regs o (putBits (sparseGet regDefault s.regs o) lo n
      ((bitsAt (sparseGet regDefault s.regs o) lo n + k) % 2 ^ n)) := rfl

@[simp] theorem sparseGet_sparseSet_regs (m : List (Nat × Word)) (k j : Nat) (v : Word) :
    sparseGet regDefault (sparseSet regDefault m k v) j = if j = k then v else sparseGet regDefault m j :=
  sparseGet_set ..

/-- A field whose bits are all clear. -/
theorem bitsAt_eq_zero {w : Word} {lo n : Nat} (h : ∀ i < n, w.getLsbD (lo + i) = false) : bitsAt w lo n = 0 := by
  apply Nat.eq_of_testBit_eq
  intro i
  rw [bitsAt_testBit, Nat.zero_testBit]
  by_cases hi : i < n
  · simp [h i hi]
  · simp [hi]

/-- A field of bits that a mask clears. -/
theorem bitsAt_and_not {m : Word} {lo n : Nat} (h : ∀ i < n, m.getLsbD (lo + i) = true) (w : Word) :
    bitsAt (w &&& ~~~ m) lo n = 0 :=
  bitsAt_eq_zero fun i hi => by rw [BitVec.getLsbD_and, BitVec.getLsbD_not, h i hi]; simp

namespace State.keepsRegs

variable {s t u : State} {l : List Nat} {o lo n k i : Nat} {b : Bool} {v : Word}

theorem refl : s.keepsRegs s l := fun _ _ => rfl

theorem trans (h : s.keepsRegs t l) (h' : t.keepsRegs u l) : s.keepsRegs u l := fun o ho => (h' o ho).trans (h o ho)

theorem mono {l' : List Nat} (h : s.keepsRegs t l) (hl : l ⊆ l') : s.keepsRegs t l' := fun o ho => h o fun hm => ho (hl hm)

/-- A state with the same register map. -/
theorem of_regs (h : s.keepsRegs t l) (e : u.regs = t.regs := by rfl) : s.keepsRegs u l :=
  fun o ho => (State.rd_of_regs t u e o).trans (h o ho)

theorem wr (h : s.keepsRegs t l) (ho : o ∈ l := by decide) : s.keepsRegs (t.wr o v) l :=
  fun j hj => (t.rd_wr_ne o j v (ne_of_mem_of_not_mem ho hj).symm).trans (h j hj)

theorem setFld {v : Nat} (h : s.keepsRegs t l) (ho : o ∈ l := by decide) : s.keepsRegs (t.setFld o lo n v) l :=
  h.wr ho

theorem setFlag (h : s.keepsRegs t l) (ho : o ∈ l := by decide) :
    s.keepsRegs (t.setFlag o i b) l := h.wr ho

theorem bump (h : s.keepsRegs t l) (ho : o ∈ l := by decide) : s.keepsRegs (t.bump o lo n k) l :=
  h.wr ho

theorem advance (h : s.keepsRegs t l) (ho : o ∈ l := by decide) :
    s.keepsRegs (t.advance o lo n k) l := h.wr ho

theorem plainWrite (h : s.keepsRegs t l) (ho : o ∈ l := by decide) : s.keepsRegs (t.plainWrite o v) l :=
  h.trans ((t.keepsRegs_plainWrite o v).mono (by simpa using ho))

theorem raise {a b : Word} (h : s.keepsRegs t l) : s.keepsRegs (t.raise k a b) l := h

theorem error (h : s.keepsRegs t l) (ho : o ∈ l := by decide) : s.keepsRegs (t.error o i k) l := by
  unfold State.error
  split
  · exact h
  · exact (h.setFlag ho).raise

theorem ite {c : Prop} [Decidable c] (ht : s.keepsRegs t l) (hu : s.keepsRegs u l) :
    s.keepsRegs (if c then t else u) l := by
  split
  · exact ht
  · exact hu

theorem sticky {en src : Nat} {w x : Word} (h : s.keepsRegs t l) (ho : o ∈ l := by decide) :
    s.keepsRegs (t.sticky o en i src w x) l := by
  unfold State.sticky
  split
  · exact h
  · dsimp only
    split
    · exact (h.setFlag ho).raise
    · exact h.setFlag ho

theorem foldl {α : Type} {f : State → α → State} {as : List α} (h : s.keepsRegs t l)
    (hf : ∀ a ∈ as, ∀ v, s.keepsRegs v l → s.keepsRegs (f v a) l) : s.keepsRegs (as.foldl f t) l :=
  List.foldlRecOn as f h fun v hv a ha => hf a ha v hv

end State.keepsRegs

/-! ### States that differ in their registers and raises alone -/

/-- The two states differ in their registers and raises alone. -/
def State.SameButRaises (s t : State) : Prop := t = { s with regs := t.regs, raised := t.raised }

namespace State.SameButRaises

variable {s t u : State} {o lo n k i v en src : Nat} {b : Bool} {w x : Word}

theorem refl : s.SameButRaises s := rfl

theorem trans (h : s.SameButRaises t) (h' : t.SameButRaises u) : s.SameButRaises u := by
  unfold State.SameButRaises at *
  rw [h', h]

theorem of_regs {m : List (Nat × Word)} (h : s.SameButRaises t) : s.SameButRaises { t with regs := m } := by
  unfold State.SameButRaises at *
  rw [h]

theorem wr (h : s.SameButRaises t) : s.SameButRaises (t.wr o w) := h.of_regs

theorem setFld (h : s.SameButRaises t) : s.SameButRaises (t.setFld o lo n v) := h.wr

theorem setFlag (h : s.SameButRaises t) : s.SameButRaises (t.setFlag o i b) := h.wr

theorem bump (h : s.SameButRaises t) : s.SameButRaises (t.bump o lo n k) := h.wr

theorem advance (h : s.SameButRaises t) : s.SameButRaises (t.advance o lo n k) := h.wr

theorem plainWrite (h : s.SameButRaises t) : s.SameButRaises (t.plainWrite o w) := by
  rw [t.plainWrite_frame]
  exact h.of_regs

theorem raise (h : s.SameButRaises t) : s.SameButRaises (t.raise k w x) := by
  unfold State.SameButRaises at *
  unfold State.raise
  rw [h]

theorem ite {c : Prop} [Decidable c] (ht : s.SameButRaises t) (hu : s.SameButRaises u) :
    s.SameButRaises (if c then t else u) := by
  split
  · exact ht
  · exact hu

theorem error (h : s.SameButRaises t) : s.SameButRaises (t.error o i k) := .ite h h.setFlag.raise

theorem sticky (h : s.SameButRaises t) : s.SameButRaises (t.sticky o en i src w x) :=
  .ite h (.ite h.setFlag.raise h.setFlag)

theorem foldl {α : Type} {f : State → α → State} (h : s.SameButRaises t)
    (hf : ∀ {v}, s.SameButRaises v → ∀ a, s.SameButRaises (f v a)) (l : List α) : s.SameButRaises (l.foldl f t) :=
  List.foldlRecOn l f h fun _ hv a _ => hf hv a

end State.SameButRaises

end Sys2Proof.Machine
end

section
/-!
PTM dialogues (R51 to R53).
-/
namespace Sys2Proof.Machine

theorem State.ptmStart_of_enabled {s : State} (h : s.pcie.ptmEnable = true) (phase : Nat) :
    s.ptmStart phase = { (s.setFlag Reg.CAL_PTM_STATUS 16 false).setFlag Reg.CAL_PTM_STATUS 17 true with
      cal := { s.cal with ptmT1 := some (s.stamp replicaPtm phase) } } := by
  rw [State.ptmStart, if_neg (by simp [h]), State.notePtm, h]
  rfl

theorem State.ptmStart_of_disabled {s : State} (h : s.pcie.ptmEnable = false) (phase : Nat) :
    s.ptmStart phase = s.setFlag Reg.CAL_PTM_STATUS 16 true := by
  rw [State.ptmStart, if_pos h, State.notePtm, h]
  rfl

theorem State.ptmDue_of_idle {s : State} (h : s.cal.ptmT1 = none) (phase : Nat) : s.ptmDue phase = s.ptmStart phase := by
  rw [State.ptmDue, if_pos h]

theorem exec_ptmPeriod_of_due {s : State} (hen : s.flag Reg.CAL_PTM_CTRL 0 = true) (h : s.cal.ptmT1 = none) (phase : Nat) :
    exec (.ptmPeriod phase) s = .next (s.ptmStart phase) := by
  change execPtmPeriod phase s = _
  rw [execPtmPeriod, if_pos hen, s.ptmDue_of_idle h]

/-- With no dialogue owed, the end of a dialogue frees it. -/
theorem State.ptmEnd_of_idle {s : State} (h : s.cal.ptmOwed = 0) (phase : Nat) :
    s.ptmEnd phase = { s.setFlag Reg.CAL_PTM_STATUS 17 false with cal := { s.cal with ptmT1 := none } } := by
  rw [State.ptmEnd, if_pos h]
  rfl


theorem State.ptmRecord_of_delay {s : State} {t1 t4 : CT96} {turn : Nat} (h0 : 0 ≤ ptmDelayOf t1 t4 turn)
    (h1 : ptmDelayOf t1 t4 turn ≤ 10000 * 2 ^ 16) (t2 : Nat) :
    s.ptmRecord t1 t4 t2 turn =
      (((State.advance { s with cal := { s.cal with
        ptmDev := ct96OfFrac (ct96ToFrac t1 + (ptmDelayOf t1 t4 turn).toNat), ptmHost := BitVec.ofNat 64 t2,
        ptmDelay := BitVec.ofNat 32 (ptmDelayOf t1 t4 turn).toNat } } Reg.CAL_PTM_STATUS 0 8).setFlag
        Reg.CAL_PTM_STATUS 18 true).raise 5) := by
  rw [State.ptmRecord, if_neg (not_or.mpr ⟨not_lt.mpr h0, not_lt.mpr h1⟩)]

/-- A recorded dialogue: the record, its count and its marks. -/
def State.ptmRecorded (s : State) (c : CalState) : State :=
  { (((s.advance Reg.CAL_PTM_STATUS 0 8).setFlag Reg.CAL_PTM_STATUS 18 true).raise 5).setFlag Reg.CAL_PTM_STATUS 17 false with
    cal := c }

theorem State.seq_ptmRecorded (s : State) (c : CalState) :
    (s.ptmRecorded c).fld Reg.CAL_PTM_STATUS 0 8 = (s.fld Reg.CAL_PTM_STATUS 0 8 + 1) % 256 := by
  simp (disch := decide) [State.ptmRecorded, State.fld, State.rd, bitsAt_putBits, bitsAt_putBit_other]

theorem State.valid_ptmRecorded (s : State) (c : CalState) : (s.ptmRecorded c).flag Reg.CAL_PTM_STATUS 18 = true := by
  simp (disch := decide) [State.ptmRecorded, State.flag, State.rd, bitAt_putBit, bitAt_putBit_other]

theorem State.busy_ptmRecorded (s : State) (c : CalState) : (s.ptmRecorded c).flag Reg.CAL_PTM_STATUS 17 = false := by
  simp (disch := decide) [State.ptmRecorded, State.flag, State.rd, bitAt_putBit]

theorem State.keepsRegs_ptmRecorded (s : State) (c : CalState) : s.keepsRegs (s.ptmRecorded c) [Reg.CAL_PTM_STATUS] := by
  intro o ho
  simp only [List.mem_singleton] at ho
  simp [State.ptmRecorded, State.rd, ho]

theorem exec_ptmResponse_of_delay {s : State} {t1 a b : CT96} {phase turn : Nat} {earlier : Bool}
    (h1 : s.cal.ptmT1 = some t1) (howed : s.cal.ptmOwed = 0)
    (hab : (if earlier then s.cal.ptmBefore else some (t1, s.stamp replicaPtm phase)) = some (a, b))
    (h0 : 0 ≤ ptmDelayOf a b turn) (hmax : ptmDelayOf a b turn ≤ 10000 * 2 ^ 16) (t2 : Nat) :
    exec (.ptmResponse phase t2 turn earlier) s = .next (s.ptmRecorded
      { s.cal with
        ptmDev := ct96OfFrac (ct96ToFrac a + (ptmDelayOf a b turn).toNat), ptmHost := BitVec.ofNat 64 t2,
        ptmDelay := BitVec.ofNat 32 (ptmDelayOf a b turn).toNat, ptmBefore := some (t1, s.stamp replicaPtm phase),
        ptmT1 := none }) := by
  change execPtmResponse phase t2 turn earlier s = _
  simp only [execPtmResponse, h1, hab]
  rw [State.ptmRecord_of_delay h0 hmax, State.ptmEnd_of_idle (by exact howed)]
  rfl

theorem exec_ptmTimeout_of_dialogue {s : State} {t1 : CT96} (h1 : s.cal.ptmT1 = some t1) (howed : s.cal.ptmOwed = 0)
    (phase : Nat) :
    exec (.ptmTimeout phase) s =
      .next { ((s.bump Reg.CAL_PTM_STATUS 8 8).raise 6).setFlag Reg.CAL_PTM_STATUS 17 false with
        cal := { s.cal with ptmT1 := none } } := by
  change execPtmTimeout phase s = _
  simp only [execPtmTimeout, h1]
  rw [State.ptmEnd_of_idle (by exact howed)]
  rfl

/-- A delay that R53 does not take fails as a timeout does. -/
theorem exec_ptmResponse_of_fault {s : State} {t1 : CT96} {phase turn : Nat} (h1 : s.cal.ptmT1 = some t1)
    (h : ptmDelayOf t1 (s.stamp replicaPtm phase) turn < 0 ∨ 10000 * 2 ^ 16 < ptmDelayOf t1 (s.stamp replicaPtm phase) turn)
    (t2 : Nat) :
    exec (.ptmResponse phase t2 turn false) s =
      exec (.ptmTimeout phase) { s with cal := { s.cal with ptmBefore := some (t1, s.stamp replicaPtm phase) } } := by
  change execPtmResponse phase t2 turn false s = execPtmTimeout phase _
  simp only [execPtmResponse, execPtmTimeout, h1]
  rw [if_neg Bool.false_ne_true]
  dsimp only
  rw [State.ptmRecord, if_pos h]

/-- The state in which a ONESHOT has started a dialogue at t1. -/
def State.startedOnce (s : State) (v : Word) (t1 : CT96) : State :=
  { ((s.plainWrite Reg.CAL_PTM_CTRL v).setFlag Reg.CAL_PTM_STATUS 16 false).setFlag Reg.CAL_PTM_STATUS 17 true with
    cal := { s.cal with ptmT1 := some t1 } }

theorem exec_ptmOneshot_of_opens {s : State} {ag : Agent} {v : Word} (ho : s.opens ag Reg.CAL_PTM_CTRL = true)
    (hone : bitAt v 1 = true) (h1 : 1 ≤ bitsAt v 16 10) (h2 : bitsAt v 16 10 ≤ 1000) (hidle : s.cal.ptmT1 = none)
    (hptm : s.pcie.ptmEnable = true) (phase : Nat) :
    exec (.ptmOneshot ag v phase) s = .next (s.startedOnce v (s.stamp replicaPtm phase)) := by
  have hframe := s.plainWrite_frame Reg.CAL_PTM_CTRL v
  have hcal : (s.plainWrite Reg.CAL_PTM_CTRL v).cal = s.cal := by rw [hframe]
  change execPtmOneshot ag v phase s = _
  rw [execPtmOneshot, State.writeAccess_opens _ _ _ _ _ ho, if_pos hone, State.writePtmCtrl, if_neg (by omega)]
  dsimp only
  rw [if_pos hone, State.ptmDue_of_idle (hcal ▸ hidle), State.ptmStart_of_enabled (by rw [hframe]; exact hptm), hcal,
    State.startedOnce, State.stamp, State.stamp, State.replica, State.replica, hcal]

theorem State.rd_startedOnce (s : State) (v : Word) (t1 : CT96) {o : Nat} (h : o ≠ Reg.CAL_PTM_STATUS) :
    (s.startedOnce v t1).rd o = (s.plainWrite Reg.CAL_PTM_CTRL v).rd o := by
  simp [State.startedOnce, State.rd, h]

theorem State.fld_startedOnce (s : State) (v : Word) (t1 : CT96) :
    (s.startedOnce v t1).fld Reg.CAL_PTM_CTRL 16 10 = bitsAt v 16 10 := by
  rw [State.fld, s.rd_startedOnce v t1 (by decide)]
  exact s.fld_plainWrite (by decide +kernel) v

theorem State.flag_startedOnce (s : State) (v : Word) (t1 : CT96) :
    (s.startedOnce v t1).flag Reg.CAL_PTM_CTRL 0 = bitAt v 0 := by
  rw [State.flag, s.rd_startedOnce v t1 (by decide)]
  exact s.flag_plainWrite (by decide +kernel) v

theorem State.keepsRegs_startedOnce (s : State) (v : Word) (t1 : CT96) :
    s.keepsRegs (s.startedOnce v t1) [Reg.CAL_PTM_CTRL, Reg.CAL_PTM_STATUS] := by
  intro o ho
  obtain ⟨hctrl, hstatus⟩ := not_or.mp (mt List.mem_pair.mpr ho)
  rw [s.rd_startedOnce v t1 hstatus]
  exact s.keepsRegs_plainWrite _ _ o (by simpa using hctrl)

/-- The state with the last record latched into its registers. -/
def State.ptmLatched (s : State) : State :=
  (((s.wr96 (Reg.CAL_PTM_DEV_W 0) s.cal.ptmDev).wr Reg.CAL_PTM_HOST_L (lo32 s.cal.ptmHost)).wr Reg.CAL_PTM_HOST_H
    (hi32 s.cal.ptmHost)).wr Reg.CAL_PTM_DELAY s.cal.ptmDelay

theorem State.rd_ptmLatched_status (s : State) : s.ptmLatched.rd Reg.CAL_PTM_STATUS = s.rd Reg.CAL_PTM_STATUS := by
  simp +decide [State.ptmLatched, State.wr96, State.rd]

/-- The row of CAL_PTM_STATUS: FAILCNT is cleared as it is read. -/
theorem regRow_ptmStatus :
    regRow Reg.CAL_PTM_STATUS = some (⟨0x200064, 0x4, 1, 0x4, 1, 0x0, 0x0, 0x0, 0xFF00, .const 0x0, PD_AON⟩, 0, 0) := by
  decide +kernel

theorem State.rd96_ptmLatched (s : State) : s.ptmLatched.rd96 (Reg.CAL_PTM_DEV_W 0) = s.cal.ptmDev := by
  refine Eq.trans ?_ (s.rd96_wr96 (Reg.CAL_PTM_DEV_W 0) s.cal.ptmDev)
  simp +decide [State.ptmLatched, State.rd96, State.rd]

theorem State.host_ptmLatched (s : State) : s.ptmLatched.rd Reg.CAL_PTM_HOST_L = lo32 s.cal.ptmHost ∧
    s.ptmLatched.rd Reg.CAL_PTM_HOST_H = hi32 s.cal.ptmHost ∧ s.ptmLatched.rd Reg.CAL_PTM_DELAY = s.cal.ptmDelay := by
  simp +decide [State.ptmLatched, State.rd]

theorem exec_ptmStatusRead_of_opens {s : State} {ag : Agent} (h : s.opens ag Reg.CAL_PTM_STATUS = true) :
    exec (.ptmStatusRead ag) s = .next ((s.ptmLatched.wr Reg.CAL_PTM_STATUS
      (s.rd Reg.CAL_PTM_STATUS &&& ~~~ 0xFF00)).complete (.data (s.rd Reg.CAL_PTM_STATUS))) := by
  change execPtmStatusRead ag s = _
  rw [execPtmStatusRead, State.readAccess_opens _ _ _ _ h, State.readPtmStatus, ← State.ptmLatched, State.plainRead,
    regRow_ptmStatus]
  simp only [State.rd_ptmLatched_status]
  rfl

/-- Settles O14: with no dialogue owed, each outcome of a dialogue is the one of R52 or R53, and a status read latches the
record. -/
theorem ptmDialogues : Obligations.PtmDialogues := by
  refine ⟨fun s phase hen hidle hptm => ?_, fun s phase hen hidle hptm => ?_,
    fun s ag v phase ho hone hmin hmax hidle hptm => ?_, fun s phase t2 turn t1 h1 howed h0 hmax => ?_,
    fun s phase t2 turn t1 h1 howed h => exec_ptmResponse_of_fault h1 h t2,
    fun s phase t2 turn t1 a b h1 howed hab h0 hmax => ?_,
    fun s phase t1 h1 howed => exec_ptmTimeout_of_dialogue h1 howed phase, fun s ag ho => ?_⟩
  · rw [exec_ptmPeriod_of_due hen hidle, State.ptmStart_of_enabled hptm]
  · rw [exec_ptmPeriod_of_due hen hidle, State.ptmStart_of_disabled hptm]
  · exact ⟨_, exec_ptmOneshot_of_opens ho hone hmin hmax hidle hptm phase, rfl, s.fld_startedOnce _ _,
      s.flag_startedOnce _ _, s.keepsRegs_startedOnce _ _, rfl⟩
  · exact ⟨_, exec_ptmResponse_of_delay h1 howed rfl h0 hmax t2, rfl, rfl, rfl, s.seq_ptmRecorded _, s.valid_ptmRecorded _,
      s.busy_ptmRecorded _, rfl, s.keepsRegs_ptmRecorded _, rfl⟩
  · exact ⟨_, exec_ptmResponse_of_delay (earlier := true) h1 howed hab h0 hmax t2, rfl, rfl, rfl, rfl⟩
  · refine ⟨_, exec_ptmStatusRead_of_opens ho, rfl, ?_, ?_, ?_, ?_, ?_, rfl⟩
    · simpa +decide [State.rd96, State.rd] using s.rd96_ptmLatched
    · simpa +decide [State.rd] using s.host_ptmLatched.1
    · simpa +decide [State.rd] using s.host_ptmLatched.2.1
    · simpa +decide [State.rd] using s.host_ptmLatched.2.2
    · rw [State.fld, State.rd_complete, State.rd_wr_same]
      exact bitsAt_and_not (by decide) _

end Sys2Proof.Machine
end

section
/-!
An edge of TCLK (R38, R39).
-/
namespace Sys2Proof.Machine

/-- The nanoseconds of a time that has been brought into CT96 are below a second. -/
theorem ct96Ns_ct96OfFrac (q : Nat) : ct96Ns (ct96OfFrac q) < 10 ^ 9 := by
  rw [ct96Ns, ct96OfFrac, BitVec.toNat_ofNat]
  omega

theorem State.ct96Ns_now (s : State) : ct96Ns s.now < 10 ^ 9 := ct96Ns_ct96OfFrac _

theorem State.tclkEdge_of_free {s : State} (h1 : s.incrDue = false) (h2 : s.stepDue = false) (h3 : s.utcDue = false)
    (h4 : s.loDue = false) :
    s.tclkEdge = { s with
      cal := s.cal.edge s.running s.incrUnits s.dither
      grv := s.grv.edge (s.running && s.pdUp PD_TDC) s.loUnits s.loDither } := by
  rw [State.tclkEdge, h1, h2, h3, h4]
  rfl

theorem CalState.count_edge (c : CalState) {running : Bool} (incr dither : Nat) (h : c.absEdge = false) :
    (c.edge running incr dither).count =
      if running then (c.count + incr + (if 2 ^ 16 ≤ c.acc + dither then 1 else 0)) % countMod else c.count := by
  cases running
  · rfl
  · simp [CalState.edge, edgeCount, edgeUnits, h, Nat.add_assoc]

theorem CalState.acc_edge (c : CalState) (running : Bool) (incr dither : Nat) :
    (c.edge running incr dither).acc = if running then (c.acc + dither) % 2 ^ 16 else c.acc := by
  cases running <;> rfl

/-- Settles O8: with nothing due, an edge is the edge of Caldera's and Graver's counts. -/
theorem clockEdgeAdvancesTheCount : Obligations.ClockEdgeAdvancesTheCount := by
  intro s h1 h2 h3 h4 habs
  refine ⟨_, congrArg Host.Outcome.next (State.tclkEdge_of_free h1 h2 h3 h4), fun hrun => ⟨?_, ?_⟩, fun hrun => ⟨?_, ?_⟩,
    State.ct96Ns_now _, rfl⟩
  · exact (s.cal.count_edge _ _ habs).trans (if_pos hrun)
  · exact (s.cal.acc_edge _ _ _).trans (if_pos hrun)
  · exact (s.cal.count_edge _ _ habs).trans (if_neg (by simp [State.running, hrun]))
  · exact (s.cal.acc_edge _ _ _).trans (if_neg (by simp [State.running, hrun]))

end Sys2Proof.Machine
end

section
/-!
Commits of UTC and the events that follow device time (R57 to R62).
-/
namespace Sys2Proof.Machine

theorem exec_utcCommit_of_opens {s : State} {ag : Agent} {v : Word} (ho : s.opens ag Reg.CAL_UTC_CMD = true)
    (hv : bitAt v 0 = true) : exec (.utcCommit ag v) s = .next (s.commitUtc (bitAt v 1)) := by
  change execUtcCommit ag v s = _
  rw [execUtcCommit, State.writeAccess_opens _ _ _ _ _ ho, if_pos hv]

theorem exec_utcApply_of_due {s : State} {p : PendUtc} (hp : s.cal.pendUtc = some p) (he : p.edges = 0)
    (hincr : s.incrDue = false) (hstep : s.stepDue = false) : exec .utcApply s = .next (s.applyUtc p) := by
  change execUtcApply s = _
  simp only [execUtcApply, hp, he, hincr, hstep, and_self, if_true]

/-- The state with a commit's table in effect, before its status fields are brought up to date. -/
def State.utcTaken (s : State) (u : Utc) : State :=
  State.advance { s.setFlag Reg.CAL_UTC_STATUS 20 false with cal := { s.cal with pendUtc := none, utc := u } }
    Reg.CAL_UTC_STATUS 24 8

theorem State.applyUtc_of_taken {s : State} {p : PendUtc} (hok : p.utc.tableOk = true)
    (hj : p.force = true ∨ utcJumps s.cal.utc p.utc (ct96OfCount s.nextCount) = false) :
    s.applyUtc p = (s.utcTaken p.utc).refreshUtc.raise 7 := by
  rw [State.applyUtc, if_neg (by simp [hok]), if_neg]
  · rfl
  · rintro ⟨hforce, hjump⟩
    obtain h | h := hj
    · simp [h] at hforce
    · simp [h] at hjump

theorem State.applyUtc_of_badTable {s : State} {p : PendUtc} (hc : p.config = false) (hok : p.utc.tableOk = false) :
    s.applyUtc p = State.error { s.setFlag Reg.CAL_UTC_STATUS 20 false with
      cal := { s.cal with pendUtc := none } } Reg.CAL_ERR 6 13 := by
  rw [State.applyUtc, if_pos hok, hc]
  rfl

theorem State.applyUtc_of_jump {s : State} {p : PendUtc} (hc : p.config = false) (hok : p.utc.tableOk = true)
    (hf : p.force = false) (hj : utcJumps s.cal.utc p.utc (ct96OfCount s.nextCount) = true) :
    s.applyUtc p = State.error { s.setFlag Reg.CAL_UTC_STATUS 20 false with
      cal := { s.cal with pendUtc := none } } Reg.CAL_ERR 7 13 := by
  rw [State.applyUtc, if_neg (by simp [hok]), if_pos ⟨hf, hj⟩, hc]
  rfl

theorem State.keepsRegs_refreshUtc (s : State) : s.keepsRegs s.refreshUtc [Reg.CAL_UTC_STATUS] :=
  State.keepsRegs.refl.setFld.setFld.setFlag.setFlag

theorem State.version_refreshUtc (s : State) : s.refreshUtc.fld Reg.CAL_UTC_STATUS 24 8 = s.fld Reg.CAL_UTC_STATUS 24 8 := by
  simp (disch := decide) [State.refreshUtc, State.fld, State.rd, bitsAt_putBits_other, bitsAt_putBit_other]

theorem State.offset_refreshUtc (s : State) :
    s.refreshUtc.fld Reg.CAL_UTC_STATUS 0 16 = unsigned 16 (s.cal.utc.offsetAt (ct96Sec s.now)) % 2 ^ 16 := by
  simp (disch := decide) [State.refreshUtc, State.fld, State.rd, bitsAt_putBits, bitsAt_putBits_other, bitsAt_putBit_other]

theorem State.busy_refreshUtc (s : State) : s.refreshUtc.flag Reg.CAL_UTC_STATUS 20 = s.flag Reg.CAL_UTC_STATUS 20 := by
  simp (disch := decide) [State.refreshUtc, State.flag, State.rd, bitAt_putBits_other, bitAt_putBit_other]

theorem unsigned_mod (n : Nat) (v : Int) : unsigned n v % 2 ^ n = unsigned n v := by
  have hpos : (0 : Int) < ((2 ^ n : Nat) : Int) := by exact_mod_cast Nat.two_pow_pos n
  have hnn := Int.emod_nonneg v hpos.ne'
  have hlt := Int.emod_lt_of_pos v hpos
  rw [unsigned, Nat.mod_eq_of_lt (by omega)]

theorem State.version_utcTaken (s : State) (u : Utc) :
    (s.utcTaken u).fld Reg.CAL_UTC_STATUS 24 8 = (s.fld Reg.CAL_UTC_STATUS 24 8 + 1) % 256 := by
  simp (disch := decide) [State.utcTaken, State.fld, State.rd, bitsAt_putBits, bitsAt_putBit_other]

theorem State.busy_utcTaken (s : State) (u : Utc) : (s.utcTaken u).flag Reg.CAL_UTC_STATUS 20 = false := by
  simp (disch := decide) [State.utcTaken, State.flag, State.rd, bitAt_putBit, bitAt_putBits_other]

theorem State.keepsRegs_utcTaken (s : State) (u : Utc) : s.keepsRegs (s.utcTaken u) [Reg.CAL_UTC_STATUS] := by
  intro o ho
  simp only [List.mem_singleton] at ho
  simp [State.utcTaken, State.rd, ho]

theorem State.refreshUtc_frame (s : State) : s.refreshUtc = { s with regs := s.refreshUtc.regs } := rfl

theorem State.utcTaken_frame (s : State) (u : Utc) :
    s.utcTaken u = { s with regs := (s.utcTaken u).regs, cal := { s.cal with pendUtc := none, utc := u } } := rfl

/-- The state with a commit's table in effect, seen as a whole. -/
theorem State.utcApplied_frame (s : State) (u : Utc) :
    (s.utcTaken u).refreshUtc.raise 7 =
      { s with
        regs := (s.utcTaken u).refreshUtc.regs, raised := s.raised ++ [⟨7, 0, 0⟩],
        cal := { s.cal with pendUtc := none, utc := u } } := by
  rw [State.refreshUtc_frame, State.utcTaken_frame]
  rfl

/-- Settles O15: each command's outcome is read off the conditions that it tests. -/
theorem utcCommitsAndLeaps : Obligations.UtcCommitsAndLeaps := by
  refine ⟨fun s ag v ho hv hb => ?_, fun s ag v ho hv hb he => ?_, fun s p hp he hi hs hok hj => ?_,
    fun s p hp he hi hs hc hok => ?_, fun s p hp he hi hs hc hok hf hj => ?_, fun s h0 hd => ?_, fun s ho => ?_,
    fun s h0 hle hf => ?_, fun s hs hf => ?_, fun s hen hs hf => ?_⟩
  · rw [exec_utcCommit_of_opens ho hv, State.commitUtc, if_neg (by simp [hb])]
    rfl
  · rw [exec_utcCommit_of_opens ho hv, State.commitUtc, if_pos hb, State.calError_of_clear he]
  · have hframe := s.utcApplied_frame p.utc
    refine ⟨_, by rw [exec_utcApply_of_due hp he hi hs, State.applyUtc_of_taken hok hj], congrArg State.cal hframe, ?_, ?_, ?_,
      congrArg State.raised hframe, ?_, ?_⟩
    · rw [State.fld_raise, State.version_refreshUtc, State.version_utcTaken]
    · rw [State.fld_raise, State.offset_refreshUtc, unsigned_mod]
      rfl
    · rw [State.flag_raise, State.busy_refreshUtc, State.busy_utcTaken]
    · exact ((s.keepsRegs_utcTaken _).trans (State.keepsRegs_refreshUtc _)).raise
    · rw [hframe]
  · rw [exec_utcApply_of_due hp he hi hs, State.applyUtc_of_badTable hc hok]
  · rw [exec_utcApply_of_due hp he hi hs, State.applyUtc_of_jump hc hok hf hj]
  · change execLeapWarn s = _
    rw [execLeapWarn, if_pos ⟨h0, hd⟩]
  · change execLeapInstant s = _
    rw [execLeapInstant, if_neg ho]
  · change execUtcExpired s = _
    rw [execUtcExpired, if_pos ⟨by simp [Utc.expired, h0, hle], hf⟩]
  · change execSmearStart s = _
    rw [execSmearStart, if_pos ⟨hs, hf⟩]
  · change execSmearEnd s = _
    rw [execSmearEnd, if_pos ⟨hen, hs, hf⟩]

end Sys2Proof.Machine
end

section
/-!
Quads and links of the ports (R64 to R69).
-/
namespace Sys2Proof.Machine

/-! ### A link that goes down -/

theorem State.rd_sticky_ne {s : State} {o en i src j : Nat} {w x : Word} (h : j ≠ o) :
    (s.sticky o en i src w x).rd j = s.rd j := by
  exact (State.keepsRegs.refl (l := [o])).sticky (by simp) j (by simpa using h)

theorem State.flag_sticky {s : State} {o en i src : Nat} {w x : Word} (h : i < 32) :
    (s.sticky o en i src w x).flag o i = true := by
  unfold State.sticky
  split
  · assumption
  · dsimp only
    split
    · exact s.flag_setFlag o i true h
    · exact s.flag_setFlag o i true h

theorem State.keepsRegs_linkDown (s : State) (n : Nat) : s.keepsRegs (s.linkDown n) [Reg.PRT_STATUS n, Reg.PRT_STICKY n] := by
  refine .ite ?_ (State.keepsRegs.refl.setFld (by simp))
  exact ((State.keepsRegs.refl.setFld (by simp)).sticky (by simp)).raise

theorem State.sameButRaises_linkDown (s : State) (n : Nat) : s.SameButRaises (s.linkDown n) :=
  .ite State.SameButRaises.refl.setFld.sticky.raise State.SameButRaises.refl.setFld

/-- The three bits of a link that is down. -/
theorem State.fld_linkDown (s : State) (n m : Nat) :
    (s.linkDown n).fld (Reg.PRT_STATUS m) 0 3 = if m = n then 0 else s.fld (Reg.PRT_STATUS m) 0 3 := by
  have hset : ((s.linkDown n).rd (Reg.PRT_STATUS m)) = (s.setFld (Reg.PRT_STATUS n) 0 3 0).rd (Reg.PRT_STATUS m) := by
    unfold State.linkDown
    dsimp only
    split
    · rw [State.rd_raise, State.portSticky, State.rd_sticky_ne (by simp only [Reg.PRT_STATUS, Reg.PRT_STICKY]; omega)]
    · rfl
  rw [State.fld, hset]
  split
  · next h =>
    subst h
    exact s.fld_setFld _ _ _ _ (by decide)
  · next h => exact s.fld_setFld_other _ _ _ _ _ _ _ (.inl (by simp only [Reg.PRT_STATUS]; omega)) (by decide)

/-- The links of several ports go down. -/
theorem State.fld_linksDown (s : State) (b : Nat) {l : List Nat} {i : Nat} (h : i ∈ l) :
    (l.foldl (fun u i => u.linkDown (b + i)) s).fld (Reg.PRT_STATUS (b + i)) 0 3 = 0 := by
  suffices ∀ t : State, (i ∈ l ∨ t.fld (Reg.PRT_STATUS (b + i)) 0 3 = 0) →
      (l.foldl (fun u i => u.linkDown (b + i)) t).fld (Reg.PRT_STATUS (b + i)) 0 3 = 0 from this s (.inl h)
  clear h
  induction l with
  | nil => exact fun t ht => ht.resolve_left (by simp)
  | cons j js ih =>
    intro t ht
    apply ih
    rw [State.fld_linkDown]
    by_cases hj : i = j
    · simp [hj]
    · simpa [hj] using ht

/-! ### The mode of a quad -/

theorem exec_quadModeWrite_of_opens {s : State} {ag : Agent} {q : Fin 4} (h : s.opens ag (Reg.PRT_QUAD q.val) = true)
    (v : Word) : exec (.quadModeWrite ag q v) s = .next (s.writeQuad q.val v) := by
  change execQuadModeWrite ag q v s = _
  rw [execQuadModeWrite, State.writeAccess_opens _ _ _ _ _ h]

/-- The registers of a quad that a new mode leaves alone are all but these. -/
def quadRegs (q : Nat) : List Nat :=
  [Reg.PRT_QUAD q, Reg.CPM_PLL] ++ (List.range 4).map (fun i => Reg.PRT_STATUS (4 * q + i)) ++
    (List.range 4).map fun i => Reg.PRT_STICKY (4 * q + i)

/-- A quad in its new mode, before its links go down. -/
def State.quadMoved (s : State) (q : Nat) (v : Word) : State :=
  (((s.plainWrite (Reg.PRT_QUAD q) v).setFlag (Reg.PRT_QUAD q) 8 false).setFlag Reg.CPM_PLL (6 + q) false).portRefused (4 * q)
    false

theorem State.writeQuad_of_taken {s : State} {q : Nat} {v : Word} (hv : bitsAt v 0 3 ≤ 4) (hq : s.quadInUse q = false) :
    s.writeQuad q v =
      if bitsAt v 0 3 = 0 then
        ((List.range 4).foldl (fun u i => u.linkDown (4 * q + i)) (s.quadMoved q v)).setFlag Reg.CPM_PLL (22 + q) false
      else (List.range 4).foldl (fun u i => u.linkDown (4 * q + i)) (s.quadMoved q v) := by
  rw [State.writeQuad, if_neg (by simp [hq]; omega)]
  rfl

/-- The registers of a quad's links. -/
def linkRegs (q : Nat) : List Nat :=
  (List.range 4).map (fun i => Reg.PRT_STATUS (4 * q + i)) ++ (List.range 4).map fun i => Reg.PRT_STICKY (4 * q + i)

theorem State.keepsRegs_linksDown (s : State) (q : Nat) :
    s.keepsRegs ((List.range 4).foldl (fun u i => u.linkDown (4 * q + i)) s) (linkRegs q) := by
  refine State.keepsRegs.refl.foldl fun i hi v hv => hv.trans ((v.keepsRegs_linkDown _).mono fun o ho => ?_)
  obtain rfl | rfl := List.mem_pair.mp ho
  · exact List.mem_append_left _ (List.mem_map_of_mem hi)
  · exact List.mem_append_right _ (List.mem_map_of_mem hi)

theorem quad_not_mem_linkRegs (q : Fin 4) : Reg.PRT_QUAD q.val ∉ linkRegs q.val := by decide +revert

theorem pll_not_mem_linkRegs (q : Fin 4) : Reg.CPM_PLL ∉ linkRegs q.val := by decide +revert

theorem rwBit_quad_mode (q : Fin 4) : (List.range 3).all (fun i => rwBit (Reg.PRT_QUAD q.val) (0 + i)) = true := by
  decide +kernel +revert

theorem quad_ne_pll (q : Nat) : Reg.PRT_QUAD q ≠ Reg.CPM_PLL := by
  simp only [Reg.PRT_QUAD, Reg.CPM_PLL]
  omega

theorem quad_ne_status (q n : Nat) : Reg.PRT_QUAD q ≠ Reg.PRT_STATUS n := by
  simp only [Reg.PRT_QUAD, Reg.PRT_STATUS]
  omega

theorem pll_ne_status (n : Nat) : Reg.CPM_PLL ≠ Reg.PRT_STATUS n := by
  simp only [Reg.CPM_PLL, Reg.PRT_STATUS]
  omega

theorem State.rd_quad_quadMoved (s : State) (q : Nat) (v : Word) : (s.quadMoved q v).rd (Reg.PRT_QUAD q) =
    ((s.plainWrite (Reg.PRT_QUAD q) v).setFlag (Reg.PRT_QUAD q) 8 false).rd (Reg.PRT_QUAD q) := by
  rw [State.quadMoved, State.portRefused, State.rd_setFlag, if_neg (quad_ne_status _ _), State.rd_setFlag _ Reg.CPM_PLL,
    if_neg (quad_ne_pll q)]

theorem State.mode_quadMoved (s : State) (q : Fin 4) (v : Word) :
    (s.quadMoved q.val v).fld (Reg.PRT_QUAD q.val) 0 3 = bitsAt v 0 3 := by
  rw [State.fld, State.rd_quad_quadMoved]
  exact (State.fld_setFlag_other _ _ _ _ _ _ _ (.inr (.inr (by decide)))).trans (s.fld_plainWrite (rwBit_quad_mode q) v)

theorem State.ready_quadMoved (s : State) (q : Fin 4) (v : Word) :
    (s.quadMoved q.val v).flag (Reg.PRT_QUAD q.val) 8 = false := by
  rw [State.flag, State.rd_quad_quadMoved]
  exact State.flag_setFlag _ _ _ _ (by decide)

theorem State.pll_quadMoved (s : State) (q : Fin 4) (v : Word) :
    (s.quadMoved q.val v).flag Reg.CPM_PLL (6 + q.val) = false := by
  rw [State.quadMoved, State.portRefused, State.flag_setFlag_other _ _ _ _ _ _ (.inl (pll_ne_status _))]
  exact State.flag_setFlag _ _ _ _ (by omega)

theorem State.keepsRegs_quadMoved (s : State) (q : Nat) (v : Word) : s.keepsRegs (s.quadMoved q v) (quadRegs q) :=
  (((State.keepsRegs.refl.plainWrite (by simp [quadRegs])).setFlag (by simp [quadRegs])).setFlag (by simp [quadRegs])).setFlag
    (by simp [quadRegs, List.range_succ])

/-- A quad in its new mode, its links down. -/
def State.quadDown (s : State) (q : Nat) (v : Word) : State :=
  (List.range 4).foldl (fun u i => u.linkDown (4 * q + i)) (s.quadMoved q v)

theorem State.rd_quadDown {s : State} {q o : Nat} (h : o ∉ linkRegs q) (v : Word) :
    (s.quadDown q v).rd o = (s.quadMoved q v).rd o := (s.quadMoved q v).keepsRegs_linksDown q o h

theorem State.keepsRegs_quadDown (s : State) (q : Nat) (v : Word) : s.keepsRegs (s.quadDown q v) (quadRegs q) := by
  refine (s.keepsRegs_quadMoved q v).trans ((State.keepsRegs_linksDown _ q).mono fun o ho => ?_)
  rw [quadRegs, List.append_assoc]
  exact List.mem_append_right _ ho

theorem State.sameButRaises_quadDown (s : State) (q : Nat) (v : Word) : s.SameButRaises (s.quadDown q v) :=
  State.SameButRaises.refl.plainWrite.setFlag.setFlag.setFlag.foldl (fun hv _ => hv.trans (State.sameButRaises_linkDown _ _)) _

/-- What a new mode leaves of a quad, whether its PLL is asked for or not. -/
theorem State.quadTaken (s : State) (q : Fin 4) (v : Word) {t : State}
    (ht : t = (s.quadDown q.val v).setFlag Reg.CPM_PLL (22 + q.val) false ∨ t = s.quadDown q.val v) :
    t.fld (Reg.PRT_QUAD q.val) 0 3 = bitsAt v 0 3 ∧ t.flag (Reg.PRT_QUAD q.val) 8 = false ∧
      t.flag Reg.CPM_PLL (6 + q.val) = false ∧ (∀ i < 4, t.fld (Reg.PRT_STATUS (4 * q.val + i)) 0 3 = 0) ∧
      s.keepsRegs t (quadRegs q.val) ∧ s.SameButRaises t := by
  have hquad : (s.quadDown q.val v).rd (Reg.PRT_QUAD q.val) = _ := State.rd_quadDown (quad_not_mem_linkRegs q) v
  have hpll : (s.quadDown q.val v).flag Reg.CPM_PLL (6 + q.val) = false := by
    rw [State.flag, State.rd_quadDown (pll_not_mem_linkRegs q)]
    exact s.pll_quadMoved q v
  obtain rfl | rfl := ht
  · have hquad' : ((s.quadDown q.val v).setFlag Reg.CPM_PLL (22 + q.val) false).rd (Reg.PRT_QUAD q.val) = _ :=
      (State.rd_setFlag ..).trans ((if_neg (quad_ne_pll _)).trans hquad)
    refine ⟨?_, ?_, ?_, fun i hi => ?_, (s.keepsRegs_quadDown q v).setFlag (by simp [quadRegs]),
      (s.sameButRaises_quadDown q v).setFlag⟩
    · rw [State.fld, hquad', ← s.mode_quadMoved q v, State.fld]
    · rw [State.flag, hquad', ← s.ready_quadMoved q v, State.flag]
    · rw [State.flag_setFlag_other _ _ _ _ _ _ (.inr (by omega)), hpll]
    · rw [State.fld_setFlag_other _ _ _ _ _ _ _ (.inl (pll_ne_status _).symm)]
      exact State.fld_linksDown _ _ (List.mem_range.mpr hi)
  · refine ⟨?_, ?_, hpll, fun i hi => State.fld_linksDown _ _ (List.mem_range.mpr hi), s.keepsRegs_quadDown q v,
      s.sameButRaises_quadDown q v⟩
    · rw [State.fld, hquad, ← s.mode_quadMoved q v, State.fld]
    · rw [State.flag, hquad, ← s.ready_quadMoved q v, State.flag]

theorem exec_linkDown_none (s : State) (n : Fin 16) : exec (.linkDown n none) s = .next (s.linkDown n.val) := rfl

theorem State.linkDown_of_up {s : State} {n : Nat} (h : s.flag (Reg.PRT_STATUS n) 0 = true) :
    s.linkDown n = ((s.setFld (Reg.PRT_STATUS n) 0 3 0).portSticky n 0).raise (48 + 2 * n) := by
  rw [State.linkDown, if_pos h]

/-- Settles O16: the mode of a quad, alignment, and the links that come up and go down. -/
theorem portLinks : Obligations.PortLinks := by
  refine ⟨fun s ag q v ho hv hq => ?_, fun s ag q v ho hq => ?_, fun s n meas hen => ?_, fun s n meas hen hl ha hc hd => ?_,
    fun s n hup => ?_⟩
  · rw [exec_quadModeWrite_of_opens ho, State.writeQuad_of_taken hv hq]
    exact ⟨_, rfl, s.quadTaken q v (ite_eq_or_eq _ _ _)⟩
  · rw [exec_quadModeWrite_of_opens ho, State.writeQuad, if_pos (.inr hq), State.portRefused]
  · exact congrArg Host.Outcome.next (if_pos hen)
  · exact congrArg Host.Outcome.next (if_pos ⟨hen, hl, ha, hc, hd⟩)
  · refine ⟨_, exec_linkDown_none s n, ?_, ?_, ?_, s.keepsRegs_linkDown n, s.sameButRaises_linkDown n⟩
    · rw [State.fld_linkDown, if_pos rfl]
    · rw [State.linkDown_of_up hup, State.flag_raise]
      exact State.flag_sticky (by decide)
    · rw [State.linkDown_of_up hup]
      exact List.mem_append_right _ (by simp)

end Sys2Proof.Machine
end

section
/-!
Frames that arrive: stamped, counted and buffered, or dropped (R71 to R92).
-/
namespace Sys2Proof.Machine

/-! ### What a stamp of a port reads -/

/-- Two states with one replica and the same registers of the ports, but for counters. -/
theorem State.trimIndex_congr {s t : State} {n : Nat} (hquad : t.rd (Reg.PRT_QUAD (n / 4)) = s.rd (Reg.PRT_QUAD (n / 4)))
    (hctrl : t.rd (Reg.PRT_CTRL n) = s.rd (Reg.PRT_CTRL n)) : t.trimIndex n = s.trimIndex n := by
  unfold State.trimIndex State.portMode State.fld State.flag
  rw [hquad, hctrl]

/-- The counters of a port. -/
def countRegs (n : Nat) : List Nat :=
  [Reg.PRT_CNT_RX n, Reg.PRT_CNT_FECCORR n, Reg.PRT_CNT_RXDROP n, Reg.PRT_CNT_TX n, Reg.PRT_CNT_TXDROP n]

/-- A register of a port's configuration and calibration is none of the counters. -/
theorem not_mem_countRegs {n o : Nat} (h : o % 0x10000 < 0x80 ∨ o < 0x700000) : o ∉ countRegs n := by
  simp only [countRegs, Reg.PRT_CNT_RX, Reg.PRT_CNT_FECCORR, Reg.PRT_CNT_RXDROP, Reg.PRT_CNT_TX, Reg.PRT_CNT_TXDROP,
    List.mem_cons, List.not_mem_nil, or_false, not_or]
  omega

theorem State.trimIndex_lt (s : State) (n : Nat) : s.trimIndex n < 5 := by
  unfold State.trimIndex
  split <;> try split
  all_goals decide

/-- The registers that a port's stamps are made with. -/
theorem State.stampRegs_congr {s t : State} {n : Nat} (h : s.keepsRegs t (countRegs n)) :
    t.trimIndex n = s.trimIndex n ∧ t.rd (Reg.PRT_MEAS_RX n) = s.rd (Reg.PRT_MEAS_RX n) ∧
      t.rd (Reg.PRT_MEAS_TX n) = s.rd (Reg.PRT_MEAS_TX n) ∧
      ∀ k < 5, t.rd (Reg.PRT_TRIM_RX n k) = s.rd (Reg.PRT_TRIM_RX n k) ∧ t.rd (Reg.PRT_TRIM_TX n k) = s.rd (Reg.PRT_TRIM_TX n k) := by
  refine ⟨State.trimIndex_congr (h _ ?_) (h _ ?_), h _ ?_, h _ ?_, fun k hk => ⟨h _ ?_, h _ ?_⟩⟩
  all_goals
    apply not_mem_countRegs
    simp only [Reg.PRT_QUAD, Reg.PRT_CTRL, Reg.PRT_MEAS_RX, Reg.PRT_MEAS_TX, Reg.PRT_TRIM_RX, Reg.PRT_TRIM_TX]
    omega

theorem State.ingressStamp_congr {s t : State} {n : Nat} (hcal : t.cal = s.cal) (h : s.keepsRegs t (countRegs n))
    (phase : Nat) : t.ingressStamp n phase = s.ingressStamp n phase := by
  obtain ⟨htrim, hmeas, -, htrims⟩ := State.stampRegs_congr h
  unfold State.ingressStamp State.stamp State.replica
  dsimp only
  rw [htrim, hmeas, (htrims _ (s.trimIndex_lt n)).1, hcal]

theorem State.egressStamp_congr {s t : State} {n : Nat} (hcal : t.cal = s.cal) (h : s.keepsRegs t (countRegs n))
    (phase : Nat) : t.egressStamp n phase = s.egressStamp n phase := by
  obtain ⟨htrim, -, hmeas, htrims⟩ := State.stampRegs_congr h
  unfold State.egressStamp State.stamp State.replica
  dsimp only
  rw [htrim, hmeas, (htrims _ (s.trimIndex_lt n)).2, hcal]

/-! ### A frame counted as it arrives -/

/-- A frame counted, on a port whose stamps are not suspect. -/
def State.rxCounted (s : State) (n c : Nat) : State :=
  ((s.setPort n { s.port n with fresh := (s.port n).fresh + 1 }).bump (Reg.PRT_CNT_FECCORR n) 0 32 c).bump (Reg.PRT_CNT_RX n) 0 32

theorem State.countStamp_of_sound {s : State} {n : Nat} (h : s.suspect (replicaPort n) = false) :
    s.countStamp n = s.setPort n { s.port n with fresh := (s.port n).fresh + 1 } := by
  rw [State.countStamp, if_neg (by simp [h])]

theorem State.keepsRegs_rxCounted (s : State) (n c : Nat) :
    s.keepsRegs (s.rxCounted n c) [Reg.PRT_CNT_RX n, Reg.PRT_CNT_FECCORR n] := by
  have h : s.keepsRegs (s.setPort n { s.port n with fresh := (s.port n).fresh + 1 })
    [Reg.PRT_CNT_RX n, Reg.PRT_CNT_FECCORR n] := State.keepsRegs.refl
  exact (h.bump (by simp)).bump (by simp)

theorem State.count_rxCounted (s : State) (n c : Nat) : (s.rxCounted n c).fld (Reg.PRT_CNT_RX n) 0 32 =
    min (2 ^ 32 - 1) (s.fld (Reg.PRT_CNT_RX n) 0 32 + 1) := by
  rw [State.rxCounted, State.fld_bump _ _ _ _ _ (by decide) (by decide), State.bump,
    State.fld_setFld_other _ _ _ _ _ _ _ _ (.inl (by simp)) (by decide)]
  rfl

theorem State.port_rxCounted (s : State) (n c : Nat) :
    (s.rxCounted n c).port n = { s.port n with fresh := (s.port n).fresh + 1 } :=
  (s.port_setPort n n _).trans (if_pos rfl)

theorem exec_frameRx_of_link {s : State} {n : Fin 16} (hl : s.flag (Reg.PRT_STATUS n.val) 0 = true)
    (hs : s.suspect (replicaPort n.val) = false) (bs : List Byte) (c : Nat) (fcs : Bool) (phase : Nat) :
    exec (.frameRx n bs c true fcs phase) s = .next (
      let t := s.rxCounted n.val c
      if fcs = false ∨ bs.length + 4 < 64 ∨ 9216 < bs.length + 4 then t.dropRx n.val
      else if be16 bs 12 = 0x8808 then t.macControl n.val bs
      else if t.isCalFrame n.val bs then t.loopCalRx n.val phase
      else if t.acceptsMac n.val bs = false then t.dropRx n.val
      else if t.cellsFree (frameCells bs.length) = false then (t.dropRx n.val).portSticky n.val 7
      else t.receive n.val bs phase) := by
  change execFrameRx n bs c true fcs phase s = _
  rw [execFrameRx, if_neg (by simp [hl]), State.countStamp_of_sound hs]
  rfl

theorem State.acceptsMac_congr {s t : State} {n : Nat} (h : s.keepsRegs t (countRegs n)) (bs : List Byte) :
    t.acceptsMac n bs = s.acceptsMac n bs := by
  have hctrl := h (Reg.PRT_CTRL n) (not_mem_countRegs (by simp only [Reg.PRT_CTRL]; omega))
  have hmach := h (Reg.PRT_MAC_H n) (not_mem_countRegs (by simp only [Reg.PRT_MAC_H]; omega))
  have hmacl := h (Reg.PRT_MAC_L n) (not_mem_countRegs (by simp only [Reg.PRT_MAC_L]; omega))
  unfold State.acceptsMac State.portMac State.flag State.fld
  rw [hctrl, hmach, hmacl]

theorem State.isCalFrame_of_off {s : State} {n : Nat} (h : s.flag (Reg.PRT_CAL_CTRL n) 1 = false) (bs : List Byte) :
    s.isCalFrame n bs = false := by
  rw [State.isCalFrame, h]
  rfl

/-- The frame that a reception puts into the buffer. -/
def State.receivedFrame (s : State) (n : Nat) (bs : List Byte) (phase : Nat) : Frame :=
  { bytes := bs, port := n, stamp := s.takeStamp (replicaPort n) (s.ingressStamp n phase), info := FrameInfo.none,
    mark := Mark.none, egress := n, origin := .array, queued := 0, poison := [], job := none }

theorem State.countRegs_rxCounted (s : State) (n c : Nat) : s.keepsRegs (s.rxCounted n c) (countRegs n) :=
  (s.keepsRegs_rxCounted n c).mono (by simp [countRegs])

theorem exec_frameRx_of_received {s : State} {n : Fin 16} {bs : List Byte} (hl : s.flag (Reg.PRT_STATUS n.val) 0 = true)
    (hs : s.suspect (replicaPort n.val) = false) (hmin : 64 ≤ bs.length + 4) (hmax : bs.length + 4 ≤ 9216)
    (htype : be16 bs 12 ≠ 0x8808) (hcal : s.flag (Reg.PRT_CAL_CTRL n.val) 1 = false) (hmac : s.acceptsMac n.val bs = true)
    (hcells : (s.countStamp n.val).cellsFree (frameCells bs.length) = true) (c phase : Nat) :
    exec (.frameRx n bs c true true phase) s = .next ((s.rxCounted n.val c).receive n.val bs phase) := by
  have hcount := s.countRegs_rxCounted n.val c
  have hflag : (s.rxCounted n.val c).flag (Reg.PRT_CAL_CTRL n.val) 1 = false := by
    rw [State.flag, hcount _ (not_mem_countRegs (by simp only [Reg.PRT_CAL_CTRL]; omega))]
    exact hcal
  have hfree : (s.rxCounted n.val c).cellsFree (frameCells bs.length) = true := by
    rw [State.countStamp_of_sound hs] at hcells
    exact hcells
  rw [exec_frameRx_of_link hl hs]
  dsimp only
  rw [if_neg (by simp; omega), if_neg htype, if_neg (by simp [State.isCalFrame_of_off hflag]),
    if_neg (by simp [State.acceptsMac_congr hcount, hmac]), if_neg (by simp [hfree])]

/-- The received frame's stamp is that of the state before it was counted. -/
theorem State.stamp_receivedFrame_rxCounted {s : State} {n : Nat} (hs : s.suspect (replicaPort n) = false) (bs : List Byte)
    (c phase : Nat) : ((s.rxCounted n c).receivedFrame n bs phase).stamp =
      ⟨s.ingressStamp n phase, false, replicaPort n, s.cal.compares⟩ := by
  have hstamp := State.ingressStamp_congr (show (s.rxCounted n c).cal = s.cal from rfl) (s.countRegs_rxCounted n c) phase
  rw [State.receivedFrame, hstamp, ← hs]
  rfl

/-! ### The classifier -/

theorem exec_classify_of_frame {s : State} {n : Fin 16} {f : Frame} {rest : List Frame}
    (hr : (s.port n.val).received = f :: rest) (hx : s.xqRuns n.val = true) (hf : s.pdUp PD_FABRIC = true) :
    exec (.classify n) s = .next ((s.setPort n.val { s.port n.val with received := rest }).classifyFrame f) := by
  change execClassify n s = _
  unfold execClassify
  simp only [hr]
  rw [if_neg (by simp [hx, hf])]

theorem State.carrySwitch_of_none {s : State} (h : s.gys.pendSwitch = none) : s.carrySwitch = s := by
  rw [State.carrySwitch, h]

/-- A frame with what the classifier finds of it. -/
def State.classified (s : State) (f : Frame) : Frame :=
  let c := s.classify f.bytes
  { f with info := frameInfo (parseFrame f.bytes) c c (s.fld (Reg.CLS_DISP c) 27 2) }

theorem State.classifyFrame_of_ring {s : State} {f : Frame} (hon : s.flag Reg.CLS_CTRL 0 = true)
    (hsw : s.gys.pendSwitch = none) (h14 : s.classify f.bytes ≠ 14)
    (hen : s.flag (Reg.CLS_DISP (s.classify f.bytes)) 31 = true)
    (hring : s.fld (Reg.CLS_DISP (s.classify f.bytes)) 29 2 = 1) :
    s.classifyFrame f = { s with net := { s.net with toHost := s.net.toHost ++
      [⟨s.fld (Reg.CLS_DISP (s.classify f.bytes)) 19 5, s.classified f, none⟩] } } := by
  rw [State.classifyFrame, if_neg (by simp [hon])]
  dsimp only
  rw [if_neg h14, s.carrySwitch_of_none hsw, State.applyEntry]
  dsimp only
  rw [if_neg (by simp [hen])]
  simp only [hring]
  rfl

theorem exec_captureRecordDeliver_of_tile {s : State} {n : Fin 16} {c : CaptureRecord} {rest : List CaptureRecord}
    (hc : (s.port n.val).captures = c :: rest) (hsw : s.gys.pendSwitch = none) (hen : s.flag (Reg.CLS_DISP 63) 31 = true)
    (htile : s.fld (Reg.CLS_DISP 63) 29 2 = 0) (htake : s.takesCapture (c.tag / 2 ^ 10 % 64) = true) :
    exec (.captureRecordDeliver n) s =
      .next ((s.setPort n.val { s.port n.val with captures := rest }).dispatch
        { kind := .capture, tile := c.tag / 2 ^ 10 % 64, pclass := s.fld (Reg.CLS_DISP 63) 27 2,
          entry := s.fld (Reg.CLS_DISP 63) 0 19, bank := s.activeBank, stamp := c.stamp, g1 := 0, code := 63, tag := c.tag,
          frame := none }) := by
  change execCaptureRecordDeliver n s = _
  unfold execCaptureRecordDeliver
  simp only [hc]
  rw [State.carrySwitch_of_none (by exact hsw), State.deliverCapture]
  rw [if_neg (by rintro (h | h); exacts [Bool.false_ne_true (h.symm.trans hen), h htile]),
    if_neg (by intro h; exact Bool.false_ne_true (h.symm.trans htake))]
  rfl

/-- Settles O17: a frame counted and then received or dropped, the end of a pause, the classifier and capture records. -/
theorem frameReception : Obligations.FrameReception := by
  refine ⟨fun s n bs c phase hl hmin hmax htype hcal hmac hs hcells => ?_, fun s n bs c phase fcs hl hs hbad => ?_,
    fun s n hp => congrArg Host.Outcome.next (if_pos hp), fun s n f rest hr hx hf hoff => ?_,
    fun s n f rest hr hx hf hon hsw h14 hen hring => ?_, fun s n c rest hc hsw hen htile htake => ?_⟩
  · refine ⟨_, (s.rxCounted n.val c).receivedFrame n.val bs phase,
      exec_frameRx_of_received hl hs hmin hmax htype hcal hmac hcells c phase, ?_, rfl, rfl,
      State.stamp_receivedFrame_rxCounted hs bs c phase, s.count_rxCounted n.val c, s.keepsRegs_rxCounted n.val c, rfl⟩
    refine (congrArg PortState.received ((State.port_setPort ..).trans (if_pos rfl))).trans ?_
    exact congrArg (·.received ++ _) (s.port_rxCounted n.val c)
  · refine ⟨(s.rxCounted n.val c).dropRx n.val, ?_, ?_, s.port_rxCounted n.val c, rfl⟩
    · rw [exec_frameRx_of_link hl hs]
      dsimp only
      rw [if_pos hbad]
    · rw [State.dropRx, State.fld_bump _ _ _ _ _ (by decide) (by decide), State.fld,
        s.keepsRegs_rxCounted n.val c _ (by simp), ← State.fld]
  · rw [exec_classify_of_frame hr hx hf, State.classifyFrame, if_pos (by exact hoff), State.clsCount]
  · refine ⟨_, _, (exec_classify_of_frame hr hx hf).trans (congrArg _ (State.classifyFrame_of_ring hon hsw h14 hen hring)),
      congrArg PortState.received ((State.port_setPort ..).trans (if_pos rfl)), rfl, rfl, rfl, rfl, rfl⟩
  · exact ⟨_, _, exec_captureRecordDeliver_of_tile hc hsw hen htile htake,
      congrArg PortState.captures ((State.port_setPort ..).trans (if_pos rfl)), rfl, rfl, rfl, rfl, rfl, rfl, rfl, rfl⟩

end Sys2Proof.Machine
end

section
/-!
Frames that leave: stamped and sent, discarded at the answer gate, or aged out (R75 to R82).
-/
namespace Sys2Proof.Machine

/-- The port with its oldest egress frame taken. -/
def State.egressTaken (s : State) (n : Nat) (rest : List Frame) : State := s.setPort n { s.port n with egress := rest }

theorem State.frameEnded_of_noJob {f : Frame} (h : f.job = none) (s : State) (k : Nat) (x : Stamp) :
    s.frameEnded f k x = s := by
  rw [State.frameEnded, h]

theorem exec_frameTxCommit_of_link {s : State} {n : Fin 16} {f : Frame} {rest : List Frame}
    (hq : (s.port n.val).egress = f :: rest) (hx : s.xqRuns (16 + n.val) = true)
    (hpause : s.flag (Reg.PRT_STATUS n.val) 4 = false) (hlink : s.flag (Reg.PRT_STATUS n.val) 0 = true)
    (hcal : s.flag (Reg.PRT_CAL_CTRL n.val) 0 = false) (phase : Nat) :
    exec (.frameTxCommit n phase) s = .next (
      if s.aged n.val f then (s.egressTaken n.val rest).ageDrop n.val f
      else (s.egressTaken n.val rest).txCommit n.val f phase) := by
  change execFrameTxCommit n phase s = _
  unfold execFrameTxCommit
  simp only [hq]
  rw [if_neg (by simp [hx, hpause, hlink, hcal])]
  rfl

theorem State.ageDrop_of_noJob {f : Frame} (h : f.job = none) (s : State) (n : Nat) :
    s.ageDrop n f = s.bump (Reg.PRT_CNT_TXDROP n) 0 32 := by
  rw [State.ageDrop, State.frameEnded_of_noJob h, State.dropTx]

theorem State.aged_iff (s : State) (n : Nat) (f : Frame) : s.aged n f = true ↔
    ((s.fld (Reg.PRT_TXCTL n) 0 10 * 1000 * 2 ^ 16 : Nat) : Int) < (ct96ToFrac s.now : Int) - ct96ToFrac f.queued :=
  decide_eq_true_iff

theorem State.gateBlocks_egressTaken (s : State) (n : Nat) (rest : List Frame) (f : Frame) :
    (s.egressTaken n rest).gateBlocks n f = s.gateBlocks n f := rfl

theorem State.suspect_egressTaken (s : State) (n : Nat) (rest : List Frame) (r : Nat) :
    (s.egressTaken n rest).suspect r = s.suspect r := rfl

/-- The bytes that leave: the frame's own, or with its stamp inserted. -/
def State.outBytes (s : State) (n : Nat) (f : Frame) (phase : Nat) : List Byte :=
  if f.mark.enabled then adjustChecksum f.mark f.bytes (insertStamp s.cal.utc f.mark (s.egressStamp n phase) f.bytes)
  else f.bytes

/-- A frame that no gate, poison or bad mark stops is counted and sent. -/
theorem State.txCommit_of_sent {s : State} {n : Nat} {f : Frame} (hgate : s.gateBlocks n f = false) (hp : f.poison = [])
    (hm : (f.mark.enabled && markInvalid f.mark f.bytes.length) = false) (hj : f.job = none) (hcap : f.mark.capture = false)
    (hs : s.suspect (replicaPort n) = false) (phase : Nat) :
    s.txCommit n f phase = ((s.setPort n { s.port n with fresh := (s.port n).fresh + 1 }).bump (Reg.PRT_CNT_TX n) 0 32).send n
      (s.outBytes n f phase) := by
  rw [State.txCommit, if_neg (by simp [hgate]), if_neg (by simp [hp]), if_neg (by simp [hm])]
  dsimp only
  rw [State.frameEnded_of_noJob hj, State.countStamp_of_sound hs, State.capture, if_pos hcap]
  rfl

theorem State.txCommit_of_gate {s : State} {n : Nat} {f : Frame} (hgate : s.gateBlocks n f = true) (hj : f.job = none)
    (phase : Nat) : s.txCommit n f phase = s.bump (Reg.PRT_CNT_TXDROP n) 0 32 := by
  rw [State.txCommit, if_pos hgate, State.frameEnded_of_noJob hj, State.dropTx]

/-- The state after a frame of the port left. -/
def State.txSent (s : State) (n : Nat) (rest : List Frame) (out : List Byte) : State :=
  State.send (State.bump ((s.egressTaken n rest).setPort n
    { (s.egressTaken n rest).port n with fresh := ((s.egressTaken n rest).port n).fresh + 1 }) (Reg.PRT_CNT_TX n) 0 32) n out

theorem State.egress_txSent (s : State) (n : Nat) (rest : List Frame) (out : List Byte) :
    ((s.txSent n rest out).port n).egress = rest := by
  have h : (s.txSent n rest out).port n = _ := (State.port_setPort ..).trans (if_pos rfl)
  rw [h, State.egressTaken, State.port_setPort, if_pos rfl]

theorem State.keepsRegs_txSent (s : State) (n : Nat) (rest : List Frame) (out : List Byte) :
    s.keepsRegs (s.txSent n rest out) [Reg.PRT_CNT_TX n] := by
  intro o ho
  simp only [List.mem_singleton] at ho
  exact State.rd_wr_ne _ _ _ _ ho

/-- A frame that no gate, age, poison or bad mark stops. -/
theorem exec_frameTxCommit_of_sent {s : State} {n : Fin 16} {f : Frame} {rest : List Frame}
    (hq : (s.port n.val).egress = f :: rest) (hx : s.xqRuns (16 + n.val) = true)
    (hpause : s.flag (Reg.PRT_STATUS n.val) 4 = false) (hlink : s.flag (Reg.PRT_STATUS n.val) 0 = true)
    (hcal : s.flag (Reg.PRT_CAL_CTRL n.val) 0 = false) (hj : f.job = none) (hp : f.poison = [])
    (hgate : s.gateBlocks n.val f = false) (hage : s.aged n.val f = false)
    (hm : (f.mark.enabled && markInvalid f.mark f.bytes.length) = false) (hcap : f.mark.capture = false)
    (hs : s.suspect (replicaPort n.val) = false) (phase : Nat) :
    exec (.frameTxCommit n phase) s = .next (s.txSent n.val rest (s.outBytes n.val f phase)) := by
  rw [exec_frameTxCommit_of_link hq hx hpause hlink hcal, if_neg (by simp [hage]),
    State.txCommit_of_sent ((s.gateBlocks_egressTaken ..).trans hgate) hp hm hj hcap ((s.suspect_egressTaken ..).trans hs)]
  rfl

/-- Settles O18: a frame sent with or without its stamp, stopped at the gate, or aged. -/
theorem frameTransmission : Obligations.FrameTransmission := by
  refine ⟨fun s n f rest phase hq hx hpause hlink hcal hj hp hgate hage hen hcap hs => ?_,
    fun s n f rest phase hq hx hpause hlink hcal hj hp hgate hage hen hcap hm hs => ?_,
    fun s n f rest phase hq hx hpause hlink hcal hj hor hopen => ?_, fun s n f rest hq hj hage => ?_,
    fun s n f rest phase hq hj hx hpause hlink hcal hage => ?_⟩
  · refine ⟨_, exec_frameTxCommit_of_sent hq hx hpause hlink hcal hj hp hgate hage (by simp [hen]) hcap hs phase, ?_,
      s.egress_txSent .., s.keepsRegs_txSent _ _ _, rfl⟩
    rw [State.outBytes, if_neg (by simp [hen])]
    rfl
  · refine ⟨_, exec_frameTxCommit_of_sent hq hx hpause hlink hcal hj hp hgate hage (by simp [hm]) hcap hs phase, ?_,
      s.egress_txSent .., s.keepsRegs_txSent _ _ _, rfl⟩
    rw [State.outBytes, if_pos hen]
    rfl
  · have hgate : s.gateBlocks n.val f = true := by simp [State.gateBlocks, hopen, hor]
    rw [exec_frameTxCommit_of_link hq hx hpause hlink hcal, State.ageDrop_of_noJob hj,
      State.txCommit_of_gate ((s.gateBlocks_egressTaken ..).trans hgate) hj, ite_self]
    rfl
  · change execTxageExpire n s = _
    unfold execTxageExpire
    simp only [hq]
    rw [if_pos ((s.aged_iff ..).mpr hage), State.ageDrop_of_noJob hj]
  · rw [exec_frameTxCommit_of_link hq hx hpause hlink hcal, if_pos hage, State.ageDrop_of_noJob hj]
    rfl

end Sys2Proof.Machine
end

section
/-!
Calibration patterns and loop frames (R77 to R80).
-/
namespace Sys2Proof.Machine

theorem exec_calCtrlWrite_of_opens {s : State} {ag : Agent} {n : Fin 16} (h : s.opens ag (Reg.PRT_CAL_CTRL n.val) = true)
    (v : Word) : exec (.calCtrlWrite ag n v) s = .next (s.writeCalPort n.val v) := by
  change execCalCtrlWrite ag n v s = _
  rw [execCalCtrlWrite, State.writeAccess_opens _ _ _ _ _ h]

theorem rwBit_calCtrl (n : Fin 16) : rwBit (Reg.PRT_CAL_CTRL n.val) 0 = true := by decide +kernel +revert

/-- The pattern started: CALPAT is taken, and the link goes down. -/
theorem State.writeCalPort_of_pattern {s : State} {n : Nat} {v : Word} (h0 : bitAt v 0 = true) (h1 : bitAt v 1 = false)
    (hloop : s.flag (Reg.PRT_CAL_CTRL n) 1 = false)
    (hmode : s.mode = modeStaged ∨ s.mode = modeMeasure ∨ s.mode = modeSafe) :
    s.writeCalPort n v = ((s.plainWrite (Reg.PRT_CAL_CTRL n) v).portRefused n false).linkDown n := by
  rw [State.writeCalPort]
  dsimp only
  rw [if_neg (by simp [h1, hloop, hmode]), if_pos h0]

theorem State.writeCalPort_of_mode {s : State} {n : Nat} {v : Word} (h : bitAt v 0 = true ∨ bitAt v 1 = true)
    (h1 : s.mode ≠ modeStaged) (h2 : s.mode ≠ modeMeasure) (h3 : s.mode ≠ modeSafe) :
    s.writeCalPort n v = s.setFlag (Reg.PRT_STATUS n) 5 true := by
  rw [State.writeCalPort]
  dsimp only
  rw [if_pos ⟨h, .inl (by simp [h1, h2, h3])⟩, State.portRefused]

/-- Bits 3 and above of the status are those of a port whose link does not change. -/
theorem State.flag_status_linkDown (s : State) (n i : Nat) (hi : 3 ≤ i) (h32 : i < 32) :
    (s.linkDown n).flag (Reg.PRT_STATUS n) i = s.flag (Reg.PRT_STATUS n) i := by
  have hset := s.flag_setFld_other (Reg.PRT_STATUS n) 0 3 0 (Reg.PRT_STATUS n) i (.inr (.inr hi)) h32
  unfold State.linkDown
  dsimp only
  split
  · rw [State.flag_raise, State.flag, State.portSticky,
      State.rd_sticky_ne (by simp only [Reg.PRT_STATUS, Reg.PRT_STICKY]; omega)]
    exact hset
  · exact hset

theorem calCtrl_ne_links (n : Nat) : Reg.PRT_CAL_CTRL n ∉ [Reg.PRT_STATUS n, Reg.PRT_STICKY n] := by
  simp only [Reg.PRT_CAL_CTRL, Reg.PRT_STATUS, Reg.PRT_STICKY, List.mem_cons, List.not_mem_nil, or_false, not_or]
  omega

theorem calCtrl_ne_status (n : Nat) : Reg.PRT_CAL_CTRL n ≠ Reg.PRT_STATUS n := fun h =>
  calCtrl_ne_links n (h ▸ List.mem_cons_self)

/-- The state with the pattern on. -/
def State.patternOn (s : State) (n : Nat) (v : Word) : State :=
  ((s.plainWrite (Reg.PRT_CAL_CTRL n) v).portRefused n false).linkDown n

theorem State.pattern_patternOn (s : State) (n : Fin 16) (v : Word) :
    (s.patternOn n.val v).flag (Reg.PRT_CAL_CTRL n.val) 0 = bitAt v 0 := by
  rw [State.flag, State.patternOn, State.keepsRegs_linkDown _ _ _ (calCtrl_ne_links _), State.portRefused, State.rd_setFlag,
    if_neg (calCtrl_ne_status _)]
  exact s.flag_plainWrite (rwBit_calCtrl n) v

theorem State.refused_patternOn (s : State) (n : Nat) (v : Word) :
    (s.patternOn n v).flag (Reg.PRT_STATUS n) 5 = false := by
  rw [State.patternOn, State.flag_status_linkDown _ _ _ (by decide) (by decide)]
  exact State.flag_setFlag _ _ _ _ (by decide)

theorem State.keepsRegs_patternOn (s : State) (n : Nat) (v : Word) :
    s.keepsRegs (s.patternOn n v) [Reg.PRT_CAL_CTRL n, Reg.PRT_STATUS n, Reg.PRT_STICKY n] :=
  ((State.keepsRegs.refl.plainWrite (by simp)).setFlag (by simp)).trans ((State.keepsRegs_linkDown _ n).mono (by simp))

/-- A calibration frame as it leaves, its stamp held. -/
def State.loopSent (s : State) (n phase : Nat) : State :=
  State.send (State.bump (s.setPort n { s.port n with
    fresh := (s.port n).fresh + 1, calSent := some (s.egressStamp n phase) }) (Reg.PRT_CNT_TX n) 0 32) n (s.calFrame n)

theorem sparseSet_sparseSet_ports (m : List (Nat × PortState)) (n : Nat) (p q : PortState) :
    sparseSet (fun _ => PortState.reset) (sparseSet (fun _ => PortState.reset) m n p) n q =
      sparseSet (fun _ => PortState.reset) m n q := sparseSet_set ..

theorem State.setPort_setPort (s : State) (n : Nat) (p q : PortState) : (s.setPort n p).setPort n q = s.setPort n q := by
  simp only [State.setPort, sparseSet_sparseSet_ports]

theorem exec_loopcalFrameTx_of_on {s : State} {n : Fin 16} (h : s.flag (Reg.PRT_CAL_CTRL n.val) 1 = true)
    (hlink : s.flag (Reg.PRT_STATUS n.val) 0 = true) (hpause : s.flag (Reg.PRT_STATUS n.val) 4 = false)
    (hs : s.suspect (replicaPort n.val) = false) (phase : Nat) :
    exec (.loopcalFrameTx n phase) s = .next (s.loopSent n.val phase) := by
  change execLoopcalFrameTx n phase s = _
  rw [execLoopcalFrameTx]
  dsimp only
  rw [if_pos ⟨h, hlink, hpause⟩, State.countStamp_of_sound hs, State.setPort_setPort, State.port_setPort, if_pos rfl,
    State.loopSent]

/-- An edge of the pattern, its stamp latched. -/
def State.edgeLatched (s : State) (n phase : Nat) : State :=
  State.advance (s.setPort n { s.port n with fresh := (s.port n).fresh + 1, calTx := s.egressStamp n phase })
    (Reg.PRT_CAL_CTRL n) 16 16

theorem exec_calpatEdge_of_on {s : State} {n : Fin 16} (h : s.flag (Reg.PRT_CAL_CTRL n.val) 0 = true)
    (hen : s.portEnabled n.val = true) (hs : s.suspect (replicaPort n.val) = false) (phase : Nat) :
    exec (.calpatEdge n phase) s = .next (s.edgeLatched n.val phase) := by
  change execCalpatEdge n phase s = _
  rw [execCalpatEdge]
  dsimp only
  rw [if_pos ⟨h, hen⟩, State.countStamp_of_sound hs, State.setPort_setPort, State.port_setPort, if_pos rfl, State.edgeLatched]

theorem State.count_edgeLatched (s : State) (n phase : Nat) : (s.edgeLatched n phase).fld (Reg.PRT_CAL_CTRL n) 16 16 =
    (s.fld (Reg.PRT_CAL_CTRL n) 16 16 + 1) % 2 ^ 16 := by
  rw [State.edgeLatched, State.advance, State.fld_setFld _ _ _ _ _ (by decide), Nat.mod_mod]
  rfl

theorem exec_calTxRead_of_opens {s : State} {ag : Agent} {n : Fin 16} {w : Fin 3}
    (h : s.opens ag (Reg.PRT_CAL_TX_W0 n.val + 4 * w.val) = true) :
    exec (.calTxRead ag n w) s =
      .next ((s.readCalTx n.val w.val).2.complete (.data (s.readCalTx n.val w.val).1)) := by
  change execCalTxRead ag n w s = _
  rw [execCalTxRead, State.readAccess_opens _ _ _ _ h]

/-- Settles O19: the pattern and its edges, loop frames, and reads of the latched stamp. -/
theorem portCalibration : Obligations.PortCalibration := by
  refine ⟨fun s ag n v ho h0 h1 hloop hmode => ?_, fun s ag n v ho hv h1 h2 h3 => ?_, fun s n phase h hen hs => ?_,
    fun s n phase h hlink hpause hs => ?_, fun s ag n ho => ?_, fun s ag n w hw ho => ?_⟩
  · refine ⟨s.patternOn n.val v, ?_, (s.pattern_patternOn n v).trans h0, s.refused_patternOn _ _, ?_,
      s.keepsRegs_patternOn _ _,
      (State.SameButRaises.refl.plainWrite.setFlag).trans (State.sameButRaises_linkDown _ _)⟩
    · rw [exec_calCtrlWrite_of_opens ho, State.writeCalPort_of_pattern h0 h1 hloop hmode, State.patternOn]
    · rw [State.patternOn, State.fld_linkDown, if_pos rfl]
  · rw [exec_calCtrlWrite_of_opens ho, State.writeCalPort_of_mode hv h1 h2 h3]
  · refine ⟨_, exec_calpatEdge_of_on h hen hs phase, (State.port_setPort ..).trans (if_pos rfl), s.count_edgeLatched .., ?_, rfl⟩
    intro o hne
    exact State.rd_wr_ne _ _ _ _ (List.ne_of_not_mem_cons hne)
  · refine ⟨_, exec_loopcalFrameTx_of_on h hlink hpause hs phase, (State.port_setPort ..).trans (if_pos rfl), rfl, ?_, rfl⟩
    intro o hne
    exact State.rd_wr_ne _ _ _ _ (List.ne_of_not_mem_cons hne)
  · rw [exec_calTxRead_of_opens ho, State.readCalTx]
    simp [State.rd_wr96]
  · rw [exec_calTxRead_of_opens ho, State.readCalTx, if_neg (by omega)]

end Sys2Proof.Machine
end

section
/-!
Instructions that change their thread alone: register arithmetic, the bit operations, and the immediates (R103, R104).
-/
namespace Sys2Proof.Machine

/-! ### The shapes of an arithmetic instruction -/

theorem State.alu_of_issues {s : State} {x : Ctx} {e : Enc} (h : s.issues x e readsAB = true)
    (f : Word64 → Word64 → Word64) :
    s.alu x e f =
      s.ranOn x ((s.th x).setReg (fRd (s.fetch x)) (f (s.g x (fRa (s.fetch x))) (s.g x (fRb (s.fetch x))))) :=
  s.issue_thread x e readsAB _ _ h rfl (Thread.executed_setReg ..)

theorem State.aluImm_of_issues {s : State} {x : Ctx} {e : Enc} (h : s.issues x e readsA = true)
    (f : Word64 → Word → Word64) :
    s.aluImm x e f =
      s.ranOn x ((s.th x).setReg (fRd (s.fetch x)) (f (s.g x (fRa (s.fetch x))) (s.fetch x))) :=
  s.issue_thread x e readsA _ _ h rfl (Thread.executed_setReg ..)

theorem State.issueRd_of_issues {s : State} {x : Ctx} {e : Enc} {n : Needs} (h : s.issues x e n = true)
    (f : Word → Word64) : s.issueRd x e n f = s.ranOn x ((s.th x).setReg (fRd (s.fetch x)) (f (s.fetch x))) :=
  s.issue_thread x e n _ _ h rfl (Thread.executed_setReg ..)

/-- A register and the two flags of an addition written. -/
theorem State.setG_setCyOv (s : State) (x : Ctx) (r : Nat) (v : Word64) (cy ov : Bool) :
    (s.setG x r v).setCyOv x cy ov = s.setTh x { (s.th x).setReg r v with cy := cy, ov := ov } := by
  rw [State.setG, State.setCyOv, State.th_setTh, State.setTh_setTh]

theorem Thread.executed_setReg_flags (t : Thread) (r : Nat) (v : Word64) (cy ov : Bool) :
    { t.setReg r v with cy := cy, ov := ov : Thread }.executed = t.executed := t.executed_setReg r v

theorem State.aluFlags_of_issues {s : State} {x : Ctx} {e : Enc} (h : s.issues x e readsAB = true)
    (f : Word64 → Word64 → Word64) (cy ov : Word64 → Word64 → Bool) :
    s.aluFlags x e f cy ov =
      s.ranOn x { (s.th x).setReg (fRd (s.fetch x)) (f (s.g x (fRa (s.fetch x))) (s.g x (fRb (s.fetch x)))) with
        cy := cy (s.g x (fRa (s.fetch x))) (s.g x (fRb (s.fetch x))),
        ov := ov (s.g x (fRa (s.fetch x))) (s.g x (fRb (s.fetch x))) } :=
  s.issue_thread x e readsAB _ _ h (congrArg Act.next (s.setG_setCyOv ..)) (Thread.executed_setReg_flags ..)

/-! ### Signed overflow -/

theorem outside64_iff (v : Int) : outside64 v = decide (v ≠ v.bmod (2 ^ 64)) := by
  rw [outside64, ← Bool.decide_or, decide_eq_decide, Int.bmod]
  split <;> omega

theorem overflowAdd_eq (a b : Word64) : overflowAdd a b = decide (a.toInt + b.toInt ≠ (a + b).toInt) := by
  rw [overflowAdd, outside64_iff, BitVec.toInt_add]

theorem overflowSub_eq (a b : Word64) : overflowSub a b = decide (a.toInt - b.toInt ≠ (a - b).toInt) := by
  rw [overflowSub, outside64_iff, BitVec.toInt_sub]

/-! ### The operations -/

theorem bit64_decide (p : Prop) [Decidable p] : bit64 (decide p) = if p then 1 else 0 := by
  simp [bit64]

theorem opMinu_eq (a b : Word64) : opMinu a b = if a.toNat ≤ b.toNat then a else b := by
  unfold opMinu
  by_cases h : a.toNat = b.toNat
  · simp [BitVec.eq_of_toNat_eq h]
  · simp only [Nat.lt_iff_le_and_ne, ne_eq, h, not_false_eq_true, and_true]

theorem opMaxu_eq (a b : Word64) : opMaxu a b = if a.toNat ≤ b.toNat then b else a := by
  unfold opMaxu
  by_cases h : a.toNat = b.toNat
  · simp [BitVec.eq_of_toNat_eq h]
  · simp only [Nat.lt_iff_le_and_ne, ne_eq, h, not_false_eq_true, and_true]

theorem mul_eq_ofNat (a b : Word64) : a * b = BitVec.ofNat 64 (a.toNat * b.toNat) :=
  BitVec.eq_of_toNat_eq (by rw [BitVec.toNat_mul, BitVec.toNat_ofNat])

/-- Settles O20: each is one operation on the two registers, with or without the flags of an addition. -/
theorem registerArithmetic : Obligations.RegisterArithmetic := by
  intro s x
  refine ⟨fun h => ?_, fun h => ?_, fun h => ?_, fun h => ?_, fun h => ?_, fun h => ?_, fun h => ?_, fun h => ?_, fun h => ?_,
    fun h => ?_, fun h => ?_, fun h => ?_, fun h => ?_, fun h => ?_, fun h => ?_⟩
  · rw [← overflowAdd_eq]
    exact congrArg _ (State.aluFlags_of_issues h ..)
  · rw [← overflowSub_eq]
    exact congrArg _ (State.aluFlags_of_issues h ..)
  · exact congrArg _ (State.alu_of_issues h _)
  · exact congrArg _ (State.alu_of_issues h _)
  · exact congrArg _ (State.alu_of_issues h _)
  · exact congrArg _ (State.alu_of_issues h _)
  · exact congrArg _ (State.alu_of_issues h _)
  · exact congrArg _ (State.alu_of_issues h _)
  · exact congrArg _ (State.alu_of_issues h _)
  · rw [← bit64_decide]
    exact congrArg _ (State.alu_of_issues h _)
  · rw [← bit64_decide]
    exact congrArg _ (State.alu_of_issues h _)
  · rw [← opMinu_eq]
    exact congrArg _ (State.alu_of_issues h _)
  · rw [← opMaxu_eq]
    exact congrArg _ (State.alu_of_issues h _)
  · rw [← mul_eq_ofNat]
    exact congrArg _ (State.alu_of_issues h _)
  · exact congrArg _ (State.alu_of_issues h _)

end Sys2Proof.Machine
end

section
/-!
Bit counts, bytes in reverse, bit fields and the CRC register (R103).
-/
namespace Sys2Proof.Machine

/-! ### Leading zeros and counts -/

theorem clz64_bounds (a : Word64) : (clz64 a).toNat ≤ 64 ∧ a.toNat < 2 ^ (64 - (clz64 a).toNat) ∧
    ((clz64 a).toNat < 64 → 2 ^ (63 - (clz64 a).toNat) ≤ a.toNat) := by
  unfold clz64
  split
  · next h =>
    subst h
    decide
  · next h =>
    have hne : a.toNat ≠ 0 := fun h0 => h (BitVec.eq_of_toNat_eq h0)
    have hlog : a.toNat.log2 < 64 := (Nat.log2_lt hne).mpr a.isLt
    have hv : (BitVec.ofNat 64 (63 - a.toNat.log2)).toNat = 63 - a.toNat.log2 := by
      rw [BitVec.toNat_ofNat]
      omega
    have hexp : 64 - (63 - a.toNat.log2) = a.toNat.log2 + 1 := by omega
    have hexp' : 63 - (63 - a.toNat.log2) = a.toNat.log2 := by omega
    rw [hv, hexp, hexp']
    exact ⟨by omega, Nat.lt_log2_self, fun _ => Nat.log2_self_le hne⟩

theorem length_filter_eq_sum {α : Type} (p : α → Bool) (l : List α) :
    (l.filter p).length = (l.map fun a => if p a then 1 else 0).sum := by
  induction l with
  | nil => rfl
  | cons a l ih =>
    rw [List.filter_cons, List.map_cons, List.sum_cons, ← ih]
    split <;> simp [Nat.add_comm]

theorem bit_eq_div_mod (a : Word64) (i : Nat) : (if a.getLsbD i then 1 else 0) = a.toNat / 2 ^ i % 2 := by
  rw [BitVec.getLsbD, Nat.testBit_eq_decide_div_mod_eq]
  obtain h | h := Nat.mod_two_eq_zero_or_one (a.toNat / 2 ^ i) <;> simp [h]

theorem popc64_eq (a : Word64) : popc64 a = BitVec.ofNat 64 (((List.range 64).map fun i => a.toNat / 2 ^ i % 2).sum) := by
  rw [popc64, length_filter_eq_sum]
  simp only [bit_eq_div_mod]

/-! ### Bytes -/

theorem testBit_ofLeBytes (bs : List Byte) (i : Nat) :
    (ofLeBytes bs).testBit i = (bs.getD (i / 8) 0).getLsbD (i % 8) := by
  induction bs generalizing i with
  | nil => simp [ofLeBytes]
  | cons b bs ih =>
    have hb := b.isLt
    rw [ofLeBytes, Nat.add_comm, show 256 = 2 ^ 8 from rfl, Nat.testBit_two_pow_mul_add _ hb]
    split
    · next h => simp [Nat.div_eq_of_lt h, Nat.mod_eq_of_lt h, BitVec.getLsbD]
    · next h =>
      obtain ⟨j, rfl⟩ : ∃ j, i = 8 + j := ⟨i - 8, by omega⟩
      rw [ih]
      simp [Nat.add_div_left]

theorem getLsbD_leBytes (n v k i : Nat) (hk : k < n) (hi : i < 8) :
    ((leBytes n v).getD k 0).getLsbD i = v.testBit (8 * k + i) := by
  rw [leBytes, List.getD_eq_getElem _ _ (by simpa using hk)]
  rw [List.getElem_map, List.getElem_range, BitVec.getLsbD_ofNat, Nat.testBit_div_two_pow, Nat.add_comm]
  simp [hi]

theorem bswap64_bit (a : Word64) (i : Nat) (hi : i < 64) :
    (bswap64 a).getLsbD i = a.getLsbD (56 - i / 8 * 8 + i % 8) := by
  have hlen : i / 8 < (leBytes 8 a.toNat).length := by simp [leBytes]; omega
  have hrev : (leBytes 8 a.toNat).reverse.getD (i / 8) 0 = (leBytes 8 a.toNat).getD (7 - i / 8) 0 := by
    rw [List.getD_eq_getElem _ _ (by simpa using hlen), List.getElem_reverse,
      List.getD_eq_getElem _ _ (by simp [leBytes]; omega)]
    simp [leBytes]
  rw [bswap64, ofBeBytes, BitVec.getLsbD_ofNat, testBit_ofLeBytes, hrev, getLsbD_leBytes _ _ _ _ (by omega) (by omega),
    show 8 * (7 - i / 8) + i % 8 = 56 - i / 8 * 8 + i % 8 by omega]
  simp [hi, BitVec.getLsbD]

theorem ext64_bit (a b : Word64) (i : Nat) (hi : i < 64) :
    (ext64 a b).getLsbD i = ((decide (b.toNat / 2 ^ 8 % 64 = 0) || decide (i < b.toNat / 2 ^ 8 % 64)) &&
      a.getLsbD (b.toNat % 64 + i)) := by
  have hbit : ∀ n, (BitVec.ofNat 64 (a.toNat / 2 ^ shamt b % 2 ^ n)).getLsbD i =
      (decide (i < n) && a.getLsbD (b.toNat % 64 + i)) := by
    intro n
    rw [BitVec.getLsbD_ofNat, Nat.testBit_mod_two_pow, Nat.testBit_div_two_pow, shamt, Nat.add_comm i]
    simp only [hi, decide_true, Bool.true_and]
    rfl
  rw [ext64, hbit]
  congr 1
  split <;> simp_all

/-! ### The CRC register -/

/-- One bit of the message shifted in. -/
def crcFeed (c : Word) (b : Bool) : Word := if c.getLsbD 0 != b then (c >>> 1) ^^^ 0x82F63B78#32 else c >>> 1

/-- The register is linear: a message xored in beforehand comes out at the lowest bit. -/
theorem crcBit_xor (c x : Word) : crcBit (c ^^^ x) = crcFeed c (x.getLsbD 0) ^^^ (x >>> 1) := by
  simp only [crcBit, crcFeed, BitVec.getLsbD_xor, BitVec.ushiftRight_xor_distrib, bne]
  cases c.getLsbD 0 <;> cases x.getLsbD 0 <;> simp [BitVec.xor_assoc, BitVec.xor_comm _ (x >>> 1)]

theorem crcBits_xor (c x : Word) (n : Nat) :
    (List.range n).foldl (fun c _ => crcBit c) (c ^^^ x) =
      (List.range n).foldl (fun c i => crcFeed c (x.getLsbD i)) c ^^^ (x >>> n) := by
  induction n with
  | zero => simp
  | succ n ih =>
    rw [List.range_succ, List.foldl_append, List.foldl_append, ih]
    simp only [List.foldl_cons, List.foldl_nil, crcBit_xor, BitVec.getLsbD_ushiftRight, Nat.add_zero,
      BitVec.shiftRight_add]

theorem crcByte_eq (c : Word) (b : Byte) :
    crcByte c b = (List.range 8).foldl (fun c i => crcFeed c (b.getLsbD i)) c := by
  have hshift : (b.setWidth 32 : Word) >>> 8 = 0#32 := by
    ext i hi
    simp
  have hbits : ∀ l : List Nat, (∀ i ∈ l, i < 8) → ∀ c : Word,
      l.foldl (fun c i => crcFeed c ((b.setWidth 32 : Word).getLsbD i)) c = l.foldl (fun c i => crcFeed c (b.getLsbD i)) c := by
    intro l hl c
    refine List.foldl_ext _ _ _ fun c i hi => ?_
    rw [BitVec.getLsbD_setWidth]
    simp [show i < 32 from (hl i hi).trans (by decide)]
  rw [crcByte, crcBits_xor, hshift, hbits _ (fun i hi => List.mem_range.mp hi)]
  simp

theorem crcBytes_leBytes (c : Word) (n v : Nat) :
    crcBytes c (leBytes n v) = (List.range (8 * n)).foldl (fun c i => crcFeed c (v.testBit i)) c := by
  induction n with
  | zero => rfl
  | succ n ih =>
    have hlast : leBytes (n + 1) v = leBytes n v ++ [BitVec.ofNat 8 (v / 2 ^ (8 * n))] := by
      simp [leBytes, List.range_succ]
    rw [hlast, crcBytes, List.foldl_append, show (leBytes n v).foldl crcByte c = _ from ih, Nat.mul_succ, List.range_add, List.foldl_append, List.foldl_map]
    simp only [List.foldl_cons, List.foldl_nil, crcByte_eq]
    refine List.foldl_ext _ _ _ fun c i hi => ?_
    rw [BitVec.getLsbD_ofNat, Nat.testBit_div_two_pow, Nat.add_comm]
    simp [List.mem_range.mp hi]

theorem crc64_eq (a b : Word64) :
    crc64 a b = ((List.range 64).foldl (fun (c : Word) i =>
      if c.getLsbD 0 != b.getLsbD i then (c >>> 1) ^^^ 0x82F63B78#32 else c >>> 1) (a.setWidth 32)).setWidth 64 := by
  rw [crc64, crcBytes_leBytes, show lo32 a = a.setWidth 32 from BitVec.eq_of_toNat_eq (by simp [lo32])]
  rfl

/-- Settles O21: each is an operation of R103 on the two registers, with the bits that R103 gives it. -/
theorem bitFieldAndCrc : Obligations.BitFieldAndCrc := by
  intro s x
  refine ⟨fun h => ⟨_, congrArg _ (State.alu_of_issues h _), clz64_bounds _⟩, fun h => ?_,
    fun h => ⟨_, congrArg _ (State.alu_of_issues h _), bswap64_bit _⟩,
    fun h => ⟨_, congrArg _ (State.alu_of_issues h _), ext64_bit _ _⟩, fun h => ?_⟩
  · rw [← popc64_eq]
    exact congrArg _ (State.alu_of_issues h _)
  · rw [← crc64_eq]
    exact congrArg _ (State.alu_of_issues h _)

end Sys2Proof.Machine
end

section
/-!
The immediate instructions (R104).
-/
namespace Sys2Proof.Machine

/-- The 16 bits of an immediate as a signed number. -/
def imm16 (w : Word) : Int := if bitsAt w 0 16 < 2 ^ 15 then (bitsAt w 0 16 : Int) else (bitsAt w 0 16 : Int) - 2 ^ 16

theorem bitsAt_lt (w : Word) (lo n : Nat) : bitsAt w lo n < 2 ^ n := Nat.mod_lt _ (Nat.two_pow_pos n)

theorem signed_imm16 (w : Word) : signed 16 (fImm16 w) = imm16 w := by
  have h := bitsAt_lt w 0 16
  rw [signed, imm16, fImm16, Nat.mod_eq_of_lt h]
  norm_num

theorem sext16_eq (w : Word) : sext16 w = BitVec.ofInt 64 (imm16 w) := by
  rw [sext16, signed_imm16]

theorem toInt_sext16 (w : Word) : (sext16 w).toInt = imm16 w := by
  have h := bitsAt_lt w 0 16
  rw [sext16_eq, BitVec.toInt_ofInt, imm16]
  apply Int.bmod_eq_of_le <;> split <;> omega

theorem getLsbD_fImm16 (w : Word) (i : Nat) (h : i < 16) : (fImm16 w).testBit i = w.getLsbD i := by
  rw [fImm16, bitsAt_testBit, decide_eq_true h, Bool.true_and, Nat.zero_add]

/-- One quarter of a register replaced. -/
theorem getLsbD_putQuarter (d : Word64) (k : Nat) (w : Word) {j : Nat} (hj : j < 64) :
    (putQuarter d k (fImm16 w)).getLsbD j = if j / 16 = k then w.getLsbD (j % 16) else d.getLsbD j := by
  have himm := bitsAt_lt w 0 16
  rw [putQuarter, BitVec.getLsbD_or, BitVec.getLsbD_and, BitVec.getLsbD_not, BitVec.getLsbD_ofNat, BitVec.getLsbD_ofNat,
    Nat.mul_comm 0xFFFF, Nat.testBit_two_pow_mul, Nat.mul_comm (fImm16 w), Nat.testBit_two_pow_mul,
    show 0xFFFF = 2 ^ 16 - 1 from rfl, Nat.testBit_two_pow_sub_one]
  by_cases hk : j / 16 = k
  · have hlo : 16 * k ≤ j := by omega
    have hlt : j - 16 * k < 16 := by omega
    have hsub : j - 16 * k = j % 16 := by omega
    rw [getLsbD_fImm16 _ _ hlt, if_pos hk, hsub]
    simp [hj, hlo, show j % 16 < 16 by omega]
  · have hout : ¬ (16 * k ≤ j ∧ j - 16 * k < 16) := by omega
    have himmbit : 16 * k ≤ j → (fImm16 w).testBit (j - 16 * k) = false := fun hle =>
      Nat.testBit_lt_two_pow (himm.trans_le (Nat.pow_le_pow_right (by decide) (by omega)))
    rw [if_neg hk]
    by_cases hle : 16 * k ≤ j
    · simp [hj, hle, himmbit hle, show ¬ j - 16 * k < 16 from fun h => hout ⟨hle, h⟩]
    · simp [hj, hle]

/-- Settles O22: each is one operation on ra or rd and the immediate. -/
theorem immediateArithmetic : Obligations.ImmediateArithmetic := by
  intro s x
  refine ⟨fun h => ?_, fun h => congrArg _ (State.aluImm_of_issues h _), fun h => congrArg _ (State.aluImm_of_issues h _),
    fun h => congrArg _ (State.aluImm_of_issues h _), fun h => congrArg _ (State.aluImm_of_issues h _),
    fun h => congrArg _ (State.aluImm_of_issues h _), fun h => congrArg _ (State.aluImm_of_issues h _), fun h => ?_,
    fun h => ?_, fun h => ?_, fun h => ⟨_, ?_, fun j hj => getLsbD_putQuarter _ _ _ hj⟩⟩
  · change _ = Host.Outcome.next (s.ranOn x { (s.th x).setReg (fRd (s.fetch x))
      (s.g x (fRa (s.fetch x)) + BitVec.ofInt 64 (imm16 (s.fetch x))) with
        cy := decide (2 ^ 64 ≤ (s.g x (fRa (s.fetch x))).toNat + (BitVec.ofInt 64 (imm16 (s.fetch x))).toNat)
        ov := decide ((s.g x (fRa (s.fetch x))).toInt + imm16 (s.fetch x) ≠
          (s.g x (fRa (s.fetch x)) + BitVec.ofInt 64 (imm16 (s.fetch x))).toInt) })
    rw [← sext16_eq, ← toInt_sext16, ← overflowAdd_eq]
    exact congrArg _ (s.issue_thread x encAddi readsA _ _ h (congrArg Act.next (s.setG_setCyOv ..))
      (Thread.executed_setReg_flags ..))
  · refine (congrArg _ (State.aluImm_of_issues h _)).trans ?_
    rw [bit64_decide, toInt_sext16]
    rfl
  · refine (congrArg _ (State.aluImm_of_issues h _)).trans ?_
    rw [bit64_decide, sext16_eq]
    rfl
  · refine (congrArg _ (State.issueRd_of_issues h _)).trans ?_
    rw [sext16_eq]
    rfl
  · exact congrArg _ (s.issue_thread x encMovk readsD _ _ h rfl (Thread.executed_setReg ..))

end Sys2Proof.Machine
end

section
/-!
Branches and jumps (R105).
-/
namespace Sys2Proof.Machine

/-- A target inside the I space of an executor. -/
def inISpace (x : Ctx) (q : Int) : Prop := 0 ≤ q ∧ q < (if isTile x then 524288 else 65536)

theorem inISpace_iff (x : Ctx) (q : Int) : inISpace x q ↔ 0 ≤ q ∧ q < iLimit x := by
  cases x <;> exact Iff.rfl

theorem jumpTo_of_inside {x : Ctx} {q : Int} (h : inISpace x q) (s t : State) : jumpTo x s t q = .goto t q.toNat :=
  if_pos ((inISpace_iff x q).mp h)

theorem jumpTo_of_outside {x : Ctx} {q : Int} (h : ¬ inISpace x q) (s t : State) :
    jumpTo x s t q = .fault s fltIRange 0 0 := if_neg ((inISpace_iff x q).not.mp h)

/-- An instruction that goes to a target with its thread changed. -/
theorem State.issue_goto {s : State} {x : Ctx} {e : Enc} {n : Needs} {body : Word → State → Act} {t : Thread} {q : Nat}
    (h : s.issues x e n = true) (hb : body (s.fetch x) s = .goto (s.setTh x t) q) (ht : t.executed = (s.th x).executed) :
    s.issue x e n body = s.ran x q t := by
  rw [State.issue_issues s x e n body h (Or.inl (by rw [hb]; rfl)), hb]
  exact s.retire_setTh x t _ ht

/-- An instruction that leaves its thread and goes to a target. -/
theorem State.issue_goto_same {s : State} {x : Ctx} {e : Enc} {n : Needs} {body : Word → State → Act} {q : Nat}
    (h : s.issues x e n = true) (hb : body (s.fetch x) s = .goto s q) : s.issue x e n body = s.ran x q (s.th x) := by
  rw [State.issue_issues s x e n body h (Or.inl (by rw [hb]; rfl)), hb]
  exact s.retire_ran x q

/-- An instruction that leaves everything as it is. -/
theorem State.issue_same {s : State} {x : Ctx} {e : Enc} {n : Needs} {body : Word → State → Act}
    (h : s.issues x e n = true) (hb : body (s.fetch x) s = .next s) : s.issue x e n body = s.ranOn x (s.th x) := by
  rw [State.issue_issues s x e n body h (Or.inl (by rw [hb]; rfl)), hb]
  exact s.retire_ran x _

/-- An instruction that faults, where no outstanding operation holds the trap back. -/
theorem State.issue_fault {s u : State} {x : Ctx} {e : Enc} {n : Needs} {body : Word → State → Act} {code imm addr : Nat}
    (h : s.issues x e n = true) (hw : s.trapWaits x = false) (hb : body (s.fetch x) s = .fault u code imm addr) :
    s.issue x e n body = u.faultAt x code imm addr := by
  rw [State.issue_issues s x e n body h (Or.inr hw), hb]
  rfl

/-- A branch goes to its target or on, and faults where the target is outside. -/
theorem State.branch_of_issues {s : State} {x : Ctx} {e : Enc} {p : Prop} [Decidable p] (h : s.issues x e readsC = true)
    (taken : Word64 → Word64 → Bool)
    (htaken : taken (s.g x (fCa (s.fetch x))) (s.g x (fCb (s.fetch x))) = decide p)
    (hp : p → inISpace x ((s.th x).pc + fOff13 (s.fetch x))) :
    s.branch x e taken = if p then s.ran x ((s.th x).pc + fOff13 (s.fetch x)).toNat (s.th x) else s.ranOn x (s.th x) := by
  rw [State.branch]
  split
  · next hyes =>
    refine State.issue_goto_same h ?_
    rw [htaken, decide_eq_true hyes, if_pos rfl, jumpTo_of_inside (hp hyes)]
  · next hno =>
    refine State.issue_same h ?_
    rw [htaken, decide_eq_false hno, if_neg Bool.false_ne_true]

theorem State.branchFlag_of_issues {s : State} {x : Ctx} {e : Enc} {want : Bool}
    (h : s.issues x e ⟨fun _ => [], fun w => fCb w == 3, false⟩ = true)
    (hp : (s.th x).flag (fCb (s.fetch x)) = want → inISpace x ((s.th x).pc + fOff13 (s.fetch x))) :
    s.branchFlag x e want = if (s.th x).flag (fCb (s.fetch x)) = want then
      s.ran x ((s.th x).pc + fOff13 (s.fetch x)).toNat (s.th x) else s.ranOn x (s.th x) := by
  rw [State.branchFlag]
  split
  · next hyes =>
    refine State.issue_goto_same h ?_
    rw [if_pos hyes, jumpTo_of_inside (hp hyes)]
  · next hno =>
    refine State.issue_same h ?_
    rw [if_neg hno]

/-- Settles O23: each is a branch of R105 on its test, or a jump; outside I space they fault. -/
theorem branchesAndJumps : Obligations.BranchesAndJumps := by
  intro s x
  refine ⟨fun h hp => ?_, fun h hp => ?_, fun h hp => ?_, fun h hp => ?_, fun h hp => ?_, fun h hp => ?_, fun h hp => ?_,
    fun h hp => ?_, fun h hp => ?_, fun h hp => ?_, fun h hw heq hp => ?_, fun h hw hp => ?_, fun h hw hp => ?_⟩
  · exact congrArg _ (State.branch_of_issues h _ (beq_eq_decide ..) hp)
  · exact congrArg _ (State.branch_of_issues h _ (by simp [bne, beq_eq_decide]) hp)
  · exact congrArg _ (State.branch_of_issues h _ rfl hp)
  · exact congrArg _ (State.branch_of_issues h _ rfl hp)
  · exact congrArg _ (State.branch_of_issues h _ rfl hp)
  · exact congrArg _ (State.branch_of_issues h _ rfl hp)
  · exact congrArg _ (State.branchFlag_of_issues h hp)
  · exact congrArg _ (State.branchFlag_of_issues h hp)
  · exact congrArg _ (State.issue_goto h (jumpTo_of_inside hp ..) (Thread.executed_setReg ..))
  · exact congrArg _ (State.issue_goto h (jumpTo_of_inside hp ..) (Thread.executed_setReg ..))
  · refine congrArg _ (State.issue_fault h hw ?_)
    rw [if_pos (beq_iff_eq.mpr heq), jumpTo_of_outside hp]
  · exact congrArg _ (State.issue_fault h hw (jumpTo_of_outside hp ..))
  · exact congrArg _ (State.issue_fault h hw (jumpTo_of_outside hp ..))

end Sys2Proof.Machine
end

section
/-!
Loads and stores of a tile context, and of a service core through a region (R106, R108, R129, R144).
-/
namespace Sys2Proof.Machine

/-! ### A tile's L -/

theorem fSize_pos (w : Word) : 0 < fSize w := Nat.two_pow_pos _

section Tile

variable {s : State} {p : Fin 72} {c : Fin 48} {w : Word} {a n : Nat}

theorem State.readL_of_permitted (hp : s.lPermits (s.ctx p.val c.val) c.val a n false = true)
    (hpo : s.poisoned memL (lAddr p.val a) n = none) :
    s.readL (.tile p c) a n = .ok (memReadBytes s.gys.l (lAddr p.val a) n, s) := by
  simp only [State.readL, State.lRead, hp, hpo]
  rfl

theorem State.readL_of_forbidden (hp : s.lPermits (s.ctx p.val c.val) c.val a n false = false) :
    s.readL (.tile p c) a n = .error (s, fltLRange, a) := by
  simp only [State.readL, State.lRead, hp]
  rfl

/-- Bytes stored to a tile's L by its program. -/
def State.lWritten (s : State) (p a : Nat) (bs : List Byte) : State := (s.spoil p none [(a, bs.length)]).lStore p a bs

theorem State.writeL_of_permitted {bs : List Byte} (hp : s.lPermits (s.ctx p.val c.val) c.val a bs.length true = true)
    (hpo : s.partlyPoisoned memL (lAddr p.val a) bs.length = none) :
    s.writeL (.tile p c) a bs = .ok (s.lWritten p.val a bs) := by
  simp only [State.writeL, State.lWrite, hp, hpo]
  rfl

theorem State.loadL_of_permitted (hal : s.formE (.tile p c) w % fSize w = 0)
    (hp : s.lPermits (s.ctx p.val c.val) c.val (s.formE (.tile p c) w) (fSize w) false = true)
    (hpo : s.poisoned memL (lAddr p.val (s.formE (.tile p c) w)) (fSize w) = none) (sign : Bool) :
    s.loadL (.tile p c) w sign = .next (s.setG (.tile p c) (fRd w) (extendBytes (fSize w) sign
      (ofLeBytes (memReadBytes s.gys.l (lAddr p.val (s.formE (.tile p c) w)) (fSize w))))) := by
  simp only [State.loadL, hal, ne_eq, not_true_eq_false, if_false, State.readL_of_permitted hp hpo]

theorem State.loadL_of_unaligned (hal : s.formE (.tile p c) w % fSize w ≠ 0) (sign : Bool) :
    s.loadL (.tile p c) w sign = .fault s fltAlign 0 (s.formE (.tile p c) w) := if_pos hal

theorem State.loadL_of_forbidden (hal : s.formE (.tile p c) w % fSize w = 0)
    (hp : s.lPermits (s.ctx p.val c.val) c.val (s.formE (.tile p c) w) (fSize w) false = false) (sign : Bool) :
    s.loadL (.tile p c) w sign = .fault s fltLRange 0 (s.formE (.tile p c) w) := by
  simp only [State.loadL, hal, ne_eq, not_true_eq_false, if_false, State.readL_of_forbidden hp]

theorem length_leBytes (n v : Nat) : (leBytes n v).length = n := by simp [leBytes]

theorem length_beBytes (n v : Nat) : (beBytes n v).length = n := by simp [beBytes, length_leBytes]

theorem State.storeL_of_permitted (hal : s.formE (.tile p c) w % fSize w = 0)
    (hp : s.lPermits (s.ctx p.val c.val) c.val (s.formE (.tile p c) w) (fSize w) true = true)
    (hpo : s.partlyPoisoned memL (lAddr p.val (s.formE (.tile p c) w)) (fSize w) = none) :
    s.storeL (.tile p c) w = .next (s.lWritten p.val (s.formE (.tile p c) w)
      (leBytes (fSize w) (s.g (.tile p c) (fRd w)).toNat)) := by
  have hw := State.writeL_of_permitted (bs := leBytes (fSize w) (s.g (.tile p c) (fRd w)).toNat) (by simpa [length_leBytes] using hp)
    (by simpa [length_leBytes] using hpo)
  simp only [State.storeL, hal, ne_eq, not_true_eq_false, if_false, hw]

/-- What a store to L leaves: the bytes of L, fewer marks, and the jobs that it spoils. -/
theorem State.lWritten_eq (s : State) (p a : Nat) (bs : List Byte) :
    ∃ marks, s.lWritten p a bs = { s with
        gys := { s.gys with l := memWriteBytes s.gys.l (lAddr p a) bs }, rel := { s.rel with poison := marks },
        cry := (s.spoil p none [(a, bs.length)]).cry } ∧ ∀ m ∈ marks, m ∈ s.rel.poison :=
  ⟨_, rfl, fun _ hm => (List.mem_filter.mp hm).1⟩

/-! ### The frame -/

theorem State.pAccess_of_present {s : State} {y : Context} {f : Frame} {write : Bool} (hf : y.frame = some f)
    (hlen : a + n ≤ f.bytes.length) (hcell : y.missingCell a n = none) (hpo : f.poisonedAt a n write = false)
    (k : Frame → Act) : s.pAccess y a n write k = k f := by
  simp only [State.pAccess, hf, hcell, hpo, Nat.not_lt.mpr hlen, and_false, if_false]
  rfl

theorem patch_of_inside {bs new : List Byte} (h : a + new.length ≤ bs.length) :
    patch bs a new = bs.take a ++ new ++ bs.drop (a + new.length) := by
  rw [patch, List.take_of_length_le (l := new) (by omega), List.append_assoc]

/-- A frame written by its program, and the instruction retired. -/
theorem State.writeFrame_ranOn (s : State) (p : Fin 72) (c : Fin 48) (g : Frame) (ws : List (Nat × Nat)) (pc : Nat) :
    (s.writeFrame (.tile p c) g ws).retire (.tile p c) pc =
      (s.spoil p.val (some c.val) ws).setCtx p.val c.val { s.ctx p.val c.val with
        frame := some g
        th := { (s.ctx p.val c.val).th with pc := pc, executed := (s.ctx p.val c.val).th.executed + 1 } } := by
  simp only [State.writeFrame, State.setFrame, State.retire, State.th, State.setTh, State.ctx_setCtx, State.setCtx_setCtx]
  rfl

end Tile

/-! ### A service core's memory -/

section Core

variable {s : State} {k : Fin 8} {w : Word} {a n q b : Nat}

/-- An aligned access stays in one block of 64 KiB. -/
theorem CoreState.pieces_of_aligned {c : CoreState} {write : Bool} (ht : c.translate a n write = some q)
    (hn : n ≤ 65536 - a % 65536) : c.pieces a n write = some [(q, n)] := by
  simp only [CoreState.pieces, Nat.min_eq_left hn, ht, if_true]

theorem aligned_inside_block (w : Word) (hal : a % fSize w = 0) : fSize w ≤ 65536 - a % 65536 := by
  have hdvd : fSize w ∣ 65536 := Nat.pow_dvd_pow (n := 16) 2 ((bitsAt_lt w 14 2).le.trans (by decide))
  have hsub : fSize w ∣ 65536 - a % 65536 :=
    Nat.dvd_sub hdvd ((Nat.dvd_mod_iff hdvd).mpr (Nat.dvd_of_mod_eq_zero hal))
  exact Nat.le_of_dvd (by omega) hsub

theorem State.coreRegister_of_sram {write : Bool} (ht : (s.core k.val).translate a n write = some q)
    (hb : fabricPlace k.val q = .sram b) : s.coreRegister (.core k) a n write = none := by
  simp only [State.coreRegister, ht, hb]

theorem State.readL_of_sram (ht : (s.core k.val).translate a n false = some q) (hb : fabricPlace k.val q = .sram b)
    (hn : n ≤ 65536 - a % 65536) (hpo : s.poisoned memCore b n = none) :
    s.readL (.core k) a n = .ok (memReadBytes s.cores.sram b n, s) := by
  simp only [State.readL, State.coreRead, CoreState.pieces_of_aligned ht hn, State.readPieces, hb, State.fabricRead,
    FabricPlace.memory, hpo, State.fabricBytes, List.append_nil]

/-- Bytes stored to service-core SRAM. -/
def State.sramWritten (s : State) (b : Nat) (bs : List Byte) : State :=
  State.clearPoison { s with cores := { s.cores with sram := memWriteBytes s.cores.sram b bs } } memCore b bs.length

theorem State.writeL_of_sram {bs : List Byte} (ht : (s.core k.val).translate a bs.length true = some q)
    (hb : fabricPlace k.val q = .sram b) (hn : bs.length ≤ 65536 - a % 65536)
    (hpo : s.partlyPoisoned memCore b bs.length = none) : s.writeL (.core k) a bs = .ok (s.sramWritten b bs) := by
  simp only [State.writeL, State.coreWrite, CoreState.pieces_of_aligned ht hn, List.findSome?_cons, hb,
    State.fabricRefuses, FabricPlace.memory, hpo, Option.map_none, List.findSome?_nil, State.writePieces,
    State.fabricWrite, State.fabricStore, List.take_length]
  rfl

theorem State.loadL_of_sram (hal : s.formE (.core k) w % fSize w = 0)
    (ht : (s.core k.val).translate (s.formE (.core k) w) (fSize w) false = some q) (hb : fabricPlace k.val q = .sram b)
    (hpo : s.poisoned memCore b (fSize w) = none) :
    s.loadL (.core k) w false = .next (s.setG (.core k) (fRd w) (BitVec.ofNat 64
      (ofLeBytes (memReadBytes s.cores.sram b (fSize w))))) := by
  simp only [State.loadL, hal, ne_eq, not_true_eq_false, if_false, State.coreRegister_of_sram ht hb,
    State.readL_of_sram ht hb (aligned_inside_block w hal) hpo]
  rfl

theorem State.storeL_of_sram (hal : s.formE (.core k) w % fSize w = 0)
    (ht : (s.core k.val).translate (s.formE (.core k) w) (fSize w) true = some q) (hb : fabricPlace k.val q = .sram b)
    (hpo : s.partlyPoisoned memCore b (fSize w) = none) :
    s.storeL (.core k) w = .next (s.sramWritten b (leBytes (fSize w) (s.g (.core k) (fRd w)).toNat)) := by
  have hlen := length_leBytes (fSize w) (s.g (.core k) (fRd w)).toNat
  have hw := State.writeL_of_sram (bs := leBytes (fSize w) (s.g (.core k) (fRd w)).toNat) (by rwa [hlen]) hb
    (by rw [hlen]; exact aligned_inside_block w hal) (by rwa [hlen])
  simp only [State.storeL, hal, ne_eq, not_true_eq_false, if_false, State.coreRegister_of_sram ht hb, hw]

theorem State.sramWritten_eq (s : State) (b : Nat) (bs : List Byte) :
    ∃ marks, s.sramWritten b bs = { s with
        cores := { s.cores with sram := memWriteBytes s.cores.sram b bs }, rel := { s.rel with poison := marks } } ∧
      ∀ m ∈ marks, m ∈ s.rel.poison :=
  ⟨_, rfl, fun _ hm => (List.mem_filter.mp hm).1⟩

theorem State.settleCore_tile (s : State) (p : Fin 72) (c : Fin 48) : s.settleCore (.tile p c) = s := rfl

/-- A core that is not in reset is settled. -/
theorem State.settleCore_of_running (h : (s.core k.val).inReset = false) : s.settleCore (.core k) = s := by
  simp [State.settleCore, h]

end Core

/-- An instruction that answers another state, its executor's thread as it was. -/
theorem State.issue_next {s u : State} {x : Ctx} {e : Enc} {n : Needs} {body : Word → State → Act}
    (h : s.issues x e n = true) (hb : body (s.fetch x) s = .next u) (ht : u.th x = s.th x) :
    s.issue x e n body = u.ranOn x (s.th x) := by
  rw [State.issue_issues s x e n body h (Or.inl (by rw [hb]; rfl)), hb, ← ht]
  exact u.retire_ran x _

/-- The bytes of SRAM after a store, and what else it changes. -/
theorem State.sramWritten_bytes (s : State) (b : Nat) (bs : List Byte) :
    ∃ m' marks, s.sramWritten b bs = { s with
          cores := { s.cores with sram := m' }, rel := { s.rel with poison := marks } } ∧
      memReadBytes m' b bs.length = bs ∧
      (∀ i, i < b ∨ b + bs.length ≤ i → memRead m' i = memRead s.cores.sram i) ∧ (∀ m ∈ marks, m ∈ s.rel.poison) := by
  obtain ⟨marks, hframe, hmarks⟩ := s.sramWritten_eq b bs
  exact ⟨_, marks, hframe, memReadBytes_write .., fun i hi => memRead_writeBytes_other _ _ _ _ hi, hmarks⟩

/-- The bytes of L after a store, and what else it changes. -/
theorem State.lWritten_bytes (s : State) (p a : Nat) (bs : List Byte) :
    ∃ l' marks, s.lWritten p a bs = { s with
          gys := { s.gys with l := l' }, rel := { s.rel with poison := marks },
          cry := (s.spoil p none [(a, bs.length)]).cry } ∧
      memReadBytes l' (lAddr p a) bs.length = bs ∧
      (∀ b, b < lAddr p a ∨ lAddr p a + bs.length ≤ b → memRead l' b = memRead s.gys.l b) ∧
      (∀ m ∈ marks, m ∈ s.rel.poison) := by
  obtain ⟨marks, hframe, hmarks⟩ := s.lWritten_eq p a bs
  exact ⟨_, marks, hframe, memReadBytes_write .., fun b hb => memRead_writeBytes_other _ _ _ _ hb, hmarks⟩

theorem ofLeBytes_lt (bs : List Byte) : ofLeBytes bs < 2 ^ (8 * bs.length) := by
  induction bs with
  | nil => decide
  | cons b bs ih =>
    have hb := b.isLt
    rw [ofLeBytes, List.length_cons, Nat.mul_succ, Nat.pow_add]
    omega

/-- The bytes of a signed load as a number. -/
theorem extendBytes_signed {n v : Nat} (hv : v < 2 ^ (8 * n)) :
    extendBytes n true v = BitVec.ofInt 64 (if v < 2 ^ (8 * n - 1) then (v : Int) else (v : Int) - 2 ^ (8 * n)) := by
  rw [extendBytes, if_pos rfl, signed, Nat.mod_eq_of_lt hv]
  push_cast
  rfl

theorem length_memReadBytes (m : List (Nat × Byte)) (a n : Nat) : (memReadBytes m a n).length = n := by
  simp [memReadBytes]

/-- The time that a load of a time register finds in L. -/
def State.timeAt (s : State) (p a : Nat) : CT96 := BitVec.ofNat 96 (ofLeBytes (memReadBytes s.gys.l (lAddr p a) 12))

/-- TLDL passes its checks on L; the value decides between the register and T_FMT. -/
theorem exec_tldl_of_permitted {s : State} {p : Fin 72} {c : Fin 48}
    (hal : s.formE (.tile p c) (s.fetch (.tile p c)) % 4 = 0)
    (hp : s.lPermits (s.ctx p.val c.val) c.val (s.formE (.tile p c) (s.fetch (.tile p c))) 12 false = true)
    (hpo : s.poisoned memL (lAddr p.val (s.formE (.tile p c) (s.fetch (.tile p c)))) 12 = none)
    (h : s.issues (.tile p c) encTldl readsA = true) :
    exec (.tldl (.tile p c)) s = .next (
      if ct96Valid (s.timeAt p.val (s.formE (.tile p c) (s.fetch (.tile p c)))) then
        s.ranOn (.tile p c) ((s.th (.tile p c)).setTime (fRd (s.fetch (.tile p c)))
          (s.timeAt p.val (s.formE (.tile p c) (s.fetch (.tile p c)))))
      else s.faultAt (.tile p c) fltTFmt 0 0) := by
  have hread := State.readL_of_permitted hp hpo
  change Host.Outcome.next (s.issue (.tile p c) encTldl readsA _) = _
  refine congrArg Host.Outcome.next ?_
  split
  · next hv =>
    refine s.issue_thread _ encTldl readsA _ _ h ?_ (Thread.executed_setTime ..)
    simp only [hal, ne_eq, not_true_eq_false, if_false, hread]
    exact if_pos hv
  · next hv =>
    refine State.issue_fault h rfl ?_
    simp only [hal, ne_eq, not_true_eq_false, if_false, hread]
    exact if_neg hv

/-- Settles O24: accesses to L, to the frame and to SRAM that their checks pass, and those that fault. -/
theorem loadsAndStores : Obligations.LoadsAndStores := by
  refine ⟨fun s p c => ⟨fun h hal hp hpo => ?_, fun h hal hp hpo => ?_, fun h hal => ?_, fun h hal hp => ?_,
    fun h hal hp hpo => ?_, fun h hal hp hpo hv => ?_, fun h hal hp hpo hv => ?_, fun h hal hp hpo => ?_,
    fun f hf hlen hcell => ⟨fun h hpo => ?_, fun h hpo => ?_, fun h hpo => ?_⟩⟩,
    fun s k q b => ⟨fun h hal ht hb hpo => ?_, fun h hal ht hb hpo hrun => ?_⟩⟩
  · exact congrArg _ (s.issue_thread _ encLdl readsA _ _ h (State.loadL_of_permitted hal hp hpo false) (Thread.executed_setReg ..))
  · refine congrArg _ ((s.issue_thread _ encLdls readsA _ _ h (State.loadL_of_permitted hal hp hpo true)
      (Thread.executed_setReg ..)).trans ?_)
    rw [extendBytes_signed ((ofLeBytes_lt _).trans_eq (by rw [length_memReadBytes]))]
  · exact congrArg _ (State.issue_fault h rfl (State.loadL_of_unaligned hal false))
  · exact congrArg _ (State.issue_fault h rfl (State.loadL_of_forbidden hal hp false))
  · obtain ⟨l', marks, hframe, hbytes, hrest, hmarks⟩ := s.lWritten_bytes p.val (s.formE (.tile p c) (s.fetch (.tile p c)))
      (leBytes (fSize (s.fetch (.tile p c))) (s.g (.tile p c) (fRd (s.fetch (.tile p c)))).toNat)
    rw [length_leBytes] at hframe hbytes hrest
    refine ⟨l', marks, ?_, hbytes, hrest, hmarks⟩
    rw [← hframe]
    exact congrArg Host.Outcome.next ((State.settleCore_tile ..).trans
      (State.issue_next h (State.storeL_of_permitted hal hp hpo) rfl))
  · exact (exec_tldl_of_permitted hal hp hpo h).trans (congrArg _ (if_pos hv))
  · exact (exec_tldl_of_permitted hal hp hpo h).trans (congrArg _ (if_neg (Bool.not_eq_true _ ▸ hv)))
  · obtain ⟨l', marks, hframe, hbytes, hrest, hmarks⟩ := s.lWritten_bytes p.val (s.formE (.tile p c) (s.fetch (.tile p c)))
      (leBytes 12 (s.t (.tile p c) (fRd (s.fetch (.tile p c)))).toNat)
    have hwrite := State.writeL_of_permitted
      (bs := leBytes 12 (s.t (.tile p c) (fRd (s.fetch (.tile p c)))).toNat) (by rwa [length_leBytes]) (by rwa [length_leBytes])
    rw [length_leBytes] at hframe hbytes hrest
    refine ⟨l', marks, ?_, hbytes, hrest, hmarks⟩
    rw [← hframe]
    refine congrArg Host.Outcome.next (State.issue_next h ?_ rfl)
    simp only [hal, ne_eq, not_true_eq_false, if_false, hwrite]
  · exact congrArg _ (s.issue_thread _ encLdp readsA _ _ h (State.pAccess_of_present hf hlen hcell hpo _)
      (Thread.executed_setReg ..))
  · exact congrArg _ (s.issue_thread _ encLdps readsA _ _ h (State.pAccess_of_present hf hlen hcell hpo _)
      (Thread.executed_setReg ..))
  · refine ⟨_, f.store (s.formE (.tile p c) (s.fetch (.tile p c)))
      (beBytes (fSize (s.fetch (.tile p c))) (s.g (.tile p c) (fRd (s.fetch (.tile p c)))).toNat), ?_, rfl, ?_, rfl⟩
    · refine congrArg _ ((State.issue_issues _ _ encStp readsDA _ h (.inr rfl)).trans ?_)
      exact (congrArg (Act.finish _ _) (State.pAccess_of_present hf hlen hcell hpo _)).trans (State.writeFrame_ranOn ..)
    · rw [Frame.store, patch_of_inside (by rwa [length_beBytes]), length_beBytes]
  · exact congrArg _ (s.issue_thread _ encLdl readsA _ _ h (State.loadL_of_sram hal ht hb hpo) (Thread.executed_setReg ..))
  · obtain ⟨m', marks, hframe, hbytes, hrest, hmarks⟩ :=
      s.sramWritten_bytes b (leBytes (fSize (s.fetch (.core k))) (s.g (.core k) (fRd (s.fetch (.core k)))).toNat)
    rw [length_leBytes] at hbytes hrest
    refine ⟨m', marks, ?_, hbytes, hrest, hmarks⟩
    rw [← hframe]
    refine congrArg Host.Outcome.next ((congrArg (State.settleCore · _)
      (State.issue_next (u := s.sramWritten b _) h (State.storeL_of_sram hal ht hb hpo) rfl)).trans (State.settleCore_of_running ?_))
    rw [State.ranOn, State.ran, State.setTh, State.core_setCore]
    exact hrun

end Sys2Proof.Machine
end

section
/-!
The end of TWAIT (R112): an executor that also waits for the load of a register stays WAITING.
-/
namespace Sys2Proof.Machine

/-- A thread in TWAIT whose register load has not been answered. -/
def loadingInTwait : Thread :=
  { Thread.reset with status := .waiting, op := some ⟨.twait, none, 0⟩, busLoad := some (1, false) }

/-- Service core 0 in TWAIT with that load, its comparator reached. -/
def coreLoadingInTwait : State :=
  State.setTh { State.reset with cal := { CalState.reset with comparators := [⟨.core 0, 0, true⟩] } } (.core 0) loadingInTwait

theorem th_coreLoadingInTwait : coreLoadingInTwait.th (.core 0) = loadingInTwait := State.th_setTh ..

/-- The thread completes its operation, and goes on waiting for its load. -/
theorem complete_loadingInTwait : loadingInTwait.complete none none = { loadingInTwait with op := none } := by decide

/-- The operation completes, and nothing becomes READY. -/
theorem exec_twaitComplete_coreLoadingInTwait :
    exec (.twaitComplete (.core 0)) coreLoadingInTwait =
      .next ((coreLoadingInTwait.disarm (.core 0)).setTh (.core 0) { loadingInTwait with op := none }) := by
  change execTwaitComplete (.core 0) coreLoadingInTwait = _
  rw [execTwaitComplete, th_coreLoadingInTwait, if_pos (by decide), State.readied, complete_loadingInTwait, if_neg]
  · rfl
  · rintro ⟨-, hready⟩
    rw [State.th_setTh] at hready
    exact absurd hready (by decide)

/-- Refutes O25: TWAIT_COMPLETE does not make an executor READY that waits for the load of a register, and no premise
excludes that load. -/
theorem not_timeInstructions : ¬ Obligations.TimeInstructions := by
  intro h
  obtain ⟨-, -, -, -, -, -, -, -, -, -, -, -, -, htwait, -⟩ := h coreLoadingInTwait (.core 0)
  have hexec := htwait ⟨.core 0, 0, true⟩ 0 (by rw [th_coreLoadingInTwait]; rfl) (by rw [th_coreLoadingInTwait]; rfl) rfl (.inl rfl)
  rw [exec_twaitComplete_coreLoadingInTwait, th_coreLoadingInTwait] at hexec
  have hth := congrArg (fun t : State => (t.th (.core 0)).status) (Host.Outcome.next.inj hexec)
  simp only [State.makeNewest, State.th_setTh] at hth
  exact absurd hth (by decide)

end Sys2Proof.Machine
end

section
/-!
The frame instructions (R113 to R115, R405).
-/
namespace Sys2Proof.Machine

section FrameRules

variable {s : State} {p : Fin 72} {c : Fin 48} {f g : Frame}

theorem State.th_setFrame (s : State) (p : Fin 72) (c : Fin 48) (g : Frame) :
    (s.setFrame (.tile p c) g).th (.tile p c) = s.th (.tile p c) := by
  simp only [State.setFrame, State.th, State.ctx_setCtx]

theorem withFrame_of_present (hf : (s.ctx p.val c.val).frame = some f) (k : Frame → Act) :
    withFrame s (.tile p c) k = k f := by
  simp only [withFrame, State.tileCtx, hf]

theorem State.lRead_of_permitted {y : Context} {q k a n : Nat} (hp : s.lPermits y k a n false = true)
    (hpo : s.poisoned memL (lAddr q a) n = none) : s.lRead q y k a n = .ok (memReadBytes s.gys.l (lAddr q a) n) := by
  simp only [State.lRead, hp, hpo]
  rfl

theorem State.lWrite_of_permitted {y : Context} {q k a : Nat} {bs : List Byte} (hp : s.lPermits y k a bs.length true = true)
    (hpo : s.partlyPoisoned memL (lAddr q a) bs.length = none) : s.lWrite q y k a bs = .ok (s.lWritten q a bs) := by
  simp only [State.lWrite, hp, hpo]
  rfl

/-- An instruction with a frame that changes the frame and nothing else. -/
theorem State.issue_setFrame {e : Enc} {n : Needs} {body : Word → State → Act}
    (h : s.issues (.tile p c) e n = true) (hb : body (s.fetch (.tile p c)) s = .next (s.setFrame (.tile p c) g)) :
    s.issue (.tile p c) e n body = (s.setFrame (.tile p c) g).ranOn (.tile p c) (s.th (.tile p c)) :=
  State.issue_next h hb (s.th_setFrame p c g)

/-- An instruction that writes bytes of its frame and nothing else. -/
theorem State.issue_writeFrame {e : Enc} {n : Needs} {body : Word → State → Act} {ws : List (Nat × Nat)}
    (h : s.issues (.tile p c) e n = true)
    (hb : body (s.fetch (.tile p c)) s = .next (s.writeFrame (.tile p c) g ws)) :
    s.issue (.tile p c) e n body =
      ((s.spoil p.val (some c.val) ws).setFrame (.tile p c) g).ranOn (.tile p c) (s.th (.tile p c)) :=
  State.issue_next h hb (State.th_setFrame ..)

/-- An instruction that writes its frame and its thread. -/
theorem State.issue_writeFrame_thread {e : Enc} {n : Needs} {body : Word → State → Act} {ws : List (Nat × Nat)} {t : Thread}
    (h : s.issues (.tile p c) e n = true) (ht : t.executed = (s.th (.tile p c)).executed)
    (hb : body (s.fetch (.tile p c)) s = .next ((s.writeFrame (.tile p c) g ws).setTh (.tile p c) t)) :
    s.issue (.tile p c) e n body = ((s.spoil p.val (some c.val) ws).setFrame (.tile p c) g).ranOn (.tile p c) t := by
  rw [State.issue_issues _ _ _ _ _ h (.inr rfl), hb]
  have hth := (s.spoil p.val (some c.val) ws).th_setFrame p c g
  rw [State.ranOn, hth]
  exact State.retire_setTh _ _ t _ (ht.trans (congrArg Thread.executed hth.symm))

/-- Ranges of the frame that are all there and unpoisoned are read. -/
theorem State.pReads_of_present {y : Context} {k : Act} {rs : List (Nat × Nat)}
    (h : ∀ r ∈ rs, y.missingCell r.1 r.2 = none ∧ f.poisonedAt r.1 r.2 false = false) : s.pReads y f k rs = k := by
  induction rs with
  | nil => rfl
  | cons r rs ih =>
    obtain ⟨hcell, hpoison⟩ := h r List.mem_cons_self
    rw [State.pReads, hcell]
    simpa [hpoison] using ih fun q hq => h q (List.mem_cons_of_mem _ hq)

/-- A part of an unpoisoned range is unpoisoned. -/
theorem Frame.poisonedAt_of_part {a n b m : Nat} (h : f.poisonedAt a n false = false) (hab : a ≤ b) (hbm : b + m ≤ a + n) :
    f.poisonedAt b m false = false := by
  simp only [Frame.poisonedAt, Bool.false_and, Bool.not_false, Bool.and_true, List.any_eq_false, Bool.and_eq_true,
    decide_eq_true_eq, not_and] at h ⊢
  intro w hw hlo
  have := h w hw (by omega)
  omega

/-- The addresses of the MAC exchanged. -/
theorem Frame.bytes_swap_mac (hlen : 12 ≤ f.bytes.length) :
    (f.swap (0, 6, 6)).bytes = (f.bytes.drop 6).take 6 ++ f.bytes.take 6 ++ f.bytes.drop 12 := by
  have hsource : ((f.bytes.drop 6).take 6).length = 6 := by simp; omega
  have hdest : (f.bytes.take 6).length = 6 := by simp; omega
  have hfirst : patch f.bytes 0 ((f.bytes.drop 6).take 6) = (f.bytes.drop 6).take 6 ++ f.bytes.drop 6 := by
    rw [patch_of_inside (by omega), hsource]
    simp
  change patch (patch f.bytes 0 ((f.bytes.drop 6).take 6)) 6 (f.bytes.take 6) = _
  rw [hfirst, patch_of_inside (by simp; omega), hdest, List.take_left' hsource]
  congr 1
  rw [List.drop_append, hsource, List.drop_of_length_le (by omega), List.drop_drop]
  rfl

end FrameRules

/-- Settles O26: each instruction's branch of its body, and the bytes that the changed frame holds. -/
theorem frameInstructions : Obligations.FrameInstructions := by
  intro s p c f hf
  have hwith := withFrame_of_present hf
  refine ⟨fun h => ?_, fun h hlo hhi hcells => ?_, fun h hlo hhi hgrow hfull => ?_, fun h hrange => ?_, fun h => ?_,
    fun h => ?_, fun h hport => ?_, fun h hport => ?_, fun h hsel hlen hcell hpoison => ?_,
    fun ps h hps hlen hparts => ?_, fun h hps => ?_, fun h hlen hcell hpoison hl hlp => ?_,
    fun h hlen hcell hpoison hl hlp => ?_, fun i hi => ?_⟩
  · refine ⟨s.frameItem (s.ctx p.val c.val) (fImm6 (s.fetch (.tile p c))), ?_, ?_⟩
    · refine congrArg _ (s.issue_thread _ encFinfo noReads _ _ h ?_ (Thread.executed_setReg ..))
      exact congrArg (fun u : State => Act.next (u.setG _ _ _))
        (if_neg fun hno => Option.some_ne_none f (hf.symm.trans hno.2))
    · simp +contextual [State.frameItem, hf]
  · refine ⟨f.resize (s.g (.tile p c) (fRa (s.fetch (.tile p c)))).toNat, ?_, rfl, rfl⟩
    refine congrArg _ (State.issue_writeFrame_thread (t := { s.th (.tile p c) with res := false }) h rfl ((hwith _).trans ?_))
    refine (if_neg (by omega)).trans ((if_neg ?_).trans ?_)
    · rintro ⟨hgrow, hfull⟩
      exact hcells.elim (fun hle => by unfold frameCells at hgrow; omega) fun hfree => Bool.false_ne_true (hfull.symm.trans hfree)
    · rw [State.setRes, State.writeFrame, State.th_setFrame]
      rfl
  · refine congrArg _ (s.issue_thread _ encFlen _ _ { s.th (.tile p c) with res := true } h ((hwith _).trans ?_) rfl)
    exact (if_neg (by omega)).trans (if_pos ⟨hgrow, hfull⟩)
  · exact congrArg _ (State.issue_fault h rfl ((hwith _).trans (if_pos hrange)))
  · exact congrArg _ (State.issue_setFrame h (hwith _))
  · exact congrArg _ (State.issue_setFrame h (hwith _))
  · exact congrArg _ (State.issue_setFrame h ((hwith _).trans (if_neg (Nat.not_lt.mpr hport))))
  · exact congrArg _ (State.issue_fault h rfl ((hwith _).trans (if_pos hport)))
  · refine ⟨f.swap (0, 6, 6), congrArg _ (State.issue_writeFrame h ((hwith _).trans ?_)), Frame.bytes_swap_mac hlen, rfl⟩
    have hpairs : swapPairs f.info (fImm6 (s.fetch (.tile p c))) = some [(0, 6, 6)] := by rw [hsel]; rfl
    have hparts : ∀ r ∈ swapReads [(0, 6, 6)],
        (s.ctx p.val c.val).missingCell r.1 r.2 = none ∧ f.poisonedAt r.1 r.2 false = false := by
      simp only [swapReads, List.flatMap_cons, List.flatMap_nil, List.append_nil, List.mem_cons, List.not_mem_nil, or_false]
      rintro r (rfl | rfl)
      · exact ⟨rfl, Frame.poisonedAt_of_part hpoison (by decide) (by decide)⟩
      · exact ⟨rfl, Frame.poisonedAt_of_part hpoison (by decide) (by decide)⟩
    simp only [hpairs]
    exact (if_neg (Nat.not_lt.mpr hlen)).trans (State.pReads_of_present hparts)
  · refine congrArg _ (State.issue_writeFrame h ((hwith _).trans ?_))
    simp only [hps, if_neg (Nat.not_lt.mpr hlen)]
    exact State.pReads_of_present hparts
  · refine congrArg _ (State.issue_fault h rfl ((hwith _).trans ?_))
    simp only [hps]
  · refine ⟨f.store (s.g (.tile p c) (fRa (s.fetch (.tile p c)))).toNat
      (memReadBytes s.gys.l (lAddr p.val (s.g (.tile p c) (fRb (s.fetch (.tile p c)))).toNat)
        ((fImm6 (s.fetch (.tile p c)) + 1) * 8)), ?_, ?_, rfl⟩
    · refine congrArg _ (State.issue_writeFrame h ((State.pAccess_of_present hf hlen hcell hpoison _).trans ?_))
      have hread : s.lRead (ctxTile (.tile p c)) (s.tileCtx (.tile p c)) (ctxNumber (.tile p c)) _
        (copySize (s.fetch (.tile p c))) = .ok _ := State.lRead_of_permitted hl hlp
      simp only [hread, length_memReadBytes]
      rfl
    · rw [Frame.store, patch_of_inside (by rwa [length_memReadBytes]), length_memReadBytes]
  · obtain ⟨l', marks, hframe, hbytes, hrest, hmarks⟩ := s.lWritten_bytes p.val (s.g (.tile p c) (fRa (s.fetch (.tile p c)))).toNat
      ((f.bytes.drop (s.g (.tile p c) (fRb (s.fetch (.tile p c)))).toNat).take ((fImm6 (s.fetch (.tile p c)) + 1) * 8))
    have hsize : ((f.bytes.drop (s.g (.tile p c) (fRb (s.fetch (.tile p c)))).toNat).take
      ((fImm6 (s.fetch (.tile p c)) + 1) * 8)).length = (fImm6 (s.fetch (.tile p c)) + 1) * 8 := by simp; omega
    refine ⟨l', marks, ?_, by simpa only [hsize] using hbytes, by simpa only [hsize] using hrest, hmarks⟩
    rw [hsize] at hframe
    rw [← hframe]
    refine congrArg _ (State.issue_next (u := s.lWritten _ _ _) h ((State.pAccess_of_present hf hlen hcell hpoison _).trans ?_) rfl)
    have hwrite : s.lWrite (ctxTile (.tile p c)) (s.tileCtx (.tile p c)) (ctxNumber (.tile p c)) _
        ((f.bytes.drop _).take (copySize (s.fetch (.tile p c)))) = .ok _ :=
      State.lWrite_of_permitted (hsize.symm ▸ hl) (hsize.symm ▸ hlp)
    simp only [hwrite]
    rfl
  · have hstatus : (s.ctx p.val c.val).th.status = .blocked (.cell i) := hi
    have hold : (s.th (.tile p c)).status ≠ .ready := fun hr => by cases hi.symm.trans hr
    change execCellArrive p c s = _
    simp only [execCellArrive, hstatus]
    refine congrArg _ (if_pos ⟨hold, ?_⟩)
    rw [State.th, State.ctx_setCtx]

end Sys2Proof.Machine
end

section
/-!
The checksum instructions (R116): one's-complement sums, and the checksums that CSIP and CSUDP write.
-/
namespace Sys2Proof.Machine

/-! ### Bytes replaced in a frame -/

section Patch

variable {bs old new : List Byte} {k : Nat}

/-- The bytes that a patch replaces, and those that it leaves. -/
theorem getElem?_patch (h : k + new.length ≤ bs.length) (j : Nat) :
    (patch bs k new)[j]? = if k ≤ j ∧ j < k + new.length then new[j - k]? else bs[j]? := by
  have hk : (bs.take k).length = k := List.length_take_of_le (by omega)
  rw [patch_of_inside h, List.append_assoc, List.getElem?_append, hk, List.getElem?_append]
  rcases Nat.lt_or_ge j k with hj | hj
  · rw [if_pos hj, if_neg (by omega), List.getElem?_take_of_lt hj]
  · rw [if_neg (by omega)]
    rcases Nat.lt_or_ge j (k + new.length) with hnew | hnew
    · rw [if_pos (by omega), if_pos ⟨hj, hnew⟩]
    · rw [if_neg (by omega), if_neg (by omega), List.getElem?_drop, show k + new.length + (j - k - new.length) = j by omega]

theorem length_patch (h : k + new.length ≤ bs.length) : (patch bs k new).length = bs.length := by
  rw [patch_of_inside h]
  simp
  omega

theorem byteAt_eq_getElem? (bs : List Byte) (j : Nat) : byteAt bs j = (bs[j]?.getD 0).toNat := by
  rw [byteAt, List.getD_eq_getElem?_getD]

theorem byteAt_patch_other {j : Nat} (h : k + new.length ≤ bs.length) (hj : j < k ∨ k + new.length ≤ j) :
    byteAt (patch bs k new) j = byteAt bs j := by
  rw [byteAt_eq_getElem?, byteAt_eq_getElem?, getElem?_patch h, if_neg (by omega)]

/-- Of two patches of one field the later one stays. -/
theorem patch_patch (hlen : new.length = old.length) (h : k + old.length ≤ bs.length) :
    patch (patch bs k old) k new = patch bs k new := by
  refine List.ext_getElem? fun j => ?_
  rw [getElem?_patch (by rw [length_patch h]; omega), getElem?_patch h, getElem?_patch (by omega)]
  split
  · rfl
  · exact if_neg (by omega)

/-- A window of the frame around a patched field: what precedes the field, the field, and what follows it. -/
theorem window_patch {ip n : Nat} (hlo : ip ≤ k) (hhi : k + new.length ≤ ip + n) (h : ip + n ≤ bs.length) :
    ((patch bs k new).drop ip).take n =
      (bs.drop ip).take (k - ip) ++ new ++ (bs.drop (k + new.length)).take (ip + n - (k + new.length)) := by
  have hin : k + new.length ≤ bs.length := by omega
  have hbefore : ((bs.drop ip).take (k - ip)).length = k - ip := by simp; omega
  refine List.ext_getElem? fun j => ?_
  rw [List.append_assoc, List.getElem?_append, hbefore, List.getElem?_append]
  simp only [List.getElem?_take, List.getElem?_drop, getElem?_patch hin]
  grind

/-- A window of the frame away from the patched field. -/
theorem window_patch_before {ip n : Nat} (hin : k + new.length ≤ bs.length) (h : ip + n ≤ k) :
    ((patch bs k new).drop ip).take n = (bs.drop ip).take n := by
  refine List.ext_getElem? fun j => ?_
  simp only [List.getElem?_take, List.getElem?_drop, getElem?_patch hin]
  split
  · exact if_neg (by omega)
  · rfl

/-- A window that holds the patched field, put back where it was read, is the patch. -/
theorem patch_window {ip n : Nat} (hlo : ip ≤ k) (hhi : k + new.length ≤ ip + n) (h : ip + n ≤ bs.length) :
    patch bs ip (((patch bs k new).drop ip).take n) = patch bs k new := by
  have hin : k + new.length ≤ bs.length := by omega
  have hsize : (((patch bs k new).drop ip).take n).length = n := by simp [length_patch hin]; omega
  refine List.ext_getElem? fun j => ?_
  rw [getElem?_patch (by omega), hsize]
  split
  · rw [List.getElem?_take_of_lt (by omega), List.getElem?_drop, show ip + (j - ip) = j by omega]
  · rw [getElem?_patch hin, if_neg (by omega)]

end Patch

/-! ### One's-complement sums -/

theorem sum16_append {xs ys : List Byte} (h : xs.length % 2 = 0) : sum16 (xs ++ ys) = sum16 xs + sum16 ys := by
  induction xs using sum16.induct with
  | case1 => simp [sum16]
  | case2 a => simp at h
  | case3 a b rest ih =>
    simp only [List.cons_append, sum16, ih (by simp only [List.length_cons] at h; omega)]
    omega

theorem sum16_eq_zero {xs : List Byte} (h : sum16 xs = 0) : ∀ x ∈ xs, x = 0 := by
  induction xs using sum16.induct with
  | case1 => simp
  | case2 a =>
    have ha : a = 0 := BitVec.eq_of_toNat_eq (by simp only [sum16] at h; simpa using h)
    simp [ha]
  | case3 a b rest ih =>
    simp only [sum16] at h
    have ha : a = 0 := BitVec.eq_of_toNat_eq (by simp; omega)
    have hb : b = 0 := BitVec.eq_of_toNat_eq (by simp; omega)
    simpa [ha, hb] using ih (by omega)

theorem sum16_beBytes {v : Nat} (h : v < 2 ^ 16) : sum16 (beBytes 2 v) = v := by
  simp [beBytes, leBytes, sum16, List.range_succ]
  omega

theorem fold16_lt (n : Nat) : fold16 n < 2 ^ 16 := by
  unfold fold16
  split <;> [omega; split <;> omega]

theorem fold16_mod (n : Nat) : fold16 n % 65535 = n % 65535 := by
  unfold fold16
  split <;> [omega; split <;> omega]

theorem fold16_eq_zero_iff (n : Nat) : fold16 n = 0 ↔ n = 0 := by
  unfold fold16
  split <;> [omega; split <;> omega]

/-- A sum to which a field with the complement of its fold is added: all ones. -/
theorem fold16_add_complement {n v : Nat} (h : 0 < n) (hv : v % 65535 = complement16 (fold16 n) % 65535) :
    fold16 (n + v) = 0xFFFF := by
  have hfold := fold16_lt n
  have hmod := fold16_mod n
  simp only [complement16, Nat.mod_eq_of_lt hfold] at hv
  have hsum : (n + v) % 65535 = 0 := by omega
  exact (if_neg (by omega)).trans (if_pos hsum)

theorem complement16_lt (n : Nat) : complement16 n < 2 ^ 16 := by
  unfold complement16
  omega

/-- Bytes around a checksum field that holds the complement of the rest's sum: they verify. -/
theorem csum_complemented {front back : List Byte} {v : Nat} (heven : front.length % 2 = 0)
    (hpos : 0 < sum16 front) (hv : v < 2 ^ 16)
    (hcomplement : v % 65535 = complement16 (csum (front ++ [0, 0] ++ back)) % 65535) :
    csum (front ++ beBytes 2 v ++ back) = 0xFFFF := by
  have hsum (field : List Byte) (hfield : field.length = 2) :
      sum16 (front ++ field ++ back) = sum16 front + sum16 back + sum16 field := by
    rw [List.append_assoc, sum16_append heven, sum16_append (by omega)]
    omega
  rw [csum, hsum _ (length_beBytes 2 v), sum16_beBytes hv]
  rw [csum, hsum _ rfl] at hcomplement
  exact fold16_add_complement (by omega) hcomplement

/-! ### The checksum of an IPv4 header -/

section Header

variable {bs : List Byte} {ip n : Nat}

/-- The checksum that CSIP writes. -/
def headerChecksum (bs : List Byte) (ip n : Nat) : Nat := complement16 (csum (((patch bs (ip + 10) [0, 0]).drop ip).take n))

theorem fixIpv4_eq (hn : 20 ≤ n) (h : ip + n ≤ bs.length) :
    fixIpv4 bs ip n = patch bs (ip + 10) (beBytes 2 (headerChecksum bs ip n)) :=
  patch_patch (length_beBytes ..) (by simp; omega)

/-- The header that CSIP stores leaves the rest of the frame. -/
theorem patch_fixIpv4 (hn : 20 ≤ n) (h : ip + n ≤ bs.length) :
    patch bs ip (((fixIpv4 bs ip n).drop ip).take n) = fixIpv4 bs ip n := by
  rw [fixIpv4_eq hn h]
  exact patch_window (by omega) (by rw [length_beBytes]; omega) h

/-- A header with the checksum that CSIP writes verifies. -/
theorem csum_fixIpv4 (hn : 20 ≤ n) (h : ip + n ≤ bs.length) (hfirst : byteAt bs ip ≠ 0) :
    csum (((fixIpv4 bs ip n).drop ip).take n) = 0xFFFF := by
  have hpos : 0 < sum16 ((bs.drop ip).take 10) := by
    refine Nat.pos_of_ne_zero fun hzero => hfirst ?_
    have hmem := sum16_eq_zero hzero (bs.getD ip 0) ?_
    · rw [byteAt, hmem]; rfl
    · rw [List.getD_eq_getElem _ _ (by omega)]
      exact List.mem_of_getElem? (i := 0) (by simp [List.getElem?_eq_getElem (show ip < bs.length by omega)])
  rw [fixIpv4_eq hn h, window_patch (by omega) (by rw [length_beBytes]; omega) h, length_beBytes]
  refine csum_complemented ?_ ?_ (complement16_lt _) ?_
  · simp; omega
  · simpa using hpos
  · rw [headerChecksum, window_patch (by omega) (by simp; omega) h]
    rfl

end Header

/-! ### The checksum of a UDP datagram -/

section Datagram

variable {bs : List Byte} {i : FrameInfo} {len : Nat}

/-- The checksum of a datagram's pseudo-header and bytes, and as CSUDP writes it. -/
def datagramSum (bs : List Byte) (i : FrameInfo) (len : Nat) : Nat :=
  complement16 (csum (pseudoHeader (patch bs (i.l4Off + 6) [0, 0]) i len ++
    ((patch bs (i.l4Off + 6) [0, 0]).drop i.l4Off).take len))

def datagramChecksum (bs : List Byte) (i : FrameInfo) (len : Nat) : Nat :=
  if datagramSum bs i len = 0 then 0xFFFF else datagramSum bs i len

theorem fixUdp_eq (hlen : 8 ≤ len) (h : i.l4Off + len ≤ bs.length) :
    fixUdp bs i len = patch bs (i.l4Off + 6) (beBytes 2 (datagramChecksum bs i len)) :=
  patch_patch (length_beBytes ..) (by simp; omega)

theorem datagramChecksum_ne_zero : datagramChecksum bs i len ≠ 0 := by
  unfold datagramChecksum
  split
  · decide
  · assumption

theorem datagramChecksum_lt : datagramChecksum bs i len < 2 ^ 16 := by
  unfold datagramChecksum
  split
  · decide
  · exact complement16_lt _

theorem datagramChecksum_mod : datagramChecksum bs i len % 65535 = datagramSum bs i len % 65535 := by
  unfold datagramChecksum
  split
  · next h => rw [h]
  · rfl

theorem be16_patch {k v : Nat} (hk : k + 2 ≤ bs.length) (hv : v < 2 ^ 16) : be16 (patch bs k (beBytes 2 v)) k = v := by
  have hin : k + (beBytes 2 v).length ≤ bs.length := hk
  simp only [be16, byteAt_eq_getElem?, getElem?_patch hin, length_beBytes]
  rw [if_pos (by omega), if_pos (by omega), Nat.sub_self, Nat.add_sub_cancel_left]
  simp [beBytes, leBytes, List.range_succ]
  omega

/-- The pseudo-header of IPv4 is away from the checksum. -/
theorem pseudoHeader_patch {new : List Byte} (hv : i.ipVersion = 4) (hin : i.l4Off + 6 + new.length ≤ bs.length)
    (h : i.ipOff + 20 ≤ i.l4Off) : pseudoHeader (patch bs (i.l4Off + 6) new) i len = pseudoHeader bs i len := by
  simp only [pseudoHeader, if_pos hv, window_patch_before (ip := i.ipOff + 12) (n := 8) hin (by omega)]

theorem length_pseudoHeader (hv : i.ipVersion = 4) (h : i.ipOff + 20 ≤ bs.length) : (pseudoHeader bs i len).length = 12 := by
  simp only [pseudoHeader, if_pos hv, List.length_append, List.length_take, List.length_drop, length_beBytes]
  omega

theorem sum16_pseudoHeader_pos (hv : i.ipVersion = 4) (h : i.ipOff + 20 ≤ bs.length) :
    0 < sum16 (pseudoHeader bs i len) := by
  have height : ((bs.drop (i.ipOff + 12)).take 8).length = 8 := by simp; omega
  rw [pseudoHeader, if_pos hv, List.append_assoc, sum16_append (by omega), sum16_append (by rw [length_beBytes]),
    sum16_beBytes (by decide)]
  omega

/-- A datagram with the checksum that CSUDP writes verifies. -/
theorem csum_fixUdp (hv : i.ipVersion = 4) (hlen : 8 ≤ len) (h : i.l4Off + len ≤ bs.length)
    (hip : i.ipOff + 20 ≤ i.l4Off) :
    csum (pseudoHeader (fixUdp bs i len) i len ++ ((fixUdp bs i len).drop i.l4Off).take len) = 0xFFFF := by
  have hsize := length_pseudoHeader (len := len) hv (show i.ipOff + 20 ≤ bs.length by omega)
  rw [fixUdp_eq hlen h, pseudoHeader_patch hv (by rw [length_beBytes]; omega) hip,
    window_patch (by omega) (by rw [length_beBytes]; omega) h, length_beBytes]
  simp only [← List.append_assoc]
  refine csum_complemented ?_ ?_ datagramChecksum_lt ?_
  · simp [hsize]; omega
  · rw [sum16_append (by omega)]
    exact Nat.add_pos_left (sum16_pseudoHeader_pos hv (by omega)) _
  · rw [datagramChecksum_mod, datagramSum, pseudoHeader_patch hv (by simp; omega) hip,
      window_patch (by omega) (by simp; omega) h]
    simp only [← List.append_assoc]
    rfl

end Datagram

/-! ### Parts of the frame that an instruction reads -/

theorem Context.missingCell_of_part {y : Context} {a n b m : Nat} (h : y.missingCell a n = none) (hab : a ≤ b)
    (hbm : b + m ≤ a + n) : y.missingCell b m = none := by
  unfold Context.missingCell at h ⊢
  split
  · rfl
  · rw [if_neg (by omega)] at h
    simp only [List.find?_eq_none, List.mem_map, List.mem_range, forall_exists_index, and_imp,
      forall_apply_eq_imp_iff₂] at h ⊢
    intro q hq
    rw [show b / 256 + q = a / 256 + (b / 256 - a / 256 + q) by omega]
    exact h _ (by omega)

/-- An access of no byte, or of bytes that are all there and unpoisoned. -/
theorem State.pAccess_of_readable {s : State} {y : Context} {f : Frame} {a n : Nat} {write : Bool} (hf : y.frame = some f)
    (hlen : n = 0 ∨ a + n ≤ f.bytes.length) (hcell : y.missingCell a n = none) (hpo : f.poisonedAt a n write = false)
    (k : Frame → Act) : s.pAccess y a n write k = k f := by
  have hinside : ¬ (n ≠ 0 ∧ f.bytes.length < a + n) := by omega
  simp only [State.pAccess, hf, hcell, hpo, if_neg hinside]
  rfl

/-- Settles O27: each body without its refusals, and the checksums that it then writes. -/
theorem checksumInstructions : Obligations.ChecksumInstructions := by
  intro s p c f hf
  have hwith := withFrame_of_present hf
  refine ⟨fun h hlen hcell hpoison => ?_, fun h => ?_, fun h hv hhead hlen hcell hpoison => ?_, fun h hbad => ?_,
    fun h hfix hudp hlen hin hcell hpoison hv hip => ?_, fun h hudp hfix hlen hparts => ?_, fun h hfix hbad => ?_⟩
  · refine ⟨_, congrArg _ (s.issue_thread _ encCsum readsAB _ _ h (State.pAccess_of_readable hf hlen hcell hpoison _)
      (Thread.executed_setReg ..)), fold16_lt _, fold16_mod _, fold16_eq_zero_iff _⟩
  · exact ⟨_, congrArg _ (s.issue_thread _ encCsadd readsAB _ _ h rfl (Thread.executed_setReg ..)),
      fold16_lt _, fold16_mod _, fold16_eq_zero_iff _⟩
  · have hstore : (f.store f.info.ipOff (((fixIpv4 f.bytes f.info.ipOff (ipv4Header f.bytes f.info.ipOff)).drop
        f.info.ipOff).take (ipv4Header f.bytes f.info.ipOff))).bytes = _ := patch_fixIpv4 hhead hlen
    refine ⟨f.store f.info.ipOff (((fixIpv4 f.bytes f.info.ipOff (ipv4Header f.bytes f.info.ipOff)).drop f.info.ipOff).take
      (ipv4Header f.bytes f.info.ipOff)), ?_, ?_, fun j hlo hhi => ?_, rfl⟩
    · refine congrArg _ (State.issue_writeFrame h ((hwith _).trans ((if_neg ?_).trans ?_)))
      · rintro (hno | hshort | hlong)
        · exact hno hv
        · exact absurd hhead (Nat.not_le.mpr hshort)
        · exact absurd hlen (Nat.not_le.mpr hlong)
      · exact State.pAccess_of_present hf hlen hcell hpoison _
    · rw [hstore]
      exact csum_fixIpv4 hhead hlen (by omega)
    · refine (congrArg (byteAt · j) (hstore.trans (fixIpv4_eq hhead hlen))).trans ?_
      exact byteAt_patch_other (by rw [length_beBytes]; omega) (by rw [length_beBytes]; omega)
  · exact congrArg _ (State.issue_fault h rfl ((hwith _).trans (if_pos hbad)))
  · refine ⟨{ f with bytes := fixUdp f.bytes f.info (be16 f.bytes (f.info.l4Off + 4)) }, ?_, csum_fixUdp hv hlen hin hip, ?_,
      fun j hlo hhi => ?_, rfl⟩
    · refine congrArg _ (State.issue_writeFrame h ((hwith _).trans ?_))
      simp only [hfix, Nat.zero_ne_one, decide_false, Bool.false_eq_true, if_false]
      refine (if_neg (by omega)).trans (State.pReads_of_present fun r hr => ?_)
      simp only [csudpReads, if_pos hv, Bool.false_eq_true, if_false, List.mem_cons, List.not_mem_nil, or_false] at hr
      have hinside : r.1 + r.2 ≤ f.bytes.length := by rcases hr with rfl | rfl <;> dsimp only <;> omega
      exact ⟨Context.missingCell_of_part hcell (Nat.zero_le _) (by omega), Frame.poisonedAt_of_part hpoison (Nat.zero_le _) (by omega)⟩
    · rw [fixUdp_eq hlen hin, be16_patch (by omega) datagramChecksum_lt]
      exact datagramChecksum_ne_zero
    · rw [fixUdp_eq hlen hin]
      exact byteAt_patch_other (by rw [length_beBytes]; omega) (by rw [length_beBytes]; omega)
  · refine congrArg _ (State.issue_writeFrame h ((hwith _).trans ?_))
    simp only [hfix, decide_true, if_true]
    exact (if_neg (by omega)).trans (State.pReads_of_present hparts)
  · refine congrArg _ (State.issue_fault h rfl ((hwith _).trans ?_))
    simp only [hfix, Nat.zero_ne_one, decide_false, Bool.false_eq_true, if_false]
    exact if_pos (by omega)

end Sys2Proof.Machine
end

section
/-!
The issue of the table and token instructions (R117 to R122).
-/
namespace Sys2Proof.Machine

section TableIssue

variable {s : State} {x : Ctx} {e : Enc} {n : Needs} {a size align : Nat} {write : Bool} {k : Act}

theorem tAccess_of_granted (h : s.tFault x a size align write = none) : tAccess s x a size align write k = k := by
  rw [tAccess, h]

theorem tAccess_of_refused {code : Nat} (h : s.tFault x a size align write = some code) :
    tAccess s x a size align write k = .fault s code 0 a := by
  rw [tAccess, h]

theorem State.postStore_of_room {s : State} {bs : List Byte} (h : (s.th x).stores.length < 4) :
    s.postStore x a bs =
      .next (s.setTh x { s.th x with stores := (s.th x).stores ++ [⟨a, bs, (s.th x).op.isSome⟩] }) :=
  if_neg (Nat.not_le.mpr h)

theorem storesFull_eq_false {t : Thread} (h : t.stores.length < 4) : t.storesFull = false :=
  decide_eq_false (Nat.not_le.mpr h)

/-- An instruction of the long kind that issues finds no operation outstanding. -/
theorem State.trapWaits_of_long (h : s.issues x e n = true) (hlong : n.long = true) : s.trapWaits x = false := by
  simp only [State.issues, Thread.mustWait, Bool.and_eq_true, Bool.not_eq_true'] at h
  obtain ⟨-, hwait⟩ := h
  cases hop : (s.th x).op with
  | none => simp [State.trapWaits, hop]
  | some o => simp [hop, hlong] at hwait

/-- An instruction that starts its operation. -/
theorem State.issue_startOp {body : Word → State → Act} {kind : LongKind} {dst : Option Nat} (h : s.issues x e n = true)
    (hb : body (s.fetch x) s = .next (s.startOp x kind dst)) :
    s.issue x e n body = s.ranOn x { s.th x with op := some ⟨kind, dst, (s.th x).pc⟩ } :=
  s.issue_thread x e n body _ h hb rfl

/-- An instruction that posts a store in a state whose thread is as it was. -/
theorem State.issue_postStore {u : State} {body : Word → State → Act} {bs : List Byte} (h : s.issues x e n = true)
    (hb : body (s.fetch x) s = u.postStore x a bs) (hu : u.th x = s.th x) (hroom : (s.th x).stores.length < 4) :
    s.issue x e n body =
      u.ranOn x { s.th x with stores := (s.th x).stores ++ [⟨a, bs, (s.th x).op.isSome⟩] } := by
  have hpost := hb.trans (State.postStore_of_room (hu ▸ hroom))
  rw [State.issue_issues s x e n body h (.inl (by rw [hpost]; rfl)), hpost, ← hu]
  exact u.retire_setTh x _ _ rfl

/-- An instruction that starts its operation and waits for it. -/
theorem State.issue_wait {body : Word → State → Act} {kind : LongKind} {dst : Option Nat} (h : s.issues x e n = true)
    (hb : body (s.fetch x) s = .wait (s.startOp x kind dst)) :
    s.issue x e n body = s.setTh x { s.th x with op := some ⟨kind, dst, (s.th x).pc⟩, status := .waiting } := by
  rw [State.issue_issues s x e n body h (.inl (by rw [hb]; rfl)), hb]
  simp [Act.finish, State.setStatus, State.startOp]

/-- An instruction that stalls. -/
theorem State.issue_block {body : Word → State → Act} {st : BlockCause} (h : s.issues x e n = true)
    (hb : body (s.fetch x) s = .block s st) : s.issue x e n body = s.setStatus x (.blocked st) := by
  rw [State.issue_issues s x e n body h (.inl (by rw [hb]; rfl)), hb]
  rfl

end TableIssue

/-- Settles O28: each instruction's T access is granted or refused, and its body does the rest. -/
theorem tableAndTokenIssue : Obligations.TableAndTokenIssue := by
  intro s x
  refine ⟨fun h ht => ?_, fun h ht hroom => ?_, fun h ht hfull => ?_, fun h ht => ?_, fun h ht => ?_,
    fun h ht hkey => ?_, fun h ht hkey => ?_, fun h ht hlocks => ?_, fun p c hx h ht hheld hroom => ?_,
    fun p c hx h ht hheld => ?_, fun k hx h ht hroom => ?_, fun h hal ht hl => ?_,
    fun p c hx h hal ht hroom hl hpo => ?_, fun h ht htokens => ?_, fun h ht htokens => ?_, fun h ht => ?_,
    fun code h ht => ?_⟩
  · exact congrArg _ (State.issue_startOp h (tAccess_of_granted ht))
  · exact congrArg _ (State.issue_postStore h (tAccess_of_granted ht) rfl hroom)
  · exact congrArg _ (State.issue_block h ((tAccess_of_granted ht).trans (if_pos hfull)))
  · exact congrArg _ (State.issue_startOp h (tAccess_of_granted ht))
  · exact congrArg _ (State.issue_startOp h (tAccess_of_granted ht))
  · exact congrArg _ (State.issue_startOp h ((tAccess_of_granted ht).trans (if_neg hkey)))
  · exact congrArg _ (State.issue_fault h (State.trapWaits_of_long h rfl) ((tAccess_of_granted ht).trans (if_pos hkey)))
  · exact congrArg _ (State.issue_startOp h ((tAccess_of_granted ht).trans (if_neg (Nat.not_le.mpr hlocks))))
  · subst hx
    refine congrArg _ (State.issue_postStore h ((tAccess_of_granted ht).trans ?_) (by simp [State.forgetLock, State.th]) hroom)
    refine (if_pos rfl).trans ((if_neg ?_).trans (if_neg ?_))
    · simpa [State.tileCtx] using hheld
    · simp [storesFull_eq_false hroom]
  · subst hx
    refine congrArg _ (State.issue_fault h rfl ((tAccess_of_granted ht).trans ((if_pos rfl).trans (if_pos ?_))))
    simpa [State.tileCtx] using hheld
  · subst hx
    exact congrArg _ (State.issue_wait h ((tAccess_of_granted ht).trans
      ((if_neg Bool.false_ne_true).trans (if_neg (by simp [storesFull_eq_false hroom])))))
  · refine congrArg _ (State.issue_startOp h ((if_neg (not_not.mpr hal)).trans ((tAccess_of_granted ht).trans ?_)))
    simp only [copySize, hl]
  · subst hx
    refine congrArg _ (State.issue_postStore h ((if_neg (not_not.mpr hal)).trans ((tAccess_of_granted ht).trans ?_)) rfl hroom)
    have hread : s.readL (.tile p c) _ (copySize (s.fetch (.tile p c))) = .ok _ := State.readL_of_permitted hl hpo
    simp only [storesFull_eq_false hroom, hread]
    rfl
  · exact congrArg _ (State.issue_startOp h ((tAccess_of_granted ht).trans (if_neg (Nat.not_le.mpr htokens))))
  · exact congrArg _ (State.issue_fault h (State.trapWaits_of_long h rfl) ((tAccess_of_granted ht).trans (if_pos htokens)))
  · exact congrArg _ (State.issue_startOp h (tAccess_of_granted ht))
  · exact congrArg _ (State.issue_fault h (State.trapWaits_of_long h rfl) (tAccess_of_refused ht))

end Sys2Proof.Machine
end

section
/-!
The disposal of a frame (R123 to R125) and the control instructions (R126).
-/
namespace Sys2Proof.Machine

section Disposal

variable {s : State} {x : Ctx} {k : Act}

theorem dispose_of_idle (h : (s.th x).op = none ∧ (s.th x).stores = [] ∧ (s.tileCtx x).locks = []) : dispose s x k = k := by
  obtain ⟨hop, hstores, hlocks⟩ := h
  simp [dispose, hop, hstores, hlocks]

theorem dispose_of_busy (h : (s.th x).op ≠ none ∨ (s.th x).stores ≠ []) : dispose s x k = .wait s :=
  if_pos (h.imp_left Option.isSome_iff_ne_none.mpr)

theorem dispose_of_locked (hop : (s.th x).op = none) (hstores : (s.th x).stores = []) (hlocks : (s.tileCtx x).locks ≠ []) :
    dispose s x k = .fault s fltTLock 0 0 := by
  simp [dispose, hop, hstores, hlocks]

/-- An instruction of a tile that goes on in another state. -/
theorem State.issue_retire {u : State} {e : Enc} {n : Needs} {body : Word → State → Act} (h : s.issues x e n = true)
    (hb : body (s.fetch x) s = .next u) : s.issue x e n body = u.retire x (nextPc (s.th x).pc) := by
  rw [State.issue_issues s x e n body h (.inl (by rw [hb]; rfl)), hb]
  rfl

/-- An instruction that waits without starting an operation. -/
theorem State.issue_stays {e : Enc} {n : Needs} {body : Word → State → Act} (h : s.issues x e n = true)
    (hb : body (s.fetch x) s = .wait s) : s.issue x e n body = s.setStatus x .waiting := by
  rw [State.issue_issues s x e n body h (.inl (by rw [hb]; rfl)), hb]
  rfl

theorem State.trapWaits_of_isTile (h : isTile x = true) : s.trapWaits x = false := by
  simp [State.trapWaits, h]

/-- A context that ended and retired its last instruction. -/
theorem State.ctx_endContext_retire (s : State) (p : Fin 72) (c : Fin 48) (pc : Nat) :
    ((s.endContext (.tile p c)).retire (.tile p c) pc).ctx p.val c.val =
      { s.ctx p.val c.val with
        frame := none
        th := { (s.ctx p.val c.val).th with
          status := .ending none, pc := pc, executed := (s.ctx p.val c.val).th.executed + 1 } } := by
  simp [State.endContext, State.retire, State.setTh, State.th]

end Disposal

theorem State.ctx_makeNewest (s : State) (p : Fin 72) (c : Fin 48) :
    (s.makeNewest (.tile p c)).ctx p.val c.val = { s.ctx p.val c.val with order := s.gys.order } :=
  s.ctx_setCtx p.val c.val _

/-- Settles O30: what each body does once the disposal may go on, must wait or holds a lock. -/
theorem disposalAndControl : Obligations.DisposalAndControl := by
  intro s x
  refine ⟨fun p c f hx h hf hidle hstale hport hlink => ?_, fun p c f hx h hf hidle => ?_,
    fun p c f hx h hf hidle hring hstale => ?_, fun p c hx h hf hidle => ?_, fun p c hx h hf hidle => ?_,
    fun htile hop hstores hlocks => ⟨fun h => ?_, fun h => ?_, fun h => ?_, fun h => ?_⟩, fun h hbusy => ?_,
    fun h => ?_, fun k hx h => ?_, fun p c hx h => ?_, fun h => ?_, fun h hstores => ?_, fun h hstores => ?_,
    fun h hw => ?_, fun h => ?_, fun h htile hbank => ?_⟩
  · subst hx
    refine congrArg _ (State.issue_retire h ((dispose_of_idle hidle).trans ((withFrame_of_present hf _).trans ?_)))
    simp only [hstale, State.sendOut, hport, hlink]
    rfl
  · subst hx
    refine ⟨_, congrArg Host.Outcome.next (State.issue_retire h
      ((dispose_of_idle hidle).trans (withFrame_of_present hf _))), rfl, ?_, ?_, ?_⟩
    · rw [State.ctx_endContext_retire]
    · rw [State.th, State.ctx_endContext_retire]
    · exact State.fld_bump _ _ _ _ _ (by decide) (by decide)
  · subst hx
    refine congrArg _ (State.issue_retire h ((dispose_of_idle hidle).trans ((withFrame_of_present hf _).trans
      ((if_neg (Nat.not_lt.mpr hring)).trans ?_))))
    simp only [hstale]
    rfl
  · subst hx
    refine congrArg _ (State.issue_retire h ((dispose_of_idle hidle).trans (if_neg ?_)))
    simp [State.tileCtx, hf]
  · subst hx
    refine congrArg _ (State.issue_fault h rfl ((dispose_of_idle hidle).trans (if_pos ?_)))
    simpa [State.tileCtx, Option.isSome_iff_ne_none] using hf
  · exact congrArg _ (State.issue_fault h (State.trapWaits_of_isTile htile) (dispose_of_locked hop hstores hlocks))
  · exact congrArg _ (State.issue_fault h (State.trapWaits_of_isTile htile) (dispose_of_locked hop hstores hlocks))
  · exact congrArg _ (State.issue_fault h (State.trapWaits_of_isTile htile) (dispose_of_locked hop hstores hlocks))
  · exact congrArg _ (State.issue_fault h (State.trapWaits_of_isTile htile) (dispose_of_locked hop hstores hlocks))
  · exact congrArg _ (State.issue_stays h (dispose_of_busy hbusy))
  · exact congrArg _ (State.issue_same h rfl)
  · subst hx
    exact congrArg _ (State.issue_same h rfl)
  · subst hx
    refine ⟨_, congrArg Host.Outcome.next (State.issue_retire h rfl), ?_, rfl, ?_, rfl⟩
    · rw [State.retire, State.setTh, State.ctx_setCtx, State.ctx_makeNewest]
    · rw [State.retire, State.th_setTh, State.th, State.ctx_makeNewest]
      rfl
  · exact congrArg _ (State.issue_same h rfl)
  · exact congrArg _ (State.issue_same h (if_pos hstores))
  · exact congrArg _ (State.issue_stays h (if_neg hstores))
  · exact congrArg _ (State.issue_fault h hw rfl)
  · exact congrArg _ (State.issue_next (u := s.raise _ _ _) h rfl rfl)
  · refine ⟨s.contextItem x (fImm6 (s.fetch x)), congrArg _ (s.issue_thread _ encRdctx _ _ _ h ?_ (Thread.executed_setReg ..)), ?_⟩
    · refine congrArg (fun u : State => Act.next (u.setG _ _ _)) (if_neg ?_)
      simp [hbank, htile]
    · cases x with
      | core k => cases htile
      | tile p c => simp +contextual [State.contextItem, hbank, ctxTile]

end Sys2Proof.Machine
end

section
/-!
The privileged profile of the service cores (R127 to R129).
-/
namespace Sys2Proof.Machine

section Privileged

variable {s : State} {k : Fin 8} {e : Enc} {n : Needs} {body : Word → State → Act}

theorem State.retire_setCore (s : State) (k : Fin 8) (c : CoreState) (pc : Nat) :
    (s.setCore k.val c).retire (.core k) pc =
      s.setCore k.val { c with th := { c.th with pc := pc, executed := c.th.executed + 1 } } := by
  simp [State.retire, State.setTh, State.th]

/-- A core's instruction that changes its core and not its thread. -/
theorem State.issue_setCore {c : CoreState} (h : s.issues (.core k) e n = true)
    (hb : body (s.fetch (.core k)) s = .next (s.setCore k.val c)) (hth : c.th = s.th (.core k)) :
    s.issue (.core k) e n body = s.setCore k.val { c with
      th := { s.th (.core k) with pc := nextPc (s.th (.core k)).pc, executed := (s.th (.core k)).executed + 1 } } := by
  rw [State.issue_retire h hb, State.retire_setCore, hth]

/-- SR_STATUS: the three flags (R128). -/
theorem statusRegister (ie pie inh : Bool) :
    let v := BitVec.ofNat 64 (ofBool ie + 2 * ofBool pie + 4 * ofBool inh)
    v.getLsbD 0 = ie ∧ v.getLsbD 1 = pie ∧ v.getLsbD 2 = inh ∧ v.toNat < 8 := by
  cases ie <;> cases pie <;> cases inh <;> decide

end Privileged

theorem CoreState.th_setSystem (c : CoreState) (i : Nat) (v : Word64) : (c.setSystem i v).th = c.th := by
  unfold CoreState.setSystem
  split <;> rfl

/-- Settles O31: the instructions through what they do to their core, and the entry of an interrupt. -/
theorem privilegedProfile : Obligations.PrivilegedProfile := by
  intro s k
  refine ⟨fun h hno => ?_, fun h hie hirqs => ?_, fun h => ?_, fun h hi => ?_, fun h hi => ?_, fun h => ?_,
    fun h ha hb => ?_, fun h hw hbad => ?_, fun h => ?_, fun v vs hreset hstop hready hie hirqs r => ?_,
    fun hreset hstop hready hdepth hie => ?_⟩
  · refine congrArg Host.Outcome.next (State.issue_setCore (c := { s.core k.val with depth := some (s.depthFor (.core k)) })
      h (if_neg ?_) rfl)
    rintro ⟨hie, hirqs⟩
    exact hno.elim (fun hoff => Bool.false_ne_true (hoff.symm.trans hie)) hirqs
  · exact congrArg _ (State.issue_same h (if_pos ⟨hie, hirqs⟩))
  · refine congrArg Host.Outcome.next ((State.issue_issues s _ encEret noReads _ h (.inl rfl)).trans ?_)
    exact State.retire_setCore s k { s.core k.val with inh := false, ie := (s.core k.val).pie } _
  · refine ⟨s.systemRegister (.core k) (fImm6 (s.fetch (.core k))), congrArg Host.Outcome.next
      (s.issue_thread _ encMfsr noReads _ _ h ?_ (Thread.executed_setReg ..)), ?_⟩
    · simp only [if_neg hi]
      rfl
    · refine ⟨fun h0 => ?_, fun h1 => ?_, fun h2 => ?_, fun h3 => ?_, fun h4 => ?_, fun h5 => ?_, fun h6 => ?_⟩
      · rw [h0]
        exact statusRegister ..
      · rw [h1]; rfl
      · rw [h2]; rfl
      · rw [h3]; rfl
      · rw [h4]; rfl
      · rw [h5]; rfl
      · rw [h6]; rfl
  · refine ⟨s.draw.toNat, congrArg Host.Outcome.next ?_⟩
    refine (State.issue_retire h rfl).trans ?_
    simp only [hi, if_true]
    simp only [State.passCycles, State.setG, State.setTh, State.th, State.retire, State.setCoreOf, State.coreOf,
      State.systemRegister, State.core_setCore, State.setCore_setCore, Thread.executed_setReg]
    rfl
  · refine ⟨(s.core k.val).setSystem (fImm6 (s.fetch (.core k))) (s.g (.core k) (fRa (s.fetch (.core k)))),
      congrArg Host.Outcome.next (State.issue_setCore h rfl ?_), ?_⟩
    · exact CoreState.th_setSystem ..
    · refine ⟨fun h0 => ?_, fun h2 => by rw [h2]; rfl, fun h4 => by rw [h4]; rfl, fun h5 => by rw [h5]; rfl, ?_⟩
      · rw [h0]
        simp only [CoreState.setSystem, BitVec.getLsbD, Nat.testBit_eq_decide_div_mod_eq, Nat.pow_zero, Nat.div_one,
          Nat.pow_one, Nat.reducePow]
      · rintro (h1 | h3 | h6 | h7)
        · rw [h1]; rfl
        · rw [h3]; rfl
        · rw [h6]; rfl
        · rw [h7]; rfl
  · exact congrArg Host.Outcome.next (State.issue_setCore h (if_neg (by simp [ha, hb])) rfl)
  · exact congrArg _ (State.issue_fault h hw (if_pos hbad))
  · exact congrArg Host.Outcome.next (State.issue_setCore h rfl rfl)
  · refine (if_neg ?_).trans ((if_pos ?_).trans ?_)
    · have hst : (s.core k.val).th.status = .ready := hready
      simp [hreset, hstop, hst]
    · exact .inl ⟨by simp [hirqs], .inl hie⟩
    · simp only [State.coreInterrupt, hie, hirqs]
      rfl
  · have hst : (s.core k.val).th.status = .ready := hready
    refine (if_neg (by simp [hreset, hstop, hst])).trans ((if_pos (.inr ⟨rfl, hdepth⟩)).trans ?_)
    simp only [State.coreInterrupt, hie]

end Sys2Proof.Machine
end

section
/-!
Faults of the executors (R131 to R133): the trap of a service core and the end of a tile's context.
-/
namespace Sys2Proof.Machine

/-! ### What an entry of the trouble log changes -/

theorem State.keepsRegs.logEntry {s t : State} {l : List Nat} (h : s.keepsRegs t l) (e : LogEntry)
    (hlost : Reg.REL_LOG_LOST ∈ l := by simp) (hsticky : Reg.REL_STICKY ∈ l := by simp) : s.keepsRegs (t.logEntry e) l :=
  .ite h (.ite h.of_regs ((h.bump hlost).setFlag hsticky))

/-- The two states differ in their registers, raises and waiting log entries alone. -/
def State.SameButReports (s t : State) : Prop := t = { s with regs := t.regs, raised := t.raised, logWait := t.logWait }

namespace State.SameButReports

variable {s t u : State}

theorem of_raises (h : s.SameButRaises t) : s.SameButReports t := by
  unfold State.SameButReports
  rw [h]

theorem trans (h : s.SameButReports t) (h' : t.SameButReports u) : s.SameButReports u := by
  unfold State.SameButReports at *
  rw [h', h]

theorem ite {c : Prop} [Decidable c] (ht : s.SameButReports t) (hu : s.SameButReports u) :
    s.SameButReports (if c then t else u) := by
  split
  · exact ht
  · exact hu

theorem waits {es : List LogEntry} : s.SameButReports { s with logWait := es } := rfl

theorem logEntry (h : s.SameButReports t) (e : LogEntry) : s.SameButReports (t.logEntry e) :=
  .ite h (.ite (h.trans waits) (h.trans (of_raises (.setFlag (.bump .refl)))))

/-- A context set in a state that differs in its reports alone. -/
theorem setCtx_frame (h : s.SameButReports t) (p c : Nat) (y : Context) :
    t.setCtx p c y = { s with regs := t.regs, raised := t.raised, logWait := t.logWait,
                              gys := { s.gys with contexts := (t.setCtx p c y).gys.contexts } } := by
  rw [h]
  rfl

end State.SameButReports

/-! ### The record of a killed context -/

section Kill

variable (s : State) (p c code aux addr : Nat)

theorem State.latchFault_raises : s.SameButRaises (s.latchFault p c code aux addr) := .ite .refl (.wr (.wr (.wr .refl)))

theorem State.recordKill_reports : s.SameButReports (s.recordKill p c code aux addr) := by
  have hlatch : s.SameButReports ((s.bump (Reg.GYS_KILL code) 0 32).latchFault p c code aux addr) :=
    .of_raises (State.SameButRaises.bump .refl |>.trans (State.latchFault_raises ..))
  exact .trans (.ite hlatch (hlatch.logEntry _)) (.of_raises (.sticky .refl))

theorem State.keepsRegs_latchFault : s.keepsRegs (s.latchFault p c code aux addr)
    [Reg.GYS_STICKY, Reg.GYS_FAULT0, Reg.GYS_FAULT1, Reg.GYS_FAULT2, Reg.REL_LOG_LOST, Reg.REL_STICKY] :=
  .ite .refl (.wr (.wr (.wr .refl)))

/-- Once the fault is latched, a kill writes GYS_STICKY and what the log keeps. -/
theorem State.recordKill_keepsRegs_latched :
    ((s.bump (Reg.GYS_KILL code) 0 32).latchFault p c code aux addr).keepsRegs (s.recordKill p c code aux addr)
      [Reg.GYS_STICKY, Reg.REL_LOG_LOST, Reg.REL_STICKY] :=
  .sticky (.ite .refl (.logEntry .refl _))

/-- Once counted, a kill writes the fault registers, GYS_STICKY and what the log keeps. -/
theorem State.recordKill_keepsRegs :
    (s.bump (Reg.GYS_KILL code) 0 32).keepsRegs (s.recordKill p c code aux addr)
      [Reg.GYS_STICKY, Reg.GYS_FAULT0, Reg.GYS_FAULT1, Reg.GYS_FAULT2, Reg.REL_LOG_LOST, Reg.REL_STICKY] :=
  .trans (State.keepsRegs_latchFault _ p c code aux addr) ((s.recordKill_keepsRegs_latched p c code aux addr).mono (by decide))

/-- GYS_FAULT holds a fault once one has been latched. -/
theorem State.flag_latchFault (hp : p < 72) (hc : c < 48) : (s.latchFault p c code aux addr).flag Reg.GYS_FAULT0 31 = true := by
  unfold State.latchFault
  split
  · assumption
  · have hpc : p * 2 ^ 24 ≤ 71 * 2 ^ 24 ∧ c * 2 ^ 18 ≤ 47 * 2 ^ 18 := by omega
    simp only [State.flag, State.rd, State.regs_wr, sparseGet_sparseSet_regs, Reg.GYS_FAULT0, Reg.GYS_FAULT1, Reg.GYS_FAULT2,
      Nat.reduceEqDiff, if_true, if_false, bitAt, BitVec.getLsbD_ofNat, Nat.testBit_eq_decide_div_mod_eq]
    simp
    omega

/-- A kill leaves every register but those it counts and latches in. -/
theorem State.keepsRegs_recordKill : s.keepsRegs (s.recordKill p c code aux addr)
    [Reg.GYS_KILL code, Reg.GYS_STICKY, Reg.GYS_FAULT0, Reg.GYS_FAULT1, Reg.GYS_FAULT2, Reg.REL_LOG_LOST, Reg.REL_STICKY] :=
  .trans (.bump .refl (by simp)) ((s.recordKill_keepsRegs p c code aux addr).mono (by simp))

/-- A kill is counted. -/
theorem State.fld_recordKill (hcode : code < 16) : (s.recordKill p c code aux addr).fld (Reg.GYS_KILL code) 0 32 =
    min (2 ^ 32 - 1) (s.fld (Reg.GYS_KILL code) 0 32 + 1) := by
  refine Eq.trans ?_ (s.fld_bump _ 0 32 1 (by decide) (by decide))
  refine congrArg (bitsAt · 0 32) (s.recordKill_keepsRegs p c code aux addr _ ?_)
  simp only [Reg.GYS_KILL, Reg.GYS_STICKY, Reg.GYS_FAULT0, Reg.GYS_FAULT1, Reg.GYS_FAULT2, Reg.REL_LOG_LOST,
    Reg.REL_STICKY, List.mem_cons, List.not_mem_nil, or_false, not_or]
  omega

/-- A kill leaves GYS_FAULT holding a fault. -/
theorem State.flag_recordKill (hp : p < 72) (hc : c < 48) :
    (s.recordKill p c code aux addr).flag Reg.GYS_FAULT0 31 = true :=
  (congrArg (bitAt · 31) (s.recordKill_keepsRegs_latched p c code aux addr Reg.GYS_FAULT0 (by decide))).trans
    (State.flag_latchFault _ p c code aux addr hp hc)

end Kill

/-- Settles O32: the trap of a core, the record of a killed context, and the words that no encoding fits. -/
theorem faultsOfExecutors : Obligations.FaultsOfExecutors := by
  refine ⟨fun s k code imm addr hinh => ?_, fun s k code imm addr hinh => ?_, fun s p c code imm addr hinit hcode => ?_,
    fun s x hmay hpoison hbudget hop hdef hwaits => ?_, fun s p c hmay hpoison hbudget hop => ?_⟩
  · refine (if_neg (by simp [hinh])).trans ?_
    simp [fltLRange, fltAlign, fltTProt, fltEcc]
  · refine ⟨_, rfl, ?_⟩
    rw [State.faultAt, State.coreTrap, if_pos hinh]
    refine ⟨?_, ?_, .setFlag .refl, rfl⟩
    · exact congrArg CoreState.stopped (s.core_setCore k.val _)
    · exact State.flag_setFlag _ _ _ _ (by omega)
  · refine ⟨_, if_neg (by simp [hinit]), congrArg Context.th (State.ctx_setCtx ..), s.fld_recordKill _ _ _ _ _ hcode,
      State.flag_sticky (by decide), s.flag_recordKill _ _ _ _ _ p.isLt c.isLt, s.keepsRegs_recordKill _ _ _ _ _,
      (s.recordKill_reports ..).setCtx_frame ..⟩
  · have hfault : s.undefinedFault x = some fltIllegal := by
      have hnot : ¬ (isTile x && fOp (s.fetch x) == 0x38) = true := by
        simp only [Bool.and_eq_true, beq_iff_eq, not_and]
        exact fun htile => hop.resolve_left (by simp [htile])
      simp [State.undefinedFault, hpoison, hdef, hnot]
    change execUndefinedEncoding x s = _
    simp only [execUndefinedEncoding, hfault, hmay, hbudget, hwaits]
    rfl
  · have hfault : s.undefinedFault (.tile p c) = some fltPriv := by
      have hpriv : fOp (s.fetch (.tile p c)) = 0x38 := hop
      simp [State.undefinedFault, hpoison, isTile, hpriv]
    change execUndefinedEncoding (.tile p c) s = _
    simp only [execUndefinedEncoding, hfault, hmay, hbudget, State.trapWaits_of_isTile (x := .tile p c) rfl]
    rfl

end Sys2Proof.Machine
end

section
/-!
Requests and contexts (R95, R134 to R138, R153): arrival, start, end, locks of a killed context, and the scan for stale ones.
-/
namespace Sys2Proof.Machine

/-! ### Contexts and their threads -/

theorem State.ctx_setCtx_ne (s : State) {p c q d : Nat} (y : Context) (h : 48 * q + d ≠ 48 * p + c) :
    (s.setCtx p c y).ctx q d = s.ctx q d := by
  simp [State.ctx, State.setCtx, sparseGet_set, h]

/-- The general registers of a context that starts (R95). -/
theorem Request.reg_thread (r : Request) (sus : Bool) (i : Nat) :
    (r.thread sus).reg i = if i = 1 then BitVec.ofNat 64 r.g1 else if i = 2 then BitVec.ofNat 64 r.code else 0 := by
  unfold Thread.reg Request.thread
  simp only [sparseGet_set]
  by_cases h1 : i = 1
  · simp [h1]
  · by_cases h2 : i = 2
    · simp [h2]
    · simp [h1, h2, sparseGet]

/-- The time registers of a context that starts (R95). -/
theorem Request.time_thread (r : Request) (sus : Bool) (i : Nat) :
    (r.thread sus).time i = if i = 0 then r.stamp.time else 0 := by
  unfold Thread.time Request.thread
  simp [sparseGet_set, sparseGet]

theorem State.ctx_startContext (s : State) (p c : Nat) (r : Request) (budget : Nat) :
    (s.startContext p c r budget).ctx p c = r.context (s.marked r.stamp) budget s.gys.order :=
  s.ctx_setCtx p c (r.context (s.marked r.stamp) budget s.gys.order)

theorem State.ctx_startContext_ne (s : State) {p c q d : Nat} (r : Request) (budget : Nat) (h : 48 * q + d ≠ 48 * p + c) :
    (s.startContext p c r budget).ctx q d = s.ctx q d :=
  s.ctx_setCtx_ne (r.context (s.marked r.stamp) budget s.gys.order) h

/-! ### A request dropped at its arrival -/

theorem State.checkOld_of_none {s : State} (h : s.gys.oldBank = none) : s.checkOld = s := by
  rw [State.checkOld, h]

/-- A request dropped at its arrival is counted, and reported once. -/
def State.dropCounted (s : State) (k : Nat) : State := (s.bump (Reg.GYS_ADMDROP k) 0 32).gysSticky stAdmitDrop

theorem State.dropCounted_raises (s : State) (k : Nat) : s.SameButRaises (s.dropCounted k) := .sticky (.bump .refl)

theorem State.keepsRegs_dropCounted (s : State) (k : Nat) :
    s.keepsRegs (s.dropCounted k) [Reg.GYS_ADMDROP k, Reg.GYS_STICKY] := .sticky (.bump .refl (by simp)) (by simp)

theorem State.fld_dropCounted (s : State) {k : Nat} (hk : k < 4) : (s.dropCounted k).fld (Reg.GYS_ADMDROP k) 0 32 =
    min (2 ^ 32 - 1) (s.fld (Reg.GYS_ADMDROP k) 0 32 + 1) := by
  refine Eq.trans ?_ (s.fld_bump _ 0 32 1 (by decide) (by decide))
  refine congrArg (bitsAt · 0 32) (State.rd_sticky_ne ?_)
  simp only [Reg.GYS_ADMDROP, Reg.GYS_STICKY]
  omega

theorem State.admitDrop_of_none {s : State} (h : s.gys.oldBank = none) (k : Nat) : s.admitDrop k = s.dropCounted k := by
  refine State.checkOld_of_none ?_
  rw [← State.dropCounted, s.dropCounted_raises k]
  exact h

/-! ### The scan for stale requests and contexts (R138) -/

/-- The registers that a scan may write. -/
def scanRegs : List Nat :=
  [Reg.GYS_STALE 0, Reg.GYS_STALE 1, Reg.GYS_STALE 2, Reg.GYS_STALE 3, Reg.GYS_KILL 0x10, Reg.GYS_STICKY, Reg.GYS_STATUS,
    Reg.GYS_FAULT0, Reg.GYS_FAULT1, Reg.GYS_FAULT2]

/-- A state that a scan may have reached from another. -/
structure State.Scanned (s t : State) : Prop where
  regs : s.keepsRegs t scanRegs
  cal : t.cal = s.cal
  pool : t.gys.pool = s.gys.pool
  l : t.gys.l = s.gys.l

namespace State.Scanned

variable {s t u : State}

theorem refl : s.Scanned s := ⟨.refl, rfl, rfl, rfl⟩

theorem trans (h : s.Scanned t) (h' : t.Scanned u) : s.Scanned u :=
  ⟨h.regs.trans h'.regs, h'.cal.trans h.cal, h'.pool.trans h.pool, h'.l.trans h.l⟩

theorem of_raises (h : s.SameButRaises t) (hregs : s.keepsRegs t scanRegs) : s.Scanned t := by
  rw [State.SameButRaises] at h
  exact ⟨hregs, by rw [h], by rw [h], by rw [h]⟩

/-- A scan changes nothing that the age of a request depends on. -/
theorem stale (h : s.Scanned t) (k : Nat) {pclass : Nat} (hclass : pclass < 4) (t0 : CT96) :
    t.stale k pclass t0 = s.stale k pclass t0 := by
  have hreg : t.rd (Reg.GYS_CLSL pclass) = s.rd (Reg.GYS_CLSL pclass) := h.regs _ (by
    interval_cases pclass <;> decide)
  rw [State.stale, State.stale, State.fld, State.fld, hreg, State.ageOf, State.ageOf, State.stamp, State.stamp, State.replica,
    State.replica, h.cal]

theorem staleRequest (h : s.Scanned t) {r : Request} (hclass : r.pclass < 4) : t.staleRequest r = s.staleRequest r := by
  rw [State.staleRequest, h.stale _ hclass]
  rfl

theorem staleContext (h : s.Scanned t) {y : Context} (hclass : y.pclass < 4) : t.staleContext y = s.staleContext y := by
  rw [State.staleContext, h.stale _ hclass]
  rfl

theorem phys (h : s.Scanned t) (l : Fin 64) : t.phys l.val = s.phys l.val := by
  have hreg : t.rd (Reg.GYS_MAP l.val) = s.rd (Reg.GYS_MAP l.val) := h.regs _ (by decide +revert)
  simp only [State.phys, State.fld, hreg]

end State.Scanned

section Scan

variable {s t : State} {l : Nat}

theorem State.checkOld_contexts (s : State) : s.checkOld.gys.contexts = s.gys.contexts := by
  unfold State.checkOld
  split
  · rfl
  · split <;> rfl

theorem State.checkOld_queued (s : State) : s.checkOld.gys.queued = s.gys.queued := by
  unfold State.checkOld
  split
  · rfl
  · split <;> rfl

theorem State.scanned_checkOld (s : State) : s.Scanned s.checkOld := by
  unfold State.checkOld
  split
  · exact .refl
  · split
    · exact .refl
    · exact ⟨.setFlag .refl, rfl, rfl, rfl⟩

/-- A stale request is counted. -/
def State.staleCounted (s : State) (k : Nat) : State := (s.bump (Reg.GYS_STALE k) 0 32).gysSticky stStale

theorem State.staleCounted_raises (s : State) (k : Nat) : s.SameButRaises (s.staleCounted k) := .sticky (.bump .refl)

theorem State.scanned_staleCounted (s : State) {k : Nat} (hk : k < 4) : s.Scanned (s.staleCounted k) := by
  refine .of_raises (s.staleCounted_raises k) (.sticky (.bump .refl ?_))
  interval_cases k <;> decide

/-- Dropping a request takes it from the queue and changes no context. -/
theorem State.scanned_drop (s : State) (r : Request) {k : Nat} (hk : k < 4) :
    s.Scanned ((s.unqueue r).staleDrop k) ∧ ((s.unqueue r).staleDrop k).gys.contexts = s.gys.contexts ∧
      ((s.unqueue r).staleDrop k).gys.queued = s.gys.queued.erase r := by
  have hcount := (s.unqueue r).staleCounted_raises k
  have hunqueue : s.Scanned (s.unqueue r) := ⟨.refl, rfl, rfl, rfl⟩
  refine ⟨(hunqueue.trans (State.scanned_staleCounted _ hk)).trans (State.scanned_checkOld _),
    (State.checkOld_contexts _).trans ?_, (State.checkOld_queued _).trans ?_⟩
  · exact congrArg (·.gys.contexts) hcount
  · exact congrArg (·.gys.queued) hcount

/-- Another class's head stays when a request is taken from the queue. -/
theorem queueHead_erase {q : List Request} {r : Request} {l j : Nat} (hj : r.pclass ≠ j) :
    ((q.erase r).filter (·.tile == l)).find? (fun e => e.pclass == j) =
      (q.filter (·.tile == l)).find? (fun e => e.pclass == j) := by
  induction q with
  | nil => rfl
  | cons a q ih =>
    rw [List.erase_cons]
    split
    · next ha =>
      rw [eq_of_beq ha, List.filter_cons]
      split
      · simp [hj]
      · rfl
    · simp only [List.filter_cons]
      split
      · simp only [List.find?_cons, ih]
      · exact ih

theorem length_queuedOn_erase {q : List Request} {r : Request} {l : Nat} (hr : r ∈ q) (hl : r.tile = l) :
    ((q.erase r).filter (·.tile == l)).length + 1 = (q.filter (·.tile == l)).length := by
  have hperm := ((List.perm_cons_erase hr).filter (·.tile == l)).length_eq
  rw [hperm, List.filter_cons_of_pos (by simp [hl]), List.length_cons]

/-- The scan of one class leaves a head that is not stale, and the other classes' heads. -/
theorem State.scanQueue_spec {k : Nat} (hk : k < 4) : ∀ (n : Nat) (s : State), (s.queuedOn l).length ≤ n →
    s.Scanned (s.scanQueue l k n) ∧ (s.scanQueue l k n).gys.contexts = s.gys.contexts ∧
      ((s.scanQueue l k n).queuedOn l).length ≤ (s.queuedOn l).length ∧
      (∀ j, j ≠ k → (s.scanQueue l k n).queueHead l j = s.queueHead l j) ∧
      (∀ r, (s.scanQueue l k n).queueHead l k = some r → (s.scanQueue l k n).staleRequest r = false) := by
  intro n
  induction n with
  | zero =>
    intro s hs
    have hempty : s.queuedOn l = [] := List.eq_nil_of_length_eq_zero (by omega)
    exact ⟨.refl, rfl, le_rfl, fun _ _ => rfl, fun r hr => by
      rw [State.scanQueue, State.queueHead, hempty] at hr
      cases hr⟩
  | succ n ih =>
    intro s hs
    rw [State.scanQueue]
    split
    · next hhead => exact ⟨.refl, rfl, le_rfl, fun _ _ => rfl, fun r hr => by simp [hhead] at hr⟩
    · next r hhead =>
      split
      · obtain ⟨hscan, hcontexts, hqueued⟩ := s.scanned_drop r hk
        have hmem : r ∈ s.queuedOn l := List.mem_of_find?_eq_some hhead
        have hclass : r.pclass = k := by simpa using List.find?_some hhead
        obtain ⟨hqueue, htile⟩ := List.mem_filter.mp hmem
        have hlength : (((s.unqueue r).staleDrop k).queuedOn l).length + 1 = (s.queuedOn l).length := by
          rw [State.queuedOn, hqueued]
          exact length_queuedOn_erase hqueue (by simpa using htile)
        obtain ⟨hscan', hcontexts', hlength', hother, hhead'⟩ := ih ((s.unqueue r).staleDrop k) (by omega)
        refine ⟨hscan.trans hscan', hcontexts'.trans hcontexts, by omega, fun j hj => (hother j hj).trans ?_, hhead'⟩
        rw [State.queueHead, State.queuedOn, hqueued]
        exact queueHead_erase (by omega)
      · next hfresh =>
        exact ⟨.refl, rfl, le_rfl, fun _ _ => rfl, fun q hq => by
          rw [← Option.some.inj (hhead.symm.trans hq)]; simpa using hfresh⟩

/-- No request at the head of a class's queue is stale. -/
def State.headFresh (s : State) (l k : Nat) : Prop := ∀ r, s.queueHead l k = some r → s.staleRequest r = false

/-- A head that is not stale stays so while other classes are scanned. -/
theorem State.headFresh.of_scanned {u : State} {k : Nat} (h : t.headFresh l k) (hk : k < 4) (hscan : t.Scanned u)
    (hhead : u.queueHead l k = t.queueHead l k) : u.headFresh l k := by
  intro r hr
  have hclass : r.pclass = k := by simpa using List.find?_some hr
  rw [hscan.staleRequest (by omega)]
  exact h r (hhead ▸ hr)

/-- The scans of the four classes of a tile. -/
def State.queuesScanned (s : State) (l n : Nat) : State := (List.range 4).foldl (fun t k => t.scanQueue l k n) s

theorem State.queuesScanned_eq (s : State) (l n : Nat) :
    s.queuesScanned l n = (((s.scanQueue l 0 n).scanQueue l 1 n).scanQueue l 2 n).scanQueue l 3 n := by
  simp only [State.queuesScanned, List.range_succ, List.range_zero, List.nil_append, List.foldl_append, List.foldl_cons,
    List.foldl_nil]

theorem State.queuesScanned_spec (s : State) (l n : Nat) (hs : (s.queuedOn l).length ≤ n) :
    s.Scanned (s.queuesScanned l n) ∧ (s.queuesScanned l n).gys.contexts = s.gys.contexts ∧
      ∀ k < 4, ∀ r, (s.queuesScanned l n).queueHead l k = some r → (s.queuesScanned l n).staleRequest r = false := by
  rw [State.queuesScanned_eq]
  obtain ⟨h0, hc0, hn0, -, hr0⟩ := State.scanQueue_spec (l := l) (k := 0) (by decide) n s hs
  obtain ⟨h1, hc1, hn1, ho1, hr1⟩ := State.scanQueue_spec (l := l) (k := 1) (by decide) n (s.scanQueue l 0 n) (by omega)
  obtain ⟨h2, hc2, hn2, ho2, hr2⟩ := State.scanQueue_spec (l := l) (k := 2) (by decide) n _ (hn1.trans (hn0.trans hs))
  obtain ⟨h3, hc3, -, ho3, hr3⟩ :=
    State.scanQueue_spec (l := l) (k := 3) (by decide) n _ (hn2.trans (hn1.trans (hn0.trans hs)))
  refine ⟨((h0.trans h1).trans h2).trans h3, hc3.trans (hc2.trans (hc1.trans hc0)), fun k hk => ?_⟩
  have hf2 := State.headFresh.of_scanned hr2 (by decide) h3 (ho3 2 (by decide))
  have hf1 := State.headFresh.of_scanned hr1 (by decide) (h2.trans h3) ((ho3 1 (by decide)).trans (ho2 1 (by decide)))
  have hf0 := State.headFresh.of_scanned hr0 (by decide) ((h1.trans h2).trans h3)
    ((ho3 0 (by decide)).trans ((ho2 0 (by decide)).trans (ho1 0 (by decide))))
  interval_cases k
  · exact hf0
  · exact hf1
  · exact hf2
  · exact hr3

/-- The end of a stale context is counted and latched. -/
def State.staleEndCounted (s : State) (p c : Nat) : State :=
  (((s.bump (Reg.GYS_STALE (s.ctx p c).pclass) 0 32).bump (Reg.GYS_KILL 0x10) 0 32).gysSticky stStale).latchFault p c 0x10
    (s.ctx p c).locks.length 0

theorem State.staleEndCounted_raises (s : State) (p c : Nat) : s.SameButRaises (s.staleEndCounted p c) :=
  .trans (.sticky (.bump (.bump .refl))) (State.latchFault_raises ..)

theorem State.keepsRegs_staleEndCounted (s : State) {p c : Nat} (hclass : (s.ctx p c).pclass < 4) :
    s.keepsRegs (s.staleEndCounted p c) scanRegs := by
  have hstale : Reg.GYS_STALE (s.ctx p c).pclass ∈ scanRegs := by
    generalize (s.ctx p c).pclass = k at hclass
    interval_cases k <;> decide
  have hcounted : s.keepsRegs (((s.bump (Reg.GYS_STALE (s.ctx p c).pclass) 0 32).bump (Reg.GYS_KILL 0x10) 0 32).gysSticky
    stStale) scanRegs := .sticky (.bump (.bump .refl hstale))
  exact .ite hcounted (.wr (.wr (.wr hcounted)))

/-- A context that is stale ends. -/
theorem State.staleEnd_spec (s : State) {p c : Nat} (hclass : (s.ctx p c).pclass < 4) :
    s.Scanned (s.staleEnd p c) ∧ (s.staleEnd p c).gys.queued = s.gys.queued ∧
      (s.staleEnd p c).ctx p c = (s.ctx p c).killed 0x10 ∧
      ∀ d, d ≠ c → (s.staleEnd p c).ctx p d = s.ctx p d := by
  have hraises := s.staleEndCounted_raises p c
  have hctx (d : Nat) : (s.staleEndCounted p c).ctx p d = s.ctx p d := by
    rw [hraises]
    rfl
  obtain ⟨hregs, hcal, hpool, hl⟩ := State.Scanned.of_raises hraises (s.keepsRegs_staleEndCounted hclass)
  exact ⟨⟨hregs.of_regs, hcal, hpool, hl⟩, congrArg (·.gys.queued) hraises, State.ctx_setCtx ..,
    fun d hd => (State.ctx_setCtx_ne _ _ (by omega)).trans (hctx d)⟩

/-- The scan of the contexts of a tile. -/
def State.contextsScanned (s : State) (p n : Nat) : State :=
  (List.range n).foldl (fun t c => if t.staleContext (t.ctx p c) then t.staleEnd p c else t) s

theorem State.contextsScanned_spec (s : State) (p n : Nat) (hclass : ∀ c < n, (s.ctx p c).pclass < 4) :
    s.Scanned (s.contextsScanned p n) ∧ (s.contextsScanned p n).gys.queued = s.gys.queued ∧
      ∀ c, (s.contextsScanned p n).ctx p c =
        if c < n ∧ s.staleContext (s.ctx p c) = true then (s.ctx p c).killed 0x10 else s.ctx p c := by
  induction n with
  | zero => exact ⟨.refl, rfl, fun c => (if_neg (by omega)).symm⟩
  | succ n ih =>
    obtain ⟨hscan, hqueued, hctx⟩ := ih fun c hc => hclass c (by omega)
    have hn : (s.contextsScanned p n).ctx p n = s.ctx p n := (hctx n).trans (if_neg (by omega))
    have hstale := hscan.staleContext (hclass n (by omega))
    rw [State.contextsScanned, List.range_succ, List.foldl_append, ← State.contextsScanned, List.foldl_cons, List.foldl_nil,
      hn, hstale]
    split
    · next hyes =>
      obtain ⟨hscan', hqueued', hsame, hother⟩ := (s.contextsScanned p n).staleEnd_spec (p := p) (c := n) (hn ▸ hclass n (by omega))
      refine ⟨hscan.trans hscan', hqueued'.trans hqueued, fun c => ?_⟩
      by_cases hc : c = n
      · rw [hc, hsame, hn, if_pos ⟨by omega, hyes⟩]
      · simp only [hother c hc, hctx, show c < n + 1 ↔ c < n by omega]
    · next hno =>
      refine ⟨hscan, hqueued, fun c => ?_⟩
      by_cases hc : c = n
      · rw [hc, hn, if_neg fun h => hno h.2]
      · simp only [hctx, show c < n + 1 ↔ c < n by omega]

end Scan

/-! ### The commands -/

/-- The crosspoint's queue without a request that has reached its tile. -/
def State.arrived (s : State) (rest : List Request) : State := { s with net := { s.net with toArray := rest } }

/-- What becomes of the oldest request for a cluster. -/
theorem exec_requestArrive_of_first {s : State} {k : Fin 8} {r : Request} {rest : List Request}
    (harr : s.net.toArray = r :: rest) (htile : r.tile / 8 = k.val) (hruns : s.xqRuns (0x20 + k.val) = true) :
    exec (.requestArrive k) s = .next (if r.isFrame && s.draining r.tile then
        ((s.arrived rest).moveFrames r.tile [r]).checkOld
      else if s.draining r.tile && !s.hostDrained r.tile then (s.arrived rest).admitDrop r.pclass
      else (s.arrived rest).enqueueRequest r) := by
  change execRequestArrive k s = _
  have hfirst : s.net.toArray.find? (fun r => clusterOf r.tile == k.val) = some r := by
    rw [harr, List.find?_cons_of_pos (by simpa using htile)]
  have hrest : s.net.toArray.erase r = rest := by rw [harr, List.erase_cons_head]
  simp only [execRequestArrive, hfirst, hruns, hrest, Bool.true_eq_false, if_false]
  split
  · next hframe => exact congrArg _ (if_pos hframe).symm
  · next hframe =>
    split
    · next hdrain => exact congrArg _ ((if_neg hframe).trans (if_pos hdrain)).symm
    · next hdrain => exact congrArg _ ((if_neg hframe).trans (if_neg hdrain)).symm

/-- A context is started or a stale request dropped. -/
theorem exec_contextStart_of_next {s : State} {p : Fin 72} {c : Fin 48} {l : Nat} {r : Request}
    (hl : s.logical p.val = some l) (hused : (s.ctx p.val c.val).used = false) (hcluster : s.clusterRuns (l / 8) = true)
    (howed : ∀ e ∈ s.gys.initOwed, e.1 ≠ l ∨ e.2.2 = true) (hnext : s.nextRequest p.val l = some r) :
    exec (.contextStart p c) s = .next (if s.staleRequest r then (s.unqueue r).staleDrop r.pclass
      else (s.unqueue r).startContext p.val c.val r (s.fld (Reg.GYS_CLSL r.pclass) 16 16)) := by
  have hfree : ¬ ((s.ctx p.val c.val).used = true ∨ s.clusterRuns (clusterOf l) = false ∨
      s.gys.initOwed.any (fun e => e.1 == l && !e.2.2) = true) := by
    rintro (h | h | h)
    · simp [hused] at h
    · simp [hcluster] at h
    · obtain ⟨e, he, hbad⟩ := List.any_eq_true.mp h
      rcases howed e he with hne | hdone
      · simp [hne] at hbad
      · simp [hdone] at hbad
  change execContextStart p c s = _
  simp only [execContextStart, hl, if_neg hfree, hnext]
  split <;> rfl

/-- The locks of a killed context that has nothing outstanding. -/
theorem exec_killLockHandling_of_ended {s : State} {p : Fin 72} {c : Fin 48} {code : Nat}
    (hst : (s.th (.tile p c)).status = .ending (some code)) (hop : (s.th (.tile p c)).op = none)
    (hstores : (s.th (.tile p c)).stores = []) :
    exec (.killLockHandling p c) s = .next
      ((s.handleLocks (s.ctx p.val c.val).bank code (s.ctx p.val c.val).locks).setCtx p.val c.val
        { s.ctx p.val c.val with locks := [] }) := by
  change execKillLockHandling p c s = _
  have hst' : (s.ctx p.val c.val).th.status = .ending (some code) := hst
  simp only [execKillLockHandling, hst']
  refine if_neg ?_
  rw [State.th] at hop hstores
  simp [hop, hstores]

/-- Settles O35: each command's branch, and the scan by induction on the requests and the contexts it visits. -/
theorem requestsAndContexts : Obligations.RequestsAndContexts := by
  refine ⟨fun s k r rest harr htile hruns hdrain hon hbank hroom hall => ?_,
    fun s k r rest harr htile hruns hdrain hoff hold hclass => ?_,
    fun s p c l r hl hused hcluster howed hnext hfresh => ?_, fun s p c l r hl hused hcluster howed hnext hstale => ?_,
    fun s p c k hst hop hstores hlocks hinit hold => ?_, fun s p c code a hst hop hstores hlocks hrel => ?_,
    fun s p c code a hst hop hstores hlocks hrel => ?_, fun s l hlen hclass => ?_⟩
  · refine (exec_requestArrive_of_first harr htile hruns).trans (congrArg _ ?_)
    have hhere : (r.isFrame && s.draining r.tile) = false ∧ (s.draining r.tile && !s.hostDrained r.tile) = false := by
      rcases hdrain with h | ⟨h, h'⟩
      · simp [h]
      · simp [h, h']
    rw [hhere.1, hhere.2]
    refine (if_neg Bool.false_ne_true).trans ((if_neg Bool.false_ne_true).trans ((if_neg ?_).trans (if_neg ?_)))
    · rintro (h | h)
      · exact Bool.false_ne_true (h.symm.trans hon)
      · exact hbank h
    · rintro (h | h)
      · exact absurd hroom (Nat.not_lt.mpr h)
      · exact absurd hall (Nat.not_lt.mpr h)
  · have hexec : exec (.requestArrive k) s = .next ((s.arrived rest).dropCounted r.pclass) := by
      rw [← State.admitDrop_of_none (s := s.arrived rest) hold]
      refine (exec_requestArrive_of_first harr htile hruns).trans (congrArg _ ?_)
      rw [if_neg (by cases hf : r.isFrame <;> simp_all)]
      split
      · rfl
      · next hgo =>
        refine if_pos (.inl (hoff.resolve_right ?_))
        rintro ⟨hyes, hno⟩
        exact hgo (by simp [hyes, hno])
    refine ⟨_, hexec, ?_, State.flag_sticky (by decide), (s.arrived rest).fld_dropCounted hclass,
      (s.arrived rest).keepsRegs_dropCounted r.pclass, (s.arrived rest).dropCounted_raises r.pclass⟩
    rw [(s.arrived rest).dropCounted_raises r.pclass]
    rfl
  · refine ⟨_, (exec_contextStart_of_next hl hused hcluster howed hnext).trans (congrArg _ (if_neg (by simp [hfresh]))), ?_⟩
    have hctx := (s.unqueue r).ctx_startContext p.val c.val r (s.fld (Reg.GYS_CLSL r.pclass) 16 16)
    simp only [State.th, State.g, State.t, hctx]
    refine ⟨rfl, rfl, ?_, ?_, ?_, ?_, ?_, ?_, rfl, rfl, rfl, rfl, ?_, rfl⟩
    · exact Request.reg_thread ..
    · exact Request.reg_thread ..
    · exact fun i h1 h2 => (Request.reg_thread ..).trans ((if_neg h1).trans (if_neg h2))
    · exact Request.time_thread ..
    · exact fun i h0 => (Request.time_thread ..).trans (if_neg h0)
    · cases hs : (s.unqueue r).marked r.stamp <;>
        simp [Thread.flags, ofBool, Request.context, Request.thread, Thread.reset, show s.marked r.stamp = _ from hs]
    · intro q d hne
      refine State.ctx_startContext_ne _ _ _ fun heq => hne ?_
      exact Prod.ext (Fin.ext (by dsimp only; omega)) (Fin.ext (by dsimp only; omega))
  · exact (exec_contextStart_of_next hl hused hcluster howed hnext).trans (congrArg _ (if_pos hstale))
  · have hfinished : (s.ctx p.val c.val).finished = true := by
      have hst' : (s.ctx p.val c.val).th.status = .ending k := hst
      have hop' : (s.ctx p.val c.val).th.op = none := hop
      have hstores' : (s.ctx p.val c.val).th.stores = [] := hstores
      rcases hlocks with rfl | hlocks <;> simp [Context.finished, *]
    have hended : (s.setCtx p.val c.val Context.reset).initEnded (s.ctx p.val c.val) = s.setCtx p.val c.val Context.reset :=
      if_neg (by simp [hinit])
    refine (if_pos hfinished).trans (congrArg _ ?_)
    rw [hended]
    exact State.checkOld_of_none hold
  · rw [exec_killLockHandling_of_ended hst hop hstores, hlocks, State.handleLocks, State.handleLocks, State.handleLock, if_pos hrel]
  · rw [exec_killLockHandling_of_ended hst hop hstores, hlocks, State.handleLocks, State.handleLocks, State.handleLock,
      if_neg (by simp [hrel])]
    rfl
  · obtain ⟨hscan, hcontexts, hfresh⟩ := s.queuesScanned_spec l.val 1024 hlen
    have hctx (p c : Nat) : (s.queuesScanned l.val 1024).ctx p c = s.ctx p c := by rw [State.ctx, hcontexts]; rfl
    obtain ⟨hscan', hqueued, hctx'⟩ := (s.queuesScanned l.val 1024).contextsScanned_spec (s.phys l.val) 48 fun c hc =>
      (hctx _ _).symm ▸ hclass ⟨c, hc⟩
    have hexec : exec (.staleScan l) s = .next ((s.queuesScanned l.val 1024).contextsScanned (s.phys l.val) 48) := by
      rw [← hscan.phys l]
      rfl
    refine ⟨_, hexec, fun k hk r hr => ?_, fun c hstale => ?_, fun c hlive => ?_, ?_, ?_⟩
    · have hhead : (s.queuesScanned l.val 1024).queueHead l.val k = some r := by
        rwa [State.queueHead, State.queuedOn, hqueued] at hr
      have hclassr : r.pclass = k := by simpa using List.find?_some hhead
      exact (hscan.staleRequest (by omega)).symm.trans (hfresh k hk r hhead)
    · have hstale' := (hscan.staleContext (hclass c)).trans hstale
      rw [hctx', hctx, if_pos ⟨c.isLt, hstale'⟩]
      rfl
    · have hlive' := (hscan.staleContext (hclass c)).trans hlive
      rw [hctx', hctx, if_neg (by simp [hlive'])]
    · exact (hscan.trans hscan').pool
    · exact (hscan.trans hscan').l

end Sys2Proof.Machine
end

section
/-!
Tiles and timers (R133 to R155): core faults and scans, timers, init contexts, drains and quotas.
-/
namespace Sys2Proof.Machine

/-! ### Queues that lose and move requests -/

/-- Every request queued is of one of the four classes. -/
def State.fourClasses (s : State) : Prop := ∀ r ∈ s.gys.queued, r.pclass < 4

/-- What the drain of a tile keeps of the machine: it may set bits of GYS_MAP and never clears one. -/
structure State.Drained (s t : State) : Prop where
  contexts : t.gys.contexts = s.gys.contexts
  coreFault : t.gys.coreFault = s.gys.coreFault
  pool : t.gys.pool = s.gys.pool
  l : t.gys.l = s.gys.l
  raised : ∀ r ∈ s.raised, r ∈ t.raised
  maps : ∀ m < 64, ∀ b, s.flag (Reg.GYS_MAP m) b = true → t.flag (Reg.GYS_MAP m) b = true
  classes : t.fourClasses

theorem State.raised_sticky {s : State} {o en i src : Nat} {w x : Word} : ∀ r ∈ s.raised, r ∈ (s.sticky o en i src w x).raised := by
  intro r hr
  unfold State.sticky
  split
  · exact hr
  · dsimp only
    split
    · exact List.mem_append_left _ hr
    · exact hr

theorem State.gys_sticky {s : State} {o en i src : Nat} {w x : Word} : (s.sticky o en i src w x).gys = s.gys := by
  unfold State.sticky
  split
  · rfl
  · dsimp only
    split <;> rfl

/-- A bit set leaves every bit that is set. -/
theorem State.flag_setFlag_mono {s : State} {o i o' i' : Nat} (hi : i < 32) (h : s.flag o' i' = true) :
    (s.setFlag o i true).flag o' i' = true := by
  by_cases hsame : o' = o ∧ i' = i
  · rw [hsame.1, hsame.2, s.flag_setFlag _ _ _ hi]
  · rw [State.flag_setFlag_other _ _ _ _ _ _ (by tauto), h]

/-- What a drain leaves queued on its tile: nothing after a fault, else the requests that are no frames. -/
def State.drainKept (s : State) (l : Nat) : State :=
  let t := s.setFlag (Reg.GYS_MAP l) 30 true
  let keep := if t.coreFaulted l then [] else (t.queuedOn l).filter fun r => !r.isFrame
  { t with gys := { t.gys with queued := t.gys.queued.filter (·.tile != l) ++ keep } }

/-- The frames that a drain moves. -/
def State.drainFrames (s : State) (l : Nat) : List Request :=
  ((s.setFlag (Reg.GYS_MAP l) 30 true).queuedOn l).filter Request.isFrame

/-- The requests that a drain drops. -/
def State.drainLost (s : State) (l : Nat) : List Request :=
  let t := s.setFlag (Reg.GYS_MAP l) 30 true
  if t.coreFaulted l then (t.queuedOn l).filter fun r => !r.isFrame else []

theorem State.drainTile_eq (s : State) (l : Nat) : s.drainTile l =
    (((s.drainKept l).moveFrames l (s.drainFrames l)).dropRequests (s.drainLost l)).checkOld := rfl

theorem State.queuedOn_classes {s : State} (h : s.fourClasses) (l : Nat) (p : Request → Bool) :
    ∀ r ∈ (s.queuedOn l).filter p, r.pclass < 4 := fun r hr => h r (List.mem_filter.mp (List.mem_filter.mp hr).1).1

theorem State.drainFrames_classes {s : State} (h : s.fourClasses) (l : Nat) : ∀ r ∈ s.drainFrames l, r.pclass < 4 :=
  State.queuedOn_classes h l _

theorem State.drainLost_classes {s : State} (h : s.fourClasses) (l : Nat) : ∀ r ∈ s.drainLost l, r.pclass < 4 := by
  intro r hr
  unfold State.drainLost at hr
  dsimp only at hr
  split at hr
  · exact State.queuedOn_classes (s := s.setFlag (Reg.GYS_MAP l) 30 true) h l _ r hr
  · cases hr

/-- A request that a drain leaves is of another tile, or no frame. -/
theorem State.mem_drainKept {s : State} {l : Nat} {r : Request} (hr : r ∈ (s.drainKept l).gys.queued) :
    r ∈ s.gys.queued ∧ (r.tile ≠ l ∨ r.isFrame = false) := by
  rcases List.mem_append.mp hr with hother | hkeep
  · obtain ⟨hold, htile⟩ := List.mem_filter.mp hother
    exact ⟨hold, .inl (by simpa using htile)⟩
  · split at hkeep
    · cases hkeep
    · obtain ⟨hmine, hframe⟩ := List.mem_filter.mp hkeep
      exact ⟨(List.mem_filter.mp hmine).1, .inr (by simpa using hframe)⟩

theorem State.drainKept_classes {s : State} (h : s.fourClasses) (l : Nat) : (s.drainKept l).fourClasses :=
  fun r hr => h r (State.mem_drainKept hr).1

namespace State.Drained

variable {s t u : State}

theorem refl (h : s.fourClasses) : s.Drained s := ⟨rfl, rfl, rfl, rfl, fun _ h => h, fun _ _ _ h => h, h⟩

theorem trans (h : s.Drained t) (h' : t.Drained u) : s.Drained u :=
  ⟨h'.contexts.trans h.contexts, h'.coreFault.trans h.coreFault, h'.pool.trans h.pool, h'.l.trans h.l,
    fun r hr => h'.raised r (h.raised r hr), fun m hm b hb => h'.maps m hm b (h.maps m hm b hb), h'.classes⟩

/-- Registers written away from GYS_MAP. -/
theorem of_regs {l : List Nat} (hclasses : s.fourClasses) (hgys : t.gys = s.gys) (hraised : ∀ r ∈ s.raised, r ∈ t.raised)
    (hregs : s.keepsRegs t l) (hl : ∀ m : Fin 64, Reg.GYS_MAP m.val ∉ l) : s.Drained t :=
  ⟨by rw [hgys], by rw [hgys], by rw [hgys], by rw [hgys], hraised,
    fun m hm b hb => (congrArg (bitAt · b) (hregs _ (hl ⟨m, hm⟩))).trans hb, by rwa [fourClasses, hgys]⟩

/-- The queue of the tiles replaced. -/
theorem queue {q : List Request} (h : ∀ r ∈ q, r.pclass < 4) : s.Drained { s with gys := { s.gys with queued := q } } :=
  ⟨rfl, rfl, rfl, rfl, fun _ h => h, fun _ _ _ h => h, h⟩

theorem checkOld (h : s.fourClasses) : s.Drained s.checkOld := by
  unfold State.checkOld
  split
  · exact refl h
  · split
    · exact refl h
    · have hregs : s.keepsRegs (s.setFlag Reg.GYS_STATUS 3 false) [Reg.GYS_STATUS] := .setFlag .refl
      exact ⟨rfl, rfl, rfl, rfl, fun r hr => List.mem_append_left _ hr,
        fun m hm b hb => (congrArg (bitAt · b) (hregs _ (by
          simp only [Reg.GYS_MAP, Reg.GYS_STATUS, List.mem_singleton]
          omega))).trans hb, h⟩

theorem admitDrop (h : s.fourClasses) {k : Nat} (hk : k < 4) : s.Drained (s.admitDrop k) := by
  have hmaps : ∀ m : Fin 64, Reg.GYS_MAP m.val ∉ [Reg.GYS_ADMDROP k, Reg.GYS_STICKY] := by
    intro m
    simp only [Reg.GYS_MAP, Reg.GYS_ADMDROP, Reg.GYS_STICKY, List.mem_cons, List.not_mem_nil, or_false, not_or]
    omega
  have hcount : s.Drained (s.dropCounted k) :=
    of_regs h (State.gys_sticky (s := s.bump _ 0 32)) (State.raised_sticky (s := s.bump _ 0 32))
      (s.keepsRegs_dropCounted k) hmaps
  rw [State.admitDrop, ← State.dropCounted]
  exact hcount.trans (checkOld hcount.classes)

theorem enqueueRequest (h : s.fourClasses) {r : Request} (hr : r.pclass < 4) : s.Drained (s.enqueueRequest r) := by
  unfold State.enqueueRequest
  split
  · exact admitDrop h hr
  · dsimp only
    split
    · exact admitDrop h hr
    · refine queue fun q hq => ?_
      rcases List.mem_append.mp hq with hold | hnew
      · exact h q hold
      · rwa [List.mem_singleton.mp hnew]

theorem moveFrames {rs : List Request} (hrs : ∀ r ∈ rs, r.pclass < 4) {s : State} (h : s.fourClasses) (l : Nat) :
    s.Drained (s.moveFrames l rs) := by
  induction rs generalizing s l with
  | nil => exact refl h
  | cons r rs ih =>
    have hr := hrs r List.mem_cons_self
    have hrest := fun q hq => hrs q (List.mem_cons_of_mem _ hq)
    rw [State.moveFrames]
    split
    · exact (admitDrop h hr).trans (ih hrest (admitDrop h hr).classes l)
    · next m _ =>
      have hmoved : s.Drained (s.enqueueRequest { r with tile := m }) := enqueueRequest h hr
      exact hmoved.trans (ih hrest hmoved.classes m)

theorem dropRequests {rs : List Request} (hrs : ∀ r ∈ rs, r.pclass < 4) {s : State} (h : s.fourClasses) :
    s.Drained (s.dropRequests rs) := by
  induction rs generalizing s with
  | nil => exact refl h
  | cons r rs ih =>
    have hdrop := admitDrop h (hrs r List.mem_cons_self)
    exact hdrop.trans (ih (fun q hq => hrs q (List.mem_cons_of_mem _ hq)) hdrop.classes)

/-- A tile marked DRAINING. -/
theorem mark (h : s.fourClasses) (l : Nat) : s.Drained (s.setFlag (Reg.GYS_MAP l) 30 true) :=
  ⟨rfl, rfl, rfl, rfl, fun _ h => h, fun _ _ _ hb => State.flag_setFlag_mono (by decide) hb, h⟩

/-- Once marked, a tile's queue is emptied. -/
theorem drainMarked (h : s.fourClasses) (l : Nat) : (s.setFlag (Reg.GYS_MAP l) 30 true).Drained (s.drainTile l) := by
  have hkept : (s.setFlag (Reg.GYS_MAP l) 30 true).Drained (s.drainKept l) := queue (State.drainKept_classes h l)
  have hmoved := hkept.trans (moveFrames (State.drainFrames_classes h l) hkept.classes l)
  have hdropped := hmoved.trans (dropRequests (State.drainLost_classes h l) hmoved.classes)
  rw [State.drainTile_eq]
  exact hdropped.trans (checkOld hdropped.classes)

theorem drainTile (h : s.fourClasses) (l : Nat) : s.Drained (s.drainTile l) := (mark h l).trans (drainMarked h l)

end State.Drained

/-! ### Contexts killed by a core fault -/

theorem State.SameButReports.gys {s t : State} (h : s.SameButReports t) : t.gys = s.gys := by
  unfold State.SameButReports at h
  rw [h]

theorem State.SameButReports.rel {s t : State} (h : s.SameButReports t) : t.rel = s.rel := by
  unfold State.SameButReports at h
  rw [h]

theorem State.raised_logEntry (s : State) (e : LogEntry) : (s.logEntry e).raised = s.raised := by
  unfold State.logEntry
  split
  · rfl
  · split <;> rfl

theorem State.raised_latchFault (s : State) (p c code aux addr : Nat) : (s.latchFault p c code aux addr).raised = s.raised := by
  unfold State.latchFault
  split
  · rfl
  · rw [State.wr_raised, State.wr_raised, State.wr_raised]

theorem State.raised_recordKill (s : State) (p c code aux addr : Nat) :
    ∀ r ∈ s.raised, r ∈ (s.recordKill p c code aux addr).raised := by
  intro r hr
  refine State.raised_sticky r ?_
  have hlatch : r ∈ ((s.bump (Reg.GYS_KILL code) 0 32).latchFault p c code aux addr).raised :=
    (State.raised_latchFault ..).symm ▸ hr
  split
  · exact hlatch
  · exact (State.raised_logEntry ..).symm ▸ hlatch

/-- What a core fault's kills keep of the machine: a context stays as it is or ends with reason 0x11. -/
structure State.Shed (s t : State) : Prop where
  ctxs : ∀ p c, t.ctx p c = s.ctx p c ∨ (t.ctx p c).th.status = .ending (some 0x11)
  coreFault : t.gys.coreFault = s.gys.coreFault
  pool : t.gys.pool = s.gys.pool
  l : t.gys.l = s.gys.l
  raised : ∀ r ∈ s.raised, r ∈ t.raised
  maps : ∀ m < 64, ∀ b, s.flag (Reg.GYS_MAP m) b = true → t.flag (Reg.GYS_MAP m) b = true
  classes : t.fourClasses

namespace State.Shed

variable {s t u : State}

theorem of_drained (h : s.Drained t) : s.Shed t :=
  ⟨fun p c => .inl (by rw [State.ctx, h.contexts]; rfl), h.coreFault, h.pool, h.l, h.raised, h.maps, h.classes⟩

theorem trans (h : s.Shed t) (h' : t.Shed u) : s.Shed u := by
  refine ⟨fun p c => ?_, h'.coreFault.trans h.coreFault, h'.pool.trans h.pool, h'.l.trans h.l,
    fun r hr => h'.raised r (h.raised r hr), fun m hm b hb => h'.maps m hm b (h.maps m hm b hb), h'.classes⟩
  rcases h'.ctxs p c with hsame | hended
  · rw [hsame]
    exact h.ctxs p c
  · exact .inr hended

/-- A context ended by the fault. -/
theorem setCtx (h : s.fourClasses) (p c : Nat) {y : Context} (hy : y.th.status = .ending (some 0x11)) :
    s.Shed (s.setCtx p c y) := by
  refine ⟨fun q d => ?_, rfl, rfl, rfl, fun _ h => h, fun _ _ _ h => h, h⟩
  by_cases hsame : 48 * q + d = 48 * p + c
  · refine .inr ?_
    rw [State.ctx, hsame, ← State.ctx, State.ctx_setCtx, hy]
  · exact .inl (State.ctx_setCtx_ne _ _ hsame)

theorem recordKill (h : s.fourClasses) (p c aux addr : Nat) : s.Shed (s.recordKill p c 0x11 aux addr) := by
  refine of_drained (.of_regs h (s.recordKill_reports p c 0x11 aux addr).gys ?_
    (s.keepsRegs_recordKill p c 0x11 aux addr) fun m => ?_)
  · exact fun r hr => s.raised_recordKill p c 0x11 aux addr r hr
  · simp only [Reg.GYS_MAP, Reg.GYS_KILL, Reg.GYS_STICKY, Reg.GYS_FAULT0, Reg.GYS_FAULT1, Reg.GYS_FAULT2, Reg.REL_LOG_LOST,
      Reg.REL_STICKY, List.mem_cons, List.not_mem_nil, or_false, not_or]
    omega

theorem initKilled (h : s.fourClasses) (l : Nat) : s.Shed (s.initKilled l) := by
  have hfailed (q : List Nat) : s.Drained { s with gys := { s.gys with initFailed := q } } :=
    ⟨rfl, rfl, rfl, rfl, fun _ h => h, fun _ _ _ h => h, h⟩
  have hreport {v : State} (hv : v.fourClasses) : v.Drained (v.gysSticky stBankErr) :=
    .of_regs (l := [Reg.GYS_STICKY]) hv State.gys_sticky State.raised_sticky (.sticky .refl) fun m => by
      simp only [Reg.GYS_MAP, Reg.GYS_STICKY, List.mem_singleton]
      omega
  have hreported := (hfailed (s.gys.initFailed.filter (· != l) ++ [l])).trans (hreport h)
  exact of_drained (hreported.trans (.drainTile hreported.classes l))

theorem kill (h : s.fourClasses) (p c aux addr : Nat) : s.Shed (s.kill p c 0x11 aux addr) := by
  have hrecord := recordKill h p c aux addr
  have hset := hrecord.trans (setCtx hrecord.classes p c (y := (s.ctx p c).killed 0x11) rfl)
  rw [State.kill]
  split
  · exact hset.trans (initKilled hset.classes _)
  · exact hset

theorem ended_kill (h : s.fourClasses) (p c aux addr : Nat) :
    ((s.kill p c 0x11 aux addr).ctx p c).th.status = .ending (some 0x11) := by
  have hset := setCtx (recordKill h p c aux addr).classes p c (y := (s.ctx p c).killed 0x11) rfl
  have hended : (((s.recordKill p c 0x11 aux addr).setCtx p c ((s.ctx p c).killed 0x11)).ctx p c).th.status =
      .ending (some 0x11) := by rw [State.ctx_setCtx]; rfl
  rw [State.kill]
  split
  · rcases (initKilled hset.classes (s.ctx p c).tile).ctxs p c with hsame | hend
    · rw [hsame, hended]
    · exact hend
  · exact hended

end State.Shed

/-- The contexts below a number that run are ended. -/
def State.startedKilled (s : State) (p n : Nat) : State :=
  (List.range n).foldl (fun t c =>
    match (t.ctx p c).th.status with
    | .free => t
    | .ending _ => t
    | _ => t.kill p c 0x11 (t.ctx p c).locks.length 0) s

theorem State.startedKilled_spec {s : State} (h : s.fourClasses) (p n : Nat) :
    s.Shed (s.startedKilled p n) ∧ ∀ c < n, (s.ctx p c).th.status = .ready →
      ((s.startedKilled p n).ctx p c).th.status = .ending (some 0x11) := by
  induction n with
  | zero => exact ⟨.of_drained (.refl h), fun c hc => absurd hc (by omega)⟩
  | succ n ih =>
    obtain ⟨hshed, hended⟩ := ih
    rw [State.startedKilled, List.range_succ, List.foldl_append, ← State.startedKilled, List.foldl_cons, List.foldl_nil]
    have hlast (u : State) (hu : (s.startedKilled p n).Shed u)
        (hn : (s.ctx p n).th.status = .ready → (u.ctx p n).th.status = .ending (some 0x11)) :
        s.Shed u ∧ ∀ c < n + 1, (s.ctx p c).th.status = .ready → (u.ctx p c).th.status = .ending (some 0x11) := by
      refine ⟨hshed.trans hu, fun c hc hready => ?_⟩
      rcases Nat.lt_succ_iff_lt_or_eq.mp hc with hlt | rfl
      · rcases hu.ctxs p c with hsame | hend
        · rw [hsame, hended c hlt hready]
        · exact hend
      · exact hn hready
    have hstay : (s.startedKilled p n).Shed (s.startedKilled p n) := .of_drained (.refl hshed.classes)
    have hold (hready : (s.ctx p n).th.status = .ready) : ((s.startedKilled p n).ctx p n).th.status = .ready ∨
        ((s.startedKilled p n).ctx p n).th.status = .ending (some 0x11) :=
      (hshed.ctxs p n).imp_left fun hsame => by rw [hsame, hready]
    split
    · next hfree =>
      exact hlast _ hstay fun hready => (hold hready).resolve_left (by simp [hfree])
    · next k hend =>
      exact hlast _ hstay fun hready => (hold hready).resolve_left (by simp [hend])
    · refine hlast _ (.kill hshed.classes ..) fun _ => State.Shed.ended_kill hshed.classes ..

/-! ### The unit test that a fault starts -/

theorem State.keepsRegs.verdict {s t : State} {l : List Nat} (h : s.keepsRegs t l) (unit code : Nat)
    (hlost : Reg.REL_LOG_LOST ∈ l := by simp) (hsticky : Reg.REL_STICKY ∈ l := by simp) : s.keepsRegs (t.verdict unit code) l := by
  have hlog : s.keepsRegs ((t.raise 227 (BitVec.ofNat 32 (unit + code * 2 ^ 16))).log 227
      (BitVec.ofNat 32 (unit + code * 2 ^ 16)) 0 0 code) l := (h.raise).logEntry _ hlost hsticky
  exact .ite (hlog.setFlag hsticky) hlog

theorem State.verdict_reports (s : State) (unit code : Nat) : s.SameButReports (s.verdict unit code) := by
  have hlog : s.SameButReports ((s.raise 227 (BitVec.ofNat 32 (unit + code * 2 ^ 16))).log 227
      (BitVec.ofNat 32 (unit + code * 2 ^ 16)) 0 0 code) := .logEntry (.of_raises (.raise .refl)) _
  exact .ite (hlog.trans (.of_raises (.setFlag .refl))) hlog

theorem State.raised_verdict (s : State) (unit code : Nat) :
    (s.verdict unit code).raised = s.raised ++ [⟨227, BitVec.ofNat 32 (unit + code * 2 ^ 16), 0⟩] := by
  unfold State.verdict
  dsimp only
  split
  · exact State.raised_logEntry ..
  · exact State.raised_logEntry ..

/-- A test that is asked for runs or waits, is not needed, or is given up with its verdict. -/
theorem State.startTest_induction {P : State → Prop} {s : State} {unit row : Nat} (hsame : P s)
    (hrel : ∀ m, P { s with rel := m }) (hgiven : P ((s.verdict unit verdictUntested).setFlag Reg.REL_STICKY 3 true)) :
    P (s.startTest unit row) := by
  unfold State.startTest
  split
  · exact hsame
  · split
    · exact hsame
    · split
      · exact hrel _
      · split
        · exact hrel _
        · exact hgiven

theorem State.keepsRegs_startTest (s : State) (unit row : Nat) :
    s.keepsRegs (s.startTest unit row) [Reg.REL_STICKY, Reg.REL_LOG_LOST] :=
  State.startTest_induction (P := fun t => s.keepsRegs t _) .refl (fun _ _ _ => rfl) (.setFlag (.verdict .refl _ _))

theorem State.gys_startTest (s : State) (unit row : Nat) : (s.startTest unit row).gys = s.gys :=
  State.startTest_induction (P := fun t => t.gys = s.gys) rfl (fun _ => rfl) (s.verdict_reports unit verdictUntested).gys

theorem State.raised_startTest (s : State) (unit row : Nat) : ∀ r ∈ s.raised, r ∈ (s.startTest unit row).raised :=
  State.startTest_induction (P := fun t => ∀ r ∈ s.raised, r ∈ t.raised) (fun _ h => h) (fun _ _ h => h) fun r hr => by
    change r ∈ (s.verdict unit verdictUntested).raised
    rw [State.raised_verdict]
    exact List.mem_append_left _ hr

theorem State.keepsRegs_checkOld (s : State) : s.keepsRegs s.checkOld [Reg.GYS_STATUS] := by
  unfold State.checkOld
  split
  · exact .refl
  · split
    · exact .refl
    · exact .setFlag .refl

/-! ### A core fault -/

/-- The tile with its core fault recorded. -/
def State.faulted (s : State) (l : Nat) : State := { s with gys := { s.gys with coreFault := s.gys.coreFault ++ [l] } }

/-- The fault is reported and the test of the tile's core started. -/
def State.faultReported (s : State) (p : Nat) : State :=
  (((s.setFlag Reg.GYS_STICKY 6 true).raise 134).startTest (unitTile p) 0).checkOld

theorem State.faultReported_drained {s : State} (h : s.fourClasses) (p : Nat) : s.Drained (s.faultReported p) := by
  have hflag : s.Drained ((s.setFlag Reg.GYS_STICKY 6 true).raise 134) :=
    .of_regs (l := [Reg.GYS_STICKY]) h rfl (fun _ hr => List.mem_append_left _ hr) (.setFlag .refl) fun m => by
      simp only [Reg.GYS_MAP, Reg.GYS_STICKY, List.mem_singleton]
      omega
  have htest := hflag.trans (.of_regs hflag.classes (State.gys_startTest _ (unitTile p) 0) (State.raised_startTest _ _ _)
    (State.keepsRegs_startTest _ _ _) fun m => by
      simp only [Reg.GYS_MAP, Reg.REL_STICKY, Reg.REL_LOG_LOST, List.mem_cons, List.not_mem_nil, or_false, not_or]
      omega)
  exact htest.trans (.checkOld htest.classes)

theorem State.flag_faultReported (s : State) (p : Nat) : (s.faultReported p).flag Reg.GYS_STICKY 6 = true := by
  refine (congrArg (bitAt · 6) ((State.keepsRegs_checkOld _ _ (by decide)).trans
    (State.keepsRegs_startTest _ (unitTile p) 0 _ (by decide)))).trans ?_
  exact s.flag_setFlag Reg.GYS_STICKY 6 true (by decide)

theorem State.raised_faultReported {s : State} (h : s.fourClasses) (p : Nat) :
    (⟨134, 0, 0⟩ : Raise) ∈ (s.faultReported p).raised := by
  have hregs : ((s.setFlag Reg.GYS_STICKY 6 true).raise 134).fourClasses := h
  have htest : (((s.setFlag Reg.GYS_STICKY 6 true).raise 134).startTest (unitTile p) 0).fourClasses := by
    rwa [State.fourClasses, State.gys_startTest]
  exact (State.Drained.checkOld htest).raised _
    (State.raised_startTest _ _ _ _ (List.mem_append_right _ (List.mem_singleton_self _)))

/-! ### A scan that has ended -/

theorem State.logical_congr {s t : State} (h : ∀ m : Fin 64, t.rd (Reg.GYS_MAP m.val) = s.rd (Reg.GYS_MAP m.val)) (p : Nat) :
    t.logical p = s.logical p :=
  List.find?_congr fun m hm => by
    rw [State.phys, State.fld, h ⟨m, List.mem_range.mp hm⟩]
    rfl

theorem State.logical_lt {s : State} {p l : Nat} (h : s.logical p = some l) : l < 64 :=
  List.mem_range.mp (List.mem_of_find?_eq_some h)

theorem State.initAndReturn_of_active {s : State} {l : Nat} (hlost : s.flag (Reg.GYS_MAP l) 28 = false) (hbank : s.activeBank ≠ 3) :
    s.initAndReturn l = s.oweInit l s.activeBank (s.gys.initOwed.any fun e => e.1 == l && e.2.2) :=
  (if_neg (by simp [hlost])).trans (if_neg hbank)

/-- A tile that is returned or owes its init context: no core fault, test or raise is taken back. -/
theorem State.initAndReturn_keeps (s : State) (l : Nat) :
    (s.initAndReturn l).gys.coreFault = s.gys.coreFault ∧ (s.initAndReturn l).rel = s.rel ∧
      ∀ r ∈ s.raised, r ∈ (s.initAndReturn l).raised := by
  have hreturn : (s.returnTile l).gys.coreFault = s.gys.coreFault ∧ (s.returnTile l).rel = s.rel ∧
      ∀ r ∈ s.raised, r ∈ (s.returnTile l).raised := by
    unfold State.returnTile
    dsimp only
    split
    · split
      · exact ⟨rfl, rfl, fun _ hr => List.mem_append_left _ hr⟩
      · exact ⟨rfl, rfl, fun _ hr => hr⟩
    · exact ⟨rfl, rfl, fun _ hr => hr⟩
  unfold State.initAndReturn
  split
  · exact ⟨rfl, rfl, fun _ hr => hr⟩
  · split
    · exact hreturn
    · exact ⟨rfl, rfl, fun _ hr => hr⟩

/-- The test of a tile's core ended with its verdict. -/
def State.scanned (s : State) (p code : Nat) : State := (s.endTest (unitTile p) 0).verdict (unitTile p) code

theorem State.scanned_reports (s : State) (p code : Nat) :
    (s.endTest (unitTile p) 0).SameButReports (s.scanned p code) := State.verdict_reports ..

theorem State.keepsRegs_scanned (s : State) (p code : Nat) : s.keepsRegs (s.scanned p code) [Reg.REL_STICKY, Reg.REL_LOG_LOST] :=
  .verdict (.of_regs .refl) _ _

theorem State.scanned_maps (s : State) (p code : Nat) (m : Fin 64) :
    (s.scanned p code).rd (Reg.GYS_MAP m.val) = s.rd (Reg.GYS_MAP m.val) := by
  refine s.keepsRegs_scanned p code _ ?_
  simp only [Reg.GYS_MAP, Reg.REL_STICKY, Reg.REL_LOG_LOST, List.mem_cons, List.not_mem_nil, or_false, not_or]
  omega

/-- The tile whose core passed its scan: no fault, and its return owed. -/
def State.faultCleared (s : State) (l : Nat) : State :=
  { s with gys := { s.gys with
      coreFault := s.gys.coreFault.filter (· != l)
      returning := s.gys.returning.filter (· != l) ++ [l] } }

theorem State.coreScanned_of_passed {s : State} {p l : Nat} (hl : (s.scanned p verdictTransient).logical p = some l) :
    s.coreScanned p false = ((s.scanned p verdictTransient).faultCleared l).initAndReturn l := by
  have hl' : ((s.endTest (unitTile p) 0).verdict (unitTile p) verdictTransient).logical p = some l := hl
  simp only [State.coreScanned, Bool.false_eq_true, if_false, hl']
  rfl

theorem State.retireTile_of_unmapped {s : State} {p : Nat} (hl : s.logical p = none) (hspare : p % 9 ≠ 8) :
    s.retireTile p = (s.setFlag (Reg.REL_RET_TILE (p / 32)) (p % 32) true).raise 228 := by
  simp only [State.retireTile, hl, if_neg hspare]

theorem exec_coreScanDone_transient {s : State} {p : Fin 72} {l : Nat} (hruns : s.testRuns (0x2000 + p.val) 0 = true)
    (hesc : s.escalates (0x2000 + p.val) 0 = false) (hl : s.logical p.val = some l) :
    exec (.coreScanDone p false) s = .next
      ((((s.noteTransient (unitTile p.val) 0).scanned p.val verdictTransient).faultCleared l).initAndReturn l) := by
  rw [← State.coreScanned_of_passed
    ((State.logical_congr (State.scanned_maps (s.noteTransient (unitTile p.val) 0) p.val verdictTransient) p.val).trans hl)]
  change execCoreScanDone p false s = _
  simp only [execCoreScanDone, hruns, hesc, Bool.or_self, Bool.true_eq_false, Bool.false_eq_true, if_false]

theorem exec_coreScanDone_lasting {s : State} {p : Fin 72} (hruns : s.testRuns (0x2000 + p.val) 0 = true)
    (hl : s.logical p.val = none) (hspare : p.val % 9 ≠ 8) :
    exec (.coreScanDone p true) s =
      .next (((s.scanned p.val verdictLasting).setFlag (Reg.REL_RET_TILE (p.val / 32)) (p.val % 32) true).raise 228) := by
  rw [← State.retireTile_of_unmapped ((State.logical_congr (s.scanned_maps p.val verdictLasting) p.val).trans hl) hspare]
  change execCoreScanDone p true s = _
  simp only [execCoreScanDone, hruns, Bool.true_or, Bool.true_eq_false, if_false, if_true, State.coreScanned]
  rfl

/-! ### Timers -/

section Timer

variable {s : State} {k l : Nat} {f : List (Nat × Nat)}

/-- The slots in which the timers last fired replaced. -/
def State.withFired (s : State) (f : List (Nat × Nat)) : State := { s with gys := { s.gys with fired := f } }

/-- The timers' last slots once timer k has fired. -/
def State.firedNow (s : State) (k : Nat) : List (Nat × Nat) := sparseSet (fun _ => 0) s.gys.fired k (timerSlot s.now + 1)

theorem State.fireTimer_eq (s : State) (k : Nat) : s.fireTimer k =
    ((s.carrySwitch.withFired (s.carrySwitch.firedNow k)).timerTiles k).foldl (fun u l => u.fireOn k l)
      (s.carrySwitch.withFired (s.carrySwitch.firedNow k)) := rfl

theorem State.timerTiles_of_one (htile : s.flag (Reg.GYS_TMR_CTL k) 27 = false) :
    (s.withFired f).timerTiles k = [s.fld (Reg.GYS_TMR_CTL k) 16 6] := if_neg (Bool.not_eq_true _ ▸ htile)

theorem State.fireOn_of_free (halloc : s.flag (Reg.GYS_TMR_CTL k) 30 = false) (hbusy : s.timerBusy k l = false)
    (htakes : s.takesCapture l = true) : s.fireOn k l = s.placeTimer k l :=
  (if_neg (by simp [halloc, hbusy])).trans (if_pos htakes)

theorem State.enqueueRequest_of_room {r : Request} (hon : s.flag Reg.GYS_CTRL 0 = true) (hbank : r.bank ≠ 3)
    (hroom : ((s.queuedOn r.tile).filter fun q => q.pclass == r.pclass).length < s.fld (Reg.GYS_CLSQ r.pclass) 0 11)
    (hall : (s.queuedOn r.tile).length < 1024) :
    s.enqueueRequest r = { s with gys := { s.gys with queued := s.gys.queued ++ [r] } } := by
  refine (if_neg ?_).trans (if_neg ?_)
  · rintro (h | h)
    · exact Bool.false_ne_true (h.symm.trans hon)
    · exact hbank h
  · rintro (h | h)
    · exact absurd hroom (Nat.not_lt.mpr h)
    · exact absurd hall (Nat.not_lt.mpr h)

/-- The firing's request queued, and the slot remembered. -/
def State.timerQueued (s : State) (k l : Nat) (f : List (Nat × Nat)) : State :=
  { s with gys := { s.gys with queued := s.gys.queued ++ [s.timerRequest k l], fired := f } }

theorem State.refreshes_timerQueued (p : Nat) : (s.timerQueued k l f).refreshes k p = s.refreshes k p := by
  simp only [State.refreshes, State.scannerTick, State.poisoned, State.fld, State.rd, State.now, State.timerQueued]

theorem State.phys_timerQueued (m : Nat) : (s.timerQueued k l f).phys m = s.phys m := by
  simp only [State.phys, State.fld, State.rd, State.timerQueued]

theorem State.placeTimer_of_queued {t : State} (h : s.enqueueRequest (s.timerRequest k l) = t)
    (hlen : t.gys.queued.length ≠ s.gys.queued.length) :
    s.placeTimer k l = if t.refreshes k (t.phys l) then t.paramRefresh (t.phys l) else t := by
  subst h
  exact if_neg hlen

/-- A request placed where there is room; the refresh of the standard image goes with it. -/
theorem State.placeTimer_of_room (hon : s.flag Reg.GYS_CTRL 0 = true) (hbank : s.activeBank ≠ 3)
    (hroom : ((s.queuedOn l).filter fun q => q.pclass == s.fld (Reg.GYS_TMR_CTL k) 28 2).length <
      s.fld (Reg.GYS_CLSQ (s.fld (Reg.GYS_TMR_CTL k) 28 2)) 0 11) (hall : (s.queuedOn l).length < 1024) :
    (s.withFired f).placeTimer k l =
      if s.refreshes k (s.phys l) then (s.timerQueued k l f).paramRefresh (s.phys l) else s.timerQueued k l f := by
  have hqueue : (s.withFired f).enqueueRequest ((s.withFired f).timerRequest k l) = s.timerQueued k l f :=
    State.enqueueRequest_of_room (s := s.withFired f) hon hbank hroom hall
  have hlen : (s.timerQueued k l f).gys.queued.length ≠ (s.withFired f).gys.queued.length := by
    simp [State.timerQueued, State.withFired]
  rw [State.placeTimer_of_queued hqueue hlen, State.phys_timerQueued, State.refreshes_timerQueued]

/-- The tiles of a firing visited. -/
def State.fireTiles (s : State) (k : Nat) : State := (s.timerTiles k).foldl (fun u l => u.fireOn k l) s

/-- A timer of one tile that finds room: its request is queued, and the refresh goes with it. -/
theorem State.fireTiles_of_room (htile : s.flag (Reg.GYS_TMR_CTL k) 27 = false)
    (hl : l = s.fld (Reg.GYS_TMR_CTL k) 16 6) (halloc : s.flag (Reg.GYS_TMR_CTL k) 30 = false)
    (hbusy : s.timerBusy k l = false) (htakes : s.takesCapture l = true) (hon : s.flag Reg.GYS_CTRL 0 = true)
    (hbank : s.activeBank ≠ 3)
    (hroom : ((s.queuedOn l).filter fun q => q.pclass == s.fld (Reg.GYS_TMR_CTL k) 28 2).length <
      s.fld (Reg.GYS_CLSQ (s.fld (Reg.GYS_TMR_CTL k) 28 2)) 0 11) (hall : (s.queuedOn l).length < 1024) :
    (s.withFired f).fireTiles k =
      if s.refreshes k (s.phys l) then (s.timerQueued k l f).paramRefresh (s.phys l) else s.timerQueued k l f := by
  have hfire : (s.withFired f).fireOn k l = (s.withFired f).placeTimer k l :=
    State.fireOn_of_free (s := s.withFired f) halloc hbusy htakes
  rw [State.fireTiles, State.timerTiles_of_one htile, ← hl, List.foldl_cons, List.foldl_nil, hfire,
    State.placeTimer_of_room hon hbank hroom hall]

theorem State.fireTimer_of_steady (hpend : s.gys.pendSwitch = none) :
    ∃ f, s.fireTimer k = (s.withFired f).fireTiles k ∧ sparseGet (fun _ => 0) f k = timerSlot s.now + 1 := by
  have hcarry : s.carrySwitch = s := by rw [State.carrySwitch, hpend]
  refine ⟨s.firedNow k, ?_, ?_⟩
  · rw [State.fireTimer_eq, hcarry, State.fireTiles]
  · rw [State.firedNow, sparseGet_set, if_pos rfl]

theorem State.timerDue_timerQueued (hf : sparseGet (fun _ => 0) f k = timerSlot s.now + 1) :
    (s.timerQueued k l f).timerDue k = false := by
  have hnow : (s.timerQueued k l f).now = s.now := rfl
  have hfired : (s.timerQueued k l f).gys.fired = f := rfl
  rw [State.timerDue, hnow, hfired, hf, bne_self_eq_false, Bool.and_false]

theorem State.timerQueued_frame : s.timerQueued k l f =
    { s with gys := { s.gys with queued := (s.timerQueued k l f).gys.queued, fired := (s.timerQueued k l f).gys.fired } } := rfl

/-- Bytes away from a store are read as before. -/
theorem memReadBytes_writeBytes_other (m : List (Nat × Byte)) {a b n : Nat} {bs : List Byte}
    (h : b + n ≤ a ∨ a + bs.length ≤ b) : memReadBytes (memWriteBytes m a bs) b n = memReadBytes m b n :=
  List.map_congr_left fun i hi => memRead_writeBytes_other m a (b + i) bs (by
    have := List.mem_range.mp hi
    omega)

/-- The copy of the parameters that a refresh writes. -/
def State.refreshCopy (s : State) (p : Nat) : Nat :=
  if ofLeBytes (memReadBytes s.gys.l (lAddr p paramPtr) 8) = copyA then copyB else copyA

theorem State.refreshCopy_range (s : State) (p : Nat) : s.refreshCopy p = 0x2000 ∨ s.refreshCopy p = 0x2800 := by
  unfold State.refreshCopy
  split
  · exact .inr rfl
  · exact .inl rfl

theorem length_derivedWords (block : List Byte) : (derivedWords block).length = 16 := by
  simp [derivedWords, length_leBytes]

theorem ofLeBytes_eight {n : Nat} (h : n < 2 ^ 64) : ofLeBytes (leBytes 8 n) = n := by
  simp [leBytes, ofLeBytes, List.range_succ]
  omega

theorem State.paramRefresh_eq (s : State) (p : Nat) : s.paramRefresh p =
    (s.lStore p (s.refreshCopy p) (memReadBytes s.gys.pool 0 1024 ++ derivedWords (memReadBytes s.gys.pool 0 1024))).lStore p
      paramPtr (leBytes 8 (s.refreshCopy p)) := by
  unfold State.paramRefresh State.refreshCopy
  rfl

theorem State.lStore_eq (s : State) (p a : Nat) (bs : List Byte) : ∃ marks, s.lStore p a bs =
    { s with gys := { s.gys with l := memWriteBytes s.gys.l (lAddr p a) bs }, rel := { s.rel with poison := marks } } :=
  ⟨_, rfl⟩

/-- What the refresh of the standard image leaves in L (R166, R168). -/
theorem State.paramRefresh_spec (s : State) (p : Nat) :
    ∃ l' marks, s.paramRefresh p = { s with gys := { s.gys with l := l' }, rel := { s.rel with poison := marks } } ∧
      ofLeBytes (memReadBytes l' (lAddr p paramPtr) 8) = s.refreshCopy p ∧
      memReadBytes l' (lAddr p (s.refreshCopy p)) 1040 =
        memReadBytes s.gys.pool 0 1024 ++ derivedWords (memReadBytes s.gys.pool 0 1024) := by
  have hrange := s.refreshCopy_range p
  rw [s.paramRefresh_eq p]
  generalize hbytes : memReadBytes s.gys.pool 0 1024 ++ derivedWords (memReadBytes s.gys.pool 0 1024) = bytes
  have hlen : bytes.length = 1040 := by
    rw [← hbytes, List.length_append, length_memReadBytes, length_derivedWords]
  obtain ⟨marks, hcopy⟩ := s.lStore_eq p (s.refreshCopy p) bytes
  generalize s.refreshCopy p = copy at hcopy hrange ⊢
  obtain ⟨marks', hptr⟩ := (s.lStore p copy bytes).lStore_eq p paramPtr (leBytes 8 copy)
  rw [hptr, hcopy]
  refine ⟨_, marks', rfl, ?_, ?_⟩
  · have hread := memReadBytes_write (memWriteBytes s.gys.l (lAddr p copy) bytes) (lAddr p paramPtr) (leBytes 8 copy)
    rw [length_leBytes] at hread
    exact (congrArg ofLeBytes hread).trans (ofLeBytes_eight (by omega))
  · refine (memReadBytes_writeBytes_other _ (.inr ?_)).trans ?_
    · rw [length_leBytes, lAddr, lAddr]
      unfold paramPtr
      omega
    · rw [← hlen]
      exact memReadBytes_write ..

end Timer

theorem State.writeTimer_period (s : State) (k : Nat) (v : Word) : s.writeTimer k 2 v =
    if s.flag (Reg.GYS_TMR_CTL k) 31 then s.gysParam
    else if bitsAt v 20 6 < 4 ∨ 20 < bitsAt v 20 6 ∨ 2 ^ bitsAt v 20 6 ≤ bitsAt v 0 20 then s.gysParam
    else s.plainWrite (Reg.GYS_TMR_PERIOD k) v := rfl

theorem exec_timerPeriodWrite_of_opens {s : State} {ag : Agent} {k : Fin 8} {v : Word}
    (ho : s.opens ag (Reg.GYS_TMR_CTL k.val + 8) = true) :
    exec (.timerCtlWrite ag k 2 v) s = .next (s.writeTimer k.val 2 v) :=
  congrArg Host.Outcome.next (State.writeAccess_opens _ _ _ _ _ ho)

/-! ### Init contexts -/

/-- The init contexts owed replaced. -/
def State.initOwedTo (s : State) (q : List (Nat × Nat × Bool)) : State := { s with gys := { s.gys with initOwed := q } }

theorem exec_initContextStart_of_owed {s : State} {p : Fin 72} {c : Fin 48} {l b : Nat} (hl : s.logical p.val = some l)
    (howed : (s.gys.initOwed.find? fun e => e.1 == l) = some (l, b, false)) (hused : (s.ctx p.val c.val).used = false)
    (hcluster : s.clusterRuns (l / 8) = true) (hfault : l ∉ s.gys.coreFault) :
    exec (.initContextStart p c) s = .next
      ((s.initOwedTo (s.gys.initOwed.filter (·.1 != l))).startContext p.val c.val (s.initRequest l b) 1048576) := by
  have hfree : ¬ ((s.ctx p.val c.val).used = true ∨ s.clusterRuns (clusterOf l) = false ∨ s.gys.coreFault.contains l = true ∨
      (false && s.oldLeft p.val l b) = true) := by
    simp [hused, hcluster, hfault]
  change execInitContextStart p c s = _
  simp only [execInitContextStart, hl, howed, if_neg hfree]
  rfl

/-! ### Drains and quotas -/

theorem State.queued_admitDrop (s : State) (k : Nat) : (s.admitDrop k).gys.queued = s.gys.queued := by
  rw [State.admitDrop, State.checkOld_queued, State.gysSticky, State.gys_sticky]
  rfl

theorem State.queued_enqueueRequest (s : State) (r : Request) : ∀ q ∈ (s.enqueueRequest r).gys.queued, q ∈ s.gys.queued ∨ q = r := by
  intro q hq
  unfold State.enqueueRequest at hq
  split at hq
  · exact .inl (s.queued_admitDrop r.pclass ▸ hq)
  · dsimp only at hq
    split at hq
    · exact .inl (s.queued_admitDrop r.pclass ▸ hq)
    · simpa using hq

theorem State.queued_dropRequests (rs : List Request) (s : State) : (s.dropRequests rs).gys.queued = s.gys.queued := by
  induction rs generalizing s with
  | nil => rfl
  | cons r rs ih => rw [State.dropRequests, ih, State.queued_admitDrop]

/-- Frames move to tiles that are not draining. -/
theorem State.queued_moveFrames {l : Nat} (hl : l < 64) {rs : List Request} (hrs : ∀ r ∈ rs, r.pclass < 4) {s : State}
    (h : s.fourClasses) (hdrain : s.flag (Reg.GYS_MAP l) 30 = true) (m : Nat) :
    ∀ q ∈ (s.moveFrames m rs).gys.queued, q ∈ s.gys.queued ∨ q.tile ≠ l := by
  induction rs generalizing s m with
  | nil => exact fun q hq => .inl hq
  | cons r rs ih =>
    have hr := hrs r List.mem_cons_self
    have hrest := fun q hq => hrs q (List.mem_cons_of_mem _ hq)
    intro q hq
    rw [State.moveFrames] at hq
    split at hq
    · have hdrop := State.Drained.admitDrop h hr
      have := ih hrest hdrop.classes (hdrop.maps l hl 30 hdrain) m q hq
      rwa [State.queued_admitDrop] at this
    · next n hn =>
      have hmoved : s.Drained (s.enqueueRequest { r with tile := n }) := State.Drained.enqueueRequest h hr
      have havail : s.tileAvailable n = true := List.find?_some hn
      have hne : n ≠ l := by
        rintro rfl
        simp [State.tileAvailable, State.draining, hdrain] at havail
      rcases ih hrest hmoved.classes (hmoved.maps l hl 30 hdrain) n q hq with hold | hother
      · rcases s.queued_enqueueRequest _ q hold with hkept | rfl
        · exact .inl hkept
        · exact .inr hne
      · exact .inr hother

/-- What stays queued for a tile under DRAIN: requests that are no frames. -/
theorem State.queued_drainTile {s : State} (h : s.fourClasses) {l : Nat} (hl : l < 64) :
    ∀ r ∈ (s.drainTile l).gys.queued, r.tile ≠ l ∨ r.isFrame = false := by
  intro r hr
  rw [State.drainTile_eq, State.checkOld_queued, State.queued_dropRequests] at hr
  rcases State.queued_moveFrames hl (State.drainFrames_classes h l) (State.drainKept_classes h l)
    (s.flag_setFlag (Reg.GYS_MAP l) 30 true (by decide)) l r hr with hkept | hother
  · exact (State.mem_drainKept hkept).2
  · exact .inl hother

theorem rwBit_gysMap : ∀ l : Fin 64, rwBit (Reg.GYS_MAP l.val) 31 = true := by decide +kernel

theorem roBit_gysMap : ∀ l : Fin 64, roBit (Reg.GYS_MAP l.val) 28 = true := by decide +kernel

theorem rwBits_clsq : ∀ c : Fin 4, (List.range 6).all (fun i => rwBit (Reg.GYS_CLSQ c.val) (24 + i)) = true ∧
    (List.range 6).all (fun i => rwBit (Reg.GYS_CLSQ c.val) (16 + i)) = true ∧
    (List.range 11).all (fun i => rwBit (Reg.GYS_CLSQ c.val) (0 + i)) = true := by decide +kernel

theorem exec_drainSet_of_opens {s : State} {ag : Agent} {l : Fin 64} (ho : s.opens ag (Reg.GYS_MAP l.val) = true)
    (hdrain : s.flag (Reg.GYS_MAP l.val) 31 = false) :
    exec (.drainSet ag l) s = .next ((s.plainWrite (Reg.GYS_MAP l.val) 0x80000000).drainTile l.val) := by
  change execDrainSet ag l s = _
  rw [execDrainSet, State.writeAccess_opens _ _ _ _ _ ho]
  refine congrArg _ (if_pos ?_)
  rw [hdrain]
  decide

theorem exec_drainClear_of_opens {s : State} {ag : Agent} {l : Fin 64} (ho : s.opens ag (Reg.GYS_MAP l.val) = true)
    (hdrain : s.flag (Reg.GYS_MAP l.val) 31 = true) :
    exec (.drainClear ag l) s = .next ((s.plainWrite (Reg.GYS_MAP l.val) 0).initAndReturn l.val) := by
  change execDrainClear ag l s = _
  rw [execDrainClear, State.writeAccess_opens _ _ _ _ _ ho]
  refine congrArg _ (if_pos ?_)
  rw [hdrain]
  decide

/-- Settles O36: what draining and killing leave of the machine, the branch that each other command takes. -/
theorem tilesAndTimers : Obligations.TilesAndTimers := by
  refine ⟨fun s p l hl hfault hlost hretired hlive hl64 hclasses => ?_,
    fun s p l hruns hesc hl => ?_, fun s p hruns hl hspare => ?_,
    fun s k l hdue hpend htile hl halloc hbusy htakes hon hbank hroom hall hfresh => ?_,
    fun s l hdue hpend htile hl halloc hbusy htakes hbank hroom hall hfresh => ?_,
    fun s ag k v ho hstop hlo hhi hoff => ?_, fun s ag k v ho hbad => ?_,
    fun s p c l b hl howed hused hcluster hfault => ?_, fun s ag l ho hdrain hclasses => ?_,
    fun s ag l ho hdrain hlost hbank => ?_, fun s ag c v ho hgood => ?_, fun s ag c v ho hbad => ?_⟩
  · have hexec : exec (.coreFault p) s = .next ((((s.faulted l).drainTile l).startedKilled p.val 48).faultReported p.val) := by
      change execCoreFault p s = _
      simp only [execCoreFault, hl]
      refine if_neg ?_
      simp [hfault, hlost, hretired, hlive]
    have hmarked := State.Drained.drainMarked (s := s.faulted l) hclasses l
    obtain ⟨hshed, hended⟩ := State.startedKilled_spec hmarked.classes p.val 48
    have hreported := State.faultReported_drained hshed.classes p.val
    refine ⟨_, hexec, ?_, ?_, State.flag_faultReported .., State.raised_faultReported hshed.classes _, fun c hready => ?_,
      hreported.pool.trans (hshed.pool.trans hmarked.pool), hreported.l.trans (hshed.l.trans hmarked.l)⟩
    · rw [hreported.coreFault, hshed.coreFault, hmarked.coreFault]
      exact List.mem_append_right _ (List.mem_singleton_self l)
    · have hflag := (s.faulted l).flag_setFlag (Reg.GYS_MAP l) 30 true (by decide)
      exact hreported.maps l hl64 30 (hshed.maps l hl64 30 (hmarked.maps l hl64 30 hflag))
    · have hsame : ((s.faulted l).drainTile l).ctx p.val c.val = s.ctx p.val c.val := by
        rw [State.ctx, hmarked.contexts]
        rfl
      rw [State.ctx, hreported.contexts, ← State.ctx]
      exact hended c c.isLt (by rw [hsame, hready])
  · have hscan := (s.noteTransient (unitTile p.val) 0).scanned_reports p.val verdictTransient
    obtain ⟨hfault, hrel, hraised⟩ := State.initAndReturn_keeps
      (((s.noteTransient (unitTile p.val) 0).scanned p.val verdictTransient).faultCleared l) l
    refine ⟨_, exec_coreScanDone_transient hruns hesc hl, ?_, ?_, ?_, fun hlost hbank => ?_⟩
    · rw [hfault]
      simp [State.faultCleared]
    · rw [State.testRuns, hrel, State.faultCleared, hscan.rel]
      simp [State.endTest]
    · refine hraised _ (?_ : _ ∈ ((s.noteTransient (unitTile p.val) 0).scanned p.val verdictTransient).raised)
      rw [State.scanned, State.raised_verdict]
      exact List.mem_append_right _ (List.mem_singleton_self _)
    · have hmap : (((s.noteTransient (unitTile p.val) 0).scanned p.val verdictTransient).faultCleared l).flag
          (Reg.GYS_MAP l) 28 = false :=
        (congrArg (bitAt · 28) (State.scanned_maps _ p.val verdictTransient ⟨l, State.logical_lt hl⟩)).trans hlost
      have hactive : (((s.noteTransient (unitTile p.val) 0).scanned p.val verdictTransient).faultCleared l).activeBank =
          s.activeBank := congrArg (bitsAt · 0 2) (State.keepsRegs_scanned _ p.val verdictTransient _ (by decide))
      rw [State.initAndReturn_of_active hmap (by rw [hactive]; exact hbank), hactive, State.oweInit, State.faultCleared, hscan.gys]
      exact List.mem_append_right _ (List.mem_singleton_self _)
  · refine ⟨_, exec_coreScanDone_lasting hruns hl hspare, State.flag_setFlag _ _ _ _ (Nat.mod_lt _ (by decide)), ?_, ?_, ?_⟩
    · refine List.mem_append_left _ (?_ : _ ∈ (s.scanned p.val verdictLasting).raised)
      rw [State.scanned, State.raised_verdict]
      exact List.mem_append_right _ (List.mem_singleton_self _)
    · exact List.mem_append_right _ (List.mem_singleton_self _)
    · exact .setFlag ((s.keepsRegs_scanned p.val verdictLasting).mono (by simp)) (by simp)
  · obtain ⟨f, hfire, hfired⟩ := State.fireTimer_of_steady (k := k.val) hpend
    rw [State.fireTiles_of_room htile hl halloc hbusy htakes hon hbank hroom hall, hfresh, if_neg Bool.false_ne_true] at hfire
    refine ⟨s.timerQueued k.val l f, s.timerRequest k.val l, ?_, rfl, rfl, rfl, rfl, rfl, ?_, rfl,
      State.timerDue_timerQueued hfired, State.timerQueued_frame⟩
    · rw [← hfire]
      exact if_pos hdue
    · exact if_neg (by simp [halloc])
  · obtain ⟨f, hfire, hfired⟩ := State.fireTimer_of_steady (k := 7) hpend
    have hon : s.flag Reg.GYS_CTRL 0 = true := by
      simp only [State.timerDue, Bool.and_eq_true] at hdue
      exact hdue.1.1.1
    rw [State.fireTiles_of_room htile hl halloc hbusy htakes hon hbank hroom hall, hfresh, if_pos rfl] at hfire
    obtain ⟨l', marks, hframe, hptr, hcopy⟩ := (s.timerQueued 7 l f).paramRefresh_spec (s.phys l)
    refine ⟨(s.timerQueued 7 l f).paramRefresh (s.phys l), ?_, ?_, ?_, ?_, ?_, ?_⟩
    · rw [← hfire]
      exact if_pos hdue
    · rw [hframe]
      rfl
    · rw [hframe]
      exact hptr
    · rw [hframe]
      exact hcopy
    · rw [hframe]
      rfl
    · rw [hframe]
      rfl
  · rw [exec_timerPeriodWrite_of_opens ho, State.writeTimer_period, if_neg (by simp [hstop]), if_neg (by omega)]
  · rw [exec_timerPeriodWrite_of_opens ho, State.writeTimer_period]
    split
    · rfl
    · next hrun => exact congrArg _ (if_pos (hbad.resolve_left hrun))
  · refine ⟨_, exec_initContextStart_of_owed hl howed hused hcluster hfault, ?_⟩
    have hctx := (s.initOwedTo (s.gys.initOwed.filter (·.1 != l))).ctx_startContext p.val c.val (s.initRequest l b) 1048576
    simp only [State.th, hctx]
    exact ⟨rfl, rfl, rfl, rfl, rfl, rfl, rfl⟩
  · have hclasses' : (s.plainWrite (Reg.GYS_MAP l.val) 0x80000000).fourClasses := by
      rw [State.fourClasses, State.plainWrite_frame]
      exact hclasses
    have hmarked := State.Drained.drainMarked hclasses' l.val
    refine ⟨_, exec_drainSet_of_opens ho hdrain, ?_, ?_, fun r hr htile => ?_, ?_⟩
    · exact hmarked.maps l.val l.isLt 31 (State.flag_setFlag_mono (by decide)
        ((State.flag_plainWrite (rwBit_gysMap l) s _).trans (by decide)))
    · exact hmarked.maps l.val l.isLt 30 (State.flag_setFlag _ _ _ _ (by decide))
    · exact (State.queued_drainTile hclasses' l.isLt r hr).resolve_left fun hne => hne htile
    · rw [hmarked.contexts, State.plainWrite_frame]
      rfl
  · have hlost' : (s.plainWrite (Reg.GYS_MAP l.val) 0).flag (Reg.GYS_MAP l.val) 28 = false :=
      (State.flag_plainWrite_of_ro (roBit_gysMap l) s _).trans hlost
    have hbank' : (s.plainWrite (Reg.GYS_MAP l.val) 0).activeBank = s.activeBank := by
      have hkeeps : s.keepsRegs (s.plainWrite (Reg.GYS_MAP l.val) 0) [Reg.GYS_MAP l.val] := .plainWrite .refl (by simp)
      refine congrArg (bitsAt · 0 2) (hkeeps _ ?_)
      simp only [Reg.GYS_MAP, Reg.GYS_STATUS, List.mem_singleton]
      omega
    have hinit := State.initAndReturn_of_active hlost' (hbank' ▸ hbank)
    refine ⟨_, (exec_drainClear_of_opens ho hdrain).trans (congrArg _ hinit), ?_, ?_, ?_, ?_⟩
    · exact State.flag_plainWrite (rwBit_gysMap l) s _
    · rw [State.oweInit, hbank', State.plainWrite_frame]
      exact List.mem_append_right _ (List.mem_singleton_self _)
    · exact (State.keepsRegs.plainWrite (s := s) (o := Reg.GYS_MAP l.val) .refl (List.mem_singleton_self _)).of_regs
    · rw [State.oweInit, State.plainWrite_frame]
  · have hwrite : exec (.clsqWrite ag c v) s = .next (if s.newlyOver (s.plainWrite (Reg.GYS_CLSQ c.val) v) then
        (s.plainWrite (Reg.GYS_CLSQ c.val) v).gysSticky stOverQuota else s.plainWrite (Reg.GYS_CLSQ c.val) v) := by
      change execClsqWrite ag c v s = _
      rw [execClsqWrite, State.writeAccess_opens _ _ _ _ _ ho]
      exact congrArg _ (if_neg (by simp [hgood]))
    obtain ⟨hmax, hresv, hdepth⟩ := rwBits_clsq c
    have hstay : (if s.newlyOver (s.plainWrite (Reg.GYS_CLSQ c.val) v) then
        (s.plainWrite (Reg.GYS_CLSQ c.val) v).gysSticky stOverQuota
        else s.plainWrite (Reg.GYS_CLSQ c.val) v).rd (Reg.GYS_CLSQ c.val) =
          (s.plainWrite (Reg.GYS_CLSQ c.val) v).rd (Reg.GYS_CLSQ c.val) := by
      split
      · exact State.rd_sticky_ne (by simp only [Reg.GYS_CLSQ, Reg.GYS_STICKY]; omega)
      · rfl
    refine ⟨_, hwrite, ?_, ?_, ?_, ?_, ?_⟩
    · exact (congrArg (bitsAt · 24 6) hstay).trans (State.fld_plainWrite hmax s v)
    · exact (congrArg (bitsAt · 16 6) hstay).trans (State.fld_plainWrite hresv s v)
    · exact (congrArg (bitsAt · 0 11) hstay).trans (State.fld_plainWrite hdepth s v)
    · exact .ite (.sticky (.plainWrite .refl (by simp)) (by simp)) (.plainWrite .refl (by simp))
    · exact State.SameButRaises.ite (.sticky (.plainWrite .refl)) (.plainWrite .refl)
  · change execClsqWrite ag c v s = _
    rw [execClsqWrite, State.writeAccess_opens _ _ _ _ _ ho]
    exact congrArg _ (if_pos hbad)

end Sys2Proof.Machine
end

section
/-!
Program banks (R156 to R158): their writes, their check and their switch.
-/
namespace Sys2Proof.Machine

/-! ### Writes of a bank -/

section Bank

variable {s t : State} {b : Nat}

theorem State.bankTouched_frame (s : State) (b : Nat) : s.bankTouched b =
    { s with regs := (s.setFlag Reg.GYS_BANK_STAT b false).regs, gys := { s.gys with check := (s.bankTouched b).gys.check } } := by
  unfold State.bankTouched
  dsimp only
  split
  · split <;> rfl
  · rfl

/-- A check under way of the bank is interrupted. -/
theorem State.check_bankTouched {d : Bool} (h : s.gys.check = some (b, d)) : (s.bankTouched b).gys.check = some (b, true) := by
  have hcheck : (s.setFlag Reg.GYS_BANK_STAT b false).gys.check = some (b, d) := h
  simp only [State.bankTouched, hcheck, if_true]

theorem State.keepsRegs_bankTouched (s : State) (b : Nat) : s.keepsRegs (s.bankTouched b) [Reg.GYS_BANK_STAT] := by
  rw [State.bankTouched_frame]
  exact State.keepsRegs.of_regs (State.keepsRegs.setFlag (o := Reg.GYS_BANK_STAT) (i := b) (b := false) .refl)

theorem State.flag_bankTouched (hb : b < 32) : (s.bankTouched b).flag Reg.GYS_BANK_STAT b = false := by
  rw [State.bankTouched_frame]
  exact s.flag_setFlag Reg.GYS_BANK_STAT b false hb

/-- The bytes of a bank replaced. -/
def State.bankStored (s : State) (k : Nat) (bs : List Byte) : State :=
  { s with gys := { s.gys with banks := memWriteBytes s.gys.banks k bs } }

theorem exec_bankWrite_of_up {s : State} {b : Fin 2} {i : Fin 524288} {v : Word} (hup : s.pdUp PD_FABRIC = true) :
    exec (.bankWrite b i v) s = .next (s.writeBank b.val (4 * i.val) (leBytes 4 v.toNat)) := if_pos hup

theorem State.writeBank_of_free {a : Nat} {bs : List Byte} (hlocked : s.bankLocked b = false)
    (hpoison : s.partlyPoisoned memProgram (2 ^ 21 * b + a) bs.length = none) :
    s.writeBank b a bs = State.clearPoison ((s.bankStored (2 ^ 21 * b + a) bs).bankTouched b) memProgram (2 ^ 21 * b + a)
      bs.length := by
  simp only [State.writeBank, hlocked, Bool.false_eq_true, if_false, hpoison]
  rfl

/-! ### The check of a bank -/

/-- What a check reads of the machine is the same in two states. -/
structure State.SameBank (s t : State) : Prop where
  hdr : ∀ b i, t.hdr b i = s.hdr b i
  banks : t.gys.banks = s.gys.banks
  anchors : t.cry.anchors = s.cry.anchors
  bne : t.pdUp PD_BNE = s.pdUp PD_BNE

theorem State.SameBank.headers (h : s.SameBank t) : t.hdr = s.hdr := funext₂ h.hdr

theorem State.SameBank.length (h : s.SameBank t) : t.bankLength = s.bankLength :=
  funext fun b => congrArg BitVec.toNat (h.hdr b 2)

theorem State.SameBank.region (h : s.SameBank t) : t.tregOk = s.tregOk := by
  funext b i
  rw [State.tregOk, State.tregOk, State.treg0, State.treg0, State.treg1, State.treg1, h.headers]

theorem State.SameBank.headerError (h : s.SameBank t) (b : Nat) : t.headerError b = s.headerError b := by
  have hentry : t.initEntry b = s.initEntry b := congrArg BitVec.toNat (h.hdr b 3)
  have htop : t.roTop b = s.roTop b := congrArg (bitsAt · 0 8 * 4096) (h.hdr b 6)
  have hbase : t.privBase b = s.privBase b := congrArg (bitsAt · 8 8 * 4096) (h.hdr b 6)
  have hsize : t.privSize b = s.privSize b := congrArg (bitsAt · 16 12 * 64) (h.hdr b 6)
  rw [State.headerError, State.headerError, h.headers, h.length, hentry, htop, hbase, hsize, h.region]

theorem State.SameBank.verifyError (h : s.SameBank t) (b : Nat) : t.verifyError b = s.verifyError b := by
  have hbytes : t.headerBytes b = s.headerBytes b := by rw [State.headerBytes, State.headerBytes, h.headers]
  have hsignature : t.signatureOk b = s.signatureOk b := by
    rw [State.signatureOk, State.signatureOk, hbytes, h.length, h.banks, h.anchors]
  rw [State.verifyError, State.verifyError, h.headerError, h.headers, h.bne, hsignature]

/-- The check's record closed. -/
def State.checkClosed (s : State) : State := State.setFlag { s with gys := { s.gys with check := none } } Reg.GYS_STATUS 4 false

theorem State.endVerify_of_passed (h : s.checkClosed.verifyError b = none) :
    s.endVerify b false = (s.checkClosed.setFlag Reg.GYS_BANK_STAT b true).raise 142 := by
  have hclosed : State.verifyError { s.setFlag Reg.GYS_STATUS 4 false with gys := { s.gys with check := none } } b = none := h
  simp only [State.endVerify, Bool.false_eq_true, if_false, hclosed]
  rfl

theorem State.sameBank_checkClosed (s : State) : s.SameBank s.checkClosed := by
  have hkeeps : s.keepsRegs s.checkClosed [Reg.GYS_STATUS] := .setFlag (.of_regs .refl)
  refine ⟨fun b i => hkeeps _ ?_, rfl, rfl, ?_⟩
  · simp only [Reg.GYS_HDRA, Reg.GYS_HDRB, Reg.GYS_STATUS, List.mem_singleton]
    split <;> omega
  · have hpd : s.checkClosed.pd PD_BNE = s.pd PD_BNE := congrArg (bitsAt · 24 3) (hkeeps _ (by decide))
    have hmode : s.checkClosed.mode = s.mode := congrArg (bitsAt · 0 4) (hkeeps _ (by decide))
    rw [State.pdUp, hpd, hmode]
    rfl

end Bank

/-! ### The switch -/

/-- What a switch to bank b leaves. -/
structure State.Switched (s : State) (b : Nat) (q : Bool) (t : State) : Prop where
  active : t.activeBank = b
  pending : t.flag Reg.GYS_STATUS 2 = false
  pend : t.gys.pendSwitch = none
  raised : (⟨140, 0, 0⟩ : Raise) ∈ t.raised
  owed : t.gys.initOwed = s.initTiles.map fun l => (l, b, q)
  regs : s.keepsRegs t [Reg.GYS_STATUS]
  queued : t.gys.queued = s.gys.queued
  contexts : t.gys.contexts = s.gys.contexts
  frame : t = { s with regs := t.regs, raised := t.raised, gys := t.gys }

/-- States that differ in registers, raises and the array alone go on differing so. -/
theorem State.frame_gys {s t : State} (h : t = { s with regs := t.regs, raised := t.raised, gys := t.gys })
    (m : List (Nat × Word)) (r : List Raise) (g : GysState) :
    { t with regs := m, raised := r, gys := g } = { s with regs := m, raised := r, gys := g } := by
  rw [h]

/-- The old bank's use recorded. -/
def State.oldSet (s : State) (c : Bool) (o : Option Nat) : State :=
  { s.setFlag Reg.GYS_STATUS 3 c with gys := { s.gys with oldBank := o } }

/-- The record of the old bank's use changes nothing of the switch. -/
theorem State.Switched.old {s t : State} {b : Nat} {q : Bool} (h : s.Switched b q t) (c : Bool) (o : Option Nat) :
    s.Switched b q (t.oldSet c o) where
  active := (State.fld_setFlag_other t _ _ _ _ _ _ (.inr (.inr (by decide)))).trans h.active
  pending := (State.flag_setFlag_other t _ _ _ _ _ (.inr (by decide))).trans h.pending
  pend := h.pend
  raised := h.raised
  owed := h.owed
  regs := State.keepsRegs.of_regs (State.keepsRegs.setFlag (o := Reg.GYS_STATUS) (i := 3) (b := c) h.regs)
  queued := h.queued
  contexts := h.contexts
  frame := State.frame_gys h.frame ..

/-- A raise changes nothing of the switch. -/
theorem State.Switched.raise {s t : State} {b : Nat} {q : Bool} (h : s.Switched b q t) (k : Nat) : s.Switched b q (t.raise k) where
  active := h.active
  pending := h.pending
  pend := h.pend
  raised := List.mem_append_left _ h.raised
  owed := h.owed
  regs := h.regs
  queued := h.queued
  contexts := h.contexts
  frame := State.frame_gys h.frame ..

/-- The switch before the old bank is looked at. -/
def State.switchedOver (s : State) (b : Nat) (q : Bool) (o : Option Nat) : State :=
  State.raise { (s.setFld Reg.GYS_STATUS 0 2 b).setFlag Reg.GYS_STATUS 2 false with gys := { s.gys with
    pendSwitch := none, oldBank := o, initOwed := s.initTiles.map fun l => (l, b, q) } } 140

theorem State.switched_switchedOver (s : State) {b : Nat} (hb : b < 2) (q : Bool) (o : Option Nat) :
    s.Switched b q (s.switchedOver b q o) where
  active := (State.fld_setFlag_other (s.setFld Reg.GYS_STATUS 0 2 b) _ _ _ _ _ _ (.inr (.inr (by decide)))).trans
    ((s.fld_setFld Reg.GYS_STATUS 0 2 b (by decide)).trans (Nat.mod_eq_of_lt (by omega)))
  pending := State.flag_setFlag (s.setFld Reg.GYS_STATUS 0 2 b) _ _ _ (by decide)
  pend := rfl
  raised := List.mem_append_right _ (List.mem_singleton_self _)
  owed := rfl
  regs := State.keepsRegs.of_regs (State.keepsRegs.setFlag (o := Reg.GYS_STATUS) (i := 2) (b := false)
    (State.keepsRegs.setFld (o := Reg.GYS_STATUS) (lo := 0) (n := 2) (v := b) .refl))
  queued := rfl
  contexts := rfl
  frame := rfl

theorem State.switched_checkOld {s t : State} {b : Nat} {q : Bool} (h : s.Switched b q t) : s.Switched b q t.checkOld := by
  unfold State.checkOld
  split
  · exact h
  · split
    · exact h
    · exact (h.old false none).raise 141

theorem State.switched_switchTo (s : State) {b : Nat} (hb : b < 2) (q : Bool) : s.Switched b q (s.switchTo b q) := by
  refine State.switched_checkOld ?_
  split
  · exact s.switched_switchedOver hb q _
  · exact (s.switched_switchedOver hb q _).old true _

/-! ### The commands -/

theorem exec_bankHeaderWrite_of_opens {s : State} {ag : Agent} {b : Fin 2} {i : Fin 128} {v : Word}
    (ho : s.opens ag (if b.val = 0 then Reg.GYS_HDRA i.val else Reg.GYS_HDRB i.val) = true) (hfree : s.bankLocked b.val = false) :
    exec (.bankHeaderWrite ag b i v) s =
      .next ((s.wr (if b.val = 0 then Reg.GYS_HDRA i.val else Reg.GYS_HDRB i.val) v).bankTouched b.val) := by
  change execBankHeaderWrite ag b i v s = _
  rw [execBankHeaderWrite, State.writeAccess_opens _ _ _ _ _ ho]
  exact congrArg _ (if_neg (by simp [hfree]))

theorem verifyWord (b : Fin 2) : bitAt (BitVec.ofNat 32 (2 ^ 4 + b.val * 2 ^ 5)) 4 = true ∧
    bitsAt (BitVec.ofNat 32 (2 ^ 4 + b.val * 2 ^ 5)) 5 1 = b.val ∧ bitAt (BitVec.ofNat 32 (2 ^ 4 + b.val * 2 ^ 5)) 0 = false := by
  decide +revert

theorem exec_bankVerify_of_opens {s : State} {ag : Agent} {b : Fin 2} (ho : s.opens ag Reg.GYS_BANK_CTL = true) :
    exec (.bankVerify ag b) s = .next (s.startVerify b.val) := by
  obtain ⟨hverify, hbank, hswitch⟩ := verifyWord b
  change execBankVerify ag b s = _
  rw [execBankVerify, State.writeAccess_opens _ _ _ _ _ ho, State.writeBankCtl, hverify, hbank, hswitch]
  rfl

theorem switchWord (b : Fin 2) (q : Bool) : bitAt (BitVec.ofNat 32 (1 + b.val * 2 + ofBool q * 4)) 4 = false ∧
    bitAt (BitVec.ofNat 32 (1 + b.val * 2 + ofBool q * 4)) 0 = true ∧
    bitsAt (BitVec.ofNat 32 (1 + b.val * 2 + ofBool q * 4)) 1 1 = b.val ∧
    bitAt (BitVec.ofNat 32 (1 + b.val * 2 + ofBool q * 4)) 2 = q := by
  decide +revert

theorem exec_bankSwitch_of_opens {s : State} {ag : Agent} {b : Fin 2} {q : Bool} (ho : s.opens ag Reg.GYS_BANK_CTL = true) :
    exec (.bankSwitch ag b q) s = .next (s.requestSwitch b.val q) := by
  obtain ⟨hverify, hswitch, hbank, hquiesce⟩ := switchWord b q
  change execBankSwitch ag b q s = _
  rw [execBankSwitch, State.writeAccess_opens _ _ _ _ _ ho, State.writeBankCtl, hverify, hswitch, hbank, hquiesce]
  rfl

/-- A switch that waits for its instant. -/
def State.switchPending (s : State) (b : Nat) (q : Bool) : State :=
  { (s.setFld Reg.GYS_BANK_STAT 16 8 0).setFlag Reg.GYS_STATUS 2 true with gys := { s.gys with pendSwitch := some (b, q) } }

/-- Settles O37: what a bank's write touches, what its check reads and what its switch leaves. -/
theorem programBanks : Obligations.ProgramBanks := by
  refine ⟨fun s b i v hup hfree hpoison => ?_, fun s b i v hup hlocked => ?_, fun s ag b i v ho hfree => ?_,
    fun s ag b ho hidle => ?_, fun s b hcheck hb hgood => ?_, fun s b hcheck => ?_, fun s ag b q ho hok hactive => ?_,
    fun s ag b q e ho herr => ?_, fun s b q hpend hb => ?_⟩
  · refine ⟨_, (exec_bankWrite_of_up hup).trans (congrArg _ (State.writeBank_of_free hfree hpoison)), ?_, ?_, ?_, ?_, ?_, ?_⟩
    · rw [State.bankTouched_frame]
      have hread := memReadBytes_write s.gys.banks (2 ^ 21 * b.val + 4 * i.val) (leBytes 4 v.toNat)
      rw [length_leBytes] at hread
      exact (congrArg ofLeBytes hread).trans (Tests.ofLeBytes_four _ v.isLt)
    · rw [State.bankTouched_frame]
      exact fun a ha => memRead_writeBytes_other _ _ _ _ (by rwa [length_leBytes])
    · exact State.flag_bankTouched (by omega)
    · exact State.keepsRegs_bankTouched (s.bankStored _ _) b.val
    · exact fun d hd => State.check_bankTouched hd
    · rw [State.bankTouched_frame]
      rfl
  · exact (exec_bankWrite_of_up hup).trans (congrArg _ (if_pos hlocked))
  · refine ⟨_, exec_bankHeaderWrite_of_opens ho hfree, ?_, State.flag_bankTouched (by omega), ?_, ?_⟩
    · refine (State.keepsRegs_bankTouched _ b.val _ ?_).trans ?_
      · simp only [Reg.GYS_HDRA, Reg.GYS_HDRB, Reg.GYS_BANK_STAT, List.mem_singleton]
        split <;> omega
      · exact State.rd_wr_same ..
    · exact .trans (.wr .refl (by simp)) ((State.keepsRegs_bankTouched _ b.val).mono (by simp))
    · rw [State.bankTouched_frame]
      rfl
  · refine ⟨_, (exec_bankVerify_of_opens ho).trans (congrArg _ (if_neg (by simp [hidle]))), ?_, ?_, rfl, ?_, rfl⟩
    · refine (State.flag_setFld_other _ _ _ _ _ _ _ (.inl (by decide)) (by decide)).trans
        (State.flag_setFlag s Reg.GYS_STATUS 4 true (by decide))
    · exact State.fld_setFld _ _ _ _ _ (by decide)
    · exact .setFld (.setFlag .refl)
  · have hsame : s.checkClosed.verifyError b = none := (s.sameBank_checkClosed.verifyError b).trans hgood
    change execVerifyDone s = _
    simp only [execVerifyDone, hcheck]
    exact congrArg _ (State.endVerify_of_passed hsame)
  · change execVerifyDone s = _
    simp only [execVerifyDone, hcheck]
    rfl
  · refine ⟨_, (exec_bankSwitch_of_opens ho).trans (congrArg _ (?_ : _ = State.switchPending s b.val q)), rfl, ?_, ?_, ?_, rfl⟩
    · simp only [State.requestSwitch, hok, if_neg hactive]
      rfl
    · exact State.flag_setFlag _ _ _ _ (by decide)
    · exact (State.fld_setFlag_other _ _ _ _ _ _ _ (.inr (.inr (by decide)))).trans
        (State.fld_setFld_other _ _ _ _ _ _ _ _ (.inl (by decide)) (by decide))
    · exact .setFlag (.setFld .refl)
  · refine (exec_bankSwitch_of_opens ho).trans ?_
    simp only [State.requestSwitch, herr]
    rfl
  · have hexec : exec .switchInstant s = .next (s.switchTo b q) := by
      change Host.Outcome.next s.carrySwitch = _
      rw [State.carrySwitch, hpend]
    obtain ⟨hactive, hpending, hpend', hraised, howed, hregs, hqueued, hcontexts, hframe⟩ := s.switched_switchTo hb q
    exact ⟨_, hexec, hactive, hpending, hpend', hraised, howed, hregs, hqueued, hcontexts, hframe⟩

end Sys2Proof.Machine
end

section
/-!
The end of a crypto job (R195, R201): a context that also waits for the load of a register stays WAITING.
-/
namespace Sys2Proof.Machine

/-- A thread whose job is under way and whose register load has not been answered. -/
def loadingInJob : Thread :=
  { Thread.reset with status := .waiting, op := some ⟨.job 0 0 0, some 1, 0⟩, busLoad := some (1, false) }

/-- Context 0 of tile 0 with that thread, its job running on pipeline 0 and its descriptor written over. -/
def tileLoadingInJob : State :=
  State.setTh { State.reset with cry := { State.reset.cry with running := [(0, 0, 0, none)], spoiled := [(0, 0)] } }
    (.tile 0 0) loadingInJob

/-- Whatever the result, the thread goes on waiting for its load. -/
theorem complete_loadingInJob (v : Word64) (res : Bool) : (loadingInJob.complete (some v) (some res)).status = .waiting := rfl

theorem State.th_countJob (s : State) (x : Ctx) (status : Nat) : (s.countJob status).th x = s.th x := by
  unfold State.countJob
  dsimp only
  split <;> cases x <;> rfl

/-- The end of a job of no table operation, with any status, in a state with that thread. -/
theorem status_endJob {s : State} (hs : s.th (.tile 0 0) = loadingInJob) (status : Nat) :
    ((s.endJob (.tile 0 0) 0 0 0 status).th (.tile 0 0)).status = .waiting := by
  have hdropped : ((s.countJob status).dropJob 0 0).th (.tile 0 0) = loadingInJob := (s.th_countJob (.tile 0 0) status).trans hs
  change (State.th (((s.countJob status).dropJob 0 0).completeOp (.tile 0 0) _ _) (.tile 0 0)).status = _
  rw [State.completeOp, State.readied, if_neg]
  · rw [State.th_setTh, hdropped, complete_loadingInJob]
  · rw [State.th_setTh, hdropped, complete_loadingInJob]
    exact fun h => by cases h.2

/-- The job ends with results that the spec leaves open. -/
theorem exec_cjobComplete_tileLoadingInJob :
    ∃ t, exec (.cjobComplete 0 0 .none) tileLoadingInJob = .next t ∧ (t.th (.tile 0 0)).status = .waiting := by
  have hth : (tileLoadingInJob.drawn.freeOutputs 0 0 0 0).th (.tile 0 0) = loadingInJob := by decide +kernel
  exact ⟨_, rfl, status_endJob hth _⟩

/-- Refutes O38: CJOB_COMPLETE does not make a context READY that waits for the load of a register, and no premise
excludes that load. -/
theorem not_cryptoJobs : ¬ Obligations.CryptoJobs := by
  rintro ⟨-, -, -, -, -, -, -, -, -, -, -, -, -, hspoiled⟩
  obtain ⟨t, hexec, -, hready, -⟩ := hspoiled tileLoadingInJob 0 0 0 0 0 1 0 0 none (by decide +kernel) (by decide +kernel)
    (by decide +kernel) (by decide +kernel) (by decide +kernel)
  obtain ⟨u, hexec', hwaiting⟩ := exec_cjobComplete_tileLoadingInJob
  obtain rfl := Host.Outcome.next.inj (hexec.symm.trans hexec')
  cases hready.symm.trans hwaiting

end Sys2Proof.Machine
end

section
/-!
Key commands while CRY_KSTAT.BUSY is set: the command is refused with ERR 8, whatever the slot's state.
-/
namespace Sys2Proof.Machine

/-- In STAGED, PD_CRYPTO is on, key slot 0 is CURRENT and CRY_KSTAT.BUSY is set. -/
def busyWithCurrent : State :=
  (((State.reset.setFld Reg.GCTL_STATUS 0 4 modeStaged).setFld (Reg.CPM_PD_CTL PD_CRYPTO) 24 3 pdOn).setKeyState 0 slotCurrent).setFlag Reg.CRY_KSTAT 31 true

/-- Refutes O39: a RETIRE of the CURRENT slot gives ERR 8, not 5, while CRY_KSTAT.BUSY is set, and no premise excludes
BUSY. -/
theorem not_keysAndAnchors : ¬ Obligations.KeysAndAnchors := by
  rintro ⟨-, -, -, -, hretire, -⟩
  have hexec := hretire busyWithCurrent .jtag 0 (by decide +kernel) (by decide +kernel)
  have hbusy : exec (.keyRetire .jtag 0) busyWithCurrent = .next (busyWithCurrent.keyError 8) := by
    have ho : busyWithCurrent.opens .jtag Reg.CRY_KCMD = true := by decide +kernel
    change execKeyRetire .jtag 0 busyWithCurrent = _
    rw [execKeyRetire, State.writeAccess_opens _ _ _ _ _ ho]
    rw [State.writeKeyCommand, if_neg (by decide), if_pos (by decide +kernel)]
  have herr : (busyWithCurrent.keyError 8).fld Reg.CRY_KSTAT 0 8 = 8 := by decide +kernel
  rw [Host.Outcome.next.inj (hbusy.symm.trans hexec)] at herr
  exact absurd herr (by decide +kernel)

end Sys2Proof.Machine
end

section
/-!
Consecutive registers written at once: which registers keep their value, and the frame.
-/
namespace Sys2Proof.Machine

theorem State.keepsRegs.wrWords {s t : State} {l : List Nat} (ws : List Word) (o : Nat) (h : s.keepsRegs t l)
    (hl : ∀ i < ws.length, o + 4 * i ∈ l) : s.keepsRegs (t.wrWords o ws) l := by
  induction ws generalizing o t with
  | nil => exact h
  | cons w ws ih =>
    refine ih (o + 4) (h.wr (hl 0 (by simp))) fun i hi => ?_
    have hm := hl (i + 1) (by simpa using hi)
    rwa [show o + 4 * (i + 1) = o + 4 + 4 * i by omega] at hm

theorem State.wrWords_eq_regs (s : State) (o : Nat) (ws : List Word) : ∃ m, s.wrWords o ws = { s with regs := m } := by
  induction ws generalizing s o with
  | nil => exact ⟨s.regs, rfl⟩
  | cons w ws ih =>
    obtain ⟨m, hm⟩ := ih (s.wr o w) (o + 4)
    exact ⟨m, hm⟩

end Sys2Proof.Machine
end

section
/-!
The commands of the selector (R230 to R251): SEL_CMD, the injections and the alignment step.
-/
namespace Sys2Proof.Machine

section
variable {s : State} {ag : Agent} {v : Word}

theorem exec_inject_of_opens {m : Fin 2} (ho : s.opens ag (Reg.SEL_INJ_CTL m.val) = true) (hv : bitAt v 31 = true) :
    exec (.inject ag m v) s = .next (if s.injectRefused m.val (s.injection m.val v) then s.selError seInj (14 + m.val)
      else { s.setFlag (Reg.SEL_INJ_CTL m.val) 0 true with
        sel := { s.sel with injected := s.sel.injected ++ [(14 + m.val, s.injection m.val v)] } }) := by
  change execInject ag m v s = _
  rw [execInject, State.writeAccess_opens _ _ _ _ _ ho]
  exact congrArg Host.Outcome.next (if_neg (by simp [hv]))

theorem State.injectRefused_iff (s : State) (m : Nat) (r : Injected) :
    s.injectRefused m r = true ↔ s.tick < ct96ToFrac r.at_ ∨ (ct96ToFrac r.at_ : Int) < s.tick - 2 * (10 ^ 9 * 2 ^ 16) ∨
      s.flag (Reg.SEL_INJ_CTL m) 0 = true ∨ ct96Valid r.at_ = false ∨ ct96Valid r.off = false := by
  simp only [State.injectRefused, Bool.or_eq_true, decide_eq_true_eq, Bool.not_eq_true']
  simp only [tickSec]
  tauto

/-- A command of SEL_CMD with GO, whatever its operation. -/
theorem State.selCommand_of_opens {op : Nat} (ho : s.opens ag Reg.SEL_CMD = true) (hop : bitsAt v 24 3 = op) :
    s.selCommand ag op v = s.writeSelCmd v := by
  rw [State.selCommand, State.writeAccess_opens _ _ _ _ _ ho]
  exact if_pos hop

/-- While an ALIGN is unfinished every command is refused. -/
theorem State.writeSelCmd_of_unfinished (hv : bitAt v 31 = true) (hun : s.sel.aligning = some false ∨ s.sel.wrote = some false) :
    s.writeSelCmd v = s.selError 2 := by
  simp [State.writeSelCmd, hv, hun]

section
variable (ho : s.opens ag Reg.SEL_CMD = true) (hv : bitAt v 31 = true) (ha : s.sel.aligning ≠ some false) (hw : s.sel.wrote ≠ some false)
include ho hv ha hw

theorem State.selCommand_align (hop : bitsAt v 24 3 = 1) : s.selCommand ag 1 v = s.cmdAlign := by
  rw [State.selCommand_of_opens ho hop]
  simp [State.writeSelCmd, hv, ha, hw, hop]

theorem State.selCommand_forceSlew (hop : bitsAt v 24 3 = 2) : s.selCommand ag 2 v = s.cmdForceSlew := by
  rw [State.selCommand_of_opens ho hop]
  simp [State.writeSelCmd, hv, ha, hw, hop]

theorem State.selCommand_wtrClr (hop : bitsAt v 24 3 = 3) : s.selCommand ag 3 v = s.cmdWtrClr (bitsAt v 0 4) := by
  rw [State.selCommand_of_opens ho hop]
  simp [State.writeSelCmd, hv, ha, hw, hop]

theorem State.selCommand_loadSeed (hop : bitsAt v 24 3 = 4) : s.selCommand ag 4 v = s.cmdLoadSeed := by
  rw [State.selCommand_of_opens ho hop]
  simp [State.writeSelCmd, hv, ha, hw, hop]

theorem State.selCommand_relearn (hop : bitsAt v 24 3 = 5) : s.selCommand ag 5 v = s.cmdRelearn := by
  rw [State.selCommand_of_opens ho hop]
  simp [State.writeSelCmd, hv, ha, hw, hop]

end

theorem State.cmdForceSlew_of_not_align (hd : s.dstate ≠ dsAlign) : s.cmdForceSlew = s.selError 3 (s.cur.getD 0) := by
  unfold State.cmdForceSlew
  cases s.cur with
  | none => rfl
  | some n => exact if_neg hd

/-- The selector with another state, whose model is shown and marked valid or not. -/
def State.modelShown (s : State) (x : SelState) (mark : Bool) : State :=
  (State.setFlag { s with sel := x } Reg.SEL_STATUS 25 mark).showModel

/-- A model taken, its mark set and shown: the registers of SEL_MOD and SEL_STATUS alone change. -/
theorem State.modelShown_spec (s : State) (x : SelState) (mark : Bool) :
    (s.modelShown x mark).flag Reg.SEL_STATUS 25 = mark ∧ (s.modelShown x mark).sel = x ∧
      s.keepsRegs (s.modelShown x mark) (Reg.SEL_STATUS :: (List.range 10).map Reg.SEL_MOD) ∧
      s.modelShown x mark = { s with regs := (s.modelShown x mark).regs, sel := (s.modelShown x mark).sel } := by
  set t := State.setFlag { s with sel := x } Reg.SEL_STATUS 25 mark with ht
  rw [show s.modelShown x mark = t.showModel from rfl]
  have hshown : t.keepsRegs t.showModel ((List.range 10).map Reg.SEL_MOD) :=
    State.keepsRegs.wrWords _ _ .refl (by simp [Reg.SEL_MOD])
  obtain ⟨m, hm⟩ : ∃ m, t.showModel = { t with regs := m } := t.wrWords_eq_regs (Reg.SEL_MOD 0) _
  refine ⟨?_, ?_, ?_, ?_⟩
  · rw [State.flag, hshown _ (by decide)]
    exact State.flag_setFlag _ _ _ _ (by decide)
  · rw [hm, ht]
    rfl
  · exact (State.keepsRegs.setFlag (.of_regs .refl)).trans (hshown.mono (List.subset_cons_self ..))
  · rw [hm, ht]
    rfl

end

/-- Settles O40: each command through the branch of SEL_CMD that its operation selects. -/
theorem selectorCommands : Obligations.SelectorCommands := by
  refine ⟨fun s ag m v ho hv hok => ?_, fun s ag m v ho hv hbad => ?_, fun s bit n herr => ?_,
    fun s n hfw hcur hsteers hmode hset hctrl halign hwindow => ?_, fun s ag v ho hv hop ha hw hd => ?_,
    fun s ag v ho hv hop ha hw hd => ?_, fun s ag v ho hv hop hun => ?_,
    fun s n hfw hcur hsteers hd ha hwindow hset => ?_, fun s ag v n ho hv hop ha hw hcur hd => ?_,
    fun s ag v ho hv hop ha hw hd => ?_, fun s ag v ho hv hop ha hw hd => ?_, fun s ag v ho hv hop ha hw hd => ?_,
    fun s ag v ho hv hop ha hw hm => ?_, fun s ag v ho hv hop ha hw hm hm' => ?_, fun s ag v ho hv hop ha hw => ?_⟩
  · rw [exec_inject_of_opens ho hv, hok]
    exact ⟨_, rfl, State.flag_setFlag _ _ _ _ (by decide), rfl,
      .of_regs (State.keepsRegs.setFlag (o := Reg.SEL_INJ_CTL m.val) .refl (List.mem_singleton_self _)), rfl⟩
  · rw [exec_inject_of_opens ho hv, (s.injectRefused_iff m.val (s.injection m.val v)).mpr hbad, if_pos rfl]
  · rw [State.selError, herr]
    rfl
  · change execInitAlignStep s = _
    rw [execInitAlignStep, hcur]
    exact congrArg Host.Outcome.next (if_pos ⟨hfw, hsteers, hmode, by simp [State.initialAlign, hset, hctrl], halign, hwindow⟩)
  · exact congrArg Host.Outcome.next ((State.selCommand_align ho hv ha hw hop).trans (if_pos hd))
  · exact congrArg Host.Outcome.next ((State.selCommand_align ho hv ha hw hop).trans (if_neg hd))
  · exact congrArg Host.Outcome.next ((State.selCommand_of_opens ho hop).trans (State.writeSelCmd_of_unfinished hv hun))
  · change execAlignStepWrite s = _
    rw [execAlignStepWrite, hcur]
    exact congrArg Host.Outcome.next ((if_pos ⟨hfw, hsteers, hd, ha, hwindow⟩).trans (if_pos hset))
  · refine congrArg Host.Outcome.next ((State.selCommand_forceSlew ho hv ha hw hop).trans ?_)
    rw [State.cmdForceSlew, hcur]
    exact if_pos hd
  · exact congrArg Host.Outcome.next ((State.selCommand_forceSlew ho hv ha hw hop).trans (State.cmdForceSlew_of_not_align hd))
  · exact congrArg Host.Outcome.next ((State.selCommand_wtrClr ho hv ha hw hop).trans (if_pos hd))
  · exact congrArg Host.Outcome.next ((State.selCommand_wtrClr ho hv ha hw hop).trans (if_neg hd))
  · exact ⟨_, congrArg Host.Outcome.next ((State.selCommand_loadSeed ho hv ha hw hop).trans (if_pos hm)),
      State.modelShown_spec s _ true⟩
  · exact congrArg Host.Outcome.next ((State.selCommand_loadSeed ho hv ha hw hop).trans (if_neg (not_or.mpr ⟨hm, hm'⟩)))
  · exact ⟨_, congrArg Host.Outcome.next (State.selCommand_relearn ho hv ha hw hop), State.modelShown_spec s _ false⟩

end Sys2Proof.Machine
end

section
/-!
The placed outputs of Drypoint (R257 to R271): what the refresh of the run bits can change, the pulse outputs' states,
and the bytes of the TODOUT message in their registers.
-/
namespace Sys2Proof.Machine

/-! ### The run bits -/

theorem State.keepsRegs.outRun {s t : State} {l : List Nat} {k : Nat} {b : Bool} (h : s.keepsRegs t l)
    (ho : Reg.DRY_STATUS ∈ l) : s.keepsRegs (t.outRun k b) l := .ite h (h.setFlag ho).raise

theorem State.SameButRaises.outRun {s t : State} {k : Nat} {b : Bool} (h : s.SameButRaises t) :
    s.SameButRaises (t.outRun k b) := .ite h h.setFlag.raise

theorem State.flag_outRun (s : State) {k : Nat} (b : Bool) (hk : k < 32) : (s.outRun k b).flag Reg.DRY_STATUS k = b := by
  unfold State.outRun
  split
  · assumption
  · rw [State.flag_raise, State.flag_setFlag _ _ _ _ hk]

theorem State.flag_outRun_ne (s : State) {k n : Nat} (b : Bool) (hn : n ≠ k) :
    (s.outRun k b).flag Reg.DRY_STATUS n = s.flag Reg.DRY_STATUS n := by
  unfold State.outRun
  split
  · rfl
  · rw [State.flag_raise, State.flag_setFlag_other _ _ _ _ _ _ (.inr hn)]

theorem State.dry_outRun (s : State) (k : Nat) (b : Bool) : (s.outRun k b).dry = s.dry := by
  unfold State.outRun
  split <;> rfl

theorem State.keepsRegs.dryRefresh {s t : State} {l : List Nat} (h : s.keepsRegs t l) (ho : Reg.DRY_STATUS ∈ l) :
    s.keepsRegs t.dryRefresh l :=
  ((State.keepsRegs.foldl h fun _ _ _ hv => .ite (hv.outRun ho) hv).outRun ho).outRun ho

theorem State.SameButRaises.dryRefresh {s t : State} (h : s.SameButRaises t) : s.SameButRaises t.dryRefresh :=
  ((State.SameButRaises.foldl h (fun hv _ => .ite hv.outRun hv) _).outRun).outRun

/-- The refresh leaves the run bit of a pulse output in a pulse. -/
theorem State.flag_dryRefresh {s : State} {n : Nat} (hn : n < 4) (hhigh : (s.pps n).high ≠ none) :
    s.dryRefresh.flag Reg.DRY_STATUS n = s.flag Reg.DRY_STATUS n := by
  have hquiet : ∀ t : State, t.dry = s.dry ∧ t.flag Reg.DRY_STATUS n = s.flag Reg.DRY_STATUS n →
      ∀ k ∈ List.range 4, (t.quietPps k).dry = s.dry ∧ (t.quietPps k).flag Reg.DRY_STATUS n = s.flag Reg.DRY_STATUS n := by
    rintro t ⟨hdry, hflag⟩ k -
    unfold State.quietPps
    split
    · next hstop =>
      have hne : n ≠ k := by
        rintro rfl
        exact hhigh (by rw [State.pps, ← hdry]; exact hstop.2.1)
      exact ⟨(t.dry_outRun ..).trans hdry, (t.flag_outRun_ne _ hne).trans hflag⟩
    · exact ⟨hdry, hflag⟩
  have hfold := List.foldlRecOn (motive := fun t : State => t.dry = s.dry ∧ t.flag Reg.DRY_STATUS n = s.flag Reg.DRY_STATUS n)
    (List.range 4) State.quietPps ⟨rfl, rfl⟩ hquiet
  rw [State.dryRefresh, State.flag_outRun_ne _ _ (by omega), State.flag_outRun_ne _ _ (by omega)]
  exact hfold.2

/-! ### The states of the pulse outputs -/

theorem State.pps_eq_sparseGet (s : State) (n : Nat) : s.pps n = sparseGet (fun _ => PpsState.reset) s.dry.pps n := by
  unfold State.pps
  induction s.dry.pps with
  | nil => rfl
  | cons e m ih =>
    rw [List.find?_cons, sparseGet]
    by_cases h : e.1 = n
    · simp [h]
    · rw [show (e.1 == n) = false by simpa using h, if_neg (Ne.symm h)]
      exact ih

theorem State.pps_setPps (s : State) (n : Nat) (v : PpsState) : (s.setPps n v).pps n = v := by
  rw [State.pps_eq_sparseGet, State.setPps, sparseGet_set, if_pos rfl]

/-- A count 129 ticks ahead is less than a second behind one 128 ticks ahead (R257). -/
theorem State.predict_next_lt (s : State) : s.predict 129 < s.predict 128 + secUnits := by
  have hincr : s.incrUnits < 2 ^ 48 := by
    have hhigh := s.fld_lt Reg.CAL_INCR_CUR_H 0 16
    have hlow := (s.rd Reg.CAL_INCR_CUR_L).isLt
    unfold State.incrUnits
    omega
  have hdither : s.dither < 2 ^ 16 := s.fld_lt ..
  unfold State.predict secUnits
  dsimp only
  omega

/-- The second of the edge command whose target belongs to the tick 128 ahead. -/
theorem second_of_target {c c' d sec u : Int} (hu : 0 < u) (hlo : c ≤ sec * u - d) (hhi : sec * u - d < c') (hstep : c' < c + u) :
    (c + d + (u - 1)) / u = sec := by
  rw [Int.ediv_eq_iff_of_pos hu]
  constructor <;> linarith

theorem State.placeEdge_phase (s : State) (q : Rat) : (s.placeEdge q).2.2 < 64 := by
  unfold State.placeEdge
  dsimp only
  split
  · exact Nat.zero_lt_succ _
  · exact Nat.mod_lt _ (by decide)

/-- The edge command of PPSOUTn for a second whose target belongs to the tick 128 ahead (R257, R261). -/
def State.ppsCommand (s : State) (n sec : Nat) : EdgeCommand :=
  let place := s.placeEdge ((((sec * secUnits : Nat) : Int) - delayUnits (s.rd (Reg.DRY_PPS_DELAY n)) : Int) : Rat)
  ⟨sec, place.1, place.2.1, place.2.2, s.rd (Reg.DRY_PPS_CTL n), s.rd (Reg.DRY_PPS_WIDTH n)⟩

theorem State.schedulePps_of_target {s : State} {n sec : Nat} (harmed : (s.pps n).armed = true)
    (hen : s.flag (Reg.DRY_PPS_CTL n) 31 = true) (hsent : (s.pps n).sent = none)
    (hlabel : ∀ l, (s.pps n).label = some l → l < sec) (hmultiple : sec % s.fld (Reg.DRY_PPS_CTL n) 22 6 = 0)
    (hlead : s.atLead (((sec * secUnits : Nat) : Int) - delayUnits (s.rd (Reg.DRY_PPS_DELAY n)) : Int) = true)
    (hallowed : s.outAllowed (s.rd (Reg.DRY_PPS_CTL n)) = true) :
    s.schedulePps n = s.setPps n { s.pps n with sent := some (s.ppsCommand n sec) } := by
  set d := delayUnits (s.rd (Reg.DRY_PPS_DELAY n)) with hd
  have hsec : ((s.predict 128 : Int) + d + (secUnits - 1)) / secUnits = sec := by
    unfold State.atLead at hlead
    obtain ⟨hlo, hhi⟩ := Bool.and_eq_true_iff.mp hlead
    have hlo := of_decide_eq_true hlo
    have hhi := of_decide_eq_true hhi
    have hnext := s.predict_next_lt
    refine second_of_target (by decide) ?_ (c' := s.predict 129) ?_ (by exact_mod_cast hnext)
    · exact_mod_cast hlo
    · exact_mod_cast hhi
  have hfresh : (match (s.pps n).label with | some l => decide ((l : Int) < (sec : Int)) | none => true) = true := by
    cases h : (s.pps n).label with
    | none => rfl
    | some l => exact decide_eq_true (by exact_mod_cast hlabel l h)
  unfold State.schedulePps
  dsimp only
  rw [← hd, hsec, if_pos]
  · simp only [State.ppsCommand, ← hd]
    push_cast
    rfl
  · refine ⟨harmed, hen, hsent, Int.natCast_nonneg _, hfresh, by exact_mod_cast hmultiple, ?_, hallowed⟩
    exact_mod_cast hlead

/-! ### The TODOUT message -/

theorem leBytes_wordOfBytes (a b c d : Byte) :
    leBytes 4 (BitVec.ofNat 32 (ofLeBytes [a, b, c, d])).toNat = [a, b, c, d] := by
  have hlt := ofLeBytes_lt [a, b, c, d]
  rw [BitVec.toNat_ofNat, Nat.mod_eq_of_lt (by simpa using hlt)]
  simp only [leBytes, ofLeBytes, List.range_succ, List.range_zero, List.nil_append, List.cons_append, List.map_cons,
    List.map_nil, List.cons.injEq, and_true]
  refine ⟨?_, ?_, ?_, ?_⟩ <;> bv_omega

theorem bytes_wordsOfBytes : ∀ (k : Nat) (bs : List Byte), bs.length = 4 * k →
    (wordsOfBytes bs).length = k ∧ ((wordsOfBytes bs).flatMap fun w => leBytes 4 w.toNat) = bs := by
  intro k
  induction k with
  | zero =>
    intro bs hbs
    obtain rfl := List.length_eq_zero_iff.mp hbs
    exact ⟨rfl, rfl⟩
  | succ k ih =>
    intro bs hbs
    match bs, hbs with
    | a :: b :: c :: d :: bs, hbs =>
      obtain ⟨hlen, hbytes⟩ := ih bs (by simp at hbs; omega)
      refine ⟨by rw [wordsOfBytes, List.length_cons, hlen], ?_⟩
      rw [wordsOfBytes, List.flatMap_cons, hbytes, leBytes_wordOfBytes]
      rfl

theorem State.rd_wrWords (ws : List Word) : ∀ (s : State) (o i : Nat) (hi : i < ws.length),
    (s.wrWords o ws).rd (o + 4 * i) = ws[i] := by
  induction ws with
  | nil => exact fun s o i hi => absurd hi (Nat.not_lt_zero i)
  | cons w ws ih =>
    intro s o i hi
    match i with
    | 0 =>
      have hkeeps : (s.wr o w).keepsRegs ((s.wr o w).wrWords (o + 4) ws) ((List.range ws.length).map fun j => o + 4 + 4 * j) :=
        State.keepsRegs.wrWords ws (o + 4) .refl fun j hj => List.mem_map.mpr ⟨j, List.mem_range.mpr hj, rfl⟩
      refine (hkeeps o fun hm => ?_).trans (State.rd_wr_same ..)
      obtain ⟨j, -, hj⟩ := List.mem_map.mp hm
      omega
    | i + 1 =>
      rw [show o + 4 * (i + 1) = o + 4 + 4 * i by omega]
      exact ih (s.wr o w) (o + 4) i (by simpa using hi)

theorem State.length_todMessage (s : State) (sec : Nat) : (s.todMessage sec).length = 32 := by
  simp only [State.todMessage, List.length_append, List.length_cons, List.length_nil, List.length_replicate, length_beBytes]

/-- The bytes of a message written to DRY_TOD_BUF read back. -/
theorem State.todBuffer_wrWords (s : State) {bs : List Byte} (hbs : bs.length = 32) :
    (s.wrWords (Reg.DRY_TOD_BUF 0) (wordsOfBytes bs)).todBuffer = bs := by
  obtain ⟨hlen, hbytes⟩ := bytes_wordsOfBytes 8 bs hbs
  have hwords : (List.range 8).map (fun i => (s.wrWords (Reg.DRY_TOD_BUF 0) (wordsOfBytes bs)).rd (Reg.DRY_TOD_BUF i)) =
      wordsOfBytes bs := by
    refine List.ext_getElem (by simp [hlen]) fun i hi hi' => ?_
    rw [List.getElem_map, List.getElem_range]
    exact State.rd_wrWords _ s (Reg.DRY_TOD_BUF 0) i hi'
  unfold State.todBuffer
  conv_rhs => rw [← hbytes, ← hwords, List.flatMap_map]

end Sys2Proof.Machine
end

section
/-!
The commands of Drypoint, case by case.
-/
namespace Sys2Proof.Machine

/-- The ticks of a pulse (R260). -/
def State.pulseTicks (s : State) (c : EdgeCommand) : Nat :=
  (openDiv (bitsAt c.width 0 30 * 2 ^ 48) (s.incrUnits * 2 ^ 16 + s.dither)).toNat

/-- A pulse output in the pulse of an edge command. -/
def State.ppsInPulse (s : State) (n : Nat) (c : EdgeCommand) : PpsState :=
  { s.pps n with sent := none, label := some c.label, ctl := c.ctl, high := some (s.pulseTicks c) }

/-- The output in its pulse, the label shown and the run bit set. -/
def State.pulseShown (s : State) (n : Nat) (c : EdgeCommand) : State :=
  ((s.setPps n (s.ppsInPulse n c)).wr (Reg.DRY_PPS_LAST n) (BitVec.ofNat 32 c.label)).outRun n true

/-- The same, with the pulse of the message where TODOUT follows this output (R267). -/
def State.pulsed (s : State) (n : Nat) (c : EdgeCommand) : State :=
  if s.fld Reg.DRY_TOD_CTL 28 2 = n then
    { s.pulseShown n c with dry := { (s.pulseShown n c).dry with todPulse := some (c.label, c.edge, false) } }
  else s.pulseShown n c

theorem State.pulse_of_sent {s : State} {n : Nat} {c : EdgeCommand} (hsent : (s.pps n).sent = some c)
    (hhigh : (s.pps n).high = none) (hfell : ∀ f, (s.pps n).fell = some f → 1000 * 2 ^ 32 ≤ (c.edge : Int) - f) :
    s.pulse n = s.pulsed n c := by
  unfold State.pulse
  dsimp only
  rw [hsent]
  dsimp only
  rw [if_neg]
  · rfl
  · rw [hhigh]
    cases h : (s.pps n).fell with
    | none => exact Bool.false_ne_true
    | some f => exact fun hn => absurd (of_decide_eq_true hn) (not_lt.mpr (hfell f h))

theorem State.pulse_of_high {s : State} {n h : Nat} {c : EdgeCommand} (hsent : (s.pps n).sent = some c)
    (hhigh : (s.pps n).high = some h) :
    s.pulse n = ((s.setPps n { s.pps n with sent := none }).bump (Reg.DRY_PPS_SKIP n) 0 32).error Reg.DRY_ERR 1 126 := by
  unfold State.pulse
  dsimp only
  rw [hsent]
  dsimp only
  rw [hhigh]
  exact if_pos rfl

/-- What the pulse shows: the label, the run bit and the output's state. -/
structure State.Pulsed (s : State) (n : Nat) (c : EdgeCommand) (t : State) : Prop where
  last : t.rd (Reg.DRY_PPS_LAST n) = BitVec.ofNat 32 c.label
  runs : t.flag Reg.DRY_STATUS n = true
  pps : t.pps n = s.ppsInPulse n c
  keeps : s.keepsRegs t [Reg.DRY_PPS_LAST n, Reg.DRY_STATUS]
  frame : t = { s with regs := t.regs, raised := t.raised, dry := { s.dry with pps := t.dry.pps, todPulse := t.dry.todPulse } }

theorem State.pulseShown_pulsed (s : State) {n : Nat} (hn : n < 4) (c : EdgeCommand) : s.Pulsed n c (s.pulseShown n c) where
  last := by
    have hkeeps : ∀ t : State, t.keepsRegs (t.outRun n true) [Reg.DRY_STATUS] := fun t =>
      State.keepsRegs.outRun .refl (List.mem_singleton_self _)
    refine (hkeeps _ _ ?_).trans (State.rd_wr_same ..)
    simp only [Reg.DRY_PPS_LAST, Reg.DRY_STATUS, List.mem_singleton]
    omega
  runs := State.flag_outRun _ _ (by omega)
  pps := by
    rw [State.pps, State.pulseShown, State.dry_outRun]
    exact s.pps_setPps n _
  keeps := State.keepsRegs.outRun (State.keepsRegs.wr (.of_regs .refl) (by simp)) (by simp)
  frame := by
    have hshown : State.SameButRaises _ (s.pulseShown n c) := State.SameButRaises.outRun .refl
    rw [hshown]
    rfl

theorem State.pulsed_pulsed (s : State) {n : Nat} (hn : n < 4) (c : EdgeCommand) : s.Pulsed n c (s.pulsed n c) := by
  obtain ⟨hlast, hruns, hpps, hkeeps, hframe⟩ := s.pulseShown_pulsed hn c
  unfold State.pulsed
  split
  · exact ⟨hlast, hruns, hpps, hkeeps, by rw [hframe]⟩
  · exact ⟨hlast, hruns, hpps, hkeeps, hframe⟩

/-- The refresh of the run bits keeps what the pulse shows. -/
theorem State.Pulsed.dryRefresh {s t : State} {n : Nat} {c : EdgeCommand} (hn : n < 4) (h : s.Pulsed n c t) :
    s.Pulsed n c t.dryRefresh := by
  obtain ⟨hlast, hruns, hpps, hkeeps, hframe⟩ := h
  have hregs : t.keepsRegs t.dryRefresh [Reg.DRY_STATUS] := State.keepsRegs.dryRefresh .refl (List.mem_singleton_self _)
  have hrefresh : t.SameButRaises t.dryRefresh := .dryRefresh .refl
  refine ⟨?_, ?_, ?_, ?_, ?_⟩
  · refine (hregs _ ?_).trans hlast
    simp only [Reg.DRY_PPS_LAST, Reg.DRY_STATUS, List.mem_singleton]
    omega
  · exact (State.flag_dryRefresh hn (by rw [hpps]; exact Option.some_ne_none _)).trans hruns
  · rw [hrefresh]
    exact hpps
  · exact hkeeps.trans (hregs.mono (by simp))
  · rw [hrefresh, hframe]

theorem exec_outputCtlWrite_width {s : State} {ag : Agent} {n : Fin 4} {v : Word}
    (ho : s.opens ag (Reg.DRY_PPS_WIDTH n.val) = true) :
    exec (.outputCtlWrite ag (Reg.DRY_PPS_WIDTH n.val) v) s = .next (if 1000 ≤ bitsAt v 0 30 ∧ bitsAt v 0 30 ≤ 900000000 then
      (s.plainWrite (Reg.DRY_PPS_WIDTH n.val) v).dryRefresh else s.error Reg.DRY_ERR 0 126) := by
  have hn := n.isLt
  have hblock : 0x400100 ≤ Reg.DRY_PPS_WIDTH n.val ∧ Reg.DRY_PPS_WIDTH n.val < 0x400180 := by
    simp only [Reg.DRY_PPS_WIDTH]
    omega
  have hplace : Reg.DRY_PPS_WIDTH n.val % 0x20 = 4 := by
    simp only [Reg.DRY_PPS_WIDTH]
    omega
  have hrange : dryRangeOk (Reg.DRY_PPS_WIDTH n.val) v =
      (decide (1000 ≤ bitsAt v 0 30) && decide (bitsAt v 0 30 ≤ 900000000)) := by
    unfold dryRangeOk
    dsimp only
    rw [if_pos hblock, if_neg (by omega), if_pos hplace]
  change execOutputCtlWrite ag (Reg.DRY_PPS_WIDTH n.val) v s = _
  rw [execOutputCtlWrite, if_pos (by omega), State.writeAccess_opens _ _ _ _ _ ho, State.dryWrite,
    if_neg (by simp only [Reg.DRY_CKMON]; omega), hrange]
  by_cases h : 1000 ≤ bitsAt v 0 30 ∧ bitsAt v 0 30 ≤ 900000000
  · rw [if_pos h, if_neg (by simp [h])]
    dsimp only
    rw [if_neg (by omega), if_neg (by omega)]
  · rw [if_neg h, if_pos (by rw [Bool.and_eq_false_iff, decide_eq_false_iff_not, decide_eq_false_iff_not]; omega)]
    rfl

theorem exec_ckmonWrite_of_opens {s : State} {ag : Agent} {v : Word} (ho : s.opens ag Reg.DRY_CKMON = true) :
    exec (.ckmonWrite ag v) s = .next (s.writeCkmon v) :=
  congrArg Host.Outcome.next (State.writeAccess_opens _ _ _ _ _ ho)

/-- READY set, and the message's pulse marked written (R267). -/
def State.messageReady (s : State) (sec : Nat) (e : Int) : State :=
  { s.setFlag Reg.DRY_TOD_CTL 30 true with dry := { s.dry with todPulse := some (sec, e, true) } }

theorem State.keepsRegs_messageReady (s : State) (sec : Nat) (e : Int) :
    s.keepsRegs (s.messageReady sec e) [Reg.DRY_TOD_CTL] :=
  .of_regs (State.keepsRegs.setFlag (o := Reg.DRY_TOD_CTL) .refl)

theorem State.flag_messageReady (s : State) (sec : Nat) (e : Int) : (s.messageReady sec e).flag Reg.DRY_TOD_CTL 30 = true :=
  State.flag_setFlag _ _ _ _ (by decide)

theorem State.todBuffer_messageReady (s : State) (sec : Nat) (e : Int) : (s.messageReady sec e).todBuffer = s.todBuffer := by
  unfold State.todBuffer
  exact congrArg (fun f => (List.range 8).flatMap f) (funext fun i => by
    rw [s.keepsRegs_messageReady sec e _ (by simp only [Reg.DRY_TOD_BUF, Reg.DRY_TOD_CTL, List.mem_singleton]; omega)])

/-- The message for a pulse written with READY (R267). -/
def State.messageWritten (s : State) (sec : Nat) (e : Int) : State :=
  (s.wrWords (Reg.DRY_TOD_BUF 0) (wordsOfBytes (s.todMessage sec))).messageReady sec e

theorem exec_todMessageWrite_of_pulse {s : State} {sec : Nat} {e : Int} (hpulse : s.dry.todPulse = some (sec, e, false))
    (hfw : s.firmwareRuns = true) (hen : s.flag Reg.DRY_TOD_CTL 31 = true) :
    exec .todMessageWrite s = .next (s.messageWritten sec e) := by
  change execTodMessageWrite s = _
  rw [execTodMessageWrite, hpulse]
  exact congrArg Host.Outcome.next (if_pos ⟨hfw, hen⟩)

theorem State.todBuffer_messageWritten (s : State) (sec : Nat) (e : Int) :
    (s.messageWritten sec e).todBuffer = s.todMessage sec :=
  (State.todBuffer_messageReady ..).trans (s.todBuffer_wrWords (s.length_todMessage sec))

theorem State.keepsRegs_messageWritten (s : State) (sec : Nat) (e : Int) :
    s.keepsRegs (s.messageWritten sec e) (Reg.DRY_TOD_CTL :: (List.range 8).map Reg.DRY_TOD_BUF) := by
  refine State.keepsRegs.trans (State.keepsRegs.wrWords _ _ .refl ?_) (State.keepsRegs.mono (State.keepsRegs_messageReady _ sec e) (by simp))
  rw [(bytes_wordsOfBytes 8 _ (s.length_todMessage sec)).1]
  decide

theorem State.messageWritten_frame (s : State) (sec : Nat) (e : Int) :
    s.messageWritten sec e =
      { s with regs := (s.messageWritten sec e).regs, dry := { s.dry with todPulse := some (sec, e, true) } } := by
  obtain ⟨m, hm⟩ := s.wrWords_eq_regs (Reg.DRY_TOD_BUF 0) (wordsOfBytes (s.todMessage sec))
  rw [State.messageWritten, hm]
  rfl

/-- The message's last stop bit has gone out (R267). -/
def State.messageSent (s : State) (m : TodMessage) : State :=
  { (s.setFlag Reg.DRY_TOD_CTL 30 false).bump Reg.DRY_TOD_SENT 0 32 with
    dry := { s.dry with sending := none, seq := (s.dry.seq + 1) % 65536, line := s.dry.line ++ [m.bytes] } }

theorem State.flag_messageSent (s : State) (m : TodMessage) : (s.messageSent m).flag Reg.DRY_TOD_CTL 30 = false :=
  (State.flag_setFld_other _ Reg.DRY_TOD_SENT 0 32 _ Reg.DRY_TOD_CTL 30 (.inl (by decide)) (by decide)).trans
    (State.flag_setFlag _ _ _ _ (by decide))

theorem State.fld_messageSent (s : State) (m : TodMessage) :
    (s.messageSent m).fld Reg.DRY_TOD_SENT 0 32 = min (2 ^ 32 - 1) (s.fld Reg.DRY_TOD_SENT 0 32 + 1) := by
  refine (State.fld_bump _ Reg.DRY_TOD_SENT 0 32 1 (by decide) (by decide)).trans ?_
  rw [State.fld_setFlag_other _ _ _ _ _ _ _ (by decide)]

/-- Settles O42: each command's own branch, with the refresh of the run bits kept apart from its effect. -/
theorem placedOutputs : Obligations.PlacedOutputs := by
  refine ⟨fun s n => rfl, fun s n sec harmed hen hsent hlabel hmultiple hlead hallowed => ?_, fun s n => rfl,
    fun s n c hsent hhigh hfell => ?_, fun s n c h hsent hhigh => ?_, fun s n h hhigh harmed => ?_,
    fun s n h hhigh harmed => ?_, fun s ag n v ho hlo hhi => ?_, fun s ag n v ho hbad => ?_,
    fun s ag v ho hsel hdiv => ?_, fun s ag v ho hbad => ?_, fun s sec e hpulse hfw hen => ?_,
    fun s sec e w hpulse hallowed hdue hready => ?_, fun s sec e w hpulse hallowed hdue hready => ?_,
    fun s m hsending hlong => ?_, fun s m hsending hshort => ?_, fun s n hiso => ?_⟩
  · exact ⟨_, State.schedulePps_of_target harmed hen hsent hlabel hmultiple hlead hallowed, rfl, rfl, rfl,
      s.placeEdge_phase _⟩
  · obtain ⟨hlast, hruns, hpps, hkeeps, hframe⟩ := State.Pulsed.dryRefresh n.isLt (s.pulsed_pulsed n.isLt c)
    refine ⟨_, congrArg (fun t : State => Host.Outcome.next t.dryRefresh) (State.pulse_of_sent hsent hhigh hfell), hlast,
      hruns, ?_, ?_, ?_, ?_, hkeeps, hframe⟩ <;> rw [hpps] <;> rfl
  · exact congrArg (fun t : State => Host.Outcome.next t.dryRefresh) (State.pulse_of_high hsent hhigh)
  · change execPpsPulseEnd n s = _
    rw [execPpsPulseEnd]
    dsimp only
    rw [hhigh, harmed]
    rfl
  · change execPpsPulseEnd n s = _
    rw [execPpsPulseEnd]
    dsimp only
    rw [hhigh, harmed]
    rfl
  · rw [exec_outputCtlWrite_width ho, if_pos ⟨hlo, hhi⟩]
  · rw [exec_outputCtlWrite_width ho, if_neg (by omega)]
  · rw [exec_ckmonWrite_of_opens ho, State.writeCkmon, hsel]
    exact congrArg Host.Outcome.next (if_neg (by omega))
  · rw [exec_ckmonWrite_of_opens ho, State.writeCkmon]
    rcases hbad with ⟨hsel, hdiv⟩ | hsel | hsel <;> rw [hsel]
    · exact congrArg Host.Outcome.next (if_pos (by omega))
    · rfl
    · rfl
  · exact ⟨_, exec_todMessageWrite_of_pulse hpulse hfw hen, State.flag_messageReady .., s.todBuffer_messageWritten sec e,
      s.keepsRegs_messageWritten sec e, s.messageWritten_frame sec e⟩
  · change execTodMessageStart s = _
    rw [execTodMessageStart, hpulse]
    dsimp only
    rw [if_neg (not_or.mpr ⟨ne_false_of_eq_true hallowed, not_lt.mpr hdue⟩), if_pos hready]
  · change execTodMessageStart s = _
    rw [execTodMessageStart, hpulse]
    dsimp only
    rw [if_neg (not_or.mpr ⟨ne_false_of_eq_true hallowed, not_lt.mpr hdue⟩), if_neg (by simp [hready])]
    rfl
  · have hexec : exec .todMessageEnd s = .next (s.messageSent m) := by
      change execTodMessageEnd s = _
      rw [execTodMessageEnd, hsending]
      exact congrArg Host.Outcome.next (if_neg (not_le.mpr hlong))
    exact ⟨_, hexec, rfl, s.flag_messageSent m, s.fld_messageSent m,
      .of_regs (State.keepsRegs.bump (o := Reg.DRY_TOD_SENT) (State.keepsRegs.setFlag (o := Reg.DRY_TOD_CTL) .refl)), rfl⟩
  · change execTodMessageEnd s = _
    rw [execTodMessageEnd, hsending]
    exact congrArg Host.Outcome.next (if_pos hshort)
  · have hball : ∀ runs active pol, s.ball runs active pol = .float := fun _ _ _ => if_pos hiso
    refine ⟨hball .., hball .., ?_, hball ..⟩
    unfold State.todBall
    split <;> exact hball ..

end Sys2Proof.Machine
end

section
/-!
The sample clock, its markers and the sample inputs (R274 to R290).
-/
namespace Sys2Proof.Machine

/-! ### Channels that are lost with the sample clock -/

/-- A channel in one of the tracking states is one of the tracking channels. -/
theorem State.mem_trackingChannels {s : State} {c : Nat} (hlo : chFll ≤ (s.channel c).state) (hhi : (s.channel c).state ≤ chData) :
    c ∈ s.trackingChannels := by
  unfold State.channel at hlo hhi
  cases hfind : s.gns.channels.find? (·.1 == c) with
  | none =>
    rw [hfind] at hlo
    exact absurd hlo (by decide)
  | some e =>
    rw [hfind] at hlo hhi
    exact List.mem_map.mpr ⟨e, List.mem_filter.mpr ⟨List.mem_of_find?_eq_some hfind, by
      simp only [Bool.and_eq_true, decide_eq_true_eq]
      exact ⟨hlo, hhi⟩⟩, by simpa using List.find?_some hfind⟩

theorem State.rd_showChannel (s : State) (c : Nat) {o : Nat} (ho : o < 0x601000) : (s.showChannel c).rd o = s.rd o :=
  State.rd_wr_ne _ _ _ _ (by simp only [Reg.GNS_CH]; omega)

theorem State.rd_gnsRefresh (s : State) {o : Nat} (ho : o ≠ Reg.GNS_STATUS) : s.gnsRefresh.rd o = s.rd o :=
  (((State.keepsRegs.refl (l := [Reg.GNS_STATUS])).setFlag (o := Reg.GNS_STATUS)).setFlag (o := Reg.GNS_STATUS)).setFld
    (o := Reg.GNS_STATUS) (by decide) o (by simpa using ho)

theorem State.flag_gnsRefresh (s : State) {i : Nat} (h0 : i ≠ 0) (h4 : i ≠ 4) (h7 : i < 7) :
    s.gnsRefresh.flag Reg.GNS_STATUS i = s.flag Reg.GNS_STATUS i := by
  unfold State.gnsRefresh
  dsimp only
  rw [State.flag_setFld_other _ _ _ _ _ _ _ (.inr (.inl h7)) (by omega), State.flag_setFlag_other _ _ _ _ _ _ (.inr h4),
    State.flag_setFlag_other _ _ _ _ _ _ (.inr h0)]

theorem State.flag_sticky_mono {s : State} {o en i src o' i' : Nat} {w x : Word} (hi : i < 32) (h : s.flag o' i' = true) :
    (s.sticky o en i src w x).flag o' i' = true := by
  unfold State.sticky
  split
  · exact h
  · dsimp only
    split <;> exact State.flag_setFlag_mono hi h

theorem State.gns_sticky (s : State) (o en i src : Nat) (w x : Word) : (s.sticky o en i src w x).gns = s.gns := by
  unfold State.sticky
  split
  · rfl
  · dsimp only
    split <;> rfl

/-- A status bit that becomes set while its enable is set raises its source. -/
theorem State.mem_raised_sticky {s : State} {o en i src : Nat} {w x : Word} (hclear : s.flag o i = false)
    (hen : s.flag en i = true) : (⟨src, w, x⟩ : Raise) ∈ (s.sticky o en i src w x).raised := by
  unfold State.sticky
  dsimp only
  rw [if_neg (by simp [hclear]), if_pos hen]
  exact List.mem_append_right _ (List.mem_singleton_self _)

/-- A state without the sample clock, in which the channels of a list and those that were LOST are LOST. -/
structure State.ChannelsLost (s t : State) (cs : List Nat) : Prop where
  sclk : t.sclkOk = false
  sticky : t.flag Reg.GNS_STICKY 0 = true
  good : t.gns.good = s.gns.good
  lost : ∀ d, (d ∈ cs ∨ (s.channel d).state = chLost) → (t.channel d).state = chLost

/-- The loss of a channel while the sample clock is lost too: counted, reported, and shown (R297). -/
def State.channelLost (s : State) (c : Nat) : State :=
  ((((s.bump Reg.GNS_CNT_LOST 0 32).gnsSticky 1).setChannel c
    (Channel.enter { s.channel c with lostAt := s.cal.count } chLost Search.reset)).showChannel c).gnsRefresh

theorem State.toChannelState_of_noClock {s : State} {c : Nat} (hsclk : s.sclkOk = false) (h : chLost ≠ (s.channel c).state) :
    s.toChannelState c chLost = s.channelLost c := by
  unfold State.toChannelState
  dsimp only
  rw [if_neg h, if_neg (by decide), if_pos rfl, hsclk]
  rfl

theorem State.gns_setChannel_congr {s t : State} (h : t.gns = s.gns) (c : Nat) (v : Channel) :
    (t.setChannel c v).gns = (s.setChannel c v).gns := by
  unfold State.setChannel
  rw [h]

theorem State.gns_channelLost (s : State) (c : Nat) :
    (s.channelLost c).gns =
      (s.setChannel c (Channel.enter { s.channel c with lostAt := s.cal.count } chLost Search.reset)).gns :=
  State.gns_setChannel_congr (s := s) (t := (s.bump Reg.GNS_CNT_LOST 0 32).gnsSticky 1) (State.gns_sticky ..) c _

theorem State.sclkOk_channelLost (s : State) (c : Nat) : (s.channelLost c).sclkOk = s.sclkOk := by
  unfold State.sclkOk State.channelLost
  rw [State.flag_gnsRefresh _ (by decide) (by decide) (by decide), State.flag, State.rd_showChannel _ _ (by decide)]
  change bitAt (((s.bump Reg.GNS_CNT_LOST 0 32).gnsSticky 1).rd Reg.GNS_STATUS) 1 = _
  rw [State.gnsSticky, State.rd_sticky_ne (by decide)]
  exact State.flag_setFld_other _ _ _ _ _ _ _ (.inl (by decide)) (by decide)

theorem State.sticky_channelLost {s : State} (h : s.flag Reg.GNS_STICKY 0 = true) (c : Nat) :
    (s.channelLost c).flag Reg.GNS_STICKY 0 = true := by
  unfold State.channelLost
  rw [State.flag, State.rd_gnsRefresh _ (by decide), State.rd_showChannel _ _ (by decide)]
  exact State.flag_sticky_mono (by decide)
    ((State.flag_setFld_other _ _ _ _ _ _ _ (.inl (by decide)) (by decide)).trans h)

/-- Without the sample clock a channel that goes to LOST stays there. -/
theorem State.toChannelState_lost {s : State} (hsclk : s.sclkOk = false) (hsticky : s.flag Reg.GNS_STICKY 0 = true) (c : Nat) :
    s.ChannelsLost (s.toChannelState c chLost) [c] := by
  by_cases hstate : chLost = (s.channel c).state
  · rw [State.toChannelState, if_pos hstate]
    refine ⟨hsclk, hsticky, rfl, fun d hd => ?_⟩
    rcases hd with hd | hd
    · rw [List.mem_singleton.mp hd, ← hstate]
    · exact hd
  · rw [State.toChannelState_of_noClock hsclk hstate]
    refine ⟨(s.sclkOk_channelLost c).trans hsclk, State.sticky_channelLost hsticky c, ?_, fun d hd => ?_⟩
    · rw [State.gns_channelLost]
      rfl
    · rw [State.channel_of_gns (s.gns_channelLost c), State.channel_setChannel]
      split
      · rfl
      · next hne => exact hd.resolve_left fun h => hne (List.mem_singleton.mp h)

/-- So do all the channels of a list. -/
theorem State.foldl_lost (cs : List Nat) : ∀ {s : State}, s.sclkOk = false → s.flag Reg.GNS_STICKY 0 = true →
    s.ChannelsLost (cs.foldl (fun u c => u.toChannelState c chLost) s) cs := by
  induction cs with
  | nil => exact fun hsclk hsticky => ⟨hsclk, hsticky, rfl, fun d hd => hd.resolve_left List.not_mem_nil⟩
  | cons c cs ih =>
    intro s hsclk hsticky
    have hhead := State.toChannelState_lost hsclk hsticky c
    have htail := ih hhead.sclk hhead.sticky
    refine ⟨htail.sclk, htail.sticky, htail.good.trans hhead.good, fun d hd => htail.lost d ?_⟩
    rcases hd with hd | hd
    · rcases List.mem_cons.mp hd with rfl | hd
      · exact .inr (hhead.lost d (.inl (List.mem_singleton_self d)))
      · exact .inl hd
    · exact .inr (hhead.lost d (.inr hd))

theorem State.gns_pllLost (s : State) (p : Nat) : (s.pllLost p).gns = s.gns := by
  unfold State.pllLost
  split <;> rfl

theorem State.keepsRegs.pllLost {s t : State} {l : List Nat} {p : Nat} (h : s.keepsRegs t l) (hp : Reg.CPM_PLL ∈ l)
    (hs : Reg.CPM_STICKY ∈ l) : s.keepsRegs (t.pllLost p) l :=
  .ite h (((h.setFlag hp).setFlag hp).setFlag hs).raise

/-- The sample clock is marked lost, before its channels are (R274, R275). -/
def State.sclkDown (s : State) : State :=
  (((s.setFlag Reg.GNS_STATUS 1 false).gnsSticky 0).pllLost pllG).setFlag Reg.GNS_STATUS 2 false

theorem State.gns_sclkDown (s : State) : s.sclkDown.gns = s.gns :=
  (State.gns_pllLost ..).trans (State.gns_sticky ..)

theorem State.sclkOk_sclkDown (s : State) : s.sclkDown.sclkOk = false := by
  unfold State.sclkOk State.sclkDown
  rw [State.flag_setFlag_other _ _ _ _ _ _ (.inr (by decide)), State.flag,
    State.keepsRegs.pllLost (l := [Reg.CPM_PLL, Reg.CPM_STICKY]) .refl (by simp) (by simp) _ (by decide),
    State.gnsSticky, State.rd_sticky_ne (by decide)]
  exact State.flag_setFlag _ _ _ _ (by decide)

theorem State.sticky_sclkDown (s : State) : s.sclkDown.flag Reg.GNS_STICKY 0 = true := by
  unfold State.sclkDown
  rw [State.flag_setFlag_other _ _ _ _ _ _ (.inl (by decide)), State.flag,
    State.keepsRegs.pllLost (l := [Reg.CPM_PLL, Reg.CPM_STICKY]) .refl (by simp) (by simp) _ (by decide)]
  exact State.flag_sticky (by decide)

theorem State.gns_abandonJob (s : State) : s.abandonJob.gns = { s.gns with job := none } :=
  (apply_ite State.gns ..).trans (ite_self _)

theorem State.regs_abandonJob (s : State) : s.abandonJob.regs = (s.setFlag Reg.GNS_STATUS 3 false).regs :=
  (apply_ite State.regs ..).trans (ite_self _)

/-- The loss of the sample clock (R275): the channels go to LOST while the sample clock is lost already, and the job is dropped. -/
theorem State.sclkLost_spec (s : State) :
    s.sclkLost.sclkOk = false ∧ s.sclkLost.flag Reg.GNS_STICKY 0 = true ∧ s.sclkLost.flag Reg.GNS_STATUS 3 = false ∧
      s.sclkLost.gns.job = none ∧ s.sclkLost.gns.good = s.gns.good ∧
      ∀ c, chFll ≤ (s.channel c).state → (s.channel c).state ≤ chData → (s.sclkLost.channel c).state = chLost := by
  obtain ⟨hsclk, hsticky, hgood, hlost⟩ := State.foldl_lost s.trackingChannels s.sclkOk_sclkDown s.sticky_sclkDown
  set t := s.trackingChannels.foldl (fun u c => u.toChannelState c chLost) s.sclkDown with ht
  have hsum : s.sclkLost = t.abandonJob.gnsRefresh := rfl
  have hrd : ∀ o, t.abandonJob.rd o = (t.setFlag Reg.GNS_STATUS 3 false).rd o := fun o => by
    rw [State.rd, t.regs_abandonJob]
    rfl
  rw [hsum]
  refine ⟨?_, ?_, ?_, ?_, ?_, fun c hlo hhi => ?_⟩
  · rw [State.sclkOk, State.flag_gnsRefresh _ (by decide) (by decide) (by decide), State.flag, hrd]
    exact (State.flag_setFlag_other _ _ _ _ _ _ (.inr (by decide))).trans hsclk
  · rw [State.flag, State.rd_gnsRefresh _ (by decide), hrd]
    exact (State.flag_setFlag_other _ _ _ _ _ _ (.inl (by decide))).trans hsticky
  · rw [State.flag_gnsRefresh _ (by decide) (by decide) (by decide), State.flag, hrd]
    exact State.flag_setFlag _ _ _ _ (by decide)
  · exact congrArg _ t.gns_abandonJob
  · exact (congrArg _ t.gns_abandonJob).trans (hgood.trans (congrArg _ s.gns_sclkDown))
  · rw [State.channel_gnsRefresh, State.channel, t.gns_abandonJob]
    exact hlost c (.inl (State.mem_trackingChannels hlo hhi))

end Sys2Proof.Machine
end

section
/-!
The commands of the sample clock and of the sample inputs, case by case.
-/
namespace Sys2Proof.Machine

/-- Every bit of the register is RW. -/
def fullRw (o : Nat) : Bool :=
  match regRow o with
  | some (r, _, _) => r.rw == BitVec.allOnes 32 && r.w1c == 0#32 && r.w1s == 0#32
  | none => false

theorem State.plainWrite_of_fullRw {o : Nat} (h : fullRw o = true) (s : State) (v : Word) : s.plainWrite o v = s.wr o v := by
  unfold fullRw at h
  split at h
  · next r _ _ hr =>
    simp only [Bool.and_eq_true, beq_iff_eq] at h
    obtain ⟨⟨hrw, hw1c⟩, hw1s⟩ := h
    rw [State.plainWrite_of_row hr, writtenValue, hrw, hw1c, hw1s]
    simp only [BitVec.and_allOnes, BitVec.not_allOnes, BitVec.and_zero, BitVec.zero_or, BitVec.not_zero, BitVec.or_zero]
  · cases h

theorem fullRw_sinFreq : ∀ n : Fin 4, fullRw (Reg.GNS_SIN_FREQ n.val) = true := by decide +kernel

theorem exec_sclkWindow_good {s : State} {edges : Nat} (hlo : 810 ≤ edges) (hhi : edges ≤ 827) (hpd : s.pdUp PD_GNSS_TRK = true)
    (hok : s.sclkOk = true) : exec (.sclkWindow edges) s = .next { s with gns := { s.gns with good := s.gns.good + 1 } } := by
  have hgood : (decide (edges < 810) || decide (827 < edges)) = false := by simp [hlo, hhi]
  change execSclkWindow edges s = _
  rw [execSclkWindow]
  dsimp only
  rw [hgood, hpd, if_neg (by decide), if_neg Bool.false_ne_true, if_neg (by simp [hok])]
  rfl

theorem exec_sclkWindow_bad {s : State} {edges : Nat} (hbad : edges < 810 ∨ 827 < edges) (hpd : s.pdUp PD_GNSS_TRK = true)
    (hok : s.sclkOk = true) :
    exec (.sclkWindow edges) s = .next (State.sclkLost { s with gns := { s.gns with good := 0 } }) := by
  have hout : (decide (edges < 810) || decide (827 < edges)) = true := by simpa using hbad
  change execSclkWindow edges s = _
  rw [execSclkWindow]
  dsimp only
  rw [hout, hpd, if_neg (by decide), if_pos rfl, if_pos hok]
  rfl

/-- The count and stamp of the latest marker, latched (R276). -/
def State.scntLatched (s : State) : State :=
  ((s.wr Reg.GNS_SCNT_L (BitVec.ofNat 32 s.gns.scnt)).wr Reg.GNS_SCNT_H (BitVec.ofNat 32 (s.gns.scnt / 2 ^ 32))).wr96
    (Reg.GNS_STIME_W 0) s.gns.stime

theorem regRow_scnt :
    regRow Reg.GNS_SCNT_L = some (⟨0x600018, 0x4, 1, 0x4, 1, 0x0, 0x0, 0x0, 0x0, .const 0x0, PD_GNSS_TRK⟩, 0, 0) := by
  decide +kernel

theorem State.rd_scntLatched (s : State) : s.scntLatched.rd Reg.GNS_SCNT_L = BitVec.ofNat 32 s.gns.scnt ∧
    s.scntLatched.rd Reg.GNS_SCNT_H = BitVec.ofNat 32 (s.gns.scnt / 2 ^ 32) := by
  simp +decide [State.scntLatched, State.wr96, State.rd]

theorem State.keepsRegs_scntLatched (s : State) :
    s.keepsRegs s.scntLatched [Reg.GNS_SCNT_L, Reg.GNS_SCNT_H, Reg.GNS_STIME_W 0, Reg.GNS_STIME_W 1, Reg.GNS_STIME_W 2] :=
  ((((State.keepsRegs.refl.wr (o := Reg.GNS_SCNT_L)).wr (o := Reg.GNS_SCNT_H)).wr (o := Reg.GNS_STIME_W 0)).wr
    (o := Reg.GNS_STIME_W 1)).wr (o := Reg.GNS_STIME_W 2)

theorem exec_scntRead_of_opens {s : State} {ag : Agent} (ho : s.opens ag Reg.GNS_SCNT_L = true) :
    exec (.scntRead ag) s = .next (s.scntLatched.complete (.data (BitVec.ofNat 32 s.gns.scnt))) := by
  change execScntRead ag s = _
  rw [execScntRead, State.readAccess_opens _ _ _ _ ho, State.readScnt, ← State.scntLatched, State.plainRead, regRow_scnt]
  simp only [s.rd_scntLatched.1]
  rfl

theorem State.sinZero_iff (s : State) (n : Nat) :
    s.sinZero n = true ↔ s.sinEnabled n = false ∨ s.fld (Reg.GNS_SIN_CTL n) 29 2 = 2 := by
  simp [State.sinZero]

/-- The sums of a window as GNS_SIN_STAT shows them: rms in 1/256, and the extreme codes in 1/1,024 (R280). -/
def sinStatWord (count power clips : Nat) : Word :=
  BitVec.ofNat 32 (min (openRoot (openDiv ((power * 65536 : Nat) : Int) count).toNat) 65535 * 2 ^ 16 +
    min (openDiv ((clips * 1024 : Nat) : Int) count).toNat 255 * 2 ^ 8)

theorem bitsAt_sinStatWord (count power clips : Nat) :
    bitsAt (sinStatWord count power clips) 16 16 = min (openRoot (openDiv ((power * 65536 : Nat) : Int) count).toNat) 65535 ∧
      bitsAt (sinStatWord count power clips) 8 8 = min (openDiv ((clips * 1024 : Nat) : Int) count).toNat 255 := by
  unfold bitsAt sinStatWord
  rw [BitVec.toNat_ofNat]
  omega

/-- GNS_SIN_STAT shown, and CLIP set or not. -/
def State.sinUpdated (s : State) (n : Nat) (w : Word) (clip : Prop) [Decidable clip] : State :=
  if clip then (s.wr (Reg.GNS_SIN_STAT n) w).gnsSticky 5 else s.wr (Reg.GNS_SIN_STAT n) w

theorem State.rd_sinUpdated (s : State) (n : Nat) (w : Word) (clip : Prop) [Decidable clip] :
    (s.sinUpdated n w clip).rd (Reg.GNS_SIN_STAT n) = w := by
  unfold State.sinUpdated
  split
  · exact (State.rd_sticky_ne (by simp only [Reg.GNS_SIN_STAT, Reg.GNS_STICKY]; omega)).trans (State.rd_wr_same ..)
  · exact State.rd_wr_same ..

theorem State.gnsSticky_spec (s : State) {a b : Bool} (ha : s.flag Reg.GNS_STICKY 5 = a) (hb : s.flag Reg.GNS_STICKY_EN 5 = b) :
    (s.gnsSticky 5).flag Reg.GNS_STICKY 5 = true ∧
      (a = false → b = true → (⟨85, 0, 0⟩ : Raise) ∈ (s.gnsSticky 5).raised) := by
  subst ha hb
  exact ⟨State.flag_sticky (by decide), fun hclear hen => State.mem_raised_sticky hclear hen⟩

theorem State.flag_sinStat_sticky (s : State) (n : Nat) (w : Word) :
    (s.wr (Reg.GNS_SIN_STAT n) w).flag Reg.GNS_STICKY 5 = s.flag Reg.GNS_STICKY 5 := by
  rw [State.flag, State.rd_wr_ne _ _ _ _ (by simp only [Reg.GNS_SIN_STAT, Reg.GNS_STICKY]; omega), State.flag]

theorem State.flag_sinStat_en (s : State) (n : Nat) (w : Word) :
    (s.wr (Reg.GNS_SIN_STAT n) w).flag Reg.GNS_STICKY_EN 5 = s.flag Reg.GNS_STICKY_EN 5 := by
  rw [State.flag, State.rd_wr_ne _ _ _ _ (by simp only [Reg.GNS_SIN_STAT, Reg.GNS_STICKY_EN]; omega), State.flag]

theorem State.sinUpdated_of_clip (s : State) (n : Nat) (w : Word) {clip : Prop} [Decidable clip] (hclip : clip) :
    (s.sinUpdated n w clip).flag Reg.GNS_STICKY 5 = true ∧
      (s.flag Reg.GNS_STICKY 5 = false → s.flag Reg.GNS_STICKY_EN 5 = true →
        (⟨85, 0, 0⟩ : Raise) ∈ (s.sinUpdated n w clip).raised) := by
  rw [State.sinUpdated, if_pos hclip]
  exact State.gnsSticky_spec _ (s.flag_sinStat_sticky n w) (s.flag_sinStat_en n w)

theorem State.sinUpdated_of_not_clip (s : State) (n : Nat) (w : Word) {clip : Prop} [Decidable clip] (hclip : ¬ clip) :
    (s.sinUpdated n w clip).raised = s.raised ∧ s.keepsRegs (s.sinUpdated n w clip) [Reg.GNS_SIN_STAT n] := by
  rw [State.sinUpdated, if_neg hclip]
  exact ⟨rfl, State.keepsRegs.wr (o := Reg.GNS_SIN_STAT n) .refl (List.mem_singleton_self _)⟩

/-- SIN_STAT_UPDATE of a window of count samples, power and extreme codes (R280). -/
theorem exec_sinStatUpdate_spec {s : State} {n : Fin 4} {codes : List (BitVec 8 × Nat)} (hen : s.sinEnabled n.val = true)
    (hruns : s.gnsRuns = true) {count power clips : Nat} (hsum : count = overCodes codes fun _ => 1) (hcount : 0 < count)
    (hpower : power = overCodes codes fun d => ((s.sinValue n.val d).1 ^ 2 + (s.sinValue n.val d).2 ^ 2).toNat)
    (hclips : clips = if s.sinZero n.val then 0 else overCodes codes fun d =>
      ofBool (sinExtreme (s.fld (Reg.GNS_SIN_CTL n.val) 27 2) (d.extractLsb' 4 4) ||
        sinExtreme (s.fld (Reg.GNS_SIN_CTL n.val) 27 2) (d.extractLsb' 0 4))) :
    ∃ t, exec (.sinStatUpdate n codes) s = .next t ∧
      t.fld (Reg.GNS_SIN_STAT n.val) 16 16 = min (openRoot (openDiv ((power * 65536 : Nat) : Int) count).toNat) 65535 ∧
      t.fld (Reg.GNS_SIN_STAT n.val) 8 8 = min (openDiv ((clips * 1024 : Nat) : Int) count).toNat 255 ∧
      (10 * count < clips * 1024 → t.flag Reg.GNS_STICKY 5 = true ∧
        (s.flag Reg.GNS_STICKY 5 = false → s.flag Reg.GNS_STICKY_EN 5 = true → (⟨85, 0, 0⟩ : Raise) ∈ t.raised)) ∧
      (clips * 1024 ≤ 10 * count → t.raised = s.raised ∧ s.keepsRegs t [Reg.GNS_SIN_STAT n.val]) := by
  have hexec : exec (.sinStatUpdate n codes) s =
      .next (s.sinUpdated n.val (sinStatWord count power clips) (10 * count < clips * 1024)) := by
    simp only [pow_two] at hpower
    change execSinStatUpdate n codes s = _
    rw [execSinStatUpdate]
    dsimp only
    rw [← hsum, ← hpower, ← hclips, if_pos ⟨hen, hruns, hcount⟩]
    rfl
  refine ⟨_, hexec, ?_, ?_, fun hclip => s.sinUpdated_of_clip n.val _ hclip, fun hclip => s.sinUpdated_of_not_clip n.val _ (Nat.not_lt.mpr hclip)⟩
  · rw [State.fld, State.rd_sinUpdated]
    exact (bitsAt_sinStatWord count power clips).1
  · rw [State.fld, State.rd_sinUpdated]
    exact (bitsAt_sinStatWord count power clips).2

theorem exec_sinCtlWrite_ctl {s : State} {ag : Agent} {n : Fin 4} {v : Word} (ho : s.opens ag (Reg.GNS_SIN_CTL n.val) = true) :
    exec (.sinCtlWrite ag n false v) s = .next (s.writeSinCtl n.val v) :=
  congrArg Host.Outcome.next ((if_neg Bool.false_ne_true).trans (State.writeAccess_opens _ _ _ _ _ ho))

theorem exec_sinCtlWrite_freq {s : State} {ag : Agent} {n : Fin 4} {v : Word} (ho : s.opens ag (Reg.GNS_SIN_FREQ n.val) = true) :
    exec (.sinCtlWrite ag n true v) s = .next (s.writeSinFc n.val v) :=
  congrArg Host.Outcome.next ((if_pos rfl).trans (State.writeAccess_opens _ _ _ _ _ ho))

/-- Channels marked to be released are marked, and stay so. -/
theorem State.release_releaseChannels (cs : List Nat) : ∀ (s : State) (c : Nat),
    (c ∈ cs ∨ (s.channel c).release = true) → ((s.releaseChannels cs).channel c).release = true := by
  induction cs with
  | nil => exact fun s c h => h.resolve_left List.not_mem_nil
  | cons d cs ih =>
    intro s c h
    refine ih (s.setChannel d { s.channel d with release := true }) c ?_
    rw [State.channel_setChannel]
    by_cases hcd : c = d
    · exact .inr (by rw [if_pos hcd])
    · rw [if_neg hcd]
      exact h.imp_left fun hm => (List.mem_cons.mp hm).resolve_left hcd

/-- Settles O43: each command's own branch. -/
theorem sampleClockAndInputs : Obligations.SampleClockAndInputs := by
  refine ⟨fun s edges hlo hhi hpd hok => exec_sclkWindow_good hlo hhi hpd hok, fun s edges hbad hpd hok => ?_,
    fun s phase hok hpd => congrArg Host.Outcome.next (if_pos ⟨hok, hpd⟩), fun s ag ho => ?_, fun s n codes => ?_,
    fun s n d hzero => if_pos ((s.sinZero_iff n).mpr hzero), fun s ag n v ho hsrc hfmt hen huse => ?_,
    fun s ag n v ho hsrc hfmt hen huse => ?_, fun s ag n v ho hsrc hfmt hchange huse hen => ?_,
    fun s ag n v ho hlo hhi => ?_, fun s ag v ho hen hdop hlo hhi => ?_⟩
  · obtain ⟨hsclk, hsticky, hbit, hjob, hgood, hlost⟩ := State.sclkLost_spec { s with gns := { s.gns with good := 0 } }
    exact ⟨_, exec_sclkWindow_bad hbad hpd hok, hsclk, hsticky, hbit, hjob, hgood, hlost⟩
  · refine ⟨_, exec_scntRead_of_opens ho, rfl, s.rd_scntLatched.2, State.rd96_wr96 .., ?_, rfl⟩
    exact .of_regs (s.keepsRegs_scntLatched)
  · intro count power clips hen hruns hcount
    exact exec_sinStatUpdate_spec hen hruns rfl hcount rfl rfl
  · rw [exec_sinCtlWrite_ctl ho, State.writeSinCtl]
    dsimp only
    rw [if_neg (by simp [hsrc, hfmt]), if_neg (fun h => huse.elim h.1 fun hf => by simp [hf] at h), if_pos hen]
  · refine ⟨_, exec_sinCtlWrite_ctl ho, fun c hc => ?_⟩
    rw [State.writeSinCtl]
    dsimp only
    rw [if_neg (by simp [hsrc, hfmt]), if_neg, if_neg (by simp [hen])]
    · rw [State.channel_gnsRefresh]
      exact State.release_releaseChannels _ _ _ (.inl hc)
    · rintro ⟨hchange, hin, hnot⟩
      rcases huse with h | h | h
      · exact hchange h
      · exact absurd hin (by simp [h])
      · exact hnot ⟨h, hen⟩
  · rw [exec_sinCtlWrite_ctl ho, State.writeSinCtl]
    dsimp only
    rw [if_neg (by simp [hsrc, hfmt]), if_pos ⟨hchange, huse, fun h => by rcases hen with h' | h' <;> simp [h'] at h⟩]
    rfl
  · rw [exec_sinCtlWrite_freq ho, State.writeSinFc, if_neg (by omega), State.plainWrite_of_fullRw (fullRw_sinFreq n)]
    rfl
  · change execTpgEnable ag v s = _
    rw [execTpgEnable, State.writeAccess_opens _ _ _ _ _ ho, hen, if_pos rfl, State.writeTpg, if_neg (by omega), hen]
    by_cases hmode : s.mode = modeStaged ∨ s.mode = modeMeasure ∨ s.mode = modeSafe
    · rw [if_neg (fun h => h.2 hmode), if_pos hmode]
    · rw [if_pos ⟨rfl, hmode⟩, if_neg hmode]
      rfl

end Sys2Proof.Machine
end

section
/-!
The dump of a channel whose signal number names no signal: its GNS_SIG register is GNS_CNT_LATE, which the dump counts up.
-/
namespace Sys2Proof.Machine

/-- The number whose GNS_SIG register is GNS_CNT_LATE. -/
def lateSignal : Nat := (Reg.GNS_CNT_LATE - Reg.GNS_SIG 0) / 4

/-- A channel in PLL of that signal, at the end of a dump interval, without a command. -/
def lateChannel : Channel :=
  { Channel.reset with state := chPll, sig := lateSignal, codeRate := (signalOf lateSignal).span * 2 ^ 40 }

/-- The baseband runs in STAGED with that channel, PROF is about to carry into bit 27, and the second profile is not the
first. -/
def lateDump : State :=
  State.setChannel (((((State.reset.setFld (Reg.CPM_PD_CTL PD_GNSS_TRK) 24 3 pdOn).setFld Reg.GCTL_STATUS 0 4
    modeStaged).setFlag Reg.GNS_STATUS 1 true).wr Reg.GNS_CNT_LATE 0x07FFFFFF).wr (Reg.GNS_LOOP0_A + 8) 1) 0 lateChannel

/-- Refutes O45: a dump without a command counts GNS_CNT_LATE before it takes the profile, and no premise bounds the
channel's signal number, whose GNS_SIG register can be that counter. -/
theorem not_acquisitionAidingAndTracking : ¬ Obligations.AcquisitionAidingAndTracking := by
  rintro ⟨hdump, -⟩
  obtain ⟨t, hexec, hplain, -⟩ := hdump lateDump 0 1 zeroSums (by decide +kernel) (by decide +kernel) (by decide +kernel)
    (by decide +kernel) (by decide +kernel)
  obtain ⟨-, -, -, -, -, -, hloop⟩ := hplain (by decide +kernel) (by decide +kernel) (by decide +kernel)
  have hexec' : exec (.channelDump 0 1 zeroSums none) lateDump = .next (lateDump.dump 0 1 zeroSums true) := by
    change execChannelDump 0 1 zeroSums none lateDump = _
    rw [execChannelDump, ite_self]
    exact congrArg Host.Outcome.next (if_neg (by decide +kernel))
  obtain rfl := Host.Outcome.next.inj (hexec.symm.trans hexec')
  exact absurd hloop (by decide +kernel)

end Sys2Proof.Machine
end

section
/-!
Bursts in DORMANT (R300 to R302).
-/
namespace Sys2Proof.Machine

/-! ### The start of a burst -/

/-- One channel at the start of a burst: a BURST channel is propagated to now. -/
def State.burstStep (s u : State) (e : Nat × Channel) : State :=
  if e.2.state = chBurst then u.setChannel e.1 (s.propagate e.2) else u

theorem State.channel_burstStep_ne (s u : State) {e : Nat × Channel} {c : Nat} (h : e.1 ≠ c) :
    (s.burstStep u e).channel c = u.channel c := by
  unfold State.burstStep
  split
  · rw [State.channel_setChannel, if_neg (Ne.symm h)]
  · rfl

theorem State.channel_burstStep (s u : State) (e : Nat × Channel) :
    (s.burstStep u e).channel e.1 = if e.2.state = chBurst then s.propagate e.2 else u.channel e.1 := by
  unfold State.burstStep
  split
  · rw [State.channel_setChannel, if_pos rfl]
  · rfl

theorem State.channel_foldl_burstStep_ne (s : State) {m : List (Nat × Channel)} {c : Nat} (h : ∀ e ∈ m, e.1 ≠ c) (u : State) :
    (m.foldl s.burstStep u).channel c = u.channel c :=
  List.foldlRecOn (motive := fun v : State => v.channel c = u.channel c) m s.burstStep rfl fun v hv e he =>
    (s.channel_burstStep_ne v (h e he)).trans hv

/-- Over distinct channels each entry is treated once. -/
theorem State.channel_foldl_burstStep (s : State) : ∀ {m : List (Nat × Channel)}, (m.map (·.1)).Pairwise (· < ·) →
    ∀ (u : State) (e : Nat × Channel), e ∈ m →
      (m.foldl s.burstStep u).channel e.1 = if e.2.state = chBurst then s.propagate e.2 else u.channel e.1 := by
  intro m
  induction m with
  | nil => exact fun _ _ _ he => absurd he List.not_mem_nil
  | cons a m ih =>
    intro hm u e he
    obtain ⟨hhead, htail⟩ := List.pairwise_cons.mp hm
    have hlt : ∀ b ∈ m, a.1 < b.1 := fun b hb => hhead b.1 (List.mem_map_of_mem hb)
    rcases List.mem_cons.mp he with rfl | he
    · exact (s.channel_foldl_burstStep_ne (fun b hb => (hlt b hb).ne') _).trans (s.channel_burstStep u e)
    · refine (ih htail (s.burstStep u a) e he).trans ?_
      rw [s.channel_burstStep_ne u (hlt e he).ne]

theorem State.foldl_burstStep_frame (s : State) (m : List (Nat × Channel)) (u : State) :
    m.foldl s.burstStep u = { u with gns := { u.gns with channels := (m.foldl s.burstStep u).gns.channels } } :=
  List.foldlRecOn (motive := fun v : State => v = { u with gns := { u.gns with channels := v.gns.channels } }) m s.burstStep rfl
    fun v hv e _ => by
      unfold State.burstStep
      split
      · rw [hv]
        rfl
      · exact hv

/-- The entry of a channel that is not at reset. -/
theorem State.mem_channels_of_state {s : State} {c st : Nat} (h : (s.channel c).state = st) (hst : st ≠ chIdle) :
    (c, s.channel c) ∈ s.gns.channels := by
  unfold State.channel at h ⊢
  cases hfind : s.gns.channels.find? (·.1 == c) with
  | none =>
    rw [hfind] at h
    exact absurd h.symm hst
  | some e =>
    have he : e.1 = c := by simpa using List.find?_some hfind
    have hmem := List.mem_of_find?_eq_some hfind
    rw [← he]
    exact hmem

/-- In a canonical map each entry is its channel. -/
theorem State.channel_of_mem {s : State} (hm : (s.gns.channels.map (·.1)).Pairwise (· < ·)) {e : Nat × Channel}
    (he : e ∈ s.gns.channels) : s.channel e.1 = e.2 := by
  have hfind : s.gns.channels.find? (·.1 == e.1) = some e := by
    generalize s.gns.channels = m at hm he
    induction m with
    | nil => exact absurd he List.not_mem_nil
    | cons a m ih =>
      obtain ⟨hhead, htail⟩ := List.pairwise_cons.mp hm
      rcases List.mem_cons.mp he with rfl | he
      · exact List.find?_cons_of_pos (by simp)
      · have hne : a.1 ≠ e.1 := (hhead e.1 (List.mem_map_of_mem he)).ne
        rw [List.find?_cons_of_neg (by simpa using hne)]
        exact ih htail he
  rw [State.channel, hfind]
  rfl

/-- The channels at the start of a burst. -/
def State.burstStarted (s : State) : State :=
  { s.gns.channels.foldl s.burstStep s with
    gns := { (s.gns.channels.foldl s.burstStep s).gns with bursting := true, lastBurst := some (ct96Sec s.now) } }

theorem exec_burstStart_of_due {s : State} (hdue : s.burstDue = true) (ht : s.burstOffset ≤ ct96Ns s.now) :
    exec .burstStart s = .next s.burstStarted := congrArg Host.Outcome.next (if_pos ⟨hdue, ht⟩)

/-! ### The end of a burst -/

/-- A channel's burst result saved. -/
def State.burstSaved (s : State) (r : BurstResult) (low : Nat) : Channel :=
  { s.channel r.channel with
    carrier := signed40 r.carrier, codeRate := r.codeRate % 2 ^ 40, carrierPhase := r.carrierPhase % 2 ^ 40
    codePhase := r.codePhase % ((signalOf (s.channel r.channel).sig).code * 2 ^ 40), cn0 := r.cn0, low := low
    lostAt := s.cal.count }

/-- The burst counted, and the clocks and front ends off. -/
def State.burstClosed (s : State) : State :=
  { (s.pllStop pllG).pllStop pllSclk with
    gns := { s.gns with bursting := false, frontEnds := [], bursts := min 65535 (s.gns.bursts + 1) } }

theorem exec_burstEnd_one {s : State} (hover : s.burstOver = true) (r : BurstResult) :
    exec (.burstEnd [r]) s = .next (s.burstResult r).burstClosed :=
  congrArg Host.Outcome.next (if_neg (by simp [hover]))

theorem State.channel_burstClosed (s : State) (c : Nat) : s.burstClosed.channel c = s.channel c := rfl

theorem State.raised_burstClosed (s : State) : s.burstClosed.raised = s.raised := rfl

theorem State.bursts_burstClosed (s : State) : s.burstClosed.gns.bursts = min 65535 (s.gns.bursts + 1) := rfl

theorem State.dropped_burstClosed (s : State) : s.burstClosed.gns.dropped = s.gns.dropped := rfl

theorem State.burstResult_kept {s : State} {r : BurstResult} (hstate : (s.channel r.channel).state = chBurst) {low : Nat}
    (hlow : (if r.cn0 < 28 then (s.channel r.channel).low + 1 else 0) = low) (h : low < 3) :
    s.burstResult r = (s.setChannel r.channel (s.burstSaved r low)).showChannel r.channel := by
  unfold State.burstResult
  dsimp only
  rw [if_neg (by simp [hstate]), hlow, if_neg (by omega)]
  rfl

theorem State.gns_showChannel (s : State) (c : Nat) : (s.showChannel c).gns = s.gns := State.wr_gns ..

theorem State.gns_gnsRefresh (s : State) : s.gnsRefresh.gns = s.gns :=
  ((State.wr_gns ..).trans (State.wr_gns ..)).trans (State.wr_gns ..)

theorem State.raised_showChannel (s : State) (c : Nat) : (s.showChannel c).raised = s.raised := State.wr_raised ..

theorem State.raised_gnsRefresh (s : State) : s.gnsRefresh.raised = s.raised :=
  ((State.wr_raised ..).trans (State.wr_raised ..)).trans (State.wr_raised ..)

/-- One more channel counted in DROPPED. -/
def State.countDropped (s : State) : State := { s with gns := { s.gns with dropped := min 255 (s.gns.dropped + 1) } }

theorem State.dropped_countDropped (s : State) : s.countDropped.gns.dropped = min 255 (s.gns.dropped + 1) := rfl

theorem State.raised_countDropped (s : State) : s.countDropped.raised = s.raised := rfl

theorem State.channel_countDropped (s : State) (c : Nat) : s.countDropped.channel c = s.channel c := rfl

/-- A channel gone. -/
def State.channelIdle (s : State) (c : Nat) : State := ((s.setChannel c Channel.reset).showChannel c).gnsRefresh

theorem State.channel_channelIdle (s : State) (c : Nat) : (s.channelIdle c).channel c = Channel.reset := by
  rw [State.channelIdle, State.channel_gnsRefresh, State.channel_showChannel, State.channel_setChannel, if_pos rfl]

theorem State.dropped_channelIdle (s : State) (c : Nat) : (s.channelIdle c).gns.dropped = s.gns.dropped := by
  rw [State.channelIdle, State.gns_gnsRefresh, State.gns_showChannel]
  rfl

theorem State.raised_channelIdle (s : State) (c : Nat) : (s.channelIdle c).raised = s.raised := by
  rw [State.channelIdle, State.raised_gnsRefresh, State.raised_showChannel]
  rfl

theorem State.burstResult_dropped {s : State} {r : BurstResult} (hstate : (s.channel r.channel).state = chBurst)
    (hcn0 : r.cn0 < 28) (hlow : 2 ≤ (s.channel r.channel).low) : s.burstResult r = (s.channelIdle r.channel).countDropped := by
  have hidle : s.toChannelState r.channel chIdle = s.channelIdle r.channel := by
    rw [State.channelIdle, State.toChannelState, if_neg (by rw [hstate]; decide), if_pos rfl]
  unfold State.burstResult
  dsimp only
  rw [if_neg (by simp [hstate]), if_pos hcn0, if_pos (by omega), hidle]
  rfl

/-- Settles O46: the channels' entries one by one at the start of a burst, and a result's two outcomes at its end. -/
theorem burstsInDormant : Obligations.BurstsInDormant := by
  refine ⟨fun s hdue ht => ?_, fun s hdue ht hwf => ?_, fun s _ ht => congrArg Host.Outcome.next (if_neg (by omega)),
    fun s r hover hstate hcn0 => ?_, fun s r hover hstate hcn0 hlow => ?_, fun s r hover hstate hcn0 hlow => ?_⟩
  · refine ⟨_, congrArg Host.Outcome.next (if_pos ⟨hdue, ht⟩), fun n => ?_, rfl⟩
    simp only [List.mem_filter, List.mem_range, Bool.and_eq_true, List.any_eq_true, beq_iff_eq]
  · obtain ⟨hsorted, -⟩ := (sparseWf_iff ..).mp hwf
    refine ⟨_, exec_burstStart_of_due hdue ht, rfl, fun c hc => ?_, fun c hc => ?_, ?_⟩
    · refine (s.channel_foldl_burstStep hsorted s _ (State.mem_channels_of_state hc (by decide))).trans ?_
      rw [if_pos hc]
      rfl
    · change (s.gns.channels.foldl s.burstStep s).channel c = _
      by_cases hmem : ∃ e ∈ s.gns.channels, e.1 = c
      · obtain ⟨e, he, rfl⟩ := hmem
        refine (s.channel_foldl_burstStep hsorted s e he).trans (if_neg fun hb => ?_)
        exact hc (by rw [State.channel_of_mem hsorted he]; exact hb)
      · exact s.channel_foldl_burstStep_ne (fun e he hce => hmem ⟨e, he, hce⟩) s
    · rw [State.burstStarted, s.foldl_burstStep_frame s.gns.channels s]
  · have hkept := State.burstResult_kept hstate (if_neg (Nat.not_lt.mpr hcn0)) (by decide)
    have hexec := exec_burstEnd_one hover r
    rw [hkept] at hexec
    refine ⟨_, hexec, rfl, rfl, ?_, ?_, ?_, fun d hd => ?_⟩
    · rw [State.bursts_burstClosed, State.gns_showChannel]
      rfl
    · rw [State.dropped_burstClosed, State.gns_showChannel]
      rfl
    · rw [State.channel_burstClosed, State.channel_showChannel, State.channel_setChannel, if_pos rfl]
      rfl
    · rw [State.channel_burstClosed, State.channel_showChannel, State.channel_setChannel, if_neg hd]
  · have hkept := State.burstResult_kept hstate (if_pos hcn0) (by omega)
    have hexec := exec_burstEnd_one hover r
    rw [hkept] at hexec
    refine ⟨_, hexec, ?_, ?_, ?_⟩
    · rw [State.channel_burstClosed, State.channel_showChannel, State.channel_setChannel, if_pos rfl]
      exact hstate
    · rw [State.channel_burstClosed, State.channel_showChannel, State.channel_setChannel, if_pos rfl]
      rfl
    · rw [State.dropped_burstClosed, State.gns_showChannel]
      rfl
  · have hexec := exec_burstEnd_one hover r
    rw [State.burstResult_dropped hstate hcn0 hlow] at hexec
    refine ⟨_, hexec, ?_, ?_, ?_⟩
    · rw [State.channel_burstClosed, State.channel_countDropped, State.channel_channelIdle]
      rfl
    · rw [State.dropped_burstClosed, State.dropped_countDropped, State.dropped_channelIdle]
    · rw [State.raised_burstClosed, State.raised_countDropped, State.raised_channelIdle]

end Sys2Proof.Machine
end

section
/-!
The solution of a second (R310 to R320): what each of its steps changes, and what of it the next steps read.
-/
namespace Sys2Proof.Machine

/-! ### States that differ in registers, raises and navigation alone -/

/-- The second state differs from the first in registers, raises and navigation alone. -/
def State.SameButNav (s t : State) : Prop := t = { s with regs := t.regs, raised := t.raised, nav := t.nav }

namespace State.SameButNav

variable {s t u : State}

theorem refl : s.SameButNav s := rfl

theorem trans (h : s.SameButNav t) (h' : t.SameButNav u) : s.SameButNav u := by
  unfold State.SameButNav at *
  rw [h', h]

theorem of_raises (h : s.SameButRaises t) : s.SameButNav t := by
  unfold State.SameButRaises at h
  unfold State.SameButNav
  rw [h]

theorem withNav (h : s.SameButNav t) (n : NavState) : s.SameButNav { t with nav := n } := by
  unfold State.SameButNav at *
  rw [h]

theorem ite {c : Prop} [Decidable c] (ht : s.SameButNav t) (hu : s.SameButNav u) : s.SameButNav (if c then t else u) := by
  split
  · exact ht
  · exact hu

theorem raise (h : s.SameButNav t) (k : Nat) (a b : Word) : s.SameButNav (t.raise k a b) := h.trans (of_raises (State.SameButRaises.raise .refl))

end State.SameButNav

/-! ### The steps of a solution -/

/-- The registers that a solution reports in, apart from the pulse's. -/
def solutionRegs : List Nat :=
  [Reg.GNS_NAV_STAT, Reg.GNS_IFLAGS, Reg.GNS_CNT_EXCL, Reg.GNS_BLEAP, Reg.GNS_BLEAP_AT_L, Reg.GNS_BLEAP_AT_H]

theorem State.keepsRegs.noteFlags {s t : State} (h : s.keepsRegs t solutionRegs) (flags jam : Nat) :
    s.keepsRegs (t.noteFlags flags jam) solutionRegs := by
  unfold State.noteFlags
  dsimp only
  exact .ite (State.keepsRegs.setFld (.ite (h.wr (by decide)).raise (h.wr (by decide))) (by decide)).raise
    (State.keepsRegs.setFld (.ite (h.wr (by decide)).raise (h.wr (by decide))) (by decide))

theorem State.SameButRaises.noteFlags {s t : State} (h : s.SameButRaises t) (flags jam : Nat) :
    s.SameButRaises (t.noteFlags flags jam) := by
  unfold State.noteFlags
  dsimp only
  exact .ite (State.SameButRaises.setFld (.ite h.wr.raise h.wr)).raise (State.SameButRaises.setFld (.ite h.wr.raise h.wr))

theorem State.keepsRegs.noteExclusions {s t : State} (h : s.keepsRegs t solutionRegs) (sol : Solution) :
    s.keepsRegs (t.noteExclusions sol) solutionRegs :=
  State.keepsRegs.foldl (.of_regs h) fun _ _ _ hv => (hv.bump (o := Reg.GNS_CNT_EXCL) (by decide)).raise

theorem State.SameButNav.noteExclusions {s t : State} (h : s.SameButNav t) (sol : Solution) :
    s.SameButNav (t.noteExclusions sol) :=
  (h.withNav _).trans (.of_raises (State.SameButRaises.foldl .refl (fun hv _ => hv.bump.raise) _))

theorem State.keepsRegs.noteLeap {s t : State} (h : s.keepsRegs t solutionRegs) (leap : Option (Int × Int × Nat)) :
    s.keepsRegs (t.noteLeap leap) solutionRegs := by
  cases leap with
  | none => exact h
  | some l =>
    refine .of_regs ?_
    exact .ite (((h.wr (by decide)).wr (by decide)).wr (by decide)).raise (((h.wr (by decide)).wr (by decide)).wr (by decide))

theorem State.SameButNav.noteLeap {s t : State} (h : s.SameButNav t) (leap : Option (Int × Int × Nat)) :
    s.SameButNav (t.noteLeap leap) := by
  cases leap with
  | none => exact h
  | some l => exact State.SameButNav.withNav (h.trans (.of_raises (.ite State.SameButRaises.refl.wr.wr.wr.raise
      State.SameButRaises.refl.wr.wr.wr))) _

theorem State.keepsRegs.navField {s t : State} {l : List Nat} {lo n v src : Nat} (h : s.keepsRegs t l)
    (ho : Reg.GNS_NAV_STAT ∈ l) : s.keepsRegs (t.navField lo n v src) l := .ite h (h.setFld ho).raise

theorem State.SameButRaises.navField {s t : State} {lo n v src : Nat} (h : s.SameButRaises t) :
    s.SameButRaises (t.navField lo n v src) := .ite h h.setFld.raise

theorem State.fld_navField (s : State) {lo n v : Nat} (src : Nat) (h : lo + n ≤ 32) (hv : v < 2 ^ n) :
    (s.navField lo n v src).fld Reg.GNS_NAV_STAT lo n = v := by
  unfold State.navField
  split
  · assumption
  · rw [State.fld_raise, State.fld_setFld _ _ _ _ _ h, Nat.mod_eq_of_lt hv]

theorem State.fld_navField_other (s : State) {lo n lo' n' : Nat} (v src : Nat) (h : lo' + n' ≤ lo ∨ lo + n ≤ lo')
    (h' : lo' + n' ≤ 32) : (s.navField lo n v src).fld Reg.GNS_NAV_STAT lo' n' = s.fld Reg.GNS_NAV_STAT lo' n' := by
  unfold State.navField
  split
  · rfl
  · rw [State.fld_raise, State.fld_setFld_other _ _ _ _ _ _ _ _ (.inr h) h']

/-! ### The steps put together -/

/-- The conditions, exclusions and leap data of a solution noted. -/
def State.noteSolution (s : State) (sol : Solution) (jam : List Nat) (flags second : Nat) : State :=
  (((if flags &&& failMask = 0 then s else { s with nav := { s.nav with lastFail := some second } }).noteFlags flags
    (jam.map (2 ^ ·)).sum).noteExclusions sol).noteLeap sol.leap

/-- Type, integrity, authentication, validity and count shown. -/
def State.showSolution (s : State) (ty integ auth count : Nat) (valid decoded : Bool) : State :=
  (((((s.navField 28 3 ty 97).navField 26 2 integ 98).navField 24 2 auth 103).setFlag Reg.GNS_NAV_STAT 31 valid).setFlag
    Reg.GNS_NAV_STAT 21 decoded).setFld Reg.GNS_NAV_STAT 8 8 (count % 256)

/-- The fix record and the satellite table of a solution. -/
def State.recordSolution (s : State) (fix : List Word) (table : List (Word × Word)) (seq : Nat) (report : Bool) : State :=
  let t := { s with nav := { s.nav with fix := fix, table := table, seq := seq, jumped := false } }
  if report then t.raise 96 else t

/-- The survey, the biases, the pulse and the run bits after a solution. -/
def State.closeSolution (s : State) (sol : Solution) (ty integ : Nat) (valid : Bool) : State :=
  let t := ((s.surveyStep sol ty integ).keepBiases sol integ).schedulePulse sol valid
  (t.setFld Reg.GNS_NAV_STAT 22 2 t.surveyField).dryRefresh

/-- The state in which a solution is judged. -/
def State.judged (s : State) (sol : Solution) : State := (s.beginSolution sol).stepConditions sol

/-- The conditions of a solution. -/
def State.solFlags (s : State) (sol : Solution) : Nat := (s.judged sol).conditions sol ((s.beginSolution sol).jammed sol)

/-- The integrity state of a solution. -/
def State.solInteg (s : State) (sol : Solution) : Nat :=
  integrityOf (s.solFlags sol) (s.judged sol).nav.lastFail ((s.judged sol).solSecond sol) ((s.judged sol).fld Reg.GNS_ICHK3 24 8)

theorem State.solve_eq (s : State) (sol : Solution) :
    s.solve sol =
      (((((s.judged sol).noteSolution sol ((s.beginSolution sol).jammed sol) (s.solFlags sol) ((s.judged sol).solSecond sol)).showSolution
        ((s.judged sol).solType sol) (s.solInteg sol) ((s.judged sol).overallAuth ((s.judged sol).usedSats sol))
        ((s.judged sol).usedSats sol).length ((s.judged sol).solType sol != 0 && s.solInteg sol != 2) sol.decoded).recordSolution
        ((s.judged sol).fixRecord sol ((s.judged sol).solType sol) (s.solInteg sol)
          ((s.judged sol).overallAuth ((s.judged sol).usedSats sol)) (s.solFlags sol))
        ((sol.sats.take 128).map ((s.judged sol).tableEntry sol)) (((s.judged sol).nav.seq + 1) % 256)
        ((s.judged sol).flag Reg.GNS_NAV_CTL 23)).closeSolution sol ((s.judged sol).solType sol) (s.solInteg sol)
        ((s.judged sol).solType sol != 0 && s.solInteg sol != 2)) := rfl

/-! ### The state in which a solution is judged -/

theorem State.keepsRegs.showOsnma {s t : State} {l : List Nat} (h : s.keepsRegs t l) (ho : Reg.GNS_OSNMA ∈ l) :
    s.keepsRegs t.showOsnma l := by
  have hbits := ((h.setFld (lo := 8) (n := 8) (v := (t.nav.auth.filter (·.2 == authOk)).length) ho).setFlag (i := 7)
    (b := t.osnmaTime) ho).setFlag (i := 6) (b := t.osnmaUnits) ho
  exact .ite (hbits.setFld ho) (.ite (hbits.setFld ho) hbits)

theorem State.SameButRaises.showOsnma {s t : State} (h : s.SameButRaises t) : s.SameButRaises t.showOsnma :=
  .ite h.setFld.setFlag.setFlag.setFld (.ite h.setFld.setFlag.setFlag.setFld h.setFld.setFlag.setFlag)

theorem State.raised_showOsnma (s : State) : s.showOsnma.raised = s.raised := by
  unfold State.showOsnma
  dsimp only
  split
  · rfl
  · split <;> rfl

theorem State.nav_showOsnma (s : State) : s.showOsnma.nav = s.nav := by
  rw [State.SameButRaises.showOsnma (State.SameButRaises.refl (s := s))]

theorem State.gns_showOsnma (s : State) : s.showOsnma.gns = s.gns := by
  rw [State.SameButRaises.showOsnma (State.SameButRaises.refl (s := s))]

/-- What a solution starts from: the marker, the number of the record, and the second of the last FAIL. -/
structure State.SameStart (s t : State) : Prop where
  near : t.gns.near = s.gns.near
  seq : t.nav.seq = s.nav.seq
  lastFail : t.nav.lastFail = s.nav.lastFail

theorem State.SameStart.trans {s t u : State} (h : s.SameStart t) (h' : t.SameStart u) : s.SameStart u :=
  ⟨h'.near.trans h.near, h'.seq.trans h.seq, h'.lastFail.trans h.lastFail⟩

theorem State.SameStart.of_eq {s t : State} (hg : t.gns = s.gns) (hn : t.nav = s.nav) : s.SameStart t := by
  refine ⟨?_, ?_, ?_⟩
  · rw [hg]
  · rw [hn]
  · rw [hn]

theorem State.sameStart_navMode (s : State) : s.SameStart s.navMode := by
  unfold State.navMode
  dsimp only
  split <;> exact ⟨rfl, rfl, rfl⟩

theorem State.sameStart_replaceAided (s : State) (sol : Solution) : s.SameStart (s.replaceAided sol) := ⟨rfl, rfl, rfl⟩

theorem State.sameStart_stepSystems (s : State) (sol : Solution) : s.SameStart (s.stepSystems sol) := ⟨rfl, rfl, rfl⟩

theorem State.sameStart_stepConditions (s : State) (sol : Solution) : s.SameStart (s.stepConditions sol) := ⟨rfl, rfl, rfl⟩

theorem State.sameStart_judged (s : State) (sol : Solution) : s.SameStart (s.judged sol) :=
  (((s.sameStart_navMode.trans (.of_eq s.navMode.gns_showOsnma s.navMode.nav_showOsnma)).trans
    (State.sameStart_replaceAided _ sol)).trans (State.sameStart_stepSystems _ sol)).trans (State.sameStart_stepConditions _ sol)

theorem State.regs_replaceAided (s : State) (sol : Solution) : (s.replaceAided sol).regs = s.regs := rfl

theorem State.regs_stepSystems (s : State) (sol : Solution) : (s.stepSystems sol).regs = s.regs := rfl

theorem State.regs_stepConditions (s : State) (sol : Solution) : (s.stepConditions sol).regs = s.regs := rfl

theorem State.keepsRegs_judged (s : State) (sol : Solution) : s.keepsRegs (s.judged sol) [Reg.GNS_OSNMA] := by
  have h : s.keepsRegs s.navMode.showOsnma [Reg.GNS_OSNMA] :=
    State.keepsRegs.showOsnma (.of_regs .refl) (List.mem_singleton_self _)
  refine .of_regs h ?_
  rw [State.judged, State.regs_stepConditions, State.beginSolution, State.regs_stepSystems, State.regs_replaceAided]

theorem State.solInteg_eq (s : State) (sol : Solution) :
    s.solInteg sol = integrityOf (s.solFlags sol) s.nav.lastFail ((s.judged sol).solSecond sol) (s.fld Reg.GNS_ICHK3 24 8) := by
  rw [State.solInteg, (s.sameStart_judged sol).lastFail, State.fld, s.keepsRegs_judged sol _ (by decide), State.fld]

/-! ### What the steps keep -/

theorem State.keepsRegs_noteSolution (s : State) (sol : Solution) (jam : List Nat) (flags second : Nat) :
    s.keepsRegs (s.noteSolution sol jam flags second) solutionRegs :=
  State.keepsRegs.noteLeap (State.keepsRegs.noteExclusions
    (State.keepsRegs.noteFlags (.ite .refl (.of_regs .refl)) flags (jam.map (2 ^ ·)).sum) sol) sol.leap

theorem State.noteSolution_frame (s : State) (sol : Solution) (jam : List Nat) (flags second : Nat) :
    s.SameButNav (s.noteSolution sol jam flags second) :=
  State.SameButNav.noteLeap (State.SameButNav.noteExclusions (State.SameButNav.trans (.ite .refl (.withNav .refl _))
    (.of_raises (State.SameButRaises.noteFlags .refl ..))) sol) _

theorem State.keepsRegs_showSolution (s : State) (ty integ auth count : Nat) (valid decoded : Bool) :
    s.keepsRegs (s.showSolution ty integ auth count valid decoded) solutionRegs :=
  (((((State.keepsRegs.refl.navField (by decide)).navField (by decide)).navField (by decide)).setFlag (by decide)).setFlag
    (by decide)).setFld (by decide)

theorem State.showSolution_frame (s : State) (ty integ auth count : Nat) (valid decoded : Bool) :
    s.SameButRaises (s.showSolution ty integ auth count valid decoded) :=
  State.SameButRaises.refl.navField.navField.navField.setFlag.setFlag.setFld

/-- What GNS_NAV_STAT shows of a solution. -/
structure State.Shows (s : State) (ty integ count : Nat) (valid : Bool) : Prop where
  ty : s.fld Reg.GNS_NAV_STAT 28 3 = ty
  integ : s.fld Reg.GNS_NAV_STAT 26 2 = integ
  count : s.fld Reg.GNS_NAV_STAT 8 8 = count
  valid : s.flag Reg.GNS_NAV_STAT 31 = valid

theorem State.showSolution_shows (s : State) {ty integ : Nat} (auth count : Nat) (valid decoded : Bool) (hty : ty < 8)
    (hinteg : integ < 4) : (s.showSolution ty integ auth count valid decoded).Shows ty integ (count % 256) valid where
  ty := by
    rw [State.showSolution, State.fld_setFld_other _ _ _ _ _ _ _ _ (by omega) (by omega),
      State.fld_setFlag_other _ _ _ _ _ _ _ (by omega), State.fld_setFlag_other _ _ _ _ _ _ _ (by omega),
      State.fld_navField_other _ _ _ (by omega) (by omega), State.fld_navField_other _ _ _ (by omega) (by omega),
      State.fld_navField _ _ (by omega) hty]
  integ := by
    rw [State.showSolution, State.fld_setFld_other _ _ _ _ _ _ _ _ (by omega) (by omega),
      State.fld_setFlag_other _ _ _ _ _ _ _ (by omega), State.fld_setFlag_other _ _ _ _ _ _ _ (by omega),
      State.fld_navField_other _ _ _ (by omega) (by omega), State.fld_navField _ _ (by omega) hinteg]
  count := by
    rw [State.showSolution, State.fld_setFld _ _ _ _ _ (by omega)]
    omega
  valid := by
    rw [State.showSolution, State.flag_setFld_other _ _ _ _ _ _ _ (by omega) (by omega),
      State.flag_setFlag_other _ _ _ _ _ _ (by omega), State.flag_setFlag _ _ _ _ (by omega)]

theorem State.regs_recordSolution (s : State) (fix : List Word) (table : List (Word × Word)) (seq : Nat) (report : Bool) :
    (s.recordSolution fix table seq report).regs = s.regs := by
  unfold State.recordSolution
  dsimp only
  split <;> rfl

theorem State.nav_recordSolution (s : State) (fix : List Word) (table : List (Word × Word)) (seq : Nat) (report : Bool) :
    (s.recordSolution fix table seq report).nav = { s.nav with fix := fix, table := table, seq := seq, jumped := false } := by
  unfold State.recordSolution
  dsimp only
  split <;> rfl

theorem State.recordSolution_frame (s : State) (fix : List Word) (table : List (Word × Word)) (seq : Nat) (report : Bool) :
    s.SameButNav (s.recordSolution fix table seq report) := .ite ((State.SameButNav.refl.withNav _).raise ..) (.withNav .refl _)

/-! ### The pulse and the end of a solution -/

/-- What the survey and the biases keep. -/
structure State.KeepsRecord (s t : State) : Prop where
  regs : t.regs = s.regs
  fix : t.nav.fix = s.nav.fix
  seq : t.nav.seq = s.nav.seq
  frame : s.SameButNav t

theorem State.keepsRecord_surveyStep (s : State) (sol : Solution) (ty integ : Nat) : s.KeepsRecord (s.surveyStep sol ty integ) := by
  unfold State.surveyStep
  split
  · exact ⟨rfl, rfl, rfl, .refl⟩
  · dsimp only
    split
    · exact ⟨rfl, rfl, rfl, ((State.SameButNav.refl.withNav _).withNav _).raise ..⟩
    · exact ⟨rfl, rfl, rfl, .withNav .refl _⟩

theorem State.keepsRecord_keepBiases (s : State) (sol : Solution) (integ : Nat) : s.KeepsRecord (s.keepBiases sol integ) := by
  unfold State.keepBiases
  split
  · exact ⟨rfl, rfl, rfl, .refl⟩
  · exact ⟨rfl, rfl, rfl, .withNav .refl _⟩

theorem State.KeepsRecord.trans {s t u : State} (h : s.KeepsRecord t) (h' : t.KeepsRecord u) : s.KeepsRecord u :=
  ⟨h'.regs.trans h.regs, h'.fix.trans h.fix, h'.seq.trans h.seq, h.frame.trans h'.frame⟩

/-- The pulse that a solution leaves: that of the next second, or none. -/
def State.nextPulse (s : State) (sol : Solution) (m : Nat) (valid : Bool) : Option (Nat × Int × Int) :=
  if valid then some (s.solSecond sol + 1, (s.placePulse sol m).2, (s.placePulse sol m).1) else none

/-- What scheduling the pulse does. -/
structure State.Scheduled (s : State) (sol : Solution) (m : Nat) (valid : Bool) (t : State) : Prop where
  pulse : t.nav = { s.nav with pulse := s.nextPulse sol m valid }
  keeps : s.keepsRegs t [Reg.GNS_QERR_SEC, Reg.GNS_QERR]

theorem State.schedulePulse_scheduled {s : State} {m : Nat} {x : CT96} (hnear : s.gns.near = some (m, x)) (sol : Solution)
    (valid : Bool) : s.Scheduled sol m valid (s.schedulePulse sol valid) := by
  unfold State.schedulePulse
  cases valid with
  | false => exact ⟨rfl, .of_regs (State.keepsRegs.setFlag (o := Reg.GNS_QERR) .refl)⟩
  | true =>
    rw [hnear]
    exact ⟨rfl, .of_regs ((State.keepsRegs.wr (o := Reg.GNS_QERR_SEC) .refl).wr (o := Reg.GNS_QERR))⟩

/-- The second and the place of a pulse depend on GNS_NAV_CTL, the marker and the fuses alone. -/
theorem State.nextPulse_congr {s t : State} (h : s.SameButNav t) (hctl : t.rd Reg.GNS_NAV_CTL = s.rd Reg.GNS_NAV_CTL)
    (sol : Solution) (m : Nat) (valid : Bool) : t.nextPulse sol m valid = s.nextPulse sol m valid := by
  have hgns : t.gns = s.gns := by rw [h]
  have hcal : t.cal = s.cal := by rw [h]
  have hfuse : t.fuse = s.fuse := by rw [h]
  have htsys : t.tsys = s.tsys := by rw [State.tsys, State.fld, hctl, State.tsys, State.fld]
  have hnearest : t.nearestSecond = s.nearestSecond := by
    rw [State.nearestSecond, State.markerTime, State.now, hgns, hcal, State.nearestSecond, State.markerTime, State.now]
  have hsecond : t.solSecond sol = s.solSecond sol := by rw [State.solSecond, htsys, hnearest, State.solSecond]
  have hclock : t.clockBias sol = s.clockBias sol := by rw [State.clockBias, State.flag, hctl, State.clockBias, State.flag]
  have hplace : t.placePulse sol m = s.placePulse sol m := by rw [State.placePulse, hclock, hfuse, State.placePulse]
  rw [State.nextPulse, hsecond, hplace, State.nextPulse]

/-- A register of which the end of a solution changes at most bits 22 and 23, in GNS_NAV_STAT. -/
structure State.Closed (s : State) (sol : Solution) (m : Nat) (valid : Bool) (t : State) : Prop where
  pulse : t.nav.pulse = s.nextPulse sol m valid
  fix : t.nav.fix = s.nav.fix
  seq : t.nav.seq = s.nav.seq
  fld : ∀ lo n, lo + n ≤ 22 ∨ 24 ≤ lo → lo + n ≤ 32 → t.fld Reg.GNS_NAV_STAT lo n = s.fld Reg.GNS_NAV_STAT lo n
  flag : ∀ i, 24 ≤ i → i < 32 → t.flag Reg.GNS_NAV_STAT i = s.flag Reg.GNS_NAV_STAT i

theorem State.closeSolution_closed {s : State} {m : Nat} {x : CT96} (hnear : s.gns.near = some (m, x)) (sol : Solution)
    (ty integ : Nat) (valid : Bool) : s.Closed sol m valid (s.closeSolution sol ty integ valid) := by
  have hkept := (s.keepsRecord_surveyStep sol ty integ).trans (State.keepsRecord_keepBiases _ sol integ)
  set u := (s.surveyStep sol ty integ).keepBiases sol integ with hu
  have hrd : ∀ o, u.rd o = s.rd o := fun o => by rw [State.rd, hkept.regs, State.rd]
  have hscheduled := State.schedulePulse_scheduled (s := u) (by rw [hkept.frame]; exact hnear) sol valid
  have hclose : s.closeSolution sol ty integ valid = ((u.schedulePulse sol valid).setFld Reg.GNS_NAV_STAT 22 2
    (u.schedulePulse sol valid).surveyField).dryRefresh := rfl
  set v := u.schedulePulse sol valid
  have hnav : (s.closeSolution sol ty integ valid).nav = v.nav := by
    rw [hclose, State.SameButRaises.dryRefresh (.refl (s := v.setFld Reg.GNS_NAV_STAT 22 2 v.surveyField))]
    rfl
  have hstat : (s.closeSolution sol ty integ valid).rd Reg.GNS_NAV_STAT =
      (v.setFld Reg.GNS_NAV_STAT 22 2 v.surveyField).rd Reg.GNS_NAV_STAT :=
    State.keepsRegs.dryRefresh (l := [Reg.DRY_STATUS]) .refl (by simp) _ (by decide)
  have hv : v.rd Reg.GNS_NAV_STAT = s.rd Reg.GNS_NAV_STAT := (hscheduled.keeps _ (by decide)).trans (hrd _)
  refine ⟨?_, ?_, ?_, fun lo n h h' => ?_, fun i h h' => ?_⟩
  · rw [hnav, hscheduled.pulse]
    exact State.nextPulse_congr hkept.frame (hrd _) sol m valid
  · rw [hnav, hscheduled.pulse]
    exact hkept.fix
  · rw [hnav, hscheduled.pulse]
    exact hkept.seq
  · rw [State.fld, hstat]
    refine (State.fld_setFld_other _ _ _ _ _ _ _ _ (.inr (by omega)) h').trans ?_
    rw [State.fld, hv, State.fld]
  · rw [State.flag, hstat]
    refine (State.flag_setFld_other _ _ _ _ _ _ _ (.inr (by omega)) h').trans ?_
    rw [State.flag, hv, State.flag]

theorem State.solType_lt (s : State) (sol : Solution) : s.solType sol < 8 := by
  unfold State.solType
  dsimp only
  have hb : ∀ b, ofBool b ≤ 1 := by decide
  split
  · decide
  · split
    · exact lt_of_le_of_lt (Nat.add_le_add_left (hb _) 3) (by decide)
    · exact lt_of_le_of_lt (Nat.add_le_add_left (hb _) 1) (by decide)

theorem integrityOf_lt (flags : Nat) (last : Option Nat) (second clearT : Nat) : integrityOf flags last second clearT < 4 := by
  unfold integrityOf
  dsimp only
  generalize (match last with | some t => decide (second ≤ t + clearT) | none => false) = held
  split_ifs <;> decide

end Sys2Proof.Machine
end

section
/-!
OSNMA (R326 to R330): what GNS_OSNMA itself does not decide, and the commands that bring it up to date.
-/
namespace Sys2Proof.Machine

/-! ### What the register GNS_OSNMA does not decide -/

section
variable {s t : State} (hregs : s.keepsRegs t [Reg.GNS_OSNMA]) (hframe : s.SameButRaises t)
include hregs

theorem State.flag_of_osnma {o : Nat} (i : Nat) (ho : o ∉ [Reg.GNS_OSNMA]) : t.flag o i = s.flag o i := by
  rw [State.flag, hregs o ho, State.flag]

theorem State.fld_of_osnma {o : Nat} (lo n : Nat) (ho : o ∉ [Reg.GNS_OSNMA]) : t.fld o lo n = s.fld o lo n := by
  rw [State.fld, hregs o ho, State.fld]

theorem State.pdUp_of_osnma (hcpm : t.cpm = s.cpm) {d : Nat} (hd : Reg.CPM_PD_CTL d ∉ [Reg.GNS_OSNMA]) :
    t.pdUp d = s.pdUp d := by
  rw [State.pdUp, State.pd, State.mode, State.fld_of_osnma hregs 24 3 hd, State.fld_of_osnma hregs 0 4 (by decide), hcpm,
    State.pdUp, State.pd, State.mode]

theorem State.osnmaOn_of_osnma (hcpm : t.cpm = s.cpm) : t.osnmaOn = s.osnmaOn := by
  rw [State.osnmaOn, State.flag_of_osnma hregs 24 (by decide), State.pdUp_of_osnma hregs hcpm (by decide), State.osnmaOn]

include hframe

theorem State.errorEstimate_of_osnma : t.errorEstimate = s.errorEstimate := by
  have hsel : t.sel = s.sel := by rw [hframe]
  have hcal : t.cal = s.cal := by rw [hframe]
  have hdstate : t.dstate = s.dstate := State.fld_of_osnma hregs 8 3 (by decide)
  have hcur : t.cur = s.cur := by
    rw [State.cur, State.flag_of_osnma hregs 4 (by decide), State.fld_of_osnma hregs 0 4 (by decide), State.cur]
  have hresidual : t.residual = s.residual := by
    rw [State.residual, hcur, State.residual]
    cases s.cur with
    | none => exact congrArg (fun x : SelState => absRat (nsOf x.resid)) hsel
    | some n => exact congrArg (fun x : SelState => absRat (nsOf (State.slot { s with sel := x } n).x)) hsel
  have htick : t.tick = s.tick := by rw [State.tick, hcal, State.tick]
  have hfu : t.fu = s.fu := by rw [State.fu, hregs _ (by decide), hregs _ (by decide), State.fu]
  have htu : t.tu = s.tu := by rw [State.tu, hregs _ (by decide), State.flag_of_osnma hregs 0 (by decide), State.tu]
  have hau : t.au = s.au := by rw [State.au, hregs _ (by decide), hregs _ (by decide), State.au]
  have hslot : ∀ n, t.fld (Reg.SEL_SLOT_CFG n) 10 2 = s.fld (Reg.SEL_SLOT_CFG n) 10 2 := fun n =>
    State.fld_of_osnma hregs 10 2 (by simp only [Reg.SEL_SLOT_CFG, Reg.GNS_OSNMA, List.mem_singleton]; omega)
  unfold State.errorEstimate
  dsimp only
  rw [hdstate, hresidual, hsel, htick, hfu, htu, hau]
  simp only [hslot]

theorem State.osnmaUnits_of_osnma : t.osnmaUnits = s.osnmaUnits := by
  have hcpm : t.cpm = s.cpm := by rw [hframe]
  rw [State.osnmaUnits, State.pdUp_of_osnma hregs hcpm (by decide), State.flag_of_osnma hregs 0 (by decide), State.uValid,
    State.flag_of_osnma hregs 4 (by decide), State.pdUp_of_osnma hregs hcpm (by decide),
    State.flag_of_osnma hregs 2 (by decide), State.osnmaUnits, State.uValid]

theorem State.osnmaTime_of_osnma : t.osnmaTime = s.osnmaTime := by
  have hnav : t.nav = s.nav := by rw [hframe]
  rw [State.osnmaTime, State.flag_of_osnma hregs 17 (by decide), State.errorEstimate_of_osnma hregs hframe, hnav,
    State.osnmaTime]

end

/-- What bringing GNS_OSNMA up to date keeps. -/
theorem State.keepsRegs_showOsnma (s : State) : s.keepsRegs s.showOsnma [Reg.GNS_OSNMA] :=
  State.keepsRegs.showOsnma .refl (List.mem_singleton_self _)

theorem State.showOsnma_frame (s : State) : s.SameButRaises s.showOsnma := .showOsnma .refl

theorem State.osnmaState_showOsnma (s : State) :
    s.showOsnma.osnmaState =
      if s.osnmaOn = false then 0 else if s.osnmaState = 0 then osnmaPending else s.osnmaState := by
  have hbits : ∀ n a b, (((s.setFld Reg.GNS_OSNMA 8 8 n).setFlag Reg.GNS_OSNMA 7 a).setFlag Reg.GNS_OSNMA 6 b).osnmaState =
      s.osnmaState := fun n a b => by
    rw [State.osnmaState, State.fld_setFlag_other _ _ _ _ _ _ _ (by decide), State.fld_setFlag_other _ _ _ _ _ _ _ (by decide),
      State.fld_setFld_other _ _ _ _ _ _ _ _ (by decide) (by decide), State.osnmaState]
  unfold State.showOsnma
  dsimp only
  split
  · exact State.fld_setFld _ Reg.GNS_OSNMA 30 2 0 (by decide)
  · split
    · exact State.fld_setFld _ Reg.GNS_OSNMA 30 2 osnmaPending (by decide)
    · exact hbits ..

/-! ### The commands of OSNMA -/

/-- An OSNMA_MESSAGE while firmware runs: the data between two refreshes of GNS_OSNMA. -/
theorem exec_osnmaMessage_of_runs {s : State} (hruns : s.gnsRuns = true) (hfw : s.gnssFirmware = true) (m : OsnmaMessage) :
    exec (.osnmaMessage m) s = .next ((s.showOsnma).osnma m).showOsnma :=
  congrArg Host.Outcome.next (if_pos ⟨hruns, hfw⟩)

section
variable {s : State} (hon : s.osnmaOn = true) (hunits : s.osnmaUnits = true) (htime : s.osnmaTime = true)
  (halert : s.osnmaState ≠ osnmaAlert)
include hon

theorem State.osnmaOn_showOsnma : s.showOsnma.osnmaOn = true :=
  (State.osnmaOn_of_osnma s.keepsRegs_showOsnma (by rw [s.showOsnma_frame])).trans hon

include halert in
theorem State.osnmaState_showOsnma_ne_alert : s.showOsnma.osnmaState ≠ osnmaAlert := by
  rw [s.osnmaState_showOsnma, hon, if_neg (by decide)]
  split
  · decide
  · exact halert

include hunits htime halert

theorem State.osnmaActive_showOsnma :
    ¬ ((s.showOsnma.osnmaOn && s.showOsnma.osnmaUnits && s.showOsnma.osnmaTime) = false ∨ s.showOsnma.osnmaState = osnmaAlert) := by
  rw [State.osnmaOn_showOsnma hon, State.osnmaUnits_of_osnma s.keepsRegs_showOsnma s.showOsnma_frame, hunits,
    State.osnmaTime_of_osnma s.keepsRegs_showOsnma s.showOsnma_frame, htime]
  exact not_or.mpr ⟨by decide, State.osnmaState_showOsnma_ne_alert hon halert⟩

theorem State.osnma_key_of_active (subframe : Nat) (key : List Byte) :
    s.showOsnma.osnma (.key subframe key) = s.showOsnma.teslaKey subframe key :=
  if_neg (State.osnmaActive_showOsnma hon hunits htime halert)

theorem State.osnma_tag_of_active (sv adkd k : Nat) (message tag : List Byte) :
    s.showOsnma.osnma (.tag sv adkd k message tag) =
      { s.showOsnma with nav := { s.showOsnma.nav with tags := s.showOsnma.nav.tags ++ [⟨sv, adkd, k, message, tag⟩] } } :=
  if_neg (State.osnmaActive_showOsnma hon hunits htime halert)

end

/-- The chain after a key that it accepts. -/
def OsnmaChain.withKey (c : OsnmaChain) (subframe : Nat) (key : List Byte) : OsnmaChain :=
  if c.subframe ≤ subframe then { c with key := key, subframe := subframe } else c

/-- The state in which the one tag that awaits a key is checked. -/
def State.checking (s : State) (c : OsnmaChain) : State := { s with nav := { s.nav with tags := [], chain := some c } }

theorem State.teslaKey_of_accepted {s : State} {c : OsnmaChain} {g : OsnmaTag} {key : List Byte} (hchain : s.nav.chain = some c)
    (haccepts : c.accepts g.subframe key = true) (htags : s.nav.tags = [g]) :
    s.teslaKey g.subframe key = (s.checking (c.withKey g.subframe key)).checkTag c key g := by
  unfold State.teslaKey
  dsimp only
  rw [hchain]
  dsimp only
  rw [if_pos haccepts, htags, List.filter_cons_of_pos (by simp), List.filter_nil, State.withoutTags, htags,
    List.filter_cons_of_neg (by simp), List.filter_nil]
  rfl

theorem State.teslaKey_of_refused {s : State} {k : Nat} {key : List Byte}
    (h : ∀ c, s.nav.chain = some c → c.accepts k key = false) :
    s.teslaKey k key = (s.withoutTags (·.subframe == k)).raise 104 := by
  unfold State.teslaKey
  dsimp only
  cases hchain : s.nav.chain with
  | none => rfl
  | some c =>
    dsimp only
    rw [if_neg (by simp [h c hchain])]

theorem State.satAuth_eq_sparseGet (s : State) (sv : Nat) : s.satAuth 1 sv = sparseGet (fun _ => authNone) s.nav.auth sv := by
  rw [State.satAuth, if_pos rfl]
  induction s.nav.auth with
  | nil => rfl
  | cons e m ih =>
    rw [List.find?_cons, sparseGet]
    by_cases h : e.1 = sv
    · simp [h]
    · rw [show (e.1 == sv) = false by simpa using h, if_neg (Ne.symm h)]
      exact ih

theorem State.satAuth_setAuth (s : State) (sv a : Nat) : (s.setAuth sv a).satAuth 1 sv = a := by
  rw [State.satAuth_eq_sparseGet, State.setAuth, sparseGet_set, if_pos rfl]

theorem State.satAuth_showOsnma (s : State) (sv : Nat) : s.showOsnma.satAuth 1 sv = s.satAuth 1 sv := by
  rw [State.satAuth, s.nav_showOsnma, State.satAuth]

end Sys2Proof.Machine
end

section
/-!
The fix record, the epoch pulse and the navigation commands.
-/
namespace Sys2Proof.Machine

/-! ### The fix record latched -/

/-- A satellite-table entry shown. -/
def State.svShown (e : Nat → Word × Word) (s : State) (i : Nat) : State :=
  (s.wr (Reg.GNS_SV_A i) (e i).1).wr (Reg.GNS_SV_B i) (e i).2

theorem State.rd_svShown_other (e : Nat → Word × Word) (s : State) (i : Nat) {o : Nat} (ha : o ≠ Reg.GNS_SV_A i)
    (hb : o ≠ Reg.GNS_SV_B i) : (s.svShown e i).rd o = s.rd o := by
  rw [State.svShown, State.rd_wr_ne _ _ _ _ hb, State.rd_wr_ne _ _ _ _ ha]

/-- The first k entries of the table shown. -/
theorem State.rd_svTable (e : Nat → Word × Word) (s : State) (k : Nat) :
    (∀ n < k, ((List.range k).foldl (State.svShown e) s).rd (Reg.GNS_SV_A n) = (e n).1 ∧
      ((List.range k).foldl (State.svShown e) s).rd (Reg.GNS_SV_B n) = (e n).2) ∧
      ∀ o < 0x621000, ((List.range k).foldl (State.svShown e) s).rd o = s.rd o := by
  induction k with
  | zero => exact ⟨fun n hn => absurd hn (Nat.not_lt_zero n), fun o _ => rfl⟩
  | succ k ih =>
    obtain ⟨htable, hother⟩ := ih
    rw [List.range_succ, List.foldl_append, List.foldl_cons, List.foldl_nil]
    set t := (List.range k).foldl (State.svShown e) s
    refine ⟨fun n hn => ?_, fun o ho => ?_⟩
    · by_cases hnk : n = k
      · subst hnk
        refine ⟨?_, State.rd_wr_same ..⟩
        rw [State.svShown, State.rd_wr_ne _ _ _ _ (by simp only [Reg.GNS_SV_A, Reg.GNS_SV_B]; omega), State.rd_wr_same]
      · have ha := State.rd_svShown_other e t k (o := Reg.GNS_SV_A n) (by simp only [Reg.GNS_SV_A]; omega)
          (by simp only [Reg.GNS_SV_A, Reg.GNS_SV_B]; omega)
        have hb := State.rd_svShown_other e t k (o := Reg.GNS_SV_B n) (by simp only [Reg.GNS_SV_A, Reg.GNS_SV_B]; omega)
          (by simp only [Reg.GNS_SV_B]; omega)
        rw [ha, hb]
        exact htable n (by omega)
    · rw [State.rd_svShown_other e t k (by simp only [Reg.GNS_SV_A]; omega) (by simp only [Reg.GNS_SV_B]; omega)]
      exact hother o ho

/-- The entry of the satellite table at a place. -/
def State.svEntry (s : State) (i : Nat) : Word × Word := s.nav.table.getD i (0xF0000000#32, 0)

/-- The record and the satellite table latched. -/
def State.fixLatched (s : State) : State :=
  (List.range 128).foldl (State.svShown s.svEntry) (s.wrWords (Reg.GNS_FIX 0) s.nav.fix)

theorem State.rd_fixLatched {s : State} (hlen : s.nav.fix.length = 16) {n : Nat} (hn : n < 16) :
    s.fixLatched.rd (Reg.GNS_FIX n) = s.nav.fix.getD n 0 := by
  rw [State.fixLatched, (State.rd_svTable _ _ 128).2 _ (by simp only [Reg.GNS_FIX]; omega)]
  exact (State.rd_wrWords s.nav.fix s (Reg.GNS_FIX 0) n (by omega)).trans (List.getD_eq_getElem _ _ (by omega)).symm

theorem State.rd_fixLatched_table (s : State) (n : Nat) (hn : n < 128) :
    s.fixLatched.rd (Reg.GNS_SV_A n) = (s.svEntry n).1 ∧ s.fixLatched.rd (Reg.GNS_SV_B n) = (s.svEntry n).2 :=
  (State.rd_svTable s.svEntry (s.wrWords (Reg.GNS_FIX 0) s.nav.fix) 128).1 n hn

theorem State.fixLatched_frame (s : State) : s.SameButRegs s.fixLatched :=
  List.foldlRecOn (motive := s.SameButRegs) (List.range 128) (State.svShown s.svEntry)
    (s.wrWords_eq_regs (Reg.GNS_FIX 0) s.nav.fix) fun _ ht _ _ => (ht.wr _ _).wr _ _

/-- A read of a register without read-clear bits. -/
theorem State.plainRead_of_row {o : Nat} {r : RegRow} {i j : Nat} (hrow : regRow o = some (r, i, j)) (hrc : r.rc = 0) (s : State) :
    s.plainRead o = (s.rd o, s) := by
  rw [State.plainRead, hrow]
  dsimp only
  rw [if_pos hrc]

theorem regRow_fix :
    regRow (Reg.GNS_FIX 0) = some (⟨0x620040, 0x4, 16, 0x4, 1, 0x0, 0x0, 0x0, 0x0, .const 0x0, PD_GNSS_TRK⟩, 0, 0) := by
  decide +kernel

theorem regRow_qerrSec :
    regRow Reg.GNS_QERR_SEC = some (⟨0x620080, 0x4, 1, 0x4, 1, 0x0, 0x0, 0x0, 0x0, .const 0x0, PD_GNSS_TRK⟩, 0, 0) := by
  decide +kernel

theorem exec_fixRead_of_opens {s : State} {ag : Agent} (ho : s.opens ag (Reg.GNS_FIX 0) = true) :
    exec (.fixRead ag) s = .next (s.fixLatched.complete (.data (s.fixLatched.rd (Reg.GNS_FIX 0)))) := by
  change execFixRead ag s = _
  rw [execFixRead, State.readAccess_opens _ _ _ _ ho]
  change Host.Outcome.next ((s.fixLatched.plainRead (Reg.GNS_FIX 0)).2.complete _) = _
  rw [show s.readFix = s.fixLatched.plainRead (Reg.GNS_FIX 0) from rfl, State.plainRead_of_row regRow_fix rfl]

/-- GNS_QERR latched for one read. -/
def State.qerrLatched (s : State) : State := { s with nav := { s.nav with latched := some (s.rd Reg.GNS_QERR) } }

theorem exec_qerrRead_of_opens {s : State} {ag : Agent} (ho : s.opens ag Reg.GNS_QERR_SEC = true) :
    exec (.qerrRead ag) s = .next (s.qerrLatched.complete (.data (s.rd Reg.GNS_QERR_SEC))) := by
  change execQerrRead ag s = _
  rw [execQerrRead, State.readAccess_opens _ _ _ _ ho, State.readQerrSec, State.plainRead_of_row regRow_qerrSec rfl]
  rfl

/-! ### The commands of GNS_NAV_CMD -/

theorem State.navCommand_of_opens {s : State} {ag : Agent} {op : Nat} {v : Word} (ho : s.opens ag Reg.GNS_NAV_CMD = true)
    (hop : bitsAt v 24 2 = op) : s.navCommand ag op v = s.writeNavCmd v := by
  rw [State.navCommand, State.writeAccess_opens _ _ _ _ _ ho]
  exact if_pos hop

theorem exec_surveyRestart_of_opens {s : State} {ag : Agent} {v : Word} (ho : s.opens ag Reg.GNS_NAV_CMD = true)
    (hv : bitAt v 31 = true) (hop : bitsAt v 24 2 = 1) : exec (.surveyRestart ag v) s = .next s.surveyRestart := by
  refine congrArg Host.Outcome.next ((State.navCommand_of_opens ho hop).trans ?_)
  simp [State.writeNavCmd, hv, hop]

theorem exec_applyPos_of_opens {s : State} {ag : Agent} {v : Word} (ho : s.opens ag Reg.GNS_NAV_CMD = true)
    (hv : bitAt v 31 = true) (hop : bitsAt v 24 2 = 2) : exec (.applyPos ag v) s = .next s.applyPos := by
  refine congrArg Host.Outcome.next ((State.navCommand_of_opens ho hop).trans ?_)
  simp [State.writeNavCmd, hv, hop]

theorem exec_osnmaReset_of_opens {s : State} {ag : Agent} {v : Word} (ho : s.opens ag Reg.GNS_NAV_CMD = true)
    (hv : bitAt v 31 = true) (hop : bitsAt v 24 2 = 3) : exec (.osnmaReset ag v) s = .next s.osnmaReset := by
  refine congrArg Host.Outcome.next ((State.navCommand_of_opens ho hop).trans ?_)
  simp [State.writeNavCmd, hv, hop]

/-- The survey begun anew with no position held. -/
def State.surveyBegun (s : State) : State :=
  State.setFld { s with nav := { s.nav with survey := (0, [0, 0, 0], [0, 0, 0]), held := none } } Reg.GNS_NAV_STAT 22 2 1

theorem State.surveyRestart_of_survey {s : State} (hmode : s.nav.pmode = 1) : s.surveyRestart = s.surveyBegun := by
  unfold State.surveyRestart
  dsimp only
  rw [if_pos hmode]
  exact congrArg _ ((if_pos hmode).trans (if_neg Bool.false_ne_true))

theorem State.applyPos_of_fixed {s : State} {x y z : Int} (hmode : s.fld Reg.GNS_NAV_CTL 30 2 = 2)
    (hpos : s.fixedPosition = (x, y, z)) :
    s.applyPos = if 6300000000 ^ 2 ≤ x ^ 2 + y ^ 2 + z ^ 2 ∧ x ^ 2 + y ^ 2 + z ^ 2 ≤ 6400000000 ^ 2
      then { s with nav := { s.nav with apply := true } } else s.error Reg.GNS_NERR 3 107 := by
  unfold State.applyPos
  dsimp only
  rw [hpos]
  dsimp only
  rw [← pow_two, ← pow_two, ← pow_two]
  by_cases hin : 6300000000 ^ 2 ≤ x ^ 2 + y ^ 2 + z ^ 2 ∧ x ^ 2 + y ^ 2 + z ^ 2 ≤ 6400000000 ^ 2
  · rw [if_pos hin, if_neg]
    rintro (h | h | h)
    · exact h hmode
    · exact absurd hin.1 (not_le.mpr h)
    · exact absurd hin.2 (not_le.mpr h)
  · rw [if_neg hin, if_pos]
    · rfl
    · rcases not_and_or.mp hin with h | h
      · exact .inr (.inl (not_le.mp h))
      · exact .inr (.inr (not_le.mp h))

/-! ### The epoch pulse -/

/-- The pulse sent. -/
def State.pulseSent (s : State) (l : Nat) (q : Int) : State :=
  { s.setFlag Reg.GNS_QERR 16 false with nav := { s.nav with pulse := none, emitted := some (l, q) } }

theorem exec_epochPulse_of_due {s : State} {l : Nat} {q e : Int} (hpulse : s.nav.pulse = some (l, q, e))
    (hruns : s.gnsRuns = true) (hdue : s.pulseDue e = true) : exec .epochPulse s = .next (s.pulseSent l q).gppsPulse := by
  change execEpochPulse s = _
  rw [execEpochPulse, hpulse]
  exact congrArg Host.Outcome.next (if_pos (by rw [hruns, hdue]; rfl))

theorem State.keepsRegs_pulseSent (s : State) (l : Nat) (q : Int) : s.keepsRegs (s.pulseSent l q) [Reg.GNS_QERR] :=
  .of_regs (State.keepsRegs.setFlag (o := Reg.GNS_QERR) .refl)

theorem State.flag_pulseSent (s : State) (l : Nat) (q : Int) : (s.pulseSent l q).flag Reg.GNS_QERR 16 = false :=
  State.flag_setFlag _ _ _ _ (by decide)

theorem State.gppsPulse_frame (s : State) : s.gppsPulse = { s with dry := { s.dry with gpps := s.gppsPulse.dry.gpps } } := by
  unfold State.gppsPulse
  split <;> rfl

theorem State.gpps_gppsPulse (s : State) :
    s.gppsPulse.dry.gpps = if s.flag Reg.DRY_STATUS 9 then
      some (((s.replica replicaDrypoint).count : Int), s.fld Reg.DRY_GPPS_CTL 0 9) else s.dry.gpps := by
  unfold State.gppsPulse
  split <;> rfl

/-! ### The obligation -/

/-- A solution, judged and reported. -/
theorem State.solve_spec {s : State} {m : Nat} {x : CT96} (hnear : s.gns.near = some (m, x)) (sol : Solution) :
    (s.solve sol).fld Reg.GNS_NAV_STAT 28 3 = (s.judged sol).solType sol ∧
      (s.solve sol).fld Reg.GNS_NAV_STAT 26 2 = s.solInteg sol ∧
      (s.solve sol).fld Reg.GNS_NAV_STAT 8 8 = ((s.judged sol).usedSats sol).length % 256 ∧
      (s.solve sol).flag Reg.GNS_NAV_STAT 31 = ((s.judged sol).solType sol != 0 && s.solInteg sol != 2) ∧
      (s.solve sol).nav.fix = (s.judged sol).fixRecord sol ((s.judged sol).solType sol) (s.solInteg sol)
        ((s.judged sol).overallAuth ((s.judged sol).usedSats sol)) (s.solFlags sol) ∧
      (s.solve sol).nav.seq = (s.nav.seq + 1) % 256 ∧
      (s.solve sol).nav.pulse =
        (s.judged sol).nextPulse sol m ((s.judged sol).solType sol != 0 && s.solInteg sol != 2) := by
  rw [s.solve_eq sol]
  set u := s.judged sol with hu
  set valid := u.solType sol != 0 && s.solInteg sol != 2
  set a := u.noteSolution sol ((s.beginSolution sol).jammed sol) (s.solFlags sol) (u.solSecond sol) with ha
  set b := a.showSolution (u.solType sol) (s.solInteg sol) (u.overallAuth (u.usedSats sol)) (u.usedSats sol).length valid
    sol.decoded with hb
  set c := b.recordSolution (u.fixRecord sol (u.solType sol) (s.solInteg sol) (u.overallAuth (u.usedSats sol)) (s.solFlags sol))
    ((sol.sats.take 128).map (u.tableEntry sol)) ((u.nav.seq + 1) % 256) (u.flag Reg.GNS_NAV_CTL 23) with hc
  have hframe : u.SameButNav c := ((u.noteSolution_frame ..).trans (.of_raises (a.showSolution_frame ..))).trans
    (b.recordSolution_frame ..)
  have hshows := a.showSolution_shows (u.overallAuth (u.usedSats sol)) (u.usedSats sol).length valid sol.decoded
    (u.solType_lt sol) (integrityOf_lt (s.solFlags sol) u.nav.lastFail (u.solSecond sol) (u.fld Reg.GNS_ICHK3 24 8))
  have hrd : ∀ o, c.rd o = b.rd o := fun o => by rw [State.rd, hc, State.regs_recordSolution, State.rd]
  have hctl : c.rd Reg.GNS_NAV_CTL = u.rd Reg.GNS_NAV_CTL := by
    rw [hrd, a.keepsRegs_showSolution _ _ _ _ _ _ _ (by decide), u.keepsRegs_noteSolution _ _ _ _ _ (by decide)]
  have hnear' : c.gns.near = some (m, x) := by
    have hgns : c.gns = u.gns := by rw [hframe]
    rw [hgns]
    exact (s.sameStart_judged sol).near.trans hnear
  have hclosed := State.closeSolution_closed hnear' sol (u.solType sol) (s.solInteg sol) valid
  refine ⟨?_, ?_, ?_, ?_, ?_, ?_, ?_⟩
  · rw [hclosed.fld _ _ (by omega) (by omega), State.fld, hrd]
    exact hshows.ty
  · rw [hclosed.fld _ _ (by omega) (by omega), State.fld, hrd]
    exact hshows.integ
  · rw [hclosed.fld _ _ (by omega) (by omega), State.fld, hrd]
    exact hshows.count
  · rw [hclosed.flag _ (by omega) (by omega), State.flag, hrd]
    exact hshows.valid
  · rw [hclosed.fix, hc, State.nav_recordSolution]
  · rw [hclosed.seq, hc, State.nav_recordSolution]
    exact congrArg (fun n => (n + 1) % 256) (s.sameStart_judged sol).seq
  · exact hclosed.pulse.trans (State.nextPulse_congr hframe hctl sol m valid)

theorem State.mem_usedSats {s : State} {sol : Solution} {t : Satellite} (ht : t ∈ s.usedSats sol) :
    s.usable t = true ∧ (∀ e ∈ s.nav.constOut, e.1 ≠ t.gnss) ∧ s.outlier sol ≠ some t := by
  obtain ⟨hkept, hin⟩ := List.mem_filter.mp ht
  obtain ⟨-, hgood⟩ := List.mem_filter.mp hkept
  simp only [Bool.and_eq_true, Bool.not_eq_true', List.any_eq_false, beq_iff_eq] at hgood
  exact ⟨hgood.1, hgood.2, by simpa using hin⟩

theorem State.data_of_usable {s : State} {t : Satellite} (h : s.usable t = true) :
    s.hasData t = true ∧ s.aboveMask t = true ∧ s.ownExclusion t = 0 := by
  simp only [State.usable, Bool.and_eq_true, beq_iff_eq] at h
  obtain ⟨⟨⟨⟨⟨hdata, hmask⟩, hown⟩, -⟩, -⟩, -⟩ := h
  exact ⟨hdata, hmask, hown⟩

/-- The alert taken (R330). -/
def State.alerted (s : State) : State :=
  ((State.setFld { s with nav := { s.nav with auth := [], tags := [], chain := none, adkd4 := authNone } }
    Reg.GNS_OSNMA 30 2 osnmaAlert).raise 105)

theorem State.osnmaState_alerted (s : State) : s.alerted.osnmaState = osnmaAlert := by
  rw [State.alerted, State.osnmaState, State.fld_raise]
  exact State.fld_setFld _ Reg.GNS_OSNMA 30 2 osnmaAlert (by decide)

theorem State.keepsRegs_alerted (s : State) : s.keepsRegs s.alerted [Reg.GNS_OSNMA] :=
  (State.keepsRegs.setFld (o := Reg.GNS_OSNMA) (.of_regs .refl)).raise

theorem State.nextPulse_ne (s : State) (sol : Solution) (m a b : Nat) :
    s.nextPulse sol m (a != 0 && b != 2) =
      if a ≠ 0 ∧ b ≠ 2 then some (s.solSecond sol + 1, (s.placePulse sol m).2, (s.placePulse sol m).1) else none :=
  if_congr (by simp) rfl rfl

/-- The alert cleared, as GNS_OSNMA shows it. -/
theorem State.fld_osnmaCleared (s : State) :
    (s.setFld Reg.GNS_OSNMA 30 2 (ofBool s.osnmaOn)).showOsnma.fld Reg.GNS_OSNMA 30 2 = ofBool s.osnmaOn := by
  set t := s.setFld Reg.GNS_OSNMA 30 2 (ofBool s.osnmaOn)
  have hkeeps : s.keepsRegs t [Reg.GNS_OSNMA] := State.keepsRegs.setFld (o := Reg.GNS_OSNMA) .refl
  have hon : t.osnmaOn = s.osnmaOn := State.osnmaOn_of_osnma hkeeps rfl
  have hstate : t.osnmaState = ofBool s.osnmaOn % 4 := State.fld_setFld _ Reg.GNS_OSNMA 30 2 _ (by decide)
  refine t.osnmaState_showOsnma.trans ?_
  rw [hon, hstate]
  cases s.osnmaOn <;> rfl

theorem State.osnmaCleared_frame (s : State) :
    (s.setFld Reg.GNS_OSNMA 30 2 (ofBool s.osnmaOn)).showOsnma =
      { s with regs := ((s.setFld Reg.GNS_OSNMA 30 2 (ofBool s.osnmaOn)).showOsnma).regs } := by
  have hframe := (s.setFld Reg.GNS_OSNMA 30 2 (ofBool s.osnmaOn)).showOsnma_frame
  rw [State.SameButRaises, State.raised_showOsnma] at hframe
  exact hframe

/-- Settles O47: the solution through the state in which it is judged, OSNMA between two refreshes of its register, the rest
by their branches. -/
theorem navigationAndOsnma : Obligations.NavigationAndOsnma := by
  refine ⟨fun s sol m x hruns hfw hnear => ?_, fun s sol h => ?_, fun s sol t ht => ?_, fun flags second clearT t hflags ht => ?_,
    fun s l q e hpulse hruns hdue => ?_, fun s ag ho hlen => ?_, fun s ag ho => ?_, fun s ag v ho hpm htsys hmask => ?_,
    fun s ag v ho hv hop hmode => ?_, fun s ag v x y z ho hv hop hmode hpos => ?_, fun s happly hmode => ?_,
    fun s ag v ho hv hop hmode => ?_, fun s ag v ho hv hop halert => ?_, fun s hruns hfw hon => ?_,
    fun s sv adkd k message tag hruns hfw hon hunits htime halert => ?_,
    fun s key c g hruns hfw hon hunits htime halert hchain haccepts htags hadkd hverify => ?_,
    fun s key c g hruns hfw hon hunits htime halert hchain haccepts htags hadkd hverify hauth => ?_,
    fun s k key hruns hfw hon hunits htime halert hrefused => ?_⟩
  · have hexec : exec (.solution sol) s = .next (s.solve sol) := congrArg Host.Outcome.next (if_pos ⟨hruns, hfw, by rw [hnear]; rfl⟩)
    have hspec := State.solve_spec hnear sol
    rw [s.solInteg_eq sol, State.nextPulse_ne] at hspec
    obtain ⟨hty, hinteg, hcount, hvalid, hfix, hseq, hpulse⟩ := hspec
    exact ⟨_, hexec, hty, hinteg, hcount, hvalid, hfix, hseq, hpulse⟩
  · refine if_pos ?_
    rcases h with h | h
    · exact .inl h
    · exact .inr (.inr h)
  · obtain ⟨husable, hconst, hout⟩ := State.mem_usedSats ht
    obtain ⟨hdata, hmask, hown⟩ := State.data_of_usable husable
    refine ⟨hdata, of_decide_eq_true hmask, hown, hconst, ?_⟩
    have hexcl : s.exclusion sol t = 0 := by
      rw [State.exclusion, if_neg (by simp [hdata, hmask]), if_neg (by simp [hown]),
        if_neg (by simpa using fun x hx => hconst (t.gnss, x) hx rfl), if_neg hout]
    rw [State.useOf, if_neg (by simp [hdata]), if_neg (by simp [hmask]), if_neg (by simp [hexcl]), if_pos husable]
  · simp [integrityOf, hflags, ht]
  · have hframe := State.gppsPulse_frame (s.pulseSent l q)
    refine ⟨_, exec_epochPulse_of_due hpulse hruns hdue, ?_, ?_, ?_, ?_, ?_⟩
    · rw [hframe]
      rfl
    · rw [hframe]
      exact s.flag_pulseSent l q
    · rw [hframe]
      exact .of_regs (s.keepsRegs_pulseSent l q)
    · rw [hframe]
      rfl
    · rw [State.gpps_gppsPulse, State.flag, s.keepsRegs_pulseSent l q _ (by decide), State.fld,
        s.keepsRegs_pulseSent l q _ (by decide)]
      rfl
  · obtain ⟨m, hm⟩ := s.fixLatched_frame
    refine ⟨_, exec_fixRead_of_opens ho, fun n hn => ?_, fun n hn => ?_, ?_, ?_⟩
    · rw [State.rd_complete]
      exact State.rd_fixLatched hlen hn
    · rw [State.rd_complete, State.rd_complete]
      exact s.rd_fixLatched_table n hn
    · exact congrArg Completion.data (State.rd_fixLatched (n := 0) hlen (by decide))
    · rw [hm]
      rfl
  · exact ⟨_, exec_qerrRead_of_opens ho, rfl, rfl, fun off => rfl, rfl⟩
  · refine congrArg Host.Outcome.next ((State.writeAccess_opens _ _ _ _ _ ho).trans ?_)
    rw [State.writeNavCtl, if_neg (by simp [hpm, htsys, hmask])]
    rfl
  · have hexec := exec_surveyRestart_of_opens ho hv hop
    rw [State.surveyRestart_of_survey hmode] at hexec
    exact ⟨_, hexec, rfl, State.fld_setFld _ Reg.GNS_NAV_STAT 22 2 1 (by decide),
      State.keepsRegs.setFld (o := Reg.GNS_NAV_STAT) (.of_regs .refl)⟩
  · rw [exec_applyPos_of_opens ho hv hop, State.applyPos_of_fixed hmode hpos]
  · unfold State.navMode
    dsimp only
    rw [hmode]
    by_cases hp : 2 = s.nav.pmode
    · rw [if_pos hp]
      exact ⟨if_pos ⟨happly, rfl⟩, rfl⟩
    · rw [if_neg hp]
      exact ⟨if_pos ⟨happly, rfl⟩, rfl⟩
  · rw [exec_applyPos_of_opens ho hv hop, State.applyPos, if_pos (.inl hmode)]
    rfl
  · have hexec := exec_osnmaReset_of_opens ho hv hop
    rw [State.osnmaReset, if_pos (show s.osnmaState = osnmaAlert from halert)] at hexec
    exact ⟨_, hexec, s.fld_osnmaCleared, State.keepsRegs.showOsnma (State.keepsRegs.setFld (o := Reg.GNS_OSNMA) .refl) (by simp),
      s.osnmaCleared_frame⟩
  · have hexec := exec_osnmaMessage_of_runs hruns hfw .alert
    rw [State.osnma, if_pos (State.osnmaOn_showOsnma hon), ← State.alerted] at hexec
    refine ⟨_, hexec, ?_, ?_, ?_⟩
    · rw [State.nav_showOsnma]
      rfl
    · have hon' : s.showOsnma.alerted.osnmaOn = true :=
        (State.osnmaOn_of_osnma s.showOsnma.keepsRegs_alerted rfl).trans (State.osnmaOn_showOsnma hon)
      refine (State.osnmaState_showOsnma _).trans ?_
      rw [hon', State.osnmaState_alerted]
      rfl
    · rw [State.raised_showOsnma, State.alerted]
      exact congrArg (· ++ _) s.raised_showOsnma
  · have hexec := exec_osnmaMessage_of_runs hruns hfw (.tag sv adkd k message tag)
    rw [State.osnma_tag_of_active hon hunits htime halert] at hexec
    refine ⟨_, hexec, ?_, ?_⟩
    · rw [State.nav_showOsnma]
      dsimp only
      rw [State.nav_showOsnma]
    · rw [State.raised_showOsnma]
      exact s.raised_showOsnma
  · have hexec := exec_osnmaMessage_of_runs hruns hfw (.key g.subframe key)
    rw [State.osnma_key_of_active hon hunits htime halert, State.teslaKey_of_accepted (by rw [State.nav_showOsnma]; exact hchain)
      haccepts (by rw [State.nav_showOsnma]; exact htags), State.checkTag, if_pos hverify, State.tagFailed,
      if_neg (by simp [hadkd])] at hexec
    refine ⟨_, hexec, ?_, ?_, ?_, ?_⟩
    · rw [State.satAuth_showOsnma]
      exact State.satAuth_setAuth ..
    · rw [State.raised_showOsnma]
      exact congrArg (· ++ _) s.raised_showOsnma
    · rw [State.nav_showOsnma]
      rfl
    · rw [State.fld_of_osnma (State.keepsRegs_showOsnma _) 0 32 (by decide), State.fld_raise]
      refine (State.fld_bump _ Reg.GNS_CNT_TAGFAIL 0 32 1 (by decide) (by decide)).trans ?_
      exact congrArg (fun n => min (2 ^ 32 - 1) (n + 1)) (State.fld_of_osnma s.keepsRegs_showOsnma 0 32 (by decide))
  · have hexec := exec_osnmaMessage_of_runs hruns hfw (.key g.subframe key)
    rw [State.osnma_key_of_active hon hunits htime halert, State.teslaKey_of_accepted (by rw [State.nav_showOsnma]; exact hchain)
      haccepts (by rw [State.nav_showOsnma]; exact htags), State.checkTag, if_neg (by simp [hverify]),
      if_neg (by simp [hadkd]), if_pos ⟨hadkd, fun h => hauth ((s.satAuth_showOsnma g.sv).symm.trans h)⟩] at hexec
    refine ⟨_, hexec, ?_, ?_⟩
    · rw [State.satAuth_showOsnma]
      exact State.satAuth_setAuth ..
    · rw [State.raised_showOsnma]
      exact s.raised_showOsnma
  · have hexec := exec_osnmaMessage_of_runs hruns hfw (.key k key)
    rw [State.osnma_key_of_active hon hunits htime halert, State.teslaKey_of_refused (by
      intro c hc
      rw [State.nav_showOsnma] at hc
      exact hrefused c hc)] at hexec
    refine ⟨_, hexec, ?_, ?_⟩
    · rw [State.raised_showOsnma]
      exact congrArg (· ++ _) s.raised_showOsnma
    · rw [State.nav_showOsnma]
      exact congrArg (fun n : NavState => { n with tags := n.tags.filter fun g => !(g.subframe == k) }) s.nav_showOsnma

end Sys2Proof.Machine
end

section
/-!
Graver's channels and units: what a read returns after a write, and what the steps of a capture keep of each channel.
-/
namespace Sys2Proof.Machine

/-! ### Channels and units -/

theorem State.grvCh_eq_sparseGet (s : State) (n : Nat) :
    s.grvCh n = sparseGet (fun _ => GrvChannel.reset) s.grv.channels n := by
  rw [State.grvCh]
  induction s.grv.channels with
  | nil => rfl
  | cons e m ih =>
    rw [List.find?_cons, sparseGet]
    by_cases h : e.1 = n
    · simp [h]
    · rw [show (e.1 == n) = false by simpa using h, if_neg (Ne.symm h)]
      exact ih

theorem State.grvCh_setGrvCh_same (s : State) (n : Nat) (v : GrvChannel) : (s.setGrvCh n v).grvCh n = v := by
  rw [State.grvCh_eq_sparseGet, State.setGrvCh, sparseGet_set, if_pos rfl]

theorem State.grvCh_setGrvCh_ne (s : State) {n d : Nat} (v : GrvChannel) (h : d ≠ n) : (s.setGrvCh n v).grvCh d = s.grvCh d := by
  rw [State.grvCh_eq_sparseGet, State.setGrvCh, sparseGet_set, if_neg h, State.grvCh_eq_sparseGet]

theorem State.grvUnit_eq_sparseGet (s : State) (k : Nat) :
    s.grvUnit k = sparseGet (fun _ => GrvUnit.reset) s.grv.units k := by
  rw [State.grvUnit]
  induction s.grv.units with
  | nil => rfl
  | cons e m ih =>
    rw [List.find?_cons, sparseGet]
    by_cases h : e.1 = k
    · simp [h]
    · rw [show (e.1 == k) = false by simpa using h, if_neg (Ne.symm h)]
      exact ih

theorem State.grvUnit_setGrvUnit_same (s : State) (k : Nat) (v : GrvUnit) : (s.setGrvUnit k v).grvUnit k = v := by
  rw [State.grvUnit_eq_sparseGet, State.setGrvUnit, sparseGet_set, if_pos rfl]

theorem State.grv_sticky (s : State) (o en i src : Nat) (w x : Word) : (s.sticky o en i src w x).grv = s.grv := by
  rw [State.SameButRaises.sticky (State.SameButRaises.refl (s := s))]

theorem State.grv_grvSticky (s : State) (bit : Nat) : (s.grvSticky bit).grv = s.grv := s.grv_sticky ..

theorem State.grvCh_grvSticky (s : State) (bit n : Nat) : (s.grvSticky bit).grvCh n = s.grvCh n := by
  rw [State.grvCh, s.grv_grvSticky, State.grvCh]

theorem State.flag_grvSticky (s : State) {bit : Nat} (h : bit < 32) : (s.grvSticky bit).flag Reg.GRV_STICKY bit = true :=
  State.flag_sticky h

/-! ### What a step keeps of one channel -/

/-- The second state has the channel, its registers and its time base as the first. -/
structure State.KeepsChannel (d : Nat) (s t : State) : Prop where
  channel : t.grvCh d = s.grvCh d
  regs : s.keepsRegs t [Reg.GRV_STICKY]
  base : ∀ lo, t.grvBase lo = s.grvBase lo
  cpm : t.cpm = s.cpm

namespace State.KeepsChannel

variable {d : Nat} {s t u : State}

theorem refl : s.KeepsChannel d s := ⟨rfl, .refl, fun _ => rfl, rfl⟩

theorem trans (h : KeepsChannel d s t) (h' : KeepsChannel d t u) : KeepsChannel d s u :=
  ⟨h'.channel.trans h.channel, h.regs.trans h'.regs, fun lo => (h'.base lo).trans (h.base lo), h'.cpm.trans h.cpm⟩

theorem setGrvCh (h : KeepsChannel d s t) {n : Nat} (v : GrvChannel) (hd : d ≠ n) : KeepsChannel d s (t.setGrvCh n v) :=
  h.trans ⟨t.grvCh_setGrvCh_ne v hd, .of_regs .refl, fun _ => rfl, rfl⟩

theorem setGrvUnit (h : KeepsChannel d s t) (k : Nat) (v : GrvUnit) : KeepsChannel d s (t.setGrvUnit k v) :=
  h.trans ⟨rfl, .of_regs .refl, fun _ => rfl, rfl⟩

theorem grvSticky (h : KeepsChannel d s t) (bit : Nat) : KeepsChannel d s (t.grvSticky bit) := by
  have hframe : t.SameButRaises (t.grvSticky bit) := .sticky .refl
  refine h.trans ⟨t.grvCh_grvSticky bit d, .sticky .refl, fun lo => ?_, ?_⟩
  · rw [State.grvBase, hframe, State.grvBase]
    rfl
  · rw [hframe]

theorem disarm (h : KeepsChannel d s t) (o : CmpOwner) : KeepsChannel d s (t.disarm o) :=
  h.trans ⟨rfl, .of_regs .refl, fun _ => rfl, rfl⟩

theorem ite {c : Prop} [Decidable c] (ht : KeepsChannel d s t) (hu : KeepsChannel d s u) : KeepsChannel d s (if c then t else u) := by
  split
  · exact ht
  · exact hu

theorem foldl {α : Type} {f : State → α → State} {as : List α} (h : KeepsChannel d s t)
    (hf : ∀ a ∈ as, ∀ v, KeepsChannel d s v → KeepsChannel d s (f v a)) : KeepsChannel d s (as.foldl f t) :=
  List.foldlRecOn as f h fun v hv a ha => hf a ha v hv

theorem grvDone (h : KeepsChannel d s t) {n : Nat} (hd : d ≠ n) : KeepsChannel d s (t.grvDone n) :=
  (((h.setGrvCh _ hd).disarm _).disarm _).grvSticky 4

theorem unitClose (h : KeepsChannel d s t) (k : Nat) : KeepsChannel d s (t.unitClose k) :=
  have hfree : KeepsChannel d s { t with free := t.free + 4 } := h.trans ⟨rfl, .of_regs .refl, fun _ => rfl, rfl⟩
  (hfree.setGrvUnit k _).grvSticky 5

theorem unitReach (h : KeepsChannel d s t) (k at_ : Nat) : KeepsChannel d s (t.unitReach k at_) := by
  unfold State.unitReach
  dsimp only
  exact .ite h (.ite (h.unitClose k) (((h.unitClose k).setGrvUnit k _).unitClose k))

theorem unitTake (h : KeepsChannel d s t) (k at_ : Nat) (x : Option (Int × Bool × Option Nat)) :
    KeepsChannel d s (t.unitTake k at_ x) := by
  unfold State.unitTake
  exact .ite h ((h.unitReach k at_).setGrvUnit k _)

theorem unitsTake (h : KeepsChannel d s t) (n at_ : Nat) (x : Option (Int × Bool × Option Nat)) :
    KeepsChannel d s (t.unitsTake n at_ x) := by
  unfold State.unitsTake
  refine h.foldl fun k _ v hv => ?_
  split
  · exact hv.unitTake k at_ x
  · exact hv

theorem withPair (h : KeepsChannel d s t) (p : PairState) : KeepsChannel d s { t with pair := p } :=
  h.trans ⟨rfl, .of_regs .refl, fun _ => rfl, rfl⟩

theorem pulseLabel (h : KeepsChannel d s t) (label : Option (Nat × Nat)) (r : CT96) :
    KeepsChannel d s (
      let t := { t with pair := { t.pair with rise := none, pulse := label } }
      match label with
      | none => t
      | some (k, w) =>
        { t with pair := { t.pair with
          queue := if t.flag Reg.PAR_STATUS 24 then t.pair.queue ++ [.timex k w r] else t.pair.queue
          stamps := (k, w, r) :: t.pair.stamps.take 1023 } }) := by
  cases label with
  | none => exact h.withPair _
  | some _ => exact (h.withPair _).withPair _

/-- Read as a lemma, so that the kernel need not look into the rising edge's times. -/
theorem edgeCases {n : State} {f : CT96 → State} (o : Option CT96) (hn : KeepsChannel d s n)
    (hf : ∀ a, KeepsChannel d s (f a)) : KeepsChannel d s (match o with | none => n | some a => f a) := by
  cases o with
  | none => exact hn
  | some a => exact hf a

theorem peerEdge (h : KeepsChannel d s t) (falling : Bool) (stamp : CT96) : KeepsChannel d s (t.peerEdge falling stamp) := by
  unfold State.peerEdge
  exact .ite h (.ite (h.withPair _) (edgeCases _ h fun r => h.pulseLabel _ r))

end State.KeepsChannel

end Sys2Proof.Machine
end
section
/-!
Edges and gates (R337 to R345): an edge is lost or captured, a captured one is pushed into the FIFO, and a gate opens and closes.
-/
namespace Sys2Proof.Machine

/-! ### Edges -/

/-- The divider of an edge's channel has passed it. -/
def State.edgePassed (s : State) (n : Nat) : State := s.setGrvCh n { s.grvCh n with divided := 0 }

/-- The edge lies within 2 ns of the channel's last. -/
def State.edgeDead (s : State) (n c p : Nat) : Bool :=
  match (s.grvCh n).last with
  | some l => decide (l ≤ s.grvRaw c p) && decide (s.grvRaw c p < l + 2 * 2 ^ 32)
  | none => false

/-- The captures already taken in the tick. -/
def State.ticksUsed (s : State) : Nat := if s.grv.tick.1 = (s.replica replicaGraver).count then s.grv.tick.2 else 0

/-- The capture counted in its tick. -/
def State.tickCounted (s : State) : State :=
  { s with grv := { s.grv with tick := ((s.replica replicaGraver).count, s.ticksUsed + 1) } }

/-- The state in which an edge is captured. -/
def State.edgeReady (s : State) (n : Nat) : State := (s.edgePassed n).tickCounted

theorem exec_edgeStamp_of_edge {s : State} {n : Fin 20} {falling : Bool} {c : Fin 3} {p : Fin 64}
    (harm : s.grvArmed n.val = true) (hin : c.val * 64 + p.val < 160) (hrise : s.grvSlope n.val = 0 → falling = false)
    (hfall : s.grvSlope n.val = 1 → falling = true) (hdiv : n.val < 12 ∨ 15 < n.val) :
    exec (.edgeStamp n falling c p) s = .next (
      if s.edgeDead n.val c.val p.val then (s.edgePassed n.val).grvLose n.val 2
        (ct96ToFrac ((s.edgePassed n.val).grvStamp n.val c.val p.val))
        ((s.edgePassed n.val).gated n.val ((s.edgePassed n.val).grvStamp n.val c.val p.val)).1
      else if 2 ≤ s.ticksUsed then (s.edgePassed n.val).grvLose n.val 3
        (ct96ToFrac ((s.edgePassed n.val).grvStamp n.val c.val p.val))
        ((s.edgePassed n.val).gated n.val ((s.edgePassed n.val).grvStamp n.val c.val p.val)).1
      else (s.edgeReady n.val).grvCapture n.val falling c.val p.val) := by
  refine congrArg Host.Outcome.next ((if_neg ?_).trans (if_neg ?_))
  · rintro (h | h | ⟨h, h'⟩ | ⟨h, h'⟩)
    · omega
    · simp [harm] at h
    · simp [hrise h] at h'
    · simp [hfall h] at h'
  · rw [if_neg (by omega)]
    omega

theorem State.edgeDead_eq_true {s : State} {n c p l : Nat} (hlast : (s.grvCh n).last = some l) (hle : l ≤ s.grvRaw c p)
    (hlt : s.grvRaw c p < l + 2 * 2 ^ 32) : s.edgeDead n c p = true := by
  rw [State.edgeDead, hlast]
  exact Bool.and_eq_true_iff.mpr ⟨decide_eq_true hle, decide_eq_true hlt⟩

theorem State.edgeDead_eq_false {s : State} {n c p : Nat}
    (h : ∀ l, (s.grvCh n).last = some l → s.grvRaw c p < l ∨ l + 2 * 2 ^ 32 ≤ s.grvRaw c p) : s.edgeDead n c p = false := by
  rw [State.edgeDead]
  cases hlast : (s.grvCh n).last with
  | none => rfl
  | some l =>
    rw [Bool.and_eq_false_iff, decide_eq_false_iff_not, decide_eq_false_iff_not]
    exact (h l hlast).imp Nat.not_le.mpr Nat.not_lt.mpr

theorem State.ticksUsed_lt {s : State} (h : s.grv.tick.1 = (s.replica replicaGraver).count → s.grv.tick.2 < 2) : ¬ 2 ≤ s.ticksUsed := by
  rw [State.ticksUsed]
  split
  · next heq => exact Nat.not_le.mpr (h heq)
  · decide

/-! ### A capture lost -/

theorem State.flag_grvLose (s : State) {n bit at_ : Nat} (gate : Bool) (h : bit < 32) :
    (s.grvLose n bit at_ gate).flag Reg.GRV_STICKY bit = true := State.flag_grvSticky _ h

/-- The state in which a lost capture is counted and leaves GAP. -/
def State.gapMarked (s : State) (n lo : Nat) : State :=
  let t := s.bump (Reg.GRV_CH_CNT n) lo 16
  t.setGrvCh n { t.grvCh n with gap := true }

theorem State.grvLose_keeps (s : State) (n bit at_ : Nat) (gate : Bool) :
    (s.gapMarked n (if bit = 2 then 16 else 0)).KeepsChannel n (s.grvLose n bit at_ gate) :=
  .grvSticky (.ite (State.KeepsChannel.unitsTake .refl ..) .refl) bit

/-- A lost capture: the FIFO stays, GAP is set, and the count of its kind rises. -/
theorem State.grvLose_spec (s : State) (n bit at_ : Nat) (gate : Bool) :
    ((s.grvLose n bit at_ gate).grvCh n).fifo = (s.grvCh n).fifo ∧ ((s.grvLose n bit at_ gate).grvCh n).gap = true ∧
      (s.grvLose n bit at_ gate).fld (Reg.GRV_CH_CNT n) (if bit = 2 then 16 else 0) 16 =
        min (2 ^ 16 - 1) (s.fld (Reg.GRV_CH_CNT n) (if bit = 2 then 16 else 0) 16 + 1) := by
  have hkeeps := s.grvLose_keeps n bit at_ gate
  have hch : (s.gapMarked n (if bit = 2 then 16 else 0)).grvCh n = { s.grvCh n with gap := true } := State.grvCh_setGrvCh_same ..
  rw [hkeeps.channel, hch]
  refine ⟨rfl, rfl, ?_⟩
  rw [State.fld, hkeeps.regs _ (by simp only [Reg.GRV_CH_CNT, Reg.GRV_STICKY, List.mem_singleton]; omega)]
  exact s.fld_bump (Reg.GRV_CH_CNT n) _ 16 1 (by split <;> decide) (by decide)

/-! ### An edge captured -/

/-- The channel of an edge that its gate lets through, as it is pushed. -/
def State.edgeTaken (s : State) (n c p : Nat) : State :=
  let t := s.setGrvCh n { s.grvCh n with last := some (s.grvRaw c p) }
  t.setGrvCh n { t.grvCh n with taken := (t.grvCh n).taken + 1 }

theorem State.grvCh_edgeTaken (s : State) (n c p : Nat) :
    (s.edgeTaken n c p).grvCh n = { s.grvCh n with last := some (s.grvRaw c p), taken := (s.grvCh n).taken + 1 } := by
  rw [State.edgeTaken, State.grvCh_setGrvCh_same, State.grvCh_setGrvCh_same]

theorem State.grvCh_edgeTaken_ne (s : State) {n d : Nat} (c p : Nat) (h : d ≠ n) : (s.edgeTaken n c p).grvCh d = s.grvCh d := by
  rw [State.edgeTaken, State.grvCh_setGrvCh_ne _ _ h, State.grvCh_setGrvCh_ne _ _ h]

/-- What a captured edge adds after the push: its units, the peer's pulse, and SUSPECT. -/
def State.edgeReported (s : State) (n : Nat) (falling suspect lo : Bool) (stamp : CT96) (interval : Option Nat) : State :=
  let t := s.unitsTake n (ct96ToFrac stamp) (some ((ct96ToFrac stamp : Int), suspect, interval))
  let t := if lo then t else { t with grv := { t.grv with fresh := true } }
  let t := if n = 17 then t.peerEdge falling stamp else t
  if suspect then t.grvSticky 6 else t

theorem State.edgeReported_keeps (s : State) (d n : Nat) (falling suspect lo : Bool) (stamp : CT96) (interval : Option Nat) :
    s.KeepsChannel d (s.edgeReported n falling suspect lo stamp interval) := by
  unfold State.edgeReported
  extract_lets t _ u v
  have ht : s.KeepsChannel d t := .unitsTake .refl ..
  have hu : s.KeepsChannel d u := .ite ht (ht.trans ⟨rfl, .of_regs .refl, fun _ => rfl, rfl⟩)
  have hv : s.KeepsChannel d v := .ite (hu.peerEdge ..) hu
  exact .ite (hv.grvSticky 6) hv

theorem State.grvCapture_of_taken {s : State} {n c p : Nat} {stop : Bool} (falling : Bool)
    (h : s.gated n (s.grvStamp n c p) = (true, stop)) :
    s.grvCapture n falling c p =
      (if stop then (((s.edgeTaken n c p).grvPush n (s.grvStamp n c p) falling (s.grvSuspect n)).edgeReported n falling
        (s.grvSuspect n) (s.onLo n) (s.grvStamp n c p) (s.grvInterval n)).grvDone n
      else ((s.edgeTaken n c p).grvPush n (s.grvStamp n c p) falling (s.grvSuspect n)).edgeReported n falling (s.grvSuspect n)
        (s.onLo n) (s.grvStamp n c p) (s.grvInterval n)) := by
  unfold State.grvCapture
  dsimp only
  rw [h]
  rfl

/-- The channel as an edge leaves it to the push. -/
def GrvChannel.reached (c : GrvChannel) (raw : Nat) : GrvChannel :=
  { c with divided := 0, last := some raw, taken := c.taken + 1 }

/-- The flags of a record of an edge of a channel. -/
def GrvChannel.recordFlags (c : GrvChannel) (falling suspect : Bool) : Word :=
  BitVec.ofNat 32 (2 ^ 31 + ofBool suspect * 2 ^ 30 + ofBool c.gap * 2 ^ 29 + ofBool falling * 2 ^ 28 + c.gen % 16 * 2 ^ 24 + c.seq)

theorem GrvChannel.recordFlags_reached (c : GrvChannel) (raw : Nat) (falling suspect : Bool) :
    (c.reached raw).recordFlags falling suspect = c.recordFlags falling suspect := rfl

/-- The channel after a push that keeps its record. -/
def GrvChannel.pushed (c : GrvChannel) (stamp : CT96) (flags : Word) (interval : Option Nat) : GrvChannel :=
  { c with seq := (c.seq + 1) % 65536, fifo := c.fifo ++ [⟨stamp, flags, interval⟩], gap := false }

theorem State.grvPush_of_room {s : State} {n : Nat} {stamp : CT96} {falling suspect : Bool}
    (hkeep : (s.grvCh n).seq % 2 ^ s.fld (Reg.GRV_CH_CTL n) 12 4 = 0) (hroom : (s.grvCh n).fifo.length < 4096) :
    ∃ t, t = s.setGrvCh n ((s.grvCh n).pushed stamp ((s.grvCh n).recordFlags falling suspect) (s.grvInterval n)) ∧
      s.grvPush n stamp falling suspect = if (s.grvCh n).fifo.length + 1 = 3072 then t.grvSticky 1 else t := by
  refine ⟨_, rfl, ?_⟩
  exact (if_neg (by simp [hkeep])).trans (if_neg (Nat.not_le.mpr hroom))

theorem State.seq_grvPush (s : State) (n : Nat) (stamp : CT96) (falling suspect : Bool) :
    ((s.grvPush n stamp falling suspect).grvCh n).seq = ((s.grvCh n).seq + 1) % 65536 := by
  unfold State.grvPush
  extract_lets c keep c' flags t
  have ht : (t.grvCh n).seq = ((s.grvCh n).seq + 1) % 65536 := by rw [State.grvCh_setGrvCh_same]
  split
  · rw [State.grvCh_setGrvCh_same]
  · split
    · rw [State.grvCh_grvSticky]
      exact congrArg GrvChannel.seq (State.grvCh_setGrvCh_same ..)
    · split
      · rw [State.grvCh_grvSticky, ht]
      · exact ht

theorem State.grvCh_edgeReady (s : State) (n : Nat) : (s.edgeReady n).grvCh n = { s.grvCh n with divided := 0 } :=
  State.grvCh_setGrvCh_same ..

theorem State.grvCh_edgeReady_ne (s : State) {n d : Nat} (h : d ≠ n) : (s.edgeReady n).grvCh d = s.grvCh d :=
  State.grvCh_setGrvCh_ne _ _ h

theorem State.grvStamp_edgeReady (s : State) (n c p : Nat) : (s.edgeReady n).grvStamp n c p = s.grvStamp n c p := by
  have hbase : (s.edgeReady n).grvBase ((s.edgeReady n).onLo n) = s.grvBase (s.onLo n) := rfl
  have hofs : (s.edgeReady n).rd (Reg.GRV_CH_OFS n) = s.rd (Reg.GRV_CH_OFS n) := rfl
  rw [State.grvStamp, s.grvCh_edgeReady, hbase, hofs, State.grvStamp]

theorem State.grvSuspect_edgeReady (s : State) (n : Nat) : (s.edgeReady n).grvSuspect n = s.grvSuspect n := by
  have hsuspect : (s.edgeReady n).suspect replicaGraver = s.suspect replicaGraver := rfl
  have hlo : (s.edgeReady n).onLo n = s.onLo n := rfl
  rw [State.grvSuspect, s.grvCh_edgeReady, hlo, hsuspect, State.grvSuspect]

theorem State.gated_of_free {s : State} {n : Nat} (stamp : CT96) (h : s.grvMode n = 0) : s.gated n stamp = (true, false) := if_pos h

theorem State.gated_of_counted {s : State} {n : Nat} (stamp : CT96) (h : s.grvMode n = 4)
    (htaken : s.fld (Reg.GRV_CH_CTL n) 0 12 ≤ (s.grvCh n).taken) : s.gated n stamp = (true, true) := by
  unfold State.gated
  dsimp only
  rw [h, if_neg (by decide), if_neg (by decide), if_neg (by decide), if_pos rfl, decide_eq_true htaken]

/-- The state in which a captured edge is pushed. -/
def State.edgePushing (s : State) (n c p : Nat) : State := (s.edgeReady n).edgeTaken n c p

theorem State.grvCh_edgePushing (s : State) (n c p : Nat) :
    (s.edgePushing n c p).grvCh n = (s.grvCh n).reached (s.grvRaw c p) := by
  rw [State.edgePushing, State.grvCh_edgeTaken, s.grvCh_edgeReady]
  rfl

theorem State.edgePushing_frame (s : State) (n c p : Nat) : ∃ g, s.edgePushing n c p = { s with grv := g } := by
  rw [State.edgePushing, State.edgeReady, State.tickCounted, State.edgePassed, State.edgeTaken, State.setGrvCh, State.setGrvCh,
    State.setGrvCh]
  exact ⟨_, rfl⟩

theorem State.fld_edgePushing (s : State) (n c p o lo w : Nat) : (s.edgePushing n c p).fld o lo w = s.fld o lo w := by
  obtain ⟨g, hg⟩ := s.edgePushing_frame n c p
  rw [hg]
  rfl

theorem State.grvInterval_edgePushing (s : State) (n c p : Nat) : (s.edgePushing n c p).grvInterval n = s.grvInterval n := by
  obtain ⟨g, hg⟩ := s.edgePushing_frame n c p
  rw [hg]
  rfl

theorem State.grvCh_edgePushing_ne (s : State) {n d : Nat} (c p : Nat) (h : d ≠ n) : (s.edgePushing n c p).grvCh d = s.grvCh d := by
  rw [State.edgePushing, State.grvCh_edgeTaken_ne _ _ _ h, s.grvCh_edgeReady_ne h]

/-- An edge captured: pushed, then reported, then the end of a measurement that it completes. -/
theorem State.grvCapture_edgeReady {s : State} {n c p : Nat} {stop : Bool} (falling : Bool)
    (h : (s.edgeReady n).gated n (s.grvStamp n c p) = (true, stop)) :
    ∃ t, (∀ d, ((s.edgePushing n c p).grvPush n (s.grvStamp n c p) falling (s.grvSuspect n)).KeepsChannel d t) ∧
      (s.edgeReady n).grvCapture n falling c p = if stop then t.grvDone n else t := by
  have hcapture := State.grvCapture_of_taken (s := s.edgeReady n) (c := c) (p := p) falling
    (by rw [s.grvStamp_edgeReady]; exact h)
  rw [s.grvStamp_edgeReady, s.grvSuspect_edgeReady] at hcapture
  exact ⟨_, fun d => State.edgeReported_keeps .., hcapture⟩

/-! ### Gates -/

/-- A gate edge for a channel reaches the state of no other. -/
theorem State.KeepsChannel.gateChannel {d : Nat} {s t : State} (h : s.KeepsChannel d t) (g : Nat) {n : Nat} (falling : Bool)
    (phase : Nat) (hd : d ≠ n) : s.KeepsChannel d (t.gateChannel g n falling phase) := by
  unfold State.gateChannel
  extract_lets c m stamp opens u
  have hu : s.KeepsChannel d u := h.setGrvCh _ hd
  refine .ite h ?_
  split
  · exact .ite h (h.setGrvCh _ hd)
  · exact .ite h (.ite (hu.grvDone hd) hu)

theorem State.keepsChannel_foldl_gateChannel {n : Nat} (g : Nat) (falling : Bool) (phase : Nat) {s : State} {l : List Nat}
    (hnodup : l.Nodup) (hn : n ∈ l) :
    ∃ u, s.KeepsChannel n u ∧ (u.gateChannel g n falling phase).KeepsChannel n
      (l.foldl (fun u n => u.gateChannel g n falling phase) s) := by
  obtain ⟨a, b, rfl⟩ := List.append_of_mem hn
  rw [List.nodup_append, List.nodup_cons] at hnodup
  obtain ⟨-, ⟨hb, -⟩, hdis⟩ := hnodup
  rw [List.foldl_append, List.foldl_cons]
  refine ⟨_, State.KeepsChannel.foldl .refl fun k hk v hv => hv.gateChannel g falling phase ?_,
    State.KeepsChannel.foldl .refl fun k hk v hv => hv.gateChannel g falling phase ?_⟩
  · exact (hdis k hk n (List.mem_cons_self ..)).symm
  · exact fun h => hb (h ▸ hk)

/-- A gate edge for a channel that its gate controls in mode 1. -/
theorem State.grvCh_gateChannel {s : State} {g n : Nat} {falling : Bool} {phase : Nat} (hwaits : s.grvWaits n = true)
    (hmode : s.grvMode n = 1) (hgate : s.fld (Reg.GRV_CH_CTL n) 22 2 = g) :
    (s.gateChannel g n falling phase).grvCh n =
      if falling = s.flag (Reg.GRV_CH_CTL n) 21 then
        { s.grvCh n with opened := some (ct96OfFrac (s.grvBase (s.onLo n) + phase)), closed := none }
      else if (s.grvCh n).opened = none ∨ (s.grvCh n).closed ≠ none then s.grvCh n
      else { s.grvCh n with closed := some (ct96OfFrac (s.grvBase (s.onLo n) + phase)) } := by
  unfold State.gateChannel
  dsimp only
  rw [if_neg (by simp [hwaits, hmode, hgate])]
  by_cases hopen : falling = s.flag (Reg.GRV_CH_CTL n) 21
  · rw [if_pos hopen, if_pos (by simpa using hopen), if_neg (by simp [hmode]), State.grvCh_setGrvCh_same]
  · rw [if_neg hopen, if_neg (by simpa using hopen)]
    by_cases hshut : (s.grvCh n).opened = none ∨ (s.grvCh n).closed ≠ none
    · rw [if_pos hshut, if_pos (by simpa [Option.isSome_iff_ne_none] using hshut)]
    · rw [if_neg hshut, if_neg (by simpa [Option.isSome_iff_ne_none] using hshut), if_neg (by simp [hmode]),
        State.grvCh_setGrvCh_same]

section
variable {n : Nat} {s t : State} (h : s.KeepsChannel n t)
include h

theorem State.KeepsChannel.ctl : t.rd (Reg.GRV_CH_CTL n) = s.rd (Reg.GRV_CH_CTL n) :=
  h.regs _ (by simp only [Reg.GRV_CH_CTL, Reg.GRV_STICKY, List.mem_singleton]; omega)

theorem State.KeepsChannel.ctlFlag (i : Nat) : t.flag (Reg.GRV_CH_CTL n) i = s.flag (Reg.GRV_CH_CTL n) i := by
  rw [State.flag, h.ctl, State.flag]

theorem State.KeepsChannel.ctlFld (lo w : Nat) : t.fld (Reg.GRV_CH_CTL n) lo w = s.fld (Reg.GRV_CH_CTL n) lo w := by
  rw [State.fld, h.ctl, State.fld]

theorem State.KeepsChannel.onLo : t.onLo n = s.onLo n := by
  rw [State.onLo, State.grvHost, h.ctlFlag, h.ctlFlag, State.onLo, State.grvHost]

theorem State.KeepsChannel.waits : t.grvWaits n = s.grvWaits n := by
  have hpd : t.pdUp PD_TDC = s.pdUp PD_TDC := by
    rw [State.pdUp, State.pd, State.mode, State.fld, h.regs _ (by decide), State.fld, h.regs _ (by decide), h.cpm, State.pdUp,
      State.pd, State.mode, State.fld, State.fld]
  rw [State.grvWaits, h.channel, hpd, State.grvWaits]

end

theorem State.grvWaits_of_armed {s : State} {n : Nat} (h : s.grvArmed n = true) :
    s.grvWaits n = true ∧ s.pdUp PD_TDC = true ∧ s.pllReady pllF = true := by
  simp only [State.grvArmed, Bool.and_eq_true] at h
  obtain ⟨⟨⟨⟨harmed, hready⟩, -⟩, hpd⟩, hpll⟩ := h
  exact ⟨by rw [State.grvWaits, harmed, hready, hpd]; rfl, hpd, hpll⟩

/-- The gate input's last edge noted. -/
def State.gateNoted (s : State) (g phase : Nat) : State :=
  { s with grv := { s.grv with gates := sparseSet (fun _ => 0) s.grv.gates g
                                ((s.replica replicaGraver).count + phase * 2 ^ 16) } }

theorem exec_gateEdge_of_live {s : State} {g : Fin 4} {falling : Bool} {phase : Nat} (hpd : s.pdUp PD_TDC = true)
    (hpll : s.pllReady pllF = true) (hlive : ∀ e ∈ s.grv.gates, e.1 = g.val →
      (s.replica replicaGraver).count + phase * 2 ^ 16 < e.2 ∨ e.2 + 2 * 2 ^ 32 ≤ (s.replica replicaGraver).count + phase * 2 ^ 16) :
    exec (.gateEdge g falling phase) s =
      .next ((List.range 20).foldl (fun u n => u.gateChannel g.val n falling phase) (s.gateNoted g.val phase)) := by
  refine congrArg Host.Outcome.next (if_neg ?_)
  rw [hpd, hpll, Bool.not_true, Bool.or_false, Bool.false_or]
  split
  · next l hfind =>
    have hmem := hlive _ (List.mem_of_find?_eq_some hfind) (by simpa using List.find?_some hfind)
    rw [Bool.not_eq_true, Bool.and_eq_false_iff, decide_eq_false_iff_not, decide_eq_false_iff_not]
    exact hmem.imp Nat.not_le.mpr Nat.not_lt.mpr
  · decide

/-- A gate edge for an armed channel that the gate controls in mode 1. -/
theorem State.gateEdge_spec {s : State} {g : Fin 4} {falling : Bool} {phase : Nat} {n : Fin 20} (harm : s.grvArmed n.val = true)
    (hmode : s.grvMode n.val = 1) (hgate : s.fld (Reg.GRV_CH_CTL n.val) 22 2 = g.val) :
    ((List.range 20).foldl (fun u n => u.gateChannel g.val n falling phase) (s.gateNoted g.val phase)).grvCh n.val =
      if falling = s.flag (Reg.GRV_CH_CTL n.val) 21 then { s.grvCh n.val with
        opened := some (ct96OfFrac (s.grvBase (s.onLo n.val) + phase)), closed := none }
      else if (s.grvCh n.val).opened = none ∨ (s.grvCh n.val).closed ≠ none then s.grvCh n.val
      else { s.grvCh n.val with closed := some (ct96OfFrac (s.grvBase (s.onLo n.val) + phase)) } := by
  have hnoted : s.KeepsChannel n.val (s.gateNoted g.val phase) := ⟨rfl, .of_regs .refl, fun _ => rfl, rfl⟩
  obtain ⟨u, hbefore, hafter⟩ := State.keepsChannel_foldl_gateChannel (s := s.gateNoted g.val phase) g.val falling phase
    List.nodup_range (List.mem_range.mpr n.isLt)
  have hu := hnoted.trans hbefore
  obtain ⟨hwaits, -, -⟩ := State.grvWaits_of_armed harm
  rw [hafter.channel, State.grvCh_gateChannel (hu.waits.trans hwaits) ((hu.ctlFld 24 3).trans hmode) ((hu.ctlFld 22 2).trans hgate),
    hu.ctlFlag, hu.onLo, hu.base, hu.channel]

end Sys2Proof.Machine
end
section
/-!
Graver's registers (R338 to R353): the FIFO popped, channels controlled, thresholds, tables, the LO scale and the units.
-/
namespace Sys2Proof.Machine

/-! ### The FIFO popped -/

/-- The words that a pop latches. -/
def State.popWords (s : State) (r : StampRecord) : List Word :=
  [word96 r.stamp 0, word96 r.stamp 1, word96 r.stamp 2, s.popFlags r]

/-- The oldest record removed and latched. -/
def State.popped (s : State) (n : Nat) (r : StampRecord) (rs : List StampRecord) : State :=
  (s.setGrvCh n { s.grvCh n with fifo := rs }).wrWords (Reg.GRV_CH_POP_W n 0) (s.popWords r)

theorem State.grvPop_of_owner {s : State} {ag : Agent} {n : Nat} {r : StampRecord} {rs : List StampRecord}
    (hown : ownsGrv (s.grvHost n) ag = true) (hfifo : (s.grvCh n).fifo = r :: rs) :
    s.grvPop ag n = (word96 r.stamp 0, s.popped n r rs) := by
  unfold State.grvPop
  rw [if_neg (by simp [hown]), hfifo]
  rfl

theorem State.popped_frame (s : State) (n : Nat) (r : StampRecord) (rs : List StampRecord) :
    s.popped n r rs = { s.setGrvCh n { s.grvCh n with fifo := rs } with regs := (s.popped n r rs).regs } := by
  obtain ⟨m, hm⟩ := State.wrWords_eq_regs (s.setGrvCh n { s.grvCh n with fifo := rs }) (Reg.GRV_CH_POP_W n 0) (s.popWords r)
  rw [State.popped, hm]

theorem State.rd_popped (s : State) (n : Nat) (r : StampRecord) (rs : List StampRecord) {j : Nat} (hj : j < 4) :
    (s.popped n r rs).rd (Reg.GRV_CH_POP_W n j) = (s.popWords r)[j] := by
  have haddr : Reg.GRV_CH_POP_W n j = Reg.GRV_CH_POP_W n 0 + 4 * j := by simp only [Reg.GRV_CH_POP_W, Nat.mul_zero, Nat.add_zero]
  rw [haddr]
  exact State.rd_wrWords (s.popWords r) _ _ j hj

theorem State.keepsRegs_popped (s : State) (n : Nat) (r : StampRecord) (rs : List StampRecord) :
    s.keepsRegs (s.popped n r rs) ((List.range 4).map (Reg.GRV_CH_POP_W n)) :=
  State.keepsRegs.wrWords _ _ (.of_regs .refl) fun i hi =>
    List.mem_map.mpr ⟨i, List.mem_range.mpr hi, by simp only [Reg.GRV_CH_POP_W, Nat.mul_zero, Nat.add_zero]⟩

theorem State.grvCh_popped (s : State) (n d : Nat) (r : StampRecord) (rs : List StampRecord) :
    (s.popped n r rs).grvCh d = (s.setGrvCh n { s.grvCh n with fifo := rs }).grvCh d := by
  rw [s.popped_frame n r rs]
  rfl

/-- A pop with a record that passes parity. -/
theorem exec_fifoPop_of_good {s : State} {ag : Agent} {n : Fin 20} (ho : s.opens ag (Reg.GRV_CH_POP_W n.val 0) = true) :
    exec (.fifoPop ag n false) s = .next ((s.grvPop ag n.val).2.complete (.data (s.grvPop ag n.val).1)) :=
  congrArg Host.Outcome.next (State.readAccess_opens _ _ _ _ ho)

/-- A record with GAP set. -/
def StampRecord.gapped (r : StampRecord) : StampRecord := { r with flags := putBit r.flags 29 true }

/-- The oldest record discarded, GAP set in the next. -/
def State.spoiled (s : State) (n : Nat) (r : StampRecord) (rs : List StampRecord) : State :=
  (s.setGrvCh n { s.grvCh n with fifo := r.gapped :: rs }).bump (Reg.GRV_CH_CNT n) 0 16

theorem State.grvSpoiled_of_two {s : State} {n : Nat} {q r : StampRecord} {rs : List StampRecord}
    (hfifo : (s.grvCh n).fifo = q :: r :: rs) : s.grvSpoiled n = s.spoiled n r rs := by
  unfold State.grvSpoiled
  dsimp only
  rw [hfifo]
  rfl

theorem State.grvSpoiled_of_empty {s : State} {n : Nat} (hfifo : (s.grvCh n).fifo = []) : s.grvSpoiled n = s := by
  unfold State.grvSpoiled
  dsimp only
  rw [hfifo]

theorem State.grvCh_spoiled (s : State) (n : Nat) (r : StampRecord) (rs : List StampRecord) :
    (s.spoiled n r rs).grvCh n = { s.grvCh n with fifo := r.gapped :: rs } :=
  State.grvCh_setGrvCh_same ..

theorem State.grvHost_spoiled (s : State) (n : Nat) (r : StampRecord) (rs : List StampRecord) :
    (s.spoiled n r rs).grvHost n = s.grvHost n := by
  have hkeeps : s.keepsRegs (s.spoiled n r rs) [Reg.GRV_CH_CNT n] :=
    State.keepsRegs.bump (.of_regs .refl) (List.mem_singleton_self _)
  rw [State.grvHost, State.flag, hkeeps _ (by simp only [Reg.GRV_CH_CTL, Reg.GRV_CH_CNT, List.mem_singleton]; omega), State.grvHost,
    State.flag]

theorem exec_fifoPop_of_bad {s : State} {ag : Agent} {n : Fin 20} (ho : s.opens ag (Reg.GRV_CH_POP_W n.val 0) = true)
    (hown : ownsGrv (s.grvHost n.val) ag = true) :
    exec (.fifoPop ag n true) s =
      .next (((s.grvSpoiled n.val).grvPop ag n.val).2.complete (.data ((s.grvSpoiled n.val).grvPop ag n.val).1)) := by
  refine congrArg Host.Outcome.next ((State.readAccess_opens _ _ _ _ ho).trans ?_)
  rw [hown]
  rfl

theorem exec_fifoPop_of_empty {s : State} {ag : Agent} {n : Fin 20} (bad : Bool)
    (ho : s.opens ag (Reg.GRV_CH_POP_W n.val 0) = true) (hown : ownsGrv (s.grvHost n.val) ag = true)
    (hfifo : (s.grvCh n.val).fifo = []) :
    exec (.fifoPop ag n bad) s = .next ((s.wr (Reg.GRV_CH_POP_W n.val 3) 0).complete (.data 0)) := by
  have hpop : s.grvPop ag n.val = (0, s.wr (Reg.GRV_CH_POP_W n.val 3) 0) := by
    unfold State.grvPop
    rw [if_neg (by simp [hown]), hfifo]
  cases bad with
  | false => rw [exec_fifoPop_of_good ho, hpop]
  | true => rw [exec_fifoPop_of_bad ho hown, State.grvSpoiled_of_empty hfifo, hpop]

theorem exec_fifoPop_of_other {s : State} {ag : Agent} {n : Fin 20} (bad : Bool)
    (ho : s.opens ag (Reg.GRV_CH_POP_W n.val 0) = true) (hown : ownsGrv (s.grvHost n.val) ag = false) :
    exec (.fifoPop ag n bad) s = .next ((s.error Reg.GRV_ERR 1 120).complete (.data 0)) := by
  refine congrArg Host.Outcome.next ((State.readAccess_opens _ _ _ _ ho).trans ?_)
  rw [hown, Bool.and_false, if_neg (by decide), State.grvPop, if_pos hown]
  rfl

theorem State.bitAt_popFlags (s : State) (r : StampRecord) {i : Nat} (h : i ≠ 30) : bitAt (s.popFlags r) i = bitAt r.flags i := by
  unfold State.popFlags
  split
  · exact bitAt_putBit_other _ _ _ _ h
  · rfl

/-! ### Channel control -/

/-- A bit of GRV_CHn_CTL other than CLR holds what is written. -/
theorem rwBit_grvCtl : ∀ (n : Fin 20) (i : Fin 32), i.val ≠ 16 → rwBit (Reg.GRV_CH_CTL n.val) i.val = true := by
  decide +kernel

theorem rwBit_grvThr : ∀ (n : Fin 8) (i : Fin 12), rwBit (Reg.GRV_CH_THR n.val) i.val = true := by decide +kernel

section
variable {s : State} {ag : Agent} {n : Fin 20} {v : Word} (ho : s.opens ag (Reg.GRV_CH_CTL n.val) = true)
include ho

theorem exec_channelArm_of_opens (hv : bitAt v 31 = true) :
    exec (.channelArm ag n v) s = .next (s.writeGrvCtl ag n.val v) :=
  congrArg Host.Outcome.next ((State.writeAccess_opens _ _ _ _ _ ho).trans (if_pos hv))

theorem exec_fifoClear_of_opens (hv : bitAt v 16 = true) :
    exec (.fifoClear ag n v) s = .next (s.writeGrvCtl ag n.val v) :=
  congrArg Host.Outcome.next ((State.writeAccess_opens _ _ _ _ _ ho).trans (if_pos hv))

theorem exec_channelOwnerWrite_of_opens (hv : bitAt v 30 ≠ s.grvHost n.val) :
    exec (.channelOwnerWrite ag n v) s = .next (s.writeGrvCtl ag n.val v) :=
  congrArg Host.Outcome.next ((State.writeAccess_opens _ _ _ _ _ ho).trans (if_neg hv))

end

/-- The configuration written, the FIFO cleared where CLR asks, and a threshold that settles under a new hysteresis. -/
def State.ctlWritten (s : State) (n : Nat) (v : Word) : State :=
  let t := s.plainWrite (Reg.GRV_CH_CTL n) v
  let t := if bitAt v 16 then t.setGrvCh n { t.grvCh n with fifo := [], seq := 0 } else t
  if s.grvEn n ∧ n < 8 ∧ bitsAt v 18 3 ≠ bitsAt (s.rd (Reg.GRV_CH_CTL n)) 18 3 then
    t.setGrvCh n { t.grvCh n with settling := true } else t

/-- The channel disabled. -/
def State.grvDisarmed (s : State) (n : Nat) : State :=
  ((s.setGrvCh n { s.grvCh n with armed := false }).disarm (.windowStart (Fin.ofNat 20 n))).disarm (.windowStop (Fin.ofNat 20 n))

section
variable {s : State} {ag : Agent} {n : Nat} {v : Word} (hmay : s.grvMayWrite ag n v = true) (hslope : bitsAt v 28 2 ≠ 3)
  (hmode : bitsAt v 24 3 < 5)
include hmay hslope hmode

theorem State.writeGrvCtl_of_start (hv : bitAt v 31 = true) (hen : s.grvEn n = false) :
    s.writeGrvCtl ag n v =
      if bitsAt v 24 3 = 3 ∧ s.windowOk n (bitAt v 30 && bitAt v 27) = false then s.grvError 3 else (s.ctlWritten n v).grvArm n := by
  unfold State.writeGrvCtl
  dsimp only
  rw [if_neg (by simp [hmay]), if_neg (not_or.mpr ⟨hslope, Nat.not_le.mpr hmode⟩), if_neg (by simp [hen])]
  by_cases hwin : bitsAt v 24 3 = 3 ∧ s.windowOk n (bitAt v 30 && bitAt v 27) = false
  · rw [if_pos hwin, if_pos ⟨hv, hwin⟩]
  · rw [if_neg hwin, if_neg fun h => hwin h.2, if_pos hv]
    rfl

theorem State.writeGrvCtl_of_stop (hv : bitAt v 31 = false) : s.writeGrvCtl ag n v = (s.ctlWritten n v).grvDisarmed n := by
  unfold State.writeGrvCtl
  dsimp only
  rw [if_neg (by simp [hmay]), if_neg (not_or.mpr ⟨hslope, Nat.not_le.mpr hmode⟩), if_neg (by simp [hv]), if_neg (by simp [hv]),
    if_neg (by simp [hv])]
  rfl

end

theorem State.grv_plainWrite (s : State) (o : Nat) (v : Word) : (s.plainWrite o v).grv = s.grv := by rw [s.plainWrite_frame]

theorem State.grvCh_plainWrite (s : State) (o : Nat) (v : Word) (d : Nat) : (s.plainWrite o v).grvCh d = s.grvCh d := by
  rw [State.grvCh, s.grv_plainWrite, State.grvCh]

theorem State.regs_ctlWritten (s : State) (n : Nat) (v : Word) :
    (s.ctlWritten n v).regs = (s.plainWrite (Reg.GRV_CH_CTL n) v).regs := by
  unfold State.ctlWritten
  extract_lets t _ u
  have hu : u.regs = t.regs := by
    unfold u
    split <;> rfl
  split
  · exact hu
  · exact hu

theorem State.flag_ctlWritten (s : State) (n : Fin 20) (v : Word) (i : Fin 32) (hi : i.val ≠ 16) :
    (s.ctlWritten n.val v).flag (Reg.GRV_CH_CTL n.val) i.val = bitAt v i.val := by
  rw [State.flag, State.rd, s.regs_ctlWritten]
  exact s.flag_plainWrite (rwBit_grvCtl n i hi) v

theorem State.grvMode_ctlWritten (s : State) (n : Fin 20) (v : Word) : (s.ctlWritten n.val v).grvMode n.val = bitsAt v 24 3 := by
  rw [State.grvMode, State.fld, State.rd, s.regs_ctlWritten]
  refine s.fld_plainWrite (List.all_eq_true.mpr fun i hi => ?_) v
  have hi := List.mem_range.mp hi
  exact rwBit_grvCtl n ⟨24 + i, by omega⟩ (by dsimp only; omega)

theorem State.grvCh_ctlWritten_ne (s : State) (n : Nat) {d : Nat} (v : Word) (h : d ≠ n) : (s.ctlWritten n v).grvCh d = s.grvCh d := by
  unfold State.ctlWritten
  extract_lets t _ u
  have hu : u.grvCh d = t.grvCh d := by
    by_cases hclr : bitAt v 16 = true
    · exact (congrArg (State.grvCh · d) (if_pos hclr)).trans (t.grvCh_setGrvCh_ne _ h)
    · exact congrArg (State.grvCh · d) (if_neg hclr)
  split
  · exact (u.grvCh_setGrvCh_ne _ h).trans (hu.trans (s.grvCh_plainWrite ..))
  · exact hu.trans (s.grvCh_plainWrite ..)

theorem State.grvCh_ctlWritten_of_clear (s : State) (n : Nat) {v : Word} (h : bitAt v 16 = true) :
    ((s.ctlWritten n v).grvCh n).fifo = [] ∧ ((s.ctlWritten n v).grvCh n).seq = 0 := by
  unfold State.ctlWritten
  extract_lets t _ u
  have hu : u.grvCh n = { t.grvCh n with fifo := [], seq := 0 } :=
    (congrArg (State.grvCh · n) (if_pos h)).trans (t.grvCh_setGrvCh_same ..)
  have hfifo : (u.grvCh n).fifo = [] := by rw [hu]
  have hseq : (u.grvCh n).seq = 0 := by rw [hu]
  split
  · rw [State.grvCh_setGrvCh_same]
    exact ⟨hfifo, hseq⟩
  · exact ⟨hfifo, hseq⟩

/-- The channel's state once it is armed. -/
def GrvChannel.begun (c : GrvChannel) : GrvChannel :=
  { c with armed := true, isDone := false, opened := none, closed := none, taken := 0, divided := 0 }

theorem State.grvArm_of_ungated {s : State} {n : Nat} (h : s.grvMode n ≠ 3) : s.grvArm n = s.setGrvCh n (s.grvCh n).begun :=
  if_neg fun hgate => h hgate.1

theorem State.grvCh_grvDisarmed (s : State) (n : Nat) : (s.grvDisarmed n).grvCh n = { s.grvCh n with armed := false } :=
  State.grvCh_setGrvCh_same ..

theorem State.grvMayWrite_of_host {s : State} {ag : Agent} {n : Nat} {v : Word} (hhost : isHost ag = true)
    (hchange : bitAt v 30 ≠ s.grvHost n) :
    s.grvMayWrite ag n v = !decide (bitAt v 30 = true ∧ 8 ≤ n ∧ n ≤ 17 ∧ s.benchMode = false) := by
  unfold State.grvMayWrite
  dsimp only
  rw [if_pos (by simpa using hchange), hhost]
  cases bitAt v 30 with
  | false => simp
  | true =>
    cases s.benchMode with
    | true => simp
    | false =>
      rw [Bool.eq_iff_iff]
      simp only [Bool.true_and, Bool.not_true, Bool.false_or, Bool.or_false, Bool.or_eq_true, Bool.not_eq_true',
        decide_eq_true_eq, decide_eq_false_iff_not, true_and, and_true]
      omega

theorem State.writeGrvThr_of_input {s : State} {ag : Agent} {n : Nat} {v : Word} (hown : ownsGrv (s.grvHost n) ag = true)
    (hn : n < 8) (hen : s.grvEn n = true) :
    s.writeGrvThr ag n v = (s.plainWrite (Reg.GRV_CH_THR n) v).setGrvCh n { s.grvCh n with settling := true } := by
  unfold State.writeGrvThr
  rw [if_neg (by simp [hown]), if_neg (by omega)]
  dsimp only
  rw [if_pos ⟨hen, hn⟩, s.grvCh_plainWrite]

/-! ### Calibration tables -/

theorem length_binCentres (below : Nat) (counts : List Nat) : (binCentres below counts).length = counts.length := by
  induction counts generalizing below with
  | nil => rfl
  | cons c cs ih => exact congrArg (· + 1) (ih (below + c))

theorem exec_caltabUpdate_of_hits {s : State} {n : Fin 20} {counts : List Nat} (hon : s.flag Reg.GRV_CTRL 0 = true)
    (hpd : s.pdUp PD_TDC = true) (hpll : s.pllReady pllF = true) (hlen : counts.length = 64) (hsum : counts.sum = 2 ^ 20) :
    exec (.caltabUpdate n counts) s = .next (if counts.any (fun k => decide (k < 1024)) then
      (s.setGrvCh n.val { s.grvCh n.val with rejected := true }).grvSticky 7
      else s.setGrvCh n.val { s.grvCh n.val with
        table := binCentres 0 counts, gen := (s.grvCh n.val).gen + 1, ready := true, rejected := false }) :=
  congrArg Host.Outcome.next (if_neg (by simp [hon, hpd, hpll, hlen, hsum]))

/-! ### The units -/

theorem ofBool_le (b : Bool) : ofBool b ≤ 1 := by cases b <;> decide

theorem ofBool_eq_one (b : Bool) : decide (ofBool b = 1) = b := by cases b <;> rfl

/-- The bits of RSTAT. -/
theorem bitAt_rstat (valid suspect stepped lost : Bool) {q : Nat} (hq : q < 65536) :
    let w : Word := BitVec.ofNat 32 (ofBool valid * 2 ^ 31 + ofBool suspect * 2 ^ 30 + ofBool stepped * 2 ^ 29 + ofBool lost * 2 ^ 28 + q)
    bitAt w 31 = valid ∧ bitAt w 30 = suspect ∧ bitAt w 28 = lost := by
  have hbit : ∀ (m i : Nat), i < 32 → bitAt (BitVec.ofNat 32 m) i = decide (m / 2 ^ i % 2 = 1) := fun m i hi => by
    rw [bitAt, BitVec.getLsbD_ofNat, decide_eq_true hi, Bool.true_and, Nat.testBit_eq_decide_div_mod_eq]
  have hv := ofBool_le valid
  have hs := ofBool_le suspect
  have ht := ofBool_le stepped
  have hl := ofBool_le lost
  refine ⟨?_, ?_, ?_⟩
  · rw [hbit _ _ (by decide), ← ofBool_eq_one valid]
    exact decide_eq_decide.mpr (by rw [ofBool_eq_one]; omega)
  · rw [hbit _ _ (by decide), ← ofBool_eq_one suspect]
    exact decide_eq_decide.mpr (by rw [ofBool_eq_one]; omega)
  · rw [hbit _ _ (by decide), ← ofBool_eq_one lost]
    exact decide_eq_decide.mpr (by rw [ofBool_eq_one]; omega)

/-- STEP of a window: device time was stepped in it. -/
def State.unitStepped (s : State) (k : Nat) : Bool :=
  !s.onLo (s.unitCh k) && (s.grvUnit k).stepGen != s.fld Reg.CAL_STATUS 8 8

theorem State.unitResult_rstat (s : State) (k : Nat) :
    (s.unitResult k).getD 6 0 = BitVec.ofNat 32 (ofBool (decide (3 ≤ (s.grvUnit k).n) && !(s.grvUnit k).lost &&
      !s.unitStepped k && !(s.grvUnit k).suspect) * 2 ^ 31 + ofBool (s.grvUnit k).suspect * 2 ^ 30 +
        ofBool (s.unitStepped k) * 2 ^ 29 + ofBool (s.grvUnit k).lost * 2 ^ 28 + ((s.grvUnit k).seq + 1) % 65536) := by
  unfold State.unitResult
  extract_lets u d stepped valid rstat f fit _ _ _ _ _ _ mid
  have hmid : mid.length = 5 := by
    unfold mid
    split <;> rfl
  rw [List.getD_cons_succ, List.getD_append_right _ _ _ _ (by omega), hmid]
  rfl

theorem regRow_regN (k : Fin 8) : regRow (Reg.GRV_REG_N k.val) =
    some (⟨0x500808, 0x40, 8, 0x4, 1, 0x0, 0x0, 0x0, 0x0, .const 0x0, PD_TDC⟩, k.val, 0) := by
  revert k
  decide +kernel

/-- The results of a unit latched. -/
def State.unitLatched (s : State) (k : Nat) : State := s.wrWords (Reg.GRV_REG_N k) (s.grvUnit k).result

theorem State.rd_unitLatched {s : State} {k : Nat} (hlen : (s.grvUnit k).result.length = 7) {j : Nat} (hj : j < 7) :
    (s.unitLatched k).rd (Reg.GRV_REG_N k + 4 * j) = (s.grvUnit k).result.getD j 0 :=
  (State.rd_wrWords (s.grvUnit k).result s (Reg.GRV_REG_N k) j (by omega)).trans (List.getD_eq_getElem _ _ (by omega)).symm

theorem exec_regressionRead_of_opens {s : State} {ag : Agent} {k : Fin 8} (ho : s.opens ag (Reg.GRV_REG_N k.val) = true) :
    exec (.regressionRead ag k) s =
      .next ((s.unitLatched k.val).complete (.data ((s.unitLatched k.val).rd (Reg.GRV_REG_N k.val)))) := by
  change execRegressionRead ag k s = _
  rw [execRegressionRead, State.readAccess_opens _ _ _ _ ho, State.readUnit, State.plainRead_of_row (regRow_regN k) rfl]
  rfl

/-! ### The obligation -/

/-- Settles O48: edges through what a step keeps of a channel, gates through a fold that reaches each channel once, the
registers by their branches. -/
theorem stampsGatesAndUnits : Obligations.StampsGatesAndUnits := by
  refine ⟨fun s n falling c p harm hin hrise hfall hdiv hlast htick hmode hkeep hroom => ?_,
    fun s n falling c p harm hin hrise hfall hdiv hlast htick hmode htaken => ?_,
    fun s n falling c p l harm hin hrise hfall hdiv hlast hle hlt => ?_,
    fun s n falling c p harm hin hrise hfall hdiv hlast htick hused => ?_,
    fun s g falling phase n hpd hlive harm hmode hgate => ?_,
    fun s n hwaits hmode hstop => ?_,
    fun s ag n r rs ho hown hfifo => ?_,
    fun s ag n r q rs ho hown hfifo => ?_,
    fun s r i hint hbad => ?_,
    fun s ag n bad ho hown hfifo => exec_fifoPop_of_empty bad ho hown hfifo,
    fun s ag n bad ho hown => exec_fifoPop_of_other bad ho hown,
    fun s ag n v ho hmay hslope hmode hv hen hungated => ?_,
    fun s ag n v ho hmay hslope hmode hv hen hgated hwin => ?_,
    fun s ag n v ho hmay hslope hmode hv hclr => ?_,
    fun s ag n v ho hhost hchange hv hslope hmode => ?_,
    fun s ag n v ho hown hn hen => ?_,
    fun s n harmed hready hpd hpll => ?_,
    fun s n counts hon hpd hpll hlen hsum => ?_,
    fun s ag v ho => ?_, fun s p hp hedges => ?_,
    fun s k hen hpd hend => ?_, fun s k => ?_, fun s ag k ho hlen => ?_⟩
  · obtain ⟨t, hkeeps, hcapture⟩ := State.grvCapture_edgeReady (c := c.val) (p := p.val) falling
      (State.gated_of_free (s := s.edgeReady n.val) (s.grvStamp n.val c.val p.val) hmode)
    have hexec := exec_edgeStamp_of_edge harm hin hrise hfall hdiv
    rw [if_neg (by simp [State.edgeDead_eq_false hlast]), if_neg (State.ticksUsed_lt htick), hcapture, if_neg Bool.false_ne_true] at hexec
    have hch := s.grvCh_edgePushing n.val c.val p.val
    obtain ⟨u, hu, hpush⟩ := State.grvPush_of_room (s := s.edgePushing n.val c.val p.val) (n := n.val)
      (stamp := s.grvStamp n.val c.val p.val) (falling := falling) (suspect := s.grvSuspect n.val)
      (by rw [hch, State.fld_edgePushing]; exact hkeep) (by rw [hch]; exact hroom)
    have hpushed : ∀ d, t.grvCh d = u.grvCh d := fun d => by
      rw [(hkeeps d).channel, hpush]
      split
      · exact State.grvCh_grvSticky ..
      · rfl
    have hn : t.grvCh n.val = ((s.grvCh n.val).reached (s.grvRaw c.val p.val)).pushed (s.grvStamp n.val c.val p.val)
        ((s.grvCh n.val).recordFlags falling (s.grvSuspect n.val)) (s.grvInterval n.val) := by
      rw [hpushed, hu, State.grvCh_setGrvCh_same, hch, s.grvInterval_edgePushing, GrvChannel.recordFlags_reached]
    refine ⟨_, hexec, ?_, ?_, ?_, ?_, fun d hd => ?_⟩
    · exact congrArg GrvChannel.seq hn
    · exact congrArg GrvChannel.fifo hn
    · exact congrArg GrvChannel.gap hn
    · exact congrArg GrvChannel.last hn
    · exact (hpushed d).trans (by rw [hu, State.grvCh_setGrvCh_ne _ _ hd, s.grvCh_edgePushing_ne _ _ hd])
  · obtain ⟨t, hkeeps, hcapture⟩ := State.grvCapture_edgeReady (c := c.val) (p := p.val) falling
      (State.gated_of_counted (s := s.edgeReady n.val) (s.grvStamp n.val c.val p.val) hmode
        (by rw [s.grvCh_edgeReady]; exact htaken))
    have hexec := exec_edgeStamp_of_edge harm hin hrise hfall hdiv
    rw [if_neg (by simp [State.edgeDead_eq_false hlast]), if_neg (State.ticksUsed_lt htick), hcapture, if_pos rfl] at hexec
    have hdone : (t.grvDone n.val).grvCh n.val = { t.grvCh n.val with armed := false, isDone := true } :=
      (State.grvCh_grvSticky ..).trans (State.grvCh_setGrvCh_same ..)
    refine ⟨_, hexec, congrArg GrvChannel.isDone hdone, congrArg GrvChannel.armed hdone, ?_, State.flag_grvSticky _ (by decide)⟩
    refine (congrArg GrvChannel.seq hdone).trans ?_
    change (t.grvCh n.val).seq = _
    rw [(hkeeps n.val).channel, State.seq_grvPush, s.grvCh_edgePushing]
    rfl
  · obtain ⟨hfifo, hgap, hcnt⟩ := State.grvLose_spec (s.edgePassed n.val) n.val 2
      (ct96ToFrac ((s.edgePassed n.val).grvStamp n.val c.val p.val))
      ((s.edgePassed n.val).gated n.val ((s.edgePassed n.val).grvStamp n.val c.val p.val)).1
    have hexec := exec_edgeStamp_of_edge harm hin hrise hfall hdiv
    rw [if_pos (State.edgeDead_eq_true hlast hle hlt)] at hexec
    refine ⟨_, hexec, hfifo.trans ?_, hgap, State.flag_grvLose _ _ (by decide), hcnt⟩
    rw [State.edgePassed, State.grvCh_setGrvCh_same]
  · obtain ⟨hfifo, hgap, hcnt⟩ := State.grvLose_spec (s.edgePassed n.val) n.val 3
      (ct96ToFrac ((s.edgePassed n.val).grvStamp n.val c.val p.val))
      ((s.edgePassed n.val).gated n.val ((s.edgePassed n.val).grvStamp n.val c.val p.val)).1
    have hexec := exec_edgeStamp_of_edge harm hin hrise hfall hdiv
    rw [if_neg (by rw [State.edgeDead, hlast]; exact Bool.false_ne_true), if_pos (by rw [State.ticksUsed, if_pos htick]; exact hused)] at hexec
    refine ⟨_, hexec, hfifo.trans ?_, hgap, State.flag_grvLose _ _ (by decide), hcnt⟩
    rw [State.edgePassed, State.grvCh_setGrvCh_same]
  · obtain ⟨-, -, hpll⟩ := State.grvWaits_of_armed harm
    refine ⟨_, exec_gateEdge_of_live hpd hpll hlive, fun hopens => ?_, fun hcloses hopened hclosed => ?_⟩
    · rw [State.gateEdge_spec harm hmode hgate, if_pos hopens]
      exact ⟨rfl, rfl⟩
    · rw [State.gateEdge_spec harm hmode hgate, if_neg hcloses, if_neg (by simp [hopened, hclosed])]
      exact ⟨rfl, rfl⟩
  · have hexec : exec (.windowEnd n) s = .next (s.grvDone n.val) := congrArg Host.Outcome.next (if_pos ⟨hwaits, hmode, hstop⟩)
    refine ⟨_, hexec, ?_, State.flag_grvSticky _ (by decide), fun d hd => (State.KeepsChannel.grvDone .refl hd).channel, ?_⟩
    · exact (State.grvCh_grvSticky ..).trans (State.grvCh_setGrvCh_same ..)
    · exact State.keepsRegs.sticky (.of_regs .refl)
  · have hexec := exec_fifoPop_of_good (ag := ag) ho
    rw [State.grvPop_of_owner hown hfifo] at hexec
    refine ⟨_, hexec, rfl, ?_, ?_, ?_, ?_, .of_regs (s.keepsRegs_popped n.val r rs), ?_⟩
    · exact State.rd_popped s n.val r rs (j := 1) (by decide)
    · exact State.rd_popped s n.val r rs (j := 2) (by decide)
    · exact State.rd_popped s n.val r rs (j := 3) (by decide)
    · exact (s.grvCh_popped n.val n.val r rs).trans (State.grvCh_setGrvCh_same ..)
    · rw [s.popped_frame n.val r rs]
      rfl
  · have hexec := exec_fifoPop_of_bad ho hown
    rw [State.grvSpoiled_of_two hfifo, State.grvPop_of_owner ((congrArg (ownsGrv · ag) (State.grvHost_spoiled ..)).trans hown)
      (congrArg GrvChannel.fifo (State.grvCh_spoiled ..))] at hexec
    refine ⟨_, hexec, rfl, ?_, ?_, ?_, fun d hd => ?_⟩
    · exact congrArg GrvChannel.fifo ((State.grvCh_popped _ n.val n.val q.gapped rs).trans (State.grvCh_setGrvCh_same ..))
    · rw [State.rd_complete, State.rd_popped _ n.val q.gapped rs (j := 3) (by decide)]
      exact (State.bitAt_popFlags _ _ (by decide)).trans (bitAt_putBit _ _ _ (by decide))
    · rw [State.fld, State.rd_complete, State.keepsRegs_popped _ n.val q.gapped rs _ (by
        simp only [Reg.GRV_CH_CNT, Reg.GRV_CH_POP_W, List.mem_map, List.mem_range, not_exists, not_and]
        omega)]
      exact State.fld_bump _ (Reg.GRV_CH_CNT n.val) 0 16 1 (by decide) (by decide)
    · refine ((State.grvCh_popped _ n.val d q.gapped rs).trans (State.grvCh_setGrvCh_ne _ _ hd)).trans ?_
      exact s.grvCh_setGrvCh_ne _ hd
  · rw [State.popFlags, hint]
    refine (bitAt_putBit _ _ _ (by decide)).trans ?_
    rw [List.contains_iff_mem.mpr hbad, Bool.or_true]
  · have hm : bitsAt v 24 3 ≠ 3 := hungated
    have hexec := exec_channelArm_of_opens (ag := ag) ho hv
    rw [State.writeGrvCtl_of_start hmay hslope hmode hv hen, if_neg fun h => hm h.1,
      State.grvArm_of_ungated (by rw [State.grvMode_ctlWritten]; exact hm)] at hexec
    refine ⟨_, hexec, ?_, ?_, ?_, ?_, ?_, ?_, fun d hd => ?_⟩
    · rw [State.grvCh_setGrvCh_same]
      rfl
    · rw [State.grvCh_setGrvCh_same]
      rfl
    · rw [State.grvCh_setGrvCh_same]
      rfl
    · rw [State.grvCh_setGrvCh_same]
      rfl
    · exact (s.flag_ctlWritten n v 31 (by decide)).trans hv
    · exact s.grvMode_ctlWritten n v
    · exact (State.grvCh_setGrvCh_ne _ _ hd).trans (s.grvCh_ctlWritten_ne _ _ hd)
  · rw [exec_channelArm_of_opens ho hv, State.writeGrvCtl_of_start hmay hslope hmode hv hen, if_pos ⟨hgated, hwin⟩]
    rfl
  · have hexec := exec_fifoClear_of_opens (ag := ag) ho hclr
    rw [State.writeGrvCtl_of_stop hmay hslope hmode hv] at hexec
    obtain ⟨hfifo, hseq⟩ := s.grvCh_ctlWritten_of_clear n.val hclr
    refine ⟨_, hexec, ?_⟩
    rw [State.grvCh_grvDisarmed]
    exact ⟨hfifo, hseq, rfl⟩
  · refine ⟨_, exec_channelOwnerWrite_of_opens ho hchange, ?_⟩
    have hmay := State.grvMayWrite_of_host hhost hchange
    split
    · next hno =>
      rw [decide_eq_true hno] at hmay
      exact if_pos hmay
    · next hyes =>
      rw [decide_eq_false hyes] at hmay
      rw [State.writeGrvCtl_of_stop hmay hslope hmode hv, State.grvCh_grvDisarmed]
      exact ⟨s.flag_ctlWritten n v 30 (by decide), rfl⟩
  · have hexec : exec (.thresholdWrite ag n v) s = .next (s.writeGrvThr ag n.val v) :=
      congrArg Host.Outcome.next (State.writeAccess_opens _ _ _ _ _ ho)
    rw [State.writeGrvThr_of_input hown hn hen] at hexec
    have hch : ((s.plainWrite (Reg.GRV_CH_THR n.val) v).setGrvCh n.val { s.grvCh n.val with settling := true }).grvCh n.val =
        { s.grvCh n.val with settling := true } := State.grvCh_setGrvCh_same ..
    refine ⟨_, hexec, ?_, ?_, hch, ?_⟩
    · exact s.fld_plainWrite (List.all_eq_true.mpr fun i hi => by
        have := rwBit_grvThr ⟨n.val, hn⟩ ⟨i, List.mem_range.mp hi⟩
        rwa [Nat.zero_add]) v
    · rw [State.grvArmed, hch]
      simp
    · exact .of_regs (State.keepsRegs.plainWrite .refl (List.mem_singleton_self _))
  · refine ⟨_, rfl, ?_, State.grvCh_setGrvCh_same .., rfl⟩
    rw [State.grvArmed, State.grvCh_setGrvCh_same, harmed, hready]
    exact Bool.and_eq_true_iff.mpr ⟨Bool.and_eq_true_iff.mpr ⟨rfl, hpd⟩, hpll⟩
  · have hexec := exec_caltabUpdate_of_hits (n := n) hon hpd hpll hlen hsum
    by_cases hthin : counts.any (fun k => decide (k < 1024)) = true
    · rw [if_pos hthin] at hexec
      refine ⟨_, hexec, fun d hd => (State.grvCh_grvSticky ..).trans (s.grvCh_setGrvCh_ne _ hd), fun hfull => ?_, fun _ => ?_⟩
      · obtain ⟨k, hk, hlt⟩ := List.any_eq_true.mp hthin
        exact absurd (hfull k hk) (Nat.not_le.mpr (of_decide_eq_true hlt))
      · exact ⟨(State.grvCh_grvSticky ..).trans (s.grvCh_setGrvCh_same ..), State.flag_grvSticky _ (by decide)⟩
    · rw [if_neg hthin] at hexec
      refine ⟨_, hexec, fun d hd => s.grvCh_setGrvCh_ne _ hd, fun _ => ?_, fun ⟨k, hk, hlt⟩ => ?_⟩
      · rw [State.grvCh_setGrvCh_same]
        exact ⟨rfl, rfl, rfl, (length_binCentres 0 counts).trans hlen, rfl⟩
      · exact absurd (List.any_eq_true.mpr ⟨k, hk, decide_eq_true hlt⟩) hthin
  · refine congrArg Host.Outcome.next ((State.writeAccess_opens _ _ _ _ _ ho).trans ?_)
    rw [State.writeLoincH]
    cases incrInRange (s.rd Reg.GRV_LOINC_L) v <;> rfl
  · have hexec : exec .loincApply s = .next { (s.wr Reg.GRV_LOINC_CUR_L p.low).wr Reg.GRV_LOINC_CUR_H p.high with
        grv := { s.grv with pendIncr := none } } := by
      change execLoincApply s = _
      rw [execLoincApply, hp]
      exact congrArg Host.Outcome.next (if_pos hedges)
    refine ⟨_, hexec, ?_, State.rd_wr_same .., .of_regs (.wr (o := Reg.GRV_LOINC_CUR_H) (.wr (o := Reg.GRV_LOINC_CUR_L) .refl)), rfl⟩
    exact (State.rd_wr_ne _ _ _ _ (by decide)).trans (State.rd_wr_same ..)
  · have hexec : exec (.regressionWindowEnd k) s = .next (s.unitClose k.val) := congrArg Host.Outcome.next (if_pos ⟨hen, hpd, hend⟩)
    have hunit : (s.unitClose k.val).grvUnit k.val = { GrvUnit.reset with
        start := s.unitEnd k.val, stepGen := s.fld Reg.CAL_STATUS 8 8, seq := ((s.grvUnit k.val).seq + 1) % 65536,
        result := s.unitResult k.val } := by
      rw [State.grvUnit, State.unitClose, State.grv_grvSticky]
      exact State.grvUnit_setGrvUnit_same ..
    refine ⟨_, hexec, ?_⟩
    rw [hunit]
    exact ⟨rfl, rfl, rfl, rfl, rfl, State.flag_grvSticky _ (by decide)⟩
  · rw [s.unitResult_rstat k.val]
    obtain ⟨hvalid, hsuspect, hlost⟩ := bitAt_rstat (decide (3 ≤ (s.grvUnit k.val).n) && !(s.grvUnit k.val).lost &&
      !s.unitStepped k.val && !(s.grvUnit k.val).suspect) (s.grvUnit k.val).suspect (s.unitStepped k.val) (s.grvUnit k.val).lost
      (Nat.mod_lt ((s.grvUnit k.val).seq + 1) (by decide : 0 < 65536))
    refine ⟨hvalid.trans ?_, hsuspect, hlost⟩
    rw [State.unitStepped, bne, Bool.not_and, Bool.not_not, Bool.not_not, Bool.and_right_comm]
  · refine ⟨_, exec_regressionRead_of_opens ho, ?_, fun j hj => ?_, ?_, ?_⟩
    · exact congrArg Completion.data (State.rd_unitLatched hlen (j := 0) (by decide))
    · exact State.rd_unitLatched hlen hj
    · exact .of_regs (State.keepsRegs.wrWords (s.grvUnit k.val).result _ .refl fun i hi =>
        List.mem_map.mpr ⟨i, List.mem_range.mpr (by omega), rfl⟩)
    · obtain ⟨m, hm⟩ := State.wrWords_eq_regs s (Reg.GRV_REG_N k.val) (s.grvUnit k.val).result
      rw [State.unitLatched, hm]
      rfl

end Sys2Proof.Machine
end

section
/-!
The arithmetic of the big-number engine (R360): powers and inverses modulo a number.
-/
namespace Sys2Proof.Machine

/-! ### Powers -/

/-- A step of the power for bit i of the exponent. -/
def powStep (m b e i acc : Nat) : Nat := if e.testBit i then acc * acc % m * b % m else acc * acc % m

theorem powStep_mod (m b e i x : Nat) : powStep m b e i (x % m) = x * x * b ^ (e.testBit i).toNat % m := by
  have hsquare : x % m * (x % m) % m = x * x % m := (Nat.mul_mod x x m).symm
  rw [powStep, hsquare]
  cases e.testBit i with
  | false => rw [if_neg Bool.false_ne_true, Bool.toNat_false, pow_zero, Nat.mul_one]
  | true => rw [if_pos rfl, Bool.toNat_true, pow_one, Nat.mod_mul_mod]

/-- The n low bits of the exponent processed, from the highest down, on a power begun. -/
theorem foldr_powStep (m b e n x : Nat) :
    (List.range n).foldr (powStep m b e) (x % m) = x ^ 2 ^ n * b ^ (e % 2 ^ n) % m := by
  induction n generalizing x with
  | zero => simp [Nat.mod_one]
  | succ n ih =>
    have hbits : e % 2 ^ (n + 1) = (e.testBit n).toNat * 2 ^ n + e % 2 ^ n := by
      rw [Nat.mod_pow_succ, Nat.toNat_testBit, Nat.mul_comm, Nat.add_comm]
    rw [List.range_succ, List.foldr_append, List.foldr_cons, List.foldr_nil, powStep_mod, ih, hbits]
    congr 1
    rw [mul_pow, ← pow_two, ← pow_mul, ← pow_mul, ← pow_succ', Nat.mul_assoc, ← pow_add]

theorem powMod_eq {m b e n : Nat} (he : e < 2 ^ n) : powMod m b e n = b ^ e % m := by
  have hfold : powMod m b e n = (List.range n).foldr (powStep m b e) (1 % m) := rfl
  rw [hfold, foldr_powStep, one_pow, Nat.one_mul, Nat.mod_eq_of_lt he]

/-! ### Inverses -/

/-- With fuel for twice the bits of b, Euclid's steps end with a multiple of c that is the greatest common divisor mod m. -/
theorem euclid_modEq {m : Nat} (c : Nat) {fuel k a b : Nat} {x y : Int} (hfuel : 2 * k ≤ fuel) (hb : b < 2 ^ k)
    (hx : (c : Int) * x ≡ a [ZMOD m]) (hy : (c : Int) * y ≡ b [ZMOD m]) :
    (c : Int) * euclid fuel a b x y ≡ (Nat.gcd a b : Nat) [ZMOD m] := by
  induction fuel using Nat.strong_induction_on generalizing k a b x y with
  | _ fuel ih =>
    by_cases hzero : b = 0
    · subst hzero
      rw [Nat.gcd_zero_right]
      cases fuel with
      | zero => exact hx
      | succ n => exact hx
    · obtain ⟨k, rfl⟩ : ∃ j, k = j + 1 := ⟨k - 1, by
        have : k ≠ 0 := by
          rintro rfl
          omega
        omega⟩
      obtain ⟨fuel, rfl⟩ : ∃ j, fuel = j + 2 := ⟨fuel - 2, by omega⟩
      have hstep : ∀ {a b : Nat} {x y : Int}, (c : Int) * x ≡ a [ZMOD m] → (c : Int) * y ≡ b [ZMOD m] →
          (c : Int) * (x - (a / b : Nat) * y) ≡ (a % b : Nat) [ZMOD m] := fun {a b x y} hx hy => by
        have hsub := hx.sub (hy.mul_left ((a / b : Nat) : Int))
        have hleft : (c : Int) * x - (a / b : Nat) * ((c : Int) * y) = c * (x - (a / b : Nat) * y) := by ring
        have hright : (a : Int) - (a / b : Nat) * (b : Int) = (a % b : Nat) := by
          have := Nat.div_add_mod a b
          push_cast
          rw [Int.emod_def]
          ring
        rwa [hleft, hright] at hsub
      have hone : euclid (fuel + 2) a b x y = euclid (fuel + 1) b (a % b) y (x - (a / b : Nat) * y) := if_neg hzero
      rw [hone, Nat.gcd_comm, Nat.gcd_rec, Nat.gcd_comm]
      by_cases hrest : a % b = 0
      · rw [hrest, Nat.gcd_zero_right]
        exact hy
      · have htwo : euclid (fuel + 1) b (a % b) y (x - (a / b : Nat) * y) = euclid fuel (a % b) (b % (a % b))
            (x - (a / b : Nat) * y) (y - (b / (a % b) : Nat) * (x - (a / b : Nat) * y)) := if_neg hrest
        have hhalf : b % (a % b) < 2 ^ k := by
          have hlt : a % b < b := Nat.mod_lt _ (Nat.pos_of_ne_zero hzero)
          have hmod : b % (a % b) < a % b := Nat.mod_lt _ (Nat.pos_of_ne_zero hrest)
          have hle : b % (a % b) + a % b ≤ b := by
            have hq := Nat.div_add_mod b (a % b)
            have hpos : 1 ≤ b / (a % b) := Nat.div_pos hlt.le (Nat.pos_of_ne_zero hrest)
            have := Nat.mul_le_mul_left (a % b) hpos
            omega
          rw [pow_succ] at hb
          omega
        rw [htwo, Nat.gcd_comm, Nat.gcd_rec, Nat.gcd_comm]
        exact ih fuel (by omega) (by omega) hhalf (hstep hx hy) (hstep hy (hstep hx hy))

theorem mul_invMod {m a n : Nat} (hm : 1 < m) (hn : m < 2 ^ n) (hgcd : Nat.gcd a m = 1) :
    a * invMod n m a % m = 1 ∧ invMod n m a < m := by
  have hpos : (0 : Int) < m := by exact_mod_cast (by omega : 0 < m)
  have heuclid := euclid_modEq (m := m) a (fuel := 3 * n + 4) (k := n) (a := a) (b := m) (x := 1) (y := 0) (by omega) hn
    (by rw [mul_one]) (by rw [mul_zero]; exact (Int.modEq_zero_iff_dvd.mpr dvd_rfl).symm)
  have hcast : ((invMod n m a : Nat) : Int) = euclid (3 * n + 4) a m 1 0 % (m : Int) :=
    Int.toNat_of_nonneg (Int.emod_nonneg _ hpos.ne')
  refine ⟨?_, ?_⟩
  · have hmod : ((a * invMod n m a : Nat) : Int) ≡ (1 : Nat) [ZMOD m] := by
      push_cast
      rw [hcast]
      rw [hgcd] at heuclid
      exact ((Int.mod_modEq _ _).mul_left _).trans heuclid
    exact Eq.trans (Int.natCast_modEq_iff.mp hmod) (Nat.mod_eq_of_lt hm)
  · have hlt := Int.emod_lt_of_pos (euclid (3 * n + 4) a m 1 0) hpos
    rw [← hcast] at hlt
    exact_mod_cast hlt

end Sys2Proof.Machine
end
section
/-!
The big-number engine's slots and ports: numbers in slots, slots left undefined, and what a command's end leaves in its port.
-/
namespace Sys2Proof.Machine

/-! ### Numbers in slots -/

theorem ofLeBytes_append (xs ys : List Byte) : ofLeBytes (xs ++ ys) = ofLeBytes xs + 256 ^ xs.length * ofLeBytes ys := by
  induction xs with
  | nil => simp [ofLeBytes]
  | cons x xs ih =>
    rw [List.cons_append, ofLeBytes, ih, ofLeBytes, List.length_cons, pow_succ]
    ring

theorem length_flatMap_leBytes (f : Nat → Nat) (n : Nat) : ((List.range n).flatMap fun i => leBytes 4 (f i)).length = 4 * n := by
  induction n with
  | zero => rfl
  | succ n ih =>
    rw [List.range_succ, List.flatMap_append, List.length_append, ih, List.flatMap_singleton, length_leBytes]
    omega

theorem ofLeBytes_word {n : Nat} (h : n < 2 ^ 32) : ofLeBytes (leBytes 4 n) = n := by
  simp only [leBytes, List.range_succ, List.range_zero, List.nil_append, List.cons_append, List.map_cons, List.map_nil, ofLeBytes,
    BitVec.toNat_ofNat]
  omega

/-- The first n words of a number. -/
theorem ofLeBytes_words (v n : Nat) :
    ofLeBytes ((List.range n).flatMap fun i => leBytes 4 (v / (2 ^ 32) ^ i % 2 ^ 32)) = v % (2 ^ 32) ^ n := by
  induction n with
  | zero => simp [ofLeBytes, Nat.mod_one]
  | succ n ih =>
    have hbase : 256 ^ (4 * n) = (2 ^ 32) ^ n := (pow_mul 256 4 n).trans (congrArg (· ^ n) (by norm_num))
    rw [List.range_succ, List.flatMap_append, ofLeBytes_append, ih, length_flatMap_leBytes, List.flatMap_singleton,
      ofLeBytes_word (Nat.mod_lt _ (by decide)), hbase]
    exact Nat.mod_pow_succ.symm

/-- The words that hold the first w 64-bit words of a number. -/
def slotWords (w v : Nat) : List Word := (List.range (2 * w)).map fun i => BitVec.ofNat 32 (v / 2 ^ (32 * i))

theorem State.slotNumber_writeSlot (s : State) (slot w v : Nat) : (s.writeSlot slot w v).slotNumber slot 0 w = v % 2 ^ (64 * w) := by
  have hword : ∀ j ∈ List.range (2 * w), leBytes 4 ((s.writeSlot slot w v).slotWord32 slot (2 * 0 + j)).toNat =
      leBytes 4 (v / (2 ^ 32) ^ j % 2 ^ 32) := fun j hj => by
    have hlen : j < (slotWords w v).length := by
      rw [slotWords, List.length_map]
      simpa using hj
    have haddr : Reg.BNE_OPMEM (256 * slot + (2 * 0 + j)) = Reg.BNE_OPMEM (256 * slot) + 4 * j := by
      simp only [Reg.BNE_OPMEM]
      omega
    have hrd : (s.writeSlot slot w v).rd (Reg.BNE_OPMEM (256 * slot) + 4 * j) = (slotWords w v)[j] :=
      State.rd_wrWords (slotWords w v) s (Reg.BNE_OPMEM (256 * slot)) j hlen
    rw [State.slotWord32, haddr, hrd]
    simp only [slotWords, List.getElem_map, List.getElem_range, BitVec.toNat_ofNat, pow_mul]
  rw [State.slotNumber, List.flatMap_congr hword, ofLeBytes_words, ← pow_mul]
  congr 2
  omega

/-! ### Slots written and left undefined -/

/-- The registers below operand memory are the same in both states. -/
def State.keepsControl (s t : State) : Prop := ∀ o < 0xB08000, t.rd o = s.rd o

theorem State.keepsControl.trans {s t u : State} (h : s.keepsControl t) (h' : t.keepsControl u) : s.keepsControl u :=
  fun o ho => (h' o ho).trans (h o ho)

theorem State.keepsControl.of_keepsRegs {s t : State} {l : List Nat} (h : s.keepsRegs t l) (hl : ∀ o ∈ l, 0xB08000 ≤ o) :
    s.keepsControl t := fun o ho => h o fun hm => absurd (hl o hm) (Nat.not_le.mpr ho)

theorem State.keepsControl_writeSlot (s : State) (slot w v : Nat) : s.keepsControl (s.writeSlot slot w v) := by
  refine .of_keepsRegs (State.keepsRegs.wrWords (l := (List.range (slotWords w v).length).map fun i => Reg.BNE_OPMEM (256 * slot) + 4 * i)
    (slotWords w v) _ .refl fun i hi => List.mem_map.mpr ⟨i, List.mem_range.mpr hi, rfl⟩) fun o ho => ?_
  obtain ⟨i, -, rfl⟩ := List.mem_map.mp ho
  simp only [Reg.BNE_OPMEM]
  omega

/-- The words of a slot whose contents are undefined. -/
def State.freeWords (s : State) : List Word :=
  (List.range 128).flatMap fun i => [lo32 (Config.freeValue (s.free + i)), hi32 (Config.freeValue (s.free + i))]

theorem State.scribble_eq (s : State) (slot : Nat) :
    s.scribble slot = { s.wrWords (Reg.BNE_OPMEM (256 * slot)) s.freeWords with
      free := (s.wrWords (Reg.BNE_OPMEM (256 * slot)) s.freeWords).free + 128 } := by
  rw [State.scribble, State.freeWords]
  dsimp only
  obtain ⟨m, hm⟩ := State.wrWords_eq_regs s (Reg.BNE_OPMEM (256 * slot)) ((List.range 128).flatMap fun i =>
    [lo32 (Config.freeValue (s.free + i)), hi32 (Config.freeValue (s.free + i))])
  rw [hm]

theorem length_flatMap_pair (f g : Nat → Word) (n : Nat) : ((List.range n).flatMap fun i => [f i, g i]).length = 2 * n := by
  induction n with
  | zero => rfl
  | succ n ih =>
    rw [List.range_succ, List.flatMap_append, List.length_append, ih, List.flatMap_singleton]
    rfl

theorem State.keepsRegs_scribble (s : State) (slot : Nat) :
    s.keepsRegs (s.scribble slot) ((List.range 256).map fun j => Reg.BNE_OPMEM (256 * slot + j)) := by
  rw [s.scribble_eq slot]
  refine .of_regs (State.keepsRegs.wrWords s.freeWords (Reg.BNE_OPMEM (256 * slot)) .refl fun i hi => ?_)
  rw [State.freeWords, length_flatMap_pair] at hi
  exact List.mem_map.mpr ⟨i, List.mem_range.mpr hi, by simp only [Reg.BNE_OPMEM]; omega⟩

/-- Slots left undefined: nothing but their words and the free values drawn. -/
theorem State.scribbled_frame (s : State) (l : List Nat) :
    ∃ m k, l.foldl State.scribble s = { s with regs := m, free := k } :=
  List.foldlRecOn (motive := fun t => ∃ m k, t = { s with regs := m, free := k }) l State.scribble ⟨s.regs, s.free, rfl⟩
    fun t ⟨m, k, ht⟩ slot _ => by
      obtain ⟨m', hm'⟩ := State.wrWords_eq_regs t (Reg.BNE_OPMEM (256 * slot)) t.freeWords
      rw [t.scribble_eq slot, hm', ht]
      exact ⟨_, _, rfl⟩

theorem State.rd_scribbled (s : State) {l : List Nat} {o : Nat} (h : ∀ slot ∈ l, ∀ j < 256, o ≠ Reg.BNE_OPMEM (256 * slot + j)) :
    (l.foldl State.scribble s).rd o = s.rd o :=
  List.foldlRecOn (motive := fun t => t.rd o = s.rd o) l State.scribble rfl fun t ht slot hslot =>
    (t.keepsRegs_scribble slot o fun hm => by
      obtain ⟨j, hj, heq⟩ := List.mem_map.mp hm
      exact h slot hslot j (List.mem_range.mp hj) heq.symm).trans ht

theorem State.keepsControl_scribbled (s : State) (l : List Nat) : s.keepsControl (l.foldl State.scribble s) := fun o ho =>
  s.rd_scribbled fun slot _ j _ => by
    simp only [Reg.BNE_OPMEM]
    omega

/-! ### A command's end -/

/-- A command of port p has ended with a status, by what BNE_Pp_RES and the raises show. -/
structure State.Completed (s t : State) (p status : Nat) : Prop where
  done : t.fld (Reg.BNE_P_RES p) 30 2 = 1
  status : t.fld (Reg.BNE_P_RES p) 16 8 = status % 256
  seq : t.fld (Reg.BNE_P_RES p) 0 16 = (s.fld (Reg.BNE_P_RES p) 0 16 + 1) % 2 ^ 16
  event : ⟨168 + p, 0, 0⟩ ∈ t.raised

theorem State.Completed.before {s s' t : State} {p status : Nat} (h : s'.Completed t p status)
    (hres : s'.rd (Reg.BNE_P_RES p) = s.rd (Reg.BNE_P_RES p)) : s.Completed t p status :=
  ⟨h.done, h.status, by rw [h.seq, State.fld, hres, State.fld], h.event⟩

theorem State.Completed.after {s t u : State} {p status : Nat} (h : s.Completed t p status)
    (hres : u.rd (Reg.BNE_P_RES p) = t.rd (Reg.BNE_P_RES p)) (hraised : ∀ r ∈ t.raised, r ∈ u.raised) :
    s.Completed u p status := by
  refine ⟨?_, ?_, ?_, hraised _ h.event⟩
  · rw [State.fld, hres]
    exact h.done
  · rw [State.fld, hres]
    exact h.status
  · rw [State.fld, hres]
    exact h.seq

theorem State.keepsRegs_bneComplete (s : State) (p status ns : Nat) :
    s.keepsRegs (s.bneComplete p status ns) [Reg.BNE_P_RES p, Reg.BNE_P_TIME p] :=
  .raise (.wr (.setFld (.setFld (.advance .refl (by simp)) (by simp)) (by simp)) (by simp))

theorem State.bneComplete_frame (s : State) (p status ns : Nat) : s.SameButRaises (s.bneComplete p status ns) :=
  .raise (.wr (.setFld (.setFld (.advance .refl))))

/-- BNE_Pp_RES of a command that ends. -/
def State.resWritten (s : State) (p status : Nat) : State :=
  ((s.advance (Reg.BNE_P_RES p) 0 16).setFld (Reg.BNE_P_RES p) 30 2 1).setFld (Reg.BNE_P_RES p) 16 8 status

theorem State.bneComplete_completed (s : State) (p status ns : Nat) : s.Completed (s.bneComplete p status ns) p status := by
  have hne : Reg.BNE_P_RES p ≠ Reg.BNE_P_TIME p := by
    simp only [Reg.BNE_P_RES, Reg.BNE_P_TIME]
    omega
  have hres : (s.bneComplete p status ns).rd (Reg.BNE_P_RES p) = (s.resWritten p status).rd (Reg.BNE_P_RES p) :=
    State.rd_wr_ne _ _ _ _ hne
  refine ⟨?_, ?_, ?_, List.mem_append_right _ (List.mem_singleton_self _)⟩
  · rw [State.fld, hres]
    exact (State.fld_setFld_other _ _ _ _ _ _ _ _ (by omega) (by omega)).trans (State.fld_setFld _ _ _ _ _ (by omega))
  · rw [State.fld, hres]
    exact State.fld_setFld _ _ _ _ _ (by omega)
  · rw [State.fld, hres]
    refine (State.fld_setFld_other _ _ _ _ _ _ _ _ (by omega) (by omega)).trans
      ((State.fld_setFld_other _ _ _ _ _ _ _ _ (by omega) (by omega)).trans ?_)
    rw [State.advance, State.fld_setFld _ _ _ _ _ (by omega), Nat.mod_mod]

theorem State.time_bneComplete (s : State) (p status ns : Nat) :
    (s.bneComplete p status ns).rd (Reg.BNE_P_TIME p) = BitVec.ofNat 32 (min ns (2 ^ 32 - 1)) := State.rd_wr_same ..

theorem State.keepsRegs_showBne (s : State) : s.keepsRegs s.showBne [Reg.BNE_STATUS] := by
  unfold State.showBne
  dsimp only
  split
  · exact ((State.keepsRegs.setFld (o := Reg.BNE_STATUS) .refl).setFlag (o := Reg.BNE_STATUS)).setFlag (o := Reg.BNE_STATUS)
  · exact (State.keepsRegs.setFld (o := Reg.BNE_STATUS) .refl).setFlag (o := Reg.BNE_STATUS)

theorem State.showBne_frame (s : State) : s.showBne = { s with regs := s.showBne.regs } := by
  unfold State.showBne
  dsimp only
  split <;> rfl

theorem State.flag_showBne (s : State) : s.showBne.flag Reg.BNE_STATUS 2 = s.bne.running.isSome := by
  unfold State.showBne
  dsimp only
  split
  · next h => rw [State.flag_setFlag_other _ _ _ _ _ _ (by decide), State.flag_setFlag _ _ _ _ (by decide), h]
  · next h => rw [State.flag_setFlag _ _ _ _ (by decide), h]

theorem State.Completed.showBne {s t : State} {p status : Nat} (h : s.Completed t p status) : s.Completed t.showBne p status :=
  h.after (t.keepsRegs_showBne _ (by simp only [Reg.BNE_P_RES, Reg.BNE_STATUS, List.mem_singleton]; omega)) (by
    rw [t.showBne_frame]
    exact fun r hr => hr)

theorem State.keepsRegs_uInvalid (s : State) : s.keepsRegs s.uInvalid [Reg.BNE_STATUS, Reg.BNE_UINFO] :=
  .raise (.setFld (o := Reg.BNE_UINFO) (.setFlag (o := Reg.BNE_STATUS) .refl))

theorem State.uValid_uInvalid (s : State) : s.uInvalid.uValid = false :=
  (State.flag_setFld_other _ _ _ _ _ _ _ (by decide) (by decide)).trans (State.flag_setFlag _ Reg.BNE_STATUS 4 _ (by decide))

theorem State.bne_uInvalid (s : State) : s.uInvalid.bne = s.bne := rfl

theorem State.Completed.uInvalid {s t : State} {p status : Nat} (h : s.Completed t p status) : s.Completed t.uInvalid p status :=
  h.after (t.keepsRegs_uInvalid _ (by
    simp only [Reg.BNE_P_RES, Reg.BNE_STATUS, Reg.BNE_UINFO, List.mem_cons, List.not_mem_nil, or_false, not_or]
    omega)) fun _ hr => List.mem_append_left _ hr

/-- The command's port written, the engine idle. -/
def State.bneStopped (s : State) (p status ns : Nat) : State :=
  (State.bneComplete { s with bne := { s.bne with running := none } } p status ns).showBne

theorem State.bneEnd_eq (s : State) (c : BneCommand) (status ns : Nat) :
    s.bneEnd c status ns = if c.op = Bne.uCheck ∧ status ≠ 0 then (s.bneStopped c.port status ns).uInvalid
      else s.bneStopped c.port status ns := rfl

/-- What any property of a command's end needs: it holds as the port is written and with the microcode invalid. -/
theorem State.bneEnd_induction {P : State → Prop} {s : State} {c : BneCommand} {status ns : Nat}
    (h : P (s.bneStopped c.port status ns)) (hinvalid : P (s.bneStopped c.port status ns).uInvalid) :
    P (s.bneEnd c status ns) := by
  rw [s.bneEnd_eq]
  split
  · exact hinvalid
  · exact h

theorem State.bneStopped_completed (s : State) (p status ns : Nat) : s.Completed (s.bneStopped p status ns) p status :=
  (State.Completed.before (s := s) (State.bneComplete_completed { s with bne := { s.bne with running := none } } p status ns) rfl).showBne

theorem State.bneEnd_completed (s : State) (c : BneCommand) (status ns : Nat) :
    s.Completed (s.bneEnd c status ns) c.port status :=
  have h := s.bneStopped_completed c.port status ns
  State.bneEnd_induction (P := (s.Completed · c.port status)) h h.uInvalid

theorem State.bne_bneStopped (s : State) (p status ns : Nat) : (s.bneStopped p status ns).bne = { s.bne with running := none } := by
  rw [State.bneStopped, State.showBne_frame, State.bneComplete_frame]

theorem State.bne_bneEnd (s : State) (c : BneCommand) (status ns : Nat) :
    (s.bneEnd c status ns).bne = { s.bne with running := none } :=
  State.bneEnd_induction (P := fun t => t.bne = { s.bne with running := none }) (s.bne_bneStopped ..)
    ((State.bne_uInvalid _).trans (s.bne_bneStopped ..))

theorem State.keepsRegs_bneStopped (s : State) (p status ns : Nat) :
    s.keepsRegs (s.bneStopped p status ns) [Reg.BNE_P_RES p, Reg.BNE_P_TIME p, Reg.BNE_STATUS] :=
  .trans (State.keepsRegs.mono (State.keepsRegs_bneComplete { s with bne := { s.bne with running := none } } p status ns) (by simp))
    (State.keepsRegs.mono (State.keepsRegs_showBne _) (by simp))

/-- The registers that a command's end writes. -/
def endRegs (p : Nat) : List Nat := [Reg.BNE_P_RES p, Reg.BNE_P_TIME p, Reg.BNE_STATUS, Reg.BNE_UINFO]

theorem State.keepsRegs_bneEnd (s : State) (c : BneCommand) (status ns : Nat) :
    s.keepsRegs (s.bneEnd c status ns) (endRegs c.port) := by
  have h : s.keepsRegs (s.bneStopped c.port status ns) (endRegs c.port) :=
    State.keepsRegs.mono (s.keepsRegs_bneStopped c.port status ns) (by simp [endRegs])
  exact State.bneEnd_induction (P := (s.keepsRegs · (endRegs c.port))) h
    (h.trans (State.keepsRegs.mono (State.keepsRegs_uInvalid _) (by simp [endRegs])))

theorem opmem_notMem_endRegs {p : Nat} (hp : p < 2) (j : Nat) : Reg.BNE_OPMEM j ∉ endRegs p := by
  simp only [endRegs, Reg.BNE_OPMEM, Reg.BNE_P_RES, Reg.BNE_P_TIME, Reg.BNE_STATUS, Reg.BNE_UINFO, List.mem_cons, List.not_mem_nil,
    or_false, not_or]
  omega

theorem State.rd_time_bneEnd (s : State) (c : BneCommand) (status ns : Nat) :
    (s.bneEnd c status ns).rd (Reg.BNE_P_TIME c.port) = BitVec.ofNat 32 (min ns (2 ^ 32 - 1)) := by
  have hstopped : (s.bneStopped c.port status ns).rd (Reg.BNE_P_TIME c.port) = BitVec.ofNat 32 (min ns (2 ^ 32 - 1)) :=
    (State.keepsRegs_showBne _ _ (by simp only [Reg.BNE_P_TIME, Reg.BNE_STATUS, List.mem_singleton]; omega)).trans
      (State.time_bneComplete ..)
  exact State.bneEnd_induction (P := fun t => t.rd (Reg.BNE_P_TIME c.port) = BitVec.ofNat 32 (min ns (2 ^ 32 - 1))) hstopped
    ((State.keepsRegs_uInvalid _ _ (by
      simp only [Reg.BNE_P_TIME, Reg.BNE_STATUS, Reg.BNE_UINFO, List.mem_cons, List.not_mem_nil, or_false, not_or]
      omega)).trans hstopped)

end Sys2Proof.Machine
end
section
/-!
The commands of the big-number engine (R357 to R366): submission, start, validation and completion, and its microcode.
-/
namespace Sys2Proof.Machine

/-! ### Submission -/

/-- The word that a submission writes. -/
def submitWord (v : Word) (op : Nat) : Word := putBits (putBit v 31 true) 24 4 op

theorem exec_submission {ag : Agent} {p : Fin 2} {v : Word} {k : Instr} {op : Nat} (s : State)
    (h : (k, op) ∈ ([(.ecdsaVer ag p v, 1), (.ed25519Ver ag p v, 2), (.ptcheck ag p v, 3), (.rsaPub ag p v, 4),
      (.anchcmp ag p v, 5), (.modmul ag p v, 8), (.modexp ag p v, 9), (.modinv ag p v, 10), (.modred ag p v, 11),
      (.ucheck ag p v, 15)] : List (Instr × Nat))) :
    exec k s = .next (s.bneCommand ag p v op) ∧ op < 16 := by
  simp only [List.mem_cons, Prod.mk.injEq, List.not_mem_nil, or_false] at h
  obtain ⟨rfl, rfl⟩ | ⟨rfl, rfl⟩ | ⟨rfl, rfl⟩ | ⟨rfl, rfl⟩ | ⟨rfl, rfl⟩ | ⟨rfl, rfl⟩ | ⟨rfl, rfl⟩ | ⟨rfl, rfl⟩ | ⟨rfl, rfl⟩ |
    ⟨rfl, rfl⟩ := h
  all_goals exact ⟨rfl, by decide⟩

theorem rwBit_bneCmd0 : ∀ (p : Fin 2) (i : Fin 4), rwBit (Reg.BNE_P_CMD0 p.val) (24 + i.val) = true := by decide +kernel

/-- CMD0 written. -/
def State.cmdWritten (s : State) (p : Fin 2) (v : Word) (op : Nat) : State :=
  s.plainWrite (Reg.BNE_P_CMD0 p.val) (submitWord v op)

theorem State.keepsRegs_cmdWritten (s : State) (p : Fin 2) (v : Word) (op : Nat) :
    s.keepsRegs (s.cmdWritten p v op) [Reg.BNE_P_CMD0 p.val] := s.keepsRegs_plainWrite _ _

theorem State.cmdWritten_frame (s : State) (p : Fin 2) (v : Word) (op : Nat) :
    s.cmdWritten p v op = { s with regs := (s.cmdWritten p v op).regs } := s.plainWrite_frame ..

theorem State.bneCommand_of_owner {s : State} {ag : Agent} {p : Fin 2} (v : Word) (op : Nat)
    (ho : s.opens ag (Reg.BNE_P_CMD0 p.val) = true) (hown : isHost ag = true ↔ p.val = 1) :
    s.bneCommand ag p v op = (s.cmdWritten p v op).bneSubmit p.val := by
  have hhost : isHost ag = (p.val == 1) := by rw [Bool.eq_iff_iff, hown, beq_iff_eq]
  have hgo : bitAt (submitWord v op) 31 = true :=
    (bitAt_putBits_other _ _ _ _ _ (by omega) (by omega)).trans (bitAt_putBit _ _ _ (by omega))
  rw [State.bneCommand, State.writeAccess_opens _ _ _ _ _ ho, State.writeBnePort, if_neg (not_not.mpr hhost)]
  exact if_pos ⟨rfl, hgo⟩

theorem State.op_cmdWritten (s : State) (p : Fin 2) (v : Word) {op : Nat} (hop : op < 16) (w : Word) :
    BneCommand.op ⟨p.val, (s.cmdWritten p v op).rd (Reg.BNE_P_CMD0 p.val), w⟩ = op := by
  have hfld : (s.cmdWritten p v op).fld (Reg.BNE_P_CMD0 p.val) 24 4 = bitsAt (submitWord v op) 24 4 :=
    s.fld_plainWrite (List.all_eq_true.mpr fun i hi => rwBit_bneCmd0 p ⟨i, List.mem_range.mp hi⟩) _
  exact hfld.trans ((bitsAt_putBits _ _ _ _ (by omega)).trans (Nat.mod_eq_of_lt hop))

/-- The command that a port's registers hold. -/
def State.bnePort (s : State) (p : Nat) : BneCommand := ⟨p, s.rd (Reg.BNE_P_CMD0 p), s.rd (Reg.BNE_P_CMD1 p)⟩

/-- A command that waits. -/
def State.bneQueued (s : State) (p : Nat) : State :=
  State.showBne { s.setFld (Reg.BNE_P_RES p) 30 2 2 with bne := { s.bne with pending := s.bne.pending ++ [s.bnePort p] } }

theorem State.bneSubmit_of_free {s : State} {p : Nat} (hfree : s.flag (Reg.BNE_P_RES p) 31 = false)
    (hon : s.flag Reg.BNE_CTRL 0 = true) (hpd : s.pd PD_BNE = pdOn) (hform : (s.bnePort p).wellFormed = true)
    (hcode : s.uValid = true ∨ (s.bnePort p).inRom = true) : s.bneSubmit p = s.bneQueued p := by
  unfold State.bneSubmit
  dsimp only
  rw [if_neg (by simp [hfree]), if_neg (by simp [hon, hpd]), ← State.bnePort, if_neg (by simp [hform]),
    if_neg (by rintro ⟨h, h'⟩; rcases hcode with hc | hc <;> simp_all)]
  rfl

theorem State.bneSubmit_of_busy {s : State} {p : Nat} (hbusy : s.flag (Reg.BNE_P_RES p) 31 = true) :
    s.bneSubmit p = s.error Reg.BNE_ERR 2 174 := if_pos hbusy

theorem State.bneQueued_frame (s : State) (p : Nat) :
    s.bneQueued p = { s with
      regs := (s.bneQueued p).regs, bne := { s.bne with pending := s.bne.pending ++ [s.bnePort p] } } := by
  have h := State.showBne_frame { s.setFld (Reg.BNE_P_RES p) 30 2 2 with
    bne := { s.bne with pending := s.bne.pending ++ [s.bnePort p] } }
  exact h

theorem State.keepsRegs_bneQueued (s : State) (p : Nat) : s.keepsRegs (s.bneQueued p) [Reg.BNE_P_RES p, Reg.BNE_STATUS] :=
  State.keepsRegs.trans (State.keepsRegs.of_regs (State.keepsRegs.setFld (o := Reg.BNE_P_RES p) .refl (by simp)))
    (State.keepsRegs.mono (State.keepsRegs_showBne _) (by simp))

theorem State.busy_bneQueued (s : State) (p : Nat) : (s.bneQueued p).fld (Reg.BNE_P_RES p) 30 2 = 2 := by
  rw [State.fld, State.bneQueued, State.keepsRegs_showBne _ _ (by simp only [Reg.BNE_P_RES, Reg.BNE_STATUS, List.mem_singleton]; omega)]
  exact State.fld_setFld _ _ 30 2 2 (by omega)

theorem State.pd_of_keepsRegs {s t : State} {l : List Nat} {d : Nat} (h : s.keepsRegs t l) (hd : Reg.CPM_PD_CTL d ∉ l) :
    t.pd d = s.pd d := by
  rw [State.pd, State.fld, h _ hd, State.pd, State.fld]

theorem State.flag_of_keepsRegs {s t : State} {l : List Nat} {o : Nat} (h : s.keepsRegs t l) (i : Nat) (ho : o ∉ l) :
    t.flag o i = s.flag o i := by
  rw [State.flag, h _ ho, State.flag]

/-! ### Start -/

/-- The command that the engine takes. -/
def State.bneChosen (s : State) : Option BneCommand :=
  match s.bne.pending.find? (·.port == s.bne.next) with
  | some c => some c
  | none => s.bne.pending.head?

/-- The command taken out of the queue. -/
def State.bneTaken (s : State) (c : BneCommand) : State :=
  { s with bne := { s.bne with pending := s.bne.pending.filter (· != c), next := 1 - c.port } }

/-- The command runs. -/
def State.bneRuns (s : State) (c : BneCommand) : State :=
  State.showBne { s.bneTaken c with bne := { (s.bneTaken c).bne with running := some (c, false) } }

section
variable {s : State} {c : BneCommand} (hidle : s.bne.running = none) (hpd : s.pd PD_BNE = pdOn)
  (hreset : PD_BNE ∉ s.cpm.inReset) (hchosen : s.bneChosen = some c)
include hidle hpd hreset hchosen

theorem exec_bneCommandStart_of_chosen :
    exec .bneCommandStart s = .next (if s.uValid = false ∧ c.inRom = false then
      ((s.bneTaken c).bneRefuse c.port 0x0A).showBne else s.bneRuns c) := by
  have hexec : exec .bneCommandStart s = .next (match s.bneChosen with
      | none => s
      | some c => if s.bne.running.isSome ∨ s.pd PD_BNE ≠ pdOn ∨ PD_BNE ∈ s.cpm.inReset then s
        else if s.uValid = false ∧ c.inRom = false then ((s.bneTaken c).bneRefuse c.port 0x0A).showBne else s.bneRuns c) := rfl
  rw [hexec, hchosen]
  refine congrArg Host.Outcome.next (if_neg ?_)
  rintro (h | h | h)
  · simp [hidle] at h
  · exact h hpd
  · exact hreset h

theorem exec_bneCommandStart_of_code (hcode : s.uValid = true ∨ c.inRom = true) :
    exec .bneCommandStart s = .next (s.bneRuns c) := by
  rw [exec_bneCommandStart_of_chosen hidle hpd hreset hchosen, if_neg]
  rintro ⟨h, h'⟩
  rcases hcode with hc | hc
  · simp [hc] at h
  · simp [hc] at h'

end

theorem State.bneRuns_frame (s : State) (c : BneCommand) :
    s.bneRuns c = { s with regs := (s.bneRuns c).regs, bne := ⟨s.bne.pending.filter (· != c), some (c, false), 1 - c.port⟩ } :=
  State.showBne_frame { s.bneTaken c with bne := { (s.bneTaken c).bne with running := some (c, false) } }

theorem State.keepsRegs_bneRuns (s : State) (c : BneCommand) : s.keepsRegs (s.bneRuns c) [Reg.BNE_STATUS] :=
  State.keepsRegs_showBne { s.bneTaken c with bne := { (s.bneTaken c).bne with running := some (c, false) } }

theorem State.bneChosen_of_first {s : State} {c : BneCommand} {rest : List BneCommand} (hpending : s.bne.pending = c :: rest)
    (hnone : ∀ d ∈ s.bne.pending, d.port ≠ s.bne.next) : s.bneChosen = some c := by
  have hfind : s.bne.pending.find? (·.port == s.bne.next) = none :=
    List.find?_eq_none.mpr fun d hd => by simpa using hnone d hd
  rw [State.bneChosen, hfind, hpending]
  rfl

theorem State.bneChosen_of_single {s : State} {c : BneCommand} (hpending : s.bne.pending = [c]) : s.bneChosen = some c := by
  rw [State.bneChosen, hpending, List.find?_singleton]
  cases c.port == s.bne.next <;> rfl

/-! ### Validation and results -/

/-- Two states with the same registers, but for the count of corrected errors, and the same anchors. -/
structure State.SameOperands (s t : State) : Prop where
  regs : s.keepsRegs t [Reg.BNE_ECCCNT]
  cry : t.cry = s.cry

section
variable {s t : State} (h : s.SameOperands t)
include h

theorem State.SameOperands.slotWord32 (slot i : Nat) : t.slotWord32 slot i = s.slotWord32 slot i :=
  h.regs _ (by simp only [Reg.BNE_OPMEM, Reg.BNE_ECCCNT, List.mem_singleton]; omega)

theorem State.SameOperands.slotNumber (slot i w : Nat) : t.slotNumber slot i w = s.slotNumber slot i w := by
  rw [State.slotNumber, State.slotNumber]
  simp only [h.slotWord32]

theorem State.SameOperands.slotBytes (slot n : Nat) : t.slotBytes slot n = s.slotBytes slot n := by
  rw [State.slotBytes, State.slotBytes]
  simp only [h.slotWord32]

theorem State.SameOperands.anchorOf (e : Nat) (types : List Nat) : t.anchorOf e types = s.anchorOf e types := by
  rw [State.anchorOf, h.cry, State.anchorOf]

theorem State.SameOperands.uHeader : t.uHeader = s.uHeader := by
  have hword : ∀ i, t.rd (Reg.BNE_UHDR i) = s.rd (Reg.BNE_UHDR i) := fun i =>
    h.regs _ (by simp only [Reg.BNE_UHDR, Reg.BNE_ECCCNT, List.mem_singleton]; omega)
  rw [State.uHeader, State.uHeader]
  simp only [hword]

theorem State.SameOperands.uStore (n : Nat) : t.uStore n = s.uStore n := by
  have hword : ∀ i, t.rd (Reg.BNE_UCODE i) = s.rd (Reg.BNE_UCODE i) := fun i =>
    h.regs _ (by simp only [Reg.BNE_UCODE, Reg.BNE_ECCCNT, List.mem_singleton]; omega)
  rw [State.uStore, State.uStore]
  simp only [hword]

theorem State.SameOperands.bnePoint (c : BneCommand) : t.bnePoint c = s.bnePoint c := by
  rw [State.bnePoint, State.bnePoint]
  simp only [h.anchorOf, h.slotNumber]

theorem State.SameOperands.bneEncoding (c : BneCommand) : t.bneEncoding c = s.bneEncoding c := by
  rw [State.bneEncoding, State.bneEncoding]
  simp only [h.anchorOf, h.slotNumber]

theorem State.SameOperands.uKey : t.uKey = s.uKey := by
  rw [State.uKey, h.anchorOf, State.uKey]

theorem State.SameOperands.uSig : t.uSig = s.uSig := by
  rw [State.uSig, h.uHeader, State.uSig]

theorem State.SameOperands.uDigest : t.uDigest = s.uDigest := by
  rw [State.uDigest, State.uField, h.uHeader, h.uStore, State.uDigest, State.uField]

theorem State.SameOperands.bneResult (c : BneCommand) : t.bneResult c = s.bneResult c := by
  unfold State.bneResult
  simp only [h.slotNumber, h.slotBytes, h.anchorOf, h.bnePoint, h.bneEncoding, h.uKey, h.uSig, h.uDigest]

end

/-- A status that depends on a condition. -/
theorem ite_status_lt (p : Prop) [Decidable p] {a b : Nat} (x : Option (Nat × Nat)) (ha : a < 256) (hb : b < 256) :
    (if p then a else b, x).1 < 256 := by
  dsimp only
  split
  · exact ha
  · exact hb

theorem State.bneResult_lt (s : State) (c : BneCommand) : (s.bneResult c).1 < 256 := by
  unfold State.bneResult
  extract_lets cv pt m a b
  clear_value cv pt m a b
  split
  · exact ite_status_lt _ _ (by decide) (by decide)
  · split
    · exact ite_status_lt _ _ (by decide) (by decide)
    · decide
  · exact (by decide : 0 < 256)
  · split
    · exact ite_status_lt _ _ (by decide) (by decide)
    · decide
  · exact (by decide : 0 < 256)
  · exact (by decide : 0 < 256)
  · split
    · exact (by decide : 0 < 256)
    · decide
  · exact (by decide : 0 < 256)
  · exact ite_status_lt _ _ (by decide) (by decide)
  · decide

end Sys2Proof.Machine
end
section
/-!
The ends of the engine's commands, and its microcode.
-/
namespace Sys2Proof.Machine

/-! ### Validation ended, commands done -/

theorem exec_bneValidationEnd_of_failed {s : State} {c : BneCommand} {e : Nat} (hrun : s.bne.running = some (c, false))
    (hfail : s.bneValidate c = some e) : exec .bneValidationEnd s = .next (s.bneEnd c e (s.bneValidation c)) := by
  change execBneValidationEnd s = _
  rw [execBneValidationEnd, hrun]
  dsimp only
  rw [hfail]

/-- A command that goes on with its outputs undefined. -/
def State.bneValidated (s : State) (c : BneCommand) : State :=
  let t := c.outputs.foldl State.scribble s
  { t with bne := { t.bne with running := some (c, true) } }

theorem exec_bneValidationEnd_of_passed {s : State} {c : BneCommand} (hrun : s.bne.running = some (c, false))
    (hpass : s.bneValidate c = none) : exec .bneValidationEnd s = .next (s.bneValidated c) := by
  change execBneValidationEnd s = _
  rw [execBneValidationEnd, hrun]
  dsimp only
  rw [hpass]
  rfl

theorem State.bne_bneValidated (s : State) (c : BneCommand) :
    (s.bneValidated c).bne = { s.bne with running := some (c, true) } := by
  obtain ⟨m, k, h⟩ := s.scribbled_frame c.outputs
  rw [State.bneValidated, h]

/-- The errors that a command corrected, counted. -/
def State.eccCounted (s : State) (corrected : Nat) : State := s.bump Reg.BNE_ECCCNT 0 32 corrected

theorem State.keepsRegs_eccCounted (s : State) (corrected : Nat) : s.keepsRegs (s.eccCounted corrected) [Reg.BNE_ECCCNT] :=
  State.keepsRegs.bump (o := Reg.BNE_ECCCNT) .refl

theorem State.sameOperands_eccCounted (s : State) (corrected : Nat) : s.SameOperands (s.eccCounted corrected) :=
  ⟨s.keepsRegs_eccCounted corrected, rfl⟩

theorem exec_bneCommandDone_of_clean {s : State} {c : BneCommand} (corrected : Nat) (hrun : s.bne.running = some (c, true))
    (hclean : s.bnePoisoned c = none) : exec (.bneCommandDone corrected none) s = .next ((s.eccCounted corrected).bneFinish c) := by
  change execBneCommandDone corrected none s = _
  rw [execBneCommandDone, hrun]
  dsimp only
  rw [hclean]
  rfl

theorem exec_bneCommandDone_of_bad {s : State} {c : BneCommand} {v : Bool} (corrected : Nat) (a : Fin 98304)
    (hrun : s.bne.running = some (c, v)) :
    exec (.bneCommandDone corrected (some a)) s = .next ((s.eccCounted corrected).bneEcc c v (0x8000 + a.val)) := by
  change execBneCommandDone corrected (some a) s = _
  rw [execBneCommandDone, hrun]
  rfl

/-- The state in which a command's result is written: a duration drawn where it is open, the outputs undefined. -/
def State.bneOpened (s : State) (c : BneCommand) : State :=
  c.outputs.foldl State.scribble (s.drawnBetween (s.bneDuration c).1 (s.bneDuration c).2)

/-- The result written. -/
def State.resultWritten (s : State) (c : BneCommand) : Option (Nat × Nat) → State
  | some (v, k) => s.writeSlot c.sd k v
  | none => s

theorem State.bneFinish_of_op {c : BneCommand} (s : State) (hop : c.op ≠ 0xF) :
    s.bneFinish c = ((s.bneOpened c).resultWritten c (s.bneResult c).2).bneEnd c (s.bneResult c).1
      (s.freeBetween (s.bneDuration c).1 (s.bneDuration c).2) := by
  unfold State.bneFinish
  dsimp only
  rw [if_neg fun h => hop h.1]
  cases (s.bneResult c).2 <;> rfl

theorem State.keepsControl_bneOpened (s : State) (c : BneCommand) : s.keepsControl (s.bneOpened c) := by
  refine .trans (fun o _ => ?_) (State.keepsControl_scribbled _ _)
  unfold State.drawnBetween
  split <;> rfl

theorem State.keepsControl_resultWritten (s : State) (c : BneCommand) (r : Option (Nat × Nat)) :
    s.keepsControl (s.resultWritten c r) := by
  cases r with
  | none => exact fun _ _ => rfl
  | some x => exact s.keepsControl_writeSlot c.sd x.2 x.1

theorem State.rd_of_keepsControl {s t : State} (h : s.keepsControl t) {p : Nat} (hp : p < 2) :
    t.rd (Reg.BNE_P_RES p) = s.rd (Reg.BNE_P_RES p) :=
  h _ (by simp only [Reg.BNE_P_RES]; omega)

theorem res_ne_eccCnt (p : Nat) : Reg.BNE_P_RES p ∉ [Reg.BNE_ECCCNT] := by
  simp only [Reg.BNE_P_RES, Reg.BNE_ECCCNT, List.mem_singleton]
  omega

theorem State.slotNumber_bneEnd (s : State) {c : BneCommand} (hp : c.port < 2) (status ns slot i w : Nat) :
    (s.bneEnd c status ns).slotNumber slot i w = s.slotNumber slot i w := by
  have hword : ∀ j, (s.bneEnd c status ns).slotWord32 slot j = s.slotWord32 slot j := fun j =>
    s.keepsRegs_bneEnd c status ns _ (opmem_notMem_endRegs hp _)
  rw [State.slotNumber, State.slotNumber]
  simp only [hword]

/-! ### Uncorrectable errors -/

/-- The error reported and marked, the outputs undefined where validation had ended. -/
def State.eccMarked (s : State) (c : BneCommand) (validated : Bool) (addr : Nat) : State :=
  ((if validated then c.outputs.foldl State.scribble s.drawn else s.drawn).eccReport memBne addr).markBne addr

/-- The command ended with ECC. -/
def State.eccEnded (s : State) (c : BneCommand) (validated : Bool) (addr : Nat) : State :=
  ((s.eccMarked c validated addr).bneEnd c 0x0C (s.draw.toNat % 2 ^ 32)).raise 173

theorem State.bneEcc_eq (s : State) (c : BneCommand) (validated : Bool) (addr : Nat) :
    s.bneEcc c validated addr =
      if 0x10000 ≤ addr ∧ c.op ≠ Bne.uCheck then (s.eccEnded c validated addr).uInvalid else s.eccEnded c validated addr := rfl

theorem State.keepsRegs_eccReport (s : State) (mem addr : Nat) :
    s.keepsRegs (s.eccReport mem addr) [Reg.REL_ECC_UNC, Reg.REL_STICKY, Reg.REL_LOG_LOST] := by
  have hreported : s.keepsRegs (((s.bump Reg.REL_ECC_UNC 0 32).setFlag Reg.REL_STICKY 0 true).report 226 (BitVec.ofNat 32 mem)
      (BitVec.ofNat 32 addr) (BitVec.ofNat 64 addr)) [Reg.REL_ECC_UNC, Reg.REL_STICKY, Reg.REL_LOG_LOST] :=
    State.keepsRegs.logEntry (.raise (.setFlag (o := Reg.REL_STICKY) (.bump (o := Reg.REL_ECC_UNC) .refl))) _
  exact hreported.trans (State.keepsRegs.mono (State.keepsRegs_startTest _ _ _) (by simp))

theorem State.res_eccMarked (s : State) (c : BneCommand) (validated : Bool) (addr : Nat) {p : Nat} (hp : p < 2) :
    (s.eccMarked c validated addr).rd (Reg.BNE_P_RES p) = s.rd (Reg.BNE_P_RES p) := by
  refine (State.keepsRegs_eccReport _ _ _ _ ?_).trans ?_
  · simp only [Reg.BNE_P_RES, Reg.REL_ECC_UNC, Reg.REL_STICKY, Reg.REL_LOG_LOST, List.mem_cons, List.not_mem_nil, or_false, not_or]
    omega
  · cases validated with
    | false => rfl
    | true => exact State.rd_of_keepsControl (State.keepsControl_scribbled s.drawn c.outputs) hp

theorem State.eccEnded_completed (s : State) {c : BneCommand} (validated : Bool) (addr : Nat) (hp : c.port < 2) :
    s.Completed (s.eccEnded c validated addr) c.port 0x0C :=
  ((State.bneEnd_completed _ c 0x0C _).before (s.res_eccMarked c validated addr hp)).after rfl fun _ hr => List.mem_append_left _ hr

theorem State.running_eccEnded (s : State) (c : BneCommand) (validated : Bool) (addr : Nat) :
    (s.eccEnded c validated addr).bne.running = none := congrArg BneState.running (State.bne_bneEnd ..)

theorem State.raised_eccEnded (s : State) (c : BneCommand) (validated : Bool) (addr : Nat) :
    ⟨173, 0, 0⟩ ∈ (s.eccEnded c validated addr).raised := List.mem_append_right _ (List.mem_singleton_self _)

/-! ### Microcode -/

/-- A word of the microcode's header or store. -/
def ucodeOff (header : Bool) (n : Fin 16384) : Nat := if header then Reg.BNE_UHDR (n.val % 64) else Reg.BNE_UCODE n.val

theorem ucodeOff_ne (header : Bool) (n : Fin 16384) : ucodeOff header n ≠ Reg.BNE_STATUS ∧ ucodeOff header n ≠ Reg.BNE_UINFO := by
  cases header with
  | false =>
    change Reg.BNE_UCODE n.val ≠ Reg.BNE_STATUS ∧ Reg.BNE_UCODE n.val ≠ Reg.BNE_UINFO
    simp only [Reg.BNE_UCODE, Reg.BNE_STATUS, Reg.BNE_UINFO]
    omega
  | true =>
    change Reg.BNE_UHDR (n.val % 64) ≠ Reg.BNE_STATUS ∧ Reg.BNE_UHDR (n.val % 64) ≠ Reg.BNE_UINFO
    simp only [Reg.BNE_UHDR, Reg.BNE_STATUS, Reg.BNE_UINFO]
    omega

theorem exec_ucodeWrite_of_opens {s : State} {ag : Agent} {header : Bool} {n : Fin 16384} {v : Word}
    (ho : s.opens ag (ucodeOff header n) = true) :
    exec (.ucodeWrite ag header n v) s = .next (s.writeUcode ag (ucodeOff header n) v) :=
  congrArg Host.Outcome.next (State.writeAccess_opens _ _ _ _ _ ho)

theorem State.writeUcode_of_core {s : State} {ag : Agent} (off : Nat) (v : Word) (hcore : isHost ag = false)
    (hidle : s.bne.running = none) :
    s.writeUcode ag off v = if s.uValid then (s.bneStore off v).uInvalid else s.bneStore off v := by
  rw [State.writeUcode, if_neg (by simp [hcore]), if_neg (by simp [hidle])]

theorem State.keepsRegs_bneStore (s : State) (off : Nat) (v : Word) : s.keepsRegs (s.bneStore off v) [off] :=
  .of_regs (State.keepsRegs.wr .refl (List.mem_singleton_self _))

theorem State.rd_bneStore (s : State) (off : Nat) (v : Word) : (s.bneStore off v).rd off = v := State.rd_wr_same ..

/-- A service core's write of microcode. -/
theorem State.writeUcode_spec {s : State} {ag : Agent} {off : Nat} (v : Word) (hcore : isHost ag = false)
    (hidle : s.bne.running = none) (hstatus : off ≠ Reg.BNE_STATUS) (hinfo : off ≠ Reg.BNE_UINFO) :
    (s.writeUcode ag off v).rd off = v ∧ (s.writeUcode ag off v).uValid = false ∧
      (s.uValid = true → (⟨171, 0, 0⟩ : Raise) ∈ (s.writeUcode ag off v).raised) ∧
      s.keepsRegs (s.writeUcode ag off v) [off, Reg.BNE_STATUS, Reg.BNE_UINFO] := by
  have hstore : s.keepsRegs (s.bneStore off v) [off, Reg.BNE_STATUS, Reg.BNE_UINFO] :=
    State.keepsRegs.mono (s.keepsRegs_bneStore off v) (by simp)
  rw [State.writeUcode_of_core off v hcore hidle]
  cases hvalid : s.uValid with
  | false =>
    rw [if_neg Bool.false_ne_true]
    refine ⟨s.rd_bneStore off v, ?_, fun h => absurd h Bool.false_ne_true, hstore⟩
    rw [State.uValid, State.flag, s.keepsRegs_bneStore off v _ (by simpa using hstatus.symm)]
    exact hvalid
  | true =>
    rw [if_pos rfl]
    refine ⟨?_, State.uValid_uInvalid _, fun _ => List.mem_append_right _ (List.mem_singleton_self _),
      hstore.trans (State.keepsRegs.mono (State.keepsRegs_uInvalid _) (by simp))⟩
    rw [State.keepsRegs_uInvalid _ _ (by simp [hstatus, hinfo])]
    exact s.rd_bneStore off v

theorem bitsAt_ofNat_min (n : Nat) : bitsAt (BitVec.ofNat 32 (min n (2 ^ 32 - 1))) 0 32 = min n (2 ^ 32 - 1) := by
  have hle : min n (2 ^ 32 - 1) < 2 ^ 32 := lt_of_le_of_lt (Nat.min_le_right ..) (by decide)
  rw [bitsAt, BitVec.toNat_ofNat, pow_zero, Nat.div_one, Nat.mod_mod, Nat.mod_eq_of_lt hle]

/-! ### The obligation -/

/-- Settles O50: the port through what a command's end leaves in it, results through the words of a slot, MODEXP and MODINV by
induction on the exponent's bits and on Euclid's steps. -/
theorem bigNumberCommands : Obligations.BigNumberCommands := by
  refine ⟨fun s ag p v k op hk ho hown hfree hon hpd => ?_, fun s ag p v k op hk ho hown hbusy => ?_,
    fun s c hidle hpd hreset hfind hcode => ?_, fun s c rest hidle hpd hreset hpending hnone hcode => ?_,
    fun s c hidle hpd hreset hpending hinvalid hrom hport => ?_, fun s c e hrun hfail hport => ?_,
    fun s c hrun hpass => ?_, fun s c corrected hrun hclean hport hop => ?_, fun s c corrected v a hrun hport => ?_,
    fun _ _ _ _ he => powMod_eq he, fun _ _ _ hm _ hn hgcd => mul_invMod hm hn hgcd, fun s ag h n v => ?_,
    fun s ag h n v => ?_, fun s ag h n v => ?_⟩
  · obtain ⟨hexec, hop⟩ := exec_submission s hk
    rw [State.bneCommand_of_owner v op ho hown] at hexec
    have hkeeps := s.keepsRegs_cmdWritten p v op
    have hctl : ∀ o, o < 0xB00020 → o ∉ [Reg.BNE_P_CMD0 p.val] := fun o h => by
      simp only [Reg.BNE_P_CMD0, List.mem_singleton]
      omega
    have hother : ∀ o ∈ [Reg.BNE_P_CMD1 p.val, Reg.BNE_P_RES p.val], o ∉ [Reg.BNE_P_CMD0 p.val] := fun o h => by
      simp only [Reg.BNE_P_CMD0, Reg.BNE_P_CMD1, Reg.BNE_P_RES, List.mem_cons, List.not_mem_nil, or_false] at h ⊢
      omega
    have hcmd1 : (s.cmdWritten p v op).rd (Reg.BNE_P_CMD1 p.val) = s.rd (Reg.BNE_P_CMD1 p.val) := hkeeps _ (hother _ (by simp))
    refine ⟨s.op_cmdWritten p v hop _, fun hform hcode => ?_⟩
    have hform' : ((s.cmdWritten p v op).bnePort p.val).wellFormed = true := by
      rw [State.bnePort, hcmd1]
      exact hform
    have hcode' : (s.cmdWritten p v op).uValid = true ∨ ((s.cmdWritten p v op).bnePort p.val).inRom = true := by
      rw [State.uValid, State.flag_of_keepsRegs hkeeps 4 (hctl _ (by decide)), State.bnePort, hcmd1]
      exact hcode
    rw [State.bneSubmit_of_free ((State.flag_of_keepsRegs hkeeps 31 (hother _ (by simp))).trans hfree)
      ((State.flag_of_keepsRegs hkeeps 0 (hctl _ (by decide))).trans hon)
      ((State.pd_of_keepsRegs hkeeps (hctl _ (by decide))).trans hpd) hform' hcode'] at hexec
    have hframe := State.bneQueued_frame (s.cmdWritten p v op) p.val
    have hbne : ((s.cmdWritten p v op).bneQueued p.val).bne = { s.bne with pending := s.bne.pending ++
        [⟨p.val, (s.cmdWritten p v op).rd (Reg.BNE_P_CMD0 p.val), s.rd (Reg.BNE_P_CMD1 p.val)⟩] } := by
      have hsame : (s.cmdWritten p v op).bne = s.bne := by rw [s.cmdWritten_frame p v op]
      rw [hframe]
      change { (s.cmdWritten p v op).bne with
        pending := (s.cmdWritten p v op).bne.pending ++ [(s.cmdWritten p v op).bnePort p.val] } = _
      rw [hsame, State.bnePort, hcmd1]
    refine ⟨_, hexec, hbne, State.busy_bneQueued _ _, ?_, ?_⟩
    · exact .trans (State.keepsRegs.mono hkeeps (by simp)) (State.keepsRegs.mono (State.keepsRegs_bneQueued _ _) (by simp))
    · rw [hframe, s.cmdWritten_frame p v op]
  · obtain ⟨hexec, -⟩ := exec_submission s hk
    have hkeeps := s.keepsRegs_cmdWritten p v op
    have hres : Reg.BNE_P_RES p.val ∉ [Reg.BNE_P_CMD0 p.val] := by
      simp only [Reg.BNE_P_CMD0, Reg.BNE_P_RES, List.mem_singleton]
      omega
    rw [State.bneCommand_of_owner v op ho hown,
      State.bneSubmit_of_busy ((State.flag_of_keepsRegs hkeeps 31 hres).trans hbusy)] at hexec
    refine ⟨_, hexec, ?_, ?_, ?_⟩
    · rw [State.SameButRaises.error (State.SameButRaises.refl (s := s.cmdWritten p v op)), s.cmdWritten_frame p v op]
    · unfold State.error
      split
      · assumption
      · exact State.flag_setFlag _ Reg.BNE_ERR 2 true (by decide)
    · have herror : (s.cmdWritten p v op).keepsRegs ((s.cmdWritten p v op).error Reg.BNE_ERR 2 174) [Reg.BNE_ERR] := .error .refl
      refine (herror _ ?_).trans (hkeeps _ hres)
      simp only [Reg.BNE_P_RES, Reg.BNE_ERR, List.mem_singleton]
      omega
  · have hchosen : s.bneChosen = some c := by rw [State.bneChosen, hfind]
    have hframe := s.bneRuns_frame c
    refine ⟨_, exec_bneCommandStart_of_code hidle hpd hreset hchosen hcode, by rw [hframe], State.flag_showBne _,
      s.keepsRegs_bneRuns c, by rw [hframe]⟩
  · have hframe := s.bneRuns_frame c
    refine ⟨_, exec_bneCommandStart_of_code hidle hpd hreset (State.bneChosen_of_first hpending hnone) hcode, ?_, ?_⟩
    · rw [hframe]
    · rw [hframe]
  · have hexec := exec_bneCommandStart_of_chosen hidle hpd hreset (State.bneChosen_of_single hpending)
    rw [if_pos ⟨hinvalid, hrom⟩] at hexec
    have hend : (s.bneTaken c).Completed (((s.bneTaken c).bneRefuse c.port 0x0A).showBne) c.port 0x0A :=
      (State.Completed.before (s := s.bneTaken c) (State.bneComplete_completed (s.bneTaken c).drawn c.port 0x0A _) rfl).showBne
    have hbne : (((s.bneTaken c).bneRefuse c.port 0x0A).showBne).bne = (s.bneTaken c).bne := by
      rw [State.showBne_frame, State.bneRefuse, State.bneComplete_frame]
      rfl
    refine ⟨_, hexec, ?_, ?_, hend.done, hend.status, hend.seq⟩
    · rw [hbne]
      exact hidle
    · rw [hbne, State.bneTaken, hpending]
      simp
  · have hend := s.bneEnd_completed c e (s.bneValidation c)
    refine ⟨_, exec_bneValidationEnd_of_failed hrun hfail, by rw [State.bne_bneEnd], hend.done, hend.status, hend.seq, hend.event,
      ?_, fun hop he => ?_, fun j _ => s.keepsRegs_bneEnd c e _ _ (opmem_notMem_endRegs hport j)⟩
    · rw [State.fld, s.rd_time_bneEnd, bitsAt_ofNat_min]
    · rw [s.bneEnd_eq, if_pos ⟨hop, he⟩]
      exact State.uValid_uInvalid _
  · refine ⟨_, exec_bneValidationEnd_of_passed hrun hpass, s.bne_bneValidated c, fun slot j hslot hj hout => ?_⟩
    refine State.rd_scribbled s fun o ho i hi => ?_
    have hne : slot ≠ o := ne_of_mem_of_not_mem ho hout |>.symm
    simp only [Reg.BNE_OPMEM]
    omega
  · have hexec := exec_bneCommandDone_of_clean corrected hrun hclean
    have hresult := (s.sameOperands_eccCounted corrected).bneResult c
    rw [State.bneFinish_of_op _ hop, hresult] at hexec
    have hend := State.bneEnd_completed (((s.eccCounted corrected).bneOpened c).resultWritten c (s.bneResult c).2) c (s.bneResult c).1
      ((s.eccCounted corrected).freeBetween ((s.eccCounted corrected).bneDuration c).1 ((s.eccCounted corrected).bneDuration c).2)
    have hcontrol := (State.keepsControl_bneOpened (s.eccCounted corrected) c).trans
      (State.keepsControl_resultWritten _ c (s.bneResult c).2)
    have hend' := hend.before ((State.rd_of_keepsControl hcontrol hport).trans
      (s.keepsRegs_eccCounted corrected _ (res_ne_eccCnt _)))
    refine ⟨_, hexec, by rw [State.bne_bneEnd], hend'.done, hend'.status.trans (Nat.mod_eq_of_lt (s.bneResult_lt c)), hend'.seq,
      hend'.event, fun v k hv _ => ?_⟩
    rw [State.slotNumber_bneEnd _ hport, hv]
    exact State.slotNumber_writeSlot ..
  · have hexec := exec_bneCommandDone_of_bad corrected a hrun
    have hend := ((s.eccCounted corrected).eccEnded_completed v (0x8000 + a.val) hport).before
      (s.keepsRegs_eccCounted corrected _ (res_ne_eccCnt _))
    have hrunning := (s.eccCounted corrected).running_eccEnded c v (0x8000 + a.val)
    have hraised := (s.eccCounted corrected).raised_eccEnded c v (0x8000 + a.val)
    rw [State.bneEcc_eq] at hexec
    by_cases hstore : 0x10000 ≤ 0x8000 + a.val ∧ c.op ≠ Bne.uCheck
    · rw [if_pos hstore] at hexec
      have hend' := hend.uInvalid
      exact ⟨_, hexec, hrunning, hend'.done, hend'.status, hend'.seq, List.mem_append_left _ hraised,
        fun _ => .inl (State.uValid_uInvalid _)⟩
    · rw [if_neg hstore] at hexec
      refine ⟨_, hexec, hrunning, hend.done, hend.status, hend.seq, hraised, fun ha => .inr ?_⟩
      by_contra hop
      exact hstore ⟨by omega, hop⟩
  · intro off ho hcore hidle
    obtain ⟨hstatus, hinfo⟩ := ucodeOff_ne h n
    exact ⟨_, exec_ucodeWrite_of_opens ho, State.writeUcode_spec v hcore hidle hstatus hinfo⟩
  · intro off ho hhost
    exact (exec_ucodeWrite_of_opens ho).trans (congrArg Host.Outcome.next (if_pos hhost))
  · intro off ho hcore hrunning
    refine (exec_ucodeWrite_of_opens ho).trans (congrArg Host.Outcome.next ((if_neg (by simp [hcore])).trans (if_pos ?_)))
    exact Option.isSome_iff_ne_none.mpr hrunning

end Sys2Proof.Machine
end

section
/-!
Events and messages (R370 to R377): rings read after they are written, records queued or lost, and vectors that send.
-/
namespace Sys2Proof.Machine

/-! ### Rings and domains -/

theorem State.ring_setRing_same (s : State) (r : Nat) (x : RingState) : (s.setRing r x).ring r = x := by
  rw [State.ring, State.setRing, sparseGet_set, if_pos rfl]

theorem State.ring_setRing_ne (s : State) {r q : Nat} (x : RingState) (h : q ≠ r) : (s.setRing r x).ring q = s.ring q := by
  rw [State.ring, State.setRing, sparseGet_set, if_neg h, State.ring]

theorem State.dma_dmaSticky (s : State) (b : Nat) : (s.dmaSticky b).dma = s.dma := by
  rw [State.dmaSticky, State.SameButRaises.sticky (State.SameButRaises.refl (s := s))]

theorem State.ring_dmaSticky (s : State) (b r : Nat) : (s.dmaSticky b).ring r = s.ring r := by
  rw [State.ring, s.dma_dmaSticky, State.ring]

theorem State.flag_dmaSticky (s : State) {b : Nat} (h : b < 32) : (s.dmaSticky b).flag Reg.DMA_STICKY b = true :=
  State.flag_sticky h

theorem State.pdUp_of_keepsRegs {s t : State} {l : List Nat} (h : s.keepsRegs t l) (hcpm : t.cpm = s.cpm) {d : Nat}
    (hd : Reg.CPM_PD_CTL d ∉ l) (hmode : Reg.GCTL_STATUS ∉ l) : t.pdUp d = s.pdUp d := by
  rw [State.pdUp, State.pd_of_keepsRegs h hd, State.mode, State.fld, h _ hmode, hcpm, State.pdUp, State.mode, State.fld]

/-! ### Raises accepted -/

/-- The RAW bit of a raise set. -/
def State.rawSet (s : State) (r : Raise) : State := s.setFlag (Reg.EVT_RAW (r.src / 32)) (r.src % 32) true

/-- The record of a raise. -/
def State.recordOf (s : State) (r : Raise) : EventRecord :=
  ⟨ct96OfCount (s.replica replicaCores).count, r.src, r.data0, r.data1,
    if s.flag (Reg.EVT_SRC r.src) 29 then some (s.fld (Reg.EVT_SRC r.src) 0 7) else none⟩

/-- The ring that takes the record of a raise. -/
def State.recordRing (s : State) (r : Raise) : Nat := s.fld (Reg.EVT_SRC r.src) 24 2

/-- The record queued where the source asks for one. -/
def State.recordQueued (s : State) (r : Raise) : State :=
  if s.flag (Reg.EVT_SRC r.src) 30 then (s.rawSet r).queueRecord (s.recordRing r) (s.recordOf r) else s.rawSet r

/-- The vector set pending where the source asks for it. -/
def State.vectorSet (s t : State) (r : Raise) : State :=
  if s.flag (Reg.EVT_SRC r.src) 29 then t.pend (s.fld (Reg.EVT_SRC r.src) 0 7) else t

theorem State.acceptRaise_of_off {s : State} {r : Raise} (h : s.flag Reg.EVT_CTRL 0 = false ∨ s.flag (Reg.EVT_SRC r.src) 31 = false) :
    s.acceptRaise r = s.rawSet r := if_pos h

theorem State.acceptRaise_of_on {s : State} {r : Raise} (hon : s.flag Reg.EVT_CTRL 0 = true)
    (hsrc : s.flag (Reg.EVT_SRC r.src) 31 = true) : s.acceptRaise r = s.vectorSet (s.recordQueued r) r :=
  if_neg (by simp [hon, hsrc])

theorem exec_eventRaise_of_up {s : State} {r : Raise} {rest : List Raise} (hraised : s.raised = r :: rest)
    (hup : s.pdUp PD_FABRIC = true) : exec .eventRaise s = .next ({ s with raised := rest }.acceptRaise r) := by
  change execEventRaise s = _
  rw [execEventRaise, hraised]
  exact congrArg Host.Outcome.next (if_pos hup)

theorem State.keepsRegs_loseRecord (s : State) (e : Nat) : s.keepsRegs (s.loseRecord e) [Reg.DMA_CNT_EVLOST, Reg.DMA_STICKY] :=
  .of_regs (.sticky (o := Reg.DMA_STICKY) (.bump (o := Reg.DMA_CNT_EVLOST) .refl))

theorem State.keepsRegs_queueRecord (s : State) (e : Nat) (x : EventRecord) :
    s.keepsRegs (s.queueRecord e x) [Reg.DMA_CNT_EVLOST, Reg.DMA_STICKY] := by
  unfold State.queueRecord
  exact .ite .refl (.ite (s.keepsRegs_loseRecord e) (.of_regs .refl))

theorem State.keepsRegs_pend (s : State) (v : Nat) : s.keepsRegs (s.pend v) [Reg.MSIX_PBA (v / 32)] :=
  .ite (.setFlag .refl (List.mem_singleton_self _)) .refl

theorem State.cpm_loseRecord (s : State) (e : Nat) : (s.loseRecord e).cpm = s.cpm := by
  have h : s.SameButRaises ((s.bump Reg.DMA_CNT_EVLOST 0 32).dmaSticky 7) := .sticky (.bump .refl)
  change ((s.bump Reg.DMA_CNT_EVLOST 0 32).dmaSticky 7).cpm = s.cpm
  rw [h]

theorem State.cpm_queueRecord (s : State) (e : Nat) (x : EventRecord) : (s.queueRecord e x).cpm = s.cpm := by
  unfold State.queueRecord
  dsimp only
  split
  · rfl
  · split
    · exact s.cpm_loseRecord e
    · rfl

theorem State.raw_recordQueued (s : State) (r : Raise) :
    (s.recordQueued r).flag (Reg.EVT_RAW (r.src / 32)) (r.src % 32) = true := by
  have hraw : (s.rawSet r).flag (Reg.EVT_RAW (r.src / 32)) (r.src % 32) = true := State.flag_setFlag _ _ _ _ (by omega)
  unfold State.recordQueued
  split
  · refine (State.flag_of_keepsRegs (State.keepsRegs_queueRecord _ _ _) _ ?_).trans hraw
    simp only [Reg.EVT_RAW, Reg.DMA_CNT_EVLOST, Reg.DMA_STICKY, List.mem_cons, List.not_mem_nil, or_false, not_or]
    omega
  · exact hraw

theorem vec_lt (s : State) (o : Nat) : s.fld o 0 7 / 32 < 4 := by
  have := s.fld_lt o 0 7
  omega

theorem State.raw_acceptRaise (s : State) (r : Raise) :
    (s.acceptRaise r).flag (Reg.EVT_RAW (r.src / 32)) (r.src % 32) = true := by
  by_cases hoff : s.flag Reg.EVT_CTRL 0 = false ∨ s.flag (Reg.EVT_SRC r.src) 31 = false
  · rw [State.acceptRaise_of_off hoff]
    exact State.flag_setFlag _ _ _ _ (by omega)
  · obtain ⟨hon, hsrc⟩ := not_or.mp hoff
    rw [State.acceptRaise_of_on (by simpa using hon) (by simpa using hsrc), State.vectorSet]
    split
    · refine (State.flag_of_keepsRegs (State.keepsRegs_pend _ _) _ ?_).trans (s.raw_recordQueued r)
      have := vec_lt s (Reg.EVT_SRC r.src)
      simp only [Reg.EVT_RAW, Reg.MSIX_PBA, List.mem_singleton]
      omega
    · exact s.raw_recordQueued r

theorem State.pdUp_rawSet (s : State) (r : Raise) : (s.rawSet r).pdUp PD_PCIE = s.pdUp PD_PCIE := by
  refine State.pdUp_of_keepsRegs (l := [Reg.EVT_RAW (r.src / 32)]) (.setFlag .refl (List.mem_singleton_self _)) rfl ?_ ?_
  · simp only [Reg.EVT_RAW, Reg.CPM_PD_CTL, PD_PCIE, List.mem_singleton]
    omega
  · simp only [Reg.EVT_RAW, Reg.GCTL_STATUS, List.mem_singleton]
    omega

theorem State.pdUp_recordQueued (s : State) (r : Raise) : (s.recordQueued r).pdUp PD_PCIE = s.pdUp PD_PCIE := by
  have hraw := s.pdUp_rawSet r
  unfold State.recordQueued
  split
  · exact (State.pdUp_of_keepsRegs (State.keepsRegs_queueRecord _ _ _) (State.cpm_queueRecord _ _ _) (by decide) (by decide)).trans hraw
  · exact hraw

theorem State.ring_vectorSet (s t : State) (r : Raise) (q : Nat) : (s.vectorSet t r).ring q = t.ring q := by
  unfold State.vectorSet State.pend
  split
  · split <;> rfl
  · rfl

theorem State.vecPending_pend {s : State} {v : Nat} (hup : s.pdUp PD_PCIE = true) : (s.pend v).vecPending v = true := by
  rw [State.pend, if_pos hup]
  exact State.flag_setFlag _ _ _ _ (Nat.mod_lt _ (by decide))

theorem State.vecPending_vectorSet {s t : State} {r : Raise} (hirq : s.flag (Reg.EVT_SRC r.src) 29 = true)
    (hup : t.pdUp PD_PCIE = true) : (s.vectorSet t r).vecPending (s.fld (Reg.EVT_SRC r.src) 0 7) = true := by
  rw [State.vectorSet, if_pos hirq]
  exact State.vecPending_pend hup

theorem State.keepsRegs_vectorSet (s t : State) (r : Raise) :
    t.keepsRegs (s.vectorSet t r) [Reg.MSIX_PBA (s.fld (Reg.EVT_SRC r.src) 0 7 / 32)] := .ite (t.keepsRegs_pend _) .refl

/-! ### Records queued -/

theorem State.queueRecord_of_room {s : State} {e : Nat} (x : EventRecord) (hup : s.pdUp PD_PCIE = true)
    (hst : (s.ring (64 + e)).st ≠ ringDisabled) (hroom : (s.ring (64 + e)).events.length < 256) :
    s.queueRecord e x = s.setRing (64 + e) { s.ring (64 + e) with events := (s.ring (64 + e)).events ++ [x] } := by
  unfold State.queueRecord
  dsimp only
  rw [if_neg (by simp [hup]), if_neg (not_or.mpr ⟨hst, Nat.not_le.mpr hroom⟩)]

theorem State.queueRecord_of_full {s : State} {e : Nat} (x : EventRecord) (hup : s.pdUp PD_PCIE = true)
    (h : (s.ring (64 + e)).st = ringDisabled ∨ 256 ≤ (s.ring (64 + e)).events.length) : s.queueRecord e x = s.loseRecord e := by
  unfold State.queueRecord
  dsimp only
  rw [if_neg (by simp [hup]), if_pos h]

/-- A record lost: the ring's records stay, its next one carries OVF, the loss is flagged and counted. -/
theorem State.loseRecord_spec (s : State) (e : Nat) :
    ((s.loseRecord e).ring (64 + e)).events = (s.ring (64 + e)).events ∧ ((s.loseRecord e).ring (64 + e)).ovf = true ∧
      (s.loseRecord e).flag Reg.DMA_STICKY 7 = true ∧
      (s.loseRecord e).fld Reg.DMA_CNT_EVLOST 0 32 = min (2 ^ 32 - 1) (s.fld Reg.DMA_CNT_EVLOST 0 32 + 1) := by
  have hring : (s.loseRecord e).ring (64 + e) = { s.ring (64 + e) with ovf := true } := by
    refine (State.ring_setRing_same ..).trans ?_
    rw [State.ring_dmaSticky]
    rfl
  rw [hring]
  refine ⟨rfl, rfl, State.flag_dmaSticky _ (by decide), ?_⟩
  have hkeeps : (s.bump Reg.DMA_CNT_EVLOST 0 32).keepsRegs (s.loseRecord e) [Reg.DMA_STICKY] :=
    .of_regs (.sticky (o := Reg.DMA_STICKY) .refl)
  rw [State.fld, hkeeps _ (by decide)]
  exact State.fld_bump _ Reg.DMA_CNT_EVLOST 0 32 1 (by decide) (by decide)

/-! ### Messages -/

theorem State.trySend_of_ready {s : State} {v : Nat} (hpending : s.vecPending v = true) (hfree : v ∉ s.dma.hold)
    (hwaits : s.vecWaits v = false) (hsend : s.vecMaySend v = true) : s.trySend v = s.sendMessage v :=
  if_pos (by simp [hpending, hfree, hwaits, hsend])

theorem State.vecPending_sendMessage (s : State) (v : Nat) : (s.sendMessage v).vecPending v = false :=
  State.flag_setFlag _ _ _ _ (Nat.mod_lt _ (by decide))

/-- The holdoff ended. -/
def State.holdReleased (s : State) (v : Nat) : State := { s with dma := { s.dma with hold := s.dma.hold.filter (· != v) } }

theorem exec_holdoffEnd_of_held {s : State} {v : Fin 128} (h : v.val ∈ s.dma.hold) :
    exec (.holdoffEnd v) s = .next ((s.holdReleased v.val).trySend v.val) := congrArg Host.Outcome.next (if_pos (List.contains_iff_mem.mpr h))

end Sys2Proof.Machine
end
section
/-!
The endpoint's resets, BAR2 and event records (R370 to R387).
-/
namespace Sys2Proof.Machine

/-! ### Resets -/

/-- Entries of a sparse map that a filter keeps by their offsets. -/
theorem sparseGet_filter {α : Type} (d : Nat → α) (p : Nat → Bool) (m : List (Nat × α)) (k : Nat) :
    sparseGet d (m.filter fun e => p e.1) k = if p k then sparseGet d m k else d k := by
  induction m with
  | nil => simp [sparseGet]
  | cons e m ih =>
    obtain ⟨j, v⟩ := e
    by_cases hp : p j = true
    · rw [List.filter_cons_of_pos (p := fun e : Nat × α => p e.1) hp, sparseGet, ih, sparseGet]
      by_cases hk : k = j
      · rw [if_pos hk, if_pos hk, hk, if_pos hp]
      · rw [if_neg hk, if_neg hk]
    · rw [List.filter_cons_of_neg (p := fun e : Nat × α => p e.1) hp, ih, sparseGet]
      by_cases hk : k = j
      · rw [hk, if_neg hp, if_neg hp]
      · rw [if_neg hk]

theorem State.rd_resetRegs (s : State) (lo hi keep o : Nat) :
    (s.resetRegs lo hi keep).rd o = if lo ≤ o ∧ o < hi ∧ o ≠ keep then regDefault o else s.rd o := by
  refine (sparseGet_filter regDefault (fun k => !(decide (lo ≤ k) && decide (k < hi)) || k == keep) s.regs o).trans ?_
  by_cases h : lo ≤ o ∧ o < hi ∧ o ≠ keep
  · rw [if_pos h, if_neg (by simp [h])]
  · rw [if_neg h, if_pos (by
      simp only [Bool.or_eq_true, Bool.not_eq_true', Bool.and_eq_false_iff, decide_eq_false_iff_not, beq_iff_eq]
      omega)]
    rfl

theorem State.rd_resetEndpoint (s : State) (o : Nat) :
    s.resetEndpoint.rd o = if 0xC00000 ≤ o ∧ o < 0xE00000 ∧ o ≠ Reg.DMA_CNT_NOHOST then regDefault o else s.rd o :=
  s.rd_resetRegs 0xC00000 0xE00000 Reg.DMA_CNT_NOHOST o

/-- Configuration space at its reset values after a reset of the endpoint. -/
def State.configReset (s : State) (flr : Bool) : State :=
  { s.resetEndpoint with pcie := { s.pcie.resetConfig flr with downed := false } }

theorem State.resetEndpointMarked_eq (s : State) (flr : Bool) :
    s.resetEndpointMarked flr = ((s.configReset flr).dmaSticky 10).notePtm := rfl

/-- What a reset marked by DMA_STICKY.FLR leaves. -/
structure State.Marked (s : State) (flr : Bool) (t : State) : Prop where
  mark : t.flag Reg.DMA_STICKY 10 = true
  dma : t.dma = s.resetEndpoint.dma
  regs : s.resetEndpoint.keepsRegs t [Reg.DMA_STICKY, Reg.CAL_PTM_STATUS]
  noPtm : t.flag Reg.CAL_PTM_STATUS 16 = true
  pcie : t.pcie = { s.pcie.resetConfig flr with downed := false }
  frame : t = { s with regs := t.regs, raised := t.raised, dma := t.dma, pcie := t.pcie }

theorem State.endpoint_frame {s t u : State} (ht : t = { s with regs := t.regs, dma := t.dma, pcie := t.pcie })
    (hu : t.SameButRaises u) : u = { s with regs := u.regs, raised := u.raised, dma := u.dma, pcie := u.pcie } := by
  unfold State.SameButRaises at hu
  rw [hu, ht]

theorem State.resetEndpointMarked_marked (s : State) (flr : Bool) : s.Marked flr (s.resetEndpointMarked flr) := by
  have hframe : (s.configReset flr).SameButRaises ((s.configReset flr).dmaSticky 10) := .sticky .refl
  have hpcie : ((s.configReset flr).dmaSticky 10).pcie = { s.pcie.resetConfig flr with downed := false } := by
    rw [hframe]
    rfl
  have hstep : s.resetEndpointMarked flr = ((s.configReset flr).dmaSticky 10).setFlag Reg.CAL_PTM_STATUS 16 true := by
    rw [s.resetEndpointMarked_eq, State.notePtm, hpcie]
    rfl
  have hkeeps : s.resetEndpoint.keepsRegs ((s.configReset flr).dmaSticky 10) [Reg.DMA_STICKY, Reg.CAL_PTM_STATUS] :=
    State.keepsRegs.sticky (o := Reg.DMA_STICKY) (t := s.configReset flr) (.of_regs .refl)
  rw [hstep]
  refine ⟨?_, ?_, ?_, ?_, hpcie, ?_⟩
  · rw [State.flag_setFlag_other _ _ _ _ _ _ (by decide)]
    exact State.flag_dmaSticky _ (by decide)
  · change ((s.configReset flr).dmaSticky 10).dma = _
    rw [hframe]
    rfl
  · exact hkeeps.setFlag (o := Reg.CAL_PTM_STATUS)
  · exact State.flag_setFlag _ Reg.CAL_PTM_STATUS 16 true (by decide)
  · exact State.endpoint_frame rfl hframe.setFlag

end Sys2Proof.Machine
end
section
/-!
BAR2 (R385 to R387) and the event records that the DMA engine writes (R370, R371).
-/
namespace Sys2Proof.Machine

/-! ### BAR2 -/

theorem State.pool_poolWrite_host (s : State) (a : Nat) (bs : List Byte) :
    (s.poolWrite .host a bs).gys.pool = memWriteBytes s.gys.pool a bs := by
  have hmirror : ∀ t : State, ∀ l, (t.queueMirror l).gys = t.gys := fun t l => by
    unfold State.queueMirror
    split <;> rfl
  unfold State.poolWrite
  rw [if_neg (by simp)]
  split
  · rw [hmirror]
    rfl
  · rfl

section
variable {s : State} (hup : s.endpointUp = true) (hfabric : s.pdUp PD_FABRIC = true)
include hup hfabric

theorem exec_bar2Access_of_store {i : Fin 33554432} {v : Vector (Option Byte) 4} {t : State}
    (h : s.bar2Store (4 * i.val) v.toList = (false, t)) : exec (.bar2Access i 0 (some [v])) s = .next t := by
  refine congrArg Host.Outcome.next ((if_neg (by simp [hup])).trans ((if_neg (by simp [hfabric])).trans ?_))
  have hwrite : s.bar2Write (4 * i.val) ([v].map fun v => v.toList) = (false, t) := h
  dsimp only
  rw [hwrite]
  rfl

theorem exec_bar2Access_of_read {i : Fin 33554432} {bs : List Byte} {failed : Bool}
    (h : s.bar2ReadWord (4 * i.val) = (bs, failed, false, s)) :
    exec (.bar2Access i 1 none) s = .next (if failed then
      State.bar2Failed { s with pcie := { s.pcie with bar2Data := (bs, false) } }
      else { s with pcie := { s.pcie with bar2Data := (bs, false) } }) := by
  refine congrArg Host.Outcome.next ((if_neg (by simp [hup])).trans ((if_neg (by simp [hfabric])).trans ?_))
  have hread : s.bar2Read (4 * i.val) 1 = (bs, failed, false, s) := by
    rw [State.bar2Read, h]
    simp [State.bar2Read]
  dsimp only
  rw [hread]
  rfl

end

theorem State.bar2ReadWord_of_pool {s : State} {a : Nat} (ha : a < 0x3000000) (hclean : s.poisoned memPool a 4 = none) :
    s.bar2ReadWord a = (memReadBytes s.gys.pool a 4, false, false, s) := by
  rw [State.bar2ReadWord, bar2Place, if_pos ha]
  dsimp only
  rw [hclean]

theorem State.bar2ReadWord_of_unmapped {s : State} {a : Nat} (ha : 0x4400000 ≤ a) :
    s.bar2ReadWord a = ([0, 0, 0, 0], true, false, s) := by
  rw [State.bar2ReadWord, bar2Place, if_neg (by omega), if_neg (by omega), if_neg (by omega)]

/-- The bytes of a word of which some are enabled. -/
def mergedBytes (m : List (Nat × Byte)) (a : Nat) (bs : List (Option Byte)) : List Byte :=
  bs.mapIdx fun i b => b.getD (memRead m (a + i))

theorem State.bar2Store_of_pool {s : State} {a : Nat} {bs : List (Option Byte)} (ha : a < 0x3000000)
    (hclean : s.partlyPoisoned memPool a bs.length = none) :
    s.bar2Store a bs = (false, s.poolWrite .host a (mergedBytes s.gys.pool a bs)) := by
  unfold State.bar2Store
  dsimp only
  rw [bar2Place, if_pos ha]
  dsimp only
  rw [hclean]
  rfl

theorem bar2Place_of_bank (b : Fin 2) {a : Nat} (hlo : 0x4000000 + 0x200000 * b.val ≤ a) (hhi : a < 0x4200000 + 0x200000 * b.val) :
    bar2Place a = .bank b.val (a - (0x4000000 + 0x200000 * b.val)) := by
  have hb := b.isLt
  unfold bar2Place
  rw [if_neg (by omega)]
  by_cases hzero : b.val = 0
  · rw [if_pos (by omega), hzero]
  · rw [if_neg (by omega), if_pos (by omega), show b.val = 1 by omega]

theorem State.bar2Store_of_bank {s : State} (b : Fin 2) {a : Nat} (bs : List (Option Byte))
    (hlo : 0x4000000 + 0x200000 * b.val ≤ a) (hhi : a < 0x4200000 + 0x200000 * b.val) :
    s.bar2Store a bs = (false, s.writeBank b.val (a - (0x4000000 + 0x200000 * b.val))
      (mergedBytes s.gys.banks (a - 0x4000000) bs)) := by
  have hplace : 2 ^ 21 * b.val + (a - (0x4000000 + 0x200000 * b.val)) = a - 0x4000000 := by omega
  unfold State.bar2Store
  dsimp only
  rw [bar2Place_of_bank b hlo hhi]
  dsimp only
  rw [hplace]
  rfl

theorem memRead_mergedBytes (m : List (Nat × Byte)) (a : Nat) (v : Vector (Option Byte) 4) (j : Fin 4) :
    memRead (memWriteBytes m a (mergedBytes m a v.toList)) (a + j.val) = (v.get j).getD (memRead m (a + j.val)) := by
  have hlen : j.val < (mergedBytes m a v.toList).length := by
    rw [mergedBytes, List.length_mapIdx, Vector.length_toList]
    exact j.isLt
  rw [memRead_writeBytes _ _ _ _ hlen]
  simp only [mergedBytes, List.getElem_mapIdx, Vector.getElem_toList]
  rfl

/-! ### Event records -/

theorem ringReg_ne (r : Nat) {o p : Nat} (h : o ≠ p) : ringReg r o ≠ ringReg r p := by
  unfold ringReg
  split <;> omega

theorem State.ring_of_nextRing {s : State} {c r : Nat} (h : s.nextRing c = some r) : s.ringReady r = true := by
  have hmem : r ∈ (List.range 68).filter fun r => s.ringClass r == c && s.ringReady r := by
    unfold State.nextRing at h
    dsimp only at h
    split at h
    · next q hq =>
      obtain rfl := Option.some.inj h
      exact List.mem_of_find?_eq_some hq
    · exact List.mem_of_mem_head? h
  exact (Bool.and_eq_true_iff.mp (List.mem_filter.mp hmem).2).2

theorem State.run_of_ready {s : State} {r : Nat} (h : s.ringReady r = true) : (s.ring r).st = ringRun := by
  have hstate : s.ringState r = ringRun := by simpa using (Bool.and_eq_true_iff.mp h).1
  unfold State.ringState at hstate
  dsimp only at hstate
  split at hstate
  · exact absurd hstate (by decide)
  · exact hstate

theorem exec_eventRecordWrite_of_next {s : State} {r : Nat} (hclass : s.nextClass = some 0) (hring : s.nextRing 0 = some r) :
    exec .eventRecordWrite s = .next ((s.countChunk 0 r).writeRecord r) := by
  change execEventRecordWrite s = _
  rw [execEventRecordWrite, if_pos hclass, hring]

theorem State.link_countChunk (s : State) (c r : Nat) : (s.countChunk c r).dma.link = s.dma.link := rfl

/-- The record of an event ring as its write leaves the ring. -/
def RingState.recordTaken (x : RingState) (es : List EventRecord) : RingState :=
  { x with xfer := none, events := es, ovf := false, seq := (x.seq + 1) % 2 ^ 32 }

/-- The record emitted. -/
def State.recordEmitted (s : State) (r ha : Nat) (e : EventRecord) (es : List EventRecord) : State :=
  (s.emit (.write ha (s.recordBytes r (s.ringProd r) e))).setRing r ((s.ring r).recordTaken es)

/-- The record written. -/
def State.recordWritten (s : State) (r ha : Nat) (e : EventRecord) (es : List EventRecord) : State :=
  ((s.recordEmitted r ha e es).wr (ringReg r 0x0C) ((s.recordEmitted r ha e es).rd (ringReg r 0x0C) + 1)).bump (ringReg r 0x2C) 0 32

/-- The transfer of an event record. -/
def State.recordTransfer (s : State) (r : Nat) : Transfer :=
  { kind := 3, write := true, da := s.slotDa r (s.ringProd r), total := 32, pos := 0, slot := s.ringProd r % s.ringSize r,
    data := [], serial := 0 }

theorem State.writeRecord_of_translated {s : State} {r ha : Nat} {e : EventRecord} {es : List EventRecord}
    (hevents : (s.ring r).events = e :: es) (hda : s.translate (s.slotDa r (s.ringProd r)) true = .inl ha) :
    s.writeRecord r = s.recordWritten r ha e es := by
  unfold State.writeRecord
  extract_lets x i f
  have hx : x.events = e :: es := hevents
  have hf : s.translate f.da true = .inl ha := hda
  clear_value f
  cases hev : x.events with
  | nil => simp [hx] at hev
  | cons e' es' =>
    obtain ⟨rfl, rfl⟩ := List.cons.inj (hx.symm.trans hev)
    cases htr : s.translate f.da true with
    | inr c => exact absurd (hf.symm.trans htr) (by simp)
    | inl a =>
      obtain rfl := Sum.inl.inj (hf.symm.trans htr)
      rfl

theorem State.write_recordTransfer (s : State) (r : Nat) : (s.recordTransfer r).write = true := rfl

theorem State.kind_recordTransfer (s : State) (r : Nat) : (s.recordTransfer r).kind = 3 := rfl

theorem State.slot_recordTransfer (s : State) (r : Nat) : (s.recordTransfer r).slot = s.ringProd r % s.ringSize r := rfl

theorem State.ringProd_countChunk (s : State) (c r q : Nat) : (s.countChunk c r).ringProd q = s.ringProd q := rfl

theorem State.ringSize_countChunk (s : State) (c r q : Nat) : (s.countChunk c r).ringSize q = s.ringSize q := rfl

theorem State.writeRecord_of_fault {s : State} {r cause : Nat} {e : EventRecord} {es : List EventRecord}
    (hevents : (s.ring r).events = e :: es) (hda : s.translate (s.slotDa r (s.ringProd r)) true = .inr cause) :
    s.writeRecord r = s.ringFaulted r cause (s.recordTransfer r) 0 := by
  unfold State.writeRecord
  extract_lets x i f
  have hx : x.events = e :: es := hevents
  have hf : f = s.recordTransfer r := rfl
  have hfault : s.translate f.da true = .inr cause := hda
  clear_value f
  cases hev : x.events with
  | nil => simp [hx] at hev
  | cons e' es' =>
    cases htr : s.translate f.da true with
    | inl a => exact absurd (hfault.symm.trans htr) (by simp)
    | inr c =>
      obtain rfl := Sum.inr.inj (hfault.symm.trans htr)
      rw [hf]

theorem State.ring_recordWritten (s : State) (r ha q : Nat) (e : EventRecord) (es : List EventRecord) :
    (s.recordWritten r ha e es).ring q = if q = r then (s.ring r).recordTaken es else s.ring q := by
  have hring : (s.recordWritten r ha e es).ring q = (s.recordEmitted r ha e es).ring q := rfl
  rw [hring]
  by_cases hq : q = r
  · rw [if_pos hq, hq]
    exact State.ring_setRing_same ..
  · rw [if_neg hq]
    exact State.ring_setRing_ne _ _ hq

theorem State.keepsRegs_recordWritten (s : State) (r ha : Nat) (e : EventRecord) (es : List EventRecord) :
    s.keepsRegs (s.recordWritten r ha e es) [ringReg r 0x0C, ringReg r 0x2C] :=
  .bump (.wr (.of_regs .refl) (by simp)) (by simp)

theorem State.prod_recordWritten (s : State) (r ha : Nat) (e : EventRecord) (es : List EventRecord) :
    (s.recordWritten r ha e es).rd (ringReg r 0x0C) = s.rd (ringReg r 0x0C) + 1 :=
  (State.rd_wr_ne _ _ _ _ (ringReg_ne r (by decide))).trans (State.rd_wr_same ..)

/-- The three words of a fault written. -/
def State.faultWords (s : State) (r : Nat) (a b c : Word) : State := ((s.wr (ringReg r 0x20) a).wr (ringReg r 0x24) b).wr (ringReg r 0x28) c

/-- The registers of a fault. -/
def State.faultLatched (s : State) (r cause : Nat) (x : Transfer) (pos : Nat) : State :=
  (s.faultWords r (BitVec.ofNat 32 (cause * 2 ^ 28 + ofBool x.write * 2 ^ 27 + x.kind * 2 ^ 25 + x.slot))
    (BitVec.ofNat 32 (x.da + pos))
    (BitVec.ofNat 32 ((if x.kind = 1 then pos else 0) * 2 ^ 16 + (x.da + pos) / 2 ^ 32 % 2 ^ 12))).dmaSticky
      (if cause ≤ 2 then 0 else 1)

theorem State.rd_faultWords (s : State) (r : Nat) (a b c : Word) : (s.faultWords r a b c).rd (ringReg r 0x20) = a := by
  rw [State.faultWords, State.rd_wr_ne _ _ _ _ (ringReg_ne r (by decide)), State.rd_wr_ne _ _ _ _ (ringReg_ne r (by decide)),
    State.rd_wr_same]

theorem State.dma_faultWords (s : State) (r : Nat) (a b c : Word) : (s.faultWords r a b c).dma = s.dma := rfl

/-- A ring that has faulted at an offset of its transfer. -/
def RingState.faulted (y : RingState) (x : Transfer) (pos : Nat) : RingState :=
  { y with
    st := ringFault, xfer := some { x with pos := pos }, reads := y.reads.filter fun p => decide (p.1 < pos)
    got := y.got.filter fun p => decide (p.1 < pos) }

/-- A ring's fault taken and reported. -/
def State.ringBroken (s : State) (r : Nat) (y : RingState) : State := (s.setRing r y).raise 192 (BitVec.ofNat 32 r)

theorem State.ring_ringBroken (s : State) (r : Nat) (y : RingState) : (s.ringBroken r y).ring r = y := State.ring_setRing_same ..

theorem State.link_ringBroken (s : State) (r : Nat) (y : RingState) : (s.ringBroken r y).dma.link = s.dma.link := rfl

theorem State.rd_ringBroken (s : State) (r : Nat) (y : RingState) (o : Nat) : (s.ringBroken r y).rd o = s.rd o := rfl

theorem State.raised_ringBroken (s : State) (r : Nat) (y : RingState) :
    ⟨192, BitVec.ofNat 32 r, 0⟩ ∈ (s.ringBroken r y).raised := List.mem_append_right _ (List.mem_singleton_self _)

theorem State.ringFaulted_of_run {s : State} {r : Nat} (cause : Nat) {x : Transfer} (pos : Nat) (hkind : x.kind ≠ 1)
    (hrun : (s.ring r).st = ringRun) :
    s.ringFaulted r cause x pos =
      (s.faultLatched r cause x pos).ringBroken r ((s.ring r).faulted x pos) := by
  exact (if_neg fun h => hkind h.1).trans (if_neg (by rw [hrun]; decide))

theorem State.dma_faultLatched (s : State) (r cause : Nat) (x : Transfer) (pos : Nat) :
    (s.faultLatched r cause x pos).dma = s.dma := by
  rw [State.faultLatched, State.dma_dmaSticky, State.dma_faultWords]

theorem State.rd_faultLatched (s : State) (r cause : Nat) (x : Transfer) (pos : Nat) :
    (s.faultLatched r cause x pos).rd (ringReg r 0x20) =
      BitVec.ofNat 32 (cause * 2 ^ 28 + ofBool x.write * 2 ^ 27 + x.kind * 2 ^ 25 + x.slot) := by
  have hne : ringReg r 0x20 ≠ Reg.DMA_STICKY := by
    unfold ringReg
    split
    · simp only [Reg.DMA_STICKY]
      omega
    · simp only [Reg.DMA_STICKY]
      omega
  rw [State.faultLatched, State.dmaSticky, State.rd_sticky_ne hne, State.rd_faultWords]

/-! ### Configuration space -/

/-- What a configuration access does outside configuration space. -/
def State.configTaken (s : State) (a : ConfigAccess) : State :=
  match a with
  | .ptmEnable b => s.setFlag Reg.CAL_PTM_STATUS 16 (!b)
  | .pmeTurnOff => if s.pcie.turnOff then s else s.emit .pmeAck
  | _ => s

/-- Configuration space after an access. -/
def State.configSpace (s : State) (a : ConfigAccess) : PcieState :=
  match a with
  | .read r => { s.pcie with configData := s.configWord r }
  | .busMaster b => { s.pcie with busMaster := b }
  | .msix enable mask => { s.pcie with msixEnable := enable, functionMask := mask }
  | .powerState d3 => { s.pcie with dState := if d3 then 3 else 0 }
  | .ptmEnable b => { s.pcie with ptmEnable := b }
  | .maxPayload n => { s.pcie with maxPayload := 128 * 2 ^ n.val }
  | .maxReadRequest n => { s.pcie with maxReadRequest := 128 * 2 ^ n.val }
  | .bar0 v => { s.pcie with bar0 := v }
  | .bar2 v => { s.pcie with bar2 := v }
  | .pmeTurnOff => { s.pcie with turnOff := true }

/-- The state after a configuration access. -/
def State.configured (s : State) (a : ConfigAccess) : State := { s.configTaken a with pcie := s.configSpace a }

theorem exec_configAccess_of_up {s : State} (a : ConfigAccess) (hup : s.endpointUp = true) :
    exec (.configAccess a) s = .next (s.configured a) := by
  refine congrArg Host.Outcome.next ((if_neg (by simp [hup])).trans ?_)
  cases a <;> rfl

theorem State.regs_configTaken {s : State} {a : ConfigAccess} (h : ∀ b, a ≠ .ptmEnable b) : (s.configTaken a).regs = s.regs := by
  unfold State.configTaken
  split
  · next b => exact absurd rfl (h b)
  · split <;> rfl
  · rfl

theorem State.dma_configTaken {s : State} {a : ConfigAccess} (h : a ≠ .pmeTurnOff) : (s.configTaken a).dma = s.dma := by
  unfold State.configTaken
  split
  · rfl
  · exact absurd rfl h
  · rfl

theorem State.keepsRegs_configTaken (s : State) (a : ConfigAccess) : s.keepsRegs (s.configTaken a) [Reg.CAL_PTM_STATUS] := by
  unfold State.configTaken
  split
  · exact .setFlag (o := Reg.CAL_PTM_STATUS) .refl
  · exact .ite .refl (.of_regs .refl)
  · exact .refl

theorem State.configured_frame (s : State) (a : ConfigAccess) :
    s.configured a = { s with
      pcie := (s.configured a).pcie, regs := (s.configured a).regs,
      dma := { s.dma with link := (s.configured a).dma.link } } := by
  unfold State.configured State.configTaken
  split
  · rfl
  · split <;> rfl
  · rfl

theorem State.link_turnOff (s : State) :
    (s.configured .pmeTurnOff).dma.link = if s.pcie.turnOff then s.dma.link else s.dma.link ++ [.pmeAck] := by
  change (if s.pcie.turnOff then s else s.emit .pmeAck).dma.link = _
  split <;> rfl

/-! ### Links and resets -/

theorem State.endpointUp_of_link {s t : State} {l : List Nat} (h : s.keepsRegs t l) (hcpm : t.cpm = s.cpm)
    (hpd : Reg.CPM_PD_CTL PD_PCIE ∉ l) (hmode : Reg.GCTL_STATUS ∉ l) (hup : s.pdUp PD_PCIE = true) (hperst : t.pcie.perst = false)
    (hlink : t.pcie.linkUp = true) : t.endpointUp = true := by
  rw [State.endpointUp, State.pdUp_of_keepsRegs h hcpm hpd hmode, hup, hperst, hlink]
  rfl

/-- The link trained. -/
def State.linked (s : State) : State := { s with pcie := { s.pcie with linkUp := true, subsystem := s.pcie.subsystemNext } }

theorem exec_pcieLinkUp_of_down {s : State} (hpd : s.pdUp PD_PCIE = true) (hperst : s.pcie.perst = false)
    (hlink : s.pcie.linkUp = false) :
    exec .pcieLinkUp s = .next (if s.pcie.downed then s.resetEndpointMarked false else s).linked :=
  congrArg Host.Outcome.next (if_neg (by simp [hpd, hperst, hlink]))

theorem State.pdUp_resetEndpointMarked (s : State) (flr : Bool) : (s.resetEndpointMarked flr).pdUp PD_PCIE = s.pdUp PD_PCIE := by
  have hmarked := s.resetEndpointMarked_marked flr
  have hcpm : (s.resetEndpointMarked flr).cpm = s.cpm := by rw [hmarked.frame]
  have hrd : ∀ o < 0x700000, o ∉ [Reg.DMA_STICKY, Reg.CAL_PTM_STATUS] → (s.resetEndpointMarked flr).rd o = s.rd o := fun o ho hm => by
    rw [hmarked.regs o hm, s.rd_resetEndpoint, if_neg (by omega)]
  rw [State.pdUp, State.pd, State.mode, State.fld, hrd _ (by decide) (by decide), State.fld, hrd _ (by decide) (by decide), hcpm,
    State.pdUp, State.pd, State.mode, State.fld, State.fld]

/-- The endpoint held down by PERST. -/
def State.perstHeld (s : State) : State :=
  State.notePtm { s with pcie := { s.pcie.resetConfig false with linkUp := false, perst := true, downed := false } }

theorem exec_perstAssert_of_released {s : State} (h : s.pcie.perst = false) :
    exec .perstAssert s = .next (if s.pdUp PD_PCIE then s.resetEndpoint else s).perstHeld :=
  congrArg Host.Outcome.next (if_neg (by simp [h]))

/-- PERST released. -/
def State.perstReleased (s : State) : State := { s with pcie := { s.pcie with perst := false } }

theorem exec_perstRelease_of_held {s : State} (h : s.pcie.perst = true) :
    exec .perstRelease s = .next (if s.pdUp PD_PCIE then s.perstReleased.resetEndpointMarked false else s.perstReleased) :=
  congrArg Host.Outcome.next (if_neg (by simp [h]))

/-! ### The obligation -/

/-- Settles O51: raises and vectors by their branches, the resets through what they leave, BAR2 by the place of its word, event
records through the ring that is due. -/
theorem eventsAndTheEndpoint : Obligations.EventsAndTheEndpoint := by
  refine ⟨fun s r rest hraised hsrc hup => ?_, fun s r rest hraised hdown => ?_,
    fun s r rest hraised hsrc hup hon hen hirq hpcie => ?_, fun s r rest hraised hsrc hup hon hen hrec hpcie => ?_,
    fun s v hpending hfree hwaits hsend => ?_, fun s v hheld => ?_, fun s v hheld hclear => ?_,
    fun s v hheld hpending hwaits hsend => ?_, fun s a hup => ?_, fun s hup => ?_, fun s hlink => congrArg Host.Outcome.next (if_pos hlink),
    fun s hpd hperst hlink => ?_, fun s hperst => ?_, fun s hperst => ?_, fun s n hup hfabric ha hclean => ?_,
    fun s n v hup hfabric ha hclean => ?_, fun s n b v hup hfabric hlo hhi => ?_, fun s n hup hfabric ha => ?_,
    fun s n hup hfabric => ?_, fun s r ha e es hclass hring hlo hhi hevents hda => ?_,
    fun s r cause e es hclass hring hlo hhi hevents hda => ?_, fun s r n e => ?_⟩
  · exact ⟨_, exec_eventRaise_of_up hraised hup, State.raw_acceptRaise _ r, fun hoff => State.acceptRaise_of_off hoff⟩
  · change execEventRaise s = _
    rw [execEventRaise, hraised]
    exact congrArg Host.Outcome.next (if_neg (by rw [← Bool.not_eq_true] at hdown; exact hdown))
  · refine ⟨_, exec_eventRaise_of_up hraised hup, ?_⟩
    rw [State.acceptRaise_of_on (s := { s with raised := rest }) hon hen]
    exact State.vecPending_vectorSet hirq ((State.pdUp_recordQueued _ r).trans hpcie)
  · have hexec := exec_eventRaise_of_up hraised hup
    rw [State.acceptRaise_of_on (s := { s with raised := rest }) hon hen] at hexec
    have hrec' : State.recordQueued { s with raised := rest } r =
        (State.rawSet { s with raised := rest } r).queueRecord (s.recordRing r) (s.recordOf r) := if_pos hrec
    have hpcie' : (State.rawSet { s with raised := rest } r).pdUp PD_PCIE = true := (State.pdUp_rawSet _ r).trans hpcie
    rw [hrec'] at hexec
    refine ⟨_, hexec, fun hst hroom => ?_, fun hfull => ?_⟩
    · rw [State.ring_vectorSet, State.queueRecord_of_room (e := s.recordRing r) _ hpcie' hst hroom]
      exact congrArg RingState.events (State.ring_setRing_same ..)
    · rw [State.ring_vectorSet, State.queueRecord_of_full (e := s.recordRing r) _ hpcie' hfull]
      obtain ⟨hevents, hovf, hflag, hcount⟩ := State.loseRecord_spec (State.rawSet { s with raised := rest } r) (s.recordRing r)
      have hpba := State.keepsRegs_vectorSet { s with raised := rest }
        ((State.rawSet { s with raised := rest } r).loseRecord (s.recordRing r)) r
      have hv := vec_lt { s with raised := rest } (Reg.EVT_SRC r.src)
      refine ⟨hevents, hovf, ?_, ?_⟩
      · rw [State.flag_of_keepsRegs hpba 7 (by simp only [Reg.DMA_STICKY, Reg.MSIX_PBA, List.mem_singleton]; omega)]
        exact hflag
      · rw [State.fld, hpba _ (by simp only [Reg.DMA_CNT_EVLOST, Reg.MSIX_PBA, List.mem_singleton]; omega)]
        refine hcount.trans (congrArg (fun n => min (2 ^ 32 - 1) (n + 1)) ?_)
        rw [State.fld, State.rawSet, State.setFlag, State.rd_wr_ne _ _ _ _ (by simp only [Reg.DMA_CNT_EVLOST, Reg.EVT_RAW]; omega)]
        rfl
  · have hexec : exec (.msixSend v) s = .next (s.sendMessage v.val) :=
      congrArg Host.Outcome.next (State.trySend_of_ready hpending hfree hwaits hsend)
    refine ⟨_, hexec, s.vecPending_sendMessage v.val, rfl, ?_, ?_, rfl⟩
    · change v.val ∈ (if s.fld (Reg.EVT_VEC v.val) 0 10 = 0 then s.dma.hold else s.dma.hold ++ [v.val]) ↔ _
      split
      · next h => exact ⟨fun hm => absurd hm hfree, fun hne => absurd h hne⟩
      · next h => exact ⟨fun _ => h, fun _ => List.mem_append_right _ (List.mem_singleton_self _)⟩
    · exact .of_regs (State.keepsRegs.setFlag .refl (List.mem_singleton_self _))
  · exact congrArg Host.Outcome.next (if_neg (by simp [hheld]))
  · refine (exec_holdoffEnd_of_held hheld).trans (congrArg Host.Outcome.next (if_neg ?_))
    rw [show (s.holdReleased v.val).vecPending v.val = false from hclear]
    simp
  · have hrelease : (s.holdReleased v.val).trySend v.val = (s.holdReleased v.val).sendMessage v.val :=
      State.trySend_of_ready hpending (by simp [State.holdReleased]) hwaits hsend
    refine ⟨_, (exec_holdoffEnd_of_held hheld).trans (congrArg Host.Outcome.next hrelease), State.vecPending_sendMessage _ _, ?_⟩
    exact List.length_append
  · refine ⟨_, exec_configAccess_of_up a hup, s.configured_frame a, .of_regs (s.keepsRegs_configTaken a),
      fun h => State.regs_configTaken h, fun h => State.dma_configTaken h, ?_, ?_, ?_, ?_, ?_, ?_, ?_, ?_, ?_, ?_⟩
    · rintro r rfl
      rfl
    · rintro b rfl
      exact ⟨rfl, rfl⟩
    · rintro e m rfl
      exact ⟨rfl, rfl⟩
    · rintro d rfl
      rfl
    · rintro b rfl
      exact ⟨rfl, State.flag_setFlag _ Reg.CAL_PTM_STATUS 16 _ (by decide)⟩
    · rintro k rfl
      rfl
    · rintro k rfl
      rfl
    · rintro v rfl
      rfl
    · rintro v rfl
      rfl
    · rintro rfl
      exact ⟨rfl, s.link_turnOff⟩
  · have hexec : exec .flr s = .next (s.resetEndpointMarked true) := congrArg Host.Outcome.next (if_pos hup)
    have hmarked := s.resetEndpointMarked_marked true
    refine ⟨_, hexec, hmarked.mark, fun r => ?_, ?_, fun o hlo hhi hkeep hsticky => ?_, fun o ho hptm => ?_, hmarked.noPtm, ?_,
      hmarked.frame⟩
    · rw [State.ring, hmarked.dma]
      rfl
    · rw [hmarked.dma]
      rfl
    · rw [hmarked.regs o (by simp only [Reg.DMA_STICKY, Reg.CAL_PTM_STATUS, List.mem_cons, List.not_mem_nil, or_false, not_or] at *; omega),
        s.rd_resetEndpoint, if_pos ⟨hlo, hhi, hkeep⟩]
    · have hne : o ≠ Reg.DMA_STICKY := by
        simp only [Reg.DMA_STICKY, Reg.DMA_CNT_NOHOST] at *
        omega
      rw [hmarked.regs o (by simp [hne, hptm]), s.rd_resetEndpoint, if_neg (by omega)]
    · rw [hmarked.pcie]
      rfl
  · have hexec := exec_pcieLinkUp_of_down hpd hperst hlink
    cases hdowned : s.pcie.downed with
    | false =>
      rw [hdowned, if_neg Bool.false_ne_true] at hexec
      exact ⟨_, hexec, State.endpointUp_of_link (l := []) .refl rfl (by decide) (by decide) hpd hperst rfl, rfl, fun _ => rfl,
        fun h => absurd h Bool.false_ne_true⟩
    | true =>
      have hmarked := s.resetEndpointMarked_marked false
      have hpcie := hmarked.pcie
      have hpd' : (s.resetEndpointMarked false).pdUp PD_PCIE = true := (s.pdUp_resetEndpointMarked false).trans hpd
      have hperst' : (s.resetEndpointMarked false).pcie.perst = false := by
        rw [hpcie]
        exact hperst
      rw [hdowned, if_pos rfl] at hexec
      refine ⟨_, hexec, State.endpointUp_of_link (l := []) .refl rfl (by decide) (by decide) hpd' hperst' rfl, ?_,
        fun h => absurd h.symm Bool.false_ne_true, fun _ => ⟨hmarked.mark, fun r => ?_, ?_, ?_, ?_⟩⟩
      · change (s.resetEndpointMarked false).pcie.subsystemNext = _
        rw [hpcie]
        rfl
      · exact congrArg (fun d : DmaState => sparseGet (fun _ => RingState.reset) d.rings r) hmarked.dma
      · exact congrArg PcieState.downed hpcie
      · exact congrArg PcieState.maxPayload hpcie
      · exact congrArg PcieState.busMaster hpcie
  · have hexec := exec_perstAssert_of_released hperst
    have hpcie : (if s.pdUp PD_PCIE then s.resetEndpoint else s).pcie = s.pcie := by split <;> rfl
    refine ⟨_, hexec, rfl, rfl, ?_, rfl, rfl, fun hpd r => ?_, ?_⟩
    · exact Bool.and_false _
    · rw [if_pos hpd]
      rfl
    · split <;> rfl
  · have hexec := exec_perstRelease_of_held hperst
    have hpcie := (s.perstReleased.resetEndpointMarked_marked false).pcie
    refine ⟨_, hexec, ?_, fun hpd => ?_, fun hpd => ?_⟩
    · split
      · exact congrArg PcieState.perst hpcie
      · rfl
    · rw [if_pos hpd]
      exact (s.perstReleased.resetEndpointMarked_marked false).mark
    · rw [if_neg (by simp [hpd])]
      rfl
  · rw [exec_bar2Access_of_read hup hfabric (State.bar2ReadWord_of_pool ha hclean)]
    rfl
  · have hexec := exec_bar2Access_of_store hup hfabric (State.bar2Store_of_pool (bs := v.toList) ha (by
      rw [Vector.length_toList]
      exact hclean))
    refine ⟨_, hexec, fun j => ?_, fun a h => ?_⟩
    · rw [State.pool_poolWrite_host]
      exact memRead_mergedBytes ..
    · rw [State.pool_poolWrite_host]
      refine memRead_writeBytes_other _ _ _ _ ?_
      rw [mergedBytes, List.length_mapIdx, Vector.length_toList]
      exact h
  · exact exec_bar2Access_of_store hup hfabric (State.bar2Store_of_bank b v.toList hlo hhi)
  · rw [exec_bar2Access_of_read hup hfabric (State.bar2ReadWord_of_unmapped ha)]
    rfl
  · have hexec : exec (.bar2Access n 1 none) s = .next { s.bar2Failed with
        pcie := { s.pcie with bar2Data := (List.replicate (4 * 1) 0xFF#8, false) } } :=
      congrArg Host.Outcome.next ((if_neg (by simp [hup])).trans (if_pos hfabric))
    have hframe : s.SameButRaises s.bar2Failed := .sticky (.bump .refl)
    refine ⟨_, hexec, rfl, ?_, State.flag_dmaSticky _ (by decide), ?_⟩
    · change s.bar2Failed.gys = s.gys
      rw [hframe]
    · have hkeeps : (s.bump Reg.DMA_CNT_BAR2 0 32).keepsRegs s.bar2Failed [Reg.DMA_STICKY] := .sticky (o := Reg.DMA_STICKY) .refl
      change s.bar2Failed.fld Reg.DMA_CNT_BAR2 0 32 = _
      rw [State.fld, hkeeps _ (by decide)]
      exact State.fld_bump _ Reg.DMA_CNT_BAR2 0 32 1 (by decide) (by decide)
  · have hexec := exec_eventRecordWrite_of_next hclass hring
    rw [State.writeRecord_of_translated (s := s.countChunk 0 r) hevents hda] at hexec
    refine ⟨_, hexec, rfl, ?_, ?_, fun q hq => ?_, ?_⟩
    · rw [State.ring_recordWritten, if_pos rfl]
      rfl
    · exact State.prod_recordWritten ..
    · exact (State.ring_recordWritten ..).trans (if_neg hq)
    · exact State.keepsRegs_recordWritten (s.countChunk 0 r) r ha e es
  · have hexec := exec_eventRecordWrite_of_next hclass hring
    have hrun : (s.ring r).st = ringRun := State.run_of_ready (State.ring_of_nextRing hring)
    rw [State.writeRecord_of_fault (s := s.countChunk 0 r) hevents hda, State.ringFaulted_of_run (s := s.countChunk 0 r) cause 0 (by decide : 3 ≠ 1) hrun] at hexec
    refine ⟨_, hexec, ?_, ?_, ?_, ?_, State.raised_ringBroken ..⟩
    · rw [State.ring_ringBroken]
      rfl
    · rw [State.ring_ringBroken]
      exact hevents
    · rw [State.link_ringBroken, State.dma_faultLatched, State.link_countChunk]
    · rw [State.rd_ringBroken, State.rd_faultLatched, State.write_recordTransfer, State.kind_recordTransfer, State.slot_recordTransfer,
        State.ringProd_countChunk, State.ringSize_countChunk, ofBool, if_pos rfl, Nat.one_mul]
  · simp [State.recordBytes, timeBytes, length_leBytes, State.slotCtl]

end Sys2Proof.Machine
end

section
/-!
The registers and states of the DMA rings: indices, windows, and the start and stop of a ring (R388 to R397).
-/
namespace Sys2Proof.Machine

/-! ### Registers of rings -/

theorem State.dmaWrite_ringReg (s : State) {r o : Nat} (hr : r < 68) (ho : o < 0x40) (v : Word) :
    s.dmaWrite (ringReg r o) v = s.writeRingReg r o v := by
  unfold State.dmaWrite ringReg
  by_cases h : r < 64
  · rw [if_pos h, if_neg (by omega), if_pos (by omega), show (0xC02000 + 0x40 * r + o - 0xC02000) / 0x40 = r by omega,
      show (0xC02000 + 0x40 * r + o - 0xC02000) % 0x40 = o by omega]
  · rw [if_neg h, if_pos (by omega), show 64 + (0xC03000 + 0x40 * (r - 64) + o - 0xC03000) / 0x40 = r by omega,
      show (0xC03000 + 0x40 * (r - 64) + o - 0xC03000) % 0x40 = o by omega]

theorem State.dmaAccess_ringReg {s : State} {ag : Agent} {r o : Nat} (hr : r < 68) (ho : o < 0x40) (v : Word)
    (h : s.opens ag (ringReg r o)) : s.dmaAccess ag (ringReg r o) v = s.writeRingReg r o v := by
  rw [State.dmaAccess, State.writeAccess_opens _ _ _ _ _ h, State.dmaWrite_ringReg _ hr ho]

theorem ringReg_ne_of_lt (r o : Nat) {p : Nat} (h : p < 0xC02000) : ringReg r o ≠ p := by
  unfold ringReg
  split <;> omega

theorem State.slotCtl_of_cfg {s t : State} {r : Nat} (h : t.rd (ringReg r 0x08) = s.rd (ringReg r 0x08)) (i status : Nat) :
    t.slotCtl r i status = s.slotCtl r i status := by
  unfold State.slotCtl State.ringSize State.ringLog State.fld
  rw [h]

theorem State.writeIndex_prod (s : State) {r : Nat} (hr : r < 64) (v : Word) :
    s.writeIndex r true v = if s.ringSize r < ahead v.toNat (s.ringCons r) ∨ s.ringSize r < ahead v.toNat (s.ringProd r)
      then s.error Reg.DMA_ERR 0 194 else s.wr (ringReg r 0x0C) v := by
  have hprod : ¬ true ≠ decide (r < 64) := by simp [hr]
  simp only [State.writeIndex, if_neg hprod, if_true, State.ringProd, State.dmaError]
  exact if_congr Iff.rfl rfl rfl

theorem State.writeIndex_cons (s : State) {r : Nat} (hr : 64 ≤ r) (v : Word) :
    s.writeIndex r false v = if s.ringSize r < ahead (s.ringProd r) v.toNat ∨ s.ringSize r < ahead v.toNat (s.ringCons r)
      then s.error Reg.DMA_ERR 0 194 else s.wr (ringReg r 0x10) v := by
  have hprod : ¬ false ≠ decide (r < 64) := by simp [hr]
  simp only [State.writeIndex, if_neg hprod, Bool.false_eq_true, if_false, State.ringCons, State.dmaError]
  exact if_congr Iff.rfl rfl rfl

theorem State.dmaWrite_window (s : State) (w : Fin 64) (j : Fin 4) (v : Word) :
    s.dmaWrite (Reg.DMA_WIN_CTL w.val + 4 * j.val) v = if j.val = 0 ∧ s.windowBad w.val v = true
      then s.error Reg.DMA_ERR 0 194 else s.plainWrite (Reg.DMA_WIN_CTL w.val + 4 * j.val) v := by
  have hw := w.isLt
  have hj := j.isLt
  unfold State.dmaWrite
  simp only [Reg.DMA_WIN_CTL, Reg.DMA_POOL]
  rw [if_neg (by omega), if_neg (by omega)]
  by_cases h : j.val = 0
  · have hplace : (0xC01000 + 0x10 * w.val + 4 * j.val - 0xC01000) / 0x10 = w.val := by omega
    rw [hplace]
    by_cases hbad : s.windowBad w.val v = true
    · rw [if_pos ⟨by omega, by omega, by omega, hbad⟩, if_pos ⟨h, hbad⟩]
      rfl
    · rw [if_neg (fun hc => hbad hc.2.2.2), if_neg (by omega), if_neg (fun hc => hbad hc.2)]
  · rw [if_neg (by omega), if_neg (by omega), if_neg (fun hc => h hc.1)]

/-! ### Starts and stops -/

theorem rwBit_ringSize : ∀ (r : Fin 68) (i : Fin 5), rwBit (ringReg r.val 0x08) i.val = true := by decide +kernel

theorem State.ringLog_plainWrite (s : State) (r : Fin 68) (v : Word) :
    (s.plainWrite (ringReg r.val 0x08) v).ringLog r.val = bitsAt v 0 5 :=
  State.fld_plainWrite (List.all_eq_true.mpr fun i hi => by
    rw [Nat.zero_add]
    exact rwBit_ringSize r ⟨i, List.mem_range.mp hi⟩) s v

theorem State.ring_plainWrite (s : State) (o : Nat) (v : Word) (r : Nat) : (s.plainWrite o v).ring r = s.ring r := by
  rw [State.plainWrite_frame]
  rfl

theorem State.ringState_of_disabled {s : State} {r : Nat} (h : (s.ring r).st = ringDisabled) : s.ringState r = ringDisabled :=
  (if_neg (by simp [h, ringDisabled, ringRun, ringFault])).trans h

theorem State.writeRingCfg_of_legal {s : State} {r : Nat} {v : Word} (hlo : 6 ≤ bitsAt v 0 5) (hhi : bitsAt v 0 5 ≤ 16)
    (hclass : 64 ≤ r ∨ bitsAt v 28 2 ≠ 0) (hn : bitsAt v 0 5 = s.ringLog r ∨ s.ringState r = ringDisabled) :
    s.writeRingCfg r v = (s.plainWrite (ringReg r 0x08) v).ringEnable r (bitAt v 31) :=
  (if_neg (by omega)).trans (if_neg fun h => hn.elim h.1 h.2)

theorem State.dmaAccess_ringCfg {s : State} {ag : Agent} {r : Fin 68} {v : Word} (b : Bool) (ho : s.opens ag (ringReg r.val 0x08))
    (hlo : 6 ≤ bitsAt v 0 5) (hhi : bitsAt v 0 5 ≤ 16) (hclass : 64 ≤ r.val ∨ bitsAt v 28 2 ≠ 0)
    (hn : bitsAt v 0 5 = s.ringLog r.val ∨ s.ringState r.val = ringDisabled) :
    s.dmaAccess ag (ringReg r.val 0x08) (putBit v 31 b) =
      (s.plainWrite (ringReg r.val 0x08) (putBit v 31 b)).ringEnable r.val b := by
  have hsize : bitsAt (putBit v 31 b) 0 5 = bitsAt v 0 5 := bitsAt_putBit_other _ _ _ _ _ (by decide)
  have hbits : bitsAt (putBit v 31 b) 28 2 = bitsAt v 28 2 := bitsAt_putBit_other _ _ _ _ _ (by decide)
  rw [State.dmaAccess_ringReg r.isLt (by decide) _ ho]
  refine (State.writeRingCfg_of_legal (by rw [hsize]; exact hlo) (by rw [hsize]; exact hhi) (by rw [hbits]; exact hclass)
    (by rw [hsize]; exact hn)).trans ?_
  rw [bitAt_putBit _ _ _ (by decide)]

theorem State.ringEnable_of_disabled {s : State} {r : Nat} (h : (s.ring r).st = ringDisabled) : s.ringEnable r true = s.ringStart r :=
  if_pos h

theorem State.ringEnable_of_stopping {s : State} {r : Nat} (h : (s.ring r).st = ringStopping) (b : Bool) :
    s.ringEnable r b = s.setRing r { s.ring r with again := b } :=
  (if_neg (by rw [h]; decide)).trans (if_pos h)

theorem State.ringEnable_stops {s : State} {r : Nat} (h : (s.ring r).st = ringRun ∨ (s.ring r).st = ringFault) :
    s.ringEnable r false = s.setRing r { s.ring r with st := ringStopping, xfer := none, got := [] } := by
  refine (if_neg ?_).trans ((if_neg ?_).trans (if_neg (by decide)))
  · obtain h | h := h <;> rw [h] <;> decide
  · obtain h | h := h <;> rw [h] <;> decide

theorem State.ring_ringStart (s : State) (r : Nat) :
    (s.ringStart r).ring r = { RingState.reset with st := ringRun, ovf := (s.ring r).ovf, leaving := (s.ring r).leaving } :=
  State.ring_setRing_same ..

theorem State.keepsRegs_ringStart (s : State) (r : Nat) : s.keepsRegs (s.ringStart r) [ringReg r 0x0C, ringReg r 0x10] :=
  .of_regs (.wr (o := ringReg r 0x10) (.wr (o := ringReg r 0x0C) .refl (by simp)) (by simp))

theorem State.prod_ringStart (s : State) (r : Nat) : (s.ringStart r).ringProd r = 0 := by
  have hrd : (s.ringStart r).rd (ringReg r 0x0C) = 0 := (State.rd_wr_ne _ _ _ _ (ringReg_ne r (by decide))).trans (State.rd_wr_same ..)
  rw [State.ringProd, hrd]
  rfl

theorem State.cons_ringStart (s : State) (r : Nat) : (s.ringStart r).ringCons r = 0 := by
  have hrd : (s.ringStart r).rd (ringReg r 0x10) = 0 := State.rd_wr_same ..
  rw [State.ringCons, hrd]
  rfl

theorem State.ringLog_ringStart (s : State) (r : Nat) : (s.ringStart r).ringLog r = s.ringLog r := by
  rw [State.ringLog, State.fld, s.keepsRegs_ringStart r _ (by simp [ringReg_ne r (show 8 ≠ 0x0C by decide), ringReg_ne r (show 8 ≠ 0x10 by decide)])]
  rfl

/-! ### The end of a stop -/

/-- A ring that has stopped, its frames dropped and counted. -/
def State.framesDropped (s : State) (r : Nat) : State :=
  if (s.ring r).up = [] then s.setRing r { RingState.reset with ovf := (s.ring r).ovf, leaving := (s.ring r).leaving }
  else (s.setRing r { RingState.reset with ovf := (s.ring r).ovf, leaving := (s.ring r).leaving }).bump (ringReg r 0x30) 0 32
    (s.ring r).up.length

/-- Its records lost. -/
def State.recordsLost (s : State) (r : Nat) : State := (s.ring r).events.foldl (fun u _ => u.loseRecord (r - 64)) (s.framesDropped r)

theorem State.ringStopped_eq (s : State) (r : Nat) :
    s.ringStopped r = if (s.ring r).again then (s.recordsLost r).ringStart r else s.recordsLost r := rfl

theorem exec_ringStopDone_of_drained {s : State} {r : Fin 68} (h : (s.ring r.val).st = ringStopping) (hreads : (s.ring r.val).reads = []) :
    exec (.ringStopDone r) s = .next (s.ringStopped r.val) := congrArg Host.Outcome.next (if_pos ⟨h, hreads⟩)

theorem State.ring_framesDropped (s : State) (r : Nat) :
    (s.framesDropped r).ring r = { RingState.reset with ovf := (s.ring r).ovf, leaving := (s.ring r).leaving } := by
  unfold State.framesDropped
  split
  · exact State.ring_setRing_same ..
  · exact State.ring_setRing_same ..

theorem State.ring_loseRecord (s : State) (e r : Nat) : ∃ b, (s.loseRecord e).ring r = { s.ring r with ovf := b } := by
  have hring : ((s.bump Reg.DMA_CNT_EVLOST 0 32).dmaSticky 7).ring r = s.ring r := State.ring_dmaSticky ..
  by_cases hr : r = 64 + e
  · rw [hr] at hring ⊢
    refine ⟨true, (State.ring_setRing_same ..).trans ?_⟩
    rw [hring]
  · exact ⟨(s.ring r).ovf, (State.ring_setRing_ne _ _ hr).trans hring⟩

theorem State.ring_recordsLost (s : State) (r : Nat) :
    ∃ b, (s.recordsLost r).ring r = { RingState.reset with ovf := b, leaving := (s.ring r).leaving } := by
  refine List.foldlRecOn (motive := fun u => ∃ b, u.ring r = { RingState.reset with ovf := b, leaving := (s.ring r).leaving }) _ _
    ⟨_, s.ring_framesDropped r⟩ fun (u : State) ⟨b, hu⟩ _ _ => ?_
  obtain ⟨b', hb'⟩ := u.ring_loseRecord (r - 64) r
  exact ⟨b', by rw [hb', hu]⟩

theorem State.keepsRegs_recordsLost (s : State) (r : Nat) :
    (s.framesDropped r).keepsRegs (s.recordsLost r) [Reg.DMA_CNT_EVLOST, Reg.DMA_STICKY] :=
  State.keepsRegs.foldl .refl fun _ _ v hv => hv.trans (v.keepsRegs_loseRecord _)

theorem State.dropped_framesDropped (s : State) (r : Nat) :
    (s.framesDropped r).fld (ringReg r 0x30) 0 32 = if (s.ring r).up = [] then s.fld (ringReg r 0x30) 0 32
      else min (2 ^ 32 - 1) (s.fld (ringReg r 0x30) 0 32 + (s.ring r).up.length) := by
  unfold State.framesDropped
  split
  · rfl
  · exact State.fld_bump _ _ _ _ _ (by decide) (by decide)

theorem State.dropped_ringStopped (s : State) (r : Nat) :
    (s.ringStopped r).fld (ringReg r 0x30) 0 32 = (s.framesDropped r).fld (ringReg r 0x30) 0 32 := by
  have hlost : (s.recordsLost r).rd (ringReg r 0x30) = (s.framesDropped r).rd (ringReg r 0x30) :=
    s.keepsRegs_recordsLost r _ (by
      simp [ringReg_ne_of_lt r 0x30 (show Reg.DMA_CNT_EVLOST < 0xC02000 by decide), ringReg_ne_of_lt r 0x30 (show Reg.DMA_STICKY < 0xC02000 by decide)])
  have hstart : ((s.recordsLost r).ringStart r).rd (ringReg r 0x30) = (s.recordsLost r).rd (ringReg r 0x30) :=
    (s.recordsLost r).keepsRegs_ringStart r _ (by
      simp [ringReg_ne r (show 0x30 ≠ 0x0C by decide), ringReg_ne r (show 0x30 ≠ 0x10 by decide)])
  rw [State.ringStopped_eq, State.fld, State.fld]
  split
  · rw [hstart, hlost]
  · rw [hlost]

end Sys2Proof.Machine
end
section
/-!
Up and down frames of the DMA rings: their descriptors, transfers and completions (R388 to R394, R403).
-/
namespace Sys2Proof.Machine

theorem State.SameButRaises.quotaAfter {s t u : State} (h : s.SameButRaises t) : s.SameButRaises (t.quotaAfter u) :=
  .ite (.sticky h) h

/-! ### Arrival of up frames -/

/-- The oldest frame toward the host taken. -/
def State.hostTaken (s : State) (us : List UpFrame) : State := { s with net := { s.net with toHost := us } }

theorem State.count_hostTaken (s : State) (us : List UpFrame) (o : Nat) :
    ((s.hostTaken us).bump o 0 32).fld o 0 32 = min (2 ^ 32 - 1) (s.fld o 0 32 + 1) := by
  have hfld : (s.hostTaken us).fld o 0 32 = s.fld o 0 32 := rfl
  rw [State.fld_bump _ _ _ _ _ (by decide) (by decide), hfld]

/-- The frame put behind those of its ring. -/
def State.frameAdmitted (s : State) (u : UpFrame) (us : List UpFrame) : State :=
  (s.hostTaken us).setRing u.ring { s.ring u.ring with up := (s.ring u.ring).up ++ [u] }

/-- The arrival of an admissible frame: the flags of the quotas and of a ring without a posted slot. -/
def State.frameArrived (s : State) (u : UpFrame) (us : List UpFrame) : State :=
  let v := (s.frameAdmitted u us).quotaAfter (s.hostTaken us)
  let ended := match (s.ring u.ring).xfer with | some f => ofBool (f.kind == 2) | none => 0
  if ahead (s.ringProd u.ring) (s.ringCons u.ring) ≤ (s.ring u.ring).up.length + ended then v.dmaSticky 2 else v

theorem State.frameArrived_frame (s : State) (u : UpFrame) (us : List UpFrame) :
    (s.frameAdmitted u us).SameButRaises (s.frameArrived u us) :=
  have hquota : (s.frameAdmitted u us).SameButRaises ((s.frameAdmitted u us).quotaAfter (s.hostTaken us)) := .quotaAfter .refl
  .ite (.sticky hquota) hquota

section
variable {s : State} {u : UpFrame} {us : List UpFrame} (hhost : s.net.toHost = u :: us)
include hhost

theorem exec_upFrameArrive_of_down (hup : s.endpointUp = false) :
    exec .upFrameArrive s = .next (if ((s.hostTaken us).bump Reg.DMA_CNT_NOHOST 0 32).pdUp PD_PCIE
      then ((s.hostTaken us).bump Reg.DMA_CNT_NOHOST 0 32).dmaSticky 8 else (s.hostTaken us).bump Reg.DMA_CNT_NOHOST 0 32) := by
  change execUpFrameArrive s = _
  unfold execUpFrameArrive
  rw [hhost]
  exact congrArg Host.Outcome.next (if_pos hup)

theorem exec_upFrameArrive_of_disabled (hup : s.endpointUp = true) (h : (s.ring u.ring).st = ringDisabled) :
    exec .upFrameArrive s = .next ((s.hostTaken us).bump (ringReg u.ring 0x30) 0 32) := by
  have hcond : ¬ (s.hostTaken us).endpointUp = false := by
    change ¬ s.endpointUp = false
    simp [hup]
  change execUpFrameArrive s = _
  unfold execUpFrameArrive
  rw [hhost]
  exact congrArg Host.Outcome.next ((if_neg hcond).trans (if_pos h))

theorem exec_upFrameArrive_of_inadmissible (hup : s.endpointUp = true) (hst : (s.ring u.ring).st ≠ ringDisabled)
    (h : s.admissible u.ring = false) :
    exec .upFrameArrive s = .next (((s.hostTaken us).bump (ringReg u.ring 0x30) 0 32).dmaSticky 5) := by
  have hcond : ¬ (s.hostTaken us).endpointUp = false := by
    change ¬ s.endpointUp = false
    simp [hup]
  change execUpFrameArrive s = _
  unfold execUpFrameArrive
  rw [hhost]
  exact congrArg Host.Outcome.next ((if_neg hcond).trans ((if_neg hst).trans (if_pos h)))

theorem exec_upFrameArrive_of_admissible (hup : s.endpointUp = true) (hst : (s.ring u.ring).st ≠ ringDisabled)
    (h : s.admissible u.ring = true) : exec .upFrameArrive s = .next (s.frameArrived u us) := by
  have hcond : ¬ (s.hostTaken us).endpointUp = false := by
    change ¬ s.endpointUp = false
    simp [hup]
  have hadmissible : ¬ (s.hostTaken us).admissible u.ring = false := by
    change ¬ s.admissible u.ring = false
    simp [h]
  change execUpFrameArrive s = _
  unfold execUpFrameArrive
  rw [hhost]
  exact congrArg Host.Outcome.next ((if_neg hcond).trans ((if_neg hst).trans (if_neg hadmissible)))

end

/-! ### Completions -/

theorem State.ring_completion (s : State) (r : Nat) (bs : List Byte) (status : Nat) :
    (s.completion r bs status).ring r = { s.ring r with
      ending := status
      xfer := some ⟨2, true, s.slotDa r (s.ringCons r), 32, 0, s.ringCons r % s.ringSize r, bs ++ s.slotCtl r (s.ringCons r) status, 0⟩ } :=
  State.ring_setRing_same ..

/-- The oldest up frame of a ring dropped and counted. -/
def State.upDropped (s : State) (r : Nat) (us : List UpFrame) : State :=
  (s.setRing r { s.ring r with up := us }).bump (ringReg r 0x30) 0 32

theorem State.upCompletion_of_drop {s : State} {r : Nat} {u : UpFrame} {us : List UpFrame} (h : (s.ring r).up = u :: us) (status : Nat) :
    s.upCompletion r status true = (s.upDropped r us).completion r (s.describe u) status := by
  unfold State.upCompletion
  dsimp only
  rw [h]
  rfl

theorem State.ring_upDropped (s : State) (r : Nat) (us : List UpFrame) : (s.upDropped r us).ring r = { s.ring r with up := us } :=
  State.ring_setRing_same ..

theorem State.keepsRegs_upDropped (s : State) (r : Nat) (us : List UpFrame) : s.keepsRegs (s.upDropped r us) [ringReg r 0x30] :=
  .bump (o := ringReg r 0x30) (.of_regs .refl) (by simp)

theorem State.dropped_upDropped (s : State) (r : Nat) (us : List UpFrame) :
    (s.upDropped r us).fld (ringReg r 0x30) 0 32 = min (2 ^ 32 - 1) (s.fld (ringReg r 0x30) 0 32 + 1) :=
  State.fld_bump (s.setRing r { s.ring r with up := us }) (ringReg r 0x30) 0 32 1 (by decide) (by decide)

/-! ### Up frames -/

/-- What a ring with a posted descriptor and a frame does. -/
def State.frameWritten (s : State) (k : Nat) (d : List Byte) (u : UpFrame) : State :=
  if postedBad d then (s.drewBytes 28).completion k (s.freeBytes 28) 5
  else if ofLeBytes ((d.drop 8).take 2) < u.frame.bytes.length then (s.dmaSticky 3).upCompletion k 8 true
  else if u.frame.poison ≠ [] then s.packetError.upCompletion k 9 false
  else s.setRing k { s.ring k with
    xfer := some ⟨1, true, ofLeBytes (d.take 8), u.frame.bytes.length, 0, s.ringCons k % s.ringSize k, u.frame.bytes, 0⟩ }

theorem exec_upFrameWrite_of_posted {s : State} {r : Fin 32} {d : List Byte} {u : UpFrame} {us : List UpFrame}
    (hrun : s.ringState r.val = ringRun) (hidle : (s.ring r.val).xfer = none) (hposted : (s.ring r.val).posted = some d)
    (hup : (s.ring r.val).up = u :: us) : exec (.upFrameWrite r) s = .next (s.frameWritten r.val d u) := by
  have hgo : ¬ (s.ringState r.val ≠ ringRun ∨ (s.ring r.val).xfer.isSome = true) := by simp [hrun, hidle]
  refine congrArg Host.Outcome.next ?_
  dsimp only
  split
  · next d' u' us' hd hu =>
    obtain rfl := Option.some.inj (hposted.symm.trans hd)
    obtain ⟨rfl, -⟩ := List.cons.inj (hup.symm.trans hu)
    exact if_neg hgo
  · next h => exact absurd hup (h _ _ _ hposted)

theorem State.describe_dmaSticky (s : State) (b : Nat) (u : UpFrame) : (s.dmaSticky b).describe u = s.describe u := by
  have hframe : s.SameButRaises (s.dmaSticky b) := .sticky .refl
  have hcal : (s.dmaSticky b).cal = s.cal := by rw [hframe]
  rw [State.describe, State.describe, State.marked, State.marked, hcal]

theorem State.length_freeBytes (s : State) (n : Nat) : (s.freeBytes n).length = n := by
  rw [State.freeBytes, List.length_map, List.length_range]

/-! ### Descriptors -/

theorem ahead_pos {a b : Nat} (ha : a < 2 ^ 32) (hb : b < 2 ^ 32) (h : a ≠ b) : 0 < ahead a b := by
  unfold ahead
  omega

/-- The descriptors that a fetch from index i reads at once. -/
def State.fetchable (s : State) (r i : Nat) : Nat := min (min 8 (ahead (s.ringProd r) i)) (s.ringSize r - i % s.ringSize r)

theorem State.fetchable_pos {s : State} {r i : Nat} (hi : i < 2 ^ 32) (h : s.ringProd r ≠ i) : 0 < s.fetchable r i := by
  have hahead := ahead_pos (s.rd (ringReg r 0x0C)).isLt hi h
  have hsize : i % s.ringSize r < s.ringSize r := Nat.mod_lt _ (Nat.two_pow_pos _)
  unfold State.fetchable
  exact Nat.lt_min.mpr ⟨Nat.lt_min.mpr ⟨by decide, hahead⟩, Nat.sub_pos_of_lt hsize⟩

/-- The ring reading n descriptors from index i. -/
def State.fetching (s : State) (r i n : Nat) : State :=
  s.setRing r { s.ring r with got := [], xfer := some ⟨0, false, s.slotDa r i, 32 * n, 0, i % s.ringSize r, [], 0⟩ }

section
variable {s : State} {r : Fin 64} (hrun : s.ringState r.val = ringRun) (hidle : (s.ring r.val).xfer = none)
include hrun hidle

theorem exec_descriptorFetch_of_up (hr : r.val < 32) (hup : (s.ring r.val).up ≠ []) (hposted : (s.ring r.val).posted = none)
    (h : 0 < s.fetchable r.val (s.ringCons r.val)) :
    exec (.descriptorFetch r) s = .next (s.fetching r.val (s.ringCons r.val) 1) := by
  have hnone : ¬ ((s.ring r.val).up = [] ∨ (s.ring r.val).posted.isSome = true ∨ s.fetchable r.val (s.ringCons r.val) = 0) := by
    simp [hup, hposted, Nat.pos_iff_ne_zero.mp h]
  exact congrArg Host.Outcome.next ((if_neg (by simp [hrun, hidle])).trans ((if_pos hr).trans (if_neg hnone)))

theorem exec_descriptorFetch_of_down (hr : 32 ≤ r.val) (hadmit : s.admissible r.val = true) (hdown : (s.ring r.val).down = [])
    (h : 0 < s.fetchable r.val (s.ring r.val).fetched) :
    exec (.descriptorFetch r) s = .next (s.fetching r.val (s.ring r.val).fetched (s.fetchable r.val (s.ring r.val).fetched)) := by
  have hfind : (s.ring r.val).down.findIdx? (fun d => !d.started && d.status.isNone) = none := by rw [hdown, List.findIdx?_nil]
  refine congrArg Host.Outcome.next ((if_neg (by simp [hrun, hidle])).trans ((if_neg (by omega)).trans
    ((if_neg (by simp [hadmit])).trans ?_)))
  dsimp only
  rw [hfind]
  dsimp only
  exact if_neg (Nat.pos_iff_ne_zero.mp h)

theorem exec_descriptorFetch_of_frame {d : DownDescriptor} {ds : List DownDescriptor} (hr : 32 ≤ r.val)
    (hadmit : s.admissible r.val = true) (hdown : (s.ring r.val).down = d :: ds) (hstarted : d.started = false)
    (hstatus : d.status = none) (hcells : s.cellsFree (frameCells d.len) = true) :
    exec (.descriptorFetch r) s = .next ((s.setRing r.val { s.ring r.val with
      down := { d with started := true } :: ds
      got := []
      xfer := some ⟨1, false, ofLeBytes (d.raw.take 8), d.len, 0, s.ringCons r.val % s.ringSize r.val, [], d.serial⟩ }).quotaAfter s) := by
  have hfind : (d :: ds).findIdx? (fun d => !d.started && d.status.isNone) = some 0 := by
    simp [List.findIdx?_cons, hstarted, hstatus]
  have hcons : (s.ringCons r.val + 0) % 2 ^ 32 = s.ringCons r.val := Nat.mod_eq_of_lt (s.rd (ringReg r.val 0x10)).isLt
  refine congrArg Host.Outcome.next ((if_neg (by simp [hrun, hidle])).trans ((if_neg (by omega)).trans
    ((if_neg (by simp [hadmit])).trans ?_)))
  dsimp only
  rw [hdown, hfind]
  dsimp only
  rw [hcons]
  exact if_neg (by simp [hcells])

end

/-! ### Down frames -/

/-- What a down ring whose oldest descriptor has its status does. -/
def State.downCompleted (s : State) (k status : Nat) (d : DownDescriptor) (stamp : Stamp) : State :=
  if status = 0 ∧ (ofLeBytes ((d.raw.drop 11).take 1)).testBit 2 then
    s.completion k (timeBytes stamp.time ++ leBytes 1 (ofBool (s.marked stamp)) ++ leBytes 15 0) status
  else (s.drewBytes 12).completion k (s.freeBytes 12 ++ leBytes 16 0) status

theorem exec_downCompletion_of_status {s : State} {r : Fin 32} {d : DownDescriptor} {ds : List DownDescriptor} {status : Nat}
    {stamp : Stamp} (hrun : s.ringState (32 + r.val) = ringRun) (hidle : (s.ring (32 + r.val)).xfer = none)
    (hdown : (s.ring (32 + r.val)).down = d :: ds) (hstatus : d.status = some (status, stamp)) :
    exec (.downCompletion r) s = .next (s.downCompleted (32 + r.val) status d stamp) := by
  change execDownCompletion r s = _
  unfold execDownCompletion
  dsimp only
  rw [hdown]
  dsimp only
  rw [hstatus]
  exact congrArg Host.Outcome.next (if_neg (by simp [hrun, hidle]))

end Sys2Proof.Machine
end
section
/-!
Chunks, ends of transfers and faults of the DMA rings, and the commands that leave a fault (R395 to R401).
-/
namespace Sys2Proof.Machine

/-! ### Faults -/

theorem State.ringFaulted_of_kept {s : State} {r : Nat} (cause : Nat) {x : Transfer} (pos : Nat)
    (h : x.kind ≠ 1 ∨ s.flag (ringReg r 0x08) 27 = false) :
    s.ringFaulted r cause x pos = if (s.ring r).st = ringFault
      then (s.faultLatched r cause x pos).setRing r ((s.ring r).faulted x pos)
      else (s.faultLatched r cause x pos).ringBroken r ((s.ring r).faulted x pos) :=
  if_neg fun hc => h.elim (fun hkind => hkind hc.1) (fun hflag => by simp [hflag] at hc)

section
variable {s : State} {r cause pos : Nat} {x : Transfer} (h : x.kind ≠ 1 ∨ s.flag (ringReg r 0x08) 27 = false)
include h

theorem State.ring_ringFaulted : (s.ringFaulted r cause x pos).ring r = (s.ring r).faulted x pos := by
  rw [State.ringFaulted_of_kept cause pos h]
  split
  · exact State.ring_setRing_same ..
  · exact State.ring_ringBroken ..

theorem State.rd_ringFaulted : (s.ringFaulted r cause x pos).rd (ringReg r 0x20) =
    BitVec.ofNat 32 (cause * 2 ^ 28 + ofBool x.write * 2 ^ 27 + x.kind * 2 ^ 25 + x.slot) := by
  rw [State.ringFaulted_of_kept cause pos h]
  split
  · exact s.rd_faultLatched r cause x pos
  · exact s.rd_faultLatched r cause x pos

theorem State.flag_ringFaulted (hcause : 2 < cause) : (s.ringFaulted r cause x pos).flag Reg.DMA_STICKY 1 = true := by
  have hflag : (s.faultLatched r cause x pos).flag Reg.DMA_STICKY 1 = true := by
    rw [State.faultLatched, if_neg (Nat.not_le.mpr hcause)]
    exact State.flag_dmaSticky _ (by decide)
  rw [State.ringFaulted_of_kept cause pos h]
  split
  · exact hflag
  · exact hflag

end

/-! ### Chunks -/

theorem exec_chunkIssue_of_next {s : State} {c r : Nat} (hclass : s.nextClass = some c) (hc : c ≠ 0) (hring : s.nextRing c = some r) :
    exec .chunkIssue s = .next ((s.countChunk c r).issueRing r) := by
  change execChunkIssue s = _
  rw [execChunkIssue, hclass]
  dsimp only
  rw [if_neg hc, hring]

theorem State.issueRing_of_fault {s : State} {r cause : Nat} {x : Transfer} (hxfer : (s.ring r).xfer = some x)
    (hda : s.translate (x.da + x.pos) x.write = .inr cause) : s.issueRing r = s.ringFaulted r cause x x.pos := by
  unfold State.issueRing
  dsimp only
  rw [hxfer]
  dsimp only
  rw [hda]

/-- A read chunk issued. -/
def State.readIssued (s : State) (r ha : Nat) (x : Transfer) : State :=
  (s.emit (.read ha (s.chunkLength x))).setRing r { s.ring r with
    xfer := some { x with pos := x.pos + s.chunkLength x }, reads := (s.ring r).reads ++ [(x.pos, s.chunkLength x)] }

/-- A write chunk issued. -/
def State.writeIssued (s : State) (r ha : Nat) (x : Transfer) : State :=
  (s.emit (.write ha ((x.data.drop x.pos).take (s.chunkLength x)))).setRing r { s.ring r with
    xfer := some { x with pos := x.pos + s.chunkLength x } }

section
variable {s : State} {r ha : Nat} {x : Transfer} (hxfer : (s.ring r).xfer = some x)
  (hda : s.translate (x.da + x.pos) x.write = .inl ha)
include hxfer hda

theorem State.issueRing_of_read (hwrite : x.write = false) : s.issueRing r = s.readIssued r ha x := by
  unfold State.issueRing
  dsimp only
  split
  · next h => exact absurd (hxfer.symm.trans h) (by simp)
  · next x' h =>
    obtain rfl := Option.some.inj (hxfer.symm.trans h)
    rw [hda]
    exact if_neg (by simp [hwrite])

theorem State.issueRing_of_write (hwrite : x.write = true) : s.issueRing r =
    if x.pos + s.chunkLength x = x.total
      then (s.writeIssued r ha x).transferDone r { x with pos := x.pos + s.chunkLength x } else s.writeIssued r ha x := by
  unfold State.issueRing
  dsimp only
  split
  · next h => exact absurd (hxfer.symm.trans h) (by simp)
  · next x' h =>
    obtain rfl := Option.some.inj (hxfer.symm.trans h)
    rw [hda]
    exact if_pos hwrite

end

theorem State.chunkLength_countChunk (s : State) (c r : Nat) (x : Transfer) : (s.countChunk c r).chunkLength x = s.chunkLength x := rfl

theorem State.chunkLength_spec (s : State) (x : Transfer) (h : 0 < s.chunkLength x) :
    (x.da + x.pos + s.chunkLength x - 1) / 4096 = (x.da + x.pos) / 4096 ∧ x.pos + s.chunkLength x ≤ x.total ∧
      s.chunkLength x ≤ (if x.write then s.pcie.maxPayload else s.pcie.maxReadRequest) := by
  have hpage : s.chunkLength x ≤ 4096 - (x.da + x.pos) % 4096 := Nat.min_le_right ..
  have hrest : s.chunkLength x ≤ x.total - x.pos := Nat.le_trans (Nat.min_le_left ..) (Nat.min_le_right ..)
  have hlimit : s.chunkLength x ≤ (if x.write then s.pcie.maxPayload else s.pcie.maxReadRequest) :=
    Nat.le_trans (Nat.min_le_left ..) (Nat.min_le_left ..)
  exact ⟨by omega, by omega, hlimit⟩

/-! ### The end of a completion -/

/-- The ring of a completion as its write leaves it. -/
def State.completionCleared (s : State) (r : Nat) : State :=
  s.setRing r { s.ring r with
    xfer := none, posted := none, down := if r < 32 then (s.ring r).down else (s.ring r).down.tail }

/-- The index advanced and the completion counted. -/
def State.completionCounted (s : State) (r : Nat) : State :=
  ((s.completionCleared r).wr (ringReg r 0x10) ((s.completionCleared r).rd (ringReg r 0x10) + 1)).bump (ringReg r 0x2C) 0 32

/-- The flag of an invalid descriptor. -/
def State.completionFlagged (s : State) (r : Nat) : State :=
  if (s.ring r).ending = 5 then (s.completionCounted r).dmaSticky 6 else s.completionCounted r

theorem State.completionWritten_eq (s : State) (r : Nat) : s.completionWritten r =
    if s.flag (ringReg r 0x08) 30 then (s.completionFlagged r).pend (s.fld (ringReg r 0x08) 16 7) else s.completionFlagged r := rfl

theorem State.transferDone_of_completion {s : State} {r : Nat} {x : Transfer} (h : x.kind = 2) :
    s.transferDone r x = s.completionWritten r := if_pos h

theorem State.ring_completionFlagged (s : State) (r : Nat) : (s.completionFlagged r).ring r = { s.ring r with
    xfer := none, posted := none, down := if r < 32 then (s.ring r).down else (s.ring r).down.tail } := by
  have hcounted : (s.completionCounted r).ring r = { s.ring r with
      xfer := none, posted := none, down := if r < 32 then (s.ring r).down else (s.ring r).down.tail } := State.ring_setRing_same ..
  unfold State.completionFlagged
  split
  · rw [State.ring_dmaSticky, hcounted]
  · exact hcounted

theorem State.dma_pend (s : State) (v : Nat) : (s.pend v).dma = s.dma := by
  unfold State.pend
  split <;> rfl

theorem State.ring_completionWritten (s : State) (r : Nat) : (s.completionWritten r).ring r = { s.ring r with
    xfer := none, posted := none, down := if r < 32 then (s.ring r).down else (s.ring r).down.tail } := by
  rw [State.completionWritten_eq]
  split
  · rw [State.ring, State.dma_pend]
    exact s.ring_completionFlagged r
  · exact s.ring_completionFlagged r

theorem ringReg_ne_msix {r o v : Nat} (hr : r < 64) (hv : v < 4) : ringReg r o ≠ Reg.MSIX_PBA v ∨ 0x40 ≤ o := by
  simp only [ringReg, if_pos hr, Reg.MSIX_PBA]
  omega

theorem State.rd_completionWritten (s : State) {r o : Nat} (hr : r < 64) (ho : o < 0x40) :
    (s.completionWritten r).rd (ringReg r o) = (s.completionCounted r).rd (ringReg r o) := by
  have hflagged : (s.completionCounted r).keepsRegs (s.completionFlagged r) [Reg.DMA_STICKY] := .ite (.sticky .refl) .refl
  have hsticky : (s.completionFlagged r).rd (ringReg r o) = (s.completionCounted r).rd (ringReg r o) :=
    hflagged _ (by simp [ringReg_ne_of_lt r o (show Reg.DMA_STICKY < 0xC02000 by decide)])
  have hvec : s.fld (ringReg r 0x08) 16 7 / 32 < 4 := by
    have := s.fld_lt (ringReg r 0x08) 16 7
    omega
  rw [State.completionWritten_eq]
  split
  · rw [(s.completionFlagged r).keepsRegs_pend _ _ ?_, hsticky]
    rw [List.mem_singleton]
    exact (ringReg_ne_msix hr hvec).resolve_right (by omega)
  · exact hsticky

theorem State.cons_completionCounted (s : State) (r : Nat) :
    (s.completionCounted r).rd (ringReg r 0x10) = s.rd (ringReg r 0x10) + 1 :=
  (State.rd_wr_ne _ _ _ _ (ringReg_ne r (by decide))).trans (State.rd_wr_same ..)

theorem State.done_completionCounted (s : State) (r : Nat) :
    (s.completionCounted r).fld (ringReg r 0x2C) 0 32 = min (2 ^ 32 - 1) (s.fld (ringReg r 0x2C) 0 32 + 1) := by
  have hrd : ((s.completionCleared r).wr (ringReg r 0x10) ((s.completionCleared r).rd (ringReg r 0x10) + 1)).rd (ringReg r 0x2C) =
    s.rd (ringReg r 0x2C) := State.rd_wr_ne _ _ _ _ (ringReg_ne r (by decide))
  rw [State.completionCounted, State.fld_bump _ _ _ _ _ (by decide) (by decide), State.fld, hrd]
  rfl

/-! ### Completions of reads -/

/-- A read of the ring that has left those outstanding. -/
def State.readTaken (s : State) (r k : Nat) : State := s.setRing r { s.ring r with reads := (s.ring r).reads.eraseIdx k }

theorem State.takeRead_of_some {s : State} {r k : Nat} {p : Nat × Nat} (h : (s.ring r).reads[k]? = some p) :
    s.takeRead r k = some (p, s.readTaken r k) := by
  unfold State.takeRead
  dsimp only
  rw [h]
  rfl

theorem State.ring_readTaken (s : State) (r k : Nat) :
    (s.readTaken r k).ring r = { s.ring r with reads := (s.ring r).reads.eraseIdx k } := State.ring_setRing_same ..

theorem State.setRing_setRing (s : State) (r : Nat) (x y : RingState) : (s.setRing r x).setRing r y = s.setRing r y := by
  simp only [State.setRing, sparseSet_set]

/-- The bytes of a completed read put to those received. -/
def State.readGot (s : State) (r k : Nat) (p : Nat × Nat) (bs : List Byte) : State :=
  (s.readTaken r k).setRing r { (s.readTaken r k).ring r with got := ((s.readTaken r k).ring r).got ++ [(p.1, bs)] }

theorem State.readGot_eq (s : State) (r k : Nat) (p : Nat × Nat) (bs : List Byte) :
    s.readGot r k p bs = s.setRing r { s.ring r with
      reads := (s.ring r).reads.eraseIdx k, got := (s.ring r).got ++ [(p.1, bs)] } := by
  rw [State.readGot, State.ring_readTaken, State.readTaken, State.setRing_setRing]

theorem State.regs_setRing (s : State) (r : Nat) (x : RingState) : (s.setRing r x).regs = s.regs := rfl

theorem State.xfer_readTaken {s : State} {r : Nat} {x : Transfer} (hxfer : (s.ring r).xfer = some x) (k : Nat) :
    ((s.readTaken r k).ring r).xfer = some x := by
  rw [State.ring_readTaken]
  exact hxfer

section
variable {s : State} {r : Fin 64} {k : Nat} {p : Nat × Nat} {x : Transfer} (hread : (s.ring r.val).reads[k]? = some p)
  (hxfer : (s.ring r.val).xfer = some x)
include hread hxfer

theorem exec_readCompletion_of_data {bs : List Byte} (hlen : bs.length = p.2) :
    exec (.readCompletion r k (.data bs)) s = .next (
      if x.pos = x.total ∧ ((s.readTaken r.val k).ring r.val).reads = [] ∧ ((s.readTaken r.val k).ring r.val).st ≠ ringFault
      then (s.readGot r.val k p bs).transferDone r.val x else s.readGot r.val k p bs) := by
  change execReadCompletion r k (.data bs) s = _
  unfold execReadCompletion
  dsimp only
  rw [State.takeRead_of_some hread]
  dsimp only
  refine congrArg Host.Outcome.next ?_
  split
  · next h => exact absurd ((State.xfer_readTaken hxfer k).symm.trans h) (by simp)
  · next x' h =>
    obtain rfl := Option.some.inj ((State.xfer_readTaken hxfer k).symm.trans h)
    exact if_neg (not_not_intro hlen)

theorem exec_readCompletion_of_fault {res : ReadResult} {cause : Nat}
    (h : (res, cause) ∈ [(ReadResult.unsupportedRequest, 3), (.completerAbort, 4), (.poisoned, 6)]) :
    exec (.readCompletion r k res) s = .next ((s.readTaken r.val k).ringFaulted r.val cause x p.1) := by
  change execReadCompletion r k res s = _
  unfold execReadCompletion
  dsimp only
  rw [State.takeRead_of_some hread]
  dsimp only
  rw [State.xfer_readTaken hxfer k]
  simp only [List.mem_cons, Prod.mk.injEq, List.not_mem_nil, or_false] at h
  obtain ⟨rfl, rfl⟩ | ⟨rfl, rfl⟩ | ⟨rfl, rfl⟩ := h
  · rfl
  · rfl
  · rfl

theorem exec_completionTimeout_of_read :
    exec (.completionTimeout r k) s = .next ((s.readTaken r.val k).ringFaulted r.val 5 x p.1) := by
  change execCompletionTimeout r k s = _
  unfold execCompletionTimeout
  dsimp only
  rw [State.takeRead_of_some hread]
  dsimp only
  rw [State.xfer_readTaken hxfer k]

end

theorem gathered_whole (bs : List Byte) : (gathered bs.length [(0, bs)]).take bs.length = bs := by
  simp [gathered]

/-- A ring that holds the descriptor just read. -/
def State.descriptorHeld (s : State) (r : Nat) (bs : List Byte) : State :=
  (s.setRing r { s.ring r with xfer := none, got := [] }).setRing r { s.ring r with xfer := none, got := [], posted := some bs }

theorem State.transferDone_of_descriptor {s : State} {r : Nat} {x : Transfer} (hr : r < 32) (hkind : x.kind = 0) :
    s.transferDone r x = s.descriptorHeld r ((gathered x.total (s.ring r).got).take 32) := by
  refine (if_neg (by omega)).trans ((if_neg (by omega)).trans ((if_neg (by omega)).trans ((if_pos hr).trans ?_)))
  rw [State.ring_setRing_same]
  rfl

/-! ### RESUME and SKIP -/

theorem State.ringCommand_of_refused {s : State} {r op : Nat} (h : s.ringState r ≠ ringFault) :
    s.ringCommand r op = s.error Reg.DMA_ERR 3 194 := by
  unfold State.ringCommand
  dsimp only
  split
  · rfl
  · exact if_pos (.inl h)

/-- The ring back in RUN. -/
def State.ringResumed (s : State) (r : Nat) : State := s.setRing r { s.ring r with st := ringRun }

section
variable {s : State} {r : Nat} {x : Transfer} (hfault : s.ringState r = ringFault) (hxfer : (s.ring r).xfer = some x)
include hfault hxfer

theorem State.ringCommand_of_resume : s.ringCommand r 1 = (s.ringResumed r).raise 193 (BitVec.ofNat 32 r) := by
  unfold State.ringCommand
  dsimp only
  split
  · next h => exact absurd (hxfer.symm.trans h) (by simp)
  · next x' h => exact (if_neg (by simp [hfault])).trans rfl

theorem State.ringCommand_of_skip (hkind : x.kind = 1) : s.ringCommand r 2 =
    ((s.ringResumed r).skipTransfer r (s.fld (ringReg r 0x20) 28 4) x.serial).raise 193 (BitVec.ofNat 32 r) := by
  unfold State.ringCommand
  dsimp only
  split
  · next h => exact absurd (hxfer.symm.trans h) (by simp)
  · next x' h =>
    obtain rfl := Option.some.inj (hxfer.symm.trans h)
    exact (if_neg (by simp [hfault, hkind])).trans rfl

end

theorem State.ringCommand_of_unskippable {s : State} {r : Nat} {x : Transfer} (hxfer : (s.ring r).xfer = some x) (hkind : x.kind ≠ 1) :
    s.ringCommand r 2 = s.error Reg.DMA_ERR 3 194 := by
  unfold State.ringCommand
  dsimp only
  split
  · rfl
  · next x' h =>
    obtain rfl := Option.some.inj (hxfer.symm.trans h)
    exact if_pos (.inr (.inr ⟨rfl, hkind⟩))

theorem exec_ringResume_of_opens {s : State} {ag : Agent} {r : Fin 68} (ho : s.opens ag (ringReg r.val 0x1C)) :
    exec (.ringResume ag r) s = .next (s.ringCommand r.val 1) :=
  congrArg Host.Outcome.next (State.dmaAccess_ringReg r.isLt (by decide) _ ho)

theorem exec_ringSkip_of_opens {s : State} {ag : Agent} {r : Fin 68} (ho : s.opens ag (ringReg r.val 0x1C)) :
    exec (.ringSkip ag r) s = .next (s.ringCommand r.val 2) :=
  congrArg Host.Outcome.next (State.dmaAccess_ringReg r.isLt (by decide) _ ho)

/-- The transfer skipped. -/
def State.transferTaken (s : State) (r : Nat) : State := s.setRing r { s.ring r with xfer := none, reads := [], got := [] }

theorem State.skipTransfer_of_up (s : State) {r : Nat} (cause serial : Nat) (hr : r < 32) :
    s.skipTransfer r cause serial = (s.transferTaken r).upCompletion r (if cause ≤ 2 then 6 else 7) true := if_pos hr

end Sys2Proof.Machine
end
section
/-!
The DMA engine's rings and transfers settled (R388 to R403).
-/
namespace Sys2Proof.Machine

theorem upFrameArrive_spec : ∀ (s : State) (u : UpFrame) (us : List UpFrame), s.net.toHost = u :: us → u.ring < 32 →
      ∃ t, exec .upFrameArrive s = .next t ∧ t.net = { s.net with toHost := us } ∧
        (s.endpointUp = true → (s.ring u.ring).st ≠ ringDisabled → s.admissible u.ring = true →
          (t.ring u.ring).up = (s.ring u.ring).up ++ [u] ∧ ∀ q, q ≠ u.ring → t.ring q = s.ring q) ∧
        (s.endpointUp = true → ((s.ring u.ring).st = ringDisabled ∨ s.admissible u.ring = false) → t.dma.rings = s.dma.rings ∧
          t.fld (ringReg u.ring 0x30) 0 32 = min (2 ^ 32 - 1) (s.fld (ringReg u.ring 0x30) 0 32 + 1)) ∧
        (s.endpointUp = false → t.dma = s.dma ∧
          t.fld Reg.DMA_CNT_NOHOST 0 32 = min (2 ^ 32 - 1) (s.fld Reg.DMA_CNT_NOHOST 0 32 + 1)) := by
  intro s u us hhost hr
  cases hend : s.endpointUp with
  | false =>
    have hdma : (((s.hostTaken us).bump Reg.DMA_CNT_NOHOST 0 32).dmaSticky 8).dma = s.dma := State.dma_dmaSticky ..
    have hsame : ((s.hostTaken us).bump Reg.DMA_CNT_NOHOST 0 32).SameButRaises (((s.hostTaken us).bump Reg.DMA_CNT_NOHOST 0 32).dmaSticky 8) :=
      .sticky .refl
    have hcount : ((s.hostTaken us).bump Reg.DMA_CNT_NOHOST 0 32).fld Reg.DMA_CNT_NOHOST 0 32 =
      min (2 ^ 32 - 1) (s.fld Reg.DMA_CNT_NOHOST 0 32 + 1) := State.count_hostTaken ..
    have hrd : (((s.hostTaken us).bump Reg.DMA_CNT_NOHOST 0 32).dmaSticky 8).rd Reg.DMA_CNT_NOHOST =
      ((s.hostTaken us).bump Reg.DMA_CNT_NOHOST 0 32).rd Reg.DMA_CNT_NOHOST := State.rd_sticky_ne (by decide)
    refine ⟨_, exec_upFrameArrive_of_down hhost hend, ?_, fun h => absurd h (by decide), fun h => absurd h (by decide), fun _ => ?_⟩
    · split
      · rw [hsame]
        rfl
      · rfl
    · split
      · rw [State.fld, hrd]
        exact ⟨hdma, hcount⟩
      · exact ⟨rfl, hcount⟩
  | true =>
    by_cases hst : (s.ring u.ring).st = ringDisabled
    · refine ⟨_, exec_upFrameArrive_of_disabled hhost hend hst, rfl, fun _ h => absurd hst h, fun _ _ => ⟨rfl, ?_⟩,
        fun h => absurd h (by decide)⟩
      exact State.count_hostTaken ..
    · cases hadmit : s.admissible u.ring with
      | false =>
        have hframe : (s.hostTaken us).SameButRaises (((s.hostTaken us).bump (ringReg u.ring 0x30) 0 32).dmaSticky 5) := .sticky (.bump .refl)
        have hrd : (((s.hostTaken us).bump (ringReg u.ring 0x30) 0 32).dmaSticky 5).rd (ringReg u.ring 0x30) =
          ((s.hostTaken us).bump (ringReg u.ring 0x30) 0 32).rd (ringReg u.ring 0x30) :=
          State.rd_sticky_ne (ringReg_ne_of_lt _ _ (by decide))
        refine ⟨_, exec_upFrameArrive_of_inadmissible hhost hend hst hadmit, ?_, fun _ _ h => absurd h (by decide), fun _ _ => ⟨?_, ?_⟩,
          fun h => absurd h (by decide)⟩
        · rw [hframe]
          rfl
        · rw [hframe]
          rfl
        · rw [State.fld, hrd]
          exact State.count_hostTaken ..
      | true =>
        have hframe := s.frameArrived_frame u us
        have hdma : (s.frameArrived u us).dma = (s.frameAdmitted u us).dma := by rw [hframe]
        have hring : ∀ q, (s.frameArrived u us).ring q = (s.frameAdmitted u us).ring q := fun q => by
          rw [State.ring, hdma, State.ring]
        refine ⟨_, exec_upFrameArrive_of_admissible hhost hend hst hadmit, ?_, fun _ _ _ => ⟨?_, fun q hq => ?_⟩, ?_,
          fun h => absurd h (by decide)⟩
        · rw [hframe]
          rfl
        · rw [hring]
          exact congrArg RingState.up (State.ring_setRing_same ..)
        · rw [hring]
          exact State.ring_setRing_ne _ _ hq
        · rintro - (h | h)
          · exact absurd h hst
          · exact absurd h (by decide)

theorem upFrameWrite_of_short : ∀ (s : State) (r : Fin 32) (d : List Byte) (u : UpFrame) (us : List UpFrame), s.ringState r.val = ringRun → (s.ring r.val).xfer = none →
      (s.ring r.val).posted = some d → (s.ring r.val).up = u :: us → postedBad d = false →
      ofLeBytes ((d.drop 8).take 2) < u.frame.bytes.length →
      ∃ t, exec (.upFrameWrite r) s = .next t ∧ (t.ring r.val).up = us ∧ (t.ring r.val).ending = 8 ∧
        (t.ring r.val).xfer.map (·.data) = some (s.describe u ++ s.slotCtl r.val (s.ringCons r.val) 8) ∧ t.flag Reg.DMA_STICKY 3 = true ∧
        t.fld (ringReg r.val 0x30) 0 32 = min (2 ^ 32 - 1) (s.fld (ringReg r.val 0x30) 0 32 + 1) := by
  intro s r d u us hrun hidle hposted hup hgood hshort
  have hring : (s.dmaSticky 3).ring r.val = s.ring r.val := State.ring_dmaSticky ..
  have hcfg : ((s.dmaSticky 3).upDropped r.val us).rd (ringReg r.val 0x08) = s.rd (ringReg r.val 0x08) :=
    (State.keepsRegs_upDropped _ _ _ _ (by simp [ringReg_ne r.val (show 8 ≠ 0x30 by decide)])).trans
      (State.rd_sticky_ne (ringReg_ne_of_lt _ _ (by decide)))
  have hcons : ((s.dmaSticky 3).upDropped r.val us).ringCons r.val = s.ringCons r.val :=
    congrArg BitVec.toNat ((State.keepsRegs_upDropped _ _ _ _ (by simp [ringReg_ne r.val (show 0x10 ≠ 0x30 by decide)])).trans
      (State.rd_sticky_ne (ringReg_ne_of_lt _ _ (by decide))))
  have hflag : ((s.dmaSticky 3).upDropped r.val us).flag Reg.DMA_STICKY 3 = true := by
    rw [State.flag, State.keepsRegs_upDropped _ _ _ _ (by simp [(ringReg_ne_of_lt r.val 0x30 (show Reg.DMA_STICKY < 0xC02000 by decide)).symm])]
    exact State.flag_dmaSticky _ (by decide)
  have hcount : (s.dmaSticky 3).rd (ringReg r.val 0x30) = s.rd (ringReg r.val 0x30) := State.rd_sticky_ne (ringReg_ne_of_lt _ _ (by decide))
  have hexec : exec (.upFrameWrite r) s = .next (((s.dmaSticky 3).upDropped r.val us).completion r.val (s.describe u) 8) := by
    rw [exec_upFrameWrite_of_posted hrun hidle hposted hup, State.frameWritten, if_neg (by simp [hgood]), if_pos hshort,
      State.upCompletion_of_drop (by rw [hring]; exact hup), State.describe_dmaSticky]
  refine ⟨_, hexec, ?_, ?_, ?_, hflag, ?_⟩
  · rw [State.ring_completion, State.ring_upDropped]
  · rw [State.ring_completion]
  · rw [State.ring_completion, hcons, State.slotCtl_of_cfg hcfg]
    rfl
  · refine (State.dropped_upDropped (s.dmaSticky 3) r.val us).trans ?_
    rw [State.fld, hcount]
    rfl

theorem ringEnable_of_disabled_spec : ∀ (s : State) (ag : Agent) (r : Fin 68) (v : Word), s.opens ag (ringReg r.val 0x08) → 6 ≤ bitsAt v 0 5 → bitsAt v 0 5 ≤ 16 →
      (64 ≤ r.val ∨ bitsAt v 28 2 ≠ 0) → (s.ring r.val).st = ringDisabled →
      ∃ t, exec (.ringEnable ag r v) s = .next t ∧ (t.ring r.val).st = ringRun ∧ t.ringProd r.val = 0 ∧ t.ringCons r.val = 0 ∧
        t.ringLog r.val = bitsAt v 0 5 ∧ (t.ring r.val).events = [] ∧ s.keepsRegs t [ringReg r.val 8, ringReg r.val 0x0C, ringReg r.val 0x10] := by
  intro s ag r v ho hlo hhi hclass hst
  have hst' : ((s.plainWrite (ringReg r.val 0x08) (putBit v 31 true)).ring r.val).st = ringDisabled := by
    rw [State.ring_plainWrite]
    exact hst
  have hexec : exec (.ringEnable ag r v) s = .next ((s.plainWrite (ringReg r.val 0x08) (putBit v 31 true)).ringStart r.val) :=
    congrArg Host.Outcome.next ((State.dmaAccess_ringCfg true ho hlo hhi hclass (.inr (State.ringState_of_disabled hst))).trans
      (State.ringEnable_of_disabled hst'))
  refine ⟨_, hexec, ?_, State.prod_ringStart .., State.cons_ringStart .., ?_, ?_, ?_⟩
  · rw [State.ring_ringStart]
  · rw [State.ringLog_ringStart, State.ringLog_plainWrite, bitsAt_putBit_other _ _ _ _ _ (by decide)]
  · rw [State.ring_ringStart]
    rfl
  · exact (State.keepsRegs.plainWrite .refl (by simp)).trans
      (State.keepsRegs.mono (State.keepsRegs_ringStart (s.plainWrite (ringReg r.val 0x08) (putBit v 31 true)) r.val) (by simp))

theorem ringStopDone_spec : ∀ (s : State) (r : Fin 68), (s.ring r.val).st = ringStopping → (s.ring r.val).reads = [] →
      ∃ t, exec (.ringStopDone r) s = .next t ∧ (t.ring r.val).events = [] ∧ (t.ring r.val).up = [] ∧
        ((s.ring r.val).again = false → (t.ring r.val).st = ringDisabled) ∧
        ((s.ring r.val).again = true → (t.ring r.val).st = ringRun ∧ t.ringProd r.val = 0 ∧ t.ringCons r.val = 0) ∧
        t.fld (ringReg r.val 0x30) 0 32 = (if (s.ring r.val).up = [] then s.fld (ringReg r.val 0x30) 0 32
          else min (2 ^ 32 - 1) (s.fld (ringReg r.val 0x30) 0 32 + (s.ring r.val).up.length)) := by
  intro s r hst hreads
  obtain ⟨b, hlost⟩ := s.ring_recordsLost r.val
  have hstopped : (s.ringStopped r.val).ring r.val = { RingState.reset with
      st := if (s.ring r.val).again then ringRun else ringDisabled, ovf := b, leaving := (s.ring r.val).leaving } := by
    rw [State.ringStopped_eq]
    split
    · rw [State.ring_ringStart, hlost]
    · exact hlost
  refine ⟨_, exec_ringStopDone_of_drained hst hreads, ?_, ?_, fun hagain => ?_, fun hagain => ⟨?_, ?_, ?_⟩, ?_⟩
  · rw [hstopped]
    rfl
  · rw [hstopped]
    rfl
  · rw [hstopped, hagain]
    rfl
  · rw [hstopped, hagain]
    rfl
  · rw [State.ringStopped_eq, if_pos hagain]
    exact State.prod_ringStart ..
  · rw [State.ringStopped_eq, if_pos hagain]
    exact State.cons_ringStart ..
  · rw [State.dropped_ringStopped, State.dropped_framesDropped]

theorem chunkIssue_of_last : ∀ (s : State) (c r : Nat) (x : Transfer), s.nextClass = some c → c ≠ 0 → s.nextRing c = some r → r < 64 → (s.ring r).xfer = some x →
      ∀ ha, s.translate (x.da + x.pos) x.write = .inl ha → x.write = true → x.kind = 2 → x.pos + s.chunkLength x = x.total →
      ∃ t, exec .chunkIssue s = .next t ∧ (t.ring r).xfer = none ∧ (t.ring r).posted = none ∧
        t.rd (ringReg r 0x10) = s.rd (ringReg r 0x10) + 1 ∧
        t.fld (ringReg r 0x2C) 0 32 = min (2 ^ 32 - 1) (s.fld (ringReg r 0x2C) 0 32 + 1) := by
  intro s c r x hclass hc hring hr hxfer ha hda hwrite hkind hlast
  have hexec := (exec_chunkIssue_of_next hclass hc hring).trans
    (congrArg Host.Outcome.next (((State.issueRing_of_write (s := s.countChunk c r) hxfer hda hwrite).trans
      (if_pos hlast)).trans (State.transferDone_of_completion hkind)))
  refine ⟨_, hexec, ?_, ?_, ?_, ?_⟩
  · rw [State.ring_completionWritten]
  · rw [State.ring_completionWritten]
  · rw [State.rd_completionWritten _ hr (by decide), State.cons_completionCounted]
    rfl
  · rw [State.fld, State.rd_completionWritten _ hr (by decide)]
    exact State.done_completionCounted ..

theorem readCompletion_of_descriptor : ∀ (s : State) (r : Fin 64) (x : Transfer) (bs : List Byte), r.val < 32 → (s.ring r.val).reads = [(0, 32)] → (s.ring r.val).xfer = some x →
      x.kind = 0 → x.pos = x.total → x.total = 32 → (s.ring r.val).got = [] → (s.ring r.val).st ≠ ringFault → bs.length = 32 →
      ∃ t, exec (.readCompletion r 0 (.data bs)) s = .next t ∧ (t.ring r.val).posted = some bs ∧ (t.ring r.val).xfer = none ∧
        (t.ring r.val).reads = [] ∧ t.regs = s.regs := by
  intro s r x bs hr hreads hxfer hkind hpos htotal hgot hst hlen
  have hread : (s.ring r.val).reads[0]? = some (0, 32) := by rw [hreads]; rfl
  have hnone : ((s.readTaken r.val 0).ring r.val).reads = [] := by rw [State.ring_readTaken, hreads]; rfl
  have hnofault : ((s.readTaken r.val 0).ring r.val).st ≠ ringFault := by rw [State.ring_readTaken]; exact hst
  have hring : (s.readGot r.val 0 (0, 32) bs).ring r.val = { s.ring r.val with reads := [], got := [(0, bs)] } := by
    rw [State.readGot_eq, State.ring_setRing_same, hreads, hgot]
    rfl
  have hwhole : (gathered x.total [(0, bs)]).take 32 = bs := by
    rw [htotal, ← hlen]
    exact gathered_whole bs
  have hexec : exec (.readCompletion r 0 (.data bs)) s = .next ((s.readGot r.val 0 (0, 32) bs).descriptorHeld r.val bs) := by
    rw [exec_readCompletion_of_data hread hxfer hlen, if_pos ⟨hpos, hnone, hnofault⟩, State.transferDone_of_descriptor hr hkind, hring,
      hwhole]
  have hheld : ((s.readGot r.val 0 (0, 32) bs).descriptorHeld r.val bs).ring r.val = { s.ring r.val with
      reads := [], got := [], xfer := none, posted := some bs } := by
    rw [State.descriptorHeld, State.ring_setRing_same, hring]
  refine ⟨_, hexec, ?_, ?_, ?_, ?_⟩
  · rw [hheld]
  · rw [hheld]
  · rw [hheld]
  · rw [State.descriptorHeld, State.regs_setRing, State.regs_setRing, State.readGot_eq, State.regs_setRing]

theorem ringSkip_of_up : ∀ (s : State) (ag : Agent) (r : Fin 68) (x : Transfer) (u : UpFrame) (us : List UpFrame), s.opens ag (ringReg r.val 0x1C) → r.val < 32 →
      s.ringState r.val = ringFault → (s.ring r.val).xfer = some x → x.kind = 1 → (s.ring r.val).up = u :: us →
      ∃ t, exec (.ringSkip ag r) s = .next t ∧ (t.ring r.val).st = ringRun ∧ (t.ring r.val).up = us ∧
        (t.ring r.val).ending = (if s.fld (ringReg r.val 0x20) 28 4 ≤ 2 then 6 else 7) ∧
        t.fld (ringReg r.val 0x30) 0 32 = min (2 ^ 32 - 1) (s.fld (ringReg r.val 0x30) 0 32 + 1) ∧
        t.raised = s.raised ++ [⟨193, BitVec.ofNat 32 r.val, 0⟩] := by
  intro s ag r x u us ho hr hfault hxfer hkind hup
  have hring : ((s.ringResumed r.val).transferTaken r.val).ring r.val = { s.ring r.val with
      st := ringRun, xfer := none, reads := [], got := [] } := by
    rw [State.transferTaken, State.ring_setRing_same, State.ringResumed, State.ring_setRing_same]
  have hexec : exec (.ringSkip ag r) s = .next (((((s.ringResumed r.val).transferTaken r.val).upDropped r.val us).completion r.val
      (((s.ringResumed r.val).transferTaken r.val).describe u) (if s.fld (ringReg r.val 0x20) 28 4 ≤ 2 then 6 else 7)).raise 193
        (BitVec.ofNat 32 r.val)) := by
    rw [exec_ringSkip_of_opens ho, State.ringCommand_of_skip hfault hxfer hkind, State.skipTransfer_of_up _ _ _ hr,
      State.upCompletion_of_drop (by rw [hring]; exact hup)]
  have hdone := State.ring_completion (((s.ringResumed r.val).transferTaken r.val).upDropped r.val us) r.val
    (((s.ringResumed r.val).transferTaken r.val).describe u) (if s.fld (ringReg r.val 0x20) 28 4 ≤ 2 then 6 else 7)
  refine ⟨_, hexec, ?_, ?_, ?_, ?_, rfl⟩
  · refine (congrArg RingState.st hdone).trans ?_
    rw [State.ring_upDropped, hring]
  · refine (congrArg RingState.up hdone).trans ?_
    rw [State.ring_upDropped]
  · exact congrArg RingState.ending hdone
  · exact State.dropped_upDropped ((s.ringResumed r.val).transferTaken r.val) r.val us

/-- Settles O52: each command comes to the form that its lemmas above give, and the rings and registers of that form are read off. -/
theorem ringsAndTransfers : Obligations.RingsAndTransfers := by
  refine ⟨fun s ag r v ho => ?_, fun s ag e v ho => ?_, upFrameArrive_spec,
    fun s r d u us hrun hidle hposted hup hgood hfits hclean => ?_, upFrameWrite_of_short,
    fun s r d u us hrun hidle hposted hup hbad => ?_, fun s r hrun hidle hr hup hposted hne => ?_,
    fun s r d ds hrun hidle hr hadmit hdown hstarted hstatus hcells => ?_,
    fun s r hrun hidle hr hadmit hdown hne hfetched => ?_, fun s r d ds stamp hrun hidle hdown hstatus hbit => ?_,
    fun s r d ds st stamp hrun hidle hdown hstatus hst => ?_, ringEnable_of_disabled_spec,
    fun s ag r v ho hlo hhi hclass hn hst => ?_, fun s ag r v ho hlo hhi hclass hn hst => ?_, ringStopDone_spec,
    fun s c r x hclass hc hring hr hxfer ha hda hwrite => ?_, fun s c r x hclass hc hring hr hxfer ha hda hwrite hmore => ?_,
    chunkIssue_of_last, fun s c r x hclass hc hring hr hxfer cause hda hkept => ?_, fun s x h => s.chunkLength_spec x h,
    fun s r k p x bs hread hxfer hlen hmore => ?_, readCompletion_of_descriptor,
    fun s r k p x res cause hread hxfer hkept hres => ?_, fun s r k p x hread hxfer hkept => ?_,
    fun s ag r x ho hfault hxfer => ?_, fun s ag r ho hfault => ?_, ringSkip_of_up, fun s ag r x ho hfault hxfer hkind => ?_,
    fun s ag w j v ho => ?_⟩
  · exact congrArg Host.Outcome.next ((State.dmaAccess_ringReg (by omega) (by decide) _ ho).trans (s.writeIndex_prod r.isLt v))
  · exact congrArg Host.Outcome.next ((State.dmaAccess_ringReg (by omega) (by decide) _ ho).trans (s.writeIndex_cons (by omega) v))
  · rw [exec_upFrameWrite_of_posted hrun hidle hposted hup]
    exact congrArg Host.Outcome.next ((if_neg (by simp [hgood])).trans ((if_neg (by omega)).trans (if_neg (not_not_intro hclean))))
  · have hexec : exec (.upFrameWrite r) s = .next ((s.drewBytes 28).completion r.val (s.freeBytes 28) 5) := by
      rw [exec_upFrameWrite_of_posted hrun hidle hposted hup, State.frameWritten, if_pos hbad]
    refine ⟨_, hexec, ?_, ?_, s.freeBytes 28, s.length_freeBytes 28, ?_⟩
    · rw [State.ring_completion]
      exact hup
    · rw [State.ring_completion]
    · rw [State.ring_completion]
      rfl
  · exact exec_descriptorFetch_of_up hrun hidle hr hup hposted (State.fetchable_pos (s.rd (ringReg r.val 0x10)).isLt hne)
  · have hexec := exec_descriptorFetch_of_frame hrun hidle hr hadmit hdown hstarted hstatus hcells
    have hquota : ∀ t : State, (t.quotaAfter s).ring r.val = t.ring r.val := fun t => by
      rw [State.SameButRaises.quotaAfter (u := s) (State.SameButRaises.refl (s := t))]
      rfl
    refine ⟨_, hexec, ?_, ?_⟩
    · rw [hquota, State.ring_setRing_same]
    · rw [hquota, State.ring_setRing_same]
  · have hpos := State.fetchable_pos hfetched hne
    refine ⟨_, _, exec_descriptorFetch_of_down hrun hidle hr hadmit hdown hpos, hpos, ?_, ?_, ?_⟩
    · exact Nat.le_trans (Nat.min_le_left ..) (Nat.min_le_left ..)
    · exact Nat.le_trans (Nat.min_le_left ..) (Nat.min_le_right ..)
    · exact congrArg RingState.xfer (State.ring_setRing_same ..)
  · have hexec : exec (.downCompletion r) s = .next (s.completion (32 + r.val)
        (timeBytes stamp.time ++ leBytes 1 (ofBool (s.marked stamp)) ++ leBytes 15 0) 0) := by
      rw [exec_downCompletion_of_status hrun hidle hdown hstatus, State.downCompleted, if_pos ⟨rfl, hbit⟩]
    refine ⟨_, hexec, ?_, ?_⟩
    · rw [State.ring_completion]
    · rw [State.ring_completion]
      rfl
  · have hexec : exec (.downCompletion r) s = .next ((s.drewBytes 12).completion (32 + r.val) (s.freeBytes 12 ++ leBytes 16 0) st) := by
      rw [exec_downCompletion_of_status hrun hidle hdown hstatus, State.downCompleted, if_neg fun h => hst h.1]
    refine ⟨_, s.freeBytes 12, hexec, ?_, s.length_freeBytes 12, ?_⟩
    · rw [State.ring_completion]
    · rw [State.ring_completion]
      rfl
  · have hst' : ∀ b, ((s.plainWrite (ringReg r.val 0x08) (putBit v 31 b)).ring r.val).st = ringStopping := fun b => by
      rw [State.ring_plainWrite]
      exact hst
    have haccess := fun b => (State.dmaAccess_ringCfg b ho hlo hhi hclass (.inl hn)).trans (State.ringEnable_of_stopping (hst' b) b)
    refine ⟨⟨_, congrArg Host.Outcome.next (haccess true), ?_⟩, ⟨_, congrArg Host.Outcome.next (haccess false), ?_⟩⟩
    · rw [State.ring_setRing_same, State.ring_plainWrite]
    · rw [State.ring_setRing_same, State.ring_plainWrite]
  · have hst' : ((s.plainWrite (ringReg r.val 0x08) (putBit v 31 false)).ring r.val).st = ringRun ∨
        ((s.plainWrite (ringReg r.val 0x08) (putBit v 31 false)).ring r.val).st = ringFault := by
      rw [State.ring_plainWrite]
      exact hst
    have haccess := (State.dmaAccess_ringCfg false ho hlo hhi hclass (.inl hn)).trans (State.ringEnable_stops hst')
    refine ⟨_, congrArg Host.Outcome.next haccess, ?_, ?_, ?_, fun q hq => ?_⟩
    · rw [State.ring_setRing_same]
    · rw [State.ring_setRing_same]
    · rw [State.ring_setRing_same, State.ring_plainWrite]
    · rw [State.ring_setRing_ne _ _ hq, State.ring_plainWrite]
  · have hexec := (exec_chunkIssue_of_next hclass hc hring).trans
      (congrArg Host.Outcome.next (State.issueRing_of_read (s := s.countChunk c r) hxfer hda hwrite))
    refine ⟨_, hexec, rfl, State.ring_setRing_same .., fun q hq => State.ring_setRing_ne _ _ hq, rfl⟩
  · have hexec := (exec_chunkIssue_of_next hclass hc hring).trans
      (congrArg Host.Outcome.next ((State.issueRing_of_write (s := s.countChunk c r) hxfer hda hwrite).trans
        (if_neg (by rw [State.chunkLength_countChunk]; omega))))
    refine ⟨_, hexec, rfl, State.ring_setRing_same .., fun q hq => State.ring_setRing_ne _ _ hq, rfl⟩
  · have hexec := (exec_chunkIssue_of_next hclass hc hring).trans
      (congrArg Host.Outcome.next (State.issueRing_of_fault (s := s.countChunk c r) hxfer hda))
    have hrun : (s.ring r).st = ringRun := State.run_of_ready (State.ring_of_nextRing hring)
    have hbroken : (s.countChunk c r).ringFaulted r cause x x.pos = ((s.countChunk c r).faultLatched r cause x x.pos).ringBroken r
        ((s.ring r).faulted x x.pos) :=
      (State.ringFaulted_of_kept (s := s.countChunk c r) cause x.pos hkept).trans
        (if_neg (by change (s.ring r).st ≠ ringFault; rw [hrun]; decide))
    rw [hbroken] at hexec
    refine ⟨_, hexec, ?_, ?_, ?_, ?_, State.raised_ringBroken ..⟩
    · rw [State.ring_ringBroken]
      rfl
    · rw [State.ring_ringBroken]
      rfl
    · rw [State.link_ringBroken, State.dma_faultLatched, State.link_countChunk]
    · rw [State.rd_ringBroken, State.rd_faultLatched]
  · rw [exec_readCompletion_of_data hread hxfer hlen, if_neg fun h => hmore h.1, State.readGot_eq]
  · have hcause : 2 < cause := by
      simp only [List.mem_cons, Prod.mk.injEq, List.not_mem_nil, or_false] at hres
      omega
    refine ⟨_, exec_readCompletion_of_fault hread hxfer hres, ?_, ?_, ?_, State.flag_ringFaulted (s := s.readTaken r.val k) hkept hcause⟩
    · rw [State.ring_ringFaulted (s := s.readTaken r.val k) hkept]
      rfl
    · rw [State.ring_ringFaulted (s := s.readTaken r.val k) hkept]
      rfl
    · exact State.rd_ringFaulted (s := s.readTaken r.val k) hkept
  · refine ⟨_, exec_completionTimeout_of_read hread hxfer, ?_, ?_⟩
    · rw [State.ring_ringFaulted (s := s.readTaken r.val k) hkept]
      rfl
    · exact State.rd_ringFaulted (s := s.readTaken r.val k) hkept
  · rw [exec_ringResume_of_opens ho, State.ringCommand_of_resume hfault hxfer]
    rfl
  · rw [exec_ringResume_of_opens ho, exec_ringSkip_of_opens ho, State.ringCommand_of_refused hfault, State.ringCommand_of_refused hfault]
    exact ⟨rfl, rfl⟩
  · rw [exec_ringSkip_of_opens ho, State.ringCommand_of_unskippable hxfer hkind]
  · refine congrArg Host.Outcome.next ((State.writeAccess_opens _ _ _ _ _ ho).trans (s.dmaWrite_window w j v))

end Sys2Proof.Machine
end

section
/-!
A cold reset with a fused junction limit: CPM_THERM takes its fuse, not the value after reset (R443).
-/
namespace Sys2Proof.Machine

/-- In RESET, with a fused junction limit. -/
def fusedTherm : State := { State.reset with fuse := { State.reset.fuse with factory := [(Reg.CPM_THERM, 0)] } }

/-- The device with its supply lost. -/
def fusedThermOff : State :=
  { ((fusedTherm.coldReset rstPowerOn).wr Reg.CPM_STATUS 0).setFld Reg.GCTL_STATUS 0 4 modeOff with
    cpm := { (fusedTherm.coldReset rstPowerOn).cpm with lost := [] }
    gctl := { (fusedTherm.coldReset rstPowerOn).gctl with por := true } }

theorem exec_supplyLoss_fusedTherm : exec .supplyLoss fusedTherm = .next fusedThermOff :=
  congrArg Host.Outcome.next (if_neg (by decide +kernel))

/-- Refutes O55: at a loss of supply CPM_THERM takes the fused junction limit, which need not be its value in State.reset. -/
theorem not_suppliesResetsAndBoot : ¬ Obligations.SuppliesResetsAndBoot := by
  rintro ⟨-, hloss, -⟩
  obtain ⟨t, hexec, -, -, -, -, -, -, -, -, -, hregs⟩ := hloss fusedTherm (by decide +kernel)
  obtain rfl := Host.Outcome.next.inj (hexec.symm.trans exec_supplyLoss_fusedTherm)
  exact absurd (hregs Reg.CPM_THERM (by decide)) (by decide +kernel)

end Sys2Proof.Machine
end

section
/-!
A gate of PD_BNE whose EN is 0: the write asks for the power-down too, and the engine shows its status anew (R413, R422).
-/
namespace Sys2Proof.Machine

/-- In STAGED, PD_BNE is on with EN = 0, and BNE_STATUS shows a command that the engine does not hold. -/
def engineOwingDown : State :=
  ((State.reset.setFld Reg.GCTL_STATUS 0 4 modeStaged).setFld (Reg.CPM_PD_CTL PD_BNE) 24 3 pdOn).setFlag Reg.BNE_STATUS 0 true

/-- The state after the gate. -/
def engineGated : State :=
  engineOwingDown.writePd .jtag PD_BNE (engineOwingDown.pdWord PD_BNE (engineOwingDown.pdEn PD_BNE) false true false) true

theorem exec_clockGate_engineOwingDown : exec (.clockGate .jtag ⟨PD_BNE, by decide⟩ true) engineOwingDown = .next engineGated :=
  congrArg Host.Outcome.next (State.writeAccess_opens _ _ _ _ _ (by decide +kernel))

/-- Refutes O60: a gate of PD_BNE with EN = 0 requests its power-down, which writes BNE_STATUS, and no premise sets EN. -/
theorem not_commandsThatStoreNothing : ¬ Obligations.CommandsThatStoreNothing := by
  rintro ⟨hclock, -⟩
  obtain ⟨-, -, -, -, -, -, -, hregs⟩ := hclock engineOwingDown engineGated (.clockGate .jtag ⟨PD_BNE, by decide⟩ true) .jtag
    ⟨PD_BNE, by decide⟩ true 0 0 0 none 0 (.done []) (by simp) exec_clockGate_engineOwingDown
  exact absurd (hregs Reg.BNE_STATUS (by decide) (by decide) fun h => absurd h (by decide)) (by decide +kernel)

end Sys2Proof.Machine
end

section
/-!
Two tiles retired by one write while a request of a class beyond the four waits on the second: its drop counts in
REL_RET_TILE0, in place of a GYS_ADMDROP (R139, R476).
-/
namespace Sys2Proof.Machine

/-- A request on tile 1 whose class is such that its GYS_ADMDROP would lie at REL_RET_TILE0. -/
def strayRequest : Request :=
  { kind := .timer 0, tile := 1, pclass := (Reg.REL_RET_TILE 0 - Reg.GYS_ADMDROP 0) / 4, entry := 0, bank := 0, stamp := Stamp.plain 0,
    g1 := 0, code := 0, tag := 0, frame := none }

/-- In STAGED, PD_FABRIC is on and the request waits. -/
def strayRequestWaits : State :=
  { (State.reset.setFld Reg.GCTL_STATUS 0 4 modeStaged).setFld (Reg.CPM_PD_CTL PD_FABRIC) 24 3 pdOn with
    gys := { State.reset.gys with queued := [strayRequest] } }

/-- The state after tiles 0 and 1 have been retired. -/
def strayRequestCounted : State := strayRequestWaits.writeRetireTile 0 3

theorem exec_retireTileWrite_strayRequestWaits :
    exec (.retireTileWrite .jtag 0 3) strayRequestWaits = .next strayRequestCounted :=
  congrArg Host.Outcome.next (State.writeAccess_opens _ _ _ _ _ (by decide +kernel))

/-- Refutes O57: no premise bounds the class of a request, and the count of its drop clears the bit of a tile just retired. -/
theorem not_errorsWatchdogsAndLog : ¬ Obligations.ErrorsWatchdogsAndLog := by
  rintro ⟨-, -, -, -, -, -, hretire, -⟩
  obtain ⟨t, hexec, hretired⟩ := hretire strayRequestWaits .jtag 0 3 (by decide +kernel)
  rw [exec_retireTileWrite_strayRequestWaits] at hexec
  rw [← Host.Outcome.next.inj hexec] at hretired
  have hlost : strayRequestCounted.tileRetired (32 * (0 : Fin 3).val + (0 : Fin 32).val) = false := by
    decide +kernel
  have hkept := hretired 0 (by decide) (by decide)
  rw [hlost] at hkept
  cases hkept

end Sys2Proof.Machine
end

section
/-!
What a change of mode moves. Beside the mode itself and its log entry it moves registers of CAL, SEL, DRY, GRV and GNS, the
counters of a full log and of mirroring, and PAR_TKMODE; of the rest of the machine only the working states of those blocks.
The roles and the flags of PAR_STATUS but MSYNC stay, and what is raised stays raised.
-/
namespace Sys2Proof.Machine

/-- The part of the machine that no change of mode moves. -/
def State.unmoved (s : State) : CpmState × GctlState × FuseState × Bool × BusState × Nat × PairState :=
  (s.cpm, s.gctl, s.fuse, s.fenceIn, s.bus, s.cal.count, { s.pair with mirror := [], lost := false })

/-- A register of the blocks CAL, PRT, SEL, DRY, GRV and GNS. -/
abbrev signalReg (o : Nat) : Prop := 0x200000 ≤ o ∧ o < 0x700000

/-- The second state follows from the first with at most signal registers and the listed ones, working states and more raises
moved. -/
structure State.Moved (l : List Nat) (s t : State) : Prop where
  regs : ∀ o, ¬ signalReg o → o ∉ l → t.rd o = s.rd o
  status : ∀ i, i ≠ psMsync → t.flag Reg.PAR_STATUS i = s.flag Reg.PAR_STATUS i
  unmoved : t.unmoved = s.unmoved
  raised : s.raised ⊆ t.raised

/-- The registers outside the signal blocks that a change of mode moves beside the mode. -/
def movedRegs : List Nat :=
  [Reg.REL_LOG_LOST, Reg.REL_STICKY, Reg.CPM_I2C0_CTL, Reg.CPM_I2C1_CTL, Reg.PAR_TKMODE, Reg.PAR_STATUS,
   Reg.PAR_CNT_MDISC, Reg.PAR_CNT_MLOST]

namespace State.Moved

variable {s t u : State} {l l' : List Nat} {o lo n k i : Nat} {b : Bool} {w x : Word}

theorem refl : s.Moved l s := ⟨fun _ _ _ => rfl, fun _ _ => rfl, rfl, List.Subset.refl _⟩

theorem trans (h : s.Moved l t) (h' : t.Moved l u) : s.Moved l u :=
  ⟨fun o ho hl => (h'.regs o ho hl).trans (h.regs o ho hl), fun i hi => (h'.status i hi).trans (h.status i hi),
    h'.unmoved.trans h.unmoved, List.Subset.trans h.raised h'.raised⟩

theorem mono (h : s.Moved l t) (hl : l ⊆ l') : s.Moved l' t :=
  ⟨fun o ho hm => h.regs o ho fun hm' => hm (hl hm'), h.status, h.unmoved, h.raised⟩

/-- The same registers, the same unmoved part, no raise lost. -/
theorem of_same (h : s.Moved l t) (hregs : u.regs = t.regs := by rfl) (hu : u.unmoved = t.unmoved := by rfl)
    (hr : t.raised ⊆ u.raised := by exact List.Subset.refl _) : s.Moved l u :=
  h.trans ⟨fun o _ _ => State.rd_of_regs _ _ hregs o, fun i _ => by simp only [State.flag, State.rd_of_regs _ _ hregs], hu, hr⟩

theorem wr (h : s.Moved l t) (ho : signalReg o ∨ o ∈ l ∧ o ≠ Reg.PAR_STATUS := by decide) : s.Moved l (t.wr o w) :=
  h.trans ⟨fun j hj hl => t.rd_wr_ne o j w (by rintro rfl; exact ho.elim hj fun h => hl h.1),
    fun i _ => by
      have hne : Reg.PAR_STATUS ≠ o := by
        rintro rfl
        exact ho.elim (by decide) fun h => h.2 rfl
      rw [State.flag, State.rd_wr_ne _ _ _ _ hne]
      rfl, rfl, List.Subset.refl _⟩

theorem setFld {v : Nat} (h : s.Moved l t) (ho : signalReg o ∨ o ∈ l ∧ o ≠ Reg.PAR_STATUS := by decide) :
    s.Moved l (t.setFld o lo n v) := h.wr ho

theorem setFlag (h : s.Moved l t) (ho : signalReg o ∨ o ∈ l ∧ o ≠ Reg.PAR_STATUS := by decide) :
    s.Moved l (t.setFlag o i b) := h.wr ho

theorem bump (h : s.Moved l t) (ho : signalReg o ∨ o ∈ l ∧ o ≠ Reg.PAR_STATUS := by decide) :
    s.Moved l (t.bump o lo n k) := h.wr ho

theorem setMsync (h : s.Moved l t) (ho : Reg.PAR_STATUS ∈ l) : s.Moved l (t.setFlag Reg.PAR_STATUS psMsync b) :=
  h.trans ⟨fun j _ hl => t.rd_wr_ne _ j _ (by rintro rfl; exact hl ho),
    fun i hi => State.flag_setFlag_other _ _ _ _ _ _ (.inr hi), rfl, List.Subset.refl _⟩

theorem raise (h : s.Moved l t) : s.Moved l (t.raise k w x) := h.of_same (hr := List.subset_append_left _ _)

theorem ite {c : Prop} [Decidable c] (ht : s.Moved l t) (hu : s.Moved l u) : s.Moved l (if c then t else u) := by
  split
  · exact ht
  · exact hu

theorem error {src : Nat} (h : s.Moved l t) (ho : signalReg o ∨ o ∈ l ∧ o ≠ Reg.PAR_STATUS := by decide) :
    s.Moved l (t.error o i src) := .ite h (h.setFlag ho).raise

theorem foldl {α : Type} {f : State → α → State} {as : List α} (h : s.Moved l t)
    (hf : ∀ a ∈ as, ∀ v, s.Moved l v → s.Moved l (f v a)) : s.Moved l (as.foldl f t) :=
  List.foldlRecOn as f h fun v hv a ha => hf a ha v hv

theorem logEntry (h : s.Moved l t) (e : LogEntry) (hlost : Reg.REL_LOG_LOST ∈ l) (hsticky : Reg.REL_STICKY ∈ l) :
    s.Moved l (t.logEntry e) :=
  .ite h (.ite h.of_same ((h.bump (.inr ⟨hlost, by decide⟩)).setFlag (.inr ⟨hsticky, by decide⟩)))

theorem flag (h : s.Moved l t) (ho : ¬ signalReg o) (hl : o ∉ l) (i : Nat) : t.flag o i = s.flag o i := by
  rw [State.flag, h.regs o ho hl]
  rfl

theorem fld (h : s.Moved l t) (ho : ¬ signalReg o) (hl : o ∉ l) (lo n : Nat) : t.fld o lo n = s.fld o lo n := by
  rw [State.fld, h.regs o ho hl]
  rfl

/-- A change outside the mode register leaves the mode. -/
theorem mode (h : s.Moved l t) (hl : Reg.GCTL_STATUS ∉ l) : t.mode = s.mode := h.fld (by decide) hl 0 4

theorem cpm (h : s.Moved l t) : t.cpm = s.cpm := congrArg (·.1) h.unmoved

theorem gctl (h : s.Moved l t) : t.gctl = s.gctl := congrArg (·.2.1) h.unmoved

theorem fuse (h : s.Moved l t) : t.fuse = s.fuse := congrArg (·.2.2.1) h.unmoved

theorem fenceIn (h : s.Moved l t) : t.fenceIn = s.fenceIn := congrArg (·.2.2.2.1) h.unmoved

theorem bus (h : s.Moved l t) : t.bus = s.bus := congrArg (·.2.2.2.2.1) h.unmoved

theorem count (h : s.Moved l t) : t.cal.count = s.cal.count := congrArg (·.2.2.2.2.2.1) h.unmoved

/-- The pair's state stays but for its mirror queue. -/
theorem pair (h : s.Moved l t) : { t.pair with mirror := [], lost := false } = { s.pair with mirror := [], lost := false } :=
  congrArg (·.2.2.2.2.2.2) h.unmoved

end State.Moved

/-- Two words with the same bits in a field have the same field. -/
theorem bitsAt_congr {v w : Word} {lo n : Nat} (h : ∀ i < n, v.getLsbD (lo + i) = w.getLsbD (lo + i)) :
    bitsAt v lo n = bitsAt w lo n := by
  apply Nat.eq_of_testBit_eq
  intro i
  rw [bitsAt_testBit, bitsAt_testBit]
  by_cases hi : i < n
  · rw [h i hi]
  · simp [hi]

theorem State.Moved.role {s t : State} {l : List Nat} (h : s.Moved l t) : t.role = s.role :=
  bitsAt_congr fun i _ => h.status (30 + i) (by simp only [psMsync]; omega)

/-! ### The parts of a change of mode -/

theorem signalReg_grvChCtl {n : Nat} (hn : n < 20) : signalReg (Reg.GRV_CH_CTL n) := by
  simp only [signalReg, Reg.GRV_CH_CTL]
  omega

theorem signalReg_grvChDiv {n : Nat} (hn : n < 20) : signalReg (Reg.GRV_CH_DIV n) := by
  simp only [signalReg, Reg.GRV_CH_DIV]
  omega

theorem signalReg_selSlotStat {n : Nat} (hn : n < 16) : signalReg (Reg.SEL_SLOT_STAT n) := by
  simp only [signalReg, Reg.SEL_SLOT_STAT]
  omega

theorem State.moved_grvArm {s t : State} {l : List Nat} (h : s.Moved l t) (n : Nat) : s.Moved l (t.grvArm n) :=
  .ite h.of_same h.of_same

theorem State.moved_refEnable {s t : State} {l : List Nat} (h : s.Moved l t) {n : Nat} (hn : n < 20) :
    s.Moved l (t.refEnable n) :=
  State.moved_grvArm (h.wr (.inl (signalReg_grvChCtl hn))) n

theorem State.moved_refDivider {s t : State} {l : List Nat} (h : s.Moved l t) {n : Nat} (hn : n ≤ 4) :
    s.Moved l (t.refDivider n) :=
  .ite h (.ite
    (State.moved_refEnable (h.wr (.inl (signalReg_grvChDiv (by omega)))) (by omega))
    (h.error (.inl (by decide))))

theorem State.moved_refChannel {s t : State} {l : List Nat} (h : s.Moved l t) {n : Nat} (hn : n < 20) :
    s.Moved l (t.refChannel n) := by
  unfold State.refChannel
  split
  · exact h
  · split
    · exact State.moved_refDivider h (by omega)
    · exact State.moved_refEnable h hn

theorem State.moved_grvLeave {s t : State} {l : List Nat} (h : s.Moved l t) : s.Moved l t.grvLeave := by
  refine .foldl h fun i hi v hv => ?_
  have hlt : i < 10 := List.mem_range.mp hi
  have hctl := (hv.setFlag (o := Reg.GRV_CH_CTL (8 + i)) (i := 30) (b := false) (.inl (signalReg_grvChCtl (by omega)))).setFlag
    (o := Reg.GRV_CH_CTL (8 + i)) (i := 31) (b := false) (.inl (signalReg_grvChCtl (by omega)))
  exact State.moved_refChannel hctl.of_same (by omega)

theorem State.moved_gnsRefresh {s t : State} {l : List Nat} (h : s.Moved l t) : s.Moved l t.gnsRefresh :=
  ((h.setFlag (.inl (by decide))).setFlag (.inl (by decide))).setFld (.inl (by decide))

/-- The registers outside the signal blocks that leaving a mode of the host moves. -/
theorem State.moved_leaveHostMode {s t : State} (h : s.Moved movedRegs t) : s.Moved movedRegs t.leaveHostMode := by
  have hleft := (State.moved_grvLeave (h.setFlag (o := Reg.CAL_CTRL) (i := 0) (b := false))).setFlag
    (o := Reg.CPM_I2C0_CTL) (i := 30) (b := false) |>.setFlag
    (o := Reg.CPM_I2C1_CTL) (i := 30) (b := false)
  exact .ite (State.moved_gnsRefresh (hleft.setFlag)) hleft

theorem State.moved_outRun {s t : State} {l : List Nat} (h : s.Moved l t) (k : Nat) (b : Bool) : s.Moved l (t.outRun k b) :=
  .ite h (h.setFlag (.inl (by decide))).raise

theorem State.moved_dryRefresh {s t : State} {l : List Nat} (h : s.Moved l t) : s.Moved l t.dryRefresh :=
  State.moved_outRun (State.moved_outRun (.foldl h fun n _ _ hv => .ite (State.moved_outRun hv n false) hv) _ _) _ _

theorem State.moved_queueMirror {s t : State} (h : s.Moved movedRegs t) (line : Nat) :
    s.Moved movedRegs (t.queueMirror line) :=
  .ite h.of_same
    ((h.bump (o := Reg.PAR_CNT_MLOST)).setMsync (by decide)).raise.of_same

theorem State.moved_poolWrite {s t : State} (h : s.Moved movedRegs t) (who : PoolWriter) (a : Nat) (bs : List Byte) :
    s.Moved movedRegs (t.poolWrite who a bs) :=
  .ite (h.bump) (.ite (State.moved_queueMirror h.of_same _) h.of_same)

theorem State.moved_writeParams {s t : State} (h : s.Moved movedRegs t) (line : List Byte) :
    s.Moved movedRegs (t.writeParams line) := by
  unfold State.writeParams
  extract_lets u
  have hu : s.Moved movedRegs u := .ite h (State.moved_poolWrite h _ _ _)
  exact .ite hu (State.moved_poolWrite hu _ _ _)

theorem State.moved_publish {s t : State} (h : s.Moved movedRegs t) : s.Moved movedRegs t.publish := by
  unfold State.publish
  extract_lets d u q line v
  have hu : s.Moved movedRegs u := (h.setFlag).setFld
  have hv : s.Moved movedRegs v := (State.moved_writeParams hu line).of_same
  exact .ite h (.ite hv (hv.setFld).raise)

theorem State.moved_refreshSlots {s t : State} {l : List Nat} (h : s.Moved l t) : s.Moved l t.refreshSlots :=
  .foldl h fun n hn v hv => by
    have ho := signalReg_selSlotStat (List.mem_range.mp hn)
    exact ((hv.setFlag (.inl ho)).setFld (.inl ho)).setFlag (.inl ho)

theorem State.moved_setMode {s t : State} {l : List Nat} (h : s.Moved l t) (m : Nat) (hmode : Reg.GCTL_STATUS ∈ l)
    (hlost : Reg.REL_LOG_LOST ∈ l) (hsticky : Reg.REL_STICKY ∈ l) : s.Moved l (t.setMode m) := by
  have hlogged := (h.setFld (o := Reg.GCTL_STATUS) (lo := 0) (n := 4) (v := m) (.inr ⟨hmode, by decide⟩)).logEntry
    ⟨224, (Config.logSeverity 224).val, 0, BitVec.ofNat 32 (m + t.mode * 2 ^ 8), 0, 0⟩ hlost hsticky
  exact .ite h (.ite hlogged.raise hlogged)

theorem State.moved_moveMode {s t : State} (h : s.Moved (Reg.GCTL_STATUS :: movedRegs) t) :
    s.Moved (Reg.GCTL_STATUS :: movedRegs) t.moveMode := by
  have hever : ∀ (v : State) (m : Nat), s.Moved (Reg.GCTL_STATUS :: movedRegs) v →
      s.Moved (Reg.GCTL_STATUS :: movedRegs) (if m = modeLocked then v.setFlag Reg.SEL_STATUS 26 true else v) :=
    fun v m hv => .ite (hv.setFlag) hv
  exact .ite (hever _ _ (h.setFld))
    (.ite (hever _ _ (State.moved_setMode h _ (by decide) (by decide) (by decide))) h)

theorem State.moved_settle {s t : State} (h : s.Moved (Reg.GCTL_STATUS :: movedRegs) t) :
    s.Moved (Reg.GCTL_STATUS :: movedRegs) t.settle :=
  (State.moved_refreshSlots (State.moved_moveMode h)).trans ((State.moved_publish .refl).mono (List.subset_cons_self _ _))

/-- What a change of mode moves. -/
theorem State.moved_enterMode {s t : State} (h : s.Moved (Reg.GCTL_STATUS :: movedRegs) t) (m : Nat) :
    s.Moved (Reg.GCTL_STATUS :: movedRegs) (t.enterMode m) := by
  unfold State.enterMode
  extract_lets u v w
  have hu : s.Moved (Reg.GCTL_STATUS :: movedRegs) u :=
    State.moved_setMode h m (by decide) (by decide) (by decide)
  have hv : s.Moved (Reg.GCTL_STATUS :: movedRegs) v :=
    .ite (hu.trans ((State.moved_leaveHostMode .refl).mono (List.subset_cons_self _ _))) hu
  exact State.moved_dryRefresh (.ite (State.moved_settle hv) hv)

/-! ### The mode after a change of mode -/

theorem State.rd_logEntry_mode (s : State) (e : LogEntry) : (s.logEntry e).rd Reg.GCTL_STATUS = s.rd Reg.GCTL_STATUS :=
  State.keepsRegs.logEntry (l := [Reg.REL_LOG_LOST, Reg.REL_STICKY]) .refl e (by decide) (by decide) _ (by decide)

theorem State.mode_setMode (s : State) {m : Nat} (hm : m < 16) : (s.setMode m).mode = m := by
  have hfld : (s.setFld Reg.GCTL_STATUS 0 4 m).mode = m := by
    rw [State.mode, State.fld_setFld _ _ _ _ _ (by decide)]
    omega
  unfold State.setMode
  split
  · next h => exact h.symm
  · dsimp only
    split
    · rw [State.mode, State.fld_raise, State.log, State.fld, State.rd_logEntry_mode]
      exact hfld
    · rw [State.mode, State.log, State.fld, State.rd_logEntry_mode]
      exact hfld

theorem State.nextMode_serves (s : State) {m : Nat} (h : 4 ≤ m ∧ m ≤ 7) : 4 ≤ s.nextMode m ∧ s.nextMode m ≤ 7 := by
  unfold State.nextMode
  dsimp only
  split
  · split
    · split <;> decide
    · decide
  · split
    · decide
    · split
      · decide
      · split
        · decide
        · exact h

theorem State.answersClients_iff (s : State) : s.answersClients = true ↔ 4 ≤ s.mode ∧ s.mode ≤ 7 := by
  simp [State.answersClients]

/-- Firmware moves the mode of a device only while it serves, and then among the serving modes. -/
theorem State.mode_moveMode_of_not_serving {s : State} (h : s.answersClients = false) : s.moveMode.mode = s.mode := by
  have hever : ∀ (v : State) (m : Nat), (if m = modeLocked then v.setFlag Reg.SEL_STATUS 26 true else v).mode = v.mode := by
    intro v m
    split
    · exact State.fld_setFlag_other _ _ _ _ _ _ _ (by decide)
    · rfl
  unfold State.moveMode
  dsimp only
  split
  · rw [hever]
    exact State.fld_setFld_other _ _ _ _ _ _ _ _ (by decide) (by decide)
  · rw [State.serving, if_neg (by simp [h])]

theorem State.serves_moveMode {s : State} (h : s.answersClients = true) : s.moveMode.answersClients = true := by
  have hmode := s.answersClients_iff.mp h
  have hnext := s.nextMode_serves hmode
  have hset : (s.setMode (s.nextMode s.mode)).mode = s.nextMode s.mode := s.mode_setMode (by omega)
  unfold State.moveMode
  dsimp only
  rw [if_neg (by simp only [modeStandby]; omega), State.serving, if_pos h]
  split
  · rw [State.answersClients_iff, State.mode, State.fld_setFlag_other _ _ _ _ _ _ _ (by decide), ← State.mode, hset]
    exact hnext
  · rw [State.answersClients_iff, hset]
    exact hnext

theorem State.mode_settle (s : State) : s.settle.mode = s.moveMode.mode :=
  (State.moved_publish (State.moved_refreshSlots .refl)).mode (by decide)

/-- A change of mode comes to the mode before firmware settles it. -/
theorem State.mode_enterMode_of_not_serving (s : State) {m : Nat} (hm : m < 16) (hserve : m < 4 ∨ 7 < m) :
    (s.enterMode m).mode = m := by
  unfold State.enterMode
  extract_lets u v w
  have hu : u.mode = m := s.mode_setMode hm
  have hv : v.mode = m := by
    rw [← hu]
    exact State.Moved.mode (l := movedRegs) (.ite (State.moved_leaveHostMode .refl) .refl) (by decide)
  have hw : w.mode = m := by
    change (if v.selFirmware then v.settle else v).mode = m
    split
    · rw [State.mode_settle, State.mode_moveMode_of_not_serving, hv]
      simp only [State.answersClients, hv, Bool.and_eq_false_iff, decide_eq_false_iff_not]
      omega
    · exact hv
  exact (State.Moved.mode (l := movedRegs) (State.moved_dryRefresh .refl) (by decide)).trans hw

theorem State.serves_enterMode (s : State) {m : Nat} (hm : 4 ≤ m ∧ m ≤ 7) : (s.enterMode m).answersClients = true := by
  unfold State.enterMode
  extract_lets u v w
  have hu : u.mode = m := s.mode_setMode (by omega)
  have hv : v.mode = m := by
    rw [← hu]
    exact State.Moved.mode (l := movedRegs) (.ite (State.moved_leaveHostMode .refl) .refl) (by decide)
  have hw : w.answersClients = true := by
    change (if v.selFirmware then v.settle else v).answersClients = true
    have hserve : v.answersClients = true := v.answersClients_iff.mpr (hv.symm ▸ hm)
    split
    · have hsettle := State.serves_moveMode hserve
      rw [State.answersClients_iff] at hsettle ⊢
      rwa [State.mode_settle]
    · exact hserve
  rw [State.answersClients_iff] at hw ⊢
  rwa [(State.Moved.mode (l := movedRegs) (State.moved_dryRefresh .refl) (by decide))]

end Sys2Proof.Machine
end

section
/-!
The roles of the pair (R488, R490): what a change of role leaves, and the device that takes over.
-/
namespace Sys2Proof.Machine

/-- The registers outside the signal blocks that a change of role moves: the role and, where it leaves service, what a change
of mode moves. -/
abbrev roleRegs : List Nat := Reg.GCTL_STATUS :: movedRegs

theorem State.moved_goStandby {s t : State} (h : s.Moved roleRegs t) : s.Moved roleRegs t.goStandby :=
  State.moved_enterMode (h.setFld) _

theorem State.mode_goStandby (s : State) : s.goStandby.mode = modeStandby :=
  State.mode_enterMode_of_not_serving _ (by decide) (by decide)

/-- Beside its field, a change of role moves what a change of mode does. -/
theorem State.moved_setRole (s : State) (r : Nat) : (s.setFld Reg.PAR_STATUS 30 2 r).Moved roleRegs (s.setRole r) :=
  .ite (State.moved_goStandby .refl) .refl

theorem State.role_setFld (s : State) {r : Nat} (hr : r < 4) : (s.setFld Reg.PAR_STATUS 30 2 r).role = r := by
  rw [State.role, State.fld_setFld _ _ _ _ _ (by decide)]
  omega

theorem State.role_setRole (s : State) {r : Nat} (hr : r < 4) : (s.setRole r).role = r :=
  (s.moved_setRole r).role.trans (s.role_setFld hr)

theorem State.flag_setRole (s : State) (r : Nat) {i : Nat} (hi : i < 30) (hne : i ≠ psMsync) :
    (s.setRole r).flag Reg.PAR_STATUS i = s.flag Reg.PAR_STATUS i :=
  ((s.moved_setRole r).status i hne).trans (State.flag_setFld_other _ _ _ _ _ _ _ (by omega) (by omega))

theorem State.epoch_setRole (s : State) (r : Nat) : (s.setRole r).epoch = s.epoch :=
  ((s.moved_setRole r).regs Reg.PAR_EPOCH (by decide) (by decide)).trans (s.rd_wr_ne _ _ _ (by decide))

/-- Only a device that becomes STANDBY may leave its mode. -/
theorem State.setRole_of_ne {s : State} {r : Nat} (h : r ≠ roleStandby) : s.setRole r = s.setFld Reg.PAR_STATUS 30 2 r :=
  if_neg fun hc => h hc.1

theorem State.answersClients_setFld (s : State) (r : Nat) :
    (s.setFld Reg.PAR_STATUS 30 2 r).answersClients = s.answersClients := by
  rw [State.answersClients, State.mode, State.fld_setFld_other _ _ _ _ _ _ _ _ (by decide) (by decide)]
  rfl

theorem State.setRole_of_not_serving {s : State} (h : s.answersClients = false) (r : Nat) :
    s.setRole r = s.setFld Reg.PAR_STATUS 30 2 r :=
  if_neg fun hc => by rw [s.answersClients_setFld, h] at hc; exact absurd hc.2 (by decide)

/-- A serving device that becomes STANDBY goes to STANDBY. -/
theorem State.mode_setRole_standby {s : State} (h : s.answersClients = true) :
    (s.setRole roleStandby).mode = modeStandby := by
  rw [State.setRole, if_pos ⟨rfl, (s.answersClients_setFld _).trans h⟩]
  exact State.mode_goStandby _

/-! ### Taking over (R490, R496) -/

/-- The device that takes over in its new role and mode, before it reports. -/
def State.tookRole (s : State) : State :=
  let t := s.setRole roleActive
  if t.mode = modeStandby then t.enterMode (t.fld Reg.PAR_TKMODE 0 4) else t

theorem State.moved_tookRole (s : State) : (s.setFld Reg.PAR_STATUS 30 2 roleActive).Moved roleRegs s.tookRole := by
  have hset : s.setRole roleActive = s.setFld Reg.PAR_STATUS 30 2 roleActive := State.setRole_of_ne (by decide)
  unfold State.tookRole
  rw [hset]
  exact .ite (State.moved_enterMode .refl _) .refl

theorem State.rd_pairQueue (s : State) (b : PairBody) (o : Nat) : (s.pairQueue b).rd o = s.rd o := by
  unfold State.pairQueue
  split <;> rfl

theorem State.raised_report (s : State) (k : Nat) (a b : Word) (d : Word64) :
    (s.report k a b d).raised = s.raised ++ [⟨k, a, b⟩] := State.raised_logEntry _ _

theorem State.keepsRegs_report (s : State) (k : Nat) (a b : Word) (d : Word64) :
    s.keepsRegs (s.report k a b d) [Reg.REL_LOG_LOST, Reg.REL_STICKY] :=
  State.keepsRegs.logEntry (State.keepsRegs.raise .refl) _ (by decide) (by decide)

/-- Beside the pair's state and a report, a takeover is the change of role and mode. -/
theorem State.rd_takenOver (s : State) {o : Nat} (ho : o ∉ [Reg.REL_LOG_LOST, Reg.REL_STICKY]) :
    s.takenOver.rd o = s.tookRole.rd o :=
  (State.keepsRegs_report _ 233 0 0 0 o ho).trans (State.rd_pairQueue _ _ o)

theorem State.role_takenOver (s : State) : s.takenOver.role = roleActive := by
  rw [State.role, State.fld, s.rd_takenOver (by decide)]
  exact s.moved_tookRole.role.trans (s.role_setFld (by decide))

theorem State.epoch_takenOver (s : State) : s.takenOver.epoch = s.epoch := by
  rw [State.epoch, s.rd_takenOver (by decide), s.moved_tookRole.regs _ (by decide) (by decide)]
  exact s.rd_wr_ne _ _ _ (by decide)

theorem State.fenceOut_takenOver (s : State) :
    s.takenOver.flag Reg.PAR_STATUS psFenceOut = s.flag Reg.PAR_STATUS psFenceOut := by
  rw [State.flag, s.rd_takenOver (by decide)]
  exact (s.moved_tookRole.status _ (by decide)).trans (State.flag_setFld_other _ _ _ _ _ _ _ (by decide) (by decide))

theorem State.raised_takenOver (s : State) : (⟨233, 0, 0⟩ : Raise) ∈ s.takenOver.raised := by
  change _ ∈ (State.report _ 233).raised
  rw [State.raised_report]
  exact List.mem_append_right _ (List.mem_singleton_self _)

/-- A standby that takes over serves, in the mode that PAR_TKMODE holds. -/
theorem State.serves_takenOver {s : State} (hmode : s.mode = modeStandby) (hlo : 4 ≤ s.fld Reg.PAR_TKMODE 0 4)
    (hhi : s.fld Reg.PAR_TKMODE 0 4 ≤ 7) : s.takenOver.answersClients = true := by
  have hset : s.setRole roleActive = s.setFld Reg.PAR_STATUS 30 2 roleActive := State.setRole_of_ne (by decide)
  have hmode' : (s.setFld Reg.PAR_STATUS 30 2 roleActive).mode = modeStandby :=
    (State.fld_setFld_other _ _ _ _ _ _ _ _ (by decide) (by decide)).trans hmode
  have htk : (s.setFld Reg.PAR_STATUS 30 2 roleActive).fld Reg.PAR_TKMODE 0 4 = s.fld Reg.PAR_TKMODE 0 4 :=
    State.fld_setFld_other _ _ _ _ _ _ _ _ (by decide) (by decide)
  have htook : s.tookRole.answersClients = true := by
    unfold State.tookRole
    rw [hset, if_pos hmode', htk]
    exact State.serves_enterMode _ ⟨hlo, hhi⟩
  rw [State.answersClients, State.mode, State.fld, s.rd_takenOver (by decide)]
  exact htook

theorem State.mayTakeOver_iff (s : State) : s.mayTakeOver = true ↔
    s.role = roleStandby ∧ s.mode = modeStandby ∧ s.deposed = false ∧ s.pair.settling = false := by
  simp [State.mayTakeOver, and_assoc]

end Sys2Proof.Machine
end

section
/-!
Forming the pair and switching over (R495, R496).
-/
namespace Sys2Proof.Machine

theorem State.pairLink_iff (s : State) : s.pairLink = true ↔
    s.pairEn = true ∧ s.flag Reg.PAR_STATUS psLink = true ∧ s.pdUp PD_PAIR = true := by
  simp [State.pairLink, and_assoc]

theorem State.pairCommand_of_refused {s : State} {ok : Bool} {k : State → State} (h : ok = false) :
    s.pairCommand ok k = s.error Reg.PAR_ERR 3 238 := by
  rw [State.pairCommand, h]
  rfl

theorem State.pairCommand_of_accepted {s : State} {ok : Bool} {k : State → State} (h : ok = true) :
    s.pairCommand ok k = k s := by
  rw [State.pairCommand, h]
  rfl

theorem exec_pairForm_of_opens {s : State} {ag : Agent} (ho : s.opens ag Reg.PAR_CMD = true) :
    exec (.pairForm ag) s = .next s.commandForm := by
  change execPairForm ag s = _
  rw [execPairForm, State.writeAccess_opens _ _ _ _ _ ho]

theorem exec_pairSwitchover_of_opens {s : State} {ag : Agent} (ho : s.opens ag Reg.PAR_CMD = true) :
    exec (.pairSwitchover ag) s = .next s.commandSwitchover := by
  change execPairSwitchover ag s = _
  rw [execPairSwitchover, State.writeAccess_opens _ _ _ _ _ ho]

theorem exec_pairResync_of_opens {s : State} {ag : Agent} (ho : s.opens ag Reg.PAR_CMD = true) :
    exec (.pairResync ag) s = .next s.commandResync := by
  change execPairResync ag s = _
  rw [execPairResync, State.writeAccess_opens _ _ _ _ _ ho]

/-- A message queued, and the state kept but for the queue. -/
theorem State.pairQueue_eq (s : State) (b : PairBody) :
    s.pairQueue b = { s with pair := { s.pair with
      queue := s.pair.queue ++ (if s.flag Reg.PAR_STATUS psLink then [b] else []) } } := by
  unfold State.pairQueue
  split
  · rfl
  · simp

theorem exec_pairForm_accepted {s : State} {ag : Agent} (ho : s.opens ag Reg.PAR_CMD = true) (hen : s.pairEn = true) :
    ∃ t, exec (.pairForm ag) s = .next t ∧ t.flag Reg.PAR_STATUS psForming = true ∧ t.pair.forming = some ⟨none⟩ ∧
      t.pair.queue = s.pair.queue ++ (if s.flag Reg.PAR_STATUS psLink then [s.formMessage] else []) ∧ t.role = s.role := by
  refine ⟨_, (exec_pairForm_of_opens ho).trans (congrArg _ (State.pairCommand_of_accepted hen)), ?_⟩
  rw [State.pairQueue_eq]
  have hlink : (s.setFlag Reg.PAR_STATUS psForming true).flag Reg.PAR_STATUS psLink = s.flag Reg.PAR_STATUS psLink :=
    State.flag_setFlag_other _ _ _ _ _ _ (by decide)
  refine ⟨State.flag_setFlag _ _ _ _ (by decide), rfl, ?_, State.fld_setFlag_other _ _ _ _ _ _ _ (by decide)⟩
  exact congrArg (fun b : Bool => s.pair.queue ++ (if b then [s.formMessage] else [])) hlink

theorem exec_formResend_of_forming {s : State} {f : Forming} (h : s.pair.forming = some f) :
    exec .formResend s = .next { s with pair := { s.pair with
      queue := s.pair.queue ++ (if s.flag Reg.PAR_STATUS psLink then [s.formMessage] else []) } } := by
  change execFormResend s = _
  rw [execFormResend, h]
  exact congrArg _ (s.pairQueue_eq _)

theorem State.flag_error (s : State) (o i src : Nat) (h : i < 32) : (s.error o i src).flag o i = true := by
  unfold State.error
  split
  · assumption
  · exact State.flag_setFlag _ _ _ _ h

theorem State.rd_error_ne (s : State) (o i src : Nat) {o' : Nat} (h : o' ≠ o) : (s.error o i src).rd o' = s.rd o' := by
  unfold State.error
  split
  · rfl
  · exact s.rd_wr_ne _ _ _ h

theorem State.pair_error (s : State) (o i src : Nat) : (s.error o i src).pair = s.pair := by
  unfold State.error
  split <;> rfl

theorem exec_formTimeout_of_forming {s : State} {f : Forming} (h : s.pair.forming = some f) :
    ∃ t, exec .formTimeout s = .next t ∧ t.pair = { s.pair with forming := none } ∧ t.flag Reg.PAR_STATUS psForming = false ∧
      t.flag Reg.PAR_ERR 4 = true ∧ t.role = s.role ∧ s.keepsRegs t [Reg.PAR_STATUS, Reg.PAR_ERR] := by
  have hexec : exec .formTimeout s = .next (s.formEnds.error Reg.PAR_ERR 4 238) := by
    change execFormTimeout s = _
    rw [execFormTimeout, h]
    rfl
  refine ⟨_, hexec, State.pair_error _ _ _ _, ?_, State.flag_error _ _ _ _ (by decide), ?_,
    State.keepsRegs.error (State.keepsRegs.of_regs (.setFlag (o := Reg.PAR_STATUS) .refl))⟩
  · rw [State.flag, State.rd_error_ne _ _ _ _ (by decide)]
    exact State.flag_setFlag _ _ _ _ (by decide)
  · rw [State.role, State.fld, State.rd_error_ne _ _ _ _ (by decide)]
    exact State.fld_setFlag_other _ _ _ _ _ _ _ (by decide)

theorem exec_formRx_of_forming {s : State} {e : Word} {pref : Bool} {dsn : Word64} (hlink : s.pairLink = true)
    (hforming : s.pair.forming = some ⟨none⟩) :
    exec (.formRx true e pref dsn) s = .next (if s.chosenActive pref dsn = false then s else
      State.pairQueue { s with pair := { s.pair with forming := some ⟨some (laterEpoch s.epoch e + 1)⟩ } }
        (.formAck roleStandby (laterEpoch s.epoch e + 1))) := by
  change execFormRx true e pref dsn s = _
  rw [execFormRx, hlink, hforming]
  rfl

theorem exec_formRx_answers {s : State} {e : Word} {pref : Bool} {dsn : Word64} (hlink : s.pairLink = true)
    (hforming : s.pair.forming = some ⟨none⟩) :
    ∃ t, exec (.formRx true e pref dsn) s = .next t ∧ t.regs = s.regs ∧ (s.chosenActive pref dsn = false → t = s) ∧
      (s.chosenActive pref dsn = true → t.pair = { s.pair with
        forming := some ⟨some (laterEpoch s.epoch e + 1)⟩,
        queue := s.pair.queue ++ [.formAck roleStandby (laterEpoch s.epoch e + 1)] }) := by
  obtain ⟨-, hpsLink, -⟩ := s.pairLink_iff.mp hlink
  refine ⟨_, exec_formRx_of_forming hlink hforming, ?_⟩
  cases hchosen : s.chosenActive pref dsn with
  | false => exact ⟨rfl, fun _ => rfl, fun hc => absurd hc (by decide)⟩
  | true =>
    rw [if_neg (by decide), State.pairQueue, if_pos (by exact hpsLink)]
    exact ⟨rfl, fun hc => absurd hc (by decide), fun _ => rfl⟩

theorem State.chosenActive_of_roles (s : State) (pref : Bool) (dsn : Word64) :
    (s.role = roleActive → s.fld Reg.PAR_STATUS 4 2 ≠ roleActive → s.chosenActive pref dsn = true) ∧
    (s.role ≠ roleActive → s.fld Reg.PAR_STATUS 4 2 = roleActive → s.chosenActive pref dsn = false) := by
  refine ⟨fun hme hpeer => ?_, fun hme hpeer => ?_⟩
  · simp [State.chosenActive, hme, hpeer]
  · simp [State.chosenActive, hme, hpeer]

theorem State.chosenActive_of_same {s : State} (pref : Bool) (dsn : Word64)
    (h : s.role = roleActive ↔ s.fld Reg.PAR_STATUS 4 2 = roleActive) :
    (s.flag Reg.PAR_CTRL 30 ≠ pref → s.chosenActive pref dsn = s.flag Reg.PAR_CTRL 30) ∧
    (s.flag Reg.PAR_CTRL 30 = pref → (s.chosenActive pref dsn = true ↔ dsn.toNat < s.fuse.dsn.toNat)) := by
  have hroles : (s.role == roleActive) = (s.fld Reg.PAR_STATUS 4 2 == roleActive) := by
    rw [Bool.eq_iff_iff, beq_iff_eq, beq_iff_eq]
    exact h
  refine ⟨fun hpref => ?_, fun hpref => ?_⟩
  · simp [State.chosenActive, hroles, hpref]
  · simp [State.chosenActive, hroles, hpref]

/-! ### A completed FORM -/

/-- The registers of a completed FORM before its role is set. -/
def State.formCleared (s : State) (e : Word) : State :=
  ((s.formEnds.wr Reg.PAR_EPOCH e).setFlag Reg.PAR_STATUS psFenced false).setFlag Reg.PAR_STATUS psDeposed false

theorem State.flag_formCleared_deposed (s : State) (e : Word) :
    (s.formCleared e).flag Reg.PAR_STATUS psDeposed = false := State.flag_setFlag _ _ _ _ (by decide)

theorem State.flag_formCleared_fenced (s : State) (e : Word) :
    (s.formCleared e).flag Reg.PAR_STATUS psFenced = false :=
  (State.flag_setFlag_other _ _ _ _ _ _ (by decide)).trans (State.flag_setFlag _ _ _ _ (by decide))

theorem State.epoch_formCleared (s : State) (e : Word) : (s.formCleared e).epoch = e := by
  rw [State.epoch, State.formCleared, State.setFlag, State.rd_wr_ne _ _ _ _ (by decide), State.setFlag,
    State.rd_wr_ne _ _ _ _ (by decide)]
  exact State.rd_wr_same _ _ _

theorem State.flag_formCleared_forming (s : State) (e : Word) :
    (s.formCleared e).flag Reg.PAR_STATUS psForming = false :=
  (State.flag_setFlag_other _ _ _ _ _ _ (by decide)).trans ((State.flag_setFlag_other _ _ _ _ _ _ (by decide)).trans
    ((by rw [State.flag, State.rd_wr_ne _ _ _ _ (by decide)]; rfl :
      (s.formEnds.wr Reg.PAR_EPOCH e).flag Reg.PAR_STATUS psForming = s.formEnds.flag Reg.PAR_STATUS psForming).trans
    (State.flag_setFlag _ _ _ _ (by decide))))

end Sys2Proof.Machine
end

section
/-!
The messages that complete a FORM or a switchover (R494 to R496).
-/
namespace Sys2Proof.Machine

theorem State.startResync_pair (s : State) : s.startResync.pair = { s.pair with resync := some 0, lost := false } := rfl

theorem State.flag_startResync (s : State) {i : Nat} (h : i ≠ psMsync) :
    s.startResync.flag Reg.PAR_STATUS i = s.flag Reg.PAR_STATUS i := State.flag_setFlag_other _ _ _ _ _ _ (.inr h)

theorem State.msync_startResync (s : State) : s.startResync.flag Reg.PAR_STATUS psMsync = false :=
  State.flag_setFlag _ _ _ _ (by decide)

/-- The active device after the FORM_ACK of its standby. -/
def State.formedActive (s : State) (e : Word) : State :=
  ((s.formed e roleActive).setFlag Reg.PAR_STATUS psFenceOut false).startResync

theorem exec_formAckRx_of_chosen {s : State} {e : Word} {r : Fin 4} (hlink : s.pairLink = true)
    (hforming : s.pair.forming = some ⟨some e⟩) : exec (.formAckRx true e r) s = .next (s.formedActive e) := by
  change execFormAckRx true e r s = _
  rw [execFormAckRx, hforming, hlink]
  exact congrArg Host.Outcome.next (if_pos rfl)

theorem State.flag_formedActive (s : State) (e : Word) {i : Nat} (hi : i < 30) (hm : i ≠ psMsync) (ho : i ≠ psFenceOut) :
    (s.formedActive e).flag Reg.PAR_STATUS i = (s.formCleared e).flag Reg.PAR_STATUS i :=
  (State.flag_startResync _ hm).trans ((State.flag_setFlag_other _ _ _ _ _ _ (.inr ho)).trans
    (State.flag_setRole _ _ hi hm))

theorem exec_formAckRx_active {s : State} {e : Word} {r : Fin 4} (hlink : s.pairLink = true)
    (hforming : s.pair.forming = some ⟨some e⟩) :
    ∃ t, exec (.formAckRx true e r) s = .next t ∧ t.role = roleActive ∧ t.epoch = e ∧ t.flag Reg.PAR_STATUS psFenceOut = false ∧
      t.flag Reg.PAR_STATUS psFenced = false ∧ t.deposed = false ∧ t.flag Reg.PAR_STATUS psForming = false ∧
      t.pair.forming = none ∧ t.pair.resync = some 0 ∧ t.flag Reg.PAR_STATUS psMsync = false ∧
      (⟨235, 0, 0⟩ : Raise) ∈ t.raised := by
  have hset : (s.formCleared e).setRole roleActive = (s.formCleared e).setFld Reg.PAR_STATUS 30 2 roleActive :=
    State.setRole_of_ne (by decide)
  refine ⟨s.formedActive e, exec_formAckRx_of_chosen hlink hforming, ?_, ?_, ?_, ?_, ?_, ?_, ?_, rfl, State.msync_startResync _, ?_⟩
  · exact (State.fld_setFlag_other _ _ _ _ _ _ _ (by decide)).trans
      ((State.fld_setFlag_other _ _ _ _ _ _ _ (by decide)).trans (State.role_setRole _ (by decide)))
  · rw [State.epoch, State.formedActive, State.startResync]
    exact (State.rd_wr_ne _ _ _ _ (by decide)).trans ((State.rd_wr_ne _ _ _ _ (by decide)).trans
      ((State.epoch_setRole _ _).trans (s.epoch_formCleared e)))
  · exact (State.flag_startResync _ (by decide)).trans (State.flag_setFlag _ _ _ _ (by decide))
  · exact (s.flag_formedActive e (by decide) (by decide) (by decide)).trans (s.flag_formCleared_fenced e)
  · exact (s.flag_formedActive e (by decide) (by decide) (by decide)).trans (s.flag_formCleared_deposed e)
  · exact (s.flag_formedActive e (by decide) (by decide) (by decide)).trans (s.flag_formCleared_forming e)
  · change ((s.formCleared e).setRole roleActive).pair.forming = none
    rw [hset]
    rfl
  · exact List.mem_append_right _ (List.mem_singleton_self _)

/-- The standby device after the FORM_ACK of the active one. -/
theorem exec_formAckRx_of_answer {s : State} {e : Word} (hlink : s.pairLink = true) (hforming : s.pair.forming = some ⟨none⟩) :
    exec (.formAckRx true e 3) s = .next ((s.formed e roleStandby).pairQueue (.formAck roleActive e)) := by
  change execFormAckRx true e 3 s = _
  rw [execFormAckRx, hforming, hlink]
  rfl

theorem State.forming_of_moved {s t : State} {l : List Nat} (h : s.Moved l t) : t.pair.forming = s.pair.forming :=
  (congrArg PairState.forming h.pair :)

theorem State.answersClients_formCleared (s : State) (e : Word) : (s.formCleared e).answersClients = s.answersClients := by
  have hmode : (s.formCleared e).mode = s.mode := by
    rw [State.mode, State.fld, State.formCleared, State.setFlag, State.rd_wr_ne _ _ _ _ (by decide), State.setFlag,
      State.rd_wr_ne _ _ _ _ (by decide), State.rd_wr_ne _ _ _ _ (by decide)]
    exact congrArg (bitsAt · 0 4) (s.rd_wr_ne _ _ _ (by decide))
  rw [State.answersClients, hmode, ← State.answersClients]

theorem State.link_formCleared (s : State) (e : Word) :
    (s.formCleared e).flag Reg.PAR_STATUS psLink = s.flag Reg.PAR_STATUS psLink :=
  (State.flag_setFlag_other _ _ _ _ _ _ (by decide)).trans ((State.flag_setFlag_other _ _ _ _ _ _ (by decide)).trans
    ((by rw [State.flag, State.rd_wr_ne _ _ _ _ (by decide)]; rfl :
      (s.formEnds.wr Reg.PAR_EPOCH e).flag Reg.PAR_STATUS psLink = s.formEnds.flag Reg.PAR_STATUS psLink).trans
    (State.flag_setFlag_other _ _ _ _ _ _ (by decide))))

theorem exec_formAckRx_standby {s : State} {e : Word} (hlink : s.pairLink = true)
    (hforming : s.pair.forming = some ⟨none⟩) :
    ∃ t, exec (.formAckRx true e 3) s = .next t ∧ t.role = roleStandby ∧ t.epoch = e ∧ t.flag Reg.PAR_STATUS psFenced = false ∧
      t.deposed = false ∧ t.pair.forming = none ∧ .formAck roleActive e ∈ t.pair.queue ∧ (⟨235, 0, 0⟩ : Raise) ∈ t.raised ∧
      (s.answersClients = true → t.mode = modeStandby) := by
  obtain ⟨-, hpsLink, -⟩ := s.pairLink_iff.mp hlink
  have hmoved := (s.formCleared e).moved_setRole roleStandby
  have hlink' : (s.formed e roleStandby).flag Reg.PAR_STATUS psLink = true :=
    (State.flag_setRole _ _ (by decide) (by decide)).trans ((s.link_formCleared e).trans hpsLink)
  refine ⟨_, exec_formAckRx_of_answer hlink hforming, ?_⟩
  rw [State.pairQueue, if_pos hlink']
  refine ⟨State.role_setRole _ (by decide), (State.epoch_setRole _ _).trans (s.epoch_formCleared e),
    (State.flag_setRole _ _ (by decide) (by decide)).trans (s.flag_formCleared_fenced e),
    (State.flag_setRole _ _ (by decide) (by decide)).trans (s.flag_formCleared_deposed e),
    (State.forming_of_moved hmoved).trans rfl, List.mem_append_right _ (List.mem_singleton_self _),
    List.mem_append_right _ (List.mem_singleton_self _), fun hserve => ?_⟩
  exact State.mode_setRole_standby ((s.answersClients_formCleared e).trans hserve)

/-! ### Switching over -/

/-- The device that yields, before its YIELD. -/
def State.yields (s : State) : State :=
  let u := s.setRole roleStandby
  { u with pair := { u.pair with yielding := true } }

theorem exec_pairSwitchover_refused {s : State} {ag : Agent} (ho : s.opens ag Reg.PAR_CMD = true)
    (h : s.role ≠ roleActive ∨ s.peerReady = false) :
    exec (.pairSwitchover ag) s = .next (s.error Reg.PAR_ERR 3 238) := by
  refine (exec_pairSwitchover_of_opens ho).trans (congrArg _ (State.pairCommand_of_refused ?_))
  rcases h with h | h <;> simp [h]

theorem exec_pairSwitchover_yields {s : State} {ag : Agent} (ho : s.opens ag Reg.PAR_CMD = true)
    (hrole : s.role = roleActive) (hpeer : s.peerReady = true) :
    exec (.pairSwitchover ag) s = .next s.yields.sendYield :=
  (exec_pairSwitchover_of_opens ho).trans (congrArg _ (State.pairCommand_of_accepted (by simp [hrole, hpeer])))

theorem State.sendYield_eq (s : State) :
    s.sendYield = { s with pair := { s.pair with
      queue := s.pair.queue ++ (if s.pair.mirror = [] ∧ s.flag Reg.PAR_STATUS psLink = true then [.yield] else []) } } := by
  unfold State.sendYield
  by_cases hm : s.pair.mirror = []
  · rw [if_pos hm, State.pairQueue_eq]
    simp [hm]
  · rw [if_neg hm]
    simp [hm]

theorem exec_pairSwitchover_accepted {s : State} {ag : Agent} (ho : s.opens ag Reg.PAR_CMD = true)
    (hrole : s.role = roleActive) (hpeer : s.peerReady = true) :
    ∃ t, exec (.pairSwitchover ag) s = .next t ∧ t.role = roleStandby ∧
      t.pair.yielding = true ∧ t.deposed = s.deposed ∧ (s.answersClients = true → t.mode = modeStandby) ∧
      (s.mode = modeStaged → s.pair.mirror = [] → s.flag Reg.PAR_STATUS psLink = true →
        t.pair.queue = s.pair.queue ++ [.yield]) := by
  refine ⟨_, exec_pairSwitchover_yields ho hrole hpeer, ?_⟩
  rw [State.sendYield_eq]
  refine ⟨s.role_setRole (by decide), rfl, s.flag_setRole _ (by decide) (by decide),
    fun hserve => State.mode_setRole_standby hserve, fun hmode hmirror hlink => ?_⟩
  have hset : s.setRole roleStandby = s.setFld Reg.PAR_STATUS 30 2 roleStandby :=
    State.setRole_of_not_serving (by simp [State.answersClients, hmode]) _
  have hm : s.yields.pair.mirror = [] := by
    rw [State.yields, hset]
    exact hmirror
  have hl : s.yields.flag Reg.PAR_STATUS psLink = true := (s.flag_setRole _ (by decide) (by decide)).trans hlink
  have hq : s.yields.pair.queue = s.pair.queue := by
    rw [State.yields, hset]
    rfl
  dsimp only
  rw [if_pos ⟨hm, hl⟩, hq]

theorem exec_yieldResend_of_yielding {s : State} (h : s.pair.yielding = true) :
    exec .yieldResend s = .next { s with pair := { s.pair with
      queue := s.pair.queue ++ (if s.pair.mirror = [] ∧ s.flag Reg.PAR_STATUS psLink = true then [.yield] else []) } } := by
  change execYieldResend s = _
  rw [execYieldResend, if_pos h, State.sendYield_eq]

theorem exec_yieldTimeout_of_yielding {s : State} (h : s.pair.yielding = true) :
    ∃ t, exec .yieldTimeout s = .next t ∧ t.pair = { s.pair with yielding := false } ∧ t.flag Reg.PAR_ERR 3 = true ∧
      t.role = s.role ∧ s.keepsRegs t [Reg.PAR_ERR] := by
  have hexec : exec .yieldTimeout s = .next (State.error { s with pair := { s.pair with yielding := false } } Reg.PAR_ERR 3 238) := by
    change execYieldTimeout s = _
    rw [execYieldTimeout, if_pos h]
    rfl
  refine ⟨_, hexec, State.pair_error _ _ _ _, State.flag_error _ _ _ _ (by decide), ?_,
    State.keepsRegs.error (.of_regs .refl)⟩
  rw [State.role, State.fld, State.rd_error_ne _ _ _ _ (by decide)]
  rfl

/-! ### Messages of the device's own epoch -/

theorem State.receivePair_same {s : State} (hlink : s.pairLink = true) (k : State → State) :
    s.receivePair true s.epoch k = k s := by
  rw [State.receivePair, if_neg (by simp [hlink]), if_neg (by decide), State.admitEpoch, if_pos rfl]

theorem State.epoch_wr (s : State) (e : Word) : (s.wr Reg.PAR_EPOCH e).epoch = e := s.rd_wr_same _ _

theorem exec_yieldRx_takes {s : State} (hlink : s.pairLink = true) (hmay : s.mayTakeOver = true) :
    exec (.yieldRx true s.epoch) s = .next (s.wr Reg.PAR_EPOCH (s.epoch + 1)).takenOver := by
  change execYieldRx true s.epoch s = _
  rw [execYieldRx, State.receivePair_same hlink, if_pos ⟨hmay, rfl⟩]

theorem exec_yieldRx_accepted {s : State} (hlink : s.pairLink = true) (hmay : s.mayTakeOver = true) :
    ∃ t, exec (.yieldRx true s.epoch) s = .next t ∧ t.role = roleActive ∧ t.epoch = s.epoch + 1 ∧ (⟨233, 0, 0⟩ : Raise) ∈ t.raised ∧
      t.flag Reg.PAR_STATUS psFenceOut = s.flag Reg.PAR_STATUS psFenceOut ∧
      (4 ≤ s.fld Reg.PAR_TKMODE 0 4 → s.fld Reg.PAR_TKMODE 0 4 ≤ 7 → t.answersClients = true) := by
  obtain ⟨-, hmode, -, -⟩ := s.mayTakeOver_iff.mp hmay
  have hkeep : s.keepsRegs (s.wr Reg.PAR_EPOCH (s.epoch + 1)) [Reg.PAR_EPOCH] := .wr .refl
  have hmode' : (s.wr Reg.PAR_EPOCH (s.epoch + 1)).mode = modeStandby :=
    (congrArg (bitsAt · 0 4) (hkeep Reg.GCTL_STATUS (by decide))).trans hmode
  have htk : (s.wr Reg.PAR_EPOCH (s.epoch + 1)).fld Reg.PAR_TKMODE 0 4 = s.fld Reg.PAR_TKMODE 0 4 :=
    congrArg (bitsAt · 0 4) (hkeep Reg.PAR_TKMODE (by decide))
  refine ⟨_, exec_yieldRx_takes hlink hmay, State.role_takenOver _, (State.epoch_takenOver _).trans (s.epoch_wr _),
    State.raised_takenOver _, (State.fenceOut_takenOver _).trans (congrArg (bitAt · _) (hkeep Reg.PAR_STATUS (by decide))),
    fun hlo hhi => State.serves_takenOver hmode' (htk.symm ▸ hlo) (htk.symm ▸ hhi)⟩

theorem exec_timexRx_of_stamped {s : State} {k : BitVec 16} {w : Word} {a b : CT96} (hlink : s.pairLink = true)
    (hrole : s.role = roleStandby)
    (hstamp : s.pair.stamps.find? (fun x => x.1 == k.toNat && x.2.1 % 2 ^ 32 == w.toNat) = some (k.toNat, w.toNat, b)) :
    exec (.timexRx true s.epoch k w a) s = .next { s with pair := { s.pair with
      offset := some (openDiv ((ct96ToFrac a : Int) - ct96ToFrac b) 2) } } := by
  change execTimexRx true s.epoch k w a s = _
  rw [execTimexRx, State.receivePair_same hlink, if_neg (not_not_intro hrole), hstamp]

end Sys2Proof.Machine
end

section
/-!
Mirroring and the order of messages (R485, R493, R494).
-/
namespace Sys2Proof.Machine

theorem State.mem_poison_markPoison (s : State) (m a : Nat) (x : Nat × Nat) :
    x ∈ (s.markPoison m a).rel.poison ↔ x ∈ s.rel.poison ∨ x = (m, a / 8 * 8) := by
  unfold State.markPoison
  dsimp only
  split
  · next h => exact ⟨.inl, fun hx => hx.elim id fun e => e ▸ List.contains_iff_mem.mp h⟩
  · simp

theorem State.frame_markPoison (s : State) (m a : Nat) :
    s.markPoison m a = { s with rel := (s.markPoison m a).rel } := by
  unfold State.markPoison
  dsimp only
  split <;> rfl

/-- The poison marks of a mirrored line, word by word. -/
def State.markLine (s : State) (a mask : Nat) (is : List Nat) : State :=
  is.foldl (fun t i => if mask.testBit i then t.markPoison memPool (a + 8 * i) else t) s

theorem State.mem_poison_markLine (s : State) (a mask : Nat) (is : List Nat) (x : Nat × Nat) :
    x ∈ (s.markLine a mask is).rel.poison ↔
      x ∈ s.rel.poison ∨ ∃ i ∈ is, mask.testBit i = true ∧ x = (memPool, (a + 8 * i) / 8 * 8) := by
  induction is generalizing s with
  | nil => simp [State.markLine]
  | cons j js ih =>
    change x ∈ (State.markLine (if mask.testBit j then s.markPoison memPool (a + 8 * j) else s) a mask js).rel.poison ↔ _
    rw [ih]
    split
    · next hj => simp [State.mem_poison_markPoison, hj, or_assoc]
    · next hj => simp [hj]

theorem State.frame_markLine (s : State) (a mask : Nat) (is : List Nat) :
    s.markLine a mask is = { s with rel := (s.markLine a mask is).rel } := by
  induction is generalizing s with
  | nil => rfl
  | cons j js ih =>
    change State.markLine (if mask.testBit j then s.markPoison memPool (a + 8 * j) else s) a mask js =
      { s with rel := (State.markLine (if mask.testBit j then s.markPoison memPool (a + 8 * j) else s) a mask js).rel }
    split
    · rw [ih, s.frame_markPoison]
    · exact ih s

theorem State.putLine_eq (s : State) (a mask : Nat) (bs : List Byte) :
    s.putLine a mask bs = (s.poolStore a bs).markLine a mask (List.range 8) := rfl

theorem State.pool_putLine (s : State) (a mask : Nat) (bs : List Byte) :
    (s.putLine a mask bs).gys.pool = memWriteBytes s.gys.pool a bs := by
  rw [State.putLine_eq, State.frame_markLine]
  rfl

theorem State.regs_putLine (s : State) (a mask : Nat) (bs : List Byte) : (s.putLine a mask bs).regs = s.regs := by
  rw [State.putLine_eq, State.frame_markLine]
  rfl

/-- The marks of a line after it is written are those of its mask. -/
theorem State.poison_putLine (s : State) (n : Nat) (p : BitVec 8) {bs : List Byte} (hlen : bs.length = 64) (i : Fin 8) :
    (memPool, 64 * n + 8 * i.val) ∈ (s.putLine (64 * n) p.toNat bs).rel.poison ↔ p.getLsbD i.val = true := by
  have hcleared : (memPool, 64 * n + 8 * i.val) ∉ (s.poolStore (64 * n) bs).rel.poison := by
    intro hm
    have hkept := (List.mem_filter.mp hm).2
    simp [hlen] at hkept
    omega
  have hword : ∀ j, (64 * n + 8 * j) / 8 * 8 = 64 * n + 8 * j := fun j => by omega
  rw [State.putLine_eq, State.mem_poison_markLine, or_iff_right hcleared]
  constructor
  · rintro ⟨j, -, hj, hx⟩
    rw [hword, Prod.mk.injEq] at hx
    have hij : i.val = j := by omega
    exact hij ▸ hj
  · intro hi
    exact ⟨i.val, List.mem_range.mpr i.isLt, hi, by rw [hword]⟩

theorem exec_mirrorRx_same {s : State} {line : Word} {p : BitVec 8} {bs : List Byte} (hlink : s.pairLink = true) :
    exec (.mirrorRx true s.epoch line p bs) s = .next
      (if s.role = roleStandby ∧ line.toNat % 64 = 0 ∧ line.toNat < 0x3000000 ∧ bs.length = 64 ∧ s.pdUp PD_FABRIC then
        s.putLine line.toNat p.toNat bs
      else s) := by
  change execMirrorRx true s.epoch line p bs s = _
  rw [execMirrorRx, State.receivePair_same hlink]

theorem exec_mirrorRx_standby {s : State} {n : Fin 786432} {p : BitVec 8} {bs : List Byte} (hlink : s.pairLink = true)
    (hrole : s.role = roleStandby) (hlen : bs.length = 64) (hup : s.pdUp PD_FABRIC = true) :
    ∃ t, exec (.mirrorRx true s.epoch (BitVec.ofNat 32 (64 * n.val)) p bs) s = .next t ∧
      memReadBytes t.gys.pool (64 * n.val) 64 = bs ∧
      (∀ a, a < 64 * n.val ∨ 64 * n.val + 64 ≤ a → memRead t.gys.pool a = memRead s.gys.pool a) ∧
      (∀ i : Fin 8, (memPool, 64 * n.val + 8 * i.val) ∈ t.rel.poison ↔ p.getLsbD i.val = true) ∧ t.regs = s.regs := by
  have hline : (BitVec.ofNat 32 (64 * n.val)).toNat = 64 * n.val := by
    rw [BitVec.toNat_ofNat]
    omega
  have hwritten : s.role = roleStandby ∧ 64 * n.val % 64 = 0 ∧ 64 * n.val < 0x3000000 ∧ bs.length = 64 ∧
      s.pdUp PD_FABRIC = true := ⟨hrole, by omega, by omega, hlen, hup⟩
  refine ⟨s.putLine (64 * n.val) p.toNat bs, ?_, ?_, fun a ha => ?_, s.poison_putLine n.val p hlen, s.regs_putLine _ _ _⟩
  · rw [exec_mirrorRx_same hlink, hline, if_pos hwritten]
  · rw [State.pool_putLine]
    exact hlen ▸ memReadBytes_write _ _ bs
  · rw [State.pool_putLine]
    exact memRead_writeBytes_other _ _ _ _ (by omega)

theorem exec_mirrorRx_ignored {s : State} {line : Word} {p : BitVec 8} {bs : List Byte} (hlink : s.pairLink = true)
    (hrole : s.role ≠ roleStandby) : exec (.mirrorRx true s.epoch line p bs) s = .next s :=
  (exec_mirrorRx_same hlink).trans (congrArg _ (if_neg fun h => hrole h.1))

/-! ### Resynchronisation -/

theorem exec_pairResync_refused {s : State} {ag : Agent} (ho : s.opens ag Reg.PAR_CMD = true) (h : s.role ≠ roleActive) :
    exec (.pairResync ag) s = .next (s.error Reg.PAR_ERR 3 238) :=
  (exec_pairResync_of_opens ho).trans (congrArg _ (State.pairCommand_of_refused (by simp [h])))

theorem exec_pairResync_accepted {s : State} {ag : Agent} (ho : s.opens ag Reg.PAR_CMD = true) (h : s.role = roleActive) :
    exec (.pairResync ag) s = .next s.startResync :=
  (exec_pairResync_of_opens ho).trans (congrArg _ (State.pairCommand_of_accepted (by simp [h])))

theorem exec_resyncDone_of_ended {s : State} {a : Nat} (h : s.pair.resync = some a) (hn : s.nextLine a = none) :
    exec .resyncDone s = .next (if s.pair.lost then { s with pair := { s.pair with resync := none } }
      else State.setFlag { s with pair := { s.pair with resync := none } } Reg.PAR_STATUS psMsync true) := by
  change execResyncDone s = _
  rw [execResyncDone, h]
  dsimp only
  rw [hn]
  rfl

theorem exec_resyncDone_ends {s : State} {a : Nat} (h : s.pair.resync = some a) (hn : s.nextLine a = none) :
    ∃ t, exec .resyncDone s = .next t ∧ t.pair = { s.pair with resync := none } ∧
      t.flag Reg.PAR_STATUS psMsync = (s.flag Reg.PAR_STATUS psMsync || !s.pair.lost) := by
  refine ⟨_, exec_resyncDone_of_ended h hn, ?_⟩
  cases hlost : s.pair.lost with
  | true => exact ⟨if_pos rfl ▸ rfl, (Bool.or_false _).symm⟩
  | false => exact ⟨rfl, (State.flag_setFlag _ _ _ _ (by decide)).trans (Bool.or_true _).symm⟩

theorem exec_resyncDone_of_lines {s : State} {a b : Nat} (h : s.pair.resync = some a) (hn : s.nextLine a = some b) :
    exec .resyncDone s = .next s := by
  change execResyncDone s = _
  rw [execResyncDone, h]
  dsimp only
  rw [hn]
  rfl

/-! ### The order of messages -/

theorem exec_pairMessageSend_of_message {s t : State} {b : PairBody} (hlink : s.pairLink = true)
    (hxq : s.xqRuns 0x49 = true) (h : s.nextMessage = some (b, t)) :
    exec .pairMessageSend s = .next { t with pair := { t.pair with
      sent := t.pair.sent ++ [pairMessage t.epoch t.pair.seq b], seq := t.pair.seq + 1 } } := by
  change execPairMessageSend s = _
  rw [execPairMessageSend, if_neg (by simp [hlink, hxq]), h]

theorem State.nextMessage_of_heartbeat {s : State} {b x : PairBody} (hb : b.rank = 1) (hx : x.rank = 0)
    (hq : s.pair.queue = [b, x]) :
    s.nextMessage = some (x, { s with pair := { s.pair with queue := [b] } }) := by
  have hne : b ≠ x := by
    rintro rfl
    omega
  simp [State.nextMessage, hq, List.range_succ, hb, hx, hne]

theorem State.nextMessage_of_line {s : State} {l : MirrorLine} {ls : List MirrorLine} (hq : s.pair.queue = [])
    (hm : s.pair.mirror = l :: ls) :
    s.nextMessage = some (.mirror l, { s with pair := { s.pair with mirror := ls } }) := by
  simp [State.nextMessage, hq, hm, List.range_succ]

theorem State.nextMessage_of_resync {s : State} {a b : Nat} (hq : s.pair.queue = []) (hm : s.pair.mirror = [])
    (hr : s.pair.resync = some a) (hn : s.nextLine a = some b) :
    s.nextMessage = some (.mirror (s.mirrorLine b), { s with pair := { s.pair with resync := some (b + 64) } }) := by
  simp [State.nextMessage, hq, hm, hr, hn, List.range_succ]

/-- The header of a message: its length, its epoch and its number. -/
theorem pairMessage_header (e : Word) (q : Nat) (b : PairBody) :
    (pairMessage e q b).length = 16 + b.bytes.2.length ∧
      ((pairMessage e q b).drop 4).take 4 = leBytes 4 (b.epoch e).toNat ∧ ((pairMessage e q b).drop 8).take 4 = leBytes 4 q := by
  refine ⟨?_, ?_, ?_⟩
  · simp [pairMessage, length_leBytes]
    omega
  · simp [pairMessage, length_leBytes]
  · simp [pairMessage, List.drop_append, List.take_append, length_leBytes]

/-- Settles O59: each message and command of the pair link follows its equation; the roles come from what a change of role and
of mode moves. -/
theorem formingSwitchoverAndMirror : Obligations.FormingSwitchoverAndMirror := by
  unfold Obligations.FormingSwitchoverAndMirror
  refine ⟨fun s ag ho => ⟨fun hen => ?_, exec_pairForm_accepted ho⟩, fun s f => exec_formResend_of_forming,
    fun s f => exec_formTimeout_of_forming, fun s e pref dsn => exec_formRx_answers, fun s pref dsn => ?_,
    fun s e r => exec_formAckRx_active, fun s e => exec_formAckRx_standby,
    fun s ag ho => ⟨exec_pairSwitchover_refused ho, exec_pairSwitchover_accepted ho⟩,
    fun s => exec_yieldResend_of_yielding, fun s => exec_yieldTimeout_of_yielding, fun s => exec_yieldRx_accepted,
    fun s k w a b => exec_timexRx_of_stamped, fun s n p bs => exec_mirrorRx_standby,
    fun s line p bs => exec_mirrorRx_ignored,
    fun s ag ho => ⟨exec_pairResync_refused ho, fun h =>
      ⟨_, exec_pairResync_accepted ho h, s.startResync_pair, s.msync_startResync⟩⟩,
    fun s a => exec_resyncDone_ends, fun s a b => exec_resyncDone_of_lines,
    fun s b x hlink hxq hb hx hq =>
      exec_pairMessageSend_of_message hlink hxq (State.nextMessage_of_heartbeat hb hx hq),
    fun s l ls hlink hxq hq hm => exec_pairMessageSend_of_message hlink hxq (State.nextMessage_of_line hq hm),
    fun s a b hlink hxq hq hm hr hn => exec_pairMessageSend_of_message hlink hxq (State.nextMessage_of_resync hq hm hr hn),
    pairMessage_header⟩
  · exact (exec_pairForm_of_opens ho).trans (congrArg _ (State.pairCommand_of_refused hen))
  · obtain ⟨hactive, hpassive⟩ := s.chosenActive_of_roles pref dsn
    exact ⟨hactive, hpassive, fun hroles => (State.chosenActive_of_same pref dsn hroles).1,
      fun hroles => (State.chosenActive_of_same pref dsn hroles).2⟩

end Sys2Proof.Machine
end

section
/-!
Pair enable, the link and liveness (R484, R486, R489).
-/
namespace Sys2Proof.Machine

theorem exec_pairEnableWrite_of_opens {s : State} {ag : Agent} {v : Word} (ho : s.opens ag Reg.PAR_CTRL = true) :
    exec (.pairEnableWrite ag v) s = .next (if bitAt v 31 != s.pairEn then s.writePairCtrl v else s) := by
  change execPairEnableWrite ag v s = _
  rw [execPairEnableWrite, State.writeAccess_opens _ _ _ _ _ ho]

theorem exec_pairEnableWrite_same {s : State} {ag : Agent} {v : Word} (ho : s.opens ag Reg.PAR_CTRL = true)
    (h : bitAt v 31 = s.pairEn) : exec (.pairEnableWrite ag v) s = .next s :=
  (exec_pairEnableWrite_of_opens ho).trans (congrArg _ (if_neg (by simp [h])))

theorem exec_pairEnableWrite_change {s : State} {ag : Agent} {v : Word} (ho : s.opens ag Reg.PAR_CTRL = true)
    (h : bitAt v 31 ≠ s.pairEn) : exec (.pairEnableWrite ag v) s = .next (s.writePairCtrl v) :=
  (exec_pairEnableWrite_of_opens ho).trans (congrArg _ (if_pos (by simpa using h)))

theorem State.writePairCtrl_of_param {s : State} {v : Word} (h : bitsAt v 16 8 < 1 ∨ 100 < bitsAt v 16 8) :
    s.writePairCtrl v = s.error Reg.PAR_ERR 0 238 := if_pos h

theorem State.writePairCtrl_of_mode {s : State} {v : Word} (hc : bitAt v 31 ≠ s.pairEn) (hlo : 1 ≤ bitsAt v 16 8)
    (hhi : bitsAt v 16 8 ≤ 100) (hboot : s.mode ≠ modeBoot) (hhost : hostMode s.mode = false) :
    s.writePairCtrl v = s.error Reg.PAR_ERR 2 238 := by
  have hchange : (bitAt v 31 != s.pairEn) = true := by simpa using hc
  have hrefused : ¬ (s.mode = modeBoot ∨ hostMode s.mode = true) := by simp [hboot, hhost]
  exact (if_neg (by omega)).trans (if_pos ⟨hchange, hrefused⟩)

theorem rwBit_parCtrl_en : rwBit Reg.PAR_CTRL 31 = true := by decide +kernel

/-- The write of PAR_CTRL that enables the pair. -/
theorem State.writePairCtrl_enable {s : State} {v : Word} (hc : bitAt v 31 ≠ s.pairEn) (hlo : 1 ≤ bitsAt v 16 8)
    (hhi : bitsAt v 16 8 ≤ 100) (hmode : s.mode = modeBoot ∨ hostMode s.mode = true) (hen : bitAt v 31 = true) :
    s.writePairCtrl v = (s.plainWrite Reg.PAR_CTRL v).setRole roleUnformed := by
  have hchange : (bitAt v 31 != s.pairEn) = true := by simpa using hc
  refine (if_neg (by omega)).trans ((if_neg fun h => h.2 hmode).trans ?_)
  dsimp only
  rw [hchange, if_neg (by decide), if_pos hen]

/-- The write of PAR_CTRL that disables it. -/
theorem State.writePairCtrl_disable {s : State} {v : Word} (hc : bitAt v 31 ≠ s.pairEn) (hlo : 1 ≤ bitsAt v 16 8)
    (hhi : bitsAt v 16 8 ≤ 100) (hmode : s.mode = modeBoot ∨ hostMode s.mode = true) (hen : bitAt v 31 = false) :
    s.writePairCtrl v = ((s.plainWrite Reg.PAR_CTRL v).formEnds.setRole roleSolo).pairStop := by
  have hchange : (bitAt v 31 != s.pairEn) = true := by simpa using hc
  refine (if_neg (by omega)).trans ((if_neg fun h => h.2 hmode).trans ?_)
  dsimp only
  rw [hchange, if_neg (by decide), if_neg (by simp [hen])]

theorem exec_pairEnableWrite_accepted {s : State} {ag : Agent} {v : Word} (ho : s.opens ag Reg.PAR_CTRL = true)
    (hc : bitAt v 31 ≠ s.pairEn) (hlo : 1 ≤ bitsAt v 16 8) (hhi : bitsAt v 16 8 ≤ 100)
    (hmode : s.mode = modeBoot ∨ hostMode s.mode = true) :
    ∃ t, exec (.pairEnableWrite ag v) s = .next t ∧ t.pairEn = bitAt v 31 ∧
      t.role = (if bitAt v 31 then roleUnformed else roleSolo) ∧
      (bitAt v 31 = false → t.pair.queue = [] ∧ t.pair.mirror = [] ∧ t.pair.forming = none ∧ t.pair.resync = none) := by
  have hwritten : (s.plainWrite Reg.PAR_CTRL v).flag Reg.PAR_CTRL 31 = bitAt v 31 :=
    State.flag_plainWrite rwBit_parCtrl_en s v
  cases hen : bitAt v 31 with
  | true =>
    refine ⟨_, (exec_pairEnableWrite_change ho hc).trans
      (congrArg _ (State.writePairCtrl_enable hc hlo hhi hmode hen)), ?_, State.role_setRole _ (by decide),
      fun h => absurd h (by decide)⟩
    rw [State.setRole_of_ne (by decide)]
    exact (State.flag_setFld_other _ _ _ _ _ _ _ (by decide) (by decide)).trans (hwritten.trans hen)
  | false =>
    refine ⟨_, (exec_pairEnableWrite_change ho hc).trans
      (congrArg _ (State.writePairCtrl_disable hc hlo hhi hmode hen)), ?_, State.role_setRole _ (by decide),
      fun _ => ⟨rfl, rfl, ?_, rfl⟩⟩
    · rw [State.setRole_of_ne (by decide)]
      exact (State.flag_setFld_other _ _ _ _ _ _ _ (by decide) (by decide)).trans
        ((State.flag_setFlag_other _ _ _ _ _ _ (by decide)).trans (hwritten.trans hen))
    · rw [State.setRole_of_ne (by decide)]
      rfl

/-! ### The link -/

theorem State.pair_startTest (s : State) (unit row : Nat) : (s.startTest unit row).pair = s.pair :=
  State.startTest_induction (P := fun t => t.pair = s.pair) rfl (fun _ => rfl)
    (congrArg State.pair (s.verdict_reports unit verdictUntested) :)

theorem exec_pairLinkUp_of_ready {s : State} (hup : s.pdUp PD_PAIR = true) (hpll : s.pllReady pllPair = true)
    (hfree : s.lanesFree [16, 17] = true) : exec .pairLinkUp s = .next (s.setFlag Reg.PAR_STATUS psLink true) :=
  congrArg Host.Outcome.next (if_pos ⟨hup, hpll, hfree⟩)

theorem exec_pairLinkDown_of_link {s : State} (h : s.flag Reg.PAR_STATUS psLink = true) :
    exec .pairLinkDown s = .next ((s.pairLinkLost.startTest (unitLane 16) 0).startTest (unitLane 17) 0) :=
  congrArg Host.Outcome.next (if_pos h)

/-- With room among the tests, a test of a unit in service runs at once. -/
theorem State.testRuns_startTest {s : State} {unit row : Nat} (hret : s.unitRetired unit = false)
    (hroom : s.rel.tests.length < 16) (hwait : s.rel.waiting = []) :
    (s.startTest unit row).testRuns unit row = true := by
  rw [State.startTest, if_neg (by simp [hret]), hwait]
  split
  · next h => simpa [State.testRuns] using h
  · simp [State.testRuns, hroom]

/-- A test that runs is not ended by another that starts, and at most one more runs. -/
theorem State.tests_startTest (s : State) (unit row : Nat) : (s.startTest unit row).rel.tests = s.rel.tests ∨
    (s.startTest unit row).rel.tests = s.rel.tests ++ [(unit, row)] := by
  unfold State.startTest
  split
  · exact .inl rfl
  · split
    · exact .inl rfl
    · split
      · exact .inr rfl
      · split
        · exact .inl rfl
        · exact .inl (congrArg (·.rel.tests) (s.verdict_reports unit verdictUntested) :)

theorem State.waiting_startTest_of_room {s : State} (unit row : Nat) (hroom : s.rel.tests.length < 16)
    (hwait : s.rel.waiting = []) : (s.startTest unit row).rel.waiting = [] := by
  unfold State.startTest
  split
  · exact hwait
  · split
    · exact hwait
    · rw [if_pos ⟨hroom, hwait⟩]
      exact hwait

theorem State.laneRetired_of_keepsRegs {s t : State} {l : List Nat} (h : s.keepsRegs t l) (hl : Reg.REL_RET_LANE ∉ l)
    {n : Nat} (hn : n < 0x1000) : t.unitRetired (unitLane n) = s.laneRetired n := by
  have h4 : unitLane n / 0x1000 = 4 := by simp only [unitLane]; omega
  have hlane : unitLane n % 0x1000 = n := by simp only [unitLane]; omega
  rw [State.unitRetired, h4, if_neg (by decide), if_pos rfl, hlane, State.laneRetired, State.flag, h _ hl]
  rfl

theorem exec_pairLinkDown_lost {s : State} (h : s.flag Reg.PAR_STATUS psLink = true) :
    ∃ t, exec .pairLinkDown s = .next t ∧ t.flag Reg.PAR_STATUS psLink = false ∧ t.pair = { s.pair with queue := [] } ∧
      (s.rel.tests.length < 15 → s.rel.waiting = [] → ∀ n ∈ [16, 17], s.laneRetired n = false →
        t.testRuns (unitLane n) 0 = true) := by
  have hregs : s.pairLinkLost.keepsRegs ((s.pairLinkLost.startTest (unitLane 16) 0).startTest (unitLane 17) 0)
      [Reg.REL_STICKY, Reg.REL_LOG_LOST] := (State.keepsRegs_startTest _ _ _).trans (State.keepsRegs_startTest _ _ _)
  refine ⟨_, exec_pairLinkDown_of_link h, ?_, ?_, fun hroom hwait n hn hret => ?_⟩
  · rw [State.flag, hregs _ (by decide)]
    exact State.flag_setFlag _ _ _ _ (by decide)
  · rw [State.pair_startTest, State.pair_startTest]
    rfl
  · have hlost : s.keepsRegs s.pairLinkLost [Reg.PAR_STATUS] := .of_regs (.setFlag (o := Reg.PAR_STATUS) .refl)
    rcases List.mem_cons.mp hn with rfl | hn
    · have hruns := State.testRuns_startTest (s := s.pairLinkLost) (unit := unitLane 16) (row := 0)
        ((State.laneRetired_of_keepsRegs hlost (by decide) (by decide)).trans hret)
        (show s.rel.tests.length < 16 by omega) hwait
      rcases State.tests_startTest (s.pairLinkLost.startTest (unitLane 16) 0) (unitLane 17) 0 with e | e
      · rw [State.testRuns, e]
        exact hruns
      · rw [State.testRuns, e, List.contains_append]
        exact (Bool.or_eq_true _ _).mpr (.inl hruns)
    · obtain rfl := List.mem_singleton.mp hn
      have hfirst := State.keepsRegs_startTest s.pairLinkLost (unitLane 16) 0
      have hroom' : (s.pairLinkLost.startTest (unitLane 16) 0).rel.tests.length < 16 := by
        rcases State.tests_startTest s.pairLinkLost (unitLane 16) 0 with e | e
        · rw [e]
          exact Nat.lt_succ_of_lt hroom
        · rw [e, List.length_append]
          exact Nat.succ_lt_succ hroom
      have hboth : s.keepsRegs (s.pairLinkLost.startTest (unitLane 16) 0) [Reg.PAR_STATUS, Reg.REL_STICKY, Reg.REL_LOG_LOST] :=
        (hlost.mono (by simp)).trans (hfirst.mono (by simp))
      exact State.testRuns_startTest ((State.laneRetired_of_keepsRegs hboth (by decide) (by decide)).trans hret)
        hroom' (State.waiting_startTest_of_room _ _ (show s.rel.tests.length < 16 by omega) hwait)

/-! ### Heartbeats sent and missed -/

theorem exec_heartbeatTx_of_sent {s : State} (h : s.heartbeats = true) :
    exec .heartbeatTx s = .next { s with pair := { s.pair with
      alive := !s.pair.alive, queue := s.pair.queue ++ (if s.flag Reg.PAR_STATUS psLink then [s.heartbeat] else []) } } := by
  change execHeartbeatTx s = _
  rw [execHeartbeatTx, if_pos h, State.pairQueue_eq]
  rfl

theorem exec_heartbeatTx_of_silent {s : State} (h : s.heartbeats = false) : exec .heartbeatTx s = .next s :=
  congrArg Host.Outcome.next (if_neg (by simp [h]))

theorem exec_heartbeatInterval_got {s : State} (hen : s.pairEn = true) (hgot : s.pair.got = true) :
    exec .heartbeatInterval s = .next { s with pair := { s.pair with got := false, missed := 0 } } :=
  congrArg Host.Outcome.next ((if_neg (by simp [hen])).trans (if_pos hgot))

/-- An interval without a heartbeat counted. -/
def State.beatMissed (s : State) : State :=
  State.bump { s with pair := { s.pair with missed := s.pair.missed + 1 } } Reg.PAR_CNT_HBMISS 0 32

theorem exec_heartbeatInterval_missed {s : State} (hen : s.pairEn = true) (hgot : s.pair.got = false) :
    exec .heartbeatInterval s = .next (if s.pair.missed + 1 < 5 then s.beatMissed
      else if s.beatMissed.flag Reg.PAR_STATUS psAlive = false then s.beatMissed.declareDead
      else if s.pair.missed + 1 = 5 then s.beatMissed.raise 236
      else s.beatMissed) :=
  congrArg Host.Outcome.next ((if_neg (by simp [hen])).trans (if_neg (by simp [hgot])))

theorem State.keepsRegs_beatMissed (s : State) : s.keepsRegs s.beatMissed [Reg.PAR_CNT_HBMISS] :=
  State.keepsRegs.bump (o := Reg.PAR_CNT_HBMISS) (.of_regs .refl)

theorem State.declareDead_induction {P : State → Prop} {s : State} (hs : P s)
    (hd : P ((s.setFlag Reg.PAR_STATUS psDead true).raise 232)) : P s.declareDead := by
  unfold State.declareDead
  split
  · exact hs
  · exact hd

theorem State.flag_declareDead (s : State) : s.declareDead.flag Reg.PAR_STATUS psDead = true := by
  unfold State.declareDead
  split
  · assumption
  · exact State.flag_setFlag _ _ _ _ (by decide)

theorem State.raised_declareDead (s : State) :
    s.declareDead.raised = s.raised ++ (if s.flag Reg.PAR_STATUS psDead then [] else [⟨232, 0, 0⟩]) := by
  unfold State.declareDead
  split
  · exact (List.append_nil _).symm
  · rfl

theorem State.keepsRegs_declareDead (s : State) : s.keepsRegs s.declareDead [Reg.PAR_STATUS] :=
  State.declareDead_induction (P := fun t => s.keepsRegs t _) .refl (.raise (.setFlag (o := Reg.PAR_STATUS) .refl))

theorem exec_heartbeatInterval_counted {s : State} (hen : s.pairEn = true) (hgot : s.pair.got = false) :
    ∃ t, exec .heartbeatInterval s = .next t ∧ t.pair = { s.pair with missed := s.pair.missed + 1 } ∧
      t.fld Reg.PAR_CNT_HBMISS 0 32 = min (2 ^ 32 - 1) (s.fld Reg.PAR_CNT_HBMISS 0 32 + 1) ∧
      (s.pair.missed < 4 → t.raised = s.raised ∧ s.keepsRegs t [Reg.PAR_CNT_HBMISS]) ∧
      (4 ≤ s.pair.missed → s.flag Reg.PAR_STATUS psAlive = false → t.flag Reg.PAR_STATUS psDead = true ∧
        t.raised = s.raised ++ (if s.flag Reg.PAR_STATUS psDead then [] else [⟨232, 0, 0⟩])) ∧
      (s.pair.missed = 4 → s.flag Reg.PAR_STATUS psAlive = true → t.raised = s.raised ++ [⟨236, 0, 0⟩] ∧
        t.flag Reg.PAR_STATUS psDead = s.flag Reg.PAR_STATUS psDead) := by
  have hstatus : ∀ i, s.beatMissed.flag Reg.PAR_STATUS i = s.flag Reg.PAR_STATUS i := fun i =>
    congrArg (bitAt · i) (s.keepsRegs_beatMissed Reg.PAR_STATUS (by decide))
  have hcount : s.beatMissed.fld Reg.PAR_CNT_HBMISS 0 32 = min (2 ^ 32 - 1) (s.fld Reg.PAR_CNT_HBMISS 0 32 + 1) :=
    State.fld_bump _ _ 0 32 1 (by decide) (by decide)
  refine ⟨_, exec_heartbeatInterval_missed hen hgot, ?_⟩
  rw [hstatus]
  by_cases hfew : s.pair.missed + 1 < 5
  · rw [if_pos hfew]
    exact ⟨rfl, hcount, fun _ => ⟨rfl, s.keepsRegs_beatMissed⟩, fun h => absurd h (by omega), fun h => absurd h (by omega)⟩
  · rw [if_neg hfew]
    cases halive : s.flag Reg.PAR_STATUS psAlive with
    | false =>
      rw [if_pos rfl]
      refine ⟨State.declareDead_induction (P := fun t => t.pair = s.beatMissed.pair) rfl rfl, ?_, fun h => absurd h (by omega),
        fun _ _ => ⟨State.flag_declareDead _, ?_⟩, fun _ h => absurd h (by decide)⟩
      · rw [State.fld, State.keepsRegs_declareDead _ _ (by decide)]
        exact hcount
      · rw [State.raised_declareDead, hstatus]
        rfl
    | true =>
      rw [if_neg (by decide)]
      by_cases hfive : s.pair.missed + 1 = 5
      · rw [if_pos hfive]
        exact ⟨rfl, hcount, fun h => absurd h (by omega), fun _ h => absurd h (by decide), fun _ _ => ⟨rfl, hstatus psDead⟩⟩
      · rw [if_neg hfive]
        exact ⟨rfl, hcount, fun h => absurd h (by omega), fun _ h => absurd h (by decide), fun h => absurd h (by omega)⟩

/-- The line of the peer silent. -/
def State.silent (s : State) : State := s.setFlag Reg.PAR_STATUS psAlive false

theorem exec_pairAliveSilence_of_alive {s : State} (halive : s.flag Reg.PAR_STATUS psAlive = true) (hen : s.pairEn = true) :
    exec .pairAliveSilence s = .next (if 5 ≤ s.pair.missed then s.silent.declareDead else s.silent.log 236) := by
  have hen' : s.silent.pairEn = true := (State.flag_setFlag_other _ _ _ _ _ _ (by decide)).trans hen
  refine congrArg Host.Outcome.next ((if_neg (by simp [halive])).trans (if_neg ?_))
  rw [← State.silent, hen']
  decide

theorem exec_pairAliveSilence_counted {s : State} (halive : s.flag Reg.PAR_STATUS psAlive = true) (hen : s.pairEn = true) :
    ∃ t, exec .pairAliveSilence s = .next t ∧ t.flag Reg.PAR_STATUS psAlive = false ∧
      (5 ≤ s.pair.missed → t.flag Reg.PAR_STATUS psDead = true) ∧
      (s.pair.missed < 5 → t.flag Reg.PAR_STATUS psDead = s.flag Reg.PAR_STATUS psDead ∧ t.raised = s.raised) := by
  have hsilent : s.silent.flag Reg.PAR_STATUS psAlive = false := State.flag_setFlag _ _ _ _ (by decide)
  refine ⟨_, exec_pairAliveSilence_of_alive halive hen, ?_⟩
  by_cases hmissed : 5 ≤ s.pair.missed
  · rw [if_pos hmissed]
    refine ⟨?_, fun _ => State.flag_declareDead _, fun h => absurd h (by omega)⟩
    exact State.declareDead_induction (P := fun t => t.flag Reg.PAR_STATUS psAlive = false) hsilent
      ((State.flag_setFlag_other _ _ _ _ _ _ (by decide)).trans hsilent)
  · rw [if_neg hmissed]
    have hlog : s.silent.keepsRegs (s.silent.log 236) [Reg.REL_LOG_LOST, Reg.REL_STICKY] :=
      State.keepsRegs.logEntry .refl _ (by decide) (by decide)
    refine ⟨?_, fun h => absurd h hmissed, fun _ => ⟨?_, State.raised_logEntry _ _⟩⟩
    · rw [State.flag, hlog _ (by decide)]
      exact hsilent
    · rw [State.flag, hlog _ (by decide)]
      exact State.flag_setFlag_other _ _ _ _ _ _ (by decide)

end Sys2Proof.Machine
end

section
/-!
Heartbeats received, takeover and fencing (R487 to R490, R496).
-/
namespace Sys2Proof.Machine

theorem ofWords64_lo32_hi32 (v : Word64) : ofWords64 (lo32 v) (hi32 v) = v := by
  apply BitVec.eq_of_toNat_eq
  have hv := v.isLt
  simp only [ofWords64, lo32, hi32, BitVec.toNat_ofNat]
  omega

/-! ### What a heartbeat tells -/

/-- The registers that a heartbeat writes, but for MSYNC. -/
def State.peerShown (s : State) (h : Heartbeat) : State :=
  (((((s.setFld Reg.PAR_STATUS 8 4 h.mode.toNat).setFld Reg.PAR_STATUS 6 2 h.qlevel.val).setFld Reg.PAR_STATUS 4 2
    h.role.val).wr Reg.PAR_PEER_DSN_L (lo32 h.dsn)).wr Reg.PAR_PEER_DSN_H (hi32 h.dsn)).setFlag Reg.PAR_STATUS psDead false

/-- The heartbeat in the registers, and source 236 where heartbeats had failed. -/
def State.peerReported (s : State) (h : Heartbeat) : State :=
  if 5 ≤ (s.peerShown h).pair.missed ∧ (s.peerShown h).pair.got = false then (s.peerShown h).raise 236 else s.peerShown h

/-- The heartbeat with its MSYNC. -/
def State.msyncTaken (s : State) (h : Heartbeat) : State :=
  if (s.peerReported h).role = roleActive then s.peerReported h else (s.peerReported h).setFlag Reg.PAR_STATUS psMsync h.msync

theorem State.notePeer_frame (s : State) (e : Word) (h : Heartbeat) : ∃ p, s.notePeer e h =
    { s.msyncTaken h with pair := { (s.msyncTaken h).pair with peerEpoch := some e, got := true, peer := some p } } :=
  ⟨_, rfl⟩

theorem State.regs_peerReported (s : State) (h : Heartbeat) : (s.peerReported h).regs = (s.peerShown h).regs := by
  unfold State.peerReported
  split <;> rfl

theorem State.regs_notePeer (s : State) (e : Word) (h : Heartbeat) : (s.notePeer e h).regs = (s.msyncTaken h).regs := by
  obtain ⟨p, hp⟩ := s.notePeer_frame e h
  rw [hp]

theorem State.keepsRegs_msyncTaken (s : State) (h : Heartbeat) :
    (s.peerShown h).keepsRegs (s.msyncTaken h) [Reg.PAR_STATUS] :=
  .ite (.of_regs .refl (s.regs_peerReported h)) (.setFlag (o := Reg.PAR_STATUS) (.of_regs .refl (s.regs_peerReported h)))

/-- A field of PAR_STATUS below MSYNC or above it. -/
theorem State.fld_msyncTaken (s : State) (h : Heartbeat) {lo n : Nat} (hm : psMsync < lo ∨ lo + n ≤ psMsync) :
    (s.msyncTaken h).fld Reg.PAR_STATUS lo n = (s.peerShown h).fld Reg.PAR_STATUS lo n := by
  have hrep : (s.peerReported h).fld Reg.PAR_STATUS lo n = (s.peerShown h).fld Reg.PAR_STATUS lo n := by
    rw [State.fld, State.rd_of_regs _ _ (s.regs_peerReported h)]
    rfl
  unfold State.msyncTaken
  split
  · exact hrep
  · exact (State.fld_setFlag_other _ _ _ _ _ _ _ (.inr hm)).trans hrep

theorem State.flag_msyncTaken (s : State) (h : Heartbeat) {i : Nat} (hm : i ≠ psMsync) :
    (s.msyncTaken h).flag Reg.PAR_STATUS i = (s.peerShown h).flag Reg.PAR_STATUS i := by
  have hrep : (s.peerReported h).flag Reg.PAR_STATUS i = (s.peerShown h).flag Reg.PAR_STATUS i := by
    rw [State.flag, State.rd_of_regs _ _ (s.regs_peerReported h)]
    rfl
  unfold State.msyncTaken
  split
  · exact hrep
  · exact (State.flag_setFlag_other _ _ _ _ _ _ (.inr hm)).trans hrep

theorem State.keepsRegs_peerShown (s : State) (h : Heartbeat) :
    s.keepsRegs (s.peerShown h) [Reg.PAR_STATUS, Reg.PAR_PEER_DSN_L, Reg.PAR_PEER_DSN_H] :=
  (((((State.keepsRegs.setFld .refl).setFld).setFld).wr).wr).setFlag

theorem State.keepsRegs_notePeer (s : State) (e : Word) (h : Heartbeat) :
    s.keepsRegs (s.notePeer e h) [Reg.PAR_STATUS, Reg.PAR_PEER_DSN_L, Reg.PAR_PEER_DSN_H] :=
  (s.keepsRegs_peerShown h).trans (.of_regs ((s.keepsRegs_msyncTaken h).mono (by simp)) (s.regs_notePeer e h))

/-- The fields of PAR_STATUS that a heartbeat leaves. -/
theorem State.fld_peerShown_high (s : State) (h : Heartbeat) {lo n : Nat} (hlo : psDead < lo) (hn : lo + n ≤ 32) :
    (s.peerShown h).fld Reg.PAR_STATUS lo n = s.fld Reg.PAR_STATUS lo n := by
  have hdsn : ∀ (t : State) (a b : Word), ((t.wr Reg.PAR_PEER_DSN_L a).wr Reg.PAR_PEER_DSN_H b).fld Reg.PAR_STATUS lo n =
      t.fld Reg.PAR_STATUS lo n := fun t a b => by
    rw [State.fld, State.rd_wr_ne _ _ _ _ (by decide), State.rd_wr_ne _ _ _ _ (by decide)]
    rfl
  simp only [psDead] at hlo
  rw [State.peerShown, State.fld_setFlag_other _ _ _ _ _ _ _ (.inr (.inl hlo)), hdsn,
    State.fld_setFld_other _ _ _ _ _ _ _ _ (by omega) hn, State.fld_setFld_other _ _ _ _ _ _ _ _ (by omega) hn,
    State.fld_setFld_other _ _ _ _ _ _ _ _ (by omega) hn]

/-- The fields of PAR_STATUS below the flags, before DEAD clears. -/
theorem State.fld_peerShown_low (s : State) (h : Heartbeat) {lo n : Nat} (hn : lo + n ≤ 12) :
    (s.peerShown h).fld Reg.PAR_STATUS lo n = (((s.setFld Reg.PAR_STATUS 8 4 h.mode.toNat).setFld Reg.PAR_STATUS 6 2
      h.qlevel.val).setFld Reg.PAR_STATUS 4 2 h.role.val).fld Reg.PAR_STATUS lo n := by
  rw [State.peerShown, State.fld_setFlag_other _ _ _ _ _ _ _ (.inr (.inr (by simp only [psDead]; omega))), State.fld,
    State.rd_wr_ne _ _ _ _ (by decide), State.rd_wr_ne _ _ _ _ (by decide)]
  rfl

theorem State.mode_peerShown (s : State) (h : Heartbeat) : (s.peerShown h).fld Reg.PAR_STATUS 8 4 = h.mode.toNat := by
  rw [s.fld_peerShown_low h (by decide), State.fld_setFld_other _ _ _ _ _ _ _ _ (by decide) (by decide),
    State.fld_setFld_other _ _ _ _ _ _ _ _ (by decide) (by decide), State.fld_setFld _ _ _ _ _ (by decide)]
  exact Nat.mod_eq_of_lt h.mode.isLt

theorem State.qlevel_peerShown (s : State) (h : Heartbeat) : (s.peerShown h).fld Reg.PAR_STATUS 6 2 = h.qlevel.val := by
  rw [s.fld_peerShown_low h (by decide), State.fld_setFld_other _ _ _ _ _ _ _ _ (by decide) (by decide),
    State.fld_setFld _ _ _ _ _ (by decide)]
  exact Nat.mod_eq_of_lt h.qlevel.isLt

theorem State.role_peerShown (s : State) (h : Heartbeat) : (s.peerShown h).fld Reg.PAR_STATUS 4 2 = h.role.val := by
  rw [s.fld_peerShown_low h (by decide), State.fld_setFld _ _ _ _ _ (by decide)]
  exact Nat.mod_eq_of_lt h.role.isLt

theorem State.dsn_peerShown (s : State) (h : Heartbeat) :
    (s.peerShown h).rd Reg.PAR_PEER_DSN_L = lo32 h.dsn ∧ (s.peerShown h).rd Reg.PAR_PEER_DSN_H = hi32 h.dsn := by
  refine ⟨?_, ?_⟩
  · rw [State.peerShown, State.setFlag, State.rd_wr_ne _ _ _ _ (by decide), State.rd_wr_ne _ _ _ _ (by decide)]
    exact State.rd_wr_same _ _ _
  · rw [State.peerShown, State.setFlag, State.rd_wr_ne _ _ _ _ (by decide)]
    exact State.rd_wr_same _ _ _

/-- What holds after a heartbeat that was let through, whatever the state before. -/
theorem State.notePeer_told (s : State) (e : Word) (h : Heartbeat) :
    (s.notePeer e h).pair.got = true ∧ (s.notePeer e h).flag Reg.PAR_STATUS psDead = false ∧
      (s.notePeer e h).fld Reg.PAR_STATUS 8 4 = h.mode.toNat ∧ (s.notePeer e h).fld Reg.PAR_STATUS 6 2 = h.qlevel.val ∧
      (s.notePeer e h).fld Reg.PAR_STATUS 4 2 = h.role.val ∧
      ofWords64 ((s.notePeer e h).rd Reg.PAR_PEER_DSN_L) ((s.notePeer e h).rd Reg.PAR_PEER_DSN_H) = h.dsn ∧
      (s.notePeer e h).pair.peerEpoch = some e := by
  obtain ⟨p, hp⟩ := s.notePeer_frame e h
  obtain ⟨hlo, hhi⟩ := s.dsn_peerShown h
  rw [hp]
  refine ⟨rfl, ?_, ?_, ?_, ?_, ?_, rfl⟩
  · exact (s.flag_msyncTaken h (by decide)).trans (State.flag_setFlag _ _ _ _ (by decide))
  · exact (s.fld_msyncTaken h (by decide)).trans (s.mode_peerShown h)
  · exact (s.fld_msyncTaken h (by decide)).trans (s.qlevel_peerShown h)
  · exact (s.fld_msyncTaken h (by decide)).trans (s.role_peerShown h)
  · change ofWords64 ((s.msyncTaken h).rd Reg.PAR_PEER_DSN_L) ((s.msyncTaken h).rd Reg.PAR_PEER_DSN_H) = h.dsn
    rw [s.keepsRegs_msyncTaken h _ (by decide), s.keepsRegs_msyncTaken h _ (by decide), hlo, hhi, ofWords64_lo32_hi32]

theorem State.role_notePeer (s : State) (e : Word) (h : Heartbeat) : (s.notePeer e h).role = s.role := by
  rw [State.role, State.fld, State.rd_of_regs _ _ (s.regs_notePeer e h)]
  exact (s.fld_msyncTaken h (by decide)).trans (s.fld_peerShown_high h (by decide) (by decide))

theorem bitAt_eq_bitsAt (w : Word) (i : Nat) : bitAt w i = decide (bitsAt w i 1 = 1) := by
  have hbit := bitsAt_testBit w i 1 0
  have hlt : bitsAt w i 1 < 2 := Nat.mod_lt _ (by decide)
  rw [bitAt, show w.getLsbD i = (bitsAt w i 1).testBit 0 by rw [hbit]; simp]
  interval_cases bitsAt w i 1 <;> rfl

theorem State.deposed_notePeer (s : State) (e : Word) (h : Heartbeat) : (s.notePeer e h).deposed = s.deposed := by
  have hfld : (s.notePeer e h).fld Reg.PAR_STATUS psDeposed 1 = s.fld Reg.PAR_STATUS psDeposed 1 := by
    rw [State.fld, State.rd_of_regs _ _ (s.regs_notePeer e h)]
    exact (s.fld_msyncTaken h (by decide)).trans (s.fld_peerShown_high h (by decide) (by decide))
  rw [State.deposed, State.deposed, State.flag, State.flag, bitAt_eq_bitsAt, bitAt_eq_bitsAt]
  exact congrArg (fun n => decide (n = 1)) hfld

theorem State.epoch_notePeer (s : State) (e : Word) (h : Heartbeat) : (s.notePeer e h).epoch = s.epoch :=
  s.keepsRegs_notePeer e h _ (by decide)

theorem State.mode_notePeer (s : State) (e : Word) (h : Heartbeat) : (s.notePeer e h).mode = s.mode :=
  congrArg (bitsAt · 0 4) (s.keepsRegs_notePeer e h Reg.GCTL_STATUS (by decide))

theorem State.raised_notePeer (s : State) (e : Word) (h : Heartbeat) : s.raised ⊆ (s.notePeer e h).raised := by
  have hrep : s.raised ⊆ (s.peerReported h).raised := by
    unfold State.peerReported
    split
    · exact List.subset_append_left _ _
    · exact List.Subset.refl _
  obtain ⟨p, hp⟩ := s.notePeer_frame e h
  rw [hp]
  change s.raised ⊆ (s.msyncTaken h).raised
  unfold State.msyncTaken
  split
  · exact hrep
  · exact hrep

/-! ### A device deposed -/

/-- The device marked deposed, its takeover ended. -/
def State.markDeposed (s : State) : State :=
  let t := s.setFlag Reg.PAR_STATUS psDeposed true
  { t with pair := { t.pair with settling := false } }

theorem State.pairEn_markDeposed (s : State) : s.markDeposed.pairEn = s.pairEn :=
  State.flag_setFlag_other _ _ _ _ _ _ (by decide)

/-- The deposed device before it reports. -/
def State.deposedRole (s : State) : State :=
  if s.markDeposed.pairEn then s.markDeposed.setRole roleStandby else s.markDeposed

theorem State.deposedRole_of_enabled {s : State} (h : s.pairEn = true) :
    s.deposedRole = s.markDeposed.setRole roleStandby := if_pos (s.pairEn_markDeposed.trans h)

theorem State.flag_deposedRole (s : State) {i : Nat} (hi : i < 30) (hm : i ≠ psMsync) :
    s.deposedRole.flag Reg.PAR_STATUS i = s.markDeposed.flag Reg.PAR_STATUS i := by
  unfold State.deposedRole
  split
  · exact State.flag_setRole _ _ hi hm
  · rfl

theorem State.deposed_depose (s : State) : s.depose.deposed = true :=
  (s.flag_deposedRole (by decide) (by decide)).trans (State.flag_setFlag _ _ _ _ (by decide))

theorem State.flag_depose (s : State) {i : Nat} (hi : i < 29) (hm : i ≠ psMsync) :
    s.depose.flag Reg.PAR_STATUS i = s.flag Reg.PAR_STATUS i :=
  (s.flag_deposedRole (by omega) hm).trans (State.flag_setFlag_other _ _ _ _ _ _ (.inr (by simp only [psDeposed]; omega)))

theorem State.raised_depose (s : State) : (⟨234, 0, 0⟩ : Raise) ∈ s.depose.raised :=
  List.mem_append_right _ (List.mem_singleton_self _)

theorem State.epoch_depose (s : State) : s.depose.epoch = s.epoch := by
  have hmark : s.markDeposed.epoch = s.epoch := s.rd_wr_ne _ _ _ (by decide)
  change s.deposedRole.epoch = _
  unfold State.deposedRole
  split
  · exact (State.epoch_setRole _ _).trans hmark
  · exact hmark

theorem State.role_depose {s : State} (h : s.pairEn = true) : s.depose.role = roleStandby := by
  change s.deposedRole.role = _
  rw [State.deposedRole_of_enabled h]
  exact State.role_setRole _ (by decide)

theorem State.mode_depose {s : State} (h : s.pairEn = true) (hserve : s.answersClients = true) :
    s.depose.mode = modeStandby := by
  have hmode : s.markDeposed.answersClients = true := by
    rw [State.answersClients, State.mode, State.fld, show s.markDeposed.rd Reg.GCTL_STATUS = s.rd Reg.GCTL_STATUS from
      s.rd_wr_ne _ _ _ (by decide)]
    exact hserve
  change s.deposedRole.mode = _
  rw [State.deposedRole_of_enabled h]
  exact State.mode_setRole_standby hmode

theorem State.settling_depose (s : State) : s.depose.pair.settling = false := by
  change s.deposedRole.pair.settling = false
  unfold State.deposedRole
  split
  · exact (congrArg (·.settling) (s.markDeposed.moved_setRole roleStandby).pair :)
  · rfl

theorem State.fenceIn_depose (s : State) : s.depose.fenceIn = s.fenceIn := by
  change s.deposedRole.fenceIn = _
  unfold State.deposedRole
  split
  · exact (s.markDeposed.moved_setRole roleStandby).fenceIn
  · rfl

end Sys2Proof.Machine
end

section
/-!
The commands of liveness, takeover and fencing (R487 to R490, R496).
-/
namespace Sys2Proof.Machine

/-! ### Heartbeats received -/

/-- A heartbeat that does not complete a YIELD is received as any message. -/
theorem exec_heartbeatRx_ordinary {s : State} {e : Word} (hy : s.pair.yielding = false ∨ e ≠ s.epoch + 1) (crc : Bool)
    (h : Heartbeat) : exec (.heartbeatRx crc e h) s = .next (s.receivePair crc e fun t => t.notePeer e h) := by
  refine congrArg Host.Outcome.next (if_neg ?_)
  rintro ⟨-, -, hyield, hnext⟩
  exact hy.elim (fun h => by rw [h] at hyield; exact absurd hyield (by decide)) fun h => h hnext

theorem State.receivePair_badCrc {s : State} (hlink : s.pairLink = true) (e : Word) (k : State → State) :
    s.receivePair false e k = s.bump Reg.PAR_CNT_CRC 0 32 :=
  (if_neg (by simp [hlink])).trans (if_pos rfl)

theorem State.receivePair_stale {s : State} {e : Word} (hlink : s.pairLink = true) (hne : e ≠ s.epoch)
    (hold : epochNewer e s.epoch = false) (k : State → State) :
    s.receivePair true e k = s.bump Reg.PAR_CNT_STALE 0 32 := by
  rw [State.receivePair, if_neg (by simp [hlink]), if_neg (by decide), State.admitEpoch, if_neg hne,
    if_neg (by simp [hold])]

theorem State.receivePair_newer {s : State} {e : Word} (hlink : s.pairLink = true) (hne : e ≠ s.epoch)
    (hnew : epochNewer e s.epoch = true) (k : State → State) :
    s.receivePair true e k = k (s.wr Reg.PAR_EPOCH e).depose := by
  rw [State.receivePair, if_neg (by simp [hlink]), if_neg (by decide), State.admitEpoch, if_neg hne, if_pos hnew]

theorem exec_heartbeatRx_discarded {s : State} {e : Word} {h : Heartbeat} (hlink : s.pairLink = true)
    (hy : s.pair.yielding = false ∨ e ≠ s.epoch + 1) :
    (∃ t, exec (.heartbeatRx false e h) s = .next t ∧ t.fld Reg.PAR_CNT_CRC 0 32 = min (2 ^ 32 - 1) (s.fld Reg.PAR_CNT_CRC 0 32 + 1) ∧
      t.pair = s.pair ∧ s.keepsRegs t [Reg.PAR_CNT_CRC]) ∧
    (e ≠ s.epoch → epochNewer e s.epoch = false → ∃ t, exec (.heartbeatRx true e h) s = .next t ∧
      t.fld Reg.PAR_CNT_STALE 0 32 = min (2 ^ 32 - 1) (s.fld Reg.PAR_CNT_STALE 0 32 + 1) ∧ t.pair = s.pair ∧
      s.keepsRegs t [Reg.PAR_CNT_STALE]) :=
  ⟨⟨_, (exec_heartbeatRx_ordinary hy false h).trans (congrArg _ (State.receivePair_badCrc hlink _ _)),
      State.fld_bump _ _ 0 32 1 (by decide) (by decide), rfl, .bump (o := Reg.PAR_CNT_CRC) .refl⟩,
    fun hne hold => ⟨_, (exec_heartbeatRx_ordinary hy true h).trans (congrArg _ (State.receivePair_stale hlink hne hold _)),
      State.fld_bump _ _ 0 32 1 (by decide) (by decide), rfl, .bump (o := Reg.PAR_CNT_STALE) .refl⟩⟩

theorem State.keepsRegs_newEpoch (s : State) (e : Word) : s.keepsRegs (s.wr Reg.PAR_EPOCH e) [Reg.PAR_EPOCH] :=
  .wr (o := Reg.PAR_EPOCH) .refl

theorem State.pairEn_newEpoch (s : State) (e : Word) : (s.wr Reg.PAR_EPOCH e).pairEn = s.pairEn :=
  congrArg (bitAt · 31) (s.keepsRegs_newEpoch e Reg.PAR_CTRL (by decide))

theorem State.answersClients_newEpoch (s : State) (e : Word) :
    (s.wr Reg.PAR_EPOCH e).answersClients = s.answersClients := by
  rw [State.answersClients, State.mode, State.fld, s.keepsRegs_newEpoch e _ (by decide)]
  rfl

theorem exec_heartbeatRx_told {s : State} {e : Word} {h : Heartbeat} (hlink : s.pairLink = true)
    (hy : s.pair.yielding = false ∨ e ≠ s.epoch + 1) (he : e = s.epoch ∨ epochNewer e s.epoch = true) :
    ∃ t, exec (.heartbeatRx true e h) s = .next t ∧ t.epoch = e ∧ t.pair.got = true ∧ t.flag Reg.PAR_STATUS psDead = false ∧
      t.fld Reg.PAR_STATUS 8 4 = h.mode.toNat ∧ t.fld Reg.PAR_STATUS 6 2 = h.qlevel.val ∧ t.fld Reg.PAR_STATUS 4 2 = h.role.val ∧
      ofWords64 (t.rd Reg.PAR_PEER_DSN_L) (t.rd Reg.PAR_PEER_DSN_H) = h.dsn ∧ t.pair.peerEpoch = some e ∧
      (e = s.epoch → t.role = s.role ∧ t.deposed = s.deposed) ∧
      (e ≠ s.epoch → t.role = roleStandby ∧ t.deposed = true ∧ (⟨234, 0, 0⟩ : Raise) ∈ t.raised ∧
        (s.answersClients = true → t.mode = modeStandby)) := by
  by_cases hsame : e = s.epoch
  · obtain ⟨hgot, hdead, hmode, hqlevel, hrole, hdsn, hepoch⟩ := s.notePeer_told e h
    refine ⟨_, (exec_heartbeatRx_ordinary hy true h).trans (congrArg _ ?_), (s.epoch_notePeer e h).trans hsame.symm, hgot,
      hdead, hmode, hqlevel, hrole, hdsn, hepoch, fun _ => ⟨s.role_notePeer e h, s.deposed_notePeer e h⟩,
      fun hne => absurd hsame hne⟩
    rw [hsame]
    exact State.receivePair_same hlink _
  · have hnew : epochNewer e s.epoch = true := he.resolve_left hsame
    have hen : (s.wr Reg.PAR_EPOCH e).pairEn = true := (s.pairEn_newEpoch e).trans (s.pairLink_iff.mp hlink).1
    obtain ⟨hgot, hdead, hmode, hqlevel, hrole, hdsn, hepoch⟩ := (s.wr Reg.PAR_EPOCH e).depose.notePeer_told e h
    exact ⟨_, (exec_heartbeatRx_ordinary hy true h).trans (congrArg _ (State.receivePair_newer hlink hsame hnew _)),
      (State.epoch_notePeer _ e h).trans ((State.epoch_depose _).trans (s.epoch_wr e)), hgot,
      hdead, hmode, hqlevel, hrole, hdsn, hepoch, fun he => absurd he hsame,
      fun _ => ⟨(State.role_notePeer _ e h).trans (State.role_depose hen),
        (State.deposed_notePeer _ e h).trans (State.deposed_depose _),
        State.raised_notePeer _ e h (State.raised_depose _),
        fun hserve => (State.mode_notePeer _ e h).trans
          (State.mode_depose hen ((s.answersClients_newEpoch e).trans hserve))⟩⟩

/-- The device whose YIELD the heartbeat of the next epoch completes. -/
def State.yielded (s : State) : State :=
  let t := s.wr Reg.PAR_EPOCH (s.epoch + 1)
  { t with pair := { t.pair with yielding := false } }

theorem exec_heartbeatRx_of_yield {s : State} (h : Heartbeat) (hlink : s.pairLink = true) (hy : s.pair.yielding = true) :
    exec (.heartbeatRx true (s.epoch + 1) h) s = .next (s.yielded.notePeer (s.epoch + 1) h) :=
  congrArg Host.Outcome.next (if_pos ⟨hlink, rfl, hy, rfl⟩)

theorem State.yielding_notePeer (s : State) (e : Word) (h : Heartbeat) :
    (s.notePeer e h).pair.yielding = s.pair.yielding := by
  have hrep : (s.peerReported h).pair = s.pair := by
    unfold State.peerReported
    split <;> rfl
  obtain ⟨p, hp⟩ := s.notePeer_frame e h
  rw [hp]
  change (s.msyncTaken h).pair.yielding = _
  unfold State.msyncTaken
  split
  · rw [hrep]
  · exact congrArg PairState.yielding hrep

theorem exec_heartbeatRx_completes {s : State} {h : Heartbeat} (hlink : s.pairLink = true) (hy : s.pair.yielding = true) :
    ∃ t, exec (.heartbeatRx true (s.epoch + 1) h) s = .next t ∧ t.epoch = s.epoch + 1 ∧ t.pair.yielding = false ∧
      t.deposed = s.deposed ∧ t.role = s.role := by
  have hstatus : s.yielded.rd Reg.PAR_STATUS = s.rd Reg.PAR_STATUS := s.rd_wr_ne _ _ _ (by decide)
  exact ⟨_, exec_heartbeatRx_of_yield h hlink hy, (State.epoch_notePeer _ _ _).trans (s.epoch_wr _),
    State.yielding_notePeer _ _ _, (State.deposed_notePeer _ _ _).trans (congrArg (bitAt · psDeposed) hstatus),
    (State.role_notePeer _ _ _).trans (congrArg (bitsAt · 30 2) hstatus)⟩

/-! ### Takeover -/

theorem exec_pairTakeover_of_opens {s : State} {ag : Agent} (ho : s.opens ag Reg.PAR_CMD = true) :
    exec (.pairTakeover (some ag)) s = .next s.commandTakeover := by
  change execPairTakeover (some ag) s = _
  rw [execPairTakeover]
  exact congrArg _ (State.writeAccess_opens _ _ _ _ _ ho)

theorem State.keepsRegs_takeOver (s : State) : s.keepsRegs s.takeOver [Reg.PAR_EPOCH, Reg.PAR_STATUS] :=
  .of_regs (.setFlag (o := Reg.PAR_STATUS) (.wr (o := Reg.PAR_EPOCH) .refl))

theorem State.epoch_takeOver (s : State) : s.takeOver.epoch = s.epoch + 1 :=
  (State.rd_wr_ne _ _ _ _ (by decide)).trans (s.rd_wr_same _ _)

theorem State.fenceOut_takeOver (s : State) : s.takeOver.flag Reg.PAR_STATUS psFenceOut = true :=
  State.flag_setFlag _ _ _ _ (by decide)

theorem State.role_takeOver (s : State) : s.takeOver.role = s.role :=
  (State.fld_setFlag_other _ _ _ _ _ _ _ (by decide)).trans
    (congrArg (bitsAt · 30 2) (s.rd_wr_ne Reg.PAR_EPOCH Reg.PAR_STATUS (s.epoch + 1) (by decide)))

theorem exec_pairTakeover_host {s : State} {ag : Agent} (ho : s.opens ag Reg.PAR_CMD = true) :
    (s.mayTakeOver = false → exec (.pairTakeover (some ag)) s = .next (s.error Reg.PAR_ERR 3 238)) ∧
    (s.mayTakeOver = true → ∃ t, exec (.pairTakeover (some ag)) s = .next t ∧ t.epoch = s.epoch + 1 ∧
      t.flag Reg.PAR_STATUS psFenceOut = true ∧ t.pair = { s.pair with settling := true } ∧ t.role = s.role ∧
      s.keepsRegs t [Reg.PAR_EPOCH, Reg.PAR_STATUS]) :=
  ⟨fun h => (exec_pairTakeover_of_opens ho).trans (congrArg _ (State.pairCommand_of_refused h)),
    fun h => ⟨_, (exec_pairTakeover_of_opens ho).trans (congrArg _ (State.pairCommand_of_accepted h)), s.epoch_takeOver,
      s.fenceOut_takeOver, rfl, s.role_takeOver, s.keepsRegs_takeOver⟩⟩

theorem exec_pairTakeover_trigger {s : State} (hmay : s.mayTakeOver = true)
    (h : s.flag Reg.PAR_STATUS psDead = true ∨ ∃ p, s.pair.peer = some p ∧ 3 ≤ p.dumb) :
    exec (.pairTakeover none) s = .next s.takeOver := by
  refine congrArg Host.Outcome.next (if_pos ⟨hmay, h.imp id ?_⟩)
  rintro ⟨p, hp, hdumb⟩
  rw [hp]
  exact hdumb

theorem exec_fenceSettleEnd_of_settling {s : State} (h : s.pair.settling = true) :
    ∃ t, exec .fenceSettleEnd s = .next t ∧ t.role = roleActive ∧ t.pair.settling = false ∧ t.epoch = s.epoch ∧
      (⟨233, 0, 0⟩ : Raise) ∈ t.raised ∧
      (s.mode = modeStandby → 4 ≤ s.fld Reg.PAR_TKMODE 0 4 → s.fld Reg.PAR_TKMODE 0 4 ≤ 7 → t.answersClients = true) ∧
      t.flag Reg.PAR_STATUS psFenceOut = s.flag Reg.PAR_STATUS psFenceOut :=
  ⟨s.takenOver, congrArg Host.Outcome.next (if_pos h), s.role_takenOver, rfl, s.epoch_takenOver, s.raised_takenOver,
    fun hmode hlo hhi => State.serves_takenOver hmode hlo hhi, s.fenceOut_takenOver⟩

/-! ### Fencing -/

/-- The device with FENCE_IN asserted, before it is deposed. -/
def State.fenced (s : State) : State :=
  { ((s.setFlag Reg.PAR_STATUS psFenceIn true).setFlag Reg.PAR_STATUS psFenced true) with fenceIn := true }

theorem exec_fenceInAssert_edge {s : State} (h : s.fenceIn = false) : exec .fenceInAssert s = .next s.fenced.depose :=
  congrArg Host.Outcome.next (if_neg (by simp [h]))

theorem State.keepsRegs_fenced (s : State) : s.keepsRegs s.fenced [Reg.PAR_STATUS] :=
  .of_regs (.setFlag (o := Reg.PAR_STATUS) (.setFlag (o := Reg.PAR_STATUS) .refl))

theorem exec_fenceInAssert_fenced {s : State} (h : s.fenceIn = false) :
    ∃ t, exec .fenceInAssert s = .next t ∧ t.fenceIn = true ∧ t.flag Reg.PAR_STATUS psFenceIn = true ∧
      t.flag Reg.PAR_STATUS psFenced = true ∧ t.deposed = true ∧ t.pair.settling = false ∧ (⟨234, 0, 0⟩ : Raise) ∈ t.raised ∧
      (s.pairEn = true → t.role = roleStandby ∧ (s.answersClients = true → t.mode = modeStandby)) := by
  refine ⟨_, exec_fenceInAssert_edge h, s.fenced.fenceIn_depose, ?_, ?_, State.deposed_depose _, State.settling_depose _,
    State.raised_depose _, fun hen => ?_⟩
  · exact (State.flag_depose _ (by decide) (by decide)).trans
      ((State.flag_setFlag_other _ _ _ _ _ _ (by decide)).trans (State.flag_setFlag _ _ _ _ (by decide)))
  · exact (State.flag_depose _ (by decide) (by decide)).trans (State.flag_setFlag _ _ _ _ (by decide))
  · have hen' : s.fenced.pairEn = true := (congrArg (bitAt · 31) (s.keepsRegs_fenced Reg.PAR_CTRL (by decide))).trans hen
    have hmode : s.fenced.answersClients = s.answersClients := by
      rw [State.answersClients, State.mode, State.fld, s.keepsRegs_fenced _ (by decide)]
      rfl
    exact ⟨State.role_depose hen', fun hserve => State.mode_depose hen' (hmode.trans hserve)⟩

theorem exec_fenceInDeassert_kept (s : State) : ∃ t, exec .fenceInDeassert s = .next t ∧ t.fenceIn = false ∧
    t.flag Reg.PAR_STATUS psFenceIn = false ∧ t.flag Reg.PAR_STATUS psFenced = s.flag Reg.PAR_STATUS psFenced ∧
    t.deposed = s.deposed ∧ s.keepsRegs t [Reg.PAR_STATUS] :=
  ⟨_, rfl, rfl, State.flag_setFlag _ _ _ _ (by decide), State.flag_setFlag_other _ _ _ _ _ _ (by decide),
    State.flag_setFlag_other _ _ _ _ _ _ (by decide), .of_regs (.setFlag (o := Reg.PAR_STATUS) .refl)⟩

/-- Settles O58: each command of liveness, takeover and fencing is followed through its registers, and a change of role through
what a change of mode moves. -/
theorem livenessTakeoverAndFencing : Obligations.LivenessTakeoverAndFencing := by
  unfold Obligations.LivenessTakeoverAndFencing
  refine ⟨fun s ag v => exec_pairEnableWrite_same, fun s ag v ho hc => ⟨fun hp => ?_, fun hlo hhi hboot hhost => ?_,
      exec_pairEnableWrite_accepted ho hc⟩,
    fun s => exec_pairLinkUp_of_ready, fun s => exec_pairLinkDown_lost, fun s => exec_heartbeatTx_of_sent,
    fun s => exec_heartbeatTx_of_silent, fun s => exec_heartbeatInterval_got, fun s => exec_heartbeatInterval_counted,
    fun _ => rfl, fun s => exec_pairAliveSilence_counted, fun s e h => exec_heartbeatRx_discarded,
    fun s e h => exec_heartbeatRx_told, fun s h => exec_heartbeatRx_completes, fun s ag => exec_pairTakeover_host,
    fun s hmay h => ⟨_, exec_pairTakeover_trigger hmay h, s.epoch_takeOver, s.fenceOut_takeOver, rfl⟩,
    fun s => exec_fenceSettleEnd_of_settling, fun s => exec_fenceInAssert_fenced,
    fun s h => congrArg Host.Outcome.next (if_pos h), exec_fenceInDeassert_kept⟩
  · exact (exec_pairEnableWrite_change ho hc).trans (congrArg _ (State.writePairCtrl_of_param hp))
  · exact (exec_pairEnableWrite_change ho hc).trans (congrArg _ (State.writePairCtrl_of_mode hc hlo hhi hboot hhost))

end Sys2Proof.Machine
end

section
/-!
The mode commands (R458 to R461, R447).
-/
namespace Sys2Proof.Machine

/-! ### The word of a mode command -/

/-- The word that gives a mode command. -/
def modeWord (op len : Nat) : Word := BitVec.ofNat 32 (2 ^ 31 + op * 2 ^ 24 + len)

theorem toNat_modeWord {op len : Nat} (hop : op < 16) (hlen : len < 2 ^ 24) :
    (modeWord op len).toNat = 2 ^ 31 + op * 2 ^ 24 + len := by
  rw [modeWord, BitVec.toNat_ofNat]
  omega

theorem bitAt_modeWord {op len : Nat} (hop : op < 16) (hlen : len < 2 ^ 24) : bitAt (modeWord op len) 31 = true := by
  rw [bitAt_eq_bitsAt, bitsAt, toNat_modeWord hop hlen]
  exact decide_eq_true (by omega)

theorem op_modeWord {op len : Nat} (hop : op < 16) (hlen : len < 2 ^ 24) : bitsAt (modeWord op len) 24 4 = op := by
  rw [bitsAt, toNat_modeWord hop hlen]
  omega

theorem len_modeWord {op len : Nat} (hop : op < 16) (hlen : len < 2 ^ 24) : bitsAt (modeWord op len) 0 24 = len := by
  rw [bitsAt, toNat_modeWord hop hlen]
  omega

theorem State.modeCommand_of_opens {s : State} {ag : Agent} (ho : s.opens ag Reg.GCTL_MODECMD = true) (op len : Nat)
    (image : Option Firmware) : s.modeCommand ag op len image = s.writeModeCommand (modeWord op len) image :=
  State.writeAccess_opens s ag Reg.GCTL_MODECMD (modeWord op len) (fun t => t.writeModeCommand (modeWord op len) image) ho

/-- A command while another runs. -/
theorem State.modeCommand_running {s : State} {ag : Agent} {op len : Nat} (ho : s.opens ag Reg.GCTL_MODECMD = true)
    (hop : op < 7) (hlen : len < 2 ^ 24) (hruns : s.commandRuns = true) (image : Option Firmware) :
    s.modeCommand ag op len image = s.setModeErr 2 := by
  rw [State.modeCommand_of_opens ho, State.writeModeCommand, op_modeWord (by omega) hlen, bitAt_modeWord (by omega) hlen]
  exact (if_neg (by rintro (h | ⟨h, -⟩); exacts [absurd h (by decide), absurd h (by omega)])).trans (if_pos hruns)

/-- A command that no other holds up. -/
theorem State.modeCommand_idle {s : State} {ag : Agent} {op len : Nat} (ho : s.opens ag Reg.GCTL_MODECMD = true)
    (hop : 1 ≤ op ∧ op ≤ 7) (hlen : len < 2 ^ 24) (hlen7 : op = 7 → len ≤ 4194304) (hruns : s.commandRuns = false)
    (image : Option Firmware) :
    s.modeCommand ag op len image = if s.commandAllowed op = false then s.setModeErr 1 else s.runCommand op image := by
  rw [State.modeCommand_of_opens ho, State.writeModeCommand, op_modeWord (by omega) hlen, bitAt_modeWord (by omega) hlen,
    len_modeWord (by omega) hlen]
  exact (if_neg (by rintro (h | ⟨h, h'⟩); exacts [absurd h (by decide), absurd h' (by have := hlen7 h; omega)])).trans
    ((if_neg (by simp [hruns])).trans (if_neg (by omega)))

theorem State.modeCommand_refused {s : State} {ag : Agent} {op : Nat} (ho : s.opens ag Reg.GCTL_MODECMD = true)
    (hop : 1 ≤ op ∧ op ≤ 6) (hruns : s.commandRuns = false) (hno : s.commandAllowed op = false) :
    s.modeCommand ag op 0 none = s.setModeErr 1 :=
  (State.modeCommand_idle ho ⟨hop.1, by omega⟩ (by decide) (by omega) hruns none).trans (if_pos hno)

theorem State.modeCommand_allowed {s : State} {ag : Agent} {op : Nat} (ho : s.opens ag Reg.GCTL_MODECMD = true)
    (hop : 1 ≤ op ∧ op ≤ 6) (hruns : s.commandRuns = false) (hyes : s.commandAllowed op = true) :
    s.modeCommand ag op 0 none = s.runCommand op none :=
  (State.modeCommand_idle ho ⟨hop.1, by omega⟩ (by decide) (by omega) hruns none).trans (if_neg (by simp [hyes]))

/-! ### The effects -/

theorem State.keepsRegs_setModeErr (s : State) (e : Nat) : s.keepsRegs (s.setModeErr e) [Reg.GCTL_MODESTAT] :=
  .setFld (o := Reg.GCTL_MODESTAT) .refl

theorem State.mode_setModeErr (s : State) (e : Nat) : (s.setModeErr e).mode = s.mode :=
  congrArg (bitsAt · 0 4) (s.keepsRegs_setModeErr e Reg.GCTL_STATUS (by decide))

theorem State.role_setModeErr (s : State) (e : Nat) : (s.setModeErr e).role = s.role :=
  congrArg (bitsAt · 30 2) (s.keepsRegs_setModeErr e Reg.PAR_STATUS (by decide))

theorem State.err_setModeErr (s : State) : (s.setModeErr 0).fld Reg.GCTL_MODESTAT 0 8 = 0 :=
  State.fld_setFld _ _ 0 8 _ (by decide)

theorem State.err_of_moved {s t : State} (h : (s.setModeErr 0).Moved roleRegs t) : t.fld Reg.GCTL_MODESTAT 0 8 = 0 :=
  (h.fld (by decide) (by decide) 0 8).trans s.err_setModeErr

theorem State.moved_enterServing (s : State) (m : Nat) : s.Moved roleRegs (s.enterServing m) := by
  have henter : s.Moved roleRegs (s.enterMode m) := State.moved_enterMode .refl m
  exact .ite (State.moved_goStandby henter) henter

theorem State.serves_enterServing {s : State} {m : Nat} (hm : 4 ≤ m ∧ m ≤ 7) (hrole : s.role ≠ roleStandby) :
    (s.enterServing m).answersClients = true := by
  have hrole' : (s.enterMode m).role = s.role := (State.moved_enterMode .refl m).role
  rw [State.enterServing]
  rw [if_neg fun h : (s.enterMode m).role = roleStandby ∧ _ => hrole (hrole'.symm.trans h.1)]
  exact s.serves_enterMode hm

theorem State.standby_enterServing {s : State} {m : Nat} (hm : 4 ≤ m ∧ m ≤ 7) (hrole : s.role = roleStandby) :
    (s.enterServing m).mode = modeStandby := by
  have hrole' : (s.enterMode m).role = s.role := (State.moved_enterMode .refl m).role
  rw [State.enterServing]
  rw [if_pos (⟨hrole'.trans hrole, s.serves_enterMode hm⟩ : (s.enterMode m).role = roleStandby ∧ (s.enterMode m).answersClients = true)]
  exact State.mode_goStandby _

theorem State.not_serving_of_mode {s : State} {m : Nat} (h : s.mode = m) (hm : m < 4 ∨ 7 < m) : s.answersClients = false := by
  rw [Bool.eq_false_iff, Ne, State.answersClients_iff]
  omega

theorem State.commandRuns_setModeErr (s : State) (e : Nat) : (s.setModeErr e).commandRuns = s.commandRuns :=
  State.flag_setFld_other _ _ _ _ _ _ _ (by decide) (by decide)

/-! ### Causes of SAFE (R460) -/

/-- A cause of SAFE in a device that is on. -/
theorem State.safeCause_of_on {s : State} (hon : modeBoot ≤ s.mode) (bit : Nat) :
    s.safeCause bit = if s.mode = modeBoot ∨ s.mode = modeDormant then
        { s.setFlag Reg.GCTL_CAUSE bit true with gctl := { s.gctl with causes := s.gctl.causes ++ [bit] } }
      else (s.setFlag Reg.GCTL_CAUSE bit true).supersede.enterMode modeSafe :=
  if_neg (by simp only [modeBoot, modeOff, modeReset] at *; omega)

theorem State.safeCause_of_waiting {s : State} (h : s.mode = modeBoot ∨ s.mode = modeDormant) (bit : Nat) :
    s.safeCause bit =
      { s.setFlag Reg.GCTL_CAUSE bit true with gctl := { s.gctl with causes := s.gctl.causes ++ [bit] } } := by
  have hon : modeBoot ≤ s.mode := by
    rcases h with h | h
    · omega
    · rw [h]
      decide
  exact (State.safeCause_of_on hon bit).trans (if_pos h)

theorem State.safeCause_of_running {s : State} (hon : modeBoot ≤ s.mode) (hboot : s.mode ≠ modeBoot)
    (hdorm : s.mode ≠ modeDormant) (bit : Nat) :
    s.safeCause bit = (s.setFlag Reg.GCTL_CAUSE bit true).supersede.enterMode modeSafe :=
  (State.safeCause_of_on hon bit).trans (if_neg fun h => h.elim hboot hdorm)

theorem State.supersede_of_idle {s : State} (h : s.commandRuns = false) : s.supersede = s := if_neg (by simp [h])

/-! ### The commands -/

theorem exec_modeCommands_running {s : State} {ag : Agent} (ho : s.opens ag Reg.GCTL_MODECMD = true)
    (hruns : s.commandRuns = true) :
    exec (.modeStart ag) s = .next (s.setModeErr 2) ∧ exec (.modeStage ag) s = .next (s.setModeErr 2) ∧
      exec (.modeMeasure ag) s = .next (s.setModeErr 2) ∧ exec (.modeSleep ag) s = .next (s.setModeErr 2) ∧
      exec (.modeSafe ag) s = .next (s.setModeErr 2) ∧ exec (.modeRecover ag) s = .next (s.setModeErr 2) := by
  have hrun : ∀ op < 7, s.modeCommand ag op 0 none = s.setModeErr 2 := fun op hop =>
    State.modeCommand_running ho hop (by decide) hruns none
  exact ⟨congrArg _ (hrun 1 (by decide)), congrArg _ (hrun 2 (by decide)), congrArg _ (hrun 3 (by decide)),
    congrArg _ (hrun 4 (by decide)), congrArg _ (hrun 5 (by decide)), congrArg _ (hrun 6 (by decide))⟩

theorem exec_modeCommands_boot {s : State} {ag : Agent} (ho : s.opens ag Reg.GCTL_MODECMD = true)
    (hruns : s.commandRuns = false) (hmode : s.mode = modeBoot) :
    exec (.modeStart ag) s = .next (s.setModeErr 1) ∧ exec (.modeStage ag) s = .next (s.setModeErr 1) ∧
      exec (.modeMeasure ag) s = .next (s.setModeErr 1) ∧ exec (.modeSleep ag) s = .next (s.setModeErr 1) ∧
      exec (.modeRecover ag) s = .next (s.setModeErr 1) := by
  have hserve : s.answersClients = false := State.not_serving_of_mode hmode (by decide)
  have hno : ∀ op, 1 ≤ op ∧ op ≤ 6 → s.commandAllowed op = false → s.modeCommand ag op 0 none = s.setModeErr 1 :=
    fun op hop h => State.modeCommand_refused ho hop hruns h
  refine ⟨congrArg _ (hno 1 (by decide) ?_), congrArg _ (hno 2 (by decide) ?_), congrArg _ (hno 3 (by decide) ?_),
    congrArg _ (hno 4 (by decide) ?_), congrArg _ (hno 6 (by decide) ?_)⟩ <;> simp [State.commandAllowed, hmode, hserve]

theorem exec_modeStart_staged {s : State} {ag : Agent} (ho : s.opens ag Reg.GCTL_MODECMD = true)
    (hruns : s.commandRuns = false) (hmode : s.mode = modeStaged) :
    ∃ t, exec (.modeStart ag) s = .next t ∧ t.fld Reg.GCTL_MODESTAT 0 8 = 0 ∧
      (s.role ≠ roleStandby → t.answersClients = true) ∧ (s.role = roleStandby → t.mode = modeStandby) :=
  ⟨(s.setModeErr 0).enterServing modeAcquire, congrArg _ (State.modeCommand_allowed ho (by decide) hruns (by
      simp [State.commandAllowed, hmode])), State.err_of_moved (State.moved_enterServing _ _),
    fun hrole => State.serves_enterServing (by decide) ((s.role_setModeErr 0).trans_ne hrole),
    fun hrole => State.standby_enterServing (by decide) ((s.role_setModeErr 0).trans hrole)⟩

theorem exec_modeStart_refused {s : State} {ag : Agent} (ho : s.opens ag Reg.GCTL_MODECMD = true)
    (hruns : s.commandRuns = false) (hmode : s.mode ≠ modeStaged) :
    exec (.modeStart ag) s = .next (s.setModeErr 1) ∧ exec (.modeMeasure ag) s = .next (s.setModeErr 1) :=
  ⟨congrArg _ (State.modeCommand_refused ho (op := 1) (by decide) hruns (by simp [State.commandAllowed, hmode])),
    congrArg _ (State.modeCommand_refused ho (op := 3) (by decide) hruns (by simp [State.commandAllowed, hmode]))⟩

/-- A command that enters a mode in which no client is answered. -/
theorem State.entered {s : State} {m : Nat} (hm : m < 4 ∨ 7 < m) (hlt : m < 16) :
    ((s.setModeErr 0).enterMode m).fld Reg.GCTL_MODESTAT 0 8 = 0 ∧ ((s.setModeErr 0).enterMode m).mode = m :=
  ⟨State.err_of_moved (State.moved_enterMode .refl m), State.mode_enterMode_of_not_serving _ hlt hm⟩

theorem exec_modeStage_allowed {s : State} {ag : Agent} (ho : s.opens ag Reg.GCTL_MODECMD = true)
    (hruns : s.commandRuns = false) (hmode : s.mode = modeMeasure ∨ s.answersClients = true) :
    ∃ t, exec (.modeStage ag) s = .next t ∧ t.fld Reg.GCTL_MODESTAT 0 8 = 0 ∧ t.mode = modeStaged :=
  ⟨(s.setModeErr 0).enterMode modeStaged, congrArg Host.Outcome.next
      (State.modeCommand_allowed ho (op := 2) (by decide) hruns (by simpa [State.commandAllowed] using hmode)),
    State.entered (by decide) (by decide)⟩

theorem exec_modeMeasure_staged {s : State} {ag : Agent} (ho : s.opens ag Reg.GCTL_MODECMD = true)
    (hruns : s.commandRuns = false) (hmode : s.mode = modeStaged) :
    ∃ t, exec (.modeMeasure ag) s = .next t ∧ t.fld Reg.GCTL_MODESTAT 0 8 = 0 ∧ t.mode = modeMeasure :=
  ⟨(s.setModeErr 0).enterMode modeMeasure, congrArg Host.Outcome.next
      (State.modeCommand_allowed ho (op := 3) (by decide) hruns (by simpa [State.commandAllowed] using hmode)),
    State.entered (by decide) (by decide)⟩

/-- The device that goes to sleep. -/
def State.sleeping (s : State) : State :=
  let t := (s.setModeErr 0).setFlag Reg.GCTL_MODESTAT 31 true
  { t with gctl := { t.gctl with slept := some (s.mode, 0) } }

theorem exec_modeSleep_allowed {s : State} {ag : Agent} (ho : s.opens ag Reg.GCTL_MODECMD = true)
    (hruns : s.commandRuns = false) (hmode : s.mode = modeStaged ∨ s.answersClients = true) :
    ∃ t, exec (.modeSleep ag) s = .next t ∧ t.fld Reg.GCTL_MODESTAT 0 8 = 0 ∧ t.mode = s.mode ∧ t.commandRuns = true ∧
      t.gctl.slept = some (s.mode, 0) ∧ s.keepsRegs t [Reg.GCTL_MODESTAT] := by
  have hkeep : s.keepsRegs s.sleeping [Reg.GCTL_MODESTAT] :=
    .of_regs (.setFlag (o := Reg.GCTL_MODESTAT) (s.keepsRegs_setModeErr 0))
  exact ⟨s.sleeping, congrArg Host.Outcome.next (State.modeCommand_allowed ho (op := 4) (by decide) hruns (by simpa [State.commandAllowed] using hmode)),
    (State.fld_setFlag_other _ _ _ _ _ _ _ (by decide)).trans s.err_setModeErr,
    congrArg (bitsAt · 0 4) (hkeep Reg.GCTL_STATUS (by decide)), State.flag_setFlag _ _ _ _ (by decide), rfl, hkeep⟩

/-- The device with the host's cause noted. -/
def State.hostCause (s : State) : State := (s.setModeErr 0).setFlag Reg.GCTL_CAUSE causeHost true

theorem State.err_hostCause (s : State) : s.hostCause.fld Reg.GCTL_MODESTAT 0 8 = 0 :=
  (State.fld_setFlag_other _ _ _ _ _ _ _ (by decide)).trans s.err_setModeErr

theorem State.flag_hostCause (s : State) : s.hostCause.flag Reg.GCTL_CAUSE causeHost = true :=
  State.flag_setFlag _ _ _ _ (by decide)

theorem exec_modeSafe_of_allowed {s : State} {ag : Agent} (ho : s.opens ag Reg.GCTL_MODECMD = true)
    (hruns : s.commandRuns = false) (hon : modeBoot ≤ s.mode) (hrom : s.gctl.rom = false) :
    exec (.modeSafe ag) s = .next ((s.setModeErr 0).safeCause causeHost) :=
  congrArg _ (State.modeCommand_allowed ho (op := 5) (by decide) hruns (by simp [State.commandAllowed, hrom, hon]))

theorem exec_modeSafe_caused {s : State} {ag : Agent} (ho : s.opens ag Reg.GCTL_MODECMD = true)
    (hruns : s.commandRuns = false) (hon : modeBoot ≤ s.mode) (hrom : s.gctl.rom = false) :
    ∃ t, exec (.modeSafe ag) s = .next t ∧ t.fld Reg.GCTL_MODESTAT 0 8 = 0 ∧ t.flag Reg.GCTL_CAUSE causeHost = true ∧
      (s.mode ≠ modeBoot → s.mode ≠ modeDormant → t.mode = modeSafe) ∧
      (s.mode = modeBoot → t.mode = modeBoot ∧ t.gctl.causes = s.gctl.causes ++ [causeHost]) := by
  have hmode := s.mode_setModeErr 0
  refine ⟨_, exec_modeSafe_of_allowed ho hruns hon hrom, ?_⟩
  by_cases hwait : s.mode = modeBoot ∨ s.mode = modeDormant
  · rw [State.safeCause_of_waiting (by rwa [hmode])]
    refine ⟨s.err_hostCause, s.flag_hostCause, fun hb hd => absurd hwait (not_or.mpr ⟨hb, hd⟩), fun hb => ⟨?_, rfl⟩⟩
    exact (State.fld_setFlag_other _ _ _ _ _ _ _ (by decide)).trans (hmode.trans hb)
  · obtain ⟨hboot, hdorm⟩ := not_or.mp hwait
    have hidle : s.hostCause.commandRuns = false := (State.flag_setFlag_other _ _ _ _ _ _ (by decide)).trans
      ((s.commandRuns_setModeErr 0).trans hruns)
    rw [State.safeCause_of_running (by rwa [hmode]) (by rwa [hmode]) (by rwa [hmode]), ← State.hostCause,
      State.supersede_of_idle hidle]
    have hmoved : s.hostCause.Moved roleRegs (s.hostCause.enterMode modeSafe) := State.moved_enterMode .refl _
    exact ⟨(hmoved.fld (by decide) (by decide) _ _).trans s.err_hostCause,
      (hmoved.flag (by decide) (by decide) _).trans s.flag_hostCause,
      fun _ _ => State.mode_enterMode_of_not_serving _ (by decide) (by decide), fun h => absurd h hboot⟩

theorem exec_modeRecover_safe {s : State} {ag : Agent} (ho : s.opens ag Reg.GCTL_MODECMD = true)
    (hruns : s.commandRuns = false) (hmode : s.mode = modeSafe) :
    ∃ t, exec (.modeRecover ag) s = .next t ∧ (s.present = 0 → t.fld Reg.GCTL_MODESTAT 0 8 = 0 ∧ t.mode = modeStaged) ∧
      (s.present ≠ 0 → t = s.setModeErr 3) := by
  refine ⟨if s.present = 0 then (s.setModeErr 0).enterMode modeStaged else s.setModeErr 3, congrArg _
    (State.modeCommand_allowed ho (op := 6) (by decide) hruns (by simpa [State.commandAllowed] using hmode)),
    fun h => ?_, fun h => if_neg h⟩
  rw [if_pos h]
  exact State.entered (by decide) (by decide)

theorem State.present_ne_zero {s : State} (h : s.flag Reg.CPM_STATUS 30 = false ∨ s.pllReady pllT = false ∨
    s.gctl.rom = true ∨ (s.fld Reg.CPM_THERM 8 8 : Int) * 256 < s.junction) : s.present ≠ 0 := by
  rcases h with h | h | h | h <;> simp [State.present, h, ofBool]

/-! ### Loading firmware (R447) -/

theorem State.modeCommand_loadfw {s : State} {ag : Agent} {len : BitVec 24} (ho : s.opens ag Reg.GCTL_MODECMD = true)
    (hruns : s.commandRuns = false) (hmode : s.mode = modeSafe) (hrom : s.gctl.rom = true) (hlen : len.toNat ≤ 4194304)
    (image : Option Firmware) : exec (.modeLoadfw ag len image) s = .next (s.runCommand 7 image) :=
  congrArg _ ((State.modeCommand_idle ho (by decide) len.isLt (fun _ => hlen) hruns image).trans
    (if_neg (by simp [State.commandAllowed, hmode, hrom])))

theorem exec_modeLoadfw_long {s : State} {ag : Agent} {len : BitVec 24} {f : Option Firmware}
    (ho : s.opens ag Reg.GCTL_MODECMD = true) (hlen : 4194304 < len.toNat) : exec (.modeLoadfw ag len f) s = .next s := by
  refine congrArg Host.Outcome.next ((State.modeCommand_of_opens ho 7 len.toNat f).trans (if_pos (.inr ⟨?_, ?_⟩)))
  · exact op_modeWord (by decide) len.isLt
  · rw [len_modeWord (by decide) len.isLt]
    exact hlen

theorem State.runCommand_loadfw_refused {s : State} {image : Option Firmware}
    (h : (if s.pdUp PD_BNE then s.versionOk image else none) = none) : s.runCommand 7 image = s.setModeErr 6 := by
  simp only [State.runCommand, h]

theorem State.runCommand_loadfw {s : State} {f : Firmware} {image : Option Firmware}
    (h : (if s.pdUp PD_BNE then s.versionOk image else none) = some f) :
    s.runCommand 7 image = (s.setModeErr 0).loadFirmware 2 f := by
  simp only [State.runCommand, h]

end Sys2Proof.Machine
end

section
/-!
Firmware loaded from the table pool (R447), flash commands (R456) and operator fuses (R457).
-/
namespace Sys2Proof.Machine

/-! ### Firmware loaded -/

theorem State.rd_foldl_placeImage (is : List (Fin 8 × Nat × List Byte)) (s : State) (o : Nat) :
    (is.foldl State.placeImage s).rd o = s.rd o := by
  induction is generalizing s with
  | nil => rfl
  | cons i is ih => exact ih (s.placeImage i)

theorem State.rd_foldl_setCore (f : Nat → CoreState) (ks : List Nat) (s : State) (o : Nat) :
    (ks.foldl (fun u k => u.setCore k (f k)) s).rd o = s.rd o := by
  induction ks generalizing s with
  | nil => rfl
  | cons k ks ih => exact ih (s.setCore k (f k))

/-- The registers of the loaded firmware. -/
def State.firmwareShown (s : State) (slot : Nat) (f : Firmware) : State :=
  ((s.setFld Reg.GCTL_BOOT 6 2 slot).setFld Reg.GCTL_FWINFO 16 16 f.version.toNat).setFld Reg.REL_WDG_STAT 16 8 0

/-- The firmware in its cores, the ROM left. -/
def State.firmwarePlaced (s : State) (slot : Nat) (f : Firmware) : State :=
  let t := f.images.foldl State.placeImage (s.firmwareShown slot f)
  let t := (List.range 8).foldl (fun u k => u.setCore k (CoreState.released (f.entries.getD k 0).toNat k)) t
  { t with gctl := { t.gctl with rom := false } }

theorem State.loadFirmware_eq (s : State) (slot : Nat) (f : Firmware) :
    s.loadFirmware slot f = (s.firmwarePlaced slot f).restoreSelector.setBootStage 4 := rfl

theorem State.rd_firmwarePlaced (s : State) (slot : Nat) (f : Firmware) (o : Nat) :
    (s.firmwarePlaced slot f).rd o = (s.firmwareShown slot f).rd o :=
  (State.rd_foldl_setCore _ _ _ o).trans (State.rd_foldl_placeImage _ _ o)

/-- A register of the selector. -/
def selRegs : List Nat := Reg.SEL_STATUS :: (List.range 10).map fun i => Reg.SEL_MOD 0 + 4 * i

theorem State.keepsRegs_restoreSelector (s : State) : s.keepsRegs s.restoreSelector selRegs := by
  unfold State.restoreSelector
  split
  · exact State.keepsRegs.wrWords _ _ (.setFlag (o := Reg.SEL_STATUS) (.setFlag (o := Reg.SEL_STATUS) (.of_regs .refl)))
      fun i hi => List.mem_cons_of_mem _ (List.mem_map.mpr ⟨i, List.mem_range.mpr hi, rfl⟩)
  · exact .refl

theorem State.gctl_showModel (s : State) : s.showModel.gctl = s.gctl := by
  unfold State.showModel
  extract_lets m y w tm t0
  obtain ⟨r, hr⟩ := State.wrWords_eq_regs s (Reg.SEL_MOD 0)
    [BitVec.ofNat 32 y, BitVec.ofNat 32 (y / 2 ^ 32), w m.a, w m.r, w m.c1, w m.c2, w m.cd,
     BitVec.ofNat 32 (t0 * 2 ^ 16 + m.fitted), BitVec.ofNat 32 tm, BitVec.ofNat 32 (tm / 2 ^ 32 % 2 ^ 16)]
  rw [hr]

theorem State.gctl_restoreSelector (s : State) : s.restoreSelector.gctl = s.gctl := by
  unfold State.restoreSelector
  split
  · exact State.gctl_showModel _
  · rfl

/-- What the registers tell after firmware is loaded. -/
theorem State.rd_loadFirmware (s : State) (slot : Nat) (f : Firmware) {o : Nat} (ho : o ∉ selRegs) (hne : o ≠ Reg.GCTL_BOOT) :
    (s.loadFirmware slot f).rd o = (s.firmwareShown slot f).rd o := by
  rw [State.loadFirmware_eq, State.setBootStage, State.setFld, State.rd_wr_ne _ _ _ _ hne,
    State.keepsRegs_restoreSelector _ _ ho, State.rd_firmwarePlaced]

theorem State.boot_loadFirmware (s : State) (slot : Nat) (f : Firmware) :
    (s.loadFirmware slot f).bootStage = 4 ∧
      (s.loadFirmware slot f).fld Reg.GCTL_BOOT 6 2 = slot % 4 := by
  refine ⟨State.fld_setFld _ _ _ _ _ (by decide), ?_⟩
  rw [State.loadFirmware_eq, State.setBootStage, State.fld_setFld_other _ _ _ _ _ _ _ _ (by decide) (by decide), State.fld,
    State.keepsRegs_restoreSelector _ _ (by decide), State.rd_firmwarePlaced, ← State.fld, State.firmwareShown,
    State.fld_setFld_other _ _ _ _ _ _ _ _ (by decide) (by decide),
    State.fld_setFld_other _ _ _ _ _ _ _ _ (by decide) (by decide), State.fld_setFld _ _ _ _ _ (by decide)]
  rfl

theorem State.version_loadFirmware (s : State) (slot : Nat) (f : Firmware) :
    (s.loadFirmware slot f).fld Reg.GCTL_FWINFO 16 16 = f.version.toNat := by
  rw [State.fld, s.rd_loadFirmware slot f (by decide) (by decide), ← State.fld, State.firmwareShown,
    State.fld_setFld_other _ _ _ _ _ _ _ _ (by decide) (by decide), State.fld_setFld _ _ _ _ _ (by decide)]
  exact Nat.mod_eq_of_lt f.version.isLt

theorem State.rom_loadFirmware (s : State) (slot : Nat) (f : Firmware) : (s.loadFirmware slot f).gctl.rom = false :=
  congrArg GctlState.rom (s.firmwarePlaced slot f).gctl_restoreSelector

theorem exec_modeLoadfw_safe {s : State} {ag : Agent} {len : BitVec 24} {f : Firmware} (ho : s.opens ag Reg.GCTL_MODECMD = true)
    (hruns : s.commandRuns = false) (hmode : s.mode = modeSafe) (hrom : s.gctl.rom = true) (hlen : len.toNat ≤ 4194304) :
    exec (.modeLoadfw ag len none) s = .next (s.setModeErr 6) ∧
      (f.version.toNat < s.fuse.firmwareMin → exec (.modeLoadfw ag len (some f)) s = .next (s.setModeErr 6)) ∧
      (s.pdUp PD_BNE = false → exec (.modeLoadfw ag len (some f)) s = .next (s.setModeErr 6)) ∧
      (s.pdUp PD_BNE = true → s.fuse.firmwareMin ≤ f.version.toNat → ∃ t, exec (.modeLoadfw ag len (some f)) s = .next t ∧
        t.fld Reg.GCTL_MODESTAT 0 8 = 0 ∧ t.gctl.rom = false ∧
        t.bootStage = 4 ∧ t.fld Reg.GCTL_BOOT 6 2 = 2 ∧ t.fld Reg.GCTL_FWINFO 16 16 = f.version.toNat) := by
  have hexec := fun image => State.modeCommand_loadfw (image := image) ho hruns hmode hrom hlen
  refine ⟨?_, fun hold => ?_, fun hoff => ?_, fun hup hver => ?_⟩
  · rw [hexec, State.runCommand_loadfw_refused]
    split <;> rfl
  · rw [hexec, State.runCommand_loadfw_refused]
    split
    · exact Option.filter_eq_none_iff.mpr fun g hg => by
        obtain rfl := Option.some.inj hg
        simpa using hold
    · rfl
  · rw [hexec, State.runCommand_loadfw_refused]
    rw [hoff]
    rfl
  · refine ⟨(s.setModeErr 0).loadFirmware 2 f, ?_, ?_, State.rom_loadFirmware _ _ _, (State.boot_loadFirmware _ _ _).1,
      (State.boot_loadFirmware _ _ _).2, State.version_loadFirmware _ _ _⟩
    · rw [hexec, State.runCommand_loadfw (f := f)]
      rw [hup, if_pos rfl, State.versionOk]
      simp [hver]
    · rw [State.fld, State.rd_loadFirmware _ _ _ (by decide) (by decide), ← State.fld, State.firmwareShown,
        State.fld_setFld_other _ _ _ _ _ _ _ _ (by decide) (by decide),
        State.fld_setFld_other _ _ _ _ _ _ _ _ (by decide) (by decide),
        State.fld_setFld_other _ _ _ _ _ _ _ _ (by decide) (by decide)]
      exact s.err_setModeErr

/-! ### Flash commands refused or started -/

theorem toNat_flashWord {op len : Nat} (hop : op < 8) (hlen : len < 2 ^ 13) :
    (flashWord op len).toNat = 2 ^ 31 + op * 2 ^ 28 + len := by
  rw [flashWord, BitVec.toNat_ofNat]
  omega

theorem fields_flashWord {op len : Nat} (hop : op < 8) (hlen : len < 2 ^ 13) :
    bitAt (flashWord op len) 31 = true ∧ bitsAt (flashWord op len) 28 3 = op ∧ bitsAt (flashWord op len) 0 13 = len := by
  refine ⟨?_, ?_, ?_⟩
  · rw [bitAt_eq_bitsAt, bitsAt, toNat_flashWord hop hlen]
    exact decide_eq_true (by omega)
  · rw [bitsAt, toNat_flashWord hop hlen]
    omega
  · rw [bitsAt, toNat_flashWord hop hlen]
    omega

/-- A flash command judged: its error shown, and started where it has none. -/
def State.flashStart (s : State) (op n : Nat) : State :=
  let a := (s.rd Reg.GCTL_FLASH_ADDR).toNat
  let t := (s.setFlag Reg.GCTL_FLASH_STAT 30 false).setFld Reg.GCTL_FLASH_STAT 0 8 (s.flashRefusal op a n)
  if s.flashRefusal op a n = 0 then
    State.setFlag { t with gctl := { t.gctl with command := some (op, a, n) } } Reg.GCTL_FLASH_STAT 31 true
  else t

theorem State.writeFlash_flashWord (s : State) {op len : Nat} (hop : 1 ≤ op ∧ op ≤ 3) (hlen : len < 2 ^ 13)
    (hlegal : op ≠ 3 → 1 ≤ len ∧ len ≤ 4096) :
    s.writeFlash (flashWord op len) = s.flashStart op (if op = 3 then 0x10000 else len) := by
  obtain ⟨hgo, hopw, hlenw⟩ := fields_flashWord (op := op) (len := len) (by omega) hlen
  rw [State.writeFlash, hgo, hopw, hlenw]
  refine if_neg ?_
  rintro (h | h | h | ⟨h3, h⟩)
  · exact absurd h (by decide)
  · omega
  · omega
  · have := hlegal h3
    omega

theorem State.flashRefusal_lt (s : State) (op a n : Nat) : s.flashRefusal op a n < 2 ^ 8 := by
  unfold State.flashRefusal
  split
  · decide
  · split
    · decide
    · split
      · decide
      · split <;> decide

theorem State.flashStart_judged (s : State) (op n : Nat) :
    (s.flashStart op n).flag Reg.GCTL_FLASH_STAT 30 = false ∧
      (s.flashStart op n).fld Reg.GCTL_FLASH_STAT 0 8 = s.flashRefusal op (s.rd Reg.GCTL_FLASH_ADDR).toNat n ∧
      s.keepsRegs (s.flashStart op n) [Reg.GCTL_FLASH_STAT] ∧ (s.flashStart op n).gctl.flash = s.gctl.flash ∧
      (s.flashRefusal op (s.rd Reg.GCTL_FLASH_ADDR).toNat n = 0 →
        (s.flashStart op n).gctl.command = some (op, (s.rd Reg.GCTL_FLASH_ADDR).toNat, n) ∧
          (s.flashStart op n).flag Reg.GCTL_FLASH_STAT 31 = true) ∧
      (s.flashRefusal op (s.rd Reg.GCTL_FLASH_ADDR).toNat n ≠ 0 → (s.flashStart op n).gctl.command = s.gctl.command) := by
  have hlt := s.flashRefusal_lt op (s.rd Reg.GCTL_FLASH_ADDR).toNat n
  have hdone : ((s.setFlag Reg.GCTL_FLASH_STAT 30 false).setFld Reg.GCTL_FLASH_STAT 0 8
      (s.flashRefusal op (s.rd Reg.GCTL_FLASH_ADDR).toNat n)).flag Reg.GCTL_FLASH_STAT 30 = false :=
    (State.flag_setFld_other _ _ _ _ _ _ _ (by decide) (by decide)).trans (State.flag_setFlag _ _ _ _ (by decide))
  have herr : ((s.setFlag Reg.GCTL_FLASH_STAT 30 false).setFld Reg.GCTL_FLASH_STAT 0 8
      (s.flashRefusal op (s.rd Reg.GCTL_FLASH_ADDR).toNat n)).fld Reg.GCTL_FLASH_STAT 0 8 =
      s.flashRefusal op (s.rd Reg.GCTL_FLASH_ADDR).toNat n :=
    (State.fld_setFld _ _ 0 8 _ (by decide)).trans (Nat.mod_eq_of_lt hlt)
  have hkeep : s.keepsRegs ((s.setFlag Reg.GCTL_FLASH_STAT 30 false).setFld Reg.GCTL_FLASH_STAT 0 8
      (s.flashRefusal op (s.rd Reg.GCTL_FLASH_ADDR).toNat n)) [Reg.GCTL_FLASH_STAT] :=
    .setFld (o := Reg.GCTL_FLASH_STAT) (.setFlag (o := Reg.GCTL_FLASH_STAT) .refl)
  unfold State.flashStart
  dsimp only
  split
  · next h0 =>
    exact ⟨(State.flag_setFlag_other _ _ _ _ _ _ (by decide)).trans hdone,
      (State.fld_setFlag_other _ _ _ _ _ _ _ (by decide)).trans herr,
      .setFlag (o := Reg.GCTL_FLASH_STAT) (.of_regs hkeep), rfl, fun _ => ⟨rfl, State.flag_setFlag _ _ _ _ (by decide)⟩,
      fun hne => absurd h0 hne⟩
  · next hne => exact ⟨hdone, herr, hkeep, rfl, fun h0 => absurd h0 hne, fun _ => rfl⟩

theorem exec_flashRead_of_opens {s : State} {ag : Agent} {len : BitVec 13} (hlo : 1 ≤ len.toNat) (hhi : len.toNat ≤ 4096)
    (ho : s.opens ag Reg.GCTL_FLASH_CTL = true) : exec (.flashRead ag len) s = .next (s.flashStart 1 len.toNat) := by
  change execFlashRead ag len s = _
  rw [execFlashRead, State.writeAccess_opens _ _ _ _ _ ho,
    s.writeFlash_flashWord (by decide) len.isLt fun _ => ⟨hlo, hhi⟩]
  rfl

theorem exec_flashProgram_of_opens {s : State} {ag : Agent} {len : BitVec 13} (hlo : 1 ≤ len.toNat) (hhi : len.toNat ≤ 4096)
    (ho : s.opens ag Reg.GCTL_FLASH_CTL = true) : exec (.flashProgram ag len) s = .next (s.flashStart 2 len.toNat) := by
  change execFlashProgram ag len s = _
  rw [execFlashProgram, State.writeAccess_opens _ _ _ _ _ ho,
    s.writeFlash_flashWord (by decide) len.isLt fun _ => ⟨hlo, hhi⟩]
  rfl

theorem exec_flashErase_of_opens {s : State} {ag : Agent} (ho : s.opens ag Reg.GCTL_FLASH_CTL = true) :
    exec (.flashErase ag) s = .next (s.flashStart 3 65536) := by
  change execFlashErase ag s = _
  rw [execFlashErase, State.writeAccess_opens _ _ _ _ _ ho,
    s.writeFlash_flashWord (by decide) (by decide) fun h => absurd rfl h]
  rfl

/-- The order of the refusals (R456). -/
theorem State.flashRefusal_order (s : State) (op a n : Nat) : (s.mode = modeBoot → s.flashRefusal op a n = 1) ∧
    (s.mode ≠ modeBoot → (flashSize < a + n ∨ (op = 3 ∧ a % 65536 ≠ 0)) → s.flashRefusal op a n = 2) ∧
    (s.mode ≠ modeBoot → a + n ≤ flashSize → (op ≠ 3 ∨ a % 65536 = 0) → op ≠ 1 → s.slotTaken a n = true →
      s.flashRefusal op a n = 3) ∧
    (s.mode ≠ modeBoot → a + n ≤ flashSize → (op ≠ 3 ∨ a % 65536 = 0) → (op = 1 ∨ s.slotTaken a n = false) →
      s.flashRefusal op a n = if s.flag Reg.GCTL_FLASH_STAT 31 then 4 else 0) := by
  have hinside : a + n ≤ flashSize → (op ≠ 3 ∨ a % 65536 = 0) → ¬ (flashSize < a + n ∨ (op = 3 ∧ a % 65536 ≠ 0)) := by
    omega
  refine ⟨fun h => if_pos h, fun h hout => (if_neg h).trans (if_pos hout),
    fun h hin hal hop htaken => (if_neg h).trans ((if_neg (hinside hin hal)).trans (if_pos ⟨hop, htaken⟩)),
    fun h hin hal hfree => (if_neg h).trans ((if_neg (hinside hin hal)).trans (if_neg ?_))⟩
  rintro ⟨hop, htaken⟩
  exact hfree.elim hop fun hf => by rw [hf] at htaken; exact absurd htaken (by decide)

end Sys2Proof.Machine
end

section
/-!
The end of a flash command (R456), and operator fuses (R457).
-/
namespace Sys2Proof.Machine

/-! ### The flash buffer -/

theorem leBytes_ofLeBytes_four {bs : List Byte} (h : bs.length = 4) : leBytes 4 (BitVec.ofNat 32 (ofLeBytes bs)).toNat = bs := by
  obtain ⟨a, b, c, d, rfl⟩ := List.length_eq_four.mp h
  exact leBytes_wordOfBytes a b c d

/-- The words of a list, four bytes each, give its bytes. -/
theorem flatMap_quarters (k : Nat) (bs : List Byte) :
    ((List.range k).flatMap fun i => (bs.drop (4 * i)).take 4) = bs.take (4 * k) := by
  induction k with
  | zero => simp
  | succ k ih =>
    rw [List.range_succ, List.flatMap_append, ih, List.flatMap_singleton, Nat.mul_succ, List.take_add]

/-- The bytes put into the buffer: those given, and the old ones of the last word. -/
def State.paddedBuffer (s : State) (bs : List Byte) : List Byte :=
  let k := (bs.length + 3) / 4
  bs ++ ((List.range k).flatMap fun i => leBytes 4 (s.rd (Reg.GCTL_FLASH_BUF i)).toNat).drop bs.length

theorem State.length_paddedBuffer (s : State) (bs : List Byte) :
    (s.paddedBuffer bs).length = 4 * ((bs.length + 3) / 4) := by
  rw [State.paddedBuffer, List.length_append, List.length_drop, length_flatMap_leBytes]
  omega

theorem State.rd_setFlashBuffer (s : State) (bs : List Byte) {i : Nat} (hi : i < (bs.length + 3) / 4) :
    (s.setFlashBuffer bs).rd (Reg.GCTL_FLASH_BUF i) =
      BitVec.ofNat 32 (ofLeBytes (((s.paddedBuffer bs).drop (4 * i)).take 4)) := by
  have hlt : i < ((List.range ((bs.length + 3) / 4)).map fun i =>
      (BitVec.ofNat 32 (ofLeBytes (((s.paddedBuffer bs).drop (4 * i)).take 4)) : Word)).length := by simpa using hi
  have hread := State.rd_wrWords _ s (Reg.GCTL_FLASH_BUF 0) i hlt
  rw [show Reg.GCTL_FLASH_BUF i = Reg.GCTL_FLASH_BUF 0 + 4 * i by simp only [Reg.GCTL_FLASH_BUF]]
  refine hread.trans ?_
  simp

/-- What is put into the buffer is read from it. -/
theorem State.flashBuffer_setFlashBuffer (s : State) (bs : List Byte) : (s.setFlashBuffer bs).flashBuffer bs.length = bs := by
  have hwords : ((List.range ((bs.length + 3) / 4)).flatMap fun i =>
      leBytes 4 ((s.setFlashBuffer bs).rd (Reg.GCTL_FLASH_BUF i)).toNat) = s.paddedBuffer bs := by
    have hword : ∀ i ∈ List.range ((bs.length + 3) / 4),
        leBytes 4 ((s.setFlashBuffer bs).rd (Reg.GCTL_FLASH_BUF i)).toNat = ((s.paddedBuffer bs).drop (4 * i)).take 4 := by
      intro i hi
      have hlt := List.mem_range.mp hi
      rw [s.rd_setFlashBuffer bs hlt]
      refine leBytes_ofLeBytes_four ?_
      rw [List.length_take, List.length_drop, s.length_paddedBuffer]
      omega
    rw [List.flatMap_congr hword, flatMap_quarters, List.take_of_length_le]
    exact (s.length_paddedBuffer bs).le
  rw [State.flashBuffer, hwords, State.paddedBuffer, List.take_left]

theorem State.length_flashBytes (s : State) (a n : Nat) : (s.flashBytes a n).length = n := by simp [State.flashBytes]

theorem State.length_flashBuffer (s : State) (n : Nat) : (s.flashBuffer n).length = n := by
  rw [State.flashBuffer, List.length_take, length_flatMap_leBytes]
  omega

/-- The buffer is not the status register. -/
theorem State.flashBuffer_wrStat (s : State) (v : Word) (n : Nat) :
    (s.wr Reg.GCTL_FLASH_STAT v).flashBuffer n = s.flashBuffer n := by
  have hne : ∀ i, Reg.GCTL_FLASH_BUF i ≠ Reg.GCTL_FLASH_STAT := fun i => by
    simp only [Reg.GCTL_FLASH_BUF, Reg.GCTL_FLASH_STAT]
    omega
  simp only [State.flashBuffer, State.rd_wr_ne _ _ _ _ (hne _)]

theorem State.gctl_setFlashBuffer (s : State) (bs : List Byte) : (s.setFlashBuffer bs).gctl = s.gctl := by
  obtain ⟨m, hm⟩ := State.wrWords_eq_regs s (Reg.GCTL_FLASH_BUF 0) ((List.range ((bs.length + 3) / 4)).map fun i =>
    (BitVec.ofNat 32 (ofLeBytes (((s.paddedBuffer bs).drop (4 * i)).take 4)) : Word))
  exact (congrArg State.gctl hm :)

/-! ### The end of a command -/

theorem exec_flashDone_of_command {s : State} {op a n : Nat} (h : s.gctl.command = some (op, a, n)) :
    exec .flashDone s = .next ((s.flashCarry op a n).flashEnd 0) := by
  change execFlashDone s = _
  rw [execFlashDone, h]

theorem State.stat_flashEnd (s : State) (e : Nat) :
    (s.flashEnd e).rd Reg.GCTL_FLASH_STAT = BitVec.ofNat 32 (2 ^ 30 + e) := State.rd_wr_same _ _ _

theorem exec_flashDone_read {s : State} {a n : Nat} (h : s.gctl.command = some (1, a, n)) :
    ∃ t, exec .flashDone s = .next t ∧ t.flashBuffer n = s.flashBytes a n ∧ t.rd Reg.GCTL_FLASH_STAT = 0x40000000 ∧
      t.gctl.command = none ∧ t.gctl.flash = s.gctl.flash := by
  refine ⟨((s.setFlashBuffer (s.flashBytes a n)).flashEnd 0), exec_flashDone_of_command h, ?_,
    State.stat_flashEnd _ _, rfl, (congrArg GctlState.flash (s.gctl_setFlashBuffer _) :)⟩
  have hbuffer := s.flashBuffer_setFlashBuffer (s.flashBytes a n)
  rw [s.length_flashBytes] at hbuffer
  exact (State.flashBuffer_wrStat _ _ n).trans hbuffer

theorem State.flashByte_setFlashByte (s : State) (a x : Nat) (b : Byte) :
    (s.setFlashByte a b).flashByte x = if x = a then b else s.flashByte x := sparseGet_set ..

/-- An erased byte takes the value programmed. -/
theorem State.programByte_of_erased {s : State} {a : Nat} (h : s.flashByte a = 0xFF#8) (b : Byte) :
    s.programByte a b = s.setFlashByte a b := if_pos h

/-- Erased bytes take the values programmed, and no other byte changes. -/
theorem State.flashByte_programBytes (bs : List Byte) : ∀ (s : State) (a : Nat),
    (∀ i, i < bs.length → s.flashByte (a + i) = 0xFF#8) →
      (∀ i (hi : i < bs.length), (s.programBytes a bs).flashByte (a + i) = bs[i]) ∧
        ∀ x, x < a ∨ a + bs.length ≤ x → (s.programBytes a bs).flashByte x = s.flashByte x := by
  induction bs with
  | nil => exact fun s a _ => ⟨fun i hi => absurd hi (by simp), fun x _ => rfl⟩
  | cons b bs ih =>
    intro s a herased
    have hfirst : s.programByte a b = s.setFlashByte a b :=
      State.programByte_of_erased (herased 0 (by simp)) b
    obtain ⟨hin, hout⟩ := ih (s.setFlashByte a b) (a + 1) fun i hi => by
      rw [State.flashByte_setFlashByte, if_neg (by omega), Nat.add_assoc, Nat.add_comm 1]
      exact herased (i + 1) (by simpa using hi)
    rw [State.programBytes, hfirst]
    refine ⟨fun i hi => ?_, fun x hx => ?_⟩
    · cases i with
      | zero => exact (hout a (.inl (by omega))).trans ((s.flashByte_setFlashByte a a b).trans (if_pos rfl))
      | succ i =>
        have hget := hin i (by simpa using hi)
        rw [Nat.add_assoc, Nat.add_comm 1] at hget
        simpa using hget
    · rw [List.length_cons] at hx
      exact (hout x (by omega)).trans ((s.flashByte_setFlashByte a x b).trans (if_neg (by omega)))

theorem exec_flashDone_program {s : State} {a n : Nat} (h : s.gctl.command = some (2, a, n))
    (herased : ∀ i, i < n → s.flashByte (a + i) = 0xFF) :
    ∃ t, exec .flashDone s = .next t ∧ t.flashBytes a n = s.flashBuffer n ∧ t.rd Reg.GCTL_FLASH_STAT = 0x40000000 ∧
      t.gctl.command = none ∧ (∀ x, x < a ∨ a + n ≤ x → t.flashByte x = s.flashByte x) := by
  have hlen := s.length_flashBuffer n
  obtain ⟨hin, hout⟩ := State.flashByte_programBytes (s.flashBuffer n) s a fun i hi => herased i (hlen ▸ hi)
  refine ⟨((s.programBytes a (s.flashBuffer n)).flashEnd 0), exec_flashDone_of_command h, ?_, State.stat_flashEnd _ _, rfl,
    fun x hx => hout x (by rwa [hlen])⟩
  refine List.ext_getElem (by rw [State.length_flashBytes, hlen]) fun i hi hi' => ?_
  rw [← hin i hi']
  simp only [State.flashBytes, List.getElem_map, List.getElem_range]
  rfl

theorem exec_flashDone_erase {s : State} {a n : Nat} (h : s.gctl.command = some (3, a, n)) :
    ∃ t, exec .flashDone s = .next t ∧ (∀ x, t.flashByte x = if a ≤ x ∧ x < a + n then 0xFF else s.flashByte x) ∧
      t.rd Reg.GCTL_FLASH_STAT = 0x40000000 ∧ t.gctl.command = none ∧ s.keepsRegs t [Reg.GCTL_FLASH_STAT] := by
  refine ⟨_, exec_flashDone_of_command h, fun x => ?_, State.stat_flashEnd _ _, rfl,
    .wr (o := Reg.GCTL_FLASH_STAT) (.of_regs .refl)⟩
  refine (sparseGet_filter flashDefault (fun k => !(decide (a ≤ k) && decide (k < a + n))) s.gctl.flash x).trans ?_
  by_cases hx : a ≤ x ∧ x < a + n
  · simp [hx, flashDefault]
  · rw [if_neg hx, if_pos (by simp only [Bool.not_eq_true', Bool.and_eq_false_iff, decide_eq_false_iff_not]; omega)]
    rfl

theorem exec_flashTimeout_torn {s : State} {op a n : Nat} (h : s.gctl.command = some (op, a, n)) (hop : op ≠ 1) :
    ∃ t, exec .flashTimeout s = .next t ∧ t.rd Reg.GCTL_FLASH_STAT = 0x40000005 ∧ t.gctl.command = none := by
  refine ⟨s.flashTear.flashEnd 5, ?_, State.stat_flashEnd _ _, rfl⟩
  change execFlashTimeout s = _
  rw [execFlashTimeout, h]
  exact congrArg _ (if_neg hop)

/-! ### Operator fuses -/

theorem State.stagedWord_stage (s : State) (off o : Nat) (v : Word) :
    (s.stage off v).stagedWord o = if o = off then v else s.stagedWord o := sparseGet_set ..

theorem State.stagedWord_unstage (n : Nat) : ∀ (s : State) (off o : Nat),
    (∃ i < n, o = off + 4 * i) ∨ s.stagedWord o = 0 → (s.unstage off n).stagedWord o = 0 := by
  induction n with
  | zero => exact fun s off o h => h.elim (fun ⟨i, hi, _⟩ => absurd hi (Nat.not_lt_zero i)) id
  | succ n ih =>
    intro s off o h
    refine ih (s.stage (off + 4 * n) 0) off o ?_
    rw [State.stagedWord_stage]
    by_cases hn : o = off + 4 * n
    · exact .inr (if_pos hn)
    · rw [if_neg hn]
      refine h.imp_left fun ⟨i, hi, he⟩ => ⟨i, ?_, he⟩
      refine Nat.lt_of_le_of_ne (Nat.lt_succ_iff.mp hi) fun hin => hn ?_
      rw [he, hin]

theorem State.unstage_eq_staged (n : Nat) : ∀ (s : State) (off : Nat), ∃ m, s.unstage off n = { s with staged := m } := by
  induction n with
  | zero => exact fun s _ => ⟨s.staged, rfl⟩
  | succ n ih =>
    intro s off
    obtain ⟨m, hm⟩ := ih (s.stage (off + 4 * n) 0) off
    exact ⟨m, hm⟩

/-- The state after a fuse command with error e, its data words still there. -/
def State.fuseJudged (s : State) (target e : Nat) : State :=
  (if e = 0 then State.showFuses { s with fuse := s.fuse.program target (s.stagedBytes (Reg.GCTL_OFUSE_DATA 0) 12) }
    else s).setFld Reg.GCTL_OFUSE_CTL 16 8 e

/-- The error of a fuse command. -/
def State.fuseRefusal (s : State) (target : Nat) (supply : Bool) : Nat :=
  if s.mode ≠ modeStaged ∧ s.mode ≠ modeSafe then 1
  else if s.fuse.programmed target then 2
  else if supply = false then 3
  else 0

theorem exec_ofuseProgram_of_opens {s : State} {ag : Agent} {k : Fin 4} {supply : Bool}
    (ho : s.opens ag Reg.GCTL_OFUSE_CTL = true) (hk : k.val ≠ 0) :
    exec (.ofuseProgram ag k supply) s =
      .next ((s.fuseJudged k.val (s.fuseRefusal k.val supply)).unstage (Reg.GCTL_OFUSE_DATA 0) 12) := by
  have hword : (BitVec.ofNat 32 (2 ^ 31 + k.val * 2 ^ 24)).toNat = 2 ^ 31 + k.val * 2 ^ 24 := by
    rw [BitVec.toNat_ofNat]
    omega
  have hgo : bitAt (BitVec.ofNat 32 (2 ^ 31 + k.val * 2 ^ 24)) 31 = true := by
    rw [bitAt_eq_bitsAt, bitsAt, hword]
    exact decide_eq_true (by omega)
  have htarget : bitsAt (BitVec.ofNat 32 (2 ^ 31 + k.val * 2 ^ 24)) 24 2 = k.val := by
    rw [bitsAt, hword]
    omega
  change execOfuseProgram ag k supply s = _
  rw [execOfuseProgram, State.writeAccess_opens _ _ _ _ _ ho, State.writeFuse, hgo, htarget]
  exact congrArg _ (if_neg (by simp [hk]))

theorem testBit_ofBools : ∀ a b c : Bool, ((ofBool a + 2 * ofBool b + 4 * ofBool c) % 2 ^ 3).testBit 0 = a ∧
    ((ofBool a + 2 * ofBool b + 4 * ofBool c) % 2 ^ 3).testBit 1 = b ∧
    ((ofBool a + 2 * ofBool b + 4 * ofBool c) % 2 ^ 3).testBit 2 = c := by decide

/-- The bits of OFUSE_CTL tell the targets programmed. -/
theorem State.flag_showFuses {s : State} {k : Nat} (hk : 1 ≤ k ∧ k ≤ 3) (h : s.fuse.programmed k = true) :
    s.showFuses.flag Reg.GCTL_OFUSE_CTL (k - 1) = true := by
  have hothers : s.showFuses.flag Reg.GCTL_OFUSE_CTL (k - 1) = (s.setFld Reg.GCTL_OFUSE_CTL 0 3
      (ofBool (s.fuse.programmed 1) + 2 * ofBool (s.fuse.programmed 2) + 4 * ofBool (s.fuse.programmed 3))).flag
        Reg.GCTL_OFUSE_CTL (k - 1) :=
    (State.flag_setFld_other _ _ _ _ _ _ _ (.inl (by decide)) (by omega)).trans
      (State.flag_setFld_other _ _ _ _ _ _ _ (.inl (by decide)) (by omega))
  rw [hothers, State.flag, bitAt]
  have hfld := bitsAt_testBit ((s.setFld Reg.GCTL_OFUSE_CTL 0 3
      (ofBool (s.fuse.programmed 1) + 2 * ofBool (s.fuse.programmed 2) + 4 * ofBool (s.fuse.programmed 3))).rd
        Reg.GCTL_OFUSE_CTL) 0 3 (k - 1)
  rw [← State.fld, State.fld_setFld _ _ _ _ _ (by decide), Nat.zero_add, decide_eq_true (by omega), Bool.true_and] at hfld
  rw [← hfld]
  obtain ⟨hlo, hhi⟩ := hk
  obtain ⟨hone, htwo, hthree⟩ := testBit_ofBools (s.fuse.programmed 1) (s.fuse.programmed 2) (s.fuse.programmed 3)
  interval_cases k
  · exact hone.trans h
  · exact htwo.trans h
  · exact hthree.trans h

theorem FuseState.programmed_program (f : FuseState) (k : Nat) (data : List Byte) :
    (f.program k data).programmed k = true := by
  unfold FuseState.program FuseState.programmed
  by_cases h1 : k = 1
  · simp [h1]
  · by_cases h2 : k = 2
    · simp [h2]
    · simp [h1, h2]

theorem exec_ofuseProgram_judged {s : State} {ag : Agent} {k : Fin 4} {supply : Bool}
    (ho : s.opens ag Reg.GCTL_OFUSE_CTL = true) (hk : k.val ≠ 0) :
    ∃ t, exec (.ofuseProgram ag k supply) s = .next t ∧ (∀ i : Fin 12, t.stagedWord (Reg.GCTL_OFUSE_DATA i.val) = 0) ∧
      (s.mode ≠ modeStaged → s.mode ≠ modeSafe → t.fld Reg.GCTL_OFUSE_CTL 16 8 = 1 ∧ t.fuse = s.fuse) ∧
      ((s.mode = modeStaged ∨ s.mode = modeSafe) → s.fuse.programmed k.val = true →
        t.fld Reg.GCTL_OFUSE_CTL 16 8 = 2 ∧ t.fuse = s.fuse) ∧
      ((s.mode = modeStaged ∨ s.mode = modeSafe) → s.fuse.programmed k.val = false → supply = false →
        t.fld Reg.GCTL_OFUSE_CTL 16 8 = 3 ∧ t.fuse = s.fuse) ∧
      ((s.mode = modeStaged ∨ s.mode = modeSafe) → s.fuse.programmed k.val = false → supply = true →
        t.fld Reg.GCTL_OFUSE_CTL 16 8 = 0 ∧ t.fuse.programmed k.val = true ∧
        t.flag Reg.GCTL_OFUSE_CTL (k.val - 1) = true ∧
        (k.val = 1 → t.fuse.ks = some ((s.stagedBytes (Reg.GCTL_OFUSE_DATA 0) 12).take 32))) := by
  have hmode : (s.mode = modeStaged ∨ s.mode = modeSafe) → ¬ (s.mode ≠ modeStaged ∧ s.mode ≠ modeSafe) := by tauto
  have hfld : ∀ e < 256, (s.fuseJudged k.val e).fld Reg.GCTL_OFUSE_CTL 16 8 = e := fun e he =>
    (State.fld_setFld _ _ 16 8 e (by decide)).trans (Nat.mod_eq_of_lt he)
  have hrefused : ∀ e, e ≠ 0 → e < 256 → (s.fuseJudged k.val e).fld Reg.GCTL_OFUSE_CTL 16 8 = e ∧
      (s.fuseJudged k.val e).fuse = s.fuse := fun e hne he => ⟨hfld e he, by rw [State.fuseJudged, if_neg hne]; rfl⟩
  refine ⟨_, exec_ofuseProgram_of_opens ho hk, fun i => ?_, ?_⟩
  · exact State.stagedWord_unstage 12 _ _ _ (.inl ⟨i.val, i.isLt, by simp only [Reg.GCTL_OFUSE_DATA]⟩)
  obtain ⟨m, hm⟩ := State.unstage_eq_staged 12 (s.fuseJudged k.val (s.fuseRefusal k.val supply)) (Reg.GCTL_OFUSE_DATA 0)
  rw [hm]
  refine ⟨fun h h' => ?_, fun h hp => ?_, fun h hp hs => ?_, fun h hp hs => ?_⟩
  · rw [State.fuseRefusal, if_pos ⟨h, h'⟩]
    exact hrefused 1 (by decide) (by decide)
  · rw [State.fuseRefusal, if_neg (hmode h), if_pos hp]
    exact hrefused 2 (by decide) (by decide)
  · rw [State.fuseRefusal, if_neg (hmode h), if_neg (by simp [hp]), if_pos hs]
    exact hrefused 3 (by decide) (by decide)
  · rw [State.fuseRefusal, if_neg (hmode h), if_neg (by simp [hp]), if_neg (by simp [hs])]
    have hprog := s.fuse.programmed_program k.val (s.stagedBytes (Reg.GCTL_OFUSE_DATA 0) 12)
    refine ⟨hfld 0 (by decide), hprog, ?_, fun h1 => ?_⟩
    · exact (State.flag_setFld_other _ _ _ _ _ _ _ (.inr (.inl (by omega))) (by omega)).trans
        (State.flag_showFuses (by omega) hprog)
    · change (s.fuse.program k.val (s.stagedBytes (Reg.GCTL_OFUSE_DATA 0) 12)).ks = _
      rw [FuseState.program, if_pos h1]

/-- Settles O56: a mode command is judged by its word, its mode and what runs, flash and fuse commands by their refusals in
order; the effects follow the equations of each. -/
theorem modesFlashAndFuses : Obligations.ModesFlashAndFuses := by
  unfold Obligations.ModesFlashAndFuses
  exact ⟨fun s ag => exec_modeCommands_running, fun s ag => exec_modeCommands_boot, fun s ag => exec_modeStart_staged,
    fun s ag => exec_modeStart_refused, fun s ag => exec_modeStage_allowed, fun s ag => exec_modeMeasure_staged,
    fun s ag => exec_modeSleep_allowed, fun s ag => exec_modeSafe_caused, fun s ag => exec_modeRecover_safe,
    fun s => State.present_ne_zero, fun s ag len f => exec_modeLoadfw_safe, fun s ag len f => exec_modeLoadfw_long,
    fun s ag len hlo hhi ho => ⟨_, exec_flashRead_of_opens hlo hhi ho, s.flashStart_judged 1 len.toNat⟩,
    fun s ag len hlo hhi ho => ⟨_, exec_flashProgram_of_opens hlo hhi ho, s.flashStart_judged 2 len.toNat⟩,
    fun s ag ho => ⟨_, exec_flashErase_of_opens ho, s.flashStart_judged 3 65536⟩, State.flashRefusal_order,
    fun s a n h _ => exec_flashDone_read h, fun s a n h herased _ => exec_flashDone_program h herased,
    fun s a n => exec_flashDone_erase, fun s op a n => exec_flashTimeout_torn,
    fun s ag k supply => exec_ofuseProgram_judged⟩

end Sys2Proof.Machine
end

section
/-!
What a domain or a clock that is lost leaves of the clock and power controller (R33, R409, R422, R427). Its blocks write
registers of their own, which lie above those of GCTL and CPM; of the controller they change at most the crossing queues, lock
and loss bits of PLLs, sticky bits and the registers listed. Device time goes on.
-/
namespace Sys2Proof.Machine

/-- The power controller but for its crossing queues and the mark of retained GNSS state. -/
def CpmState.settings (c : CpmState) : CpmState := { c with queues := [], retained := false }

/-- The parts of the state that a lost block leaves. -/
abbrev State.asidePart (s : State) : List (Nat × Word) × CpmState × Nat × List (Nat × Byte) × List Raise :=
  (s.regs, s.cpm.settings, s.cal.count, s.gys.l, s.raised)

/-- t follows from s by the work of blocks: below the registers of CAL only those in but are written; locks are lost and not
gained, losses and sticky bits are set and not cleared. Where q holds, L keeps its bytes and no raise is dropped. -/
structure State.Aside (q : Prop) (but : List Nat) (s t : State) : Prop where
  regs : ∀ o, o < 0x200000 → o ∉ but → t.rd o = s.rd o
  stickies : ∀ i, s.flag Reg.CPM_STICKY i = true → t.flag Reg.CPM_STICKY i = true
  losses : ∀ i, 16 ≤ i → s.flag Reg.CPM_PLL i = true → t.flag Reg.CPM_PLL i = true
  locks : ∀ i, i < 16 → s.flag Reg.CPM_PLL i = false → t.flag Reg.CPM_PLL i = false
  settings : t.cpm.settings = s.cpm.settings
  count : t.cal.count = s.cal.count
  kept : q → t.gys.l = s.gys.l ∧ s.raised ⊆ t.raised

theorem findRow_mem {rs : List RegRow} {o : Nat} {r : RegRow} {i j : Nat} (h : findRow rs o = some (r, i, j)) : r ∈ rs := by
  induction rs with
  | nil => cases h
  | cons x xs ih =>
    rw [findRow] at h
    split at h
    · cases h
      exact List.mem_cons_self
    · exact List.mem_cons_of_mem _ (ih h)

/-- A register below those of CAL lies in PD_AON. -/
theorem regDomain_of_low {o : Nat} {r : RegRow} {i j : Nat} (ho : o < 0x200000) (hr : regRow o = some (r, i, j)) :
    regDomain r o = 0 := by
  have hrows : ∀ b < 2, ∀ x ∈ blockRows b, x.domain = 0 := by decide +kernel
  have hmem := findRow_mem hr
  have hdomain := hrows (o / 2 ^ 20) (by omega) r hmem
  rw [regDomain, hdomain]
  rfl

theorem above_cal {b k : Nat} (hb : 0x200000 ≤ b) : 0x200000 ≤ b + k := Nat.le_add_right_of_le hb

namespace State.Aside

variable {q : Prop} {but : List Nat} {s t u : State}

theorem refl : s.Aside q but s :=
  ⟨fun _ _ _ => rfl, fun _ h => h, fun _ _ h => h, fun _ _ h => h, rfl, rfl, fun _ => ⟨rfl, List.Subset.refl _⟩⟩

theorem trans (h : s.Aside q but t) (h' : t.Aside q but u) : s.Aside q but u :=
  ⟨fun o ho hb => (h'.regs o ho hb).trans (h.regs o ho hb), fun i hi => h'.stickies i (h.stickies i hi),
    fun i hi hf => h'.losses i hi (h.losses i hi hf), fun i hi hf => h'.locks i hi (h.locks i hi hf),
    h'.settings.trans h.settings, h'.count.trans h.count,
    fun hq => ⟨(h'.kept hq).1.trans (h.kept hq).1, List.Subset.trans (h.kept hq).2 (h'.kept hq).2⟩⟩

/-- A state that differs in none of the parts that are left. -/
theorem frame (h : s.Aside q but t) (e : u.asidePart = t.asidePart) : s.Aside q but u := by
  simp only [State.asidePart, Prod.mk.injEq] at e
  obtain ⟨hregs, hset, hcount, hl, hraised⟩ := e
  have hflag : ∀ o i, u.flag o i = t.flag o i := fun o i => by rw [State.flag, State.rd_of_regs _ _ hregs]; rfl
  exact h.trans ⟨fun o _ _ => State.rd_of_regs _ _ hregs o, fun i hi => (hflag _ i).trans hi, fun i _ hf => (hflag _ i).trans hf,
    fun i _ hf => (hflag _ i).trans hf, hset, hcount, fun _ => ⟨hl, hraised ▸ List.Subset.refl _⟩⟩

theorem ite {c : Prop} [Decidable c] (ht : s.Aside q but t) (hu : s.Aside q but u) : s.Aside q but (if c then t else u) := by
  split
  · exact ht
  · exact hu

theorem foldl {α : Type} {f : State → α → State} (h : s.Aside q but t) (hf : ∀ {v}, s.Aside q but v → ∀ a, s.Aside q but (f v a))
    (as : List α) : s.Aside q but (as.foldl f t) := List.foldlRecOn as f h fun _ hv a _ => hf hv a

/-- A register that shows no PLL and no sticky bit, above those of GCTL and CPM or listed. -/
theorem wrAny (h : s.Aside q but t) {o : Nat} (ho : 0x200000 ≤ o ∨ o ∈ but) (hpll : o ≠ Reg.CPM_PLL) (hsticky : o ≠ Reg.CPM_STICKY)
    (v : Word) : s.Aside q but (t.wr o v) := by
  have hother : ∀ j, j ≠ o → ∀ i, (t.wr o v).flag j i = t.flag j i := fun j hj i => by
    rw [State.flag, State.rd_wr_ne _ _ _ _ hj]
    rfl
  refine h.trans ⟨fun j hj hb => State.rd_wr_ne _ _ _ _ ?_, fun i hi => (hother _ hsticky.symm i).trans hi,
    fun i _ hf => (hother _ hpll.symm i).trans hf, fun i _ hf => (hother _ hpll.symm i).trans hf, rfl, rfl,
    fun _ => ⟨rfl, List.Subset.refl _⟩⟩
  rintro rfl
  exact ho.elim (Nat.not_le_of_lt hj) hb

theorem wr (h : s.Aside q but t) {o : Nat} (ho : 0x200000 ≤ o) (v : Word) : s.Aside q but (t.wr o v) :=
  h.wrAny (.inl ho) (fun e => absurd (e ▸ ho) (by decide)) (fun e => absurd (e ▸ ho) (by decide)) v

theorem setFld (h : s.Aside q but t) {o : Nat} (ho : 0x200000 ≤ o) (lo n v : Nat) : s.Aside q but (t.setFld o lo n v) := h.wr ho _

theorem setFlag (h : s.Aside q but t) {o : Nat} (ho : 0x200000 ≤ o) (i : Nat) (b : Bool) : s.Aside q but (t.setFlag o i b) :=
  h.wr ho _

theorem bump (h : s.Aside q but t) {o : Nat} (ho : 0x200000 ≤ o) (lo n k : Nat) : s.Aside q but (t.bump o lo n k) := h.wr ho _

theorem advance (h : s.Aside q but t) {o : Nat} (ho : 0x200000 ≤ o) (lo n k : Nat) : s.Aside q but (t.advance o lo n k) := h.wr ho _

theorem wrWords (h : s.Aside q but t) {o : Nat} (ho : 0x200000 ≤ o) (ws : List Word) : s.Aside q but (t.wrWords o ws) := by
  induction ws generalizing t o with
  | nil => exact h
  | cons w ws ih => exact ih (h.wr ho w) (Nat.le_add_right_of_le ho)

theorem raise (h : s.Aside q but t) (k : Nat) (a b : Word) : s.Aside q but (t.raise k a b) :=
  h.trans { (refl : t.Aside q but t) with kept := fun _ => ⟨rfl, List.subset_append_left _ _⟩ }

theorem logEntry (h : s.Aside q but t) (e : LogEntry) : s.Aside q but (t.logEntry e) :=
  .ite h (.ite (h.frame rfl) ((h.bump (by decide) ..).setFlag (by decide) ..))

theorem log (h : s.Aside q but t) (src : Nat) (a b : Word) (d : Word64) (code : Nat) : s.Aside q but (t.log src a b d code) :=
  h.logEntry _

theorem error (h : s.Aside q but t) {off : Nat} (ho : 0x200000 ≤ off) (bit src : Nat) : s.Aside q but (t.error off bit src) :=
  .ite h ((h.setFlag ho ..).raise ..)

theorem sticky (h : s.Aside q but t) {off : Nat} (ho : 0x200000 ≤ off) (en bit src : Nat) (a b : Word) :
    s.Aside q but (t.sticky off en bit src a b) :=
  .ite h (.ite ((h.setFlag ho ..).raise ..) (h.setFlag ho ..))

theorem setChannel (h : s.Aside q but t) (c : Nat) (v : Channel) : s.Aside q but (t.setChannel c v) :=
  h.frame rfl

theorem withGns (h : s.Aside q but t) (x : GnsState) : s.Aside q but { t with gns := x } := h.frame rfl

theorem notRetained (h : s.Aside q but t) : s.Aside q but { t with cpm := { t.cpm with retained := false } } :=
  h.frame rfl

/-- A sticky bit of the controller. -/
theorem setSticky (h : s.Aside q but t) {i : Nat} (hi : i < 32) (hb : Reg.CPM_STICKY ∈ but) :
    s.Aside q but (t.setFlag Reg.CPM_STICKY i true) := by
  have hpll : ∀ j, (t.setFlag Reg.CPM_STICKY i true).flag Reg.CPM_PLL j = t.flag Reg.CPM_PLL j := fun j =>
    State.flag_setFlag_other _ _ _ _ _ _ (.inl (by decide))
  refine h.trans ⟨fun o _ hm => State.rd_wr_ne _ _ _ _ (by rintro rfl; exact hm hb), fun j hj => ?_,
    fun j _ hf => (hpll j).trans hf, fun j _ hf => (hpll j).trans hf, rfl, rfl, fun _ => ⟨rfl, List.Subset.refl _⟩⟩
  exact State.flag_setFlag_mono hi hj

theorem setClksel (h : s.Aside q but t) (hsel : Reg.CPM_CLKSEL ∈ but) (i : Nat) (b : Bool) :
    s.Aside q but (t.setFlag Reg.CPM_CLKSEL i b) := h.wrAny (.inr hsel) (by decide) (by decide) _

/-- A lock lost. -/
theorem dropLock (h : s.Aside q but t) {i : Nat} (hi : i < 16) (hb : Reg.CPM_PLL ∈ but) :
    s.Aside q but (t.setFlag Reg.CPM_PLL i false) := by
  refine h.trans ⟨fun o _ hm => State.rd_wr_ne _ _ _ _ (by rintro rfl; exact hm hb),
    fun j hj => (State.flag_setFlag_other _ _ _ _ _ _ (.inl (by decide))).trans hj,
    fun j hj hf => (State.flag_setFlag_other _ _ _ _ _ _ (.inr (by omega))).trans hf, fun j _ hf => ?_, rfl, rfl,
    fun _ => ⟨rfl, List.Subset.refl _⟩⟩
  by_cases hji : j = i
  · rw [hji]
    exact State.flag_setFlag _ _ _ _ (by omega)
  · exact (State.flag_setFlag_other _ _ _ _ _ _ (.inr hji)).trans hf

/-- A loss noted. -/
theorem setLoss (h : s.Aside q but t) {i : Nat} (hi : i < 16) (hb : Reg.CPM_PLL ∈ but) :
    s.Aside q but (t.setFlag Reg.CPM_PLL (16 + i) true) :=
  h.trans ⟨fun o _ hm => State.rd_wr_ne _ _ _ _ (by rintro rfl; exact hm hb),
    fun j hj => (State.flag_setFlag_other _ _ _ _ _ _ (.inl (by decide))).trans hj,
    fun j _ hf => State.flag_setFlag_mono (by omega) hf,
    fun j hj hf => (State.flag_setFlag_other _ _ _ _ _ _ (.inr (by omega))).trans hf, rfl, rfl,
    fun _ => ⟨rfl, List.Subset.refl _⟩⟩

/-- Registers dropped from the map above those of GCTL and CPM. -/
theorem filterRegs (h : s.Aside q but t) (f : Nat → Bool) (hf : ∀ o, o < 0x200000 → f o = true) :
    s.Aside q but { t with regs := t.regs.filter fun e => f e.1 } := by
  have hrd : ∀ o, o < 0x200000 → State.rd { t with regs := t.regs.filter fun e => f e.1 } o = t.rd o := fun o ho =>
    (sparseGet_filter regDefault f t.regs o).trans (if_pos (hf o ho))
  have hflag : ∀ o, o < 0x200000 → ∀ i, State.flag { t with regs := t.regs.filter fun e => f e.1 } o i = t.flag o i :=
    fun o ho i => congrArg (bitAt · i) (hrd o ho)
  exact h.trans ⟨fun o ho _ => hrd o ho, fun i hi => (hflag _ (by decide) i).trans hi,
    fun i _ hi => (hflag _ (by decide) i).trans hi, fun i _ hi => (hflag _ (by decide) i).trans hi, rfl, rfl,
    fun _ => ⟨rfl, List.Subset.refl _⟩⟩

theorem lStore (h : s.Aside q but t) (hq : ¬ q) (p a : Nat) (bs : List Byte) : s.Aside q but (t.lStore p a bs) :=
  { h with kept := fun hk => absurd hk hq }

theorem withFree (h : s.Aside q but t) (n : Nat) : s.Aside q but { t with free := n } := h.frame rfl

theorem withSel (h : s.Aside q but t) (x : SelState) : s.Aside q but { t with sel := x } := h.frame rfl

theorem drawn (h : s.Aside q but t) : s.Aside q but t.drawn := h.frame rfl

theorem setPort (h : s.Aside q but t) (n : Nat) (p : PortState) : s.Aside q but (t.setPort n p) := h.frame rfl

theorem portSticky (h : s.Aside q but t) (n bit : Nat) : s.Aside q but (t.portSticky n bit) := h.sticky (above_cal (by decide)) ..

theorem arm (h : s.Aside q but t) (o : CmpOwner) (target : Word64) : s.Aside q but (t.arm o target) := h.frame rfl

theorem calError (h : s.Aside q but t) (bit : Nat) : s.Aside q but (t.calError bit) := h.error (by decide) ..

theorem loadReplica (h : s.Aside q but t) (r : Nat) : s.Aside q but (t.loadReplica r) := h.frame rfl

theorem commitIncr (h : s.Aside q but t) : s.Aside q but t.commitIncr := by
  unfold State.commitIncr
  extract_lets _ _ t u
  have ht : s.Aside q but t := .ite (h.calError ..) h
  have hu : s.Aside q but u := ht.setFlag (by decide) ..
  exact .ite (h.calError ..) (hu.frame rfl)

theorem writeIncrL (h : s.Aside q but t) (ag : Agent) (v : Word) : s.Aside q but (t.writeIncrL ag v) := .ite (h.wr (by decide) ..) (h.calError ..)

theorem writeIncrH (h : s.Aside q but t) (ag : Agent) (v : Word) : s.Aside q but (t.writeIncrH ag v) :=
  .ite (h.wr (by decide) ..).commitIncr (h.calError ..)

theorem notePtm (h : s.Aside q but t) : s.Aside q but t.notePtm := h.setFlag (by decide) ..

theorem verdict (h : s.Aside q but t) (unit code : Nat) : s.Aside q but (t.verdict unit code) := by
  unfold State.verdict
  extract_lets _ t
  have ht : s.Aside q but t := (h.raise ..).log ..
  exact .ite (ht.setFlag (by decide) ..) ht

theorem endTest (h : s.Aside q but t) (unit row : Nat) : s.Aside q but (t.endTest unit row) := h.frame rfl

theorem frameEnded (h : s.Aside q but t) (f : Frame) (status : Nat) (stamp : Stamp) :
    s.Aside q but (t.frameEnded f status stamp) := by
  unfold State.frameEnded
  split
  · exact h
  · exact h.frame rfl

theorem linkDown (h : s.Aside q but t) (n : Nat) : s.Aside q but (t.linkDown n) := by
  unfold State.linkDown
  extract_lets t
  have ht : s.Aside q but t := h.setFld (above_cal (by decide)) ..
  exact .ite ((ht.portSticky ..).raise ..) ht

theorem setCtx (h : s.Aside q but t) (p c : Nat) (x : Context) : s.Aside q but (t.setCtx p c x) := h.frame rfl

theorem checkOld (h : s.Aside q but t) : s.Aside q but t.checkOld := by
  unfold State.checkOld
  split
  · exact h
  · split
    · exact h
    · refine .raise ?_ ..
      extract_lets u
      have hu : s.Aside q but u := h.setFlag (by decide) ..
      exact hu.frame rfl

theorem oweInit (h : s.Aside q but t) (l b : Nat) (afterOld : Bool) : s.Aside q but (t.oweInit l b afterOld) := h.frame rfl

theorem returnTile (h : s.Aside q but t) (l : Nat) : s.Aside q but (t.returnTile l) := by
  unfold State.returnTile
  extract_lets _ u t
  have hu : s.Aside q but u := h.frame rfl
  have ht : s.Aside q but t := hu.setFlag (above_cal (by decide)) ..
  exact .ite (.ite ((ht.frame (by rfl)).raise ..) ht) hu

theorem initAndReturn (h : s.Aside q but t) (l : Nat) : s.Aside q but (t.initAndReturn l) :=
  .ite h (.ite (h.returnTile ..) (h.oweInit ..))

theorem setCore (h : s.Aside q but t) (k : Nat) (c : CoreState) : s.Aside q but (t.setCore k c) := h.frame rfl

theorem setTh (h : s.Aside q but t) (x : Ctx) (t' : Thread) : s.Aside q but (t.setTh x t') := by
  unfold State.setTh
  split
  · exact h.setCtx ..
  · exact h.setCore ..

theorem makeNewest (h : s.Aside q but t) (x : Ctx) : s.Aside q but (t.makeNewest x) := by
  unfold State.makeNewest
  split
  · extract_lets _ t
    have ht : s.Aside q but t := h.setCtx ..
    exact ht.frame rfl
  · exact h

theorem readied (h : s.Aside q but u) (t : State) (x : Ctx) : s.Aside q but (t.readied u x) := .ite (h.makeNewest ..) h

theorem scribble (h : s.Aside q but t) (slot : Nat) : s.Aside q but (t.scribble slot) := by
  unfold State.scribble
  extract_lets u
  have hu : s.Aside q but u := h.wrWords (above_cal (by decide)) ..
  exact hu.withFree _

theorem uInvalid (h : s.Aside q but t) : s.Aside q but t.uInvalid := ((h.setFlag (by decide) ..).setFld (by decide) ..).raise ..

theorem showBne (h : s.Aside q but t) : s.Aside q but t.showBne := by
  unfold State.showBne
  extract_lets _ t
  have ht : s.Aside q but t := (h.setFld (by decide) ..).setFlag (by decide) ..
  split
  · exact ht.setFlag (by decide) ..
  · exact ht

theorem bneComplete (h : s.Aside q but t) (p status ns : Nat) : s.Aside q but (t.bneComplete p status ns) := by
  unfold State.bneComplete
  extract_lets t u
  have ht : s.Aside q but t := h.advance (above_cal (by decide)) ..
  have hu : s.Aside q but u := (ht.setFld (above_cal (by decide)) ..).setFld (above_cal (by decide)) ..
  exact (hu.wr (above_cal (by decide)) ..).raise ..

theorem bneRefuse (h : s.Aside q but t) (p status : Nat) : s.Aside q but (t.bneRefuse p status) := h.drawn.bneComplete ..

theorem bneDropPending (h : s.Aside q but t) : s.Aside q but t.bneDropPending := by
  unfold State.bneDropPending
  extract_lets _ t
  have ht : s.Aside q but t := (h.frame (by rfl)).foldl (fun hu _ => hu.bneRefuse ..) _
  exact ht.showBne

theorem bneEnd (h : s.Aside q but t) (c : BneCommand) (status ns : Nat) : s.Aside q but (t.bneEnd c status ns) := by
  unfold State.bneEnd
  extract_lets _ t u
  have ht : s.Aside q but t := h.frame rfl
  have hu : s.Aside q but u := (ht.bneComplete ..).showBne
  exact .ite hu.uInvalid hu

theorem bneShutdown (h : s.Aside q but t) : s.Aside q but t.bneShutdown := h.bneDropPending

theorem bneAbort (h : s.Aside q but t) : s.Aside q but t.bneAbort := by
  unfold State.bneAbort
  split
  · exact h.bneDropPending
  · extract_lets t u
    have ht : s.Aside q but t := h.drawn
    have hu : s.Aside q but u := .ite (ht.foldl (fun hu _ => hu.scribble ..) _) ht
    exact (hu.bneEnd ..).bneDropPending.raise ..

theorem bneReset (h : s.Aside q but t) : s.Aside q but t.bneReset := by
  unfold State.bneReset
  extract_lets t
  have ht : s.Aside q but t := h.bneAbort.uInvalid
  exact ht.frame rfl

theorem completeOp (h : s.Aside q but t) (x : Ctx) (v : Option Word64) (res : Option Bool) : s.Aside q but (t.completeOp x v res) :=
  (h.setTh ..).readied ..

theorem crySticky (h : s.Aside q but t) (b : Nat) : s.Aside q but (t.crySticky b) := h.sticky (by decide) ..

theorem jobStore (h : s.Aside q but t) (hq : ¬ q) (p a : Nat) (bs : List Byte) : s.Aside q but (t.jobStore p a bs) :=
  .ite (h.lStore hq ..) h

theorem wipe (h : s.Aside q but t) (hq : ¬ q) (p aux code : Nat) (d : Descriptor) : s.Aside q but (t.wipe p aux code d) :=
  .ite (h.jobStore hq ..) h

theorem countJob (h : s.Aside q but t) (status : Nat) : s.Aside q but (t.countJob status) := by
  unfold State.countJob
  extract_lets t
  have ht : s.Aside q but t := h.bump (by decide) ..
  exact .ite ht (ht.bump (by decide) ..)

theorem dropJob (h : s.Aside q but t) (p c : Nat) : s.Aside q but (t.dropJob p c) := h.frame rfl

theorem endJob (h : s.Aside q but t) (hq : ¬ q) (x : Ctx) (desc aux code status : Nat) :
    s.Aside q but (t.endJob x desc aux code status) := by
  unfold State.endJob
  extract_lets _ _ t
  have ht : s.Aside q but t := ((h.wipe hq ..).countJob ..).dropJob ..
  exact ht.completeOp ..

theorem flushJobs (h : s.Aside q but t) (hq : ¬ q) : s.Aside q but t.flushJobs := by
  unfold State.flushJobs
  refine h.foldl (fun hu a => ?_) _
  split
  · extract_lets
    split
    · exact hu.endJob hq ..
    · exact hu
  · exact hu

theorem retirePipe (h : s.Aside q but t) (i : Nat) : s.Aside q but (t.retirePipe i) := by
  unfold State.retirePipe
  extract_lets t
  have ht : s.Aside q but t := (h.setFlag (by decide) ..).crySticky ..
  exact (ht.frame (by rfl)).raise ..

theorem cryptoReady (h : s.Aside q but t) (meas : Nat) : s.Aside q but (t.cryptoReady meas) := by
  unfold State.cryptoReady
  extract_lets t a u _ v
  have ht : s.Aside q but t := ((h.setFlag (by decide) ..).setFlag (by decide) ..).setFlag (by decide) ..
  have ha : s.Aside q but a := .ite (ht.crySticky ..) ht
  have hu : s.Aside q but u := .ite ha (ha.crySticky ..)
  have hv : s.Aside q but v := hu.frame rfl
  exact hv.foldl (fun hu _ => .ite hu (.ite (hu.retirePipe ..) (hu.setFlag (by decide) ..))) _

theorem cryptoLost (h : s.Aside q but t) : s.Aside q but t.cryptoLost := by
  unfold State.cryptoLost
  extract_lets t
  have ht : s.Aside q but t := ((h.wr (by decide) ..).wr (by decide) ..).wr (by decide) ..
  exact ht.frame rfl

theorem resetRegs (h : s.Aside q but t) {lo : Nat} (hi keep : Nat) (hlo : 0x200000 ≤ lo) :
    s.Aside q but (t.resetRegs lo hi keep) :=
  h.filterRegs (fun o => !(decide (lo ≤ o) && decide (o < hi)) || o == keep) fun o ho => by simp; omega

theorem pcieLost (h : s.Aside q but t) : s.Aside q but t.pcieLost := by
  unfold State.pcieLost
  extract_lets t
  have ht : s.Aside q but t := ((h.resetRegs _ _ (by decide)).setFlag (by decide) ..).setFlag (by decide) ..
  exact .notePtm (ht.frame rfl)

theorem setGrvCh (h : s.Aside q but t) (n : Nat) (v : GrvChannel) : s.Aside q but (t.setGrvCh n v) := h.frame rfl

theorem setGrvUnit (h : s.Aside q but t) (k : Nat) (v : GrvUnit) : s.Aside q but (t.setGrvUnit k v) := h.frame rfl

theorem grvArm (h : s.Aside q but t) (n : Nat) : s.Aside q but (t.grvArm n) := by
  unfold State.grvArm
  extract_lets _ t
  have ht : s.Aside q but t := h.setGrvCh ..
  exact .ite ((ht.arm ..).arm ..) ht

theorem selError (h : s.Aside q but t) (bit slot : Nat) : s.Aside q but (t.selError bit slot) := .ite h ((h.setFlag (by decide) ..).raise ..)

theorem steer (h : s.Aside q but t) (y : Rat) : s.Aside q but (t.steer y) := by
  unfold State.steer
  extract_lets _ u _ v
  have hu : s.Aside q but u := .ite h (h.selError ..)
  have hv : s.Aside q but v := hu.withSel _
  exact (hv.writeIncrL ..).writeIncrH ..

theorem selectorSleep (h : s.Aside q but t) : s.Aside q but t.selectorSleep := by
  unfold State.selectorSleep
  extract_lets t
  have ht : s.Aside q but t := .ite (h.steer ..) h
  exact ht.frame rfl

theorem outRun (h : s.Aside q but t) (k : Nat) (b : Bool) : s.Aside q but (t.outRun k b) := .ite h ((h.setFlag (by decide) ..).raise ..)

theorem quietPps (h : s.Aside q but t) (n : Nat) : s.Aside q but (t.quietPps n) := .ite (h.outRun ..) h

theorem dryRefresh (h : s.Aside q but t) : s.Aside q but t.dryRefresh :=
  .outRun (.outRun (h.foldl (fun hu _ => hu.quietPps ..) _) ..) ..

theorem dropOutputs (h : s.Aside q but t) : s.Aside q but t.dropOutputs := by
  unfold State.dropOutputs
  extract_lets _ _ t
  have ht : s.Aside q but t := h.frame rfl
  exact .dryRefresh (ht.foldl (fun hu _ => hu.outRun ..) _)

theorem pllLost (h : s.Aside q but t) {p : Nat} (hp : p < 16) (hpll : Reg.CPM_PLL ∈ but) (hsticky : Reg.CPM_STICKY ∈ but) :
    s.Aside q but (t.pllLost p) :=
  .ite h ((((h.dropLock hp hpll).setLoss hp hpll).setSticky (i := 1) (by decide) hsticky).raise ..)

theorem gnsSticky (h : s.Aside q but t) (bit : Nat) : s.Aside q but (t.gnsSticky bit) := h.sticky (by decide) ..

theorem gnsRefresh (h : s.Aside q but t) : s.Aside q but t.gnsRefresh := by
  unfold State.gnsRefresh
  extract_lets _ t u
  have ht : s.Aside q but t := h.setFlag (by decide) ..
  have hu : s.Aside q but u := ht.setFlag (by decide) ..
  exact hu.setFld (by decide) ..

theorem showChannel (h : s.Aside q but t) (c : Nat) : s.Aside q but (t.showChannel c) := h.wr (above_cal (by decide)) ..

theorem toChannelState (h : s.Aside q but t) (c st : Nat) : s.Aside q but (t.toChannelState c st) := by
  unfold State.toChannelState
  extract_lets v u v' w x _ y
  split
  · exact h
  · split
    · exact ((h.setChannel ..).showChannel ..).gnsRefresh
    · split
      · exact ((((h.bump (by decide) ..).gnsSticky ..).setChannel ..).showChannel ..).gnsRefresh
      · have hx : s.Aside q but x := ((h.setChannel ..).showChannel ..).gnsRefresh
        have hy : s.Aside q but y := .ite hx ((hx.withGns _).raise ..)
        exact .ite (.ite (hy.raise ..) hy) hx

theorem abandonJob (h : s.Aside q but t) : s.Aside q but t.abandonJob := by
  unfold State.abandonJob
  extract_lets _ _ t
  have ht : s.Aside q but t := (h.frame (by rfl)).setFlag (by decide) ..
  exact .ite (ht.raise ..) ht

theorem sclkLost (h : s.Aside q but t) (hpll : Reg.CPM_PLL ∈ but) (hsticky : Reg.CPM_STICKY ∈ but) :
    s.Aside q but t.sclkLost := by
  unfold State.sclkLost
  extract_lets t u
  have ht : s.Aside q but t := (h.setFlag (by decide) ..).gnsSticky ..
  have hu : s.Aside q but u := (ht.pllLost (by decide) hpll hsticky).setFlag (by decide) ..
  exact .gnsRefresh (.abandonJob (hu.foldl (fun hu _ => hu.toChannelState ..) _))

theorem gnsLost (h : s.Aside q but t) : s.Aside q but t.gnsLost := by
  have hlost : s.Aside q but { t with gns := { GnsState.reset with good := t.gns.good }, nav := NavState.reset } := h.frame rfl
  exact hlost.outRun ..

theorem burstPrepare (h : s.Aside q but t) : s.Aside q but t.burstPrepare := by
  unfold State.burstPrepare
  extract_lets _ t
  have ht : s.Aside q but t := h.foldl (fun hu _ => .ite ((hu.setChannel ..).showChannel ..) (hu.toChannelState ..)) _
  exact ht.frame rfl

theorem burstExit (h : s.Aside q but t) : s.Aside q but t.burstExit := by
  unfold State.burstExit
  extract_lets _ t u v _ w
  have ht : s.Aside q but t := h.wr (by decide) ..
  have hu : s.Aside q but u := .ite ht (ht.raise ..)
  have hv : s.Aside q but v := .ite hu (hu.gnsSticky ..)
  have hw : s.Aside q but w := hv.frame rfl
  exact hw.foldl (fun hu _ => .ite ((hu.setChannel ..).toChannelState ..) hu) _

theorem unitBegin (h : s.Aside q but t) (k : Nat) : s.Aside q but (t.unitBegin k) := h.setGrvUnit ..

theorem grvStart (h : s.Aside q but t) : s.Aside q but t.grvStart := by
  unfold State.grvStart
  extract_lets _ t u
  have ht : s.Aside q but t := h.frame rfl
  have hu : s.Aside q but u := ht.foldl (fun hu _ => .ite (hu.grvArm ..) hu) _
  exact hu.foldl (fun hu _ => .ite (hu.unitBegin ..) hu) _

theorem pairLinkLost (h : s.Aside q but t) : s.Aside q but t.pairLinkLost := by
  unfold State.pairLinkLost
  extract_lets t
  have ht : s.Aside q but t := h.setFlag (by decide) ..
  exact ht.frame rfl

theorem emptyQueue (h : s.Aside q but t) (i : Nat) : s.Aside q but (t.emptyQueue i) := by
  unfold State.emptyQueue
  split
  · exact h.setPort ..
  · split
    · exact (h.setPort ..).foldl (fun hu _ => hu.frameEnded ..) _
    · split
      · exact h.frame rfl
      · split
        · exact h.frame rfl
        · split
          · extract_lets _ _ t
            have ht : s.Aside q but t := h.frame rfl
            exact .ite ht ((ht.bump (by decide) ..).sticky (by decide) ..)
          · exact .ite (h.frame rfl) h

theorem setXq (h : s.Aside q but t) (i st n : Nat) : s.Aside q but (t.setXq i st n) := h.frame rfl

theorem stopQueue (h : s.Aside q but t) (hb : Reg.CPM_STICKY ∈ but) (d i : Nat) : s.Aside q but (t.stopQueue d i) := by
  unfold State.stopQueue
  split
  · split
    · exact h
    · extract_lets _ _ t
      have ht : s.Aside q but t := (h.emptyQueue ..).setXq ..
      exact .ite ht ((ht.setSticky (by decide) hb).raise ..)

theorem stopQueues (h : s.Aside q but t) (hb : Reg.CPM_STICKY ∈ but) (d : Nat) : s.Aside q but (t.stopQueues d) :=
  h.foldl (fun hu _ => hu.stopQueue hb ..) _

theorem resyncQueues (h : s.Aside q but t) (d : Nat) : s.Aside q but (t.resyncQueues d) := by
  unfold State.resyncQueues
  refine h.foldl (fun hu a => ?_) _
  split
  · exact .ite (hu.setXq ..) hu

theorem abandonTests (h : s.Aside q but t) (d : Nat) : s.Aside q but (t.abandonTests d) :=
  h.foldl (fun hu _ => (hu.endTest ..).verdict ..) _

theorem dropRegs (h : s.Aside q but t) {d : Nat} (hd : d ≠ 0) (keep : Nat → Bool) : s.Aside q but (t.dropRegs d keep) := by
  refine (h.filterRegs (fun o => !(match regRow o with
    | some (r, _, _) => regDomain r o == d && !keep o
    | none => false)) fun o ho => ?_).frame rfl
  split
  · next r i j hr => simp [regDomain_of_low ho hr, hd.symm]
  · rfl

theorem clusterLost (h : s.Aside q but t) (k : Nat) : s.Aside q but (t.clusterLost k) := by
  unfold State.clusterLost
  extract_lets _ _ _ _ u
  have hu : s.Aside q but u := h.frame rfl
  exact hu.checkOld

theorem clusterMemoryLost (h : s.Aside q but t) (hq : ¬ q) (k : Nat) : s.Aside q but (t.clusterMemoryLost k) :=
  { h with kept := fun hk => absurd hk hq }

theorem fabricLost (h : s.Aside q but t) (hq : ¬ q) : s.Aside q but t.fabricLost :=
  { h with kept := fun hk => absurd hk hq }

theorem blocksLost (h : s.Aside q but t) {d : Nat} (hd : d = PD_FABRIC → ¬ q) : s.Aside q but (t.blocksLost d) := by
  unfold State.blocksLost
  split
  · next hfabric => exact h.fabricLost (hd hfabric)
  · split
    · exact h.clusterLost ..
    · split
      · exact h.cryptoLost
      · split
        · exact h.bneAbort
        · split
          · exact h.abandonJob
          · split
            · exact h.gnsLost
            · split
              · exact .dropOutputs (h.frame rfl)
              · split
                · refine h.foldl (fun hu a => ?_) _
                  exact (hu.linkDown ..).setPort ..
                · exact .ite h.pcieLost (.ite h.pairLinkLost h)

theorem memoriesLost (h : s.Aside q but t) (hq : ¬ q) (d : Nat) : s.Aside q but (t.memoriesLost d) := by
  unfold State.memoriesLost
  extract_lets _ u
  have hu : s.Aside q but u := h.frame rfl
  exact .ite (hu.clusterMemoryLost hq ..) (.ite (hu.frame rfl) hu)

theorem domainReset (h : s.Aside q but t) (hb : Reg.CPM_STICKY ∈ but) {d : Nat} (hd : d ≠ 0) (hfabric : d = PD_FABRIC → ¬ q) :
    s.Aside q but (t.domainReset d) := by
  unfold State.domainReset
  extract_lets t
  have ht : s.Aside q but t := (h.stopQueues hb _).blocksLost hfabric
  exact .ite ht (ht.dropRegs hd _)

theorem domainLost (h : s.Aside q but t) (hb : Reg.CPM_STICKY ∈ but) (hsel : Reg.CPM_CLKSEL ∈ but) (hq : ¬ q) {d : Nat}
    (hd : d ≠ 0) : s.Aside q but (t.domainLost d) := by
  unfold State.domainLost
  extract_lets t u
  have ht : s.Aside q but t := (((h.stopQueues hb _).abandonTests _).blocksLost fun _ => hq).memoriesLost hq _
  have hu : s.Aside q but u := ht.dropRegs hd _
  exact .ite (((hu.wr (by decide) ..).setClksel hsel ..).setFlag (by decide) ..) hu

theorem released (h : s.Aside q but t) (d : Nat) : s.Aside q but (t.released d) :=
  .resyncQueues (h.foldl (fun hu _ => hu.loadReplica ..) _) ..

theorem remapTile (h : s.Aside q but t) (l : Nat) : s.Aside q but (t.remapTile l) :=
  .ite h (.ite ((h.setFlag (above_cal (by decide)) ..).setFlag (above_cal (by decide)) ..) (h.setFld (above_cal (by decide)) ..))

theorem remapTiles (h : s.Aside q but t) : s.Aside q but t.remapTiles := by
  unfold State.remapTiles
  extract_lets t
  have ht : s.Aside q but t := h.foldl (fun hu _ => hu.remapTile ..) _
  exact ht.setFld (by decide) ..

theorem loadFactory (h : s.Aside q but t) {d : Nat} (hd : d ≠ 0) : s.Aside q but (t.loadFactory d) := by
  refine List.foldlRecOn _ _ h fun v hv e he => ?_
  refine hv.wr (Nat.le_of_not_lt fun ho => ?_) _
  have hmine := (List.mem_filter.mp he).2
  rw [Bool.and_eq_true] at hmine
  revert hmine
  split
  · next r i j hr => simp [regDomain_of_low ho hr, hd.symm]
  · simp

theorem startBlocks (h : s.Aside q but t) (hsel : Reg.CPM_CLKSEL ∈ but) (d meas : Nat) : s.Aside q but (t.startBlocks d meas) := by
  unfold State.startBlocks
  extract_lets u v w
  have hv : s.Aside q but v := h.foldl (fun hx _ => .ite (hx.setFlag (by decide) ..) hx) _
  have hw : s.Aside q but w := hv.setFlag (by decide) ..
  have hexit : s.Aside q but { w with cpm := { w.cpm with retained := false } } := hw.notRetained
  split
  · exact (h.setClksel hsel ..).foldl (fun hx _ => hx.initAndReturn ..) _
  · refine .ite (h.cryptoReady ..) (.ite h.bneReset (.ite (.ite hexit.burstExit hw) ?_))
    split
    · next hd => exact (h.loadFactory (by rw [hd]; decide)).grvStart.dryRefresh
    · split
      · exact h.resetRegs _ _ (by decide)
      · split
        · next hd => exact (h.loadFactory (by omega)).setFlag (above_cal (by decide)) ..
        · exact h

end State.Aside

end Sys2Proof.Machine
end

section
/-!
Performance levels (R429 to R431, R506).
-/
namespace Sys2Proof.Machine

theorem roBit_plevel_cur (i : Fin 2) : roBit Reg.CPM_PLEVEL (4 + i.val) = true := by decide +kernel +revert

theorem roBit_plevel_tcap (i : Fin 2) : roBit Reg.CPM_PLEVEL (8 + i.val) = true := by decide +kernel +revert

theorem rwBit_plevel_target : (List.range 2).all (fun i => rwBit Reg.CPM_PLEVEL (0 + i)) = true := by decide +kernel

theorem rwBit_plevel_vsettle : (List.range 8).all (fun i => rwBit Reg.CPM_PLEVEL (16 + i)) = true := by decide +kernel

/-- The register with its TARGET and VSETTLE written. -/
def State.plevelWritten (s : State) (v : Word) : State := s.plainWrite Reg.CPM_PLEVEL v

theorem State.pcur_plevelWritten (s : State) (v : Word) : (s.plevelWritten v).pcur = s.pcur :=
  bitsAt_congr fun i hi => State.flag_plainWrite_of_ro (roBit_plevel_cur ⟨i, hi⟩) s v

theorem State.tcap_plevelWritten (s : State) (v : Word) :
    (s.plevelWritten v).fld Reg.CPM_PLEVEL 8 2 = s.fld Reg.CPM_PLEVEL 8 2 :=
  bitsAt_congr fun i hi => State.flag_plainWrite_of_ro (roBit_plevel_tcap ⟨i, hi⟩) s v

theorem State.target_plevelWritten (s : State) (v : Word) : (s.plevelWritten v).fld Reg.CPM_PLEVEL 0 2 = bitsAt v 0 2 :=
  State.fld_plainWrite rwBit_plevel_target s v

theorem State.vsettle_plevelWritten (s : State) (v : Word) : (s.plevelWritten v).fld Reg.CPM_PLEVEL 16 8 = bitsAt v 16 8 :=
  State.fld_plainWrite rwBit_plevel_vsettle s v

theorem State.peff_plevelWritten (s : State) (v : Word) :
    (s.plevelWritten v).peff = max (bitsAt v 0 2) (s.fld Reg.CPM_PLEVEL 8 2) := by
  rw [State.peff, s.target_plevelWritten, s.tcap_plevelWritten]

theorem State.keepsRegs_plevelWritten (s : State) (v : Word) : s.keepsRegs (s.plevelWritten v) [Reg.CPM_PLEVEL] :=
  s.keepsRegs_plainWrite _ v

theorem State.cpm_plevelWritten (s : State) (v : Word) : (s.plevelWritten v).cpm = s.cpm := by
  rw [State.plevelWritten, State.plainWrite_frame]

/-! ### What the states of the domains tell of the array -/

theorem State.arrayRising_congr {s t : State} (hpd : ∀ k < 8, t.pd (PD_ARRAY k) = s.pd (PD_ARRAY k)) (hstage : t.cpm.stage = s.cpm.stage) :
    t.arrayRising = s.arrayRising := by
  have hup : ∀ d, t.upStage d = s.upStage d := fun d => by rw [State.upStage, hstage]; rfl
  rw [State.arrayRising, State.arrayRising, Bool.eq_iff_iff, List.any_eq_true, List.any_eq_true]
  exact exists_congr fun k => and_congr_right fun hk => by rw [hpd k (List.mem_range.mp hk), hup]

theorem State.arrayOn_congr {s t : State} (hpd : ∀ k < 8, t.pd (PD_ARRAY k) = s.pd (PD_ARRAY k)) (hstage : t.cpm.stage = s.cpm.stage)
    (hmode : t.mode = s.mode) : t.arrayOn = s.arrayOn := by
  have hup : ∀ d, t.upStage d = s.upStage d := fun d => by rw [State.upStage, hstage]; rfl
  rw [State.arrayOn, State.arrayOn, Bool.eq_iff_iff, List.any_eq_true, List.any_eq_true]
  exact exists_congr fun k => and_congr_right fun hk => by
    rw [State.powered, State.powered, hpd k (List.mem_range.mp hk), hup, hmode]

/-- The registers of the sequence are none that show a domain's state. -/
theorem State.pd_of_level {s t : State} (h : s.keepsRegs t [Reg.CPM_PLEVEL, Reg.CPM_CLKSEL, Reg.CPM_PLL]) (d : Nat) (hd : d < 21) :
    t.pd d = s.pd d := by
  refine congrArg (bitsAt · 24 3) (h (Reg.CPM_PD_CTL d) ?_)
  simp only [Reg.CPM_PD_CTL, Reg.CPM_PLEVEL, Reg.CPM_CLKSEL, Reg.CPM_PLL, List.mem_cons, List.not_mem_nil, or_false]
  omega

theorem State.mode_of_level {s t : State} (h : s.keepsRegs t [Reg.CPM_PLEVEL, Reg.CPM_CLKSEL, Reg.CPM_PLL]) :
    t.mode = s.mode := congrArg (bitsAt · 0 4) (h Reg.GCTL_STATUS (by decide))

/-! ### The sequence -/

theorem State.levelPhase_relock (s : State) (m : LevelMove) : s.levelPhase m 1 =
    (State.setFlag { s with cpm := { s.cpm with level := some { m with phase := 1, accepted := none } } }
      Reg.CPM_CLKSEL 2 true).setFlag Reg.CPM_PLL pllA false := rfl

theorem State.levelPhase_voltage (s : State) (m : LevelMove) {phase : Nat} (h : phase ≠ 1) : s.levelPhase m phase =
    { s with cpm := { s.cpm with
      level := some { m with phase := phase, accepted := none }, avs := s.cpm.avs ++ [levelMillivolts m.target] } } :=
  (if_neg h).trans rfl

/-- The parts of the controller that a phase of the sequence leaves. -/
def CpmState.unlevelled (c : CpmState) : CpmState := { c with level := none, avs := [], vddArray := 0 }

/-- What a phase of the sequence leaves. -/
structure State.Levelled (s t : State) : Prop where
  regs : s.keepsRegs t [Reg.CPM_PLEVEL, Reg.CPM_CLKSEL, Reg.CPM_PLL]
  cpm : t.cpm.unlevelled = s.cpm.unlevelled
  raised : s.raised ⊆ t.raised

theorem State.Levelled.refl {s : State} : s.Levelled s := ⟨.refl, rfl, List.Subset.refl _⟩

theorem State.Levelled.trans {s t u : State} (h : s.Levelled t) (h' : t.Levelled u) : s.Levelled u :=
  ⟨h.regs.trans h'.regs, h'.cpm.trans h.cpm, List.Subset.trans h.raised h'.raised⟩

theorem State.levelled_setFlag (s : State) {o : Nat} (ho : o ∈ [Reg.CPM_PLEVEL, Reg.CPM_CLKSEL, Reg.CPM_PLL]) (i : Nat) (b : Bool) :
    s.Levelled (s.setFlag o i b) := ⟨.setFlag .refl ho, rfl, List.Subset.refl _⟩

theorem State.levelled_levelPhase (s : State) (m : LevelMove) (phase : Nat) : s.Levelled (s.levelPhase m phase) := by
  by_cases hphase : phase = 1
  · rw [hphase, State.levelPhase_relock]
    exact ⟨.setFlag (o := Reg.CPM_PLL) (.setFlag (o := Reg.CPM_CLKSEL) (.of_regs .refl)), rfl, List.Subset.refl _⟩
  · rw [State.levelPhase_voltage s m hphase]
    exact ⟨.of_regs .refl, rfl, List.Subset.refl _⟩

/-- The sequence that starts. -/
def State.levelStarted (s : State) : State :=
  (s.setFlag Reg.CPM_PLEVEL 12 true).levelPhase ⟨s.peff, decide (s.peff < s.pcur), 0, none⟩
    (if s.peff < s.pcur then 0 else if s.arrayOn then 1 else 2)

theorem State.startLevel_eq (s : State) : s.startLevel =
    if s.cpm.level.isSome ∨ s.peff = s.pcur ∨ s.arrayRising then s else s.levelStarted := by
  unfold State.startLevel State.levelStarted
  dsimp only
  simp only [decide_eq_true_eq]

theorem State.startLevel_of_idle {s : State} (h : s.cpm.level ≠ none ∨ s.peff = s.pcur) : s.startLevel = s := by
  rw [s.startLevel_eq, if_pos]
  rcases h with h | h
  · exact .inl (Option.isSome_iff_ne_none.mpr h)
  · exact .inr (.inl h)

theorem State.startLevel_of_due {s : State} (hnone : s.cpm.level = none) (hne : s.peff ≠ s.pcur) (hrise : s.arrayRising = false) :
    s.startLevel = s.levelStarted := by
  rw [s.startLevel_eq, if_neg]
  simp [hnone, hne, hrise]

theorem State.levelled_levelStarted (s : State) : s.Levelled s.levelStarted :=
  (s.levelled_setFlag (by decide) _ _).trans (State.levelled_levelPhase _ _ _)

theorem State.levelled_startLevel (s : State) : s.Levelled s.startLevel := by
  rw [s.startLevel_eq]
  split
  · exact .refl
  · exact s.levelled_levelStarted

/-- A field of CPM_PLEVEL below BUSY. -/
theorem State.fld_levelPhase (s : State) (m : LevelMove) (phase lo n : Nat) :
    (s.levelPhase m phase).fld Reg.CPM_PLEVEL lo n = s.fld Reg.CPM_PLEVEL lo n := by
  by_cases hphase : phase = 1
  · rw [hphase, State.levelPhase_relock]
    exact (State.fld_setFlag_other _ _ _ _ _ _ _ (.inl (by decide))).trans (State.fld_setFlag_other _ _ _ _ _ _ _ (.inl (by decide)))
  · rw [State.levelPhase_voltage s m hphase]
    rfl

theorem State.fld_startLevel (s : State) {lo n : Nat} (h : lo + n ≤ 12) :
    s.startLevel.fld Reg.CPM_PLEVEL lo n = s.fld Reg.CPM_PLEVEL lo n := by
  rw [s.startLevel_eq]
  split
  · rfl
  · rw [State.levelStarted, State.fld_levelPhase]
    exact State.fld_setFlag_other _ _ _ _ _ _ _ (.inr (.inr h))

/-! ### The commands -/

theorem exec_plevelTargetWrite_of_opens {s : State} {ag : Agent} {v : Word} (ho : s.opens ag Reg.CPM_PLEVEL = true) :
    exec (.plevelTargetWrite ag v) s = .next (s.writePlevel v) := by
  change execPlevelTargetWrite ag v s = _
  rw [execPlevelTargetWrite, State.writeAccess_opens _ _ _ _ _ ho]

theorem exec_plevelTargetWrite_refused {s : State} {ag : Agent} {v : Word} (ho : s.opens ag Reg.CPM_PLEVEL = true)
    (h : bitsAt v 16 8 < 5 ∨ 200 < bitsAt v 16 8) : exec (.plevelTargetWrite ag v) s = .next (s.error Reg.CPM_ERR 0 222) :=
  (exec_plevelTargetWrite_of_opens ho).trans (congrArg _ (if_pos h))

theorem exec_plevelTargetWrite_legal {s : State} {ag : Agent} {v : Word} (ho : s.opens ag Reg.CPM_PLEVEL = true)
    (hlo : 5 ≤ bitsAt v 16 8) (hhi : bitsAt v 16 8 ≤ 200) :
    exec (.plevelTargetWrite ag v) s = .next (s.plevelWritten v).startLevel :=
  (exec_plevelTargetWrite_of_opens ho).trans (congrArg _ (if_neg (by omega)))

theorem exec_plevelTargetWrite_latched {s : State} {ag : Agent} {v : Word} (ho : s.opens ag Reg.CPM_PLEVEL = true)
    (hlo : 5 ≤ bitsAt v 16 8) (hhi : bitsAt v 16 8 ≤ 200)
    (h : s.cpm.level ≠ none ∨ max (bitsAt v 0 2) (s.fld Reg.CPM_PLEVEL 8 2) = s.pcur) :
    ∃ t, exec (.plevelTargetWrite ag v) s = .next t ∧ t.fld Reg.CPM_PLEVEL 0 2 = bitsAt v 0 2 ∧
      t.fld Reg.CPM_PLEVEL 16 8 = bitsAt v 16 8 ∧ t.pcur = s.pcur ∧ t.cpm = s.cpm ∧ s.keepsRegs t [Reg.CPM_PLEVEL] := by
  have hidle : (s.plevelWritten v).startLevel = s.plevelWritten v := by
    refine State.startLevel_of_idle (h.imp (fun hl => ?_) fun he => ?_)
    · rwa [s.cpm_plevelWritten]
    · rw [s.peff_plevelWritten, s.pcur_plevelWritten, he]
  exact ⟨_, (exec_plevelTargetWrite_legal ho hlo hhi).trans (congrArg _ hidle), s.target_plevelWritten v,
    s.vsettle_plevelWritten v, s.pcur_plevelWritten v, s.cpm_plevelWritten v, s.keepsRegs_plevelWritten v⟩

theorem State.keepsRegs_plevelWritten_level (s : State) (v : Word) :
    s.keepsRegs (s.plevelWritten v) [Reg.CPM_PLEVEL, Reg.CPM_CLKSEL, Reg.CPM_PLL] :=
  (s.keepsRegs_plevelWritten v).mono (by simp)

theorem State.arrayRising_plevelWritten (s : State) (v : Word) : (s.plevelWritten v).arrayRising = s.arrayRising :=
  State.arrayRising_congr (fun k hk => State.pd_of_level (s.keepsRegs_plevelWritten_level v) _ (by simp only [PD_ARRAY]; omega))
    (congrArg CpmState.stage (s.cpm_plevelWritten v))

theorem State.arrayOn_plevelWritten (s : State) (v : Word) : (s.plevelWritten v).arrayOn = s.arrayOn :=
  State.arrayOn_congr (fun k hk => State.pd_of_level (s.keepsRegs_plevelWritten_level v) _ (by simp only [PD_ARRAY]; omega))
    (congrArg CpmState.stage (s.cpm_plevelWritten v)) (State.mode_of_level (s.keepsRegs_plevelWritten_level v))

theorem State.startLevel_plevelWritten {s : State} {v : Word} (hnone : s.cpm.level = none) (hrise : s.arrayRising = false)
    (hne : max (bitsAt v 0 2) (s.fld Reg.CPM_PLEVEL 8 2) ≠ s.pcur) :
    (s.plevelWritten v).startLevel = (s.plevelWritten v).levelStarted :=
  State.startLevel_of_due (by rw [s.cpm_plevelWritten, hnone]) (by rwa [s.peff_plevelWritten, s.pcur_plevelWritten])
    ((s.arrayRising_plevelWritten v).trans hrise)

theorem State.busy_levelPhase (s : State) (m : LevelMove) (phase : Nat) :
    ((s.setFlag Reg.CPM_PLEVEL 12 true).levelPhase m phase).flag Reg.CPM_PLEVEL 12 = true := by
  have hbit := State.fld_levelPhase (s.setFlag Reg.CPM_PLEVEL 12 true) m phase 12 1
  rw [State.flag, bitAt_eq_bitsAt]
  refine (congrArg (fun n => decide (n = 1)) hbit).trans ?_
  have hset : (s.setFlag Reg.CPM_PLEVEL 12 true).flag Reg.CPM_PLEVEL 12 = true := State.flag_setFlag _ _ _ _ (by decide)
  rwa [State.flag, bitAt_eq_bitsAt] at hset

theorem State.levelStarted_up {s : State} (h : s.peff < s.pcur) : s.levelStarted =
    { s.setFlag Reg.CPM_PLEVEL 12 true with cpm := { s.cpm with
      level := some ⟨s.peff, true, 0, none⟩, avs := s.cpm.avs ++ [levelMillivolts s.peff] } } := by
  rw [State.levelStarted, if_pos h, State.levelPhase_voltage _ _ (by decide), decide_eq_true h]
  rfl

theorem State.levelStarted_down {s : State} (h : s.pcur < s.peff) (hon : s.arrayOn = true) : s.levelStarted =
    (s.setFlag Reg.CPM_PLEVEL 12 true).levelPhase ⟨s.peff, false, 0, none⟩ 1 := by
  rw [State.levelStarted, if_neg (by omega), if_pos hon, decide_eq_false (by omega)]

theorem exec_plevelTargetWrite_up {s : State} {ag : Agent} {v : Word} (ho : s.opens ag Reg.CPM_PLEVEL = true)
    (hlo : 5 ≤ bitsAt v 16 8) (hhi : bitsAt v 16 8 ≤ 200) (hnone : s.cpm.level = none) (hrise : s.arrayRising = false)
    (h : max (bitsAt v 0 2) (s.fld Reg.CPM_PLEVEL 8 2) < s.pcur) :
    ∃ t, exec (.plevelTargetWrite ag v) s = .next t ∧
      t.cpm.level = some ⟨max (bitsAt v 0 2) (s.fld Reg.CPM_PLEVEL 8 2), true, 0, none⟩ ∧ t.flag Reg.CPM_PLEVEL 12 = true ∧
      t.cpm.avs = s.cpm.avs ++ [levelMillivolts (max (bitsAt v 0 2) (s.fld Reg.CPM_PLEVEL 8 2))] ∧
      t.cpm.vddArray = s.cpm.vddArray ∧ t.pcur = s.pcur ∧ s.keepsRegs t [Reg.CPM_PLEVEL] := by
  have hcpm := s.cpm_plevelWritten v
  have hpeff := s.peff_plevelWritten v
  have hstart : (s.plevelWritten v).startLevel = _ := (State.startLevel_plevelWritten hnone hrise (by omega)).trans
    (State.levelStarted_up (by rwa [hpeff, s.pcur_plevelWritten]))
  rw [hpeff, hcpm] at hstart
  refine ⟨_, (exec_plevelTargetWrite_legal ho hlo hhi).trans (congrArg _ hstart), rfl, State.flag_setFlag _ _ _ _ (by decide), rfl,
    rfl, ?_, .of_regs (.setFlag (o := Reg.CPM_PLEVEL) (s.keepsRegs_plevelWritten v))⟩
  exact (State.fld_setFlag_other _ _ _ _ _ _ _ (by decide)).trans (s.pcur_plevelWritten v)

theorem exec_plevelTargetWrite_down {s : State} {ag : Agent} {v : Word} (ho : s.opens ag Reg.CPM_PLEVEL = true)
    (hlo : 5 ≤ bitsAt v 16 8) (hhi : bitsAt v 16 8 ≤ 200) (hnone : s.cpm.level = none) (hrise : s.arrayRising = false)
    (h : s.pcur < max (bitsAt v 0 2) (s.fld Reg.CPM_PLEVEL 8 2)) (hon : s.arrayOn = true) :
    ∃ t, exec (.plevelTargetWrite ag v) s = .next t ∧
      t.cpm.level = some ⟨max (bitsAt v 0 2) (s.fld Reg.CPM_PLEVEL 8 2), false, 1, none⟩ ∧ t.flag Reg.CPM_PLEVEL 12 = true ∧
      t.pcur = s.pcur ∧ t.flag Reg.CPM_CLKSEL 2 = true ∧ t.pllReady pllA = false := by
  have hpeff := s.peff_plevelWritten v
  have hstart : (s.plevelWritten v).startLevel = _ := (State.startLevel_plevelWritten hnone hrise (by omega)).trans
    (State.levelStarted_down (by rwa [hpeff, s.pcur_plevelWritten]) ((s.arrayOn_plevelWritten v).trans hon))
  rw [hpeff] at hstart
  refine ⟨_, (exec_plevelTargetWrite_legal ho hlo hhi).trans (congrArg _ hstart), rfl, State.busy_levelPhase _ _ _, ?_, ?_, ?_⟩
  · exact (State.fld_levelPhase _ _ _ _ _).trans ((State.fld_setFlag_other _ _ _ _ _ _ _ (by decide)).trans
      (s.pcur_plevelWritten v))
  · exact (State.flag_setFlag_other _ _ _ _ _ _ (by decide)).trans (State.flag_setFlag _ _ _ _ (by decide))
  · exact State.flag_setFlag _ _ _ _ (by decide)

/-- The voltage has settled where the regulator has not refused it. -/
theorem exec_vsettleEnd_settled {s : State} {m : LevelMove} (h : s.cpm.level = some m) (hphase : m.phase ≠ 1)
    (hacc : m.accepted ≠ some false) : exec (.vsettleEnd true) s = .next ((s.avsAccepted m).levelSettled m) := by
  change execVsettleEnd true s = _
  rw [execVsettleEnd, h]
  dsimp only
  rw [if_neg (not_or.mpr ⟨hphase, hacc⟩), if_neg (by simp)]

/-- The end of a sequence before the next one may start. -/
def State.levelDone (s : State) (m : LevelMove) : State :=
  let t := (s.setFld Reg.CPM_PLEVEL 4 2 m.target).setFlag Reg.CPM_PLEVEL 12 false
  State.raise { t with cpm := { t.cpm with level := none } } 216

theorem State.pcur_levelDone (s : State) {m : LevelMove} (h : m.target < 4) : (s.levelDone m).pcur = m.target := by
  refine (State.fld_setFlag_other _ _ _ _ _ _ _ (by decide)).trans ((State.fld_setFld _ _ _ _ _ (by decide)).trans ?_)
  omega

theorem State.peff_levelDone (s : State) (m : LevelMove) : (s.levelDone m).peff = s.peff := by
  have hfld : ∀ lo, lo = 0 ∨ lo = 8 → (s.levelDone m).fld Reg.CPM_PLEVEL lo 2 = s.fld Reg.CPM_PLEVEL lo 2 := fun lo hlo =>
    (State.fld_setFlag_other _ _ _ _ _ _ _ (by omega)).trans
      (State.fld_setFld_other _ _ _ _ _ _ _ _ (by omega) (by omega))
  rw [State.peff, hfld 0 (.inl rfl), hfld 8 (.inr rfl)]
  rfl

theorem exec_vsettleEnd_ends {s : State} {m : LevelMove} (h : s.cpm.level = some m) (hphase : m.phase = 2)
    (hacc : m.accepted ≠ some false) (hpeff : s.peff = m.target) (htarget : m.target < 4) :
    ∃ t, exec (.vsettleEnd true) s = .next t ∧ t.cpm.level = none ∧ t.pcur = m.target ∧ t.flag Reg.CPM_PLEVEL 12 = false ∧
      t.raised = s.raised ++ [⟨216, 0, 0⟩] ∧ s.keepsRegs t [Reg.CPM_PLEVEL] := by
  have hend : (s.avsAccepted m).levelSettled m = (s.avsAccepted m).levelDone m := by
    rw [State.levelSettled, if_pos hphase]
    refine State.startLevel_of_idle (.inr ?_)
    rw [← State.levelDone, State.peff_levelDone, State.pcur_levelDone _ htarget]
    exact hpeff
  refine ⟨_, (exec_vsettleEnd_settled h (by omega) hacc).trans (congrArg _ hend), rfl, State.pcur_levelDone _ htarget,
    State.flag_setFlag _ _ _ _ (by decide), rfl, .raise (.of_regs (.setFlag (o := Reg.CPM_PLEVEL)
      (.setFld (o := Reg.CPM_PLEVEL) (.of_regs .refl))))⟩

theorem exec_vsettleEnd_relocks {s : State} {m : LevelMove} (h : s.cpm.level = some m) (hphase : m.phase = 0)
    (hacc : m.accepted ≠ some false) (hon : s.arrayOn = true) :
    ∃ t, exec (.vsettleEnd true) s = .next t ∧ t.cpm.vddArray = levelMillivolts m.target ∧
      t.cpm.level = some { m with phase := 1, accepted := none } ∧ t.flag Reg.CPM_CLKSEL 2 = true ∧ t.pllReady pllA = false ∧
      t.pcur = s.pcur := by
  have hrelock : (s.avsAccepted m).levelSettled m = (s.avsAccepted m).levelPhase m 1 :=
    (if_neg (by omega)).trans (if_pos hon)
  refine ⟨_, (exec_vsettleEnd_settled h (by omega) hacc).trans (congrArg _ hrelock), rfl, rfl, ?_,
    State.flag_setFlag _ _ _ _ (by decide), State.fld_levelPhase _ _ _ _ _⟩
  exact (State.flag_setFlag_other _ _ _ _ _ _ (by decide)).trans (State.flag_setFlag _ _ _ _ (by decide))

theorem State.logWait_logEntry {s : State} {e : LogEntry} (hon : s.flag Reg.REL_LOG_CTRL 31 = true)
    (hsev : s.fld Reg.REL_LOG_CTRL 24 3 = 0) (hroom : s.logWait.length < 16) :
    s.logEntry e = { s with logWait := s.logWait ++ [e] } := by
  rw [State.logEntry, if_neg (by simp [hon, hsev]), if_pos hroom]

theorem State.cpm_logEntry (s : State) (e : LogEntry) : (s.logEntry e).cpm = s.cpm := by
  unfold State.logEntry
  split
  · rfl
  · split <;> rfl

theorem exec_vsettleEnd_fails {s : State} {m : LevelMove} (h : s.cpm.level = some m) (hphase : m.phase ≠ 1)
    (hacc : m.accepted = none) :
    ∃ t, exec (.vsettleEnd false) s = .next t ∧ t.cpm.level = some { m with accepted := some false } ∧ t.pcur = s.pcur ∧
      (s.flag Reg.REL_LOG_CTRL 31 = true → s.fld Reg.REL_LOG_CTRL 24 3 = 0 → s.logWait.length < 16 →
        t.logWait.map (fun e => (e.source, e.detail)) = s.logWait.map (fun e => (e.source, e.detail)) ++
          [(0x0102, BitVec.ofNat 64 (levelMillivolts m.target))]) := by
  have hexec : exec (.vsettleEnd false) s = .next (s.avsFailed m) := by
    change execVsettleEnd false s = _
    rw [execVsettleEnd, h]
    dsimp only
    rw [if_neg (not_or.mpr ⟨hphase, by rw [hacc]; decide⟩), if_pos ⟨hacc, rfl⟩]
  refine ⟨_, hexec, ?_, ?_, fun hon hsev hroom => ?_⟩
  · exact congrArg CpmState.level (State.cpm_logEntry _ _)
  · have hkeep := State.keepsRegs.logEntry (l := [Reg.REL_LOG_LOST, Reg.REL_STICKY])
      (s := s) (t := { s with cpm := { s.cpm with level := some { m with accepted := some false } } }) (.of_regs .refl)
      ⟨0x0102, (Config.logSeverity 0x0102).val, 0, 0, 0, BitVec.ofNat 64 (levelMillivolts m.target)⟩ (by decide) (by decide)
    exact congrArg (bitsAt · 4 2) (hkeep Reg.CPM_PLEVEL (by decide))
  · have hlog := State.logWait_logEntry
      (s := { s with cpm := { s.cpm with level := some { m with accepted := some false } } })
      (e := ⟨0x0102, (Config.logSeverity 0x0102).val, 0, 0, 0, BitVec.ofNat 64 (levelMillivolts m.target)⟩) hon hsev hroom
    rw [State.avsFailed, State.log, hlog, List.map_append]
    rfl

theorem exec_avsRetry_of_refused {s : State} {m : LevelMove} (h : s.cpm.level = some m) (hacc : m.accepted = some false)
    (accepted : Bool) : exec (.avsRetry accepted) s = .next (if accepted then
      State.avsAccepted { s.avsWrite m with cpm := { (s.avsWrite m).cpm with level := some { m with accepted := some true } } } m
      else (s.avsWrite m).avsFailed m) := by
  change execAvsRetry accepted s = _
  rw [execAvsRetry, h]
  exact congrArg Host.Outcome.next (if_neg (not_not_intro hacc))

theorem exec_avsRetry_repeats {s : State} {m : LevelMove} (h : s.cpm.level = some m) (hacc : m.accepted = some false) :
    exec (.avsRetry true) s = .next { s with cpm := { s.cpm with
      level := some { m with accepted := some true }, avs := s.cpm.avs ++ [levelMillivolts m.target],
      vddArray := levelMillivolts m.target } } ∧
    (∃ t, exec (.avsRetry false) s = .next t ∧ t.cpm = { s.cpm with avs := s.cpm.avs ++ [levelMillivolts m.target] }) := by
  refine ⟨exec_avsRetry_of_refused h hacc true, _, exec_avsRetry_of_refused h hacc false, ?_⟩
  have hm : ({ m with accepted := some false } : LevelMove) = m := by
    rw [← hacc]
  refine (State.cpm_logEntry _ _).trans ?_
  change ({ s.cpm with level := some { m with accepted := some false }, avs := s.cpm.avs ++ [levelMillivolts m.target] } : CpmState) = _
  rw [hm, ← h]

theorem exec_avsRetry_of_none {s : State} {m : LevelMove} (h : s.cpm.level = some m) (hacc : m.accepted = none) :
    exec (.avsRetry true) s = .next s := by
  change execAvsRetry true s = _
  rw [execAvsRetry, h]
  exact congrArg Host.Outcome.next (if_pos (by rw [hacc]; decide))

end Sys2Proof.Machine
end

section
/-!
The states of domains (R419, R425) and the causes of SAFE (R458). A domain's state is a field of its own CPM_PD_CTL; a write of
it moves no other register and raises 212 at most. A cause of SAFE is noted, and moves what a change of mode moves.
-/
namespace Sys2Proof.Machine

variable {s t u : State} {d st : Nat}

theorem pdCtl_ne {d e : Nat} (h : e ≠ d) : Reg.CPM_PD_CTL e ≠ Reg.CPM_PD_CTL d := by
  simp only [Reg.CPM_PD_CTL]
  omega

theorem State.keepsRegs_setPd (s : State) (d st : Nat) : s.keepsRegs (s.setPd d st) [Reg.CPM_PD_CTL d] := by
  have hset : s.keepsRegs (s.setFld (Reg.CPM_PD_CTL d) 24 3 st) [Reg.CPM_PD_CTL d] :=
    .setFld (o := Reg.CPM_PD_CTL d) .refl List.mem_cons_self
  exact .ite .refl (.ite (.raise hset) hset)

/-- A domain's state is in the registers, and what it raises. -/
theorem State.setPd_frame (s : State) (d st : Nat) :
    s.setPd d st = { s with regs := (s.setPd d st).regs, raised := (s.setPd d st).raised } := by
  unfold State.setPd
  split
  · rfl
  · dsimp only
    split <;> rfl

theorem State.cpm_setPd (s : State) (d st : Nat) : (s.setPd d st).cpm = s.cpm := by rw [s.setPd_frame]

theorem State.raised_setPd (s : State) (d st : Nat) : s.raised ⊆ (s.setPd d st).raised := by
  unfold State.setPd
  split
  · exact List.Subset.refl _
  · dsimp only
    split
    · exact List.subset_append_left _ _
    · exact List.Subset.refl _

theorem State.pd_setPd (s : State) (d : Nat) (h : st < 8) : (s.setPd d st).pd d = st := by
  unfold State.setPd
  split
  · next he => exact he
  · have hset : (s.setFld (Reg.CPM_PD_CTL d) 24 3 st).pd d = st :=
      (State.fld_setFld _ _ _ _ _ (by decide)).trans (Nat.mod_eq_of_lt h)
    dsimp only
    split <;> exact hset

/-- The bits of the control beside the state. -/
theorem State.flag_setPd (s : State) (d st e i : Nat) (hi : i < 24 ∨ 27 ≤ i) (h : i < 32) :
    (s.setPd d st).flag (Reg.CPM_PD_CTL e) i = s.flag (Reg.CPM_PD_CTL e) i := by
  have hset := State.flag_setFld_other s (Reg.CPM_PD_CTL d) 24 3 st (Reg.CPM_PD_CTL e) i (.inr hi) h
  unfold State.setPd
  split
  · rfl
  · dsimp only
    split <;> exact hset

theorem State.forced_setForced (s : State) (d : Nat) (b : Bool) : (s.setForced d b).forced d = b := by
  cases b <;> simp [State.setForced, State.forced]

theorem State.forced_setForced_ne (s : State) (b : Bool) {e : Nat} (h : e ≠ d) : (s.setForced d b).forced e = s.forced e := by
  cases b <;> simp [State.setForced, State.forced, h]

/-- Of the domains' controls at most that of d is moved, and no raise is lost. -/
structure State.PdMoved (d : Nat) (s t : State) : Prop where
  regs : s.keepsRegs t [Reg.CPM_PD_CTL d]
  forced : ∀ e, e ≠ d → t.forced e = s.forced e
  raised : s.raised ⊆ t.raised

namespace State.PdMoved

theorem refl : s.PdMoved d s := ⟨.refl, fun _ _ => rfl, List.Subset.refl _⟩

theorem trans (h : s.PdMoved d t) (h' : t.PdMoved d u) : s.PdMoved d u :=
  ⟨h.regs.trans h'.regs, fun e he => (h'.forced e he).trans (h.forced e he), List.Subset.trans h.raised h'.raised⟩

theorem setFlag (h : s.PdMoved d t) (i : Nat) (b : Bool) : s.PdMoved d (t.setFlag (Reg.CPM_PD_CTL d) i b) :=
  ⟨.setFlag (o := Reg.CPM_PD_CTL d) h.regs List.mem_cons_self, h.forced, h.raised⟩

theorem setPd (h : s.PdMoved d t) (st : Nat) : s.PdMoved d (t.setPd d st) :=
  h.trans ⟨t.keepsRegs_setPd d st, fun e _ => congrArg (fun c : CpmState => c.forced.contains e) (t.cpm_setPd d st),
    t.raised_setPd d st⟩

theorem setForced (h : s.PdMoved d t) (b : Bool) : s.PdMoved d (t.setForced d b) :=
  h.trans ⟨.of_regs .refl, fun _ he => t.forced_setForced_ne b he, List.Subset.refl _⟩

theorem setStage (h : s.PdMoved d t) (k : Nat) : s.PdMoved d (t.setStage d k) :=
  h.trans ⟨.of_regs .refl, fun _ _ => rfl, List.Subset.refl _⟩

theorem owe (h : s.PdMoved d t) (o : Option Bool) : s.PdMoved d (t.owe d o) :=
  h.trans ⟨.of_regs .refl, fun _ _ => rfl, List.Subset.refl _⟩

theorem ite {c : Prop} [Decidable c] (ht : s.PdMoved d t) (hu : s.PdMoved d u) : s.PdMoved d (if c then t else u) := by
  split
  · exact ht
  · exact hu

theorem pd_ne (h : s.PdMoved d t) {e : Nat} (he : e ≠ d) : t.pd e = s.pd e :=
  congrArg (bitsAt · 24 3) (h.regs (Reg.CPM_PD_CTL e) (by simpa using pdCtl_ne he))

theorem pdEn_ne (h : s.PdMoved d t) {e : Nat} (he : e ≠ d) : t.pdEn e = s.pdEn e :=
  congrArg (bitAt · 31) (h.regs (Reg.CPM_PD_CTL e) (by simpa using pdCtl_ne he))

end State.PdMoved

/-! ### Array clusters forced down -/

/-- The domain's power-down is requested by force. -/
structure State.ForcedDown (s : State) (d : Nat) : Prop where
  pd : s.pd d = pdRequested
  forced : s.forced d = true
  en : s.pdEn d = false

theorem State.requestDown_of_array (s : State) {d : Nat} (hd : d < 10) (force : Bool) :
    s.requestDown d force = (s.setForced d force).setPd d pdRequested :=
  (if_neg (by simp only [PD_CRYPTO]; omega)).trans (if_neg (by simp only [PD_BNE]; omega))

theorem State.pdMoved_writeEn (s : State) {d : Nat} (hd : d < 10) : s.PdMoved d (s.writeEn d false true) := by
  have hen : s.PdMoved d (s.setEn d false) := .setFlag .refl ..
  have hdown : s.PdMoved d ((s.setEn d false).requestDown d true) := by
    rw [State.requestDown_of_array _ hd]
    exact (hen.setForced true).setPd _
  exact .ite (.ite ((hen.setStage 0).setPd _) hen) (.ite (.ite (hen.owe _) (hen.owe _)) (.ite (.ite hen hdown)
    (.ite (.ite (hen.setFlag ..) (.ite ((hen.setFlag ..).setForced true) (hen.setFlag ..))) (.ite (hen.setFlag ..) hen))))

/-- The force takes hold of a domain that runs, and keeps its hold. -/
theorem State.forcedDown_writeEn (s : State) {d : Nat} (hd : d < 10) (h : s.pd d = pdOn ∨ s.pd d = pdGated ∨ s.ForcedDown d) :
    (s.writeEn d false true).ForcedDown d := by
  have hen : (s.setEn d false).pdEn d = false := State.flag_setFlag _ _ _ _ (by decide)
  have hpd : (s.setEn d false).pd d = s.pd d := State.fld_setFlag_other _ _ _ _ _ _ _ (.inr (.inr (by decide)))
  have hruns : s.pd d = pdOn ∨ s.pd d = pdGated → (s.writeEn d false true).ForcedDown d := fun hon => by
    have hwrite : s.writeEn d false true = (s.setEn d false).requestDown d true := by
      refine (if_neg ?_).trans ((if_neg ?_).trans (if_pos hon)) <;> rcases hon with h | h <;> rw [h] <;> decide
    rw [hwrite, State.requestDown_of_array _ hd]
    exact ⟨State.pd_setPd _ _ (by decide),
      (congrArg (fun c : CpmState => c.forced.contains d) (State.cpm_setPd _ _ _)).trans (State.forced_setForced _ _ _),
      (State.flag_setPd _ _ _ _ _ (.inr (by decide)) (by decide)).trans hen⟩
  rcases h with h | h | h
  · exact hruns (.inl h)
  · exact hruns (.inr h)
  · have hwrite : s.writeEn d false true = ((s.setEn d false).setEnPending d false).setForced d true := by
      refine (if_neg ?_).trans ((if_neg ?_).trans ((if_neg ?_).trans (if_pos h.pd))) <;> rw [h.pd] <;> decide
    rw [hwrite]
    exact ⟨(State.fld_setFlag_other _ _ _ _ _ _ _ (.inr (.inr (by decide)))).trans (hpd.trans h.pd),
      State.forced_setForced _ _ _, (State.flag_setFlag_other _ _ _ _ _ _ (.inr (by decide))).trans hen⟩

/-- The clusters forced down one after another. -/
def State.forceClusters (s : State) (ks : List Nat) : State := ks.foldl (fun u k => u.writeEn (PD_ARRAY k) false true) s

theorem State.forcedDown_forceClusters {ks : List Nat} (hks : ∀ k ∈ ks, k < 8) {k : Nat}
    (h : (k ∈ ks ∧ (s.pd (PD_ARRAY k) = pdOn ∨ s.pd (PD_ARRAY k) = pdGated)) ∨ s.ForcedDown (PD_ARRAY k)) :
    (s.forceClusters ks).ForcedDown (PD_ARRAY k) := by
  induction ks generalizing s with
  | nil => exact h.elim (fun h => absurd h.1 List.not_mem_nil) id
  | cons j js ih =>
    have hj : PD_ARRAY j < 10 := by
      have := hks j List.mem_cons_self
      simp only [PD_ARRAY]
      omega
    refine ih (fun i hi => hks i (List.mem_cons_of_mem _ hi)) ?_
    by_cases hjk : k = j
    · subst hjk
      exact .inr (s.forcedDown_writeEn hj (h.elim (fun h => or_assoc.mp (.inl h.2)) fun h => .inr (.inr h)))
    · have hsw := s.pdMoved_writeEn hj
      have hne : PD_ARRAY k ≠ PD_ARRAY j := by
        simp only [PD_ARRAY]
        omega
      rcases h with ⟨hmem, hon⟩ | h
      · exact .inl ⟨(List.mem_cons.mp hmem).resolve_left hjk, (hsw.pd_ne hne).symm ▸ hon⟩
      · exact .inr ⟨(hsw.pd_ne hne).trans h.pd, (hsw.forced _ hne).trans h.forced, (hsw.pdEn_ne hne).trans h.en⟩

/-- The registers that hold the controls of the clusters. -/
def clusterCtls : List Nat := (List.range 8).map fun k => Reg.CPM_PD_CTL (PD_ARRAY k)

theorem State.forceClusters_frame (s : State) {ks : List Nat} (hks : ∀ k ∈ ks, k < 8) :
    s.keepsRegs (s.forceClusters ks) clusterCtls ∧ s.raised ⊆ (s.forceClusters ks).raised := by
  induction ks generalizing s with
  | nil => exact ⟨.refl, List.Subset.refl _⟩
  | cons j js ih =>
    have hj := hks j List.mem_cons_self
    have hsw := s.pdMoved_writeEn (d := PD_ARRAY j) (by simp only [PD_ARRAY]; omega)
    obtain ⟨hregs, hraised⟩ := ih (s := s.writeEn (PD_ARRAY j) false true) fun i hi => hks i (List.mem_cons_of_mem _ hi)
    have hmem : [Reg.CPM_PD_CTL (PD_ARRAY j)] ⊆ clusterCtls :=
      List.cons_subset.mpr ⟨List.mem_map.mpr ⟨j, List.mem_range.mpr hj, rfl⟩, List.nil_subset _⟩
    exact ⟨(hsw.regs.mono hmem).trans hregs, List.Subset.trans hsw.raised hraised⟩

/-! ### A cause of SAFE -/

/-- The registers that a cause of SAFE moves beside those of a change of mode. -/
def causeRegs : List Nat := [Reg.GCTL_CAUSE, Reg.GCTL_MODESTAT]

theorem State.keepsRegs_supersede (s : State) : s.keepsRegs s.supersede [Reg.GCTL_MODESTAT] :=
  .ite (.of_regs (.setFld (o := Reg.GCTL_MODESTAT) (.setFlag (o := Reg.GCTL_MODESTAT) .refl))) .refl

/-- The state in which a cause of SAFE is noted, before the mode changes. -/
theorem State.safeCause_noted (s : State) {bit : Nat} (hbit : bit < 32) : ∃ u : State, s.keepsRegs u causeRegs ∧ u.cpm = s.cpm ∧
    u.raised = s.raised ∧ (s.mode ≠ modeOff → s.mode ≠ modeReset → u.flag Reg.GCTL_CAUSE bit = true) ∧
    u.Moved roleRegs (s.safeCause bit) := by
  have hnote : s.keepsRegs (s.setFlag Reg.GCTL_CAUSE bit true) causeRegs := .setFlag (o := Reg.GCTL_CAUSE) .refl
  have hflag : (s.setFlag Reg.GCTL_CAUSE bit true).flag Reg.GCTL_CAUSE bit = true := State.flag_setFlag _ _ _ _ hbit
  by_cases hoff : s.mode = modeOff ∨ s.mode = modeReset
  · exact ⟨s, .refl, rfl, rfl, fun h h' => absurd hoff (not_or.mpr ⟨h, h'⟩), by rw [State.safeCause, if_pos hoff]; exact .refl⟩
  · by_cases hwait : s.mode = modeBoot ∨ s.mode = modeDormant
    · rw [State.safeCause_of_waiting hwait]
      have hnoted : s.keepsRegs { s.setFlag Reg.GCTL_CAUSE bit true with gctl := { s.gctl with causes := s.gctl.causes ++ [bit] } }
          causeRegs := .of_regs hnote
      exact ⟨_, hnoted, rfl, rfl, fun _ _ => hflag, .refl⟩
    · rw [State.safeCause, if_neg hoff]
      dsimp only
      rw [if_neg hwait]
      have hsup := (s.setFlag Reg.GCTL_CAUSE bit true).keepsRegs_supersede
      refine ⟨_, hnote.trans (hsup.mono (by decide)), ?_, ?_, fun _ _ => ?_, State.moved_enterMode .refl _⟩
      · unfold State.supersede
        split <;> rfl
      · unfold State.supersede
        split <;> rfl
      · exact (congrArg (bitAt · bit) (hsup Reg.GCTL_CAUSE (by decide))).trans hflag

end Sys2Proof.Machine
end

section
/-!
Temperatures (R433 to R436): the cap of the level, the trip, and the sensors.
-/
namespace Sys2Proof.Machine

/-- The registers that a change of TCAP moves. -/
def tcapRegs : List Nat := [Reg.CPM_PLEVEL, Reg.CPM_CLKSEL, Reg.CPM_PLL, Reg.CPM_STICKY]

/-- The state with TCAP written, before a sequence starts. -/
def State.tcapWritten (s : State) (k : Nat) : State :=
  let t := (s.setFld Reg.CPM_PLEVEL 8 2 k).raise 217
  if s.fld Reg.CPM_PLEVEL 8 2 < k then t.cpmSticky 7 else t

theorem State.setTcap_of_ne {s : State} {k : Nat} (h : s.fld Reg.CPM_PLEVEL 8 2 ≠ k) : s.setTcap k = (s.tcapWritten k).startLevel :=
  if_neg h

theorem State.keepsRegs_tcapWritten (s : State) (k : Nat) : s.keepsRegs (s.tcapWritten k) tcapRegs := by
  have hset : s.keepsRegs ((s.setFld Reg.CPM_PLEVEL 8 2 k).raise 217) tcapRegs := .raise (.setFld (o := Reg.CPM_PLEVEL) .refl)
  exact .ite (.setFlag (o := Reg.CPM_STICKY) hset) hset

theorem State.tcap_tcapWritten (s : State) {k : Nat} (hk : k < 4) : (s.tcapWritten k).fld Reg.CPM_PLEVEL 8 2 = k := by
  have hset : (s.setFld Reg.CPM_PLEVEL 8 2 k).fld Reg.CPM_PLEVEL 8 2 = k :=
    (State.fld_setFld _ _ _ _ _ (by decide)).trans (Nat.mod_eq_of_lt hk)
  unfold State.tcapWritten
  dsimp only
  split
  · exact (State.fld_setFlag_other _ _ _ _ _ _ _ (.inl (by decide))).trans hset
  · exact hset

theorem State.raised_tcapWritten (s : State) (k : Nat) : (s.tcapWritten k).raised = s.raised ++ [⟨217, 0, 0⟩] := by
  unfold State.tcapWritten
  dsimp only
  split <;> rfl

theorem State.keepsRegs_setTcap (s : State) (k : Nat) : s.keepsRegs (s.setTcap k) tcapRegs :=
  .ite .refl ((s.keepsRegs_tcapWritten k).trans ((State.levelled_startLevel _).regs.mono (by decide)))

theorem State.tcap_setTcap (s : State) {k : Nat} (hk : k < 4) : (s.setTcap k).fld Reg.CPM_PLEVEL 8 2 = k := by
  by_cases h : s.fld Reg.CPM_PLEVEL 8 2 = k
  · rw [State.setTcap, if_pos h, h]
  · rw [State.setTcap_of_ne h, State.fld_startLevel _ (by decide), s.tcap_tcapWritten hk]

theorem State.raised_setTcap (s : State) (k : Nat) :
    s.raised ⊆ (s.setTcap k).raised ∧ (s.fld Reg.CPM_PLEVEL 8 2 ≠ k → (⟨217, 0, 0⟩ : Raise) ∈ (s.setTcap k).raised) := by
  by_cases h : s.fld Reg.CPM_PLEVEL 8 2 = k
  · rw [State.setTcap, if_pos h]
    exact ⟨List.Subset.refl _, fun hn => absurd h hn⟩
  · rw [State.setTcap_of_ne h]
    have hraised := (State.levelled_startLevel (s.tcapWritten k)).raised
    rw [s.raised_tcapWritten] at hraised
    exact ⟨List.Subset.trans (List.subset_append_left _ _) hraised, fun _ => hraised (List.mem_append_right _ List.mem_cons_self)⟩

/-- A rise of TCAP sets its sticky bit. -/
theorem State.sticky_setTcap (s : State) {k : Nat} (h : s.fld Reg.CPM_PLEVEL 8 2 < k) :
    (s.setTcap k).flag Reg.CPM_STICKY 7 = true := by
  rw [State.setTcap_of_ne (Nat.ne_of_lt h)]
  refine (congrArg (bitAt · 7) ((State.levelled_startLevel _).regs Reg.CPM_STICKY (by decide))).trans ?_
  rw [State.tcapWritten, if_pos h]
  exact State.flag_setFlag _ _ _ _ (by decide)

/-- A field of two bits is below 4. -/
theorem State.tcap_lt (s : State) : s.fld Reg.CPM_PLEVEL 8 2 < 4 := Nat.mod_lt _ (by decide)

/-! ### The check -/

/-- The cap that the check gives, where it changes at all. -/
def State.capped (s : State) (held : Bool) : State :=
  if s.flag (Reg.CPM_TEMP 0) 1 then s.setTcap 3
  else if held ∧ ((s.fld Reg.CPM_THERM 16 8 : Int) * 256) ≤ s.junction then s.setTcap (min 3 (s.fld Reg.CPM_PLEVEL 8 2 + 1))
  else if held ∧ s.junction ≤ ((s.fld Reg.CPM_THERM 8 8 : Int) * 256) then s.setTcap (s.fld Reg.CPM_PLEVEL 8 2 - 1)
  else s

theorem exec_thermalCheck_cool {s : State} {held : Bool} (h : s.junction < ((s.fld Reg.CPM_THERM 24 8 : Int) * 256)) :
    exec (.thermalCheck held) s = .next { s.capped held with cpm := { (s.capped held).cpm with tripped := false } } := by
  change execThermalCheck held s = _
  unfold execThermalCheck
  dsimp only
  rw [decide_eq_false (not_le.mpr h)]
  rfl

theorem exec_thermalCheck_hot {s : State} {held : Bool} (h : ((s.fld Reg.CPM_THERM 24 8 : Int) * 256) ≤ s.junction)
    (htrip : s.cpm.tripped = false) :
    exec (.thermalCheck held) s = .next { (s.capped held).trip with cpm := { (s.capped held).trip.cpm with tripped := true } } := by
  change execThermalCheck held s = _
  unfold execThermalCheck
  dsimp only
  rw [decide_eq_true h, htrip]
  rfl

theorem exec_thermalCheck_failed {s : State} {held : Bool} (h : s.junction < ((s.fld Reg.CPM_THERM 24 8 : Int) * 256))
    (hfail : s.flag (Reg.CPM_TEMP 0) 1 = true) : ∃ t, exec (.thermalCheck held) s = .next t ∧ t.fld Reg.CPM_PLEVEL 8 2 = 3 ∧
      t.cpm.tripped = false ∧
      (s.fld Reg.CPM_PLEVEL 8 2 ≠ 3 → (⟨217, 0, 0⟩ : Raise) ∈ t.raised ∧ t.flag Reg.CPM_STICKY 7 = true) := by
  have hcap : s.capped held = s.setTcap 3 := if_pos hfail
  refine ⟨_, exec_thermalCheck_cool h, ?_, rfl, fun hne => ?_⟩
  · exact (congrArg (fun u : State => u.fld Reg.CPM_PLEVEL 8 2) hcap).trans (s.tcap_setTcap (by decide))
  · have hlt : s.fld Reg.CPM_PLEVEL 8 2 < 3 := by
      have := s.tcap_lt
      omega
    exact ⟨(congrArg State.raised hcap).symm ▸ (s.raised_setTcap 3).2 hne,
      (congrArg (fun u : State => u.flag Reg.CPM_STICKY 7) hcap).trans (s.sticky_setTcap hlt)⟩

theorem exec_thermalCheck_steps {s : State} {held : Bool} (h : s.junction < ((s.fld Reg.CPM_THERM 24 8 : Int) * 256))
    (hfail : s.flag (Reg.CPM_TEMP 0) 1 = false) : ∃ t, exec (.thermalCheck held) s = .next t ∧ t.cpm.tripped = false ∧
      t.fld Reg.CPM_PLEVEL 8 2 = (if held = true ∧ ((s.fld Reg.CPM_THERM 16 8 : Int) * 256) ≤ s.junction
          then min 3 (s.fld Reg.CPM_PLEVEL 8 2 + 1)
        else if held = true ∧ s.junction ≤ ((s.fld Reg.CPM_THERM 8 8 : Int) * 256) then s.fld Reg.CPM_PLEVEL 8 2 - 1
        else s.fld Reg.CPM_PLEVEL 8 2) ∧
      (t.fld Reg.CPM_PLEVEL 8 2 ≠ s.fld Reg.CPM_PLEVEL 8 2 → (⟨217, 0, 0⟩ : Raise) ∈ t.raised) := by
  have hlt := s.tcap_lt
  have hmove : ∀ k, k < 4 → s.capped held = s.setTcap k → (s.capped held).fld Reg.CPM_PLEVEL 8 2 = k ∧
      ((s.capped held).fld Reg.CPM_PLEVEL 8 2 ≠ s.fld Reg.CPM_PLEVEL 8 2 → (⟨217, 0, 0⟩ : Raise) ∈ (s.capped held).raised) :=
    fun k hk he => by
      rw [he, s.tcap_setTcap hk]
      exact ⟨rfl, fun hne => (s.raised_setTcap k).2 hne.symm⟩
  refine ⟨_, exec_thermalCheck_cool h, rfl, ?_⟩
  by_cases hup : held = true ∧ ((s.fld Reg.CPM_THERM 16 8 : Int) * 256) ≤ s.junction
  · rw [if_pos hup]
    exact hmove _ (by omega) ((if_neg (by simp [hfail])).trans (if_pos hup))
  · rw [if_neg hup]
    by_cases hdown : held = true ∧ s.junction ≤ ((s.fld Reg.CPM_THERM 8 8 : Int) * 256)
    · rw [if_pos hdown]
      exact hmove _ (by omega) ((if_neg (by simp [hfail])).trans ((if_neg hup).trans (if_pos hdown)))
    · rw [if_neg hdown]
      have hcap : s.capped held = s := (if_neg (by simp [hfail])).trans ((if_neg hup).trans (if_neg hdown))
      have hfld := congrArg (fun u : State => u.fld Reg.CPM_PLEVEL 8 2) hcap
      exact ⟨hfld, fun hne => absurd hfld hne⟩

theorem State.keepsRegs_capped (s : State) (held : Bool) : s.keepsRegs (s.capped held) tcapRegs :=
  .ite (s.keepsRegs_setTcap 3) (.ite (s.keepsRegs_setTcap _) (.ite (s.keepsRegs_setTcap _) .refl))

/-- The clusters' controls are none of the registers that the trip moves beside them. -/
theorem arrayCtl_notMem (k : Fin 8) : Reg.CPM_PD_CTL (PD_ARRAY k.val) ∉ Reg.CPM_STICKY :: tcapRegs ∧
    Reg.CPM_PD_CTL (PD_ARRAY k.val) ∉ causeRegs ∧ Reg.CPM_PD_CTL (PD_ARRAY k.val) ∉ roleRegs ∧
    ¬ signalReg (Reg.CPM_PD_CTL (PD_ARRAY k.val)) := by decide +revert

/-- The trip: sticky bit, event, cause of SAFE, and every running cluster forced down. -/
theorem State.trip_spec (s : State) : s.trip.flag Reg.CPM_STICKY 9 = true ∧ (⟨218, 0, 0⟩ : Raise) ∈ s.trip.raised ∧
    (s.mode ≠ modeOff → s.mode ≠ modeReset → s.trip.flag Reg.GCTL_CAUSE causeTrip = true) ∧
    ∀ k : Fin 8, (s.pd (PD_ARRAY k.val) = pdOn ∨ s.pd (PD_ARRAY k.val) = pdGated) → s.trip.ForcedDown (PD_ARRAY k.val) := by
  have hks : ∀ k ∈ List.range 8, k < 8 := fun k hk => List.mem_range.mp hk
  obtain ⟨hregs, hraised⟩ := ((s.cpmSticky 9).raise 218).forceClusters_frame hks
  have hdown := fun k : Fin 8 => State.forcedDown_forceClusters (s := (s.cpmSticky 9).raise 218) hks (k := k.val)
  generalize hv : ((s.cpmSticky 9).raise 218).forceClusters (List.range 8) = v at hregs hraised hdown
  have htrip : s.trip = v.safeCause causeTrip := by rw [← hv]; rfl
  have hset : s.keepsRegs (s.cpmSticky 9) [Reg.CPM_STICKY] := .setFlag (o := Reg.CPM_STICKY) .refl
  have hmode : v.mode = s.mode := congrArg (bitsAt · 0 4)
    ((hregs Reg.GCTL_STATUS (by decide)).trans (hset Reg.GCTL_STATUS (by decide)))
  obtain ⟨u, hnote, hcpm, hsame, hcause, hmoved⟩ := v.safeCause_noted (bit := causeTrip) (by decide)
  rw [htrip]
  refine ⟨?_, ?_, fun hoff hreset => ?_, fun k hk => ?_⟩
  · rw [hmoved.flag (by decide) (by decide)]
    refine (congrArg (bitAt · 9) ((hnote Reg.CPM_STICKY (by decide)).trans (hregs Reg.CPM_STICKY (by decide)))).trans ?_
    exact State.flag_setFlag s Reg.CPM_STICKY 9 true (by decide)
  · refine hmoved.raised ?_
    rw [hsame]
    exact hraised (List.mem_append_right _ List.mem_cons_self)
  · rw [hmoved.flag (by decide) (by decide)]
    exact hcause (hmode.symm ▸ hoff) (hmode.symm ▸ hreset)
  · obtain ⟨hctl, hcauses, hroles, hsignal⟩ := arrayCtl_notMem k
    have hpd : ((s.cpmSticky 9).raise 218).pd (PD_ARRAY k.val) = s.pd (PD_ARRAY k.val) :=
      congrArg (bitsAt · 24 3) (hset (Reg.CPM_PD_CTL (PD_ARRAY k.val)) fun hm => hctl (List.mem_cons.mpr (.inl (List.mem_singleton.mp hm))))
    have hk' := hdown k (.inl ⟨List.mem_range.mpr k.isLt, by rw [hpd]; exact hk⟩)
    have hreg : (v.safeCause causeTrip).rd (Reg.CPM_PD_CTL (PD_ARRAY k.val)) = v.rd (Reg.CPM_PD_CTL (PD_ARRAY k.val)) :=
      (hmoved.regs _ hsignal hroles).trans (hnote _ hcauses)
    exact ⟨(congrArg (bitsAt · 24 3) hreg).trans hk'.pd,
      (congrArg (fun c : CpmState => c.forced.contains _) (hmoved.cpm.trans hcpm)).trans hk'.forced,
      (congrArg (bitAt · 31) hreg).trans hk'.en⟩

theorem exec_thermalCheck_trips {s : State} {held : Bool} (h : ((s.fld Reg.CPM_THERM 24 8 : Int) * 256) ≤ s.junction)
    (htrip : s.cpm.tripped = false) :
    ∃ t, exec (.thermalCheck held) s = .next t ∧ t.cpm.tripped = true ∧ t.flag Reg.CPM_STICKY 9 = true ∧
      (⟨218, 0, 0⟩ : Raise) ∈ t.raised ∧ (s.mode ≠ modeOff → s.mode ≠ modeReset → t.flag Reg.GCTL_CAUSE causeTrip = true) ∧
      ∀ k : Fin 8, (s.pd (PD_ARRAY k.val) = pdOn ∨ s.pd (PD_ARRAY k.val) = pdGated) → t.pd (PD_ARRAY k.val) = pdRequested ∧
        t.forced (PD_ARRAY k.val) = true ∧ t.pdEn (PD_ARRAY k.val) = false := by
  have hkeep := s.keepsRegs_capped held
  have hmode : (s.capped held).mode = s.mode := congrArg (bitsAt · 0 4) (hkeep Reg.GCTL_STATUS (by decide))
  obtain ⟨hsticky, hraised, hcause, hdown⟩ := (s.capped held).trip_spec
  rw [hmode] at hcause
  refine ⟨_, exec_thermalCheck_hot h htrip, rfl, hsticky, hraised, hcause, fun k hk => ?_⟩
  have hpd : (s.capped held).pd (PD_ARRAY k.val) = s.pd (PD_ARRAY k.val) :=
    congrArg (bitsAt · 24 3) (hkeep (Reg.CPM_PD_CTL (PD_ARRAY k.val)) fun hm => (arrayCtl_notMem k).1 (List.mem_cons_of_mem _ hm))
  obtain ⟨hreq, hforced, hen⟩ := hdown k (by rwa [hpd])
  exact ⟨hreq, hforced, hen⟩

end Sys2Proof.Machine
end

section
/-!
Sensors (R434, R435), transfers of the I2C masters (R437, R438), the wake alarm (R432) and the balls (R439).
-/
namespace Sys2Proof.Machine

/-! ### The sensors -/

/-- The sensor is asked: it is the die's own, or it is configured and its master is free. -/
def State.polls (s : State) (n : Fin 3) : Prop :=
  n.val = 0 ∨ (s.flag (Reg.CPM_TSCFG (n.val - 1)) 31 = true ∧ ∀ e ∈ s.cpm.transfers, e.1 ≠ 0)

/-- The bus to the sensor works. -/
def State.sensorBus (s : State) (n : Fin 3) : Bool := n.val = 0 || s.flag (Reg.CPM_I2C_CTL 0) 31

/-- The state in which the sensor has been asked. -/
def State.sensorAsked (s : State) (n : Fin 3) : State := if n.val = 0 ∨ s.sensorBus n = false then s else s.pollSensor (n.val - 1)

/-- What a poll does with a valid reading, or none. -/
def State.sensorTaken (s : State) (n : Fin 3) (valid : Option (BitVec 16)) (stale : Bool) : State :=
  match valid with
  | some v => s.wr (Reg.CPM_TEMP n.val) (BitVec.ofNat 32 (v.toNat * 2 ^ 16 + 1))
  | none =>
    if stale = false ∨ s.flag (Reg.CPM_TEMP n.val) 1 then s
    else
      let t := ((s.setFlag (Reg.CPM_TEMP n.val) 1 true).cpmSticky 8).raise 219 (BitVec.ofNat 32 n.val)
      if n.val = 0 then t.setTcap 3 else t

theorem State.sensorTaken_fresh (s : State) (n : Fin 3) : s.sensorTaken n none false = s := by
  unfold State.sensorTaken
  exact if_pos (.inl rfl)

theorem exec_sensorPoll_polled {s : State} {n : Fin 3} (hmode : 2 ≤ s.mode) (hpoll : s.polls n) (reading : Option (BitVec 16))
    (stale : Bool) : exec (.sensorPoll n reading stale) s = .next ((s.sensorAsked n).sensorTaken n (reading.filter fun v =>
      s.sensorBus n && decide (-55 * 256 ≤ v.toInt) && decide (v.toInt ≤ 150 * 256)) stale) := by
  have hpolled : ¬ ((n.val = 0 || (s.flag (Reg.CPM_TSCFG (n.val - 1)) 31 && !(s.cpm.transfers.any fun e => e.1 == 0))) = false
      ∨ s.mode < 2) := by
    rintro (h | h)
    · simp only [Bool.or_eq_false_iff, decide_eq_false_iff_not] at h
      obtain ⟨hflag, hfree⟩ := hpoll.resolve_left h.1
      rw [hflag, Bool.true_and, Bool.not_eq_false', List.any_eq_true] at h
      obtain ⟨e, hmem, he⟩ := h.2
      exact hfree e hmem (by simpa using he)
    · omega
  exact congrArg Host.Outcome.next (if_neg hpolled)

theorem State.sensorAsked_of_idle {s : State} {n : Fin 3} (h : n.val = 0 ∨ s.flag (Reg.CPM_I2C_CTL 0) 31 = false) :
    s.sensorAsked n = s := by
  refine if_pos (or_iff_not_imp_left.mpr fun hn => ?_)
  simp [State.sensorBus, hn, h.resolve_left hn]

theorem State.regs_sensorAsked (s : State) (n : Fin 3) : (s.sensorAsked n).regs = s.regs := by
  unfold State.sensorAsked
  split <;> rfl

theorem exec_sensorPoll_valid {s : State} {n : Fin 3} {v : BitVec 16} (hmode : 2 ≤ s.mode) (hlo : -14080 ≤ v.toInt)
    (hhi : v.toInt ≤ 38400) (hpoll : s.polls n) (stale : Bool) :
    (n.val = 0 → exec (.sensorPoll n (some v) stale) s = .next (s.wr (Reg.CPM_TEMP n.val) (BitVec.ofNat 32 (v.toNat * 2 ^ 16 + 1)))) ∧
    (n.val ≠ 0 → s.flag (Reg.CPM_I2C_CTL 0) 31 = true → ∃ t, exec (.sensorPoll n (some v) stale) s = .next t ∧
      t.rd (Reg.CPM_TEMP n.val) = BitVec.ofNat 32 (v.toNat * 2 ^ 16 + 1) ∧ s.keepsRegs t [Reg.CPM_TEMP n.val] ∧
      t.cpm.i2c = s.cpm.i2c ++ [(0, s.fld (Reg.CPM_TSCFG (n.val - 1)) 8 7,
        [BitVec.ofNat 8 (s.fld (Reg.CPM_TSCFG (n.val - 1)) 0 8)])]) ∧
    (n.val ≠ 0 → s.flag (Reg.CPM_I2C_CTL 0) 31 = false → exec (.sensorPoll n (some v) false) s = .next s) := by
  have hrange : (some v).filter (fun v => s.sensorBus n && decide (-55 * 256 ≤ v.toInt) && decide (v.toInt ≤ 150 * 256)) =
      if s.sensorBus n then some v else none := by
    have hlo' : -55 * 256 ≤ v.toInt := by omega
    have hhi' : v.toInt ≤ 150 * 256 := by omega
    simp only [Option.filter_some, decide_eq_true hlo', decide_eq_true hhi', Bool.and_true]
  have hexec := fun stale => exec_sensorPoll_polled hmode hpoll (some v) stale
  simp only [hrange] at hexec
  refine ⟨fun hn => ?_, fun hn hbus => ⟨_, hexec stale, ?_⟩, fun hn hbus => ?_⟩
  · rw [hexec, if_pos (by simp [State.sensorBus, hn]), State.sensorAsked_of_idle (.inl hn)]
    rfl
  · have hworks : s.sensorBus n = true := by simp [State.sensorBus, hbus]
    have hasked : s.sensorAsked n = s.pollSensor (n.val - 1) := if_neg (by simp [hn, hworks])
    rw [if_pos hworks, hasked]
    exact ⟨State.rd_wr_same .., .wr (o := Reg.CPM_TEMP n.val) (.of_regs .refl) List.mem_cons_self, rfl⟩
  · rw [hexec, if_neg (by simp [State.sensorBus, hn, hbus]), State.sensorAsked_of_idle (.inr hbus)]
    exact congrArg Host.Outcome.next (s.sensorTaken_fresh n)

theorem State.sensorTaken_stale {s : State} {n : Fin 3} (h : s.flag (Reg.CPM_TEMP n.val) 1 = false) :
    (s.sensorTaken n none true).flag (Reg.CPM_TEMP n.val) 1 = true ∧ (s.sensorTaken n none true).flag Reg.CPM_STICKY 8 = true ∧
    (⟨219, BitVec.ofNat 32 n.val, 0⟩ : Raise) ∈ (s.sensorTaken n none true).raised ∧
    (n.val = 0 → (s.sensorTaken n none true).fld Reg.CPM_PLEVEL 8 2 = 3) := by
  have htemp : ∀ n : Fin 3, Reg.CPM_TEMP n.val ∉ tcapRegs ∧ Reg.CPM_TEMP n.val ≠ Reg.CPM_STICKY := by decide
  obtain ⟨htcap, hsticky⟩ := htemp n
  let u := ((s.setFlag (Reg.CPM_TEMP n.val) 1 true).cpmSticky 8).raise 219 (BitVec.ofNat 32 n.val)
  have hstale : u.flag (Reg.CPM_TEMP n.val) 1 = true :=
    (State.flag_setFlag_other _ _ _ _ _ _ (.inl hsticky)).trans (State.flag_setFlag _ _ _ _ (by decide))
  have hset : u.flag Reg.CPM_STICKY 8 = true := State.flag_setFlag _ _ _ _ (by decide)
  have htaken : s.sensorTaken n none true = if n.val = 0 then u.setTcap 3 else u := if_neg (by simp [h])
  rw [htaken]
  split
  · next hn =>
    refine ⟨(congrArg (bitAt · 1) (u.keepsRegs_setTcap 3 _ htcap)).trans hstale, ?_,
      (u.raised_setTcap 3).1 (List.mem_append_right _ List.mem_cons_self), fun _ => u.tcap_setTcap (by decide)⟩
    unfold State.setTcap
    split
    · exact hset
    · refine (congrArg (bitAt · 8) ((State.levelled_startLevel _).regs Reg.CPM_STICKY (by decide))).trans ?_
      refine Eq.trans ?_ hset
      split
      · exact (State.flag_setFlag_other _ _ _ _ _ _ (.inr (by decide))).trans (State.flag_setFld_other _ _ _ _ _ _ _ (.inl (by decide)) (by decide))
      · exact State.flag_setFld_other _ _ _ _ _ _ _ (.inl (by decide)) (by decide)
  · next hn => exact ⟨hstale, hset, List.mem_append_right _ List.mem_cons_self, fun h0 => absurd h0 hn⟩

theorem exec_sensorPoll_none {s : State} {n : Fin 3} (hmode : 2 ≤ s.mode) (hfresh : s.flag (Reg.CPM_TEMP n.val) 1 = false)
    (hpoll : s.polls n) :
    (n.val = 0 ∨ s.flag (Reg.CPM_I2C_CTL 0) 31 = false → exec (.sensorPoll n none false) s = .next s) ∧
    ∃ t, exec (.sensorPoll n none true) s = .next t ∧ t.flag (Reg.CPM_TEMP n.val) 1 = true ∧ t.flag Reg.CPM_STICKY 8 = true ∧
      (⟨219, BitVec.ofNat 32 n.val, 0⟩ : Raise) ∈ t.raised ∧ (n.val = 0 → t.fld Reg.CPM_PLEVEL 8 2 = 3) := by
  refine ⟨fun h => ?_, _, exec_sensorPoll_polled hmode hpoll none true, State.sensorTaken_stale ?_⟩
  · rw [exec_sensorPoll_polled hmode hpoll, State.sensorAsked_of_idle h]
    exact congrArg Host.Outcome.next (s.sensorTaken_fresh n)
  · rw [State.flag, State.rd_of_regs _ _ (s.regs_sensorAsked n)]
    exact hfresh

/-! ### The I2C masters -/

theorem exec_i2cTransfer_of_opens {s : State} {ag : Agent} {m : Fin 2} {v : Word} (ho : s.opens ag (Reg.CPM_I2C_XFER m.val) = true) :
    exec (.i2cTransfer ag m v) s = .next (s.writeXfer ag m.val v) := by
  change execI2cTransfer ag m v s = _
  rw [execI2cTransfer, State.writeAccess_opens _ _ _ _ _ ho]

theorem i2cStat_ne (m : Fin 2) : Reg.CPM_I2C_STAT m.val ≠ Reg.CPM_I2C_DATA0 m.val ∧
    Reg.CPM_I2C_STAT m.val ≠ Reg.CPM_I2C_DATA1 m.val ∧ Reg.CPM_I2C_DATA0 m.val ≠ Reg.CPM_I2C_DATA1 m.val := by
  simp only [Reg.CPM_I2C_STAT, Reg.CPM_I2C_DATA0, Reg.CPM_I2C_DATA1]
  omega

/-- A write of the status leaves the data. -/
theorem State.i2cData_wr_stat (s : State) (m : Fin 2) (v : Word) : (s.wr (Reg.CPM_I2C_STAT m.val) v).i2cData m.val = s.i2cData m.val := by
  obtain ⟨h0, h1, _⟩ := i2cStat_ne m
  rw [State.i2cData, State.rd_wr_ne _ _ _ _ h0.symm, State.rd_wr_ne _ _ _ _ h1.symm]
  rfl

/-- The state in which a transfer runs. -/
def State.xferStarted (s : State) (m : Nat) (v : Word) : State :=
  let t := s.wr (Reg.CPM_I2C_STAT m) 0x80000000
  { t with cpm := { t.cpm with
    transfers := t.cpm.transfers ++ [(m, v)], i2c := t.cpm.i2c ++ [(m, bitsAt v 16 7, (t.i2cData m).take (bitsAt v 8 4))] } }

theorem exec_i2cTransfer_owned {s : State} {ag : Agent} {m : Fin 2} {v : Word} (ho : s.opens ag (Reg.CPM_I2C_XFER m.val) = true)
    (hown : s.ownsI2c m.val ag = true) (hgo : bitAt v 31 = true) (hen : s.flag (Reg.CPM_I2C_CTL m.val) 31 = true)
    (hw : bitsAt v 8 4 ≤ 8) (hr : bitsAt v 0 4 ≤ 8) (hsome : bitsAt v 8 4 ≠ 0 ∨ bitsAt v 0 4 ≠ 0) :
    ∃ t, exec (.i2cTransfer ag m v) s = .next t ∧
      (s.flag (Reg.CPM_I2C_STAT m.val) 31 = true → t = s.error Reg.CPM_ERR 6 222) ∧
      (s.flag (Reg.CPM_I2C_STAT m.val) 31 = false → t.rd (Reg.CPM_I2C_STAT m.val) = 0x80000000 ∧
        t.cpm.transfers = s.cpm.transfers ++ [(m.val, v)] ∧
        t.cpm.i2c = s.cpm.i2c ++ [(m.val, bitsAt v 16 7, (s.i2cData m.val).take (bitsAt v 8 4))] ∧
        s.keepsRegs t [Reg.CPM_I2C_STAT m.val]) := by
  have hlegal : s.writeXfer ag m.val v = if s.flag (Reg.CPM_I2C_STAT m.val) 31 then s.error Reg.CPM_ERR 6 222
      else s.xferStarted m.val v := by
    unfold State.writeXfer
    dsimp only
    rw [if_neg (by simp [hown]), if_neg (by simp [hgo, hen]), if_neg (by omega)]
    rfl
  refine ⟨_, (exec_i2cTransfer_of_opens ho).trans (congrArg Host.Outcome.next hlegal), fun hbusy => if_pos hbusy, fun hidle => ?_⟩
  rw [if_neg (by simp [hidle])]
  exact ⟨State.rd_wr_same .., rfl, congrArg (fun bs : List Byte => s.cpm.i2c ++ [(m.val, bitsAt v 16 7, bs.take (bitsAt v 8 4))])
    (s.i2cData_wr_stat m _), .of_regs (.wr (o := Reg.CPM_I2C_STAT m.val) .refl List.mem_cons_self)⟩

theorem exec_i2cTransfer_foreign {s : State} {ag : Agent} {m : Fin 2} {v : Word} (ho : s.opens ag (Reg.CPM_I2C_XFER m.val) = true)
    (hown : s.ownsI2c m.val ag = false) : exec (.i2cTransfer ag m v) s = .next (s.error Reg.CPM_ERR 2 222) :=
  (exec_i2cTransfer_of_opens ho).trans (congrArg Host.Outcome.next (if_pos hown))

/-- The bytes that a transfer has read, followed by the bytes that stay. -/
theorem State.i2cData_setI2cData (s : State) (m : Fin 2) {bs : List Byte} (h : bs.length ≤ 8) :
    (s.setI2cData m.val bs).i2cData m.val = bs ++ (s.i2cData m.val).drop bs.length := by
  have hlen : (bs ++ (s.i2cData m.val).drop bs.length).length = 8 := by
    simp only [List.length_append, List.length_drop, State.i2cData, length_leBytes]
    omega
  have hne := (i2cStat_ne m).2.2
  generalize hall : bs ++ (s.i2cData m.val).drop bs.length = all at hlen
  have hset : s.setI2cData m.val bs = (s.wr (Reg.CPM_I2C_DATA0 m.val) (BitVec.ofNat 32 (ofLeBytes (all.take 4)))).wr
      (Reg.CPM_I2C_DATA1 m.val) (BitVec.ofNat 32 (ofLeBytes ((all.drop 4).take 4))) := by
    rw [← hall]
    rfl
  rw [hset, State.i2cData, State.rd_wr_ne _ _ _ _ hne, State.rd_wr_same, State.rd_wr_same,
    leBytes_ofLeBytes_four (by simp [hlen]), leBytes_ofLeBytes_four (by simp [hlen]),
    List.take_of_length_le (l := all.drop 4) (by simp [hlen]), List.take_append_drop]

theorem length_i2cOutcome {n : Nat} {e : I2cEnd} (h : i2cFits n e = true) : (i2cOutcome e).1.length ≤ n := by
  cases e with
  | done bs => exact Nat.le_of_eq (by simpa [i2cFits, i2cOutcome] using h)
  | nack bs => simpa [i2cFits, i2cOutcome] using h
  | timeout bs => simpa [i2cFits, i2cOutcome] using h

theorem exec_i2cDone_ends {s : State} {m : Fin 2} {v : Word} {e : I2cEnd}
    (hrun : s.cpm.transfers.find? (·.1 == m.val) = some (m.val, v)) (hr : bitsAt v 0 4 ≤ 8)
    (hfits : i2cFits (bitsAt v 0 4) e = true) : ∃ t, exec (.i2cDone m e) s = .next t ∧
      (t.i2cData m.val).take (i2cOutcome e).1.length = (i2cOutcome e).1 ∧
      t.rd (Reg.CPM_I2C_STAT m.val) = BitVec.ofNat 32 (2 ^ 30 + (i2cOutcome e).2) ∧ (∀ x ∈ t.cpm.transfers, x.1 ≠ m.val) ∧
      t.raised = s.raised ++ [⟨220, BitVec.ofNat 32 m.val, 0⟩] := by
  let ended : State := { s with cpm := { s.cpm with transfers := s.cpm.transfers.filter (·.1 != m.val) } }
  let t := ((ended.setI2cData m.val (i2cOutcome e).1).wr (Reg.CPM_I2C_STAT m.val) (BitVec.ofNat 32 (2 ^ 30 + (i2cOutcome e).2))).raise
    220 (BitVec.ofNat 32 m.val)
  have hexec : exec (.i2cDone m e) s = .next t := by
    change execI2cDone m e s = _
    rw [execI2cDone, hrun]
    exact congrArg Host.Outcome.next (if_neg (by simp [hfits]))
  have hlen : (i2cOutcome e).1.length ≤ 8 := (length_i2cOutcome hfits).trans hr
  refine ⟨t, hexec, ?_, State.rd_wr_same .., fun x hx => ?_, rfl⟩
  · have hdata : t.i2cData m.val = (i2cOutcome e).1 ++ (ended.i2cData m.val).drop (i2cOutcome e).1.length :=
      (State.i2cData_wr_stat _ m _).trans (ended.i2cData_setI2cData m hlen)
    rw [hdata, List.take_left]
  · have hkeep := (List.mem_filter.mp (show x ∈ s.cpm.transfers.filter (·.1 != m.val) from hx)).2
    simpa using hkeep

/-! ### The wake alarm and the balls -/

theorem exec_wakeAlarmWrite_checked {s : State} {ag : Agent} {w : Fin 3} {v : Word} (ho : s.opens ag (Reg.CPM_WAKE_W w.val) = true)
    {x : CT96} (hx : x = (s.wr (Reg.CPM_WAKE_W w.val) v).rd96 (Reg.CPM_WAKE_W 0)) :
    exec (.wakeAlarmWrite ag w v) s = .next (if ct96Valid x = true ∧ withinCf64 x s.now = true
      then (s.wr (Reg.CPM_WAKE_W w.val) v).arm .wake (cf64OfCt96 x) else s.error Reg.CPM_ERR 5 222) := by
  change execWakeAlarmWrite ag w v s = _
  rw [execWakeAlarmWrite, State.writeAccess_opens _ _ _ _ _ ho, hx]
  refine congrArg Host.Outcome.next ?_
  unfold State.writeAlarm
  simp only [Bool.and_eq_true]
  rfl

theorem State.ballDrive_of_floats {s : State} {b : Ball} (h : s.mode ≤ 1 ∨ (b.domain ≠ PD_AON ∧ s.pd b.domain = pdOff)) :
    s.ballDrive b = some .float := by
  refine if_pos ?_
  rw [State.floats, Bool.or_eq_true, Bool.or_eq_true]
  rcases h with h | ⟨haon, hoff⟩
  · exact .inl (.inl (decide_eq_true h))
  · exact .inl (.inr (by simp [haon, State.isolated, hoff]))

theorem State.ballDrive_fenceOut {s : State} (h : 1 < s.mode) :
    s.ballDrive .fenceOut = some (if s.flag Reg.PAR_STATUS psFenceOut then .high else .low) := by
  have hdriven : s.floats .fenceOut = false := by
    simp [State.floats, Ball.domain, Ball.timing, h]
  refine (if_neg (by simp [hdriven])).trans ?_
  cases hf : s.flag Reg.PAR_STATUS psFenceOut <;> simp [drive]

end Sys2Proof.Machine
end

section
/-!
DORMANT and the wake (R462 to R464). Turning a domain off writes, of the registers below those of CAL, its own control and the
clock, PLL, level and sticky registers; the wake turns on what is enabled.
-/
namespace Sys2Proof.Machine

/-- Of the registers below those of CAL only those in l are written; device time stays. -/
structure State.Below (l : List Nat) (s t : State) : Prop where
  regs : ∀ o, o < 0x200000 → o ∉ l → t.rd o = s.rd o
  count : t.cal.count = s.cal.count

namespace State.Below

variable {s t u : State} {l l' : List Nat}

theorem refl : s.Below l s := ⟨fun _ _ _ => rfl, rfl⟩

theorem trans (h : s.Below l t) (h' : t.Below l u) : s.Below l u :=
  ⟨fun o ho hl => (h'.regs o ho hl).trans (h.regs o ho hl), h'.count.trans h.count⟩

theorem of_same (h : s.Below l t) (hregs : u.regs = t.regs) (hcount : u.cal.count = t.cal.count) : s.Below l u :=
  h.trans ⟨fun o _ _ => State.rd_of_regs _ _ hregs o, hcount⟩

theorem of_keepsRegs (h : s.Below l t) (hregs : t.keepsRegs u l) (hcount : u.cal.count = t.cal.count) : s.Below l u :=
  h.trans ⟨fun o _ hl => hregs o hl, hcount⟩

theorem of_aside {q : Prop} (h : s.Aside q l t) : s.Below l t := ⟨h.regs, h.count⟩

theorem of_moved (h : s.Moved l t) : s.Below l t := ⟨fun o ho hl => h.regs o (fun hs => absurd hs.1 (by omega)) hl, h.count⟩

theorem ite {c : Prop} [Decidable c] (ht : s.Below l t) (hu : s.Below l u) : s.Below l (if c then t else u) := by
  split
  · exact ht
  · exact hu

theorem wr (h : s.Below l t) {o : Nat} (ho : 0x200000 ≤ o ∨ o ∈ l) (v : Word) : s.Below l (t.wr o v) :=
  h.trans ⟨fun j hj hl => t.rd_wr_ne o j v (by rintro rfl; exact ho.elim (by omega) hl), rfl⟩

theorem setFlag (h : s.Below l t) {o : Nat} (ho : 0x200000 ≤ o ∨ o ∈ l) (i : Nat) (b : Bool) : s.Below l (t.setFlag o i b) := h.wr ho _

theorem setFld (h : s.Below l t) {o : Nat} (ho : 0x200000 ≤ o ∨ o ∈ l) (lo n v : Nat) : s.Below l (t.setFld o lo n v) := h.wr ho _

theorem foldl {α : Type} {f : State → α → State} (h : s.Below l t) {as : List α}
    (hf : ∀ a ∈ as, ∀ v, s.Below l v → s.Below l (f v a)) : s.Below l (as.foldl f t) :=
  List.foldlRecOn as f h fun v hv a ha => hf a ha v hv

theorem setPd (h : s.Below l t) {d : Nat} (hd : Reg.CPM_PD_CTL d ∈ l) (st : Nat) : s.Below l (t.setPd d st) :=
  h.of_keepsRegs ((t.keepsRegs_setPd d st).mono (by simpa using hd)) (by rw [t.setPd_frame])

theorem pd (h : s.Below l t) {d : Nat} (hd : d < 21) (hl : Reg.CPM_PD_CTL d ∉ l) : t.pd d = s.pd d :=
  congrArg (bitsAt · 24 3) (h.regs _ (by simp only [Reg.CPM_PD_CTL]; omega) hl)

theorem pdEn (h : s.Below l t) {d : Nat} (hd : d < 21) (hl : Reg.CPM_PD_CTL d ∉ l) : t.pdEn d = s.pdEn d :=
  congrArg (bitAt · 31) (h.regs _ (by simp only [Reg.CPM_PD_CTL]; omega) hl)

end State.Below

/-! ### A domain turned off -/

/-- The registers that the loss of a domain writes beside its control. -/
def dropRegisters : List Nat := [Reg.CPM_STICKY, Reg.CPM_CLKSEL, Reg.CPM_PLL, Reg.CPM_PLEVEL]

theorem pdCtl_notMem_drop {d e : Nat} (h : e ≠ d) : Reg.CPM_PD_CTL e ∉ Reg.CPM_PD_CTL d :: dropRegisters := by
  simp only [dropRegisters, Reg.CPM_PD_CTL, Reg.CPM_STICKY, Reg.CPM_CLKSEL, Reg.CPM_PLL, Reg.CPM_PLEVEL, List.mem_cons,
    List.not_mem_nil, or_false]
  omega

theorem pdCtl_notMem_dropRegisters (d : Nat) : Reg.CPM_PD_CTL d ∉ dropRegisters := fun h =>
  pdCtl_notMem_drop (d := d + 1) (by omega) (List.mem_cons_of_mem _ h)

theorem State.below_dropDomain (s : State) {d : Nat} (hd : d ≠ 0) : s.Below (Reg.CPM_PD_CTL d :: dropRegisters) (s.dropDomain d) := by
  have hctl : 0x200000 ≤ Reg.CPM_PD_CTL d ∨ Reg.CPM_PD_CTL d ∈ Reg.CPM_PD_CTL d :: dropRegisters := .inr List.mem_cons_self
  have hmem : ∀ o ∈ dropRegisters, o ∈ Reg.CPM_PD_CTL d :: dropRegisters := fun _ => List.mem_cons_of_mem _
  have hlost : s.Below (Reg.CPM_PD_CTL d :: dropRegisters) (s.domainLost d) :=
    .of_aside (State.Aside.domainLost (q := False) .refl (hmem _ (by decide)) (hmem _ (by decide)) id hd)
  exact .ite .refl (((hlost.setPd List.mem_cons_self _).setFlag hctl _ _).setFlag hctl _ _)

theorem State.pd_dropDomain (s : State) (d : Nat) : (s.dropDomain d).pd d = pdOff := by
  unfold State.dropDomain
  split
  · next h => exact h
  · exact (State.fld_setFlag_other _ _ _ _ _ _ _ (.inr (.inr (by decide)))).trans
      ((State.fld_setFlag_other _ _ _ _ _ _ _ (.inr (.inr (by decide)))).trans (State.pd_setPd _ _ (by decide)))

/-- A domain that is off stays off while others are turned off. -/
theorem State.pd_dropDomain_of_off {s : State} {d e : Nat} (hd : d ≠ 0) (he : e < 21) (h : s.pd e = pdOff) :
    (s.dropDomain d).pd e = pdOff := by
  by_cases hde : e = d
  · subst hde
    exact s.pd_dropDomain e
  · exact ((s.below_dropDomain hd).pd he (pdCtl_notMem_drop hde)).trans h

theorem State.pd_foldl_dropDomain {s : State} {ds : List Nat} (hds : ∀ d ∈ ds, d ≠ 0) {e : Nat} (he : e < 21)
    (h : e ∈ ds ∨ s.pd e = pdOff) : (ds.foldl State.dropDomain s).pd e = pdOff := by
  induction ds generalizing s with
  | nil => exact h.resolve_left List.not_mem_nil
  | cons d ds ih =>
    refine ih (fun c hc => hds c (List.mem_cons_of_mem _ hc)) ?_
    rcases h with h | h
    · rcases List.mem_cons.mp h with rfl | h
      · exact .inr (s.pd_dropDomain e)
      · exact .inl h
    · exact .inr (State.pd_dropDomain_of_off (hds d List.mem_cons_self) he h)

/-! ### The way to DORMANT -/

theorem State.below_retainGnss (s : State) : s.Below (Reg.CPM_PD_CTL PD_GNSS_TRK :: dropRegisters) s.retainGnss := by
  have hstop : s.Below (Reg.CPM_PD_CTL PD_GNSS_TRK :: dropRegisters) ((s.stopQueues PD_GNSS_TRK).abandonTests PD_GNSS_TRK) :=
    .of_aside (q := False) ((State.Aside.stopQueues .refl (by decide) _).abandonTests _)
  exact .ite (hstop.setPd (by decide) _) (s.below_dropDomain (by decide))

theorem State.pd_retainGnss (s : State) : s.retainGnss.pd PD_GNSS_TRK = pdOff ∨ s.retainGnss.pd PD_GNSS_TRK = pdRetained := by
  unfold State.retainGnss
  split
  · exact .inr (State.pd_setPd _ _ (by decide))
  · exact .inl (s.pd_dropDomain _)

theorem State.below_pllSweep (s : State) : s.Below dropRegisters s.pllSweep := by
  refine State.Below.foldl .refl fun p _ v hv => .ite hv ?_
  have hstop : s.Below dropRegisters ((v.setFlag Reg.CPM_PLL p false).setFlag Reg.CPM_PLL (16 + p) false) :=
    (hv.setFlag (.inr (by decide)) _ _).setFlag (.inr (by decide)) _ _
  exact .ite (hstop.setFlag (.inl (by decide)) _ _) hstop

theorem State.below_levelled {s t : State} (h : s.Levelled t) (hcount : t.cal.count = s.cal.count) : s.Below dropRegisters t :=
  .of_keepsRegs .refl (h.regs.mono (by decide)) hcount

theorem State.count_levelPhase (s : State) (m : LevelMove) (phase : Nat) : (s.levelPhase m phase).cal.count = s.cal.count := by
  unfold State.levelPhase
  dsimp only
  split <;> rfl

theorem State.count_startLevel (s : State) : s.startLevel.cal.count = s.cal.count := by
  rw [s.startLevel_eq]
  split
  · rfl
  · exact State.count_levelPhase _ _ _

theorem State.below_endLevel (s : State) (m : LevelMove) : s.Below dropRegisters (s.endLevel m) := by
  have hdone : s.Below dropRegisters (s.levelDone m) :=
    ((State.Below.refl.setFld (.inr (by decide)) 4 2 m.target).setFlag (.inr (by decide)) 12 false).of_same rfl rfl
  exact hdone.trans (State.below_levelled (State.levelled_startLevel _) (State.count_startLevel _))

theorem State.below_levelSweep (s : State) : s.Below dropRegisters s.levelSweep := by
  unfold State.levelSweep
  split
  · next m _ =>
    have hset : s.Below dropRegisters (s.setFlag Reg.CPM_CLKSEL 2 (!s.pllReady pllA)) := .setFlag .refl (.inr (by decide)) _ _
    exact .ite (.ite (hset.trans (State.below_endLevel _ m))
      (hset.trans (State.below_levelled (State.levelled_levelPhase _ m 2) (State.count_levelPhase _ _ _)))) .refl
  · exact .refl

/-- Every domain but GNSS tracking, the endpoint and the fabric, in the order of the shut-down. -/
def sleepOrder : List Nat := powerOrder.reverse.filter fun d => d != PD_FABRIC && d != PD_PCIE && d != PD_GNSS_TRK

theorem sleepOrder_mem {d : Nat} (h : d ∈ powerOrder) : d ∈ sleepOrder ∨ d = PD_FABRIC ∨ d = PD_PCIE ∨ d = PD_GNSS_TRK := by
  revert d
  decide

theorem powerOrder_lt {d : Nat} (h : d ∈ powerOrder) : d < 21 ∧ d ≠ 0 := by
  revert d
  decide

theorem State.count_foldl_dropDomain (s : State) {ds : List Nat} (hds : ∀ d ∈ ds, d ≠ 0) :
    (ds.foldl State.dropDomain s).cal.count = s.cal.count :=
  List.foldlRecOn (motive := fun t => t.cal.count = s.cal.count) ds State.dropDomain rfl fun t ht d hd =>
    (t.below_dropDomain (hds d hd)).count.trans ht

/-- The state in which the domains are off, before what the controller forgets. -/
def State.domainsOff (s : State) : State := (((sleepOrder.foldl State.dropDomain s).retainGnss).dropDomain PD_PCIE).dropDomain PD_FABRIC

theorem State.pd_domainsOff (s : State) {d : Nat} (h : d ∈ powerOrder) :
    s.domainsOff.pd d = pdOff ∨ (d = PD_GNSS_TRK ∧ s.domainsOff.pd d = pdRetained) := by
  have hds : ∀ d ∈ sleepOrder, d ≠ 0 := by decide
  have hlt := (powerOrder_lt h).1
  let v := (sleepOrder.foldl State.dropDomain s).retainGnss
  have hlast : v.pd d = pdOff → s.domainsOff.pd d = pdOff := fun hv =>
    State.pd_dropDomain_of_off (by decide) hlt (State.pd_dropDomain_of_off (by decide) hlt hv)
  by_cases htrk : d = PD_GNSS_TRK
  · subst htrk
    refine (State.pd_retainGnss (sleepOrder.foldl State.dropDomain s)).imp hlast fun hret => ⟨rfl, ?_⟩
    have hpcie := (v.below_dropDomain (d := PD_PCIE) (by decide)).pd hlt (pdCtl_notMem_drop (by decide))
    have hfabric := ((v.dropDomain PD_PCIE).below_dropDomain (d := PD_FABRIC) (by decide)).pd hlt (pdCtl_notMem_drop (by decide))
    exact hfabric.trans (hpcie.trans hret)
  · rcases sleepOrder_mem h with hd | rfl | rfl | rfl
    · exact .inl (hlast (((State.below_retainGnss _).pd hlt (pdCtl_notMem_drop htrk)).trans (State.pd_foldl_dropDomain hds hlt (.inl hd))))
    · exact .inl (State.pd_dropDomain _ _)
    · exact .inl (State.pd_dropDomain_of_off (by decide) hlt (State.pd_dropDomain _ _))
    · exact absurd rfl htrk

theorem State.count_domainsOff (s : State) : s.domainsOff.cal.count = s.cal.count :=
  (State.below_dropDomain _ (by decide)).count.trans ((State.below_dropDomain _ (by decide)).count.trans
    ((State.below_retainGnss _).count.trans (s.count_foldl_dropDomain (by decide))))

/-- After the domains are off nothing of their controls moves. -/
theorem State.below_powerDown (s : State) : s.domainsOff.Below dropRegisters s.powerDown := by
  have hforget : s.domainsOff.Below dropRegisters s.domainsOff.forgetDomains := .of_same .refl rfl rfl
  exact (hforget.trans (State.below_pllSweep _)).trans (State.below_levelSweep _)

theorem State.count_prepareSleep (s : State) : s.prepareSleep.cal.count = s.cal.count := by
  have hsel : s.selectorSleep.cal.count = s.cal.count := (State.Aside.selectorSleep (q := False) (but := []) .refl).count
  have hfill : ∀ t : State, t.fillKeep.cal.count = t.cal.count := fun t =>
    List.foldlRecOn (motive := fun u : State => u.cal.count = t.cal.count) (List.range 256)
      (fun (u : State) i => (u.wr (Reg.CPM_KEEP i) (lo32 u.draw)).drawn) rfl fun _ hu _ _ => hu
  unfold State.prepareSleep
  extract_lets t u
  refine (hfill _).trans (Eq.trans ?_ hsel)
  split
  · exact (State.Aside.burstPrepare (q := False) (but := []) .refl).count
  · rfl

theorem State.below_dropFiredAlarm (s : State) : s.Below dropRegisters s.dropFiredAlarm := by
  unfold State.dropFiredAlarm
  split
  · split
    · exact .of_same .refl rfl rfl
    · exact .refl
  · exact .refl

theorem pdCtl_notMem_roleRegs {d : Nat} (h : d < 21) : Reg.CPM_PD_CTL d ∉ roleRegs := by
  have hall : ∀ d < 21, Reg.CPM_PD_CTL d ∉ roleRegs := by decide
  exact hall d h

theorem exec_dormantEntry_sleeps {s : State} {m x : Nat} (hslept : s.gctl.slept = some (m, x)) (hruns : s.commandRuns = true)
    (hlevel : s.cpm.level = none) (hbne : s.bneIdle = true) (hmode : s.mode ≠ modeDormant) :
    ∃ t, exec .dormantEntry s = .next t ∧ t.mode = modeDormant ∧ t.gctl.slept = some (m, s.cal.count / 2 ^ 16) ∧
      t.flag Reg.GCTL_MODESTAT 31 = false ∧ t.bus.waiting = [] ∧
      (∀ d ∈ powerOrder, t.pd d = pdOff ∨ (d = PD_GNSS_TRK ∧ t.pd d = pdRetained)) ∧ t.cal.count = s.cal.count := by
  have hexec : exec .dormantEntry s = .next (s.enterDormant m) := by
    change execDormantEntry s = _
    rw [execDormantEntry, hslept]
    exact congrArg Host.Outcome.next (if_pos ⟨hruns, by simp [hlevel], hbne, hmode⟩)
  let off := s.prepareSleep.domainsOff
  let v := s.prepareSleep.powerDown.dropFiredAlarm
  have hoff : off.Below dropRegisters v := s.prepareSleep.below_powerDown.trans (State.below_dropFiredAlarm _)
  have hmoved : v.Moved roleRegs (v.enterMode modeDormant) := State.moved_enterMode .refl _
  have hcount : (v.enterMode modeDormant).cal.count = s.cal.count :=
    hmoved.count.trans (hoff.count.trans (s.prepareSleep.count_domainsOff.trans s.count_prepareSleep))
  refine ⟨s.enterDormant m, hexec, ?_, ?_, State.flag_setFlag (v.enterMode modeDormant) _ _ _ (by decide), rfl, fun d hd => ?_, hcount⟩
  · exact (State.fld_setFlag_other (v.enterMode modeDormant) _ _ _ _ _ _ (.inl (by decide))).trans
      (State.mode_enterMode_of_not_serving v (by decide) (by decide))
  · exact congrArg (fun c => some (m, c / 2 ^ 16)) hcount
  · have hlt := (powerOrder_lt hd).1
    have hpd : (s.enterDormant m).pd d = off.pd d :=
      (State.fld_setFlag_other (v.enterMode modeDormant) _ _ _ _ _ _ (.inl (by simp only [Reg.CPM_PD_CTL, Reg.GCTL_MODESTAT]; omega))).trans
        (((State.Below.of_moved hmoved).pd hlt (pdCtl_notMem_roleRegs hlt)).trans (hoff.pd hlt (pdCtl_notMem_dropRegisters d)))
    rw [hpd]
    exact s.prepareSleep.pd_domainsOff hd

/-! ### The wake -/

theorem State.below_powerUp (s : State) (d : Nat) : s.Below (Reg.CPM_PD_CTL d :: dropRegisters) (s.powerUp d) := by
  have hstage : s.Below (Reg.CPM_PD_CTL d :: dropRegisters) (s.setStage d 0) := .of_same .refl rfl rfl
  exact hstage.setPd List.mem_cons_self _

theorem State.pd_powerUp (s : State) (d : Nat) : (s.powerUp d).pd d = pdPoweringUp := State.pd_setPd _ _ (by decide)

theorem State.below_wakeDomain (s : State) {d : Nat} (hd : d ≠ 0) :
    s.Below (Reg.CPM_PD_CTL d :: dropRegisters) (s.wakeDomain d) := by
  have hretained : s.Below (Reg.CPM_PD_CTL d :: dropRegisters) { s with cpm := { s.cpm with retained := true } } :=
    .of_same .refl rfl rfl
  exact .ite (.ite (hretained.trans (State.below_powerUp _ d)) (.ite (s.below_powerUp d) .refl)) (.ite (s.below_dropDomain hd) .refl)

/-- A domain that is enabled and off powers up at its turn, and goes on. -/
theorem State.pd_foldl_wakeDomain {s : State} {ds : List Nat} (hds : ∀ d ∈ ds, d ≠ 0) {e : Nat} (he : e < 21) (hen : s.pdEn e = true)
    (h : (e ∈ ds ∧ s.pd e = pdOff) ∨ s.pd e = pdPoweringUp) : (ds.foldl State.wakeDomain s).pd e = pdPoweringUp := by
  induction ds generalizing s with
  | nil => exact h.resolve_left fun h => List.not_mem_nil h.1
  | cons d ds ih =>
    have hds' : ∀ c ∈ ds, c ≠ 0 := fun c hc => hds c (List.mem_cons_of_mem _ hc)
    by_cases hde : e = d
    · subst hde
      have hwake : s.wakeDomain e = s.powerUp e ∨ s.wakeDomain e = s := by
        unfold State.wakeDomain
        rw [if_pos hen]
        rcases h with ⟨_, h⟩ | h <;> rw [h]
        · exact .inl rfl
        · exact .inr rfl
      have hpd : (s.wakeDomain e).pd e = pdPoweringUp := by
        rcases h with ⟨_, h⟩ | h
        · unfold State.wakeDomain
          rw [if_pos hen, if_neg (by rw [h]; decide), if_pos h]
          exact s.pd_powerUp e
        · unfold State.wakeDomain
          rw [if_pos hen, if_neg (by rw [h]; decide), if_neg (by rw [h]; decide)]
          exact h
      have hen' : (s.wakeDomain e).pdEn e = true := by
        rcases hwake with hw | hw <;> rw [hw]
        · exact (State.flag_setPd _ _ _ _ _ (.inr (by decide)) (by decide)).trans hen
        · exact hen
      exact ih hds' hen' (.inr hpd)
    · have hbelow := s.below_wakeDomain (hds d List.mem_cons_self)
      have hctl := pdCtl_notMem_drop hde
      refine ih hds' ((hbelow.pdEn he hctl).trans hen) ?_
      rw [hbelow.pd he hctl]
      exact h.imp_left fun ⟨hmem, hoff⟩ => ⟨(List.mem_cons.mp hmem).resolve_left hde, hoff⟩

/-- What the wake writes beside the domains' controls. -/
theorem State.rd_foldl_wakeDomain (s : State) {ds : List Nat} (hds : ∀ d ∈ ds, d ≠ 0 ∧ d < 21) {o : Nat} (ho : o < 0x200000)
    (hctl : ∀ d < 21, o ≠ Reg.CPM_PD_CTL d) (hdrop : o ∉ dropRegisters) : (ds.foldl State.wakeDomain s).rd o = s.rd o :=
  List.foldlRecOn (motive := fun t => t.rd o = s.rd o) ds State.wakeDomain rfl fun t ht d hd => by
    obtain ⟨hd0, hd21⟩ := hds d hd
    exact ((t.below_wakeDomain hd0).regs o ho fun hm => (List.mem_cons.mp hm).elim (hctl d hd21) hdrop).trans ht

/-- The state in which the wake is noted, before the domains are woken. -/
def State.wakeNoted (s : State) (code x : Nat) : State :=
  let t := s.wr Reg.CPM_DORM_STAT (BitVec.ofNat 32 (code * 2 ^ 30 + min (2 ^ 24 - 1) ((s.cal.count / 2 ^ 16 - x) / (10 ^ 9 * 2 ^ 16))))
  (if code = 1 then t.disarm .wake else t).forgetBoot

theorem State.rd_forgetBoot (s : State) {o : Nat} (ho : o ≠ Reg.GCTL_MODESTAT) : s.forgetBoot.rd o = s.rd o :=
  State.rd_wr_ne s _ _ 0 ho

theorem State.wakeNoted_rd (s : State) (code x : Nat) {o : Nat} (ho : o ≠ Reg.GCTL_MODESTAT) : (s.wakeNoted code x).rd o =
    (s.wr Reg.CPM_DORM_STAT (BitVec.ofNat 32 (code * 2 ^ 30 + min (2 ^ 24 - 1) ((s.cal.count / 2 ^ 16 - x) / (10 ^ 9 * 2 ^ 16))))).rd o := by
  refine (State.rd_forgetBoot _ ho).trans ?_
  split
  · exact State.rd_disarm _ _ _
  · rfl

/-- The state in which the wake has its cause. -/
def State.wakeCaused (s : State) (code x : Nat) : State := (powerOrder.foldl State.wakeDomain (s.wakeNoted code x)).noteReset rstWake

theorem exec_wake_wakes {s : State} {c : WakeCause} {m x : Nat} (hmode : s.mode = modeDormant) (hcode : s.wakeCode c ≠ 0)
    (hslept : s.gctl.slept = some (m, x)) : exec (.wake c) s = .next ((s.wakeCaused (s.wakeCode c) x).beginBoot 2) := by
  change execWake c s = _
  rw [execWake, if_neg (by simp [hmode, hcode]), State.wakeUp, hslept]
  rfl

theorem exec_wake_boots {s : State} {c : WakeCause} {m x : Nat} (hmode : s.mode = modeDormant) (hcode : s.wakeCode c ≠ 0)
    (hslept : s.gctl.slept = some (m, x)) :
    ∃ t, exec (.wake c) s = .next t ∧ t.mode = modeBoot ∧ t.rd Reg.GCTL_BOOT = 0xAC0 ∧ t.fld Reg.GCTL_CAUSE 0 6 = 32 ∧
      t.rd Reg.CPM_DORM_STAT = BitVec.ofNat 32 (s.wakeCode c * 2 ^ 30 +
        min (2 ^ 24 - 1) ((s.cal.count / 2 ^ 16 - x) / (10 ^ 9 * 2 ^ 16))) ∧
      ∀ d ∈ powerOrder, s.pdEn d = true → s.pd d = pdOff → t.pd d = pdPoweringUp := by
  have hexec := exec_wake_wakes hmode hcode hslept
  generalize s.wakeCode c = code at hexec hcode ⊢
  let u := s.wakeCaused code x
  have hmoved : u.Moved roleRegs (u.enterMode modeBoot) := State.moved_enterMode .refl _
  have hboot : ∀ o, o ≠ Reg.GCTL_BOOT → o < 0x200000 → o ∉ roleRegs → (u.beginBoot 2).rd o = u.rd o := fun o hne ho hl =>
    (State.rd_wr_ne _ _ _ _ hne).trans ((State.Below.of_moved hmoved).regs o ho hl)
  have horder : ∀ d ∈ powerOrder, d ≠ 0 ∧ d < 21 := fun d hd => (powerOrder_lt hd).symm
  have hnote : ∀ o, o ≠ Reg.GCTL_CAUSE → u.rd o = (powerOrder.foldl State.wakeDomain (s.wakeNoted code x)).rd o := fun o hne =>
    State.rd_wr_ne _ _ _ _ hne
  refine ⟨u.beginBoot 2, hexec, ?_, State.rd_wr_same .., ?_, ?_, fun d hd hen hoff => ?_⟩
  · exact (congrArg (bitsAt · 0 4) (State.rd_wr_ne _ _ _ _ (by decide))).trans
      (State.mode_enterMode_of_not_serving u (by decide) (by decide))
  · refine (congrArg (bitsAt · 0 6) (hboot Reg.GCTL_CAUSE (by decide) (by decide) (by decide))).trans ?_
    exact State.fld_setFld _ _ _ _ _ (by decide)
  · rw [hboot _ (by decide) (by decide) (by decide), hnote _ (by decide),
      State.rd_foldl_wakeDomain _ horder (by decide) (by decide) (by decide), s.wakeNoted_rd code x (by decide)]
    exact State.rd_wr_same ..
  · have hlt := (powerOrder_lt hd).1
    have hctl : Reg.CPM_PD_CTL d ≠ Reg.GCTL_BOOT ∧ Reg.CPM_PD_CTL d ≠ Reg.GCTL_CAUSE ∧ Reg.CPM_PD_CTL d ≠ Reg.GCTL_MODESTAT ∧
        Reg.CPM_PD_CTL d ≠ Reg.CPM_DORM_STAT ∧ Reg.CPM_PD_CTL d < 0x200000 := by
      simp only [Reg.CPM_PD_CTL, Reg.GCTL_BOOT, Reg.GCTL_CAUSE, Reg.GCTL_MODESTAT, Reg.CPM_DORM_STAT]
      omega
    obtain ⟨hb, hc, hm, hs, hlow⟩ := hctl
    have hreg : (s.wakeNoted code x).rd (Reg.CPM_PD_CTL d) = s.rd (Reg.CPM_PD_CTL d) :=
      (s.wakeNoted_rd code x hm).trans (State.rd_wr_ne _ _ _ _ hs)
    have hend : (u.beginBoot 2).pd d = (powerOrder.foldl State.wakeDomain (s.wakeNoted code x)).pd d :=
      congrArg (bitsAt · 24 3) ((hboot _ hb hlow (pdCtl_notMem_roleRegs hlt)).trans (hnote _ hc))
    rw [hend]
    exact State.pd_foldl_wakeDomain (fun c hc => (horder c hc).1) hlt ((congrArg (bitAt · 31) hreg).trans hen)
      (.inl ⟨hd, (congrArg (bitsAt · 24 3) hreg).trans hoff⟩)

end Sys2Proof.Machine
end

section
/-!
The obligation of levels, temperatures and DORMANT, from the lemma of each clause.
-/
namespace Sys2Proof.Machine

/-- Settles O54: the sequence of P-levels, the thermal check and its trip, the sensors, the I2C masters, the wake alarm, the
way to DORMANT and back, and the balls, clause by clause. -/
theorem levelsTemperaturesAndDormant : Obligations.LevelsTemperaturesAndDormant := by
  unfold Obligations.LevelsTemperaturesAndDormant
  exact ⟨fun _ _ _ => exec_plevelTargetWrite_refused, fun _ _ _ => exec_plevelTargetWrite_latched,
    fun _ _ _ => exec_plevelTargetWrite_up, fun _ _ _ => exec_plevelTargetWrite_down, fun _ _ => exec_vsettleEnd_ends,
    fun _ _ => exec_vsettleEnd_relocks, fun _ _ => exec_vsettleEnd_fails, fun _ _ => exec_avsRetry_repeats,
    fun _ _ => exec_avsRetry_of_none, fun _ _ => exec_thermalCheck_failed, fun _ _ => exec_thermalCheck_steps,
    fun _ _ => exec_thermalCheck_trips, fun _ _ _ stale hmode hlo hhi hpoll => exec_sensorPoll_valid hmode hlo hhi hpoll stale,
    fun _ _ => exec_sensorPoll_none, fun _ _ _ _ => exec_i2cTransfer_owned, fun _ _ _ _ => exec_i2cTransfer_foreign,
    fun _ _ _ _ => exec_i2cDone_ends, fun _ _ _ _ ho _ => exec_wakeAlarmWrite_checked ho, fun _ _ _ => exec_dormantEntry_sleeps,
    fun _ _ _ _ => exec_wake_boots, fun _ _ => ⟨State.ballDrive_of_floats, State.ballDrive_fenceOut⟩⟩

end Sys2Proof.Machine
end

section
/-!
Enables, disables, gates and resets of domains by their controls (R417 to R425).
-/
namespace Sys2Proof.Machine

theorem bits_pdWord (s : State) (d : Nat) (en force off reset : Bool) :
    bitAt (s.pdWord d en force off reset) 31 = en ∧ bitAt (s.pdWord d en force off reset) 30 = force ∧
    bitAt (s.pdWord d en force off reset) 29 = off ∧ bitAt (s.pdWord d en force off reset) 28 = reset := by
  unfold State.pdWord
  cases en <;> cases force <;> cases off <;> cases reset <;> decide

/-- A write of a control that is admitted and is no reset. -/
theorem State.writePd_admitted {s : State} {ag : Agent} {d : Nat} (hctl : controls ag = true) (hfree : fixedDomain d = false)
    {en force off busy : Bool} (hoff : off = true → s.clkoff d = false → s.pd d = pdOn) :
    s.writePd ag d (s.pdWord d en force off false) busy = (s.writeClkoff d off busy).writeEn d en force := by
  obtain ⟨h31, h30, h29, h28⟩ := bits_pdWord s d en force off false
  unfold State.writePd
  dsimp only
  rw [h31, h30, h29, h28, if_neg (by simp [hctl]), if_neg (by simp [hfree]), if_neg (by decide),
    if_neg fun ⟨ho, hc, hpd⟩ => hpd (hoff ho hc)]

theorem State.writeClkoff_same (s : State) (d : Nat) (busy : Bool) : s.writeClkoff d (s.clkoff d) busy = s := if_pos rfl

/-- A write that leaves the gate. -/
theorem State.writePd_enable {s : State} {ag : Agent} {d : Nat} (hctl : controls ag = true) (hfree : fixedDomain d = false)
    (en force : Bool) : s.writePd ag d (s.pdWord d en force (s.clkoff d) false) false = s.writeEn d en force := by
  rw [State.writePd_admitted hctl hfree (fun ho hc => absurd (ho.symm.trans hc) (by decide)), s.writeClkoff_same]

section
variable {s : State} {ag : Agent} {d : Fin 21} (ho : s.opens ag (Reg.CPM_PD_CTL d.val) = true)
include ho

theorem exec_pdEnable_opens : exec (.pdEnable ag d) s =
    .next (s.writePd ag d.val (s.pdWord d.val true false (s.clkoff d.val) false) false) := by
  change execPdEnable ag d s = _
  unfold execPdEnable
  dsimp only
  rw [State.writeAccess_opens _ _ _ _ _ ho]

theorem exec_pdDisable_opens : exec (.pdDisable ag d) s =
    .next (s.writePd ag d.val (s.pdWord d.val false false (s.clkoff d.val) false) false) := by
  change execPdDisable ag d s = _
  unfold execPdDisable
  dsimp only
  rw [State.writeAccess_opens _ _ _ _ _ ho]

theorem exec_pdForceDisable_opens : exec (.pdForceDisable ag d) s =
    .next (s.writePd ag d.val (s.pdWord d.val false true (s.clkoff d.val) false) false) := by
  change execPdForceDisable ag d s = _
  unfold execPdForceDisable
  dsimp only
  rw [State.writeAccess_opens _ _ _ _ _ ho]

theorem exec_clockGate_opens (busy : Bool) : exec (.clockGate ag d busy) s =
    .next (s.writePd ag d.val (s.pdWord d.val (s.pdEn d.val) false true false) busy) := by
  change execClockGate ag d busy s = _
  unfold execClockGate
  dsimp only
  rw [State.writeAccess_opens _ _ _ _ _ ho]

theorem exec_clockUngate_opens : exec (.clockUngate ag d) s =
    .next (s.writePd ag d.val (s.pdWord d.val (s.pdEn d.val) false false false) false) := by
  change execClockUngate ag d s = _
  unfold execClockUngate
  dsimp only
  rw [State.writeAccess_opens _ _ _ _ _ ho]

theorem exec_pdReset_opens : exec (.pdReset ag d) s =
    .next (s.writePd ag d.val (s.pdWord d.val (s.pdEn d.val) false (s.clkoff d.val) true) false) := by
  change execPdReset ag d s = _
  unfold execPdReset
  dsimp only
  rw [State.writeAccess_opens _ _ _ _ _ ho]

end

/-! ### Refusals -/

theorem State.writePd_foreign {s : State} {ag : Agent} (hctl : controls ag = false) (d : Nat) (v : Word) (busy : Bool) :
    s.writePd ag d v busy = s.error Reg.CPM_ERR 2 222 := if_pos hctl

theorem State.writePd_fixed {s : State} {ag : Agent} {d : Nat} (hctl : controls ag = true) (hfixed : fixedDomain d = true) {v : Word}
    (hv : bitAt v 31 = false ∨ bitAt v 30 ∨ bitAt v 29 ∨ bitAt v 28) (busy : Bool) :
    s.writePd ag d v busy = s.error Reg.CPM_ERR 2 222 :=
  (if_neg (by simp [hctl])).trans ((if_pos hfixed).trans (if_pos hv))

theorem State.writePd_reset {s : State} {ag : Agent} {d : Nat} (hctl : controls ag = true) (hfree : fixedDomain d = false)
    (en force off busy : Bool) : s.writePd ag d (s.pdWord d en force off true) busy =
      if s.pd d = pdOn ∨ s.pd d = pdGated then s.startReset d else s.error Reg.CPM_ERR 4 222 :=
  (if_neg (by simp [hctl])).trans ((if_neg (by simp [hfree])).trans (if_pos (bits_pdWord s d en force off true).2.2.2))

theorem exec_fixed_refused {s : State} {ag : Agent} {d : Fin 21} (ho : s.opens ag (Reg.CPM_PD_CTL d.val) = true)
    (hctl : controls ag = true) (hfixed : fixedDomain d.val = true) :
    exec (.pdDisable ag d) s = .next (s.error Reg.CPM_ERR 2 222) ∧ exec (.pdReset ag d) s = .next (s.error Reg.CPM_ERR 2 222) ∧
    exec (.clockGate ag d false) s = .next (s.error Reg.CPM_ERR 2 222) := by
  obtain ⟨h31, _⟩ := bits_pdWord s d.val false false (s.clkoff d.val) false
  obtain ⟨_, _, _, h28⟩ := bits_pdWord s d.val (s.pdEn d.val) false (s.clkoff d.val) true
  obtain ⟨_, _, h29, _⟩ := bits_pdWord s d.val (s.pdEn d.val) false true false
  exact ⟨(exec_pdDisable_opens ho).trans (congrArg Host.Outcome.next (State.writePd_fixed hctl hfixed (.inl h31) _)),
    (exec_pdReset_opens ho).trans (congrArg Host.Outcome.next (State.writePd_fixed hctl hfixed (.inr (.inr (.inr h28))) _)),
    (exec_clockGate_opens ho false).trans (congrArg Host.Outcome.next (State.writePd_fixed hctl hfixed (.inr (.inr (.inl h29))) _))⟩

theorem exec_pdEnable_foreign {s : State} {k : Fin 8} {d : Fin 21} (ho : s.opens (.sc k) (Reg.CPM_PD_CTL d.val) = true)
    (hk : 2 ≤ k.val) : exec (.pdEnable (.sc k) d) s = .next (s.error Reg.CPM_ERR 2 222) := by
  refine (exec_pdEnable_opens ho).trans (congrArg Host.Outcome.next (State.writePd_foreign ?_ _ _ _))
  simp [controls, isHost, isCore]
  omega

theorem exec_clockGate_refused {s : State} {ag : Agent} {d : Fin 21} {busy : Bool} (ho : s.opens ag (Reg.CPM_PD_CTL d.val) = true)
    (hctl : controls ag = true) (hfree : fixedDomain d.val = false) (hpd : s.pd d.val ≠ pdOn) (hoff : s.clkoff d.val = false) :
    exec (.clockGate ag d busy) s = .next (s.error Reg.CPM_ERR 4 222) := by
  obtain ⟨_, _, h29, h28⟩ := bits_pdWord s d.val (s.pdEn d.val) false true false
  refine (exec_clockGate_opens ho busy).trans (congrArg Host.Outcome.next ?_)
  exact (if_neg (by simp [hctl])).trans ((if_neg (by simp [hfree])).trans ((if_neg (by simp [h28])).trans (if_pos ⟨h29, hoff, hpd⟩)))

/-! ### Gates -/

theorem State.pd_setEn (s : State) (d e : Nat) (b : Bool) : (s.setEn d b).pd e = s.pd e :=
  State.fld_setFlag_other _ _ _ _ _ _ _ (.inr (.inr (by decide)))

theorem State.pdEn_setEn (s : State) (d : Nat) (b : Bool) : (s.setEn d b).pdEn d = b := State.flag_setFlag _ _ _ _ (by decide)

theorem State.keepsRegs_setEn (s : State) (d : Nat) (b : Bool) : s.keepsRegs (s.setEn d b) [Reg.CPM_PD_CTL d] :=
  .setFlag (o := Reg.CPM_PD_CTL d) .refl List.mem_cons_self

theorem State.pd_setEnPending (s : State) (d e : Nat) (b : Bool) : (s.setEnPending d b).pd e = s.pd e :=
  State.fld_setFlag_other _ _ _ _ _ _ _ (.inr (.inr (by decide)))

theorem State.pdEn_setEnPending (s : State) (d e : Nat) (b : Bool) : (s.setEnPending d b).pdEn e = s.pdEn e :=
  State.flag_setFlag_other _ _ _ _ _ _ (.inr (by decide))

section
variable {s : State} {d : Nat}

theorem State.writeEn_of_off (h : s.pd d = pdOff) (force : Bool) : s.writeEn d true force = (s.setEn d true).powerUp d := if_pos h

theorem State.writeEn_of_poweringUp (h : s.pd d = pdPoweringUp) (en force : Bool) : s.writeEn d en force =
    if en then (s.setEn d en).owe d none
    else (s.setEn d en).owe d (some (force || (s.cpm.owed.any fun o => o.1 == d && o.2))) :=
  (if_neg (by rw [h]; decide)).trans (if_pos h)

theorem State.writeEn_of_runs (h : s.pd d = pdOn ∨ s.pd d = pdGated) (en force : Bool) : s.writeEn d en force =
    if en then s.setEn d en else (s.setEn d en).requestDown d force := by
  refine (if_neg ?_).trans ((if_neg ?_).trans (if_pos h)) <;> rcases h with h | h <;> rw [h] <;> decide

theorem State.writeEn_of_requested (h : s.pd d = pdRequested) (en force : Bool) : s.writeEn d en force =
    if en then (s.setEn d en).setEnPending d true
    else if force then ((s.setEn d en).setEnPending d false).setForced d true
    else (s.setEn d en).setEnPending d false :=
  (if_neg (by rw [h]; decide)).trans ((if_neg (by rw [h]; decide)).trans ((if_neg (by rw [h]; decide)).trans (if_pos h)))

theorem State.writeEn_of_shuttingDown (h : s.pd d = pdShuttingDown) (en force : Bool) :
    s.writeEn d en force = (s.setEn d en).setEnPending d en :=
  (if_neg (by rw [h]; decide)).trans ((if_neg (by rw [h]; decide)).trans ((if_neg (by rw [h]; decide)).trans
    ((if_neg (by rw [h]; decide)).trans (if_pos h))))

end

/-- The gate waits for the accesses under way. -/
def State.closes (s : State) (d : Nat) : State := { s with cpm := { s.cpm with closing := s.cpm.closing ++ [d] } }

theorem exec_clockGate_gates {s : State} {ag : Agent} {d : Fin 21} {busy : Bool} (ho : s.opens ag (Reg.CPM_PD_CTL d.val) = true)
    (hctl : controls ag = true) (hfree : fixedDomain d.val = false) (hpd : s.pd d.val = pdOn) (hoff : s.clkoff d.val = false)
    (hen : s.pdEn d.val = true) : ∃ t, exec (.clockGate ag d busy) s = .next t ∧ t.clkoff d.val = true ∧
      (busy = true → d.val ∈ t.cpm.closing ∧ t.flag Reg.CPM_STICKY 3 = true ∧ t.pd d.val = pdOn) ∧
      (busy = false → t.pd d.val = pdGated) := by
  have hexec := (exec_clockGate_opens ho busy).trans (congrArg Host.Outcome.next
    (State.writePd_admitted hctl hfree (en := s.pdEn d.val) (force := false) (busy := busy) fun _ _ => hpd))
  rw [hen] at hexec
  have hgated : (s.setFlag (Reg.CPM_PD_CTL d.val) 29 true).pd d.val = pdOn :=
    (State.fld_setFlag_other _ _ _ _ _ _ _ (.inr (.inr (by decide)))).trans hpd
  have hbit : (s.setFlag (Reg.CPM_PD_CTL d.val) 29 true).clkoff d.val = true := State.flag_setFlag _ _ _ _ (by decide)
  have hne : Reg.CPM_PD_CTL d.val ≠ Reg.CPM_STICKY := by
    simp only [Reg.CPM_PD_CTL, Reg.CPM_STICKY]
    omega
  have hwrite : s.writeClkoff d.val true busy = if busy then ((s.setFlag (Reg.CPM_PD_CTL d.val) 29 true).closes d.val).cpmSticky 3
      else (s.setFlag (Reg.CPM_PD_CTL d.val) 29 true).setPd d.val pdGated :=
    (if_neg fun h => absurd (h.trans hoff) (by decide)).trans (if_pos rfl)
  cases busy with
  | true =>
    let u := ((s.setFlag (Reg.CPM_PD_CTL d.val) 29 true).closes d.val).cpmSticky 3
    have hu : u.pd d.val = pdOn := (State.fld_setFlag_other _ _ _ _ _ _ _ (.inl hne)).trans hgated
    rw [hwrite, if_pos rfl, State.writeEn_of_runs (s := u) (.inl hu), if_pos rfl] at hexec
    refine ⟨_, hexec, ?_, fun _ => ⟨List.mem_append_right _ List.mem_cons_self, ?_, (u.pd_setEn _ _ _).trans hu⟩, nofun⟩
    · exact (State.flag_setFlag_other _ _ _ _ _ _ (.inr (by decide))).trans ((State.flag_setFlag_other _ _ _ _ _ _ (.inl hne)).trans hbit)
    · exact (State.flag_setFlag_other _ _ _ _ _ _ (.inl hne.symm)).trans (State.flag_setFlag _ _ _ _ (by decide))
  | false =>
    let u := (s.setFlag (Reg.CPM_PD_CTL d.val) 29 true).setPd d.val pdGated
    have hu : u.pd d.val = pdGated := State.pd_setPd _ _ (by decide)
    rw [hwrite, if_neg (by decide), State.writeEn_of_runs (s := u) (.inr hu), if_pos rfl] at hexec
    refine ⟨_, hexec, ?_, nofun, fun _ => (u.pd_setEn _ _ _).trans hu⟩
    exact (State.flag_setFlag_other _ _ _ _ _ _ (.inr (by decide))).trans
      ((State.flag_setPd _ _ _ _ _ (.inr (by decide)) (by decide)).trans hbit)

/-- No access is waited for any more. -/
def State.closingEnded (s : State) (d : Nat) : State := { s with cpm := { s.cpm with closing := s.cpm.closing.filter (· != d) } }

theorem notMem_filter_ne (l : List Nat) (d : Nat) : d ∉ l.filter (· != d) := by simp

theorem State.closing_closingEnded (s : State) (d : Nat) : d ∉ (s.closingEnded d).cpm.closing := notMem_filter_ne _ _

theorem State.writeClkoff_on {s : State} {d : Nat} (hoff : s.clkoff d = true) : s.writeClkoff d false false =
    if ((s.closingEnded d).setFlag (Reg.CPM_PD_CTL d) 29 false).pd d = pdGated
      then ((s.closingEnded d).setFlag (Reg.CPM_PD_CTL d) 29 false).setPd d pdOn
      else (s.closingEnded d).setFlag (Reg.CPM_PD_CTL d) 29 false := by
  unfold State.writeClkoff
  dsimp only
  rw [if_neg fun h => absurd (h.trans hoff) (by decide), if_neg (by decide)]
  rfl

/-- The gate's closing is undone, and the domain runs again if it was gated. -/
theorem State.writeClkoff_opens {s : State} {d : Nat} (hoff : s.clkoff d = true) (hpd : s.pd d = pdGated ∨ s.pd d = pdOn) :
    (s.writeClkoff d false false).pd d = pdOn ∧ (s.writeClkoff d false false).clkoff d = false ∧
    d ∉ (s.writeClkoff d false false).cpm.closing := by
  have hv : ((s.closingEnded d).setFlag (Reg.CPM_PD_CTL d) 29 false).pd d = s.pd d :=
    State.fld_setFlag_other (s.closingEnded d) _ _ _ _ _ _ (.inr (.inr (by decide)))
  have hbit : ((s.closingEnded d).setFlag (Reg.CPM_PD_CTL d) 29 false).clkoff d = false := State.flag_setFlag _ _ _ _ (by decide)
  rw [State.writeClkoff_on hoff]
  split
  · refine ⟨State.pd_setPd _ _ (by decide), (State.flag_setPd _ _ _ _ _ (.inr (by decide)) (by decide)).trans hbit, ?_⟩
    rw [State.cpm_setPd]
    exact s.closing_closingEnded d
  · next hg => exact ⟨hv.trans (hpd.resolve_left fun h => hg (hv.trans h)), hbit, s.closing_closingEnded d⟩

theorem exec_clockUngate_runs {s : State} {ag : Agent} {d : Fin 21} (ho : s.opens ag (Reg.CPM_PD_CTL d.val) = true)
    (hctl : controls ag = true) (hfree : fixedDomain d.val = false) (hoff : s.clkoff d.val = true) (hen : s.pdEn d.val = true)
    (hpd : s.pd d.val = pdGated ∨ s.pd d.val = pdOn) :
    ∃ t, exec (.clockUngate ag d) s = .next t ∧ t.pd d.val = pdOn ∧ t.clkoff d.val = false ∧ d.val ∉ t.cpm.closing := by
  have hexec := (exec_clockUngate_opens ho).trans (congrArg Host.Outcome.next
    (State.writePd_admitted hctl hfree (en := s.pdEn d.val) (force := false) (off := false) (busy := false) nofun))
  obtain ⟨hon, hclk, hclose⟩ := State.writeClkoff_opens hoff hpd
  rw [hen] at hexec
  generalize s.writeClkoff d.val false false = u at hexec hon hclk hclose
  rw [State.writeEn_of_runs (.inl hon), if_pos rfl] at hexec
  exact ⟨_, hexec, (u.pd_setEn _ _ _).trans hon, (State.flag_setFlag_other _ _ _ _ _ _ (.inr (by decide))).trans hclk, hclose⟩

/-- The state in which the gate no longer closes, with the sticky bit where its time ran out. -/
def State.gateEnded (s : State) (d : Nat) (expired : Bool) : State :=
  if expired then ((s.closingEnded d).cpmSticky 4).raise 214 (BitVec.ofNat 32 d) else s.closingEnded d

theorem State.gateEnded_frame (s : State) (d : Nat) (expired : Bool) : (s.gateEnded d expired).cpm = (s.closingEnded d).cpm ∧
    (s.gateEnded d expired).logWait = s.logWait ∧ s.keepsRegs (s.gateEnded d expired) [Reg.CPM_STICKY] ∧
    (expired = true → (s.gateEnded d expired).flag Reg.CPM_STICKY 4 = true ∧
      (⟨214, BitVec.ofNat 32 d, 0⟩ : Raise) ∈ (s.gateEnded d expired).raised) := by
  cases expired with
  | true => exact ⟨rfl, rfl, .raise (.setFlag (o := Reg.CPM_STICKY) (.of_regs .refl)),
      fun _ => ⟨State.flag_setFlag _ _ _ _ (by decide), List.mem_append_right _ List.mem_cons_self⟩⟩
  | false => exact ⟨rfl, rfl, .of_regs .refl, nofun⟩

/-- A domain that runs is gated. -/
def State.gates (s : State) (d : Nat) : State := if s.pd d = pdOn then s.setPd d pdGated else s

theorem State.gates_frame (s : State) (d : Nat) : (s.gates d).cpm = s.cpm ∧ (s.gates d).logWait = s.logWait ∧
    s.raised ⊆ (s.gates d).raised ∧ s.keepsRegs (s.gates d) [Reg.CPM_PD_CTL d] ∧
    (s.gates d).pd d = if s.pd d = pdOn then pdGated else s.pd d := by
  unfold State.gates
  split
  · exact ⟨State.cpm_setPd _ _ _, by rw [s.setPd_frame], s.raised_setPd _ _, s.keepsRegs_setPd _ _, State.pd_setPd _ _ (by decide)⟩
  · exact ⟨rfl, rfl, List.Subset.refl _, .refl, rfl⟩

theorem exec_gateClose_closes {s : State} {d : Fin 21} {expired : Bool} (hin : d.val ∈ s.cpm.closing) :
    ∃ t, exec (.gateClose d expired) s = .next t ∧ d.val ∉ t.cpm.closing ∧
      t.pd d.val = (if s.pd d.val = pdOn then pdGated else s.pd d.val) ∧
      (expired = true → t.flag Reg.CPM_STICKY 4 = true ∧ (⟨214, BitVec.ofNat 32 d.val, 0⟩ : Raise) ∈ t.raised) ∧
      (s.flag Reg.REL_LOG_CTRL 31 = true → s.fld Reg.REL_LOG_CTRL 24 3 = 0 → s.logWait.length < 16 →
        t.logWait.map (·.data0) = s.logWait.map (·.data0) ++ [BitVec.ofNat 32 d.val]) := by
  obtain ⟨hucpm, huwait, hend, hexp⟩ := s.gateEnded_frame d.val expired
  generalize hu : s.gateEnded d.val expired = u at hucpm huwait hend hexp
  generalize he : (⟨214, (Config.logSeverity 214).val, 0, BitVec.ofNat 32 d.val, 0, BitVec.ofNat 64 (ofBool expired)⟩ : LogEntry) = e
  have hexec : exec (.gateClose d expired) s = .next ((u.logEntry e).gates d.val) := by
    change execGateClose d expired s = _
    subst hu he
    exact congrArg Host.Outcome.next ((if_neg (by simpa using hin)).trans rfl)
  have hlog : u.keepsRegs (u.logEntry e) [Reg.REL_LOG_LOST, Reg.REL_STICKY] := .logEntry .refl e (by decide) (by decide)
  have hctl : Reg.CPM_PD_CTL d.val ∉ [Reg.CPM_STICKY] ∧ Reg.CPM_PD_CTL d.val ∉ [Reg.REL_LOG_LOST, Reg.REL_STICKY] ∧
      Reg.CPM_STICKY ∉ [Reg.CPM_PD_CTL d.val] := by
    simp only [Reg.CPM_PD_CTL, Reg.CPM_STICKY, Reg.REL_LOG_LOST, Reg.REL_STICKY, List.mem_cons, List.not_mem_nil, or_false]
    omega
  obtain ⟨hctl, hctl', hsticky⟩ := hctl
  have hpd : (u.logEntry e).pd d.val = s.pd d.val := congrArg (bitsAt · 24 3) ((hlog _ hctl').trans (hend _ hctl))
  obtain ⟨hcpm, hwait, hraised, hregs, hgate⟩ := (u.logEntry e).gates_frame d.val
  refine ⟨_, hexec, ?_, hpd ▸ hgate, fun hx => ⟨?_, hraised ?_⟩, fun hon hsev hroom => ?_⟩
  · rw [hcpm, State.cpm_logEntry, hucpm]
    exact s.closing_closingEnded d.val
  · exact (congrArg (bitAt · 4) ((hregs _ hsticky).trans (hlog Reg.CPM_STICKY (by decide)))).trans (hexp hx).1
  · rw [State.raised_logEntry]
    exact (hexp hx).2
  · have hctrl := hend Reg.REL_LOG_CTRL (by decide)
    have hv := State.logWait_logEntry (s := u) (e := e) ((congrArg (bitAt · 31) hctrl).trans hon)
      ((congrArg (bitsAt · 24 3) hctrl).trans hsev) (by rwa [huwait])
    rw [hwait, hv, List.map_append, huwait, ← he]
    rfl

end Sys2Proof.Machine
end

section
/-!
Enables and disables of domains (R418 to R421), the answer to a request (R422), and its limit (R423).
-/
namespace Sys2Proof.Machine

theorem State.notOwed (s : State) (d : Nat) (f : Bool) : (d, f) ∉ (s.owe d none).cpm.owed := fun h => by
  simpa using (List.mem_filter.mp (show (d, f) ∈ s.cpm.owed.filter (·.1 != d) from h)).2

theorem State.owed (s : State) (d : Nat) (f : Bool) : (d, f) ∈ (s.owe d (some f)).cpm.owed := List.mem_append_right _ List.mem_cons_self

theorem State.pdUp_congr {s t : State} {d : Nat} (hreg : t.rd (Reg.CPM_PD_CTL d) = s.rd (Reg.CPM_PD_CTL d))
    (hreset : t.cpm.inReset = s.cpm.inReset) (hmode : t.mode = s.mode) : t.pdUp d = s.pdUp d := by
  rw [State.pdUp, State.pdUp, hreset, hmode, State.pd, State.fld, hreg]
  rfl

theorem State.raised_setPd_of_up {s : State} {d st : Nat} (hne : s.pd d ≠ st) (hd : d ≠ PD_FABRIC)
    (hup : s.pdUp PD_FABRIC = true) : (s.setPd d st).raised = s.raised ++ [⟨212, BitVec.ofNat 32 d, 0⟩] := by
  have hkeep : s.keepsRegs (s.setFld (Reg.CPM_PD_CTL d) 24 3 st) [Reg.CPM_PD_CTL d] :=
    .setFld (o := Reg.CPM_PD_CTL d) .refl List.mem_cons_self
  have hmode : Reg.GCTL_STATUS ∉ [Reg.CPM_PD_CTL d] := by
    simp only [Reg.CPM_PD_CTL, Reg.GCTL_STATUS, List.mem_cons, List.not_mem_nil, or_false]
    omega
  have hset : (s.setFld (Reg.CPM_PD_CTL d) 24 3 st).pdUp PD_FABRIC = true :=
    (State.pdUp_congr (hkeep _ (by simpa using pdCtl_ne hd.symm)) rfl (congrArg (bitsAt · 0 4) (hkeep _ hmode))).trans hup
  unfold State.setPd
  rw [if_neg hne]
  dsimp only
  rw [if_pos hset]
  rfl

theorem fixedDomain_fabric {d : Nat} (h : fixedDomain d = false) : d ≠ PD_FABRIC := by
  rintro rfl
  cases h

/-! ### Enables -/

section
variable {s : State} {ag : Agent} {d : Fin 21} (ho : s.opens ag (Reg.CPM_PD_CTL d.val) = true) (hctl : controls ag = true)
  (hfree : fixedDomain d.val = false)
include ho hctl hfree

theorem exec_pdEnable_writeEn : exec (.pdEnable ag d) s = .next (s.writeEn d.val true false) :=
  (exec_pdEnable_opens ho).trans (congrArg Host.Outcome.next (State.writePd_enable hctl hfree _ _))

theorem exec_pdDisable_writeEn : exec (.pdDisable ag d) s = .next (s.writeEn d.val false false) :=
  (exec_pdDisable_opens ho).trans (congrArg Host.Outcome.next (State.writePd_enable hctl hfree _ _))

theorem exec_pdForceDisable_writeEn : exec (.pdForceDisable ag d) s = .next (s.writeEn d.val false true) :=
  (exec_pdForceDisable_opens ho).trans (congrArg Host.Outcome.next (State.writePd_enable hctl hfree _ _))

theorem exec_pdEnable_powersUp (hpd : s.pd d.val = pdOff) :
    ∃ t, exec (.pdEnable ag d) s = .next t ∧ t.pd d.val = pdPoweringUp ∧ t.pdEn d.val = true ∧ t.upStage d.val = 0 ∧
      (s.pdUp PD_FABRIC = true → t.raised = s.raised ++ [⟨212, BitVec.ofNat 32 d.val, 0⟩]) ∧ s.keepsRegs t [Reg.CPM_PD_CTL d.val] := by
  have hexec := exec_pdEnable_writeEn ho hctl hfree
  rw [State.writeEn_of_off hpd] at hexec
  let u := (s.setEn d.val true).setStage d.val 0
  have hkeep : s.keepsRegs u [Reg.CPM_PD_CTL d.val] := .of_regs (s.keepsRegs_setEn d.val true)
  have hne : d.val ≠ PD_FABRIC := fixedDomain_fabric hfree
  have hmode : Reg.GCTL_STATUS ∉ [Reg.CPM_PD_CTL d.val] := by
    simp only [Reg.CPM_PD_CTL, Reg.GCTL_STATUS, List.mem_cons, List.not_mem_nil, or_false]
    omega
  refine ⟨_, hexec, State.pd_powerUp _ _, ?_, ?_, fun hup => ?_, hkeep.trans (State.keepsRegs_setPd _ _ _)⟩
  · exact (State.flag_setPd u _ _ _ _ (.inr (by decide)) (by decide)).trans (s.pdEn_setEn _ _)
  · exact (congrArg (fun c : CpmState => sparseGet (fun _ => 0) c.stage d.val) (State.cpm_setPd u _ _)).trans
      ((sparseGet_set (fun _ => 0) s.cpm.stage d.val d.val 0).trans (if_pos rfl))
  · refine State.raised_setPd_of_up (s := u) ?_ hne ?_
    · rw [show u.pd d.val = pdOff from (s.pd_setEn _ _ _).trans hpd]
      decide
    · exact (State.pdUp_congr (s := s) (hkeep _ (by simpa using pdCtl_ne hne.symm)) rfl (congrArg (bitsAt · 0 4) (hkeep _ hmode))).trans hup

theorem exec_pdEnable_latched (hpd : s.pd d.val = pdRequested ∨ s.pd d.val = pdShuttingDown) :
    ∃ t, exec (.pdEnable ag d) s = .next t ∧ t.pd d.val = s.pd d.val ∧ t.pdEn d.val = true ∧
      t.flag (Reg.CPM_PD_CTL d.val) 27 = true ∧ t = { s with regs := t.regs } := by
  have hwrite : s.writeEn d.val true false = (s.setEn d.val true).setEnPending d.val true := by
    rcases hpd with hpd | hpd
    · rw [State.writeEn_of_requested hpd, if_pos rfl]
    · exact State.writeEn_of_shuttingDown hpd _ _
  exact ⟨_, (exec_pdEnable_writeEn ho hctl hfree).trans (congrArg Host.Outcome.next hwrite),
    (State.pd_setEnPending _ _ _ _).trans (s.pd_setEn _ _ _), (State.pdEn_setEnPending _ _ _ _).trans (s.pdEn_setEn _ _),
    State.flag_setFlag _ _ _ _ (by decide), rfl⟩

/-! ### Disables -/

omit ho hctl hfree in
/-- Beside the request itself a domain's blocks end what they do. -/
theorem State.aside_requestDown (s : State) (d : Nat) (force : Bool) :
    ((s.setForced d force).setPd d pdRequested).Aside False [] (s.requestDown d force) :=
  .ite (State.Aside.flushJobs .refl id) (.ite (State.Aside.bneShutdown .refl) .refl)

omit ho hctl hfree in
theorem State.requestDown_spec (s : State) {d : Nat} (hd : d < 21) (force : Bool) : (s.requestDown d force).pd d = pdRequested ∧
    (s.requestDown d force).pdEn d = s.pdEn d ∧ (s.requestDown d force).forced d = force := by
  have haside := s.aside_requestDown d force
  have hreg := haside.regs (Reg.CPM_PD_CTL d) (by simp only [Reg.CPM_PD_CTL]; omega) List.not_mem_nil
  have hforced := congrArg (fun c : CpmState => c.forced.contains d) haside.settings
  exact ⟨(congrArg (bitsAt · 24 3) hreg).trans (State.pd_setPd _ _ (by decide)),
    (congrArg (bitAt · 31) hreg).trans (State.flag_setPd _ _ _ _ _ (.inr (by decide)) (by decide)),
    hforced.trans ((congrArg (fun c : CpmState => c.forced.contains d) (State.cpm_setPd _ _ _)).trans (s.forced_setForced d force))⟩

theorem exec_pdDisable_requests (hpd : s.pd d.val = pdOn ∨ s.pd d.val = pdGated) :
    (∃ t, exec (.pdDisable ag d) s = .next t ∧ t.pd d.val = pdRequested ∧ t.pdEn d.val = false ∧ d.val ∉ t.cpm.forced) ∧
    (∃ t, exec (.pdForceDisable ag d) s = .next t ∧ t.pd d.val = pdRequested ∧ t.pdEn d.val = false ∧ d.val ∈ t.cpm.forced) := by
  have hspec := fun force => (s.setEn d.val false).requestDown_spec d.isLt force
  have hwrite := fun force => (State.writeEn_of_runs hpd false force).trans (if_neg (by decide))
  have hexec := (exec_pdDisable_writeEn ho hctl hfree).trans (congrArg Host.Outcome.next (hwrite false))
  have hexec' := (exec_pdForceDisable_writeEn ho hctl hfree).trans (congrArg Host.Outcome.next (hwrite true))
  obtain ⟨hreq, hen, hforced⟩ := hspec false
  obtain ⟨hreq', hen', hforced'⟩ := hspec true
  rw [s.pdEn_setEn] at hen hen'
  exact ⟨⟨_, hexec, hreq, hen, fun hmem => by rw [State.forced, List.contains_iff_mem.mpr hmem] at hforced; cases hforced⟩,
    ⟨_, hexec', hreq', hen', List.contains_iff_mem.mp hforced'⟩⟩

theorem exec_pdForceDisable_again (hpd : s.pd d.val = pdRequested) : ∃ t, exec (.pdForceDisable ag d) s = .next t ∧
    t.pd d.val = pdRequested ∧ d.val ∈ t.cpm.forced ∧ t.flag (Reg.CPM_PD_CTL d.val) 27 = false := by
  have hwrite : s.writeEn d.val false true = ((s.setEn d.val false).setEnPending d.val false).setForced d.val true := by
    rw [State.writeEn_of_requested hpd, if_neg (by decide), if_pos rfl]
  refine ⟨_, (exec_pdForceDisable_writeEn ho hctl hfree).trans (congrArg Host.Outcome.next hwrite), ?_,
    List.contains_iff_mem.mp (State.forced_setForced _ _ _), State.flag_setFlag _ _ _ _ (by decide)⟩
  exact (State.pd_setEnPending _ _ _ _).trans ((s.pd_setEn _ _ _).trans hpd)

theorem exec_poweringUp_owes (hpd : s.pd d.val = pdPoweringUp) :
    (∃ t f, exec (.pdDisable ag d) s = .next t ∧ t.pd d.val = pdPoweringUp ∧ t.pdEn d.val = false ∧ (d.val, f) ∈ t.cpm.owed) ∧
    (∃ t, exec (.pdForceDisable ag d) s = .next t ∧ t.pd d.val = pdPoweringUp ∧ (d.val, true) ∈ t.cpm.owed) ∧
    (∃ t, exec (.pdEnable ag d) s = .next t ∧ ∀ f, (d.val, f) ∉ t.cpm.owed) := by
  have hwrite := fun en force => State.writeEn_of_poweringUp hpd en force
  have hstay := (s.pd_setEn d.val d.val false).trans hpd
  exact ⟨⟨_, _, (exec_pdDisable_writeEn ho hctl hfree).trans (congrArg Host.Outcome.next ((hwrite false false).trans (if_neg (by decide)))),
      hstay, s.pdEn_setEn _ _, State.owed _ _ _⟩,
    ⟨_, (exec_pdForceDisable_writeEn ho hctl hfree).trans (congrArg Host.Outcome.next ((hwrite false true).trans (if_neg (by decide)))),
      hstay, State.owed _ _ _⟩,
    ⟨_, (exec_pdEnable_writeEn ho hctl hfree).trans (congrArg Host.Outcome.next ((hwrite true false).trans (if_pos rfl))),
      State.notOwed _ _⟩⟩

end

/-! ### The answer and its limit -/

/-- The control of a domain whose request is refused, before its state is On again. -/
def State.refusing (s : State) (d reason : Nat) : State :=
  (((s.setEn d true).setEnPending d false).setFld (Reg.CPM_PD_CTL d) 20 4 reason).setForced d false

theorem State.rd_setForced (s : State) (d : Nat) (b : Bool) (o : Nat) : (s.setForced d b).rd o = s.rd o := rfl

theorem State.keepsRegs_refusing (s : State) (d reason : Nat) : s.keepsRegs (s.refusing d reason) [Reg.CPM_PD_CTL d, Reg.CPM_STICKY] :=
  .of_regs (.setFld (o := Reg.CPM_PD_CTL d) (.setFlag (o := Reg.CPM_PD_CTL d) (.setFlag (o := Reg.CPM_PD_CTL d) .refl
    List.mem_cons_self) List.mem_cons_self) List.mem_cons_self)

theorem State.refusing_ctl (s : State) (d : Nat) {reason : Nat} (hreason : reason < 16) : (s.refusing d reason).pdEn d = true ∧
    (s.refusing d reason).flag (Reg.CPM_PD_CTL d) 27 = false ∧ (s.refusing d reason).fld (Reg.CPM_PD_CTL d) 20 4 = reason := by
  generalize hu : (s.setEn d true).setEnPending d false = u
  have hrd : (s.refusing d reason).rd (Reg.CPM_PD_CTL d) = (u.setFld (Reg.CPM_PD_CTL d) 20 4 reason).rd (Reg.CPM_PD_CTL d) := by
    rw [State.refusing, State.rd_setForced, hu]
  have hbit : ∀ i, 24 ≤ i → i < 32 → (s.refusing d reason).flag (Reg.CPM_PD_CTL d) i = u.flag (Reg.CPM_PD_CTL d) i := fun i hlo hi =>
    (congrArg (bitAt · i) hrd).trans (State.flag_setFld_other _ _ _ _ _ _ _ (.inr (.inr hlo)) hi)
  refine ⟨?_, ?_, ?_⟩
  · refine (hbit 31 (by decide) (by decide)).trans ?_
    rw [← hu]
    exact (State.pdEn_setEnPending _ _ _ _).trans (s.pdEn_setEn _ _)
  · refine (hbit 27 (by decide) (by decide)).trans ?_
    rw [← hu]
    exact State.flag_setFlag _ _ _ _ (by decide)
  · exact (congrArg (bitsAt · 20 4) hrd).trans ((u.fld_setFld _ _ _ _ (by decide)).trans (Nat.mod_eq_of_lt hreason))

theorem State.refuseDown_eq (s : State) (d reason : Nat) : s.refuseDown d reason =
    ((((s.refusing d reason).setPd d pdOn).setFlag Reg.CPM_STICKY 6 true).raise 213 (BitVec.ofNat 32 d)) := by
  rw [State.refuseDown, State.cpmSticky, State.refusing]

theorem State.refuseDown_spec (s : State) {d : Nat} (hd : d < 21) {reason : Nat} (hreason : reason < 16) :
    (s.refuseDown d reason).pd d = pdOn ∧ (s.refuseDown d reason).pdEn d = true ∧
    (s.refuseDown d reason).flag (Reg.CPM_PD_CTL d) 27 = false ∧ (s.refuseDown d reason).fld (Reg.CPM_PD_CTL d) 20 4 = reason ∧
    (s.refuseDown d reason).flag Reg.CPM_STICKY 6 = true ∧ (⟨213, BitVec.ofNat 32 d, 0⟩ : Raise) ∈ (s.refuseDown d reason).raised ∧
    s.keepsRegs (s.refuseDown d reason) [Reg.CPM_PD_CTL d, Reg.CPM_STICKY] := by
  have ht := s.keepsRegs_refusing d reason
  obtain ⟨hen, hpending, hfld⟩ := s.refusing_ctl d hreason
  rw [State.refuseDown_eq]
  generalize s.refusing d reason = t at ht hen hpending hfld ⊢
  have hsticky : Reg.CPM_PD_CTL d ≠ Reg.CPM_STICKY := by
    simp only [Reg.CPM_PD_CTL, Reg.CPM_STICKY]
    omega
  have hlast : (((t.setPd d pdOn).setFlag Reg.CPM_STICKY 6 true).raise 213 (BitVec.ofNat 32 d)).rd (Reg.CPM_PD_CTL d) =
      (t.setPd d pdOn).rd (Reg.CPM_PD_CTL d) := State.rd_wr_ne _ _ _ _ hsticky
  have hbit : ∀ i, i < 24 ∨ 27 ≤ i → i < 32 → _ := fun i hi h32 =>
    (congrArg (bitAt · i) hlast).trans (State.flag_setPd t d pdOn d i hi h32)
  refine ⟨(congrArg (bitsAt · 24 3) hlast).trans (State.pd_setPd _ _ (by decide)), (hbit 31 (.inr (by decide)) (by decide)).trans hen,
    (hbit 27 (.inr (by decide)) (by decide)).trans hpending,
    (bitsAt_congr fun i hi => hbit (20 + i) (.inl (by omega)) (by omega)).trans hfld, State.flag_setFlag _ _ _ _ (by decide),
    List.mem_append_right _ List.mem_cons_self, .raise (.setFlag (o := Reg.CPM_STICKY) (ht.trans
      ((t.keepsRegs_setPd d pdOn).mono (by simp))) (by simp))⟩

theorem exec_pdHandshakeAnswer_refuses {s : State} {d : Fin 21} (hpd : s.pd d.val = pdRequested) (hforced : s.forced d.val = false)
    (hrefuse : s.refusal d.val ≠ 0) :
    ∃ t, exec (.pdHandshakeAnswer d) s = .next t ∧ t.pd d.val = pdOn ∧ t.pdEn d.val = true ∧ t.flag (Reg.CPM_PD_CTL d.val) 27 = false ∧
      t.fld (Reg.CPM_PD_CTL d.val) 20 4 = s.refusal d.val ∧ t.flag Reg.CPM_STICKY 6 = true ∧
      (⟨213, BitVec.ofNat 32 d.val, 0⟩ : Raise) ∈ t.raised ∧ s.keepsRegs t [Reg.CPM_PD_CTL d.val, Reg.CPM_STICKY] := by
  have hlt : s.refusal d.val < 16 := by
    unfold State.refusal
    dsimp only
    split_ifs <;> decide
  exact ⟨_, congrArg Host.Outcome.next ((if_neg (not_not_intro hpd)).trans (if_pos ⟨hforced, hrefuse⟩)), s.refuseDown_spec d.isLt hlt⟩

/-- A request that no block refuses. -/
def State.unrefused (s : State) (d : Fin 21) : Prop := s.forced d.val = true ∨ s.refusal d.val = 0

theorem State.not_refused {s : State} {d : Fin 21} (h : s.unrefused d) : ¬ (s.forced d.val = false ∧ s.refusal d.val ≠ 0) := by
  rintro ⟨hf, hr⟩
  exact h.elim (fun h => by rw [hf] at h; cases h) hr

theorem exec_pdHandshakeAnswer_waits {s : State} {d : Fin 21} (hpd : s.pd d.val = pdRequested) (hfree : s.unrefused d)
    (hdelay : s.delays d.val = true) : exec (.pdHandshakeAnswer d) s = .next s :=
  congrArg Host.Outcome.next ((if_neg (not_not_intro hpd)).trans ((if_neg (State.not_refused hfree)).trans (if_pos hdelay)))

theorem exec_pdHandshakeAnswer_proceeds {s : State} {d : Fin 21} (hpd : s.pd d.val = pdRequested) (hfree : s.unrefused d)
    (hdelay : s.delays d.val = false) : exec (.pdHandshakeAnswer d) s =
      .next ((if d.val = PD_GNSS_ACQ then s.yieldJob else s).setPd d.val pdShuttingDown) :=
  congrArg Host.Outcome.next ((if_neg (not_not_intro hpd)).trans ((if_neg (State.not_refused hfree)).trans
    (if_neg (by simp [hdelay]))))

theorem State.gns_setPd (s : State) (d st : Nat) : (s.setPd d st).gns = s.gns := by rw [s.setPd_frame]

/-- The job is given up with its satellites still wanted. -/
theorem State.yieldJob_of_job {s : State} {j : AcqJob} {n : Bool} (h : s.gns.job = some (j, n)) : s.yieldJob.gns.job = none ∧
    s.yieldJob.flag Reg.GNS_STATUS 3 = false ∧
    (s.fld Reg.GNS_ACQ_CFG 30 2 = 0 → ∀ v ∈ j.svs, (j.sig, v) ∈ s.yieldJob.gns.wanted) := by
  have habandon : ∀ u : State, u.abandonJob.gns.job = none ∧ u.abandonJob.flag Reg.GNS_STATUS 3 = false := fun u => by
    have hflag : (({ u with gns := { u.gns with job := none } } : State).setFlag Reg.GNS_STATUS 3 false).flag Reg.GNS_STATUS 3 = false :=
      State.flag_setFlag _ _ _ _ (by decide)
    unfold State.abandonJob
    extract_lets _ _ t
    split
    · exact ⟨rfl, hflag⟩
    · exact ⟨rfl, hflag⟩
  obtain ⟨hjob, hbusy⟩ := habandon s
  unfold State.yieldJob
  rw [h]
  refine ⟨hjob, hbusy, fun hauto v hv => List.mem_append_right _ ?_⟩
  rw [if_pos hauto]
  exact List.mem_map.mpr ⟨v, hv, rfl⟩

theorem exec_pdHandshakeAnswer_shutsDown {s : State} {d : Fin 21} (hpd : s.pd d.val = pdRequested) (hfree : s.unrefused d)
    (hdelay : s.delays d.val = false) :
    ∃ t, exec (.pdHandshakeAnswer d) s = .next t ∧ t.pd d.val = pdShuttingDown ∧ (d.val = PD_GNSS_ACQ → t.gns.job = none) ∧
      (d.val ≠ PD_GNSS_ACQ → s.keepsRegs t [Reg.CPM_PD_CTL d.val] ∧ t = { s with regs := t.regs, raised := t.raised }) ∧
      (∀ j n, s.gns.job = some (j, n) → d.val = PD_GNSS_ACQ → t.flag Reg.GNS_STATUS 3 = false ∧
        (s.fld Reg.GNS_ACQ_CFG 30 2 = 0 → ∀ v ∈ j.svs, (j.sig, v) ∈ t.gns.wanted)) := by
  refine ⟨_, exec_pdHandshakeAnswer_proceeds hpd hfree hdelay, State.pd_setPd _ _ (by decide), fun hd => ?_, fun hd => ?_,
    fun j n hjob hd => ?_⟩
  · rw [State.gns_setPd, if_pos hd]
    cases hjob : s.gns.job with
    | none => simp only [State.yieldJob, hjob]
    | some p => exact (State.yieldJob_of_job hjob).1
  · rw [if_neg hd]
    exact ⟨s.keepsRegs_setPd _ _, s.setPd_frame _ _⟩
  · obtain ⟨_, hbusy, hwanted⟩ := State.yieldJob_of_job hjob
    rw [if_pos hd]
    refine ⟨?_, ?_⟩
    · refine (congrArg (bitAt · 3) (State.keepsRegs_setPd s.yieldJob d.val pdShuttingDown Reg.GNS_STATUS ?_)).trans hbusy
      simp only [Reg.CPM_PD_CTL, Reg.GNS_STATUS, List.mem_cons, List.not_mem_nil, or_false]
      omega
    · rw [State.gns_setPd]
      exact hwanted

end Sys2Proof.Machine
end

section
/-!
The limit of a request (R423), the way up (R419, R424) and the resets (R425).
-/
namespace Sys2Proof.Machine

/-! ### The limit -/

/-- No request of the cluster waits for a tile any more. -/
theorem State.queued_endCluster (s : State) (k : Nat) : ∀ r ∈ (s.endCluster k).gys.queued, r.ofCluster k = false := fun r hr => by
  unfold State.endCluster at hr
  extract_lets t lost at hr
  rw [State.queued_dropRequests] at hr
  clear_value t
  simpa using (List.mem_filter.mp hr).2

theorem State.gys_setPd (s : State) (d st : Nat) : (s.setPd d st).gys = s.gys := by rw [s.setPd_frame]

theorem exec_pdDelayLimit_of_delayed {s : State} {d : Fin 21} (hpd : s.pd d.val = pdRequested) (hdelay : s.delays d.val = true)
    (hbne : d.val ≠ PD_BNE) : exec (.pdDelayLimit d) s = .next (if d.val = PD_PCIE then s.setPd d.val pdShuttingDown
      else if s.forced d.val = false then s.refuseDown d.val 4
      else if 2 ≤ d.val ∧ d.val ≤ 9 then
        if (s.endCluster (d.val - 2)).delays d.val then s.endCluster (d.val - 2)
        else (s.endCluster (d.val - 2)).setPd d.val pdShuttingDown
      else s.setPd d.val pdShuttingDown) :=
  congrArg Host.Outcome.next (if_neg (by simp [hpd, hbne, hdelay]))

theorem exec_pdDelayLimit_ends {s : State} {d : Fin 21} (hpd : s.pd d.val = pdRequested) (hdelay : s.delays d.val = true)
    (hbne : d.val ≠ PD_BNE) :
    ∃ t, exec (.pdDelayLimit d) s = .next t ∧
      (d.val ≠ PD_PCIE → s.forced d.val = false → t.pd d.val = pdOn ∧ t.fld (Reg.CPM_PD_CTL d.val) 20 4 = 4 ∧
        t.flag Reg.CPM_STICKY 6 = true) ∧
      (d.val = PD_PCIE ∨ (s.forced d.val = true ∧ (d.val < 2 ∨ 9 < d.val)) → t.pd d.val = pdShuttingDown) ∧
      (2 ≤ d.val → d.val ≤ 9 → s.forced d.val = true → ∀ r ∈ t.gys.queued, r.ofCluster (d.val - 2) = false) := by
  refine ⟨_, exec_pdDelayLimit_of_delayed hpd hdelay hbne, fun hp hf => ?_, fun h => ?_, fun hlo hhi hf => ?_⟩
  · rw [if_neg hp, if_pos hf]
    obtain ⟨hon, _, _, hreason, hsticky, _⟩ := s.refuseDown_spec d.isLt (reason := 4) (by decide)
    exact ⟨hon, hreason, hsticky⟩
  · rcases h with h | ⟨hf, hd⟩
    · rw [if_pos h]
      exact State.pd_setPd _ _ (by decide)
    · have hshut : (if s.forced d.val = false then s.refuseDown d.val 4 else if 2 ≤ d.val ∧ d.val ≤ 9 then
          if (s.endCluster (d.val - 2)).delays d.val then s.endCluster (d.val - 2)
          else (s.endCluster (d.val - 2)).setPd d.val pdShuttingDown else s.setPd d.val pdShuttingDown) =
            s.setPd d.val pdShuttingDown :=
        (if_neg (by simp [hf])).trans (if_neg (by omega))
      rw [hshut, ite_self]
      exact State.pd_setPd _ _ (by decide)
  · rw [if_neg (by simp only [PD_PCIE]; omega), if_neg (by simp [hf]), if_pos ⟨hlo, hhi⟩]
    split
    · exact s.queued_endCluster _
    · rw [State.gys_setPd]
      exact s.queued_endCluster _

/-! ### The way up -/

theorem exec_pdSlotStart_starts {s : State} {d : Fin 21} (hwait : s.awaitsSlot d.val = true)
    (hfirst : powerOrder.find? s.awaitsSlot = some d.val) (hlevel : d.val < 2 ∨ 9 < d.val ∨ s.cpm.level = none) :
    exec (.pdSlotStart d) s = .next (s.setStage d.val 1) := by
  refine congrArg Host.Outcome.next (if_pos ⟨hwait, hfirst, fun ⟨hlo, hhi, hmove⟩ => ?_⟩)
  rcases hlevel with h | h | h
  · omega
  · omega
  · rw [h] at hmove
    cases hmove

theorem exec_pdSlotStart_waits {s : State} {d : Fin 21} (hlo : 2 ≤ d.val) (hhi : d.val ≤ 9) (hlevel : s.cpm.level ≠ none) :
    exec (.pdSlotStart d) s = .next s :=
  congrArg Host.Outcome.next (if_neg fun h => h.2.2 ⟨hlo, hhi, Option.isSome_iff_ne_none.mpr hlevel⟩)

/-- What the registers and the controller tell of a domain is what they told. -/
theorem State.Aside.pd {q : Prop} {but : List Nat} {s t : State} {d : Nat} (h : s.Aside q but t) (hd : d < 21)
    (hb : Reg.CPM_PD_CTL d ∉ but) : t.pd d = s.pd d :=
  congrArg (bitsAt · 24 3) (h.regs _ (by simp only [Reg.CPM_PD_CTL]; omega) hb)

theorem State.Aside.upStage {q : Prop} {but : List Nat} {s t : State} (h : s.Aside q but t) (d : Nat) : t.upStage d = s.upStage d :=
  (congrArg (fun c : CpmState => sparseGet (fun _ => 0) c.stage d) h.settings :)

theorem State.upStage_setStage (s : State) (d k : Nat) : (s.setStage d k).upStage d = k :=
  (sparseGet_set (fun _ => 0) s.cpm.stage d d k).trans (if_pos rfl)

/-- The state in which the domain is on, its blocks not yet started. -/
def State.switchedOn (s : State) (d : Nat) : State := (s.setStage d 0).setPd d pdOn

theorem State.switchedOn_spec (s : State) (d : Nat) : (s.switchedOn d).pd d = pdOn ∧ (s.switchedOn d).upStage d = 0 ∧
    (s.switchedOn d).cpm.owed = s.cpm.owed := by
  have hcpm : (s.switchedOn d).cpm = (s.setStage d 0).cpm := State.cpm_setPd _ _ _
  refine ⟨State.pd_setPd _ _ (by decide), ?_, by rw [hcpm]; rfl⟩
  rw [State.upStage, hcpm]
  exact s.upStage_setStage d 0

/-- The state in which the domain is on and its blocks have started, with nothing owed. -/
def State.turnedOn (s : State) (d meas : Nat) : State := ((s.switchedOn d).startBlocks d meas).owe d none

theorem State.turnedOn_spec (s : State) {d : Nat} (hd : d < 21) (meas : Nat) : (s.turnedOn d meas).pd d = pdOn ∧
    (s.turnedOn d meas).upStage d = 0 ∧ (s.turnedOn d meas).cpm.owed = s.cpm.owed.filter (·.1 != d) := by
  obtain ⟨hon, hstage, howed⟩ := s.switchedOn_spec d
  have hblocks : (s.switchedOn d).Aside False [Reg.CPM_CLKSEL] ((s.switchedOn d).startBlocks d meas) :=
    State.Aside.startBlocks .refl (by decide) d meas
  have hctl : Reg.CPM_PD_CTL d ∉ [Reg.CPM_CLKSEL] := by
    simp only [Reg.CPM_PD_CTL, Reg.CPM_CLKSEL, List.mem_cons, List.not_mem_nil, or_false]
    omega
  have hpd := (hblocks.pd hd hctl).trans hon
  have hup := (hblocks.upStage d).trans hstage
  have hkeep : ((s.switchedOn d).startBlocks d meas).cpm.owed = s.cpm.owed := (congrArg CpmState.owed hblocks.settings :).trans howed
  unfold State.turnedOn
  generalize (s.switchedOn d).startBlocks d meas = u at hpd hup hkeep
  exact ⟨hpd, hup, congrArg (List.filter fun o : Nat × Bool => o.1 != d) hkeep⟩

/-- The state in which a request owed since the power-up is taken. -/
def State.owedTaken (s : State) (d meas : Nat) : State :=
  match s.cpm.owed.find? (·.1 == d) with
  | some (_, f) => (s.turnedOn d meas).requestDown d f
  | none => s.turnedOn d meas

theorem State.turnOn_eq (s : State) (d meas : Nat) : s.turnOn d meas = (if d = PD_FABRIC ∧ (s.owedTaken d meas).gctl.slept.isSome
    then (s.owedTaken d meas).raise 221 else s.owedTaken d meas).startLevel := rfl

/-- The end of a power-up leaves the domain's own state. -/
theorem State.turnOn_keeps (s : State) {d : Nat} (hd : d < 21) (meas : Nat) : (s.turnOn d meas).pd d = (s.owedTaken d meas).pd d ∧
    (s.turnOn d meas).cpm.unlevelled = (s.owedTaken d meas).cpm.unlevelled := by
  rw [State.turnOn_eq]
  generalize s.owedTaken d meas = t
  split
  · have hlevel := State.levelled_startLevel (t.raise 221)
    exact ⟨State.pd_of_level hlevel.regs d hd, hlevel.cpm⟩
  · have hlevel := t.levelled_startLevel
    exact ⟨State.pd_of_level hlevel.regs d hd, hlevel.cpm⟩

theorem exec_pdReady_readies {s : State} {d : Fin 21} {meas : Nat} (hpd : s.pd d.val = pdPoweringUp) (hstage : s.upStage d.val = 2) :
    ∃ t, exec (.pdReady d meas) s = .next t ∧ t.upStage d.val = 0 ∧ (∀ f, (d.val, f) ∉ t.cpm.owed) ∧
      ((∀ f, (d.val, f) ∉ s.cpm.owed) → t.pd d.val = pdOn) ∧
      (∀ f, s.cpm.owed = [(d.val, f)] → t.pd d.val = pdRequested ∧ t.forced d.val = f) := by
  obtain ⟨hon, hup, howed⟩ := s.turnedOn_spec d.isLt meas
  obtain ⟨hend, hcpm⟩ := s.turnOn_keeps d.isLt meas
  have hstageEnd : (s.turnOn d.val meas).cpm.stage = (s.owedTaken d.val meas).cpm.stage := (congrArg CpmState.stage hcpm :)
  have howedEnd : (s.turnOn d.val meas).cpm.owed = (s.owedTaken d.val meas).cpm.owed := (congrArg CpmState.owed hcpm :)
  have hforcedEnd : (s.turnOn d.val meas).cpm.forced = (s.owedTaken d.val meas).cpm.forced := (congrArg CpmState.forced hcpm :)
  have htaken : (s.owedTaken d.val meas).cpm.stage = (s.turnedOn d.val meas).cpm.stage ∧
      (s.owedTaken d.val meas).cpm.owed = (s.turnedOn d.val meas).cpm.owed := by
    unfold State.owedTaken
    split
    · next f _ =>
      have haside := (s.turnedOn d.val meas).aside_requestDown d.val f
      have hset := State.cpm_setPd ((s.turnedOn d.val meas).setForced d.val f) d.val pdRequested
      exact ⟨(congrArg CpmState.stage haside.settings :).trans (congrArg CpmState.stage hset :),
        (congrArg CpmState.owed haside.settings :).trans (congrArg CpmState.owed hset :)⟩
    · exact ⟨rfl, rfl⟩
  refine ⟨_, congrArg Host.Outcome.next (if_pos ⟨hpd, hstage⟩), ?_, fun f hmem => ?_, fun hnone => ?_, fun f hone => ?_⟩
  · rw [State.upStage, hstageEnd, htaken.1]
    exact hup
  · rw [howedEnd, htaken.2, howed] at hmem
    simpa using (List.mem_filter.mp hmem).2
  · rw [hend, State.owedTaken]
    have hfind : s.cpm.owed.find? (·.1 == d.val) = none := by
      rw [List.find?_eq_none]
      rintro ⟨e, f⟩ hmem he
      obtain rfl : e = d.val := by simpa using he
      exact hnone f hmem
    rw [hfind]
    exact hon
  · have hfind : s.cpm.owed.find? (·.1 == d.val) = some (d.val, f) := by rw [hone]; simp
    have hreq : s.owedTaken d.val meas = (s.turnedOn d.val meas).requestDown d.val f := by
      rw [State.owedTaken, hfind]
    obtain ⟨hdown, _, hforced⟩ := (s.turnedOn d.val meas).requestDown_spec d.isLt f
    rw [hend, State.forced, hforcedEnd, hreq]
    exact ⟨hdown, hforced⟩

end Sys2Proof.Machine
end

section
/-!
Release from reset, resets and crossing queues (R424 to R427), the clock multiplexers (R410).
-/
namespace Sys2Proof.Machine

/-! ### Crossing queues -/

/-- One crossing queue resynchronised. -/
def State.resyncQueue (s : State) (d i : Nat) : State :=
  if ((queueSides i).1 = d ∨ (queueSides i).2 = d) ∧ s.sideUp (queueSides i).1 ∧ s.sideUp (queueSides i).2
    then s.setXq i 2 (s.xq i).2 else s

theorem State.resyncQueues_eq (s : State) (d : Nat) : s.resyncQueues d = (List.range 74).foldl (fun t i => t.resyncQueue d i) s := rfl

theorem State.xq_setXq (s : State) (i st n : Nat) : (s.setXq i st n).xq i = (st, n) :=
  (sparseGet_set (fun _ => (0, 0)) s.cpm.queues i i (st, n)).trans (if_pos rfl)

theorem State.xq_setXq_ne (s : State) {i j : Nat} (h : j ≠ i) (st n : Nat) : (s.setXq i st n).xq j = s.xq j :=
  (sparseGet_set (fun _ => (0, 0)) s.cpm.queues i j (st, n)).trans (if_neg h)

theorem State.sideUp_resyncQueue (s : State) (d i e : Nat) : (s.resyncQueue d i).sideUp e = s.sideUp e := by
  unfold State.resyncQueue
  split <;> rfl

theorem State.xq_resyncQueue_count (s : State) (d i j : Nat) : ((s.resyncQueue d i).xq j).2 = (s.xq j).2 ∧
    (s.xq j = (2, (s.xq j).2) → (s.resyncQueue d i).xq j = s.xq j) := by
  unfold State.resyncQueue
  split
  · by_cases hij : j = i
    · subst hij
      rw [State.xq_setXq]
      exact ⟨rfl, fun h => h.symm⟩
    · rw [State.xq_setXq_ne _ hij]
      exact ⟨rfl, fun _ => rfl⟩
  · exact ⟨rfl, fun _ => rfl⟩

theorem State.xq_foldl_resyncQueue {s : State} {d i n : Nat} (hside : (queueSides i).1 = d ∨ (queueSides i).2 = d)
    (ha : s.sideUp (queueSides i).1 = true) (hb : s.sideUp (queueSides i).2 = true) (hn : (s.xq i).2 = n) {is : List Nat}
    (hi : i ∈ is ∨ s.xq i = (2, n)) : (is.foldl (fun t j => t.resyncQueue d j) s).xq i = (2, n) := by
  induction is generalizing s with
  | nil => exact hi.resolve_left List.not_mem_nil
  | cons j js ih =>
    obtain ⟨hcount, hkeep⟩ := s.xq_resyncQueue_count d j i
    refine ih (by rwa [s.sideUp_resyncQueue]) (by rwa [s.sideUp_resyncQueue]) (hcount.trans hn) ?_
    rcases hi with hi | hi
    · rcases List.mem_cons.mp hi with rfl | hi
      · right
        have hsync : s.resyncQueue d i = s.setXq i 2 (s.xq i).2 := if_pos ⟨hside, ha, hb⟩
        exact (congrArg (fun t : State => t.xq i) hsync).trans ((s.xq_setXq _ _ _).trans (by rw [hn]))
      · exact .inl hi
    · right
      rw [hkeep (by rw [hi]), hi]

theorem State.xq_resyncQueues {s : State} {d i : Nat} (hlt : i < 74) (hside : (queueSides i).1 = d ∨ (queueSides i).2 = d)
    (ha : s.sideUp (queueSides i).1 = true) (hb : s.sideUp (queueSides i).2 = true) :
    (s.resyncQueues d).xq i = (2, (s.xq i).2) := by
  rw [State.resyncQueues_eq]
  exact State.xq_foldl_resyncQueue hside ha hb rfl (.inl (List.mem_range.mpr hlt))

theorem exec_xqResync_runs {s : State} {i : Fin 74} (hst : (s.xq i.val).1 ≠ 0) (ha : s.sideUp (queueSides i.val).1 = true)
    (hb : s.sideUp (queueSides i.val).2 = true) :
    exec (.xqResync i) s = .next (s.setXq i.val 0 (s.xq i.val).2) ∧ (s.setXq i.val 0 (s.xq i.val).2).xqRuns i.val = true := by
  refine ⟨congrArg Host.Outcome.next (if_pos ⟨hst, ha, hb⟩), ?_⟩
  rw [State.xqRuns, State.xq_setXq]
  rfl

/-! ### Release from reset -/

theorem queueSides_lt (i : Fin 74) : (queueSides i.val).1 < 21 ∧ (queueSides i.val).2 < 21 := by decide +revert

theorem State.sideUp_congr {s t : State} {d : Nat} (hpd : t.pd d = s.pd d) (hcpm : t.cpm.settings = s.cpm.settings) :
    t.sideUp d = s.sideUp d := by
  have hstage : t.upStage d = s.upStage d := (congrArg (fun c : CpmState => sparseGet (fun _ => 0) c.stage d) hcpm :)
  have hreset : t.cpm.inReset = s.cpm.inReset := (congrArg CpmState.inReset hcpm :)
  rw [State.sideUp, State.sideUp, hpd, hstage, hreset]

theorem State.loadReplicas_frame (s : State) (rs : List Nat) : (rs.foldl State.loadReplica s).cpm = s.cpm ∧
    (rs.foldl State.loadReplica s).regs = s.regs :=
  List.foldlRecOn (motive := fun t : State => t.cpm = s.cpm ∧ t.regs = s.regs) rs State.loadReplica ⟨rfl, rfl⟩ fun _ ht _ _ => ht

theorem State.cpm_remapTiles (s : State) : s.remapTiles.cpm = s.cpm := by
  refine List.foldlRecOn (motive := fun t : State => t.cpm = s.cpm) (List.range 64) State.remapTile rfl fun t ht l _ => ?_
  unfold State.remapTile
  dsimp only
  split
  · exact ht
  · split <;> exact ht

/-- The start from the ROM leaves the domains and the queues, and clocks the fabric. -/
theorem State.romStarts_spec (s : State) : s.romStarts.cpm = s.cpm ∧ (∀ d < 21, s.romStarts.pd d = s.pd d) ∧
    s.romStarts.flag Reg.CPM_CLKSEL 0 = true := by
  let u := ({ s with raised := [] } : State).remapTiles
  have hremap : ({ s with raised := [] } : State).Aside False [] u := State.Aside.remapTiles .refl
  have hcpm : u.cpm = s.cpm := State.cpm_remapTiles _
  let v := u.setFlag Reg.CPM_CLKSEL 0 true
  have hv : ∀ d < 21, v.pd d = s.pd d := fun d hd =>
    (State.fld_setFlag_other _ _ _ _ _ _ _ (.inl (by simp only [Reg.CPM_PD_CTL, Reg.CPM_CLKSEL]; omega))).trans (hremap.pd hd List.not_mem_nil)
  have hsel : v.flag Reg.CPM_CLKSEL 0 = true := State.flag_setFlag _ _ _ _ (by decide)
  have hrom : s.romStarts = if v.mode = modeBoot ∧ v.fld Reg.GCTL_BOOT 0 4 = 1 then v.setFld Reg.GCTL_BOOT 0 4 2 else v := rfl
  rw [hrom]
  split
  · exact ⟨hcpm, fun d hd => (State.fld_setFld_other _ _ _ _ _ _ _ _ (.inl (by simp only [Reg.CPM_PD_CTL, Reg.GCTL_BOOT]; omega))
      (by decide)).trans (hv d hd), (State.flag_setFld_other _ _ _ _ _ _ _ (.inl (by decide)) (by decide)).trans hsel⟩
  · exact ⟨hcpm, hv, hsel⟩

/-- A domain that is released has its queues resynchronised. -/
theorem State.released_spec (s : State) (d : Nat) : s.Aside False [] (s.released d) ∧
    ∀ i : Fin 74, ((queueSides i.val).1 = d ∨ (queueSides i.val).2 = d) → (s.released d).sideUp (queueSides i.val).1 = true →
      (s.released d).sideUp (queueSides i.val).2 = true → (s.released d).xq i.val = (2, (s.xq i.val).2) := by
  have haside : s.Aside False [] (s.released d) := State.Aside.released .refl d
  obtain ⟨hcpm, hregs⟩ := s.loadReplicas_frame (domainReplicas d)
  refine ⟨haside, fun i hside ha hb => ?_⟩
  have hup : ∀ e < 21, (s.released d).sideUp e = ((domainReplicas d).foldl State.loadReplica s).sideUp e := fun e he => by
    refine State.sideUp_congr ?_ ?_
    · exact (haside.pd he List.not_mem_nil).trans (congrArg (bitsAt · 24 3) (State.rd_of_regs _ _ hregs _)).symm
    · rw [hcpm]
      exact haside.settings
  obtain ⟨hlt, hlt'⟩ := queueSides_lt i
  rw [hup _ hlt] at ha
  rw [hup _ hlt'] at hb
  refine (State.xq_resyncQueues i.isLt hside ha hb).trans ?_
  rw [State.xq, hcpm]
  rfl

theorem exec_pdResetRelease_releases {s : State} {d : Fin 21} (hpd : s.pd d.val = pdPoweringUp) (hstage : s.upStage d.val = 1)
    (hclock : s.clockReady d.val = true) :
    ∃ t, exec (.pdResetRelease d) s = .next t ∧ t.upStage d.val = 2 ∧ t.pd d.val = pdPoweringUp ∧
      (∀ i : Fin 74, ((queueSides i.val).1 = d.val ∨ (queueSides i.val).2 = d.val) → t.sideUp (queueSides i.val).1 = true →
        t.sideUp (queueSides i.val).2 = true → t.xq i.val = (2, (s.xq i.val).2)) ∧
      (d.val = PD_FABRIC → t.flag Reg.CPM_CLKSEL 0 = true) := by
  obtain ⟨haside, hqueue⟩ := (s.setStage d.val 2).released_spec d.val
  have hup := (haside.upStage d.val).trans (s.upStage_setStage d.val 2)
  have hpd' : ((s.setStage d.val 2).released d.val).pd d.val = pdPoweringUp := (haside.pd d.isLt List.not_mem_nil).trans hpd
  refine ⟨_, congrArg Host.Outcome.next (if_pos ⟨hpd, hstage, hclock⟩), ?_⟩
  generalize (s.setStage d.val 2).released d.val = u at hqueue hup hpd'
  dsimp only
  split
  · obtain ⟨hcpm, hpds, hsel⟩ := u.romStarts_spec
    refine ⟨(congrArg (fun c : CpmState => sparseGet (fun _ => 0) c.stage d.val) hcpm).trans hup, (hpds _ d.isLt).trans hpd',
      fun i hside ha hb => ?_, fun _ => hsel⟩
    obtain ⟨hlt, hlt'⟩ := queueSides_lt i
    rw [State.sideUp_congr (hpds _ hlt) (congrArg CpmState.settings hcpm)] at ha
    rw [State.sideUp_congr (hpds _ hlt') (congrArg CpmState.settings hcpm)] at hb
    exact (congrArg (fun c : CpmState => sparseGet (fun _ => (0, 0)) c.queues i.val) hcpm).trans (hqueue i hside ha hb)
  · next hd => exact ⟨hup, hpd', hqueue, fun h => absurd h hd⟩

/-! ### Resets of a running domain -/

theorem exec_pdReset_resets {s : State} {ag : Agent} {d : Fin 21} (ho : s.opens ag (Reg.CPM_PD_CTL d.val) = true)
    (hctl : controls ag = true) (hfree : fixedDomain d.val = false) (hpd : s.pd d.val = pdOn ∨ s.pd d.val = pdGated) :
    ∃ t, exec (.pdReset ag d) s = .next t ∧ d.val ∈ t.cpm.inReset ∧ t.pd d.val = s.pd d.val ∧ t.gys.l = s.gys.l := by
  have hexec := (exec_pdReset_opens ho).trans (congrArg Host.Outcome.next ((State.writePd_reset hctl hfree _ _ _ _).trans (if_pos hpd)))
  have hzero : d.val ≠ 0 := fun h => by rw [h] at hfree; cases hfree
  let u : State := { s with cpm := { s.cpm with inReset := s.cpm.inReset.filter (· != d.val) ++ [d.val] } }
  have haside : u.Aside True [Reg.CPM_STICKY] (s.startReset d.val) :=
    State.Aside.domainReset .refl (by decide) hzero fun h => absurd h (fixedDomain_fabric hfree)
  have hctl : Reg.CPM_PD_CTL d.val ∉ [Reg.CPM_STICKY] := by
    simp only [Reg.CPM_PD_CTL, Reg.CPM_STICKY, List.mem_cons, List.not_mem_nil, or_false]
    omega
  refine ⟨_, hexec, ?_, haside.pd d.isLt hctl, (haside.kept trivial).1⟩
  rw [show (s.startReset d.val).cpm.inReset = u.cpm.inReset from (congrArg CpmState.inReset haside.settings :)]
  exact List.mem_append_right _ List.mem_cons_self

theorem exec_pdReset_refused {s : State} {ag : Agent} {d : Fin 21} (ho : s.opens ag (Reg.CPM_PD_CTL d.val) = true)
    (hctl : controls ag = true) (hfree : fixedDomain d.val = false) (hon : s.pd d.val ≠ pdOn) (hgated : s.pd d.val ≠ pdGated) :
    exec (.pdReset ag d) s = .next (s.error Reg.CPM_ERR 4 222) :=
  (exec_pdReset_opens ho).trans (congrArg Host.Outcome.next ((State.writePd_reset hctl hfree _ _ _ _).trans
    (if_neg (not_or.mpr ⟨hon, hgated⟩))))

theorem exec_pdResetEnd_ends {s : State} {d : Fin 21} {meas : Nat} (hin : d.val ∈ s.cpm.inReset) :
    ∃ t, exec (.pdResetEnd d meas) s = .next t ∧ d.val ∉ t.cpm.inReset ∧ t.pd d.val = s.pd d.val := by
  let u : State := { s with cpm := { s.cpm with inReset := s.cpm.inReset.filter (· != d.val) } }
  have haside : u.Aside False [Reg.CPM_CLKSEL] ((u.released d.val).startBlocks d.val meas) :=
    State.Aside.startBlocks (State.Aside.released .refl _) (by decide) _ _
  have hctl : Reg.CPM_PD_CTL d.val ∉ [Reg.CPM_CLKSEL] := by
    simp only [Reg.CPM_PD_CTL, Reg.CPM_CLKSEL, List.mem_cons, List.not_mem_nil, or_false]
    omega
  refine ⟨_, congrArg Host.Outcome.next (if_pos (by simpa using hin)), ?_, haside.pd d.isLt hctl⟩
  rw [show ((u.released d.val).startBlocks d.val meas).cpm.inReset = u.cpm.inReset from (congrArg CpmState.inReset haside.settings :)]
  exact notMem_filter_ne s.cpm.inReset d.val

/-! ### The clock multiplexers -/

theorem exec_clockSwitch_of_opens {s : State} {ag : Agent} {v : Word} (ho : s.opens ag Reg.CPM_CLKSEL = true) :
    exec (.clockSwitch ag v) s = .next (s.writeClksel ag v) := by
  change execClockSwitch ag v s = _
  rw [execClockSwitch, State.writeAccess_opens _ _ _ _ _ ho]

theorem State.writeClksel_of_controls {s : State} {ag : Agent} (hctl : controls ag = true) (v : Word) : s.writeClksel ag v =
    (if isHost ag then (if bitAt v 0 = s.flag Reg.CPM_CLKSEL 0 then s else s.error Reg.CPM_ERR 2 222)
      else s.switchClock 0 (bitAt v 0) (!bitAt v 0 || s.pllReady pllH)).switchClock 4 (bitAt v 4)
        (if bitAt v 4 then s.pllReady pllH else s.pllReady pllC) :=
  if_neg (by simp [hctl])

theorem controls_of_host {ag : Agent} (h : isHost ag = true) : controls ag = true := by simp [controls, h]

theorem exec_clockSwitch_crypto {s : State} {ag : Agent} {v : Word} (ho : s.opens ag Reg.CPM_CLKSEL = true) (hhost : isHost ag = true)
    (hsame : bitAt v 0 = s.flag Reg.CPM_CLKSEL 0) :
    exec (.clockSwitch ag v) s = .next (if s.flag Reg.CPM_CLKSEL 4 = bitAt v 4 then s
      else if s.pllReady (if bitAt v 4 then pllH else pllC) then s.setFlag Reg.CPM_CLKSEL 4 (bitAt v 4)
      else s.error Reg.CPM_ERR 1 222) := by
  rw [exec_clockSwitch_of_opens ho, State.writeClksel_of_controls (controls_of_host hhost), if_pos hhost, if_pos hsame,
    ← apply_ite s.pllReady]
  rfl

theorem State.switchClock_same {s : State} {bit : Nat} {b : Bool} (h : s.flag Reg.CPM_CLKSEL bit = b) (ready : Bool) :
    s.switchClock bit b ready = s := if_pos h

theorem exec_clockSwitch_foreignBit {s : State} {ag : Agent} {v : Word} (ho : s.opens ag Reg.CPM_CLKSEL = true)
    (hhost : isHost ag = true) (hne : bitAt v 0 ≠ s.flag Reg.CPM_CLKSEL 0) (hsame : bitAt v 4 = s.flag Reg.CPM_CLKSEL 4) :
    exec (.clockSwitch ag v) s = .next (s.error Reg.CPM_ERR 2 222) := by
  rw [exec_clockSwitch_of_opens ho, State.writeClksel_of_controls (controls_of_host hhost), if_pos hhost, if_neg hne,
    State.switchClock_same]
  exact (congrArg (bitAt · 4) (State.rd_error_ne _ _ _ _ (by decide))).trans hsame.symm

theorem exec_clockSwitch_host {s : State} {k : Fin 8} {v : Word} (ho : s.opens (.sc k) Reg.CPM_CLKSEL = true) (hk : k.val < 2)
    (hsame : bitAt v 4 = s.flag Reg.CPM_CLKSEL 4) :
    exec (.clockSwitch (.sc k) v) s = .next (if s.flag Reg.CPM_CLKSEL 0 = bitAt v 0 then s
      else if bitAt v 0 = false ∨ s.pllReady pllH = true then s.setFlag Reg.CPM_CLKSEL 0 (bitAt v 0)
      else s.error Reg.CPM_ERR 1 222) := by
  have hctl : controls (.sc k) = true := by
    simp only [controls, isHost, isCore, Bool.false_or, Bool.and_eq_true, decide_eq_true_eq]
    omega
  have hfirst : s.switchClock 0 (bitAt v 0) (!bitAt v 0 || s.pllReady pllH) = if s.flag Reg.CPM_CLKSEL 0 = bitAt v 0 then s
      else if bitAt v 0 = false ∨ s.pllReady pllH = true then s.setFlag Reg.CPM_CLKSEL 0 (bitAt v 0)
      else s.error Reg.CPM_ERR 1 222 := by
    unfold State.switchClock
    simp only [Bool.or_eq_true, Bool.not_eq_true']
    rfl
  have hfour : (s.switchClock 0 (bitAt v 0) (!bitAt v 0 || s.pllReady pllH)).flag Reg.CPM_CLKSEL 4 = bitAt v 4 := by
    rw [hsame]
    unfold State.switchClock
    split
    · rfl
    · split
      · exact State.flag_setFlag_other _ _ _ _ _ _ (.inr (by decide))
      · exact congrArg (bitAt · 4) (State.rd_error_ne _ _ _ _ (by decide))
  rw [exec_clockSwitch_of_opens ho, State.writeClksel_of_controls hctl, if_neg (by simp [isHost]), State.switchClock_same hfour, hfirst]

theorem exec_clockSwitch_foreign {s : State} {k : Fin 8} {v : Word} (ho : s.opens (.sc k) Reg.CPM_CLKSEL = true) (hk : 2 ≤ k.val) :
    exec (.clockSwitch (.sc k) v) s = .next (s.error Reg.CPM_ERR 2 222) := by
  refine (exec_clockSwitch_of_opens ho).trans (congrArg Host.Outcome.next (if_pos ?_))
  simp only [controls, isHost, isCore, Bool.false_or, Bool.and_eq_false_iff, decide_eq_false_iff_not]
  omega

end Sys2Proof.Machine
end

section
/-!
A domain turned off (R426): its registers hold their reset values but those kept, and a latched enable starts it again.
-/
namespace Sys2Proof.Machine

/-! ### The registers of the domain -/

/-- The register is the domain's and is not kept. -/
def dropped (d : Nat) (keep : Nat → Bool) (o : Nat) : Bool :=
  match regRow o with
  | some (r, _, _) => regDomain r o == d && !keep o
  | none => false

theorem State.rd_dropRegs (s : State) (d : Nat) (keep : Nat → Bool) (o : Nat) :
    (s.dropRegs d keep).rd o = if dropped d keep o then regDefault o else s.rd o := by
  have hfilter := sparseGet_filter regDefault (fun o => !dropped d keep o) s.regs o
  refine hfilter.trans ?_
  cases dropped d keep o <;> rfl

/-- The registers that the controller writes when a domain has been lost. -/
def offRegs (d : Nat) : List Nat := Reg.DRY_STATUS :: Reg.CPM_PD_CTL d :: dropRegisters

/-- A register of a domain other than PD_AON lies above those of the controller. -/
theorem regDomain_high {d o : Nat} (hd : d ≠ 0) {r : RegRow} {i j : Nat} (hr : regRow o = some (r, i, j)) (hdom : regDomain r o = d) :
    0x200000 ≤ o := by
  by_contra hlow
  exact hd (hdom.symm.trans (regDomain_of_low (by omega) hr))

theorem high_notMem_offRegs {d o : Nat} (hd : d < 21) (ho : 0x200000 ≤ o) (hdry : o ≠ Reg.DRY_STATUS) : o ∉ offRegs d := by
  simp only [offRegs, dropRegisters, Reg.CPM_PD_CTL, Reg.CPM_STICKY, Reg.CPM_CLKSEL, Reg.CPM_PLL, Reg.CPM_PLEVEL, List.mem_cons,
    List.not_mem_nil, or_false] at hdry ⊢
  omega

theorem State.rd_domainLost (s : State) {d o : Nat} (hd : d ≠ 0) {r : RegRow} {i j : Nat} (hr : regRow o = some (r, i, j))
    (hdom : regDomain r o = d) (hkeep : keptReg o = false) (hsel : o ≠ Reg.SEL_STATUS) : (s.domainLost d).rd o = regDefault o := by
  have hhigh := regDomain_high hd hr hdom
  have hmine : dropped d keptReg o = true := by simp [dropped, hr, hdom, hkeep]
  have hgys : o ≠ Reg.GYS_CTRL := by
    rintro rfl
    simp [keptReg] at hkeep
  have hclk : o ≠ Reg.CPM_CLKSEL := by
    simp only [Reg.CPM_CLKSEL]
    omega
  unfold State.domainLost
  extract_lets t u
  have hu : u.rd o = regDefault o := (t.rd_dropRegs d keptReg o).trans (if_pos hmine)
  split
  · exact (State.rd_wr_ne _ _ _ _ hsel).trans ((State.rd_wr_ne _ _ _ _ hclk).trans ((State.rd_wr_ne _ _ _ _ hgys).trans hu))
  · exact hu

/-- PD_FABRIC keeps EVERLOCK (R427). -/
theorem State.everlock_domainLost (s : State) : (s.domainLost PD_FABRIC).flag Reg.SEL_STATUS 26 = s.flag Reg.SEL_STATUS 26 := by
  unfold State.domainLost
  extract_lets t u
  rw [if_pos rfl]
  exact State.flag_setFlag _ _ _ _ (by decide)

/-! ### What the controller does after the loss -/

/-- A step of the controller that moves at most the listed registers, DRY_STATUS only by clearing its failure bit. -/
structure State.Settles (l : List Nat) (s t : State) : Prop where
  regs : s.keepsRegs t l
  dry : s.rd Reg.DRY_STATUS = regDefault Reg.DRY_STATUS → t.rd Reg.DRY_STATUS = regDefault Reg.DRY_STATUS
  forced : t.cpm.forced = s.cpm.forced

namespace State.Settles

variable {s t u : State} {l : List Nat}

theorem refl : s.Settles l s := ⟨.refl, id, rfl⟩

theorem trans (h : s.Settles l t) (h' : t.Settles l u) : s.Settles l u :=
  ⟨h.regs.trans h'.regs, fun hs => h'.dry (h.dry hs), h'.forced.trans h.forced⟩

/-- A step that leaves DRY_STATUS. -/
theorem of_keepsRegs {l' : List Nat} (h : s.keepsRegs t l') (hl : l' ⊆ l) (hdry : Reg.DRY_STATUS ∉ l') (hf : t.cpm.forced = s.cpm.forced) :
    s.Settles l t :=
  ⟨h.mono hl, fun hs => (h _ hdry).trans hs, hf⟩

theorem setFlag {o : Nat} (ho : o ∈ l) (hdry : o ≠ Reg.DRY_STATUS) (i : Nat) (b : Bool) : s.Settles l (s.setFlag o i b) :=
  .of_keepsRegs (l' := [o]) (.setFlag (o := o) .refl List.mem_cons_self) (by simpa using ho) (by simpa using hdry.symm) rfl

theorem clearFailure (ho : Reg.DRY_STATUS ∈ l) : s.Settles l (s.setFlag Reg.DRY_STATUS 16 false) := by
  refine ⟨.setFlag (o := Reg.DRY_STATUS) .refl ho, fun hs => ?_, rfl⟩
  have hdefault : putBit (regDefault Reg.DRY_STATUS) 16 false = regDefault Reg.DRY_STATUS := by decide +kernel
  rw [State.setFlag, State.rd_wr_same, hs, hdefault]

theorem ite {c : Prop} [Decidable c] (ht : s.Settles l t) (hu : s.Settles l u) : s.Settles l (if c then t else u) := by
  split
  · exact ht
  · exact hu

end State.Settles

theorem State.settles_pllSweep (s : State) (d : Nat) : s.Settles (offRegs d) s.pllSweep := by
  refine List.foldlRecOn (motive := fun t : State => s.Settles (offRegs d) t) (List.range 13) _ .refl fun v hv p _ => .ite hv ?_
  have hpll : Reg.CPM_PLL ∈ offRegs d := List.mem_cons_of_mem _ (List.mem_cons_of_mem _ (by decide))
  have hstop : s.Settles (offRegs d) ((v.setFlag Reg.CPM_PLL p false).setFlag Reg.CPM_PLL (16 + p) false) :=
    (hv.trans (.setFlag hpll (by decide) _ _)).trans (.setFlag hpll (by decide) _ _)
  exact .ite (hstop.trans (.clearFailure List.mem_cons_self)) hstop

theorem State.levelled_levelDone (s : State) (m : LevelMove) : s.Levelled (s.levelDone m) :=
  ⟨.raise (.of_regs (.setFlag (o := Reg.CPM_PLEVEL) (.setFld (o := Reg.CPM_PLEVEL) .refl))), rfl, List.subset_append_left _ _⟩

theorem State.levelled_levelSweep (s : State) : s.Levelled s.levelSweep := by
  unfold State.levelSweep
  split
  · next m _ =>
    split
    · have hset := s.levelled_setFlag (o := Reg.CPM_CLKSEL) (by decide) 2 (!s.pllReady pllA)
      unfold State.levelRelocked
      extract_lets t
      split
      · exact hset.trans ((t.levelled_levelDone m).trans (State.levelled_startLevel _))
      · exact hset.trans (t.levelled_levelPhase m 2)
    · exact .refl
  · exact .refl

theorem State.settles_levelSweep (s : State) (d : Nat) : s.Settles (offRegs d) s.levelSweep :=
  .of_keepsRegs s.levelled_levelSweep.regs
    (List.Subset.trans (l₂ := dropRegisters) (by decide) fun _ h => List.mem_cons_of_mem _ (List.mem_cons_of_mem _ h))
    (by decide) (congrArg CpmState.forced s.levelled_levelSweep.cpm :)

/-- The domain is off, its blocks lost, before the controller stops what nothing uses any more. -/
def State.offState (s : State) (d : Nat) : State :=
  let t := ((s.domainLost d).setForced d false).setPd d pdOff
  ({ t with cpm := { t.cpm with inReset := t.cpm.inReset.filter (· != d) } } : State).setFlag (Reg.CPM_PD_CTL d) 29 false

theorem State.offState_spec (s : State) {d : Nat} (hd0 : d ≠ 0) (hd : d < 21) : (s.domainLost d).keepsRegs (s.offState d) [Reg.CPM_PD_CTL d] ∧
    (s.offState d).pd d = pdOff ∧ (s.offState d).clkoff d = false ∧
    (s.offState d).flag (Reg.CPM_PD_CTL d) 27 = s.flag (Reg.CPM_PD_CTL d) 27 ∧ d ∉ (s.offState d).cpm.forced := by
  have hlost : s.Aside False [Reg.CPM_STICKY, Reg.CPM_CLKSEL] (s.domainLost d) :=
    State.Aside.domainLost .refl (by decide) (by decide) id hd0
  have hctl : Reg.CPM_PD_CTL d ∉ [Reg.CPM_STICKY, Reg.CPM_CLKSEL] := by
    simp only [Reg.CPM_PD_CTL, Reg.CPM_STICKY, Reg.CPM_CLKSEL, List.mem_cons, List.not_mem_nil, or_false]
    omega
  have hreg : (s.domainLost d).rd (Reg.CPM_PD_CTL d) = s.rd (Reg.CPM_PD_CTL d) :=
    hlost.regs _ (by simp only [Reg.CPM_PD_CTL]; omega) hctl
  unfold State.offState
  generalize s.domainLost d = v at hreg
  have hforced := v.forced_setForced d false
  have hforcedReg : (v.setForced d false).flag (Reg.CPM_PD_CTL d) 27 = v.flag (Reg.CPM_PD_CTL d) 27 := rfl
  have hkeep : v.keepsRegs (v.setForced d false) [Reg.CPM_PD_CTL d] := .of_regs .refl
  generalize v.setForced d false = w at hforced hforcedReg hkeep
  have hpd : (w.setPd d pdOff).pd d = pdOff := State.pd_setPd _ _ (by decide)
  have hpending := State.flag_setPd w d pdOff d 27 (.inr (by decide)) (by decide)
  have hsame : (w.setPd d pdOff).cpm = w.cpm := State.cpm_setPd _ _ _
  have hregs := hkeep.trans (w.keepsRegs_setPd d pdOff)
  generalize w.setPd d pdOff = x at hpd hpending hsame hregs
  refine ⟨.setFlag (o := Reg.CPM_PD_CTL d) (.of_regs hregs) List.mem_cons_self, ?_, State.flag_setFlag _ _ _ _ (by decide), ?_, ?_⟩
  · exact (State.fld_setFlag_other _ _ _ _ _ _ _ (.inr (.inr (by decide)))).trans hpd
  · exact (State.flag_setFlag_other _ _ _ _ _ _ (.inr (by decide))).trans
      (hpending.trans (hforcedReg.trans (congrArg (bitAt · 27) hreg)))
  · change d ∉ x.cpm.forced
    rw [hsame]
    intro hmem
    rw [State.forced, List.contains_iff_mem.mpr hmem] at hforced
    cases hforced

/-- The state in which a domain is off and what nothing uses is stopped. -/
def State.offSwept (s : State) (d : Nat) : State := ((s.offState d).pllSweep).levelSweep

theorem State.turnOff_eq (s : State) (d : Nat) : s.turnOff d = if (s.offSwept d).flag (Reg.CPM_PD_CTL d) 27 = true
    then (((s.offSwept d).setEnPending d false).setEn d true).powerUp d else s.offSwept d := by
  unfold State.turnOff
  dsimp only
  rw [State.offSwept, State.offState]

theorem State.settles_turnOff (s : State) {d : Nat} (hd0 : d ≠ 0) (hd : d < 21) :
    (s.domainLost d).keepsRegs (s.turnOff d) (offRegs d) ∧
    ((s.domainLost d).rd Reg.DRY_STATUS = regDefault Reg.DRY_STATUS → (s.turnOff d).rd Reg.DRY_STATUS = regDefault Reg.DRY_STATUS) := by
  obtain ⟨hoff, _⟩ := s.offState_spec hd0 hd
  have hsweep := ((s.offState d).settles_pllSweep d).trans (State.settles_levelSweep _ d)
  have hctl : Reg.DRY_STATUS ∉ [Reg.CPM_PD_CTL d] := by
    simp only [Reg.CPM_PD_CTL, Reg.DRY_STATUS, List.mem_cons, List.not_mem_nil, or_false]
    omega
  have hmem : [Reg.CPM_PD_CTL d] ⊆ offRegs d := by simp [offRegs]
  have hswept : (s.domainLost d).keepsRegs (s.offSwept d) (offRegs d) := (hoff.mono hmem).trans hsweep.regs
  have hdry : (s.domainLost d).rd Reg.DRY_STATUS = regDefault Reg.DRY_STATUS → (s.offSwept d).rd Reg.DRY_STATUS = regDefault Reg.DRY_STATUS :=
    fun h => hsweep.dry ((hoff _ hctl).trans h)
  have hup : (s.offSwept d).keepsRegs ((((s.offSwept d).setEnPending d false).setEn d true).powerUp d) [Reg.CPM_PD_CTL d] :=
    State.keepsRegs.trans (.of_regs (.setFlag (o := Reg.CPM_PD_CTL d) (.setFlag (o := Reg.CPM_PD_CTL d) .refl List.mem_cons_self)
      List.mem_cons_self)) (State.keepsRegs_setPd _ d pdPoweringUp)
  rw [State.turnOff_eq]
  split
  · exact ⟨hswept.trans (hup.mono hmem), fun h => (hup _ hctl).trans (hdry h)⟩
  · exact ⟨hswept, hdry⟩

theorem State.offSwept_spec (s : State) {d : Nat} (hd0 : d ≠ 0) (hd : d < 21) : (s.offSwept d).pd d = pdOff ∧
    (s.offSwept d).clkoff d = false ∧ (s.offSwept d).flag (Reg.CPM_PD_CTL d) 27 = s.flag (Reg.CPM_PD_CTL d) 27 ∧
    d ∉ (s.offSwept d).cpm.forced := by
  obtain ⟨_, hpd, hclk, hpending, hforced⟩ := s.offState_spec hd0 hd
  have hsweep : (s.offState d).Below dropRegisters (s.offSwept d) :=
    (State.below_pllSweep _).trans (State.below_levelSweep _)
  have hreg := hsweep.regs (Reg.CPM_PD_CTL d) (by simp only [Reg.CPM_PD_CTL]; omega) (pdCtl_notMem_dropRegisters d)
  have hkeep := (((s.offState d).settles_pllSweep d).trans (State.settles_levelSweep _ d)).forced
  refine ⟨(congrArg (bitsAt · 24 3) hreg).trans hpd, (congrArg (bitAt · 29) hreg).trans hclk, (congrArg (bitAt · 27) hreg).trans hpending, ?_⟩
  rw [show (s.offSwept d).cpm.forced = (s.offState d).cpm.forced from hkeep]
  exact hforced

theorem exec_pdOff_off {s : State} {d : Fin 21} (hd0 : d.val ≠ 0) (hpd : s.pd d.val = pdShuttingDown) :
    ∃ t, exec (.pdOff d) s = .next t ∧ t.clkoff d.val = false ∧ t.flag (Reg.CPM_PD_CTL d.val) 27 = false ∧ d.val ∉ t.cpm.forced ∧
      (s.flag (Reg.CPM_PD_CTL d.val) 27 = false → t.pd d.val = pdOff) ∧
      (s.flag (Reg.CPM_PD_CTL d.val) 27 = true → t.pd d.val = pdPoweringUp ∧ t.pdEn d.val = true) ∧
      (∀ off r i j, regRow off = some (r, i, j) → regDomain r off = d.val → keptReg off = false → off ≠ Reg.SEL_STATUS →
        t.rd off = regDefault off) ∧
      (d.val = PD_FABRIC → t.flag Reg.SEL_STATUS 26 = s.flag Reg.SEL_STATUS 26) := by
  obtain ⟨hregs, hdry⟩ := s.settles_turnOff hd0 d.isLt
  obtain ⟨hoff, hclk, hpending, hforced⟩ := s.offSwept_spec hd0 d.isLt
  refine ⟨s.turnOff d.val, congrArg Host.Outcome.next (if_pos hpd), ?_⟩
  have hregisters : ∀ off r i j, regRow off = some (r, i, j) → regDomain r off = d.val → keptReg off = false →
      off ≠ Reg.SEL_STATUS → (s.turnOff d.val).rd off = regDefault off := fun off r i j hr hdom hkeep hsel => by
    have hlost := s.rd_domainLost hd0 hr hdom hkeep hsel
    by_cases ho : off = Reg.DRY_STATUS
    · subst ho
      exact hdry hlost
    · exact (hregs off (high_notMem_offRegs d.isLt (regDomain_high hd0 hr hdom) ho)).trans hlost
  have hever : d.val = PD_FABRIC → (s.turnOff d.val).flag Reg.SEL_STATUS 26 = s.flag Reg.SEL_STATUS 26 := fun hd => by
    have hsel := hregs Reg.SEL_STATUS (high_notMem_offRegs d.isLt (by decide) (by decide))
    refine (congrArg (bitAt · 26) hsel).trans ?_
    rw [hd]
    exact s.everlock_domainLost
  rw [← and_assoc, ← and_assoc, ← and_assoc, ← and_assoc]
  refine ⟨?_, hregisters, hever⟩
  rw [State.turnOff_eq]
  split
  · next h =>
    let u := ((s.offSwept d.val).setEnPending d.val false).setEn d.val true
    have hbit : ∀ i, 27 ≤ i → i < 32 → (u.powerUp d.val).flag (Reg.CPM_PD_CTL d.val) i = u.flag (Reg.CPM_PD_CTL d.val) i :=
      fun i hlo hi => State.flag_setPd (u.setStage d.val 0) _ _ _ _ (.inr hlo) hi
    refine ⟨⟨⟨⟨?_, ?_⟩, ?_⟩, fun hf => ?_⟩, fun _ => ⟨State.pd_powerUp _ _, ?_⟩⟩
    · exact (hbit 29 (by decide) (by decide)).trans ((State.flag_setFlag_other _ _ _ _ _ _ (.inr (by decide))).trans
        ((State.flag_setFlag_other _ _ _ _ _ _ (.inr (by decide))).trans hclk))
    · exact (hbit 27 (by decide) (by decide)).trans ((State.flag_setFlag_other _ _ _ _ _ _ (.inr (by decide))).trans
        (State.flag_setFlag _ _ _ _ (by decide)))
    · rw [State.powerUp, State.cpm_setPd]
      exact hforced
    · rw [hpending, hf] at h
      cases h
    · exact (hbit 31 (by decide) (by decide)).trans (State.pdEn_setEn _ _ _)
  · next h =>
    have hclear : (s.offSwept d.val).flag (Reg.CPM_PD_CTL d.val) 27 = false := by simpa using h
    refine ⟨⟨⟨⟨hclk, hclear⟩, hforced⟩, fun _ => hoff⟩, fun ht => ?_⟩
    rw [hpending, ht] at hclear
    cases hclear

end Sys2Proof.Machine
end

section
/-!
Inputs and PLLs lost and returned (R406 to R409).
-/
namespace Sys2Proof.Machine

/-- What the loss of a PLL moves: locks are lost, losses and sticky bits set; nothing raised is dropped, the inputs stay, and a
device that runs goes on running. -/
structure State.Fails (s t : State) : Prop where
  status : t.rd Reg.CPM_STATUS = s.rd Reg.CPM_STATUS
  stickies : ∀ i, s.flag Reg.CPM_STICKY i = true → t.flag Reg.CPM_STICKY i = true
  losses : ∀ i, 16 ≤ i → s.flag Reg.CPM_PLL i = true → t.flag Reg.CPM_PLL i = true
  locks : ∀ i, i < 16 → s.flag Reg.CPM_PLL i = false → t.flag Reg.CPM_PLL i = false
  lost : t.cpm.lost = s.cpm.lost
  raised : s.raised ⊆ t.raised
  runs : s.mode ≠ modeOff ∧ s.mode ≠ modeReset → t.mode ≠ modeOff ∧ t.mode ≠ modeReset

/-- The registers that the loss of a PLL writes below those of CAL. -/
def pllRegs : List Nat := [Reg.CPM_PLL, Reg.CPM_STICKY]

namespace State.Fails

variable {s t u : State}

theorem refl : s.Fails s := ⟨rfl, fun _ h => h, fun _ _ h => h, fun _ _ h => h, rfl, List.Subset.refl _, id⟩

theorem trans (h : s.Fails t) (h' : t.Fails u) : s.Fails u :=
  ⟨h'.status.trans h.status, fun i hi => h'.stickies i (h.stickies i hi), fun i hi hf => h'.losses i hi (h.losses i hi hf),
    fun i hi hf => h'.locks i hi (h.locks i hi hf), h'.lost.trans h.lost, List.Subset.trans h.raised h'.raised,
    fun hr => h'.runs (h.runs hr)⟩

theorem of_aside (h : s.Aside True pllRegs t) : s.Fails t := by
  have hmode : t.mode = s.mode := congrArg (bitsAt · 0 4) (h.regs Reg.GCTL_STATUS (by decide) (by decide))
  exact ⟨h.regs _ (by decide) (by decide), h.stickies, h.losses, h.locks, (congrArg CpmState.lost h.settings :),
    (h.kept trivial).2, fun hr => by rwa [hmode]⟩

end State.Fails

/-- A cause of SAFE leaves the mode or gives SAFE. -/
theorem State.mode_safeCause (s : State) {bit : Nat} :
    (s.safeCause bit).mode = s.mode ∨ (s.safeCause bit).mode = modeSafe := by
  unfold State.safeCause
  extract_lets t
  have ht : t.mode = s.mode := State.fld_setFlag_other _ _ _ _ _ _ _ (.inl (by decide))
  split
  · exact .inl rfl
  · split
    · exact .inl ht
    · exact .inr (State.mode_enterMode_of_not_serving _ (by decide) (by decide))

theorem State.fails_safeCause (s : State) {bit : Nat} (hbit : bit < 32) : s.Fails (s.safeCause bit) := by
  obtain ⟨u, hnote, hcpm, hraised, _, hmoved⟩ := s.safeCause_noted hbit
  have hreg : ∀ o, o ∈ [Reg.CPM_STATUS, Reg.CPM_STICKY, Reg.CPM_PLL] → (s.safeCause bit).rd o = s.rd o := fun o ho => by
    have haside : ∀ o ∈ [Reg.CPM_STATUS, Reg.CPM_STICKY, Reg.CPM_PLL], ¬ signalReg o ∧ o ∉ roleRegs ∧ o ∉ causeRegs := by decide
    obtain ⟨hsignal, hroles, hcauses⟩ := haside o ho
    exact (hmoved.regs o hsignal hroles).trans (hnote o hcauses)
  have hsticky := hreg Reg.CPM_STICKY (by decide)
  have hpll := hreg Reg.CPM_PLL (by decide)
  refine ⟨hreg _ (by decide), fun i hi => (congrArg (bitAt · i) hsticky).trans hi, fun i _ hi => (congrArg (bitAt · i) hpll).trans hi,
    fun i _ hi => (congrArg (bitAt · i) hpll).trans hi, congrArg CpmState.lost (hmoved.cpm.trans hcpm), ?_, fun hr => ?_⟩
  · rw [← hraised]
    exact hmoved.raised
  · rcases s.mode_safeCause (bit := bit) with h | h <;> rw [h]
    · exact hr
    · decide

/-! ### A PLL fails -/

/-- Beside the loss itself, the blocks that a PLL clocks are told; PLL_T is a cause of SAFE as well. -/
theorem State.aside_pllFail (s : State) {p : Nat} (ht : p ≠ pllT) : (s.pllLost p).Aside True pllRegs (s.pllFail p) := by
  unfold State.pllFail
  extract_lets was t u
  rw [if_neg ht]
  refine .ite (.dropOutputs (.setFlag .refl (by decide) ..)) (.ite (.ite (.sclkLost .refl (by decide) (by decide))
    (.setFlag .refl (by decide) ..)) (.ite (.frame .refl rfl) (.ite (.pairLinkLost .refl) (.ite ?_ .refl))))
  exact State.Aside.foldl (.setFlag .refl (above_cal (by decide)) ..) (fun hv _ => hv.linkDown ..) _

theorem State.fails_pllFail (s : State) {p : Nat} (hp : p < 13) : (s.pllLost p).Fails (s.pllFail p) := by
  by_cases ht : p = pllT
  · subst ht
    unfold State.pllFail
    extract_lets was t u
    rw [if_pos rfl]
    have hu : t.Fails u := .of_aside (.ite (.raise (.setFlag .refl (by decide) ..) ..) .refl)
    exact hu.trans (u.fails_safeCause (by decide))
  · exact .of_aside (s.aside_pllFail ht)

theorem State.aside_pllLost (s : State) {p : Nat} (hp : p < 13) : s.Aside True pllRegs (s.pllLost p) :=
  State.Aside.pllLost .refl (by omega) (by decide) (by decide)

/-- A PLL that had not failed has its loss noted. -/
theorem State.pllLost_spec (s : State) {p : Nat} (hp : p < 13) : (s.pllLost p).flag Reg.CPM_PLL (16 + p) = true ∧
    (s.flag Reg.CPM_PLL (16 + p) = false → (s.pllLost p).flag Reg.CPM_PLL p = false ∧ (s.pllLost p).flag Reg.CPM_STICKY 1 = true ∧
      (⟨208, BitVec.ofNat 32 p, 0⟩ : Raise) ∈ (s.pllLost p).raised) := by
  unfold State.pllLost
  split
  · next h => exact ⟨h, fun hf => by rw [h] at hf; cases hf⟩
  · refine ⟨?_, fun _ => ⟨?_, State.flag_setFlag _ _ _ _ (by decide), List.mem_append_right _ List.mem_cons_self⟩⟩
    · exact (State.flag_setFlag_other _ _ _ _ _ _ (.inl (by decide))).trans (State.flag_setFlag _ _ _ _ (by omega))
    · exact (State.flag_setFlag_other _ _ _ _ _ _ (.inl (by decide))).trans
        ((State.flag_setFlag_other _ _ _ _ _ _ (.inr (by omega))).trans (State.flag_setFlag _ _ _ _ (by omega)))

theorem exec_pllLoss_fails {s : State} {p : Fin 13} (hused : s.pllUsed p.val = true) (hready : s.pllReady p.val = true)
    (hgood : s.flag Reg.CPM_PLL (16 + p.val) = false) :
    ∃ t, exec (.pllLoss p) s = .next t ∧ t.pllReady p.val = false ∧ t.flag Reg.CPM_PLL (16 + p.val) = true ∧
      t.flag Reg.CPM_STICKY 1 = true ∧ (⟨208, BitVec.ofNat 32 p.val, 0⟩ : Raise) ∈ t.raised := by
  have hfail := s.fails_pllFail p.isLt
  obtain ⟨hloss, hspec⟩ := s.pllLost_spec p.isLt
  obtain ⟨hlock, hsticky, hraised⟩ := hspec hgood
  exact ⟨_, congrArg Host.Outcome.next (if_pos ⟨hused, hready⟩), hfail.locks _ (by omega) hlock, hfail.losses _ (by omega) hloss,
    hfail.stickies _ hsticky, hfail.raised hraised⟩

/-! ### A PLL locks -/

theorem State.pllLocked_spec (s : State) {p : Nat} (hp : p < 13) : (s.pllLocked p).pllReady p = true ∧
    (s.pllLocked p).flag Reg.CPM_PLL (16 + p) = false ∧
    (s.flag Reg.CPM_PLL (16 + p) = true → (⟨209, BitVec.ofNat 32 p, 0⟩ : Raise) ∈ (s.pllLocked p).raised) ∧
    (s.pllLocked p).cpm = s.cpm := by
  have hlock : ((s.setFlag Reg.CPM_PLL p true).setFlag Reg.CPM_PLL (16 + p) false).pllReady p = true :=
    (State.flag_setFlag_other _ _ _ _ _ _ (.inr (by omega))).trans (State.flag_setFlag _ _ _ _ (by omega))
  have hloss : ((s.setFlag Reg.CPM_PLL p true).setFlag Reg.CPM_PLL (16 + p) false).flag Reg.CPM_PLL (16 + p) = false :=
    State.flag_setFlag _ _ _ _ (by omega)
  unfold State.pllLocked
  dsimp only
  split
  · exact ⟨hlock, hloss, fun _ => List.mem_append_right _ List.mem_cons_self, rfl⟩
  · next h => exact ⟨hlock, hloss, fun hf => absurd hf h, rfl⟩

theorem State.aside_pllLock (s : State) {p : Nat} (hp : p < 13) (hlevel : p ≠ 0 ∨ s.cpm.level = none) :
    (s.pllLocked p).Aside True [] (s.pllLock p) := by
  obtain ⟨_, _, _, hcpm⟩ := s.pllLocked_spec hp
  unfold State.pllLock
  extract_lets t
  change t.cpm = s.cpm at hcpm
  have hlast : t.Aside True [] (if p = pllT then t.setFlag Reg.CAL_STATUS 16 true
      else if p = pllF then (t.setFlag Reg.DRY_STATUS 16 false).dryRefresh
      else if p = pllG then (if t.pdUp PD_GNSS_TRK then t.setFlag Reg.GNS_STATUS 2 true else t)
      else if 6 ≤ p ∧ p ≤ 9 then (if t.pdUp (PD_SERDES (p - 6)) then t.setFlag (Reg.PRT_QUAD (p - 6)) 8 true else t)
      else t) :=
    .ite (.setFlag .refl (by decide) ..) (.ite (.dryRefresh (.setFlag .refl (by decide) ..)) (.ite (.ite (.setFlag .refl (by decide) ..) .refl)
      (.ite (.ite (.setFlag .refl (above_cal (by decide)) ..) .refl) .refl)))
  split
  · next h =>
    rw [hcpm, hlevel.resolve_left (not_not_intro h)]
    exact .refl
  · exact hlast

theorem exec_pllReady_locks {s : State} {p : Fin 13} (hused : s.pllUsed p.val = true) (href : s.refGood p.val = true)
    (hready : s.pllReady p.val = false) (hlevel : p.val ≠ 0 ∨ s.cpm.level = none) :
    ∃ t, exec (.pllReady p) s = .next t ∧ t.pllReady p.val = true ∧ t.flag Reg.CPM_PLL (16 + p.val) = false ∧
      (s.flag Reg.CPM_PLL (16 + p.val) = true → (⟨209, BitVec.ofNat 32 p.val, 0⟩ : Raise) ∈ t.raised) := by
  obtain ⟨hlock, hloss, hraised, _⟩ := s.pllLocked_spec p.isLt
  have haside := s.aside_pllLock p.isLt hlevel
  have hpll := haside.regs Reg.CPM_PLL (by decide) List.not_mem_nil
  exact ⟨_, congrArg Host.Outcome.next (if_pos ⟨hused, href, hready⟩), (congrArg (bitAt · p.val) hpll).trans hlock,
    (congrArg (bitAt · (16 + p.val)) hpll).trans hloss, fun hf => (haside.kept trivial).2 (hraised hf)⟩

/-! ### An input fails -/

/-- The loss of a PLL of the ports, the endpoint or the pair link leaves which of these PLLs are used. -/
structure State.QuadsKept (s t : State) : Prop where
  aside : s.Aside True pllRegs t
  quads : ∀ q, t.fld (Reg.PRT_QUAD q) 0 3 = s.fld (Reg.PRT_QUAD q) 0 3

theorem State.quadField_pllLost (s : State) (p q : Nat) : (s.pllLost p).fld (Reg.PRT_QUAD q) 0 3 = s.fld (Reg.PRT_QUAD q) 0 3 := by
  have hregs : s.keepsRegs (s.pllLost p) pllRegs := State.keepsRegs.pllLost .refl (by decide) (by decide)
  refine congrArg (bitsAt · 0 3) (hregs _ ?_)
  simp only [pllRegs, Reg.PRT_QUAD, Reg.CPM_PLL, Reg.CPM_STICKY, List.mem_cons, List.not_mem_nil, or_false]
  omega

theorem State.quadField_linkDown (s : State) (n q : Nat) : (s.linkDown n).fld (Reg.PRT_QUAD q) 0 3 = s.fld (Reg.PRT_QUAD q) 0 3 := by
  refine congrArg (bitsAt · 0 3) (s.keepsRegs_linkDown n _ ?_)
  simp only [Reg.PRT_QUAD, Reg.PRT_STATUS, Reg.PRT_STICKY, List.mem_cons, List.not_mem_nil, or_false]
  omega

theorem State.quadsKept_pllFail (s : State) {p : Nat} (hlo : 6 ≤ p) (hhi : p ≤ 11) : s.QuadsKept (s.pllFail p) := by
  refine ⟨(s.aside_pllLost (by omega)).trans (s.aside_pllFail (by simp only [pllT]; omega)), fun q => ?_⟩
  refine Eq.trans ?_ (s.quadField_pllLost p q)
  unfold State.pllFail
  extract_lets was t u
  rw [if_neg (by simp only [pllT]; omega), if_neg (by simp only [pllF]; omega), if_neg (by simp only [pllG]; omega)]
  split
  · rfl
  · split
    · refine State.fld_setFlag_other t _ _ _ _ _ _ (.inl ?_)
      simp only [Reg.PRT_QUAD, Reg.PAR_STATUS]
      omega
    · split
      · exact List.foldlRecOn (motive := fun v : State => v.fld (Reg.PRT_QUAD q) 0 3 = t.fld (Reg.PRT_QUAD q) 0 3) (List.range 4) _
          (State.fld_setFlag_other t _ _ _ _ _ _ (.inr (.inr (by decide)))) fun v hv i _ => (v.quadField_linkDown _ q).trans hv
      · rfl

/-- Which PLLs of ports, endpoint and pair link are used is told by the mode, the domains and the modes of the quads. -/
theorem State.pllUsed_congr {s t : State} (hmode : t.mode = s.mode) (hpd : ∀ d < 21, t.pd d = s.pd d)
    (hstage : t.cpm.stage = s.cpm.stage) (hquads : ∀ q, t.fld (Reg.PRT_QUAD q) 0 3 = s.fld (Reg.PRT_QUAD q) 0 3) {p : Nat}
    (hlo : 6 ≤ p) (hhi : p ≤ 11) : t.pllUsed p = s.pllUsed p := by
  have hpowered : ∀ d < 21, t.powered d = s.powered d := fun d hd => by
    rw [State.powered, State.powered, hmode, hpd d hd, State.upStage, hstage]
    rfl
  have hquad : ∀ q < 4, (t.powered (PD_SERDES q) && t.fld (Reg.PRT_QUAD q) 0 3 != 0) =
      (s.powered (PD_SERDES q) && s.fld (Reg.PRT_QUAD q) 0 3 != 0) := fun q hq => by
    rw [hpowered _ (by simp only [PD_SERDES]; omega), hquads q]
  have hcases : p = 6 ∨ p = 7 ∨ p = 8 ∨ p = 9 ∨ p = 10 ∨ p = 11 := by omega
  rcases hcases with rfl | rfl | rfl | rfl | rfl | rfl
  · exact hquad 0 (by decide)
  · exact hquad 1 (by decide)
  · exact hquad 2 (by decide)
  · exact hquad 3 (by decide)
  · exact hpowered PD_PCIE (by decide)
  · exact hpowered PD_PAIR (by decide)

theorem State.pllUsed_of_quadsKept {s t : State} (h : s.QuadsKept t) {p : Nat} (hlo : 6 ≤ p) (hhi : p ≤ 11) :
    t.pllUsed p = s.pllUsed p := by
  refine State.pllUsed_congr (congrArg (bitsAt · 0 4) (h.aside.regs Reg.GCTL_STATUS (by decide) (by decide)))
    (fun d hd => h.aside.pd hd ?_) (congrArg CpmState.stage h.aside.settings :) h.quads hlo hhi
  simp only [pllRegs, Reg.CPM_PD_CTL, Reg.CPM_PLL, Reg.CPM_STICKY, List.mem_cons, List.not_mem_nil, or_false]
  omega

/-- The PLLs of an input fail one after another. -/
def State.failPlls (s : State) (i : Nat) (ps : List Nat) : State :=
  ps.foldl (fun u p => if pllInput p = some i ∧ u.pllUsed p then u.pllFail p else u) s

theorem State.fails_failPlls (s : State) (i : Nat) {ps : List Nat} (hps : ∀ p ∈ ps, p < 13) : s.Fails (s.failPlls i ps) :=
  List.foldlRecOn (motive := fun t : State => s.Fails t) ps _ .refl fun v hv p hp => by
    split
    · exact hv.trans ((State.Fails.of_aside (v.aside_pllLost (hps p hp))).trans (v.fails_pllFail (hps p hp)))
    · exact hv

/-- The PLLs of inputs other than the first are those of the ports, the endpoint and the pair link. -/
theorem pllInput_range {p i : Nat} (hi : i ≠ 0) (h : pllInput p = some i) : 6 ≤ p ∧ p ≤ 11 := by
  unfold pllInput at h
  split at h <;> simp_all

theorem State.loss_failPlls {s : State} {i : Nat} (hi : i ≠ 0) {ps : List Nat} {p : Nat} (hinput : pllInput p = some i)
    (h : (p ∈ ps ∧ s.pllUsed p = true) ∨ s.flag Reg.CPM_PLL (16 + p) = true) :
    (s.failPlls i ps).flag Reg.CPM_PLL (16 + p) = true := by
  obtain ⟨hlo, hhi⟩ := pllInput_range hi hinput
  induction ps generalizing s with
  | nil => exact h.resolve_left fun h => List.not_mem_nil h.1
  | cons j js ih =>
    let t := if pllInput j = some i ∧ s.pllUsed j then s.pllFail j else s
    refine ih (s := t) ?_
    change _ ∨ (if pllInput j = some i ∧ s.pllUsed j then s.pllFail j else s).flag _ _ = true
    rcases h with ⟨hmem, hused⟩ | hloss
    · by_cases hj : p = j
      · subst hj
        right
        rw [if_pos ⟨hinput, hused⟩]
        exact (s.fails_pllFail (by omega)).losses _ (by omega) (s.pllLost_spec (by omega)).1
      · refine .inl ⟨(List.mem_cons.mp hmem).resolve_left hj, ?_⟩
        change (if pllInput j = some i ∧ s.pllUsed j then s.pllFail j else s).pllUsed p = true
        split
        · next hfail =>
          obtain ⟨hjlo, hjhi⟩ := pllInput_range hi hfail.1
          exact (State.pllUsed_of_quadsKept (s.quadsKept_pllFail hjlo hjhi) hlo hhi).trans hused
        · exact hused
    · right
      split
      · next hfail =>
        obtain ⟨hjlo, hjhi⟩ := pllInput_range hi hfail.1
        exact (s.quadsKept_pllFail hjlo hjhi).aside.losses _ (by omega) hloss
      · exact hloss

/-- The state in which the loss of an input is noted, before its PLLs fail. -/
def State.inputNoted (s : State) (i : Nat) : State :=
  let t : State := { s.setFlag Reg.CPM_STATUS (okBit i) false with cpm := { s.cpm with lost := s.cpm.lost ++ [i] } }
  let t := t.raise 210 (BitVec.ofNat 32 i)
  if i = 0 then (t.setFlag Reg.CPM_STATUS 31 true).cpmSticky 0 else t.cpmSticky 2

theorem State.inputNoted_spec (s : State) (i : Fin 4) : (s.inputNoted i.val).cpm = { s.cpm with lost := s.cpm.lost ++ [i.val] } ∧
    (⟨210, BitVec.ofNat 32 i.val, 0⟩ : Raise) ∈ (s.inputNoted i.val).raised ∧
    (s.inputNoted i.val).flag Reg.CPM_STATUS (okBit i.val) = false ∧
    s.keepsRegs (s.inputNoted i.val) [Reg.CPM_STATUS, Reg.CPM_STICKY] := by
  have hbits : ∀ i : Fin 4, okBit i.val < 32 ∧ okBit i.val ≠ 31 := by decide
  obtain ⟨hbit, hhold⟩ := hbits i
  have hok : (s.setFlag Reg.CPM_STATUS (okBit i.val) false).flag Reg.CPM_STATUS (okBit i.val) = false := State.flag_setFlag _ _ _ _ hbit
  have hset : s.keepsRegs (s.setFlag Reg.CPM_STATUS (okBit i.val) false) [Reg.CPM_STATUS, Reg.CPM_STICKY] :=
    .setFlag (o := Reg.CPM_STATUS) .refl
  unfold State.inputNoted
  dsimp only
  split
  · refine ⟨rfl, List.mem_append_right _ List.mem_cons_self, ?_,
      .setFlag (o := Reg.CPM_STICKY) (.setFlag (o := Reg.CPM_STATUS) (.raise (.of_regs hset)))⟩
    exact (State.flag_setFlag_other _ _ _ _ _ _ (.inl (by decide))).trans ((State.flag_setFlag_other _ _ _ _ _ _ (.inr hhold)).trans hok)
  · refine ⟨rfl, List.mem_append_right _ List.mem_cons_self, ?_, .setFlag (o := Reg.CPM_STICKY) (.raise (.of_regs hset))⟩
    exact (State.flag_setFlag_other _ _ _ _ _ _ (.inl (by decide))).trans hok

theorem State.inputNoted_sticky (s : State) (i : Nat) : (i ≠ 0 → (s.inputNoted i).flag Reg.CPM_STICKY 2 = true) ∧
    (i = 0 → (s.inputNoted i).flag Reg.CPM_STATUS 31 = true ∧ (s.inputNoted i).flag Reg.CPM_STICKY 0 = true) := by
  unfold State.inputNoted
  dsimp only
  refine ⟨fun hi => ?_, fun hi => ?_⟩
  · rw [if_neg hi]
    exact State.flag_setFlag _ _ _ _ (by decide)
  · rw [if_pos hi]
    exact ⟨(State.flag_setFlag_other _ _ _ _ _ _ (.inl (by decide))).trans (State.flag_setFlag _ _ _ _ (by decide)),
      State.flag_setFlag _ _ _ _ (by decide)⟩

theorem State.pllUsed_inputNoted (s : State) (i : Fin 4) {p : Nat} (hlo : 6 ≤ p) (hhi : p ≤ 11) :
    (s.inputNoted i.val).pllUsed p = s.pllUsed p := by
  obtain ⟨hcpm, _, _, hregs⟩ := s.inputNoted_spec i
  have haside : ∀ o, o ≠ Reg.CPM_STATUS ∧ o ≠ Reg.CPM_STICKY → (s.inputNoted i.val).rd o = s.rd o := fun o ho =>
    hregs o (by simpa using ho)
  refine State.pllUsed_congr (congrArg (bitsAt · 0 4) (haside Reg.GCTL_STATUS (by decide)))
    (fun d hd => congrArg (bitsAt · 24 3) (haside _ ?_)) (congrArg CpmState.stage hcpm :)
    (fun q => congrArg (bitsAt · 0 3) (haside _ ?_)) hlo hhi
  · simp only [Reg.CPM_PD_CTL, Reg.CPM_STATUS, Reg.CPM_STICKY]
    omega
  · simp only [Reg.PRT_QUAD, Reg.CPM_STATUS, Reg.CPM_STICKY]
    omega

theorem exec_inputLoss_fails {s : State} {i : Fin 4} (hmon : s.monitors = true) (hok : s.flag Reg.CPM_STATUS (okBit i.val) = true) :
    ∃ t, exec (.inputLoss i) s = .next t ∧ i.val ∈ t.cpm.lost ∧ (⟨210, BitVec.ofNat 32 i.val, 0⟩ : Raise) ∈ t.raised ∧
      t.flag Reg.CPM_STATUS (okBit i.val) = false ∧
      (∀ p : Fin 13, i.val ≠ 0 → pllInput p.val = some i.val → s.pllUsed p.val = true → t.flag Reg.CPM_PLL (16 + p.val) = true) ∧
      (i.val ≠ 0 → t.flag Reg.CPM_STICKY 2 = true) ∧
      (i.val = 0 → t.flag Reg.CPM_STATUS 31 = true ∧ t.flag Reg.CPM_STICKY 0 = true ∧
        (s.mode ≠ modeReset → t.flag Reg.GCTL_CAUSE causeLo = true)) := by
  have hexec : exec (.inputLoss i) s = .next (if i.val = 0 then ((s.inputNoted i.val).failPlls i.val (List.range 13)).safeCause causeLo
      else (s.inputNoted i.val).failPlls i.val (List.range 13)) :=
    congrArg Host.Outcome.next ((if_neg (by simp [hmon, hok])).trans rfl)
  obtain ⟨hcpm, hraised, hbit, hregs⟩ := s.inputNoted_spec i
  obtain ⟨hloss, hlo⟩ := s.inputNoted_sticky i.val
  have hused : ∀ p, 6 ≤ p → p ≤ 11 → (s.inputNoted i.val).pllUsed p = s.pllUsed p := fun p h h' => s.pllUsed_inputNoted i h h'
  have hon : s.mode ≠ modeOff := by
    intro h
    simp [State.monitors, h] at hmon
  generalize s.inputNoted i.val = u at hexec hcpm hraised hbit hregs hloss hlo hused
  have hmode : u.mode = s.mode := congrArg (bitsAt · 0 4) (hregs Reg.GCTL_STATUS (by decide))
  have hplls := u.fails_failPlls i.val (ps := List.range 13) fun p hp => List.mem_range.mp hp
  have hlast : u.Fails (if i.val = 0 then (u.failPlls i.val (List.range 13)).safeCause causeLo else u.failPlls i.val (List.range 13)) := by
    split
    · exact hplls.trans (State.fails_safeCause _ (by decide))
    · exact hplls
  refine ⟨_, hexec, ?_, hlast.raised hraised, (congrArg (bitAt · (okBit i.val)) hlast.status).trans hbit, fun p hi hin hu => ?_,
    fun hi => hlast.stickies _ (hloss hi), fun hi => ⟨(congrArg (bitAt · 31) hlast.status).trans (hlo hi).1,
      hlast.stickies _ (hlo hi).2, fun hr => ?_⟩⟩
  · rw [hlast.lost, hcpm]
    exact List.mem_append_right _ List.mem_cons_self
  · rw [if_neg hi]
    obtain ⟨hplo, hphi⟩ := pllInput_range hi hin
    exact State.loss_failPlls hi hin (.inl ⟨List.mem_range.mpr p.isLt, (hused _ hplo hphi).trans hu⟩)
  · rw [if_pos hi]
    obtain ⟨hrun, hrun'⟩ := hplls.runs (by rw [hmode]; exact ⟨hon, hr⟩)
    obtain ⟨v, _, _, _, hcause, hmoved⟩ := (u.failPlls i.val (List.range 13)).safeCause_noted (bit := causeLo) (by decide)
    exact (hmoved.flag (by decide) (by decide) _).trans (hcause hrun hrun')

/-! ### An input returns -/

/-- The state in which the return of an input is noted, before its event. -/
def State.inputBack (s : State) (i : Nat) : State :=
  let t : State := { s with cpm := { s.cpm with lost := s.cpm.lost.filter (· != i) } }
  let t := t.setFlag Reg.CPM_STATUS (okBit i) true
  if i = 0 then t.setFlag Reg.CPM_STATUS 31 false else t

theorem State.inputBack_spec (s : State) (i : Fin 4) : (s.inputBack i.val).flag Reg.CPM_STATUS (okBit i.val) = true ∧
    i.val ∉ (s.inputBack i.val).cpm.lost ∧ (s.inputBack i.val).raised = s.raised ∧
    (i.val = 0 → (s.inputBack i.val).flag Reg.CPM_STATUS 31 = false) ∧ s.keepsRegs (s.inputBack i.val) [Reg.CPM_STATUS] := by
  have hbits : ∀ i : Fin 4, okBit i.val < 32 ∧ okBit i.val ≠ 31 := by decide
  obtain ⟨hbit, hhold⟩ := hbits i
  have hnot := notMem_filter_ne s.cpm.lost i.val
  unfold State.inputBack
  extract_lets _ t u
  have hlost : s.keepsRegs t [Reg.CPM_STATUS] := .of_regs .refl
  have hkeep : s.keepsRegs u [Reg.CPM_STATUS] := hlost.setFlag (o := Reg.CPM_STATUS) List.mem_cons_self
  have hu : u.flag Reg.CPM_STATUS (okBit i.val) = true := State.flag_setFlag _ _ _ _ hbit
  split
  · exact ⟨(State.flag_setFlag_other _ _ _ _ _ _ (.inr hhold)).trans hu, hnot, rfl, fun _ => State.flag_setFlag _ _ _ _ (by decide),
      .setFlag (o := Reg.CPM_STATUS) hkeep⟩
  · next h => exact ⟨hu, hnot, rfl, fun h' => absurd h' h, hkeep⟩

theorem exec_inputOk_returns {s : State} {i : Fin 4} (hmon : s.monitors = true) (hlost : s.flag Reg.CPM_STATUS (okBit i.val) = false) :
    ∃ t, exec (.inputOk i) s = .next t ∧ t.flag Reg.CPM_STATUS (okBit i.val) = true ∧ i.val ∉ t.cpm.lost ∧
      t.raised = s.raised ++ (if i.val ∈ s.cpm.lost then [⟨211, BitVec.ofNat 32 i.val, 0⟩] else []) ∧
      (i.val = 0 → t.flag Reg.CPM_STATUS 31 = false) ∧ s.keepsRegs t [Reg.CPM_STATUS] := by
  have hexec : exec (.inputOk i) s = .next (if s.cpm.lost.contains i.val then (s.inputBack i.val).raise 211 (BitVec.ofNat 32 i.val)
      else s.inputBack i.val) := congrArg Host.Outcome.next ((if_neg (by simp [hmon, hlost])).trans rfl)
  obtain ⟨hok, hnot, hraised, hhold, hregs⟩ := s.inputBack_spec i
  generalize s.inputBack i.val = v at hexec hok hnot hraised hhold hregs
  by_cases hmem : i.val ∈ s.cpm.lost
  · rw [if_pos (List.contains_iff_mem.mpr hmem)] at hexec
    exact ⟨_, hexec, hok, hnot, by rw [if_pos hmem, ← hraised]; rfl, hhold, .raise hregs⟩
  · rw [if_neg (by simpa using hmem)] at hexec
    exact ⟨_, hexec, hok, hnot, by rw [if_neg hmem, hraised, List.append_nil], hhold, hregs⟩

end Sys2Proof.Machine
end

section
/-!
The obligation of inputs, clocks and domains, from the lemma of each clause.
-/
namespace Sys2Proof.Machine

/-- Settles O53: inputs and PLLs, the clock multiplexers, gates, enables and disables, the handshake and its limit, OFF, the way
up, resets and crossing queues, clause by clause. -/
theorem inputsClocksAndDomains : Obligations.InputsClocksAndDomains := by
  unfold Obligations.InputsClocksAndDomains
  exact ⟨fun _ _ => exec_inputLoss_fails, fun _ _ => exec_inputOk_returns, fun _ _ => exec_pllReady_locks,
    fun _ _ => exec_pllLoss_fails, fun _ _ _ => exec_clockSwitch_crypto, fun _ _ _ => exec_clockSwitch_foreignBit,
    fun _ _ _ => exec_clockSwitch_host, fun _ _ _ => exec_clockSwitch_foreign, fun _ _ _ _ => exec_clockGate_gates,
    fun _ _ _ _ => exec_clockGate_refused, fun _ _ _ => exec_gateClose_closes, fun _ _ _ => exec_clockUngate_runs,
    fun _ _ _ => exec_pdEnable_powersUp, fun _ _ _ => exec_pdEnable_latched, fun _ _ _ => exec_pdDisable_requests,
    fun _ _ _ => exec_pdForceDisable_again, fun _ _ _ => exec_poweringUp_owes, fun _ _ _ => exec_fixed_refused,
    fun _ _ _ => exec_pdEnable_foreign, fun _ _ => exec_pdHandshakeAnswer_refuses, fun _ _ => exec_pdHandshakeAnswer_waits,
    fun _ _ => exec_pdHandshakeAnswer_shutsDown, fun _ _ => exec_pdDelayLimit_ends, fun _ _ => exec_pdOff_off,
    fun _ _ => exec_pdSlotStart_starts, fun _ _ _ => exec_pdSlotStart_waits, fun _ _ => exec_pdResetRelease_releases,
    fun _ _ _ => exec_pdReady_readies, fun _ _ _ => exec_pdReset_resets, fun _ _ _ => exec_pdReset_refused,
    fun _ _ _ => exec_pdResetEnd_ends, fun _ _ => exec_xqResync_runs⟩

end Sys2Proof.Machine
end
